-- ==== Sys2Proof/Word.lean ====
section
/-! DEFINITION. The words of the model: bytes, byte strings and the queue word.
The manual's host-port values are little-endian byte strings (R8). -/

namespace Sys2Proof

/-- One byte. -/
abbrev Byte := BitVec 8

/-- A byte string in transmission order. -/
abbrev Bytes := List Byte

/-- A 64-bit queue word (R401, Table 14.2). -/
abbrev QWord := BitVec 64

/-- A device time stamp as one number of units of 2⁻¹⁶ ns (R12, R13); the 96-bit layout of Table 0.4 is
formed on output. -/
abbrev Dts := Nat

/-- A time interval in units of 2⁻¹⁶ ns (R67): signed. -/
abbrev Interval := Int

end Sys2Proof
end

