-- ==== Sys2Proof/Operand.lean ====
section
/-! DEFINITION. The operand types of the commands of the block: what a transfer, a frame, a report or an internal
event carries. One inductive, Instr (Syntax.lean), is the command set itself. -/

namespace Sys2Proof

/-- The two packet versions; their tags are separate spaces (R50). -/
inductive Ver where
  | v1
  | v2
deriving DecidableEq, Repr, Inhabited

/-- The name of a command in flight: version and tag, which no two commands in flight share (R50). -/
structure CmdKey where
  ver : Ver
  tag : Nat
deriving DecidableEq, Repr, Inhabited

/-- The fault classes of Table 15.1. -/
inductive FaultClass where
  | ce
  | uc
  | fa
deriving DecidableEq, Repr, Inhabited

/-- What a report tells Patrol: a detection, or that a retry completed without a new detection (R432). -/
inductive ReportKind where
  | detection
  | retryClean
deriving DecidableEq, Repr, Inhabited

/-- A checker's report (R421, R422, R423): the element that failed, its class, and when the detector fired. -/
structure Report where
  /-- the 12-bit source number of R422 -/
  source : Nat
  /-- the UNIT field of R423 -/
  unit : Nat
  cls : FaultClass
  /-- the level of the element, 2 to 7 (Table 15.4) -/
  level : Nat
  /-- the DETAIL field of R423 -/
  detail : Nat
  /-- the detection instant -/
  at_ : Dts
  kind : ReportKind
  /-- the detection was injected (R468) -/
  injected : Bool
deriving DecidableEq, Repr, Inhabited

/-- The PTP messages of Table 4.7. -/
inductive PtpKind where
  | sync
  | followUp
  | delayReq
  | delayResp
  | pdelayReq
  | pdelayResp
  | pdelayRespFollowUp
  | announce
  | signaling
  | management
deriving DecidableEq, Repr, Inhabited

/-- The grandmaster data an Announce carries, with its sender (R112, R115, Table 4.8). -/
structure GmData where
  identity : Nat
  priority1 : Nat
  clockClass : Nat
  accuracy : Nat
  variance : Nat
  priority2 : Nat
  stepsRemoved : Nat
  timeSource : Nat
  sender : Nat
deriving DecidableEq, Repr, Inhabited

/-- Where a PTP frame goes: the destination MAC address of a Layer 2 frame, or the destination IP address and UDP port of a
datagram, beside the MAC address (R117). -/
structure PtpDest where
  mac : Nat
  ip : Nat
  udpPort : Nat
deriving DecidableEq, Repr, Inhabited

/-- A received frame at the MII: when it crossed, how long it is, its VLAN tag, and how many bytes have left the receive
buffer since the frame before it (R29, R99, R102). -/
structure FrameHead where
  /-- the value of COUNT at which the first bit after the start-of-frame delimiter crosses the MII boundary -/
  at_ : Nat
  length : Nat
  /-- VID of its 802.1Q tag -/
  vid : Option Nat
  drained : Nat
deriving DecidableEq, Repr, Inhabited

/-- A PTP message as its fields, received or sent (R108, R116 to R119). -/
structure PtpMsg where
  kind : PtpKind
  /-- versionPTP major -/
  version : Nat
  domain : Nat
  /-- 0 Layer 2, 1 UDP over IPv4, 2 UDP over IPv6 (Table 4.5) -/
  transport : Nat
  dest : PtpDest
  seqId : Nat
  twoStep : Bool
  /-- originTimestamp, preciseOriginTimestamp, receiveTimestamp, requestReceiptTimestamp or responseOriginTimestamp -/
  timestamp : Dts
  /-- correctionField, units of 2⁻¹⁶ ns -/
  correction : Int
  /-- the sender's clockIdentity and portNumber -/
  source : Nat × Nat
  /-- requestingPortIdentity of a response -/
  requester : Nat × Nat
  gm : Option GmData
  /-- 802.1AS message interval request TLV: log₂ of the sync, announce and link-delay intervals -/
  intervals : Option (Int × Int × Int)
  /-- 802.1AS Follow_Up information: cumulative rate offset, units of 2⁻⁴⁰ -/
  rateOffset : Int
  /-- 802.1AS path trace TLV -/
  pathTrace : List Nat
deriving DecidableEq, Repr, Inhabited

/-- What the start-up found that only the die can know (Table 19.1, R526): the self-tests, the trainings, the
injections, and how long it took. -/
structure BootReport where
  /-- the two fuse reads differ -/
  fuseMismatch : Bool
  /-- units whose self-test failed: source number and UNIT (R253, R259) -/
  failedUnits : List (Nat × Nat)
  /-- sources of checkers that failed their injection (R468) -/
  failedCheckers : List Nat
  /-- LPDDR channels that failed training -/
  failedChannels : List Nat
  /-- journal records whose CRC fails, after a re-read too: journal and SEQ (R534) -/
  badRecords : List (Nat × Nat)
deriving DecidableEq, Repr, Inhabited

/-- Frames of the six ports that no other row takes (R100, Table 4.3). -/
inductive OtherFrame where
  /-- the frame check sequence fails -/
  | badFcs
  /-- a good frame that no row of Table 4.3 accepts, or a PTP frame the port discards under R117 -/
  | unaccepted
  | ptpRefused
deriving DecidableEq, Repr, Inhabited

/-- A UDP datagram (R135, R136). -/
structure Datagram where
  port : Nat
  /-- 4 or 6 -/
  ip : Nat
  srcIp : Nat
  udpPort : Nat
  fragmented : Bool
  payload : Bytes
  head : FrameHead
deriving DecidableEq, Repr, Inhabited

/-- A packet of a CSI-2 receiver within a frame (R126): pixel codes of an image line, the bytes of embedded data, or neither
in a line-start (data type 0x02) or line-end (0x03) short packet. -/
structure CsiPacket where
  vc : Nat
  dataType : Nat
  pixels : List Nat
  embedded : Bytes
  /-- the payload checksum holds, the header's error code holds, and it corrected a bit -/
  crcOk : Bool
  headerOk : Bool
  corrected : Bool
deriving DecidableEq, Repr, Inhabited

/-- A CAN message (R150). -/
structure CanMessage where
  /-- 0 Classical CAN, 1 CAN FD, 2 CAN XL -/
  kind : Nat
  id : Nat
  /-- virtual CAN network identifier of a CAN XL frame -/
  vcid : Nat
  extended : Bool
  data : Bytes
  stamp : Dts
deriving DecidableEq, Repr, Inhabited

/-- An Atide frame as received (R489, R490). -/
structure AtideFrame where
  port : Nat
  head : FrameHead
  /-- source MAC address -/
  mac : Nat
  header : Bytes
  payload : Bytes
deriving DecidableEq, Repr, Inhabited

/-- What a frame that leaves a port carries (R100). -/
inductive EthPayload where
  /-- a PTP message, with its UDP checksum where it travels in UDP (R118) -/
  | ptp (msg : PtpMsg) (udpChecksum : Option Nat)
  /-- an Atide header and payload (R489) -/
  | atide (bytes : Bytes)
  /-- a safe-state message in UDP over IPv4: ports, addresses and payload (R459) -/
  | safeUdp (srcPort destPort srcIp destIp : Nat) (payload : Bytes)
  /-- the answer to an ARP request (4) or a neighbour solicitation (6) for an address of the port -/
  | answer (ip address : Nat)
deriving DecidableEq, Repr, Inhabited

/-- A frame as it leaves: its addresses, its 802.1Q tag as PCP and VID, its payload and its frame check sequence. -/
structure EthFrame where
  dest : Nat
  source : Nat
  tag : Option (Nat × Nat)
  what : EthPayload
  fcs : Nat
deriving DecidableEq, Repr, Inhabited

/-- How a solver job's run on the silicon ended, as the lanes report it (R346, R352, R363). -/
inductive JobOutcome where
  | clean
  /-- lockstep outputs differ -/
  | mismatch
  /-- a residue check failed on this lane -/
  | residue (lane : Nat)
deriving DecidableEq, Repr, Inhabited

/-- Where a tensor lies: in the tile's activation SRAM, in LPDDR where it is spilled, or among the weight chunks that streamed
in for the step. -/
inductive Place where
  | sram
  | lpddr
  | weights
deriving DecidableEq, Repr, Inhabited

/-- A run of elements of a tensor's row (R265, R267): the place, the address the row begins at, the elements of the whole row,
the first element of the run and how many. -/
structure Segment where
  place : Place
  at_ : Nat
  len : Nat
  first : Nat
  count : Nat
deriving DecidableEq, Repr, Inhabited

/-- An operation of a lane of the vector unit on values by their numbers: FP32 codes, or INT32 codes where `int` says so. -/
inductive VecOp where
  | const (code : Nat)
  | add (int : Bool) (a b : Nat)
  | sub (int : Bool) (a b : Nat)
  | mul (int : Bool) (a b : Nat)
  | fma (int : Bool) (a b c : Nat)
  | min (int : Bool) (a b : Nat)
  | max (int : Bool) (a b : Nat)
  /-- 1 where a is less than b, else 0 -/
  | less (int : Bool) (a b : Nat)
  /-- b where a is not 0, else c -/
  | select (a b c : Nat)
  | and (a b : Nat)
  | or (a b : Nat)
  | xor (a b : Nat)
  | shiftLeft (a n : Nat)
  | shiftRight (a n : Nat)
  /-- FP32 to INT32 by ROUND, and back -/
  | toInt (round a : Nat)
  | ofInt (a : Nat)
  | table (n a : Nat)
  /-- reductions across lanes -/
  | sum (l : List Nat)
  | top (l : List Nat)
  | bottom (l : List Nat)
deriving DecidableEq, Repr, Inhabited

/-- Where the accumulators of an output row come from (R270, R278, R300). -/
inductive RowSource where
  /-- a product: A along K, and per output column W along K -/
  | product (a : List Segment) (w : List (List Segment))
  /-- the landing sums of a cell of the patch, for a number of channels -/
  | landing (cell outs : Nat)
  /-- a vector-only layer: values 0, 1, … are the inputs as FP32, each operation adds one, and the outputs are picked; INT32
  where `int` says so -/
  | vector (inputs : List Segment) (ops : List VecOp) (int : Bool) (outs : List Nat)
deriving DecidableEq, Repr, Inhabited

/-- One output row of a step: the address its tensor's row begins at, its first output channel, where its accumulators come
from, and the residual tensor's format and elements. -/
structure StepRow where
  at_ : Nat
  channel : Nat
  source : RowSource
  residualFormat : Nat
  residual : List Segment
deriving DecidableEq, Repr, Inhabited

/-- Rows of a tensor: the place, the address of row 0 and the bytes from one row to the next. -/
structure RowsAt where
  place : Place
  at_ : Nat
  stride : Nat
deriving DecidableEq, Repr, Inhabited

/-- A block of a sparse layer, of a collapse or of a densify (R304, R306): its first output row or cell and how many, where
the input rows, the halo rows and the output rows lie, and for a sparse convolution the weight tensor of each offset and the
residual rows with their format. -/
structure SparseBlock where
  first : Nat
  count : Nat
  own : RowsAt
  halo : RowsAt
  out : RowsAt
  weights : List Nat
  residualFormat : Nat
  residual : RowsAt
deriving DecidableEq, Repr, Inhabited

/-- What a step of a sequencer does (R240, R304, R306, R308). -/
inductive StepWork where
  | rows (rows : List StepRow)
  | sparse (block : SparseBlock)
  | collapse (block : SparseBlock)
  | densify (block : SparseBlock)
deriving DecidableEq, Repr, Inhabited

/-- What the gather/scatter unit brings into a tile (R282, R293, R303). -/
inductive StepGather where
  /-- elements of a strip's quad row: the strip's number, the row, the first column and how many, and where they go -/
  | camera (strip row column count at_ : Nat)
  /-- a voxel entry of the slot's VOXEL_LIST -/
  | voxel (row at_ : Nat)
deriving DecidableEq, Repr, Inhabited

/-- A step of a tile's sequencer as it ends (R240, R466). The encoding of steps is private to the hardware; this is what
the step did. -/
structure StepEnd where
  /-- the step's index in its list, and the steps it names as its predecessors; none names none -/
  step : Nat
  predecessors : List Nat
  /-- the layer record it belongs to -/
  layer : Option Nat
  /-- tables loaded at the boundary before it: number in the table store and index in TABLES (R283) -/
  tables : List (Nat × Nat)
  /-- the weight chunks that streamed in for it, in order: offset in WEIGHTS and bytes (R239) -/
  chunks : List (Nat × Nat)
  gathers : List StepGather
  work : StepWork
  /-- faults of the silicon: product row, output column, and what its accumulator is off by (integers) or holds (FP32 code) -/
  upset : List (Nat × Nat × Int)
  /-- the vector lane group, 0 to 3, whose residue check failed; a row sum of the fill logic differs (Table 9.9) -/
  residue : Option Nat
  fillSum : Bool
  /-- the step is the frame's last image step: column heads start -/
  columnHeads : Bool
  /-- cycles of 320 MHz it ran, waits excluded -/
  cycles : Nat
deriving DecidableEq, Repr, Inhabited

/-- A halo strip at a halo point (R245, R246): the layer that reads it, the neighbour it comes from, 0 to 7, where its cells
lie in the sender's SRAM, row by row, and where the receiver's halo ring holds the strip of each neighbour. -/
structure HaloStrip where
  layer : Nat
  neighbour : Nat
  cells : List Nat
  ring : List Nat
deriving DecidableEq, Repr, Inhabited

/-- A feature column at the Lift router (R296, R297): its pass, its index u, its INT8 features and its bins' weights; a residue
check of the router's projection path failed on it (R318). -/
structure LiftColumn where
  pass : Nat
  column : Nat
  features : List Int
  weights : List Int
  residue : Bool
deriving DecidableEq, Repr, Inhabited

/-- A Lift packet at a tile (R298, R299). -/
structure LiftPacket where
  slot : Nat
deriving DecidableEq, Repr, Inhabited

/-- What a source observes of a patch in the occupancy maps (R189): its number, the cells it observes and those it calls
occupied. -/
structure OccMap where
  source : Nat
  observed : List Nat
  occupied : List Nat
deriving DecidableEq, Repr, Inhabited

/-- What a slot's heads left: the channels of DETECTIONS per cell (Table 13.2) and the SCORE of cells just across the patch edge,
as codes of the head layer's OUT_FORMAT with their shared scales (R281), the occupancy maps, and the codes of the export tensor
per cell. -/
structure HeadsOutput where
  detections : List (List (Nat × Nat))
  halo : List (Int × Int × Nat × Nat)
  maps : List OccMap
  tensor : List (List Nat)
deriving DecidableEq, Repr, Inhabited

/-- A remote gather (R305, R311, R312): the layer it serves, the patch it addresses as an offset in patches, the segment's byte
address in the serving tile, and where it goes in the asking tile. -/
structure Gather where
  layer : Nat
  dx : Int
  dy : Int
  address : Nat
  to_ : Nat
deriving DecidableEq, Repr, Inhabited

end Sys2Proof
end

