-- ==== Sys2Proof/Syntax.lean ====
section
/-! DEFINITION. The command set: one constructor per row of the table of operations and events. -/

namespace Sys2Proof

/-- The commands of the block, in the order of the table. A command carries what arrives with it: a transfer's
phases, a frame's fields, a measurement. A row of an opcode carries the name of its command in flight. -/
inductive Instr where
  /-- R34: Host instruction 0x9F returns DEVICE_ID then REVISION, repeated for as long as the data phase lasts. -/
  | readId (second : Nat) (len : Nat)
  /-- R35: Host instruction 0x38 switches the port to 4S-4S-4S at the rising edge of HOST_CS_N and resets both latencies to that mode's defaults. -/
  | enter4s (second : Nat)
  /-- R35: Host instruction 0xE8 switches the port to 8S-8S-8S at the rising edge of HOST_CS_N and resets both latencies to that mode's defaults. -/
  | enter8s (second : Nat)
  /-- R35: Host instruction 0xE9 switches the port to 8D-8D-8D at the rising edge of HOST_CS_N and resets both latencies to that mode's defaults. -/
  | enter8d (second : Nat)
  /-- R35: Host instruction 0xFF, including the all-high mode-recovery sequence, returns the port to 1S-1S-1S. -/
  | return1s (second : Nat)
  /-- R37: A READ of the reply, result or event window consumes whole queue words, or returns words with VALID clear and a REASON. -/
  | readQueueWindow (code : Nat) (second : Nat) (addr : Nat) (len : Nat)
  /-- R43: A WRITE to the command window appends queue words to the command intake; partial and misaligned words are discarded and counted. -/
  | writeCommandWindow (second : Nat) (addr : Nat) (data : Bytes)
  /-- R39: A WRITE to the staging aperture stores bytes in LPDDR, except bytes in a blocked range, which are ignored and counted in APERTURE_BLOCKED. -/
  | writeStagingAperture (second : Nat) (addr : Nat) (data : Bytes)
  /-- R42: A write to PORT_MODE sets the read and aperture latencies, raised to the current mode's minimum, at the end of the transfer. -/
  | writePortMode (second : Nat) (addr : Nat) (data : Bytes)
  /-- R41: A write of 1 to a NOTICE_CAUSE bit clears that notice cause. -/
  | writeNoticeCause (second : Nat) (addr : Nat) (data : Bytes)
  /-- R41: A write to NOTICE_MASK takes effect; a write to a non-writable status byte, a read-only window or an unmapped address is ignored, and the latter two are counted in BAD_INSTRUCTION. -/
  | writeOtherRegister (second : Nat) (addr : Nat) (data : Bytes)
  /-- R50: Once the reply queue has room for a reply, a taken-up packet is checked in order and either refused with a status or entered in flight. -/
  | commandAcceptance
  /-- R52: An accepted command waiting while 256 commands are in flight enters flight, in take-up order, when one of them gets its final reply. -/
  | commandEnterFlight
  /-- R53: A command in flight starts once its engines, the ordering rules and reply space allow, after the deadline, security, supply, fault and resource checks. -/
  | commandStart (k : CmdKey)
  /-- R54: The work of a command marked L ends and its final reply, with FINAL set, is written. -/
  | longCommandComplete (k : CmdKey)
  /-- R575: Returns part, variant, revisions, firmware version and plan identifiers. -/
  | getInfo (k : CmdKey)
  /-- R576: Returns device state, posture, flags, time state and epoch. -/
  | getState (k : CmdKey)
  /-- R504: Moves the device from SETUP to RUN in the posture given, after the checks of R334. -/
  | enterRun (k : CmdKey)
  /-- R577: Moves the device from RUN to SETUP, deleting tracks and event states. -/
  | enterSetup (k : CmdKey)
  /-- R504: Changes the posture to Drive, Sentry or Standby. -/
  | setPosture (k : CmdKey)
  /-- R445: Block-resets one admitted subsystem and replies after its reset shadow closes. -/
  | resetSubsystem (k : CmdKey)
  /-- R577: Replies, then schedules a device reset 1 ms after the reply enters the reply queue. -/
  | resetDevice (k : CmdKey)
  /-- R51: Returns its parameters unchanged. -/
  | echo (k : CmdKey)
  /-- R530: Commits the configuration and AUTO_RUN to the configuration journal and to retention SRAM. -/
  | saveConfig (k : CmdKey)
  /-- R97: Returns device time, time state, offset, rate and slew. -/
  | getTime (k : CmdKey)
  /-- R69: Selects free-run, PTP, GNSS PPS or host as the time source, and sets the servo parameters. -/
  | setTimeSource (k : CmdKey)
  /-- R82: Declares the oscillator class, AON_PPM and the holdover limit. -/
  | setOscClass (k : CmdKey)
  /-- R76: Steers device time by host phase and frequency, or labels a PPS edge with its time of day. -/
  | servoAdjust (k : CmdKey)
  /-- R85: Configures the edge, filter and binding of one capture input. -/
  | configTsIn (k : CmdKey)
  /-- R89: Configures a single or periodic pulse output, with its role, at a DTS. -/
  | configTsOut (k : CmdKey)
  /-- R88: Returns and empties the capture buffer of one input, with its counters. -/
  | getCaptures (k : CmdKey)
  /-- R84: Returns the holdover age, the error bound and the oscillator class. -/
  | getHoldover (k : CmdKey)
  /-- R96: Sets the Sentry tick period from 10 ms to 100 ms. -/
  | setSentryTick (k : CmdKey)
  /-- R99: Configures the interface, speed, addresses and VLAN of one Ethernet MAC. -/
  | configPort (k : CmdKey)
  /-- R105: Sets the ingress, egress and asymmetry corrections of one port at one speed. -/
  | setPortCorrections (k : CmdKey)
  /-- R110: Configures the PTP profile, role, ports, domain and intervals. -/
  | configPtp (k : CmdKey)
  /-- R121: Returns the grandmaster data and the PTP state of every port. -/
  | getPtpStatus (k : CmdKey)
  /-- R122: Returns the sixteen counters of one port. -/
  | getPortStats (k : CmdKey)
  /-- R459: Configures the transport, destination and heartbeat of the safe-state message. -/
  | configSafeMsg (k : CmdKey)
  /-- R124: Configures the PHY, lanes, data type, geometry and timing of one CSI-2 receiver. -/
  | configCsi (k : CmdKey)
  /-- R132: Sets black levels, gains, shading and output format, effective at the receiver's next frame start. -/
  | setNormaliser (k : CmdKey)
  /-- R133: Loads a lens-shading table from staging into a receiver's inactive table. -/
  | loadShadingTable (k : CmdKey)
  /-- R137: Loads and checks a lidar packet template from staging. -/
  | loadLidarTemplate (k : CmdKey)
  /-- R135: Binds a lidar to a port, UDP port, sender, template and time mode. -/
  | bindLidar (k : CmdKey)
  /-- R144: Configures an SPI master, its burst, data-ready input and field descriptors for one IMU. -/
  | configImu (k : CmdKey)
  /-- R147: Configures a quadrature input and its wheel scaling. -/
  | configEncoder (k : CmdKey)
  /-- R149: Configures the bit timing, filters and signal descriptors of one CAN controller. -/
  | configCan (k : CmdKey)
  /-- R156: Returns the clock model and counters of one source. -/
  | getSourceStatus (k : CmdKey)
  /-- R158: Sets the intrinsics and extrinsics of one source. -/
  | setCalibration (k : CmdKey)
  /-- R175: Sets the reference camera, pairing window, close times, frame rates and trust limits. -/
  | setPairing (k : CmdKey)
  /-- R168: Sets the pose extrapolation limit and the acceleration bounds. -/
  | setExtrapolationLimit (k : CmdKey)
  /-- R194: Sets the voter, cross-check and scan-matching thresholds. -/
  | setVoterThresholds (k : CmdKey)
  /-- R182: Requests a new world anchor at the next ENTER_RUN, or keeps the present one. -/
  | setAnchor (k : CmdKey)
  /-- R170: Returns the interpolated or extrapolated pose at a DTS, or reports that it is refused. -/
  | getPose (k : CmdKey)
  /-- R196: Returns the voter state and the trust of every source. -/
  | getVoterStatus (k : CmdKey)
  /-- R202: Sets the voxel size, layers, point cap and near-field settings. -/
  | setVoxelConfig (k : CmdKey)
  /-- R228: Returns the point-engine statistics and per-lidar counters. -/
  | getPointStats (k : CmdKey)
  /-- R220: Runs a batch of ball or k-nearest queries against the latest reference store. -/
  | runNeighbourQuery (k : CmdKey)
  /-- R230: Sets the Rink cell size and the side left out in reduced extent. -/
  | setCellSize (k : CmdKey)
  /-- R261: Returns patch ownership, the spares, the migration state and the retired tiles. -/
  | getTileMap (k : CmdKey)
  /-- R258: Retires one tile on host request and replies after the re-map. -/
  | retireTile (k : CmdKey)
  /-- R314: Sets the exported channels and the export rate. -/
  | configBevExport (k : CmdKey)
  /-- R262: Returns the Rink and tile counters. -/
  | getRinkStats (k : CmdKey)
  /-- R328: Copies, verifies and fits a plan image from staging into an empty plan slot. -/
  | loadPlan (k : CmdKey)
  /-- R336: Makes a loaded plan active for a posture, at completion or at a frame boundary. -/
  | activatePlan (k : CmdKey)
  /-- R341: Returns the plan status, the arithmetic counters and the slot entries. -/
  | getPlanStatus (k : CmdKey)
  /-- R342: Empties an inactive plan slot. -/
  | unloadPlan (k : CmdKey)
  /-- R350: Submits up to 64 user solver jobs to single lanes. -/
  | submitSolverBatch (k : CmdKey)
  /-- R366: Returns the solver counters, pair states and track update budget. -/
  | getSolverStatus (k : CmdKey)
  /-- R379: Sets the tracking parameters of one class or of all classes. -/
  | setTrackParams (k : CmdKey)
  /-- R384: Sets how tracks are selected and ordered for results. -/
  | setRelevanceRule (k : CmdKey)
  /-- R388: Defines or removes one polygon zone. -/
  | setZone (k : CmdKey)
  /-- R390: Defines or removes one event rule. -/
  | setEventRule (k : CmdKey)
  /-- R397: Returns the committed context of one live track. -/
  | getTrack (k : CmdKey)
  /-- R395: Removes all zones and rules and frees the event-state table. -/
  | clearZones (k : CmdKey)
  /-- R405: Selects native or T16-compatible queue mode. -/
  | setQueueMode (k : CmdKey)
  /-- R406: Sets the cut-through threshold of one outbound queue. -/
  | setCutThrough (k : CmdKey)
  /-- R410: Sets the flow-control high and low watermarks. -/
  | setWatermarks (k : CmdKey)
  /-- R415: Starts a reset of the result or event queue. -/
  | resetQueue (k : CmdKey)
  /-- R419: Returns the levels, counters and flow state of the queues. -/
  | getQueueStatus (k : CmdKey)
  /-- R447: Returns fault-log entries, the open records and the first fault. -/
  | getFaultRecords (k : CmdKey)
  /-- R439: Clears L2 marks, releases the first-fault latch or zeroes a recovery counter. -/
  | clearFault (k : CmdKey)
  /-- R437: Chooses the reaction to a record awaiting reaction. -/
  | setReaction (k : CmdKey)
  /-- R436: Sets the reaction timer. -/
  | setReactionTimer (k : CmdKey)
  /-- R440: Sets the quiet period, recovery limit, window and mark limit. -/
  | setRecoveryLimits (k : CmdKey)
  /-- R462: Sets the window of one settable Gate. -/
  | setGateWindows (k : CmdKey)
  /-- R475: Configures the Groomer and frozen-frame detectors of one receiver. -/
  | setGroomer (k : CmdKey)
  /-- R481: Returns the safety status, Gate entries and receiver entries. -/
  | getSafetyStatus (k : CmdKey)
  /-- R469: Injects a test error into one checker and returns the injected record and its latency. -/
  | injectFault (k : CmdKey)
  /-- R458: Opens a host FA record and sends the device to SAFE. -/
  | enterSafe (k : CmdKey)
  /-- R484: Sets the device number. -/
  | setDeviceNumber (k : CmdKey)
  /-- R501: Returns the role and the state and counters of every peer. -/
  | getPeerStatus (k : CmdKey)
  /-- R485: Sets the region map of manager and workers. -/
  | setRegionMap (k : CmdKey)
  /-- R523: Returns supplies, temperatures, throttling and wake data. -/
  | getPower (k : CmdKey)
  /-- R509: Sets the host, TS_IN and timer wake sources. -/
  | setWakeSources (k : CmdKey)
  /-- R519: Sets the throttle and shutdown limits. -/
  | setThermalLimits (k : CmdKey)
  /-- R551: Returns the life cycle, key slots, flash slot states, indices and boot flags. -/
  | getSecurityStatus (k : CmdKey)
  /-- R541: Verifies an image in staging, then erases, programs and verifies the non-committed flash slot. -/
  | beginUpdate (k : CmdKey)
  /-- R542: Writes the COMMIT record of a verified slot. -/
  | commitUpdate (k : CmdKey)
  /-- R547: Writes a signed attestation report over a host nonce to staging. -/
  | attest (k : CmdKey)
  /-- R537: Revokes one fuse key slot for good. -/
  | revokeKey (k : CmdKey)
  /-- R550: Copies a range of journal records to staging. -/
  | readJournal (k : CmdKey)
  /-- R539: Advances the life cycle to PRODUCTION or RETURNED. -/
  | setLifecycle (k : CmdKey)
  /-- R578: Returns the LPDDR training, ECC and row-mark state. -/
  | getMemoryStatus (k : CmdKey)
  /-- R579: Scrubs a range of an LPDDR channel, tile SRAM, the voxel table or a reference store. -/
  | scrub (k : CmdKey) (corrected : Nat) (bad : List (Nat × Nat))
  /-- R565: PORST_N goes low: the device is held in reset and the command intake is flow-controlled. -/
  | porstNAssert (pulseNs : Nat) (powerLost : Bool)
  /-- R565: At the later of the PORST_N release and 32.768 kHz oscillator readiness, BOOT starts and device time is bridged or starts. -/
  | porstNEffectiveRelease (aonPeriods : Nat)
  /-- R483: ROLE[1:0] is sampled 2, 4 and 6 µs after the effective release; disagreeing samples read as 0b11. -/
  | roleSample (value : Nat)
  /-- R566: WRST_N ends what was running and restarts BOOT, keeping VDD_AON state and the role. -/
  | wrstNAssert (pulseNs : Nat) (aonPeriods : Nat)
  /-- R33: 1 ms after the RESET_DEVICE reply, the device reset starts: every queue is emptied and EPOCH increments. -/
  | deviceResetStart
  /-- R525: BOOT ends after verification, self-tests, training, restore and plan load, and the device enters SETUP or SAFE. -/
  | bootComplete (report : BootReport)
  /-- R531: The device carries out ENTER_RUN itself in the restored AUTO_RUN posture on reaching SETUP. -/
  | autoEnterRun
  /-- R64: COUNT advances every 2 ns and its two copies are compared. -/
  | countIncrement (n : Nat) (mismatch : Bool)
  /-- R95: Device time reaches a tick instant and the tick is raised. -/
  | tick
  /-- R95: At t − 500 µs pending frame updates commit and propagation of every live track starts. -/
  | frameUpdateCutoff
  /-- R86: An accepted capture-input edge is stamped, buffered and passed to its bound consumer. -/
  | tsInEdge (input : Nat) (falling : Bool) (at_ : Nat)
  /-- R77: An NMEA ZDA sentence on a UART labels the latest PPS edge and yields a servo measurement. -/
  | zdaSentence (uart : Nat) (utc : Nat)
  /-- R79: 1.5 s without an accepted PPS edge makes the PPS source lost. -/
  | ppsSourceLoss
  /-- R76: 2 s without a SERVO_ADJUST makes the host time source lost. -/
  | hostSourceLoss
  /-- R90: A timed output issues the leading edge of a pulse at its device-time instant. -/
  | tsOutLeadingEdge (out : Nat)
  /-- R90: A timed output ends a pulse WIDTH_NS after its leading edge. -/
  | tsOutTrailingEdge (out : Nat)
  /-- R108: A Sync received on the SLAVE port is stamped and used for a servo measurement. -/
  | ptpSyncReceived (port : Nat) (msg : PtpMsg) (head : FrameHead)
  /-- R116: A Follow_Up is matched to its Sync by sequenceId, or discarded and counted. -/
  | ptpFollowUpReceived (port : Nat) (msg : PtpMsg) (head : FrameHead)
  /-- R116: A Delay_Req on a MASTER port is answered with a Delay_Resp. -/
  | ptpDelayReqReceived (port : Nat) (msg : PtpMsg) (head : FrameHead)
  /-- R108: A Delay_Resp completes a path-delay measurement. -/
  | ptpDelayRespReceived (port : Nat) (msg : PtpMsg) (head : FrameHead)
  /-- R118: A Pdelay_Req is answered with a Pdelay_Resp, one-step or two-step. -/
  | ptpPdelayReqReceived (port : Nat) (msg : PtpMsg) (head : FrameHead)
  /-- R108: A Pdelay_Resp is taken into the peer-delay measurement. -/
  | ptpPdelayRespReceived (port : Nat) (msg : PtpMsg) (head : FrameHead)
  /-- R108: A Pdelay_Resp_Follow_Up completes a two-step peer-delay measurement. -/
  | ptpPdelayRespFollowUpReceived (port : Nat) (msg : PtpMsg) (head : FrameHead)
  /-- R112: An Announce is taken into the BMCA. -/
  | ptpAnnounceReceived (port : Nat) (msg : PtpMsg) (head : FrameHead)
  /-- R116: A Signaling message is handled for its 802.1AS message interval request TLV. -/
  | ptpSignalingReceived (port : Nat) (msg : PtpMsg) (head : FrameHead)
  /-- R116: A Management message is discarded and counted in PTP_DISCARDED. -/
  | ptpManagementReceived (port : Nat) (msg : PtpMsg) (head : FrameHead)
  /-- R118: Each Sync interval, MASTER ports send a Sync, one-step or followed by a Follow_Up. -/
  | ptpSyncInterval (port : Nat)
  /-- R116: Each delay interval, the SLAVE port sends a Delay_Req, or PTP ports send a Pdelay_Req. -/
  | ptpDelayInterval (port : Nat)
  /-- R115: Each Announce interval, MASTER ports send an Announce. -/
  | ptpAnnounceInterval (port : Nat)
  /-- R114: No Sync for SYNC_RECEIPT_TIMEOUT intervals makes the PTP source lost. -/
  | syncReceiptTimeout (port : Nat)
  /-- R114: No Announce for ANNOUNCE_RECEIPT_TIMEOUT intervals makes the PTP source lost. -/
  | announceReceiptTimeout (port : Nat)
  /-- R114: A Pdelay exchange without a response within the delay interval is counted as failed. -/
  | pdelayTimeout (port : Nat)
  /-- R101: A port's link goes down; it is counted and may make a CE record. -/
  | linkDown (port : Nat)
  /-- R101: A port's link returns with its configuration kept. -/
  | linkUp (port : Nat) (speed : Nat)
  /-- R100: An ARP request or IPv6 neighbour solicitation for the port's address is answered. -/
  | arpRequest (port : Nat) (ip : Nat) (target : Nat) (sender : Nat) (head : FrameHead)
  /-- R100: A received frame of no accepted kind is discarded and counted in DISCARDED. -/
  | ethOtherFrame (port : Nat) (kind : OtherFrame) (head : FrameHead)
  /-- R138: A UDP datagram of a lidar binding is parsed into the range image. -/
  | lidarDatagram (d : Datagram)
  /-- R142: 1.5 / SWEEP_HZ without a wrap ends the sweep. -/
  | sweepTimeout (lidar : Nat)
  /-- R129: A frame-start packet is stamped, and a frame still open is ended as damaged. -/
  | csiFrameStart (rx : Nat) (vc : Nat) (number : Nat) (corrected : Bool)
  /-- R126: A line or embedded-data packet is taken in and normalised into the ring slot. -/
  | csiLongPacket (rx : Nat) (packet : CsiPacket)
  /-- R127: A frame-end packet makes the frame whole or damaged and runs the frozen-frame checks. -/
  | csiFrameEnd (rx : Nat) (vc : Nat) (number : Nat) (corrected : Bool)
  /-- R145: A data-ready edge starts the SPI burst transaction of one IMU sample. -/
  | imuDataReady (imu : Nat)
  /-- R145: The burst ends; the sample is stamped and integrated by the motion unit. -/
  | imuTransactionComplete (imu : Nat) (burst : Bytes)
  /-- R148: An accepted quadrature edge is stamped and passed to the motion unit. -/
  | encoderEdge (enc : Nat) (onB : Bool) (level : Bool) (at_ : Dts)
  /-- R150: An accepted CAN message is stamped and its signals are extracted. -/
  | canMessage (can : Nat) (msg : CanMessage)
  /-- R150: A CAN error frame is counted in DAMAGED. -/
  | canErrorFrame (can : Nat)
  /-- R150: A controller with ACK_EN reaches bus-off, returns to listen-only and makes a CE record. -/
  | canBusOff (can : Nat)
  /-- R155: A source silent for its loss span becomes ABSENT with a CE record. -/
  | sourceLossTimeout (source : Nat)
  /-- R160: Every 10 ms the motion unit applies a velocity update from the wheels in use. -/
  | wheelVelocityUpdate
  /-- R184: Once the pose at F is available, any rebase and scroll are ordered. -/
  | poseAtFusionInstant
  /-- R179: The camera part of a fusion set closes and its due cameras are judged and admitted. -/
  | cameraPartClose
  /-- R179: The lidar part of a fusion set closes, and its sweeps are judged, admitted and deskewed. -/
  | lidarPartClose
  /-- R185: Scan-matching equations are ready and an iteration's solver job is issued. -/
  | scanMatchIteration
  /-- R185: Scan matching stops at F + SCAN_DEADLINE_MS with the last complete iterate. -/
  | scanDeadline
  /-- R208: The take of a frame begins after its lidar close and the previous frame's rule-book delivery. -/
  | takeStart
  /-- R218: The voxel table is complete, and the reference store and rule books are built from it. -/
  | takeComplete
  /-- R217: The last rule book of the frame is delivered, and the voxel table is emptied. -/
  | ruleBooksDelivered (hurt : List (Nat × Nat))
  /-- R237: The image phase starts; scrolls, re-maps, extent changes and plan swaps take effect. -/
  | frameBoundary
  /-- R287: A step ends, with its checksum and signature checked, and the next step runs. -/
  | sequencerStepEnd (tile : Nat) (step : StepEnd)
  /-- R245: At a halo point tiles exchange edge strips, and the layer starts once all strips have arrived. -/
  | haloPoint (slot : Nat) (strip : HaloStrip)
  /-- R297: The Lift router cuts a column into runs and sends Lift packets to patch slots. -/
  | liftColumn (receiver : Nat) (column : LiftColumn)
  /-- R299: A tile adds the bins of a Lift packet into its landing buffer. -/
  | liftPacket (packet : LiftPacket)
  /-- R300: The end-of-pass marker arrives; the tile runs the landing epilogue and zeroes the buffer. -/
  | endOfPassMarker (slot : Nat)
  /-- R23: The BEV phase starts once the Lift has ended and the rule books are delivered. -/
  | bevPhaseStart
  /-- R370: A tile's heads end; detections are taken and sent to Glide and the export record is written. -/
  | headsEnd (slot : Nat) (heads : HeadsOutput)
  /-- R316: The last export record is in LPDDR and WRITE_SEQ is set even. -/
  | exportComplete
  /-- R311: A tile serves a remote gather request with one 64-byte segment. -/
  | remoteGatherRequest (tile : Nat) (gather : Gather)
  /-- R312: A remote gather unanswered within 50 µs is read as zero and reported as a UC. -/
  | remoteGatherTimeout (tile : Nat)
  /-- R233: A generation marker updates a router's copy of the route table. -/
  | routeGenerationMarker (router : Nat)
  /-- R244: A flit that fails its link CRC is resent, and a failing lane group is replaced. -/
  | linkFlitError (link : Nat) (group : Nat) (resendFailed : Bool)
  /-- R248: At the first step boundary after the tick, Crossover starts copying a role to the spare. -/
  | migrationCopyStart
  /-- R248: After the copy completes, the source and target run one shadow step together. -/
  | migrationShadowStep
  /-- R250: At the end of the shadow step the signatures are compared and the slot passes to the target, or the migration aborts. -/
  | migrationHandover
  /-- R248: The drain marker returns and the freed tile starts its spare test. -/
  | forwarderDrained
  /-- R470: A spare test ends; the tile becomes SPARE_READY or is retired. -/
  | spareTestComplete (tile : Nat) (passed : Bool)
  /-- R471: A test cycle of 12 in-frame slices begins 45 ms after the previous one. -/
  | testCycleBegin
  /-- R472: A transparent test slice runs at a slice mark when the slack allows. -/
  | testSliceStart
  /-- R359: At a lane free, job arrival or deadline, jobs are started, split or ended NOT_RUN. -/
  | solverSchedule
  /-- R352: A solver job ends and its record or result is returned to its owner. -/
  | solverJobComplete (job : Nat) (outcome : JobOutcome)
  /-- R371: After the previous frame is committed, a frame's detections are associated and update jobs issued. -/
  | detectionsArrival
  /-- R377: Propagation, relevance selection and zone tests of the tick end. -/
  | propagationComplete (mismatches : List Nat)
  /-- R385: Propagation not ended by t − 20 µs makes the result invalid. -/
  | propagationDeadline
  /-- R169: The ego state at t is formed at the first IMU entry after t or at t + 150 µs, and the result is written. -/
  | egoStateForm
  /-- R444: A Glide block reset starts at t + 400 µs of a tick. -/
  | glideBlockReset
  /-- R408: A waiting notice pulse is issued on HOST_IRQ_N at least 100 ns after the previous one. -/
  | noticePulse
  /-- R415: A queue reset completes and its final reply is written. -/
  | queueResetComplete (queue : Nat)
  /-- R425: A checker report reaches Patrol; an FA report goes straight to the safety manager. -/
  | faultReportArrival (report : Option Report)
  /-- R425: At c + 3 µs Patrol judges a collector cycle, opening, merging and latching records and escalating. -/
  | collectorJudgement
  /-- R435: The reaction timer expires and the default reaction is applied. -/
  | reactionTimerExpiry (subsystem : Nat)
  /-- R434: An L3 unit's quiet period ends without a detection, and its recovery counter counts. -/
  | quietPeriodExpiry (source : Nat) (unit : Nat)
  /-- R441: A block reset completes, its shadow closes and downstream Gates are extended. -/
  | blockResetComplete (subsystem : Nat)
  /-- R453: Every 50 µs SAFE_A and SAFE_B toggle in antiphase and are read back. -/
  | safeSignalToggle
  /-- R454: The always-on monitor detects loss of the 25 MHz reference and drives FAULT_N low. -/
  | referenceClockLoss
  /-- R463: A Gate reaches MAX without its kick, which is a miss. -/
  | gateWindowExpiry (gate : Nat)
  /-- R466: A solver-start, sequencer-step or management watchdog monitor expires. -/
  | taskMonitorExpiry (tile : Nat)
  /-- R476: BLANK_START_US after a frame end the Groomer injects its test pattern. -/
  | groomerInjection (rx : Nat)
  /-- R478: An injection ends and its signature is compared. -/
  | groomerInjectionEnd (rx : Nat) (passed : Bool)
  /-- R460: In SAFE, SAFE messages repeat 1 ms apart. -/
  | safeMsgRepeat
  /-- R492: A worker writes a pose entry and takes the manager's Rink and anchor. -/
  | atidePoseAnchorReceived (frame : AtideFrame)
  /-- R499: The manager judges a worker's STATUS frame and its peer state. -/
  | atideStatusReceived (frame : AtideFrame)
  /-- R495: The manager collects a TRACKS frame into a set and ACKs a whole set. -/
  | atideTracksReceived (frame : AtideFrame)
  /-- R495: A worker takes the ACK of its track set. -/
  | atideAckReceived (frame : AtideFrame)
  /-- R495: A worker resends the named frames once. -/
  | atideResendReceived (frame : AtideFrame)
  /-- R495: The manager sends RESEND for missing frames, or discards a set still incomplete after the resend. -/
  | trackSetIncompleteTimeout (device : Nat)
  /-- R495: A worker with neither ACK nor RESEND 500 µs after its last frame resends the set. -/
  | trackSetAckTimeout
  /-- R496: After the manager's frame at F′ commits, a whole set is merged into Glide. -/
  | trackSetMerge (device : Nat)
  /-- R499: No STATUS for three ticks makes a worker LOST. -/
  | workerStatusTimeout (device : Nat)
  /-- R500: A worker without POSE_ANCHOR for three ticks makes a UC record and sets DEGRADED_PEER. -/
  | poseAnchorTimeout
  /-- R506: A posture change completes and the new posture's first tick follows. -/
  | postureChangeComplete (failedTiles : List Nat)
  /-- R507: 50 ms after Standby entry, commands and queues still open are ended and discarded. -/
  | standbyDrainTimeout
  /-- R507: State is saved to retention SRAM and every domain outside the always-on island stops. -/
  | standbyEntryComplete
  /-- R510: A host, TS_IN or timer wake runs the resume into WAKE_POSTURE. -/
  | wakeEvent (cause : Nat) (input : Nat) (rising : Bool) (aonPeriods : Nat)
  /-- R509: TIMER_S seconds in Standby expire and cause a wake. -/
  | wakeTimerExpiry (aonPeriods : Nat)
  /-- R518: Every 1 ms the thermal sensors are read and judged. -/
  | thermalSensorRead (readings : List Int)
  /-- R520: At each whole second the throttle rate is stepped down or up. -/
  | throttleEvaluation
  /-- R520: RETRY_S after engagement the reading decides whether the throttle fault is transient or lasting. -/
  | throttleRetry
  /-- R522: The 130 °C analog trip stops every domain and holds the safe state until PORST_N. -/
  | analogThermalTrip
  /-- R515: A supply leaves its range for 2 µs and is reported. -/
  | supplyMonitorCrossing (supply : Nat) (millivolts : Int)
  /-- R517: Both supplies held at 1.76 V or above for 10 ms clear the inhibit. -/
  | nvInhibitClear
  /-- R517: A paused flash command ends SUPPLY_LOW when the inhibit has not cleared within 2 s. -/
  | nvPauseTimeout
  /-- R514: A PLL reports loss of lock, which is FA or a UC with a relock retry. -/
  | pllLockLoss (pll : Nat)
  /-- R514: A PLL relock attempt completes as the retry. -/
  | pllRelock (pll : Nat)
  /-- R564: An unacknowledged VOUT_COMMAND is retried 1 ms later, up to four times. -/
  | pmbusRetry (acknowledged : Bool)
  /-- R548: A buffered journal record is written to flash when the flash port is free. -/
  | journalRecordWrite
  /-- R533: A flash page program or sector erase completes, and the writer keeps the next sector erased. -/
  | flashOperationComplete (failed : Bool)
  /-- R566: The release of WRST_N ends the warm reset hold and starts BOOT, from which the 2 ms port silence and the BOOT timing are counted. -/
  | wrstNRelease
  /-- R538: An access on the JTAG port is granted or refused by life-cycle state and device state, and each refused access is counted in DEBUG_DENIED. -/
  | jtagAccess (full : Bool)
  /-- R157: A CSI-2 PHY lane or trio loses synchronisation, and a third loss within one frame is a UC of its lane. -/
  | csiPhySyncLoss (rx : Nat) (lane : Nat)
  /-- R125: A D-PHY v2.x receiver runs the skew calibration sequence whenever the transmitter sends it. -/
  | csiSkewCalibration (rx : Nat)
  /-- R469: When no report follows an INJECT_FAULT within 1 ms, the reply carries a zero record and latency 0xFFFF_FFFF, and a UC of the Safety subsystem with L4 field 3 is opened. -/
  | injectFaultReportTimeout
  /-- R496: A whole worker track set still waiting two shortest spacings of the manager's effective rate after it became whole is discarded and counted in SETS_LATE. -/
  | trackSetWaitTimeout (device : Nat)
  /-- R513: An on-demand clock domain, such as the flash master port or security domain, stops 10 ms after its last use. -/
  | onDemandDomainStop (domain : Nat)
deriving DecidableEq, Repr

end Sys2Proof
end

