-- ==== Sys2Proof/Decode.lean ====
section
/-! DEFINITION. The command that a word of the table of operations spells. Every row of the table has an empty list
of fields, so no row gives bits and no word spells a command. -/

namespace Sys2Proof

/-- The command of a word: none, since the table gives no row bits. -/
def decodeTableWord (_nbits _w : Nat) : Option Instr := none

end Sys2Proof
end

