-- ==== Sys2Proof/Config.lean ====
section
/-! DEFINITION. What one die, its board and its firmware fix, and the values the manual leaves open. Everything here
is opaque: no proof can lean on a value of it. -/

namespace Sys2Proof.Config

/-- A real number that the manual leaves open, in units of 2⁻¹⁴⁹ (assumption 3): what an FP32 code that is not finite
contributes where a block of the host may hold one (its code), and what a row beyond a row table holds (2³² and up). -/
opaque openReal (code : Nat) : Int

/-- The n-th free value of the run, of `w` bits: a value that an effect of the manual produces without stating it
(assumption 3). State counts them in freeCount. -/
opaque freeBits (w n : Nat) : BitVec w

/-- DEVICE_ID [15:8]: 0x01 T48-A, 0x02 T48-I (Table 2.4). -/
opaque variant : BitVec 8

/-- REVISION (Table 2.4): die and ROM revision. -/
opaque revision : BitVec 32

/-- DEVICE_UID of the fuse array (R536). -/
opaque deviceUid : BitVec 64

/-- The partition of retention SRAM that holds a word, counted in the order of Table 18.4 from 0, the configuration snapshot, to
6, the time bridge: the table gives sizes and no addresses (R511). -/
opaque retentionPartition (word : Nat) : Nat

/-- How many binary places the LINEAR16 format of the board's regulator has: the exponent that it reports in VOUT_MODE, negated
(R564). -/
opaque voutPlaces : BitVec 5

/-- The fused VDD_TILE target above 600 mV, in steps of 5 mV: its remainder by 21 counts (R516). -/
opaque vddTileTarget : BitVec 16

/-- The SHA-256 of the LMS public keys of Staotte's key slots 0 and 1 (R536). -/
opaque keyHash (slot : Nat) : BitVec 256

/-- The HSS public key, 60 bytes, and the certificate, 2,568 bytes (R545). -/
opaque hssPublicKey : BitVec 480
opaque certificate : BitVec 20544

/-- The initial flash image of R532: the firmware in slot A. -/
opaque initialFirmware : Bytes

/-- Capacity of each LPDDR channel in MiB as found at training (R556, Table 2.17). -/
opaque capacityMib : BitVec 16

/-- offsetScaledLogVariance that the device announces: the manual gives no value. -/
opaque clockVariance : BitVec 16

/-- Counts of COUNT that a frame occupies a port's transmitter at a speed of Table 4.2, with its preamble and gap: the manual
does not lay out the octets of every frame (assumption 120). -/
opaque frameCounts (speed : Nat) (what : EthPayload) : BitVec 24

/-- The frame check sequence over the octets of a frame (R118). -/
opaque frameCheck (dest source : Nat) (tag : Option (Nat × Nat)) (what : EthPayload) : BitVec 32

/-- The UDP checksum of a PTP message before the fields that its stamp completes are filled in (R118). -/
opaque udpChecksum (srcIp : Nat) (msg : PtpMsg) : BitVec 16

/-- The priority code point of tagged frames that are neither PTP nor Atide: Table 4.2 gives none (assumption 119). -/
opaque otherPcp : BitVec 3

/-- SHA-256 (R327, R535). -/
opaque sha256 (b : Bytes) : BitVec 256

/-- Whether an LMS signature (its section) verifies over a message under a public key whose hash is given
(R327, R535, R539). -/
opaque lmsVerify (keyHash : Nat) (message signature : Bytes) : Bool

/-- The HSS signature of index q over a report body (R545, R546). -/
opaque hssSign (q : Nat) (body : Bytes) : BitVec 40608

/-- Whether the signer's own check of the signature of index q over a report body passes (R546). -/
opaque hssGood (q : Nat) (body : Bytes) : Bool

/-- The strapdown mechanisation and the error-state filter (R160, R162): pose numbers, which are the 14 codes POS_X, POS_Y,
POS_Z, Q_W, Q_X, Q_Y, Q_Z, VEL_X, VEL_Y, VEL_Z (FP32), SIGMA_POS, SIGMA_ATT, SIGMA_VEL and YAW_RATE (FP16), and the filter's
own state (gravity magnitude, biases, covariance), from those before, the IMU's calibration block, the sample
(acceleration and rate as FP32 codes) and the span in 2⁻¹⁶ ns. The manual gives what the filter uses and states no
arithmetic for it. -/
opaque strapdown (numbers filter : List Nat) (calibration : Bytes) (sample : List Nat) (span : Int) : List Nat × List Nat

/-- The zero-velocity update of R160. -/
opaque zeroVelocity (numbers filter : List Nat) : List Nat × List Nat

/-- The velocity update of R160 from the wheels in use: contact point x and y and steering angle as FP32 codes, the speed
in µm/s, and the span from the pose to the instant of the speed in 2⁻¹⁶ ns. -/
opaque velocityUpdate (numbers filter : List Nat) (wheels : List (List Nat × Int × Int)) : List Nat × List Nat

/-- Wheel odometry (R163): the next pose numbers from the previous ones, the wheels in use (contact point, steering angle,
speed), the other CAN signals as FP32 codes by meaning, and the span. -/
opaque odometryStep (previous : List Nat) (wheels : List (List Nat × Int)) (signals : List (Nat × Nat)) (span : Int) :
  List Nat

/-- A pose in the frame of a new anchor (R182): the 11 codes of attitude, velocity, sigmas and yaw rate, and the filter's
state, with z opposite to the estimated gravity and x the vehicle's x axis projected onto the horizontal. -/
opaque anchorTurn (numbers filter : List Nat) : List Nat × List Nat

/-- Spherical linear interpolation of two attitude quaternions, FP32 codes W, X, Y, Z, at the fraction num / den
(R166). -/
opaque slerp (older newer : List Nat) (num den : Nat) : List Nat

/-- An attitude quaternion turned by a rate (FP16 code) times a span in 2⁻¹⁶ ns about the anchor z axis (R167). -/
opaque turnYaw (attitude : List Nat) (rate : Nat) (span : Int) : List Nat

/-- x = r cos e cos a, y = r cos e sin a, z = r sin e as FP32 codes (Table 6.2): the manual states no arithmetic for the
functions. -/
opaque lidarXyz (range azimuth elevation : Nat) : Nat × Nat × Nat

/-- The sine and cosine of an FP32 code of radians, as FP32 codes (R376): the manual states no arithmetic for the
functions. -/
opaque sinCos (angle : Nat) : Nat × Nat

/-- The output words of a solver job, FP32 codes (R349, R352): X after a number of refinement steps that each improve it, FACTOR
and INVERSE. They depend on the job's parameters (operation, sizes, τ and λ) and its input alone (R347); the manual fixes the
order of every sum and does not state it. -/
opaque solverX (params input : List Nat) (steps : Nat) : List Nat
opaque solverFactor (params input : List Nat) : List Nat
opaque solverInverse (params input : List Nat) : List Nat

/-- The pivots a factorisation meets and, for OP 2, the 2-norms of A's columns, FP32 codes per column (R354). -/
opaque solverPivots (params input : List Nat) : List Nat
opaque solverNorms (params input : List Nat) : List Nat

/-- Whether a result of a job saturates (R355). -/
opaque solverOverflow (params input : List Nat) (steps : Nat) : Bool

/-- How many refinement steps in a row make the residual smaller (R356). -/
opaque refineGains (params input : List Nat) : Nat

/-- The 27 words of a scan-matching iteration's normal equations (R185): 21 of A packed lower, then 6 of B, from each
point with its 5 neighbours, FP32 codes x, y, z. The manual fixes neither the plane fit's arithmetic nor the order of its
sums. -/
opaque normalEquations (pairs : List ((Nat × Nat × Nat) × List (Nat × Nat × Nat))) : List Nat

/-- A point moved by the corrections of the iterations completed, oldest first, FP32 codes (R185): the manual does not lay
out the six numbers of an update. -/
opaque correctedPoint (corrections : List Bytes) (point : Nat × Nat × Nat) : Nat × Nat × Nat

/-- The motion an ego voter states, FP32 codes of its translation x and y in m and its yaw change in rad (R185, R186): an
IMU alone, from the pose numbers at the interval's start and its own integration at the end, each with the span to its
fusion instant; the wheels, from the forward speed and yaw rate of the fit and the interval; the fused motion composed with
the scan match's corrections. -/
opaque imuMotion (start : List Nat) (toStart : Int) (alone : List Nat) (toEnd : Int) : List Nat
opaque wheelMotion (fit : List Nat) (span : Int) : List Nat
opaque scanMotion (older newer : List Nat) (corrections : List Bytes) : List Nat

/-- The speed in m/s, an FP32 code, that a motion over an interval predicts at a wheel's contact point, with its steering
angle, FP32 codes (R188). -/
opaque wheelPrediction (contact : List Nat) (motion : List Nat) (span : Int) : BitVec 32

/-- Lidar odometry's correction of the pose numbers while no IMU is left (R163). -/
opaque odometryCorrection (numbers : List Nat) (corrections : List Bytes) : List Nat

/-- Where a landing epilogue writes the row of a cell in a tile's SRAM: the address the row of the BEV map begins at and its first
channel; where its residual row begins and its format; and the function table that the plan has loaded for it (R283, R300):
the layout of a tile's activations is private to Ihlest and the T48. -/
opaque landingRow (image : Bytes) (layer cell : Nat) : Nat × Nat
opaque landingResidual (image : Bytes) (layer cell : Nat) : Nat × Nat
opaque landingTable (image : Bytes) (layer : Nat) : Nat

/-- Whether the step lists of an image break R307's second rule: the encoding of steps is private to Ihlest and the
T48 (R322). -/
opaque stepsTouchState (image : Bytes) : Bool

/-- Whether a column-head output of an image is other than INT8 (R294): which layers head the columns stands in the step
lists. -/
opaque headsNotInt8 (image : Bytes) : Bool

/-- Whether the spare-less step list equals the primary one except for its slice marks (R322). -/
opaque sameButMarks (primary spareless : Bytes) : Bool

/-- Whether a step of the frame's list carries a slice mark, and the tile time in µs that the list declares after it
(R322, R472). -/
opaque sliceMark (image : Bytes) (variant step : Nat) : Bool
opaque timeAfter (image : Bytes) (variant step : Nat) : BitVec 32

/-- atan2 of two FP32 codes (Table 13.2): the manual states no arithmetic for the function. -/
opaque atan2 (y x : Nat) : BitVec 32

/-- The number of checker instances that the engines in service have (R467): the manual gives their kinds and no number.
Retired tiles, point engines, solver pairs and propagation pairs as masks; whether the fuse and flash readers count. -/
opaque checkerInstances (tiles points pairs propPairs : Nat) (boot : Bool) : BitVec 32

/-- The words, rows or entries of the memory that a source and UNIT name (R469), 0 where they name none: the manual gives
a few of them. -/
opaque memoryEntries (source unit : Nat) : BitVec 32

/-- The LPDDR channel and 64-byte word in which 64-byte word w of the staging region (0) or the export region (1) lies, the row
that holds a channel's word, and the camera whose ray table holds an entry of the Lift router's memory: the manual lays out
neither (R439, R579, Table 10.8). -/
opaque memoryWord (region word : Nat) : BitVec 3 × Nat
opaque memoryRow (word : Nat) : BitVec 23
opaque rayCamera (entry : Nat) : BitVec 3

/-- The cells of the footprint of an object, as offsets from the cell of its centre (R189): the manual does not define
the footprint. Centre, extents and yaw are FP32 codes, the cell size is in cm. -/
opaque footprint (x y length width yaw cellCm : Nat) : List (Int × Int)

end Sys2Proof.Config
end

