-- ==== Sys2Proof/Machine/Bits.lean ====
section
/-! DEFINITION. Byte strings, bit fields, sign extension, byte order, CRC-32C and the arithmetic of device time
stamps: the small functions that every meaning reads its operands and writes its results with. -/

/-- An element put before the first one that it does not have to follow. -/
def List.insertBy {α : Type} (le : α → α → Bool) (x : α) : List α → List α
  | [] => [x]
  | y :: ys => if le x y then x :: y :: ys else y :: List.insertBy le x ys

/-- A list in the order `le`; elements of equal rank keep their order. -/
def List.sortBy {α : Type} (l : List α) (le : α → α → Bool) : List α := l.foldr (List.insertBy le) []

namespace Sys2Proof.Machine

/-- The number a little-endian byte string holds (R8). -/
def natOfBytes : Bytes → Nat
  | [] => 0
  | b :: bs => b.toNat + 256 * natOfBytes bs

/-- The little-endian byte string of `n` bytes that holds `v` (R8). -/
def bytesOfNat : Nat → Nat → Bytes
  | 0, _ => []
  | n + 1, v => BitVec.ofNat 8 v :: bytesOfNat n (v / 256)

/-- The number a big-endian byte string holds (R8, network frames). -/
def natOfBytesBE (b : Bytes) : Nat := natOfBytes b.reverse

/-- The big-endian byte string of `n` bytes that holds `v` (R8, network frames). -/
def bytesOfNatBE (n v : Nat) : Bytes := (bytesOfNat n v).reverse

/-- `n` bytes of `b` from offset `off`. -/
def slice (b : Bytes) (off n : Nat) : Bytes := (b.drop off).take n

/-- The field of `w` bits whose least significant bit is bit `lo` of the little-endian block `b` (R9). -/
def fld (b : Bytes) (lo w : Nat) : Nat :=
  natOfBytes (slice b (lo / 8) ((lo % 8 + w + 7) / 8)) / 2 ^ (lo % 8) % 2 ^ w

/-- The same field of a big-endian frame payload of `n` bits, whose bit `n - 1` is the top bit of byte 0. -/
def fldBE (n : Nat) (b : Bytes) (lo w : Nat) : Nat := natOfBytesBE (b.take (n / 8)) / 2 ^ lo % 2 ^ w

/-- A `w`-bit number read as two's complement. -/
def signedOf (w n : Nat) : Int := if n < 2 ^ (w - 1) then (n : Int) else (n : Int) - (2 ^ w : Nat)

/-- The `w`-bit two's complement code of an integer. -/
def codeOf (w : Nat) (i : Int) : Nat := (i % ((2 ^ w : Nat) : Int)).toNat

/-- A signed field. -/
def sfld (b : Bytes) (lo w : Nat) : Int := signedOf w (fld b lo w)

/-- A one-bit field. -/
def bitAt (b : Bytes) (lo : Nat) : Bool := fld b lo 1 == 1

/-- 1 for a set flag, 0 otherwise. -/
def flag (p : Bool) : Nat := if p then 1 else 0

/-- A block of `n` bytes from its field map: (least significant bit, width, value). Bits no field names are zero
(R11: reserved bits). -/
def pack (n : Nat) (fs : List (Nat × Nat × Nat)) : Bytes :=
  bytesOfNat n (fs.foldl (fun a f => a + f.2.2 % 2 ^ f.2.1 * 2 ^ f.1) 0)

/-- The same for a big-endian payload. -/
def packBE (n : Nat) (fs : List (Nat × Nat × Nat)) : Bytes := (pack n fs).reverse

/-- A counter of `w` bits that saturates. -/
def satAdd (w n k : Nat) : Nat := min (n + k) (2 ^ w - 1)

/-- A 32-bit saturating counter counts one. -/
def bump (n : Nat) : Nat := satAdd 32 n 1

/-- `n` zero bytes. -/
def zeros (n : Nat) : Bytes := List.replicate n 0

/-- `b` cut or zero-filled to exactly `n` bytes. -/
def fit (n : Nat) (b : Bytes) : Bytes := b.take n ++ zeros (n - b.length)

/-- One bit of the reflected CRC-32C division (R48: polynomial 0x1EDC_6F41 reflected). -/
def crcBit (c : BitVec 32) : BitVec 32 :=
  if c.getLsbD 0 then (c >>> 1) ^^^ 0x82F63B78#32 else c >>> 1

/-- One byte enters the CRC. -/
def crcByte (c : BitVec 32) (b : Byte) : BitVec 32 :=
  crcBit (crcBit (crcBit (crcBit (crcBit (crcBit (crcBit (crcBit (c ^^^ b.setWidth 32))))))))

/-- CRC-32C (R48). -/
def crc32c (b : Bytes) : Nat := (b.foldl crcByte 0xFFFFFFFF#32 ^^^ 0xFFFFFFFF#32).toNat

/-- Units of 2⁻¹⁶ ns in one second. -/
def secUnits : Nat := 1000000000 * 65536

/-- Units of 2⁻¹⁶ ns in one millisecond. -/
def msUnits : Nat := 1000000 * 65536

/-- Units of 2⁻¹⁶ ns in one microsecond. -/
def usUnits : Nat := 1000 * 65536

/-- Units of 2⁻¹⁶ ns in one nanosecond. -/
def nsUnits : Nat := 65536

/-- The 96 bits of a DTS (Table 0.4). NANOSECONDS and FRACTION together are the remainder below one second. -/
def dtsBits (t : Dts) : Nat := t / secUnits % 2 ^ 48 * 2 ^ 48 + t % secUnits

/-- The low 64 bits of a DTS, as records keep them (R13). -/
def dtsLow (t : Dts) : Nat := dtsBits t % 2 ^ 64

/-- A 96-bit DTS field is a DTS when NANOSECONDS is at most 999,999,999 (Table 0.4). -/
def dtsValid (n : Nat) : Bool := decide (n % 2 ^ 48 < secUnits)

/-- The instant a 96-bit DTS field names. -/
def dtsOf (n : Nat) : Dts := n / 2 ^ 48 * secUnits + n % 2 ^ 48

/-- A DTS plus an interval, never below zero (R68). -/
def dtsAdd (t : Dts) (i : Interval) : Dts := ((t : Int) + i).toNat

/-- The difference of two DTS values (R68). -/
def dtsSub (a b : Dts) : Interval := (a : Int) - (b : Int)

/-- Whether an interval fits the signed 64-bit form (R67). -/
def intervalFits (i : Interval) : Bool := decide (-(2 ^ 63) ≤ i ∧ i < 2 ^ 63)

/-- The i-th element of a fixed table; the element type's default outside it. -/
def vget {α : Type} [Inhabited α] {n : Nat} (v : Vector α n) (i : Nat) : α := v.toList.getD i default

/-- A fixed table with element `i` replaced; unchanged outside it. -/
def vset {α : Type} {n : Nat} (v : Vector α n) (i : Nat) (x : α) : Vector α n :=
  if h : i < n then v.set i x h else v

/-- A fixed table with element `i` mapped. -/
def vmod {α : Type} [Inhabited α] {n : Nat} (v : Vector α n) (i : Nat) (f : α → α) : Vector α n :=
  vset v i (f (vget v i))

/-- The number of set bits of the low `w` bits. -/
def popCount : Nat → Nat → Nat
  | 0, _ => 0
  | w + 1, n => n % 2 + popCount w (n / 2)

/-- Bit `i` of a number. -/
def bitOf (n i : Nat) : Bool := n / 2 ^ i % 2 == 1

/-- A number with bit `i` set. -/
def setBit (n i : Nat) : Nat := if bitOf n i then n else n + 2 ^ i

/-- A number with bit `i` clear. -/
def clearBit (n i : Nat) : Nat := if bitOf n i then n - 2 ^ i else n

/-- A number with bit `i` set to a flag. -/
def putBit (n i : Nat) (p : Bool) : Nat := if p then setBit n i else clearBit n i

/-- The indices below `n` for which `p` holds, as a mask. -/
def maskOf (n : Nat) (p : Nat → Bool) : Nat :=
  (List.range n).foldl (fun a i => a + flag (p i) * 2 ^ i) 0

/-- Division rounding to the nearest integer, halves away from zero. -/
def roundDiv (a : Int) (b : Nat) : Int :=
  if a < 0 then -(((2 * (-a).toNat + b) / (2 * b) : Nat) : Int) else (((2 * a.toNat + b) / (2 * b) : Nat) : Int)

/-- The magnitude of an integer. -/
def mag (i : Int) : Nat := i.natAbs

/-- An association list's value for a key. -/
def lookupD {β : Type} (l : List (Nat × β)) (k : Nat) (d : β) : β :=
  match l.find? (fun p => p.1 == k) with
  | some p => p.2
  | none => d

/-- An association list with a key's value replaced or added. -/
def assocSet {β : Type} (l : List (Nat × β)) (k : Nat) (v : β) : List (Nat × β) :=
  if l.any (fun p => p.1 == k) then l.map (fun p => if p.1 == k then (k, v) else p) else l ++ [(k, v)]

end Sys2Proof.Machine
end

