-- ==== Sys2Proof/Machine/Float.lean ====
section
/-! DEFINITION. Floating-point codes as exact dyadic numbers, and rounding into the eleven formats of Table 9.1 (R264
to R266, R270 to R272, R278 to R280). -/

namespace Sys2Proof.Machine

/-- The dyadic number `n` × 2^`e`. -/
structure Dy where
  n : Int
  e : Int
deriving DecidableEq, Repr, Inhabited

/-- Two dyadics as integers over the smaller exponent. -/
def Dy.align (a b : Dy) : Int × Int × Int :=
  let e := min a.e b.e
  (a.n * 2 ^ (a.e - e).toNat, b.n * 2 ^ (b.e - e).toNat, e)

def Dy.add (a b : Dy) : Dy :=
  let r := a.align b
  ⟨r.1 + r.2.1, r.2.2⟩

def Dy.neg (a : Dy) : Dy := ⟨-a.n, a.e⟩
def Dy.sub (a b : Dy) : Dy := a.add b.neg
def Dy.mul (a b : Dy) : Dy := ⟨a.n * b.n, a.e + b.e⟩
def Dy.abs (a : Dy) : Dy := ⟨(a.n.natAbs : Int), a.e⟩
def Dy.ofInt (i : Int) : Dy := ⟨i, 0⟩
def Dy.zero : Dy := ⟨0, 0⟩

def Dy.le (a b : Dy) : Bool :=
  let r := a.align b
  decide (r.1 ≤ r.2.1)

def Dy.lt (a b : Dy) : Bool :=
  let r := a.align b
  decide (r.1 < r.2.1)

def Dy.eq (a b : Dy) : Bool :=
  let r := a.align b
  r.1 == r.2.1

def Dy.max (a b : Dy) : Dy := if a.le b then b else a
def Dy.sum (l : List Dy) : Dy := l.foldl Dy.add Dy.zero

/-- The largest integer not above a dyadic. -/
def Dy.floor (a : Dy) : Int := if 0 ≤ a.e then a.n * 2 ^ a.e.toNat else a.n / 2 ^ (-a.e).toNat

/-- A quotient of dyadics to 2⁻⁹⁶ of its own size, with a sticky bit, so that rounding it is rounding the quotient.
The divisor is not zero. -/
def Dy.div (a b : Dy) : Dy :=
  let x := a.n.natAbs * 2 ^ (96 + Nat.log2 b.n.natAbs)
  let q := x / b.n.natAbs
  let sticky := if x % b.n.natAbs = 0 then 0 else 1
  let m : Int := ((2 * q + sticky : Nat) : Int)
  ⟨if (a.n < 0) = (b.n < 0) then m else -m, a.e - b.e - 97 - (Nat.log2 b.n.natAbs : Nat)⟩

/-- The integer square root, one bit of the root per step from bit `k` down. -/
def isqrtAux : Nat → Nat → Nat → Nat
  | 0, _, r => r
  | k + 1, n, r => isqrtAux k n (if (r + 2 ^ k) * (r + 2 ^ k) ≤ n then r + 2 ^ k else r)

def isqrt (n : Nat) : Nat := isqrtAux (Nat.log2 n / 2 + 1) n 0

/-- A square root with a sticky bit; zero for a negative number. -/
def Dy.sqrt (a : Dy) : Dy :=
  if a.n ≤ 0 then Dy.zero
  else
    let odd := a.e % 2
    let n := a.n.toNat * 2 ^ (odd.toNat + 128)
    let r := isqrt n
    ⟨((2 * r + (if r * r = n then 0 else 1) : Nat) : Int), (a.e - odd) / 2 - 65⟩

/-! ## Rounding -/

/-- ROUND of Table 9.4: 0 to nearest ties to even, 1 ties away from zero, 2 toward zero. `m` over 2^`k`. -/
def roundNat (mode m k : Nat) : Nat :=
  let q := m / 2 ^ k
  let r := m % 2 ^ k
  if k = 0 then m
  else match mode with
    | 2 => q
    | 1 => if 2 ^ (k - 1) ≤ r then q + 1 else q
    | _ => if 2 ^ (k - 1) < r ∨ (r = 2 ^ (k - 1) ∧ q % 2 = 1) then q + 1 else q

/-- A binary format with sign: exponent bits, mantissa bits, bias, largest finite code without its sign. -/
structure Fmt where
  eb : Nat
  mb : Nat
  bias : Nat
  top : Nat
deriving DecidableEq, Repr

def fmtE4M3 : Fmt := ⟨4, 3, 7, 0x7E⟩
def fmtE5M2 : Fmt := ⟨5, 2, 15, 0x7B⟩
def fmt16 : Fmt := ⟨5, 10, 15, 0x7BFF⟩
def fmtBF16 : Fmt := ⟨8, 7, 127, 0x7F7F⟩
def fmt32 : Fmt := ⟨8, 23, 127, 0x7F7FFFFF⟩
def fmt64 : Fmt := ⟨11, 52, 1023, 0x7FEFFFFFFFFFFFFF⟩
def fmtE2M1 : Fmt := ⟨2, 1, 1, 0x7⟩
def fmtE2M3 : Fmt := ⟨2, 3, 1, 0x1F⟩

/-- The exponent of the subnormals' unit. -/
def Fmt.unit (f : Fmt) : Int := 1 - (f.bias : Int) - (f.mb : Int)

/-- The bits of a code, sign apart. -/
def Fmt.signBit (f : Fmt) : Nat := 2 ^ (f.eb + f.mb)

/-- The number a code within the format's finite range holds. -/
def Fmt.value (f : Fmt) (code : Nat) : Dy :=
  let mag := code % f.signBit
  let ex := mag / 2 ^ f.mb
  let man := mag % 2 ^ f.mb
  let n : Nat := if ex = 0 then man else 2 ^ f.mb + man
  let e : Int := f.unit + ((ex - 1 : Nat) : Int)
  ⟨if code / f.signBit % 2 = 1 then -(n : Int) else (n : Int), e⟩

/-- A code is finite (Table 9.1). -/
def Fmt.finite (f : Fmt) (code : Nat) : Bool := decide (code % f.signBit ≤ f.top)

/-- A dyadic as a code: rounded, and saturated to the largest finite value of its sign (R272, R279). The flag says that
it saturated. -/
def Fmt.round (f : Fmt) (mode : Nat) (x : Dy) : Nat × Bool :=
  let m := x.n.natAbs
  let sign := if x.n < 0 then f.signBit else 0
  if m = 0 then (0, false)
  else
    let q := max ((Nat.log2 m : Int) + x.e - (f.mb : Int)) f.unit
    let r := if q ≤ x.e then m * 2 ^ (x.e - q).toNat else roundNat mode m (q - x.e).toNat
    let code := (q - f.unit).toNat * 2 ^ f.mb + r
    if f.top < code then (sign + f.top, true) else (sign + code, false)

/-! ## FP32 and FP16 (R264) -/

/-- The number of an FP32 code; a code that is not finite, from a block that the manual leaves unchecked, is open. -/
def f32 (code : Nat) : Dy := if fmt32.finite code then fmt32.value code else ⟨Config.openReal code, -149⟩

/-- An FP32 code: to nearest, ties to even. -/
def to32 (x : Dy) : Nat := (fmt32.round 0 x).1

def f16 (code : Nat) : Dy := fmt16.value code
def to16 (x : Dy) : Nat := (fmt16.round 0 x).1

/-- The sign bit of an FP32 code. -/
def fneg (a : Nat) : Bool := bitOf a 31

/-- An FP32 code with a sign of its own. -/
def withSign (neg : Bool) (r : Nat) : Nat := r % 2 ^ 31 + (if neg then 2 ^ 31 else 0)

/-- A rounded result; an exact zero has the sign given, since negative zero is kept (R265). -/
def roundSigned (neg : Bool) (x : Dy) : Nat := if x.n = 0 then withSign neg 0 else to32 x

/-- FP32 operations on codes, each rounded once to nearest, ties to even; a zero has the sign of IEEE 754. -/
def fadd (a b : Nat) : Nat := roundSigned (fneg a && fneg b) ((f32 a).add (f32 b))
def fmul (a b : Nat) : Nat := roundSigned (fneg a != fneg b) ((f32 a).mul (f32 b))
def ffma (a b c : Nat) : Nat :=
  roundSigned ((fneg a != fneg b) && fneg c) (((f32 a).mul (f32 b)).add (f32 c))
def fle (a b : Nat) : Bool := (f32 a).le (f32 b)
def flt (a b : Nat) : Bool := (f32 a).lt (f32 b)
def fofInt (i : Int) : Nat := to32 (Dy.ofInt i)

/-- A decimal constant n / d as a dyadic of 2⁻⁹⁶ of its size. -/
def Dy.ratio (n : Int) (d : Nat) : Dy := (Dy.ofInt n).div (Dy.ofInt (d : Int))

/-- An interval of units of 2⁻¹⁶ ns as seconds. -/
def secondsOf (i : Interval) : Dy := (⟨i, -16⟩ : Dy).div (Dy.ofInt 1000000000)

end Sys2Proof.Machine
end

