-- ==== Sys2Proof/Machine/Params.lean ====
section
/-! DEFINITION. The parameter blocks of the commands of fixed length, field by field: place, width, factory default
and the values that R50 admits. One table per chapter of the manual, from its field maps. -/

namespace Sys2Proof.Machine

/-- What a parameter field admits. An FP field for which no rule names a range or refuses a code that is not finite takes every
code; such a code then stands for an open real number (DESIGN CHOICE, assumption 121). -/
inductive PKind where
  /-- any value of its width -/
  | any
  /-- reserved: zero (R11) -/
  | res
  /-- an unsigned range -/
  | rng (lo hi : Nat)
  /-- zero, or an unsigned range -/
  | zeroOr (lo hi : Nat)
  /-- an unsigned range, or the all-classes code -/
  | rngOr (lo hi other : Nat)
  /-- a signed range -/
  | srng (lo hi : Int)
  /-- a finite FP32 between two codes -/
  | fp (lo hi : Nat)
  /-- any finite FP32 -/
  | fin32
  /-- any finite FP16 -/
  | fin16
  /-- a DTS (Table 0.4) -/
  | dts
deriving DecidableEq, Repr

/-- A field of a parameter block. -/
structure PField where
  lo : Nat
  w : Nat
  dflt : Nat
  kind : PKind
deriving DecidableEq, Repr

/-- The place of a finite FP32 code in the order of the numbers. -/
def fpOrd (c : Nat) : Int := if c < 2147483648 then (c : Int) else 2147483648 - (c : Int)

/-- An FP32 code is finite. -/
def fpFinite (c : Nat) : Bool := decide (c / 8388608 % 256 ≠ 255)

/-- Whether a field's value is admitted. -/
def PKind.ok (w n : Nat) : PKind → Bool
  | .any => true
  | .res => n == 0
  | .rng lo hi => decide (lo ≤ n) && decide (n ≤ hi)
  | .zeroOr lo hi => n == 0 || (decide (lo ≤ n) && decide (n ≤ hi))
  | .rngOr lo hi o => n == o || (decide (lo ≤ n) && decide (n ≤ hi))
  | .srng lo hi => decide (lo ≤ signedOf w n) && decide (signedOf w n ≤ hi)
  | .fp lo hi => fpFinite n && decide (fpOrd lo ≤ fpOrd n) && decide (fpOrd n ≤ fpOrd hi)
  | .fin32 => fpFinite n
  | .fin16 => decide (n / 1024 % 32 ≠ 31)
  | .dts => dtsValid n

/-- Whether a block's field is admitted. -/
def PField.ok (b : Bytes) (f : PField) : Bool := f.kind.ok f.w (fld b f.lo f.w)

/-- A field map, by its opcode, ascending bits. -/
def fieldsSystemTime : Nat → List PField
  | 0x0102 => [⟨0, 2, 0, .rng 1 2⟩, ⟨2, 2, 0, .res⟩, ⟨4, 2, 0, .any⟩, ⟨6, 26, 0, .res⟩]
  | 0x0104 => [⟨0, 2, 0, .rng 1 3⟩, ⟨2, 2, 0, .res⟩, ⟨4, 2, 0, .any⟩, ⟨6, 26, 0, .res⟩]
  | 0x0105 => [⟨0, 8, 0, .any⟩, ⟨8, 24, 0, .res⟩]
  | 0x0108 => [⟨0, 2, 0, .rng 0 2⟩, ⟨2, 30, 0, .res⟩]
  | 0x0201 => [⟨0, 8, 0, .rng 0 3⟩, ⟨8, 8, 0, .rng 0 7⟩, ⟨16, 24, 0, .res⟩, ⟨40, 4, 1, .rng 0 3⟩, ⟨44, 4, 0, .res⟩,
      ⟨48, 4, 0, .rng 0 2⟩, ⟨52, 4, 0, .res⟩, ⟨56, 8, 37, .any⟩, ⟨64, 16, 1000, .rng 1 65535⟩,
      ⟨80, 16, 100, .rng 1 1000⟩, ⟨96, 32, 0, .any⟩]
  | 0x0202 => [⟨0, 4, 0, .rng 0 3⟩, ⟨4, 12, 0, .res⟩, ⟨16, 16, 0, .any⟩, ⟨32, 16, 0, .any⟩, ⟨48, 8, 0, .res⟩,
      ⟨56, 8, 50, .rng 1 255⟩, ⟨64, 32, 0, .res⟩, ⟨96, 32, 100, .rng 1 4000000000⟩]
  | 0x0203 => [⟨0, 64, 0, .any⟩, ⟨64, 32, 0, .any⟩, ⟨96, 1, 0, .any⟩, ⟨97, 1, 0, .any⟩, ⟨98, 46, 0, .res⟩,
      ⟨144, 48, 0, .any⟩]
  | 0x0204 => [⟨0, 8, 0, .rng 0 7⟩, ⟨8, 8, 0, .rng 0 3⟩, ⟨16, 8, 0, .rng 0 250⟩, ⟨24, 8, 0, .res⟩,
      ⟨32, 8, 0, .rng 0 2⟩, ⟨40, 8, 0, .rng 0 3⟩, ⟨48, 16, 0, .res⟩]
  | 0x0205 => [⟨0, 96, 0, .dts⟩, ⟨96, 64, 0, .zeroOr 65536000 65536000000000000⟩, ⟨160, 32, 1000, .rng 8 500000000⟩,
      ⟨192, 32, 0, .any⟩, ⟨224, 8, 0, .rng 0 7⟩, ⟨232, 8, 4, .rng 0 4⟩, ⟨240, 8, 0, .rng 0 7⟩, ⟨248, 1, 0, .any⟩,
      ⟨249, 1, 0, .any⟩, ⟨250, 6, 0, .res⟩]
  | 0x0206 => [⟨0, 8, 0, .rng 0 7⟩, ⟨8, 24, 0, .res⟩]
  | 0x0208 => [⟨0, 8, 100, .rng 10 100⟩, ⟨8, 24, 0, .res⟩]
  | _ => []

def fieldsPorts : Nat → List PField
  | 0x0300 => [⟨0, 8, 0, .rng 0 5⟩, ⟨8, 4, 0, .rng 0 6⟩, ⟨12, 4, 0, .rng 0 5⟩, ⟨16, 32, 0, .any⟩, ⟨48, 12, 0, .any⟩,
      ⟨60, 1, 0, .any⟩, ⟨61, 3, 7, .any⟩, ⟨64, 16, 1522, .rng 64 9216⟩, ⟨80, 48, 0, .any⟩, ⟨128, 128, 0, .any⟩]
  | 0x0301 => [⟨0, 8, 0, .rng 0 5⟩, ⟨8, 8, 0, .rng 1 6⟩, ⟨16, 16, 0, .res⟩, ⟨32, 32, 0, .any⟩, ⟨64, 32, 0, .any⟩,
      ⟨96, 32, 0, .any⟩]
  | 0x0302 => [⟨0, 8, 0, .rng 0 3⟩, ⟨8, 8, 0, .res⟩, ⟨16, 8, 0, .rng 0 3⟩, ⟨24, 8, 0, .rng 0 2⟩, ⟨32, 8, 0, .rng 0 127⟩,
      ⟨40, 6, 0, .any⟩, ⟨46, 2, 0, .res⟩, ⟨48, 6, 0, .any⟩, ⟨54, 2, 0, .res⟩, ⟨56, 8, 253, .srng (-7) 1⟩,
      ⟨64, 8, 1, .srng (-3) 4⟩, ⟨72, 8, 0, .srng (-7) 5⟩, ⟨80, 8, 128, .any⟩, ⟨88, 8, 128, .any⟩,
      ⟨96, 8, 3, .rng 2 10⟩, ⟨104, 8, 3, .rng 2 10⟩, ⟨112, 16, 0, .res⟩]
  | 0x0304 => [⟨0, 8, 0, .rng 0 5⟩, ⟨8, 24, 0, .res⟩]
  | 0x0305 => [⟨0, 8, 0, .rng 0 2⟩, ⟨8, 6, 0, .any⟩, ⟨14, 106, 0, .res⟩, ⟨120, 8, 0, .rng 0 100⟩,
      ⟨128, 8, 3, .rng 1 16⟩, ⟨136, 8, 0, .res⟩, ⟨144, 16, 0, .any⟩, ⟨160, 16, 0, .any⟩, ⟨176, 32, 0, .any⟩,
      ⟨208, 48, 0, .any⟩]
  | _ => []

/-- One IMU field descriptor (Table 5.12) at bit `o`. -/
def imuDescriptor (o : Nat) : List PField :=
  [⟨o, 4, 0, .res⟩, ⟨o + 4, 1, 0, .any⟩, ⟨o + 5, 1, 0, .any⟩, ⟨o + 6, 2, 0, .any⟩, ⟨o + 8, 8, 0, .any⟩,
   ⟨o + 16, 16, 0, .res⟩, ⟨o + 32, 32, 0, .any⟩]

def fieldsIngest : Nat → List PField
  | 0x0400 => [⟨0, 8, 0, .rng 0 7⟩, ⟨8, 12, 0, .any⟩, ⟨20, 4, 0, .rng 0 3⟩, ⟨24, 4, 4, .rng 1 4⟩, ⟨28, 4, 0, .any⟩,
      ⟨32, 8, 0x2C, .any⟩, ⟨40, 4, 1, .rng 0 1⟩, ⟨44, 4, 0, .any⟩, ⟨48, 16, 0, .any⟩, ⟨64, 16, 0, .any⟩,
      ⟨80, 16, 500, .rng 1 65535⟩, ⟨96, 32, 0, .any⟩, ⟨128, 8, 0, .res⟩, ⟨136, 2, 0, .rng 0 1⟩, ⟨138, 2, 0, .res⟩,
      ⟨140, 4, 0, .rng 0 4⟩, ⟨144, 16, 0, .any⟩, ⟨160, 32, 0, .any⟩, ⟨192, 32, 10000000, .rng 1 100000000⟩,
      ⟨224, 32, 0, .rng 0 100000000⟩]
  | 0x0401 => [⟨0, 8, 0, .rng 0 7⟩, ⟨8, 2, 0, .rng 0 2⟩, ⟨10, 1, 0, .any⟩, ⟨11, 53, 0, .res⟩, ⟨64, 16, 0, .any⟩,
      ⟨80, 16, 0, .any⟩, ⟨96, 16, 0, .any⟩, ⟨112, 16, 0, .any⟩, ⟨128, 16, 0x1000, .any⟩, ⟨144, 16, 0x1000, .any⟩,
      ⟨160, 16, 0x1000, .any⟩, ⟨176, 16, 0x1000, .any⟩]
  | 0x0402 => [⟨0, 8, 0, .rng 0 7⟩, ⟨8, 24, 0, .res⟩, ⟨32, 32, 0, .any⟩, ⟨64, 32, 0, .any⟩]
  | 0x0403 => [⟨0, 8, 0, .rng 0 7⟩, ⟨8, 24, 0, .res⟩, ⟨32, 32, 0, .any⟩, ⟨64, 32, 0, .any⟩]
  | 0x0404 => [⟨0, 64, 0, .res⟩, ⟨64, 8, 0, .rng 0 7⟩, ⟨72, 8, 0, .rng 0 5⟩, ⟨80, 16, 0, .any⟩, ⟨96, 32, 0, .any⟩,
      ⟨128, 8, 0, .rng 0 7⟩, ⟨136, 8, 0, .rng 0 2⟩, ⟨144, 16, 0, .any⟩, ⟨160, 16, 16, .rng 16 4096⟩,
      ⟨176, 16, 1, .rng 1 256⟩, ⟨192, 16, 3000, .any⟩, ⟨208, 8, 2, .rng 0 2⟩, ⟨216, 8, 10, .rng 5 30⟩,
      ⟨224, 16, 0, .any⟩, ⟨240, 16, 10000, .rng 1 65535⟩]
  | 0x0405 => [⟨0, 8, 0, .rng 0 3⟩, ⟨8, 48, 0, .res⟩, ⟨56, 8, 0, .rng 0 7⟩, ⟨64, 2, 3, .any⟩, ⟨66, 6, 0, .res⟩,
      ⟨72, 8, 10, .any⟩, ⟨80, 16, 10000, .rng 100 25000⟩, ⟨96, 32, 0, .any⟩, ⟨128, 4, 0, .rng 0 4⟩, ⟨132, 4, 0, .res⟩,
      ⟨136, 8, 2, .rng 2 64⟩, ⟨144, 16, 1000, .rng 100 8000⟩, ⟨160, 32, 0, .rng 0 1000000⟩] ++
      (List.range 8).flatMap (fun n => imuDescriptor (192 + 64 * n))
  | 0x0406 => [⟨0, 8, 0, .rng 0 3⟩, ⟨8, 1, 0, .any⟩, ⟨9, 23, 0, .res⟩, ⟨32, 8, 0, .rng 0 3⟩, ⟨40, 8, 0, .res⟩,
      ⟨48, 8, 4, .rng 0 250⟩, ⟨56, 8, 0, .res⟩, ⟨64, 32, 4, .rng 4 1048576⟩, ⟨96, 32, 0, .any⟩]
  | 0x0408 => [⟨0, 8, 0, .any⟩, ⟨8, 24, 0, .res⟩]
  | _ => []

def fieldsMotion : Nat → List PField
  | 0x0500 => [⟨0, 8, 0, .any⟩, ⟨8, 8, 0, .res⟩, ⟨16, 16, 0, .any⟩, ⟨32, 32, 0x3F800000, .any⟩, ⟨64, 32, 0, .any⟩,
      ⟨96, 32, 0, .any⟩, ⟨128, 32, 0, .any⟩, ⟨160, 32, 0, .any⟩, ⟨192, 32, 0, .any⟩, ⟨224, 32, 0, .any⟩] ++
      (List.range 8).map (fun n => ⟨256 + 32 * n, 32, 0, .any⟩)
  | 0x0501 => [⟨0, 8, 0, .rng 0 7⟩, ⟨8, 16, 0, .res⟩, ⟨24, 8, 30, .rng 1 30⟩, ⟨32, 8, 2, .rng 1 10⟩,
      ⟨40, 8, 16, .rng 1 255⟩, ⟨48, 32, 0, .any⟩, ⟨80, 8, 20, .rng 1 100⟩, ⟨88, 8, 25, .rng 1 100⟩,
      ⟨96, 8, 3, .rng 1 15⟩, ⟨104, 8, 30, .rng 1 255⟩, ⟨112, 16, 0, .res⟩]
  | 0x0502 => [⟨0, 16, 20000, .rng 1 50000⟩, ⟨16, 48, 0, .res⟩, ⟨64, 32, 0x40A00000, .fp 0 0x42C80000⟩,
      ⟨96, 32, 0x40000000, .fp 0 0x42C80000⟩]
  | 0x0503 => [⟨0, 32, 0x3D4CCCCD, .any⟩, ⟨32, 32, 0x3CA3D70A, .any⟩, ⟨64, 32, 0x3BA3D70A, .any⟩,
      ⟨96, 32, 0x3E4CCCCD, .any⟩, ⟨128, 32, 0x3D4CCCCD, .any⟩, ⟨160, 16, 0, .res⟩, ⟨176, 8, 8, .rng 1 16⟩,
      ⟨184, 8, 28, .rng 1 100⟩, ⟨192, 16, 256, .rng 16 4096⟩, ⟨208, 8, 20, .rng 1 100⟩, ⟨216, 8, 25, .rng 1 100⟩,
      ⟨224, 8, 3, .rng 1 15⟩, ⟨232, 8, 30, .rng 1 255⟩, ⟨240, 8, 3, .rng 1 255⟩, ⟨248, 8, 128, .any⟩]
  | 0x0504 => [⟨0, 8, 0, .rng 0 1⟩, ⟨8, 1, 0, .any⟩, ⟨9, 1, 1, .any⟩, ⟨10, 22, 0, .res⟩, ⟨32, 32, 0, .any⟩,
      ⟨64, 32, 0, .any⟩, ⟨96, 32, 0, .any⟩, ⟨128, 64, 0, .any⟩, ⟨192, 64, 0, .any⟩]
  | 0x0505 => [⟨0, 96, 0, .dts⟩, ⟨96, 32, 0, .res⟩]
  | _ => []

def fieldsPointRink : Nat → List PField
  | 0x0600 => [⟨0, 2, 0, .rng 0 2⟩, ⟨2, 2, 0, .res⟩, ⟨4, 12, 200, .rng 50 1000⟩, ⟨16, 16, 63536, .srng (-10000) 10000⟩,
      ⟨32, 8, 32, .rng 1 64⟩, ⟨40, 8, 16, .rng 0 32⟩, ⟨48, 16, 200, .rng 0 1000⟩, ⟨64, 32, 2097152, .rng 65536 2097152⟩,
      ⟨96, 16, 500, .rng 200 2000⟩, ⟨112, 16, 0, .res⟩]
  | 0x0700 => [⟨0, 4, 2, .rng 0 5⟩, ⟨4, 4, 0, .res⟩, ⟨8, 1, 0, .any⟩, ⟨9, 55, 0, .res⟩]
  | 0x0702 => [⟨0, 8, 0, .rng 0 48⟩, ⟨8, 24, 0, .res⟩]
  | 0x0703 => [⟨0, 1, 0, .any⟩, ⟨1, 7, 0, .res⟩, ⟨8, 8, 0, .any⟩, ⟨16, 8, 40, .rng 1 40⟩, ⟨24, 8, 1, .rng 1 30⟩,
      ⟨32, 32, 0, .res⟩]
  | 0x0800 => [⟨0, 32, 0, .any⟩, ⟨32, 32, 0, .any⟩, ⟨64, 32, 0, .res⟩]
  | 0x0801 => [⟨0, 8, 0, .any⟩, ⟨8, 2, 0, .any⟩, ⟨10, 22, 0, .res⟩]
  | 0x0803 => [⟨0, 8, 0, .any⟩, ⟨8, 24, 0, .res⟩]
  | _ => []

def fieldsGlideQueues : Nat → List PField
  | 0x0A00 => [⟨0, 8, 0, .rngOr 0 15 255⟩, ⟨8, 40, 0, .res⟩, ⟨48, 8, 20, .any⟩, ⟨56, 8, 64, .any⟩, ⟨64, 8, 96, .any⟩,
      ⟨72, 8, 26, .any⟩, ⟨80, 8, 166, .any⟩, ⟨88, 8, 64, .any⟩, ⟨96, 8, 128, .any⟩, ⟨104, 8, 77, .rng 1 255⟩,
      ⟨112, 16, 2000, .rng 100 10000⟩, ⟨128, 32, 0x3D4CCCCD, .fin32⟩, ⟨160, 32, 0x3E4CCCCD, .fin32⟩,
      ⟨192, 32, 0x3DCCCCCD, .fin32⟩, ⟨224, 32, 0x41135C29, .fp 0x3F800000 0x42C80000⟩,
      ⟨256, 16, 0x2E66, .fin16⟩, ⟨272, 16, 0x211F, .fin16⟩, ⟨288, 16, 0x2E66, .fin16⟩, ⟨304, 16, 0x3C00, .fin16⟩,
      ⟨320, 16, 0x3C00, .fin16⟩, ⟨336, 16, 0x211F, .fin16⟩, ⟨352, 16, 0x2E66, .fin16⟩, ⟨368, 16, 0x3C00, .fin16⟩]
  | 0x0A01 => [⟨0, 32, 0, .res⟩, ⟨32, 1, 0, .any⟩, ⟨33, 7, 0, .res⟩, ⟨40, 8, 166, .any⟩, ⟨48, 16, 1024, .rng 0 1024⟩,
      ⟨64, 16, 0xFFFF, .any⟩, ⟨80, 16, 0, .res⟩, ⟨96, 32, 0x40000000, .fp 0 0x41200000⟩]
  | 0x0A03 => [⟨0, 8, 0, .any⟩, ⟨8, 8, 0, .rng 0 5⟩, ⟨16, 8, 0, .any⟩, ⟨24, 8, 166, .any⟩, ⟨32, 16, 0xFFFF, .any⟩,
      ⟨48, 16, 0, .res⟩, ⟨64, 32, 5000, .rng 0 86400000⟩, ⟨96, 32, 0x41200000, .fp 0x3F000000 0x43480000⟩,
      ⟨128, 32, 10000, .rng 0 3600000⟩, ⟨160, 96, 0, .res⟩]
  | 0x0B00 => [⟨0, 1, 0, .any⟩, ⟨1, 31, 0, .res⟩]
  | 0x0B01 => [⟨0, 8, 1, .rng 1 3⟩, ⟨8, 8, 0, .res⟩, ⟨16, 16, 0, .any⟩, ⟨32, 32, 0, .res⟩]
  | 0x0B02 => [⟨0, 8, 48, .rng 1 64⟩, ⟨8, 8, 16, .rng 0 63⟩, ⟨16, 8, 48, .rng 1 64⟩, ⟨24, 8, 16, .rng 0 63⟩,
      ⟨32, 32, 0, .res⟩]
  | 0x0B03 => [⟨0, 8, 2, .rng 2 3⟩, ⟨8, 24, 0, .res⟩]
  | _ => []

def fieldsPatrolSafety : Nat → List PField
  | 0x0C00 => [⟨0, 32, 0, .any⟩, ⟨32, 8, 0, .rng 0 167⟩, ⟨40, 1, 0, .any⟩, ⟨41, 23, 0, .res⟩]
  | 0x0C01 => [⟨0, 8, 0, .rng 0 3⟩, ⟨8, 12, 0, .res⟩, ⟨20, 12, 0, .any⟩, ⟨32, 3, 0, .res⟩, ⟨35, 6, 0, .any⟩,
      ⟨41, 23, 0, .any⟩, ⟨64, 64, 0, .res⟩]
  | 0x0C02 => [⟨0, 5, 0, .rng 1 17⟩, ⟨5, 3, 0, .res⟩, ⟨8, 8, 0, .rng 0 3⟩, ⟨16, 16, 0, .res⟩, ⟨32, 32, 0, .any⟩]
  | 0x0C03 => [⟨0, 24, 400, .rng 50 10000⟩, ⟨24, 8, 0, .res⟩]
  | 0x0C04 => [⟨0, 16, 16, .rng 1 1000⟩, ⟨16, 8, 4, .rng 1 255⟩, ⟨24, 8, 0, .res⟩, ⟨32, 32, 3600, .rng 1 86400⟩,
      ⟨64, 16, 16, .rng 1 1024⟩, ⟨80, 48, 0, .res⟩]
  | 0x0D00 => [⟨0, 8, 0, .rng 1 6⟩, ⟨8, 8, 0, .res⟩, ⟨16, 16, 0, .any⟩, ⟨32, 32, 0, .any⟩]
  | 0x0D01 => [⟨0, 8, 0, .rng 0 7⟩, ⟨8, 1, 1, .any⟩, ⟨9, 19, 0, .res⟩, ⟨28, 4, 0, .rng 0 4⟩, ⟨32, 16, 0, .any⟩,
      ⟨48, 8, 1, .rng 0 3⟩, ⟨56, 8, 1, .rng 1 16⟩, ⟨64, 16, 100, .any⟩, ⟨80, 16, 500, .rng 60 65535⟩,
      ⟨96, 32, 0, .res⟩]
  | 0x0D03 => [⟨0, 12, 0, .any⟩, ⟨12, 6, 0, .any⟩, ⟨18, 2, 0, .res⟩, ⟨20, 4, 0, .rng 0 3⟩, ⟨24, 8, 0, .res⟩,
      ⟨32, 32, 0, .any⟩, ⟨64, 64, 0, .res⟩]
  | 0x0D04 => [⟨0, 16, 0, .any⟩, ⟨16, 16, 0, .res⟩]
  | _ => []

/-- One region map entry (Table 17.2) at bit `o`. -/
def regionEntry (o : Nat) : List PField :=
  [⟨o, 1, 0, .any⟩, ⟨o + 1, 47, 0, .res⟩, ⟨o + 48, 8, 0, .srng (-18) 18⟩, ⟨o + 56, 8, 0, .srng (-24) 24⟩,
   ⟨o + 64, 8, 0, .res⟩, ⟨o + 72, 8, 0, .rng 0 5⟩, ⟨o + 80, 48, 0, .any⟩]

def fieldsPeersPowerSecurity : Nat → List PField
  | 0x0E00 => [⟨0, 4, 0, .any⟩, ⟨4, 28, 0, .res⟩]
  | 0x0E02 => (List.range 16).flatMap (fun n => regionEntry (128 * n))
  | 0x0F01 => [⟨0, 1, 1, .any⟩, ⟨1, 7, 0, .res⟩, ⟨8, 8, 0, .any⟩] ++
      (List.range 8).map (fun n => ⟨16 + 2 * n, 2, 0, .rng 0 2⟩) ++
      [⟨32, 64, 0, .res⟩, ⟨96, 32, 0, .rng 0 4000000⟩]
  | 0x0F02 => [⟨0, 8, 0, .res⟩, ⟨8, 8, 115, .rng 70 255⟩, ⟨16, 8, 125, .rng 100 125⟩, ⟨24, 8, 0, .res⟩,
      ⟨32, 8, 5, .rng 2 20⟩, ⟨40, 8, 3, .rng 1 10⟩, ⟨48, 8, 10, .rng 1 30⟩, ⟨56, 8, 30, .rng 1 255⟩, ⟨64, 64, 0, .res⟩]
  | 0x1001 => [⟨0, 8, 0, .rng 0 1⟩, ⟨8, 24, 0, .res⟩, ⟨32, 32, 0, .any⟩, ⟨64, 32, 0, .any⟩, ⟨96, 32, 0, .res⟩]
  | 0x1002 => [⟨0, 8, 0, .rng 0 1⟩, ⟨8, 24, 0, .res⟩, ⟨32, 32, 0, .any⟩]
  | 0x1003 => [⟨0, 256, 0, .any⟩, ⟨256, 32, 0, .any⟩, ⟨288, 96, 0, .res⟩]
  | 0x1004 => [⟨0, 2, 0, .any⟩, ⟨2, 30, 0, .res⟩, ⟨32, 32, 0, .any⟩]
  | 0x1005 => [⟨0, 8, 0, .rng 0 2⟩, ⟨8, 24, 0, .res⟩, ⟨32, 32, 0, .any⟩, ⟨64, 32, 0, .any⟩, ⟨96, 32, 0, .any⟩]
  | 0x1101 => [⟨0, 8, 0, .rng 0 3⟩, ⟨8, 8, 0, .any⟩, ⟨16, 48, 0, .res⟩, ⟨64, 32, 0, .any⟩, ⟨96, 32, 0, .rng 1 4294967295⟩]
  | _ => []

/-- The field map of a command of fixed length, by the subsystem code in the opcode's high byte (R26). -/
def paramFields (op : Nat) : List PField :=
  match op / 256 with
  | 0x01 | 0x02 => fieldsSystemTime op
  | 0x03 => fieldsPorts op
  | 0x04 => fieldsIngest op
  | 0x05 => fieldsMotion op
  | 0x06 | 0x07 | 0x08 => fieldsPointRink op
  | 0x0A | 0x0B => fieldsGlideQueues op
  | 0x0C | 0x0D => fieldsPatrolSafety op
  | _ => fieldsPeersPowerSecurity op

/-- The byte offset of the first bad parameter of a block: ascending offset (R50). -/
def firstBad (op : Nat) (b : Bytes) : Option Nat :=
  ((paramFields op).find? (fun f => !f.ok b)).map (fun f => f.lo / 8)

/-- The factory default of a block from its field map, with an index in its field. -/
def defaultBlock (op bytes indexLo indexW idx : Nat) : Bytes :=
  pack bytes ((paramFields op).map (fun f => (f.lo, f.w, if f.lo = indexLo ∧ f.w = indexW then idx else f.dflt)))

end Sys2Proof.Machine
end

