-- ==== Sys2Proof/Machine/Settings.lean ====
section
/-! DEFINITION. The factory defaults of the settings (R527, Table 19.2). -/

namespace Sys2Proof.Machine

/-- Gate windows at their factory defaults: MIN and MAX of Gates 1 to 6 (Table 16.8, R462). -/
def gateDefault : Nat → Nat × Nat
  | 1 => (50, 250)
  | 2 => (0, 500)
  | 3 => (0, 500)
  | 4 => (100, 12000)
  | 5 => (100, 2000)
  | _ => (512, 500 * 65536 + 1075)

/-- The source number of Table 5.1 at a place. -/
def placeNumber (i : Nat) : Nat :=
  if i < 8 then i else if i < 16 then i + 8 else if i < 20 then i + 16 else if i < 24 then i + 28 else i + 40

/-- The default calibration of a source: STEERED_FRONT is 1 on a CAN controller (Table 6.2). -/
def calibDefault (i : Nat) : Bytes :=
  pack 64 [(0, 8, placeNumber i), (16, 1, flag (decide (24 ≤ i))), (32, 32, 0x3F800000)]

/-- The factory default of a setting: the block of its field map with its index in place. -/
def factory (op idx : Nat) : Bytes :=
  match op with
  | 0x0201 | 0x0202 | 0x0302 => defaultBlock op 16 999 0 0
  | 0x0204 => defaultBlock op 8 0 8 idx
  | 0x0205 => defaultBlock op 32 224 8 idx
  | 0x0208 => defaultBlock op 4 999 0 0
  | 0x0300 => defaultBlock op 32 0 8 idx
  | 0x0301 => pack 16 [(0, 8, idx / 16), (8, 8, idx % 16)]
  | 0x0305 => defaultBlock op 32 999 0 0
  | 0x0400 => defaultBlock op 32 0 8 idx
  | 0x0401 => defaultBlock op 24 0 8 idx
  | 0x0404 => defaultBlock op 32 64 8 idx
  | 0x0405 => defaultBlock op 88 0 8 idx
  | 0x0406 => defaultBlock op 16 0 8 idx
  | 0x0407 => pack 16 [(0, 8, idx), (16, 16, 100), (32, 8, 80), (40, 8, 75), (48, 16, 500)]
  | 0x0500 => calibDefault idx
  | 0x0501 | 0x0502 => defaultBlock op 16 999 0 0
  | 0x0503 | 0x0504 => defaultBlock op 32 999 0 0
  | 0x0600 => defaultBlock op 16 999 0 0
  | 0x0700 | 0x0703 => defaultBlock op 8 999 0 0
  | 0x0A00 => defaultBlock op 48 0 8 idx
  | 0x0A01 => defaultBlock op 16 999 0 0
  | 0x0A02 => pack 8 [(0, 8, idx)]
  | 0x0A03 => defaultBlock op 32 0 8 idx
  | 0x0B00 => defaultBlock op 4 999 0 0
  | 0x0B01 => pack 8 [(0, 8, idx)]
  | 0x0B02 => defaultBlock op 8 999 0 0
  | 0x0C03 => defaultBlock op 4 999 0 0
  | 0x0C04 => defaultBlock op 16 999 0 0
  | 0x0D00 => pack 8 [(0, 8, idx), (16, 16, (gateDefault idx).1), (32, 32, (gateDefault idx).2)]
  | 0x0D01 => defaultBlock op 16 0 8 idx
  | 0x0E00 => defaultBlock op 4 999 0 0
  | 0x0E02 => defaultBlock op 256 99999 0 0
  | 0x0F01 | 0x0F02 => defaultBlock op 16 999 0 0
  | _ => []

end Sys2Proof.Machine
end

