-- ==== Sys2Proof/Parts/Point.lean ====
section
/-! DEFINITION. The state of the point engines (chapter 07). -/

namespace Sys2Proof.Machine

/-- An entry of the voxel table (Table 7.3). -/
structure Voxel where
  bucket : Nat
  way : Nat
  near : Bool
  lidar : Nat
  keyX : Nat
  keyY : Nat
  keyZ : Nat
  scanIndex : Nat
  hits : Nat
  dt : Int
  intensity : Nat
  offX : Nat
  offY : Nat
  offZ : Nat
  /-- the anchor position of the kept point, for the reference store (R218): FP32 codes -/
  posX : Nat
  posY : Nat
  posZ : Nat
deriving DecidableEq, Repr, Inhabited

/-- A cell of a reference store (R218); the mean position is FP32 codes. -/
structure RefCell where
  cx : Int
  cy : Int
  cz : Int
  /-- its way in the bucket of its indices -/
  way : Nat
  x : Nat
  y : Nat
  z : Nat
  count : Nat
deriving DecidableEq, Repr, Inhabited

/-- A reference store: the frame it was built from, and its cells. -/
structure RefStore where
  frame : Option Nat
  cells : List RefCell
deriving DecidableEq, Repr, Inhabited

/-- A deskewed point on its way into the take: a range-image entry with DESKEWED set (R171, R201). -/
structure DeskPoint where
  lidar : Nat
  scanIndex : Nat
  time : Dts
  near : Bool
  intensity : Nat
  /-- anchor-frame position: FP32 codes -/
  x : Nat
  y : Nat
  z : Nat
  /-- the mapped instant of its sweep (R177) -/
  mu : Dts
deriving DecidableEq, Repr, Inhabited

/-- A delivered rule book: patch slot, set, and its bytes (R214). -/
structure RuleBook where
  slot : Nat
  set : Nat
  bytes : Bytes
  truncated : Bool
deriving DecidableEq, Repr, Inhabited

/-- A frame the point engines hold: waiting, taken, or being built. -/
structure Take where
  frame : Nat
  instant : Dts
  points : List DeskPoint
  lidarClose : Dts
  /-- the take has begun; it is complete -/
  begun : Bool
  complete : Bool
  /-- patches TRUNCATED so far -/
  truncated : List Nat
  /-- the rule books carry NO_LIDAR -/
  noLidar : Bool
  /-- the take was abandoned: the rule books carry TRUNCATED as well (R226, R227) -/
  dropped : Bool
  /-- the vehicle origin's z at the fusion instant, an FP32 code -/
  originZ : Nat
  /-- Rink centre, in patches, and extent the frame was closed with (R217) -/
  centreX : Int
  centreY : Int
  reduced : Bool
deriving DecidableEq, Repr, Inhabited

/-- Per-lidar counters (Table 7.13). -/
structure LidarCounters where
  seen : Nat
  capDropped : Nat
  bucketDropped : Nat
  quotaDropped : Nat
  rowDropped : Nat
  outside : Nat
  merged : Nat
deriving DecidableEq, Repr, Inhabited

/-- The point engines. -/
structure PointState where
  table : List Voxel
  refs : Vector RefStore 2
  latestRef : Option Nat
  /-- the take in progress or its rule books, and the takes that wait behind it, oldest first (R208, R227) -/
  current : Option Take
  waiting : List Take
  books : List RuleBook
  /-- the frame whose rule books are delivered -/
  delivered : Option Nat
  /-- takes whose reference stores have completed since the last block reset (R226) -/
  storesSinceReset : Nat
  /-- the engines retired, and those that the shares in force leave out: as at the start of the latest take (R224) -/
  retired : Nat
  sharesWithout : Nat
  frameNumber : Nat
  taken : Nat
  overCap : Nat
  voxels : Nat
  nearVoxels : Nat
  truncatedFrames : Nat
  takeSkipped : Nat
  latencyUs : Nat
  peakLatencyUs : Nat
  truncatedPatches : Nat
  ruleOverflows : Nat
  refDropped : Nat
  lidars : Vector LidarCounters 8
deriving DecidableEq, Repr, Inhabited

end Sys2Proof.Machine
end

