-- ==== Sys2Proof/Parts/Align.lean ====
section
/-! DEFINITION. The state of alignment and ego-motion (chapter 06). -/

namespace Sys2Proof.Machine

/-- A pose history entry (Table 6.3); the numbers are FP32 and FP16 codes. -/
structure PoseEntry where
  time : Dts
  posX : Nat
  posY : Nat
  posZ : Nat
  qW : Nat
  qX : Nat
  qY : Nat
  qZ : Nat
  velX : Nat
  velY : Nat
  velZ : Nat
  sigmaPos : Nat
  sigmaAtt : Nat
  sigmaVel : Nat
  yawRate : Nat
  imuSwitch : Bool
  degradedEgo : Bool
  standstill : Bool
  wheelAided : Bool
  /-- source number of the primary IMU, 0xFF for none -/
  primary : Nat
  anchorSeq : Nat
deriving DecidableEq, Repr, Inhabited

/-- Trust values (Table 6.13). -/
inductive Trust where
  | trusted
  | suspect
  | excluded
  | timeUntrusted
  | notInUse
  | abstaining
deriving DecidableEq, Repr, Inhabited

/-- The trust of one source and its counters (Table 6.12). -/
structure SourceTrust where
  trust : Trust
  disagreeRun : Nat
  missRun : Nat
  inRun : Nat
  recoveries : Nat
  voteOuts : Nat
  misses : Nat
  outOfWindow : Nat
  late : Nat
  deskewRefused : Nat
  shadowRun : Nat
  /-- sets in a row without an admitted unit (R178) -/
  sinceAdmitted : Nat
deriving DecidableEq, Repr, Inhabited

/-- One ego-motion voter (R185 to R192): 0 IMU, 1 wheels, 2 lidar. -/
structure Voter where
  trust : Trust
  outRun : Nat
  shadowRun : Nat
  /-- it has taken part in a vote, and it abstained in the latest one -/
  voted : Bool
  abstained : Bool
deriving DecidableEq, Repr, Inhabited

/-- One wheel (R160, R161, R188): 0 front left to 3 rear right. -/
structure Wheel where
  slipping : Bool
  goodFrames : Nat
  slips : Nat
  /-- the speed of the latest update in µm/s, and the instant at which it is valid (R161) -/
  speed : Int
  at_ : Dts
  /-- the contact point x and y and the steering angle of the source that serves it, FP32 codes (Table 6.2) -/
  contact : List Nat
  /-- zero speed has been reported since -/
  zeroFrom : Option Dts
  hasData : Bool
deriving DecidableEq, Repr, Inhabited

/-- An integration of the motion unit (R160, R162): pose numbers in the order of Table 6.3, the filter's state, and the
instant they stand at. -/
structure Nav where
  numbers : List Nat
  filter : List Nat
  at_ : Option Dts
deriving DecidableEq, Repr, Inhabited

/-- The wheel voter's fit of a frame: the wheels with their rows of A and B (FP32 codes), and the solution, empty until the
job has ended well. -/
structure WheelFit where
  frame : Nat
  wheels : List (Nat × List (List Nat))
  out : Bytes
deriving DecidableEq, Repr, Inhabited

/-- EGO_VERDICT of Table 6.11. -/
inductive Verdict where
  | majority
  | contested
  | ambiguous
  | noVerdict
deriving DecidableEq, Repr, Inhabited

/-- The fusion set of one fusion instant (R173 to R181). -/
structure FusionSet where
  frame : Nat
  instant : Dts
  poseReady : Bool
  recentred : Bool
  /-- the Rink centre and the accumulated rebase in patches, as ordered for this frame -/
  centreX : Int
  centreY : Int
  rebaseX : Int
  rebaseY : Int
  /-- the vehicle origin's z at F, an FP32 code (R204) -/
  originZ : Nat
  /-- what each IMU alone states over the interval that ends at F, FP32 codes (R185) -/
  motions : List (List Nat)
  cameraClosed : Bool
  lidarClosed : Bool
  /-- admitted camera frames: receiver and ring slot -/
  cameras : List (Nat × Nat)
  /-- admitted sweeps: lidar numbers -/
  lidars : List Nat
  /-- the frame has been skipped or abandoned -/
  skipped : Bool
  /-- the frame has been handed to the tiles -/
  handed : Bool
  /-- the ego vote of the frame has been held -/
  voted : Bool
deriving DecidableEq, Repr, Inhabited

/-- Scan matching in progress (R185): frame, iterations completed, whether the last update was below the limits. -/
structure ScanMatch where
  frame : Nat
  instant : Dts
  iterations : Nat
  converged : Bool
  /-- the points picked from the frame's deskewed points -/
  points : List DeskPoint
  /-- points that found neighbours -/
  matched : Nat
  /-- the corrections of the completed iterations, oldest first -/
  outs : List Bytes
  jobRunning : Bool
deriving DecidableEq, Repr, Inhabited

/-- A patch or track in CONTESTED and its frames without contest (R191). -/
structure Contest where
  id : Nat
  clearFrames : Nat
deriving DecidableEq, Repr, Inhabited

/-- Alignment and motion. -/
structure Align where
  /-- the pose history, newest first -/
  history : List PoseEntry
  /-- the primary IMU -/
  primary : Option Nat
  /-- IMU_SWITCH goes into the next entry -/
  switched : Bool
  /-- the fused state (R160) -/
  fused : Nav
  /-- each IMU's own integration since the latest fusion instant (R162, R185), and the fused state at that instant -/
  alone : Vector Nav 4
  aloneFrom : Nav
  wheels : Vector Wheel 4
  lastWheelUpdate : Dts
  trust : Vector SourceTrust 26
  voters : Vector Voter 3
  /-- an anchor is set -/
  anchorSet : Bool
  anchorSeq : Nat
  /-- accumulated rebase offset, in patch lengths -/
  rebaseX : Int
  rebaseY : Int
  /-- the SET_PAIRING block in force (R175) -/
  pairing : Bytes
  nextFrame : Nat
  /-- the Rink centre as last ordered, in patches (R184), and the frames whose recentre is ordered and not yet applied -/
  centreX : Int
  centreY : Int
  recentreDue : List Nat
  /-- fusion instants lie at or after this instant (R173) -/
  fusionFrom : Dts
  sets : List FusionSet
  /-- the latest fusion instant (R491) -/
  lastFusion : Dts
  emptyRun : Nat
  scan : Option ScanMatch
  wheelFit : Option WheelFit
  /-- frames voted or judged since ENTER_RUN or a posture change (R186) -/
  votedFrames : Nat
  lastVoteFrame : Nat
  verdict : Verdict
  egoContested : Bool
  ambiguous : Nat
  recentres : Nat
  contestedPatches : List Contest
  contestedTracks : List Contest
  /-- DEGRADED_EGO (R163) -/
  degradedEgo : Bool
  /-- the latest ego state was valid (Table 6.14) -/
  egoWasValid : Bool
deriving DecidableEq, Repr, Inhabited

end Sys2Proof.Machine
end

