-- ==== Sys2Proof/Parts/Device.lean ====
section
/-! DEFINITION. The device state, the settings, the LPDDR memories the host port reaches, and the record of what
leaves the device (chapters 00, 02). -/

namespace Sys2Proof.Machine

/-- The device states of Table 0.2. -/
inductive DeviceState where
  | boot
  | setup
  | run
  | safe
deriving DecidableEq, Repr, Inhabited

/-- The two postures of RUN, and Standby, in which no state logic runs (chapter 00). -/
inductive Posture where
  | drive
  | sentry
  | standby
deriving DecidableEq, Repr, Inhabited

/-- The device's own words of the status block (Table 2.4, Table 2.5). -/
structure Dev where
  state : DeviceState
  /-- the posture of RUN; none outside RUN -/
  posture : Option Posture
  /-- DEGRADATION: bit n set for flag n (R7) -/
  degradation : Nat
  /-- DEGRADATION as the latest tick found it: its result carries it (R7, Table 13.4) -/
  tickDegradation : Nat
  epoch : Nat
  /-- TICK_NUMBER and TICK_INSTANT of the last result written -/
  tickNumber : Nat
  tickInstant : Dts
  /-- TICK_NUMBER the next result takes (R17) -/
  nextTickNumber : Nat
  /-- CONFIG_SOURCE of Table 2.5 -/
  configSource : Nat
  /-- a first result with VALID set has been written since the entry into RUN (R409, R453) -/
  firstValid : Bool
  /-- SETUP has just been reported and the automatic entry into RUN is due (R531) -/
  autoDue : Bool
deriving DecidableEq, Repr, Inhabited

/-- One LPDDR channel (Table 2.18). -/
structure Channel where
  fenced : Bool
  /-- TRAINING: from retention values -/
  fromRetention : Bool
  rowsMarked : Nat
  corrected : Nat
  uncorrected : Nat
deriving DecidableEq, Repr, Inhabited

/-- External memory as the model holds it: sorted cells that differ from the unlisted value. -/
structure Memory where
  staging : List Host.Cell
  exportRegion : List Host.Cell
  channels : Vector Channel 8
deriving DecidableEq, Repr, Inhabited

/-- What left the device: the model's own record, oldest first. -/
inductive Emission where
  /-- an Ethernet frame of a port -/
  | eth (port : Nat) (frame : EthFrame)
  /-- a PMBus VOUT_COMMAND -/
  | pmbus (address page vout : Nat)
  /-- bytes an SPI master, a CAN controller or another master port sent -/
  | spi (master : Nat) (bytes : Bytes)
deriving DecidableEq, Repr, Inhabited

end Sys2Proof.Machine
end

