-- ==== Sys2Proof/Parts/Glide.lean ====
section
/-! DEFINITION. The state of Glide: tracks, results and events (chapter 13). -/

namespace Sys2Proof.Machine

/-- A track context (Table 13.1). STATE, COV and the extents are FP32 and FP16 codes; the CRC is formed on output. -/
structure Track where
  /-- the context's index in the store -/
  index : Nat
  zones : Nat
  stillSinceMs : Nat
  sourceDevice : Nat
  flags : Nat
  life : Nat
  coast : Nat
  age : Nat
  modalities : Nat
  existence : Nat
  classConf : Nat
  cls : Nat
  length : Nat
  width : Nat
  height : Nat
  lastUpdateFrame : Nat
  birthFrame : Nat
  trackId : Nat
  /-- the fusion instant of the birth frame: the model's own, for APPEARED (Table 13.12) -/
  birth : Dts
  lastUpdate : Dts
  /-- 36 codes: the lower triangle, row by row -/
  cov : List Nat
  /-- 8 codes: X, Y, Z, VX, VY, YAW, YAW_RATE, ACCEL -/
  state : List Nat
deriving DecidableEq, Repr, Inhabited

/-- A detection (Table 13.2, R370), or an entry of a merged worker set (R496). Numbers are FP32 codes. -/
structure Detection where
  slot : Nat
  /-- global cell index within the Rink -/
  cell : Nat
  score : Nat
  x : Nat
  y : Nat
  z : Nat
  length : Nat
  width : Nat
  height : Nat
  yaw : Nat
  vx : Nat
  vy : Nat
  sigmaPos : Nat
  sigmaVel : Nat
  sigmaYaw : Nat
  camera : Bool
  lidar : Bool
  cls : Nat
  clsScore : Nat
  /-- what each source that states something of the object says: supported, or observed free (R189) -/
  opinions : List (Nat × Bool)
deriving DecidableEq, Repr, Inhabited

/-- What is pending for one context until the next commit (R375). -/
inductive PendingEntry where
  /-- the context as it will be after the commit; `born` for a birth -/
  | write (ctx : Track) (born : Bool)
  /-- an update job is still running: the propagated track's index and the detection -/
  | job (index : Nat) (det : Detection)
  /-- an update job is still running for a merged entry: the index and the entry as a context -/
  | mergeJob (index : Nat) (entry : Track)
  /-- the update was dropped: the track stays as it was (R372) -/
  | dropped (index : Nat)
deriving DecidableEq, Repr, Inhabited

/-- A frame, or a merged set, whose updates are pending (R371, R375, R496). -/
structure FrameUpdate where
  /-- the name that its solver jobs carry -/
  key : Nat
  frame : Nat
  instant : Dts
  /-- the worker whose set this is; none for the device's own frame -/
  worker : Option Nat
  /-- OBSERVED_MASK of a merged set -/
  observed : Nat
  entries : List PendingEntry
  /-- miss marks: store index, and the patch at f: 0 observed, 1 outside the extent, 2 not served or lost, 3 more than one
  patch length outside -/
  misses : List (Nat × Nat)
  patches : List Nat
  recentred : Bool
  detectionsDropped : Nat
  updatesDropped : Nat
  birthsDropped : Nat
  storeFull : Bool
  /-- device time of the frame's last pending write -/
  finished : Option Dts
deriving DecidableEq, Repr, Inhabited

/-- The detections of one frame on their way to Glide. -/
structure DetectionSet where
  frame : Nat
  instant : Dts
  detections : List Detection
  dropped : Nat
  /-- the patch entries of the frame, without TRACKS (Table 13.6), and the slots observed (R373) -/
  patches : List Nat
  /-- the last detection has arrived, and COUNT then (R372) -/
  arrived : Bool
  arrivedAt : Nat
  /-- the Rink's centre and extent in force for the frame (R373) -/
  centreX : Int
  centreY : Int
  reduced : Bool
  recentred : Bool
  /-- the plan declares both occupancy outputs, and the cross-check of the patches (R189, R192): source, votes it took part
  in, votes in which it was the outlier -/
  checked : Bool
  tally : List (Nat × Nat × Nat)
deriving DecidableEq, Repr, Inhabited

/-- A track propagated to the tick instant (R376, R383). -/
structure PropTrack where
  track : Track
  state : List Nat
  cov : List Nat
  zones : Nat
deriving DecidableEq, Repr, Inhabited

/-- What an event-state entry times (R392). -/
inductive EventStateKind where
  | dwell
  | dwellFired
  | approachArmed
  | holdoff
deriving DecidableEq, Repr, Inhabited

/-- An entry of the event-state table (R392). -/
structure EventState where
  trackId : Nat
  rule : Nat
  kind : EventStateKind
  since : Dts
deriving DecidableEq, Repr, Inhabited

/-- An event (Table 13.13) before its sequence number is given. -/
structure Event where
  tick : Nat
  detection : Dts
  evidence : Dts
  trackId : Nat
  x : Nat
  y : Nat
  errorUs : Nat
  anchorSeq : Nat
  kind : Nat
  rule : Nat
  zone : Nat
  cls : Nat
  existence : Nat
  sentry : Bool
  timeValid : Bool
  timeState : Nat
  degraded : Bool
  patchEvent : Bool
deriving DecidableEq, Repr, Inhabited

/-- The tick's result in formation. -/
structure ResultForm where
  tick : Nat
  instant : Dts
  tracks : List PropTrack
  /-- propagation has ended -/
  done : Bool
  /-- INVALID_REASON so far; 0 none -/
  reason : Nat
deriving DecidableEq, Repr, Inhabited

/-- Glide. -/
structure Glide where
  /-- the live contexts in ascending index -/
  store : List Track
  /-- the LPDDR mirror -/
  mirror : List Track
  nextId : Nat
  /-- detections sent by the tiles, oldest frame first -/
  arriving : List DetectionSet
  /-- updates pending until a commit, in the order of R19 -/
  pending : List FrameUpdate
  /-- the frame of the latest commit and its fusion instant -/
  committed : Nat
  committedInstant : Dts
  /-- the fusion instants of the latest commits of own frames, newest first (R496) -/
  commits : List Dts
  /-- the counts of the reflected frame (Table 13.4) -/
  updatesDropped : Nat
  detectionsDropped : Nat
  birthsDropped : Nat
  storeFull : Bool
  recentred : Bool
  /-- the reflected frame has a TRUNCATED patch (R210) -/
  refTruncated : Bool
  /-- the reflected frame has a PATCH_LOST, HALO_LOST or CAMERA_PARTIAL patch (R257) -/
  refMarked : Bool
  /-- the patch entries of the reflected frame, without TRACKS -/
  patches : List Nat
  result : Option ResultForm
  /-- the track identifiers of the latest result in key order (R372) -/
  lastOrder : List Nat
  eventTable : List EventState
  /-- conditions that found the table full and are untracked, each counted once: track, rule, kind (R392) -/
  untracked : List (Nat × Nat × EventStateKind)
  eventSeq : Nat
  eventStateFull : Nat
  /-- events that wait for their tick, in the order of R394 -/
  events : List Event
  /-- events of the latest tick that were deferred -/
  deferred : Nat
  /-- tracks and rules: inside the rule's zone and qualifying at the previous tick -/
  wasInside : List (Nat × Nat)
  /-- retired propagation pairs, one bit each -/
  pairsRetired : Nat
  /-- track parameters in force since the latest association, sixteen classes, empty before the first (R379); relevance,
  zones and rules in force, which take effect at a tick -/
  params : Vector Bytes 16
  relevance : Bytes
  zones : List (Nat × Bytes)
  rules : List (Nat × Bytes)
  /-- settings that wait for the next tick: the opcode they came by and their block -/
  newAtTick : List (Nat × Bytes)
  /-- a block reset of Glide overlaps the tick's propagation -/
  inReset : Bool
  /-- the reset of R444 waits for its slot: the command that asked for it -/
  blockResetDue : Option (Option CmdKey)
deriving DecidableEq, Repr, Inhabited

end Sys2Proof.Machine
end

