-- ==== Sys2Proof/Parts/Host.lean ====
section
/-! DEFINITION. The state of the host port, the command interpreter and the queues (chapters 02 and 14). -/

namespace Sys2Proof.Machine

/-- The four transfer modes of Table 2.1, in the code order of Table 2.6. -/
inductive PortMode where
  | s1
  | s4
  | s8
  | d8
deriving DecidableEq, Repr, Inhabited

/-- The host port (R30 to R42). -/
structure Port where
  mode : PortMode
  /-- READ_LATENCY of Table 2.6 -/
  readLatency : Nat
  /-- APERTURE_LATENCY of Table 2.6 -/
  apertureLatency : Nat
  /-- R33: the port answers no transfer until this value of COUNT has been reached; none: not before a release -/
  answersFrom : Option Nat
  /-- BAD_INSTRUCTION of Table 2.4 -/
  badInstruction : Nat
  /-- MISALIGNED of Table 2.4 -/
  misaligned : Nat
  /-- APERTURE_BLOCKED of Table 2.4 -/
  apertureBlocked : Nat
  /-- CMD_OVERRUN of Table 2.4 -/
  cmdOverrun : Nat
  /-- the bytes the T48 drove on HOST_DQ in the data phase of the latest transfer; none: lines left undriven (R34) -/
  dq : Option Bytes
  /-- the lines HOST_DQ[7:0] the T48 drove in it, as a mask (Table 2.1, R32) -/
  driven : Nat
  /-- HOST_DS was driven as a strobe in the latest transfer's data phase (R31) -/
  ds : Bool
deriving DecidableEq, Repr, Inhabited

/-- The outcome of a command that its work has settled and its final reply will carry (Table 2.13). -/
structure Final where
  status : Nat
  detail : Nat
  results : Bytes
deriving DecidableEq, Repr, Inhabited

/-- A command taken up (R44 to R56). -/
structure Cmd where
  key : CmdKey
  /-- the T48 opcode (Table 2.12), of a version 1 command its counterpart (Table 2.11) -/
  op : Nat
  /-- the opcode field as the packet carries it -/
  rawOp : Nat
  params : Bytes
  ordered : Bool
  /-- the take-up order -/
  seq : Nat
  /-- COUNT at the take-up instant -/
  takeUp : Nat
  /-- DEADLINE_US; 0 none -/
  deadlineUs : Nat
  /-- COUNT at the start; none before it -/
  started : Option Nat
  /-- the outcome, once the work has ended -/
  outcome : Option Final
  /-- reply-queue words reserved for the replies still to come (R412) -/
  reserved : Nat
deriving DecidableEq, Repr, Inhabited

/-- The refusal that a packet is owed: what its header said, status and DETAIL (R45, R50). -/
structure Owed where
  ver : Ver
  op : Nat
  tag : Nat
  status : Nat
  ordered : Bool
  detail : Nat
deriving DecidableEq, Repr, Inhabited

/-- A packet in the command intake. -/
structure IntakePacket where
  words : List QWord
  seq : Nat
  takeUp : Nat
  /-- the command that passed the checks of R50 and waits to enter flight (R52) -/
  accepted : Option Cmd
  /-- a packet discarded under R45, or refused, whose reply waits for reply space or for its order (R55) -/
  owed : Option Owed
deriving DecidableEq, Repr, Inhabited

/-- The command intake, queue 0 (R43 to R45). -/
structure Intake where
  packets : List IntakePacket
  /-- words of the packet whose END word has not come -/
  partialWords : List QWord
  /-- the packet being received lost a word (R45): the words that had entered before the first loss -/
  lostAfter : Option Nat
  nextSeq : Nat
deriving DecidableEq, Repr, Inhabited

/-- A word in an outbound queue, whether its ECC check will fail (R420), and the values of COUNT at which its packet's first
word is written, it is written itself, and it becomes readable (R406). -/
structure OutWord where
  word : QWord
  damaged : Bool
  begun : Nat
  writtenAt : Nat
  readyAt : Nat
deriving DecidableEq, Repr, Inhabited

/-- One of queues 0 to 3: contents and the counters of Table 14.6. -/
structure OutQueue where
  words : List OutWord
  overrun : Bool
  inReset : Bool
  resets : Nat
  shortened : Nat
  lost : Nat
  peak : Nat
  /-- the fill has reached the high watermark and not yet fallen to the low one (Table 14.6) -/
  aboveHigh : Bool
  /-- the cut-through threshold that applies to the packets now written (R406) -/
  cutThrough : Nat
  /-- the RESET_QUEUE command that waits for the reset, and the number that its reply states (R415) -/
  resetBy : Option CmdKey
  resetNext : Nat
  /-- the latest packet in its staging, and COUNT at its last word -/
  staged : List QWord
  stagedUntil : Nat
deriving DecidableEq, Repr, Inhabited

/-- The notice of a packet that is not readable yet: its cause, the COUNT at which the packet becomes whole or reaches its
threshold, and the instant that its pulse waits for (Table 1.1). -/
structure ComingNotice where
  bit : Nat
  count : Nat
  from_ : Dts
deriving DecidableEq, Repr, Inhabited

/-- Notices (R408, R411, Table 2.7). -/
structure Notices where
  /-- NOTICE_CAUSE -/
  cause : Nat
  /-- NOTICE_MASK -/
  mask : Nat
  /-- pulses waiting on HOST_IRQ_N -/
  waiting : Nat
  /-- notices of packets that are being written -/
  coming : List ComingNotice
  /-- NOTICES_MERGED -/
  merged : Nat
  /-- COUNT at the latest pulse's start -/
  lastPulse : Option Nat
  /-- pulses issued on HOST_IRQ_N: the model's own record of the pin -/
  pulses : Nat
  /-- FC_CMD_N driven low -/
  fcCmd : Bool
  /-- FC_OUT_N driven low -/
  fcOut : Bool
deriving DecidableEq, Repr, Inhabited

/-- The host side of the block. -/
structure HostState where
  port : Port
  intake : Intake
  flight : List Cmd
  reply : OutQueue
  result : OutQueue
  event : OutQueue
  /-- LOST, RESETS and PEAK_WORDS of queue 0 -/
  intakeLost : Nat
  intakeResets : Nat
  intakePeak : Nat
  /-- ABOVE_HIGH of queue 0 -/
  intakeAbove : Bool
  notices : Notices
deriving DecidableEq, Repr, Inhabited

end Sys2Proof.Machine
end

