-- ==== Sys2Proof/Parts/Ingest.lean ====
section
/-! DEFINITION. The state of sensor ingest (chapter 05). -/

namespace Sys2Proof.Machine

/-- A frame in a ring slot: the tensor and what R129 records with it. -/
structure CamFrame where
  tensor : Bytes
  e0 : Dts
  exposure : Nat
  lineTimePs : Nat
  mid : Dts
  arrival : Dts
  /-- the lag of the frame under R152 -/
  lag : Interval
  damaged : Bool
deriving DecidableEq, Repr, Inhabited

/-- One of the three ring slots of a receiver (R130). -/
structure RingSlot where
  held : Bool
  frame : Option CamFrame
  /-- the frame has been admitted to a fusion set -/
  admitted : Bool
  /-- the order in which slots were written: the oldest is written next -/
  age : Nat
deriving DecidableEq, Repr, Inhabited

/-- The frame a receiver is taking in. -/
structure OpenFrame where
  slot : Nat
  arrival : Dts
  e0 : Dts
  lag : Interval
  /-- image lines taken -/
  lines : Nat
  /-- the first line of the quad row whose second line has not come -/
  upper : Option (List Nat)
  tensor : Bytes
  bad : Bool
  /-- the embedded exposure value, once its line has come -/
  embedded : Option Nat
  /-- the embedded frame counter -/
  counter : Option Nat
  embLines : Nat
deriving DecidableEq, Repr, Inhabited

/-- One CSI-2 receiver with its normaliser and ring (R124 to R134). -/
structure Receiver where
  frame : Option OpenFrame
  /-- the frame-start packet was dropped under R128: the rest of the frame is ignored -/
  dropping : Bool
  lastKept : Option Dts
  /-- arrivals of the latest 65 frame-start packets kept, oldest first (R176) -/
  starts : List Dts
  slots : Vector RingSlot 3
  nextAge : Nat
  damagedRun : Nat
  /-- SET_NORMALISER block in force (R132) -/
  norm : Bytes
  /-- shading tables and the active one (R133) -/
  shading : Vector Bytes 2
  activeShading : Nat
  shadingPending : Bool
  /-- instants of the frame-sync edges issued whose frames have not started (R90, R129) -/
  syncs : List Dts
  /-- losses of synchronisation within the frame, per lane or trio -/
  syncLosses : Vector Nat 4
  /-- D-PHY skew calibrations run (R125): the model's own count of the PHY sequence -/
  skewCalibrations : Nat
deriving DecidableEq, Repr, Inhabited

/-- A point of a range image (Table 7.1); X, Y and Z are FP32 codes in the lidar's source frame. -/
structure LidarPoint where
  row : Nat
  col : Nat
  x : Nat
  y : Nat
  z : Nat
  intensity : Nat
  returnIndex : Int
  /-- the point time in the lidar's source time -/
  time : Dts
  near : Bool
deriving DecidableEq, Repr, Inhabited

/-- An entry of a whole range image (Table 7.1): a cell without one is empty, VALID 0. Its numbers are FP32 codes in the
source frame, DESKEWED clear. -/
structure RangeEntry where
  scanIndex : Nat
  x : Nat
  y : Nat
  z : Nat
  /-- the point time after BASE_TIME, units of 512 ns -/
  timeOffset : Nat
  intensity : Nat
  near : Bool
deriving DecidableEq, Repr, Inhabited

/-- A whole range image in LPDDR with its header (R201). -/
structure Sweep where
  /-- BASE_TIME, the earliest point time, and the last one, in the lidar's source time -/
  base : Option Dts
  last : Option Dts
  /-- the lag of its latest packet (R152) -/
  lag : Interval
  rows : Nat
  columns : Nat
  missing : Nat
  lidar : Nat
  valid : Nat
  nearCount : Nat
  /-- μ and the frame that admitted it -/
  mu : Option Interval
  frame : Option Nat
  /-- the point engines have its deskewed points -/
  handed : Bool
  entries : List RangeEntry
deriving DecidableEq, Repr, Inhabited

/-- The range image that the parser fills (R29, R142). -/
structure RangeImage where
  points : List LidarPoint
  columns : List Nat
  first : Option Dts
  last : Option Dts
  /-- the lag of its latest packet (R152) -/
  lag : Interval
deriving DecidableEq, Repr, Inhabited

/-- One lidar (R135 to R142). -/
structure Lidar where
  filling : RangeImage
  /-- the whole sweep handed to the alignment unit, and whether a fusion set has admitted it -/
  inUse : Option Sweep
  admitted : Bool
  lastColumn : Option Nat
  lastSequence : Option Nat
  sweepFrom : Option Dts
  /-- the template bytes in force for the binding (R137) -/
  template : Bytes
deriving DecidableEq, Repr, Inhabited

/-- A sample of an IMU: its stamps and raw burst (R145). -/
structure ImuSample where
  stamp : Dts
  arrival : Dts
  burst : Bytes
deriving DecidableEq, Repr, Inhabited

/-- One IMU SPI master (R144 to R146). -/
structure ImuMaster where
  /-- data-ready edges passed on by the capture inputs and not yet started -/
  edges : List Dts
  running : Option Dts
  /-- the stamps of edges that came while a transaction ran -/
  kept : List Dts
  buffers : List ImuSample
  lastCounter : Option Nat
  lastEdge : Option Dts
deriving DecidableEq, Repr, Inhabited

/-- One quadrature input (R148). -/
structure Encoder where
  position : Int
  lastAccepted : Option Dts
  a : Bool
  b : Bool
  /-- the latest step counted -/
  lastStep : Int
  /-- the latest accepted edge was on line B -/
  lastOnB : Bool
  /-- edge stamps, positions after them and directions since the last wheel update -/
  edges : List (Dts × Int × Bool)
deriving DecidableEq, Repr, Inhabited

/-- The latest message of a CAN filter (R150). -/
structure CanLatest where
  stamp : Dts
  data : Bytes
  taken : Bool
  alive : Option Nat
deriving DecidableEq, Repr, Inhabited

/-- One CAN controller (R149, R150). -/
structure Can where
  latest : List (Nat × CanLatest)
  /-- acknowledgement has been withdrawn by bus-off until the next CONFIG_CAN -/
  busOff : Bool
  /-- signal values for the motion unit: descriptor index, raw value, valid instant -/
  signals : List (Nat × Int × Dts)
deriving DecidableEq, Repr, Inhabited

/-- STATE of Table 5.18. -/
inductive ModelState where
  | unconfigured
  | absent
  | starting
  | valid
deriving DecidableEq, Repr, Inhabited

/-- A unit in a source's window: its source stamp and arrival stamp. -/
structure Unit64 where
  stamp : Dts
  arrival : Dts
deriving DecidableEq, Repr, Inhabited

/-- A source clock model and the counters of the source (R151 to R156). -/
structure Source where
  state : ModelState
  ref : Dts
  residual : Interval
  meanLag : Interval
  offset : Interval
  /-- units of 2⁻⁴⁰ -/
  rate : Int
  lastStamp : Option Dts
  lastLag : Option Interval
  window : List Unit64
  windows : Nat
  minima : List Unit64
  lastUnit : Option Dts
  units : Nat
  whole : Nat
  damaged : Nat
  lost : Nat
  dropped : Nat
  lagOut : Nat
  reordered : Nat
  restarts : Nat
  lossEvents : Nat
  eccCorrected : Nat
  missingColumns : Nat
  drdyEarly : Nat
deriving DecidableEq, Repr, Inhabited

/-- Sensor ingest. -/
structure Ingest where
  rx : Vector Receiver 8
  lidars : Vector Lidar 8
  /-- loaded templates 0 to 7; empty when none is loaded -/
  templates : Vector Bytes 8
  imus : Vector ImuMaster 4
  encoders : Vector Encoder 4
  cans : Vector Can 2
  sources : Vector Source 26
deriving DecidableEq, Repr, Inhabited

end Sys2Proof.Machine
end

