-- ==== Sys2Proof/Parts/Patrol.lean ====
section
/-! DEFINITION. The state of Patrol, the fault collector (chapter 15). -/

namespace Sys2Proof.Machine

/-- RETRY of Table 15.4. -/
inductive Retry where
  | none
  | pending
  | transient
  | lasting
deriving DecidableEq, Repr, Inhabited

/-- A fault record (Table 15.4) with its log entry's own fields (Table 15.15). -/
structure FaultRecord where
  firstDts : Dts
  source : Nat
  cls : FaultClass
  level : Nat
  overflow : Bool
  simultaneous : Bool
  isOpen : Bool
  host : Bool
  action : Nat
  retry : Retry
  merged : Nat
  unit : Nat
  injected : Bool
  detail : Nat
  lastSource : Nat
  logSeq : Nat
  /-- awaiting a reaction since (R435) -/
  awaitingFrom : Option Dts
  /-- a reset shadow holds the record open (R441) -/
  shadow : Bool
  /-- the record was opened by a block reset (R441) -/
  byReset : Bool
  /-- its own rule of Table 15.6 has closed it: it stays open only for its shadow -/
  closeDue : Bool
deriving DecidableEq, Repr, Inhabited

/-- A retry Patrol waits for: the reports merged into a record keep their own (R426). -/
structure PendingRetry where
  source : Nat
  unit : Nat
  level : Nat
  detail : Nat
deriving DecidableEq, Repr, Inhabited

/-- An element in L2 fault state (R433, R439). -/
structure Mark where
  source : Nat
  unit : Nat
  detail : Nat
deriving DecidableEq, Repr, Inhabited

/-- A unit in L3 fault state during its quiet period, and the instants of its recoveries (R434). -/
structure QuietUnit where
  source : Nat
  unit : Nat
  since : Dts
deriving DecidableEq, Repr, Inhabited

/-- A recovery counter (R434). -/
structure RecoveryCounter where
  source : Nat
  unit : Nat
  at_ : List Dts
deriving DecidableEq, Repr, Inhabited

/-- An open reset shadow (R441): the subsystem, when it opened, and the command that asked for it. -/
structure Shadow where
  subsystem : Nat
  since : Dts
  by_ : Option CmdKey
deriving DecidableEq, Repr, Inhabited

/-- Patrol. -/
structure Patrol where
  /-- reports of internal detectors on the fault wires, oldest first -/
  wires : List Report
  /-- reports that have arrived and wait for the judgement of their collector cycle -/
  arrived : List Report
  /-- records, open and closed, that the fault log holds, oldest first -/
  log : List FaultRecord
  nextSeq : Nat
  /-- the first-fault latch: the record as it stands (R428) -/
  latch : Option FaultRecord
  /-- the open record of each subsystem -/
  opens : List (Nat × FaultRecord)
  retries : List PendingRetry
  marks : List Mark
  quiet : List QuietUnit
  recoveries : List RecoveryCounter
  shadows : List Shadow
  /-- the latest shadow of each subsystem that has closed: when it opened and closed -/
  closedShadows : List (Nat × Dts × Dts)
  /-- block resets that wait for an open shadow of the same subsystem, or for Glide's slot (R441, R444) -/
  resetsWaiting : List (Nat × Option CmdKey)
  /-- whole microseconds judged: the next collector cycle begins here -/
  judgedTo : Dts
  overwritten : Nat
  shadowMasked : Nat
  ceCount : Nat
  ucCount : Nat
  faCount : Nat
  transientCount : Nat
  lastingCount : Nat
  lateReports : Nat
  /-- an FA record is open: until the next device reset (Table 15.6) -/
  faOpen : Bool
  /-- SAFE has been entered on an FA report whose record is still to be judged and journalled (R431) -/
  journalDue : Bool
  /-- the last queue pointer mismatch's queue and instant (R420) -/
  pointerFault : Option (Nat × Dts)
deriving DecidableEq, Repr, Inhabited

end Sys2Proof.Machine
end

