-- ==== Sys2Proof/Parts/Peers.lean ====
section
/-! DEFINITION. The state of the multi-device subsystem (chapter 17). -/

namespace Sys2Proof.Machine

/-- PEER_STATE of Table 17.10. -/
inductive PeerPhase where
  | disabled
  | waiting
  | valid
  | invalid
  | lost
deriving DecidableEq, Repr, Inhabited

/-- A track set the manager collects (R495): frames by index. -/
structure OpenSet where
  instant : Dts
  frameCount : Nat
  frames : List (Nat × List Track)
  observed : Nat
  firstAt : Dts
  lastAt : Dts
  /-- a RESEND has been sent, and when -/
  resendAt : Option Dts
deriving DecidableEq, Repr, Inhabited

/-- A whole set that waits to be merged (R496). -/
structure WholeSet where
  instant : Dts
  entries : List Track
  observed : Nat
  wholeAt : Dts
deriving DecidableEq, Repr, Inhabited

/-- A peer (Table 17.10) and what the device keeps for it. -/
structure Peer where
  setsMerged : Nat
  setsLost : Nat
  setsLate : Nat
  resends : Nat
  lossEvents : Nat
  gaps : Nat
  liveTracks : Nat
  phase : PeerPhase
  goodRun : Nat
  /-- SEQUENCE of the next frame to this peer -/
  txSeq : Nat
  /-- SEQUENCE expected next from this peer -/
  rxNext : Option Nat
  isOpen : Option OpenSet
  whole : List WholeSet
  /-- arrival of the latest STATUS frame, in a worker of the latest POSE_ANCHOR -/
  lastSeen : Dts
  /-- the decision whose three ticks of retry run (R499) -/
  decided : Option Dts
  /-- the fusion instant of the latest set held whole -/
  lastSet : Option Dts
  /-- REGION_VALID: a set merged since it became VALID -/
  regionValid : Bool
deriving DecidableEq, Repr, Inhabited

/-- The set a worker keeps until the next one (R495). -/
structure KeptSet where
  instant : Dts
  /-- the frames as sent, in the order of FRAME_INDEX -/
  frames : List Bytes
  resent : List Nat
  acked : Bool
  answered : Bool
  lastAt : Dts
deriving DecidableEq, Repr, Inhabited

/-- What the POSE_ANCHOR frames that name one fusion instant order (Table 17.5, R493). -/
structure AnchorOrder where
  instant : Dts
  centreX : Int
  centreY : Int
  rebaseX : Int
  rebaseY : Int
  anchorId : Nat
  anchorSeq : Nat
  /-- every patch and track is to be cleared at the frame boundary -/
  anchorNew : Bool
deriving DecidableEq, Repr, Inhabited

/-- The multi-device subsystem. -/
structure Peers where
  /-- the samples of ROLE[1:0] taken since the release (R483) -/
  samples : List Nat
  /-- ROLE as read; none before the third sample -/
  role : Option Nat
  discarded : Nat
  peers : Vector Peer 16
  kept : Option KeptSet
  /-- a worker's orders for the latest fusion instants, newest last -/
  orders : List AnchorOrder
  /-- a worker's manager is lost (R500) -/
  managerLost : Bool
  /-- a new anchor was set since the latest POSE_ANCHOR (ANCHOR_NEW) -/
  anchorNew : Bool
deriving DecidableEq, Repr, Inhabited

end Sys2Proof.Machine
end

