-- ==== Sys2Proof/Parts/Plans.lean ====
section
/-! DEFINITION. The state of the plan slots (chapter 11). -/

namespace Sys2Proof.Machine

/-- What the fit of R330 found for one variant (Table 11.12). -/
structure VariantFit where
  kind : Nat
  /-- the variant record (Table 11.4) -/
  record : Bytes
  tileTimeUs : Nat
  spilled : Nat
  rate : Nat
  rateSliced : Nat
deriving DecidableEq, Repr, Inhabited

/-- One plan slot. -/
structure PlanSlot where
  /-- the plan image; empty when the slot is EMPTY -/
  image : Bytes
  loading : Bool
  fits : List VariantFit
deriving DecidableEq, Repr, Inhabited

/-- An ACTIVATE_PLAN for the posture running that waits for its frame boundary (R336). -/
structure PendingSwap where
  key : CmdKey
  slot : Nat
  /-- 0 Drive, 1 Sentry -/
  posture : Nat
  notBefore : Dts
deriving DecidableEq, Repr, Inhabited

/-- The Plans subsystem. -/
structure Plans where
  slots : Vector PlanSlot 4
  driveSlot : Option Nat
  sentrySlot : Option Nat
  swap : Option PendingSwap
  /-- the variant in use; none outside RUN -/
  variant : Option Nat
deriving DecidableEq, Repr, Inhabited

end Sys2Proof.Machine
end

