-- ==== Sys2Proof/Parts/Ports.lean ====
section
/-! DEFINITION. The state of the Ethernet ports and the PTP instance (chapter 04). -/

namespace Sys2Proof.Machine

/-- The sixteen port counters of Table 4.9. -/
structure PortCounters where
  framesRx : Nat
  framesTx : Nat
  fcsErrors : Nat
  rxOverflow : Nat
  discarded : Nat
  ptpRx : Nat
  ptpTx : Nat
  ptpDiscarded : Nat
  oneStep : Nat
  followUps : Nat
  txStampMissed : Nat
  syncTimeouts : Nat
  announceTimeouts : Nat
  pathOutlier : Nat
  linkDown : Nat
  pdelayFails : Nat
deriving DecidableEq, Repr, Inhabited

/-- IEEE 1588-2019 port states (Table 4.8). -/
inductive PtpState where
  | initializing
  | faulty
  | disabled
  | listening
  | preMaster
  | master
  | passive
  | uncalibrated
  | slave
deriving DecidableEq, Repr, Inhabited

/-- An exchange in progress: the request's sequenceId and its egress stamp, none when the stamp was lost (R120). -/
structure Exchange where
  seqId : Nat
  egress : Option Dts
  sentAt : Dts
  /-- two-step Pdelay_Resp taken in: t2 of the responder, ingress t4, correction -/
  response : Option (Dts × Dts × Int)
deriving DecidableEq, Repr, Inhabited

/-- A two-step Sync that waits for its Follow_Up (Table 4.7). -/
structure WaitingSync where
  seqId : Nat
  ingress : Dts
  correction : Int
  /-- cumulative rate offset of an 802.1AS Sync -/
  rateOffset : Int
deriving DecidableEq, Repr, Inhabited

/-- A frame in a port's transmit queue: what is still to be completed of it is completed when it starts (R103, R118). -/
structure TxFrame where
  dest : Nat
  what : EthPayload
  /-- it takes strict priority: a PTP event message or a safe-state message (R104, R460) -/
  urgent : Bool
  /-- ingress stamp of the Pdelay_Req that a Pdelay_Resp answers -/
  ingress : Dts
deriving DecidableEq, Repr, Inhabited

/-- One Ethernet port. -/
structure EthPort where
  link : Bool
  /-- speed code of Table 4.2 the link runs at -/
  speed : Nat
  /-- bytes in the receive buffer (R29) -/
  rxHeld : Nat
  /-- frames that wait for the transmitter, those of strict priority first; a waiting follow-up message holds its transmit
  stamp (R104, R119, R120) -/
  txQueue : List TxFrame
  /-- COUNT at which the transmitter is free -/
  txUntil : Nat
  counters : PortCounters
  /-- taken down by the containment of Table 15.8, until the next device reset -/
  down : Bool
  ptp : PtpState
  /-- the last eight accepted path-delay measurements, oldest first (R109) -/
  delays : List Interval
  outlierRun : Nat
  /-- neighbourRateRatio minus 1, units of 2⁻⁴⁰ -/
  rateRatio : Int
  asCapable : Bool
  pdelayFailRun : Nat
  exchange : Option Exchange
  sync : Option WaitingSync
  lastSync : Dts
  lastAnnounce : Dts
  announce : Option GmData
  /-- the path trace of that Announce (R117) -/
  pathTrace : List Nat
  /-- cumulative rate offset of the latest 802.1AS Sync or Follow_Up -/
  cumulative : Int
  /-- the latest Sync's t2 − t1, for the path-delay mean -/
  lastSyncDelta : Option Interval
  /-- the next sequence numbers of Sync, delay request and Announce messages -/
  seqSync : Nat
  seqDelay : Nat
  seqAnnounce : Nat
  /-- pdelay responder/requester pair for the neighbour rate ratio -/
  lastPdelay : Option (Dts × Dts)
  /-- instants of the last Sync, delay request and Announce sent -/
  sentSync : Dts
  sentDelay : Dts
  sentAnnounce : Dts
  /-- log₂ intervals a Signaling TLV asked for: sync, announce, pdelay; 127 stops the messages -/
  signalled : Option Int × Option Int × Option Int
deriving DecidableEq, Repr, Inhabited

/-- The six ports. -/
structure PortsState where
  eth : Vector EthPort 6
deriving DecidableEq, Repr, Inhabited

end Sys2Proof.Machine
end

