-- ==== Sys2Proof/Parts/Power.lean ====
section
/-! DEFINITION. The state of power, clocks and postures (chapter 18). -/

namespace Sys2Proof.Machine

/-- Where an entry into Standby stands (R507). -/
inductive StandbyStage where
  /-- commands in flight have 50 ms -/
  | commands
  /-- the queues drain (R417) -/
  | draining
  /-- the always-on island alone runs -/
  | asleep
deriving DecidableEq, Repr, Inhabited

/-- The posture change in progress (R505 to R508). -/
structure PostureChange where
  /-- 1 Drive, 2 Sentry, 3 Standby -/
  target : Nat
  /-- the SET_POSTURE or ENTER_RUN command; none for a resume or an automatic entry -/
  key : Option CmdKey
  /-- device time of the start -/
  since : Dts
deriving DecidableEq, Repr, Inhabited

/-- THROTTLE_STATE of Table 18.9. -/
inductive ThrottleState where
  | off
  | steppingDown
  | holding
  | steppingUp
  | held
deriving DecidableEq, Repr, Inhabited

/-- A wake event that met the entry into Standby: its WAKE_CAUSE and WAKE_INPUT, and when it came (R508, R510). -/
structure WaitingWake where
  cause : Nat
  input : Nat
  at_ : Dts
deriving DecidableEq, Repr, Inhabited

/-- Power, clocks and postures. -/
structure Power where
  change : Option PostureChange
  standby : Option StandbyStage
  /-- device time at the start of the entry into Standby, and of the drain -/
  standbyFrom : Dts
  wakePosture : Nat
  wakeCause : Nat
  wakeInput : Nat
  lastWake : Dts
  wakeCount : Nat
  /-- a wake event met the entry into Standby (R508) -/
  wakeWaiting : Option WaitingWake
  /-- a record of FA class was made in Standby: the next wake enters SAFE (R515) -/
  faInStandby : Bool
  throttleRate : Nat
  throttleState : ThrottleState
  engagedAt : Dts
  /-- held at the floor (R520) -/
  held : Bool
  /-- no reading has been at or above THROTTLE_C − HYST_C since -/
  coolFrom : Option Dts
  temps : Vector Int 8
  /-- sensors excluded, one bit each (R518) -/
  excluded : Nat
  supplies : Vector Nat 7
  io18Inhibit : Bool
  flashInhibit : Bool
  nvInhibitEvents : Nat
  nvEventsLost : Nat
  throttleEvents : Nat
  /-- the whole second of the latest throttle evaluation -/
  evaluated : Nat
  /-- VDD_IO18 and FLASH_VSENSE have both stood at 1.76 V or above since -/
  nvGoodFrom : Option Dts
  /-- supplies outside their range, one bit each (Table 18.6) -/
  outOfRange : Nat
  /-- locked PLLs, one bit each (R514) -/
  plls : Nat
  /-- on-demand domains running: 0 flash master port, 1 security; with their last use (R513) -/
  onDemand : List (Nat × Dts)
  pmbusTries : Nat
  /-- COUNT at the latest try (R564) -/
  pmbusAt : Nat
  /-- the target has been acknowledged since the latest release or resume -/
  pmbusDone : Bool
  /-- the analog trip has fired: only PORST_N ends it (R522) -/
  tripped : Bool
deriving DecidableEq, Repr, Inhabited

end Sys2Proof.Machine
end

