-- ==== Sys2Proof/Parts/Rink.lean ====
section
/-! DEFINITION. The state of the Rink, the tiles, the Lift and the export (chapters 08, 09, 10). -/

namespace Sys2Proof.Machine

/-- Roles of Table 8.12. -/
inductive TileRole where
  | service
  | spareTesting
  | spareReady
  | migrationTarget
  | retired
  | dormant
deriving DecidableEq, Repr, Inhabited

/-- Arithmetic counters of a frame, or the total since device reset (R289, Table 11.14). -/
structure ArithCounters where
  saturations : Nat
  nonfinite : Nat
  domain : Nat
  checkSkipped : Nat
  checkMismatches : Nat
deriving DecidableEq, Repr, Inhabited

/-- One tile (R239, Table 8.11). -/
structure Tile where
  role : TileRole
  /-- the patch slot owned, PATCH_X + 8 × PATCH_Y -/
  slot : Option Nat
  /-- LAST_TEST of Table 8.11 -/
  lastTest : Nat
  /-- when the tile became a spare, and when it became SPARE_READY: order numbers (R247, R256) -/
  spareSince : Nat
  readySince : Nat
  /-- a forwarder whose drain marker has not returned (R248) -/
  draining : Bool
  /-- activation SRAM: cells that differ from zero -/
  sram : List Host.Cell
  /-- the two weight-stream buffers, 128 KiB each, and the one in use; the other one fills (R239) -/
  streams : Vector Bytes 2
  streamUse : Nat
  /-- the table store: function tables 0 to 7, zero until they are loaded (R283) -/
  tables : Vector Bytes 8
  /-- the two working slots of the temporal update, addresses and bytes, and the slot whose block is not yet committed
  (R308) -/
  working : Vector (List (Nat × Bytes)) 2
  uncommitted : Option Nat
  /-- the arithmetic counters of the frame (R289) -/
  arith : ArithCounters
  /-- the step run last, for the flow check of R466 -/
  lastStep : Option Nat
  /-- checksum signature of the step run last (R288) -/
  signature : Nat
  /-- the step is being re-run after a mismatch (R263) -/
  rerun : Bool
  /-- a mismatching predecessor is being fetched again (R466) -/
  refetch : Bool
deriving DecidableEq, Repr, Inhabited

/-- One patch slot: its marks for the frame in progress and what the Lift and the heads left in it. -/
structure Slot where
  historyAge : Nat
  patchLost : Bool
  haloLost : Bool
  cameraPartial : Bool
  noLidar : Bool
  truncated : Bool
  /-- per pass of the Lift, the receivers whose packets reached the patch (R300) -/
  passCameras : Vector Nat 2
  /-- lidars that kept a voxel in the patch -/
  lidars : Nat
  liftBins : Nat
  occupiedVoxels : Nat
  /-- landing buffer: (cell × 32 + channel, sum) (R299) -/
  landing : List (Nat × Int)
  /-- end-of-pass markers seen in the frame's Lift -/
  markers : Nat
  /-- the layer of the latest halo point in the frame, and the strips it still awaits, from neighbours 0 to 7 (R245) -/
  haloLayer : Option Nat
  haloWait : List Nat
  /-- the pass of the strip last gathered in the frame (R291) -/
  stripPass : Nat
  /-- activations of the patch that are spilled to LPDDR (R293): cells that differ from zero -/
  spill : List Host.Cell
  headsDone : Bool
  /-- a clear is to be done before a landing epilogue (R237) -/
  clearing : Bool
  /-- the fusion instant of the frame that last wrote the temporal state (R309) -/
  stateInstant : Option Dts
  /-- FRAME_DT given to the layers of the frame: an FP32 code of ms (R309) -/
  frameDt : Nat
  /-- the global patch the slot's tile holds, while served -/
  served : Bool
deriving DecidableEq, Repr, Inhabited

/-- MIGRATION_STATE of Table 8.10. -/
inductive MigrationPhase where
  | copy
  | shadow
  | drain
deriving DecidableEq, Repr, Inhabited

/-- The migration in progress (R248). -/
structure Migration where
  phase : MigrationPhase
  source : Nat
  target : Nat
  tick : Dts
  /-- when the phase began (R249) -/
  since : Dts
deriving DecidableEq, Repr, Inhabited

/-- The phases of a frame on the tile array (Table 1.2). -/
inductive FramePhase where
  | image
  | lift
  | bev
deriving DecidableEq, Repr, Inhabited

/-- The frame that occupies the tile array. -/
structure TileFrame where
  frame : Nat
  instant : Dts
  phase : FramePhase
  imageStart : Dts
  cameras : List (Nat × Nat)
  recentred : Bool
  /-- the Lift's pass in progress -/
  pass : Nat
  /-- the slots strips are dealt to, in ordinal order, and the strips in their numbering: receiver and place from the left
  (R291) -/
  deal : List Nat
  strips : List (Nat × Nat)
  /-- strips lost with the tile of their slot (R292) -/
  lostStrips : List Nat
  /-- columns routed in the pass: receiver, column and strip, the latest first (R297) -/
  columns : List (Nat × Nat × Nat)
  /-- cameras whose columns are dropped for the frame: their ray tables were rebuilt (R318) -/
  raysLost : List Nat
  /-- the frame's Lift has been routed again (R318) -/
  rerouted : Bool
  /-- the lidars admitted -/
  lidars : List Nat
  /-- the pose of each camera's Lift row (R296): receiver and pose -/
  poses : List (Nat × PoseEntry)
  /-- the cross-check so far (R192): source, votes it took part in, votes in which it was the outlier -/
  tally : List (Nat × Nat × Nat)
  /-- slots whose vote was CONTESTED -/
  contests : List Nat
  /-- detections taken so far and those dropped (R370) -/
  detections : List Detection
  dropped : Nat
deriving DecidableEq, Repr, Inhabited

/-- The sixteen counters of Table 8.13. -/
structure RinkCounters where
  scrolls : Nat
  rebaseRotations : Nat
  patchClears : Nat
  skippedFrames : Nat
  migrations : Nat
  migrationsNotStarted : Nat
  migrationAborts : Nat
  shadowMismatches : Nat
  maxHandoverUs : Nat
  testsPassed : Nat
  testsNotRun : Nat
  patchesLost : Nat
  haloLost : Nat
  cameraPartial : Nat
  laneRepairs : Nat
  lastTileTimeUs : Nat
deriving DecidableEq, Repr, Inhabited

/-- Failures of a mesh link's lane group (R244): link, lane group, instants of its failed resends. -/
structure LaneGroup where
  link : Nat
  group : Nat
  failures : List Dts
deriving DecidableEq, Repr, Inhabited

/-- The export in progress and the exports done (R314 to R316). -/
structure Export where
  /-- the CONFIG_BEV_EXPORT block in force -/
  block : Bytes
  /-- exports started in this epoch -/
  k : Nat
  /-- the frame being exported -/
  writing : Option Nat
  /-- slots whose record is written -/
  written : List Nat
deriving DecidableEq, Repr, Inhabited

/-- A Lift packet on its way to a slot (R297): the features of the pass, the receiver, and cell and weight per bin. -/
structure LiftFlight where
  slot : Nat
  receiver : Nat
  features : List Int
  bins : List (Nat × Int)
  /-- the tile that the Lift router's copy of the route table names, and the routers on the way to it (R242) -/
  tile : Nat
  path : List Nat
deriving DecidableEq, Repr, Inhabited

/-- A router's copy of the route table (R233): its generation and the owners of the 48 slots. -/
structure RouteCopy where
  generation : Nat
  owners : Vector (Option Nat) 48
deriving DecidableEq, Repr, Inhabited

/-- A remote gather that waits for its answer (R311, R312): the asking slot, the tile asked, the address in the asking tile that
the segment goes to, and when it was sent. -/
structure GatherWait where
  slot : Nat
  tile : Nat
  to_ : Nat
  sent : Dts
deriving DecidableEq, Repr, Inhabited

/-- The Rink and the tile array. -/
structure Rink where
  tiles : Vector Tile 49
  slots : Vector Slot 48
  centreX : Int
  centreY : Int
  /-- the accumulated rebase applied, in patches (R235) -/
  rebaseX : Int
  rebaseY : Int
  /-- scrolls applied in the epoch (Table 13.4) -/
  scrollsEpoch : Nat
  /-- Lift packets sent and not yet received, in the router's order (R298) -/
  packets : List LiftFlight
  reduced : Bool
  /-- a change of extent waits for the frame boundary (R255, R339) -/
  reducePending : Bool
  generation : Nat
  /-- each router's copy of the route table (R233) -/
  copies : Vector RouteCopy 49
  migration : Option Migration
  previousSource : Option Nat
  /-- a migration aborted on differing signatures, until its target's test ends: target and source; and the tile that R250
  then makes the source of the next migration -/
  mismatch : Option (Nat × Nat)
  nextSource : Option Nat
  /-- the tick whose migration has not started -/
  migrationDue : Option Dts
  nextOrder : Nat
  /-- tiles of a row that left the extent and await their tests, in walk order (R255) -/
  testOrder : List Nat
  /-- slots in service in Sentry, in the order of SENTRY_PATCHES; none in Drive -/
  sentrySlots : Option (List Nat)
  /-- the owners of the slots at the entry into Sentry (R260) -/
  driveOwners : List (Nat × Nat)
  frame : Option TileFrame
  /-- the frame that waits for the array (R24) -/
  waitingFrame : Option Nat
  boundaryFrame : Nat
  /-- the slots that the changes of the present boundary have cleared (R252) -/
  clearedNow : List Nat
  /-- the cell size in force (R230) -/
  cellCode : Nat
  counters : RinkCounters
  arithTotal : ArithCounters
  lanes : List LaneGroup
  /-- spare lane groups used per link -/
  laneSpares : List (Nat × Nat)
  gathers : List GatherWait
  rays : List (Nat × Bytes)
  liftBins : Nat
  liftOutside : Nat
  liftDegenerate : Nat
  samplesClipped : Nat
  /-- the decision instants of re-maps whose invalid result is still to come (R257) -/
  remapAt : List Dts
  /-- ANCHOR_SEQ of the anchor that the Rink, tracks and zones follow (R183, R235) -/
  anchorSeq : Nat
  export_ : Export
  /-- the start of the latest image phase (R24) -/
  lastImage : Option Dts
deriving DecidableEq, Repr, Inhabited

end Sys2Proof.Machine
end

