-- ==== Sys2Proof/Parts/Safety.lean ====
section
/-! DEFINITION. The state of the safety mechanisms (chapter 16). -/

namespace Sys2Proof.Machine

/-- A window a Gate is armed with: the tick or frame whose kick it expects, the earliest kick and the close. -/
structure GateWindow where
  key : Nat
  opens : Nat
  closes : Nat
deriving DecidableEq, Repr, Inhabited

/-- One Gate (R461 to R464). Windows of Gate 0 are values of COUNT, of the others device time. -/
structure Gate where
  /-- the armed windows, oldest first -/
  armed : List GateWindow
  misses : Nat
  consecutive : Nat
  /-- 1 ms is to be added to the close of the next window that opens (R464) -/
  extendNext : Bool
  /-- the window so extended is open -/
  extended : Bool
deriving DecidableEq, Repr, Inhabited

/-- The active check of a receiver's path (Table 16.16). -/
inductive PathCheck where
  | groomer
  | frozen
  | unavailable
  | disabled
deriving DecidableEq, Repr, Inhabited

/-- The Groomer and the frozen-frame detectors of one receiver (R475 to R480). -/
structure Groomer where
  injecting : Bool
  /-- arrival of the frame-end packet whose injection is due -/
  dueFrom : Option Dts
  /-- whole frames since the last eligible one (INJECT_EVERY) -/
  wholeSince : Nat
  passed : Nat
  notRun : Nat
  failed : Nat
  frozen : Nat
  counterSkips : Nat
  notRunRun : Nat
  failRun : Nat
  frozenRun : Nat
  /-- frames count as damaged until the next pass (R478) -/
  distrust : Bool
  check : PathCheck
  lastCrc : Option Nat
  lastCounter : Option Nat
deriving DecidableEq, Repr, Inhabited

/-- A pending INJECT_FAULT (R469). -/
structure Injection where
  key : CmdKey
  source : Nat
  unit : Nat
  kind : Nat
  at_ : Dts
deriving DecidableEq, Repr, Inhabited

/-- The safety subsystem. -/
structure Safety where
  /-- the levels driven on SAFE_A and SAFE_B -/
  safeA : Bool
  safeB : Bool
  /-- the generators toggle (R453) -/
  toggling : Bool
  /-- FAULT_N driven low -/
  faultN : Bool
  /-- COUNT at the latest toggle -/
  lastToggle : Nat
  gates : Vector Gate 8
  groomers : Vector Groomer 8
  injection : Option Injection
  slicesRun : Nat
  debtEvents : Nat
  /-- the beginning of the current test cycle -/
  cycleFrom : Option Dts
  slicesDone : Nat
  /-- the current cycle has paid its debt under R473 -/
  debtPaid : Bool
  /-- test debt that the frame in progress has paid, added to T of Gate 6 -/
  debtTime : Nat
  /-- the next image phase starts no earlier than this instant (R473) -/
  imageNotBefore : Option Dts
  safeMsgLost : Nat
  taskOverruns : Nat
  msgSeq : Nat
  /-- SAFE messages of KIND 1 still to send at the entry, and the instant before which the next does not leave (Table 16.5,
  R460) -/
  repeatsLeft : Nat
  repeatFrom : Dts
  /-- SEQUENCE of the next SAFE_STATE frame (Table 17.3) -/
  safeSeq : Nat
  /-- the latest tick whose result was formed, its instant, its RESULT_CRC and its VALID -/
  formedTick : Nat
  formedInstant : Dts
  resultCrc : Nat
  resultValid : Bool
  /-- checkers injected, and failed, at the latest injection (R467) -/
  checkersRun : Nat
  checkersFailed : Nat
deriving DecidableEq, Repr, Inhabited

end Sys2Proof.Machine
end

