-- ==== Sys2Proof/Parts/Security.lean ====
section
/-! DEFINITION. The state of start-up, security and the journals, of the retention SRAM and of the reset pins
(chapters 18, 19, 20). -/

namespace Sys2Proof.Machine

/-- A fuse key slot (R536). -/
structure KeySlot where
  hash : Nat
  programmed : Bool
  revoked : Bool
deriving DecidableEq, Repr, Inhabited

/-- A journal record (Table 19.5): sequence number, type and payload. -/
structure JournalRecord where
  seq : Nat
  type : Nat
  payload : Bytes
deriving DecidableEq, Repr, Inhabited

/-- A journal in flash (R533): its records in the order written, each with the number of its sector, counted from the
first sector ever written; the sector that the write pointer is in and the bytes used of it. -/
structure FlashRing where
  records : List (Nat × JournalRecord)
  sector : Nat
  used : Nat
deriving DecidableEq, Repr, Inhabited

/-- SLOT_STATES of Table 19.10. -/
inductive SlotState where
  | invalid
  | writing
  | verified
  | pending
  | inUse
  | fallback
deriving DecidableEq, Repr, Inhabited

/-- A flash slot: 0 firmware A, 1 firmware B, 2 plan A, 3 plan B. -/
structure FlashSlot where
  state : SlotState
  image : Bytes
deriving DecidableEq, Repr, Inhabited

/-- The flash operation a command waits for (R541, R544, R517). -/
structure FlashWork where
  key : CmdKey
  /-- step of R541 for BEGIN_UPDATE; 0 for other commands -/
  stage : Nat
  /-- device time at which the inhibit paused it -/
  pausedAt : Option Dts
  /-- a failed program or erase has been retried once (Table 19.11) -/
  retried : Bool
  /-- the image verified at step 1 -/
  image : Bytes
deriving DecidableEq, Repr, Inhabited

/-- A saved configuration: CONFIG_SEQ, AUTO_RUN, settings, and the bulk items named by kind, number and CRC. -/
structure SavedConfig where
  seq : Nat
  autoRun : Nat
  settings : List (Nat × Bytes)
  bulk : List (Nat × Nat × Nat)
deriving DecidableEq, Repr, Inhabited

/-- The retention SRAM (Table 18.4). Its fault log, latch, retirements and marks are Patrol's own, EPOCH is the device's
and WAKE_POSTURE is the power unit's: they are held there once. -/
structure Retention where
  config : Option SavedConfig
  /-- journal records awaiting flash -/
  buffer : List JournalRecord
  /-- LPDDR training values are held -/
  training : Bool
  /-- the highest attestation block reserved, plus one; 0 none -/
  indexBlock : Nat
  /-- marker that the device was in SAFE (R457) -/
  safeMarker : Bool
  /-- the retirements and marks no longer read well: the next reset finds none (R511) -/
  unitsLost : Bool
  /-- the time bridge: device time at entry (R83) -/
  bridge : Option Dts
deriving DecidableEq, Repr, Inhabited

/-- The Security and journal subsystem. -/
structure Security where
  keys : Vector KeySlot 4
  lifeCycle : Nat
  returnNonce : Nat
  eventJournal : FlashRing
  configJournal : FlashRing
  indexJournal : FlashRing
  eventSeqNext : Nat
  configSeqNext : Nat
  indexSeqNext : Nat
  overwritten : Nat
  dropped : Nat
  debugDenied : Nat
  slots : Vector FlashSlot 4
  /-- a COMMIT of the kind has been written since the last reset: firmware, plan -/
  committedNow : Bool × Bool
  work : List FlashWork
  /-- the open attestation block and the next index -/
  openBlock : Option Nat
  nextIndex : Nat
  bootFlags : Nat
  bootTimeUs : Nat
  autoRun : Nat
  configSeq : Nat
  retention : Retention
deriving DecidableEq, Repr, Inhabited

/-- Reset pins and the course of a reset (R565 to R568). -/
structure Pins where
  porstN : Bool
  wrstN : Bool
  /-- VDD_AON has been kept since the last power-on -/
  aonKept : Bool
  /-- the first release since VDD_AON rose has been seen -/
  released : Bool
  /-- RESTART_CAUSE of the restart under way (Table 13.5) -/
  restartCause : Nat
  /-- BOOT has begun since the release -/
  booting : Bool
  /-- a RESET_DEVICE command has been answered: COUNT at which the device reset starts (R33) -/
  resetDue : Option Nat
  /-- REFCLK_IN runs -/
  refclk : Bool
deriving DecidableEq, Repr, Inhabited

end Sys2Proof.Machine
end

