-- ==== Sys2Proof/Parts/Solver.lean ====
section
/-! DEFINITION. The state of the solver unit (chapter 12). -/

namespace Sys2Proof.Machine

/-- Who issued a job (Table 12.1, R350). -/
inductive JobOwner where
  /-- a track measurement update: the track's store index and the pending update it belongs to -/
  | glide (index key : Nat)
  /-- a scan-matching iteration -/
  | lidarVoter
  | wheelVoter
  /-- job `index` of the batch of this command -/
  | user (key : CmdKey) (index : Nat)
deriving DecidableEq, Repr, Inhabited

/-- A job's record as R352 and Table 12.4 return it. -/
structure JobRecord where
  cycles : Nat
  regCount : Nat
  firstReg : Nat
  lane : Nat
  iterations : Nat
  refineSkipped : Bool
  overflow : Bool
  regularised : Bool
  status : Nat
  jobTag : Nat
  out : Bytes
deriving DecidableEq, Repr, Inhabited

/-- A job in the job table (R358). -/
structure Job where
  id : Nat
  owner : JobOwner
  /-- the 32-byte descriptor of Table 12.3; an internal job's in the same form -/
  desc : Bytes
  /-- input words of an internal job -/
  input : List Nat
  /-- completion deadline as a value of COUNT -/
  deadline : Option Nat
  /-- lanes the job runs on, and COUNT at its start -/
  running : Option (List Nat × Nat)
  /-- the retry of R363 -/
  retried : Bool
  /-- lanes and pairs the job may not use again -/
  avoid : List Nat
  issuedAt : Nat
  record : Option JobRecord
deriving DecidableEq, Repr, Inhabited

/-- STATE of Table 12.9. -/
inductive PairState where
  | idle
  | locked
  | split
  | retired
deriving DecidableEq, Repr, Inhabited

/-- One lockstep pair (Table 12.9). -/
structure Pair where
  state : PairState
  jobsRun : Nat
  mismatches : Nat
  residueErrors : Nat
deriving DecidableEq, Repr, Inhabited

/-- The solver unit. -/
structure Solver where
  jobs : List Job
  nextId : Nat
  /-- batches that end with another status than DONE once their last job has its record (R362) -/
  ending : List CmdKey
  pairs : Vector Pair 4
  jobsDone : Nat
  jobsNotRun : Nat
  jobsPartial : Nat
  jobsRegularised : Nat
  jobsOverflow : Nat
  lockstepMismatches : Nat
deriving DecidableEq, Repr, Inhabited

end Sys2Proof.Machine
end

