-- ==== Sys2Proof/Parts/Time.lean ====
section
/-! DEFINITION. The state of the time base, the servo, the capture inputs and the timed outputs (chapter 03). -/

namespace Sys2Proof.Machine

/-- The time states of Table 3.2. -/
inductive TimeState where
  | freeRun
  | acquiring
  | locked
  | holdover
deriving DecidableEq, Repr, Inhabited

/-- A captured edge (R88). -/
structure Capture where
  stamp : Dts
  /-- 0 rising, 1 falling -/
  edge : Nat
  /-- 24-bit sequence number -/
  seq : Nat
deriving DecidableEq, Repr, Inhabited

/-- One capture input (R85 to R88). -/
structure TsIn where
  lastAccepted : Option Dts
  buffer : List Capture
  reject : Nat
  overflow : Nat
  seq : Nat
deriving DecidableEq, Repr, Inhabited

/-- One timed output (R89 to R94). -/
structure TsOut where
  /-- the parameter block in force -/
  block : Bytes
  /-- a block that waits for the trailing edge of the pulse in progress, and the earliest instant of its sequence (R91) -/
  waiting : Option (Bytes × Dts)
  /-- the instant of the next leading edge -/
  next : Option Dts
  /-- the last instant of the sequence issued (R74) -/
  lastIssued : Option Dts
  /-- leading edges issued -/
  issued : Nat
  /-- the instant of the trailing edge of the pulse in progress -/
  trailing : Option Dts
  /-- a stop is ordered: no leading edge until a wake (R94) -/
  stopped : Bool
  /-- the level of the ball (R89) -/
  level : Bool
deriving DecidableEq, Repr, Inhabited

/-- A label that SERVO_ADJUST gave a PPS edge, with the servo as it stood before the measurement: a second label of the same
edge replaces it (R77). -/
structure LabelMark where
  /-- COUNT at the edge -/
  edge : Nat
  utc : Nat
  error : Interval
  count : BitVec 72
  offset : Dts
  baseCount : BitVec 72
  freq : Int
  slew : Int
  phase : Interval
  state : TimeState
  goodRun : Nat
  badRun : Nat
  validFreq : Int
  holdoverFrom : Dts
  b0 : Nat
deriving DecidableEq, Repr, Inhabited

/-- The GNSS PPS source (R77 to R79). -/
structure Pps where
  lastEdge : Option Dts
  /-- COUNT at that edge -/
  lastCount : Nat
  /-- the accepted edge before it -/
  prevEdge : Option Dts
  prevCount : Nat
  /-- the latest accepted edge's label has arrived; so of the edge before it -/
  labelled : Bool
  prevLabelled : Bool
  /-- the latest label that SERVO_ADJUST gave -/
  mark : Option LabelMark
  reject : Nat
  rejectRun : Nat
deriving DecidableEq, Repr, Inhabited

/-- The time base and its servo. -/
structure TimeBase where
  /-- COUNT and its second copy (R64, R67) -/
  count : BitVec 72
  countCopy : BitVec 72
  /-- the time-base domain counts -/
  running : Bool
  offset : Dts
  baseCount : BitVec 72
  /-- FREQ and SLEW, units of 2⁻⁴⁰ (R72) -/
  freq : Int
  slew : Int
  /-- phase correction not yet applied at BASE_COUNT (R72, R80) -/
  phase : Interval
  state : TimeState
  valid : Bool
  stepCount : Nat
  lastError : Interval
  /-- consecutive measurements within ±100 ns -/
  goodRun : Nat
  /-- consecutive measurements beyond ±1 µs -/
  badRun : Nat
  /-- FREQ as formed from the last valid measurement (R80) -/
  validFreq : Int
  /-- device time of the entry into HOLDOVER -/
  holdoverFrom : Dts
  /-- B₀ of R81 -/
  b0 : Nat
  /-- the HOLDOVER_LIMIT_US record of R84 has been made since the bound last lay within it -/
  limitNoted : Bool
  pps : Pps
  /-- device time of the latest SERVO_ADJUST, of the selection of the source, of a step or of a loss: from it the loss of a
  source that gives nothing is counted -/
  lastAdjust : Dts
  /-- device time of the entry into the pause that the always-on island bridges (R83) -/
  bridgeFrom : Dts
  /-- the time state is the one that the bridge has kept: the restored source changes nothing of it (R83) -/
  bridged : Bool
  /-- L4 numbers of Table 15.3 disabled by the containment of Table 15.8, as a mask -/
  disabled : Nat
  tsIn : Vector TsIn 8
  tsOut : Vector TsOut 8
  /-- the instant of the tick raised last -/
  lastTick : Option Dts
  /-- the instant of the next tick; none while no ticks run -/
  nextTick : Option Dts
  /-- the tick raised latest, whose ego state and result are still due -/
  openTick : Option Dts
  /-- the tick whose cut-off has been raised and whose propagation runs -/
  cutoff : Option Dts
  /-- the Sentry period in force in ms, which a SET_SENTRY_TICK replaces at the next tick (R96) -/
  sentryPeriod : Nat
deriving DecidableEq, Repr, Inhabited

end Sys2Proof.Machine
end

