-- ==== Sys2Proof/Machine/State.lean ====
section
/-! DEFINITION. The whole state of the block as plain data, the reasons a step can stop, and the state at reset. -/

namespace Sys2Proof.Machine

/-- Why a run stops with a fault. -/
inductive Fault where
  /-- SUPPLY_MONITOR_CROSSING raises it for a level beyond the absolute maximum ratings of Table 20.13, where R573
  states that the device may be damaged and guarantees nothing. Safe: the hardware may go on. -/
  | beyondAbsoluteMaximum
deriving DecidableEq, Repr

/-- Why a command has no meaning here. -/
inductive Refusal where
  /-- an arm of the dispatch whose command has no meaning yet raises it. Safe: the hardware goes on. -/
  | notModelled (mnemonic : String)
deriving DecidableEq, Repr

/-- The T48. -/
structure State where
  dev : Dev
  host : HostState
  time : TimeBase
  ports : PortsState
  patrol : Patrol
  safety : Safety
  ingest : Ingest
  align : Align
  point : PointState
  rink : Rink
  plans : Plans
  solver : Solver
  glide : Glide
  peers : Peers
  power : Power
  security : Security
  pins : Pins
  memory : Memory
  /-- the settings: opcode × 65,536 + index, and the last accepted parameter block (R527) -/
  settings : List (Nat × Bytes)
  /-- what has left the device, oldest first: the model's own record -/
  tx : List Emission
  /-- the model's own counter of free values -/
  freeCount : Nat
  /-- the commands that wait, first in, first out: the model's own -/
  pending : List Instr
deriving DecidableEq, Repr

/-- The port in 1S-1S-1S with the default latencies (R30). -/
def Port.reset : Port :=
  { mode := .s1, readLatency := 8, apertureLatency := 12, answersFrom := none, badInstruction := 0,
    misaligned := 0, apertureBlocked := 0, cmdOverrun := 0, dq := none, driven := 0, ds := false }

/-- An empty outbound queue. -/
def OutQueue.empty : OutQueue :=
  { words := [], overrun := false, inReset := false, resets := 0, shortened := 0, lost := 0, peak := 0,
    aboveHigh := false, cutThrough := 0, resetBy := none, resetNext := 0, staged := [], stagedUntil := 0 }

/-- The host side at reset. FC_CMD_N is low until the port answers (R568). -/
def HostState.reset : HostState :=
  { port := Port.reset,
    intake := { packets := [], partialWords := [], lostAfter := none, nextSeq := 0 },
    flight := [], reply := OutQueue.empty, result := OutQueue.empty, event := OutQueue.empty,
    intakeLost := 0, intakeResets := 0, intakePeak := 0, intakeAbove := false,
    notices := { cause := 0, mask := 0, waiting := 0, coming := [], merged := 0, lastPulse := none, pulses := 0,
                 fcCmd := true, fcOut := false } }

/-- The time base at a power-on: DTS zero, not valid (R73). -/
def TimeBase.reset : TimeBase := { (default : TimeBase) with sentryPeriod := 100 }

/-- The ring slots of a receiver, written in the order 0, 1, 2 from empty. -/
def Receiver.reset (r : Nat) : Receiver :=
  { (default : Receiver) with slots := Vector.replicate 3 default, nextAge := 1, norm := factory 0x0401 r }

/-- Sensor ingest with nothing configured. -/
def Ingest.reset : Ingest := { (default : Ingest) with rx := Vector.ofFn (fun (r : Fin 8) => Receiver.reset r.val) }

/-- Alignment with no anchor, no verdict and the default pairing; no source has been admitted. -/
def Align.reset : Align :=
  { (default : Align) with
    trust := Vector.replicate 26 { (default : SourceTrust) with sinceAdmitted := 65535 },
    pairing := factory 0x0501 0, verdict := .noVerdict }

/-- A router's copy of the route table at power-on: slot n belongs to tile n (R247). -/
def RouteCopy.reset : RouteCopy := { generation := 0, owners := Vector.ofFn (fun (i : Fin 48) => some i.val) }

/-- The tile array with the identity route table and tile 48 as the spare (R247). -/
def Rink.reset : Rink :=
  { (default : Rink) with
    tiles := Vector.ofFn (fun (t : Fin 49) => if t.val < 48 then { (default : Tile) with slot := some t.val }
      else { (default : Tile) with role := .spareReady }),
    copies := Vector.replicate 49 RouteCopy.reset,
    cellCode := 2, nextOrder := 1, export_ := { (default : Export) with block := factory 0x0703 0 } }

/-- Glide with no track: the first TRACK_ID is 1 (R367). -/
def Glide.reset : Glide := { (default : Glide) with nextId := 1, relevance := factory 0x0A01 0 }

/-- Power at a power-on: no wake has been, WAKE_INPUT reads 0xFF (Table 18.9). -/
def Power.reset : Power := { (default : Power) with wakeInput := 0xFF, wakePosture := 1 }

/-- An Atide peer that is disabled. -/
def Peers.reset : Peers := default

/-- Retention SRAM after a power-on: every partition empty (R511). -/
def Retention.reset : Retention := default

/-- The configuration journal of the initial flash image: the COMMIT record of firmware slot A (R532, Table 19.7). -/
def initialCommit : FlashRing :=
  let payload := pack 48 [(0, 8, 0), (8, 8, 0), (64, 32, fld Config.initialFirmware 96 32),
    (96, 32, Config.initialFirmware.length), (128, 256, (Config.sha256 Config.initialFirmware).toNat)]
  { records := [(0, { seq := 1, type := 0x12, payload := payload })], sector := 0, used := 64 }

/-- The initial flash and fuses (R532, R574): firmware committed in slot A, life cycle PROVISIONING, key slots 0 and 1
programmed. -/
def Security.reset : Security :=
  { keys := #v[⟨(Config.keyHash 0).toNat, true, false⟩, ⟨(Config.keyHash 1).toNat, true, false⟩,
               ⟨0, false, false⟩, ⟨0, false, false⟩],
    lifeCycle := 1, returnNonce := 0, eventJournal := default,
    configJournal := initialCommit, indexJournal := default,
    eventSeqNext := 1, configSeqNext := 2, indexSeqNext := 1, overwritten := 0, dropped := 0, debugDenied := 0,
    slots := #v[⟨.invalid, Config.initialFirmware⟩, ⟨.invalid, []⟩, ⟨.invalid, []⟩, ⟨.invalid, []⟩],
    committedNow := (false, false), work := [], openBlock := none, nextIndex := 0, bootFlags := 0, bootTimeUs := 0,
    autoRun := 0, configSeq := 0, retention := Retention.reset }

/-- The machine right after reset: PORST_N low at a power-on, every register at the value the manual states for reset
and, where it states none, at the value of assumption 2. -/
def State.reset : State :=
  { dev := { state := .boot, posture := none, degradation := 4, tickDegradation := 0, epoch := 0, tickNumber := 0, tickInstant := 0,
             nextTickNumber := 1, configSource := 0, firstValid := false,
             autoDue := false },
    host := HostState.reset,
    time := TimeBase.reset,
    ports := default, patrol := default, safety := default,
    ingest := Ingest.reset,
    align := Align.reset, point := default, rink := Rink.reset, plans := default, solver := default,
    glide := Glide.reset,
    peers := Peers.reset,
    power := Power.reset,
    security := Security.reset,
    pins := { porstN := false, wrstN := true, aonKept := false, released := false, restartCause := 0,
              booting := false, resetDue := none, refclk := true },
    memory := { staging := [], exportRegion := [], channels := Vector.replicate 8 default },
    settings := [], tx := [], freeCount := 0, pending := [] }

end Sys2Proof.Machine
end

