-- ==== Sys2Proof/Machine/Ops.lean ====
section
/-! DEFINITION. The operations every meaning shares: settings, device time, free values, reports to Patrol, notices,
the queue words and packets, and what leaves the device. -/

namespace Sys2Proof.Machine

/-! ## Settings -/

/-- The key of a setting in State. -/
def settingKey (op idx : Nat) : Nat := op * 65536 + idx

/-- The parameter block in force for an opcode and index: the last accepted one, else the factory default (R527). -/
def setting (s : State) (op idx : Nat) : Bytes := lookupD s.settings (settingKey op idx) (factory op idx)

/-- A parameter block is accepted. -/
def putSetting (op idx : Nat) (b : Bytes) (s : State) : State :=
  { s with settings := assocSet s.settings (settingKey op idx) b }

/-- A setting goes back to its factory default. -/
def dropSetting (op idx : Nat) (s : State) : State :=
  { s with settings := s.settings.filter (fun p => p.1 != settingKey op idx) }

/-- Whether a block has been accepted. -/
def isSet (s : State) (op idx : Nat) : Bool := s.settings.any (fun p => p.1 == settingKey op idx)

/-! ## Device time (R64 to R68) -/

/-- RATE: FREQ + SLEW clamped to 32 bits signed (R65, R72). -/
def rateOf (tb : TimeBase) : Int := max (-(2 ^ 31)) (min (2 ^ 31 - 1) (tb.freq + tb.slew))

/-- The device time of `d` counts at the rate in force (R65), truncated to 2⁻¹⁶ ns. -/
def countsTime (tb : TimeBase) (d : Nat) : Nat := d * 131072 * (1099511627776 + rateOf tb).toNat / 1099511627776

/-- The device time that the pair in force gives at a value of COUNT (R65). A count before BASE_COUNT is reckoned back
with the same pair (assumption 4). -/
def timeAt (tb : TimeBase) (c : BitVec 72) : Dts :=
  if (c - tb.baseCount).toNat < 2 ^ 71 then tb.offset + countsTime tb (c - tb.baseCount).toNat
  else tb.offset - countsTime tb (tb.baseCount - c).toNat

/-- Device time. -/
def now (s : State) : Dts := timeAt s.time s.time.count

/-- COUNT as a number. -/
def countNow (s : State) : Nat := s.time.count.toNat

/-- Counts of COUNT in one microsecond (R46). -/
def countsPerUs : Nat := 500

/-- The time base loads OFFSET, BASE_COUNT and its rate together (R66). -/
def rebase (tb : TimeBase) (freq slew : Int) : TimeBase :=
  { tb with offset := timeAt tb tb.count, baseCount := tb.count, freq := freq, slew := slew }

/-- TIME_STATE's code (Table 3.2). -/
def TimeState.code : TimeState → Nat
  | .freeRun => 0
  | .acquiring => 1
  | .locked => 2
  | .holdover => 3

/-- y in ppb and d in ppb per day of the declared class (Table 3.4). -/
def oscClass (s : State) : Nat × Nat :=
  let b := setting s 0x0202 0
  match fld b 0 4 with
  | 0 => (1000, 10)
  | 1 => (100, 5)
  | 2 => (5, 1)
  | _ => (fld b 16 16, fld b 32 16)

/-- The holdover age (R81). -/
def holdoverAge (s : State) : Nat :=
  match s.time.state with
  | .holdover => now s - s.time.holdoverFrom
  | _ => 0

/-- The error bound as an interval; none where no bound is asserted (R81). Terms are truncated to 2⁻¹⁶ ns. -/
def errorBound (s : State) : Option Nat :=
  match s.time.state with
  | .locked => some (100 * nsUnits)
  | .holdover =>
    let t := holdoverAge s
    let (y, d) := oscClass s
    some (s.time.b0 + y * t / 1000000000 + d * t * t / (2 * 1000000000 * 86400 * secUnits))
  | _ => none

/-- The error bound's 64-bit code: all ones where no bound is asserted (R81). -/
def errorBoundCode (s : State) : Nat :=
  match errorBound s with
  | some b => min b (2 ^ 63 - 1)
  | none => 2 ^ 64 - 1

/-! ## Free values -/

/-- The free value of `w` bits that an effect takes next (assumption 3). -/
def freeNat (w : Nat) (s : State) : Nat := (Config.freeBits w s.freeCount).toNat

/-- The state after a free value has been taken. -/
def spent (s : State) : State := { s with freeCount := s.freeCount + 1 }

/-! ## The device state -/

/-- DEVICE_STATE's code (Table 2.5). -/
def DeviceState.code : DeviceState → Nat
  | .boot => 0
  | .setup => 1
  | .run => 2
  | .safe => 3

/-- POSTURE's code (Table 2.5). -/
def postureCode : Option Posture → Nat
  | some .drive => 1
  | some .sentry => 2
  | _ => 0

/-- RUN, in any posture. -/
def inRun (s : State) : Bool := s.dev.state == .run

/-- Ticks and results issue: RUN and SAFE (Table 0.2). -/
def ticking (s : State) : Bool := s.dev.state == .run || s.dev.state == .safe

/-- The posture of RUN is Sentry. -/
def inSentry (s : State) : Bool := s.dev.posture == some .sentry

/-- The queue mode: T16-compatible (R405). -/
def t16 (s : State) : Bool := bitAt (setting s 0x0B00 0) 0

/-- The always-on island alone runs, or the analog trip has fired: nothing else takes a step (R503, R522). -/
def halted (s : State) : Bool := s.power.standby == some .asleep || s.power.tripped

/-- The device is held in reset: PORST_N or WRST_N low, or no effective release yet. -/
def inReset (s : State) : Bool := !s.pins.porstN || !s.pins.wrstN || !s.pins.released

/-- PLL_IO and PLL_CTL are locked: the domains they clock run (R514). -/
def ioClocked (s : State) : Bool := bitOf s.power.plls 3
def ctlClocked (s : State) : Bool := bitOf s.power.plls 4

/-- The device's domains run: powered beyond Standby and out of reset. -/
def awake (s : State) : Bool := !halted s && !inReset s

/-! ## Reports to Patrol (R421 to R423) -/

/-- A source number from a subsystem code and its L4 and L3 fields, whose widths Table 15.3 gives. -/
def sourceOf (sub l4 l3 : Nat) : Nat :=
  let w := match sub with
    | 0x02 => 2 | 0x04 => 2 | 0x05 => 2 | 0x07 => 1 | 0x0A => 2 | _ => 3
  sub * 128 + l4 * 2 ^ w + l3

/-- A detector fires now: its report is on the fault wires. -/
def report (source unit level : Nat) (cls : FaultClass) (detail : Nat) (s : State) : State :=
  { s with patrol := { s.patrol with wires := s.patrol.wires ++
      [{ source := source, unit := unit, cls := cls, level := level, detail := detail, at_ := now s,
         kind := .detection, injected := false }] } }

/-- A retry ended without a new detection: the record's own source and unit report it (R426, R432). -/
def reportClean (source unit : Nat) (s : State) : State :=
  { s with patrol := { s.patrol with wires := s.patrol.wires ++
      [{ source := source, unit := unit, cls := .ce, level := 4, detail := 0, at_ := now s,
         kind := .retryClean, injected := false }] } }

/-! ## Notices (R408, R411, Table 2.7) -/

/-- The bits of NOTICE_CAUSE. -/
def causeReply : Nat := 0
def causeResult : Nat := 1
def causeEvent : Nat := 2
def causeFault : Nat := 3
def causeState : Nat := 4
def causeFlow : Nat := 5

/-- Flow-control service (R409). -/
def flowService (s : State) : Bool :=
  !inRun s || !s.dev.firstValid || s.host.reply.inReset || s.host.result.inReset || s.host.event.inReset

/-- A cause is set; in normal service in native mode an unmasked one also asks for a pulse (R408). -/
def notice (bit : Nat) (s : State) : State :=
  let n := s.host.notices
  let n1 := { n with cause := setBit n.cause bit }
  let n2 := if flowService s || t16 s || bitOf n.mask bit then n1
    else if n1.waiting < 255 then { n1 with waiting := n1.waiting + 1 } else { n1 with merged := bump n1.merged }
  { s with host := { s.host with notices := n2 } }

/-- HOST_IRQ_N held low as a level: in flow-control service, and always in T16-compatible mode (R408, R411). -/
def irqLow (s : State) : Bool :=
  (flowService s || t16 s) && decide (s.host.notices.cause &&& (s.host.notices.cause ^^^ s.host.notices.mask) ≠ 0)

/-! ## Queue words and packets (R43, R401) -/

/-- A queue word from its parts (Table 14.2). -/
def mkWord (valid last : Bool) (reason payload : Nat) : QWord :=
  BitVec.ofNat 64 (flag valid * 2 ^ 63 + flag last * 2 ^ 62 + reason % 64 * 2 ^ 56 + payload % 2 ^ 56)

def wordValid (w : QWord) : Bool := w.getLsbD 63
def wordEnd (w : QWord) : Bool := w.getLsbD 62

/-- The seven packet bytes of a word (R43). -/
def wordBytes (w : QWord) : Bytes := bytesOfNat 7 w.toNat

/-- A packet's bytes as queue words: `n` more words to write (R43). -/
def packWordsAux : Nat → Bytes → List QWord
  | 0, _ => []
  | 1, b => [mkWord true true 0 (natOfBytes (b.take 7))]
  | n + 1, b => mkWord true false 0 (natOfBytes (b.take 7)) :: packWordsAux n (b.drop 7)

/-- The number of queue words a packet of `n` bytes takes. -/
def wordsFor (n : Nat) : Nat := (n + 6) / 7

/-- A packet as queue words. -/
def packWords (b : Bytes) : List QWord := packWordsAux (wordsFor b.length) b

/-- The bytes that queue words carry. -/
def unpackWords (ws : List QWord) : Bytes := ws.flatMap wordBytes

/-- Capacities in words (Table 14.1). -/
def queueCapacity : Nat → Nat
  | 0 => 8192
  | 1 => 8192
  | 2 => 131072
  | _ => 32768

/-- An outbound queue by its number. -/
def outQueue (s : State) : Nat → OutQueue
  | 1 => s.host.reply
  | 2 => s.host.result
  | _ => s.host.event

/-- An outbound queue is replaced. -/
def setOutQueue (n : Nat) (q : OutQueue) (s : State) : State :=
  match n with
  | 1 => { s with host := { s.host with reply := q } }
  | 2 => { s with host := { s.host with result := q } }
  | _ => { s with host := { s.host with event := q } }

/-- Words written and not consumed at a value of COUNT: of a packet still being written those already written (R410). -/
def fill (at_ : Nat) (q : OutQueue) : Nat := (q.words.filter (fun w => decide (w.writtenAt ≤ at_))).length

/-- Words in the command intake. -/
def intakeFill (i : Intake) : Nat := (i.packets.map (fun p => p.words.length)).sum + i.partialWords.length

/-- Counts of 2 ns that `k` word times of the 320 MHz writer take (R406). -/
def wordCounts (k : Nat) : Nat := (25 * k + 15) / 16

/-- COUNT at the first word of the next packet: the writer ends the packet before it. -/
def writeStart (s : State) (n : Nat) : Nat :=
  match (outQueue s n).words.getLast? with
  | some w => max (countNow s) (w.writtenAt + wordCounts 1)
  | none => countNow s

/-- The cut-through threshold in force: none in T16-compatible mode (R407). -/
def cutOf (s : State) (n : Nat) : Nat := if t16 s then 0 else (outQueue s n).cutThrough

/-- COUNT at which a packet of `len` words becomes readable: at its threshold, or when it is whole (R406). -/
def openCount (start cut len : Nat) : Nat :=
  start + wordCounts (if cut = 0 then len - 1 else min (cut - 1) (len - 1))

/-- A packet's words as its queue takes them, one word per cycle of the writer. -/
def outWords (start cut : Nat) (ws : List QWord) : List OutWord :=
  ws.zipIdx.map (fun w =>
    { word := w.1, damaged := false, begun := start, writtenAt := start + wordCounts w.2,
      readyAt := max (openCount start cut ws.length) (start + wordCounts w.2) })

/-- A packet is written into an outbound queue (R406: its words follow each other without a pause). -/
def writePacket (n : Nat) (b : Bytes) (s : State) : State :=
  let q := outQueue s n
  let ws := packWords b
  setOutQueue n { q with
    words := q.words ++ outWords (writeStart s n) (cutOf s n) ws, staged := ws,
    stagedUntil := writeStart s n + wordCounts (ws.length - 1) } s

/-- A packet written, with its notice once it is readable, and not before an instant (R408): queue 1 REPLY, 2 RESULT,
3 EVENT. -/
def sendPacketFrom (from_ : Dts) (n : Nat) (b : Bytes) (s : State) : State :=
  let c := openCount (writeStart s n) (cutOf s n) (packWords b).length
  let s1 := writePacket n b s
  { s1 with host := { s1.host with notices := { s1.host.notices with
      coming := s1.host.notices.coming ++ [{ bit := n - 1, count := c, from_ := from_ }] } } }

def sendPacket (n : Nat) (b : Bytes) (s : State) : State := sendPacketFrom 0 n b s

/-- The notices of packets that are readable now. -/
def noticeReady (s : State) : State :=
  let due (c : ComingNotice) : Bool := decide (c.count ≤ countNow s) && decide (c.from_ ≤ now s)
  let l := s.host.notices.coming
  (l.filter due).foldl (fun (t : State) c => notice c.bit t)
    { s with host := { s.host with notices := { s.host.notices with coming := l.filter (fun c => !due c) } } }

/-- Free words of an outbound queue: a packet holds the space of all its words. -/
def freeWords (s : State) (n : Nat) : Nat := queueCapacity n - (outQueue s n).words.length

/-- Whole packets waiting in an outbound queue (Table 2.4). -/
def packetsIn (at_ : Nat) (q : OutQueue) : Nat :=
  (q.words.filter (fun w => wordEnd w.word && decide (w.writtenAt ≤ at_))).length

/-! ## What leaves the device -/

/-- A message leaves. -/
def emit (e : Emission) (s : State) : State := { s with tx := s.tx ++ [e] }

/-! ## Memory held as cells: addresses strictly rising, no cell equal to zero, the value of an unlisted one -/

/-- The byte at an address. -/
def cellAt : List Host.Cell → Nat → Byte
  | [], _ => 0
  | (a, b) :: cs, x => if a = x then b else if x < a then 0 else cellAt cs x

/-- A byte is written; writing zero removes the cell. -/
def cellPut : List Host.Cell → Nat → Byte → List Host.Cell
  | [], x, v => if v = 0 then [] else [(x, v)]
  | (a, b) :: cs, x, v =>
    if x < a then (if v = 0 then (a, b) :: cs else (x, v) :: (a, b) :: cs)
    else if x = a then (if v = 0 then cs else (x, v) :: cs)
    else (a, b) :: cellPut cs x v

/-- Bytes are written at rising addresses. -/
def cellsPut (m : List Host.Cell) (x : Nat) : Bytes → List Host.Cell
  | [] => m
  | b :: bs => cellsPut (cellPut m x b) (x + 1) bs

/-- `n` bytes from an address. -/
def cellsGet (m : List Host.Cell) (x n : Nat) : Bytes := (List.range n).map (fun i => cellAt m (x + i))

/-- The canonical form: addresses strictly rising and no zero byte listed. -/
def cellsWfFrom : Nat → List Host.Cell → Bool
  | _, [] => true
  | lo, (a, b) :: cs => decide (lo ≤ a) && decide (b ≠ 0) && cellsWfFrom (a + 1) cs

def cellsWf (m : List Host.Cell) : Bool := cellsWfFrom 0 m

/-- The canonical form of the external memories and the tile SRAMs. -/
def Memory.wf (m : Memory) : Bool := cellsWf m.staging && cellsWf m.exportRegion

end Sys2Proof.Machine
end

