-- ==== Sys2Proof/Machine/Rates.lean ====
section
/-! DEFINITION. Frame rates, spacings and ticks (R96, R173, R253, R254, R520). -/

namespace Sys2Proof.Machine

/-- FRAME_RATE in Drive, SENTRY_FRAME_RATE in Sentry (R175). -/
def configuredRate (s : State) : Nat :=
  if inSentry s then fld s.align.pairing 32 8 else fld s.align.pairing 24 8

/-- The shortest spacing of R173 at a rate, in µs: the whole milliseconds of 1,000 / rate. -/
def shortestSpacing (rate : Nat) : Nat := 1000 / rate * 1000

/-- Whether every spacing at a rate reaches a tile time in µs, stretched by 1 / 0.96 when sliced (R253, R254). -/
def rateHolds (rate t : Nat) (sliced : Bool) : Bool :=
  if sliced then decide (100 * t ≤ 96 * shortestSpacing rate) else decide (t ≤ shortestSpacing rate)

/-- The largest rate not above `limit` that holds; 1 when none does. -/
def rateFor : Nat → Nat → Bool → Nat
  | 0, _, _ => 1
  | n + 1, t, sliced => if rateHolds (n + 1) t sliced then n + 1 else rateFor n t sliced

/-- No rolling spare remains (R7). -/
def spareless (s : State) : Bool :=
  !s.rink.tiles.toList.any (fun t => t.role == .spareTesting || t.role == .spareReady || t.role == .migrationTarget)

/-- The slot whose plan is active for the posture running, or for Drive outside RUN. -/
def activeSlot (s : State) : Option Nat :=
  if inSentry s then s.plans.sentrySlot else s.plans.driveSlot

/-- The fit of the variant in use (Table 11.13). -/
def variantFit (s : State) : Option VariantFit :=
  match activeSlot s, s.plans.variant with
  | some i, some v => (vget s.plans.slots i).fits.find? (fun f => f.kind == v)
  | _, _ => none

/-- The tile time in µs of the variant in use, not stretched. -/
def tileTime (s : State) : Nat :=
  match variantFit s with
  | some f => f.tileTimeUs
  | none => 0

/-- The effective frame rate of R254 without a throttle. -/
def ratedRate (s : State) : Nat := rateFor (configuredRate s) (tileTime s) (spareless s)

/-- The effective frame rate (R254, R520); 0 outside RUN. -/
def effectiveRate (s : State) : Nat :=
  if !inRun s then 0
  else if s.power.throttleRate = 0 then ratedRate s
  else if inSentry s then 1 else min (ratedRate s) s.power.throttleRate

/-- The tick period in the posture running, in ms (R95, R96). -/
def tickPeriodMs (s : State) : Nat := if inSentry s then s.time.sentryPeriod else 1

/-- The first whole multiple of a period strictly after an instant. -/
def nextMultiple (period t : Nat) : Nat := (t / period + 1) * period

/-- The first whole multiple of a period at or after an instant. -/
def multipleFrom (period t : Nat) : Nat := (t + period - 1) / period * period

/-- Whether an instant is a fusion instant of Drive at a rate: s + ⌊k × 1,000 / rate⌋ ms (R173). -/
def isFusionMs (rate t : Nat) : Bool :=
  t % msUnits == 0 &&
    (List.range rate).any (fun k => k * 1000 / rate == t % secUnits / msUnits)

/-- Whether a tick instant is a fusion instant: in Sentry the first tick at or after an instant of the rule. -/
def isFusionInstant (s : State) (t : Dts) : Bool :=
  let r := effectiveRate s
  if r = 0 then false
  else if inSentry s then
    (List.range (tickPeriodMs s)).any (fun d => decide (d * msUnits ≤ t) && isFusionMs r (t - d * msUnits))
  else isFusionMs r t

end Sys2Proof.Machine
end

