-- ==== Sys2Proof/Machine/Flags.lean ====
section
/-! DEFINITION. The degradation flags, the flow-control pins and what every command settles at its end. -/

namespace Sys2Proof.Machine

/-- DEGRADED_TIME: TIME_VALID clear, no bound asserted, or the bound above HOLDOVER_LIMIT_US (R73, R81, R84). -/
def degradedTime (s : State) : Bool :=
  !s.time.valid || match errorBound s with
    | some b => decide (fld (setting s 0x0202 0) 96 32 * usUnits < b)
    | none => true

/-- DEGRADED_TRACKS: a propagation pair is retired, or the reflected frame dropped something (R378). -/
def degradedTracks (s : State) : Bool :=
  s.glide.pairsRetired != 0 || s.glide.updatesDropped != 0 || s.glide.detectionsDropped != 0 ||
    s.glide.birthsDropped != 0

/-- The device's role (Table 17.1): 0b11 runs as standalone (R483). -/
def roleOf (s : State) : Nat :=
  match s.peers.role with
  | some 1 => 1
  | some 2 => 2
  | _ => 0

def isManager (s : State) : Bool := roleOf s == 1
def isWorker (s : State) : Bool := roleOf s == 2

/-- An entry of the region map is enabled (Table 17.2). -/
def regionEnabled (s : State) (d : Nat) : Bool := bitAt (setting s 0x0E02 0) (128 * d)

/-- DEGRADED_PEER (R500). -/
def degradedPeer (s : State) : Bool :=
  (isManager s && (List.range 16).any (fun d => d != 0 && regionEnabled s d && (vget s.peers.peers d).phase != .valid)
    && (inRun s || s.dev.state == .safe)) || (isWorker s && s.peers.managerLost)

/-- DEGRADATION (R7): bits [0] SPARE, [1] EXTENT, [2] TIME, [3] EGO, [4] POINTS, [5] PE, [6] PATCH, [7] RATE,
[8] SOLVER, [9] TRACKS, [10] PEER, [11] THERMAL. -/
def degradationOf (s : State) : Nat :=
  flag (spareless s) + 2 * flag s.rink.reduced + 4 * flag (degradedTime s) + 8 * flag s.align.degradedEgo +
  16 * flag s.glide.refTruncated + 32 * flag (s.point.retired != 0) + 64 * flag s.glide.refMarked +
  128 * flag (inRun s && decide (effectiveRate s < configuredRate s)) +
  256 * flag (s.solver.pairs.toList.any (fun p => p.state == .retired)) + 512 * flag (degradedTracks s) +
  1024 * flag (degradedPeer s) + 2048 * flag (s.power.throttleRate != 0)

/-- Watermarks in words of a queue: units of 1/64 of its capacity (Table 14.4). -/
def markWords (s : State) (q lo : Nat) : Nat := fld (setting s 0x0B02 0) lo 8 * queueCapacity q / 64

/-- A level between two watermarks keeps what it was. -/
def hysteresis (was : Bool) (level low high : Nat) : Bool :=
  if high ≤ level then true else if level ≤ low then false else was

/-- The port answers transfers (R33). -/
def portAnswers (s : State) : Bool :=
  awake s && match s.host.port.answersFrom with
    | some c => decide (c ≤ countNow s)
    | none => false

/-- ABOVE_HIGH of the four queues and the largest fills so far (Table 14.6). -/
def settleLevels (s : State) : State :=
  let up (n : Nat) (q : OutQueue) : OutQueue :=
    { q with aboveHigh := hysteresis q.aboveHigh (fill (countNow s) q) (markWords s n 24) (markWords s n 16),
             peak := max q.peak (fill (countNow s) q) }
  { s with host := { s.host with
      reply := up 1 s.host.reply, result := up 2 s.host.result, event := up 3 s.host.event,
      intakePeak := max s.host.intakePeak (intakeFill s.host.intake),
      intakeAbove := hysteresis s.host.intakeAbove (intakeFill s.host.intake) (markWords s 0 8) (markWords s 0 0) } }

/-- A queue reset is in progress. -/
def queueInReset (s : State) : Bool := s.host.reply.inReset || s.host.result.inReset || s.host.event.inReset

/-- FC_CMD_N and FC_OUT_N driven low (R409, R410, R568). -/
def fcCmdOf (s : State) : Bool :=
  if !portAnswers s then true
  else if !flowService s then false
  else if queueInReset s then true
  else hysteresis s.host.notices.fcCmd (intakeFill s.host.intake) (markWords s 0 8) (markWords s 0 0)

def fcOutOf (s : State) : Bool :=
  if !flowService s then false
  else if (List.range 3).any (fun i => decide (markWords s (i + 1) 16 ≤ fill (countNow s) (outQueue s (i + 1)))) then true
  else if (List.range 3).all (fun i => decide (fill (countNow s) (outQueue s (i + 1)) ≤ markWords s (i + 1) 24)) then false
  else s.host.notices.fcOut

/-- The flow-control pins take their levels; a change sets FLOW in NOTICE_CAUSE (R410). -/
def settlePins (s : State) : State :=
  let n := s.host.notices
  let c := fcCmdOf s
  let o := fcOutOf s
  let cause := if c != n.fcCmd || o != n.fcOut then setBit n.cause causeFlow else n.cause
  { s with host := { s.host with notices := { n with fcCmd := c, fcOut := o, cause := cause } } }

/-- DEVICE_STATE, POSTURE, DEGRADATION or the flow-control service has changed (Table 2.7, R409). -/
def stateChanged (old s : State) : Bool :=
  old.dev.state != s.dev.state || old.dev.posture != s.dev.posture || old.dev.degradation != s.dev.degradation ||
    flowService old != flowService s

/-- The notice of a state change; pulses waiting at a change into flow-control service are discarded (R411). -/
def settleNotice (old s : State) : State :=
  let s1 := if stateChanged old s then notice causeState s else s
  if !flowService old && flowService s1 then
    { s1 with host := { s1.host with notices := { s1.host.notices with waiting := 0 } } }
  else s1

/-- DEGRADATION as the state calls for it. -/
def settleFlags (s : State) : State := { s with dev := { s.dev with degradation := degradationOf s } }

/-- What every command settles at its end, against the state it began in. -/
def settle (old s : State) : State := settlePins (settleLevels (settleNotice old (noticeReady (settleFlags s))))

/-- The answer of a meaning: the next state, settled. -/
def answer (old s : State) : Host.Outcome State Fault Refusal := .next (settle old s)

/-- The answer of a meaning that acts only while the device's domains run: elsewhere the event does not occur. -/
def awakeAnswer (s : State) (f : State → State) : Host.Outcome State Fault Refusal :=
  answer s (if awake s then f s else s)

end Sys2Proof.Machine
end

