-- ==== Sys2Proof/Machine/Operands.lean ====
section
/-! DEFINITION. Command packets and replies (R46 to R63): headers, versions, the opcode table, access to a command in
flight and the reply that ends it. -/

namespace Sys2Proof.Machine

/-! ## Status codes (Table 2.13) -/

def stDone : Nat := 0x0000
def stAccepted : Nat := 0x0001
def stBadOpcode : Nat := 0x0101
def stBadLength : Nat := 0x0102
def stBadParam : Nat := 0x0103
def stBadCrc : Nat := 0x0104
def stBadVersion : Nat := 0x0105
def stTagInUse : Nat := 0x0106
def stState : Nat := 0x0201
def stResource : Nat := 0x0202
def stDenied : Nat := 0x0203
def stSupplyLow : Nat := 0x0204
def stDeadline : Nat := 0x0205
def stFaultActive : Nat := 0x0301
def stNotRun : Nat := 0x0302
def stPartial : Nat := 0x0303
def stVerifyFailed : Nat := 0x0304
def stAborted : Nat := 0x0305

/-- A refusal: status and detail. -/
abbrev Refuse := Nat × Nat

/-! ## The opcode table (Table 2.12) -/

/-- A row: opcode, the device states that admit it as a mask of B 1, S 2, R 4, F 8, and whether it is marked L. -/
structure OpRow where
  op : Nat
  states : Nat
  long : Bool
deriving DecidableEq, Repr

/-- The rows of subsystems 0x01 to 0x06. -/
def opRowsA : List OpRow :=
  [⟨0x0100, 15, false⟩, ⟨0x0101, 15, false⟩, ⟨0x0102, 2, true⟩, ⟨0x0103, 4, true⟩, ⟨0x0104, 4, true⟩,
   ⟨0x0105, 14, true⟩, ⟨0x0106, 15, false⟩, ⟨0x0107, 15, false⟩, ⟨0x0108, 6, true⟩, ⟨0x0200, 14, false⟩,
   ⟨0x0201, 6, true⟩, ⟨0x0202, 2, false⟩, ⟨0x0203, 6, false⟩, ⟨0x0204, 6, false⟩, ⟨0x0205, 6, false⟩,
   ⟨0x0206, 14, false⟩, ⟨0x0207, 14, false⟩, ⟨0x0208, 6, false⟩, ⟨0x0300, 2, true⟩, ⟨0x0301, 6, false⟩,
   ⟨0x0302, 2, true⟩, ⟨0x0303, 14, false⟩, ⟨0x0304, 14, false⟩, ⟨0x0305, 2, false⟩, ⟨0x0400, 2, true⟩,
   ⟨0x0401, 6, false⟩, ⟨0x0402, 6, true⟩, ⟨0x0403, 2, true⟩, ⟨0x0404, 2, false⟩, ⟨0x0405, 2, false⟩,
   ⟨0x0406, 2, false⟩, ⟨0x0407, 2, true⟩, ⟨0x0408, 14, false⟩, ⟨0x0500, 2, false⟩, ⟨0x0501, 6, false⟩,
   ⟨0x0502, 6, false⟩, ⟨0x0503, 6, false⟩, ⟨0x0504, 2, false⟩, ⟨0x0505, 14, false⟩, ⟨0x0506, 14, false⟩,
   ⟨0x0600, 2, false⟩, ⟨0x0601, 14, false⟩, ⟨0x0602, 4, true⟩]

/-- The rows of subsystems 0x07 to 0x11. -/
def opRowsB : List OpRow :=
  [⟨0x0700, 2, false⟩, ⟨0x0701, 14, false⟩, ⟨0x0702, 4, true⟩, ⟨0x0703, 6, false⟩, ⟨0x0704, 14, false⟩,
   ⟨0x0800, 6, true⟩, ⟨0x0801, 6, true⟩, ⟨0x0802, 14, false⟩, ⟨0x0803, 2, false⟩, ⟨0x0900, 4, true⟩,
   ⟨0x0901, 12, false⟩, ⟨0x0A00, 6, false⟩, ⟨0x0A01, 6, false⟩, ⟨0x0A02, 6, false⟩, ⟨0x0A03, 6, false⟩,
   ⟨0x0A04, 12, false⟩, ⟨0x0A05, 6, false⟩, ⟨0x0B00, 2, false⟩, ⟨0x0B01, 6, false⟩, ⟨0x0B02, 2, false⟩,
   ⟨0x0B03, 14, false⟩, ⟨0x0B04, 14, false⟩, ⟨0x0C00, 14, false⟩, ⟨0x0C01, 14, false⟩, ⟨0x0C02, 12, false⟩,
   ⟨0x0C03, 2, false⟩, ⟨0x0C04, 2, false⟩, ⟨0x0D00, 2, false⟩, ⟨0x0D01, 2, false⟩, ⟨0x0D02, 14, false⟩,
   ⟨0x0D03, 2, false⟩, ⟨0x0D04, 6, false⟩, ⟨0x0E00, 2, false⟩, ⟨0x0E01, 14, false⟩, ⟨0x0E02, 2, false⟩,
   ⟨0x0F00, 14, false⟩, ⟨0x0F01, 6, false⟩, ⟨0x0F02, 2, false⟩, ⟨0x1000, 15, false⟩, ⟨0x1001, 6, true⟩,
   ⟨0x1002, 6, true⟩, ⟨0x1003, 14, true⟩, ⟨0x1004, 2, true⟩, ⟨0x1005, 14, true⟩, ⟨0x1006, 2, true⟩,
   ⟨0x1100, 14, false⟩, ⟨0x1101, 14, true⟩]

/-- The row of an opcode. -/
def opRow (op : Nat) : Option OpRow := (opRowsA ++ opRowsB).find? (fun r => r.op == op)

/-- The bit of a device state in a row's mask. -/
def stateBit : DeviceState → Nat
  | .boot => 0
  | .setup => 1
  | .run => 2
  | .safe => 3

/-- The current device state is in the opcode's states. -/
def opAllowed (s : State) (op : Nat) : Bool :=
  match opRow op with
  | some r => bitOf r.states (stateBit s.dev.state)
  | none => false

/-- Whether an opcode is marked L. -/
def isLong (op : Nat) : Bool :=
  match opRow op with
  | some r => r.long
  | none => false

/-- The T48 counterpart of a T16 opcode (Table 2.11). -/
def t16Counterpart : Nat → Option Nat
  | 0x01 => some 0x0100
  | 0x02 => some 0x0101
  | 0x03 => some 0x0106
  | 0x10 => some 0x0200
  | 0x20 => some 0x0800
  | 0x21 => some 0x0801
  | 0x30 => some 0x0B04
  | 0x40 => some 0x0C00
  | 0x41 => some 0x0C01
  | 0x60 => some 0x1000
  | _ => none

/-- The result bytes a version 1 reply keeps (Table 2.11). -/
def resultCut (op : Nat) (b : Bytes) : Bytes :=
  match op with
  | 0x0100 => b.take 16
  | 0x0101 => b.take 8
  | _ => b

/-! ## Replies (R47, R60) -/

/-- A version 2 reply packet (Table 2.9). -/
def replyV2 (op tag status detail : Nat) (final ordered : Bool) (results : Bytes) : Bytes :=
  let head := pack 12 [(0, 12, (16 + results.length + 3) / 4), (12, 4, 2), (16, 1, flag final), (17, 1, flag ordered),
    (32, 16, op), (48, 16, tag), (64, 16, status), (80, 16, detail)]
  head ++ bytesOfNat 4 (crc32c (head ++ results)) ++ results

/-- A version 1 reply packet (Table 2.10). -/
def replyV1 (op tag status : Nat) (results : Bytes) : Bytes :=
  let head := pack 8 [(0, 12, 12 + results.length), (12, 4, 1), (16, 8, op), (24, 8, tag), (32, 16, status)]
  head ++ bytesOfNat 4 (crc32c (head ++ results)) ++ results

/-- A reply to a packet of a version. -/
def replyPacket (v : Ver) (op tag status detail : Nat) (final ordered : Bool) (results : Bytes) : Bytes :=
  match v with
  | .v2 => replyV2 op tag status detail final ordered results
  | .v1 => replyV1 op tag status results

/-- The largest result of an opcode, from its own rules: bytes of its final reply after the header (R412). -/
def maxResult (c : Cmd) : Nat :=
  match c.op with
  | 0x0100 => 32 | 0x0101 => 16 | 0x0107 => c.params.length | 0x0200 => 32 | 0x0206 => 264 | 0x0207 => 24
  | 0x0303 => 112 | 0x0304 => 64 | 0x0408 => 96 | 0x0505 => 72 | 0x0506 => 656 | 0x0601 => 304
  | 0x0602 => 8 + fld c.params 48 16 * (4 + 8 * fld c.params 80 8)
  | 0x0701 => 228 | 0x0704 => 64 | 0x0800 => 48 | 0x0802 => 256 | 0x0900 => 4064 | 0x0901 => 96 | 0x0A04 => 256
  | 0x0B03 => 8 | 0x0B04 => 144 | 0x0C00 => 64 + 24 * fld c.params 32 8 | 0x0D02 => 224 | 0x0D03 => 20
  | 0x0E01 => 528 | 0x0F00 => 64 | 0x1000 => 64 | 0x1005 => 16 | 0x1100 => 144 | 0x1101 => 8
  | _ => 0

/-- Queue words of a reply with `n` result bytes. -/
def replyWords (v : Ver) (n : Nat) : Nat :=
  match v with
  | .v2 => wordsFor (16 + n)
  | .v1 => wordsFor (12 + n)

/-- Reply-queue words that a command reserves at its start (R412). -/
def reservation (c : Cmd) : Nat :=
  replyWords c.key.ver (maxResult c) + (if c.key.ver == .v2 && isLong c.op then replyWords .v2 0 else 0)

/-- Words that started commands hold reserved. -/
def reservedWords (s : State) : Nat := (s.host.flight.map (fun c => c.reserved)).sum

/-- Free words of the reply queue beyond the reservations (R412). -/
def replyRoom (s : State) : Nat := freeWords s 1 - reservedWords s

/-! ## Commands in flight -/

/-- The command in flight under a key. -/
def flightOf (k : CmdKey) (s : State) : Option Cmd := s.host.flight.find? (fun c => c.key == k)

/-- The flight is replaced. -/
def setFlight (f : List Cmd) (s : State) : State := { s with host := { s.host with flight := f } }

/-- One command of the flight is changed. -/
def modCmd (k : CmdKey) (f : Cmd → Cmd) (s : State) : State :=
  setFlight (s.host.flight.map (fun c => if c.key == k then f c else c)) s

/-- The final reply of a command: it leaves flight (R54). -/
def finish (c : Cmd) (status detail : Nat) (results : Bytes) (s : State) : State :=
  let res := match c.key.ver with
    | .v1 => resultCut c.op results
    | .v2 => results
  sendPacket 1 (replyPacket c.key.ver c.rawOp c.key.tag status detail true c.ordered res)
    (setFlight (s.host.flight.filter (fun d => !(d.key == c.key))) s)

/-- DONE without results. -/
def done (c : Cmd) (s : State) : State := finish c stDone 0 [] s

/-- DONE with results. -/
def doneWith (c : Cmd) (results : Bytes) (s : State) : State := finish c stDone 0 results s

/-- The work of a command marked L has ended: LONG_COMMAND_COMPLETE replies. -/
def conclude (c : Cmd) (status detail : Nat) (results : Bytes) (s : State) : State :=
  modCmd c.key (fun d => { d with outcome := some { status := status, detail := detail, results := results } }) s

/-- A command's work by its key, wherever it stands in flight. -/
def concludeKey (k : CmdKey) (status detail : Nat) (results : Bytes) (s : State) : State :=
  match flightOf k s with
  | some c => conclude c status detail results s
  | none => s

/-- A command of an opcode that has started and whose work has not ended. -/
def running (k : CmdKey) (op : Nat) (s : State) : Option Cmd :=
  match flightOf k s with
  | some c => if c.op == op && c.started.isSome && c.outcome.isNone then some c else none
  | none => none

/-- The row of an opcode: the started command does its work; no such command, or no management controller clock, no
event. -/
def runCommand (k : CmdKey) (op : Nat) (f : Cmd → State → State) (s : State) :
    Host.Outcome State Fault Refusal :=
  answer s (match running k op s with
    | some c => if awake s && ctlClocked s then f c s else s
    | none => s)

/-- A command in flight ends: NOT_RUN before its start, ABORTED after it (R57, R58). -/
def endCommand (c : Cmd) (s : State) : State :=
  finish c (if c.started.isSome then stAborted else stNotRun) 0 [] s

/-- The commands of a set in flight end. -/
def endCommands (which : Cmd → Bool) (s : State) : State :=
  (s.host.flight.filter which).foldl (fun (t : State) c => endCommand c t) s

end Sys2Proof.Machine
end

