-- ==== Sys2Proof/Machine/Host.lean ====
section
/-! DEFINITION. The host port: transfers, windows, the status block and the command intake (R30 to R45, R400 to
R404). -/

namespace Sys2Proof.Machine

/-! ## Facts the host reads -/

/-- DEVICE_ID and REVISION (Table 2.4). -/
def deviceId : Nat := 0x00480000 + Config.variant.toNat * 256
def revisionWord : Nat := Config.revision.toNat

/-- PLAN_ID of the image in a slot (Table 11.1). -/
def planIdOf (s : State) (slot : Option Nat) : Nat :=
  match slot with
  | some i => fld (vget s.plans.slots i).image 96 32
  | none => 0

/-- PLAN_ID of Table 2.4. -/
def planIdShown (s : State) : Nat :=
  if inRun s then planIdOf s (activeSlot s)
  else match s.plans.driveSlot with
    | some i => planIdOf s (some i)
    | none => planIdOf s s.plans.sentrySlot

/-- The image of the firmware in use. -/
def firmwareImage (s : State) : Bytes :=
  match s.security.slots.toList.take 2 |>.find? (fun f => f.state == .inUse) with
  | some f => f.image
  | none => []

/-- FIRMWARE_VERSION: bytes 12 to 15 of the firmware header (R535). -/
def firmwareVersion (s : State) : Nat := fld (firmwareImage s) 96 32

/-- TILES_RETIRED (Table 2.5). -/
def tilesRetired (s : State) : Nat := (s.rink.tiles.toList.filter (fun t => t.role == .retired)).length

/-- The STATE word (Table 2.5). -/
def stateWord (s : State) : Nat :=
  s.dev.state.code + postureCode s.dev.posture * 16 + flag (t16 s) * 256 + flag (flowService s) * 512 +
    s.dev.configSource * 1024 + tilesRetired s * 65536

/-- A class's code (Table 15.1). -/
def classCode : FaultClass → Nat
  | .ce => 1
  | .uc => 2
  | .fa => 3

/-- RETRY's code (Table 15.4). -/
def Retry.code : Retry → Nat
  | .none => 0
  | .pending => 1
  | .transient => 2
  | .lasting => 3

/-- A fault record's 16 bytes (Table 15.4). -/
def recordBytes (r : FaultRecord) : Bytes :=
  pack 16 [(0, 23, r.detail), (23, 1, flag r.injected), (24, 6, r.unit), (30, 8, r.merged), (38, 2, r.retry.code),
    (40, 3, r.action), (43, 1, flag r.host), (44, 1, flag r.isOpen), (45, 1, flag r.simultaneous),
    (46, 1, flag r.overflow), (47, 3, r.level), (50, 2, classCode r.cls), (52, 12, r.source), (64, 64, dtsLow r.firstDts)]

/-- FIRST_FAULT: the latched record, or zero. -/
def firstFault (s : State) : Bytes :=
  match s.patrol.latch with
  | some r => recordBytes r
  | none => zeros 16

/-- PORT_MODE (Table 2.6). -/
def PortMode.code : PortMode → Nat
  | .s1 => 0
  | .s4 => 1
  | .s8 => 2
  | .d8 => 3

def portModeWord (p : Port) : Nat := p.mode.code + p.readLatency * 256 + p.apertureLatency * 65536

/-- The status block's first 0x088 bytes (Table 2.4). -/
def statusBlock (s : State) : Bytes :=
  let w (n : Nat) : Bytes := bytesOfNat 4 n
  w deviceId ++ w revisionWord ++ w (stateWord s) ++ w s.dev.degradation ++ w s.dev.epoch ++ w 0 ++
  bytesOfNat 8 s.dev.tickNumber ++ bytesOfNat 16 (dtsBits s.dev.tickInstant) ++
  w (portModeWord s.host.port) ++ w s.host.notices.cause ++ w s.host.notices.mask ++ w 0 ++
  w ((8192 - intakeFill s.host.intake) * 8) ++ w s.host.flight.length ++
  [s.host.reply, s.host.result, s.host.event].flatMap (fun q =>
    w (fill (countNow s) q * 8) ++ w (packetsIn (countNow s) q)) ++
  w s.host.port.badInstruction ++ w s.host.port.misaligned ++ w s.host.port.apertureBlocked ++ w s.host.port.cmdOverrun ++
  firstFault s ++ w (firmwareVersion s) ++ w (planIdShown s)

/-! ## Modes (Table 2.1) -/

def minRead : PortMode → Nat
  | .s1 => 8
  | .s4 => 10
  | .s8 => 16
  | .d8 => 20

def minAperture : PortMode → Nat
  | .s1 => 12
  | .s4 => 24
  | .s8 => 40
  | .d8 => 40

/-- A mode change sets both latencies to the new mode's defaults (R42). -/
def enterMode (m : PortMode) (p : Port) : Port :=
  { p with mode := m, readLatency := minRead m, apertureLatency := minAperture m }

/-- The port is changed. -/
def setPort (f : Port → Port) (s : State) : State := { s with host := { s.host with port := f s.host.port } }

/-- A transfer ignored and counted in BAD_INSTRUCTION; the lines stay undriven (R34). -/
def badTransfer (s : State) : State :=
  setPort (fun p => { p with badInstruction := bump p.badInstruction, dq := none, driven := 0, ds := false }) s

/-- In 8D-8D-8D the second instruction byte is the inverse of the code (Table 2.1). -/
def instructionOk (p : Port) (code second : Nat) : Bool := p.mode != .d8 || second + code == 255

/-- A transfer the port answers; before R33's moment it is ignored and not counted. -/
def transfer (s : State) (f : State → State) : Host.Outcome State Fault Refusal :=
  answer s (if portAnswers s then f s else s)

/-- A data phase of `len` bytes: whole 2-byte units in 8D-8D-8D (R32). -/
def phaseLen (p : Port) (len : Nat) : Nat := if p.mode == .d8 then len / 2 * 2 else len

/-- The lines HOST_DQ[7:0] on which a mode's reads return data (Table 2.1); the T48 leaves the others undriven (R32). The
bytes of a command's operands are those that the mode's own lines carried: the others are ignored. -/
def outLines : PortMode → Nat
  | .s1 => 2
  | .s4 => 15
  | .s8 => 255
  | .d8 => 255

/-- Bytes are driven in the data phase; HOST_DS strobes in the eight-line modes (R31). -/
def drive (b : Bytes) (s : State) : State :=
  setPort (fun p => { p with dq := some b, driven := outLines p.mode, ds := p.mode == .s8 || p.mode == .d8 }) s

/-- READ_ID's bytes: DEVICE_ID, REVISION, repeated (R34). -/
def idBytes (len : Nat) : Bytes :=
  (List.range len).map (fun i => (bytesOfNat 8 (deviceId + revisionWord * 2 ^ 32)).getD (i % 8) 0)

def execReadId (second len : Nat) (s : State) : Host.Outcome State Fault Refusal :=
  transfer s fun s =>
    if instructionOk s.host.port 0x9F second then drive (idBytes (phaseLen s.host.port len)) s else badTransfer s

/-- ENTER_4S. In a mode where Table 2.2 does not list a mode-changing instruction the manual says nothing of it: the transfer
is ignored and counted in BAD_INSTRUCTION, as one the port does not know. DESIGN CHOICE (assumption 105); so with ENTER_8S
and ENTER_8D. -/
def execEnter4s (second : Nat) (s : State) : Host.Outcome State Fault Refusal :=
  transfer s fun s =>
    if instructionOk s.host.port 0x38 second && s.host.port.mode == .s1
    then setPort (fun p => enterMode .s4 { p with dq := none, driven := 0, ds := false }) s else badTransfer s

def execEnter8s (second : Nat) (s : State) : Host.Outcome State Fault Refusal :=
  transfer s fun s =>
    if instructionOk s.host.port 0xE8 second && (s.host.port.mode == .s1 || s.host.port.mode == .s4)
    then setPort (fun p => enterMode .s8 { p with dq := none, driven := 0, ds := false }) s else badTransfer s

def execEnter8d (second : Nat) (s : State) : Host.Outcome State Fault Refusal :=
  transfer s fun s =>
    if instructionOk s.host.port 0xE9 second && s.host.port.mode != .d8
    then setPort (fun p => enterMode .d8 { p with dq := none, driven := 0, ds := false }) s else badTransfer s

/-- RETURN_1S is accepted in 8D-8D-8D whatever its second byte (R35). -/
def execReturn1s (_second : Nat) (s : State) : Host.Outcome State Fault Refusal :=
  transfer s fun s => setPort (fun p => enterMode .s1 { p with dq := none, driven := 0, ds := false }) s

/-! ## Reads (R37, R38, R402) -/

/-- What a read meets at a word that it cannot take at a value of COUNT: EMPTY before its packet is begun, PENDING before the
word is readable (Table 14.3, R406). -/
def waitWord (at_ : Nat) (w : OutWord) : Option QWord :=
  if at_ < w.begun then some (mkWord false false 1 0)
  else if at_ < w.readyAt then some (mkWord false false 2 0) else none

/-- The word a read of a queue meets at its head (Table 14.3). -/
def headWord (at_ : Nat) (q : OutQueue) : QWord :=
  if q.inReset then mkWord false false 3 0
  else match q.words with
    | [] => if q.overrun then mkWord false false 4 0 else mkWord false false 1 0
    | w :: _ => (waitWord at_ w).getD (if w.damaged then mkWord false false 5 0 else w.word)

/-- `n` whole words are clocked out of a queue at a value of COUNT: what returns, and the queue after it. The OVERRUN word ends the
overrun; every later word of the transfer repeats it (R402, R413). -/
def readWhole (at_ : Nat) : Nat → OutQueue → List QWord × OutQueue
  | 0, q => ([], q)
  | n + 1, q =>
    if q.inReset then (List.replicate (n + 1) (mkWord false false 3 0), q)
    else match q.words with
      | [] => if q.overrun then (List.replicate (n + 1) (mkWord false false 4 0), { q with overrun := false })
              else (List.replicate (n + 1) (mkWord false false 1 0), q)
      | w :: ws => match waitWord at_ w with
        | some x => (List.replicate (n + 1) x, q)
        | none =>
          let r := readWhole at_ n { q with words := ws }
          ((if w.damaged then mkWord false false 5 0 else w.word) :: r.1, r.2)

/-- A read of `len` bytes of a queue window: whole words are consumed, a word the transfer ends inside is not. -/
def readQueue (at_ len : Nat) (q : OutQueue) : Bytes × OutQueue :=
  let r := readWhole at_ (len / 8) q
  let tail := if r.1.contains (mkWord false false 4 0) then mkWord false false 4 0 else headWord at_ r.2
  ((r.1 ++ [tail]).flatMap (fun w => bytesOfNat 8 w.toNat) |>.take len, r.2)

/-- A read of a queue window, misaligned ones included (R37). -/
def readWindow (n addr len : Nat) (s : State) : State :=
  if addr % 8 != 0 then
    setPort (fun p => { p with misaligned := bump p.misaligned })
      (drive (((List.replicate ((len + 7) / 8) (mkWord false false 6 0)).flatMap (fun w => bytesOfNat 8 w.toNat)).take len) s)
  else
    let r := readQueue (countNow s) len (outQueue s n)
    drive r.1 (setOutQueue n r.2 s)

/-- `len` bytes of a linear window of `size` bytes from an offset; zero past its end (R38). -/
def readLinear (at_ : Nat → Byte) (size off len : Nat) : Bytes :=
  (List.range len).map (fun i => if off + i < size then at_ (off + i) else 0)

/-- A READ by its start address (R36, Table 2.3). -/
def readAt (addr len : Nat) (s : State) : State :=
  if addr < 0x1000 then
    let b := statusBlock s
    drive (readLinear (fun i => b.getD i 0) 0x1000 addr len) s
  else if 0x20000 ≤ addr ∧ addr < 0x30000 then readWindow 1 addr len s
  else if 0x30000 ≤ addr ∧ addr < 0x40000 then readWindow 2 addr len s
  else if 0x40000 ≤ addr ∧ addr < 0x50000 then readWindow 3 addr len s
  else if 0x10000000 ≤ addr ∧ addr < 0x20000000 then
    drive (readLinear (cellAt s.memory.staging) 0x10000000 (addr - 0x10000000) len) s
  else if 0x20000000 ≤ addr ∧ addr < 0x21000000 then
    drive (readLinear (cellAt s.memory.exportRegion) 0x1000000 (addr - 0x20000000) len) s
  else drive (zeros len) s

/-- The codes of Table 2.2. -/
def knownCode (code : Nat) : Bool := [0x0B, 0x02, 0x9F, 0x38, 0xE8, 0xE9, 0xFF].contains code

/-- A READ of any window, or a transfer whose code the port does not know (R34, R37, R38). A known code other than
READ is another row's transfer. -/
def execReadQueueWindow (code second addr len : Nat) (s : State) : Host.Outcome State Fault Refusal :=
  transfer s fun s =>
    if !knownCode code then badTransfer s
    else if code != 0x0B then s
    else if !instructionOk s.host.port code second || (s.host.port.mode == .d8 && addr % 2 == 1) then badTransfer s
    else readAt addr (phaseLen s.host.port len) s

/-! ## Writes (R37 to R45) -/

/-- The reply owed to a packet whose header has arrived (R45, R46, R60): VERSION, OPCODE, TAG and ORDERED. -/
def headerOf (b : Bytes) (detail : Nat) : Option Owed :=
  match fld b 12 4 with
  | 2 => if 16 ≤ b.length
    then some { ver := .v2, op := fld b 32 16, tag := fld b 48 16, status := stBadLength, ordered := bitAt b 16,
                detail := detail } else none
  | 1 => if 12 ≤ b.length
    then some { ver := .v1, op := fld b 16 8, tag := fld b 24 8, status := stBadLength, ordered := true,
                detail := detail } else none
  | _ => none

/-- The refusal that is owed. -/
def owedReply (o : Owed) : Bytes := replyPacket o.ver o.op o.tag o.status o.detail true o.ordered []

/-- A refusal of what came `seq`-th waits (R55): an ORDERED command taken up before it is unfinished, or it is itself ORDERED
and any command before it is. ENTER_SAFE waits for none. -/
def replyWaits (s : State) (seq : Nat) (o : Owed) : Bool :=
  !(o.ver == .v2 && o.op == 0x0D04) &&
  (s.host.flight.any (fun d => decide (d.seq < seq) && (o.ordered || d.ordered)) ||
    s.host.intake.packets.any (fun q => decide (q.seq < seq) &&
      (q.accepted.any (fun d => o.ordered || d.ordered) || q.owed.any (fun d => o.ordered || d.ordered))))

/-- The BAD_LENGTH reply of a packet discarded under R45: at once when 3 words are free beyond the reservations
(R412) and no order holds it, else owed in its place in the intake. -/
def replyOverrun (o : Owed) (s : State) : State :=
  if 3 ≤ replyRoom s ∧ replyWaits s s.host.intake.nextSeq o = false then sendPacket 1 (owedReply o) s
  else
    let i := s.host.intake
    { s with host := { s.host with intake := { i with
        packets := i.packets ++ [{ words := [], seq := i.nextSeq, takeUp := countNow s, accepted := none,
                                   owed := some o }],
        nextSeq := i.nextSeq + 1 } } }

/-- A written word with VALID set reaches the intake (R43 to R45). -/
def intakeWord (w : QWord) (s : State) : State :=
  let i := s.host.intake
  let room := decide (intakeFill i < 8192)
  let entered := if room then i.partialWords ++ [w] else i.partialWords
  let lost := if room then i.lostAfter else some (i.lostAfter.getD i.partialWords.length)
  if !wordEnd w then
    { s with host := { s.host with intake := { i with partialWords := entered, lostAfter := lost } } }
  else match lost with
    | none =>
      { s with host := { s.host with intake := { i with
          packets := i.packets ++ [{ words := entered, seq := i.nextSeq, takeUp := countNow s, accepted := none,
                                     owed := none }],
          partialWords := [], lostAfter := none, nextSeq := i.nextSeq + 1 } } }
    | some n =>
      let s1 := { s with host := { s.host with
        intake := { i with partialWords := [], lostAfter := none },
        port := { s.host.port with cmdOverrun := bump s.host.port.cmdOverrun } } }
      match headerOf (unpackWords (entered.take n)) entered.length with
      | some o => replyOverrun o s1
      | none => s1

/-- The words of a write to the command window. -/
def intakeWords : List QWord → State → State
  | [], s => s
  | w :: ws, s => intakeWords ws (if wordValid w then intakeWord w s else s)

/-- Bytes as whole queue words: `n` of them. -/
def wordsOf : Nat → Bytes → List QWord
  | 0, _ => []
  | n + 1, b => BitVec.ofNat 64 (natOfBytes (b.take 8)) :: wordsOf n (b.drop 8)

/-- A WRITE of the command window (R37, R43). -/
def writeCommands (addr : Nat) (data : Bytes) (s : State) : State :=
  if addr % 8 != 0 then setPort (fun p => { p with misaligned := bump p.misaligned }) s
  else
    let s1 := intakeWords (wordsOf (data.length / 8) data) s
    if data.length % 8 == 0 then s1 else setPort (fun p => { p with misaligned := bump p.misaligned }) s1

/-- The staging range a started command holds (R39): offset and length. -/
def heldRange (c : Cmd) : Option (Nat × Nat) :=
  if c.started.isNone then none
  else match c.op with
    | 0x0800 => some (fld c.params 0 32, fld c.params 32 32)
    | 0x1001 => some (fld c.params 32 32, fld c.params 64 32)
    | 0x1003 => some (fld c.params 256 32, 7896)
    | 0x1005 => some (fld c.params 64 32, fld c.params 96 32)
    | _ => none

/-- A byte of staging is closed to host writes. -/
def stagingBlocked (s : State) (off : Nat) : Bool :=
  s.dev.state == .boot || s.host.flight.any (fun c => match heldRange c with
    | some (o, n) => decide (o ≤ off ∧ off < o + n)
    | none => false)

/-- The bytes of a staging write, those inside a blocked range left out. -/
def writeStaging (off : Nat) : Bytes → State → List Host.Cell → List Host.Cell
  | [], _, m => m
  | b :: bs, s, m =>
    writeStaging (off + 1) bs s (if off < 0x10000000 && !stagingBlocked s off then cellPut m off b else m)

/-- A WRITE of the staging aperture (R38, R39). -/
def writeAperture (off : Nat) (data : Bytes) (s : State) : State :=
  let blocked := (List.range data.length).any (fun i => decide (off + i < 0x10000000) && stagingBlocked s (off + i))
  let s1 := { s with memory := { s.memory with staging := writeStaging off data s s.memory.staging } }
  if blocked then setPort (fun p => { p with apertureBlocked := bump p.apertureBlocked }) s1 else s1

/-- The 32-bit field at `base` as a write of `data` at `addr` leaves it: bytes not written come from `old`. -/
def overlay (base old addr : Nat) (data : Bytes) : Nat :=
  natOfBytes ((List.range 4).map (fun i =>
    if addr ≤ base + i ∧ base + i < addr + data.length then data.getD (base + i - addr) 0
    else (bytesOfNat 4 old).getD i 0))

/-- A WRITE of the status block: PORT_MODE, NOTICE_CAUSE and NOTICE_MASK take it, every other byte ignores it (R41,
R42). -/
def writeStatus (addr : Nat) (data : Bytes) (s : State) : State :=
  let p := s.host.port
  let m := overlay 0x030 (portModeWord p) addr data
  let clear := overlay 0x034 0 addr data
  let mask := overlay 0x038 s.host.notices.mask addr data
  { s with host := { s.host with
      port := { p with readLatency := max (minRead p.mode) (m / 256 % 64),
                       apertureLatency := max (minAperture p.mode) (m / 65536 % 64) },
      notices := { s.host.notices with
        cause := s.host.notices.cause &&& (63 - clear % 64), mask := mask % 64 } } }

/-- A WRITE by its start address (Table 2.3). -/
def writeAt (addr : Nat) (data : Bytes) (s : State) : State :=
  if addr < 0x1000 then writeStatus addr (data.take (0x1000 - addr)) s
  else if 0x10000 ≤ addr ∧ addr < 0x20000 then writeCommands addr data s
  else if 0x10000000 ≤ addr ∧ addr < 0x20000000 then writeAperture (addr - 0x10000000) data s
  else setPort (fun p => { p with badInstruction := bump p.badInstruction }) s

/-- A WRITE transfer: the start address decides its window for the whole data phase (R36). -/
def hostWrite (second addr : Nat) (data : Bytes) (s : State) : State :=
  if !instructionOk s.host.port 0x02 second || (s.host.port.mode == .d8 && addr % 2 == 1) then badTransfer s
  else writeAt addr (data.take (phaseLen s.host.port data.length)) (setPort (fun p => { p with dq := none, driven := 0, ds := false }) s)

def execWriteCommandWindow (second addr : Nat) (data : Bytes) (s : State) : Host.Outcome State Fault Refusal :=
  transfer s (hostWrite second addr data)

def execWriteStagingAperture (second addr : Nat) (data : Bytes) (s : State) : Host.Outcome State Fault Refusal :=
  transfer s (hostWrite second addr data)

def execWritePortMode (second addr : Nat) (data : Bytes) (s : State) : Host.Outcome State Fault Refusal :=
  transfer s (hostWrite second addr data)

def execWriteNoticeCause (second addr : Nat) (data : Bytes) (s : State) : Host.Outcome State Fault Refusal :=
  transfer s (hostWrite second addr data)

def execWriteOtherRegister (second addr : Nat) (data : Bytes) (s : State) : Host.Outcome State Fault Refusal :=
  transfer s (hostWrite second addr data)

end Sys2Proof.Machine
end

