-- ==== Sys2Proof/Machine/System.lean ====
section
/-! DEFINITION. The commands of the System and Memory subsystems that chapter 02 lays down (R575 to R579). -/

namespace Sys2Proof.Machine

/-- GET_INFO's result (Table 2.15). -/
def infoBlock (s : State) : Bytes :=
  pack 32 [(0, 32, deviceId), (32, 32, revisionWord), (64, 32, firmwareVersion s), (96, 32, planIdShown s),
    (128, 32, planIdOf s s.plans.driveSlot), (160, 32, planIdOf s s.plans.sentrySlot), (192, 64, Config.deviceUid.toNat)]

def execGetInfo (k : CmdKey) (s : State) : Host.Outcome State Fault Refusal :=
  runCommand k 0x0100 (fun c s => doneWith c (infoBlock s) s) s

/-- GET_STATE's result (Table 2.16). -/
def stateBlock (s : State) : Bytes :=
  pack 16 [(0, 32, stateWord s), (32, 32, s.dev.degradation), (64, 32, s.dev.epoch),
    (96, 2, s.time.state.code), (98, 1, flag s.time.valid)]

def execGetState (k : CmdKey) (s : State) : Host.Outcome State Fault Refusal :=
  runCommand k 0x0101 (fun c s => doneWith c (stateBlock s) s) s

def execEcho (k : CmdKey) (s : State) : Host.Outcome State Fault Refusal :=
  runCommand k 0x0107 (fun c s => doneWith c c.params s) s

/-- RESET_DEVICE: its reply; the device reset starts 1 ms after it (R33, R577). The reset that an earlier one ordered stays
at its own instant. -/
def execResetDevice (k : CmdKey) (s : State) : Host.Outcome State Fault Refusal :=
  runCommand k 0x0106 (fun c s =>
    let s1 := done c s
    { s1 with pins := { s1.pins with
        resetDue := some (s.pins.resetDue.getD (countNow s + 1000 * countsPerUs)) } }) s

/-- A channel's entry (Table 2.18). -/
def channelEntry (n : Nat) (c : Channel) : Bytes :=
  pack 16 [(0, 8, n), (8, 8, flag c.fenced), (16, 8, flag c.fromRetention), (48, 16, c.rowsMarked),
    (64, 32, c.corrected), (96, 32, c.uncorrected)]

/-- PIN_RATE_MBPS: 1,600 in Sentry, 12,800 otherwise (Table 2.17). -/
def pinRate (s : State) : Nat := if inSentry s then 1600 else 12800

/-- GET_MEMORY_STATUS's result (Tables 2.17 and 2.18). -/
def memoryBlock (s : State) : Bytes :=
  pack 16 [(0, 8, (s.memory.channels.toList.filter (fun c => !c.fenced)).length), (16, 16, pinRate s),
      (32, 16, Config.capacityMib.toNat)] ++
    (List.range 8).flatMap (fun n => channelEntry n (vget s.memory.channels n))

def execGetMemoryStatus (k : CmdKey) (s : State) : Host.Outcome State Fault Refusal :=
  runCommand k 0x1100 (fun c s => doneWith c (memoryBlock s) s) s

/-! ## SCRUB (R579) -/

/-- The length in 64-byte words of the memory that TARGET names: LPDDR channel, tile activation SRAM of 4 MiB, voxel
table of 262,144 entries of 16 B (R206), reference store (R218). -/
def scrubWords (target : Nat) : Nat :=
  match target with
  | 0 => Config.capacityMib.toNat * 16384
  | 1 => 65536
  | 2 => 65536
  | _ => 16384

/-- INDEX names a memory of TARGET (Table 2.19). -/
def scrubIndexOk (target index : Nat) : Bool :=
  match target with
  | 0 => decide (index ≤ 7)
  | 1 => decide (index ≤ 48)
  | 2 => index == 0
  | _ => decide (index ≤ 1)

/-- SCRUB's refusals of its parameters together. -/
def jointScrub (b : Bytes) : Option Refuse :=
  if !scrubIndexOk (fld b 0 8) (fld b 8 8) then some (stBadParam, 1)
  else if scrubWords (fld b 0 8) < fld b 64 32 + fld b 96 32 then some (stBadParam, 12)
  else none

/-- SCRUB's refusals of the state: a retired or DORMANT tile, a fenced channel. -/
def startScrub (s : State) (b : Bytes) : Option Refuse :=
  match fld b 0 8 with
    | 0 => if (vget s.memory.channels (fld b 8 8)).fenced then some (stResource, 0x0011) else none
    | 1 =>
      let r := (vget s.rink.tiles (fld b 8 8)).role
      if r == .retired || r == .dormant then some (stResource, 0x0007) else none
    | _ => none

/-- The bound on SCRUB's final reply in ms: 10 ms + the range / 1 GB/s. -/
def scrubMs (b : Bytes) : Nat := 10 + (fld b 96 32 * 64 + 999999) / 1000000

/-- Cells of a range become zero. -/
def cellsZero (m : List Host.Cell) (off n : Nat) : List Host.Cell :=
  m.filter (fun c => !(decide (off ≤ c.1) && decide (c.1 < off + n)))

end Sys2Proof.Machine
end

