-- ==== Sys2Proof/Machine/TimeBase.lean ====
section
/-! DEFINITION. Device time (chapter 03): the counter, the servo and its states, the GNSS and host sources, capture
inputs and timed outputs. -/

namespace Sys2Proof.Machine

/-- The time base is changed. -/
def setTime (f : TimeBase → TimeBase) (s : State) : State := { s with time := f s.time }

/-! ## Fields of SET_TIME_SOURCE (Table 3.1) -/

def timeSource (s : State) : Nat := fld (setting s 0x0201 0) 0 8
def sourceIndex (s : State) : Nat := fld (setting s 0x0201 0) 8 8
def todInput (s : State) : Nat := fld (setting s 0x0201 0) 48 4
def utcOffset (s : State) : Nat := fld (setting s 0x0201 0) 56 8
def stepThreshold (s : State) : Nat := fld (setting s 0x0201 0) 64 16 * usUnits
def slewMaxPpm (s : State) : Nat := fld (setting s 0x0201 0) 80 16
def cableDelay (s : State) : Int := sfld (setting s 0x0201 0) 96 32 * nsUnits

/-- A source number of the Time subsystem (Table 15.3): 0 counter, 1 to 8 inputs, 9 to 16 outputs, 17 servo. -/
def timeFault (l4 : Nat) : Nat := sourceOf 0x02 l4 0

/-! ## Timed outputs (R89 to R94) -/

def outRole (b : Bytes) : Nat := fld b 232 8
def outPeriod (b : Bytes) : Nat := fld b 96 64
def outStart (b : Bytes) : Dts := dtsOf (fld b 0 96)
def outWidth (b : Bytes) : Nat := fld b 160 32 * nsUnits
def outCount (b : Bytes) : Nat := fld b 192 32

/-- The first instant of a host or lidar sequence at or after `from_` (R90). -/
def sequenceFrom (b : Bytes) (from_ : Dts) : Option Dts :=
  let p := outPeriod b
  if p = 0 then (if from_ ≤ outStart b then some (outStart b) else none)
  else if from_ ≤ outStart b then some (outStart b)
  else some (outStart b + (from_ - outStart b + p - 1) / p * p)

/-- The next instant of an output: the first of its sequence after the last one issued and not before `from_` (R74,
R90, R93); none once COUNT pulses have issued. -/
def nextInstant (o : TsOut) (from_ : Dts) : Option Dts :=
  let lo := match o.lastIssued with
    | some l => max from_ (l + 1)
    | none => from_
  match outRole o.block with
  | 0 | 3 => if outCount o.block ≠ 0 ∧ outPeriod o.block ≠ 0 ∧ outCount o.block ≤ o.issued then none
             else if outPeriod o.block = 0 ∧ o.issued ≠ 0 then none
             else sequenceFrom o.block lo
  | 1 => match o.next with
    | some t => if lo ≤ t then some t else none
    | none => none
  | 2 => some (multipleFrom secUnits lo)
  | _ => none

/-- The earliest instant of a sequence whose command starts at `t`: 10 µs later where it is periodic (R91). -/
def earliestOf (b : Bytes) (t : Dts) : Dts := if outPeriod b = 0 then t else t + 10 * usUnits

/-- The level of a ball between pulses, and in a pulse (Table 3.7). -/
def idleLevel (b : Bytes) : Bool := bitAt b 248
def pulseLevel (b : Bytes) : Bool := !bitAt b 248

/-- A configuration takes effect on an output at `t`, with a sequence that begins at `lo` at the earliest (R91). -/
def applyOut (b : Bytes) (lo t : Dts) (o : TsOut) : TsOut :=
  let o1 := { o with
    block := b, waiting := none, issued := 0, lastIssued := none, next := none, stopped := false, level := idleLevel b }
  match outRole b with
  | 0 | 3 => { o1 with next := sequenceFrom b (max lo t) }
  | 2 => { o1 with next := some (multipleFrom secUnits t) }
  | _ => o1

/-- An output that Standby stopped goes on at the next instant of its sequence (R94). -/
def resumeOut (t : Dts) (o : TsOut) : TsOut :=
  let o1 := { o with stopped := false }
  { o1 with next := nextInstant o1 t }

/-! ## Steps and slews (R72 to R75) -/

/-- Every model returns to STARTING unless it is not configured or absent (R154). -/
def restartModel (m : Source) : Source :=
  match m.state with
  | .valid | .starting => { m with state := .starting, window := [], windows := 0, minima := [], lastStamp := none,
                                   lastLag := none }
  | _ => m

/-- The capture stamps that an SPI master holds go (R74): the sample of a burst in progress has none then and is not taken
(assumption 108). -/
def dropStamps (m : ImuMaster) : ImuMaster := { m with edges := [], running := none, kept := [], buffers := [] }

/-- OFFSET is stepped so that device time moves by an interval; every holder of stamps discards them (R74), the PPS source's
capture stamps and those the SPI masters hold among them; the holdover age runs on and the loss of a source is counted
anew. The trailing edge of a pulse in progress stays at the device-time instant that R90 gave it: the manual does not say
what a step does to it (DESIGN CHOICE, assumption 109). -/
def stepTime (by_ : Interval) (s : State) : State :=
  let t := dtsAdd (now s) by_
  let tb := s.time
  let s1 := { s with time := { tb with
    offset := t, baseCount := tb.count, phase := 0, slew := 0, stepCount := satAdd 16 tb.stepCount 1, valid := true,
    holdoverFrom := dtsAdd tb.holdoverFrom by_, lastAdjust := t, pps := { tb.pps with lastEdge := none, prevEdge := none },
    tsIn := tb.tsIn.map (fun (i : TsIn) => { i with buffer := [], lastAccepted := none }) } }
  { s1 with
    time := { s1.time with tsOut := s1.time.tsOut.map (fun (o : TsOut) => { o with next := nextInstant o t }) },
    ingest := { s1.ingest with sources := s1.ingest.sources.map restartModel, imus := s1.ingest.imus.map dropStamps },
    align := { s1.align with history := [] } }

/-- The largest slew in units of 2⁻⁴⁰ (R75). -/
def slewMaxUnits (s : State) : Nat := slewMaxPpm s * 1099511627776 / 1000000

/-- A phase error is removed by slew: the magnitude is free up to SLEW_MAX_PPM (R72, R75; assumption 3). -/
def slewPhase (phase : Interval) (s : State) : State :=
  if phase = 0 then setTime (fun tb => { rebase tb tb.freq 0 with phase := 0 }) s
  else
    let m : Int := 1 + freeNat 32 s % slewMaxUnits s
    setTime (fun tb => { rebase tb tb.freq (if phase < 0 then -m else m) with phase := phase }) (spent s)

/-- Whether the servo may step now: BOOT and SETUP, with TIME_VALID clear or the error beyond STEP_THRESHOLD_US (R74). -/
def mayStep (err : Interval) (s : State) : Bool :=
  (s.dev.state == .boot || s.dev.state == .setup) && (!s.time.valid || decide (stepThreshold s < mag err))

/-- Phase is applied by step or by slew (R74, R75): device time is to move by `phase`. -/
def applyPhase (phase : Interval) (s : State) : State :=
  if mayStep phase s then stepTime phase s
  else slewPhase phase (setTime (fun tb => { tb with valid := true }) s)

/-! ## Time states (R70, R71, R80) -/

/-- Entry into HOLDOVER, or a source lost again in it (R80): SLEW zero, FREQ at its last valid value. An entry in RUN
makes a CE record (R84). -/
def enterHoldover (s : State) : State :=
  let fresh := s.time.state != .holdover
  let s1 := setTime (fun tb =>
    let r := rebase tb tb.validFreq 0
    { r with state := .holdover, phase := 0, goodRun := 0, badRun := 0,
             holdoverFrom := if fresh then now s else tb.holdoverFrom,
             b0 := if fresh then mag tb.lastError + 20 * nsUnits else tb.b0 }) s
  if fresh && inRun s then report (timeFault 17) 0 4 .ce 0 s1 else s1

/-- Entry into FREE_RUN (Table 3.2). -/
def enterFreeRun (s : State) : State :=
  setTime (fun tb => { rebase tb tb.freq 0 with state := .freeRun, phase := 0, goodRun := 0, badRun := 0 }) s

/-- The selected source is lost (R71). -/
def loseSource (s : State) : State :=
  match s.time.state with
  | .locked => enterHoldover s
  | .holdover => enterHoldover s
  | .acquiring => enterFreeRun s
  | .freeRun => s

/-- The lock tests of R70 and R71 on a measured error. R71 gives no exit from a FREE_RUN that a source lost before lock has
left: a measurement of the selected source puts it back into ACQUIRING (DESIGN CHOICE, assumption 107). -/
def lockTests (err : Interval) (s : State) : State :=
  let good := if mag err ≤ 100 * nsUnits then s.time.goodRun + 1 else 0
  let bad := if 1000 * nsUnits < mag err then s.time.badRun + 1 else 0
  let s1 := setTime (fun tb => { tb with lastError := err, goodRun := good, badRun := bad }) s
  match s.time.state with
  | .freeRun => setTime (fun tb => { tb with state := .acquiring }) s1
  | .locked => if 4 ≤ bad then enterHoldover s1 else s1
  | .acquiring | .holdover => if 16 ≤ good then setTime (fun tb => { tb with state := .locked, b0 := 0 }) s1 else s1

/-- FREQ as the servo updates it on a measurement: the loop filter's value is open (R72; assumption 3). -/
def steerFreq (err : Interval) (s : State) : State :=
  let f := signedOf 32 (freeNat 32 s)
  setTime (fun tb => { rebase tb f tb.slew with
    validFreq := if mag err ≤ 1000 * nsUnits then f else tb.validFreq }) (spent s)

/-- A measurement of the selected source: the error is device time minus source time (R70 to R75). A servo path under
the containment of Table 15.8 takes none. -/
def measure (err : Interval) (s : State) : State :=
  if bitOf s.time.disabled 17 then s else lockTests err (applyPhase (-err) (steerFreq err s))

/-! ## The counter -/

/-- SLEW as the clamped RATE applies it (R72). -/
def slewApplied (tb : TimeBase) : Nat := mag (rateOf tb - tb.freq)

/-- Counts from BASE_COUNT until the phase correction in progress is removed (R75); none where nothing is removed. -/
def slewCounts (tb : TimeBase) : Option Nat :=
  if tb.slew = 0 ∨ slewApplied tb = 0 then none
  else some ((mag tb.phase * 1099511627776 + 131072 * slewApplied tb - 1) / (131072 * slewApplied tb))

/-- COUNT rises by `n`: where the slew ends on the way, the pair is re-based there (R64 to R66, R72). -/
def countUp (n : Nat) (tb : TimeBase) : TimeBase :=
  let up (k : Nat) (t : TimeBase) : TimeBase :=
    { t with count := t.count + BitVec.ofNat 72 k, countCopy := t.countCopy + BitVec.ofNat 72 k }
  let gone := (tb.count - tb.baseCount).toNat
  match slewCounts tb with
  | none => up n tb
  | some total =>
    let left := total - gone
    if n < left then up n tb else up (n - left) { rebase (up left tb) tb.freq 0 with phase := 0 }

/-- The record of the holdover limit (R84): once each time the bound passes it. DEGRADED_TIME that stands because no bound is
asserted makes no record: R84 speaks of a bound that exceeds the limit (DESIGN CHOICE, assumption 16). -/
def noteLimit (s : State) : State :=
  let beyond := match errorBound s with
    | some b => decide (fld (setting s 0x0202 0) 96 32 * usUnits < b)
    | none => false
  if beyond && !s.time.limitNoted then
    report (timeFault 17) 0 4 .ce 0 (setTime (fun tb => { tb with limitNoted := true }) s)
  else setTime (fun tb => { tb with limitNoted := beyond }) s

/-! ## Commands -/

/-- GET_TIME's result (Table 3.8). -/
def timeBlock (s : State) : Bytes :=
  pack 32 [(0, 96, dtsBits (now s)), (96, 2, s.time.state.code), (98, 1, flag s.time.valid),
    (99, 1, flag (s.time.slew != 0)), (104, 4, timeSource s), (108, 4, sourceIndex s), (112, 16, s.time.stepCount),
    (128, 64, codeOf 64 s.time.lastError), (192, 32, codeOf 32 (rateOf s.time)), (224, 32, codeOf 32 s.time.slew)]

/-- GET_TIME. A measured error that no command refused and that leaves the interval range has no code: LAST_ERROR then reads a
free value (assumption 3). -/
def execGetTime (k : CmdKey) (s : State) : Host.Outcome State Fault Refusal :=
  runCommand k 0x0200 (fun c s =>
    if intervalFits s.time.lastError then doneWith c (timeBlock s) s
    else
      let free : Interval := signedOf 64 (freeNat 64 s)
      doneWith c (timeBlock (setTime (fun tb => { tb with lastError := free }) s)) (spent s)) s

/-- The phase correction still to apply: what the slew since BASE_COUNT has removed is gone (R72, R75). -/
def phaseLeft (tb : TimeBase) : Interval :=
  let gone := (tb.count - tb.baseCount).toNat * 131072 * slewApplied tb / 1099511627776
  if tb.phase < 0 then min 0 (tb.phase + gone) else max 0 (tb.phase - gone)

/-- SLEW is held to SLEW_MAX_PPM: the pair is re-based and the rest of the phase error is removed more slowly (R66, R75). -/
def holdSlew (s : State) : State :=
  if mag s.time.slew ≤ slewMaxUnits s then s
  else
    let m : Int := slewMaxUnits s
    setTime (fun tb => { rebase tb tb.freq (if tb.slew < 0 then -m else m) with phase := phaseLeft tb }) s

/-- SET_TIME_SOURCE: the new source starts in ACQUIRING, SOURCE 0 enters FREE_RUN; a slew in progress obeys the new
SLEW_MAX_PPM (R69 to R71, R75). -/
def execSetTimeSource (k : CmdKey) (s : State) : Host.Outcome State Fault Refusal :=
  runCommand k 0x0201 (fun c s =>
    let s1 := holdSlew (putSetting 0x0201 0 c.params s)
    let s2 := if fld c.params 0 8 = 0 then enterFreeRun s1
      else setTime (fun tb => { tb with state := .acquiring, goodRun := 0, badRun := 0, lastAdjust := now s,
                                        pps := { tb.pps with lastEdge := none, prevEdge := none, labelled := false,
                                                             mark := none, rejectRun := 0 } }) s1
    conclude c stDone 0 [] s2) s

def execSetOscClass (k : CmdKey) (s : State) : Host.Outcome State Fault Refusal :=
  runCommand k 0x0202 (fun c s => done c (putSetting 0x0202 0 c.params s)) s

/-- The measured error of a PPS edge that a whole UTC second labels (R77). -/
def labelError (s : State) (edge : Dts) (utc : Nat) : Interval :=
  (edge : Int) - (((utc + utcOffset s) * secUnits : Nat) : Int) - cableDelay s

/-- A label for the latest PPS edge: the measurement of R77. -/
def labelEdge (utc : Nat) (s : State) : State :=
  match s.time.pps.lastEdge with
  | none => s
  | some e => measure (labelError s e utc) (setTime (fun tb => { tb with pps := { tb.pps with labelled := true } }) s)

/-- The servo as a label's measurement finds it. -/
def markOf (tb : TimeBase) (edge utc : Nat) (err : Interval) : LabelMark :=
  { edge := edge, utc := utc, error := err, count := tb.count, offset := tb.offset, baseCount := tb.baseCount,
    freq := tb.freq, slew := tb.slew, phase := tb.phase, state := tb.state, goodRun := tb.goodRun, badRun := tb.badRun,
    validFreq := tb.validFreq, holdoverFrom := tb.holdoverFrom, b0 := tb.b0 }

/-- The first label of an edge that SERVO_ADJUST brings is measured. -/
def measureMarked (edge utc : Nat) (err : Interval) (s : State) : State :=
  let m := markOf s.time edge utc err
  measure err (setTime (fun tb => { tb with pps := { tb.pps with mark := some m } }) s)

/-- How far the measurement under a mark has moved device time until now. -/
def movedSince (m : LabelMark) (tb : TimeBase) : Interval :=
  let t := countUp (tb.count - m.count).toNat { tb with
    count := m.count, offset := m.offset, baseCount := m.baseCount, freq := m.freq, slew := m.slew, phase := m.phase }
  dtsSub (timeAt tb tb.count) (timeAt t t.count)

/-- A second label replaces the first (R77): the servo goes back to where the first found it, device time going on without a
jump, and the error of the second is measured; what the first has already moved is no longer to be moved. -/
def relabel (m : LabelMark) (utc : Nat) (s : State) : State :=
  if bitOf s.time.disabled 17 then s
  else
    let err := m.error - (((utc : Int) - m.utc) * (secUnits : Int))
    let moved := movedSince m s.time
    let s1 := setTime (fun tb => { rebase tb m.freq 0 with
      phase := 0, state := m.state, goodRun := m.goodRun, badRun := m.badRun, validFreq := m.validFreq,
      holdoverFrom := m.holdoverFrom, b0 := m.b0,
      pps := { tb.pps with mark := some { m with utc := utc, error := err } } }) s
    lockTests err (applyPhase (-err - moved) (steerFreq err s1))

/-- The PPS edge that a label taken up at a value of COUNT names: COUNT at the edge, its stamp where it is still held, and
whether a label has reached it (R77). -/
def labelledEdge (taken : Nat) (p : Pps) : Option (Nat × Option Dts × Bool) :=
  if p.lastEdge.isSome && decide (p.lastCount ≤ taken) then some (p.lastCount, p.lastEdge, p.labelled)
  else if p.prevEdge.isSome && decide (p.prevCount ≤ taken) then some (p.prevCount, p.prevEdge, p.prevLabelled)
  else match p.mark with
    | some m => if m.edge ≤ taken then some (m.edge, none, true) else none
    | none => none

/-- A label that SERVO_ADJUST brings: it is the label of the edge before its take-up instant, and replaces the label that
edge has. A label of an edge that has been superseded by a label of a later edge is without effect (assumption 17). -/
def labelTaken (utc taken : Nat) (s : State) : State :=
  match labelledEdge taken s.time.pps with
  | none => s
  | some (c, stamp, was) => match s.time.pps.mark.filter (fun m => m.edge == c), stamp with
    | some m, _ => relabel m utc s
    | none, none => s
    | none, some e =>
      if was || s.time.pps.mark.any (fun m => decide (c < m.edge)) then s
      else measureMarked c utc (labelError s e utc) (setTime (fun tb => { tb with pps :=
        if c = tb.pps.lastCount then { tb.pps with labelled := true } else { tb.pps with prevLabelled := true } }) s)

/-- SERVO_ADJUST (R76): with SOURCE 3 it steers and counts as a measurement, and FREQ is loaded or, like on every
measurement, updated by the servo (R72); else it labels a PPS edge. -/
def execServoAdjust (k : CmdKey) (s : State) : Host.Outcome State Fault Refusal :=
  runCommand k 0x0203 (fun c s =>
    if timeSource s = 3 then
      let phase := sfld c.params 0 64
      let f := sfld c.params 64 32
      let s1 := if bitAt c.params 96 then setTime (fun tb => { rebase tb f tb.slew with
          validFreq := if mag phase ≤ 1000 * nsUnits then f else tb.validFreq }) s
        else steerFreq (-phase) s
      let s2 := applyPhase phase s1
      done c (lockTests (-phase) (setTime (fun tb => { tb with lastAdjust := now s2 }) s2))
    else done c (labelTaken (fld c.params 144 48) c.takeUp s)) s

def execConfigTsIn (k : CmdKey) (s : State) : Host.Outcome State Fault Refusal :=
  runCommand k 0x0204 (fun c s => done c (putSetting 0x0204 (fld c.params 0 8) c.params s)) s

/-- The device time of a command's start (R91, R96). -/
def startInstant (c : Cmd) (s : State) : Dts := timeAt s.time (BitVec.ofNat 72 (c.started.getD (countNow s)))

/-- CONFIG_TS_OUT: the configuration waits for the trailing edge of a pulse in progress, and a periodic output's 10 µs are
reckoned from the command's start (R91). -/
def execConfigTsOut (k : CmdKey) (s : State) : Host.Outcome State Fault Refusal :=
  runCommand k 0x0205 (fun c s =>
    let i := fld c.params 224 8
    let s1 := putSetting 0x0205 i c.params s
    done c (setTime (fun tb => { tb with tsOut := vmod tb.tsOut i (fun o =>
      match o.trailing with
      | some _ => { o with waiting := some (c.params, earliestOf c.params (startInstant c s)) }
      | none => applyOut c.params (earliestOf c.params (startInstant c s)) (now s) o) }) s1)) s

/-- A capture entry (R88). -/
def captureEntry (e : Capture) : Bytes := pack 16 [(0, 96, dtsBits e.stamp), (96, 8, e.edge), (104, 24, e.seq)]

/-- GET_CAPTURES' result (R88). -/
def capturesBlock (t : TsIn) : Bytes := bytesOfNat 4 t.reject ++ bytesOfNat 4 t.overflow ++ t.buffer.flatMap captureEntry

/-- GET_CAPTURES empties the buffer (R88). -/
def execGetCaptures (k : CmdKey) (s : State) : Host.Outcome State Fault Refusal :=
  runCommand k 0x0206 (fun c s =>
    let i := fld c.params 0 8
    doneWith c (capturesBlock (vget s.time.tsIn i))
      (setTime (fun tb => { tb with tsIn := vmod tb.tsIn i (fun t => { t with buffer := [] }) }) s)) s

/-- GET_HOLDOVER's result (R84). -/
def holdoverBlock (s : State) : Bytes :=
  pack 24 [(0, 64, holdoverAge s), (64, 64, errorBoundCode s), (128, 8, fld (setting s 0x0202 0) 0 4)]

def execGetHoldover (k : CmdKey) (s : State) : Host.Outcome State Fault Refusal :=
  runCommand k 0x0207 (fun c s => doneWith c (holdoverBlock s) s) s

/-- A new Sentry period counts from the command's start (R96): where a tick of the old period has been raised since, the next
one is already the first whole multiple of the new period after it. -/
def respaceTicks (ms : Nat) (started : Dts) (s : State) : State :=
  match s.time.lastTick with
  | some t =>
    if inSentry s && s.time.nextTick.isSome && decide (started < t) then
      let next := nextMultiple (ms * msUnits) t
      setTime (fun tb => { tb with
        nextTick := some next, sentryPeriod := ms, cutoff := if tb.cutoff == some next then tb.cutoff else none }) s
    else s
  | none => s

/-- SET_SENTRY_TICK (R96). -/
def execSetSentryTick (k : CmdKey) (s : State) : Host.Outcome State Fault Refusal :=
  runCommand k 0x0208 (fun c s =>
    done c (respaceTicks (fld c.params 0 8) (startInstant c s) (putSetting 0x0208 0 c.params s))) s

/-! ## Refusals of the Time commands -/

/-- Parameters that fail together (R50, R89). -/
def jointTime (op : Nat) (b : Bytes) : Option Refuse :=
  match op with
  | 0x0205 => if outRole b ≠ 1 ∧ outRole b ≠ 2 ∧ outPeriod b ≠ 0 ∧ outPeriod b ≤ outWidth b then some (stBadParam, 20)
    else none
  | _ => none

/-- A label whose instant would be a negative DTS, or whose difference from the latest edge leaves the interval range
(R68). -/
def labelOutside (s : State) (utc : Nat) : Bool :=
  decide ((((utc + utcOffset s) * secUnits : Nat) : Int) + cableDelay s < 0) ||
    s.time.pps.lastEdge.any (fun e => !intervalFits (labelError s e utc))

/-- Refusals that depend on the state (R68, R76, R85, R91, R92). -/
def startTime (s : State) (op : Nat) (b : Bytes) : Option Refuse :=
  match op with
  | 0x0203 =>
    if timeSource s = 3 then
      if bitAt b 97 then some (stBadParam, 12)
      else if (now s : Int) + sfld b 0 64 < 0 ∨ intervalFits (-sfld b 0 64) = false then some (stBadParam, 0) else none
    else if timeSource s = 2 ∧ todInput s = 2 then
      if fld b 0 64 ≠ 0 then some (stBadParam, 0)
      else if bitAt b 96 || !bitAt b 97 then some (stBadParam, 12)
      else if labelOutside s (fld b 144 48) then some (stBadParam, 18) else none
    else some (stState, stateWord s % 65536)
  | 0x0204 =>
    let i := fld b 0 8
    if fld b 32 8 = 1 ∧ (List.range 8).any (fun j => j != i && isSet s 0x0204 j &&
        fld (setting s 0x0204 j) 32 8 == 1 && fld (setting s 0x0204 j) 40 8 == fld b 40 8) then some (stBadParam, 5)
    else if inRun s ∧ timeSource s = 2 ∧ sourceIndex s = i then some (stResource, 0x0002) else none
  | 0x0205 =>
    let o := vget s.time.tsOut (fld b 224 8)
    if (outRole b = 0 ∨ outRole b = 3) ∧ outPeriod b = 0 ∧ outStart b < now s + 10 * usUnits then some (stBadParam, 0)
    else if s.dev.state ≠ .setup ∧ outRole o.block = 1 ∧ o.block ≠ [] ∧ outRole b ≠ 1 then some (stResource, 0x0002)
    else none
  | _ => none

/-! ## Capture inputs (R86 to R88) -/

def edgeWanted (sel : Nat) (falling : Bool) : Bool :=
  match sel with
  | 1 => !falling
  | 2 => falling
  | 3 => true
  | _ => false

/-- The PPS source is lost: the next edge is taken as a first one. -/
def losePps (s : State) : State :=
  loseSource (setTime (fun tb => { tb with lastAdjust := now s,
                                           pps := { tb.pps with lastEdge := none, prevEdge := none, rejectRun := 0 } }) s)

/-- An edge of the selected PPS input, at a value of COUNT (R78, R79). -/
def ppsEdge (stamp : Dts) (at_ : Nat) (s : State) : State :=
  let p := s.time.pps
  let tol := match s.time.state with
    | .locked | .holdover => 10 * usUnits
    | _ => 2 * msUnits
  let ok := match p.lastEdge with
    | none => true
    | some l => decide (mag (dtsSub stamp l - (secUnits : Int)) ≤ tol)
  if ok then
    setTime (fun tb => { tb with pps := { p with
      lastEdge := some stamp, lastCount := at_, prevEdge := p.lastEdge, prevCount := p.lastCount, labelled := false,
      prevLabelled := p.labelled, rejectRun := 0 } }) s
  else
    let s1 := setTime (fun tb => { tb with pps := { p with reject := bump p.reject, rejectRun := p.rejectRun + 1 } }) s
    if 3 ≤ p.rejectRun + 1 then losePps s1 else s1

/-- An accepted edge of a capture input reaches its bound consumer (R85). -/
def captureTo (i : Nat) (stamp : Dts) (at_ : Nat) (s : State) : State :=
  let b := setting s 0x0204 i
  match fld b 32 8 with
  | 1 => { s with ingest := { s.ingest with imus := vmod s.ingest.imus (fld b 40 8) (fun m =>
      { m with edges := m.edges ++ [stamp] }) } }
  | 2 => if timeSource s = 2 ∧ sourceIndex s = i then ppsEdge stamp at_ s else s
  | _ => s

/-- An edge at a capture input whose level has held for FILTER; `at_` is the compensated value of COUNT at the edge
(R86). An edge too soon after the previous accepted one is counted in EDGE_REJECT (R87). Every stamp takes a sequence number,
one that finds the buffer full and is dropped too: R88 does not say so (DESIGN CHOICE, assumption 110). -/
def execTsInEdge (input : Nat) (falling : Bool) (at_ : Nat) (s : State) : Host.Outcome State Fault Refusal :=
  awakeAnswer s fun s =>
    let b := setting s 0x0204 input
    let t := vget s.time.tsIn input
    let stamp := timeAt s.time (BitVec.ofNat 72 at_)
    if !(decide (input < 8) && ioClocked s && !bitOf s.time.disabled (1 + input) && isSet s 0x0204 input && edgeWanted (fld b 8 8) falling) then s
    else if (match t.lastAccepted with
        | some l => decide (stamp < l + (fld b 16 8 * 4 + 16) * nsUnits)
        | none => false) then
      setTime (fun tb => { tb with tsIn := vset tb.tsIn input { t with reject := bump t.reject } }) s
    else
      let full := decide (16 ≤ t.buffer.length)
      let t1 := { t with
        lastAccepted := some stamp, seq := (t.seq + 1) % 16777216,
        buffer := if full then t.buffer else t.buffer ++ [{ stamp := stamp, edge := flag falling, seq := t.seq }],
        overflow := if full then bump t.overflow else t.overflow }
      captureTo input stamp at_ (setTime (fun tb => { tb with tsIn := vset tb.tsIn input t1 }) s)

/-- A ZDA sentence ends: it labels the latest PPS edge (R77). -/
def execZdaSentence (uart utc : Nat) (s : State) : Host.Outcome State Fault Refusal :=
  awakeAnswer s fun s =>
    if timeSource s = 2 ∧ todInput s = uart ∧ uart < 2 ∧ ioClocked s ∧ !s.time.pps.labelled then labelEdge utc s else s

/-- 1.5 s of device time without an accepted PPS edge (R79). -/
def execPpsSourceLoss (s : State) : Host.Outcome State Fault Refusal :=
  awakeAnswer s fun s =>
    if timeSource s = 2 ∧ s.time.pps.lastEdge.getD s.time.lastAdjust + 3 * secUnits / 2 ≤ now s then losePps s else s

/-- 2 s without a SERVO_ADJUST with SOURCE 3 (R76). -/
def execHostSourceLoss (s : State) : Host.Outcome State Fault Refusal :=
  awakeAnswer s fun s =>
    if timeSource s = 3 ∧ s.time.lastAdjust + 2 * secUnits ≤ now s then loseSource s else s

/-! ## Output edges (R90 to R94) -/

/-- The qualifications of a PPS output's pulse (R93). -/
def pulseAllowed (s : State) (o : TsOut) : Bool :=
  outRole o.block != 2 || (s.time.valid && (!bitAt o.block 249 || s.time.state == .locked))

/-- A leading edge whose instant device time has reached. A camera's frame-sync edge is kept for its receiver (R129). -/
def execTsOutLeadingEdge (out : Nat) (s : State) : Host.Outcome State Fault Refusal :=
  awakeAnswer s fun s =>
    let o := vget s.time.tsOut out
    match o.next with
    | none => s
    | some t =>
      if decide (8 ≤ out) || bitOf s.time.disabled (9 + out) || o.stopped || s.dev.state == .boot || o.trailing.isSome || decide (now s < t) then s
      else if !pulseAllowed s o then
        setTime (fun tb => { tb with tsOut := vset tb.tsOut out { o with next := some (t + secUnits) } }) s
      else
        let o1 := { o with lastIssued := some t, issued := o.issued + 1, trailing := some (t + outWidth o.block),
                           next := none, level := pulseLevel o.block }
        let o2 := { o1 with next := nextInstant o1 (t + 1) }
        let s1 := setTime (fun tb => { tb with tsOut := vset tb.tsOut out o2 }) s
        if outRole o.block = 1 then
          { s1 with ingest := { s1.ingest with rx := vmod s1.ingest.rx (fld o.block 240 8) (fun r =>
              { r with syncs := r.syncs ++ [t] }) } }
        else s1

/-- The trailing edge of the pulse in progress; a waiting configuration takes effect after it (R91). -/
def execTsOutTrailingEdge (out : Nat) (s : State) : Host.Outcome State Fault Refusal :=
  awakeAnswer s fun s =>
    let o := vget s.time.tsOut out
    match o.trailing with
    | none => s
    | some t =>
      if 8 ≤ out ∨ now s < t then s
      else
        let o1 := { o with trailing := none, level := idleLevel o.block }
        let o2 := match o.waiting with
          | some w => applyOut w.1 w.2 (now s) o1
          | none => o1
        setTime (fun tb => { tb with tsOut := vset tb.tsOut out o2 }) s

end Sys2Proof.Machine
end

