-- ==== Sys2Proof/Machine/Ports.lean ====
section
/-! DEFINITION. The Ethernet ports and the PTP instance (chapter 04): configuration, stamps and corrections, the
messages of Table 4.7, and the port counters. -/

namespace Sys2Proof.Machine

/-! ## Configuration (Tables 4.2, 4.3, 4.5) -/

def portInterface (s : State) (p : Nat) : Nat := fld (setting s 0x0300 p) 12 4
def portIpv4 (s : State) (p : Nat) : Nat := fld (setting s 0x0300 p) 16 32
def portMac (s : State) (p : Nat) : Nat := fld (setting s 0x0300 p) 80 48
def portIpv6 (s : State) (p : Nat) : Nat := fld (setting s 0x0300 p) 128 128

/-- An Ethernet port's state. -/
def ethPort (s : State) (p : Nat) : EthPort := vget s.ports.eth p

/-- One port is changed. -/
def modPort (p : Nat) (f : EthPort → EthPort) (s : State) : State :=
  { s with ports := { s.ports with eth := vmod s.ports.eth p f } }

/-- The correction block of a port at the speed its link runs at (R105). -/
def corrections (s : State) (p : Nat) : Bytes := setting s 0x0301 (p * 16 + (ethPort s p).speed)

/-- The ingress stamp of a received frame: device time at its MII crossing, less the PHY's receive latency (R102, R106). -/
def ingressStamp (s : State) (p : Nat) (h : FrameHead) : Dts :=
  timeAt s.time (BitVec.ofNat 72 h.at_) - fld (corrections s p) 32 32

/-- The egress stamp of a frame that leaves now (R102, R106). -/
def egressStamp (s : State) (p : Nat) : Dts := now s + fld (corrections s p) 64 32

/-- ASYMMETRY (Table 4.3). -/
def asymmetry (s : State) (p : Nat) : Interval := sfld (corrections s p) 96 32

def ptpBlock (s : State) : Bytes := setting s 0x0302 0
def ptpProfile (s : State) : Nat := fld (ptpBlock s) 0 8
def ptpRole (s : State) : Nat := fld (ptpBlock s) 16 8
def ptpTransport (s : State) : Nat := fld (ptpBlock s) 24 8
def ptpDomain (s : State) : Nat := fld (ptpBlock s) 32 8
def ptpMask (s : State) : Nat := fld (ptpBlock s) 40 6

/-- A port runs PTP (Table 4.5). -/
def ptpOn (s : State) (p : Nat) : Bool := ptpProfile s != 0 && bitOf (ptpMask s) p

/-- The peer-delay mechanism (Table 4.5). -/
def peerDelay (s : State) : Bool := ptpProfile s == 2 || ptpProfile s == 3

/-- A port carries a lidar binding (R101, R135). -/
def lidarBound (s : State) (p : Nat) : Bool :=
  (List.range 8).any (fun l => isSet s 0x0404 l && fld (setting s 0x0404 l) 72 8 == p)

/-- A lidar binding that powers a port: in Sentry only of the Sentry variant's lidars (R513). -/
def lidarOnPort (s : State) (p : Nat) : Bool :=
  (List.range 8).any (fun l => isSet s 0x0404 l && fld (setting s 0x0404 l) 72 8 == p &&
    (!inSentry s || match variantFit s with
      | some f => bitOf (fld f.record 56 8) l
      | none => false))

/-- An Atide peer reached through a port (Table 17.2). -/
def atideOnPort (s : State) (p : Nat) : Bool :=
  roleOf s != 0 && (List.range 16).any (fun d => d != fld (setting s 0x0E00 0) 0 4 && regionEnabled s d &&
    fld (setting s 0x0E02 0) (128 * d + 72) 8 == p)

/-- A port is powered: in Sentry only one that carries a lidar of the variant, PTP, an Atide peer or a safe-state
message (R513). Without PLL_IO no port runs (R514). -/
def portPowered (s : State) (p : Nat) : Bool :=
  ioClocked s && (!inSentry s || ptpOn s p || lidarOnPort s p || atideOnPort s p ||
    (fld (setting s 0x0305 0) 0 8 != 0 && bitOf (fld (setting s 0x0305 0) 8 6) p))

/-- A port carries frames: its interface is configured, it is powered, its link is up and it is not taken down (Table
15.8). -/
def portUp (s : State) (p : Nat) : Bool :=
  decide (p < 6) && portInterface s p != 0 && portPowered s p && (ethPort s p).link && !(ethPort s p).down &&
    s.dev.state != .boot

/-- 2 to the power of `l` seconds. -/
def logInterval (l : Int) : Nat := if l < 0 then secUnits / 2 ^ l.natAbs else secUnits * 2 ^ l.natAbs

/-- An interval in force: the one a Signaling message asked for, else the configured one; none where it is stopped. -/
def intervalOf (asked : Option Int) (configured : Int) : Option Nat :=
  match asked with
  | some 127 => none
  | some l => some (logInterval l)
  | none => some (logInterval configured)

def syncInterval (s : State) (p : Nat) : Option Nat :=
  intervalOf (ethPort s p).signalled.1 (sfld (ptpBlock s) 56 8)
def announceInterval (s : State) (p : Nat) : Option Nat :=
  intervalOf (ethPort s p).signalled.2.1 (sfld (ptpBlock s) 64 8)
def delayInterval (s : State) (p : Nat) : Option Nat :=
  intervalOf (ethPort s p).signalled.2.2 (sfld (ptpBlock s) 72 8)

/-- The configured Sync and Announce intervals, by which what a port receives is timed (R114, R116): a Signaling message asks
only for what the T48 itself sends. -/
def syncSpan (s : State) : Nat := logInterval (sfld (ptpBlock s) 56 8)
def announceSpan (s : State) : Nat := logInterval (sfld (ptpBlock s) 64 8)

/-- The instance's clockIdentity: an EUI-64 of the lowest-numbered port's MAC address (R111). -/
def clockIdentity (s : State) : Nat :=
  let m := portMac s (((List.range 6).find? (bitOf (ptpMask s))).getD 0)
  m / 16777216 * 2 ^ 40 + 0xFFFE * 2 ^ 24 + m % 16777216

/-- A port's own portIdentity (R111). -/
def portIdentity (s : State) (p : Nat) : Nat × Nat := (clockIdentity s, p + 1)

/-! ## Counters (Table 4.9) -/

def countPort (p : Nat) (f : PortCounters → PortCounters) (s : State) : State :=
  modPort p (fun (e : EthPort) => { e with counters := f e.counters }) s

def countRx (p : Nat) (s : State) : State :=
  countPort p (fun (c : PortCounters) => { c with framesRx := bump c.framesRx }) s
def countDiscarded (p : Nat) (s : State) : State :=
  countPort p (fun (c : PortCounters) => { c with discarded := bump c.discarded }) s
def countPtpDiscarded (p : Nat) (s : State) : State :=
  countPort p (fun (c : PortCounters) => { c with ptpDiscarded := bump c.ptpDiscarded }) s

/-! ## Received frames (R29, R99, R100) -/

/-- MAX_FRAME (Table 4.2). -/
def maxFrame (s : State) (p : Nat) : Nat := fld (setting s 0x0300 p) 64 16

/-- VLAN_EN (Table 4.2). -/
def vlanOn (s : State) (p : Nat) : Bool := bitAt (setting s 0x0300 p) 60

/-- A frame has the length and the VLAN tag that the port's configuration accepts (R99). With VLAN_EN 0 the tag is not looked
at (DESIGN CHOICE, assumption 119). -/
def frameFits (s : State) (p : Nat) (h : FrameHead) : Bool :=
  decide (h.length ≤ maxFrame s p) && (!vlanOn s p || h.vid == some (fld (setting s 0x0300 p) 48 12))

/-- The bytes in the receive buffer as a frame arrives. -/
def rxBefore (s : State) (p : Nat) (h : FrameHead) : Nat := (ethPort s p).rxHeld - h.drained

/-- The receive buffer of 64 KiB has room for a frame (R29). -/
def rxRoom (s : State) (p : Nat) (h : FrameHead) : Bool := decide (rxBefore s p h + h.length ≤ 65536)

/-- A frame with a good FCS arrives: dropped for a full buffer, discarded for its length or tag, or passed on (Table 4.9). -/
def frameIn (p : Nat) (h : FrameHead) (s : State) (f : State → State) : State :=
  if !portUp s p then s
  else if !rxRoom s p h then
    countPort p (fun (c : PortCounters) => { c with rxOverflow := bump c.rxOverflow })
      (modPort p (fun (e : EthPort) => { e with rxHeld := rxBefore s p h }) s)
  else
    let s1 := countRx p (modPort p (fun (e : EthPort) => { e with rxHeld := rxBefore s p h + h.length }) s)
    if frameFits s p h then f s1 else countDiscarded p s1

/-! ## Frames that leave (R100, R103, R104, R118 to R120) -/

/-- The 802.1Q tag of a frame, PCP and VID (Table 4.2). -/
def frameTag (s : State) (p : Nat) (what : EthPayload) : Option (Nat × Nat) :=
  if vlanOn s p then
    some (match what with
      | .ptp _ _ | .atide _ => fld (setting s 0x0300 p) 61 3
      | _ => Config.otherPcp.toNat, fld (setting s 0x0300 p) 48 12)
  else none

/-- A frame starts: it leaves whole, and the transmitter is taken for its length. -/
def ethOut (p dest : Nat) (what : EthPayload) (s : State) : State :=
  let tag := frameTag s p what
  let frame : EthFrame := { dest := dest, source := portMac s p, tag := tag, what := what,
                            fcs := (Config.frameCheck dest (portMac s p) tag what).toNat }
  emit (.eth p frame) (modPort p (fun (e : EthPort) => { e with
    txUntil := countNow s + 1 + (Config.frameCounts e.speed what).toNat,
    counters := { e.counters with framesTx := bump e.counters.framesTx } }) s)

/-- A number as `n` words of 16 bits, the most significant first. -/
def words16 : Nat → Nat → List Nat
  | 0, _ => []
  | n + 1, v => words16 n (v / 65536) ++ [v % 65536]

/-- The ones' complement sum of two 16-bit words. -/
def onesAdd (a b : Nat) : Nat := (a + b) % 65536 + (a + b) / 65536

/-- RFC 1624: the checksum after a word of what it covers has changed. -/
def checksumStep (c old new : Nat) : Nat := 65535 - onesAdd (onesAdd (65535 - c) (65535 - old)) new

/-- The words of a message that its stamp completes: the timestamp's seconds and nanoseconds, and correctionField. -/
def stampWords (m : PtpMsg) : List Nat :=
  words16 3 (m.timestamp / secUnits) ++ words16 2 (m.timestamp % secUnits / nsUnits) ++ words16 4 (codeOf 64 m.correction)

/-- The UDP checksum after a message is completed, never zero (R118). -/
def udpUpdated (srcIp : Nat) (before after : PtpMsg) : Nat :=
  let c := ((stampWords before).zip (stampWords after)).foldl (fun c x => checksumStep c x.1 x.2)
    (Config.udpChecksum srcIp before).toNat
  if c = 0 then 65535 else c

/-- A completed message in its transport. -/
def ptpPayload (s : State) (p : Nat) (before after : PtpMsg) : EthPayload :=
  .ptp after (match after.transport with
    | 0 => none
    | 1 => some (udpUpdated (portIpv4 s p) before after)
    | _ => some (udpUpdated (portIpv6 s p) before after))

/-- The messages that PTP sends to the peer-delay addresses, and its event messages (R104, R117). -/
def peerKind : PtpKind → Bool
  | .pdelayReq | .pdelayResp | .pdelayRespFollowUp => true
  | _ => false
def eventKind : PtpKind → Bool
  | .sync | .delayReq | .pdelayReq | .pdelayResp => true
  | _ => false

/-- Where a message of the instance goes (R117). The split of kinds between the UDP ports and the group MAC addresses of the
IP groups are those of IEEE 1588 and of IP (PRESUMED, assumption 118). -/
def ptpDest (s : State) (kind : PtpKind) : PtpDest :=
  let udp := if eventKind kind then 319 else 320
  let v4 := if peerKind kind then 0xE000006B else 0xE0000181
  let v6 := if peerKind kind then 0xFF02 * 2 ^ 112 + 0x6B else 0xFF0E * 2 ^ 112 + 0x181
  match ptpTransport s with
  | 0 => { mac := if peerKind kind || ptpProfile s == 3 then 0x0180C200000E else 0x011B19000000, ip := 0, udpPort := 0 }
  | 1 => { mac := 0x01005E000000 + v4 % 2 ^ 23, ip := v4, udpPort := udp }
  | _ => { mac := 0x333300000000 + v6 % 2 ^ 32, ip := v6, udpPort := udp }

/-- A frame takes its place in a transmit queue: behind those of strict priority where it has it, else last (R104). -/
def queueTx (x : TxFrame) (q : List TxFrame) : List TxFrame :=
  if x.urgent then q.takeWhile (·.urgent) ++ x :: q.dropWhile (·.urgent) else q ++ [x]

/-- A waiting frame is a follow-up message, which holds a transmit stamp. -/
def TxFrame.followUp (x : TxFrame) : Bool :=
  match x.what with
  | .ptp m _ => m.kind == .followUp || m.kind == .pdelayRespFollowUp
  | _ => false

/-- The transmit stamps a port holds: those of waiting follow-up messages, and that of its delay request (R119, R120). -/
def stampsHeld (e : EthPort) : Nat :=
  (e.txQueue.filter TxFrame.followUp).length + flag (e.exchange.any (fun x => x.egress.isSome))

/-- The follow-up message of an event message, with its egress stamp (R119). In peer delay the fractions of both stamps stand
in the correctionFields, so that the responder's turnaround is the one R108 reckons with (DEDUCED, assumption 11). -/
def followUpOf (m : PtpMsg) (t : Dts) (d : PtpKind → PtpDest) : PtpMsg :=
  let kind : PtpKind := if m.kind == .sync then .followUp else .pdelayRespFollowUp
  { m with
    kind := kind, dest := d kind, twoStep := false, timestamp := t / nsUnits * nsUnits,
    correction := m.correction + (t % nsUnits : Nat) }

/-- A two-step event message as it leaves. -/
def twoStepForm (m : PtpMsg) (ingress : Dts) : PtpMsg :=
  if m.kind == .sync then { m with twoStep := true }
  else { m with twoStep := true, timestamp := ingress / nsUnits * nsUnits, correction := -(ingress % nsUnits : Nat) }

/-- A one-step event message as it leaves (R118). -/
def oneStepForm (m : PtpMsg) (ingress t : Dts) : PtpMsg :=
  if m.kind == .sync then
    { m with timestamp := t / nsUnits * nsUnits, correction := m.correction + (t % nsUnits : Nat) }
  else { m with timestamp := 0, correction := m.correction + ((t : Int) - ingress) }

/-- A PTP message starts. -/
def ptpOut (p : Nat) (dest : Nat) (before after : PtpMsg) (s : State) : State :=
  countPort p (fun (c : PortCounters) => { c with ptpTx := bump c.ptpTx })
    (ethOut p dest (ptpPayload s p before after) s)

/-- A PTP message starts, completed with its egress stamp (R118 to R120): Sync and Pdelay_Resp one-step or, with a stamp to
hold, two-step with their follow-up queued; a delay request leaves its stamp in the exchange it began, or loses it. -/
def startPtp (p : Nat) (x : TxFrame) (m : PtpMsg) (s : State) : State :=
  let t := egressStamp s p
  let full := decide (8 ≤ stampsHeld (ethPort s p))
  match m.kind with
  | .sync | .pdelayResp =>
    if bitAt (ptpBlock s) (48 + p) && !full then
      let f := followUpOf m t (ptpDest s)
      let y : TxFrame := { dest := f.dest.mac, what := .ptp f none, urgent := false, ingress := 0 }
      modPort p (fun (e : EthPort) => { e with txQueue := queueTx y e.txQueue })
        (ptpOut p x.dest (twoStepForm m x.ingress) (twoStepForm m x.ingress) s)
    else
      countPort p (fun (c : PortCounters) => { c with oneStep := bump c.oneStep })
        (ptpOut p x.dest m (oneStepForm m x.ingress t) s)
  | .delayReq | .pdelayReq =>
    let s1 := ptpOut p x.dest m m s
    if full then countPort p (fun (c : PortCounters) => { c with txStampMissed := bump c.txStampMissed }) s1
    else modPort p (fun (e : EthPort) => { e with
      exchange := e.exchange.map (fun y => if y.seqId = m.seqId then { y with egress := some t } else y) }) s1
  | .followUp | .pdelayRespFollowUp =>
    countPort p (fun (c : PortCounters) => { c with followUps := bump c.followUps }) (ptpOut p x.dest m m s)
  | _ => ptpOut p x.dest m m s

/-- A frame starts. -/
def beginFrame (p : Nat) (x : TxFrame) (s : State) : State :=
  match x.what with
  | .ptp m _ => startPtp p x m s
  | w => ethOut p x.dest w s

/-- The first waiting frame starts where the transmitter is free: a frame in transmission is finished first (R104). Without
the port nothing waits. -/
def pumpPort (p : Nat) (s : State) : State :=
  match (ethPort s p).txQueue with
  | [] => s
  | x :: q =>
    if !portUp s p then modPort p (fun (e : EthPort) => { e with txQueue := [] }) s
    else if countNow s < (ethPort s p).txUntil then s
    else beginFrame p x (modPort p (fun (e : EthPort) => { e with txQueue := q }) s)

/-- A frame is given to a port: it takes its place in the queue, and starts at once where the transmitter is free. -/
def sendFrame (p : Nat) (x : TxFrame) (s : State) : State :=
  if portUp s p then pumpPort p (modPort p (fun (e : EthPort) => { e with txQueue := queueTx x e.txQueue }) s) else s

/-- A frame other than PTP's. -/
def sendEth (p dest : Nat) (urgent : Bool) (what : EthPayload) (s : State) : State :=
  sendFrame p { dest := dest, what := what, urgent := urgent, ingress := 0 } s

/-- A PTP message is given to a port; event messages take strict priority (R104). -/
def sendPtp (p : Nat) (m : PtpMsg) (s : State) : State :=
  sendFrame p { dest := m.dest.mac, what := .ptp m none, urgent := eventKind m.kind, ingress := 0 } s

/-- A blank message of the instance. -/
def ownMsg (s : State) (p : Nat) (kind : PtpKind) (seq : Nat) : PtpMsg :=
  { kind := kind, version := 2, domain := ptpDomain s, transport := ptpTransport s, dest := ptpDest s kind,
    seqId := seq % 65536,
    twoStep := false, timestamp := 0, correction := 0, source := portIdentity s p, requester := (0, 0), gm := none,
    intervals := none, rateOffset := 0, pathTrace := [] }

/-! ## The grandmaster's values (R115, Table 4.6) -/

/-- The error bound is within HOLDOVER_LIMIT_US. -/
def boundWithinLimit (s : State) : Bool :=
  match errorBound s with
  | some b => decide (b ≤ fld (setting s 0x0202 0) 96 32 * usUnits)
  | none => false

/-- clockClass announced as the grandmaster (Table 4.6). -/
def ownClockClass (s : State) : Nat :=
  if !s.time.valid then 248
  else match s.time.state, timeSource s with
    | .locked, 2 => 6
    | .locked, 3 => 13
    | .holdover, 2 => if boundWithinLimit s then 7 else 248
    | .holdover, 3 => if boundWithinLimit s then 14 else 248
    | _, _ => 248

/-- The clockAccuracy enumeration of IEEE 1588-2019 from 0x21 upward, with its limits in ns. -/
def accuracyTable : List (Nat × Nat) :=
  [(0x21, 100), (0x22, 250), (0x23, 1000), (0x24, 2500), (0x25, 10000), (0x26, 25000), (0x27, 100000), (0x28, 250000),
   (0x29, 1000000), (0x2A, 2500000), (0x2B, 10000000), (0x2C, 25000000), (0x2D, 100000000), (0x2E, 250000000),
   (0x2F, 1000000000), (0x30, 10000000000)]

/-- clockAccuracy announced as the grandmaster; 0xFE beyond 10 s and where no bound is asserted. -/
def ownAccuracy (s : State) : Nat :=
  match errorBound s with
  | some b => match accuracyTable.find? (fun a => decide (b ≤ a.2 * nsUnits)) with
    | some a => a.1
    | none => 0xFE
  | none => 0xFE

def ownTimeSource (s : State) : Nat :=
  match timeSource s with
  | 2 => 0x20
  | 3 => 0x90
  | _ => 0xA0

/-- The T48's own values as a grandmaster. -/
def ownGm (s : State) : GmData :=
  { identity := clockIdentity s, priority1 := if ptpRole s = 0 then 248 else fld (ptpBlock s) 80 8,
    clockClass := ownClockClass s, accuracy := ownAccuracy s, variance := Config.clockVariance.toNat,
    priority2 := fld (ptpBlock s) 88 8, stepsRemoved := 0, timeSource := ownTimeSource s, sender := clockIdentity s }

/-! ## The BMCA (R112, R113; assumption 11) -/

/-- The first differing number decides. -/
def lexLess : List Nat → List Nat → Bool
  | a :: as, b :: bs => if a < b then true else if b < a then false else lexLess as bs
  | _, _ => false

/-- One data set is better than another (IEEE 1588-2019 data set comparison). -/
def gmBetter (a b : GmData) : Bool :=
  if a.identity = b.identity then lexLess [a.stepsRemoved, a.sender] [b.stepsRemoved, b.sender]
  else lexLess [a.priority1, a.clockClass, a.accuracy, a.variance, a.priority2, a.identity]
    [b.priority1, b.clockClass, b.accuracy, b.variance, b.priority2, b.identity]

/-- The Announce data of a port that may serve: under 802.1AS only of a port that is asCapable. -/
def usableAnnounce (s : State) (p : Nat) : Option GmData :=
  if ptpOn s p && portUp s p && (ptpProfile s != 3 || (ethPort s p).asCapable) then (ethPort s p).announce else none

/-- The port with the best Announce data. -/
def bestPort (s : State) : Option (Nat × GmData) :=
  (List.range 6).foldl (fun best p => match usableAnnounce s p, best with
    | some g, some b => if gmBetter g b.2 then some (p, g) else some b
    | some g, none => some (p, g)
    | none, b => b) none

/-- The state the BMCA gives a port. -/
def bmcaState (s : State) (p : Nat) : PtpState :=
  let own := ownGm s
  if !ptpOn s p then .initializing
  else match ptpRole s with
    | 3 => .master
    | 0 => if (usableAnnounce s p).isSome then .slave else .listening
    | r => match usableAnnounce s p, bestPort s with
      | some g, some (q, b) =>
        if own.clockClass ≤ 127 then (if gmBetter own g || r == 1 then .master else .passive)
        else if gmBetter own b then .master
        else if q = p then .slave
        else if g.identity = b.identity then .passive else .master
      | _, _ => if (ethPort s p).ptp == .listening then .listening else .master

/-- The port in SLAVE. -/
def slavePort (s : State) : Option Nat := (List.range 6).find? (fun p => (ethPort s p).ptp == .slave && ptpOn s p)

/-- The PTP source is lost where the servo follows it (R114). -/
def losePtp (s : State) : State := if timeSource s = 1 then loseSource s else s

/-- A newly selected or changed source starts in ACQUIRING (R69, R71, R113). -/
def acquireSource (s : State) : State :=
  setTime (fun tb => { tb with state := .acquiring, goodRun := 0, badRun := 0 }) s

/-- The BMCA runs: every port takes its state, and a SLAVE port lost or changed acts on the servo (R113, R114). -/
def runBmca (s : State) : State :=
  let was := slavePort s
  let s1 := (List.range 6).foldl (fun t p =>
    let st := bmcaState s p
    modPort p (fun (e : EthPort) =>
      if st == .slave && e.ptp != .slave then { e with ptp := st, lastSync := now s, lastAnnounce := now s }
      else { e with ptp := st }) t) s
  match was, slavePort s1 with
  | some _, none => losePtp s1
  | some a, some b => if a ≠ b ∧ timeSource s = 1 then acquireSource s1 else s1
  | _, _ => s1

/-! ## Path delay and the error (R108, R109) -/

/-- The mean of the last eight accepted path-delay measurements. -/
def meanDelay (e : EthPort) : Option Interval :=
  if e.delays = [] then none else some (e.delays.foldl (· + ·) 0 / (e.delays.length : Int))

/-- A path-delay measurement is accepted, or counted as an outlier (R109). After the eighth outlier the port has no mean until
the next measurement: in between no error is measured and MEAN_PATH_DELAY reads 0 (DESIGN CHOICE, assumption 111). -/
def addDelay (p : Nat) (m : Interval) (s : State) : State :=
  let e := ethPort s p
  let near := match meanDelay e with
    | some d => decide (mag (m - d) ≤ usUnits)
    | none => true
  if near then
    modPort p (fun (e : EthPort) =>
      { e with delays := (e.delays ++ [m]).drop (e.delays.length - 7), outlierRun := 0 }) s
  else
    let s1 := countPort p (fun (c : PortCounters) => { c with pathOutlier := bump c.pathOutlier }) s
    modPort p (fun (e : EthPort) =>
      if 8 ≤ e.outlierRun + 1 then { e with delays := [], outlierRun := 0 }
      else { e with outlierRun := e.outlierRun + 1 }) s1

/-- A Sync of the SLAVE port, with its origin time complete: the measured error goes to the servo. -/
def syncMeasured (p : Nat) (t1 t2 : Interval) (s : State) : State :=
  let s1 := modPort p (fun (e : EthPort) => { e with lastSyncDelta := some (t2 - t1) }) s
  match meanDelay (ethPort s1 p) with
  | some d =>
    if timeSource s1 = 1 then measure (t2 - t1 - d - asymmetry s1 p) s1 else s1
  | none => s1

/-! ## Received messages (R116, R117) -/

/-- R117: version, domain, transport and destination are the instance's, and the port runs PTP. -/
def ptpFits (s : State) (p : Nat) (m : PtpMsg) : Bool :=
  ptpOn s p && m.version == 2 && m.domain == ptpDomain s && m.transport == ptpTransport s &&
    (if ptpTransport s = 0 then m.dest.mac == (ptpDest s m.kind).mac
     else m.dest.ip == (ptpDest s m.kind).ip && m.dest.udpPort == (ptpDest s m.kind).udpPort)

/-- A received PTP message: taken where it fits and `want` holds, else discarded and counted (R116, R117). -/
def ptpReceived (p : Nat) (kind : PtpKind) (m : PtpMsg) (h : FrameHead) (s : State) (want : State → Bool)
    (f : State → State) : Host.Outcome State Fault Refusal :=
  awakeAnswer s fun s =>
    if m.kind != kind then s
    else frameIn p h s fun s1 =>
      if !ptpOn s1 p then countDiscarded p s1
      else if ptpFits s1 p m && want s1 then
        f (countPort p (fun (c : PortCounters) => { c with ptpRx := bump c.ptpRx }) s1)
      else countPtpDiscarded p s1

def isSlave (s : State) (p : Nat) : Bool := (ethPort s p).ptp == .slave
def isMaster (s : State) (p : Nat) : Bool := (ethPort s p).ptp == .master

/-- Sync: one-step it is measured at once, two-step it waits for its Follow_Up. -/
def execPtpSyncReceived (port : Nat) (msg : PtpMsg) (head : FrameHead) (s : State) : Host.Outcome State Fault Refusal :=
  ptpReceived port .sync msg head s (fun s => isSlave s port) fun s =>
    let t2 := ingressStamp s port head
    let s1 := modPort port (fun (e : EthPort) => { e with lastSync := now s }) s
    if msg.twoStep then
      let w : WaitingSync :=
        { seqId := msg.seqId, ingress := t2, correction := msg.correction, rateOffset := msg.rateOffset }
      modPort port (fun (e : EthPort) => { e with sync := some w }) s1
    else
      syncMeasured port ((msg.timestamp : Int) + msg.correction) t2
        (modPort port (fun (e : EthPort) => { e with sync := none, cumulative := msg.rateOffset }) s1)

/-- A Follow_Up within one Sync interval of its Sync. -/
def followsSync (s : State) (p : Nat) (m : PtpMsg) (h : FrameHead) : Bool :=
  (ethPort s p).sync.any (fun w => w.seqId == m.seqId && decide (ingressStamp s p h ≤ w.ingress + syncSpan s))

def execPtpFollowUpReceived (port : Nat) (msg : PtpMsg) (head : FrameHead) (s : State) : Host.Outcome State Fault Refusal :=
  ptpReceived port .followUp msg head s (fun s => isSlave s port && followsSync s port msg head) fun s =>
    match (ethPort s port).sync with
    | some w =>
      syncMeasured port ((msg.timestamp : Int) + w.correction + msg.correction) w.ingress
        (modPort port (fun (e : EthPort) => { e with sync := none, cumulative := msg.rateOffset }) s)
    | none => s

/-- Delay_Req on a MASTER port: the answer carries its ingress stamp, the FRACTION in correctionField. -/
def execPtpDelayReqReceived (port : Nat) (msg : PtpMsg) (head : FrameHead) (s : State) : Host.Outcome State Fault Refusal :=
  ptpReceived port .delayReq msg head s (fun s => isMaster s port && ptpProfile s == 1) fun s =>
    let t4 := ingressStamp s port head
    sendPtp port { ownMsg s port .delayResp msg.seqId with
      timestamp := t4 / nsUnits * nsUnits, correction := msg.correction - (t4 % nsUnits : Nat),
      requester := msg.source } s

def execPtpDelayRespReceived (port : Nat) (msg : PtpMsg) (head : FrameHead) (s : State) : Host.Outcome State Fault Refusal :=
  ptpReceived port .delayResp msg head s (fun s => isSlave s port && ptpProfile s == 1) fun s =>
    let e := ethPort s port
    match e.exchange, e.lastSyncDelta with
    | some x, some d =>
      if msg.requester = portIdentity s port ∧ x.seqId = msg.seqId then
        let s1 := modPort port (fun (e : EthPort) => { e with exchange := none }) s
        match x.egress with
        | some t3 => addDelay port ((d + ((msg.timestamp : Int) - msg.correction - t3)) / 2) s1
        | none => s1
      else s
    | _, _ => s

/-- Pdelay_Req: its answer takes its place in the transmit queue and is completed when it starts (R118 to R120). -/
def execPtpPdelayReqReceived (port : Nat) (msg : PtpMsg) (head : FrameHead) (s : State) :
    Host.Outcome State Fault Refusal :=
  ptpReceived port .pdelayReq msg head s peerDelay fun s =>
    let resp := { ownMsg s port .pdelayResp msg.seqId with requester := msg.source, correction := msg.correction }
    sendFrame port { dest := resp.dest.mac, what := .ptp resp none, urgent := true,
                     ingress := ingressStamp s port head } s

/-- A peer-delay measurement ends: link delay, rate ratio and asCapable (R108, R117). -/
def pdelayMeasured (p : Nat) (t1 t4 : Dts) (turnaround : Int) (far : Option Dts) (s : State) : State :=
  let e := ethPort s p
  let ratio := match far, e.lastPdelay with
    | some f, some (f0, n0) =>
      if n0 < t4 then ((f : Int) - f0) * 1099511627776 / ((t4 : Int) - n0) - 1099511627776 else e.rateRatio
    | _, _ => e.rateRatio
  let delay := (((t4 : Int) - t1) + ((t4 : Int) - t1) * ratio / 1099511627776 - turnaround) / 2
  let s1 := addDelay p delay (modPort p (fun (e : EthPort) => { e with
    rateRatio := ratio, lastPdelay := far.map (fun f => (f, t4)), exchange := none, pdelayFailRun := 0 }) s)
  let near := decide (delay ≤ (800 * nsUnits : Nat))
  modPort p (fun (e : EthPort) => { e with asCapable := ptpProfile s == 3 && near }) s1

/-- asCapable lost on the SLAVE port loses the source (R114). -/
def checkCapable (p : Nat) (s : State) : State :=
  if ptpProfile s == 3 && !(ethPort s p).asCapable && isSlave s p then runBmca (losePtp s)
  else if ptpProfile s == 3 then runBmca s else s

def execPtpPdelayRespReceived (port : Nat) (msg : PtpMsg) (head : FrameHead) (s : State) : Host.Outcome State Fault Refusal :=
  ptpReceived port .pdelayResp msg head s peerDelay fun s =>
    match (ethPort s port).exchange with
    | some x =>
      if msg.requester = portIdentity s port ∧ x.seqId = msg.seqId then
        let t4 := ingressStamp s port head
        if msg.twoStep then
          let y : Exchange := { x with response := some (msg.timestamp, t4, msg.correction) }
          modPort port (fun (e : EthPort) => { e with exchange := some y }) s
        else match x.egress with
          | some t1 => checkCapable port (pdelayMeasured port t1 t4 msg.correction none s)
          | none => modPort port (fun (e : EthPort) => { e with exchange := none, pdelayFailRun := 0 }) s
      else s
    | none => s

def execPtpPdelayRespFollowUpReceived (port : Nat) (msg : PtpMsg) (head : FrameHead) (s : State) :
    Host.Outcome State Fault Refusal :=
  ptpReceived port .pdelayRespFollowUp msg head s (fun s => peerDelay s && (match (ethPort s port).exchange with
      | some x => x.seqId == msg.seqId && x.response.isSome
      | none => false)) fun s =>
    match (ethPort s port).exchange with
    | some x => match x.response, x.egress with
      | some (t2, t4, c), some t1 =>
        let t3 : Int := (msg.timestamp : Int) + msg.correction
        checkCapable port (pdelayMeasured port t1 t4 (t3 - (t2 : Int) + c) (some t3.toNat) s)
      | _, _ => modPort port (fun (e : EthPort) => { e with exchange := none, pdelayFailRun := 0 }) s
    | none => s

/-- Announce: not in ROLE 3, and not the T48's own (R112). -/
def execPtpAnnounceReceived (port : Nat) (msg : PtpMsg) (head : FrameHead) (s : State) : Host.Outcome State Fault Refusal :=
  ptpReceived port .announce msg head s (fun s => ptpRole s != 3) fun s =>
    match msg.gm with
    | some g =>
      if msg.source.1 = clockIdentity s ∨ 255 ≤ g.stepsRemoved ∨ msg.pathTrace.contains (clockIdentity s) then s
      else runBmca (modPort port (fun (e : EthPort) =>
        { e with announce := some { g with sender := msg.source.1 }, pathTrace := msg.pathTrace,
                 lastAnnounce := now s }) s)
    | none => s

/-- An asked-for interval (802.1AS message interval request TLV): −128 keeps it, 126 restores the configured one. -/
def askedInterval (old : Option Int) (v : Int) : Option Int :=
  if v = -128 then old else if v = 126 then none else some v

def execPtpSignalingReceived (port : Nat) (msg : PtpMsg) (head : FrameHead) (s : State) : Host.Outcome State Fault Refusal :=
  ptpReceived port .signaling msg head s (fun _ => true) fun s =>
    match msg.intervals with
    | some (sy, an, pd) => modPort port (fun (e : EthPort) => { e with signalled :=
        (askedInterval e.signalled.1 sy, askedInterval e.signalled.2.1 an, askedInterval e.signalled.2.2 pd) }) s
    | none => s

def execPtpManagementReceived (port : Nat) (msg : PtpMsg) (head : FrameHead) (s : State) : Host.Outcome State Fault Refusal :=
  ptpReceived port .management msg head s (fun _ => false) id

/-! ## Messages sent (R115, R118, R119, R120) -/

/-- An interval has passed since an instant. -/
def intervalPassed (s : State) (since : Dts) (i : Option Nat) : Bool :=
  match i with
  | some n => decide (since + n ≤ now s)
  | none => false

/-- The cumulative rate offset that the T48 sends: zero as the grandmaster, else the one received plus the slave
port's own ratio (802.1AS). -/
def sentRateOffset (s : State) : Int :=
  match slavePort s with
  | some q => if ptpProfile s == 3 then (ethPort s q).cumulative + (ethPort s q).rateRatio else 0
  | none => 0

/-- Sync of a MASTER port; none while the T48 is the grandmaster and TIME_VALID is 0 (Table 4.6). -/
def execPtpSyncInterval (port : Nat) (s : State) : Host.Outcome State Fault Refusal :=
  awakeAnswer s fun s =>
    let e := ethPort s port
    if !(portUp s port && ptpOn s port && isMaster s port && (s.time.valid || (slavePort s).isSome) &&
        intervalPassed s e.sentSync (syncInterval s port)) then s
    else
      sendPtp port { ownMsg s port .sync e.seqSync with rateOffset := sentRateOffset s }
        (modPort port (fun (e : EthPort) => { e with sentSync := now s, seqSync := (e.seqSync + 1) % 65536 }) s)

/-- An exchange ends without a response: the third in a row loses asCapable and, on the SLAVE port, the source (R114, Table
4.9). -/
def failPdelay (port : Nat) (s : State) : State :=
  let three := decide (3 ≤ (ethPort s port).pdelayFailRun + 1)
  let s1 := modPort port (fun (e : EthPort) => { e with
    exchange := none, pdelayFailRun := e.pdelayFailRun + 1, asCapable := e.asCapable && !three,
    counters := { e.counters with pdelayFails := bump e.counters.pdelayFails } }) s
  if three then runBmca (if isSlave s port then losePtp s1 else s1) else s1

/-- A Pdelay exchange that has had no response. -/
def unanswered (s : State) (port : Nat) : Bool :=
  peerDelay s && (ethPort s port).exchange.any (fun x => x.response.isNone)

/-- Delay_Req of the SLAVE port, or Pdelay_Req of any PTP port (Table 4.7); a Pdelay exchange that had no response within the
delay interval has failed. The stamp of the request stays inside the T48 (R119). -/
def execPtpDelayInterval (port : Nat) (s : State) : Host.Outcome State Fault Refusal :=
  awakeAnswer s fun s =>
    let e := ethPort s port
    let due := if peerDelay s then intervalPassed s e.sentDelay (delayInterval s port)
      else isSlave s port && intervalPassed s e.sentDelay ((delayInterval s port).map (fun n => n * 7 / 10))
    if !(portUp s port && ptpOn s port && due) then s
    else
      let x : Exchange := { seqId := e.seqDelay % 65536, egress := none, sentAt := now s, response := none }
      let s1 := if unanswered s port then failPdelay port s else s
      sendPtp port (ownMsg s port (if peerDelay s then .pdelayReq else .delayReq) e.seqDelay)
        (modPort port (fun (e : EthPort) =>
          { e with sentDelay := now s, seqDelay := (e.seqDelay + 1) % 65536, exchange := some x }) s1)

/-- The values a MASTER port announces: the T48's own, or the grandmaster's as received (R115). -/
def announced (s : State) : GmData × List Nat :=
  match slavePort s with
  | some q => match (ethPort s q).announce with
    | some g => ({ g with stepsRemoved := g.stepsRemoved + 1, sender := clockIdentity s }, (ethPort s q).pathTrace)
    | none => (ownGm s, [])
  | none => (ownGm s, [])

def execPtpAnnounceInterval (port : Nat) (s : State) : Host.Outcome State Fault Refusal :=
  awakeAnswer s fun s =>
    let e := ethPort s port
    if !(portUp s port && ptpOn s port && isMaster s port && intervalPassed s e.sentAnnounce (announceInterval s port)) then s
    else
      let (g, path) := announced s
      sendPtp port { ownMsg s port .announce e.seqAnnounce with
          gm := some g, pathTrace := if ptpProfile s = 3 then path ++ [clockIdentity s] else [] }
        (modPort port (fun (e : EthPort) =>
          { e with sentAnnounce := now s, seqAnnounce := (e.seqAnnounce + 1) % 65536 }) s)

/-! ## Losses (R114) -/

def execSyncReceiptTimeout (port : Nat) (s : State) : Host.Outcome State Fault Refusal :=
  awakeAnswer s fun s =>
    let e := ethPort s port
    if portUp s port && ptpOn s port && isSlave s port && intervalPassed s e.lastSync
        (some (syncSpan s * fld (ptpBlock s) 104 8)) then
      losePtp (modPort port (fun (e : EthPort) => { e with
        lastSync := now s, counters := { e.counters with syncTimeouts := bump e.counters.syncTimeouts } }) s)
    else s

/-- A port without Announces: its data lapse and the BMCA runs; a listening port becomes MASTER (R112, R114). -/
def execAnnounceReceiptTimeout (port : Nat) (s : State) : Host.Outcome State Fault Refusal :=
  awakeAnswer s fun s =>
    let e := ethPort s port
    if portUp s port && ptpOn s port && ptpRole s != 3 && (e.announce.isSome || e.ptp == .listening) &&
        intervalPassed s e.lastAnnounce (some (announceSpan s * fld (ptpBlock s) 96 8)) then
      let s1 := modPort port (fun (e : EthPort) => { e with
        announce := none, lastAnnounce := now s, ptp := if ptpRole s == 0 then e.ptp else
          (if e.ptp == .slave then e.ptp else .master),
        counters := { e.counters with announceTimeouts := bump e.counters.announceTimeouts } }) s
      runBmca (if isSlave s port then losePtp s1 else s1)
    else s

def execPdelayTimeout (port : Nat) (s : State) : Host.Outcome State Fault Refusal :=
  awakeAnswer s fun s =>
    let e := ethPort s port
    match e.exchange with
    | some x =>
      if portUp s port && ptpOn s port && unanswered s port && intervalPassed s x.sentAt (delayInterval s port) then
        failPdelay port s
      else s
    | none => s

/-! ## Links and other frames (R100, R101) -/

def portFault (p l3 : Nat) : Nat := sourceOf 0x03 p l3

/-- A port's link goes down: counted, with a CE record where the port serves PTP, a lidar or a peer (R101). Frames that wait
in the port go with it (DESIGN CHOICE, assumption 120). -/
def loseLink (port : Nat) (s : State) : State :=
  let counts := s.dev.state == .setup || inRun s
  let s1 := modPort port (fun (e : EthPort) => { e with
    link := false, txQueue := [], txUntil := 0, rxHeld := 0, exchange := none, sync := none, announce := none,
    asCapable := false,
    counters := if counts then { e.counters with linkDown := bump e.counters.linkDown } else e.counters }) s
  let s2 := if counts && (ptpOn s port || lidarBound s port || atideOnPort s port)
    then report (portFault port 0) 0 4 .ce 0 s1 else s1
  if ptpOn s port then runBmca (if isSlave s port then losePtp s2 else s2) else s2

def execLinkDown (port : Nat) (s : State) : Host.Outcome State Fault Refusal :=
  awakeAnswer s fun s =>
    if decide (port < 6) && (ethPort s port).link then loseLink port s else s

/-- The speeds of an interface (Table 4.1). -/
def speedOk (interface speed : Nat) : Bool :=
  match interface with
  | 1 => decide (1 ≤ speed ∧ speed ≤ 6)
  | 2 => speed == 6
  | 3 => speed == 4
  | 4 | 5 => decide (1 ≤ speed ∧ speed ≤ 3)
  | _ => false

/-- The port's configuration admits a link at a speed (R99). -/
def speedAdmitted (s : State) (port speed : Nat) : Bool :=
  speedOk (portInterface s port) speed && (fld (setting s 0x0300 port) 8 4 == 0 || fld (setting s 0x0300 port) 8 4 == speed)

/-- A link comes up at a speed that the interface and SPEED admit (R99, R101). -/
def execLinkUp (port speed : Nat) (s : State) : Host.Outcome State Fault Refusal :=
  awakeAnswer s fun s =>
    if decide (port < 6) && speedAdmitted s port speed && !(ethPort s port).link then
      let s1 := modPort port (fun (e : EthPort) => { e with link := true, speed := speed, lastAnnounce := now s }) s
      if ptpOn s1 port then runBmca s1 else s1
    else s

/-- ARP requests and neighbour solicitations for the port's own address are answered (R100). -/
def execArpRequest (port ip target sender : Nat) (head : FrameHead) (s : State) : Host.Outcome State Fault Refusal :=
  awakeAnswer s fun s => frameIn port head s fun s1 =>
    let mine := if ip = 4 then portIpv4 s1 port else portIpv6 s1 port
    if mine ≠ 0 ∧ target = mine then sendEth port sender false (.answer ip mine) s1 else countDiscarded port s1

def execEthOtherFrame (port : Nat) (kind : OtherFrame) (head : FrameHead) (s : State) :
    Host.Outcome State Fault Refusal :=
  awakeAnswer s fun s =>
    match kind with
    | .badFcs =>
      if portUp s port then countPort port (fun (c : PortCounters) => { c with fcsErrors := bump c.fcsErrors }) s else s
    | .unaccepted => frameIn port head s (countDiscarded port)
    | .ptpRefused => frameIn port head s (countPtpDiscarded port)

/-! ## Commands -/

/-- CONFIG_PORT: the port takes its configuration; a link that it does not admit goes down (assumption 12). -/
def execConfigPort (k : CmdKey) (s : State) : Host.Outcome State Fault Refusal :=
  runCommand k 0x0300 (fun c s =>
    let p := fld c.params 0 8
    let s1 := putSetting 0x0300 p c.params s
    conclude c stDone 0 [] (if (ethPort s p).link && !speedAdmitted s1 p (ethPort s p).speed then loseLink p s1 else s1)) s

def execSetPortCorrections (k : CmdKey) (s : State) : Host.Outcome State Fault Refusal :=
  runCommand k 0x0301 (fun c s =>
    done c (putSetting 0x0301 (fld c.params 0 8 * 16 + fld c.params 8 8) c.params s)) s

/-- Every PTP port starts afresh under a configuration: ROLE 3 as MASTER, else listening (R112). -/
def ptpStart (s : State) : State :=
  (List.range 6).foldl (fun t p => modPort p (fun (e : EthPort) => { e with
    ptp := if !ptpOn s p then .initializing else if ptpRole s = 3 then .master else .listening,
    delays := [], outlierRun := 0, rateRatio := 0, asCapable := false, pdelayFailRun := 0, exchange := none,
    sync := none, announce := none, pathTrace := [], cumulative := 0, lastSyncDelta := none, lastPdelay := none,
    lastSync := now s, lastAnnounce := now s, sentSync := now s, sentDelay := now s, sentAnnounce := now s,
    signalled := (none, none, none) }) t) s

def execConfigPtp (k : CmdKey) (s : State) : Host.Outcome State Fault Refusal :=
  runCommand k 0x0302 (fun c s =>
    let s1 := ptpStart (putSetting 0x0302 0 c.params s)
    conclude c stDone 0 [] (if (slavePort s).isSome then losePtp s1 else s1)) s

/-- IEEE 1588-2019 portState. -/
def PtpState.code : PtpState → Nat
  | .initializing => 1
  | .faulty => 2
  | .disabled => 3
  | .listening => 4
  | .preMaster => 5
  | .master => 6
  | .passive => 7
  | .uncalibrated => 8
  | .slave => 9

/-- The grandmaster's data as GET_PTP_STATUS shows them: none while no grandmaster is known. Table 4.8 says neither what
stands there while the T48 is the grandmaster, where the model shows the T48's own values in ROLE 1 to 3, nor from which clock
STEPS_REMOVED counts, where it shows the received number plus 1 with a SLAVE port (DESIGN CHOICE, assumption 114). -/
def shownGm (s : State) : Option GmData :=
  if ptpProfile s = 0 then none
  else match slavePort s with
    | some q => (ethPort s q).announce
    | none => if ptpRole s = 0 then none else some (ownGm s)

def ptpEntry (s : State) (p : Nat) : Bytes :=
  let e := ethPort s p
  pack 16 [(0, 8, p), (8, 4, e.ptp.code), (12, 1, flag e.asCapable), (32, 32, codeOf 32 e.rateRatio),
    (64, 64, codeOf 64 ((meanDelay e).getD 0))]

/-- GET_PTP_STATUS's result (Table 4.8). -/
def ptpStatusBlock (s : State) : Bytes :=
  let head := match shownGm s with
    | some g => [(0, 64, g.identity), (64, 16, g.stepsRemoved + flag (slavePort s).isSome), (80, 8, g.clockClass),
        (88, 8, g.accuracy)]
    | none => [(80, 8, 248), (88, 8, 0xFE)]
  pack 16 (head ++ [(96, 8, (slavePort s).getD 0xFF)]) ++ (List.range 6).flatMap (ptpEntry s)

def execGetPtpStatus (k : CmdKey) (s : State) : Host.Outcome State Fault Refusal :=
  runCommand k 0x0303 (fun c s => doneWith c (ptpStatusBlock s) s) s

/-- The sixteen counters in the order of Table 4.9. -/
def counterList (c : PortCounters) : List Nat :=
  [c.framesRx, c.framesTx, c.fcsErrors, c.rxOverflow, c.discarded, c.ptpRx, c.ptpTx, c.ptpDiscarded, c.oneStep,
   c.followUps, c.txStampMissed, c.syncTimeouts, c.announceTimeouts, c.pathOutlier, c.linkDown, c.pdelayFails]

/-- GET_PORT_STATS's result (Table 4.9). -/
def portStatsBlock (s : State) (p : Nat) : Bytes := (counterList (ethPort s p).counters).flatMap (bytesOfNat 4)

def execGetPortStats (k : CmdKey) (s : State) : Host.Outcome State Fault Refusal :=
  runCommand k 0x0304 (fun c s => doneWith c (portStatsBlock s (fld c.params 0 8)) s) s

/-! ## Refusals of the Ports commands -/

/-- Parameters that fail together (R99, R110, R112). R112 admits one port in ROLE 0 and ROLE 1 and gives no status for another
number: BAD_PARAM that blames PORT_MASK, an empty mask included (DESIGN CHOICE, assumption 112). -/
def jointPorts (op : Nat) (b : Bytes) : Option Refuse :=
  match op with
  | 0x0300 =>
    let p := fld b 0 8
    let i := fld b 12 4
    let v := fld b 8 4
    if (p < 4 ∧ i = 5) ∨ (4 ≤ p ∧ i ≠ 5 ∧ i ≠ 0) then some (stBadParam, 1)
    else if i ≠ 0 ∧ v ≠ 0 ∧ ¬ speedOk i v then some (stBadParam, 1)
    else if bitAt b 60 ∧ (fld b 48 12 = 0 ∨ fld b 48 12 = 4095) then some (stBadParam, 6)
    else if bitAt b 120 then some (stBadParam, 10) else none
  | 0x0302 =>
    if fld b 0 8 = 3 ∧ fld b 24 8 ≠ 0 then some (stBadParam, 3)
    else if fld b 0 8 = 3 ∧ fld b 32 8 ≠ 0 then some (stBadParam, 4)
    else if fld b 0 8 ≠ 0 ∧ fld b 16 8 ≤ 1 ∧ popCount 6 (fld b 40 6) ≠ 1 then some (stBadParam, 5) else none
  | _ => none

/-- Whether a PTP configuration does not admit SOURCE 1 with a port: ROLE 3 is refused with STATE; in ROLE 0 and ROLE 1
SOURCE_INDEX names the configured port, else the model refuses with BAD_PARAM, for R113 gives no status (DESIGN CHOICE,
assumption 113); ROLE 2 ignores it. -/
def sourceRefused (s : State) (ptp : Bytes) (index blamed : Nat) : Option Refuse :=
  if fld ptp 0 8 = 0 then (if 5 < index then some (stBadParam, blamed) else none)
  else if fld ptp 16 8 = 3 then some (stState, stateWord s % 65536)
  else if fld ptp 16 8 = 2 then none
  else if 5 < index ∨ ¬ bitOf (fld ptp 40 6) index then some (stBadParam, blamed) else none

/-- SOURCE 1 and the PTP configuration fit each other, whichever comes second (R113). -/
def startPorts (s : State) (op : Nat) (b : Bytes) : Option Refuse :=
  match op with
  | 0x0302 => if fld b 0 8 ≠ 0 ∧ timeSource s = 1 then sourceRefused s b (sourceIndex s) 5 else none
  | 0x0201 => if fld b 0 8 = 1 then sourceRefused s (ptpBlock s) (fld b 8 8) 1 else none
  | _ => none

end Sys2Proof.Machine
end

