-- ==== Sys2Proof/Machine/Sources.lean ====
section
/-! DEFINITION. Source numbers, the source clock model and the time trust of sources (R123, R151 to R157, R180). -/

namespace Sys2Proof.Machine

/-! ## Source numbers (Table 5.1) -/

/-- The place of a source number in the ascending order of Table 5.1. -/
def srcIdx (n : Nat) : Option Nat :=
  if n < 8 then some n
  else if 0x10 ≤ n ∧ n < 0x18 then some (n - 8)
  else if 0x20 ≤ n ∧ n < 0x24 then some (n - 16)
  else if 0x30 ≤ n ∧ n < 0x34 then some (n - 28)
  else if 0x40 ≤ n ∧ n < 0x42 then some (n - 40)
  else none

/-- The source number at a place. -/
def srcNum (i : Nat) : Nat := placeNumber i

/-- A source's clock model and counters. -/
def source (s : State) (i : Nat) : Source := vget s.ingest.sources i

def modSource (i : Nat) (f : Source → Source) (s : State) : State :=
  { s with ingest := { s.ingest with sources := vmod s.ingest.sources i f } }

/-- The configuration block of a source (Tables 5.2, 5.5, 5.11, 5.13, 5.14). -/
def sourceBlock (s : State) (i : Nat) : Bytes :=
  if i < 8 then setting s 0x0400 i
  else if i < 16 then setting s 0x0404 (i - 8)
  else if i < 20 then setting s 0x0405 (i - 16)
  else if i < 24 then setting s 0x0406 (i - 20)
  else setting s 0x0407 (i - 24)

/-- A source is configured: its block has been accepted and does not switch it off. -/
def sourceConfigured (s : State) (i : Nat) : Bool :=
  if i < 8 then isSet s 0x0400 i && fld (setting s 0x0400 i) 20 4 != 0
  else if i < 16 then isSet s 0x0404 (i - 8)
  else if i < 20 then isSet s 0x0405 (i - 16)
  else if i < 24 then isSet s 0x0406 (i - 20)
  else decide (i < 26) && isSet s 0x0407 (i - 24)

/-- A source delivers units: configured, out of BOOT, and in Sentry named by the Sentry variant (R157, R513); PLL_IO clocks IMUs,
encoders and CAN controllers (R514). -/
def sourceActive (s : State) (i : Nat) : Bool :=
  sourceConfigured s i && s.dev.state != .boot && (decide (i < 16) || ioClocked s) &&
    (!inSentry s || match variantFit s with
      | some f => if i < 8 then bitOf (fld f.record 48 8) i else if i < 16 then bitOf (fld f.record 56 8) (i - 8)
                  else decide (i < 24)
      | none => false)

/-- The fault source numbers of Ingest and of Alignment and motion that name a source (Table 15.3). -/
def ingestFault (l4 l3 : Nat) : Nat := sourceOf 0x04 l4 l3
def alignFault (l4 : Nat) : Nat := sourceOf 0x05 l4 0

/-! ## Modes and lags (R151, R152) -/

/-- MODE of Table 5.18: 0 EDGE, 1 TRUSTED, 2 FITTED, 3 ARRIVAL. -/
def sourceMode (s : State) (i : Nat) : Nat :=
  let b := sourceBlock s i
  if i < 8 then (if fld b 40 4 = 1 then 0 else 3)
  else if i < 16 then fld b 136 8 + 1
  else if i < 24 then 0 else 3

/-- The smallest and largest expected lag; none where no range is expected (encoders, CAN). -/
def lagRange (s : State) (i : Nat) : Option (Interval × Interval) :=
  let b := sourceBlock s i
  if i < 8 then
    let l : Int := (fld b 96 32 * nsUnits : Nat)
    let t : Int := (fld b 80 16 * usUnits : Nat)
    some (l - t, l + t)
  else if i < 16 then some ((fld b 224 16 * usUnits : Nat), (fld b 240 16 * usUnits : Nat))
  else if i < 20 then
    let l := fld b 160 32 * nsUnits
    some ((l : Nat), (l + secUnits / fld b 144 16 : Nat))
  else none

/-- The smallest expected lag. -/
def lagMin (s : State) (i : Nat) : Interval := ((lagRange s i).map (·.1)).getD 0

/-- The midpoint of the expected lag range. -/
def lagMid (s : State) (i : Nat) : Interval := ((lagRange s i).map (fun r => (r.1 + r.2) / 2)).getD 0

/-- m(s) of R152. -/
def mapStamp (m : Source) (st : Dts) : Interval :=
  (st : Int) + m.offset + ((st : Int) - m.ref) * m.rate / 1099511627776

/-- The source stamp that the model uses: an ARRIVAL source's is its arrival stamp less the smallest expected lag. -/
def modelStamp (s : State) (i : Nat) (st arrival : Dts) : Dts :=
  if sourceMode s i = 3 then dtsAdd arrival (-(lagMin s i)) else st

/-- The lag of a unit (R152). -/
def unitLag (m : Source) (st arrival : Dts) : Interval := (arrival : Int) - mapStamp m st

/-! ## Trust (R180) -/

def sourceTrust (s : State) (i : Nat) : SourceTrust := vget s.align.trust i

def modTrust (i : Nat) (f : SourceTrust → SourceTrust) (s : State) : State :=
  { s with align := { s.align with trust := vmod s.align.trust i f } }

/-- The frame period of R173 in units of 2⁻¹⁶ ns. -/
def framePeriod (s : State) : Nat :=
  secUnits / max 1 (if inRun s then effectiveRate s else configuredRate s)

def missLimit (s : State) : Nat := fld s.align.pairing 96 8
def returnFrames (s : State) : Nat := fld s.align.pairing 104 8
def recoveryLimit (s : State) : Nat := fld s.align.pairing 40 8

/-- A retry of a source and unit is under way in Patrol, or its report still travels (R426, R432). -/
def retryPending (s : State) (src unit : Nat) : Bool :=
  s.patrol.retries.any (fun r => r.source == src && r.unit == unit) ||
    (s.patrol.wires ++ s.patrol.arrived).any (fun r => r.source == src && r.unit == unit && r.kind == .detection)

/-- The next evaluation of a condition is its retry: found again it is reported again, gone it is reported clean
(R432). -/
def evaluateAgain (src unit level : Nat) (bad : Bool) (s : State) : State :=
  if !retryPending s src unit then s
  else if bad then report src unit level .uc 0 s else reportClean src unit s

/-- check_time_trust (R180). IMUs and CAN controllers are judged by RESIDUAL alone. -/
def checkTimeTrust (i : Nat) (s : State) : State :=
  let k := sourceTrust s i
  let steady := decide (2 * (source s i).residual ≤ (framePeriod s : Int))
  let byFrames := decide (i < 16)
  match k.trust with
  | .timeUntrusted =>
    let s1 := evaluateAgain (alignFault i) 0 4 ((byFrames && decide (missLimit s ≤ k.missRun)) || !steady) s
    if ((byFrames && decide (returnFrames s ≤ k.inRun)) || !byFrames) && steady && decide (k.recoveries < recoveryLimit s)
    then modTrust i (fun (t : SourceTrust) => { t with recoveries := t.recoveries + 1, trust := .trusted }) s1
    else s1
  | _ =>
    if (byFrames && decide (missLimit s ≤ k.missRun)) || !steady then
      report (alignFault i) 0 4 .uc 0
        (modTrust i (fun (t : SourceTrust) => { t with trust := .timeUntrusted, inRun := 0 }) s)
    else s

/-- A source is used in fusion sets and votes: TRUSTED or SUSPECT, with a VALID model (R154, R179). -/
def sourceUsed (s : State) (i : Nat) : Bool :=
  (source s i).state == .valid &&
    ((sourceTrust s i).trust == .trusted || (sourceTrust s i).trust == .suspect)

/-! ## Units (R153, R154) -/

/-- The least-squares slope of y over x, units of 2⁻⁴⁰; zero through a single instant. -/
def fitRate (pts : List (Int × Int)) : Int :=
  let n : Int := (pts.length : Int)
  let sx := pts.foldl (fun a p => a + p.1) 0
  let sy := pts.foldl (fun a p => a + p.2) 0
  let sxx := pts.foldl (fun a p => a + p.1 * p.1) 0
  let sxy := pts.foldl (fun a p => a + p.1 * p.2) 0
  let d := n * sxx - sx * sx
  if d = 0 then 0 else roundDiv ((n * sxy - sx * sy) * 1099511627776) d.toNat

/-- The unit with the smallest arrival stamp minus source stamp. -/
def windowMinimum (w : List Unit64) : Option Unit64 :=
  w.foldl (fun (b : Option Unit64) u => match b with
    | some v => if (u.arrival : Int) - u.stamp < (v.arrival : Int) - v.stamp then some u else some v
    | none => some u) none

/-- The refit of FITTED mode at the end of a window (R153). -/
def refit (low : Interval) (w : List Unit64) (m : Source) : Source :=
  match windowMinimum w with
  | none => m
  | some u =>
    let minima := (m.minima ++ [u]).drop (m.minima.length - 7)
    let rate := fitRate (minima.map (fun (v : Unit64) => ((v.stamp : Int) - u.stamp, (v.arrival : Int) - v.stamp)))
    let least := w.foldl (fun (a : Interval) v =>
      min a ((v.arrival : Int) - v.stamp - ((v.stamp : Int) - u.stamp) * rate / 1099511627776))
      ((u.arrival : Int) - u.stamp)
    { m with minima := minima, rate := rate, ref := u.stamp, offset := least - low }

/-- A full window: residual, mean lag, refit, and VALID after enough windows. -/
def closeWindow (mode : Nat) (low : Interval) (m : Source) : Source :=
  let lags := m.window.map (fun (u : Unit64) => unitLag m u.stamp u.arrival)
  let l0 := lags.headD 0
  let residual := lags.foldl max l0 - lags.foldl min l0
  let mean := lags.foldl (fun (a : Int) l => a + l) 0 / ((max 1 lags.length : Nat) : Int)
  let w := m.windows + 1
  let m1 := { m with residual := if mode = 3 then 0 else residual, meanLag := mean, windows := w }
  let m2 := if mode = 2 then refit low m.window m1 else m1
  { m2 with window := [], state := if m2.state == .starting && decide ((if mode = 2 then 8 else 1) ≤ w) then .valid
                                   else m2.state }

/-- A model's windows restart. -/
def restartWindows (m : Source) : Source :=
  { m with state := .starting, window := [], windows := 0, minima := [] }

/-- A unit reaches its source's model: it is counted, and discarded when its stamp runs backwards. The answer says
whether the unit is kept, and its lag (R152, R153, R155). -/
def takeUnit (i : Nat) (st arrival : Dts) (s : State) : State × Bool × Interval :=
  let m0 := source s i
  let m := { m0 with units := bump m0.units, lastUnit := some arrival }
  let m := if m.state == .absent || m.state == .unconfigured then restartWindows { m with lastStamp := none } else m
  let stamp := modelStamp s i st arrival
  let put (x : Source) : State := modSource i (fun _ => x) s
  if (match m.lastStamp with
      | some l => decide (stamp < l)
      | none => false) then (put { m with reordered := bump m.reordered }, false, 0)
  else
    let lag := unitLag m stamp arrival
    let m := { m with lastStamp := some stamp }
    let out := match lagRange s i with
      | some r => decide (lag < r.1) || decide (r.2 < lag)
      | none => false
    let m := if out then { m with lagOut := bump m.lagOut } else m
    if m.state == .valid && (match m.lastLag with
        | some l => decide (secUnits < mag (lag - l))
        | none => false) then
      (report (ingestFault i 0) 0 4 .ce 0
        (put (restartWindows { m with restarts := bump m.restarts, lastLag := some lag })), true, lag)
    else
      let m := { m with lastLag := some lag, window := m.window ++ [{ stamp := stamp, arrival := arrival }] }
      if m.window.length < 64 then (put m, true, lag)
      else (checkTimeTrust i (put (closeWindow (sourceMode s i) (lagMin s i) m)), true, lag)

/-- The instant of a kept unit on device time. -/
def mappedStamp (s : State) (i : Nat) (st arrival : Dts) : Dts :=
  (mapStamp (source s i) (modelStamp s i st arrival)).toNat

/-! ## Loss (R155) -/

/-- The silence after which a source is lost; none where it never is. -/
def lossSpan (s : State) (i : Nat) : Option Nat :=
  let b := sourceBlock s i
  if i < 8 then some (if fld b 40 4 = 1 then 3 * framePeriod s else 100 * msUnits)
  else if i < 16 then some (2 * secUnits / fld b 216 8)
  else if i < 20 then some (10 * secUnits / fld b 144 16)
  else if i < 24 then none
  else some (fld b 16 16 * msUnits)

/-- The loss of an IMU is counted from its latest data-ready edge (R146), of others from their latest unit. -/
def silentSince (s : State) (i : Nat) : Option Dts :=
  if 16 ≤ i ∧ i < 20 then (vget s.ingest.imus (i - 16)).lastEdge else (source s i).lastUnit

/-- A configuration command starts its source: absent until its first unit. -/
def startSource (i : Nat) (configured : Bool) (s : State) : State :=
  modSource i (fun (m : Source) =>
    { restartWindows m with
      state := if configured then .absent else .unconfigured, lastStamp := none, lastLag := none, lastUnit := none,
      offset := 0, rate := 0, ref := 0, residual := 0, meanLag := 0 }) s

/-! ## The pairing window (R175 to R177, R179) -/

/-- The reference camera's frame period (R176). -/
def referencePeriod (s : State) : Nat :=
  let r := fld s.align.pairing 0 8
  let starts := (vget s.ingest.rx r).starts
  if sourceUsed s r && fld (setting s 0x0400 r) 40 4 == 0 && decide (2 ≤ starts.length) then
    (starts.getLastD 0 - starts.headD 0) / (starts.length - 1)
  else framePeriod s

/-- w of R177. -/
def pairWindow (s : State) : Nat :=
  let w := fld s.align.pairing 48 32
  if w = 0 then referencePeriod s / 2 else w * usUnits

/-- α of R177. -/
def arrivalInstant (s : State) (i : Nat) (mu : Interval) (lag : Interval) : Interval :=
  if sourceMode s i = 3 then mu else mu + (lag - lagMid s i)

/-- A unit is in window for a fusion instant (R177). -/
def inWindow (s : State) (f : Dts) (mu alpha : Interval) : Bool :=
  decide (mag (mu - (f : Int)) ≤ pairWindow s) && decide (mag (alpha - (f : Int)) ≤ pairWindow s)

/-- A unit that becomes whole after its part has closed and would have been in window is LATE (R179). -/
def lateCheck (i : Nat) (mu alpha : Interval) (s : State) : State :=
  if s.align.sets.any (fun f => (if i < 8 then f.cameraClosed else f.lidarClosed) && inWindow s f.instant mu alpha)
  then modTrust i (fun (t : SourceTrust) => { t with late := bump t.late }) s else s

/-! ## Status (R156) -/

def ModelState.code : ModelState → Nat
  | .unconfigured => 0
  | .absent => 1
  | .starting => 2
  | .valid => 3

/-- The model block and the twelve counters of a source (Tables 5.18, 5.19). -/
def sourceStatus (s : State) (i : Nat) : Bytes :=
  let m := source s i
  let conf := sourceConfigured s i
  pack 48 [(0, 8, srcNum i), (32, 32, codeOf 32 m.rate), (64, 64, codeOf 64 m.offset), (128, 64, codeOf 64 m.meanLag),
      (192, 64, codeOf 64 m.residual), (256, 96, dtsBits m.ref), (352, 8, if conf then sourceMode s i else 0),
      (360, 8, m.state.code)] ++
    [m.units, m.whole, m.damaged, m.lost, m.dropped, m.lagOut, m.reordered, m.restarts, m.lossEvents, m.eccCorrected,
      m.missingColumns, m.drdyEarly].flatMap (bytesOfNat 4)

def execGetSourceStatus (k : CmdKey) (s : State) : Host.Outcome State Fault Refusal :=
  runCommand k 0x0408 (fun c s => doneWith c (sourceStatus s ((srcIdx (fld c.params 0 8)).getD 0)) s) s

end Sys2Proof.Machine
end

