-- ==== Sys2Proof/Machine/Camera.lean ====
section
/-! DEFINITION. Cameras: the CSI-2 receivers, the RAW normaliser, the ring slots, and the frozen-frame and Groomer
state that frames act on (R124 to R134, R476 to R480). -/

namespace Sys2Proof.Machine

/-! ## Configuration (Tables 5.2, 5.3, 16.12) -/

def receiver (s : State) (r : Nat) : Receiver := vget s.ingest.rx r

def modReceiver (r : Nat) (f : Receiver → Receiver) (s : State) : State :=
  { s with ingest := { s.ingest with rx := vmod s.ingest.rx r f } }

def csiBlock (s : State) (r : Nat) : Bytes := setting s 0x0400 r
def csiVc (b : Bytes) : Nat := fld b 28 4
def csiType (b : Bytes) : Nat := fld b 32 8
def csiWidth (b : Bytes) : Nat := fld b 48 16
def csiHeight (b : Bytes) : Nat := fld b 64 16
def csiTriggered (b : Bytes) : Bool := fld b 40 4 == 1
def embWidth (b : Bytes) : Nat := fld b 140 4

/-- A number of picoseconds as an interval; fractions of 2⁻¹⁶ ns are cut. -/
def psUnits (ps : Nat) : Nat := ps * 65536 / 1000

/-! ## The normaliser (R131, R134) -/

/-- The channels of a quad in the order c0 to c3: which of its four pixels (0 top-left, 1 top-right, 2 bottom-left, 3
bottom-right) each takes, by CFA. -/
def cfaOrder : Nat → List Nat
  | 1 => [1, 0, 3, 2]
  | 2 => [2, 3, 0, 1]
  | 3 => [3, 2, 1, 0]
  | _ => [0, 1, 2, 3]

/-- The bit depth of a data type. -/
def bitDepth : Nat → Nat
  | 0x2B => 10
  | 0x2C => 12
  | 0x2D => 14
  | 0x2E => 16
  | _ => 8

/-- U16 output (Table 5.3). -/
def outU16 (dataType norm : Nat) : Bool :=
  match norm with
  | 1 => false
  | 2 => true
  | _ => dataType == 0x2D || dataType == 0x2E

/-- S_c at a quad, as a numerator over 16,384 × the product of the two spans: bilinear between the four nearest grid
points, which span `qw` × `qh` quads from corner to corner (R133). -/
def shadeAt (table : Bytes) (qw qh qx qy c : Nat) : Nat × Nat :=
  let gw := fld table 0 8
  let gh := fld table 8 8
  let g (i j : Nat) : Nat := fld table (64 + 64 * (min j (gh - 1) * gw + min i (gw - 1)) + 16 * c) 16
  let dx := max 1 (qw - 1)
  let dy := max 1 (qh - 1)
  let x := qx * (gw - 1)
  let y := qy * (gh - 1)
  let i := x / dx
  let j := y / dy
  let u := x % dx
  let v := y % dy
  (g i j * (dx - u) * (dy - v) + g (i + 1) j * u * (dy - v) + g i (j + 1) * (dx - u) * v + g (i + 1) (j + 1) * u * v,
    16384 * dx * dy)

/-- out of R131 for one pixel of channel c. -/
def normalise (norm : Bytes) (depth p c : Nat) (shade : Nat × Nat) : Nat :=
  let black := fld norm (64 + 16 * c) 16
  let gain := fld norm (128 + 16 * c) 16
  let x : Int := ((p * 2 ^ (16 - depth) : Nat) : Int) - (black : Int)
  let r := roundDiv (x * (gain : Int) * (shade.1 : Int)) (4096 * shade.2)
  (max 0 (min 65535 r)).toNat

/-- U12 of out. -/
def toU12 (out : Nat) : Nat := min 4095 ((out + 8) / 16)

/-- One element of the camera tensor (Table 5.4). -/
def tensorElement (u16 : Bool) (c : List Nat) : Bytes :=
  if u16 then c.flatMap (bytesOfNat 2)
  else pack 6 ((List.range 4).map (fun i => (12 * i, 12, c.getD i 0)))

/-- A quad row of RAW lines. -/
def quadRow (b norm table : Bytes) (shading : Bool) (qy : Nat) (upper lower : List Nat) : Bytes :=
  let qw := csiWidth b / 2
  let qh := csiHeight b / 2
  let u16 := outU16 (csiType b) (fld norm 8 2)
  (List.range qw).flatMap (fun qx =>
    let quad := [upper.getD (2 * qx) 0, upper.getD (2 * qx + 1) 0, lower.getD (2 * qx) 0, lower.getD (2 * qx + 1) 0]
    tensorElement u16 ((List.range 4).map (fun c =>
      let out := normalise norm (bitDepth (csiType b)) (quad.getD ((cfaOrder (fld b 44 4)).getD c 0) 0) c
        (if shading then shadeAt table qw qh qx qy c else (1, 1))
      if u16 then out else toU12 out)))

/-- A line of YUV422-8: each horizontal pixel pair as Y0, Y1, U, V. -/
def yuvRow (b norm : Bytes) (line : List Nat) : Bytes :=
  let u16 := outU16 (csiType b) (fld norm 8 2)
  let k := if u16 then 256 else 16
  (List.range (csiWidth b / 2)).flatMap (fun i =>
    tensorElement u16 ([1, 3, 0, 2].map (fun j => line.getD (4 * i + j) 0 * k)))

/-! ## Groomer bookkeeping that frames drive (R477, R479, R480) -/

def groomer (s : State) (r : Nat) : Groomer := vget s.safety.groomers r

def modGroomer (r : Nat) (f : Groomer → Groomer) (s : State) : State :=
  { s with safety := { s.safety with groomers := vmod s.safety.groomers r f } }

def groomerBlock (s : State) (r : Nat) : Bytes := setting s 0x0D01 r
def frozenMode (s : State) (r : Nat) : Nat := fld (groomerBlock s r) 48 8

/-- A source number of the Safety subsystem (Table 16.17). -/
def safetyFault (l4 l3 : Nat) : Nat := sourceOf 0x0D l4 l3

/-- An injection that did not run: after 16 in a row the frozen-frame detectors become the active check (R480). -/
def injectionNotRun (r : Nat) (s : State) : State :=
  let g := groomer s r
  let run := g.notRunRun + 1
  let s1 := modGroomer r (fun (g : Groomer) =>
    { g with injecting := false, dueFrom := none, notRun := bump g.notRun, notRunRun := run }) s
  if run < 16 ∨ g.check != .groomer then s1
  else if frozenMode s r = 0 ∨ 3 ≤ (receiver s r).damagedRun then
    report (safetyFault 5 r) 0 4 .uc 0 (modGroomer r (fun (g : Groomer) => { g with check := .unavailable }) s1)
  else report (safetyFault 5 r) 0 4 .ce 0 (modGroomer r (fun (g : Groomer) => { g with check := .frozen }) s1)

/-- A packet of the receiver's virtual channel aborts an injection (R477). -/
def abortInjection (r : Nat) (s : State) : State := if (groomer s r).injecting then injectionNotRun r s else s

/-- The camera becomes EXCLUDED (R478, R479). -/
def excludeCamera (r : Nat) (s : State) : State :=
  modTrust r (fun (t : SourceTrust) => { t with trust := .excluded, shadowRun := 0 }) s

/-! ## Frames (R126 to R130) -/

/-- A receiver takes packets of a virtual channel. -/
def rxTakes (s : State) (r vc : Nat) : Bool :=
  decide (r < 8) && sourceActive s r && csiVc (csiBlock s r) == vc

/-- The ring slot written next: the oldest that is not held. -/
def nextSlot (rx : Receiver) : Nat :=
  ((List.range 3).foldl (fun (best : Option (Nat × Nat)) i =>
    let sl := vget rx.slots i
    if sl.held then best
    else match best with
      | some (_, a) => if sl.age < a then some (i, sl.age) else best
      | none => some (i, sl.age)) none).elim 0 (·.1)

/-- D of R129: the embedded exposure, else EXPOSURE_NS. -/
def exposureOf (b : Bytes) (embedded : Option Nat) : Nat :=
  match embedded with
  | some v => if fld b 136 2 = 0 then psUnits (v * fld b 160 32) else v * usUnits
  | none => fld b 192 32 * nsUnits

/-- M of R129. -/
def midPoint (b : Bytes) (e0 d : Nat) : Dts := e0 + psUnits ((csiHeight b - 1) * fld b 160 32) / 2 + d / 2

/-- COUNTER found the frame frozen, or CRC did (R479). -/
def frozenFound (mode : Nat) (g : Groomer) (crc : Nat) (counter : Option Nat) : Bool :=
  (bitOf mode 0 && g.lastCrc == some crc) || (bitOf mode 1 && counter.isSome && g.lastCounter == counter)

/-- The frozen-frame detectors on a whole frame (R479): whether the frame stays whole. -/
def runFrozen (r : Nat) (f : OpenFrame) (s : State) : State × Bool :=
  let g := groomer s r
  let crc := crc32c f.tensor
  let hit := frozenFound (frozenMode s r) g crc f.counter
  let width := fld (groomerBlock s r) 28 4
  let skipped := match g.lastCounter, f.counter with
    | some a, some b => decide (1 < (b + 2 ^ (8 * width) - a) % 2 ^ (8 * width))
    | _, _ => false
  let src := safetyFault 6 r
  let s1 := modGroomer r (fun (g : Groomer) => { g with
    lastCrc := some crc, lastCounter := f.counter, frozen := if hit then bump g.frozen else g.frozen,
    frozenRun := if hit then g.frozenRun + 1 else 0,
    counterSkips := if skipped && bitOf (frozenMode s r) 1 then bump g.counterSkips else g.counterSkips }) s
  if hit then
    let s2 := report src 0 3 .uc 0 s1
    (if 2 ≤ g.frozenRun + 1 then excludeCamera r s2 else s2, false)
  else (if 0 < g.frozenRun then evaluateAgain src 0 3 false s1 else s1, true)

/-- The frame in progress ends: it is written to its slot whole or damaged (R127, R129, R130). -/
def endFrame (r : Nat) (arrived : Bool) (f : OpenFrame) (s : State) : State :=
  let b := csiBlock s r
  let complete := arrived && !f.bad && f.lines == csiHeight b && !(groomer s r).distrust
  let (s1, whole) := if complete then runFrozen r f s else (s, false)
  let d := exposureOf b f.embedded
  let frame : CamFrame :=
    { tensor := f.tensor, e0 := f.e0, exposure := d, lineTimePs := fld b 160 32, mid := midPoint b f.e0 d,
      arrival := f.arrival, lag := f.lag, damaged := !whole }
  let run := (receiver s1 r).damagedRun + 1
  let s2 := modReceiver r (fun (x : Receiver) => { x with
    frame := none, damagedRun := if whole then 0 else run,
    slots := vmod x.slots f.slot (fun (sl : RingSlot) => { sl with frame := some frame, admitted := false }) }) s1
  let s3 := modSource r (fun (m : Source) =>
    if whole then { m with whole := bump m.whole } else { m with damaged := bump m.damaged }) s2
  if !whole && run == 3 then report (ingestFault r 0) 0 4 .ce 0 s3
  else if whole then lateCheck r (frame.mid : Int) (arrivalInstant s3 r frame.mid frame.lag) s3 else s3

/-- After a frame-end packet the Groomer's turn comes after every INJECT_EVERY-th whole frame; an injection that a
damaged frame or a disabled Groomer prevents is NOT_RUN (R476, R477). -/
def scheduleInjection (r : Nat) (whole : Bool) (s : State) : State :=
  let b := groomerBlock s r
  let since := (groomer s r).wholeSince + (if whole then 1 else 0)
  if !whole then injectionNotRun r s
  else if since < fld b 56 8 then modGroomer r (fun (g : Groomer) => { g with wholeSince := since }) s
  else
    let s1 := modGroomer r (fun (g : Groomer) => { g with wholeSince := 0 }) s
    if bitAt b 8 then modGroomer r (fun (g : Groomer) => { g with dueFrom := some (now s) }) s1
    else injectionNotRun r s1

/-- E0 of a frame that starts now: a triggered receiver's from its latest frame-sync edge, a free-running one's from the
arrival (before R129). -/
def exposureStart (s : State) (r : Nat) (arrival : Dts) : Dts :=
  let b := csiBlock s r
  match csiTriggered b, (receiver s r).syncs.getLast? with
  | true, some t => t + fld b 224 32 * nsUnits
  | _, _ => arrival - fld b 96 32 * nsUnits

/-- A loaded shading table becomes active at this frame start: its command's final reply has gone out (R133). -/
def shadingDue (s : State) (r : Nat) : Bool :=
  (receiver s r).shadingPending && !s.host.flight.any (fun c => c.op == 0x0402 && fld c.params 0 8 == r && c.outcome.isSome)

/-- A frame starts: its slot, its stamps, and the settings that wait for a frame start (R128 to R130, R132, R133). -/
def startFrame (r : Nat) (s : State) : State :=
  let t := now s
  let e0 := exposureStart s r t
  let (s1, kept, lag) := takeUnit r e0 t s
  if !kept then modReceiver r (fun (x : Receiver) => { x with dropping := true, frame := none }) s1
  else
    let rx := receiver s1 r
    let n := nextSlot rx
    let old := vget rx.slots n
    let lost := match old.frame with
      | some f => !f.damaged && !old.admitted
      | none => false
    let s2 := if lost then modSource r (fun (m : Source) => { m with lost := bump m.lost }) s1 else s1
    let f : OpenFrame :=
      { slot := n, arrival := t, e0 := e0, lag := lag, lines := 0, upper := none, tensor := [], bad := false,
        embedded := none, counter := none, embLines := 0 }
    modReceiver r (fun (x : Receiver) => { x with
      frame := some f, dropping := false, lastKept := some t, starts := (x.starts ++ [t]).drop (x.starts.length - 64),
      slots := vset x.slots n { held := false, frame := none, admitted := false, age := x.nextAge },
      nextAge := x.nextAge + 1, norm := setting s2 0x0401 r, syncs := [],
      activeShading := if shadingDue s2 r then 1 - x.activeShading else x.activeShading,
      shadingPending := x.shadingPending && !shadingDue s2 r }) s2

/-- A single-bit error of a packet header has been corrected (R126). -/
def countCorrected (r : Nat) (corrected : Bool) (s : State) : State :=
  if corrected then modSource r (fun (m : Source) => { m with eccCorrected := bump m.eccCorrected }) s else s

/-- A frame-start packet: a frame still open ends damaged; a free-running receiver drops one too soon (R127, R128). -/
def execCsiFrameStart (rx vc number : Nat) (corrected : Bool) (s : State) : Host.Outcome State Fault Refusal :=
  awakeAnswer s fun s =>
    if !rxTakes s rx vc || decide (65536 ≤ number) then s
    else
      let s1 := modReceiver rx (fun (x : Receiver) => { x with syncLosses := Vector.replicate 4 0 })
        (countCorrected rx corrected (abortInjection rx s))
      let s2 := match (receiver s1 rx).frame with
        | some f => endFrame rx false f s1
        | none => s1
      let soon := !csiTriggered (csiBlock s2 rx) && (match (receiver s2 rx).lastKept with
        | some l => decide (now s2 < l + 32 * msUnits)
        | none => false)
      if soon then
        modReceiver rx (fun (x : Receiver) => { x with dropping := true })
          (modSource rx (fun (m : Source) => { m with dropped := bump m.dropped }) s2)
      else startFrame rx s2

/-- The embedded value at an offset, big-endian. -/
def embeddedValue (line : Bytes) (off width : Nat) : Option Nat :=
  if width = 0 ∨ line.length < off + width then none else some (natOfBytesBE (slice line off width))

/-- An image line enters the open frame. -/
def takeLine (s : State) (r : Nat) (line : List Nat) (f : OpenFrame) : OpenFrame :=
  let b := csiBlock s r
  let rx := receiver s r
  let yuv := csiType b == 0x1E
  let full := line.length == (if yuv then 2 * csiWidth b else csiWidth b)
  let g := { f with lines := f.lines + 1, bad := f.bad || !full || decide (csiHeight b ≤ f.lines) }
  if yuv then { g with tensor := g.tensor ++ yuvRow b rx.norm line }
  else match f.upper with
    | none => { g with upper := some line }
    | some u =>
      let row := quadRow b rx.norm (vget rx.shading rx.activeShading) (bitAt rx.norm 10) (f.lines / 2) u line
      { g with upper := none, tensor := g.tensor ++ row }

/-- A long packet (R126): lines of the data type, embedded data where it is used; others are ignored. -/
def execCsiLongPacket (rx : Nat) (packet : CsiPacket) (s : State) : Host.Outcome State Fault Refusal :=
  awakeAnswer s fun s =>
    let b := csiBlock s rx
    if !rxTakes s rx packet.vc then s
    else
      let s1 := abortInjection rx s
      let s2 := countCorrected rx packet.corrected s1
      match (receiver s2 rx).frame with
      | none => s2
      | some f =>
        if (receiver s2 rx).dropping then s2
        else if !packet.headerOk then
          modReceiver rx (fun (x : Receiver) => { x with frame := some { f with bad := true } }) s2
        else if packet.dataType = csiType b then
          let g := takeLine s2 rx packet.pixels f
          modReceiver rx (fun (x : Receiver) => { x with frame := some { g with bad := g.bad || !packet.crcOk } }) s2
        else if packet.dataType = 0x12 ∧ embWidth b ≠ 0 then
          let q := groomerBlock s2 rx
          let g := if f.embLines = 0 ∧ packet.crcOk then
            { f with embedded := embeddedValue packet.embedded (fld b 144 16) (embWidth b),
                     counter := embeddedValue packet.embedded (fld q 32 16) (fld q 28 4) } else f
          modReceiver rx (fun (x : Receiver) => { x with
            frame := some { g with embLines := f.embLines + 1, bad := g.bad || !packet.crcOk } }) s2
        else s2

/-- A frame-end packet ends the frame and gives the Groomer its turn (R127, R476, R479). -/
def execCsiFrameEnd (rx vc number : Nat) (corrected : Bool) (s : State) : Host.Outcome State Fault Refusal :=
  awakeAnswer s fun s =>
    if !rxTakes s rx vc || decide (65536 ≤ number) then s
    else
      let s1 := countCorrected rx corrected (abortInjection rx s)
      match (receiver s1 rx).frame with
      | some f =>
        if (receiver s1 rx).dropping then modReceiver rx (fun (x : Receiver) => { x with dropping := false }) s1
        else
          let s2 := endFrame rx true f s1
          scheduleInjection rx ((receiver s2 rx).damagedRun == 0) s2
      | none => modReceiver rx (fun (x : Receiver) => { x with dropping := false }) s1

/-- A frame arrives: its frame-start packet has come and its frame-end packet has not. -/
def inFrame (s : State) (r : Nat) : Bool := (receiver s r).frame.isSome || (receiver s r).dropping

/-- A lane or trio loses synchronisation: the third loss within a frame is a UC of the lane (R157). -/
def execCsiPhySyncLoss (rx lane : Nat) (s : State) : Host.Outcome State Fault Refusal :=
  awakeAnswer s fun s =>
    let b := csiBlock s rx
    if !(decide (rx < 8) && sourceActive s rx && decide (lane < fld b 24 4) && inFrame s rx) then s
    else
      let n := vget (receiver s rx).syncLosses lane + 1
      let s1 := modReceiver rx (fun (x : Receiver) => { x with syncLosses := vset x.syncLosses lane n }) s
      if n = 3 then report (ingestFault rx lane) 0 3 .uc 0 s1 else s1

/-- PHY 2 runs the skew calibration sequence whenever the transmitter sends it (R125). -/
def execCsiSkewCalibration (rx : Nat) (s : State) : Host.Outcome State Fault Refusal :=
  awakeAnswer s fun s =>
    if decide (rx < 8) && sourceActive s rx && fld (csiBlock s rx) 20 4 == 2 then
      modReceiver rx (fun (x : Receiver) => { x with skewCalibrations := bump x.skewCalibrations }) s
    else s

/-! ## Commands -/

/-- CONFIG_CSI: the receiver starts afresh. -/
def execConfigCsi (k : CmdKey) (s : State) : Host.Outcome State Fault Refusal :=
  runCommand k 0x0400 (fun c s =>
    let r := fld c.params 0 8
    let s1 := putSetting 0x0400 r c.params s
    conclude c stDone 0 [] (startSource r (sourceConfigured s1 r)
      (modReceiver r (fun (x : Receiver) => { x with
        frame := none, dropping := false, lastKept := none, starts := [], damagedRun := 0, syncs := [],
        syncLosses := Vector.replicate 4 0 }) s1))) s

/-- SET_NORMALISER: in force from the next frame-start packet (R132). -/
def execSetNormaliser (k : CmdKey) (s : State) : Host.Outcome State Fault Refusal :=
  runCommand k 0x0401 (fun c s => done c (putSetting 0x0401 (fld c.params 0 8) c.params s)) s

/-- LOAD_SHADING_TABLE fills the inactive table, active at the next frame-start packet (R133). R133 gives no status for a GRID_W
or GRID_H outside 2 to 65: such a table ends as one of a wrong length does (DESIGN CHOICE, assumption 117). -/
def execLoadShadingTable (k : CmdKey) (s : State) : Host.Outcome State Fault Refusal :=
  runCommand k 0x0402 (fun c s =>
    let r := fld c.params 0 8
    let n := fld c.params 64 32
    let t := cellsGet s.memory.staging (fld c.params 32 32) (min n 33808)
    let gw := fld t 0 8
    let gh := fld t 8 8
    if n ≠ 8 + 8 * gw * gh ∨ gw < 2 ∨ 65 < gw ∨ gh < 2 ∨ 65 < gh then conclude c stVerifyFailed 1 [] s
    else conclude c stDone 0 [] (modReceiver r (fun (x : Receiver) => { x with
      shading := vset x.shading (1 - x.activeShading) t, shadingPending := true }) s)) s

/-- Parameters of CONFIG_CSI and LOAD_SHADING_TABLE that fail together (R125, R133). -/
def jointCamera (op : Nat) (b : Bytes) : Option Refuse :=
  match op with
  | 0x0400 =>
    let phy := fld b 20 4
    let rate := fld b 8 12
    let w := csiWidth b
    let h := csiHeight b
    if rate < 8 ∨ (phy = 1 ∧ 150 < rate) ∨ (phy = 2 ∧ 450 < rate) ∨ (phy = 3 ∧ 600 < rate) then
      some (stBadParam, 1)
    else if phy = 3 ∧ fld b 24 4 = 4 then some (stBadParam, 3)
    else if ¬ [0x2B, 0x2C, 0x2D, 0x2E, 0x1E].contains (csiType b) then some (stBadParam, 4)
    else if csiType b ≠ 0x1E ∧ 4 < fld b 44 4 then some (stBadParam, 5)
    else if w % 32 ≠ 0 ∨ w < 64 ∨ 4096 < w then some (stBadParam, 6)
    else if h % 2 ≠ 0 ∨ h < 64 ∨ 3072 < h then some (stBadParam, 8)
    else if 8388608 < w * h then some (stBadParam, 8)
    else if fld b 136 2 = 0 ∧ fld b 160 32 = 0 ∧ embWidth b ≠ 0 then some (stBadParam, 20)
    else none
  | _ => none

end Sys2Proof.Machine
end

