-- ==== Sys2Proof/Machine/Lidar.lean ====
section
/-! DEFINITION. Lidar: bindings, packet templates, the parser and the range images (R135 to R143, R201). -/

namespace Sys2Proof.Machine

def lidar (s : State) (l : Nat) : Lidar := vget s.ingest.lidars l

def modLidar (l : Nat) (f : Lidar → Lidar) (s : State) : State :=
  { s with ingest := { s.ingest with lidars := vmod s.ingest.lidars l f } }

/-! ## Templates (Tables 5.6 to 5.8) -/

def tplPayload (t : Bytes) : Nat := fld t 0 16
def tplBlockOffset (t : Bytes) : Nat := fld t 16 16
def tplBlocks (t : Bytes) : Nat := fld t 32 16
def tplBlockStride (t : Bytes) : Nat := fld t 48 16
def tplPointOffset (t : Bytes) : Nat := fld t 64 16
def tplPoints (t : Bytes) : Nat := fld t 80 16
def tplPointStride (t : Bytes) : Nat := fld t 96 16
def tplRows (t : Bytes) : Nat := fld t 112 16
def tplFields (t : Bytes) : Nat := fld t 136 8
def tplTimeFormat (t : Bytes) : Nat := fld t 192 8

/-- A field descriptor (Table 5.7). -/
structure TplField where
  meaning : Nat
  scope : Nat
  bigEndian : Bool
  signed : Bool
  shift : Nat
  width : Nat
  offset : Nat
  scale : Nat
  bias : Nat
deriving DecidableEq, Repr

def tplField (t : Bytes) (n : Nat) : TplField :=
  let o := 256 + 128 * n
  { meaning := fld t o 8, scope := fld t (o + 16) 8, bigEndian := bitAt t (o + 24), signed := bitAt t (o + 25),
    shift := fld t (o + 32) 8, width := fld t (o + 40) 8, offset := fld t (o + 48) 16, scale := fld t (o + 64) 32,
    bias := fld t (o + 96) 32 }

def tplFieldList (t : Bytes) : List TplField := (List.range (tplFields t)).map (tplField t)

/-- The bytes a field reads. -/
def TplField.bytes (f : TplField) : Nat := (f.shift + f.width + 7) / 8

/-- The scopes a meaning may have (Table 5.8). -/
def meaningScopes : Nat → List Nat
  | 0x01 => [2]
  | 0x02 => [1, 2, 3]
  | 0x03 => [1, 2, 3]
  | 0x04 => [2]
  | 0x05 => [1, 2]
  | 0x06 | 0x07 | 0x08 | 0x0D => [0]
  | 0x09 | 0x0A | 0x0C => [1, 2]
  | 0x0B => [2]
  | _ => []

/-- Whether a template has a meaning at all. -/
def hasMeaning (t : Bytes) (m : Nat) : Bool := (tplFieldList t).any (fun f => f.meaning == m)

/-- The offending offsets of a header (R139 and the ranges of Table 5.6). -/
def headerFaults (t : Bytes) (len : Nat) : List Nat :=
  let bad (p : Bool) (o : Nat) : List Nat := if p then [o] else []
  bad (decide (tplPayload t < 16 ∨ 9000 < tplPayload t)) 0 ++
  bad (decide (tplPayload t < tplBlockOffset t + tplBlocks t * tplBlockStride t)) 2 ++
  bad (decide (tplBlocks t < 1 ∨ 64 < tplBlocks t)) 4 ++
  bad (decide (tplBlockStride t < tplPointOffset t + tplPoints t * tplPointStride t)) 8 ++
  bad (decide (tplPoints t < 1 ∨ 256 < tplPoints t)) 10 ++
  bad (decide (256 < tplRows t)) 14 ++
  bad (decide (tplFields t < 1 ∨ 32 < tplFields t ∨ len ≠ 32 + 16 * tplFields t + 8 * tplRows t)) 17 ++
  bad (!hasMeaning t 1 || !hasMeaning t 2 || !hasMeaning t 3) 17 ++
  bad (decide (1 < fld t 144 8)) 18 ++ bad (decide (1 < fld t 152 8)) 19 ++
  bad (decide (fld t 160 32 < 1 ∨ 1000000000 < fld t 160 32)) 20 ++
  bad (decide (2 < tplTimeFormat t) || (tplTimeFormat t == 1 && !(hasMeaning t 6 && hasMeaning t 7)) ||
    (tplTimeFormat t == 2 && !hasMeaning t 8)) 24 ++
  bad (decide (4 < fld t 200 8)) 25 ++
  bad (decide (fld t 200 8 ≠ 0 ∧ tplPayload t < fld t 208 16 + fld t 200 8)) 26

/-- The offending offsets of descriptor n. -/
def fieldFaults (t : Bytes) (n : Nat) : List Nat :=
  let f := tplField t n
  let o := 32 + 16 * n
  let bad (p : Bool) (d : Nat) : List Nat := if p then [o + d] else []
  let room := match f.scope with
    | 0 => tplPayload t
    | 1 => tplBlockStride t
    | _ => tplPointStride t
  bad ((meaningScopes f.meaning).isEmpty || (f.scope != 3 &&
    (List.range n).any (fun j => (tplField t j).meaning == f.meaning && (tplField t j).scope != 3))) 0 ++
  bad (!(meaningScopes f.meaning).contains f.scope || (f.scope == 3 && tplRows t == 0)) 2 ++
  bad (f.scope != 3 && (decide (f.width < 1 ∨ 64 < f.width ∨ 64 < f.shift + f.width))) 5 ++
  bad (f.scope != 3 && decide (room < f.offset + f.bytes)) 6

/-- The offset of the first offending field of a template of `len` bytes (R139). -/
def templateFault (t : Bytes) (len : Nat) : Option Nat :=
  let all := headerFaults t len ++ (List.range (min 32 (tplFields t))).flatMap (fieldFaults t)
  all.foldl (fun (b : Option Nat) o => match b with
    | some x => some (min x o)
    | none => some o) none

/-! ## Reading fields (R138) -/

/-- A field's raw value in a packet, at a scope's start. -/
def rawAt (p : Bytes) (start : Nat) (f : TplField) : Int :=
  let b := slice p (start + f.offset) f.bytes
  let v := (if f.bigEndian then natOfBytesBE b else natOfBytes b) / 2 ^ f.shift % 2 ^ f.width
  if f.signed then signedOf f.width v else (v : Int)

/-- The start of a scope for point p of block k. -/
def scopeStart (t : Bytes) (k p : Nat) : Nat → Nat
  | 0 => 0
  | 1 => tplBlockOffset t + k * tplBlockStride t
  | _ => tplBlockOffset t + k * tplBlockStride t + tplPointOffset t + p * tplPointStride t

/-- An integer meaning of a point; a meaning the template lacks has none. -/
def intMeaning (t pkt : Bytes) (k p m : Nat) : Option Int :=
  ((tplFieldList t).find? (fun f => f.meaning == m && f.scope != 3)).map (fun f => rawAt pkt (scopeStart t k p f.scope) f)

/-- raw × SCALE + BIAS in FP32. -/
def scaled (f : TplField) (raw : Nat) : Nat := fadd (fmul raw f.scale) f.bias

/-- A row-table entry's word: 0 ELEVATION, 1 AZIMUTH_OFFSET; beyond the table it is open. -/
def rowEntry (t : Bytes) (row : Int) (w : Nat) : Nat :=
  if 0 ≤ row ∧ row < tplRows t then fld t (256 + 128 * tplFields t + 64 * row.toNat + 32 * w) 32
  else to32 ⟨Config.openReal (4294967296 + 2 * row.natAbs + w), -149⟩

/-- A real meaning of a point: the packet's field, else the row table's. -/
def realMeaning (t pkt : Bytes) (k p m : Nat) (row : Int) : Option Nat :=
  match (tplFieldList t).find? (fun f => f.meaning == m && f.scope != 3) with
  | some f => some (scaled f (fofInt (rawAt pkt (scopeStart t k p f.scope) f)))
  | none => ((tplFieldList t).find? (fun f => f.meaning == m && f.scope == 3)).map (fun f =>
      scaled f (rowEntry t row (if m = 2 then 1 else 0)))

/-- The azimuth of a point: the field, with a row-table entry as an offset added to it. -/
def azimuthOf (t pkt : Bytes) (k p : Nat) (row : Int) : Nat :=
  let base := realMeaning t pkt k p 2 row
  let fieldGiven := (tplFieldList t).any (fun f => f.meaning == 2 && f.scope != 3)
  match base, (tplFieldList t).find? (fun f => f.meaning == 2 && f.scope == 3) with
  | some a, some f => if fieldGiven then fadd a (scaled f (rowEntry t row 1)) else a
  | some a, none => a
  | none, _ => 0

/-- 2π in units of 2⁻¹⁶⁰. -/
def twoPi160 : Int := 9182885614096437842769610399486622256908310048836

/-- An angle in radians as a fraction of a turn, in units of 2⁻⁶⁴ of a turn. -/
def turns64 (code : Nat) : Nat :=
  let d := f32 code
  let n := if 0 ≤ d.e + 224 then d.n * 2 ^ (d.e + 224).toNat else d.n / 2 ^ (-(d.e + 224)).toNat
  (n / twoPi160 % 18446744073709551616).toNat

/-- The column from an azimuth (R141). -/
def columnOf (azimuth azStart columns : Nat) : Nat :=
  (turns64 azimuth + 18446744073709551616 - azStart * 281474976710656) % 18446744073709551616 * columns /
    18446744073709551616

/-! ## A packet (R136, R140, R141) -/

/-- SEQUENCE and its width. -/
def sequenceOf (t pkt : Bytes) : Option (Nat × Nat) :=
  ((tplFieldList t).find? (fun f => f.meaning == 0x0D)).map (fun f => ((rawAt pkt 0 { f with signed := false }).toNat, f.width))

/-- The packet's sensor time (R140). -/
def sensorTime (t pkt : Bytes) (arrival : Dts) (lagMinUs : Nat) : Dts :=
  let v (m : Nat) : Nat := ((intMeaning t pkt 0 0 m).getD 0).toNat
  match tplTimeFormat t with
  | 1 => v 6 * secUnits + v 7 * nsUnits
  | 2 => v 8 * fld t 160 32 * 65536 / 1000
  | _ => arrival - lagMinUs * usUnits

/-- The row of a point. -/
def pointRow (t pkt : Bytes) (k p : Nat) : Int :=
  if fld t 144 8 = 1 then (intMeaning t pkt k p 9).getD (-1) else (p : Int)

/-- The column of a point. -/
def pointColumn (t pkt bind : Bytes) (k p : Nat) : Int :=
  if fld t 152 8 = 1 then (intMeaning t pkt k p 0x0A).getD (-1)
  else (columnOf (azimuthOf t pkt k p (pointRow t pkt k p)) (fld bind 144 16) (fld bind 160 16) : Nat)

/-- The time of a point: T + POINT_TIME, cut to 2⁻¹⁶ ns. -/
def pointTime (t pkt : Bytes) (k p : Nat) (T : Dts) : Dts :=
  match realMeaning t pkt k p 5 (pointRow t pkt k p) with
  | some c => dtsAdd T (((f32 c).mul ⟨1, 16⟩).floor)
  | none => T

/-- INTENSITY clamped to 0 to 255, to nearest. -/
def pointIntensity (t pkt : Bytes) (k p : Nat) : Nat :=
  match realMeaning t pkt k p 4 0 with
  | some c => (max 0 (min 255 (((f32 c).add ⟨1, -1⟩).floor))).toNat
  | none => 0

/-! ## The static calibration (R158, R201) -/

/-- A vector of dyadics. -/
abbrev Dy3 := Dy × Dy × Dy

/-- A quaternion W, X, Y, Z times a vector, over the square of its norm: the numerators and that square. -/
def rotateRaw (w x y z : Dy) (p : Dy3) : Dy3 × Dy :=
  let ww := w.mul w
  let xx := x.mul x
  let yy := y.mul y
  let zz := z.mul z
  let two (a b : Dy) : Dy := (a.mul b).mul ⟨2, 0⟩
  ((Dy.sum [((ww.add xx).sub (yy.add zz)).mul p.1, ((two x y).sub (two w z)).mul p.2.1, ((two x z).add (two w y)).mul p.2.2],
    Dy.sum [((two x y).add (two w z)).mul p.1, ((ww.add yy).sub (xx.add zz)).mul p.2.1, ((two y z).sub (two w x)).mul p.2.2],
    Dy.sum [((two x z).sub (two w y)).mul p.1, ((two y z).add (two w x)).mul p.2.1, ((ww.add zz).sub (xx.add yy)).mul p.2.2]),
   Dy.sum [ww, xx, yy, zz])

/-- The quaternion and translation of a calibration block (Table 6.1). -/
def calibQ (b : Bytes) : Dy × Dy × Dy × Dy :=
  (f32 (fld b 32 32), f32 (fld b 64 32), f32 (fld b 96 32), f32 (fld b 128 32))
def calibT (b : Bytes) : Dy3 := (f32 (fld b 160 32), f32 (fld b 192 32), f32 (fld b 224 32))

/-- A point's horizontal distance from the vehicle origin is at most a radius in dm (R201), exactly; a radius of 0 disables
the near field (Table 7.2). -/
def nearPoint (calib : Bytes) (x y z radiusDm : Nat) : Bool :=
  let q := calibQ calib
  let r := rotateRaw q.1 q.2.1 q.2.2.1 q.2.2.2 (f32 x, f32 y, f32 z)
  let t := calibT calib
  let px := (r.1.1.add (t.1.mul r.2)).mul (Dy.ofInt 10)
  let py := (r.1.2.1.add (t.2.1.mul r.2)).mul (Dy.ofInt 10)
  let rr := r.2.mul (Dy.ofInt radiusDm)
  radiusDm != 0 && ((px.mul px).add (py.mul py)).le (rr.mul rr)

/-! ## The range image (R141, R142) -/

/-- Which of two points of one cell stays: true where the newer replaces the older. -/
def keepsNewer (keep : Nat) (old new : LidarPoint) : Bool :=
  match keep with
  | 0 => decide (new.returnIndex < old.returnIndex)
  | 1 => decide (old.returnIndex < new.returnIndex)
  | _ => decide (old.intensity < new.intensity)

/-- A point enters the image: what it displaces is counted in DROPPED. -/
def putPoint (keep : Nat) (p : LidarPoint) (img : RangeImage) : RangeImage × Nat :=
  match img.points.find? (fun (o : LidarPoint) => o.row == p.row && o.col == p.col) with
  | none => ({ img with points := img.points ++ [p] }, 0)
  | some o =>
    if keepsNewer keep o p then
      ({ img with points := img.points.map (fun (q : LidarPoint) => if q.row == p.row && q.col == p.col then p else q) }, 1)
    else (img, 1)

/-- One point of a packet, if its cell takes it (R141). -/
def parsePoint (s : State) (l : Nat) (t pkt bind : Bytes) (T : Dts) (k p : Nat) : Option LidarPoint :=
  let row := pointRow t pkt k p
  let col := pointColumn t pkt bind k p
  let range := (realMeaning t pkt k p 1 row).getD 0
  let tooFar := (Dy.ofInt (fld bind 192 16)).lt ((f32 range).mul (Dy.ofInt 10))
  if row < 0 ∨ (fld bind 176 16 : Int) ≤ row ∨ col < 0 ∨ (fld bind 160 16 : Int) ≤ col then none
  else if (intMeaning t pkt k p 0x0C == some 0) || (f32 range).n == 0 || tooFar then none
  else
    let xyz := Config.lidarXyz range (azimuthOf t pkt k p row) ((realMeaning t pkt k p 3 row).getD 0)
    some { row := row.toNat, col := col.toNat, x := xyz.1, y := xyz.2.1, z := xyz.2.2,
           intensity := pointIntensity t pkt k p, returnIndex := (intMeaning t pkt k p 0x0B).getD 0,
           time := pointTime t pkt k p T,
           near := nearPoint (setting s 0x0500 (l + 8)) xyz.1 xyz.2.1 xyz.2.2 (fld (setting s 0x0600 0) 48 16) }

/-- The points of a packet in its order: block, then point. -/
def pointPlaces (t : Bytes) : List (Nat × Nat) :=
  (List.range (tplBlocks t)).flatMap (fun k => (List.range (tplPoints t)).map (fun p => (k, p)))

/-- TIME_OFFSET of Table 7.1: to nearest, at most what its 20 bits hold (assumption 129). -/
def timeOffset (base t : Dts) : Nat := min (2 ^ 20 - 1) ((t - base + 256 * nsUnits) / (512 * nsUnits))

/-- The whole image of a lidar, as it lies in LPDDR (R201). -/
def wholeSweep (l : Nat) (b : Bytes) (img : RangeImage) : Sweep :=
  let rows := fld b 176 16
  let base := img.first.getD 0
  { base := img.first, last := img.last, lag := img.lag, rows := rows, columns := fld b 160 16,
    missing := fld b 160 16 - (img.columns.filter (fun c => decide (c < fld b 160 16))).length, lidar := l,
    valid := img.points.length, nearCount := (img.points.filter (·.near)).length, mu := none, frame := none,
    handed := false,
    entries := img.points.map (fun p =>
      { scanIndex := p.col * rows + p.row, x := p.x, y := p.y, z := p.z, timeOffset := timeOffset base p.time,
        intensity := p.intensity, near := p.near }) }

/-- A sweep ends (R142): the image is whole and handed on; one still in use is LOST. -/
def endSweep (l : Nat) (s : State) : State :=
  let b := setting s 0x0404 l
  let x := lidar s l
  let whole := wholeSweep l b x.filling
  let s1 := modLidar l (fun (x : Lidar) =>
    { x with inUse := some whole, admitted := false, filling := default, sweepFrom := some (now s) }) s
  let s2 := modSource (l + 8) (fun (m : Source) =>
    { m with
      whole := bump m.whole, missingColumns := satAdd 32 m.missingColumns whole.missing,
      lost := if x.inUse.any (fun w => !w.handed) then bump m.lost else m.lost }) s1
  match x.filling.first, x.filling.last with
  | some a, some c =>
    let mu := mapStamp (source s (l + 8)) ((a + c) / 2)
    lateCheck (l + 8) mu (arrivalInstant s (l + 8) mu x.filling.lag) s2
  | _, _ => s2

/-- The columns of a packet's points, in its order. -/
def packetColumns (t pkt bind : Bytes) : List Int := (pointPlaces t).map (fun q => pointColumn t pkt bind q.1 q.2)

/-- The times of a packet's points, in its order. -/
def packetTimes (t pkt : Bytes) (T : Dts) : List Dts := (pointPlaces t).map (fun q => pointTime t pkt q.1 q.2 T)

/-- The packet's source stamp: its latest point time (R140). -/
def packetStamp (t pkt : Bytes) (T : Dts) : Dts := (packetTimes t pkt T).foldl max ((packetTimes t pkt T).headD T)

/-- The packet's first column lies more than COLUMNS / 2 below the previous packet's last column (R142). -/
def sweepWraps (bind : Bytes) (last : Option Nat) (cols : List Int) : Bool :=
  match last, cols.head? with
  | some n, some c => decide (c + ((fld bind 160 16 / 2 : Nat) : Int) < (n : Int))
  | _, _ => false

/-- The points of an accepted packet enter the image. -/
def parsePacket (l : Nat) (t pkt bind : Bytes) (T : Dts) (lag : Interval) (s : State) : State :=
  let places := pointPlaces t
  let cols := packetColumns t pkt bind
  let s1 := if sweepWraps bind (lidar s l).lastColumn cols then endSweep l s else s
  let img0 := (lidar s1 l).filling
  let times := packetTimes t pkt T
  let t0 := times.foldl min (times.headD T)
  let t1 := packetStamp t pkt T
  let (img, dropped) := (places.filterMap (fun q => parsePoint s l t pkt bind T q.1 q.2)).foldl
    (fun (a : RangeImage × Nat) p =>
      let r := putPoint (fld bind 208 8) p a.1
      (r.1, a.2 + r.2)) (img0, 0)
  let reached := (cols.filter (fun c => decide (0 ≤ c))).map Int.toNat
  let img1 := { img with
    columns := reached.foldl (fun (a : List Nat) c => if a.contains c then a else a ++ [c]) img.columns,
    first := some (min (img.first.getD t0) t0), last := some (max (img.last.getD t1) t1), lag := lag }
  modSource (l + 8) (fun (m : Source) => { m with dropped := satAdd 32 m.dropped dropped })
    (modLidar l (fun (x : Lidar) =>
      { x with
        filling := img1, lastColumn := (cols.getLast?).map Int.toNat,
        sweepFrom := some (x.sweepFrom.getD (now s)) }) s1)

/-- The lidar a datagram is bound to (R135). A datagram that a binding of its sender and one of any sender both match goes to
the lidar of the lower number: the manual does not say which takes it (DESIGN CHOICE, assumption 115). -/
def lidarOf (s : State) (d : Datagram) : Option Nat :=
  (List.range 8).find? (fun l =>
    let b := setting s 0x0404 l
    sourceActive s (l + 8) && fld b 72 8 == d.port && fld b 80 16 == d.udpPort &&
      (fld b 96 32 == 0 || (d.ip == 4 && fld b 96 32 == d.srcIp)))

/-- A datagram a binding takes is damaged (R136). -/
def datagramDamaged (t : Bytes) (d : Datagram) : Bool :=
  d.fragmented || d.payload.length != tplPayload t ||
    (List.range (fld t 200 8)).any (fun i => d.payload.getD (fld t 208 16 + i) 0 != BitVec.ofNat 8 (fld t (224 + 8 * i) 8))

/-- The values missing where a counter of `span` values goes from one to the next; a repeated value misses none. -/
def missingValues (span last next : Nat) : Nat := if next = last then 0 else (next + span - last - 1) % span

/-- SEQUENCE: one count of LOST per missing value (R136). -/
def checkSequence (l : Nat) (t pkt : Bytes) (s : State) : State :=
  match sequenceOf t pkt with
  | none => s
  | some (v, w) =>
    let lost := match (lidar s l).lastSequence with
      | some p => missingValues (2 ^ w) p v
      | none => 0
    modSource (l + 8) (fun (m : Source) => { m with lost := satAdd 32 m.lost lost })
      (modLidar l (fun (x : Lidar) => { x with lastSequence := some v }) s)

def execLidarDatagram (d : Datagram) (s : State) : Host.Outcome State Fault Refusal :=
  awakeAnswer s fun s =>
    frameIn d.port d.head s fun s1 =>
      match lidarOf s1 d with
      | none => countDiscarded d.port s1
      | some l =>
        let bind := setting s1 0x0404 l
        let t := (lidar s1 l).template
        if datagramDamaged t d then modSource (l + 8) (fun (m : Source) => { m with damaged := bump m.damaged }) s1
        else
          let arrival := ingressStamp s1 d.port d.head
          let T := sensorTime t d.payload arrival (fld bind 224 16)
          let (s2, kept, lag) := takeUnit (l + 8) (packetStamp t d.payload T) arrival (checkSequence l t d.payload s1)
          if kept then parsePacket l t d.payload bind T lag s2 else s2

/-- 1.5 / SWEEP_HZ without a wrap ends the sweep (R142). The next packet then opens a sweep with nothing to wrap against, and
until it comes no further sweep times out: the manual does not say from where the next sweep counts (DESIGN CHOICE,
assumption 116). -/
def execSweepTimeout (lidar_ : Nat) (s : State) : Host.Outcome State Fault Refusal :=
  awakeAnswer s fun s =>
    match decide (lidar_ < 8) && sourceActive s (lidar_ + 8), (lidar s lidar_).sweepFrom with
    | true, some f =>
      if f + 3 * secUnits / (2 * fld (setting s 0x0404 lidar_) 216 8) ≤ now s then
        modLidar lidar_ (fun (x : Lidar) => { x with sweepFrom := none, lastColumn := none }) (endSweep lidar_ s)
      else s
    | _, _ => s

/-! ## Commands -/

/-- LOAD_LIDAR_TEMPLATE: checked, then kept for bindings to come (R137, R139). -/
def execLoadLidarTemplate (k : CmdKey) (s : State) : Host.Outcome State Fault Refusal :=
  runCommand k 0x0403 (fun c s =>
    let n := fld c.params 64 32
    let t := cellsGet s.memory.staging (fld c.params 32 32) (min n 2592)
    match templateFault t n with
    | some o => conclude c stVerifyFailed o [] s
    | none => conclude c stDone 0 []
        { s with ingest := { s.ingest with templates := vset s.ingest.templates (fld c.params 0 8) t } }) s

/-- BIND_LIDAR takes its template's bytes as they stand (R135, R137). -/
def execBindLidar (k : CmdKey) (s : State) : Host.Outcome State Fault Refusal :=
  runCommand k 0x0404 (fun c s =>
    let l := fld c.params 64 8
    let t := vget s.ingest.templates (fld c.params 128 8)
    done c (startSource (l + 8) true (modLidar l (fun _ =>
      { (default : Lidar) with template := t }) (putSetting 0x0404 l c.params s)))) s

/-- LAG_MIN_US lies below LAG_MAX_US (Table 5.5). -/
def jointLidar (op : Nat) (b : Bytes) : Option Refuse :=
  match op with
  | 0x0404 => if fld b 240 16 ≤ fld b 224 16 then some (stBadParam, 28) else none
  | _ => none

/-- Refusals of BIND_LIDAR that depend on the state (R135). -/
def startLidar (s : State) (op : Nat) (b : Bytes) : Option Refuse :=
  match op with
  | 0x0404 =>
    let t := vget s.ingest.templates (fld b 128 8)
    if (List.range 8).any (fun l => l != fld b 64 8 && isSet s 0x0404 l &&
        fld (setting s 0x0404 l) 72 8 == fld b 72 8 && fld (setting s 0x0404 l) 80 16 == fld b 80 16 &&
        fld (setting s 0x0404 l) 96 32 == fld b 96 32) then some (stBadParam, 12)
    else if t = [] then some (stBadParam, 16)
    else if fld b 136 8 = 0 ∧ tplTimeFormat t ≠ 1 then some (stBadParam, 17) else none
  | _ => none

end Sys2Proof.Machine
end

