-- ==== Sys2Proof/Machine/Sensors.lean ====
section
/-! DEFINITION. The pose history and poses at any instant (R164 to R170), IMUs, wheel encoders and CAN controllers (R144
to R150), the motion unit's bookkeeping (R159 to R163), and source loss (R155). -/

namespace Sys2Proof.Machine

/-! ## Pose numbers -/

/-- The numbers of an entry in the order POS, Q (W first), VEL, SIGMA_POS, SIGMA_ATT, SIGMA_VEL, YAW_RATE. -/
def PoseEntry.numbers (e : PoseEntry) : List Nat :=
  [e.posX, e.posY, e.posZ, e.qW, e.qX, e.qY, e.qZ, e.velX, e.velY, e.velZ, e.sigmaPos, e.sigmaAtt, e.sigmaVel, e.yawRate]

/-- An entry with its numbers replaced; each is cut to its width. -/
def PoseEntry.withNumbers (e : PoseEntry) (l : List Nat) : PoseEntry :=
  let g (i w : Nat) : Nat := l.getD i 0 % 2 ^ w
  { e with
    posX := g 0 32, posY := g 1 32, posZ := g 2 32, qW := g 3 32, qX := g 4 32, qY := g 5 32, qZ := g 6 32,
    velX := g 7 32, velY := g 8 32, velZ := g 9 32, sigmaPos := g 10 16, sigmaAtt := g 11 16, sigmaVel := g 12 16,
    yawRate := g 13 16 }

/-- A pose history entry's 64 bytes (Table 6.3). -/
def poseBytes (e : PoseEntry) : Bytes :=
  pack 64 [(0, 16, e.anchorSeq), (16, 8, e.primary), (24, 1, flag e.wheelAided), (25, 1, flag e.standstill),
    (26, 1, flag e.degradedEgo), (27, 1, flag e.imuSwitch), (32, 16, e.yawRate), (48, 16, e.sigmaVel),
    (64, 16, e.sigmaAtt), (80, 16, e.sigmaPos), (96, 32, e.velX), (128, 32, e.velY), (160, 32, e.velZ),
    (192, 32, e.qW), (224, 32, e.qX), (256, 32, e.qY), (288, 32, e.qZ), (320, 32, e.posX), (352, 32, e.posY),
    (384, 32, e.posZ), (416, 96, dtsBits e.time)]

/-- The ring of 16,384 entries takes another (R164). -/
def writePose (e : PoseEntry) (s : State) : State :=
  { s with align := { s.align with history := (e :: s.align.history).take 16384 } }

/-! ## The pose at any instant (R166 to R168) -/

/-- LIMIT_US as an interval, ACCEL_BOUND and ANG_ACCEL_BOUND (Table 6.4). -/
def poseLimit (s : State) : Nat := fld (setting s 0x0502 0) 0 16 * usUnits
def accelBound (s : State) : Dy := f32 (fld (setting s 0x0502 0) 64 32)
def angBound (s : State) : Dy := f32 (fld (setting s 0x0502 0) 96 32)

/-- A number linear in u = num / den between two (R166). -/
def lerp (a b : Dy) (num den : Nat) : Dy :=
  if den = 0 then a else a.add (((b.sub a).mul (Dy.ofInt num)).div (Dy.ofInt den))

/-- Interpolation between adjacent entries (R166). The marks of the older entry stay. -/
def interpolate (a b : PoseEntry) (t : Dts) : PoseEntry :=
  let num := t - a.time
  let den := b.time - a.time
  let l32 (x y : Nat) : Nat := to32 (lerp (f32 x) (f32 y) num den)
  let big (x y : Nat) : Nat := if (f16 x).le (f16 y) then y else x
  let q := if den = 0 then [a.qW, a.qX, a.qY, a.qZ]
    else Config.slerp [a.qW, a.qX, a.qY, a.qZ] [b.qW, b.qX, b.qY, b.qZ] num den
  { a.withNumbers ([l32 a.posX b.posX, l32 a.posY b.posY, l32 a.posZ b.posZ] ++ [0, 1, 2, 3].map (fun i => q.getD i 0) ++
      [l32 a.velX b.velX, l32 a.velY b.velY, l32 a.velZ b.velZ, big a.sigmaPos b.sigmaPos, big a.sigmaAtt b.sigmaAtt,
       big a.sigmaVel b.sigmaVel, to16 (lerp (f16 a.yawRate) (f16 b.yawRate) num den)]) with time := t }

/-- Extrapolation from the newest entry (R167). -/
def extrapolate (s : State) (n : PoseEntry) (t : Dts) : PoseEntry :=
  let span : Interval := (t : Int) - n.time
  let d := secondsOf span
  let half (x : Dy) : Dy := ((x.mul d).mul d).mul ⟨1, -1⟩
  let move (p v : Nat) : Nat := to32 ((f32 p).add ((f32 v).mul d))
  let q := if span = 0 then [n.qW, n.qX, n.qY, n.qZ] else Config.turnYaw [n.qW, n.qX, n.qY, n.qZ] n.yawRate span
  { n.withNumbers ([move n.posX n.velX, move n.posY n.velY, move n.posZ n.velZ] ++ [0, 1, 2, 3].map (fun i => q.getD i 0) ++
      [n.velX, n.velY, n.velZ,
       to16 (Dy.sum [f16 n.sigmaPos, (f16 n.sigmaVel).mul d, half (accelBound s)]),
       to16 ((f16 n.sigmaAtt).add (half (angBound s))),
       to16 ((f16 n.sigmaVel).add ((accelBound s).mul d)), n.yawRate]) with time := t }

/-- The adjacent entries about an instant, in a history newest first. -/
def bracket : List PoseEntry → Dts → Option (PoseEntry × PoseEntry)
  | b :: a :: rest, t => if a.time ≤ t ∧ t ≤ b.time then some (a, b) else bracket (a :: rest) t
  | _, _ => none

/-- The pose at an instant with HOW (R170): 0 interpolated, 1 extrapolated, 2 older than the history, 3 beyond
LIMIT_US. -/
def poseFor (s : State) (t : Dts) : Nat × Option PoseEntry :=
  match s.align.history with
  | [] => (2, none)
  | n :: rest =>
    if n.time < t then
      if poseLimit s < t - n.time then (3, none) else (1, some (extrapolate s n t))
    else if t = n.time then (0, some { n with time := t })
    else match bracket (n :: rest) t with
      | some (a, b) => if poseLimit s < b.time - a.time then (3, none) else (0, some (interpolate a b t))
      | none => (2, none)

/-- A pose, if it is not refused. -/
def poseAt (s : State) (t : Dts) : Option PoseEntry := (poseFor s t).2

/-- GET_POSE's result for an instant (R170). -/
def poseBlock (s : State) (t : Dts) : Bytes :=
  (match (poseFor s t).2 with
    | some e => poseBytes e
    | none => zeros 64) ++ bytesOfNat 8 (poseFor s t).1

def execGetPose (k : CmdKey) (s : State) : Host.Outcome State Fault Refusal :=
  runCommand k 0x0505 (fun c s => doneWith c (poseBlock s (dtsOf (fld c.params 0 96))) s) s

def execSetExtrapolationLimit (k : CmdKey) (s : State) : Host.Outcome State Fault Refusal :=
  runCommand k 0x0502 (fun c s => done c (putSetting 0x0502 0 c.params s)) s

/-! ## IMUs (R144 to R146, R159, R162, R163) -/

def imu (s : State) (i : Nat) : ImuMaster := vget s.ingest.imus i

def modImu (i : Nat) (f : ImuMaster → ImuMaster) (s : State) : State :=
  { s with ingest := { s.ingest with imus := vmod s.ingest.imus i f } }

/-- The bytes of a descriptor's field, by its WIDTH code (Table 5.12). -/
def imuWidth : Nat → Nat
  | 1 => 2
  | 2 => 3
  | 3 => 4
  | _ => 0

/-- A field of a burst as an integer; none where the descriptor is absent. -/
def imuField (b burst : Bytes) (n : Nat) : Option Int :=
  let o := 192 + 64 * n
  let w := imuWidth (fld b (o + 6) 2)
  if w = 0 then none
  else
    let raw := slice burst (fld b (o + 8) 8) w
    let v := if bitAt b (o + 4) then natOfBytesBE raw else natOfBytes raw
    some (if bitAt b (o + 5) then signedOf (8 * w) v else (v : Int))

/-- The six motion values of a burst, FP32 codes: raw × SCALE. -/
def imuValues (b burst : Bytes) : List Nat :=
  (List.range 6).map (fun n => fmul (fofInt ((imuField b burst n).getD 0)) (fld b (224 + 64 * n) 32))

/-- An IMU may serve: configured, not ABSENT, neither EXCLUDED nor TIME_UNTRUSTED (R162). -/
def imuUsable (s : State) (i : Nat) : Bool :=
  sourceActive s (16 + i) && (source s (16 + i)).state != .absent &&
    (sourceTrust s (16 + i)).trust != .excluded && (sourceTrust s (16 + i)).trust != .timeUntrusted

/-- The primary by configuration: the one marked PRIMARY, else the lowest configured (R159). -/
def designatedImu (s : State) : Option Nat :=
  let conf := (List.range 4).filter (fun i => sourceConfigured s (16 + i))
  match conf.find? (fun i => bitAt (setting s 0x0500 (16 + i)) 16) with
  | some i => some i
  | none => conf.head?

/-- The standby that becomes primary: the lowest that is trusted and VALID (R162). -/
def standbyImu (s : State) : Option Nat :=
  (List.range 4).find? (fun i => imuUsable s i && sourceUsed s (16 + i))

/-- An IMU is left: the primary serves, or a standby may follow it (R162, R163). -/
def imuLeft (s : State) : Bool := s.align.primary.any (imuUsable s) || (standbyImu s).isSome

/-- In RUN, with no IMU left, the ego motion is degraded (R163). A worker's motion unit integrates none (R492). -/
def judgeImus (s : State) : State :=
  if !inRun s || isWorker s || s.align.degradedEgo || imuLeft s then s
  else report (alignFault 26) 0 4 .uc 0 { s with align := { s.align with primary := none, degradedEgo := true } }

/-- An IMU serves as primary again: DEGRADED_EGO clears (R163). -/
def regainEgo (s : State) : State :=
  if s.align.degradedEgo then
    evaluateAgain (alignFault 26) 0 4 false { s with align := { s.align with degradedEgo := false } }
  else s

/-- A standby becomes primary: its own integration, reset to the fused state at the latest fusion instant, goes on as the
fused one (R162, R163; assumption 122). -/
def makePrimary (i : Nat) (s : State) : State :=
  let own := vget s.align.alone i
  regainEgo { s with align := { s.align with
    primary := some i, switched := true, fused := if own.at_.isSome then own else s.align.fused } }

/-- At an IMU's sample: the primary that no longer serves is replaced by the standby due (R162). -/
def switchPrimary (i : Nat) (s : State) : State :=
  match s.align.primary with
  | some p =>
    if imuUsable s p then (if p = i then regainEgo s else s)
    else if standbyImu s = some i then makePrimary i s else s
  | none => if standbyImu s = some i then makePrimary i s else s

/-- A wheel in use (R160, R188, R193). -/
def wheelInUse (s : State) (w : Nat) : Bool :=
  let x := vget s.align.wheels w
  x.hasData && !x.slipping && (vget s.align.voters 1).trust != .excluded

/-- The wheels in use: contact point and steering angle, speed. -/
def wheelsUsed (s : State) : List (List Nat × Int) :=
  ((List.range 4).filter (wheelInUse s)).map (fun w => ((vget s.align.wheels w).contact, (vget s.align.wheels w).speed))

/-- Every wheel in use has reported zero speed for 100 ms (R160). -/
def standingStill (s : State) : Bool :=
  let w := (List.range 4).filter (wheelInUse s)
  !w.isEmpty && w.all (fun i => match (vget s.align.wheels i).zeroFrom with
    | some t => decide (t + 100 * msUnits ≤ now s)
    | none => false)

/-- A blank entry with the marks of the moment. -/
def poseMarks (s : State) (t : Dts) : PoseEntry :=
  { (default : PoseEntry) with
    time := t, imuSwitch := s.align.switched, degradedEgo := s.align.degradedEgo,
    wheelAided := !(wheelsUsed s).isEmpty, primary := match s.align.primary with
      | some i => srcNum (16 + i)
      | none => 0xFF,
    anchorSeq := s.align.anchorSeq % 65536 }

def newestTime (s : State) (t : Dts) : Dts :=
  match s.align.history with
  | e :: _ => e.time
  | [] => t

/-- An integration takes a sample over the span since it last stood (R160). -/
def Nav.take (n : Nav) (cal : Bytes) (sample : List Nat) (stamp : Dts) : Nav :=
  let span : Int := match n.at_ with
    | some t => ((stamp - t : Nat) : Int)
    | none => 0
  let r := Config.strapdown n.numbers n.filter cal sample span
  { numbers := r.1, filter := r.2, at_ := some stamp }

/-- The zero-velocity update of R160. -/
def Nav.still (n : Nav) : Nav :=
  let r := Config.zeroVelocity n.numbers n.filter
  { n with numbers := r.1, filter := r.2 }

/-- The motion unit takes a sample: every IMU moves its own integration, and the primary, while it serves, the fused state,
which makes a pose entry (R160, R162, R164, R193). A worker's motion unit integrates none (R492). -/
def integrateSample (i : Nat) (stamp : Dts) (burst : Bytes) (s : State) : State :=
  if isWorker s then s
  else
    let v := imuValues (setting s 0x0405 i) burst
    let cal := setting s 0x0500 (16 + i)
    let s0 := switchPrimary i s
    let s1 := { s0 with align := { s0.align with alone := vmod s0.align.alone i (fun (n : Nav) => n.take cal v stamp) } }
    if !(s1.align.primary = some i && imuUsable s1 i) || decide (stamp < newestTime s1 stamp) then s1
    else
      let zero := standingStill s1
      let n := s1.align.fused.take cal v stamp
      let m := if zero then n.still else n
      let s2 := writePose { (poseMarks s1 stamp).withNumbers m.numbers with standstill := zero } s1
      { s2 with align := { s2.align with fused := m, switched := false } }

/-- The command bytes of a burst, sent from [103:96] upward (Table 5.11). -/
def imuCommand (b : Bytes) : Bytes := slice b 12 (fld b 128 4)

/-- A data-ready edge starts the transaction, or is kept behind the one that runs (R145, R146). -/
def execImuDataReady (imu_ : Nat) (s : State) : Host.Outcome State Fault Refusal :=
  awakeAnswer s fun s =>
    let m := imu s imu_
    match m.edges with
    | [] => s
    | e :: rest =>
      if !(decide (imu_ < 4) && sourceActive s (16 + imu_)) then
        modImu imu_ (fun (m : ImuMaster) => { m with edges := rest }) s
      else match m.running with
        | none => emit (.spi imu_ (imuCommand (setting s 0x0405 imu_)))
            (modImu imu_ (fun (m : ImuMaster) => { m with edges := rest, running := some e, lastEdge := some e }) s)
        | some _ => modSource (16 + imu_) (fun (x : Source) => { x with drdyEarly := bump x.drdyEarly })
            (modImu imu_ (fun (m : ImuMaster) =>
              { m with edges := rest, kept := m.kept ++ [e], lastEdge := some e }) s)

/-- The motion unit takes samples: not while its subsystem's reset shadow is open (R441). -/
def motionRuns (s : State) : Bool := !s.patrol.shadows.any (fun x => x.subsystem == 0x05)

/-- The motion unit takes every sample waiting. -/
def takeSamples (i : Nat) (s : State) : State :=
  let b := (imu s i).buffers
  b.foldl (fun (t : State) (x : ImuSample) => integrateSample i x.stamp x.burst t)
    (modImu i (fun (m : ImuMaster) => { m with buffers := [] }) s)

/-- The sample counter: samples missing are LOST (R146). -/
def checkImuCounter (i : Nat) (burst : Bytes) (s : State) : State :=
  let b := setting s 0x0405 i
  match imuField b burst 7 with
  | none => s
  | some v =>
    let span : Nat := 2 ^ (8 * imuWidth (fld b 646 2))
    let n := (v % (span : Int)).toNat
    let lost := match (imu s i).lastCounter with
      | some p => missingValues span p n
      | none => 0
    modSource (16 + i) (fun (x : Source) => { x with lost := satAdd 32 x.lost lost })
      (modImu i (fun (m : ImuMaster) => { m with lastCounter := some n }) s)

/-- The burst ends: the sample is stamped and integrated; the transaction of an edge kept follows (R145, R146). -/
def execImuTransactionComplete (imu_ : Nat) (burst : Bytes) (s : State) : Host.Outcome State Fault Refusal :=
  awakeAnswer s fun s =>
    match decide (imu_ < 4), (imu s imu_).running with
    | true, some e =>
      let b := setting s 0x0405 imu_
      let stamp := e - fld b 160 32 * nsUnits
      let s0 := modImu imu_ (fun (m : ImuMaster) =>
        { m with running := m.kept.head?, kept := m.kept.drop 1 }) s
      let s1 := if (imu s0 imu_).running.isSome then emit (.spi imu_ (imuCommand b)) s0 else s0
      let (s2, kept, _) := takeUnit (16 + imu_) stamp (now s) s1
      if !kept then s2
      else
        let s3 := modSource (16 + imu_) (fun (x : Source) => { x with whole := bump x.whole })
          (checkImuCounter imu_ (fit (fld b 136 8) burst) s2)
        if 2 ≤ (imu s3 imu_).buffers.length then
          modSource (16 + imu_) (fun (x : Source) => { x with dropped := bump x.dropped }) s3
        else
          let x : ImuSample := { stamp := stamp, arrival := now s, burst := fit (fld b 136 8) burst }
          let s4 := modImu imu_ (fun (m : ImuMaster) => { m with buffers := m.buffers ++ [x] }) s3
          judgeImus (if motionRuns s4 then takeSamples imu_ s4 else s4)
    | _, _ => s

/-! ## Encoders (R147, R148) -/

/-- The step of an accepted edge: forward is A leading B. -/
def quadStep (onB level a b : Bool) : Int :=
  if onB then (if level == a then 1 else -1) else (if level == b then -1 else 1)

/-- A signed 32-bit position. -/
def wrap32 (i : Int) : Int := signedOf 32 (codeOf 32 i)

/-- An edge that has held its level for FILTER (R86, R148). Both lines changing within one filter period leave the
position as it was. -/
def execEncoderEdge (enc : Nat) (onB level : Bool) (at_ : Dts) (s : State) : Host.Outcome State Fault Refusal :=
  awakeAnswer s fun s =>
    let x := vget s.ingest.encoders enc
    let b := setting s 0x0406 enc
    let put (f : Encoder → Encoder) (s : State) : State :=
      { s with ingest := { s.ingest with encoders := vmod s.ingest.encoders enc f } }
    let gap := match x.lastAccepted with
      | some l => at_ - l
      | none => secUnits
    let levels (e : Encoder) : Encoder := if onB then { e with b := level } else { e with a := level }
    if !(decide (enc < 4) && sourceActive s (20 + enc)) || (if onB then x.b else x.a) == level then s
    else if decide (gap < fld b 48 8 * 8 * nsUnits) && x.lastOnB != onB && x.lastStep != 0 then
      modSource (20 + enc) (fun (m : Source) => { m with damaged := bump m.damaged })
        (put (fun (e : Encoder) =>
          { levels e with position := wrap32 (e.position - e.lastStep), lastStep := 0, edges := e.edges.dropLast }) s)
    else if gap < (fld b 48 8 * 8 + 40) * nsUnits then
      modSource (20 + enc) (fun (m : Source) => { m with dropped := bump m.dropped }) (put levels s)
    else
      let step := if bitAt b 8 then -(quadStep onB level x.a x.b) else quadStep onB level x.a x.b
      let (s1, kept, _) := takeUnit (20 + enc) at_ at_ s
      if !kept then s1
      else
        let p := wrap32 (x.position + step)
        modSource (20 + enc) (fun (m : Source) => { m with whole := bump m.whole })
          (put (fun (e : Encoder) =>
            { levels e with
              position := p, lastAccepted := some at_, lastStep := step, lastOnB := onB,
              edges := e.edges ++ [(at_, p, decide (0 < step))] }) s1)

/-! ## CAN (R149, R150) -/

def can (s : State) (n : Nat) : Can := vget s.ingest.cans n

def modCan (n : Nat) (f : Can → Can) (s : State) : State :=
  { s with ingest := { s.ingest with cans := vmod s.ingest.cans n f } }

def canFilters (b : Bytes) : Nat := fld b 96 8
def canSignals (b : Bytes) : Nat := fld b 104 8
def canFilter (b : Bytes) (n : Nat) : Bytes := slice b (16 + 16 * n) 16
def canSignal (b : Bytes) (n : Nat) : Bytes := slice b (16 + 16 * canFilters b + 16 * n) 16

/-- A filter selects a message (Table 5.15). -/
def filterTakes (f : Bytes) (m : CanMessage) : Bool :=
  bitAt f (68 + m.kind) && (m.kind == 2 || bitAt f 67 == m.extended) &&
    (m.id &&& fld f 32 29) == (fld f 0 29 &&& fld f 32 29) &&
    (m.kind != 2 || !bitAt f 71 || m.vcid == fld f 72 8)

/-- Bits of a data field in little-endian numbering, least significant first. -/
def bitsLE (d : Bytes) (start n : Nat) : Nat := fld d start n

/-- Bits in big-endian numbering: bit 0 is the top bit of byte 0, the first bit is the most significant. -/
def bitsBE (d : Bytes) (start n : Nat) : Nat :=
  natOfBytesBE d / 2 ^ (8 * d.length - start - n) % 2 ^ n

/-- A signal's raw value (Table 5.16). -/
def signalRaw (g d : Bytes) : Int :=
  let n := fld g 40 8
  let v := if bitAt g 49 then bitsBE d (fld g 0 14) n else bitsLE d (fld g 0 14) n
  if bitAt g 50 then signedOf n v else (v : Int)

/-- A signal's value as an FP32 code. -/
def signalValue (g : Bytes) (raw : Int) : Nat := fadd (fmul (fofInt raw) (fld g 64 32)) (fld g 96 32)

/-- A message reaches one filter that selects it. -/
def filterMessage (n : Nat) (b : Bytes) (m : CanMessage) (i : Nat) (s : State) : State :=
  let f := canFilter b i
  let old := lookupD ((can s n).latest.map (fun p => (p.1, some p.2))) i none
  let len := fld f 104 8
  let alive := if len = 0 then none else some (bitsLE m.data (fld f 88 16) len)
  let skipped := match old.bind (·.alive), alive with
    | some p, some a => a != (p + 1) % 2 ^ len
    | _, _ => false
  let untaken := match old with
    | some o => !o.taken
    | none => false
  let entry : CanLatest := { stamp := m.stamp, data := m.data, taken := false, alive := alive }
  let sigs := (List.range (canSignals b)).filter (fun j => fld (canSignal b j) 51 5 == i)
  modSource (24 + n) (fun (x : Source) =>
      { x with
        dropped := if untaken then bump x.dropped else x.dropped, lost := if skipped then bump x.lost else x.lost })
    (modCan n (fun (c : Can) =>
      { c with
        latest := assocSet c.latest i entry,
        signals := if skipped then c.signals else
          sigs.foldl (fun (a : List (Nat × Int × Dts)) j =>
            assocSet a j (signalRaw (canSignal b j) m.data, m.stamp - fld f 112 16 * usUnits)) c.signals }) s)

def execCanMessage (can_ : Nat) (msg : CanMessage) (s : State) : Host.Outcome State Fault Refusal :=
  awakeAnswer s fun s =>
    let b := setting s 0x0407 can_
    let hit := (List.range (canFilters b)).filter (fun i => filterTakes (canFilter b i) msg)
    if !(decide (can_ < 2) && sourceActive s (24 + can_)) || hit.isEmpty then s
    else
      let (s1, kept, _) := takeUnit (24 + can_) msg.stamp msg.stamp s
      if !kept then s1
      else
        let s2 := modSource (24 + can_) (fun (x : Source) => { x with whole := bump x.whole }) s1
        hit.foldl (fun (t : State) i => filterMessage can_ b msg i t) s2

def execCanErrorFrame (can_ : Nat) (s : State) : Host.Outcome State Fault Refusal :=
  awakeAnswer s fun s =>
    if decide (can_ < 2) && sourceActive s (24 + can_) then
      modSource (24 + can_) (fun (x : Source) => { x with damaged := bump x.damaged }) s
    else s

/-- A controller acknowledges: ACK_EN, and no bus-off since CONFIG_CAN (R150). -/
def canAcks (s : State) (n : Nat) : Bool := bitAt (setting s 0x0407 n) 8 && !(can s n).busOff

def execCanBusOff (can_ : Nat) (s : State) : Host.Outcome State Fault Refusal :=
  awakeAnswer s fun s =>
    if decide (can_ < 2) && sourceActive s (24 + can_) && canAcks s can_ then
      report (ingestFault (24 + can_) 0) 0 4 .ce 0 (modCan can_ (fun (c : Can) => { c with busOff := true }) s)
    else s

/-! ## The wheel update (R160, R161, R163) -/

/-- The encoder that serves a wheel. -/
def wheelEncoder (s : State) (w : Nat) : Option Nat :=
  (List.range 4).find? (fun e => sourceActive s (20 + e) && fld (setting s 0x0406 e) 32 8 == w)

/-- The speed of a wheel in µm/s from the encoder that serves it; none without an encoder. A position change across the wrap
of the 32-bit position is the change modulo 2³² (R148, R161). -/
def encoderSpeed (s : State) (w : Nat) : Option Int :=
  match wheelEncoder s w with
  | none => none
  | some e =>
    let b := setting s 0x0406 e
    match (vget s.ingest.encoders e).edges with
    | [] => some 0
    | first :: rest => match rest.getLast? with
      | none => some 0
      | some last =>
        if last.1 = first.1 then some 0
        else some ((fld b 96 32 : Int) * wrap32 (last.2.1 - first.2.1) * (secUnits : Int) /
          ((fld b 64 32 * (last.1 - first.1) : Nat) : Int))

/-- A CAN controller's signals serve: it is active, not ABSENT and not TIME_UNTRUSTED (R180; assumption 123). -/
def canServes (s : State) (n : Nat) : Bool :=
  sourceActive s (24 + n) && (source s (24 + n)).state != .absent && (sourceTrust s (24 + n)).trust != .timeUntrusted

/-- The latest value of a meaning from a CAN controller, an FP32 code with its valid instant (R150). -/
def canValue (s : State) (n meaning : Nat) : Option (Nat × Dts) :=
  let b := setting s 0x0407 n
  if !canServes s n then none
  else ((can s n).signals.find? (fun p => fld (canSignal b p.1) 56 8 == meaning)).map (fun p =>
    (signalValue (canSignal b p.1) p.2.1, p.2.2))

/-- The speed of a wheel in µm/s from a CAN signal of its meaning, its valid instant and its controller; none without
one. -/
def canSpeed (s : State) (w : Nat) : Option (Int × Dts × Nat) :=
  (List.range 2).findSome? (fun n => (canValue s n (w + 1)).map (fun v =>
    (((f32 v.1).mul (Dy.ofInt 1000000)).floor, v.2, n)))

/-- The road-wheel steering angle of a wheel, an FP32 code: of a front wheel, where the controller that states it has
STEERED_FRONT (Table 6.2); 0 otherwise. -/
def steering (s : State) (w : Nat) : Nat :=
  if 2 ≤ w then 0
  else ((List.range 2).findSome? (fun n =>
    if bitAt (setting s 0x0500 (24 + n)) 16 then (canValue s n 5).map (·.1) else none)).getD 0

/-- A wheel's contact point x and y from the calibration of the source that serves it: an encoder's TRANSLATION, or its pair
of a CAN controller's words (Table 6.2). -/
def contactOf (s : State) (i w : Nat) : List Nat :=
  let b := setting s 0x0500 i
  if i < 24 then [fld b 160 32, fld b 192 32] else [fld b (256 + 64 * w) 32, fld b (288 + 64 * w) 32]

/-- The other CAN signals of the motion unit as FP32 codes by meaning. -/
def canOthers (s : State) : List (Nat × Nat) :=
  (List.range 2).flatMap (fun n =>
    let b := setting s 0x0407 n
    ((can s n).signals.filter (fun p => canServes s n && decide (5 ≤ fld (canSignal b p.1) 56 8))).map (fun p =>
      (fld (canSignal b p.1) 56 8, signalValue (canSignal b p.1) p.2.1)))

/-- A wheel's speed, the instant at which it is valid and the source that serves it: the encoder where it has both (R161). -/
def wheelSpeed (s : State) (w : Nat) : Option (Int × Dts × Nat) :=
  match wheelEncoder s w, encoderSpeed s w with
  | some e, some v => some (v, now s, 20 + e)
  | _, _ => (canSpeed s w).map (fun c => (c.1, c.2.1, 24 + c.2.2))

/-- A wheel's speed enters. -/
def updateWheel (s : State) (w : Nat) (x : Wheel) : Wheel :=
  match wheelSpeed s w with
  | none => { x with hasData := false, speed := 0, zeroFrom := none }
  | some v =>
    { x with
      hasData := true, speed := v.1, at_ := v.2.1, contact := contactOf s v.2.2 w ++ [steering s w],
      zeroFrom := if v.1 = 0 then some (x.zeroFrom.getD v.2.1) else none }

/-- The velocity update of R160, from the wheels in use, each at the instant of its speed. -/
def velocityUpdate (s : State) : State :=
  let n := s.align.fused
  let ws := ((List.range 4).filter (wheelInUse s)).map (fun w =>
    let x := vget s.align.wheels w
    (x.contact, x.speed, (x.at_ : Int) - (n.at_.getD x.at_)))
  if ws.isEmpty then s
  else
    let r := Config.velocityUpdate n.numbers n.filter ws
    { s with align := { s.align with fused := { n with numbers := r.1, filter := r.2 } } }

/-- Without an IMU, one pose entry per millisecond from wheel odometry (R163). -/
def odometryEntries : Nat → Dts → State → State
  | 0, _, s => s
  | n + 1, from_, s =>
    let t := from_ + msUnits
    if now s < t then s
    else
      let l := Config.odometryStep s.align.fused.numbers (wheelsUsed s) (canOthers s) msUnits
      let s1 := writePose ((poseMarks s t).withNumbers l) s
      odometryEntries n t { s1 with align := { s1.align with fused := { s1.align.fused with numbers := l, at_ := some t } } }

/-- Wheel odometry over the counts that have passed (R163): the entries go on from the latest pose, or, where that is older,
from one millisecond before the counts. -/
def odometry (n : Nat) (s : State) : State :=
  if !s.align.degradedEgo || isWorker s || halted s then s
  else
    let ms := n / (1000 * countsPerUs) + 2
    let floor := now s - ms * msUnits
    odometryEntries ms (max floor (s.align.fused.at_.getD 0)) s

/-- `n` counts pass and waiting frames start where a transmitter has become free; with `mismatch` the two copies of COUNT then
differ, a fatal fault (R64, R67). Wheel odometry writes its entries (R163). -/
def execCountIncrement (n : Nat) (mismatch : Bool) (s : State) : Host.Outcome State Fault Refusal :=
  answer s (if !s.time.running then s
    else
      let s1 := odometry n ((List.range 6).foldl (fun t p => pumpPort p t) (noteLimit (setTime (countUp n) s)))
      if mismatch then
        report (timeFault 0) 0 5 .fa 0 (setTime (fun tb => { tb with countCopy := tb.count ^^^ 1 }) s1)
      else s1)

/-- Every 10 ms: the wheel speeds, the velocity update, and whether an IMU is left (R160, R161, R163). A worker's motion unit
integrates no wheel (R492). -/
def execWheelVelocityUpdate (s : State) : Host.Outcome State Fault Refusal :=
  awakeAnswer s fun s =>
    if now s < s.align.lastWheelUpdate + 10 * msUnits ∨ s.dev.state = .boot then s
    else if isWorker s then { s with align := { s.align with lastWheelUpdate := now s } }
    else
      let wheels := Vector.ofFn (fun (i : Fin 4) => updateWheel s i.val (vget s.align.wheels i.val))
      let s1 := { s with
        align := { s.align with wheels := wheels },
        ingest := { s.ingest with
          encoders := s.ingest.encoders.map (fun (e : Encoder) => { e with edges := [] }),
          cans := s.ingest.cans.map (fun (c : Can) =>
            { c with latest := c.latest.map (fun p => (p.1, { p.2 with taken := true })) }) } }
      let s2 := judgeImus (if s1.align.degradedEgo then s1 else velocityUpdate s1)
      { s2 with align := { s2.align with lastWheelUpdate := now s } }

/-! ## Source loss (R155) -/

/-- A CAN filter with signals has been silent for LOSS_TIMEOUT_MS. -/
def canSilent (s : State) (n : Nat) : Bool :=
  let b := setting s 0x0407 n
  (can s n).latest.any (fun p =>
    (List.range (canSignals b)).any (fun j => fld (canSignal b j) 51 5 == p.1) &&
      decide (p.2.stamp + fld b 16 16 * msUnits ≤ now s))

/-- A source is silent for its loss span. -/
def sourceSilent (s : State) (i : Nat) : Bool :=
  if 24 ≤ i then canSilent s (i - 24)
  else match lossSpan s i, silentSince s i with
    | some n, some t => decide (t + n ≤ now s)
    | _, _ => false

/-- A source silent for its loss span becomes ABSENT, with a CE record (R155). -/
def execSourceLossTimeout (source_ : Nat) (s : State) : Host.Outcome State Fault Refusal :=
  awakeAnswer s fun s =>
    match srcIdx source_ with
    | none => s
    | some i =>
      if sourceActive s i && ((source s i).state == .starting || (source s i).state == .valid) && sourceSilent s i then
        judgeImus (report (ingestFault i 0) 0 4 .ce 0 (modSource i (fun (m : Source) =>
          { m with state := .absent, lossEvents := bump m.lossEvents }) s))
      else s

/-! ## Commands -/

def execConfigImu (k : CmdKey) (s : State) : Host.Outcome State Fault Refusal :=
  runCommand k 0x0405 (fun c s =>
    let i := fld c.params 0 8
    let s1 := startSource (16 + i) true (modImu i (fun _ => default) (putSetting 0x0405 i c.params s))
    done c { s1 with align := { s1.align with primary := designatedImu s1 } }) s

def execConfigEncoder (k : CmdKey) (s : State) : Host.Outcome State Fault Refusal :=
  runCommand k 0x0406 (fun c s =>
    let i := fld c.params 0 8
    let s1 := putSetting 0x0406 i c.params s
    done c (startSource (20 + i) true
      { s1 with ingest := { s1.ingest with encoders := vmod s1.ingest.encoders i (fun (e : Encoder) =>
        { e with lastAccepted := none, edges := [], lastStep := 0 }) } })) s

def execConfigCan (k : CmdKey) (s : State) : Host.Outcome State Fault Refusal :=
  runCommand k 0x0407 (fun c s =>
    let n := fld c.params 0 8
    conclude c stDone 0 [] (startSource (24 + n) true (modCan n (fun _ => default) (putSetting 0x0407 n c.params s)))) s

/-- SET_CALIBRATION: PRIMARY on one IMU clears it on the others (R159). -/
def execSetCalibration (k : CmdKey) (s : State) : Host.Outcome State Fault Refusal :=
  runCommand k 0x0500 (fun c s =>
    let i := (srcIdx (fld c.params 0 8)).getD 0
    let marks := decide (16 ≤ i ∧ i < 20) && bitAt c.params 16
    let cleared := (List.range 4).foldl (fun (t : State) j =>
      if marks && 16 + j != i && isSet t 0x0500 (16 + j) then
        let b := setting t 0x0500 (16 + j)
        putSetting 0x0500 (16 + j) (bytesOfNat 64 (natOfBytes b - flag (bitAt b 16) * 65536)) t
      else t) s
    let s1 := putSetting 0x0500 i c.params cleared
    done c (if decide (16 ≤ i ∧ i < 20) then { s1 with align := { s1.align with primary := designatedImu s1 } } else s1)) s

/-- A CAN rate in kbit/s and a sample point in per cent are within 1 % of what the 80 MHz clock gives (R149). -/
def canTimingOk (kbit sp : Nat) : Bool :=
  let lo := 80000 / kbit
  [lo, lo + 1].any (fun n => decide (0 < n) && decide (100 * (mag ((80000 : Int) - kbit * n)) ≤ kbit * n) &&
    (List.range n).any (fun j => decide (100 * mag ((100 * j : Nat) - ((sp * n : Nat) : Int)) ≤ sp * n)))

/-- The first bad field of a CONFIG_CAN block, as a byte offset (Tables 5.14 to 5.16). -/
def canBad (b : Bytes) : Option Nat :=
  let bad (p : Bool) (o : Nat) : List Nat := if p then [o] else []
  let header := bad (decide (1 < fld b 0 8)) 0 ++ bad (fld b 9 7 != 0) 1 ++
    bad (decide (fld b 16 16 < 10 ∨ 1000 < fld b 16 16)) 2 ++ bad (decide (fld b 32 8 < 50 ∨ 90 < fld b 32 8)) 4 ++
    bad (decide (fld b 40 8 < 50 ∨ 90 < fld b 40 8)) 5 ++
    bad (decide (fld b 48 16 < 125 ∨ 1000 < fld b 48 16) || !canTimingOk (fld b 48 16) (fld b 32 8)) 6 ++
    bad (fld b 64 16 != 0 && (decide (fld b 64 16 < 1000 ∨ 8000 < fld b 64 16) || !canTimingOk (fld b 64 16) (fld b 40 8))) 8 ++
    bad (fld b 80 16 != 0 && (decide (fld b 80 16 < 2000 ∨ 20000 < fld b 80 16) || !canTimingOk (fld b 80 16) (fld b 40 8))) 10 ++
    bad (decide (32 < fld b 96 8)) 12 ++ bad (decide (64 < fld b 104 8)) 13 ++ bad (fld b 112 16 != 0) 14
  let filters := (List.range (canFilters b)).flatMap (fun i =>
    let f := canFilter b i
    let o := 16 + 16 * i
    bad (fld f 29 3 != 0) (o + 3) ++ bad (fld f 61 6 != 0) (o + 7) ++ bad (fld f 80 8 != 0) (o + 10) ++
      bad (decide (8 < fld f 104 8)) (o + 13))
  let signals := (List.range (canSignals b)).flatMap (fun i =>
    let g := canSignal b i
    let o := 16 + 16 * canFilters b + 16 * i
    bad (fld g 14 26 != 0) (o + 1) ++ bad (decide (fld g 40 8 < 1 ∨ 32 < fld g 40 8)) (o + 5) ++ bad (bitAt g 48) (o + 6) ++
      bad (decide (fld g 56 8 < 1 ∨ 9 < fld g 56 8)) (o + 7))
  (header ++ filters ++ signals).head?

/-- Twice the excess of a quaternion's squared norm is beyond what a norm within 10⁻³ of 1 allows (R158); encoders and CAN
controllers ignore ROTATION (Table 6.2). -/
def badNorm (b : Bytes) : Bool :=
  let q := calibQ b
  let n := Dy.sum [q.1.mul q.1, q.2.1.mul q.2.1, q.2.2.1.mul q.2.2.1, q.2.2.2.mul q.2.2.2]
  let m := n.mul (Dy.ofInt 1000000)
  m.lt (Dy.ofInt 998001) || (Dy.ofInt 1002001).lt m

/-- The reserved words and flags of a kind of source are zero (Table 6.2). -/
def calibReserved (b : Bytes) : Option Nat :=
  let i := (srcIdx (fld b 0 8)).getD 0
  let fromWord (n : Nat) : Option Nat :=
    ((List.range 8).find? (fun j => decide (n ≤ j) && fld b (256 + 32 * j) 32 != 0)).map (fun j => 32 + 4 * j)
  if i < 8 then (if 1 < fld b 16 16 then some 2 else none)
  else if i < 16 then (if fld b 16 16 ≠ 0 then some 2 else fromWord 0)
  else if i < 20 then (if 1 < fld b 16 16 then some 2 else fromWord 4)
  else if i < 24 then (if fld b 16 16 ≠ 0 then some 2 else fromWord 0)
  else (if 1 < fld b 16 16 then some 2 else none)

/-- Parameters that fail together (R123, R144, R145, R149, R156, R158). -/
def jointSensors (op : Nat) (b : Bytes) : Option Refuse :=
  match op with
  | 0x0405 =>
    match (List.range 6).find? (fun n => fld b (198 + 64 * n) 2 == 0) with
    | some n => some (stBadParam, 24 + 8 * n)
    | none =>
      let n := fld b 128 4 + fld b 136 8
      if 800000000 * fld b 80 16 <
          (20 * fld b 72 8 * fld b 80 16 + 8000000 * n) * fld b 144 16 then some (stBadParam, 18) else none
  | 0x0407 => (canBad b).map (fun o => (stBadParam, o))
  | 0x0408 => if (srcIdx (fld b 0 8)).isNone then some (stBadParam, 0) else none
  | 0x0500 =>
    if (srcIdx (fld b 0 8)).isNone then some (stBadParam, 0)
    else if (srcIdx (fld b 0 8)).any (fun i => decide (i < 20)) && badNorm b then some (stBadParam, 4)
    else (calibReserved b).map (fun o => (stBadParam, o))
  | _ => none

/-- A DRDY_INPUT that CONFIG_TS_IN has not bound to the master (R144). -/
def startSensors (s : State) (op : Nat) (b : Bytes) : Option Refuse :=
  match op with
  | 0x0405 =>
    let t := setting s 0x0204 (fld b 56 8)
    if isSet s 0x0204 (fld b 56 8) && fld t 32 8 == 1 && fld t 40 8 == fld b 0 8 then none
    else some (stBadParam, 7)
  | _ => none

end Sys2Proof.Machine
end

