-- ==== Sys2Proof/Machine/Frames.lean ====
section
/-! DEFINITION. Frames as a whole: how one is skipped or abandoned (R24, R181, R339, R463), and the Gates, the per-stage
window watchdogs (R461 to R464). -/

namespace Sys2Proof.Machine

/-! ## Frames -/

/-- The fusion set of a frame. -/
def setOf (s : State) (n : Nat) : Option FusionSet := s.align.sets.find? (fun f => f.frame == n)

def modSet (n : Nat) (f : FusionSet → FusionSet) (s : State) : State :=
  { s with align := { s.align with sets := s.align.sets.map (fun x => if x.frame == n then f x else x) } }

def modRink (f : Rink → Rink) (s : State) : State := { s with rink := f s.rink }
def modCounters (f : RinkCounters → RinkCounters) (s : State) : State :=
  { s with rink := { s.rink with counters := f s.rink.counters } }
def modSlot (n : Nat) (f : Slot → Slot) (s : State) : State :=
  { s with rink := { s.rink with slots := vmod s.rink.slots n f } }
def modTile (n : Nat) (f : Tile → Tile) (s : State) : State :=
  { s with rink := { s.rink with tiles := vmod s.rink.tiles n f } }
def modPoint (f : PointState → PointState) (s : State) : State := { s with point := f s.point }
def modGlide (f : Glide → Glide) (s : State) : State := { s with glide := f s.glide }
def modAlign (f : Align → Align) (s : State) : State := { s with align := f s.align }
def modPower (f : Power → Power) (s : State) : State := { s with power := f s.power }
def modSafety (f : Safety → Safety) (s : State) : State := { s with safety := f s.safety }
def modPatrol (f : Patrol → Patrol) (s : State) : State := { s with patrol := f s.patrol }
def modSolver (f : Solver → Solver) (s : State) : State := { s with solver := f s.solver }
def modPeers (f : Peers → Peers) (s : State) : State := { s with peers := f s.peers }
def modSecurity (f : Security → Security) (s : State) : State := { s with security := f s.security }
def modPlans (f : Plans → Plans) (s : State) : State := { s with plans := f s.plans }
def modPins (f : Pins → Pins) (s : State) : State := { s with pins := f s.pins }
def modDev (f : Dev → Dev) (s : State) : State := { s with dev := f s.dev }

/-- Ring slots are released (R130). -/
def releaseSlots (cams : List (Nat × Nat)) (s : State) : State :=
  cams.foldl (fun (t : State) (c : Nat × Nat) =>
    modReceiver c.1 (fun (x : Receiver) =>
      { x with slots := vmod x.slots c.2 (fun (sl : RingSlot) => { sl with held := false }) }) t) s

/-- The windows of Gates 2 to 7 that a frame armed are disarmed (R461). -/
def disarmFrame (n : Nat) (s : State) : State :=
  modSafety (fun (x : Safety) => { x with
    gates := (List.range 6).foldl (fun (v : Vector Gate 8) i =>
      vmod v (i + 2) (fun (g : Gate) => { g with armed := g.armed.filter (fun w => w.key != n) })) x.gates }) s

/-- What a slot's Lift held is given up with its frame. -/
def dropLanding (s : State) : State :=
  modRink (fun (r : Rink) => { r with
    packets := [],
    slots := (List.range 48).foldl (fun (v : Vector Slot 48) i =>
      vmod v i (fun (x : Slot) => { x with landing := [], haloLayer := none, haloWait := [] })) r.slots }) s

/-- The tile array stops work on a frame; it is free from now. -/
def dropFromArray (n : Nat) (s : State) : State :=
  match s.rink.frame with
  | some f => if f.frame = n then dropLanding (modRink (fun (r : Rink) => { r with frame := none }) s)
              else s
  | none => s

/-- The point engines, the tiles on the way and Glide give up a frame: its detections never exist. -/
def dropWork (n : Nat) (s : State) : State :=
  let keepTake (t : Option Take) : Option Take := t.filter (fun x => x.frame != n)
  dropFromArray n
    (modGlide (fun (g : Glide) => { g with
        arriving := g.arriving.filter (fun d => d.frame != n),
        pending := g.pending.filter (fun u => u.worker.isSome || u.frame != n) })
      (modPoint (fun (p : PointState) => { p with
          current := keepTake p.current, waiting := p.waiting.filter (fun t => t.frame != n),
          books := if p.current.any (fun t => t.frame == n) then [] else p.books })
        (modRink (fun (r : Rink) =>
          { r with waitingFrame := r.waitingFrame.filter (fun w => w != n) }) s)))

/-- A frame is skipped or abandoned: counted, its ring slots released, its Gates disarmed (R24, R130, R461). -/
def skipFrame (n : Nat) (s : State) : State :=
  match setOf s n with
  | some f =>
    if f.skipped then s
    else
      modCounters (fun (c : RinkCounters) => { c with skippedFrames := bump c.skippedFrames })
        (disarmFrame n (releaseSlots f.cameras
          (modSet n (fun (x : FusionSet) => { x with skipped := true }) (dropWork n s))))
  | none => s

/-! ## Gates (R461 to R464) -/

def gate (s : State) (g : Nat) : Gate := vget s.safety.gates g

def modGate (g : Nat) (f : Gate → Gate) (s : State) : State :=
  { s with safety := { s.safety with gates := vmod s.safety.gates g f } }

/-- MIN and MAX of SET_GATE_WINDOWS in µs units. -/
def gateMin (s : State) (g : Nat) : Nat := fld (setting s 0x0D00 g) 16 16 * usUnits
def gateMax (s : State) (g : Nat) : Nat := fld (setting s 0x0D00 g) 32 32 * usUnits

/-- LIDAR_CLOSE_MS and CAMERA_CLOSE_MS in force (R175). -/
def cameraCloseMs (s : State) : Nat := fld s.align.pairing 80 8
def lidarCloseMs (s : State) : Nat := fld s.align.pairing 88 8

/-- The variant that Table 11.13 gives for Drive. -/
def driveVariant (s : State) : Nat :=
  match tilesRetired s with
  | 0 => 0
  | 1 => 1
  | _ => 2

/-- The tile time in µs of the variant in use, outside RUN of the variant that Drive would use; 0 with no plan. -/
def tileTimeNow (s : State) : Nat :=
  match s.plans.variant, s.plans.driveSlot with
  | none, some i =>
    (((vget s.plans.slots i).fits.find? (fun f => f.kind == driveVariant s)).map (fun f => f.tileTimeUs)).getD 0
  | _, _ => tileTime s

/-- T of Table 16.8: the tile time, stretched where slices run, plus the debt paid. -/
def gateT (s : State) : Nat :=
  let t := tileTimeNow s * usUnits
  (if spareless s then t * 100 / 96 else t) + s.safety.debtTime

/-- The clock a Gate counts. -/
def gateClock (s : State) (g : Nat) : Nat := if g = 0 then countNow s else now s

/-- 1 ms on a Gate's clock. -/
def gateMs (g : Nat) : Nat := if g = 0 then 1000 * countsPerUs else msUnits

/-- A Gate is armed for a tick or frame; an extension due lengthens this window (R464). -/
def armGate (g key opens closes : Nat) (s : State) : State :=
  if !inRun s then s
  else modGate g (fun (x : Gate) => { x with
    armed := x.armed ++ [{ key := key, opens := opens, closes := if x.extendNext then closes + gateMs g else closes }],
    extended := x.extended || x.extendNext, extendNext := false }) s

/-- A window leaves its Gate. -/
def closeWindowOf (g key : Nat) (s : State) : State :=
  modGate g (fun (x : Gate) =>
    let left := x.armed.filter (fun w => w.key != key)
    { x with armed := left, extended := x.extended && !left.isEmpty }) s

/-- A miss (R463). -/
def gateMissed (g key : Nat) (s : State) : State :=
  let s1 := report (safetyFault 1 g) 0 4 .uc 0 (modGate g (fun (x : Gate) =>
    { x with misses := bump x.misses, consecutive := x.consecutive + 1 }) (closeWindowOf g key s))
  if 2 ≤ g then skipFrame key s1 else s1

/-- A kick (R463): early or late it is a miss; in its window it ends a retry well (R432). -/
def kickGate (g key : Nat) (s : State) : State :=
  match (gate s g).armed.find? (fun w => w.key == key) with
  | none => s
  | some w =>
    if w.opens ≤ gateClock s g ∧ gateClock s g ≤ w.closes then
      evaluateAgain (safetyFault 1 g) 0 4 false
        (modGate g (fun (x : Gate) => { x with consecutive := 0 }) (closeWindowOf g key s))
    else gateMissed g key s

/-- A Gate's window closes without its kick. -/
def execGateWindowExpiry (gate_ : Nat) (s : State) : Host.Outcome State Fault Refusal :=
  awakeAnswer s fun s =>
    match (gate s gate_).armed.find? (fun w => decide (w.closes < gateClock s gate_)) with
    | some w => if decide (gate_ < 8) && inRun s then gateMissed gate_ w.key s else s
    | none => s

/-- Every Gate is disarmed (R461). -/
def disarmAll (s : State) : State :=
  modSafety (fun (x : Safety) => { x with
    gates := (List.range 8).foldl (fun (v : Vector Gate 8) i =>
      vmod v i (fun (g : Gate) => { g with armed := [], extended := false })) x.gates }) s

/-- Gate 6's window from an image-phase start (Table 16.8). -/
def gate6Window (s : State) : Nat × Nat :=
  let b := setting s 0x0D00 6
  let t := gateT s
  (t * fld b 16 16 / 1024, min (t * 3 / 2) (t * fld b 32 16 / 1024 + fld b 48 16 * usUnits))

/-- Whether a command's windows fit Table 16.8 (R462): the offset of the first bad field. -/
def gateBad (s : State) (b : Bytes) : Option Nat :=
  let g := fld b 0 8
  let lo := fld b 16 16
  let hi := fld b 32 32
  let between (a c : Nat) : Bool := decide (a ≤ hi) && decide (hi ≤ c)
  let ok := match g with
    | 1 => between 200 1000
    | 2 => between 200 5000
    | 3 => between 100 5000
    | 4 => between 5000 30000
    | 5 => between 1500 10000
    | _ => true
  if g = 6 then
    let frac := fld b 32 16
    let add := fld b 48 16
    let t := gateT s
    if t ≠ 0 ∧ lo * t ≥ min (t * 3 / 2 * 1024) (t * frac + add * usUnits * 1024) then some 2
    else if frac < 1035 ∨ 1536 < frac then some 4
    else if add < 100 ∨ 10000 < add then some 6
    else none
  else if lo ≥ hi + (if g = 3 then lidarCloseMs s * 1000 else 0) then some 2
  else if !ok then some 4
  else none

def execSetGateWindows (k : CmdKey) (s : State) : Host.Outcome State Fault Refusal :=
  runCommand k 0x0D00 (fun c s => done c (putSetting 0x0D00 (fld c.params 0 8) c.params s)) s

end Sys2Proof.Machine
end

