-- ==== Sys2Proof/Machine/Alignment.lean ====
section
/-! DEFINITION. Alignment: fusion instants and sets, deskew and row poses, rebase and scroll, the voting rule, and the
commands of the subsystem (R171 to R184, R190, R192, R194, R196). -/

namespace Sys2Proof.Machine

/-! ## Lengths on the ground (Table 8.2, R231) -/

/-- The cell size in cm, by its code. -/
def cellCm : Nat → Nat
  | 0 => 10
  | 1 => 15
  | 2 => 20
  | 3 => 25
  | 4 => 40
  | _ => 50

/-- The patch length L in cm. -/
def patchCm (s : State) : Nat := 64 * cellCm s.rink.cellCode

/-- A length in metres in units of `cm` hundredths of a metre: its floor. -/
def unitsOf (x : Dy) (cm : Nat) : Int := ((x.mul (Dy.ofInt 100)).div (Dy.ofInt cm)).floor

/-- The patch-grid index nearest to a coordinate. -/
def nearestPatch (s : State) (x : Dy) : Int :=
  (((x.mul (Dy.ofInt 200)).add (Dy.ofInt (patchCm s))).div (Dy.ofInt (2 * patchCm s))).floor

/-- A coordinate is beyond a number of patches from a patch-grid index: x − C × L > n × L. -/
def beyondPatches (s : State) (x : Dy) (c n : Int) : Bool :=
  (Dy.ofInt ((c + n) * patchCm s)).lt (x.mul (Dy.ofInt 100))

/-- A coordinate moved by whole patches, rounded once. -/
def shiftPatches (s : State) (code : Nat) (patches : Int) : Nat :=
  to32 ((f32 code).add (Dy.ratio (patches * patchCm s) 100))

/-! ## Fusion instants (R173, R174) -/

/-- The next fusion instant after a tick instant. -/
def nextFusion (s : State) (t : Dts) : Option Dts :=
  ((List.range 1101).map (fun k => (t / msUnits + k + 1) * msUnits)).find? (fun u =>
    u % (tickPeriodMs s * msUnits) == 0 && isFusionInstant s u)

/-- D for the next frame of a camera: the exposure of its latest frame, else EXPOSURE_NS. -/
def latestExposure (s : State) (r : Nat) : Nat :=
  let latest := (receiver s r).slots.toList.foldl (fun (b : Option (Nat × Nat)) sl => match sl.frame, b with
    | some f, some (a, _) => if a < sl.age then some (sl.age, f.exposure) else b
    | some f, none => some (sl.age, f.exposure)
    | none, _ => b) none
  match latest with
  | some (_, d) => d
  | none => exposureOf (csiBlock s r) none

/-- The frame-sync instant of a triggered camera for a fusion instant (R174). -/
def syncInstant (s : State) (r : Nat) (f : Dts) : Dts :=
  let b := csiBlock s r
  f - fld b 224 32 * nsUnits - psUnits ((csiHeight b - 1) * fld b 160 32) / 2 - latestExposure s r / 2

/-- The output that serves a triggered camera (R92). -/
def syncOutput (s : State) (r : Nat) : Option Nat :=
  (List.range 8).find? (fun o =>
    let b := (vget s.time.tsOut o).block
    b != [] && outRole b == 1 && fld b 240 8 == r)

/-- The frame-sync pulses for a fusion instant are programmed. -/
def programSyncs (f : Dts) (s : State) : State :=
  (List.range 8).foldl (fun (t : State) r =>
    if sourceActive t r && csiTriggered (csiBlock t r) then
      match syncOutput t r with
      | some o => setTime (fun (tb : TimeBase) => { tb with tsOut := vmod tb.tsOut o (fun (x : TsOut) =>
          if x.lastIssued.any (fun l => decide (syncInstant t r f ≤ l)) then x
          else { x with next := some (syncInstant t r f) }) }) t
      | none => t
    else t) s

/-- The first fusion instant whose pulses all lie at least 1 ms after an instant, and which lies after it (R173). -/
def firstFusion (s : State) (after : Dts) : Option Dts :=
  let cams := (List.range 8).filter (fun r => sourceActive s r && csiTriggered (csiBlock s r))
  ((List.range 2300).map (fun k => (after / msUnits + k + 1) * msUnits)).find? (fun u =>
    u % (tickPeriodMs s * msUnits) == 0 && isFusionInstant s u &&
      cams.all (fun r => decide (after + msUnits ≤ syncInstant s r u)))

/-- What the IMUs alone state over the interval that ends at a fusion instant, and their integrations are reset to the fused
state (R162, R185). -/
def closeMotions (t : Dts) (s : State) : State :=
  if isWorker s then s
  else
    let a := s.align
    let start := (a.sets.reverse.drop 1).head?.map (·.instant)
    let gap (u : Dts) (n : Nav) : Int := (u : Int) - n.at_.getD u
    let motions := (List.range 4).map (fun i =>
      Config.imuMotion a.aloneFrom.numbers (gap (start.getD t) a.aloneFrom) (vget a.alone i).numbers (gap t (vget a.alone i)))
    modAlign (fun (a : Align) => { a with
      aloneFrom := a.fused, alone := Vector.replicate 4 a.fused,
      sets := a.sets.map (fun f => if f.instant = t then { f with motions := motions } else f) }) s

/-- A fusion instant starts a frame number; the pulses of the next one are programmed, and SET_PAIRING's fields take
effect (R173 to R175). -/
def fusionInstant (t : Dts) (s : State) : State :=
  let a := s.align
  let n := a.nextFrame
  let fresh : FusionSet :=
    { (default : FusionSet) with
      frame := n, instant := t, centreX := a.centreX, centreY := a.centreY, rebaseX := a.rebaseX, rebaseY := a.rebaseY }
  let s1 := modAlign (fun (a : Align) =>
    { a with
      pairing := setting s 0x0501 0, nextFrame := (n + 1) % 2 ^ 32, lastFusion := t,
      sets := (a.sets ++ [fresh]).drop (a.sets.length + 1 - 16) }) s
  let s1 := closeMotions t s1
  let s2 := armGate 3 n (t + gateMin s1 3) (t + lidarCloseMs s1 * msUnits + gateMax s1 3)
    (armGate 2 n (t + gateMin s1 2) (t + gateMax s1 2) s1)
  match nextFusion s2 t with
  | some f => programSyncs f s2
  | none => s2

/-! ## Rebase, scroll and recentre (R182 to R184) -/

/-- A pose entry moved by whole patches. -/
def shiftPose (s : State) (mx my : Int) (e : PoseEntry) : PoseEntry :=
  { e with posX := shiftPatches s e.posX mx, posY := shiftPatches s e.posY my }

/-- An integration of the motion unit moved by whole patches. -/
def shiftNav (s : State) (mx my : Int) (n : Nav) : Nav :=
  { n with numbers := n.numbers.zipIdx.map (fun p =>
      if p.2 = 0 then shiftPatches s p.1 mx else if p.2 = 1 then shiftPatches s p.1 my else p.1) }

/-- REBASE_EN of SET_ANCHOR. -/
def rebaseEnabled (s : State) : Bool := bitAt (setting s 0x0504 0) 9

/-- The anchor origin moves to the patch-grid point nearest the vehicle (R183): poses at once; tracks, zones and the
route table at the frame boundary (R235, R378). -/
def rebaseAt (p : PoseEntry) (s : State) : State :=
  let x := f32 p.posX
  let y := f32 p.posY
  if rebaseEnabled s && (Dy.ofInt (2048 * 2048)).lt ((x.mul x).add (y.mul y)) then
    let mx := nearestPatch s x
    let my := nearestPatch s y
    modAlign (fun (a : Align) => { a with
      history := a.history.map (shiftPose s (-mx) (-my)), fused := shiftNav s (-mx) (-my) a.fused,
      alone := a.alone.map (shiftNav s (-mx) (-my)), aloneFrom := shiftNav s (-mx) (-my) a.aloneFrom, anchorSeq := (a.anchorSeq + 1) % 65536,
      rebaseX := a.rebaseX + mx, rebaseY := a.rebaseY + my,
      centreX := a.centreX - mx, centreY := a.centreY - my }) s
  else s

/-- The scroll of one axis: +1, −1 or none. -/
def scrollOf (s : State) (x : Dy) (c : Int) : Int :=
  if beyondPatches s x c 1 then 1
  else if beyondPatches s x.neg (-c) 1 then -1 else 0

/-- The vehicle lies more than 2 L from C on an axis. -/
def farFrom (s : State) (x : Dy) (c : Int) : Bool := beyondPatches s x c 2 || beyondPatches s x.neg (-c) 2

/-- The scroll or the recentre that a frame orders (R184). -/
def orderScroll (n : Nat) (p : PoseEntry) (s : State) : State :=
  let x := f32 p.posX
  let y := f32 p.posY
  let dx := scrollOf s x s.align.centreX
  let dy := scrollOf s y s.align.centreY
  let cx := s.align.centreX + dx
  let cy := s.align.centreY + dy
  let far := farFrom s x cx || farFrom s y cy
  let s1 := modAlign (fun (a : Align) =>
    if far then { a with centreX := nearestPatch s x, centreY := nearestPatch s y, recentres := bump a.recentres,
                         recentreDue := a.recentreDue ++ [n] }
    else { a with centreX := cx, centreY := cy }) s
  let a := s1.align
  let s2 := modSet n (fun (f : FusionSet) => { f with
    recentred := far, centreX := a.centreX, centreY := a.centreY,
    rebaseX := a.rebaseX, rebaseY := a.rebaseY }) s1
  if far then report (alignFault 27) 0 4 .ce 0 s2 else s2

/-- The pose at a frame's fusion instant, once it is available: rebase, scroll and Gate 2's kick. A worker's Rink follows its
manager (R486). -/
def poseAtFusion (f : FusionSet) (s : State) : State :=
  match poseAt s f.instant with
  | none => s
  | some p =>
    let s1 := if isWorker s then s else rebaseAt p s
    let q := (poseAt s1 f.instant).getD p
    let s2 := if isWorker s then s1 else orderScroll f.frame q s1
    kickGate 2 f.frame
      (modSet f.frame (fun (x : FusionSet) => { x with poseReady := true, originZ := q.posZ }) s2)

/-- The pose at F becomes available, for the oldest frame that has none and for which the history gives one. -/
def execPoseAtFusionInstant (s : State) : Host.Outcome State Fault Refusal :=
  awakeAnswer s fun s =>
    match s.align.sets.find? (fun f =>
        !f.poseReady && !f.skipped && decide (f.instant ≤ now s) && (poseAt s f.instant).isSome) with
    | none => s
    | some f => poseAtFusion f s

/-! ## Candidates of a set (R171, R172, R177, R178) -/

/-- The mid-points of a frame's row bands (R172), in the source's time. -/
def bandTimes (b : Bytes) (f : CamFrame) : List Dts :=
  if f.lineTimePs = 0 then [f.mid]
  else (List.range ((csiHeight b + 63) / 64)).map (fun k =>
    let first := 64 * k
    let rows := min 64 (csiHeight b - first)
    f.e0 + psUnits ((2 * first + rows - 1) * f.lineTimePs) / 2 + f.exposure / 2)

/-- The mid-point of the band that holds an image row. -/
def bandTimeOf (b : Bytes) (f : CamFrame) (row : Nat) : Dts := (bandTimes b f).getD (row / 64) f.mid

/-- An instant of a source's own time on device time. -/
def mapped (s : State) (i : Nat) (t : Dts) : Dts := (mapStamp (source s i) t).toNat

/-- Every row pose of a frame is available. -/
def rowPosesGood (s : State) (r : Nat) (f : CamFrame) : Bool :=
  (bandTimes (csiBlock s r) f).all (fun t => (poseAt s (mapped s r t)).isSome)

/-- A unit of a source: its mapped and arrival instants, whether it is damaged, and its place. -/
structure SetUnit where
  place : Nat
  mu : Interval
  alpha : Interval
  damaged : Bool
deriving DecidableEq, Repr, Inhabited

/-- The units of a source that may enter a set: a camera's frames in its ring that no set has admitted, a lidar's sweep
in hand. -/
def unitsOfSource (s : State) (i : Nat) : List SetUnit :=
  if i < 8 then
    (List.range 3).filterMap (fun n =>
      let sl := vget (receiver s i).slots n
      match sl.frame with
      | some f => if sl.held || sl.admitted then none
          else
            let mu := mapStamp (source s i) f.mid
            some { place := n, mu := mu, alpha := arrivalInstant s i mu f.lag, damaged := f.damaged }
      | none => none)
  else
    let l := lidar s (i - 8)
    match l.inUse with
    | some img => if l.admitted then [] else match img.base, img.last with
      | some a, some c =>
        let mu := (mapStamp (source s i) a + mapStamp (source s i) c) / 2
        [{ place := 0, mu := mu, alpha := arrivalInstant s i mu img.lag, damaged := false }]
      | _, _ => []
    | none => []

/-- The whole unit with the smallest |μ − f|, the earlier on a tie (R179). -/
def nearestUnit (f : Dts) (l : List SetUnit) : Option SetUnit :=
  l.foldl (fun (b : Option SetUnit) u =>
    if u.damaged then b
    else match b with
      | some v => if mag (u.mu - f) < mag (v.mu - f) ∨ (mag (u.mu - f) = mag (v.mu - f) ∧ u.mu < v.mu) then some u else b
      | none => some u) none

/-- A source is due in the set that closes next (R178). -/
def dueIn (s : State) (i : Nat) : Bool :=
  sourceActive s i && (source s i).state == .valid &&
    (decide (i < 8) ||
      (let hz := fld (setting s 0x0404 (i - 8)) 216 8
       let rate := max 1 (effectiveRate s)
       decide (rate ≤ hz) || decide ((rate + hz - 1) / max 1 hz - 1 ≤ (sourceTrust s i).sinceAdmitted)))

/-- The sources of a part: cameras or lidars. -/
def partSources (cameras : Bool) : List Nat := (List.range 8).map (fun i => if cameras then i else i + 8)

/-- Every due source of a part has a whole in-window unit. -/
def partReady (s : State) (f : Dts) (cameras : Bool) : Bool :=
  (partSources cameras).all (fun i => !dueIn s i || (unitsOfSource s i).any (fun u => !u.damaged && inWindow s f u.mu u.alpha))

/-- A unit is admitted to a set: a camera frame whose row poses are all available, a sweep. -/
def admitUnit (n i : Nat) (u : SetUnit) (s : State) : State :=
  if i < 8 then
    match (vget (receiver s i).slots u.place).frame with
    | some f =>
      if rowPosesGood s i f then
        modSet n (fun (x : FusionSet) => { x with cameras := x.cameras ++ [(i, u.place)] })
          (modReceiver i (fun (x : Receiver) =>
            { x with slots := vmod x.slots u.place (fun (sl : RingSlot) => { sl with held := true, admitted := true }) }) s)
      else modTrust i (fun (t : SourceTrust) => { t with deskewRefused := bump t.deskewRefused }) s
    | none => s
  else
    modSet n (fun (x : FusionSet) => { x with lidars := x.lidars ++ [i - 8] })
      (modLidar (i - 8) (fun (x : Lidar) => { x with
        admitted := true, inUse := x.inUse.map (fun w => { w with mu := some u.mu, frame := some n }) }) s)

/-- One source at the close of its part (R179, R180). -/
def judgeSource (n : Nat) (f : Dts) (s : State) (i : Nat) : State :=
  if !dueIn s i then
    modTrust i (fun (t : SourceTrust) => { t with sinceAdmitted := satAdd 16 t.sinceAdmitted 1 }) s
  else
    let units := unitsOfSource s i
    let u := nearestUnit f units
    let used := (sourceTrust s i).trust == .trusted || (sourceTrust s i).trust == .suspect
    let hit := u.any (fun u => inWindow s f u.mu u.alpha)
    let inside := units.filter (fun v => inWindow s f v.mu v.alpha)
    let s1 :=
      if hit then
        let s2 := modTrust i (fun (t : SourceTrust) => { t with missRun := 0, inRun := min 255 (t.inRun + 1) }) s
        match u with
        | some v => if used then admitUnit n i v s2 else s2
        | none => s2
      else if !inside.isEmpty && inside.all (·.damaged) then s
      else modTrust i (fun (t : SourceTrust) => { t with
        outOfWindow := if u.isSome then bump t.outOfWindow else t.outOfWindow, misses := bump t.misses,
        missRun := t.missRun + 1, inRun := 0 }) s
    checkTimeTrust i (modTrust i (fun (t : SourceTrust) =>
      { t with sinceAdmitted := if hit && used then 0 else satAdd 16 t.sinceAdmitted 1 }) s1)

/-! ## The two parts are closed (R24, R181) -/

/-- A later frame waits for the tile array or has been handed to it. -/
def newerTaken (s : State) (n : Nat) : Bool :=
  ((s.align.sets.dropWhile (fun f => f.frame != n)).drop 1).any (fun f =>
    f.handed || s.rink.waitingFrame == some f.frame)

/-- Both parts are closed: the frame goes to the tile array, waits for it, or is skipped. -/
def completeSet (n : Nat) (s : State) : State :=
  match setOf s n with
  | none => s
  | some f =>
    if !f.cameraClosed || !f.lidarClosed || f.skipped then s
    else if f.cameras.isEmpty && f.lidars.isEmpty then
      let run := s.align.emptyRun + 1
      let s1 := skipFrame n (modAlign (fun (a : Align) => { a with emptyRun := run }) s)
      if run = 3 then report (alignFault 27) 0 4 .uc 0 s1
      else if 3 < run then evaluateAgain (alignFault 27) 0 4 true s1 else s1
    else
      let s1 := modAlign (fun (a : Align) => { a with emptyRun := 0 }) s
      let s2 := if 3 ≤ s.align.emptyRun then evaluateAgain (alignFault 27) 0 4 false s1 else s1
      if f.handed then s2
      else if newerTaken s2 n then skipFrame n s2
      else
        let s3 := match s2.rink.waitingFrame with
          | some w => if w = n then s2 else skipFrame w s2
          | none => s2
        modRink (fun (r : Rink) => { r with waitingFrame := some n }) s3

/-- A part of a set closes: when every due source has a whole in-window unit, and CLOSE_MS after F at the latest (R179).
Where CLOSE_MS exceeds the frame period, a later set may close before an earlier one. -/
def closesNow (s : State) (cameras : Bool) (f : FusionSet) : Bool :=
  !(if cameras then f.cameraClosed else f.lidarClosed) && !f.skipped && decide (f.instant ≤ now s) &&
    (partReady s f.instant cameras ||
      decide (f.instant + (if cameras then cameraCloseMs s else lidarCloseMs s) * msUnits ≤ now s))

/-- The camera part of the oldest set whose camera part closes now. -/
def execCameraPartClose (s : State) : Host.Outcome State Fault Refusal :=
  awakeAnswer s fun s =>
    match s.align.sets.find? (closesNow s true) with
    | none => s
    | some f =>
      if !inRun s then s
      else
        let s1 := (partSources true).foldl (judgeSource f.frame f.instant) s
        completeSet f.frame (modSet f.frame (fun (x : FusionSet) => { x with cameraClosed := true }) s1)

/-! ## Deskew (R171, R201) -/

/-- A point of a lidar in the anchor frame: Pose(tp) × (Rot × p + TRANSLATION), rounded once. -/
def anchorPoint (calib : Bytes) (p : PoseEntry) (x y z : Nat) : Nat × Nat × Nat :=
  let q := calibQ calib
  let r := rotateRaw q.1 q.2.1 q.2.2.1 q.2.2.2 (f32 x, f32 y, f32 z)
  let t := calibT calib
  let v : Dy3 := (r.1.1.add (t.1.mul r.2), r.1.2.1.add (t.2.1.mul r.2), r.1.2.2.add (t.2.2.mul r.2))
  let w := rotateRaw (f32 p.qW) (f32 p.qX) (f32 p.qY) (f32 p.qZ) v
  let n := r.2.mul w.2
  let out (c : Dy) (o : Nat) : Nat := to32 ((c.add ((f32 o).mul n)).div n)
  (out w.1.1 p.posX, out w.1.2.1 p.posY, out w.1.2.2 p.posZ)

/-- The deskewed points of an admitted sweep, entries with DESKEWED set, and how many were refused. A point's time is BASE_TIME
and its TIME_OFFSET (Table 7.1). -/
def deskewSweep (s : State) (l : Nat) : List DeskPoint × Nat :=
  match (lidar s l).inUse with
  | none => ([], 0)
  | some img =>
    let calib := setting s 0x0500 (l + 8)
    let mu := (img.mu.getD 0).toNat
    img.entries.foldl (fun (a : List DeskPoint × Nat) p =>
      let t := mapped s (l + 8) (img.base.getD 0 + p.timeOffset * 512 * nsUnits)
      match poseAt s t with
      | some e =>
        let w := anchorPoint calib e p.x p.y p.z
        (a.1 ++ [{ lidar := l, scanIndex := p.scanIndex, time := t, near := p.near, intensity := p.intensity,
                   x := w.1, y := w.2.1, z := w.2.2, mu := mu }], a.2)
      | none => (a.1, a.2 + 1)) ([], 0)

/-- Frame order (R199). -/
def pointBefore (a b : DeskPoint) : Bool :=
  decide (a.time < b.time) || (a.time == b.time &&
    (decide (a.lidar < b.lidar) || (a.lidar == b.lidar && decide (a.scanIndex ≤ b.scanIndex))))

/-- The sweeps of a set are deskewed and handed to the point engines as the frame's take; a take still waiting is
abandoned (R171, R208, R217, R227). Where the pose at F is refused, its z is a free value (assumption 124). -/
def handTake (f : FusionSet) (s : State) : State :=
  let r := f.lidars.foldl (fun (a : State × List DeskPoint) l =>
    let d := deskewSweep a.1 l
    (modLidar l (fun (x : Lidar) => { x with inUse := x.inUse.map (fun w => { w with handed := true }) })
      (modPoint (fun (p : PointState) => { p with
          lidars := vmod p.lidars l (fun c => { c with seen := satAdd 32 c.seen d.1.length }) })
        (modTrust (l + 8) (fun (t : SourceTrust) => { t with deskewRefused := satAdd 32 t.deskewRefused d.2 }) a.1)),
     a.2 ++ d.1)) (s, [])
  let s1 := if f.poseReady then r.1 else spent r.1
  let take : Take :=
    { frame := f.frame, instant := f.instant, points := r.2.sortBy pointBefore, lidarClose := now s, begun := false,
      complete := false, truncated := [], noLidar := f.lidars.isEmpty, dropped := false,
      originZ := if f.poseReady then f.originZ else freeNat 32 r.1,
      centreX := f.centreX, centreY := f.centreY, reduced := s1.rink.reduced }
  modPoint (fun (p : PointState) => { p with
    takeSkipped := satAdd 32 p.takeSkipped (p.waiting.filter (fun t => !t.dropped)).length,
    waiting := p.waiting.map (fun t => { t with points := [], noLidar := true, dropped := true }) ++ [take] }) s1

/-- Up to 8,192 points picked evenly (R185). -/
def pickEvenly (l : List DeskPoint) : List DeskPoint :=
  if l.length ≤ 8192 then l
  else
    let a := l.toArray
    (List.range 8192).filterMap (fun i => a[i * l.length / 8192]?)

/-- The deskewed points of a frame's take. -/
def pointsOf (s : State) (n : Nat) : List DeskPoint :=
  ((s.point.current.toList ++ s.point.waiting).filter (fun t => t.frame == n)).flatMap (fun t => t.points)

/-- The lidar part of the oldest set whose lidar part closes now (R179): the take of the frame follows, with the pose at F, and the scan match where this frame and the one before
both admitted a sweep (R185, R186). -/
def execLidarPartClose (s : State) : Host.Outcome State Fault Refusal :=
  awakeAnswer s fun s =>
    match s.align.sets.find? (closesNow s false) with
    | none => s
    | some f =>
      if !inRun s then s
      else
        let s0 := if f.poseReady then s else poseAtFusion f s
        let s1 := (partSources false).foldl (judgeSource f.frame f.instant) s0
        let s2 := modSet f.frame (fun (x : FusionSet) => { x with lidarClosed := true }) s1
        let s3 := kickGate 3 f.frame s2
        match setOf s3 f.frame with
        | none => s3
        | some g =>
          if g.skipped then s3
          else
            let s4 := armGate 4 g.frame (now s + gateMin s 4) (now s + gateMax s 4) (handTake g s3)
            let before := s4.align.sets.any (fun x => x.frame + 1 == g.frame && !x.lidars.isEmpty)
            let s5 := if !g.lidars.isEmpty && before then
                let m : ScanMatch :=
                  { frame := g.frame, instant := g.instant, iterations := 0, converged := false,
                    points := pickEvenly (pointsOf s4 g.frame), matched := 0, outs := [], jobRunning := false }
                modAlign (fun (a : Align) => { a with scan := some m }) s4
              else s4
            completeSet g.frame s5

/-! ## The voting rule (R190) -/

/-- The largest sets of present voters that agree pairwise: every set, then those that no other contains. -/
def agreeSets (agree : Nat → Nat → Bool) : List Nat → List (List Nat)
  | [] => [[]]
  | v :: vs =>
    let rest := agreeSets agree vs
    rest ++ (rest.filter (fun g => g.all (agree v))).map (fun g => v :: g)

def maximalSets (l : List (List Nat)) : List (List Nat) :=
  l.filter (fun g => !l.any (fun h => decide (g.length < h.length) && g.all (fun x => h.contains x)))

/-- The outcome of a vote: the verdict and, with MAJORITY, the outliers. -/
def vote (agree : Nat → Nat → Bool) (present : List Nat) : Verdict × List Nat :=
  if present.length < 2 then (.noVerdict, [])
  else
    let groups := (maximalSets (agreeSets agree present)).filter (fun g => decide (present.length < 2 * g.length))
    match groups with
    | [] => (.contested, [])
    | [g] => (.majority, present.filter (fun v => !g.contains v))
    | _ => (.ambiguous, [])

/-- VOTE_FRAMES, SHADOW_RETURN, OUTLIER_SHARE, CONTEST_CLEAR and EXIST_CAP (Table 6.9). -/
def voteFrames (s : State) : Nat := fld (setting s 0x0503 0) 224 8
def shadowReturn (s : State) : Nat := fld (setting s 0x0503 0) 232 8
def outlierShare (s : State) : Nat := fld (setting s 0x0503 0) 216 8
def contestClear (s : State) : Nat := fld (setting s 0x0503 0) 240 8
def existCap (s : State) : Nat := fld (setting s 0x0503 0) 248 8

/-- A source's trust after a frame's votes (R192), reported as `src`: `outlier` when it was one, `agreed` when it voted
and was none. -/
def judgeTrustAs (src i : Nat) (outlier agreed : Bool) (s : State) : State :=
  let k := sourceTrust s i
  match k.trust with
  | .trusted | .suspect =>
    if outlier then
      let run := k.disagreeRun + 1
      if voteFrames s ≤ run then
        report src 0 4 .uc 0 (modTrust i (fun (t : SourceTrust) =>
          { t with trust := .excluded, disagreeRun := run, shadowRun := 0, voteOuts := satAdd 16 t.voteOuts 1 }) s)
      else modTrust i (fun (t : SourceTrust) => { t with trust := .suspect, disagreeRun := run }) s
    else modTrust i (fun (t : SourceTrust) => { t with trust := .trusted, disagreeRun := 0 }) s
  | .excluded =>
    if outlier then evaluateAgain src 0 4 true (modTrust i (fun (t : SourceTrust) => { t with shadowRun := 0 }) s)
    else if agreed then
      if shadowReturn s ≤ k.shadowRun + 1 then
        modTrust i (fun (t : SourceTrust) => { t with trust := .trusted, disagreeRun := 0, shadowRun := 0 })
          (evaluateAgain src 0 4 false s)
      else modTrust i (fun (t : SourceTrust) => { t with shadowRun := t.shadowRun + 1 }) s
    else s
  | _ => s

/-- A source's trust after a frame's cross-checks. -/
def judgeTrust (i : Nat) (outlier agreed : Bool) (s : State) : State := judgeTrustAs (alignFault i) i outlier agreed s

/-- A patch or track enters CONTESTED, or its run without contest restarts or ends (R191). -/
def contestStep (clear id : Nat) (contested : Bool) (l : List Contest) : List Contest :=
  if contested then
    (if l.any (fun c => c.id == id) then l.map (fun c => if c.id == id then { c with clearFrames := 0 } else c)
     else l ++ [{ id := id, clearFrames := 0 }])
  else (l.map (fun c => if c.id == id then { c with clearFrames := c.clearFrames + 1 } else c)).filter
    (fun c => decide (c.clearFrames < clear))

/-! ## Commands -/

/-- SET_PAIRING: in force from the first fusion instant after the reply; outside RUN at once (R175). -/
def execSetPairing (k : CmdKey) (s : State) : Host.Outcome State Fault Refusal :=
  runCommand k 0x0501 (fun c s =>
    let s1 := putSetting 0x0501 0 c.params s
    done c (if inRun s then s1 else modAlign (fun (a : Align) => { a with pairing := c.params }) s1)) s

def execSetVoterThresholds (k : CmdKey) (s : State) : Host.Outcome State Fault Refusal :=
  runCommand k 0x0503 (fun c s => done c (putSetting 0x0503 0 c.params s)) s

/-- SET_ANCHOR (R182). -/
def execSetAnchor (k : CmdKey) (s : State) : Host.Outcome State Fault Refusal :=
  runCommand k 0x0504 (fun c s => done c (putSetting 0x0504 0 c.params s)) s

def Trust.code : Trust → Nat
  | .trusted => 0
  | .suspect => 1
  | .excluded => 2
  | .timeUntrusted => 3
  | .notInUse => 4
  | .abstaining => 5

/-- The trust a source shows (Table 6.13): NOT_IN_USE while it is unconfigured, or its clock model ABSENT or STARTING. -/
def shownTrust (s : State) (i : Nat) : Nat :=
  if sourceConfigured s i && (source s i).state == .valid then (sourceTrust s i).trust.code else 4

/-- The trust a voter shows: 0 IMU, 1 wheels, 2 lidar. -/
def shownVoter (s : State) (v : Nat) : Nat :=
  let x := vget s.align.voters v
  let unused := match v with
    | 0 => !(List.range 4).any (fun i => sourceConfigured s (16 + i))
    | 1 => !(List.range 6).any (fun i => sourceConfigured s (20 + i))
    | _ => !(List.range 8).any (fun i => sourceConfigured s (8 + i))
  if unused || !x.voted then 4
  else if x.trust == .excluded then 2
  else if x.abstained then 5 else x.trust.code

def Verdict.code : Verdict → Nat
  | .majority => 0
  | .contested => 1
  | .ambiguous => 2
  | .noVerdict => 3

/-- The source number of the primary IMU, 0xFF for none. -/
def primaryShown (s : State) : Nat :=
  match s.align.primary with
  | some i => srcNum (16 + i)
  | none => 0xFF

/-- ANCHOR_ID of SET_ANCHOR. -/
def anchorId (s : State) : Nat :=
  match isWorker s, s.peers.orders.getLast? with
  | true, some o => o.anchorId
  | _, _ => fld (setting s 0x0504 0) 32 32

/-- The block of Table 6.11. -/
def voterBlock (s : State) : Bytes :=
  let a := s.align
  pack 32 [(32, 32, anchorId s), (64, 16, a.anchorSeq), (88, 8, shownVoter s 0), (96, 8, shownVoter s 1),
    (104, 8, shownVoter s 2), (112, 8, a.verdict.code), (120, 8, primaryShown s),
    (128, 4, maskOf 4 (fun w => (vget a.wheels w).slipping)), (136, 8, a.contestedPatches.length),
    (160, 32, a.recentres), (192, 32, a.ambiguous), (224, 32, a.lastVoteFrame)]

/-- An entry of Table 6.12. -/
def trustEntry (s : State) (i : Nat) : Bytes :=
  let k := sourceTrust s i
  pack 24 [(0, 8, srcNum i), (8, 8, shownTrust s i), (16, 8, min 255 k.disagreeRun), (24, 8, min 255 k.missRun),
    (32, 8, min 255 k.inRun), (40, 8, min 255 k.recoveries), (48, 16, k.voteOuts), (64, 32, k.misses),
    (96, 32, k.outOfWindow), (128, 32, k.late), (160, 32, k.deskewRefused)]

/-- GET_VOTER_STATUS's result (R196). -/
def voterStatusBlock (s : State) : Bytes := voterBlock s ++ (List.range 26).flatMap (trustEntry s)

def execGetVoterStatus (k : CmdKey) (s : State) : Host.Outcome State Fault Refusal :=
  runCommand k 0x0506 (fun c s => doneWith c (voterStatusBlock s) s) s

/-- Refusals of the state for the alignment commands (R175, R194, R486). -/
def startAlignment (s : State) (op : Nat) (b : Bytes) : Option Refuse :=
  match op with
  | 0x0501 =>
    let old := setting s 0x0501 0
    let rate := if inSentry s then fld b 32 8 else fld b 24 8
    if inRun s && (fld b 24 8 != fld old 24 8 || fld b 32 8 != fld old 32 8) then some (stState, stateWord s % 65536)
    else if 2 * fld b 48 32 * rate > 1000000 then some (stBadParam, 6) else none
  | 0x0503 => if 1000 ≤ fld b 184 8 * configuredRate s then some (stBadParam, 23) else none
  | 0x0504 => if isWorker s then some (stState, stateWord s % 65536) else none
  | _ => none

end Sys2Proof.Machine
end

