-- ==== Sys2Proof/Machine/Ground.lean ====
section
/-! DEFINITION. Ground and plan: global patches, slots and extents (R231, R232, R340), and the reading of a plan image's
sections and records (R319 to R326). -/

namespace Sys2Proof.Machine

/-! ## Global patches, slots, extents -/

/-- The slot index PATCH_X + 8 × PATCH_Y of a global patch (R231). -/
def slotIndex (gpx gpy : Int) : Nat := (gpx % 8).toNat + 8 * (gpy % 6).toNat

/-- A global patch lies in the extent about a centre (R232). -/
def inExtent (cx cy : Int) (reduced : Bool) (side : Nat) (gpx gpy : Int) : Bool :=
  decide (cx - 4 ≤ gpx) && decide (gpx ≤ cx + 3) &&
    (if !reduced then decide (cy - 3 ≤ gpy) && decide (gpy ≤ cy + 2)
     else if side = 0 then decide (cy - 3 ≤ gpy) && decide (gpy ≤ cy + 1)
     else decide (cy - 2 ≤ gpy) && decide (gpy ≤ cy + 2))

/-- The global patch of the full extent that has a slot. -/
def patchOfSlot (cx cy : Int) (slot : Nat) : Int × Int :=
  let x0 := cx - 4
  let y0 := cy - 3
  (x0 + ((slot % 8 : Nat) - x0) % 8, y0 + ((slot / 8 : Nat) - y0) % 6)

/-- REDUCED_SIDE (Table 8.1). -/
def reducedSide (s : State) : Nat := fld (setting s 0x0700 0) 8 1

/-- A slot's global patch lies in the extent in force. -/
def slotInExtent (s : State) (slot : Nat) : Bool :=
  let g := patchOfSlot s.rink.centreX s.rink.centreY slot
  decide (slot < 48) && inExtent s.rink.centreX s.rink.centreY s.rink.reduced (reducedSide s) g.1 g.2

/-- The tile that owns a slot. -/
def ownerOf (s : State) (slot : Nat) : Option Nat :=
  (List.range 49).find? (fun t => let x := vget s.rink.tiles t; x.slot == some slot && x.role == .service)

/-- The slots in the extent and served: in Sentry those of its four patches. -/
def serviceSlots (s : State) : List Nat :=
  match s.rink.sentrySlots with
  | some l => (List.range 48).filter (fun n => l.contains n)
  | none => (List.range 48).filter (slotInExtent s)

/-- A slot is served: its tile held it at the latest frame boundary (Table 10.7). -/
def slotServed (s : State) (slot : Nat) : Bool := (vget s.rink.slots slot).served

/-- The eight neighbours of a global patch, in the order of DIR (Table 7.8). -/
def neighbourDirs : List (Int × Int) := [(-1, -1), (0, -1), (1, -1), (-1, 0), (1, 0), (-1, 1), (0, 1), (1, 1)]

/-- The neighbour slot in a direction, if its patch is in the extent and served (R246, R340). -/
def neighbourSlot (s : State) (slot dir : Nat) : Option Nat :=
  let g := patchOfSlot s.rink.centreX s.rink.centreY slot
  let d := neighbourDirs.getD dir (0, 0)
  let n := slotIndex (g.1 + d.1) (g.2 + d.2)
  if inExtent s.rink.centreX s.rink.centreY s.rink.reduced (reducedSide s) (g.1 + d.1) (g.2 + d.2) &&
      (serviceSlots s).contains n then some n else none

/-- The global patch of a position (R231). -/
def patchAt (s : State) (x y : Dy) : Int × Int := (unitsOf x (patchCm s), unitsOf y (patchCm s))

/-! ## Plan images -/

/-- A directory entry (Table 11.2). -/
structure Section where
  index : Nat
  variant : Nat
  kind : Nat
  crc : Nat
  len : Nat
  off : Nat
deriving DecidableEq, Repr, Inhabited

def imageSections (img : Bytes) : Nat := fld img 192 16

def sectionAt (img : Bytes) (i : Nat) : Section :=
  let b := slice img (64 + 16 * i) 16
  { index := i, variant := fld b 104 8, kind := fld b 96 8, crc := fld b 64 32, len := fld b 32 32, off := fld b 0 32 }

def sectionList (img : Bytes) : List Section := (List.range (imageSections img)).map (sectionAt img)

def sectionBytes (img : Bytes) (x : Section) : Bytes := slice img x.off x.len

/-- The bytes of the shared section of a type; empty when there is none. -/
def sharedSection (img : Bytes) (kind : Nat) : Bytes :=
  match (sectionList img).find? (fun x => x.kind == kind && x.variant == 0xFF) with
  | some x => sectionBytes img x
  | none => []

/-- A section cut into records of a size. -/
def recordsOf (size : Nat) (b : Bytes) : List Bytes :=
  (List.range (b.length / size)).map (fun i => slice b (size * i) size)

def layerRecords (img : Bytes) : List Bytes := recordsOf 48 (sharedSection img 0x03)
def cameraRecords (img : Bytes) : List Bytes := recordsOf 96 (sharedSection img 0x06)
def ruleSets (img : Bytes) : List Bytes := recordsOf 16 (sharedSection img 0x08)
def outputRecords (img : Bytes) : List Bytes := recordsOf 16 (sharedSection img 0x09)
def functionTables (img : Bytes) : List Bytes := recordsOf 2080 (sharedSection img 0x05)

/-- The variant record of a kind. -/
def variantRecord (img : Bytes) (kind : Nat) : Option Bytes :=
  ((sectionList img).find? (fun x => x.kind == 0x01 && x.variant == kind)).map (sectionBytes img)

/-- Table 11.8's KIND and the output of a kind. -/
def outputKind (b : Bytes) : Nat := fld b 32 8
def outputOf (img : Bytes) (kind : Nat) : Option Bytes := (outputRecords img).find? (fun b => outputKind b == kind)

/-- The image of the plan in use. -/
def planImage (s : State) : Bytes :=
  match activeSlot s with
  | some i => (vget s.plans.slots i).image
  | none => []

/-- The Lift descriptor and input descriptor of a camera (R325). -/
def cameraRecord (img : Bytes) (r : Nat) : Option Bytes := (cameraRecords img).find? (fun b => fld b 0 4 == r)
def inputDescriptor (rec_ : Bytes) : Bytes := slice rec_ 0 48
def liftDescriptor (rec_ : Bytes) : Bytes := slice rec_ 48 32
def stripDeclaration (rec_ : Bytes) : Bytes := slice rec_ 80 16

/-- Lift passes of a plan (R294): one per landing-epilogue layer. -/
def liftPasses (img : Bytes) : Nat :=
  ((layerRecords img).filter (fun b => fld b 128 8 == 9 && fld b 136 2 == 1)).length

/-- A region of the variant in use: start and size in bytes. -/
def variantRegion (s : State) (lo : Nat) : Nat × Nat :=
  match variantFit s with
  | some f => (fld f.record lo 16 * 1024, fld f.record (lo + 16) 16 * 1024)
  | none => (0, 0)

def stateRegion (s : State) : Nat × Nat := variantRegion s 256
def bevRegion (s : State) : Nat × Nat := variantRegion s 288

end Sys2Proof.Machine
end

