-- ==== Sys2Proof/Machine/PointEngine.lean ====
section
/-! DEFINITION. The point engines: the take, the voxel table, the reference stores, rule books and neighbour queries
(R198 to R229). -/

namespace Sys2Proof.Machine

/-! ## Configuration (Table 7.2) -/

def voxelBlock (s : State) : Bytes := setting s 0x0600 0
/-- HDIV_factor. -/
def hdivFactor (s : State) : Nat := 2 ^ fld (voxelBlock s) 0 2
def voxelZmm (s : State) : Nat := fld (voxelBlock s) 4 12
def zMinMm (s : State) : Int := sfld (voxelBlock s) 16 16
def vzCount (s : State) : Nat := fld (voxelBlock s) 32 8
def nearEntries (s : State) : Nat := fld (voxelBlock s) 40 8 * 4096
def pointCap (s : State) : Nat := fld (voxelBlock s) 64 32
def refVoxelMm (s : State) : Nat := fld (voxelBlock s) 96 16
/-- The side of a patch in voxels. -/
def patchSide (s : State) : Nat := 64 * hdivFactor s

/-! ## Shares (R198, R200, R224) -/

def peRetired (s : State) (p : Nat) : Bool := bitOf s.point.retired p

/-- The shares in force leave an engine out: it was retired at the start of the latest take (R224). -/
def peOut (s : State) (p : Nat) : Bool := bitOf s.point.sharesWithout p

/-- The engine whose share a lidar or patch number is: in Sentry PE0's (R198, R200). -/
def ownEngine (s : State) (n : Nat) : Nat := if inSentry s then 0 else n % 4

/-- The engine that serves a share: its own, its partner, else the serving engine with the fewest lidars. With PE0 retired
the same holds in Sentry (assumption 130). -/
def servingEngine (s : State) (own : Nat) : Nat :=
  if !peOut s own then own
  else if !peOut s (own ^^^ 1) then own ^^^ 1
  else
    let load (p : Nat) : Nat := 2 + (if peOut s (p ^^^ 1) then 2 else 0)
    ((List.range 4).foldl (fun (b : Option Nat) p =>
      if peOut s p then b
      else match b with
        | some q => if load p < load q then some p else b
        | none => some p) none).getD own

def lidarEngine (s : State) (l : Nat) : Nat := servingEngine s (ownEngine s l)
def slotEngine (s : State) (slot : Nat) : Nat := servingEngine s (ownEngine s slot)

/-! ## Keys (R204, R205) -/

/-- x / v as a dyadic quotient: x × 100 × HDIV_factor / cell size in cm. -/
def overVoxel (s : State) (code : Nat) : Dy :=
  ((f32 code).mul (Dy.ofInt (100 * hdivFactor s))).div (Dy.ofInt (cellCm s.rink.cellCode))

/-- The height above the bottom of layer 0 in layers. -/
def overLayer (s : State) (zF code : Nat) : Dy :=
  ((((f32 code).sub (f32 zF)).mul (Dy.ofInt 1000)).sub (Dy.ofInt (zMinMm s))).div (Dy.ofInt (voxelZmm s))

/-- A point's global voxel indices and layer. -/
structure VoxelIndex where
  gx : Int
  gy : Int
  kz : Int
deriving DecidableEq, Repr

def voxelIndex (s : State) (t : Take) (p : DeskPoint) : VoxelIndex :=
  { gx := (overVoxel s p.x).floor, gy := (overVoxel s p.y).floor, kz := (overLayer s t.originZ p.z).floor }

def keyX (s : State) (v : VoxelIndex) : Nat := (v.gx % ((512 * hdivFactor s : Nat) : Int)).toNat
def keyY (s : State) (v : VoxelIndex) : Nat := (v.gy % ((384 * hdivFactor s : Nat) : Int)).toNat

/-- The patch slot of a key. -/
def keySlot (s : State) (kx ky : Nat) : Nat := kx / patchSide s + 8 * (ky / patchSide s)

/-- The bucket of three indices in a table of `n` buckets (R205); each product is taken to 32 bits. -/
def bucketOf (n x y z : Nat) : Nat :=
  ((x * 0x9E37 % 2 ^ 32) ^^^ (y * 0x7A5B % 2 ^ 32) ^^^ (z * 0x2C1D % 2 ^ 32)) % n

/-- A point is outside (R204). -/
def outside (s : State) (t : Take) (v : VoxelIndex) : Bool :=
  decide (v.kz < 0) || decide ((vzCount s : Int) ≤ v.kz) ||
    !inExtent t.centreX t.centreY t.reduced (reducedSide s) (v.gx / (patchSide s : Nat)) (v.gy / (patchSide s : Nat))

/-! ## Insertion (R207, R208) -/

/-- The take in progress. -/
structure TakeFold where
  table : List Voxel
  near : Nat
  far : Nat
  taken : Nat
  pastCap : Nat
  lidars : Vector LidarCounters 8
  truncated : List Nat
  /-- μ of the sweep of each lidar -/
  mus : List (Nat × Nat)

def TakeFold.count (l : Nat) (f : LidarCounters → LidarCounters) (a : TakeFold) : TakeFold :=
  { a with lidars := vmod a.lidars l f }

def TakeFold.truncate (slot : Nat) (a : TakeFold) : TakeFold :=
  if a.truncated.contains slot then a else { a with truncated := a.truncated ++ [slot] }

/-- keeps(p, e) of R207. -/
def keepsPoint (a : TakeFold) (p : DeskPoint) (e : Voxel) : Bool :=
  if p.lidar != e.lidar then
    let m := lookupD a.mus e.lidar 0
    decide (m < p.mu) || (p.mu == m && decide (p.lidar < e.lidar))
  else decide (p.scanIndex < e.scanIndex)

/-- DT of Table 7.3: point time minus F in units of 256 µs, to nearest, saturating. -/
def voxelDt (t : Take) (p : DeskPoint) : Int :=
  max (-512) (min 511 (roundDiv ((p.time : Int) - t.instant) (256 * usUnits)))

/-- The 16-bit offset of a position within its voxel. -/
def offsetIn (x : Dy) : Nat := (((x.sub (Dy.ofInt x.floor)).mul (Dy.ofInt 65536)).floor).toNat % 65536

/-- The fields of an entry that the kept point gives it. -/
def keepIn (s : State) (t : Take) (p : DeskPoint) (e : Voxel) : Voxel :=
  { e with
    offX := offsetIn (overVoxel s p.x), offY := offsetIn (overVoxel s p.y), offZ := offsetIn (overLayer s t.originZ p.z),
    dt := voxelDt t p, intensity := p.intensity, lidar := p.lidar, scanIndex := p.scanIndex,
    posX := p.x, posY := p.y, posZ := p.z }

/-- A bucket or entry of the Point subsystem's memories is marked at L2 (R229). -/
def pointMarked (s : State) (l4 index : Nat) : Bool :=
  s.patrol.marks.any (fun m => m.source == sourceOf 0x06 l4 0 && m.detail == index)

/-- insert(p) of R207. -/
def insertPoint (s : State) (t : Take) (a : TakeFold) (p : DeskPoint) : TakeFold :=
  let v := voxelIndex s t p
  if outside s t v then a.count p.lidar (fun c => { c with outside := bump c.outside })
  else
    let kx := keyX s v
    let ky := keyY s v
    let kz := v.kz.toNat
    let b := bucketOf 65536 kx ky kz
    let slot := keySlot s kx ky
    let drop : TakeFold := (a.count p.lidar (fun c => { c with bucketDropped := bump c.bucketDropped })).truncate slot
    let here := a.table.filter (fun e => e.bucket == b)
    let holds (e : Voxel) : Bool := e.bucket == b && e.keyX == kx && e.keyY == ky && e.keyZ == kz
    if pointMarked s 4 b then drop
    else if here.any holds then
      let table := a.table.map (fun e =>
        if holds e then
          let e1 := { e with hits := min (e.hits + 1) 255 }
          if keepsPoint a p e then keepIn s t p e1 else e1
        else e)
      { a with table := table }.count p.lidar (fun c => { c with merged := bump c.merged })
    else match (List.range 4).find? (fun w => !here.any (fun e => e.way == w)) with
      | none => drop
      | some w =>
        if !p.near && decide (262144 - nearEntries s ≤ a.far) then
          (a.count p.lidar (fun c => { c with quotaDropped := bump c.quotaDropped })).truncate slot
        else
          let e := keepIn s t p { (default : Voxel) with
            bucket := b, way := w, near := p.near, keyX := kx, keyY := ky, keyZ := kz, hits := 1 }
          { a with
            table := a.table ++ [e], near := a.near + flag p.near, far := a.far + flag (!p.near) }

/-- One point of the take (R208). -/
def takePoint (s : State) (t : Take) (a0 : TakeFold) (p : DeskPoint) : TakeFold :=
  let a := { a0 with mus := assocSet a0.mus p.lidar p.mu }
  if a.taken < pointCap s then insertPoint s t { a with taken := a.taken + 1 } p
  else if p.near && decide (a.near < nearEntries s) && decide (a.pastCap < nearEntries s) then
    insertPoint s t { a with pastCap := a.pastCap + 1 } p
  else
    let v := voxelIndex s t p
    let b := a.count p.lidar (fun c => { c with capDropped := bump c.capDropped })
    if outside s t v then b else b.truncate (keySlot s (keyX s v) (keyY s v))

/-- The take of a frame begins once the previous frame's rule books are delivered: the voxel table is empty, and every
point enters in frame order (R199, R206, R208). An abandoned take has no points and is complete at once. -/
def execTakeStart (s : State) : Host.Outcome State Fault Refusal :=
  awakeAnswer s fun s0 =>
    let s := modPoint (fun (p : PointState) =>
      if p.current.isNone && !p.waiting.isEmpty then { p with sharesWithout := p.retired } else p) s0
    match s.point.current, s.point.waiting with
    | none, t :: rest =>
      let a := t.points.foldl (takePoint s t)
        { table := [], near := 0, far := 0, taken := 0, pastCap := 0, lidars := s.point.lidars, truncated := [],
          mus := [] }
      let t1 := { t with begun := true, complete := t.dropped, truncated := if t.dropped then t.truncated else a.truncated }
      modPoint (fun (p : PointState) =>
        if t.dropped then { p with current := some t1, waiting := rest, books := [], table := [] }
        else { p with
          current := some t1, waiting := rest, books := [], table := a.table, lidars := a.lidars,
          frameNumber := t.frame, taken := a.taken, overCap := a.pastCap, voxels := a.table.length, nearVoxels := a.near }) s
    | _, _ => s

/-! ## The reference store (R218) -/

/-- A mean of FP32 codes, rounded once. -/
def mean32 (l : List Nat) : Nat :=
  if l.isEmpty then 0 else to32 ((Dy.sum (l.map f32)).div (Dy.ofInt l.length))

/-- The reference cell of an anchor position. -/
def refIndex (s : State) (code : Nat) : Int := (((f32 code).mul (Dy.ofInt 1000)).div (Dy.ofInt (refVoxelMm s))).floor

def refBucket (cx cy cz : Int) : Nat := bucketOf 16384 (codeOf 32 cx) (codeOf 32 cy) (codeOf 32 cz)

/-- The store built from the voxel table in its order, and the cells dropped on full buckets; a way marked at L2 holds no
entry (R229). -/
def buildStore (s : State) (store frame : Nat) : RefStore × Nat :=
  let keys := s.point.table.map (fun e => (refIndex s e.posX, refIndex s e.posY, refIndex s e.posZ))
  let distinct := keys.foldl (fun (a : List (Int × Int × Int)) k => if a.contains k then a else a ++ [k]) []
  let r := distinct.foldl (fun (a : List RefCell × Nat) k =>
    let b := refBucket k.1 k.2.1 k.2.2
    match (List.range 4).find? (fun w => !pointMarked s (5 + store) (4 * b + w) &&
        !a.1.any (fun c => refBucket c.cx c.cy c.cz == b && c.way == w)) with
    | none => (a.1, a.2 + 1)
    | some w =>
      let pts := s.point.table.filter (fun e => (refIndex s e.posX, refIndex s e.posY, refIndex s e.posZ) == k)
      (a.1 ++ [{ cx := k.1, cy := k.2.1, cz := k.2.2, way := w, x := mean32 (pts.map (·.posX)), y := mean32 (pts.map (·.posY)),
                 z := mean32 (pts.map (·.posZ)), count := min 255 pts.length }], a.2)) ([], 0)
  ({ frame := some frame, cells := r.1 }, r.2)

/-- The take completes: the reference store of the frame is built over the older of the two. -/
def execTakeComplete (s : State) : Host.Outcome State Fault Refusal :=
  awakeAnswer s fun s =>
    match s.point.current with
    | some t =>
      if !t.begun || t.complete then s
      else
        let i := match s.point.latestRef with
          | some j => 1 - j
          | none => 0
        let (store, dropped) := buildStore s i t.frame
        modPoint (fun (p : PointState) => { p with
          refs := vset p.refs i store, latestRef := some i, storesSinceReset := p.storesSinceReset + 1,
          refDropped := satAdd 32 p.refDropped dropped,
          current := some { t with complete := true } }) s
    | none => s

/-! ## Rule books (R211 to R217) -/

/-- A row: layer, local y, local x, at its set's resolution. -/
abbrev Row := Int × Int × Int

def rowBefore (a b : Row) : Bool :=
  decide (a.1 < b.1) || (a.1 == b.1 && (decide (a.2.1 < b.2.1) || (a.2.1 == b.2.1 && decide (a.2.2 ≤ b.2.2))))

def sortRows (l : List Row) : List Row :=
  (l.foldl (fun (a : List Row) r => if a.contains r then a else a ++ [r]) []).sortBy rowBefore

/-- A built set: for every served slot its output rows, its side in rows, and its layers. -/
structure BuiltSet where
  number : Nat
  rows : List (Nat × List Row)
  side : Nat
  layers : Nat
  flat : Bool

def BuiltSet.of (b : BuiltSet) (slot : Nat) : List Row := lookupD b.rows slot []

/-- The pillars of rows. -/
def pillars (l : List Row) : List Row := sortRows (l.map (fun r => (0, r.2)))

/-- A halo row: its direction, its row number in the neighbour's list, and its position relative to this patch. -/
structure HaloRow where
  dir : Nat
  src : Nat
  pos : Row

/-- The voxels of a slot in row order, at most 32,768, and those left out. -/
def slotVoxels (s : State) (slot : Nat) : List Voxel × List Voxel :=
  let side := patchSide s
  let l := (s.point.table.filter (fun e => keySlot s e.keyX e.keyY == slot)).sortBy (fun a b =>
    rowBefore ((a.keyZ : Int), ((a.keyY % side : Nat) : Int), ((a.keyX % side : Nat) : Int))
      ((b.keyZ : Int), ((b.keyY % side : Nat) : Int), ((b.keyX % side : Nat) : Int)))
  (l.take 32768, l.drop 32768)

def voxelRow (s : State) (e : Voxel) : Row :=
  ((e.keyZ : Int), ((e.keyY % patchSide s : Nat) : Int), ((e.keyX % patchSide s : Nat) : Int))

/-- An entry of the voxel table (Table 7.3). -/
def voxelBytes (e : Voxel) : Bytes :=
  pack 16 [(0, 16, e.offX), (16, 16, e.offY), (32, 16, e.offZ), (49, 8, e.intensity), (57, 10, codeOf 10 e.dt),
    (67, 8, e.hits), (75, 20, e.scanIndex), (95, 11, e.keyX), (106, 11, e.keyY), (117, 6, e.keyZ), (123, 3, e.lidar),
    (126, 1, flag e.near), (127, 1, 1)]

/-- The offsets of a kind in the order of R212: (dz, dy, dx). -/
def kernelOffsets (kind : Nat) : List Row :=
  let d : List Int := [-1, 0, 1]
  match kind with
  | 0 => []
  | 1 | 2 => d.flatMap (fun z => d.flatMap (fun y => d.map (fun x => (z, y, x))))
  | _ => d.flatMap (fun y => d.map (fun x => (0, y, x)))

/-- The neighbour slot of the take's extent in a direction. -/
def takeNeighbour (s : State) (t : Take) (served : List Nat) (slot dir : Nat) : Option Nat :=
  let g := patchOfSlot t.centreX t.centreY slot
  let d := neighbourDirs.getD dir (0, 0)
  let n := slotIndex (g.1 + d.1) (g.2 + d.2)
  if inExtent t.centreX t.centreY t.reduced (reducedSide s) (g.1 + d.1) (g.2 + d.2) && served.contains n then some n
  else none

/-- The input rows of a set on a slot: the input set's rows, collapsed to pillars for kind 3. -/
def inputRows (kind : Nat) (b : BuiltSet) (slot : Nat) : List Row := if kind = 3 then pillars (b.of slot) else b.of slot

/-- The halo rows of a slot: the neighbours' rows that the kernel reaches from the slot's own positions (R213, R215). -/
def haloRows (s : State) (t : Take) (served : List Nat) (kind stride : Nat) (b : BuiltSet) (slot : Nat) : List HaloRow :=
  let side : Int := (b.side : Int)
  let hi : Int := if stride = 2 then side - 1 else side
  (List.range 8).flatMap (fun dir =>
    match takeNeighbour s t served slot dir with
    | none => []
    | some n =>
      let d := neighbourDirs.getD dir (0, 0)
      ((inputRows kind b n).zipIdx).filterMap (fun r =>
        let pos : Row := (r.1.1, r.1.2.1 + d.2 * side, r.1.2.2 + d.1 * side)
        if -1 ≤ pos.2.1 ∧ pos.2.1 ≤ hi ∧ -1 ≤ pos.2.2 ∧ pos.2.2 ≤ hi then some { dir := dir, src := r.2, pos := pos }
        else none))

/-- The output rows of a set on a slot (R211, R212). -/
def outputRows (kind stride : Nat) (b : BuiltSet) (own : List Row) (halo : List HaloRow) : List Row :=
  match kind with
  | 1 | 3 => own
  | _ =>
    let st : Int := (stride : Int)
    let outSide : Int := ((b.side / stride : Nat) : Int)
    let outLayers : Int := (((b.layers + stride - 1) / stride : Nat) : Int)
    sortRows ((own ++ halo.map (·.pos)).flatMap (fun r =>
      (kernelOffsets kind).filterMap (fun d =>
        let z := r.1 - d.1
        let y := r.2.1 - d.2.1
        let x := r.2.2 - d.2.2
        if z % st = 0 ∧ y % st = 0 ∧ x % st = 0 ∧ 0 ≤ z / st ∧ z / st < outLayers ∧ 0 ≤ y / st ∧ y / st < outSide ∧
            0 ≤ x / st ∧ x / st < outSide then some (z / st, y / st, x / st) else none)))

/-- The rules of one offset section: halo flag, input row, output row. -/
def sectionRules (stride : Nat) (own : List Row) (halo : List HaloRow) (outs : List Row) (d : Row) :
    List (Bool × Nat × Nat) :=
  let st : Int := (stride : Int)
  outs.zipIdx.filterMap (fun o =>
    let pos : Row := (st * o.1.1 + d.1, st * o.1.2.1 + d.2.1, st * o.1.2.2 + d.2.2)
    match own.findIdx? (fun r => r == pos) with
    | some i => some (false, i, o.2)
    | none => match halo.findIdx? (fun h => h.pos == pos) with
      | some i => some (true, i, o.2)
      | none => none)

/-- A coordinate entry (Table 7.7). -/
def coordEntry (r : Row) : Nat := codeOf 11 r.2.2 + codeOf 11 r.2.1 * 2 ^ 11 + r.1.toNat % 64 * 2 ^ 22

/-- Zero bytes up to a multiple of 64 from the start of the rule book. -/
def pad64 (b : Bytes) : Bytes := b ++ zeros ((64 - b.length % 64) % 64)

/-- Rules cut to a count of entries: whole output rows from the lowest upward (R216). -/
def cutRules (limit : Nat) (outs : Nat) (sections : List (List (Bool × Nat × Nat))) : Nat :=
  (List.range outs).foldl (fun (a : Nat × Bool × Nat) o =>
    let n := (sections.map (fun l => (l.filter (fun r => r.2.2 == o)).length)).sum
    if a.2.1 then a
    else if a.2.2 + n ≤ limit then (o + 1, false, a.2.2 + n) else (a.1, true, a.2.2)) (0, false, 0) |>.1

/-- What a rule book carries beside its rows. -/
structure BookMarks where
  noLidar : Bool
  rowOverflow : Bool
  truncated : Bool
  /-- a VOXEL_LIST was cut to the declared space -/
  voxelsCut : Bool

/-- The body of a rule book, parts padded, its rules, and whether it was cut to the declared space (R216): the rules of the
rows that do not fit go, the lists stand (assumption 131). -/
def bookBody (kind space : Nat) (voxels : List Voxel) (outs : List Row) (halo : List HaloRow)
    (sections : List (List (Bool × Nat × Nat))) : Bytes × Nat × Bool :=
  let dirLen := 8 * (kernelOffsets kind).length
  let outBytes := match kind with
    | 0 => voxels.flatMap voxelBytes
    | 2 | 3 | 4 => outs.flatMap (fun r => bytesOfNat 4 (coordEntry r))
    | _ => []
  let haloBytes := halo.flatMap (fun h => pack 8 [(0, 32, coordEntry h.pos), (32, 16, h.src), (48, 3, h.dir)])
  let up (n : Nat) : Nat := (n + 63) / 64 * 64
  let fixed := up (up (up (32 + dirLen) + outBytes.length) + haloBytes.length)
  let total := (sections.map List.length).sum
  let limit := (64 * space - fixed) / 4
  let keep := if total ≤ limit then outs.length else cutRules limit outs.length sections
  let kept := sections.map (fun l => l.filter (fun r => decide (r.2.2 < keep)))
  let dir := kept.foldl (fun (a : Bytes × Nat) l => (a.1 ++ bytesOfNat 4 l.length ++ bytesOfNat 4 a.2, a.2 + l.length))
    ([], 0)
  let head := zeros 32
  let p1 := pad64 (head ++ dir.1)
  let p2 := pad64 (p1 ++ outBytes)
  let p3 := pad64 (p2 ++ haloBytes)
  let p4 := pad64 (p3 ++ kept.flatMap (fun l => l.flatMap (fun r =>
    bytesOfNat 4 (r.2.2 + r.2.1 * 2 ^ 16 + flag r.1 * 2 ^ 31))))
  (p4.drop 32, (kept.map List.length).sum, decide (64 * space < fixed + 4 * total))

/-- A whole rule book with its header (Table 7.5). -/
def ruleBook (s : State) (frame slot : Nat) (set_ : Bytes) (m : BookMarks) (voxels : List Voxel) (own outs : List Row)
    (halo : List HaloRow) : RuleBook × Bool :=
  let kind := fld set_ 32 8
  let stride := fld set_ 40 8
  let sections := (kernelOffsets kind).map (sectionRules stride own halo outs)
  let (body, rules, cut) := bookBody kind (fld set_ 96 32) voxels outs halo sections
  let cut := cut || m.voxelsCut
  let truncated := m.truncated || m.rowOverflow || cut
  let pe := slotEngine s slot
  let head := pack 32 [(24, 8, fld set_ 48 8), (32, 16, (32 + body.length) / 64), (48, 8, pe), (56, 1, flag truncated),
    (57, 1, flag m.rowOverflow), (58, 1, flag cut), (59, 1, flag m.noLidar), (60, 1, flag (pe != ownEngine s slot)),
    (64, 8, stride), (72, 8, slot % 8), (80, 8, slot / 8), (88, 8, fld set_ 0 8), (96, 8, kind),
    (104, 8, (kernelOffsets kind).length), (112, 16, halo.length), (128, 16, own.length), (144, 16, outs.length),
    (160, 32, rules), (192, 32, crc32c body), (224, 32, frame)]
  ({ slot := slot, set := fld set_ 0 8, bytes := head ++ body, truncated := truncated }, cut)

/-- Rule books in the making: the sets built so far, the books, the slots truncated, and the counters. -/
structure BookFold where
  built : List BuiltSet
  books : List RuleBook
  truncated : List Nat
  overflows : Nat
  rowDropped : List Nat

/-- One declared set, on every served slot. -/
def buildSet (s : State) (t : Take) (served : List Nat) (a : BookFold) (set_ : Bytes) : BookFold :=
  let kind := fld set_ 32 8
  let stride := fld set_ 40 8
  let input := (a.built.find? (fun b => b.number == fld set_ 48 8)).getD
    { number := 0xFF, rows := [], side := patchSide s, layers := vzCount s, flat := false }
  let room := (fld set_ 96 32 * 64 - 64) / 16
  let listed (slot : Nat) : List Voxel := (slotVoxels s slot).1.take room
  let rowsOf (slot : Nat) : List Row × List HaloRow × List Row × Bool :=
    if t.noLidar then ([], [], [], false)
    else if kind = 0 then ([], [], (listed slot).map (voxelRow s), !(slotVoxels s slot).2.isEmpty)
    else
      let own := inputRows kind input slot
      let halo := haloRows s t served kind stride input slot
      let outs := outputRows kind stride input own halo
      (own, halo.take 32768, outs.take 32768, decide (32768 < outs.length) || decide (32768 < halo.length))
  let built : BuiltSet :=
    { number := fld set_ 0 8, rows := served.map (fun n => (n, (rowsOf n).2.2.1)),
      side := if kind = 0 then patchSide s else input.side / stride,
      layers := if kind = 0 then vzCount s else if 3 ≤ kind then 1 else (input.layers + stride - 1) / stride,
      flat := decide (3 ≤ kind) }
  served.foldl (fun (b : BookFold) n =>
    let r := rowsOf n
    let m : BookMarks := { noLidar := t.noLidar, rowOverflow := r.2.2.2, truncated := t.dropped || t.truncated.contains n,
                            voxelsCut := kind = 0 && !t.noLidar && decide (room < (slotVoxels s n).1.length) }
    let x := ruleBook s t.frame n set_ m (if kind = 0 && !t.noLidar then listed n else []) r.1 r.2.2.1 r.2.1
    { b with
      books := b.books ++ [x.1],
      truncated := if x.1.truncated && !b.truncated.contains n then b.truncated ++ [n] else b.truncated,
      overflows := b.overflows + flag x.2,
      rowDropped := if kind = 0 && !t.noLidar then b.rowDropped ++ (slotVoxels s n).2.map (·.lidar) else b.rowDropped })
    { a with built := a.built ++ [built] }

/-- TRUNCATED, bit 56 of the header, is the patch's for the frame: every book of a truncated patch carries it (R209, R210). -/
def markTruncated (slots : List Nat) (b : RuleBook) : RuleBook :=
  if b.truncated || !slots.contains b.slot then b
  else { b with truncated := true, bytes := b.bytes.set 7 (b.bytes.getD 7 0 ||| 1) }

/-- Every declared set of the plan, in ascending number, for the slots served. -/
def buildBooks (s : State) (t : Take) : BookFold :=
  let served := match s.rink.sentrySlots with
    | some l => (List.range 48).filter (fun n => l.contains n)
    | none => (List.range 48).filter (fun n =>
        let g := patchOfSlot t.centreX t.centreY n
        inExtent t.centreX t.centreY t.reduced (reducedSide s) g.1 g.2)
  let sets := (ruleSets (planImage s)).sortBy (fun a b => decide (fld a 0 8 ≤ fld b 0 8))
  sets.foldl (buildSet s t served)
    { built := [], books := [], truncated := if t.dropped then served else t.truncated, overflows := 0, rowDropped := [] }

/-- A delivered book whose check sequence its tile found wrong (slot and set in `hurt`) counts as one with NO_LIDAR (R318). -/
def spoilBook (s : State) (frame : Nat) (hurt : List (Nat × Nat)) (b : RuleBook) : RuleBook :=
  match (ruleSets (planImage s)).find? (fun x => fld x 0 8 == b.set) with
  | some set_ =>
    if hurt.contains (b.slot, b.set) then
      (ruleBook s frame b.slot set_ { noLidar := true, rowOverflow := false, truncated := b.truncated, voxelsCut := false }
        [] [] [] []).1
    else b
  | none => b

/-- The tiles' verdict on an engine's books: a mismatch is reported, a frame without one ends its retry well (Table 7.14). -/
def judgeBooks (s : State) (spoilt : List RuleBook) (pe : Nat) (u : State) : State :=
  if spoilt.any (fun b => slotEngine s b.slot == pe) then report (sourceOf 0x06 pe 0) 0 4 .uc 0 u
  else evaluateAgain (sourceOf 0x06 pe 0) 0 4 false u

/-- The last rule book of the frame that holds the array is delivered: TRUNCATED and NO_LIDAR mark the slots, the
statistics and Gate 4 take it, and the voxel table empties (R208 to R210, R214 to R217, R228). -/
def execRuleBooksDelivered (hurt : List (Nat × Nat)) (s : State) : Host.Outcome State Fault Refusal :=
  awakeAnswer s fun s =>
    match s.point.current, s.rink.frame with
    | some t, some f =>
      if !t.complete || t.frame != f.frame then s
      else
        let a := buildBooks s t
        let us := min 65535 ((now s - t.lidarClose) / usUnits)
        let spoilt := a.books.filter (fun b => hurt.contains (b.slot, b.set))
        let dark (n : Nat) : Bool := t.noLidar || spoilt.any (fun b => b.slot == n)
        let s1 := modPoint (fun (p : PointState) => { p with
          table := [], current := none, books := (a.books.map (markTruncated a.truncated)).map (spoilBook s t.frame hurt), delivered := some t.frame,
          truncatedFrames := if a.truncated.isEmpty then p.truncatedFrames else bump p.truncatedFrames,
          latencyUs := us, peakLatencyUs := max p.peakLatencyUs us, truncatedPatches := a.truncated.length,
          ruleOverflows := satAdd 32 p.ruleOverflows a.overflows,
          lidars := a.rowDropped.foldl (fun (v : Vector LidarCounters 8) l =>
            vmod v l (fun c => { c with rowDropped := bump c.rowDropped })) p.lidars }) s
        let s2 := (List.range 48).foldl (fun (u : State) n =>
          modSlot n (fun (x : Slot) => { x with
            truncated := a.truncated.contains n, noLidar := dark n,
            occupiedVoxels := if dark n then 0 else (slotVoxels s n).1.length,
            lidars := if dark n then 0 else maskOf 8 (fun l => (slotVoxels s n).1.any (fun e => e.lidar == l)) }) u) s1
        kickGate 4 t.frame ((List.range 4).foldl (fun (u : State) pe => judgeBooks s spoilt pe u) s2)
    | _, _ => s

/-! ## Neighbour queries (R219 to R222) -/

/-- The squared distance from a query to an entry, exact. -/
def distance2 (q : Nat × Nat × Nat) (c : RefCell) : Dy :=
  let d (a b : Nat) : Dy := (f32 a).sub (f32 b)
  let dx := d c.x q.1
  let dy := d c.y q.2.1
  let dz := d c.z q.2.2
  Dy.sum [dx.mul dx, dy.mul dy, dz.mul dz]

/-- The entries in a ring about a query, nearest first; the lower cell index first on a tie. -/
def ringEntries (s : State) (st : RefStore) (q : Nat × Nat × Nat) (ring : Int) : List (Dy × RefCell) :=
  let cx := refIndex s q.1
  let cy := refIndex s q.2.1
  let cz := refIndex s q.2.2
  let near (a b : Int) : Bool := decide (mag (a - b) ≤ ring.toNat)
  let idx (c : RefCell) : Row := (c.cz, c.cy, c.cx)
  ((st.cells.filter (fun c => near c.cx cx && near c.cy cy && near c.cz cz)).map (fun c => (distance2 q c, c))).sortBy
    (fun a b => a.1.lt b.1 || (a.1.eq b.1 && rowBefore (idx a.2) (idx b.2)))

/-- A number of millimetres in metres, squared. -/
def mm2 (mm : Nat) : Dy := Dy.ratio (mm * mm) 1000000

/-- Entries within a squared radius. -/
def within (r2 : Dy) (l : List (Dy × RefCell)) : List (Dy × RefCell) := l.filter (fun e => e.1.le r2)

/-- A ball query: the entries, MORE and INCOMPLETE. No entry lies within a negative radius or one that is no number
(assumption 121). -/
def ballQuery (s : State) (st : RefStore) (q : Nat × Nat × Nat) (radius maxN : Nat) : List RefCell × Bool × Bool :=
  let ring : Int := if ((f32 radius).mul (Dy.ofInt 1000)).le (Dy.ofInt (refVoxelMm s)) then 1 else 2
  let l := if !fpFinite radius || flt radius 0 then []
    else within ((f32 radius).mul (f32 radius)) (ringEntries s st q ring)
  ((l.take maxN).map (·.2), decide (maxN < l.length), false)

/-- A k-nearest query. -/
def nearestQuery (s : State) (st : RefStore) (q : Nat × Nat × Nat) (k : Nat) : List RefCell × Bool × Bool :=
  let l1 := within (mm2 (refVoxelMm s)) (ringEntries s st q 1)
  if k ≤ l1.length then ((l1.take k).map (·.2), false, false)
  else
    let r2 := ringEntries s st q 2
    let l2 := within (mm2 (2 * refVoxelMm s)) r2
    if k ≤ l2.length then ((l2.take k).map (·.2), false, false) else ((r2.take k).map (·.2), false, true)

/-- The latest complete reference store. -/
def latestStore (s : State) : RefStore :=
  match s.point.latestRef with
  | some i => vget s.point.refs i
  | none => default

/-- A query point lies outside the Rink extent; so does one without a finite x and y (assumption 121). -/
def queryOutside (s : State) (q : Nat × Nat × Nat) : Bool :=
  let g := patchAt s (f32 q.1) (f32 q.2.1)
  !fpFinite q.1 || !fpFinite q.2.1 ||
    !inExtent s.rink.centreX s.rink.centreY s.rink.reduced (reducedSide s) g.1 g.2

/-- One result of R221. -/
def queryResult (s : State) (kind radius maxN : Nat) (q : Nat × Nat × Nat) : Bytes :=
  if queryOutside s q then bytesOfNat 4 (2 ^ 10)
  else
    let r := if kind = 0 then ballQuery s (latestStore s) q radius maxN else nearestQuery s (latestStore s) q maxN
    let d (a b : Nat) : Nat := to16 ((f32 a).sub (f32 b))
    bytesOfNat 4 (r.1.length + flag r.2.1 * 2 ^ 8 + flag r.2.2 * 2 ^ 9) ++
      r.1.flatMap (fun c => pack 8 [(0, 16, d c.x q.1), (16, 16, d c.y q.2.1), (32, 16, d c.z q.2.2), (48, 8, c.count)])

/-- Query point i of RUN_NEIGHBOUR_QUERY's parameters. -/
def queryPoint (b : Bytes) (i : Nat) : Nat × Nat × Nat :=
  (fld b (128 + 96 * i) 32, fld b (160 + 96 * i) 32, fld b (192 + 96 * i) 32)

/-- The final reply's block and results (R221). -/
def queryReply (s : State) (b : Bytes) : Bytes :=
  bytesOfNat 4 ((latestStore s).frame.getD 0) ++ bytesOfNat 2 (fld b 48 16) ++ zeros 2 ++
    (List.range (fld b 48 16)).flatMap (fun i => queryResult s (fld b 72 8) (fld b 96 32) (fld b 80 8) (queryPoint b i))

/-- RUN_NEIGHBOUR_QUERY (R220 to R222). -/
def execRunNeighbourQuery (k : CmdKey) (s : State) : Host.Outcome State Fault Refusal :=
  runCommand k 0x0602 (fun c s => conclude c stDone 0 (queryReply s c.params) s) s

/-- The first bad parameter of RUN_NEIGHBOUR_QUERY's header: a result too large for one reply lies at MAX_N, the higher of its
two fields (R50, R219, R220). -/
def queryBad (s : State) (b : Bytes) : Option Nat :=
  let n := fld b 48 16
  let kind := fld b 72 8
  let maxN := fld b 80 8
  if fld b 0 48 ≠ 0 then some 0
  else if n = 0 ∨ 338 < n then some 6
  else if fld b 64 8 ≠ 0 then some 8
  else if 1 < kind then some 9
  else if maxN = 0 ∨ (if kind = 0 then 64 else 32) < maxN ∨ 4080 < 8 + n * (4 + 8 * maxN) then some 10
  else if fld b 88 8 ≠ 0 then some 11
  else if kind = 0 && (fld b 96 32 == 0x7F800000 || (fpFinite (fld b 96 32) &&
      !((f32 (fld b 96 32)).mul (Dy.ofInt 1000)).le (Dy.ofInt (2 * refVoxelMm s)))) then some 12
  else none

/-! ## Commands -/

def execSetVoxelConfig (k : CmdKey) (s : State) : Host.Outcome State Fault Refusal :=
  runCommand k 0x0600 (fun c s => done c (putSetting 0x0600 0 c.params s)) s

/-- POINT_CAP is a multiple of 65,536 (R202). -/
def jointPoint (op : Nat) (b : Bytes) : Option Refuse :=
  if op = 0x0600 ∧ fld b 64 32 % 65536 ≠ 0 then some (stBadParam, 8) else none

/-- The block of Table 7.12 and the entries of Table 7.13. -/
def pointStats (s : State) : Bytes :=
  let p := s.point
  pack 48 [(0, 32, p.refDropped), (32, 32, p.ruleOverflows), (64, 4, p.retired), (88, 8, p.truncatedPatches),
      (96, 16, p.peakLatencyUs), (112, 16, p.latencyUs), (128, 32, p.takeSkipped), (160, 32, p.truncatedFrames),
      (192, 32, (latestStore s).cells.length), (224, 32, p.nearVoxels), (256, 32, p.voxels), (288, 32, p.overCap), (320, 32, p.taken),
      (352, 32, p.frameNumber)] ++
    (List.range 8).flatMap (fun l =>
      let c := vget p.lidars l
      [c.seen, c.capDropped, c.bucketDropped, c.quotaDropped, c.rowDropped, c.outside, c.merged,
        lidarEngine s l].flatMap (bytesOfNat 4))

def execGetPointStats (k : CmdKey) (s : State) : Host.Outcome State Fault Refusal :=
  runCommand k 0x0601 (fun c s => doneWith c (pointStats s) s) s

/-- A take that its engine gave up: rule books with NO_LIDAR and TRUNCATED (R226). -/
def abandonTake (t : Take) : Take := { t with points := [], noLidar := true, dropped := true, complete := true }

/-- A block reset of the Point subsystem (R226): table and stores empty; the frame whose take or build it interrupts
gets rule books with NO_LIDAR and TRUNCATED. -/
def resetPoint (s : State) : State :=
  modPoint (fun (p : PointState) => { p with
    table := [], refs := Vector.replicate 2 default, latestRef := none, storesSinceReset := 0,
    current := p.current.map abandonTake }) s

/-- A voxel-table bucket or a reference-store entry fails its check (R229): the bucket's voxels are left out and their patches
are TRUNCATED, the entry is invalidated. A bucket's index is its number, an entry's is 4 times its bucket and its way
(assumption 132). -/
def damagePoint (l4 index : Nat) (s : State) : State :=
  if l4 = 4 then
    let lost := s.point.table.filter (fun e => e.bucket == index)
    let slots := lost.map (fun e => keySlot s e.keyX e.keyY)
    modPoint (fun (p : PointState) => { p with
      table := p.table.filter (fun e => e.bucket != index),
      current := p.current.map (fun t => { t with
        truncated := slots.foldl (fun a n => if a.contains n then a else a ++ [n]) t.truncated }) }) s
  else if l4 = 5 ∨ l4 = 6 then
    modPoint (fun (p : PointState) => { p with refs := vmod p.refs (l4 - 5) (fun r =>
      { r with cells := r.cells.filter (fun c => 4 * refBucket c.cx c.cy c.cz + c.way != index) }) }) s
  else s

end Sys2Proof.Machine
end

