-- ==== Sys2Proof/Machine/Arith.lean ====
section
/-! DEFINITION. Tile arithmetic: formats, products and accumulators, the epilogue, function tables, input conversions and
the checksum column (R264 to R290). -/

namespace Sys2Proof.Machine

/-! ## Formats (R264 to R268) -/

/-- Bits of an element, by format code. -/
def fmtBits : Nat → Nat
  | 0 => 4
  | 1 => 8
  | 2 => 16
  | 3 => 8
  | 4 => 8
  | 5 => 16
  | 6 => 16
  | 7 => 32
  | 8 => 4
  | 9 => 6
  | _ => 8

def fmtIsInt (f : Nat) : Bool := decide (f ≤ 2)
def fmtIsMx (f : Nat) : Bool := decide (8 ≤ f) && decide (f ≤ 10)

/-- The floating format of a code; MXINT8 has none. -/
def fmtOf : Nat → Fmt
  | 3 => fmtE4M3
  | 4 => fmtE5M2
  | 5 => fmt16
  | 6 => fmtBF16
  | 8 => fmtE2M1
  | 9 => fmtE2M3
  | _ => fmt32

/-- An E5M2, FP16, BF16 or FP32 code is an infinity: the code after the largest finite one. E4M3 has none. -/
def fmtInfinite (f code : Nat) : Bool :=
  f != 3 && !fmtIsInt f && !fmtIsMx f && code % (fmtOf f).signBit == (fmtOf f).top + 1

/-- An element that is no number (R275). -/
def elementBad (f code : Nat) : Bool := !fmtIsInt f && !fmtIsMx f && !(fmtOf f).finite code

/-- An element of a floating format is a zero with a sign. -/
def elementNegZero (f code : Nat) : Bool :=
  !fmtIsInt f && f != 10 && code % ((fmtOf f).signBit * 2) == (fmtOf f).signBit

/-- An element's value: integers in two's complement, NaN read as zero, infinity as the largest finite value of its
sign, MX elements without their shared scale. -/
def elementValue (f code : Nat) : Dy :=
  let c := code % 2 ^ fmtBits f
  if fmtIsInt f then Dy.ofInt (signedOf (fmtBits f) c)
  else if f = 10 then ⟨signedOf 8 c, -6⟩
  else if elementBad f c then
    (if fmtInfinite f c then (fmtOf f).value (c / (fmtOf f).signBit * (fmtOf f).signBit + (fmtOf f).top) else Dy.zero)
  else (fmtOf f).value c

/-- A shared scale (R266); 0xFF is read as zero (R275). -/
def scaleValue (x : Nat) : Dy := if x = 255 then Dy.zero else ⟨1, (x : Int) - 127⟩

/-- An element with the shared scale of its block, for a format that has one: code and scale. -/
abbrev Elem := Nat × Nat

/-- The value of an element, its shared scale applied (R266). -/
def elemVal (f : Nat) (x : Elem) : Dy :=
  let v := elementValue f x.1
  if fmtIsMx f then v.mul (scaleValue x.2) else v

/-- An element as FP32, exactly (R281); a zero keeps its sign. -/
def elemFp32 (f : Nat) (x : Elem) : Nat := roundSigned (elementNegZero f x.1) (elemVal f x)

/-- Operand pairs of Table 9.3 and their KP. -/
def pairKp : Nat → Nat → Option Nat
  | 0, 0 => some 128
  | 1, 1 => some 64
  | 1, 0 => some 64
  | 2, 2 => some 16
  | 2, 1 => some 16
  | 3, 3 => some 64
  | 3, 4 => some 64
  | 4, 3 => some 64
  | 4, 4 => some 64
  | 5, 5 => some 16
  | 6, 6 => some 16
  | 7, 7 => some 4
  | 8, 8 => some 128
  | 9, 9 => some 64
  | 9, 8 => some 64
  | 10, 10 => some 64
  | _, _ => none

/-! ## Descriptors (Table 9.4) -/

def dscA (d : Bytes) : Nat := fld d 4 4
def dscW (d : Bytes) : Nat := fld d 8 4
def dscOut (d : Bytes) : Nat := fld d 12 4
def dscRound (d : Bytes) : Nat := fld d 16 3
def dscTable (d : Bytes) : Nat := fld d 24 4
def dscK (d : Bytes) : Nat := fld d 32 32
def dscAccScale (d : Bytes) : Nat := fld d 64 32
def dscOutScale (d : Bytes) : Nat := fld d 96 32

/-- What an arithmetic step counts (R289). -/
structure Counts where
  saturations : Nat
  nonfinite : Nat
  domain : Nat
  skipped : Nat
deriving DecidableEq, Repr, Inhabited

def Counts.zero : Counts := ⟨0, 0, 0, 0⟩
def Counts.add (a b : Counts) : Counts :=
  ⟨a.saturations + b.saturations, a.nonfinite + b.nonfinite, a.domain + b.domain, a.skipped + b.skipped⟩

/-! ## Accumulation (R269 to R272) -/

/-- An accumulator: the exact integer sum, or FP32 with its saturation flag. -/
inductive Acc where
  | int (exact : Int)
  | fp (code : Nat) (saturated : Bool)
deriving DecidableEq, Repr, Inhabited

/-- The exact products of a run of K. -/
def passProducts (fa fw : Nat) (a w : List Elem) : List Dy := (a.zip w).map (fun p => (elemVal fa p.1).mul (elemVal fw p.2))

/-- The passes of a float accumulation: each adds its exact sum and rounds once (R270, R272). -/
def floatPasses (fa fw kp : Nat) : Nat → List Elem → List Elem → Dy → Bool → Nat × Bool
  | 0, _, _, acc, sat => (to32 acc, sat)
  | n + 1, a, w, acc, sat =>
    let r := fmt32.round 0 (acc.add (Dy.sum (passProducts fa fw (a.take kp) (w.take kp))))
    floatPasses fa fw kp n (a.drop kp) (w.drop kp) (f32 r.1) (sat || r.2)

/-- The accumulator of one output. -/
def accumulate (fa fw : Nat) (a w : List Elem) : Acc :=
  let kp := (pairKp fa fw).getD 64
  if fmtIsInt fa then .int ((Dy.sum (passProducts fa fw a w)).floor)
  else
    let r := floatPasses fa fw kp ((a.length + kp - 1) / kp) a w Dy.zero false
    .fp r.1 r.2

/-- A product row is added into an accumulator (R304): integers exactly, FP32 with one rounding. -/
def Acc.add : Acc → Acc → Acc
  | .int i, .int j => .int (i + j)
  | .fp a p, .fp b q =>
    let r := fmt32.round 0 ((f32 a).add (f32 b))
    .fp (fadd a b) (p || q || r.2)
  | x, _ => x

/-- A cleared accumulator of a pair. -/
def Acc.clear (fa : Nat) : Acc := if fmtIsInt fa then .int 0 else .fp 0 false

/-- INT32 saturation of the exact sum (R271). -/
def sat32 (i : Int) : Int := max (-(2 ^ 31)) (min (2 ^ 31 - 1) i)

def accSaturated : Acc → Bool
  | .int i => decide (sat32 i ≠ i)
  | .fp _ s => s

/-- The accumulator as FP32 (R278). -/
def accFp32 : Acc → Nat
  | .int i => fofInt (sat32 i)
  | .fp c _ => c

/-! ## Function tables (R283, R284) -/

def tabValue (t : Bytes) (i : Nat) : Nat := fld t (256 + 64 * i) 32
def tabSlope (t : Bytes) (i : Nat) : Nat := fld t (256 + 64 * i + 32) 32

/-- f = VALUE[i] + SLOPE[i] × (u − u_i). -/
def segment (t : Bytes) (i : Nat) (u ui : Dy) : Nat := ffma (tabSlope t i) (to32 (u.sub ui)) (tabValue t i)

/-- The exponent e of |x| = m × 2ᵉ with m on [1, 2). -/
def binExp (x : Dy) : Int := (Nat.log2 x.n.natAbs : Int) + x.e

/-- A uniform table (MODE 0). -/
def uniformTable (t : Bytes) (x : Nat) : Nat :=
  let lo := f32 (fld t 32 32)
  let hi := f32 (fld t 64 32)
  let span := hi.sub lo
  let start (i : Nat) : Dy := lo.add ((span.mul (Dy.ofInt i)).mul ⟨1, -8⟩)
  let v := f32 x
  if v.lt lo then
    match fld t 12 2 with
    | 0 => tabValue t 0
    | 1 => segment t 0 v lo
    | 2 => x
    | _ => 0
  else if hi.le v then
    match fld t 14 2 with
    | 0 => segment t 255 hi (start 255)
    | 1 => segment t 255 v (start 255)
    | 2 => x
    | _ => 0
  else
    let i := ((((v.sub lo).mul (Dy.ofInt 256)).div span).floor).toNat
    segment t (min 255 i) v (start (min 255 i))

/-- The base-2 exponential (MODE 1): result and saturation. -/
def exp2Table (t : Bytes) (x : Nat) : Nat × Bool :=
  let v := f32 x
  let n := v.floor
  let u := v.sub (Dy.ofInt n)
  let i := ((u.mul ⟨1, 8⟩).floor).toNat
  let f := segment t i u ⟨(i : Int), -8⟩
  let r := fmt32.round 0 ((f32 f).mul ⟨1, max (-400) (min 400 n)⟩)
  (withSign (fneg f) r.1, r.2)

/-- A mantissa table (MODE 2): result, saturation, DOMAIN. -/
def mantissaTable (t : Bytes) (x : Nat) : Nat × Bool × Bool :=
  let rule := fld t 8 2
  let v := f32 x
  let neg := decide (2147483648 ≤ x)
  if v.n = 0 then (if rule = 2 then 0xFF7FFFFF else if neg then 0xFF7FFFFF else 0x7F7FFFFF, true, false)
  else if neg && rule != 0 then (0, false, true)
  else
    let e0 := binExp v
    let e := if rule = 1 ∧ e0 % 2 = 1 then e0 - 1 else e0
    let m : Dy := ⟨(v.n.natAbs : Int), v.e - e⟩
    let i := if rule = 1 then ((((m.sub (Dy.ofInt 1)).mul (Dy.ofInt 256)).div (Dy.ofInt 3)).floor).toNat
             else (((m.sub (Dy.ofInt 1)).mul ⟨1, 8⟩).floor).toNat
    let ui : Dy := (Dy.ofInt 1).add (if rule = 1 then ⟨3 * (i : Int), -8⟩ else ⟨(i : Int), -8⟩)
    let c := segment t (min 255 i) m ui
    let f := f32 c
    match rule with
    | 0 => let r := fmt32.round 0 (f.mul ⟨1, -e⟩); (withSign (fneg c != neg) r.1, r.2, false)
    | 1 => let r := fmt32.round 0 (f.mul ⟨1, -(e / 2)⟩); (withSign (fneg c) r.1, r.2, false)
    | _ => let r := fmt32.round 0 (f.add (Dy.ofInt e)); (r.1, r.2, false)

/-- A table function with what it counts. -/
def tableFunction (t : Bytes) (x : Nat) : Nat × Counts :=
  match fld t 0 2 with
  | 0 => (uniformTable t x, Counts.zero)
  | 1 => let r := exp2Table t x; (r.1, { Counts.zero with saturations := flag r.2 })
  | _ => let r := mantissaTable t x; (r.1, { Counts.zero with saturations := flag r.2.1, domain := flag r.2.2 })

/-! ## Output conversion (R278 to R280, R282) -/

/-- A dyadic rounded to an integer by ROUND. -/
def roundInt (mode : Nat) (x : Dy) : Int :=
  let m := if 0 ≤ x.e then x.n.natAbs * 2 ^ x.e.toNat else roundNat mode x.n.natAbs (-x.e).toNat
  if x.n < 0 then -(m : Int) else (m : Int)

/-- An integer code of `w` bits, saturated. -/
def intCode (w mode : Nat) (x : Dy) : Nat × Bool :=
  let i := roundInt mode x
  let lo : Int := -((2 ^ (w - 1) : Nat) : Int)
  let hi : Int := ((2 ^ (w - 1) - 1 : Nat) : Int)
  (codeOf w (max lo (min hi i)), decide (i < lo) || decide (hi < i))

/-- An FP32 code in a floating format, times 2^`k`: code and saturation. Negative zero is kept (R265). -/
def floatCode (f : Fmt) (mode : Nat) (y : Nat) (k : Int) : Nat × Bool :=
  let v := (f32 y).mul ⟨1, k⟩
  if v.n = 0 then (if fneg y then f.signBit else 0, false) else f.round mode v

/-- An FP32 value in an output format that is not MX: code and saturation. -/
def toFormat (f mode y outScale : Nat) : Nat × Bool :=
  if fmtIsInt f then
    intCode (fmtBits f) mode (f32 (fmul y (to32 ((Dy.ofInt 1).div (f32 outScale)))))
  else floatCode (fmtOf f) mode y 0

/-- The shared scale of a block (R280). -/
def sharedScale (f : Nat) (ys : List Nat) : Nat :=
  let top := ys.foldl (fun (a : Dy) y => a.max (f32 y).abs) Dy.zero
  if top.n = 0 then 0
  else (max 0 (min 254 (binExp top - (if f = 10 then 0 else 2) + 127))).toNat

/-- One element of an MX block. -/
def mxElement (f mode scale y : Nat) : Nat × Bool :=
  if f = 10 then intCode 8 mode ((f32 y).mul ⟨1, 133 - (scale : Int)⟩)
  else floatCode (fmtOf f) mode y (127 - (scale : Int))

/-- The blocks of 32 of a row: scales, element codes, saturations. -/
def mxQuantise (f mode : Nat) : Nat → List Nat → List Nat × List Nat × Nat
  | 0, _ => ([], [], 0)
  | n + 1, ys =>
    if ys.isEmpty then ([], [], 0)
    else
      let x := sharedScale f (ys.take 32)
      let e := (ys.take 32).map (mxElement f mode x)
      let r := mxQuantise f mode n (ys.drop 32)
      (x :: r.1, e.map (·.1) ++ r.2.1, (e.filter (·.2)).length + r.2.2)

/-- Element codes as bytes (R265). -/
def packElements (w : Nat) (l : List Nat) : Bytes :=
  pack ((w * l.length + 7) / 8) (l.zipIdx.map (fun p => (w * p.2, w, p.1)))

/-! ## The epilogue (R278) -/

/-- Per-channel FP32 words of a layer: scales first, where there are any, then biases. -/
def layerScale (weights layer : Bytes) (c : Nat) : Nat :=
  if bitAt layer 19 then natOfBytes (slice weights (fld layer 288 32 + 4 * c) 4) else dscAccScale layer

def layerBias (weights layer : Bytes) (c : Nat) : Nat :=
  natOfBytes (slice weights (fld layer 288 32 + (if bitAt layer 19 then 4 * fld layer 208 16 else 0) + 4 * c) 4)

/-- y of the epilogue before the output conversion, from an FP32 accumulator and the residual as FP32, with what it counts. -/
def epilogueValue (weights layer : Bytes) (tables : Vector Bytes 8) (c acc residual : Nat) : Nat × Counts :=
  let y1 := fmul acc (layerScale weights layer c)
  let y2 := if bitAt layer 20 then fadd y1 (layerBias weights layer c) else y1
  let y3 := if bitAt layer 21 then fadd y2 residual else y2
  if dscTable layer = 15 then (y3, Counts.zero) else tableFunction (vget tables (dscTable layer)) y3

/-! ## The checksum column (R285 to R288) -/

/-- The sum of a product's W over its columns for a k, or of their magnitudes: w_c and w_a. -/
def rowSum (fw k : Nat) (w : List (List Elem)) (absolute : Bool) : Dy :=
  Dy.sum (w.map (fun l =>
    let v := elemVal fw (l.getD k (0, 127))
    if absolute then v.abs else v))

/-- An element of A at k. -/
def aValue (fa k : Nat) (a : List Elem) : Dy := elemVal fa (a.getD k (0, 127))

/-- A float CHECK: the passes of the column, each rounded once. -/
def checkPasses (fa fw kp : Nat) (a : List Elem) (w : List (List Elem)) : Nat → Nat → Dy → Dy
  | 0, _, acc => acc
  | n + 1, base, acc =>
    let sum := Dy.sum ((List.range (min kp (a.length - base))).map (fun j =>
      (aValue fa (base + j) a).mul (rowSum fw (base + j) w false)))
    checkPasses fa fw kp a w n (base + kp) (f32 (to32 (acc.add sum)))

/-- The outcome of a row's check: whether it matches, whether it was skipped, and the value its signature takes. -/
structure RowCheck where
  ok : Bool
  skipped : Bool
  sign : Nat

/-- The comparison of one product row (R285, R286). -/
def checkRow (fa fw : Nat) (a : List Elem) (w : List (List Elem)) (accs : List Acc) : RowCheck :=
  if fmtIsInt fa then
    let check := (Dy.sum ((List.range a.length).map (fun k => (aValue fa k a).mul (rowSum fw k w false)))).floor
    let out := accs.foldl (fun (t : Int) c => match c with
      | .int i => t + i
      | .fp _ _ => t) 0
    { ok := check == out, skipped := false, sign := codeOf 64 check }
  else
    let kp := (pairKp fa fw).getD 64
    let passes := (a.length + kp - 1) / kp
    let check := checkPasses fa fw kp a w passes 0 Dy.zero
    let out := Dy.sum (accs.map (fun c => f32 (accFp32 c)))
    let sAbs := Dy.sum ((List.range a.length).map (fun k => (aValue fa k a).abs.mul (rowSum fw k w true)))
    let tau := ((Dy.ofInt (passes + 2)).mul ⟨1, -23⟩).mul sAbs |>.add ⟨1, -120⟩
    let skipped := accs.any accSaturated
    { ok := skipped || ((check.sub out).abs.le tau), skipped := skipped, sign := to32 check }

/-- A product row: its accumulators with the faults of the silicon, and the check of every group of 64 columns. -/
structure ProductRow where
  accs : List Acc
  checks : List RowCheck

/-- The product of a row of A with the columns of W, which the array takes 64 at a time (R269). -/
def productRow (fa fw : Nat) (a : List Elem) (w : List (List Elem)) (upset : List (Nat × Int)) : ProductRow :=
  let accs := (w.map (accumulate fa fw a)).zipIdx.map (fun p => match p.1, upset.find? (fun u => u.1 == p.2) with
    | .int i, some u => Acc.int (i + u.2)
    | .fp _ _, some u => Acc.fp (codeOf 32 u.2) false
    | x, none => x)
  { accs := accs,
    checks := (List.range ((w.length + 63) / 64)).map (fun g =>
      checkRow fa fw a ((w.drop (64 * g)).take 64) ((accs.drop (64 * g)).take 64)) }

/-! ## Tensors in memory (R265, R267, R268) -/

/-- Bytes of an MX block of 32 elements, its scale apart (Table 9.2). -/
def mxBlockBytes (f : Nat) : Nat := 4 * fmtBits f

/-- Bytes of a row of n elements: MX rows in block groups, the last of which holds the blocks that remain (R268). -/
def rowBytes (f n : Nat) : Nat := if fmtIsMx f then n / 32 * (1 + mxBlockBytes f) else (fmtBits f * n + 7) / 8

/-- Where the scale of block b of an MX row of n blocks stands, and where its elements begin: each group of 32 blocks opens with
their scales (R267). -/
def mxScaleAt (f b : Nat) : Nat := b / 32 * (32 * (1 + mxBlockBytes f)) + b % 32
def mxBlockAt (f n b : Nat) : Nat :=
  b / 32 * (32 * (1 + mxBlockBytes f)) + min 32 (n - b / 32 * 32) + b % 32 * mxBlockBytes f

/-- The field of an element among bytes: bit offset and width (R265). -/
def codeIn (fetch : Nat → Nat → Bytes) (at_ bit w : Nat) : Nat :=
  natOfBytes (fetch (at_ + bit / 8) ((bit % 8 + w + 7) / 8)) / 2 ^ (bit % 8) % 2 ^ w

/-- Element c of a row of `len` elements that begins at an address. -/
def readElem (fetch : Nat → Nat → Bytes) (f at_ len c : Nat) : Elem :=
  let w := fmtBits f
  if fmtIsMx f then
    (codeIn fetch (at_ + mxBlockAt f (len / 32) (c / 32)) (w * (c % 32)) w,
      natOfBytes (fetch (at_ + mxScaleAt f (c / 32)) 1))
  else (codeIn fetch at_ (w * c) w, 127)

/-- What a step reads: the tile's SRAM, the patch's spilled activations in LPDDR, the weights that streamed in, the table store and
the landing sums. -/
structure StepMemory where
  sram : List Host.Cell
  spill : List Host.Cell
  weights : Bytes
  tables : Vector Bytes 8
  landing : List (Nat × Int)

/-- Bytes from a place. -/
def StepMemory.fetch (m : StepMemory) : Place → Nat → Nat → Bytes
  | .sram => cellsGet m.sram
  | .lpddr => cellsGet m.spill
  | .weights => slice m.weights

/-- The elements of a segment. -/
def segmentElems (m : StepMemory) (f : Nat) (g : Segment) : List Elem :=
  (List.range g.count).map (fun i => readElem (m.fetch g.place) f g.at_ g.len (g.first + i))

def segments (m : StepMemory) (f : Nat) (l : List Segment) : List Elem := l.flatMap (segmentElems m f)

/-- The elements of a whole row. -/
def rowElems (m : StepMemory) (f : Nat) (place : Place) (at_ n : Nat) : List Elem :=
  (List.range n).map (readElem (m.fetch place) f at_ n)

/-- Non-finite inputs among elements: codes that are no numbers, and shared scales of 0xFF, one for each block (R275). -/
def badElems (f : Nat) (l : List Elem) : Nat :=
  (l.filter (fun x => elementBad f x.1)).length +
    (l.zipIdx.filter (fun x => fmtIsMx f && x.1.2 == 255 && x.2 % 32 == 0)).length

/-- An output row as bytes at their addresses, the saturations, and the values written as FP32 or INT32 codes: channels from
`channel` on of a row of `len` elements that begins at an address (R265, R267, R278 to R280). -/
def writeRow (f mode outScale at_ len channel : Nat) (ys : List Nat) : List (Nat × Bytes) × Nat × List Nat :=
  if fmtIsMx f then
    let q := mxQuantise f mode (ys.length / 32 + 1) ys
    let block (i : Nat) : List Nat := (q.2.1.drop (32 * i)).take 32
    (q.1.zipIdx.flatMap (fun x =>
        [(at_ + mxScaleAt f (channel / 32 + x.2), [BitVec.ofNat 8 x.1]),
         (at_ + mxBlockAt f (len / 32) (channel / 32 + x.2), packElements (fmtBits f) (block x.2))]),
      q.2.2, q.2.1.zipIdx.map (fun c => elemFp32 f (c.1, q.1.getD (c.2 / 32) 127)))
  else
    let q := ys.map (fun y => toFormat f mode y outScale)
    ([(at_ + fmtBits f * channel / 8, packElements (fmtBits f) (q.map (·.1)))], (q.filter (·.2)).length,
      q.map (fun c => if fmtIsInt f then codeOf 64 (signedOf (fmtBits f) c.1) else elemFp32 f (c.1, 127)))

/-! ## The vector unit -/

/-- An FP32 result rounded once, with its saturation (R272, R274). -/
def vecFp (neg : Bool) (x : Dy) : Nat × Counts :=
  (roundSigned neg x, { Counts.zero with saturations := flag (fmt32.round 0 x).2 })

/-- An INT32 result, saturated (R274). -/
def vecInt (i : Int) : Nat × Counts := (codeOf 32 (sat32 i), { Counts.zero with saturations := flag (decide (sat32 i ≠ i)) })

/-- Less, of FP32 or INT32 codes. -/
def vecLess (int : Bool) (a b : Nat) : Bool := if int then decide (signedOf 32 a < signedOf 32 b) else flt a b

/-- A sum over lanes in a binary tree: neighbours first. -/
def pairSums : List Nat → List Nat × Counts
  | a :: b :: l =>
    let x := vecFp (fneg a && fneg b) ((f32 a).add (f32 b))
    let r := pairSums l
    (x.1 :: r.1, x.2.add r.2)
  | l => (l, Counts.zero)

def treeSum : Nat → List Nat → Nat × Counts
  | 0, l => (l.headD 0, Counts.zero)
  | n + 1, l =>
    if l.length ≤ 1 then (l.headD 0, Counts.zero)
    else
      let p := pairSums l
      let r := treeSum n p.1
      (r.1, p.2.add r.2)

/-- One operation of the vector unit on the values so far. -/
def vecOp (tables : Vector Bytes 8) (v : List Nat) : VecOp → Nat × Counts
  | .const c => (c % 2 ^ 32, Counts.zero)
  | .add int a b =>
    let x := v.getD a 0
    let y := v.getD b 0
    if int then vecInt (signedOf 32 x + signedOf 32 y) else vecFp (fneg x && fneg y) ((f32 x).add (f32 y))
  | .sub int a b =>
    let x := v.getD a 0
    let y := v.getD b 0
    if int then vecInt (signedOf 32 x - signedOf 32 y) else vecFp (fneg x && !fneg y) ((f32 x).sub (f32 y))
  | .mul int a b =>
    let x := v.getD a 0
    let y := v.getD b 0
    if int then vecInt (signedOf 32 x * signedOf 32 y) else vecFp (fneg x != fneg y) ((f32 x).mul (f32 y))
  | .fma int a b c =>
    let x := v.getD a 0
    let y := v.getD b 0
    let z := v.getD c 0
    if int then vecInt (signedOf 32 x * signedOf 32 y + signedOf 32 z)
    else vecFp ((fneg x != fneg y) && fneg z) (((f32 x).mul (f32 y)).add (f32 z))
  | .min int a b => (if vecLess int (v.getD b 0) (v.getD a 0) then v.getD b 0 else v.getD a 0, Counts.zero)
  | .max int a b => (if vecLess int (v.getD a 0) (v.getD b 0) then v.getD b 0 else v.getD a 0, Counts.zero)
  | .less int a b => (flag (vecLess int (v.getD a 0) (v.getD b 0)), Counts.zero)
  | .select a b c => (if v.getD a 0 = 0 then v.getD c 0 else v.getD b 0, Counts.zero)
  | .and a b => (v.getD a 0 &&& v.getD b 0, Counts.zero)
  | .or a b => (v.getD a 0 ||| v.getD b 0, Counts.zero)
  | .xor a b => (v.getD a 0 ^^^ v.getD b 0, Counts.zero)
  | .shiftLeft a n => (v.getD a 0 * 2 ^ min 32 n % 2 ^ 32, Counts.zero)
  | .shiftRight a n => (codeOf 32 (signedOf 32 (v.getD a 0) / 2 ^ min 32 n), Counts.zero)
  | .toInt round a =>
    let r := intCode 32 round (f32 (v.getD a 0))
    (r.1, { Counts.zero with saturations := flag r.2 })
  | .ofInt a => (fofInt (signedOf 32 (v.getD a 0)), Counts.zero)
  | .table n a => tableFunction (vget tables n) (v.getD a 0)
  | .sum l => treeSum l.length (l.map (fun i => v.getD i 0))
  | .top l => (l.foldl (fun m i => if vecLess false m (v.getD i 0) then v.getD i 0 else m) (v.getD (l.headD 0) 0), Counts.zero)
  | .bottom l => (l.foldl (fun m i => if vecLess false (v.getD i 0) m then v.getD i 0 else m) (v.getD (l.headD 0) 0), Counts.zero)

/-- The values after every operation, and what they counted. -/
def vecRun (tables : Vector Bytes 8) (inputs : List Nat) (ops : List VecOp) : List Nat × Counts :=
  ops.foldl (fun (s : List Nat × Counts) o =>
    let r := vecOp tables s.1 o
    (s.1 ++ [r.1], s.2.add r.2)) (inputs, Counts.zero)

/-! ## One output row -/

/-- What a step's rows yield: the bytes written, the values that its signature takes, the product rows whose checks failed, and
the counts. -/
structure StepResult where
  writes : List (Nat × Bytes)
  signs : List Nat
  failed : List Nat
  counts : Counts

def StepResult.zero : StepResult := { writes := [], signs := [], failed := [], counts := Counts.zero }

def StepResult.append (a b : StepResult) : StepResult :=
  { writes := a.writes ++ b.writes, signs := a.signs ++ b.signs, failed := a.failed ++ b.failed,
    counts := a.counts.add b.counts }

/-- Accumulators through the epilogue of a layer into their output row: channels from `channel` on of a row of OUT_CHANNELS at
an address. `signed` where the step signs its outputs (R278, R288). -/
def epilogueRow (m : StepMemory) (shared layer : Bytes) (at_ channel : Nat) (accs : List Acc) (residual : List Nat)
    (signed : Bool) : StepResult :=
  let ys := accs.zipIdx.map (fun p =>
    epilogueValue shared layer m.tables (channel + p.2) (accFp32 p.1) (residual.getD p.2 0))
  let w := writeRow (dscOut layer) (dscRound layer) (dscOutScale layer) at_ (fld layer 208 16) channel (ys.map (·.1))
  let counts := ys.foldl (fun (a : Counts) y => a.add y.2) Counts.zero
  { writes := w.1, signs := if signed then w.2.2 else [], failed := [],
    counts := { counts with saturations := counts.saturations + (accs.filter accSaturated).length + w.2.1 } }

/-- The check of a product row: its signatures, whether it failed, and what it counts. -/
def checkResult (index : Nat) (p : ProductRow) : StepResult :=
  { writes := [], signs := p.checks.map (·.sign), failed := if p.checks.all (·.ok) then [] else [index],
    counts := { Counts.zero with skipped := (p.checks.filter (·.skipped)).length } }

/-- Non-finite inputs counted. -/
def nonfiniteResult (n : Nat) : StepResult :=
  { StepResult.zero with counts := { Counts.zero with nonfinite := n } }

/-- The upset of one product row. -/
def upsetOf (upset : List (Nat × Nat × Int)) (index : Nat) : List (Nat × Int) :=
  (upset.filter (fun u => u.1 == index)).map (·.2)

/-- One output row of a step (R270, R275, R278, R285 to R288, R300). -/
def rowResult (m : StepMemory) (shared layer : Bytes) (upset : List (Nat × Nat × Int)) (row : StepRow × Nat) : StepResult :=
  let fa := dscA layer
  let fw := dscW layer
  let res := segments m row.1.residualFormat row.1.residual
  let resBad := if bitAt layer 21 then badElems row.1.residualFormat res else 0
  let finish (accs : List Acc) (signed : Bool) : StepResult :=
    epilogueRow m shared layer row.1.at_ row.1.channel accs (res.map (elemFp32 row.1.residualFormat)) signed
  match row.1.source with
  | .product a w =>
    let ea := segments m fa a
    let ew := w.map (segments m fw)
    let p := productRow fa fw ea ew (upsetOf upset row.2)
    (nonfiniteResult (badElems fa ea + (ew.map (badElems fw)).sum + resBad)).append
      ((checkResult row.2 p).append (finish p.accs false))
  | .landing cell outs =>
    (nonfiniteResult resBad).append
      (finish ((List.range outs).map (fun i => Acc.int (lookupD m.landing (cell * 32 + i) 0))) true)
  | .vector inputs ops int outs =>
    let ein := segments m fa inputs
    let v := vecRun m.tables (ein.map (elemFp32 fa)) ops
    (nonfiniteResult (badElems fa ein + resBad)).append
      ({ StepResult.zero with counts := v.2 }.append
        (finish (outs.map (fun i =>
          if int then Acc.int (signedOf 32 (v.1.getD i 0)) else Acc.fp (v.1.getD i 0) false)) true))

/-! ## Rule books at the tile (R211 to R214, R304 to R306) -/

/-- The parts of a rule book: where its list of rows, its halo list and its rules begin. -/
def bookOffsets (b : Bytes) : Nat := fld b 104 8
def bookKind (b : Bytes) : Nat := fld b 96 8
def bookRows (b : Bytes) : Nat := fld b 144 16
def bookListAt (b : Bytes) : Nat := (32 + 8 * bookOffsets b + 63) / 64 * 64
def bookHaloAt (b : Bytes) : Nat :=
  let size := if bookKind b = 0 then 16 else if bookKind b = 1 then 0 else 4
  (bookListAt b + size * bookRows b + 63) / 64 * 64
def bookRulesAt (b : Bytes) : Nat := (bookHaloAt b + 8 * fld b 112 16 + 63) / 64 * 64

/-- The rules of an offset's section: HALO, IN_ROW, OUT_ROW. -/
def bookRules (b : Bytes) (k : Nat) : List (Bool × Nat × Nat) :=
  let start := fld b (256 + 64 * k + 32) 32
  (List.range (fld b (256 + 64 * k) 32)).map (fun i =>
    let o := 8 * (bookRulesAt b + 4 * (start + i))
    (bitAt b (o + 31), fld b (o + 16) 15, fld b o 15))

/-- A row of a tensor. -/
def rowAt (r : RowsAt) (i : Nat) : Nat := r.at_ + r.stride * i

/-- One block of a sparse layer (R304): for each offset in order and each of its rules in stored order one product, added into
the accumulators of its OUT_ROW; then the epilogue of each row. -/
def sparseResult (m : StepMemory) (shared layer book : Bytes) (upset : List (Nat × Nat × Int)) (b : SparseBlock) : StepResult :=
  let fa := dscA layer
  let fw := dscW layer
  let ins := fld layer 192 16
  let outs := fld layer 208 16
  let last := min (bookRows book) (b.first + min 256 b.count)
  let rules := (List.range (bookOffsets book)).flatMap (fun k =>
    ((bookRules book k).filter (fun r => decide (b.first ≤ r.2.2) && decide (r.2.2 < last))).map (fun r => (k, r)))
  let products := rules.zipIdx.map (fun x =>
    let from_ := if x.1.2.1 then b.halo else b.own
    let a := rowElems m fa from_.place (rowAt from_ x.1.2.2.1) ins
    let w := (List.range outs).map (fun n =>
      rowElems m fw .weights (b.weights.getD x.1.1 0 + rowBytes fw ins * n) ins)
    (x.1.2.2.2, productRow fa fw a w (upsetOf upset x.2), badElems fa a + (w.map (badElems fw)).sum, x.2))
  let checks := products.foldl (fun (r : StepResult) p =>
    r.append ((nonfiniteResult p.2.2.1).append (checkResult p.2.2.2 p.2.1))) StepResult.zero
  (List.range (last - b.first)).foldl (fun (r : StepResult) i =>
    let o := b.first + i
    let accs := (products.filter (fun p => p.1 == o)).foldl (fun (t : List Acc) p =>
      List.zipWith Acc.add t p.2.1.accs) (List.replicate outs (Acc.clear fa))
    let res := if bitAt layer 21 then rowElems m b.residualFormat b.residual.place (rowAt b.residual o) outs else []
    r.append ((nonfiniteResult (badElems b.residualFormat res)).append
      (epilogueRow m shared layer (rowAt b.out o) 0 accs (res.map (elemFp32 b.residualFormat)) false))) checks

/-- The position of a coordinate entry (Table 7.7): LX, LY, VZ. -/
def coordOf (b : Bytes) (bit : Nat) : Int × Int × Int := (sfld b bit 11, sfld b (bit + 11) 11, (fld b (bit + 22) 6 : Nat))

/-- The positions of the rows of a set in a patch, in row order: of a VOXEL_LIST from its entries, of a submanifold set those of
its input set. -/
def setCoords (books : List (Nat × Bytes)) (side : Nat) : Nat → Nat → List (Int × Int × Int)
  | 0, _ => []
  | n + 1, set_ =>
    match books.find? (fun x => x.1 == set_) with
    | none => []
    | some x =>
      let b := x.2
      match bookKind b with
      | 0 => (List.range (bookRows b)).map (fun i =>
          let o := 8 * (bookListAt b + 16 * i)
          (((fld b (o + 95) 11 % side : Nat) : Int), ((fld b (o + 106) 11 % side : Nat) : Int), ((fld b (o + 117) 6 : Nat) : Int)))
      | 1 => setCoords books side n (fld b 24 8)
      | _ => (List.range (bookRows b)).map (fun i => coordOf b (8 * (bookListAt b + 4 * i)))

/-- The side of a patch in positions of a set (R212). -/
def setSide (books : List (Nat × Bytes)) (side : Nat) : Nat → Nat → Nat
  | 0, _ => side
  | n + 1, set_ =>
    match books.find? (fun x => x.1 == set_) with
    | none => side
    | some x => if bookKind x.2 = 0 then side else setSide books side n (fld x.2 24 8) / max 1 (fld x.2 64 8)

/-- Values pooled channel by channel: the largest, or the sum. -/
def poolRows (sum : Bool) : List (List Nat) → List Nat × Counts
  | [] => ([], Counts.zero)
  | r :: rs => rs.foldl (fun (t : List Nat × Counts) x =>
      let y := List.zipWith (fun a b =>
        if sum then vecFp (fneg a && fneg b) ((f32 a).add (f32 b)) else (if vecLess false a b then b else a, Counts.zero)) t.1 x
      (y.map (·.1), y.foldl (fun (c : Counts) z => c.add z.2) t.2)) (r, Counts.zero)

/-- Rows of an input pooled into one output row. -/
def pooledRow (m : StepMemory) (shared layer : Bytes) (sum : Bool) (own : RowsAt) (rows : List Nat) (at_ : Nat) : StepResult :=
  let fa := dscA layer
  let l := rows.map (fun i => rowElems m fa own.place (rowAt own i) (fld layer 192 16))
  let p := poolRows sum (l.map (fun r => r.map (elemFp32 fa)))
  (nonfiniteResult ((l.map (badElems fa)).sum)).append
    ({ StepResult.zero with counts := p.2 }.append
      (epilogueRow m shared layer at_ 0 (p.1.map (fun c => Acc.fp c false)) [] true))

/-- A block of a collapse (R306): each pillar of a kind 3 set takes the largest value or the sum of its input voxel rows, by
MODE. -/
def collapseResult (m : StepMemory) (shared layer : Bytes) (books : List (Nat × Bytes)) (side set_ : Nat) (b : SparseBlock) :
    StepResult :=
  let pillars := setCoords books side 17 set_
  let input := match books.find? (fun x => x.1 == set_) with
    | some x => setCoords books side 17 (fld x.2 24 8)
    | none => []
  (List.range (min pillars.length (b.first + min 256 b.count) - b.first)).foldl (fun (r : StepResult) i =>
    let p := pillars.getD (b.first + i) (0, 0, 0)
    let rows := (input.zipIdx.filter (fun c => c.1.1 == p.1 && c.1.2.1 == p.2.1)).map (·.2)
    r.append (pooledRow m shared layer (fld layer 188 4 == 1) b.own rows (rowAt b.out (b.first + i)))) StepResult.zero

/-- The rows of a 2D set that a cell of the patch takes: positions within it, or the coarser position that covers it (R306). -/
def rowsOfCell (coords : List (Int × Int × Int)) (side cell : Nat) : List Nat :=
  let within (p : Int) (c : Nat) : Bool :=
    if 64 ≤ side then decide (0 ≤ p) && p * 64 / (side : Int) == (c : Int) else p == ((c * side / 64 : Nat) : Int)
  (coords.zipIdx.filter (fun x => within x.1.1 (cell % 64) && within x.1.2.1 (cell / 64))).map (·.2)

/-- A block of a densify (R306): each cell takes the largest value of its positions, and zero where none reaches it. -/
def densifyResult (m : StepMemory) (shared layer : Bytes) (books : List (Nat × Bytes)) (side set_ : Nat) (b : SparseBlock) :
    StepResult :=
  let coords := setCoords books side 17 set_
  let n := setSide books side 17 set_
  let f := dscOut layer
  (List.range (min 4096 (b.first + b.count) - b.first)).foldl (fun (r : StepResult) i =>
    let rows := rowsOfCell coords n (b.first + i)
    r.append (if rows.isEmpty then
        let outs := fld layer 208 16
        { StepResult.zero with
          writes := [(rowAt b.out (b.first + i), zeros (rowBytes f outs))], signs := List.replicate outs 0 }
      else pooledRow m shared layer false b.own rows (rowAt b.out (b.first + i)))) StepResult.zero

/-! ## Input conversions (R282, R303) -/

/-- One value into INPUT_FORMAT: integers take a step of 1. -/
def inputCode (f mode x : Nat) : Nat × Bool := toFormat f mode x 0x3F800000

/-- The four channels of an element of a camera tensor. -/
def tensorChannels (u16 : Bool) (tensor : Bytes) (i : Nat) : List Nat :=
  (List.range 4).map (fun c => if u16 then fld tensor (64 * i + 16 * c) 16 else fld tensor (48 * i + 12 * c) 12)

/-- An element through the camera input descriptor (Table 9.6). -/
def cameraInput (dsc : Bytes) (codes : List Nat) : List (Nat × Bool) :=
  codes.zipIdx.map (fun p =>
    inputCode (fld dsc 4 4) (fld dsc 8 4)
      (fadd (fmul (fofInt p.1) (fld dsc (128 + 32 * p.2) 32)) (fld dsc (256 + 32 * p.2) 32)))

/-- The eight raw channels of a voxel entry (R303). -/
def voxelRaw (b : Bytes) : List Int :=
  [fld b 0 16, fld b 16 16, fld b 32 16, fld b 49 8, sfld b 57 10, fld b 67 8, fld b 126 1, fld b 117 6]

/-- A voxel entry through the lidar input descriptor: eight gains, eight offsets, and the tail. -/
def lidarInput (dsc : Bytes) (entry : Bytes) : List (Nat × Bool) :=
  (voxelRaw entry).zipIdx.map (fun p =>
    inputCode (fld dsc 512 4) (fld dsc 516 4)
      (fadd (fmul (fofInt p.1) (fld dsc (32 * p.2) 32)) (fld dsc (256 + 32 * p.2) 32)))

end Sys2Proof.Machine
end

