-- ==== Sys2Proof/Machine/LiftGround.lean ====
section
/-! DEFINITION. The mesh's routes, the lens models and ray tables, where the Lift's bins land, and the numbering of strips
(R242, R291, R295, R296). -/

namespace Sys2Proof.Machine

/-! ## The mesh (R239, R242) -/

/-- The edge ports of Table 8.4. -/
inductive EdgePort where
  | lpddr (n : Nat)
  | pe (n : Nat)
  | lift
  | ingest
  | solver
  | management
  | glide
deriving DecidableEq, Repr, Inhabited

/-- The router that carries an edge port (Table 8.4). -/
def edgeRouter : EdgePort → Nat
  | .lpddr n => if n < 4 then 14 * n else 14 * (n - 4) + 6
  | .pe n => [1, 2, 4, 5].getD n 1
  | .lift => 3
  | .ingest => 43
  | .solver => 44
  | .management => 45
  | .glide => 46

/-- The four ways a packet names its destination (R242). -/
inductive MeshDest where
  | tile (t : Nat)
  | slot (n : Nat)
  | mask (tiles : Nat)
  | edge (p : EdgePort)
deriving DecidableEq, Repr, Inhabited

/-- The routers a packet that a router injects goes to: a slot is turned into a tile by the router's copy of the route table
(R233, R242). -/
def meshTargets (s : State) (router : Nat) : MeshDest → List Nat
  | .tile t => [t]
  | .slot n => (vget (vget s.rink.copies router).owners n).toList
  | .mask m => (List.range 49).filter (fun t => bitOf m t)
  | .edge p => [edgeRouter p]

/-- The numbers from one to another, both included. -/
def walkTo (a b : Nat) : List Nat :=
  if a ≤ b then (List.range (b - a + 1)).map (fun i => a + i) else (List.range (a - b + 1)).map (fun i => a - i)

/-- The routers a packet crosses from one to another: x first, then y (R242). -/
def meshPath (a b : Nat) : List Nat :=
  ((walkTo (a % 7) (b % 7)).map (fun x => 7 * (a / 7) + x)) ++ ((walkTo (a / 7) (b / 7)).drop 1).map (fun y => 7 * y + b % 7)

/-- The links a multicast packet crosses, each once (R242): from router to router. -/
def meshTree (a : Nat) (l : List Nat) : List (Nat × Nat) :=
  (l.flatMap (fun b => (meshPath a b).zip ((meshPath a b).drop 1))).eraseDups

/-! ## The lens models of Table 6.2 (R295) -/

/-- A dyadic cut to 2⁻⁹⁶. -/
def Dy.cut (a : Dy) : Dy := ⟨(a.mul ⟨1, 96⟩).floor, -96⟩

/-- A quotient, cut; zero over zero. -/
def Dy.over (a b : Dy) : Dy := if b.n = 0 then Dy.zero else (a.div b).cut

/-- A parameter word of a camera's calibration. -/
def lensParam (calib : Bytes) (i : Nat) : Dy := f32 (fld calib (256 + 32 * i) 32)

/-- c0 + c1 x + c2 x² + … -/
def polynomial (x : Dy) : List Dy → Dy
  | [] => Dy.zero
  | c :: cs => (c.add (x.mul (polynomial x cs))).cut

/-- One step towards the undistorted point of the radial-tangential model (assumption 133): the point that the distortion at
the present one would take to the image point. -/
def radialStep (k1 k2 p1 p2 xd yd : Dy) (q : Dy × Dy) : Dy × Dy :=
  let two := Dy.ofInt 2
  let xy := (q.1.mul q.2).cut
  let x2 := (q.1.mul q.1).cut
  let y2 := (q.2.mul q.2).cut
  let r2 := x2.add y2
  let radial := polynomial r2 [Dy.ofInt 1, k1, k2]
  let dx := ((two.mul p1).mul xy).add (p2.mul (r2.add (two.mul x2)))
  let dy := (p1.mul (r2.add (two.mul y2))).add ((two.mul p2).mul xy)
  ((xd.sub dx).over radial, (yd.sub dy).over radial)

/-- One step towards the angle of the equidistant model. -/
def angleStep (ks : List Dy) (d t : Dy) : Dy := d.over (polynomial ((t.mul t).cut) (Dy.ofInt 1 :: ks))

def iterate {α : Type} (f : α → α) : Nat → α → α
  | 0, x => x
  | n + 1, x => iterate f n (f x)

/-- Steps of the inversion (assumption 133). -/
def lensSteps : Nat := 64

/-- A direction as a unit vector of FP32 codes. -/
def unitRay (x y z : Dy) : Nat × Nat × Nat :=
  let n := (((x.mul x).add (y.mul y)).add (z.mul z)).sqrt
  (to32 (x.div n), to32 (y.div n), to32 (z.div n))

/-- The unit ray of a pixel in the camera frame, the lens distortion removed (R295, Table 6.2): MODEL 0 radial-tangential, MODEL
1 equidistant fisheye. -/
def cameraRay (calib : Bytes) (px py : Dy) : Nat × Nat × Nat :=
  let w := lensParam calib
  let xd := (px.sub (w 2)).over (w 0)
  let yd := (py.sub (w 3)).over (w 1)
  if fld calib 16 2 = 0 then
    let q := iterate (radialStep (w 4) (w 5) (w 6) (w 7) xd yd) lensSteps (xd, yd)
    unitRay q.1 q.2 (Dy.ofInt 1)
  else
    let d := ((xd.mul xd).add (yd.mul yd)).sqrt
    let t := iterate (angleStep [w 4, w 5, w 6, w 7] d) lensSteps d
    let sc := Config.sinCos (to32 t)
    unitRay (((f32 sc.1).mul xd).over d) (((f32 sc.1).mul yd).over d) (f32 sc.2)

/-- The full-resolution x of the centre of a feature column (Table 10.1). -/
def columnPx (d : Bytes) (u : Nat) : Dy := (f32 (fld d 128 32)).add ((f32 (fld d 96 32)).mul (Dy.ofInt (u : Int)))

/-- A camera's ray table: the unit ray of every feature column (R295). -/
def rayTable (s : State) (rec_ : Bytes) : Bytes :=
  let d := liftDescriptor rec_
  (List.range (fld d 80 16)).flatMap (fun (u : Nat) =>
    let v := cameraRay (setting s 0x0500 (fld rec_ 0 4)) (columnPx d u) (f32 (fld d 160 32))
    bytesOfNat 4 v.1 ++ bytesOfNat 4 v.2.1 ++ bytesOfNat 4 v.2.2)

/-- The ray tables of the plan in use are built (R295). -/
def buildRays (s : State) : State :=
  modRink (fun (r : Rink) => { r with
    rays := (cameraRecords (planImage s)).map (fun b => (fld b 0 4, rayTable s b)) }) s

/-! ## Geometry (R296) -/

/-- A dyadic to a power. -/
def Dy.pow (a : Dy) : Nat → Dy
  | 0 => Dy.ofInt 1
  | n + 1 => a.mul (Dy.pow a n)

/-- The distance of bin b (Table 10.1). -/
def binDistance (d : Bytes) (b : Nat) : Dy :=
  let lo := f32 (fld d 192 32)
  let step := f32 (fld d 224 32)
  if fld d 48 2 = 0 then lo.add (step.mul (Dy.ofInt b)) else lo.mul (Dy.pow step b)

/-- The camera origin o and the ray a_u in the anchor frame, exactly. -/
def rayInAnchor (calib : Bytes) (p : PoseEntry) (ray : Nat × Nat × Nat) : Dy3 × Dy3 :=
  let q := calibQ calib
  let t := calibT calib
  let turn (v : Dy3) : Dy3 :=
    let w := rotateRaw (f32 p.qW) (f32 p.qX) (f32 p.qY) (f32 p.qZ) v
    (w.1.1.div w.2, w.1.2.1.div w.2, w.1.2.2.div w.2)
  let o := turn t
  let r := rotateRaw q.1 q.2.1 q.2.2.1 q.2.2.2 (f32 ray.1, f32 ray.2.1, f32 ray.2.2)
  ((o.1.add (f32 p.posX), o.2.1.add (f32 p.posY), o.2.2.add (f32 p.posZ)),
   turn (r.1.1.div r.2, r.1.2.1.div r.2, r.1.2.2.div r.2))

/-- Where a bin of a column lands: global patch and local cell; none outside the extent. -/
structure LiftBin where
  patch : Int × Int
  cell : Nat
  weight : Int
deriving DecidableEq, Repr, Inhabited

/-- The cell of a ground point: its global patch and its local cell, ly × 64 + lx (R231). -/
def cellAtPoint (s : State) (x y : Dy) : (Int × Int) × Nat :=
  let gx := unitsOf x (cellCm s.rink.cellCode)
  let gy := unitsOf y (cellCm s.rink.cellCode)
  ((gx / 64, gy / 64), (gy % 64).toNat * 64 + (gx % 64).toNat)

/-- A global patch lies in the extent in force. -/
def patchInExtent (s : State) (g : Int × Int) : Bool :=
  inExtent s.rink.centreX s.rink.centreY s.rink.reduced (reducedSide s) g.1 g.2

/-- The bins of a column in ascending order: none where one falls outside the extent. -/
def columnBins (s : State) (d : Bytes) (o a : Dy3) (weights : List Int) : List (Option LiftBin) :=
  let len := ((a.1.mul a.1).add (a.2.1.mul a.2.1)).sqrt
  weights.zipIdx.map (fun w =>
    let dist := binDistance d w.2
    let p := cellAtPoint s (o.1.add ((dist.mul a.1).div len)) (o.2.1.add ((dist.mul a.2.1).div len))
    if patchInExtent s p.1 then some { patch := p.1, cell := p.2, weight := w.1 } else none)

/-- The column is dropped whole: |(a_x, a_y)| below 0.05. -/
def degenerate (a : Dy3) : Bool :=
  (((a.1.mul a.1).add (a.2.1.mul a.2.1)).mul (Dy.ofInt 400)).lt (Dy.ofInt 1)

/-- The ray of a column in the anchor frame, origin and direction, for the frame on the array (R296). -/
def columnRay (s : State) (f : TileFrame) (r u : Nat) : Option (Dy3 × Dy3) :=
  match f.poses.find? (fun p => p.1 == r), s.rink.rays.find? (fun p => p.1 == r) with
  | some p, some table =>
    let at_ (k : Nat) : Nat := fld table.2 (96 * u + 32 * k) 32
    some (rayInAnchor (setting s 0x0500 r) p.2 (at_ 0, at_ 1, at_ 2))
  | _, _ => none

/-! ## Strips (R291, R292) -/

/-- The strips of a frame in their numbering: the admitted cameras in ascending order, each from left to right. -/
def frameStrips (img : Bytes) (cams : List (Nat × Nat)) : List (Nat × Nat) :=
  (List.range 8).flatMap (fun r =>
    if cams.any (fun c => c.1 == r) then
      match cameraRecord img r with
      | some rec_ => (List.range (fld (stripDeclaration rec_) 16 16)).map (fun i => (r, i))
      | none => []
    else [])

/-- The slot that a strip is dealt to: ordinal j mod S. -/
def stripSlot (f : TileFrame) (j : Nat) : Option Nat :=
  if f.deal.isEmpty || decide (f.strips.length ≤ j) then none else f.deal[j % f.deal.length]?

/-- The pass of a strip. -/
def stripPassOf (f : TileFrame) (j : Nat) : Nat := j / max 1 f.deal.length

/-- The quad columns of a strip with its overlap: first, and the one after the last (Table 11.6). -/
def stripSpan (decl : Bytes) (place : Nat) : Nat × Nat :=
  let w := fld decl 32 16
  let o := fld decl 48 16
  (place * w - o, min (fld decl 64 16) (place * w + w + o))

/-- The place of the strip whose tile forms a feature column: that which keeps the quad column of its centre, the nearest
beyond the image (assumption 134). -/
def columnPlace (rec_ : Bytes) (u : Nat) : Nat :=
  let decl := stripDeclaration rec_
  min (((columnPx (liftDescriptor rec_) u).mul ⟨1, -1⟩).floor.toNat / max 1 (fld decl 32 16)) (fld decl 16 16 - 1)

/-- The number of the strip that forms a column. -/
def columnStrip (f : TileFrame) (r : Nat) (rec_ : Bytes) (u : Nat) : Nat :=
  f.strips.findIdx (fun x => x == (r, columnPlace rec_ u))

/-- The slots that a column's bins reach. -/
def columnReach (s : State) (f : TileFrame) (r : Nat) (rec_ : Bytes) (u : Nat) : List Nat :=
  match columnRay s f r u with
  | some g =>
    if degenerate g.2 then []
    else (columnBins s (liftDescriptor rec_) g.1 g.2 (List.replicate (fld (liftDescriptor rec_) 72 8) 0)).filterMap
      (fun b => b.map (fun x => slotIndex x.patch.1 x.patch.2))
  | none => []

/-- The columns that the Lift awaits in a pass: those of the admitted cameras that send in it, without the lost strips'
(R292, R297, R300). -/
def passColumns (img : Bytes) (f : TileFrame) : List (Nat × Nat) :=
  (List.range 8).flatMap (fun r =>
    match cameraRecord img r with
    | some rec_ =>
      let d := liftDescriptor rec_
      if !f.cameras.any (fun c => c.1 == r) || (f.pass != 0 && decide (fld d 56 8 ≤ 32)) then []
      else ((List.range (fld d 80 16)).filter (fun u => !f.lostStrips.contains (columnStrip f r rec_ u))).map (fun u => (r, u))
    | none => [])

end Sys2Proof.Machine
end

