-- ==== Sys2Proof/Machine/RinkUnit.lean ====
section
/-! DEFINITION. The Rink: frame boundaries, scroll, rebase and recentre of the route table, Crossover, retirement and
the ladder, and the subsystem's commands (R230 to R263, R291, R335 to R340, R581). -/

namespace Sys2Proof.Machine

/-! ## Tiles and the route table (R233, R247) -/

/-- A source number of the Rink and tiles subsystem: mesh position, tile or router (Table 15.3). -/
def rinkFault (position side : Nat) : Nat := sourceOf 0x07 position side

/-- The serpentine walk order (R247). -/
def walkOrder : List Nat :=
  (List.range 49).map (fun i => let y := i / 7; let x := i % 7; 7 * y + (if y % 2 = 0 then x else 6 - x))

/-- The walk order from the place after a tile, once around. -/
def walkAfter (t : Nat) : List Nat :=
  let i := walkOrder.findIdx (fun u => u == t)
  walkOrder.drop (i + 1) ++ walkOrder.take (i + 1)

def tileRole (s : State) (t : Nat) : TileRole := (vget s.rink.tiles t).role

/-- The tiles in a role, in walk order. -/
def tilesIn (s : State) (r : TileRole) : List Nat := walkOrder.filter (fun t => tileRole s t == r)

/-- A route-table change: a new generation (R233). -/
def newGeneration (s : State) : State :=
  modRink (fun (r : Rink) => { r with generation := (r.generation + 1) % 2 ^ 32 }) s

/-- A tile takes a slot, or none. -/
def setRole (t : Nat) (role : TileRole) (slot : Option Nat) (s : State) : State :=
  modTile t (fun (x : Tile) => { x with role := role, slot := slot }) s

/-- A tile becomes a spare to be tested. -/
def beginTest (t : Nat) (s : State) : State :=
  modRink (fun (r : Rink) => { r with nextOrder := r.nextOrder + 1 })
    (modTile t (fun (x : Tile) =>
      { x with role := .spareTesting, slot := none, spareSince := s.rink.nextOrder, draining := false }) s)

/-- The tile that has been in a role longest, by an order number. -/
def longest (s : State) (role : TileRole) (order : Tile → Nat) : Option Nat :=
  (tilesIn s role).foldl (fun (b : Option Nat) t => match b with
    | some u => if order (vget s.rink.tiles t) < order (vget s.rink.tiles u) then some t else b
    | none => some t) none

/-- The tiles that take what is written for a slot: its owner, and its migration's target, which the owner's writes are mirrored
to during the copy and which every packet reaches in the shadow step (R248). -/
def holdersOf (s : State) (slot : Nat) : List Nat :=
  match ownerOf s slot, s.rink.migration with
  | some t, some m => if m.source = t ∧ m.phase ≠ .drain then [t, m.target] else [t]
  | some t, none => [t]
  | none, _ => []

/-- A write to the tile of a slot, with its mirror. -/
def writeSlot (slot : Nat) (f : Tile → Tile) (s : State) : State :=
  (holdersOf s slot).foldl (fun (u : State) t => modTile t f u) s

/-- The weight multicast group: the service tiles, and from the copy on a migration's target (R248). -/
def weightGroup (s : State) : Nat :=
  maskOf 49 (fun t => tileRole s t == .service || tileRole s t == .migrationTarget)

/-! ## Clears (R234, R237, R238) -/

/-- A tile zeroes a region of its SRAM. -/
def zeroRegion (t : Nat) (region : Nat × Nat) (s : State) : State :=
  modTile t (fun (x : Tile) => { x with sram := cellsZero x.sram region.1 region.2 }) s

/-- A patch is cleared: its temporal-state and BEV-feature regions read zero, and its history begins again. -/
def clearPatch (slot : Nat) (s : State) : State :=
  let s1 := modSlot slot (fun (x : Slot) => { x with historyAge := 0, clearing := true, stateInstant := none }) s
  holdersOf s1 slot |>.foldl (fun (u : State) t =>
    modTile t (fun (x : Tile) => { x with working := default, uncommitted := none })
      (zeroRegion t (bevRegion s1) (zeroRegion t (stateRegion s1) u))) s1

/-- A patch is cleared by a change at a frame boundary, once however many changes clear it (R252). -/
def clearOnce (slot : Nat) (s : State) : State :=
  clearPatch slot (modRink (fun (r : Rink) => { r with
    clearedNow := if r.clearedNow.contains slot then r.clearedNow else r.clearedNow ++ [slot] }) s)

/-- A patch cleared by scroll or recentre is counted, once a boundary: the slot holds new ground, which is not CONTESTED. -/
def countClear (slot : Nat) (s : State) : State :=
  let s1 := if s.rink.clearedNow.contains slot then s
    else modCounters (fun (c : RinkCounters) => { c with patchClears := bump c.patchClears }) s
  clearOnce slot
    (modAlign (fun (a : Align) => { a with contestedPatches := a.contestedPatches.filter (fun c => c.id != slot) }) s1)

/-! ## Scroll, rebase, recentre (R234 to R236, R581) -/

/-- The global patches of an extent, in ascending slot index. -/
def extentPatches (cx cy : Int) (reduced : Bool) (side : Nat) : List (Int × Int) :=
  ((List.range 48).map (patchOfSlot cx cy)).filter (fun g => inExtent cx cy reduced side g.1 g.2)

/-- The slots of the Sentry patches about a centre, in the order of SENTRY_PATCHES (Table 11.4). -/
def sentryPatches (s : State) (cx cy : Int) : List (Int × Int) :=
  match variantFit s with
  | some f => (List.range 4).map (fun i =>
      (cx + (fld f.record (320 + 8 * i) 4 : Nat) - 4, cy + (fld f.record (324 + 8 * i) 4 : Nat) - 3))
  | none => []

/-- A slot's tile passes to another slot. -/
def moveTile (from_ to_ : Nat) (s : State) : State :=
  match ownerOf s from_ with
  | some t => modTile t (fun (x : Tile) => { x with slot := some to_ }) s
  | none => s

/-- A change of centre in Drive: entering patches are cleared; in reduced extent a tile of the leaving row takes the
entering slot of its column. -/
def moveDrive (cx cy : Int) (s : State) : State :=
  let r := s.rink
  let side := reducedSide s
  let old := extentPatches r.centreX r.centreY r.reduced side
  let fresh := (extentPatches cx cy r.reduced side).filter (fun g => !old.contains g)
  let left := old.filter (fun g => !(extentPatches cx cy r.reduced side).contains g)
  let slots := (extentPatches cx cy r.reduced side).map (fun g => slotIndex g.1 g.2)
  let s1 := fresh.foldl (fun (t : State) g =>
    let n := slotIndex g.1 g.2
    if (ownerOf t n).isSome then t
    else match left.find? (fun h => h.1 % 8 == g.1 % 8 && !slots.contains (slotIndex h.1 h.2) &&
        (ownerOf t (slotIndex h.1 h.2)).isSome) with
      | some h => moveTile (slotIndex h.1 h.2) n t
      | none => t) s
  fresh.foldl (fun (t : State) g => countClear (slotIndex g.1 g.2) t)
    (modRink (fun (x : Rink) => { x with centreX := cx, centreY := cy }) s1)

/-- A change of centre in Sentry (R581). -/
def moveSentry (cx cy : Int) (s : State) : State :=
  let r := s.rink
  let old := sentryPatches s r.centreX r.centreY
  let new := sentryPatches s cx cy
  let gone := old.filter (fun g => !new.contains g)
  let come := new.filter (fun g => !old.contains g)
  let idx (g : Int × Int) : Nat := slotIndex g.1 g.2
  let owners := (gone.zip come).map (fun p => (ownerOf s (idx p.1), idx p.2))
  let s1 := owners.foldl (fun (t : State) o => match o.1 with
    | some u => modTile u (fun (x : Tile) => { x with slot := some o.2 }) t
    | none => t) s
  let s2 := modRink (fun (x : Rink) =>
    { x with centreX := cx, centreY := cy, sentrySlots := some (new.map idx) }) s1
  come.foldl (fun (t : State) g => countClear (idx g) t) s2

/-- One scroll of a patch (R234, R581). -/
def scrollBy (dx dy : Int) (s : State) : State :=
  let cx := s.rink.centreX + dx
  let cy := s.rink.centreY + dy
  let s1 := if inSentry s then moveSentry cx cy s else moveDrive cx cy s
  newGeneration (modRink (fun (r : Rink) => { r with scrollsEpoch := r.scrollsEpoch + 1 })
    (modCounters (fun (c : RinkCounters) => { c with scrolls := bump c.scrolls }) s1))

/-- `n` scrolls along one axis. -/
def scrollAxis (x : Bool) (sign : Int) : Nat → State → State
  | 0, s => s
  | n + 1, s => scrollAxis x sign n (if x then scrollBy sign 0 s else scrollBy 0 sign s)

/-- The route table turns under a rebase (R235): the ground keeps its tile, its data and its marks. -/
def rotateRoutes (mx my : Int) (s : State) : State :=
  let to_ (n : Nat) : Nat := slotIndex ((n % 8 : Nat) - mx) ((n / 8 : Nat) - my)
  let slots := (List.range 48).foldl (fun (v : Vector Slot 48) n => vset v (to_ n) (vget s.rink.slots n)) s.rink.slots
  let tiles := (List.range 49).foldl (fun (v : Vector Tile 49) t =>
    vmod v t (fun (x : Tile) => { x with slot := x.slot.map to_ })) s.rink.tiles
  let s := modAlign (fun (a : Align) =>
    { a with contestedPatches := a.contestedPatches.map (fun c => { c with id := to_ c.id }) }) s
  newGeneration (modCounters (fun (c : RinkCounters) => { c with rebaseRotations := bump c.rebaseRotations })
    (modRink (fun (r : Rink) => { r with
      slots := slots, tiles := tiles, centreX := r.centreX - mx, centreY := r.centreY - my,
      rebaseX := r.rebaseX + mx, rebaseY := r.rebaseY + my, anchorSeq := (r.anchorSeq + 1) % 65536, sentrySlots := r.sentrySlots.map (fun l => l.map to_) }) s))

/-- X and Y of a track moved by whole patches. -/
def shiftTrack (s : State) (mx my : Int) (t : Track) : Track :=
  { t with state := t.state.zipIdx.map (fun p =>
      if p.2 = 0 then shiftPatches s p.1 mx else if p.2 = 1 then shiftPatches s p.1 my else p.1) }

/-- A zone's vertices moved by whole patches. -/
def shiftZone (s : State) (mx my : Int) (b : Bytes) : Bytes :=
  b.take 8 ++ (List.range (fld b 8 8)).flatMap (fun i =>
    bytesOfNat 4 (shiftPatches s (fld b (64 + 64 * i) 32) mx) ++ bytesOfNat 4 (shiftPatches s (fld b (96 + 64 * i) 32) my))

/-- A detection moved by whole patches. -/
def shiftDetection (s : State) (mx my : Int) (d : Detection) : Detection :=
  { d with x := shiftPatches s d.x mx, y := shiftPatches s d.y my }

def shiftEntry (s : State) (mx my : Int) : PendingEntry → PendingEntry
  | .write c born => .write (shiftTrack s mx my c) born
  | .job i d => .job i (shiftDetection s mx my d)
  | .mergeJob i e => .mergeJob i (shiftTrack s mx my e)
  | .dropped i => .dropped i

/-- A propagated track moved by whole patches. -/
def shiftProp (s : State) (mx my : Int) (p : PropTrack) : PropTrack :=
  { p with state := [shiftPatches s (p.state.getD 0 0) mx, shiftPatches s (p.state.getD 1 0) my] ++ p.state.drop 2 }

/-- The patch entries of a frame in the slots that their ground has after the move. -/
def shiftPatchList (mx my : Int) (l : List Nat) : List Nat :=
  if l.isEmpty then l
  else (List.range 48).map (fun n => l.getD (slotIndex ((n % 8 : Nat) - mx) ((n / 8 : Nat) - my)) 0)

/-- A frame's detections on their way to Glide move with the anchor. -/
def shiftSet (s : State) (mx my : Int) (d : DetectionSet) : DetectionSet :=
  { d with
    detections := d.detections.map (shiftDetection s mx my), patches := shiftPatchList mx my d.patches,
    centreX := d.centreX + mx, centreY := d.centreY + my }

/-- An event that its tick has not stamped yet moves with the anchor. -/
def shiftEvent (s : State) (mx my : Int) (e : Event) : Event :=
  if e.tick ≠ 0 ∨ e.patchEvent then e else { e with x := shiftPatches s e.x mx, y := shiftPatches s e.y my }

/-- Tracks, zones and what is on its way to them move with the anchor (R183, R378). -/
def shiftGlide (mx my : Int) (s : State) : State :=
  modGlide (fun (g : Glide) => { g with
    store := g.store.map (shiftTrack s mx my), mirror := g.mirror.map (shiftTrack s mx my),
    arriving := g.arriving.map (shiftSet s mx my), patches := shiftPatchList mx my g.patches,
    pending := g.pending.map (fun u => { u with
      entries := u.entries.map (shiftEntry s mx my), patches := shiftPatchList mx my u.patches }),
    result := g.result.map (fun r => { r with tracks := r.tracks.map (shiftProp s mx my) }),
    zones := g.zones.map (fun z => (z.1, shiftZone s mx my z.2)),
    newAtTick := g.newAtTick.map (fun x => if x.1 = 0x0A02 then (x.1, shiftZone s mx my x.2) else x),
    events := g.events.map (shiftEvent s mx my) }) s

/-- A recentre: the new centre, and every patch of the extent cleared (R236, R581). -/
def recentreTo (cx cy : Int) (s : State) : State :=
  let s1 := modRink (fun (r : Rink) => { r with centreX := cx, centreY := cy }) s
  if inSentry s then
    let old := s.rink.sentrySlots.getD []
    let new := (sentryPatches s cx cy).map (fun g => slotIndex g.1 g.2)
    let owners := (old.zip new).map (fun p => (ownerOf s p.1, p.2))
    let s2 := owners.foldl (fun (t : State) o => match o.1 with
      | some u => modTile u (fun (x : Tile) => { x with slot := some o.2 }) t
      | none => t) s1
    newGeneration (new.foldl (fun (t : State) n => countClear n t)
      (modRink (fun (r : Rink) => { r with sentrySlots := some new }) s2))
  else
    let old := extentPatches s.rink.centreX s.rink.centreY s.rink.reduced (reducedSide s)
    let new := extentPatches cx cy s.rink.reduced (reducedSide s)
    let idx (l : List (Int × Int)) : List Nat := l.map (fun g => slotIndex g.1 g.2)
    let come := (idx new).filter (fun n => !(idx old).contains n)
    let gone := (idx old).filter (fun n => !(idx new).contains n)
    let s2 := come.foldl (fun (t : State) n =>
      match gone.find? (fun m => m % 8 == n % 8) with
      | some m => moveTile m n t
      | none => t) s1
    newGeneration ((idx new).foldl (fun (t : State) n => countClear n t) s2)

/-- The centre and the rebase that a frame's set orders take effect, in the order scroll, rebase rotation, recentre
(R237, R252). A worker follows its manager's latest order for the instant (R493). -/
def applyMoves (cx cy rx ry : Int) (recentre : Bool) (s : State) : State :=
  let mx := rx - s.rink.rebaseX
  let my := ry - s.rink.rebaseY
  let dx := cx + mx - s.rink.centreX
  let dy := cy + my - s.rink.centreY
  let s1 := if recentre then s
    else scrollAxis false (if dy < 0 then -1 else 1) (mag dy) (scrollAxis true (if dx < 0 then -1 else 1) (mag dx) s)
  let s2 := if mx = 0 ∧ my = 0 then s1 else shiftGlide (-mx) (-my) (rotateRoutes mx my s1)
  if recentre then recentreTo cx cy s2 else s2

/-! ## Extent and variant (R253, R255, R337 to R340) -/

/-- A tile's test is stopped and counted (R256, Table 8.13). -/
def stopTest (t : Nat) (s : State) : State :=
  modCounters (fun (c : RinkCounters) => { c with testsNotRun := bump c.testsNotRun })
    (modRink (fun (r : Rink) => { r with
        testOrder := r.testOrder.filter (fun u => u != t),
        mismatch := r.mismatch.filter (fun m => m.1 != t) })
      (modTile t (fun (y : Tile) => { y with lastTest := 3, draining := false }) s))

/-- The change to reduced extent at a frame boundary or at an entry into Drive (R255, R339): the tile of the leaving row
with the same PATCH_X takes a slot without an owner; the others of the row become spares, tested in walk order, and a slot that a further
retirement before the boundary left without an owner takes one of them (DEDUCED). -/
def reduceExtent (s : State) : State :=
  let old := extentPatches s.rink.centreX s.rink.centreY false (reducedSide s)
  let keep := extentPatches s.rink.centreX s.rink.centreY true (reducedSide s)
  let left := old.filter (fun g => !keep.contains g)
  let s1 := keep.foldl (fun (t : State) g =>
    let n := slotIndex g.1 g.2
    if (ownerOf t n).isSome then t
    else match left.find? (fun h => h.1 % 8 == g.1 % 8 && (ownerOf t (slotIndex h.1 h.2)).isSome) with
      | some h => clearOnce n (moveTile (slotIndex h.1 h.2) n t)
      | none => t) s
  let freed := walkOrder.filter (fun t => left.any (fun g => ownerOf s1 (slotIndex g.1 g.2) == some t))
  let s2 := modRink (fun (r : Rink) => { r with testOrder := r.testOrder ++ freed })
    (freed.foldl (fun (t : State) u => beginTest u t) s1)
  let s3 := keep.foldl (fun (t : State) g =>
    let n := slotIndex g.1 g.2
    match (ownerOf t n).isSome, longest t .spareTesting (·.spareSince) with
    | false, some u => clearOnce n (setRole u .service (some n) (stopTest u t))
    | _, _ => t) s2
  newGeneration (modRink (fun (r : Rink) => { r with reduced := true, reducePending := false }) s3)

/-- The variant in use on the ladder (Table 11.13). -/
def applyLadder (s : State) : State :=
  if !inRun s || s.rink.reducePending then s
  else modPlans (fun (p : Plans) => { p with variant := some (if inSentry s then 3 else driveVariant s) }) s

/-- A migration in progress is aborted (R250, R251, R256): the source keeps its role. -/
def abortMigration (s : State) : State :=
  match s.rink.migration with
  | some m =>
    let s1 := modRink (fun (r : Rink) => { r with migration := none, migrationDue := none }) s
    if m.phase == .drain then modTile m.source (fun (x : Tile) => { x with draining := false }) s1
    else
      modCounters (fun (c : RinkCounters) => { c with migrationAborts := bump c.migrationAborts })
        (if tileRole s1 m.target == .migrationTarget then beginTest m.target s1 else s1)
  | none => modRink (fun (r : Rink) => { r with migrationDue := none }) s

/-- The patch of a slot is lost for the frame in progress (R256). -/
def losePatch (slot : Nat) (s : State) : State :=
  if s.rink.frame.isNone || (vget s.rink.slots slot).patchLost then s
  else modCounters (fun (c : RinkCounters) => { c with patchesLost := bump c.patchesLost })
    (modSlot slot (fun (x : Slot) => { x with patchLost := true, landing := [] }) s)

/-- A patch carries CAMERA_PARTIAL: counted once for the frame. -/
def markPartial (slot : Nat) (s : State) : State :=
  if (vget s.rink.slots slot).cameraPartial || !slotServed s slot then s
  else modCounters (fun (c : RinkCounters) => { c with cameraPartial := bump c.cameraPartial })
    (modSlot slot (fun (x : Slot) => { x with cameraPartial := true }) s)

/-- The columns of the pass that the router still awaits. -/
def awaitedColumns (s : State) (f : TileFrame) : List (Nat × Nat) :=
  (passColumns (planImage s) f).filter (fun c => !f.columns.any (fun x => x.1 == c.1 && x.2.1 == c.2))

/-- The strips of the frame in progress that a slot's tile holds and has not sent whole: all of them before the Lift, in the
Lift those with columns still to come, in this pass or the next (R292). -/
def heldStrips (s : State) (f : TileFrame) (slot : Nat) : List Nat :=
  let own := (List.range f.strips.length).filter (fun j => stripSlot f j == some slot)
  let image := planImage s
  let due (g : TileFrame) (j : Nat) : Bool := (awaitedColumns s g).any (fun c =>
    match cameraRecord image c.1 with
    | some rec_ => columnStrip g c.1 rec_ c.2 == j
    | none => false)
  match f.phase with
  | .image => own
  | .lift => own.filter (fun j => (List.range (liftPasses image)).any (fun p =>
      if p < f.pass then false else due { f with pass := p, columns := if p = f.pass then f.columns else [] } j))
  | .bev => []

/-- The strips dealt to a slot are lost with its tile, and the patches that they would reach are CAMERA_PARTIAL for the frame
(R256, R292). -/
def losePartial (slot : Nat) (s : State) : State :=
  match s.rink.frame with
  | some f =>
    let lost := (heldStrips s f slot).filter (fun j => !f.lostStrips.contains j)
    let reach := (lost.flatMap (fun j => match f.strips[j]? with
      | some x => match cameraRecord (planImage s) x.1 with
        | some rec_ => ((List.range (fld (liftDescriptor rec_) 80 16)).filter (fun u => columnPlace rec_ u == x.2)).flatMap
            (fun u => columnReach s f x.1 rec_ u)
        | none => []
      | none => [])).eraseDups
    reach.foldl (fun (t : State) n => markPartial n t)
      (modRink (fun (r : Rink) => { r with frame := some { f with lostStrips := f.lostStrips ++ lost } }) s)
  | none => s

/-- A new owner takes a retired tile's slot (R256). -/
def takeOver (slot owner : Nat) (s : State) : State :=
  let s1 := newGeneration (setRole owner .service (some slot) s)
  let s2 := zeroRegion owner (stateRegion s1)
    (modSlot slot (fun (x : Slot) => { x with historyAge := 0, clearing := true, stateInstant := none }) s1)
  losePartial slot (losePatch slot s2)

/-- In Sentry a DORMANT tile is powered up and tested when the spare has been used (R340). -/
def wakeDormant (s : State) : State :=
  if !inSentry s then s
  else if (tilesIn s .spareReady ++ tilesIn s .spareTesting ++ tilesIn s .migrationTarget).isEmpty then
    match (tilesIn s .dormant).head? with
    | some t => beginTest t s
    | none => s
  else s

/-- The tile that takes a retired service tile's slot, after what R256 does to find it. -/
def findOwner (x : Nat) (s : State) : State × Option Nat :=
  let source := match s.rink.migration with
    | some m => if m.source = x && m.phase != .drain then some m.target else none
    | none => none
  match source with
  | some t =>
    (modCounters (fun (c : RinkCounters) => { c with migrationAborts := bump c.migrationAborts })
      (modRink (fun (r : Rink) => { r with migration := none, migrationDue := none }) s), some t)
  | none =>
    match longest s .spareReady (·.readySince) with
    | some t => (s, some t)
    | none => match longest s .spareTesting (·.spareSince) with
      | some t =>
        (stopTest t s, some t)
      | none => match s.rink.migration with
        | some m => (modCounters (fun (c : RinkCounters) => { c with migrationAborts := bump c.migrationAborts })
            (modRink (fun (r : Rink) => { r with migration := none, migrationDue := none }) s), some m.target)
        | none => (s, none)

/-- A tile is fenced away (R241, R256): a test in progress ends unrun. -/
def fence (x : Nat) (s : State) : State :=
  let s1 := if tileRole s x == .spareTesting && (vget s.rink.tiles x).lastTest != 2 then stopTest x s else s
  modRink (fun (r : Rink) => { r with
      testOrder := r.testOrder.filter (fun u => u != x), mismatch := r.mismatch.filter (fun m => m.1 != x) })
    (modTile x (fun (y : Tile) => { y with
      role := .retired, slot := none, sram := [], streams := default, tables := default, working := default,
      uncommitted := none, draining := false, rerun := false, refetch := false }) s1)

/-- A retirement would be the tenth (R253, R258). -/
def wouldBeTenth (s : State) : Bool := decide (9 ≤ tilesRetired s)

/-- The retirement of a tile (R253, R256, R257, R339). The tenth is fatal, whatever the tile's role. -/
def retireTile (x : Nat) (s : State) : State :=
  let t := vget s.rink.tiles x
  if t.role == .retired || 49 ≤ x then s
  else if wouldBeTenth s then report (rinkFault x 0) 0 5 .fa 0 (fence x (abortMigration s))
  else if t.role == .dormant || t.role == .spareReady || t.role == .spareTesting then
    let s0 := match s.rink.migration with
      | some m => if m.source = x then modRink (fun (r : Rink) => { r with migration := none }) s else s
      | none => s
    applyLadder (wakeDormant (fence x s0))
  else if t.role == .migrationTarget then
    applyLadder (wakeDormant (fence x (modCounters (fun (c : RinkCounters) =>
      { c with migrationAborts := bump c.migrationAborts })
      (modRink (fun (r : Rink) => { r with migration := none, migrationDue := none }) s))))
  else
    let s0 := if ticking s then modRink (fun (r : Rink) => { r with remapAt := r.remapAt ++ [now s] }) s else s
    let (s1, owner) := findOwner x s0
    match owner, t.slot with
    | some o, some slot => applyLadder (wakeDormant (takeOver slot o (fence x s1)))
    | _, _ =>
      if s.rink.reduced then fence x s1
      else
        let s2 := modRink (fun (r : Rink) => { r with reducePending := true }) (fence x s1)
        match s2.rink.frame with
        | some f => skipFrame f.frame s2
        | none => s2

def execRetireTile (k : CmdKey) (s : State) : Host.Outcome State Fault Refusal :=
  runCommand k 0x0702 (fun c s => conclude c stDone 0 [] (retireTile (fld c.params 0 8) s)) s

/-- Refusals of the Rink's commands (R230, R258, R314). -/
def startRink (s : State) (op : Nat) (b : Bytes) : Option Refuse :=
  match op with
  | 0x0702 =>
    if tileRole s (fld b 0 8) == .retired then some (stBadParam, 0)
    else if wouldBeTenth s then some (stResource, 0x0007) else none
  | 0x0703 =>
    match activeSlot s with
    | none => some (stResource, 0x0008)
    | some _ => match outputOf (planImage s) 3 with
      | some o =>
        let n := fld b 16 8
        if fld o 48 16 < fld b 8 8 + n then some (stBadParam, 2)
        else if 40 < n * (fmtBits (fld o 44 4) / 8) then some (stBadParam, 2) else none
      | none => some (stBadParam, 2)
  | _ => none

/-! ## The frame boundary (R23, R237, R252, R291, R309) -/

/-- The frame whose image phase may start: the one that waits, else the oldest whose cameras are settled. -/
def nextFrameFor (s : State) : Option FusionSet :=
  match s.rink.waitingFrame with
  | some w => setOf s w
  | none => s.align.sets.find? (fun f => f.cameraClosed && !f.skipped && !f.handed)

/-- The plan swap due at a boundary (R336): the new plan runs; the temporal state survives only a like layout. -/
def applySwap (s : State) : State :=
  match s.plans.swap with
  | none => s
  | some w =>
    if now s < w.notBefore then s
    else
      let old := planImage s
      let oldState := stateRegion s
      let s1 := modPlans (fun (p : Plans) =>
        { (if w.posture = 0 then { p with driveSlot := some w.slot } else { p with sentrySlot := some w.slot }) with
          swap := none }) s
      let same := fld old 128 32 == fld (planImage s1) 128 32 && oldState == stateRegion s1
      let s2 := if same then s1 else (serviceSlots s1).foldl (fun (t : State) n => clearOnce n t) s1
      concludeKey w.key stDone 0 [] (buildRays (newGeneration s2))

/-- An activation that cannot serve the export configuration clears ENABLE (R314). -/
def exportServes (img b : Bytes) : Bool :=
  match outputOf img 3 with
  | some o => decide (fld b 8 8 + fld b 16 8 ≤ fld o 48 16) && decide (fld b 16 8 * (fmtBits (fld o 44 4) / 8) ≤ 40)
  | none => false

def settleExport (s : State) : State :=
  let b := setting s 0x0703 0
  let c := if exportServes (planImage s) b then b else bytesOfNat 8 (fld b 0 64 / 2 * 2)
  modRink (fun (r : Rink) => { r with export_ := { r.export_ with block := c } })
    (if b = c then s else putSetting 0x0703 0 c s)

/-- An uncorrectable word of a tile's activation SRAM is marked (R263, R423). -/
def sramMarked (s : State) (t : Nat) : Bool :=
  s.patrol.marks.any (fun m => m.source == rinkFault t 0 && decide (12 ≤ m.unit) && decide (m.unit ≤ 27))

/-- The marks of the slots at the start of a frame: histories age, cleared patches stay at 0, and a marked SRAM word
loses its patch (R238, R263). -/
def freshSlots (f : FusionSet) (s : State) : State :=
  let served := serviceSlots s
  (List.range 48).foldl (fun (t : State) n =>
    let lost := match ownerOf t n with
      | some u => sramMarked t u
      | none => true
    let s1 := modSlot n (fun (x : Slot) =>
      let on := served.contains n
      let age := if !on || x.clearing || !x.served then 0 else min 255 (x.historyAge + 1)
      { x with
        historyAge := age,
        frameDt := match age, x.stateInstant with
          | 0, _ => 0
          | _, some p => to32 (Dy.ratio ((f.instant : Int) - p) msUnits)
          | _, none => 0,
        patchLost := on && lost, haloLost := false, cameraPartial := false, noLidar := f.lidars.isEmpty && f.lidarClosed,
        truncated := false, passCameras := default, lidars := 0, liftBins := 0, occupiedVoxels := 0, landing := [],
        markers := 0, haloLayer := none, haloWait := [], stripPass := 0, headsDone := false, clearing := false, served := on }) t
    if served.contains n && lost then modCounters (fun (c : RinkCounters) =>
      { c with patchesLost := bump c.patchesLost }) s1 else s1) s

/-- The pose of the row band that holds each camera's REF_ROW_PX (R296), in the anchor that the Rink follows: poses may
already have moved under the next frame's rebase. -/
def liftPoses (s : State) (cams : List (Nat × Nat)) : List (Nat × PoseEntry) :=
  cams.filterMap (fun c =>
    match cameraRecord (planImage s) c.1, (vget (receiver s c.1).slots c.2).frame with
    | some rec_, some f =>
      let row := ((f32 (fld (liftDescriptor rec_) 160 32)).floor).toNat
      (poseAt s (mapped s c.1 (bandTimeOf (csiBlock s c.1) f row))).map (fun p =>
        (c.1, shiftPose s (s.align.rebaseX - s.rink.rebaseX) (s.align.rebaseY - s.rink.rebaseY) p))
    | _, _ => none)

/-- What a manager's order changes on a worker (R493): the moves, and with a new anchor everything anew. -/
def followManager (o : AnchorOrder) (s : State) : State :=
  let d := setting s 0x0E02 0
  let me := fld (setting s 0x0E00 0) 0 4
  let cx := o.centreX + sfld d (128 * me + 56) 8
  let cy := o.centreY + sfld d (128 * me + 48) 8
  let far := decide (1 < mag (cx - s.rink.centreX - (s.rink.rebaseX - o.rebaseX))) ||
    decide (1 < mag (cy - s.rink.centreY - (s.rink.rebaseY - o.rebaseY)))
  let s2 := modRink (fun (r : Rink) => { r with anchorSeq := o.anchorSeq }) (applyMoves cx cy o.rebaseX o.rebaseY far s)
  if o.anchorNew then
    modPeers (fun (p : Peers) => { p with orders := p.orders.map (fun x => { x with anchorNew := false }) })
      (modGlide (fun (g : Glide) => { g with
          store := [], mirror := [], eventTable := [], untracked := [], wasInside := [], lastOrder := [], pending := [] })
        ((serviceSlots s2).foldl (fun (t : State) n => clearOnce n t) s2))
  else s2

/-- The changes that take effect at a frame's boundary, in the order of R252: scroll, rebase rotation and recentre; the extent;
the plan swap. -/
def applyBoundary (f : FusionSet) (s : State) : State :=
  let s0 := modRink (fun (r : Rink) => { r with clearedNow := [] }) s
  let order := (s.peers.orders.filter (fun o => decide (o.instant ≤ f.instant))).getLast?
  let s1 := match isWorker s, order with
    | true, some o => followManager o s0
    | _, _ => applyMoves f.centreX f.centreY f.rebaseX f.rebaseY (s.align.recentreDue.any (fun n => decide (n ≤ f.frame))) s0
  let s2 := applySwap (if s1.rink.reducePending then applyLadder (reduceExtent s1) else s1)
  let s3 := modAlign (fun (a : Align) =>
    { a with recentreDue := a.recentreDue.filter (fun n => decide (f.frame < n)) }) s2
  if s3.rink.generation = s.rink.generation then s3
  else modRink (fun (r : Rink) => { r with boundaryFrame := f.frame }) s3

/-- The image phase has ended: column heads start, the ring slots are free, Gate 5's window opens (R130, R23). -/
def startLift (f : TileFrame) (s : State) : State :=
  if f.phase != .image then s
  else
    let s1 := releaseSlots f.cameras (modRink (fun (r : Rink) => { r with
      frame := some { f with phase := .lift } }) s)
    if liftPasses (planImage s) = 0 then s1
    else armGate 5 f.frame (now s + gateMin s 5) (now s + gateMax s 5) s1

/-- A frame boundary: the frame's image phase starts, and every change that waits for a boundary takes effect. A frame without
strips goes straight to its Lift (assumption 135). -/
def execFrameBoundary (s : State) : Host.Outcome State Fault Refusal :=
  awakeAnswer s fun s =>
    match s.rink.frame, nextFrameFor s with
    | none, some f =>
      if !inRun s || s.power.change.isSome || !f.cameraClosed || !f.poseReady || (s.safety.imageNotBefore.any (fun t => decide (now s < t))) then s
      else
        let s5 := freshSlots f (settleExport (applyBoundary f s))
        let s6 := modSet f.frame (fun (x : FusionSet) => { x with handed := true }) s5
        let frame : TileFrame :=
          { frame := f.frame, instant := f.instant, phase := .image, imageStart := now s,
            cameras := f.cameras, recentred := f.recentred, pass := 0, deal := serviceSlots s6,
            strips := frameStrips (planImage s6) f.cameras, lostStrips := [], columns := [], raysLost := [], rerouted := false,
            lidars := f.lidars, poses := liftPoses s6 f.cameras,
            tally := [], contests := [], detections := [], dropped := 0 }
        let s7 := modRink (fun (r : Rink) => { r with
          frame := some frame, waitingFrame := r.waitingFrame.filter (fun w => w != f.frame),
          lastImage := some (now s), packets := [], liftBins := 0, liftOutside := 0, liftDegenerate := 0, samplesClipped := 0,
          tiles := (List.range 49).foldl (fun (v : Vector Tile 49) t =>
            vmod v t (fun (x : Tile) => { x with lastStep := none, arith := default })) r.tiles }) s6
        let w := gate6Window s7
        let s8 := armGate 6 f.frame (now s + w.1) (now s + w.2) s7
        let s9 := modSafety (fun (x : Safety) => { x with imageNotBefore := none, debtTime := 0 }) s8
        if frame.strips.isEmpty then startLift frame s9 else s9
    | _, _ => s

/-! ## Crossover (R247 to R251) -/

/-- The source of the next migration. -/
def migrationSource (s : State) (target : Nat) : Option Nat :=
  match s.rink.nextSource with
  | some t => if tileRole s t == .service then some t else (walkAfter t).find? (fun u => tileRole s u == .service)
  | none => (walkAfter (s.rink.previousSource.getD target)).find? (fun u => tileRole s u == .service)

/-- A tick calls for a migration; without a SPARE_READY tile it is counted as not started (R250). -/
def migrationTick (t : Dts) (s : State) : State :=
  if !inRun s || s.rink.migration.isSome then s
  else if (tilesIn s .spareReady).isEmpty then
    modCounters (fun (c : RinkCounters) => { c with migrationsNotStarted := bump c.migrationsNotStarted })
      (modRink (fun (r : Rink) => { r with migrationDue := none }) s)
  else modRink (fun (r : Rink) => { r with migrationDue := some t }) s

/-- The copy starts at a step boundary at or after the tick (R248, Table 8.6). -/
def execMigrationCopyStart (s : State) : Host.Outcome State Fault Refusal :=
  awakeAnswer s fun s =>
    match s.rink.migration, s.rink.migrationDue, longest s .spareReady (·.readySince) with
    | none, some t, some target =>
      match migrationSource s target with
      | some source =>
        if !inRun s || decide (now s < t) then s
        else modRink (fun (r : Rink) => { r with
            migration := some { phase := .copy, source := source, target := target, tick := t, since := now s },
            migrationDue := none, previousSource := some source, nextSource := none })
          (modTile target (fun (x : Tile) => { x with role := .migrationTarget }) s)
      | none => s
    | _, _, _ => s

/-- The copy and the re-send are complete, 102.4 µs after the copy's start at the earliest: the target holds what the source
holds and runs the shadow step (R248, Table 8.6). -/
def execMigrationShadowStep (s : State) : Host.Outcome State Fault Refusal :=
  awakeAnswer s fun s =>
    match s.rink.migration with
    | some m =>
      if m.phase != .copy || decide (10 * now s < 10 * m.since + 1024 * usUnits) then s
      else
        let x := vget s.rink.tiles m.source
        modRink (fun (r : Rink) => { r with migration := some { m with phase := .shadow, since := now s } })
          (modTile m.target (fun (y : Tile) => { y with
            sram := x.sram, streams := x.streams, streamUse := x.streamUse, tables := x.tables, working := x.working,
            uncommitted := x.uncommitted, lastStep := x.lastStep, signature := x.signature, rerun := x.rerun,
            refetch := x.refetch }) s)
    | none => s

/-- The handover, 0.1 µs after the shadow step's start at the earliest, or its abort on differing signatures (R248, R250). -/
def execMigrationHandover (s : State) : Host.Outcome State Fault Refusal :=
  awakeAnswer s fun s =>
    match s.rink.migration with
    | some m =>
      if m.phase != .shadow || decide (10 * now s < 10 * m.since + usUnits) then s
      else
        let a := vget s.rink.tiles m.source
        let b := vget s.rink.tiles m.target
        if a.signature = b.signature then
          let us := (now s - m.tick) / usUnits
          let s1 := modTile m.target (fun (y : Tile) => { y with role := .service, slot := a.slot }) s
          let s2 := modTile m.source (fun (y : Tile) => { y with draining := true }) (beginTest m.source s1)
          newGeneration (modCounters (fun (c : RinkCounters) => { c with
              migrations := bump c.migrations, maxHandoverUs := max c.maxHandoverUs us })
            (modRink (fun (r : Rink) => { r with migration := some { m with phase := .drain, since := now s } }) s2))
        else
          report (rinkFault m.target 0) 0 4 .ce 0 (beginTest m.target
            (modCounters (fun (c : RinkCounters) => { c with
              migrationAborts := bump c.migrationAborts, shadowMismatches := bump c.shadowMismatches })
              (modRink (fun (r : Rink) => { r with migration := none, mismatch := some (m.target, m.source) }) s)))
    | none => s

/-- No router's copy of the route table sends packets to a tile. -/
def unrouted (s : State) (t : Nat) : Bool :=
  s.rink.copies.toList.all (fun c => !c.owners.toList.contains (some t))

/-- The drain marker has returned, behind every packet of the old generation: the freed tile starts its test, 0.5 µs after the
handover at the earliest (R248, Table 8.6). -/
def execForwarderDrained (s : State) : Host.Outcome State Fault Refusal :=
  awakeAnswer s fun s =>
    match s.rink.migration with
    | some m =>
      if m.phase != .drain || decide (10 * now s < 10 * m.since + 5 * usUnits) || !unrouted s m.source then s
      else modRink (fun (r : Rink) => { r with migration := none })
        (modTile m.source (fun (y : Tile) => { y with draining := false }) s)
    | none => s

/-- A tile's test may end: those of a row that left the extent end in walk order (R255). -/
def testMayEnd (s : State) (t : Nat) : Bool := !s.rink.testOrder.contains t || s.rink.testOrder.head? == some t

/-- A spare's test ends (R248, R470): it is ready, or it is retired. A target whose signature differed makes its source the next
one to be freed when it passes (R250). -/
def execSpareTestComplete (tile : Nat) (passed : Bool) (s : State) : Host.Outcome State Fault Refusal :=
  awakeAnswer s fun s =>
    let t := vget s.rink.tiles tile
    if 49 ≤ tile || t.role != .spareTesting || t.draining || !testMayEnd s tile then s
    else if passed then
      modCounters (fun (c : RinkCounters) => { c with testsPassed := bump c.testsPassed })
        (modRink (fun (r : Rink) => { r with
            nextOrder := r.nextOrder + 1, testOrder := r.testOrder.filter (fun u => u != tile),
            nextSource := match r.mismatch with
              | some m => if m.1 = tile then some m.2 else r.nextSource
              | none => r.nextSource,
            mismatch := r.mismatch.filter (fun m => m.1 != tile) })
          (modTile tile (fun (y : Tile) => { y with role := .spareReady, lastTest := 1, readySince := s.rink.nextOrder }) s))
    else
      retireTile tile (report (rinkFault tile 0) 0 4 .uc 0 (modTile tile (fun (y : Tile) => { y with lastTest := 2 }) s))

/-- The route table in force: the owner of each slot (R233). -/
def routeTable (s : State) : Vector (Option Nat) 48 := Vector.ofFn (fun (i : Fin 48) => ownerOf s i.val)

/-- A router's copy of the route table takes the newest generation (R233). -/
def execRouteGenerationMarker (router : Nat) (s : State) : Host.Outcome State Fault Refusal :=
  awakeAnswer s fun s =>
    modRink (fun (r : Rink) => { r with
      copies := vset r.copies router { generation := r.generation, owners := routeTable s } }) s

/-! ## Mesh links (R244) -/

/-- A flit fails its CRC on a link, which is 5 × router + port: resent; a lane group that fails three resends within
1 ms is replaced by one of the link's two spares. -/
def execLinkFlitError (link group : Nat) (resendFailed : Bool) (s : State) : Host.Outcome State Fault Refusal :=
  awakeAnswer s fun s =>
    if 245 ≤ link ∨ 16 ≤ group then s
    else
      let src := rinkFault (link / 5) 1
      let unit := link % 5
      if !resendFailed then report src unit 3 .ce 0 s
      else
        let recent := match s.rink.lanes.find? (fun g => g.link == link && g.group == group) with
          | some g => (g.failures.filter (fun t => decide (now s < t + msUnits))) ++ [now s]
          | none => [now s]
        let others := s.rink.lanes.filter (fun g => !(g.link == link && g.group == group))
        if recent.length < 3 then
          report src unit 3 .ce 0 (modRink (fun (r : Rink) =>
            { r with lanes := others ++ [{ link := link, group := group, failures := recent }] }) s)
        else
          let used := lookupD s.rink.laneSpares link 0
          if 2 ≤ used then report src unit 4 .fa 0 (modRink (fun (r : Rink) => { r with lanes := others }) s)
          else report src unit 3 .ce 0
            (modCounters (fun (c : RinkCounters) => { c with laneRepairs := bump c.laneRepairs })
              (modRink (fun (r : Rink) =>
                { r with lanes := others, laneSpares := assocSet r.laneSpares link (used + 1) }) s))

/-! ## Status (R261, R262) -/

def TileRole.code : TileRole → Nat
  | .service => 0
  | .spareTesting => 1
  | .spareReady => 2
  | .migrationTarget => 3
  | .retired => 4
  | .dormant => 5

def MigrationPhase.code : MigrationPhase → Nat
  | .copy => 1
  | .shadow => 2
  | .drain => 3

/-- The header of Table 8.10 and the entries of Table 8.11. -/
def tileMap (s : State) : Bytes :=
  let r := s.rink
  let m : Nat × Nat × Nat := match r.migration with
    | some m => (m.phase.code, m.source, m.target)
    | none => (0, 0xFF, 0xFF)
  pack 32 [(0, 49, maskOf 49 (fun t => tileRole s t == .retired)), (72, 8, m.2.2), (80, 8, m.2.1), (88, 8, m.1),
      (96, 8, (tilesIn s .spareTesting ++ tilesIn s .spareReady).length), (104, 8, tilesRetired s),
      (112, 8, flag r.reduced), (120, 8, r.cellCode), (128, 32, r.boundaryFrame), (160, 32, r.generation),
      (192, 32, codeOf 32 r.centreX), (224, 32, codeOf 32 r.centreY)] ++
    (List.range 49).flatMap (fun t =>
      let x := vget r.tiles t
      let slot : Nat × Nat := match x.slot with
        | some n => (n % 8, n / 8)
        | none => (0xFF, 0xFF)
      pack 4 [(0, 4, x.role.code), (8, 8, slot.1), (16, 8, slot.2), (24, 8, x.lastTest)])

def execGetTileMap (k : CmdKey) (s : State) : Host.Outcome State Fault Refusal :=
  runCommand k 0x0701 (fun c s => doneWith c (tileMap s) s) s

/-- The counters of Table 8.13 in their order. -/
def rinkStats (c : RinkCounters) : Bytes :=
  [c.scrolls, c.rebaseRotations, c.patchClears, c.skippedFrames, c.migrations, c.migrationsNotStarted, c.migrationAborts,
    c.shadowMismatches, c.maxHandoverUs, c.testsPassed, c.testsNotRun, c.patchesLost, c.haloLost, c.cameraPartial,
    c.laneRepairs, c.lastTileTimeUs].flatMap (fun n => bytesOfNat 4 (min n (2 ^ 32 - 1)))

def execGetRinkStats (k : CmdKey) (s : State) : Host.Outcome State Fault Refusal :=
  runCommand k 0x0704 (fun c s => doneWith c (rinkStats s.rink.counters) s) s

def execSetCellSize (k : CmdKey) (s : State) : Host.Outcome State Fault Refusal :=
  runCommand k 0x0700 (fun c s => done c (putSetting 0x0700 0 c.params s)) s

def execConfigBevExport (k : CmdKey) (s : State) : Host.Outcome State Fault Refusal :=
  runCommand k 0x0703 (fun c s => done c (putSetting 0x0703 0 c.params s)) s

end Sys2Proof.Machine
end

