-- ==== Sys2Proof/Machine/TileUnit.lean ====
section
/-! DEFINITION. A tile's sequencer: the end of a step, with its flow check, its arithmetic, its checks, its re-run and its
counters (R240, R263, R270 to R289, R293, R303, R466). -/

namespace Sys2Proof.Machine

/-- Bytes of a tile's activation SRAM (Table 8.3). -/
def sramBytes : Nat := 4194304

/-- Bytes go into a tile's SRAM; an address outside it does not exist. -/
def sramPut (at_ : Nat) (b : Bytes) (t : Tile) : Tile :=
  if at_ + b.length ≤ sramBytes then { t with sram := cellsPut t.sram at_ b } else t

/-- The slot a tile works for: its own, or in the shadow step its migration's source's (R248). -/
def workSlot (s : State) (tile : Nat) : Option Nat :=
  let t := vget s.rink.tiles tile
  match t.role, s.rink.migration with
  | .service, _ => t.slot
  | .migrationTarget, some m => if m.target = tile && m.phase == .shadow then (vget s.rink.tiles m.source).slot else none
  | _, _ => none

/-- What one gather brings: where it goes, the bytes and how many elements saturated (R282, R293, R303). A strip is read only while
its ring slot is held. -/
def gatherBytes (s : State) (f : TileFrame) (slot : Nat) : StepGather → Nat × Bytes × Nat
  | .camera strip row column count at_ =>
    match f.strips[strip]? with
    | none => (at_, [], 0)
    | some x =>
      match f.cameras.find? (fun c => c.1 == x.1), cameraRecord (planImage s) x.1 with
      | some c, some rec_ =>
        let sl := vget (receiver s x.1).slots c.2
        let decl := stripDeclaration rec_
        let span := stripSpan decl x.2
        match sl.frame, sl.held with
        | some img, true =>
          let u16 := outU16 (csiType (csiBlock s x.1)) (fld (receiver s x.1).norm 8 2)
          let e := ((List.range count).filter (fun i => decide (span.1 ≤ column + i) && decide (column + i < span.2))).flatMap
            (fun i => cameraInput (inputDescriptor rec_) (tensorChannels u16 img.tensor (row * fld decl 64 16 + column + i)))
          (at_, packElements (fmtBits (fld (inputDescriptor rec_) 4 4)) (e.map (·.1)), (e.filter (·.2)).length)
        | _, _ => (at_, [], 0)
      | _, _ => (at_, [], 0)
  | .voxel row at_ =>
    let dsc := sharedSection (planImage s) 0x07
    match (ruleSets (planImage s)).find? (fun b => fld b 32 8 == 0) with
    | none => (at_, [], 0)
    | some set_ =>
      match s.point.books.find? (fun b => b.slot == slot && b.set == fld set_ 0 8) with
      | none => (at_, [], 0)
      | some book =>
        let entry := slice book.bytes (64 + 16 * row) 16
        if bitAt entry 127 then
          let e := lidarInput dsc entry
          (at_, packElements (fmtBits (fld dsc 512 4)) (e.map (·.1)), (e.filter (·.2)).length)
        else (at_, [], 0)

/-- The strip that a gather reads, if any. -/
def gatherStrip : StepGather → Option Nat
  | .camera strip _ _ _ _ => some strip
  | .voxel _ _ => none

/-- The strips a step reads are dealt to its slot, are not lost, and their passes ascend (R291, R292). -/
def gathersDealt (s : State) (f : TileFrame) (slot : Nat) (e : StepEnd) : Bool :=
  (e.gathers.filterMap gatherStrip).all (fun j => stripSlot f j == some slot && !f.lostStrips.contains j &&
    decide ((vget s.rink.slots slot).stripPass ≤ stripPassOf f j))

/-- The arithmetic counters take a step's counts and its mismatches (R289). -/
def ArithCounters.take (a : ArithCounters) (c : Counts) (mismatches : Nat) : ArithCounters :=
  { saturations := satAdd 32 a.saturations c.saturations, nonfinite := satAdd 32 a.nonfinite c.nonfinite,
    domain := satAdd 32 a.domain c.domain, checkSkipped := satAdd 32 a.checkSkipped c.skipped,
    checkMismatches := satAdd 32 a.checkMismatches mismatches }

/-- A tile counts, for the frame and into the total since device reset (R289). -/
def countArith (tile : Nat) (c : Counts) (mismatches : Nat) (s : State) : State :=
  modRink (fun (r : Rink) => { r with arithTotal := r.arithTotal.take c mismatches })
    (modTile tile (fun (t : Tile) => { t with arith := t.arith.take c mismatches }) s)

/-- The totals of the frame over all tiles (R289). -/
def arithFrame (s : State) : ArithCounters :=
  s.rink.tiles.toList.foldl (fun (a : ArithCounters) t =>
    a.take ⟨t.arith.saturations, t.arith.nonfinite, t.arith.domain, t.arith.checkSkipped⟩ t.arith.checkMismatches) default

/-- The layer record of a step. -/
def stepLayer (s : State) (e : StepEnd) : Option Bytes := e.layer.bind (fun n => (layerRecords (planImage s))[n]?)

/-- The layer's activations are moved to LPDDR: one of the spill entries applied names it (R293, Table 11.9). -/
def layerSpilled (s : State) (layer : Nat) : Bool :=
  match variantFit s with
  | some f =>
    let i := fld f.record 40 8
    let list := if i = 0xFF then [] else sectionBytes (planImage s) (sectionAt (planImage s) i)
    ((recordsOf 16 list).take f.spilled).any (fun b => fld b 0 32 == layer)
  | none => false

/-- The tile at the boundary before a step: the tables the step names are loaded, the chunks that streamed in fill the buffers in
turn, the last one in use (R239, R283). A tile outside the weight multicast gets none. -/
def loadStep (s : State) (tile : Nat) (e : StepEnd) (t : Tile) : Tile :=
  let img := planImage s
  let shared := sharedSection img 0x04
  let tables := e.tables.foldl (fun (v : Vector Bytes 8) x => vset v x.1 ((functionTables img).getD x.2 [])) t.tables
  if !(meshTargets s (edgeRouter (.lpddr 0)) (.mask (weightGroup s))).contains tile then { t with tables := tables }
  else e.chunks.foldl (fun (u : Tile) c =>
    { u with streams := vset u.streams (1 - u.streamUse) (slice shared c.1 (min 131072 c.2)), streamUse := 1 - u.streamUse })
    { t with tables := tables }

/-- What a step reads (R270, R283, R293): the weights are those that streamed in for it, or what the buffer in use holds. -/
def stepMemory (s : State) (slot : Nat) (e : StepEnd) (t : Tile) : StepMemory :=
  let shared := sharedSection (planImage s) 0x04
  { sram := t.sram, spill := (vget s.rink.slots slot).spill,
    weights := if e.chunks.isEmpty then vget t.streams t.streamUse
      else e.chunks.flatMap (fun c => slice shared c.1 (min 131072 c.2)),
    tables := t.tables, landing := (vget s.rink.slots slot).landing }

/-- The rule books of a slot, by set. A book with NO_LIDAR lists no rows (R305). -/
def slotBooks (s : State) (slot : Nat) : List (Nat × Bytes) :=
  (s.point.books.filter (fun b => b.slot == slot)).map (fun b => (b.set, b.bytes))

/-- The working slots and the address of a tile take a block that a temporal update computed; the block before goes into the
state first (R308). -/
def commitBlock (t : Tile) : Tile :=
  match t.uncommitted with
  | some i => { (vget t.working i).foldl (fun (u : Tile) w => sramPut w.1 w.2 u) t with uncommitted := none }
  | none => t

/-- A step's rows under its layer record. A temporal update reads the state with the block before committed (R308). -/
def stepResult (s : State) (slot : Nat) (e : StepEnd) (t : Tile) : StepResult :=
  match stepLayer s e with
  | none => StepResult.zero
  | some layer =>
    let img := planImage s
    let shared := sharedSection img 0x04
    let m := stepMemory s slot e (if fld layer 128 8 = 10 then commitBlock t else t)
    let set_ := fld layer 168 8
    let books := slotBooks s slot
    let book := (books.find? (fun b => b.1 == set_)).map (·.2)
    match e.work with
    | .rows rows => rows.zipIdx.foldl (fun (r : StepResult) x => r.append (rowResult m shared layer e.upset x)) StepResult.zero
    | .sparse b => match book with
      | some k => if bitAt k 59 then StepResult.zero else sparseResult m shared layer k e.upset b
      | none => StepResult.zero
    | .collapse b => match book with
      | some k => if bitAt k 59 then StepResult.zero else collapseResult m shared layer books (patchSide s) set_ b
      | none => StepResult.zero
    | .densify b => densifyResult m shared layer books (patchSide s) set_ b

/-- The units whose checks found a fault in a step (Table 8.14, Table 9.9). -/
def failedUnits (e : StepEnd) (r : StepResult) : List Nat :=
  ((if r.counts.nonfinite = 0 then [] else [0]) ++
    r.failed.map (fun i => match upsetOf e.upset i with
      | u :: _ => u.1 % 64 / 16
      | [] => 0) ++
    (e.residue.map (fun g => [5 + g % 4])).getD [] ++ (if e.fillSum then [4] else [])).eraseDups

/-- The signature of a step: the CRC-32C over its CHECK values, 8 bytes each, or of a vector-only step its outputs
(R288). -/
def stepSignature (r : StepResult) : Nat := crc32c (r.signs.flatMap (bytesOfNat 8))

/-- Where a step's outputs go: the first working slot that is free for a temporal update, LPDDR for a layer that is spilled, the
tile's SRAM (R240, R293, R308). -/
def putOutputs (s : State) (slot tile : Nat) (e : StepEnd) (r : StepResult) : State :=
  let state := (stepLayer s e).any (fun l => fld l 128 8 == 10)
  if state then
    modSlot slot (fun (x : Slot) => { x with stateInstant := s.rink.frame.map (·.instant) })
      (modTile tile (fun (t : Tile) =>
        let u := commitBlock t
        let i := match t.uncommitted with
          | some j => 1 - j
          | none => 0
        if r.writes.isEmpty then u else { u with working := vset u.working i r.writes, uncommitted := some i }) s)
  else if e.layer.any (layerSpilled s) then
    modSlot slot (fun (x : Slot) => { x with spill := r.writes.foldl (fun m w => cellsPut m w.1 w.2) x.spill }) s
  else modTile tile (fun (t : Tile) => r.writes.foldl (fun (u : Tile) w => sramPut w.1 w.2 u) t) s

/-- The tile as a step computes on it: its tables and weights loaded, what its gathers bring in place. -/
def enterStep (s : State) (f : TileFrame) (tile slot : Nat) (e : StepEnd) (t : Tile) : Tile :=
  (e.gathers.map (gatherBytes s f slot)).foldl (fun (u : Tile) g => sramPut g.1 g.2.1 u) (loadStep s tile e t)

/-- A step that ran clean: what its gathers brought and its outputs are written (R240). -/
def writeStep (s : State) (f : TileFrame) (tile slot : Nat) (e : StepEnd) (r : StepResult) : State :=
  let pass := (e.gathers.filterMap gatherStrip).foldl (fun p j => max p (stripPassOf f j)) (vget s.rink.slots slot).stripPass
  let s1 := modTile tile (fun (t : Tile) =>
    { enterStep s f tile slot e t with
      lastStep := some e.step, signature := stepSignature r, rerun := false, refetch := false }) s
  countArith tile { Counts.zero with saturations := (e.gathers.map (fun g => (gatherBytes s f slot g).2.2)).sum } 0
    (putOutputs (modSlot slot (fun (x : Slot) => { x with stripPass := pass }) s1) slot tile e r)

/-- The layer of a step reads beyond its patch and its halo point is past: every strip addressed to the slot has arrived (R245). -/
def haloReady (s : State) (slot : Nat) (e : StepEnd) : Bool :=
  match e.layer, stepLayer s e with
  | some n, some layer =>
    let x := vget s.rink.slots slot
    fld layer 160 8 == 0 || fld layer 136 2 != 2 || (x.haloLayer == some n && x.haloWait.isEmpty)
  | _, _ => true

/-- A step ends (R240, R287). A step whose flow check fails does not run; nor does one whose halo point is not past or whose
strips are not its slot's. A step whose checks fail has its outputs discarded and is run again; a clean re-run ends the retry
well (R263, R432). -/
def execSequencerStepEnd (tile : Nat) (step_ : StepEnd) (s : State) : Host.Outcome State Fault Refusal :=
  awakeAnswer s fun s =>
    match s.rink.frame, workSlot s tile with
    | some f, some slot =>
      let t := vget s.rink.tiles tile
      let src := rinkFault tile 0
      let flow := match t.lastStep with
        | none => step_.predecessors.isEmpty
        | some l => step_.predecessors.contains l
      if 49 ≤ tile || !inRun s || !haloReady s slot step_ || !gathersDealt s f slot step_ then s
      else if !flow then
        report src 10 3 .uc 0 (modTile tile (fun (t : Tile) => { t with refetch := true }) s)
      else
        let s0 := if step_.cycles ≤ 9000 then evaluateAgain (safetyFault 2 1) 0 4 false s else s
        let r := stepResult s0 slot step_ (enterStep s0 f tile slot step_ t)
        let failed := failedUnits step_ r
        if failed.isEmpty then
          let s1 := if t.rerun || t.refetch then
            (List.range 12).foldl (fun (u : State) n => evaluateAgain src n 3 false u) s0 else s0
          let s2 := countArith tile r.counts 0 (writeStep s1 f tile slot step_ r)
          if step_.columnHeads then startLift f s2 else s2
        else
          failed.foldl (fun (u : State) n => report src n 3 .uc 0 u)
            (countArith tile r.counts r.failed.length (modTile tile (fun (t : Tile) => { t with rerun := true }) s0))
    | _, _ => s

end Sys2Proof.Machine
end

