-- ==== Sys2Proof/Machine/LiftUnit.lean ====
section
/-! DEFINITION. The Lift, the start of the BEV phase, halo points and remote gathers (R23, R245, R246, R295 to R301, R311,
R312). -/

namespace Sys2Proof.Machine

/-! ## Routing (R297, R298) -/

/-- Runs of consecutive bins in one patch (R297). -/
def cutRuns : List (Option LiftBin) → Option (Int × Int) → List LiftBin → List ((Int × Int) × List LiftBin)
  | [], k, run => (k.map (fun g => [(g, run)])).getD []
  | none :: bs, k, run => (k.map (fun g => [(g, run)])).getD [] ++ cutRuns bs none []
  | some b :: bs, k, run =>
    if k = some b.patch then cutRuns bs k (run ++ [b])
    else (k.map (fun g => [(g, run)])).getD [] ++ cutRuns bs (some b.patch) [b]

/-- A frame's Lift takes columns: its column heads have started and no marker of the pass has gone out. -/
def liftRunning (s : State) (f : TileFrame) : Bool :=
  f.phase == .lift && f.deal.all (fun n => (vget s.rink.slots n).markers == f.pass)

/-- A Lift packet to a slot: the Lift router's copy of the route table names the tile, and the packet goes x first, then y (R242,
R297). None where the copy names none. -/
def liftFlight (s : State) (receiver slot : Nat) (features : List Int) (bins : List LiftBin) : Option LiftFlight :=
  let from_ := edgeRouter .lift
  (meshTargets s from_ (.slot slot)).head?.map (fun t =>
    { slot := slot, receiver := receiver, features := features, bins := bins.map (fun b => (b.cell, b.weight)), tile := t,
      path := meshPath from_ t })

/-- The router cuts a column into runs, one Lift packet each (R296, R297). -/
def routeColumn (f : TileFrame) (r : Nat) (rec_ : Bytes) (c : LiftColumn) (s : State) : State :=
  let d := liftDescriptor rec_
  match columnRay s f r c.column with
  | none => s
  | some g =>
    if degenerate g.2 then
      modRink (fun (k : Rink) => { k with liftDegenerate := satAdd 32 k.liftDegenerate 1 }) s
    else
      let bins := columnBins s d g.1 g.2 (c.weights.take (fld d 72 8))
      let packets := (cutRuns bins none []).filterMap (fun (run : (Int × Int) × List LiftBin) =>
        let n := slotIndex run.1.1 run.1.2
        if slotServed s n then liftFlight s r n c.features run.2 else none)
      modRink (fun (k : Rink) => { k with
        packets := k.packets ++ packets, liftOutside := satAdd 32 k.liftOutside (bins.filter (·.isNone)).length }) s

/-- The frame's Lift begins again: what the router sent and what the tiles landed is given up, and the columns come once more
(R318). -/
def restartLift (f : TileFrame) (s : State) : State :=
  modRink (fun (r : Rink) => { r with
    frame := some { f with pass := 0, columns := [], rerouted := true }, packets := [], liftBins := 0, liftOutside := 0,
    liftDegenerate := 0,
    slots := (List.range 48).foldl (fun (v : Vector Slot 48) n => vmod v n (fun (x : Slot) =>
      { x with landing := [], markers := 0, liftBins := 0, passCameras := default })) r.slots }) s

/-- A mismatch in the router's projection path (R318): the frame's Lift is routed once more; a second one leaves every patch
CAMERA_PARTIAL for the frame, and the column is dropped. -/
def routeMismatch (f : TileFrame) (s : State) : State :=
  let s1 := report (rinkFault 49 0) 0 3 .uc 0 s
  if f.rerouted then f.deal.foldl (fun (t : State) n => markPartial n t) s1 else restartLift f s1

/-- A feature column at the Lift router. Every tile sends the columns of its strips in strip order, each once; those of a lost
strip never come. In the second pass only cameras of more than 32 channels send columns (R297, R300). -/
def execLiftColumn (receiver_ : Nat) (column : LiftColumn) (s : State) : Host.Outcome State Fault Refusal :=
  awakeAnswer s fun s =>
    match s.rink.frame, cameraRecord (planImage s) receiver_ with
    | some f, some rec_ =>
      let j := columnStrip f receiver_ rec_ column.column
      let sent := f.columns.any (fun c => c.1 == receiver_ && c.2.1 == column.column)
      let later := f.columns.any (fun c => stripSlot f c.2.2 == stripSlot f j && decide (j < c.2.2))
      if !liftRunning s f || f.pass != column.pass || liftPasses (planImage s) ≤ f.pass ||
          !(passColumns (planImage s) f).contains (receiver_, column.column) || sent || later then s
      else
        let g := { f with columns := (receiver_, column.column, j) :: f.columns }
        let s1 := modRink (fun (r : Rink) => { r with frame := some g }) s
        if column.residue then routeMismatch g s1
        else if f.raysLost.contains receiver_ then s1
        else routeColumn g receiver_ rec_ column s1
    | _, _ => s

/-! ## Splat and landing (R299 to R301) -/

/-- c_i = ⌊(f_i × w + 64) / 128⌋; a negative weight is taken as zero. -/
def liftShare (f w : Int) : Int := (f * max 0 w + 64) / 128

/-- One bin of a packet goes into the landing buffer: 32 channels a cell. -/
def landBin (features : List Int) (landing : List (Nat × Int)) (b : Nat × Int) : List (Nat × Int) :=
  (features.take 32).zipIdx.foldl (fun (l : List (Nat × Int)) f =>
    let k := b.1 * 32 + f.2
    assocSet l k (lookupD l k 0 + liftShare f.1 b.2)) landing

/-- The tile that a packet reached gives it to the slot: it owns the slot, or it is the slot's forwarder (R248, R256). -/
def packetArrives (s : State) (p : LiftFlight) : Bool :=
  ownerOf s p.slot == some p.tile || ((vget s.rink.tiles p.tile).draining && (ownerOf s p.slot).isSome)

/-- The oldest packet on its way to a slot reaches it; a lost patch discards it, and so does a tile that no longer works for the
slot (R298, R301). -/
def execLiftPacket (packet : LiftPacket) (s : State) : Host.Outcome State Fault Refusal :=
  awakeAnswer s fun s =>
    match s.rink.packets.find? (fun p => p.slot == packet.slot), s.rink.frame with
    | some p, some f =>
      let s1 := modRink (fun (r : Rink) => { r with packets := r.packets.erase p }) s
      if (vget s.rink.slots p.slot).patchLost || !packetArrives s p then s1
      else
        modRink (fun (r : Rink) => { r with liftBins := satAdd 32 r.liftBins p.bins.length })
          (modSlot p.slot (fun (x : Slot) => { x with
            landing := p.bins.foldl (landBin p.features) x.landing,
            passCameras := vmod x.passCameras f.pass (fun m => setBit m p.receiver),
            liftBins := satAdd 32 x.liftBins p.bins.length }) s1)
    | _, _ => s

/-- The landing-epilogue layers with their numbers, in ascending order: one per pass (R294). -/
def landingLayers (img : Bytes) : List (Bytes × Nat) :=
  (layerRecords img).zipIdx.filter (fun l => fld l.1 128 8 == 9 && fld l.1 136 2 == 1)

/-- The landing epilogue of a pass on a slot's tile: every cell's sums become its row of the BEV map, and the buffer is
zeroed (R300). Its outputs are its signature (R288), and a migration's target takes them too (R248). -/
def landingResult (s : State) (slot layer : Nat) (l : Bytes) (t : Tile) : StepResult :=
  let img := planImage s
  let table := (functionTables img).getD (Config.landingTable img layer) []
  let m := { stepMemory s slot default t with tables := vset t.tables (dscTable l) table }
  let outs := min 32 (fld l 208 16)
  (List.range 4096).foldl (fun (r : StepResult) cell =>
    let at_ := Config.landingRow img layer cell
    let res := Config.landingResidual img layer cell
    r.append (rowResult m (sharedSection img 0x04) l []
      ({ at_ := at_.1, channel := at_.2, source := .landing cell outs, residualFormat := res.2,
         residual := [{ place := .sram, at_ := res.1, len := outs, first := 0, count := outs }] }, 0))) StepResult.zero

def landingEpilogue (slot pass : Nat) (s : State) : State :=
  let s1 := match (landingLayers (planImage s))[pass]?, ownerOf s slot with
    | some l, some tile =>
      let r := landingResult s slot l.2 l.1 (vget s.rink.tiles tile)
      countArith tile r.counts 0 (writeSlot slot (fun (t : Tile) =>
        { r.writes.foldl (fun (u : Tile) w => sramPut w.1 w.2 u) t with signature := stepSignature r }) s)
    | _, _ => s
  modSlot slot (fun (x : Slot) => { x with landing := [], markers := x.markers + 1 }) s1

/-- The end-of-pass marker of a slot: the router sent it after the last column of the pass, and every packet has come before it
(R297, R298). -/
def execEndOfPassMarker (slot : Nat) (s : State) : Host.Outcome State Fault Refusal :=
  awakeAnswer s fun s =>
    match s.rink.frame with
    | none => s
    | some f =>
      if f.phase != .lift || liftPasses (planImage s) ≤ f.pass || !f.deal.contains slot ||
          (vget s.rink.slots slot).markers != f.pass || s.rink.packets.any (fun p => p.slot == slot) ||
          !(awaitedColumns s f).isEmpty then s
      else
        let s1 := if (vget s.rink.slots slot).patchLost then
            modSlot slot (fun (x : Slot) => { x with landing := [], markers := x.markers + 1 }) s
          else landingEpilogue slot f.pass s
        if f.deal.all (fun n => (vget s1.rink.slots n).markers == f.pass + 1) then
          let s2 := modRink (fun (r : Rink) => { r with frame := some { f with pass := f.pass + 1, columns := [] } }) s1
          if liftPasses (planImage s) ≤ f.pass + 1 then
            let s3 := if f.rerouted then evaluateAgain (rinkFault 49 0) 0 3 false s2 else s2
            kickGate 5 f.frame s3
          else s2
        else s1

/-- The BEV phase starts once the Lift has ended and the frame's rule books are delivered (R23). -/
def execBevPhaseStart (s : State) : Host.Outcome State Fault Refusal :=
  awakeAnswer s fun s =>
    match s.rink.frame with
    | none => s
    | some f =>
      if f.phase == .lift && decide (liftPasses (planImage s) ≤ f.pass) && s.point.delivered == some f.frame then
        modRink (fun (r : Rink) => { r with frame := some { f with phase := .bev } }) s
      else s

/-! ## Halo points (R245, R246) -/

/-- A patch carries HALO_LOST: counted once for the frame. -/
def markHalo (slot : Nat) (s : State) : State :=
  if (vget s.rink.slots slot).haloLost then s
  else modCounters (fun (c : RinkCounters) => { c with haloLost := bump c.haloLost })
    (modSlot slot (fun (x : Slot) => { x with haloLost := true }) s)

/-- The cells of a strip of halo width h: an edge strip of 64 × h cells, a corner block of h × h (R245). -/
def stripCells (h dir : Nat) : Nat := if dir = 0 ∨ dir = 2 ∨ dir = 5 ∨ dir = 7 then h * h else 64 * h

/-- What the strip of a direction brings: the sender's cells bit for bit, or zeros where the neighbour is outside the extent or
its patch is lost (R245, R246, R281). -/
def stripBytes (s : State) (slot dir cellBytes h : Nat) (cells : List Nat) : Bytes :=
  let zero := zeros (cellBytes * stripCells h dir)
  match neighbourSlot s slot dir with
  | none => zero
  | some n =>
    if (vget s.rink.slots n).patchLost then zero
    else match ownerOf s n with
      | some t => cells.flatMap (fun a => cellsGet (vget s.rink.tiles t).sram a cellBytes)
      | none => zero

/-- A halo point opens on a slot: the strips of the neighbours are awaited, and the halo ring holds zeros for the directions in
which there is none. -/
def openHalo (slot layer cellBytes h : Nat) (strip : HaloStrip) (s : State) : State :=
  let absent := (List.range 8).filter (fun d => (neighbourSlot s slot d).isNone)
  writeSlot slot (fun (t : Tile) => absent.foldl (fun (u : Tile) d =>
      sramPut (strip.ring.getD d 0) (zeros (cellBytes * stripCells h d)) u) t)
    (modSlot slot (fun (x : Slot) => { x with
      haloLayer := some layer, haloWait := (List.range 8).filter (fun d => (neighbourSlot s slot d).isSome) }) s)

/-- A halo strip arrives at a slot's halo point of a layer. The first one opens it; the layer starts once the strips of all
neighbours have come. A lost neighbour's strip is zeros and marks the patch. -/
def execHaloPoint (slot : Nat) (strip : HaloStrip) (s : State) : Host.Outcome State Fault Refusal :=
  awakeAnswer s fun s =>
    match s.rink.frame, (layerRecords (planImage s))[strip.layer]? with
    | some f, some layer =>
      let h := fld layer 160 8
      let bytes := rowBytes (dscA layer) (fld layer 192 16)
      let x := vget s.rink.slots slot
      let opened := x.haloLayer == some strip.layer
      if f.phase != .bev || !slotServed s slot || x.headsDone || h = 0 || 8 ≤ strip.neighbour ||
          ((neighbourSlot s slot strip.neighbour).isSome && strip.cells.length != stripCells h strip.neighbour) ||
          (!opened && !x.haloWait.isEmpty) then s
      else
        let s1 := if opened then s else openHalo slot strip.layer bytes h strip s
        let b := stripBytes s slot strip.neighbour bytes h strip.cells
        let s2 := modSlot slot (fun (y : Slot) => { y with haloWait := y.haloWait.filter (fun d => d != strip.neighbour) })
          (writeSlot slot (sramPut (strip.ring.getD strip.neighbour 0) b) s1)
        if (neighbourSlot s slot strip.neighbour).any (fun n => (vget s.rink.slots n).patchLost) then markHalo slot s2
        else s2
    | _, _ => s

/-! ## Remote gathers (R305, R311, R312) -/

/-- Units of 2⁻¹⁶ ns in the 50 µs that R312 gives an answer. -/
def gatherLimit : Nat := 50 * usUnits

/-- The 64 bytes a remote gather is answered with go into the asking tile. -/
def answerGather (slot to_ : Nat) (b : Bytes) (s : State) : State := writeSlot slot (sramPut to_ b) s

/-- A segment of zeros. -/
def zeroGather (slot to_ : Nat) (s : State) : State := answerGather slot to_ (zeros 64) s

/-- A tile asks for a segment of another patch: its sampled attention, or a sparse layer its halo rows. Beyond the layer's reach
or the extent it reads zero, and a sample is counted; on a lost patch it reads zero and marks the asking patch; otherwise the
tile that the asking router's copy of the route table names serves it, bit for bit (R242, R281). -/
def execRemoteGatherRequest (tile : Nat) (gather : Gather) (s : State) : Host.Outcome State Fault Refusal :=
  awakeAnswer s fun s =>
    match s.rink.frame, workSlot s tile, (layerRecords (planImage s))[gather.layer]? with
    | some f, some slot, some layer =>
      let sampled := fld layer 128 8 == 12
      let reach := if sampled then fld layer 184 4 else 1
      let g := patchOfSlot s.rink.centreX s.rink.centreY slot
      let p := (g.1 + gather.dx, g.2 + gather.dy)
      let n := slotIndex p.1 p.2
      if f.phase != .bev || 49 ≤ tile then s
      else if reach < max (mag gather.dx) (mag gather.dy) || !patchInExtent s p || !slotServed s n then
        let s1 := if sampled then modRink (fun (r : Rink) => { r with samplesClipped := satAdd 32 r.samplesClipped 1 }) s else s
        zeroGather slot gather.to_ s1
      else if (vget s.rink.slots n).patchLost then markHalo slot (zeroGather slot gather.to_ s)
      else match (meshTargets s tile (.slot n)).head?, ownerOf s n with
        | some t, some o =>
          let wait : GatherWait := { slot := slot, tile := t, to_ := gather.to_, sent := now s }
          let s1 := modRink (fun (r : Rink) => { r with
            gathers := r.gathers.filter (fun x => decide (now s ≤ x.sent + gatherLimit + 2 * usUnits)) ++ [wait] }) s
          if t = o || (vget s.rink.tiles t).draining then
            answerGather slot gather.to_ (cellsGet (vget s.rink.tiles o).sram gather.address 64) s1
          else s1
        | _, _ => markHalo slot (zeroGather slot gather.to_ s)
    | _, _, _ => s

/-- A request that a serving tile has left unanswered for 50 µs is read as zero; the asking patch is marked. -/
def execRemoteGatherTimeout (tile : Nat) (s : State) : Host.Outcome State Fault Refusal :=
  awakeAnswer s fun s =>
    match s.rink.gathers.find? (fun x => x.tile == tile && decide (x.sent + gatherLimit ≤ now s)) with
    | none => s
    | some x =>
      markHalo x.slot (zeroGather x.slot x.to_ (report (rinkFault tile 0) 9 4 .uc 0
        (modRink (fun (r : Rink) => { r with gathers := r.gathers.erase x }) s)))

end Sys2Proof.Machine
end

