-- ==== Sys2Proof/Machine/Heads.lean ====
section
/-! DEFINITION. The end of the heads: detections, the camera-lidar cross-check, the BEV map export and the test debt
(R189 to R192, R314 to R316, R369, R370, R473). -/

namespace Sys2Proof.Machine

/-! ## Detections (R369, R370) -/

/-- The track parameters of a class in force (R379). -/
def trackParams (s : State) (cls : Nat) : Bytes :=
  let b := vget s.glide.params cls
  if b.isEmpty then setting s 0x0A00 cls else b

/-- SCORE of a cell of the patch or of its halo; none beyond both. -/
def scoreAt (scores : Array Nat) (halo : List (Int × Int × Nat)) (lx ly : Int) : Option Nat :=
  if 0 ≤ lx ∧ lx < 64 ∧ 0 ≤ ly ∧ ly < 64 then scores[(ly * 64 + lx).toNat]?
  else (halo.find? (fun h => h.1 == lx && h.2.1 == ly)).map (fun h => h.2.2)

/-- No neighbour exceeds the cell, and none of a lower global cell index equals it. -/
def isPeak (scores : Array Nat) (halo : List (Int × Int × Nat)) (i own : Nat) : Bool :=
  neighbourDirs.all (fun d =>
    match scoreAt scores halo (((i % 64 : Nat) : Int) + d.1) (((i / 64 : Nat) : Int) + d.2) with
    | none => true
    | some n => flt n own || ((f32 n).eq (f32 own) && (decide (0 < d.2) || (d.2 == 0 && decide (0 < d.1)))))

/-- The class of a cell: its highest class score, the lower index on a tie. -/
def bestClass (scores : List Nat) : Nat × Nat :=
  scores.zipIdx.foldl (fun (b : Nat × Nat) x => if flt b.2 x.1 then (x.2, x.1) else b) (0, scores.headD 0)

/-- The detection of a cell. The global cell index counts rows of 512 cells from the extent's first cell. -/
def detectionOf (s : State) (slot i : Nat) (ch : List Nat) (originZ : Nat) : Detection :=
  let at_ (k : Nat) : Nat := ch.getD k 0
  let g := patchOfSlot s.rink.centreX s.rink.centreY slot
  let gx := g.1 * 64 + ((i % 64 : Nat) : Int)
  let gy := g.2 * 64 + ((i / 64 : Nat) : Int)
  let centre (k : Int) : Dy := Dy.ratio ((2 * k + 1) * cellCm s.rink.cellCode) 200
  let c := bestClass (ch.drop 16)
  { slot := slot, cell := ((gy - (s.rink.centreY - 3) * 64) * 512 + (gx - (s.rink.centreX - 4) * 64)).toNat,
    score := at_ 0, x := to32 ((centre gx).add (f32 (at_ 1))), y := to32 ((centre gy).add (f32 (at_ 2))),
    z := fadd originZ (at_ 3), length := at_ 4, width := at_ 5, height := at_ 6,
    yaw := (Config.atan2 (at_ 7) (at_ 8)).toNat, vx := at_ 9, vy := at_ 10, sigmaPos := at_ 11, sigmaVel := at_ 12,
    sigmaYaw := at_ 13, camera := fle 0x3F000000 (at_ 14), lidar := fle 0x3F000000 (at_ 15), cls := c.1, clsScore := c.2,
    opinions := [] }

/-- Descending SCORE, lower global cell index first on a tie. -/
def detectionBefore (a b : Detection) : Bool :=
  flt b.score a.score || ((f32 a.score).eq (f32 b.score) && decide (a.cell ≤ b.cell))

/-- The format of the DETECTIONS output (Table 11.8). -/
def headFormat (s : State) : Nat :=
  match outputOf (planImage s) 0 with
  | some o => fld o 44 4
  | none => 7

/-- The detections of a patch, at most 128, and how many were dropped. Head outputs become FP32 exactly (R281). -/
def takeDetections (s : State) (slot originZ : Nat) (h : HeadsOutput) : List Detection × Nat :=
  let cells := h.detections.map (fun c => c.map (elemFp32 (headFormat s)))
  let halo := h.halo.map (fun x => (x.1, x.2.1, elemFp32 (headFormat s) x.2.2))
  let scores := (cells.map (fun c => c.headD 0)).toArray
  let found := cells.zipIdx.filterMap (fun c =>
    let d := detectionOf s slot c.2 c.1 originZ
    let limit := Dy.ratio (fld (trackParams s d.cls) 104 8 : Nat) 256
    if limit.le (f32 d.score) && isPeak scores halo c.2 d.score then some d else none)
  let sorted := found.sortBy detectionBefore
  (sorted.take 128, sorted.length - 128)

/-! ## The cross-check (R189 to R192) -/

/-- The plan declares both occupancy outputs (R326). -/
def crossChecks (s : State) : Bool := (outputOf (planImage s) 1).isSome && (outputOf (planImage s) 2).isSome

/-- The trust under which a source's vote counts: present, in shadow, or not at all. -/
def votesIn (s : State) (i : Nat) : Bool := (sourceTrust s i).trust == .trusted || (sourceTrust s i).trust == .suspect
def votesInShadow (s : State) (i : Nat) : Bool := (sourceTrust s i).trust == .excluded

/-- A tally counts a vote of a source. -/
def tallyVote (t : List (Nat × Nat × Nat)) (i : Nat) (out : Bool) : List (Nat × Nat × Nat) :=
  let o := (t.find? (fun x => x.1 == i)).getD (i, 0, 0)
  t.filter (fun x => x.1 != i) ++ [(i, o.2.1 + 1, o.2.2 + flag out)]

/-- One vote among sources, those in shadow judged beside it: the verdict and the tally. -/
def holdVote (s : State) (agree : Nat → Nat → Bool) (voters : List Nat) (t : List (Nat × Nat × Nat)) :
    Verdict × List (Nat × Nat × Nat) :=
  let present := voters.filter (votesIn s)
  let v := vote agree present
  let group := present.filter (fun x => !v.2.contains x)
  let t1 := present.foldl (fun t i => tallyVote t i (v.2.contains i)) t
  let t2 := (voters.filter (votesInShadow s)).foldl (fun t i =>
    tallyVote t i (v.1 == .majority && !group.all (agree i))) t1
  (v.1, t2)

/-- The map of a source on a patch. -/
def mapOf (maps : List OccMap) (i : Nat) : OccMap := (maps.find? (fun m => srcIdx m.source == some i)).getD default

/-- Two sources agree on a patch: among the cells both observe, the share they call differently is at most
OCC_DISAGREE. -/
def mapsAgree (s : State) (maps : List OccMap) (i j : Nat) : Bool :=
  let a := mapOf maps i
  let b := mapOf maps j
  let both := a.observed.filter (fun c => b.observed.contains c)
  let differ := both.filter (fun c => a.occupied.contains c != b.occupied.contains c)
  decide (differ.length * 100 ≤ fld (setting s 0x0503 0) 208 8 * both.length)

/-- The cells of a detection's footprint within its patch. -/
def footprintCells (s : State) (d : Detection) (i : Nat) : List Nat :=
  (Config.footprint d.x d.y d.length d.width d.yaw (cellCm s.rink.cellCode)).filterMap (fun o =>
    let lx := ((i % 64 : Nat) : Int) + o.1
    let ly := ((i / 64 : Nat) : Int) + o.2
    if 0 ≤ lx ∧ lx < 64 ∧ 0 ≤ ly ∧ ly < 64 then some (ly * 64 + lx).toNat else none)

/-- What a source says of an object: true where its modality supports the detection and it observes some of the footprint,
false where it observes the footprint free, none otherwise (R189; assumption 126). -/
def objectOpinion (maps : List OccMap) (d : Detection) (cells : List Nat) (i : Nat) : Option Bool :=
  let m := mapOf maps i
  if (if i < 8 then d.camera else d.lidar) && cells.any (fun c => m.observed.contains c) then some true
  else if !cells.isEmpty && cells.all (fun c => m.observed.contains c && !m.occupied.contains c) then some false
  else none

/-- The local cell of a detection. -/
def localCell (d : Detection) : Nat := d.cell / 512 % 64 * 64 + d.cell % 512 % 64

/-- The checks of one patch: its own vote, and what the sources say of each of its detections. -/
structure PatchCheck where
  tally : List (Nat × Nat × Nat)
  contested : Bool
  ambiguous : Nat
  detections : List Detection
deriving DecidableEq, Repr, Inhabited

/-- A detection with what each source says of it. -/
def withOpinions (s : State) (maps : List OccMap) (sources : List Nat) (d : Detection) : Detection :=
  let cells := footprintCells s d (localCell d)
  { d with opinions := sources.filterMap (fun i => (objectOpinion maps d cells i).map (fun o => (i, o))) }

/-- The object-level vote on a track, from its detection (R189, R190). -/
def objectVote (s : State) (d : Detection) (tally : List (Nat × Nat × Nat)) : Verdict × List (Nat × Nat × Nat) :=
  let stated (i : Nat) : Bool := lookupD d.opinions i false
  holdVote s (fun i j => stated i == stated j) (d.opinions.map (·.1)) tally

def checkPatch (s : State) (maps : List OccMap) (tally : List (Nat × Nat × Nat)) (ds : List Detection) : PatchCheck :=
  let sources := (List.range 16).filter (fun i => maps.any (fun m => srcIdx m.source == some i))
  let voters := sources.filter (fun i =>
    decide (fld (setting s 0x0503 0) 192 16 ≤ (mapOf maps i).observed.length))
  let v := holdVote s (mapsAgree s maps) voters tally
  { tally := v.2, contested := v.1 == .contested, ambiguous := flag (v.1 == .ambiguous),
    detections := ds.map (withOpinions s maps sources) }

/-- A source is an outlier of the frame (R192). -/
def frameOutlier (s : State) (t : Nat × Nat × Nat) : Bool :=
  decide (outlierShare s * t.2.1 ≤ 100 * t.2.2) && decide (4 ≤ t.2.2)

/-- The frame's cross-check verdicts take effect on the sources' trust (R192). -/
def judgeSources (tally : List (Nat × Nat × Nat)) (s : State) : State :=
  (List.range 16).foldl (fun (u : State) i =>
    match tally.find? (fun t => t.1 == i) with
    | some t => judgeTrust i (frameOutlier s t) (!frameOutlier s t) u
    | none => judgeTrust i false false u) s

/-- An event of kind CONTESTED (R191, Table 13.12): what the tick fills in is filled in there (R394). Its detection
instant is the first tick instant at or after the verdict. -/
def contestEvent (s : State) (f : TileFrame) : Event :=
  { (default : Event) with
    detection := multipleFrom (tickPeriodMs s * msUnits) (now s), evidence := f.instant, kind := 6, rule := 0xFF,
    zone := 0xFF }

/-- A slot's patch enters CONTESTED, stays in it, or comes nearer to leaving it. -/
def contestPatch (f : TileFrame) (contested : Bool) (slot : Nat) (s : State) : State :=
  let was := s.align.contestedPatches.any (fun c => c.id == slot)
  let s1 := modAlign (fun (a : Align) =>
    { a with contestedPatches := contestStep (contestClear s) slot contested a.contestedPatches }) s
  if contested && !was then
    report (alignFault 27) 0 4 .ce 0 (modGlide (fun (g : Glide) =>
      { g with events := g.events ++ [{ contestEvent s f with zone := slot, patchEvent := true }] }) s1)
  else s1

/-! ## The BEV map export (R315, R316) -/

/-- Bytes of a cell in the export in force. -/
def exportCellBytes (s : State) : Nat :=
  match outputOf (planImage s) 3 with
  | some o => fld s.rink.export_.block 16 8 * (fmtBits (fld o 44 4) / 8)
  | none => 0

/-- A frame is exported (R316, Table 10.5). -/
def exportDue (s : State) (frame : Nat) : Bool :=
  bitAt s.rink.export_.block 0 && (outputOf (planImage s) 3).isSome &&
    frame % max 1 (fld s.rink.export_.block 24 8) == 0

/-- The start of the buffer that export k fills. -/
def exportBuffer (k : Nat) : Nat := k % 2 * 8388608

def putExport (off : Nat) (b : Bytes) (s : State) : State :=
  { s with memory := { s.memory with exportRegion := cellsPut s.memory.exportRegion off b } }

/-- A slot's patch is CONTESTED. -/
def patchContested (s : State) (slot : Nat) : Bool := s.align.contestedPatches.any (fun c => c.id == slot)

/-- The receivers whose Lift packets reached a patch, in either pass (Table 10.7). -/
def Slot.cameras (x : Slot) : Nat := vget x.passCameras 0 ||| vget x.passCameras 1

/-- The buffer header of Table 10.6. -/
def exportHeader (s : State) (f : TileFrame) (seq : Nat) : Bytes :=
  let r := s.rink
  let marks (p : Slot → Bool) : Nat := ((List.range 48).filter (fun n => p (vget r.slots n))).length
  let fmt := match outputOf (planImage s) 3 with
    | some o => fld o 44 4
    | none => 0
  pack 64 [(480, 32, seq), (448, 32, f.frame), (352, 96, dtsBits f.instant), (320, 32, codeOf 32 r.centreX),
    (288, 32, codeOf 32 r.centreY), (256, 32, anchorId s), (240, 16, r.anchorSeq), (232, 8, r.cellCode),
    (224, 8, flag r.reduced), (216, 8, fld r.export_.block 16 8), (208, 8, fld r.export_.block 8 8), (204, 4, fmt),
    (192, 8, exportCellBytes s), (184, 8, marks (·.truncated)), (176, 8, marks (·.patchLost)),
    (168, 8, postureCode s.dev.posture), (128, 32, r.liftBins), (96, 32, r.liftOutside), (64, 32, r.liftDegenerate),
    (32, 32, r.samplesClipped)]

/-- The patch header of Table 10.7. -/
def patchHeader (s : State) (f : TileFrame) (slot : Nat) (cells : Bytes) : Bytes :=
  let x := vget s.rink.slots slot
  let g := patchOfSlot s.rink.centreX s.rink.centreY slot
  pack 64 [(480, 32, f.frame), (448, 32, crc32c cells), (416, 32, codeOf 32 g.1), (384, 32, codeOf 32 g.2),
    (376, 8, slot % 8), (368, 8, slot / 8), (360, 8, (ownerOf s slot).getD 0xFF), (352, 8, x.historyAge),
    (344, 8, x.cameras), (336, 8, x.lidars), (328, 1, flag f.recentred), (327, 1, flag (patchContested s slot)),
    (326, 1, flag x.cameraPartial), (325, 1, flag x.haloLost), (324, 1, flag x.patchLost), (323, 1, flag x.noLidar),
    (322, 1, flag x.truncated), (321, 1, flag x.served), (320, 1, flag (slotInExtent s slot)), (288, 32, x.liftBins),
    (256, 32, x.occupiedVoxels)]

/-- The cells of a record: the chosen channels of each cell, ascending (R315). -/
def exportCells (s : State) (tensor : List (List Nat)) : Bytes :=
  let first := fld s.rink.export_.block 8 8
  let n := fld s.rink.export_.block 16 8
  let cb := exportCellBytes s
  (List.range 4096).flatMap (fun c => fit cb (((tensor.getD c []).drop first |>.take n).flatMap (bytesOfNat (cb / max 1 n))))

/-- A slot's record is written, of zero cells where nothing served it or its patch is lost. -/
def writeRecord (f : TileFrame) (slot : Nat) (tensor : List (List Nat)) (s : State) : State :=
  let cb := exportCellBytes s
  let x := vget s.rink.slots slot
  let cells := if x.served && !x.patchLost then exportCells s tensor else zeros (4096 * cb)
  let off := exportBuffer s.rink.export_.k + 64 + slot * (64 + 4096 * cb)
  modRink (fun (r : Rink) => { r with export_ := { r.export_ with written := r.export_.written ++ [slot] } })
    (putExport off (patchHeader s f slot cells ++ cells) s)

/-- The export of a frame begins with its first record: WRITE_SEQ is 2k + 1 before the first byte. -/
def openExport (f : TileFrame) (s : State) : State :=
  if s.rink.export_.writing = some f.frame then s
  else
    putExport (exportBuffer s.rink.export_.k) (exportHeader s f (2 * s.rink.export_.k + 1))
      (modRink (fun (r : Rink) => { r with export_ := { r.export_ with writing := some f.frame, written := [] } }) s)

/-- At the last heads end the records that no heads wrote are written, and the header's counts are final. -/
def fillExport (f : TileFrame) (s : State) : State :=
  let s1 := (List.range 48).foldl (fun (u : State) n =>
    if u.rink.export_.written.contains n then u else writeRecord f n [] u) (openExport f s)
  putExport (exportBuffer s1.rink.export_.k) (exportHeader s1 f (2 * s1.rink.export_.k + 1)) s1

/-- The last record is in LPDDR: WRITE_SEQ is 2k + 2 (R316). -/
def execExportComplete (s : State) : Host.Outcome State Fault Refusal :=
  awakeAnswer s fun s =>
    let e := s.rink.export_
    if e.writing.isNone || e.written.length < 48 then s
    else
      modRink (fun (r : Rink) => { r with export_ := { r.export_ with k := e.k + 1, writing := none, written := [] } })
        (putExport (exportBuffer e.k + 60) (bytesOfNat 4 (2 * e.k + 2)) s)

/-! ## Test debt (R473) -/

/-- Tiles are tested by slices: no spare is left and, in Sentry, no DORMANT tile either (R471, R474). -/
def sliceTested (s : State) : Bool :=
  inRun s && spareless s && (!inSentry s || !s.rink.tiles.toList.any (fun t => t.role == .dormant))

/-- At heads end h in a test cycle begun at b: the owed slices run at once when the cycle's deadline requires it. -/
def settleDebt (s : State) : State :=
  match s.safety.cycleFrom with
  | none => s
  | some b =>
    let owed := 12 - s.safety.slicesDone
    let slice := 150 * usUnits
    if !sliceTested s ∨ owed = 0 ∨ now s + shortestSpacing (effectiveRate s) * usUnits + owed * slice ≤ b + 50 * msUnits then s
    else
      let s1 := modSafety (fun (x : Safety) => { x with
        debtEvents := bump x.debtEvents, slicesRun := satAdd 32 x.slicesRun owed, slicesDone := 12, debtPaid := true,
        debtTime := owed * slice, imageNotBefore := some (now s + owed * slice) }) s
      report (safetyFault 4 0) 0 4 .uc 0 s1

/-! ## The end of the heads -/

/-- A patch entry of Table 13.6 without TRACKS. -/
def patchEntry (s : State) (slot : Nat) : Nat :=
  let x := vget s.rink.slots slot
  natOfBytes (pack 8 [(32, 8, (ownerOf s slot).getD 0xFF), (24, 8, x.lidars), (16, 8, x.cameras), (8, 8, x.historyAge),
    (7, 1, flag (patchContested s slot)), (6, 1, flag x.cameraPartial), (5, 1, flag x.haloLost),
    (4, 1, flag x.patchLost), (3, 1, flag x.noLidar), (2, 1, flag x.truncated), (1, 1, flag x.served),
    (0, 1, flag (slotInExtent s slot))])

/-- The heads have ended on every slot: the frame leaves the array. -/
def finishFrame (f : TileFrame) (s : State) : State :=
  let s1 := if crossChecks s then
      f.deal.foldl (fun (u : State) n => contestPatch f (f.contests.contains n) n u) s
    else s
  let s2 := if exportDue s1 f.frame then fillExport f s1 else s1
  let set_ : DetectionSet :=
    { frame := f.frame, instant := f.instant,
      detections := f.detections.sortBy (fun a b => decide (a.slot ≤ b.slot)), dropped := f.dropped,
      patches := (List.range 48).map (patchEntry s2), arrived := false, arrivedAt := 0, centreX := s2.rink.centreX,
      centreY := s2.rink.centreY, reduced := s2.rink.reduced, recentred := f.recentred,
      checked := crossChecks s, tally := f.tally }
  let s3 := modGlide (fun (g : Glide) => { g with arriving := g.arriving ++ [set_] }) s2
  let s4 := settleDebt (kickGate 6 f.frame s3)
  let us := (now s - f.imageStart) / usUnits
  modCounters (fun (c : RinkCounters) => { c with lastTileTimeUs := min us (2 ^ 32 - 1) })
    (modRink (fun (r : Rink) => { r with frame := none, gathers := [] }) s4)

/-- A tile's heads end: its detections are taken and checked, its record is written, and with the last slot the frame is
done. A lost patch gives none. -/
def execHeadsEnd (slot : Nat) (heads : HeadsOutput) (s : State) : Host.Outcome State Fault Refusal :=
  awakeAnswer s fun s =>
    match s.rink.frame with
    | none => s
    | some f =>
      let x := vget s.rink.slots slot
      if f.phase != .bev || !f.deal.contains slot || x.headsDone then s
      else
        let originZ := ((setOf s f.frame).map (·.originZ)).getD 0
        let t := if x.patchLost then ([], 0) else takeDetections s slot originZ heads
        let c := if x.patchLost || !crossChecks s then
            { tally := f.tally, contested := false, ambiguous := 0, detections := t.1 }
          else checkPatch s heads.maps f.tally t.1
        let g := { f with
          tally := c.tally, contests := if c.contested then f.contests ++ [slot] else f.contests,
          detections := f.detections ++ c.detections, dropped := f.dropped + t.2 }
        let s1 := modAlign (fun (a : Align) => { a with ambiguous := satAdd 32 a.ambiguous c.ambiguous })
          (modRink (fun (r : Rink) => { r with frame := some g })
            (modSlot slot (fun (y : Slot) => { y with headsDone := true }) s))
        let s2 := if exportDue s1 f.frame then writeRecord g slot heads.tensor (openExport g s1) else s1
        if g.deal.all (fun n => (vget s2.rink.slots n).headsDone || (vget s2.rink.slots n).patchLost) then
          finishFrame g s2
        else s2

end Sys2Proof.Machine
end

