-- ==== Sys2Proof/Machine/PlanStore.lean ====
section
/-! DEFINITION. Plans: the stages of LOAD_PLAN, the fit of a variant, activation, unloading and status (R319 to R343). -/

namespace Sys2Proof.Machine

/-! ## Records -/

/-- A failed check: the stage and the directory index of the offending section. -/
abbrev StageFail := Nat × Nat

/-- The first failed check of a list. -/
def firstFail (l : List (Bool × StageFail)) : Option StageFail := (l.find? (fun c => c.1)).map (·.2)

/-- The section of a type and variant. -/
def sectionOf (img : Bytes) (kind variant : Nat) : Option Section :=
  (sectionList img).find? (fun x => x.kind == kind && x.variant == variant)

/-- The directory index of the shared section of a type. -/
def sharedIndex (img : Bytes) (kind : Nat) : Nat := ((sectionOf img kind 0xFF).map (·.index)).getD 0xFF

/-- The variants of an image: kind, record and directory index. -/
def variantsOf (img : Bytes) : List (Nat × Bytes × Nat) :=
  ((sectionList img).filter (fun x => x.kind == 1)).map (fun x => (x.variant, sectionBytes img x, x.index))

/-- The spill entries of a variant record, in order. -/
def spillEntries (img rec_ : Bytes) : List Bytes :=
  if fld rec_ 40 8 = 0xFF then []
  else (recordsOf 16 (sectionBytes img (sectionAt img (fld rec_ 40 8)))).take (fld rec_ 24 8)

/-- Fields of a layer record (Table 11.5). -/
def layerClass (b : Bytes) : Nat := fld b 128 8
def layerPhase (b : Bytes) : Nat := fld b 136 2
def layerKernel (b : Bytes) : Nat := fld b 144 8
def layerStride (b : Bytes) : Nat := fld b 152 4
def layerDilation (b : Bytes) : Nat := fld b 156 4
def layerHalo (b : Bytes) : Nat := fld b 160 8
def layerRules (b : Bytes) : Nat := fld b 168 8
def layerWindow (b : Bytes) : Nat := fld b 176 8
def layerReach (b : Bytes) : Nat := fld b 184 4
def layerMode (b : Bytes) : Nat := fld b 188 4
def layerOuts (b : Bytes) : Nat := fld b 208 16
def weightOffset (b : Bytes) : Nat := fld b 224 32
def weightBytes (b : Bytes) : Nat := fld b 256 32
def scaleOffset (b : Bytes) : Nat := fld b 288 32

/-- Bytes of a layer's scales and biases. -/
def scaleBytes (b : Bytes) : Nat :=
  4 * layerOuts b * ((if bitAt b 19 then 1 else 0) + (if bitAt b 20 then 1 else 0))

/-! ## Stages 1 and 2 -/

/-- HEADER. -/
def stage1 (img : Bytes) (length : Nat) : Option StageFail :=
  let n := imageSections img
  let last := sectionAt img (n - 1)
  firstFail [
    (fld img 0 32 != 0x4E4C5054 || fld img 32 16 != 1 || fld img 64 32 != length || decide (n < 3) || decide (64 < n),
      (1, 0xFF)),
    (last.kind != 0x0F || last.len != 4096 || last.off + last.len != length, (1, (n - 1) % 256))]

/-- The LMS check that plans, firmware and life-cycle orders share (R327, R535): the key's slot holds its hash and is
not revoked, and the signature over the digest verifies. -/
def signatureGood (s : State) (signed sig : Bytes) : Bool :=
  let k := fld sig 0 32
  let slot := vget s.security.keys k
  decide (k < 4) && slot.programmed && !slot.revoked && (Config.sha256 (slice sig 4 56)).toNat == slot.hash &&
    Config.lmsVerify slot.hash (bytesOfNat 32 (Config.sha256 signed).toNat) (slice sig 60 2508)

/-- SIGNATURE: every byte before the signature section is signed. -/
def stage2 (s : State) (img : Bytes) : Option StageFail :=
  let x := sectionAt img (imageSections img - 1)
  firstFail [(!signatureGood s (img.take x.off) (sectionBytes img x), (2, x.index))]

/-! ## Stage 3: STRUCTURE -/

def variantOwned (kind : Nat) : Bool := kind == 1 || kind == 2 || kind == 10
def typeKnown (kind : Nat) : Bool := (decide (1 ≤ kind) && decide (kind ≤ 10)) || kind == 15

/-- Whole records of a section's type. -/
def recordsWhole (x : Section) : Bool :=
  match x.kind with
  | 1 => x.len == 64
  | 3 => x.len % 48 == 0
  | 5 => x.len % 2080 == 0 && decide (x.len ≤ 64 * 2080)
  | 6 => x.len % 96 == 0
  | 7 => x.len == 80
  | 8 | 9 | 10 => x.len % 16 == 0
  | 15 => x.len == 4096
  | _ => true

/-- One directory entry alone and against the others (R319, R321). -/
def sectionBad (img : Bytes) (x : Section) : Bool :=
  let all := sectionList img
  !typeKnown x.kind || (if variantOwned x.kind then decide (3 < x.variant) else x.variant != 0xFF) ||
  x.off % 64 != 0 || decide (x.off < 64 + 16 * imageSections img) || decide (img.length < x.off + x.len) ||
  all.any (fun y => y.index != x.index && ((y.kind == x.kind && y.variant == x.variant) ||
    (decide (y.off < x.off + x.len) && decide (x.off < y.off + y.len)))) ||
  crc32c (sectionBytes img x) != x.crc || !recordsWhole x

/-- WEIGHTS is needed by some layer. -/
def needsWeights (img : Bytes) : Bool :=
  (layerRecords img).any (fun b => weightBytes b != 0 || scaleOffset b != 0xFFFFFFFF)

/-- A variant record's indices and kind (R322, R323). -/
def variantIndexBad (img : Bytes) (v : Nat × Bytes × Nat) : Bool :=
  let st := sectionAt img (fld v.2.1 32 8)
  let sp := fld v.2.1 40 8
  let spill := sectionAt img sp
  fld v.2.1 0 8 != v.1 || decide (imageSections img ≤ fld v.2.1 32 8) || st.kind != 2 || st.variant != v.1 ||
  (if sp = 0xFF then fld v.2.1 24 8 != 0
   else decide (imageSections img ≤ sp) || spill.kind != 10 || spill.variant != v.1 ||
     decide (spill.len / 16 < fld v.2.1 24 8)) ||
  (spillEntries img v.2.1).any (fun e => decide ((layerRecords img).length ≤ fld e 0 32))

/-- A layer record's indices into WEIGHTS and RULE_SETS. -/
def layerIndexBad (img b : Bytes) : Bool :=
  let w := (sharedSection img 4).length
  (weightBytes b != 0 && decide (w < weightOffset b + weightBytes b)) ||
  (scaleOffset b != 0xFFFFFFFF && decide (w < scaleOffset b + scaleBytes b)) ||
  (layerRules b != 0xFF && !(ruleSets img).any (fun r => fld r 0 8 == layerRules b))

/-- The bytes of a variant's spill list. -/
def spillSection (img rec_ : Bytes) : Bytes := (spillEntries img rec_).flatten

/-- The variants that an image holds, and what binds them (R322). -/
def variantsBad (img : Bytes) : Bool :=
  let kinds := (variantsOf img).map (·.1)
  let drive := [0, 1, 2].filter (fun k => kinds.contains k)
  let rec_ (k : Nat) : Bytes := (variantRecord img k).getD []
  let steps (k : Nat) : Bytes := sectionBytes img (sectionAt img (fld (rec_ k) 32 8))
  kinds.isEmpty || (drive.length != 0 && drive.length != 3) ||
  (drive.length == 3 && (!Config.sameButMarks (steps 0) (steps 1) || spillSection img (rec_ 0) != spillSection img (rec_ 1) ||
    fld (rec_ 0) 256 64 != fld (rec_ 2) 256 64))

def stage3 (img : Bytes) : Option StageFail :=
  let secs := sectionList img
  let orElse (a b : Option StageFail) : Option StageFail := if a.isSome then a else b
  orElse ((secs.find? (sectionBad img)).map (fun x => (3, x.index)))
    (orElse (firstFail [
        (!secs.any (fun x => x.kind == 3), (3, 0xFF)), (!secs.any (fun x => x.kind == 9), (3, 0xFF)),
        (needsWeights img && !secs.any (fun x => x.kind == 4), (3, 0xFF)),
        ((layerRecords img).any (layerIndexBad img), (3, sharedIndex img 3)),
        ((outputRecords img).any (fun b => decide ((layerRecords img).length ≤ fld b 64 32)), (3, sharedIndex img 9))])
      (orElse (((variantsOf img).find? (variantIndexBad img)).map (fun v => (3, v.2.2)))
        (firstFail [(variantsBad img, (3, 0xFF))])))

/-! ## Stage 5: CONTENT -/

/-- The scale bytes of the MX rows of a layer's weights, K / 32 blocks each, in groups of 32 blocks (R267, R268). -/
def mxScaleBytes (fmt k : Nat) (w : Bytes) : Bytes :=
  let per := 4 * fmtBits fmt
  let blocks := k / 32
  let row := blocks * (1 + per)
  (List.range (w.length / max 1 row)).flatMap (fun r =>
    (List.range ((blocks + 31) / 32)).flatMap (fun g =>
      slice w (r * row + g * 32 * (1 + per)) (min 32 (blocks - 32 * g))))

/-- A weight that is no number, or a shared scale of 0xFF (R276). -/
def weightsBad (img b : Bytes) : Bool :=
  let w := slice (sharedSection img 4) (weightOffset b) (weightBytes b)
  let f := dscW b
  if dscK b = 0 ∨ fmtIsInt f then false
  else if fmtIsMx f then (mxScaleBytes f (dscK b) w).any (fun x => x == 0xFF)
  else (List.range (w.length * 8 / fmtBits f)).any (fun i => elementBad f (fld w (fmtBits f * i) (fmtBits f)))

/-- A scale or a bias that is not finite (R276). -/
def scalesBad (img b : Bytes) : Bool :=
  let w := slice (sharedSection img 4) (scaleOffset b) (scaleBytes b)
  (scaleOffset b != 0xFFFFFFFF && (List.range (w.length / 4)).any (fun i => !fpFinite (fld w (32 * i) 32))) ||
  (scaleOffset b == 0xFFFFFFFF && (bitAt b 19 || bitAt b 20)) || !fpFinite (dscAccScale b) ||
  !fpFinite (dscOutScale b) || !(Dy.zero.lt (f32 (dscOutScale b)))

/-- The arithmetic descriptor (R264, R268, R269, R277). -/
def arithBad (b : Bytes) : Bool :=
  let k := dscK b
  fld b 0 4 != 0 || fld b 22 2 != 0 || fld b 28 4 != 0 || decide (2 < dscRound b) ||
  (decide (8 ≤ dscTable b) && decide (dscTable b ≤ 14)) || decide (10 < dscOut b) || decide (10 < dscA b) ||
  (k != 0 && decide (10 < dscW b)) || decide (65536 < k) || (k != 0 && (pairKp (dscA b) (dscW b)).isNone) ||
  (k != 0 && (fmtIsMx (dscA b) || fmtIsMx (dscW b)) && k % 32 != 0) || (fmtIsMx (dscOut b) && layerOuts b % 32 != 0)

/-- The phases and limits of a layer's class (Table 10.4, R307). -/
def classBad (b : Bytes) : Bool :=
  let c := layerClass b
  let p := layerPhase b
  let k := layerKernel b
  let imageOrBev := p == 0 || p == 2
  match c with
  | 0 | 1 => !imageOrBev || decide (k < 1) || (p == 2 && decide (4 < k / 2 * layerDilation b))
  | 2 | 5 => false
  | 3 => !imageOrBev || decide (3 < k) || decide (1 < layerMode b)
  | 4 => !imageOrBev || decide (1 < layerMode b)
  | 6 => p != 2 || layerRules b == 0xFF
  | 7 => p != 2 || decide (1 < layerMode b)
  | 8 => p != 2
  | 9 => p != 1
  | 10 => p != 2 || decide (1 < k) || layerHalo b != 0 || decide (1 < layerDilation b) || layerStride b == 2
  | 11 => p != 2 || !([4, 8, 16, 32, 64].contains (layerWindow b)) || decide (1 < layerMode b) ||
      (layerMode b == 1 && decide (4 < layerWindow b / 2))
  | 12 => p != 2 || decide (layerWindow b < 1) || decide (16 < layerWindow b) || decide (layerReach b < 1) ||
      decide (2 < layerReach b)
  | _ => true

/-- A sparse layer's set is of a kind that its operator runs: a sparse convolution's of kinds 1 to 4 (Table 10.4), a collapse's
of kind 3 and a densify's of the flat kinds 3 and 4 (R306). -/
def sparseBad (img b : Bytes) : Bool :=
  let kinds := match layerClass b with
    | 6 => [1, 2, 3, 4]
    | 7 => [3]
    | 8 => [3, 4]
    | _ => []
  !kinds.isEmpty && !(ruleSets img).any (fun r => fld r 0 8 == layerRules b && kinds.contains (fld r 32 8))

/-- A layer record (R324). -/
def layerBad (img b : Bytes) : Bool :=
  arithBad b || classBad b || sparseBad img b || decide (2 < layerPhase b) || fld b 138 6 != 0 || fld b 320 64 != 0 ||
  decide (9 < layerKernel b) || decide (layerStride b < 1) || decide (2 < layerStride b) ||
  decide (layerDilation b < 1) || decide (4 < layerDilation b) || decide (4 < layerHalo b) ||
  (layerRules b != 0xFF && decide (15 < layerRules b)) || fld b 192 16 == 0 || layerOuts b == 0 ||
  weightOffset b % 64 != 0 || weightsBad img b || scalesBad img b

/-- A function table's entries and domain are finite (R276). -/
def tableBad (b : Bytes) : Bool :=
  !fpFinite (fld b 32 32) || !fpFinite (fld b 64 32) || fld b 2 6 != 0 || fld b 10 2 != 0 || fld b 16 16 != 0 ||
  fld b 96 160 != 0 || fld b 0 2 == 3 || fld b 8 2 == 3 ||
  (List.range 512).any (fun i => !fpFinite (fld b (256 + 32 * i) 32))

/-- INPUT_FORMAT and ROUND of an input descriptor (R282, R303). -/
def inputBad (format round : Nat) : Bool := !([1, 2, 3, 5, 6].contains format) || decide (2 < round)

/-- A Lift descriptor (Table 10.1). -/
def liftBad (d : Bytes) : Bool :=
  let within (lo hi : Dy) (lo' w : Nat) : Bool :=
    fpFinite (fld d lo' w) && lo.le (f32 (fld d lo' w)) && (f32 (fld d lo' w)).le hi
  fld d 8 40 != 0 || fld d 50 6 != 0 || fld d 64 8 != 0 || decide (1 < fld d 48 2) || fld d 56 8 == 0 ||
  decide (64 < fld d 56 8) || fld d 72 8 == 0 || decide (128 < fld d 72 8) || fld d 80 16 == 0 ||
  decide (1024 < fld d 80 16) || !within (Dy.ofInt 1) (Dy.ofInt 64) 96 32 || !fpFinite (fld d 128 32) ||
  !fpFinite (fld d 160 32) || !within (f32 0x3DCCCCCD) (Dy.ofInt 100) 192 32 || !fpFinite (fld d 224 32) ||
  (fld d 48 2 == 1 && (f32 (fld d 224 32)).le (Dy.ofInt 1))

/-- A camera record (R325). -/
def cameraBad (img rec_ : Bytes) : Bool :=
  let i := inputDescriptor rec_
  let l := liftDescriptor rec_
  let t := stripDeclaration rec_
  let r := fld i 0 4
  decide (7 < r) || fld l 0 8 != r || fld t 0 8 != r ||
  decide (1 < ((cameraRecords img).filter (fun x => fld x 0 4 == r)).length) ||
  inputBad (fld i 4 4) (fld i 8 4) || fld i 12 116 != 0 || liftBad l || fld t 8 8 != 0 || fld t 96 32 != 0 ||
  decide (256 < fld t 48 16) || decide (fld t 32 16 < 16) || decide (2048 < fld t 32 16) || fld t 16 16 == 0 ||
  decide (256 < fld t 16 16) || fld t 16 16 != (fld t 64 16 + fld t 32 16 - 1) / max 1 (fld t 32 16)

/-- A rule-book set (R326, Table 7.4). -/
def ruleSetBad (img b : Bytes) : Bool :=
  let all := ruleSets img
  let n := fld b 0 8
  let kind := fld b 32 8
  let stride := fld b 40 8
  let input := fld b 48 8
  let inputSet := all.find? (fun x => fld x 0 8 == input)
  fld b 8 24 != 0 || fld b 56 40 != 0 || decide (15 < n) || decide (4 < kind) || decide (stride < 1) ||
  decide (2 < stride) || ((kind == 0 || kind == 1 || kind == 3) && stride == 2) ||
  decide (1 < (all.filter (fun x => fld x 0 8 == n)).length) ||
  (if kind = 0 then input != 0xFF
   else decide (n ≤ input) || inputSet.isNone ||
     (kind == 4 && !inputSet.any (fun x => fld x 32 8 == 3 || fld x 32 8 == 4)))

/-- The declared sets together: one of kind 0 exactly when LIDAR_INPUT is present. -/
def ruleSetsBad (img : Bytes) : Bool :=
  let lidar := (sharedIndex img 7) != 0xFF
  (ruleSets img).any (ruleSetBad img) ||
  ((ruleSets img).filter (fun b => fld b 32 8 == 0)).length != (if lidar then 1 else 0)

/-- The declared outputs (R313, R326, R369). -/
def outputsBad (img : Bytes) : Bool :=
  let outs := outputRecords img
  let count (k : Nat) : Nat := (outs.filter (fun b => outputKind b == k)).length
  let drive := (variantRecord img 0).isSome
  outs.any (fun b =>
    let ch := fld b 48 16
    fld b 0 32 != 0 || fld b 40 4 != 0 || fld b 96 32 != 0 || decide (3 < outputKind b) || decide (10 < fld b 44 4) ||
    (match outputKind b with
     | 0 => decide (ch < 17) || decide (32 < ch)
     | 3 => decide (128 < ch) || ch == 0 || !([1, 3, 5, 6].contains (fld b 44 4))
     | _ => ch != 1)) ||
  count 0 != 1 || decide (1 < count 1) || decide (1 < count 2) || decide (1 < count 3) ||
  (drive && (count 1 != 1 || count 2 != 1))

/-- A variant record's ranges and regions (R323). -/
def variantBad (b : Bytes) : Bool :=
  let kind := fld b 0 8
  let sBase := fld b 256 16
  let sLen := fld b 272 16
  let bBase := fld b 288 16
  let bLen := fld b 304 16
  fld b 8 8 != 0 || fld b 64 32 != 0 || fld b 384 128 != 0 ||
  fld b 16 8 != (match kind with
    | 2 => 40
    | 3 => 4
    | _ => 48) ||
  decide (16 < fld b 24 8) || fld b 128 32 == 0 || decide (1000000 < fld b 128 32) || decide (fld b 160 32 < 1000) ||
  decide (1000000 < fld b 160 32) || decide (4096 < sBase + sLen) || decide (4096 < bBase + bLen) ||
  (decide (sBase < bBase + bLen) && decide (bBase < sBase + sLen)) ||
  (kind == 3 && (List.range 4).any (fun i => decide (7 < fld b (320 + 8 * i) 4) || decide (5 < fld b (324 + 8 * i) 4) ||
    (List.range i).any (fun j => fld b (320 + 8 * i) 8 == fld b (320 + 8 * j) 8)))

/-- The Lift passes that the cameras need are there (R294). -/
def landingBad (img : Bytes) : Bool :=
  let cams := cameraRecords img
  let wide := cams.any (fun b => decide (32 < fld (liftDescriptor b) 56 8))
  liftPasses img != (if wide then 2 else 1)

/-- LIDAR_INPUT is present exactly when some layer names a set; its formats (R303, R325). -/
def lidarInputBad (img : Bytes) : Bool :=
  let b := sharedSection img 7
  let present := sharedIndex img 7 != 0xFF
  present != (layerRecords img).any (fun l => layerRules l != 0xFF) ||
  (present && (inputBad (fld b 512 4) (fld b 516 4) || fld b 520 120 != 0))

def stage5 (img : Bytes) : Option StageFail :=
  let orElse (a b : Option StageFail) : Option StageFail := if a.isSome then a else b
  orElse (firstFail [
      ((layerRecords img).any (layerBad img) || landingBad img || Config.headsNotInt8 img, (5, sharedIndex img 3)),
      ((functionTables img).any tableBad, (5, sharedIndex img 5)),
      ((cameraRecords img).any (cameraBad img), (5, sharedIndex img 6)),
      (lidarInputBad img, (5, sharedIndex img 7)),
      (ruleSetsBad img, (5, sharedIndex img 8)),
      (outputsBad img, (5, sharedIndex img 9)),
      (Config.stepsTouchState img, (5, 0xFF))])
    (((variantsOf img).find? (fun v => variantBad v.2.1)).map (fun v => (5, v.2.2)))

/-- The five stages in order (R329). -/
def verifyImage (s : State) (img : Bytes) (length : Nat) : Option StageFail :=
  match stage1 img length with
  | some f => some f
  | none => match stage2 s img with
    | some f => some f
    | none => match stage3 img with
      | some f => some f
      | none => if revisionWord / 65536 < fld img 48 16 then some (4, 0xFF) else stage5 img

/-! ## Fit (R330, R331) -/

/-- The largest rate not above `n` at which kind 3's spacing less the Sentry tick period reaches a tile time; sliced
stretches the time by 1 / 0.96. -/
def sentryRate (tickMs t : Nat) (sliced : Bool) : Nat → Option Nat
  | 0 => none
  | n + 1 =>
    let span := (1000 / (n + 1) - tickMs) * 1000
    if (if sliced then decide (100 * t ≤ 96 * span) else decide (t ≤ span)) then some (n + 1)
    else sentryRate tickMs t sliced n

/-- The same for kinds 0 to 2. -/
def driveRate (t : Nat) (sliced : Bool) : Nat → Option Nat
  | 0 => none
  | n + 1 => if rateHolds (n + 1) t sliced then some (n + 1) else driveRate t sliced n

/-- rate(v, x) at the rates in force. -/
def variantRate (s : State) (kind t : Nat) (sliced : Bool) : Option Nat :=
  if kind = 3 then sentryRate (fld (setting s 0x0208 0) 0 8) t sliced (fld s.align.pairing 32 8)
  else driveRate t sliced (fld s.align.pairing 24 8)

/-- Spill entries are applied while the residency exceeds 4 MiB: residency, time, traffic, number applied. -/
def applySpill : List Bytes → Nat → Nat → Nat → Nat → Nat × Nat × Nat × Nat
  | [], r, t, m, n => (r, t, m, n)
  | e :: es, r, t, m, n =>
    if r ≤ 4096 then (r, t, m, n)
    else applySpill es (r - fld e 48 16) (t + fld e 64 32) (m + fld e 96 32) (n + 1)

/-- The fit of one variant; none where it is refused. -/
def fitVariant (s : State) (img : Bytes) (v : Nat × Bytes × Nat) : Option VariantFit :=
  let b := v.2.1
  let r0 := fld b 96 16
  let f := applySpill (spillEntries img b) r0 (fld b 128 32) (fld b 192 32) 0
  let t := f.2.1
  match variantRate s v.1 t false, variantRate s v.1 t true with
  | some rate, sliced =>
    if 128 < fld b 112 16 ∨ 4608 < r0 ∨ 4096 < f.1 then none
    else if v.1 = 0 ∧ fld b 160 32 < t then none
    else if v.1 ≠ 0 ∧ fld b 160 32 * 96 < t * 100 then none
    else if v.1 ≠ 0 ∧ sliced.isNone then none
    else if 291840000000 < f.2.2.1 * 1024 * rate then none
    else some { kind := v.1, record := b, tileTimeUs := t, spilled := f.2.2.2, rate := rate, rateSliced := sliced.getD 0 }
  | none, _ => none

/-- Every variant of an image fits, or none is taken (R332). -/
def fitImage (s : State) (img : Bytes) : Option (List VariantFit) := (variantsOf img).mapM (fitVariant s img)

/-! ## Slots -/

def planSlot (s : State) (i : Nat) : PlanSlot := vget s.plans.slots i
def slotEmpty (p : PlanSlot) : Bool := p.image.isEmpty && !p.loading
def modPlanSlot (i : Nat) (f : PlanSlot → PlanSlot) (s : State) : State :=
  modPlans (fun (p : Plans) => { p with slots := vmod p.slots i f }) s

/-- The lowest-numbered empty slot. -/
def emptySlot (s : State) : Option Nat := (List.range 4).find? (fun i => slotEmpty (planSlot s i))

/-- The slot that a load has marked LOADING (R328). -/
def loadingSlot (s : State) : Option Nat := (List.range 4).find? (fun i => (planSlot s i).loading)

/-- A load that ends without success leaves its slot EMPTY (R329, R332, R343). -/
def dropLoading (s : State) : State :=
  modPlans (fun (p : Plans) => { p with slots := (List.range 4).foldl (fun (v : Vector PlanSlot 4) i =>
    vmod v i (fun x => if x.loading then { image := [], loading := false, fits := [] } else x)) p.slots }) s

/-- A started LOAD_PLAN marks the lowest-numbered empty slot LOADING (R328). -/
def markLoading (s : State) : State :=
  match emptySlot s with
  | some i => modPlanSlot i (fun x => { x with loading := true }) s
  | none => s

/-- A variant entry of Table 11.12. -/
def variantEntry (p : PlanSlot) (k : Nat) : Nat :=
  match p.fits.find? (fun f => f.kind == k) with
  | some f => natOfBytes (pack 8 [(0, 32, f.tileTimeUs), (40, 8, f.spilled), (48, 8, f.rate), (56, 8, f.rateSliced)])
  | none => 0

/-- USE of Table 11.11. -/
def slotUse (s : State) (i : Nat) : Nat :=
  let p := planSlot s i
  if p.loading then 1
  else if p.image.isEmpty then 0
  else match s.plans.driveSlot == some i, s.plans.sentrySlot == some i with
    | true, true => 5
    | true, false => 3
    | false, true => 4
    | false, false => 2

/-- The slot entry of Table 11.11. The rates are those of the configuration in force (R334). -/
def slotEntry (s : State) (i : Nat) : Bytes :=
  let p := planSlot s i
  pack 48 [(0, 8, i), (8, 8, slotUse s i), (32, 32, fld p.image 96 32), (64, 32, fld p.image 128 32),
    (96, 32, p.image.length), (128, 64, variantEntry p 0), (192, 64, variantEntry p 1), (256, 64, variantEntry p 2),
    (320, 64, variantEntry p 3)]

/-- LOAD_PLAN: the image comes from staging, passes the stages, and every variant fits (R328 to R333). -/
def execLoadPlan (k : CmdKey) (s : State) : Host.Outcome State Fault Refusal :=
  runCommand k 0x0800 (fun c s =>
    let len := fld c.params 32 32
    let img := cellsGet s.memory.staging (fld c.params 0 32) len
    match loadingSlot s with
    | none => conclude c stAborted 0 [] s
    | some i =>
      match verifyImage s img len with
      | some f => conclude c stVerifyFailed (f.1 * 256 + f.2) [] (dropLoading s)
      | none =>
        match fitImage s img with
        | none => conclude c stResource 0x0008 [] (dropLoading s)
        | some fits =>
          let s1 := modPlanSlot i (fun _ => { image := img, loading := false, fits := fits }) s
          conclude c stDone 0 (slotEntry s1 i) s1) s

/-! ## Activation (R334 to R336) -/

/-- Quads of the tensor that CONFIG_CSI yields for a receiver (R131). -/
def tensorSize (s : State) (r : Nat) : Nat × Nat :=
  let b := csiBlock s r
  (csiWidth b / 2, if csiType b = 0x1E then csiHeight b else csiHeight b / 2)

/-- The cameras configured and those of an image agree, judged over the receivers of a mask (R334). -/
def camerasAgree (s : State) (img : Bytes) (mask : Nat) : Bool :=
  (List.range 8).all (fun r =>
    !bitOf mask r || match sourceConfigured s r, cameraRecord img r with
      | true, some b => (fld (stripDeclaration b) 64 16, fld (stripDeclaration b) 80 16) == tensorSize s r
      | false, none => true
      | _, _ => false)

/-- Whether an image's variants still fit at the rates in force (R334). -/
def refitPlan (s : State) (i posture : Nat) : Option (List VariantFit) :=
  let img := (planSlot s i).image
  let kinds := if posture = 0 then [0, 1, 2] else [3]
  ((variantsOf img).filter (fun v => kinds.contains v.1)).mapM (fitVariant s img)

/-- The checks that ACTIVATE_PLAN, ENTER_RUN and SET_POSTURE repeat for a plan and posture: 0 Drive, 1 Sentry (R203,
R230, R334). -/
def planChecks (s : State) (i posture : Nat) : Option Refuse :=
  let img := (planSlot s i).image
  let voxel := setting s 0x0600 0
  let mask := if posture = 0 then 0xFF else fld ((variantRecord img 3).getD []) 48 8
  if fld img 264 2 ≠ fld voxel 0 2 ∨ fld img 256 8 ≠ fld voxel 32 8 ∨ fld img 240 12 ≠ fld voxel 4 12 ∨
      fld img 224 16 ≠ fld voxel 16 16 then some (stResource, 0x0006)
  else if !bitOf (fld img 208 16) (fld (setting s 0x0700 0) 0 4) then some (stResource, 0x0007)
  else if !camerasAgree s img mask then some (stResource, 0x0004)
  else if (refitPlan s i posture).isNone then some (stResource, 0x0008)
  else none

/-- The fits of a plan's variants are brought to the rates in force (R334). -/
def refreshFits (i posture : Nat) (s : State) : State :=
  match refitPlan s i posture with
  | some l => modPlanSlot i (fun p => { p with fits := p.fits.filter (fun f => !l.any (fun g => g.kind == f.kind)) ++ l }) s
  | none => s

/-- An image has a variant for a posture. -/
def servesPosture (p : PlanSlot) (posture : Nat) : Bool :=
  p.fits.any (fun f => if posture = 0 then decide (f.kind ≤ 2) else f.kind == 3)

/-- A plan becomes active for a posture; an export it cannot serve is switched off (R314). -/
def activate (i posture : Nat) (s : State) : State :=
  let s1 := modPlans (fun (p : Plans) =>
    if posture = 0 then { p with driveSlot := some i } else { p with sentrySlot := some i }) s
  let b := setting s1 0x0703 0
  if bitAt b 0 && !exportServes (planSlot s1 i).image b then putSetting 0x0703 0 (bytesOfNat 8 (fld b 0 64 - 1)) s1
  else s1

/-- The posture's running plan: an activation for it waits for a frame boundary. -/
def postureRuns (s : State) (posture : Nat) : Bool :=
  inRun s && (if posture = 0 then s.dev.posture == some .drive else s.dev.posture == some .sentry)

/-- ACTIVATE_PLAN (R335, R336). -/
def execActivatePlan (k : CmdKey) (s : State) : Host.Outcome State Fault Refusal :=
  runCommand k 0x0801 (fun c s =>
    let i := fld c.params 0 8
    let posture := fld c.params 8 2
    let s1 := refreshFits i posture s
    if postureRuns s posture then
      if s.plans.swap.isSome then s
      else
        let w : PendingSwap := { key := k, slot := i, posture := posture, notBefore := startInstant c s + 2 * msUnits }
        modPlans (fun (p : Plans) => { p with swap := some w }) s1
    else conclude c stDone 0 [] (buildRays (activate i posture s1))) s

/-- A swap that still waits when its posture stops running takes effect then, and its command ends DONE (R336). -/
def landSwap (s : State) : State :=
  match s.plans.swap with
  | some w =>
    concludeKey w.key stDone 0 [] (buildRays (activate w.slot w.posture
      (modPlans (fun (p : Plans) => { p with swap := none }) s)))
  | none => s

/-- UNLOAD_PLAN (R342). -/
def execUnloadPlan (k : CmdKey) (s : State) : Host.Outcome State Fault Refusal :=
  runCommand k 0x0803 (fun c s =>
    done c (modPlanSlot (fld c.params 0 8) (fun _ => { image := [], loading := false, fits := [] }) s)) s

/-- Refusals of a plan command's parameters (R328, R335). -/
def jointPlans (op : Nat) (b : Bytes) : Option Refuse :=
  match op with
  | 0x0800 =>
    let off := fld b 0 32
    let len := fld b 32 32
    if off % 64 ≠ 0 then some (stBadParam, 0)
    else if len % 64 ≠ 0 ∨ len < 8192 ∨ 134217728 < len ∨ 268435456 < off + len then some (stBadParam, 4)
    else none
  | 0x0801 => if 2 ≤ fld b 8 2 then some (stBadParam, 1) else none
  | _ => none

/-- Refusals of the state (R328, R334, R335, R342). -/
def startPlans (s : State) (op : Nat) (b : Bytes) : Option Refuse :=
  let i := fld b 0 8
  let absent := decide (4 ≤ i) || (planSlot s i).image.isEmpty || (planSlot s i).loading
  match op with
  | 0x0800 => if (emptySlot s).isNone then some (stResource, 0x0008) else none
  | 0x0801 =>
    if absent then some (stBadParam, 0)
    else if !servesPosture (planSlot s i) (fld b 8 2) then some (stResource, 0x0008)
    else planChecks s i (fld b 8 2)
  | 0x0803 =>
    if absent then some (stBadParam, 0)
    else if s.plans.driveSlot == some i || s.plans.sentrySlot == some i then some (stState, stateWord s % 65536)
    else none
  | _ => none

/-! ## Status (R341) -/

/-- The block of Table 11.14. -/
def planBlock (s : State) : Bytes :=
  let f := arithFrame s
  let t := s.rink.arithTotal
  let r := effectiveRate s
  pack 64 [(480, 32, if r = 0 then 0 else 1000000 / r), (448, 32, planIdOf s s.plans.driveSlot),
    (416, 32, planIdOf s s.plans.sentrySlot), (408, 8, r), (400, 8, s.plans.variant.getD 0xFF),
    (392, 8, s.plans.driveSlot.getD 0xFF), (384, 8, s.plans.sentrySlot.getD 0xFF), (352, 32, f.checkMismatches),
    (320, 32, f.checkSkipped), (288, 32, f.domain), (256, 32, f.nonfinite), (224, 32, f.saturations),
    (128, 32, t.checkMismatches), (96, 32, t.checkSkipped), (64, 32, t.domain), (32, 32, t.nonfinite),
    (0, 32, t.saturations)]

def execGetPlanStatus (k : CmdKey) (s : State) : Host.Outcome State Fault Refusal :=
  runCommand k 0x0802 (fun c s => doneWith c (planBlock s ++ (List.range 4).flatMap (slotEntry s)) s) s

end Sys2Proof.Machine
end

