-- ==== Sys2Proof/Machine/SolverUnit.lean ====
section
/-! DEFINITION. The solver unit (chapter 12): descriptors and their checks, worst-case cycles, pivots, the job table, the
scheduler, records and batches. -/

namespace Sys2Proof.Machine

/-! ## Descriptors (Table 12.3) -/

def jobTag (d : Bytes) : Nat := fld d 32 16
def jobOp (d : Bytes) : Nat := fld d 56 8
def jobOutputs (d : Bytes) : Nat := fld d 64 3
def jobRefine (d : Bytes) : Nat := fld d 68 2
def jobM (d : Bytes) : Nat := fld d 72 8
def jobN (d : Bytes) : Nat := fld d 80 8
def jobR (d : Bytes) : Nat := fld d 88 8
def jobOffset (d : Bytes) : Nat := fld d 96 32
def jobDeadlineUs (d : Bytes) : Nat := fld d 128 32
def jobLambda (d : Bytes) : Nat := fld d 224 32

/-- LAMBDA is not zero. -/
def hasLambda (d : Bytes) : Bool := jobLambda d % 2 ^ 31 != 0

/-- 1.0 × 10⁻⁶ as an FP32 code, which a TAU of 0.0 selects. -/
def tauDefault : Nat := 0x358637BD

def tauAbs (d : Bytes) : Nat := if fld d 160 31 = 0 then tauDefault else fld d 160 32
def tauRel (d : Bytes) : Nat := if fld d 192 31 = 0 then tauDefault else fld d 192 32

/-- What a job's outputs depend on besides its input (R347): the operation, the sizes, τ and λ. -/
def jobParams (d : Bytes) : List Nat :=
  [jobOp d, if jobOp d = 2 then jobM d else 0, jobN d, jobR d, tauAbs d, tauRel d, jobLambda d]

/-- The rows of A with those that LAMBDA adds for OP 2 (R354). -/
def rowsWithLambda (d : Bytes) : Nat := if hasLambda d then jobM d + jobN d else jobM d

/-- The values of A in the input (R351). -/
def matrixWords (d : Bytes) : Nat :=
  if jobOp d = 2 then jobM d * jobN d else jobN d * (jobN d + 1) / 2

/-- The values of a job's input (R351). -/
def inputWords (d : Bytes) : Nat := matrixWords d + (if jobOp d = 2 then jobM d else jobN d) * jobR d

/-- The output words of a descriptor, by its OUTPUTS bits (R352). -/
def xWords (d : Bytes) : Nat := jobN d * jobR d
def packedWords (d : Bytes) : Nat := jobN d * (jobN d + 1) / 2
def jobOutput (d : Bytes) : Nat :=
  flag (bitOf (jobOutputs d) 0) * xWords d + flag (bitOf (jobOutputs d) 1) * packedWords d +
    flag (bitOf (jobOutputs d) 2) * packedWords d

/-! ## Worst-case cycles (R357) -/

def ceilDiv (a b : Nat) : Nat := (a + b - 1) / b

def worstFactor (n : Nat) : Nat :=
  40 + ((List.range n).map (fun k => max 16 (ceilDiv ((n - k - 1) * (n - k - 1 + 3)) 16 + 2))).sum +
    2 * ceilDiv (n * (n + 1)) 16

/-- The sum of one direction of substitution. -/
def directionSum (n r : Nat) : Nat := ((List.range n).map (fun i => max 6 (ceilDiv ((i + 1) * r) 8 + 1))).sum

def worstBoth (n r : Nat) : Nat := 20 + 2 * directionSum n r
def worstOne (n r : Nat) : Nat := 20 + directionSum n r

def worstQr (m n r : Nat) : Nat :=
  40 + ((List.range n).map (fun k => max 18 (ceilDiv ((m - k) * (1 + 2 * (n - k - 1 + r))) 8 + 4))).sum +
    ceilDiv (m * (n + r)) 8 + ceilDiv (n * (n + 1)) 16 + (if r = 0 then 0 else worstOne n r)

/-- One refinement step. -/
def worstStep (d : Bytes) : Nat := ceilDiv (jobN d * jobN d * jobR d) 8 + 4 + worstBoth (jobN d) (jobR d)

/-- A job without its refinement steps, each of which starts under R361. -/
def worstBase (d : Bytes) : Nat :=
  let n := jobN d
  let r := jobR d
  match jobOp d with
  | 2 => worstQr (rowsWithLambda d) n r
  | 3 => worstFactor n + worstBoth n (n + r)
  | 4 | 5 => worstOne n r
  | _ => worstFactor n + (if r = 0 then 0 else worstBoth n r)

/-- A job with every refinement step it asks for. -/
def worstCase (d : Bytes) : Nat := worstBase d + jobRefine d * worstStep d

/-! ## The checks of a batch (R350) -/

/-- The bytes of a batch header and its descriptors (R51). -/
def batchLength (b : Bytes) : Nat := 16 + 32 * fld b 0 8

/-- Descriptor `i` of a batch. -/
def descriptor (b : Bytes) (i : Nat) : Bytes := slice b (16 + 32 * i) 32

/-- An FP32 field admits zero or a range. -/
def zeroOrFp (lo hi n : Nat) : Bool := n % 2 ^ 31 == 0 || PKind.ok 32 n (.fp lo hi)

/-- The byte offsets, within a descriptor, of its offending fields; of fields that fail together, the highest (R50). -/
def descriptorBad (d : Bytes) : List Nat :=
  let op := jobOp d
  let n := jobN d
  let r := jobR d
  let o := jobOutputs d
  let spd := op == 0 || op == 1 || op == 3
  let tri := op == 4 || op == 5
  let long := decide (8192 < worstCase d)
  [(fld d 0 32 != 0, 0), (fld d 48 8 != 0, 6), (decide (5 < op), 7),
   (bitAt d 67 || fld d 70 2 != 0 || decide (2 < jobRefine d) || (bitOf o 1 && tri) ||
      (bitOf o 2 && op != 3) || (jobRefine d != 0 && !spd), 8),
   (op == 2 && (decide (jobM d < n) || decide (64 < jobM d)), 9),
   (decide (n < 1) || decide (32 < n), 10),
   (decide (32 < r) || (tri && r == 0) || (bitOf o 0 && r == 0) || (long && !(op == 2 && hasLambda d)), 11),
   (jobOffset d % 4 != 0 || decide (0x10000000 < jobOffset d + 4 * inputWords d), 12),
   (!zeroOrFp 0x00800000 0x3F800000 (fld d 160 32), 20), (!zeroOrFp 0x34000000 0x3F800000 (fld d 192 32), 24),
   (!PKind.ok 32 (jobLambda d) (.fp 0 0x7149F2CA) || (hasLambda d && (tri || (op == 2 && (long || decide (64 < jobM d + n))))), 28)
  ].filterMap (fun p => if p.1 then some p.2 else none)

/-- Bytes of the reply's results up to and with descriptor `i` (R352). -/
def resultBytesTo (b : Bytes) (i : Nat) : Nat :=
  8 + ((List.range (i + 1)).map (fun j => 16 + 4 * jobOutput (descriptor b j))).sum

/-- BAD_PARAM of SUBMIT_SOLVER_BATCH: the first offending field, then the first descriptor whose record does not fit a
packet of 4,080 bytes. -/
def batchBad (b : Bytes) : Option Refuse :=
  let count := fld b 0 8
  if count < 1 ∨ 64 < count then some (stBadParam, 0)
  else if natOfBytes (slice b 1 15) ≠ 0 then some (stBadParam, 1 + (((slice b 1 15).findIdx? (fun x => x != 0)).getD 0))
  else match (List.range count).findSome? (fun i =>
      (descriptorBad (descriptor b i)).head?.map (fun o => 16 + 32 * i + o)) with
    | some o => some (stBadParam, o)
    | none => match (List.range count).find? (fun i => decide (4080 < 16 + resultBytesTo b i)) with
      | some i => some (stBadParam, 16 + 32 * i)
      | none => none

/-! ## Pivots (R354) -/

/-- The diagonal of A in a job's input, FP32 codes (R351); OP 2 has none there. -/
def inputDiagonal (d : Bytes) (input : List Nat) (k : Nat) : Nat :=
  if jobOp d = 5 then input.getD (k * jobN d - k * (k - 1) / 2) 0 else input.getD (k * (k + 1) / 2 + k) 0

/-- The value a_kk and the pivot d of a column, after LAMBDA. -/
def pivotAt (d : Bytes) (input : List Nat) (k : Nat) : Nat × Nat :=
  let a := if jobOp d = 2 then (Config.solverNorms (jobParams d) input).getD k 0
    else if hasLambda d then fadd (inputDiagonal d input k) (jobLambda d) else inputDiagonal d input k
  let own := jobOp d == 4 || jobOp d == 5 || (k == 0 && jobOp d != 2)
  (a, if own then a else (Config.solverPivots (jobParams d) input).getD k 0)

/-- Whether the pivot of a column is replaced. -/
def pivotReplaced (d : Bytes) (input : List Nat) (k : Nat) : Bool :=
  let p := pivotAt d input k
  let tau := (f32 (tauAbs d)).max (f32 (fmul (tauRel d) (p.1 % 2 ^ 31)))
  if jobOp d == 0 || jobOp d == 3 then (f32 p.2).lt tau else (f32 p.2).abs.lt tau

/-- The columns whose pivots are replaced, ascending. -/
def replacedColumns (d : Bytes) (input : List Nat) : List Nat :=
  (List.range (jobN d)).filter (pivotReplaced d input)

/-- An output word: never an infinity or a NaN (R355). -/
def finiteWord (c : Nat) : Nat :=
  let w := c % 2 ^ 32
  if fmt32.finite w then w else w / 2 ^ 31 * 2 ^ 31 + 0x7F7FFFFF

/-! ## The job table (R358) -/

/-- A user job. -/
def isUser (j : Job) : Bool :=
  match j.owner with
  | .user _ _ => true
  | _ => false

/-- The job still holds its entry: its record is not written. -/
def holdsEntry (j : Job) : Bool := j.record.isNone

/-- The jobs in the table: user jobs, and the 192 oldest internal ones. -/
def tableJobs (s : State) : List Job :=
  let live := s.solver.jobs.filter holdsEntry
  (live.filter (fun j => !isUser j)).take 192 ++ live.filter isUser

def userEntriesFree (s : State) : Nat := 64 - (s.solver.jobs.filter (fun j => isUser j && holdsEntry j)).length

/-- A job's place in the table is changed. -/
def modJob (id : Nat) (f : Job → Job) (s : State) : State :=
  modSolver (fun (v : Solver) => { v with jobs := v.jobs.map (fun j => if j.id == id then f j else j) }) s

/-- An internal job is issued (R348); it starts at a scheduling instant. -/
def issueJob (owner : JobOwner) (desc : Bytes) (input : List Nat) (deadline : Option Nat) (s : State) : State :=
  modSolver (fun (v : Solver) => { v with
    jobs := v.jobs ++ [{ id := v.nextId, owner := owner, desc := desc, input := input, deadline := deadline, running := none,
                         retried := false, avoid := [], issuedAt := countNow s, record := none }],
    nextId := v.nextId + 1 }) s

/-- A pair in service. -/
def pairServes (s : State) (p : Nat) : Bool := (vget s.solver.pairs p).state != .retired
def pairsInService (s : State) : Nat := ((List.range 4).filter (pairServes s)).length

/-- The job on a lane. -/
def jobOnLane (s : State) (l : Nat) : Option Job :=
  s.solver.jobs.find? (fun j => match j.running with
    | some r => r.1.contains l
    | none => false)

def laneIdle (s : State) (l : Nat) : Bool := (jobOnLane s l).isNone
def pairIdle (s : State) (p : Nat) : Bool := laneIdle s (2 * p) && laneIdle s (2 * p + 1)

/-- A pair whose lanes are idle is neither locked nor split (R346, R359). -/
def settlePairs (s : State) : State :=
  modSolver (fun (v : Solver) => { v with pairs := (List.range 4).foldl (fun (t : Vector Pair 4) p =>
    vmod t p (fun (x : Pair) => { x with
      state := if x.state == .retired then .retired else if pairIdle s p then .idle else x.state })) v.pairs }) s

def splitPairs (s : State) : Nat := (s.solver.pairs.toList.filter (fun p => p.state == .split)).length

/-! ## Records (R352) -/

/-- A record without a run. -/
def emptyRecord (j : Job) (status : Nat) : JobRecord :=
  { cycles := 0, regCount := 0, firstReg := 0xFF, lane := 0xFF, iterations := 0, refineSkipped := false, overflow := false,
    regularised := false, status := status, jobTag := jobTag j.desc, out := [] }

/-- The counters of Table 12.8 count an ended job. -/
def countEnd (r : JobRecord) (v : Solver) : Solver :=
  let ok := r.status == stDone || r.status == stPartial
  { v with
    jobsDone := if ok then bump v.jobsDone else v.jobsDone,
    jobsNotRun := if r.status == stNotRun || r.status == stBadParam then bump v.jobsNotRun else v.jobsNotRun,
    jobsPartial := if r.status == stPartial then bump v.jobsPartial else v.jobsPartial,
    jobsRegularised := if r.regularised then bump v.jobsRegularised else v.jobsRegularised,
    jobsOverflow := if r.overflow then bump v.jobsOverflow else v.jobsOverflow }

/-- A job gets its record and gives up its lanes. -/
def endJob (j : Job) (r : JobRecord) (s : State) : State :=
  settlePairs (modSolver (countEnd r) (modJob j.id (fun (x : Job) => { x with record := some r, running := none }) s))

/-- Refinement steps that start inside the deadline when every part takes its worst case (R361). -/
def stepsInTime (j : Job) (start : Nat) : Nat :=
  match j.deadline with
  | none => jobRefine j.desc
  | some t => ((List.range (jobRefine j.desc)).filter (fun n =>
      decide (start * 16 + (worstBase j.desc + (n + 1) * worstStep j.desc) * 25 ≤ t * 16))).length

/-- The outputs that a descriptor asks for, in order, each in full (R352): X of the better iterate, FACTOR, INVERSE. -/
def outputWords (d : Bytes) (input : List Nat) (steps : Nat) : List Nat :=
  let part (i n : Nat) (l : List Nat) : List Nat :=
    if bitOf (jobOutputs d) i then (l.map finiteWord ++ List.replicate n 0).take n else []
  part 0 (xWords d) (Config.solverX (jobParams d) input steps) ++
    part 1 (packedWords d) (Config.solverFactor (jobParams d) input) ++
    part 2 (packedWords d) (Config.solverInverse (jobParams d) input)

/-- The record of a job that has run on a lane since a value of COUNT (R352 to R356, R361). -/
def runRecord (s : State) (j : Job) (lane start : Nat) : JobRecord :=
  let d := j.desc
  let cycles := min (worstCase d) ((countNow s - start) * 16 / 25)
  if j.input.any (fun c => !fmt32.finite c) then { emptyRecord j stBadParam with cycles := cycles, lane := lane }
  else
    let cols := replacedColumns d j.input
    let gains := Config.refineGains (jobParams d) j.input
    let asked := if cols.isEmpty then jobRefine d else 0
    let wanted := min asked (gains + 1)
    let steps := min wanted (stepsInTime j start)
    { cycles := cycles, regCount := cols.length, firstReg := cols.headD 0xFF, lane := lane, iterations := steps,
      refineSkipped := jobRefine d != 0 && !cols.isEmpty, overflow := Config.solverOverflow (jobParams d) j.input steps,
      regularised := !cols.isEmpty, status := if steps < wanted then stPartial else stDone, jobTag := jobTag d,
      out := (outputWords d j.input (min steps gains)).flatMap (bytesOfNat 4) }

/-- A record's 16 bytes and its outputs (Table 12.4). -/
def jobRecordBytes (r : JobRecord) : Bytes :=
  pack 16 [(0, 16, r.jobTag), (16, 16, r.out.length), (32, 16, r.status), (55, 1, flag r.regularised),
    (56, 1, flag r.overflow), (57, 1, flag r.refineSkipped), (58, 2, r.iterations), (64, 8, r.lane), (72, 8, r.firstReg),
    (80, 16, r.regCount), (96, 32, r.cycles)] ++ r.out

/-! ## Batches -/

/-- The jobs of a batch, in descriptor order. -/
def batchJobs (s : State) (k : CmdKey) : List Job :=
  s.solver.jobs.filter (fun j => match j.owner with
    | .user c _ => c == k
    | _ => false)

/-- The reply of R352 when the last job of a batch has its record: ABORTED where R362 says so, PARTIAL for a single job
that ended so (Table 2.13, R361). -/
def settleBatch (k : CmdKey) (s : State) : State :=
  let js := batchJobs s k
  if js.isEmpty || js.any holdsEntry then s
  else
    let rs := js.filterMap (fun j => j.record)
    let good := (rs.filter (fun r => r.status == stDone)).length
    let results := pack 8 [(0, 8, rs.length), (8, 8, good)] ++ rs.flatMap jobRecordBytes
    let final : Nat × Nat := if s.solver.ending.contains k then (stAborted, 0) else match rs with
      | [r] => if r.status = stPartial then (stPartial, r.iterations) else (stDone, 0)
      | _ => (stDone, 0)
    concludeKey k final.1 final.2 results (modSolver (fun (v : Solver) => { v with
      jobs := v.jobs.filter (fun j => match j.owner with
        | .user c _ => !(c == k)
        | _ => true),
      ending := v.ending.filter (fun c => !(c == k)) }) s)

/-- The batches in flight. -/
def batchKeys (s : State) : List CmdKey :=
  (s.host.flight.filter (fun c => c.op == 0x0900)).map (fun c => c.key)

def settleBatches (s : State) : State := (batchKeys s).foldl (fun s k => settleBatch k s) s

/-- SUBMIT_SOLVER_BATCH: the batch takes its entries at its start (R350, R358). -/
def execSubmitSolverBatch (k : CmdKey) (s : State) : Host.Outcome State Fault Refusal :=
  runCommand k 0x0900 (fun c s =>
    if !(batchJobs s k).isEmpty then s
    else (List.range (fld c.params 0 8)).foldl (fun (t : State) (i : Nat) =>
      let d := descriptor c.params i
      let due := if jobDeadlineUs d = 0 then none
        else some (c.started.getD (countNow s) + jobDeadlineUs d * countsPerUs)
      issueJob (.user k i) d [] due t) s) s

/-- A batch starts once its entries are free; with one pair in service it is refused (R358, R364). -/
def batchWaits (s : State) (b : Bytes) : Bool := decide (userEntriesFree s < fld b 0 8)

def startSolver (s : State) (op : Nat) : Option Refuse :=
  if op = 0x0900 ∧ pairsInService s ≤ 1 then some (stResource, 0x0009) else none

/-! ## The scheduler (R359, R360) -/

/-- The worst case of a job, begun now, ends after its deadline. -/
def tooLate (s : State) (j : Job) : Bool :=
  match j.deadline with
  | some t => decide (t * 16 < countNow s * 16 + worstBase j.desc * 25)
  | none => false

/-- One waiting job ends NOT_RUN. -/
def endNotRun (s : State) (j : Job) : State := endJob j (emptyRecord j stNotRun) s

/-- The take-up order of a user job's batch. -/
def batchOrder (s : State) (j : Job) : Nat :=
  match j.owner with
  | .user k _ => ((flightOf k s).map (fun c => c.seq)).getD 0
  | _ => 0

/-- Job `a` goes before job `b`. -/
def jobBefore (s : State) (a b : Job) : Bool :=
  let later (x y : Job) : Bool := decide (batchOrder s x < batchOrder s y) ||
    (batchOrder s x == batchOrder s y && decide (x.id < y.id))
  match a.deadline, b.deadline with
  | some x, some y => decide (x < y) || (x == y && later a b)
  | some _, none => true
  | none, some _ => false
  | none, none => later a b

/-- The first of the waiting jobs that satisfy a test. -/
def firstWaiting (s : State) (p : Job → Bool) : Option Job :=
  ((tableJobs s).filter (fun j => j.running.isNone && p j)).foldl (fun (b : Option Job) j =>
    match b with
    | some x => if jobBefore s j x then some j else b
    | none => some j) none

/-- An internal job waits. -/
def internalWaits (s : State) : Bool := (firstWaiting s (fun j => !isUser j)).isSome

/-- The input words of a user job, read from staging as the job starts (R351). -/
def stagedInput (s : State) (d : Bytes) : List Nat :=
  (List.range (inputWords d)).map (fun i => natOfBytes (cellsGet s.memory.staging (jobOffset d + 4 * i) 4))

/-- The limit of R466 on the wait of an internal job for a locked pair, 27.6 µs, in counts. -/
def startLimit : Nat := 13800

/-- A job starts on its lanes. A start in time ends the retry of the solver-start monitor well (R432, R466). -/
def startJob (j : Job) (lanes : List Nat) (s : State) : State :=
  let input := if isUser j then stagedInput s j.desc else j.input
  let s1 := modJob j.id (fun (x : Job) => { x with running := some (lanes, countNow s), input := input }) s
  if isUser j ∨ j.issuedAt + startLimit < countNow s then s1 else evaluateAgain (safetyFault 2 0) 0 4 false s1

def setPairState (p : Nat) (st : PairState) (s : State) : State :=
  modSolver (fun (v : Solver) => { v with pairs := vmod v.pairs p (fun (x : Pair) => { x with state := st }) }) s

/-- A user job starts on an idle lane of a split pair. -/
def feedLane (l : Nat) (s : State) : State :=
  if !laneIdle s l then s
  else match firstWaiting s (fun j => isUser j && !j.avoid.contains l) with
    | some j => startJob j [l] (setPairState (l / 2) .split s)
    | none => s

/-- One pair at a scheduling instant. -/
def schedulePair (s : State) (p : Nat) : State :=
  if !pairServes s p then s
  else match firstWaiting s (fun j => !isUser j && !j.avoid.contains (2 * p)) with
    | some j => if pairIdle s p then startJob j [2 * p, 2 * p + 1] (setPairState p .locked s) else s
    | none =>
      let st := (vget s.solver.pairs p).state
      if internalWaits s || (st == .locked && !pairIdle s p) then s
      else if st == .split || decide (splitPairs s < pairsInService s / 2) then feedLane (2 * p + 1) (feedLane (2 * p) s)
      else s

/-- A scheduling instant. -/
def schedule (s : State) : State :=
  let s1 := ((tableJobs s).filter (fun j => j.running.isNone && tooLate s j)).foldl endNotRun s
  (List.range 4).foldl schedulePair s1

/-! ## A job's end (R352, R363) -/

/-- A source number of the Solver subsystem (Table 15.3). -/
def solverFault (l4 l3 : Nat) : Nat := sourceOf 0x09 l4 l3

def modPair (p : Nat) (f : Pair → Pair) (s : State) : State :=
  modSolver (fun (v : Solver) => { v with pairs := vmod v.pairs p f }) s

/-- The job ends with its record; a retry that it was has ended well. -/
def completeJob (j : Job) (lane start : Nat) (s : State) : State :=
  let p := lane / 2
  let s1 := modPair p (fun (x : Pair) => { x with jobsRun := bump x.jobsRun }) s
  let s2 := if !j.retried then s1
    else if isUser j then j.avoid.foldl (fun t l => reportClean (solverFault (l / 2) (l % 2)) 0 t) s1
    else reportClean (solverFault p 0) 0 s1
  endJob j (runRecord s j lane start) s2

/-- A lockstep difference: the retry on the same pair, then on another one (R363). -/
def mismatchJob (j : Job) (lane : Nat) (s : State) : State :=
  let p := lane / 2
  let s1 := report (solverFault p 0) 0 4 .uc 0
    (modSolver (fun (v : Solver) => { v with lockstepMismatches := bump v.lockstepMismatches })
      (modPair p (fun (x : Pair) => { x with mismatches := bump x.mismatches }) s))
  if tooLate s j then endNotRun s1 j
  else if j.retried then
    settlePairs (modJob j.id (fun (x : Job) =>
      { x with running := none, retried := false, avoid := x.avoid ++ [2 * p, 2 * p + 1] }) s1)
  else modJob j.id (fun (x : Job) => { x with running := some ([2 * p, 2 * p + 1], countNow s), retried := true }) s1

/-- A residue mismatch on a single lane: the job once more on another lane (R363). -/
def residueJob (j : Job) (lane : Nat) (s : State) : State :=
  let s1 := report (solverFault (lane / 2) (lane % 2)) 0 3 .uc 0
    (modPair (lane / 2) (fun (x : Pair) => { x with residueErrors := bump x.residueErrors }) s)
  if j.retried then endJob j (emptyRecord j stAborted) s1
  else settlePairs (modJob j.id (fun (x : Job) => { x with running := none, retried := true, avoid := [lane] }) s1)

/-- An uncorrectable error in a lane's job memory: the input is read again from its source and the job run again (R365). -/
def rereadJob (lane : Nat) (s : State) : State :=
  match jobOnLane s lane with
  | some j => modJob j.id (fun (x : Job) => { x with
      running := x.running.map (fun r => (r.1, countNow s)), input := if isUser x then stagedInput s x.desc else x.input }) s
  | none => s

/-- An uncorrectable error in an entry of the job table: its job ends NOT_RUN (R365). Internal jobs fill entries 0 to 191 and user
jobs 192 to 255, in the order in which they stand in the table. -/
def loseEntry (entry : Nat) (s : State) : State :=
  let live := s.solver.jobs.filter holdsEntry
  match (if entry < 192 then (live.filter (fun j => !isUser j))[entry]? else (live.filter isUser)[entry - 192]?) with
  | some j => endNotRun s j
  | none => s

/-- A running job ends as its lanes report. A difference is seen only in lockstep, a residue error only on a single
lane. -/
def jobEnds (id : Nat) (outcome : JobOutcome) (s : State) : State :=
  match s.solver.jobs.find? (fun j => j.id == id) with
  | none => s
  | some j => match j.running with
    | none => s
    | some (lanes, start) =>
      let lane := lanes.headD 0
      match outcome with
      | .clean => completeJob j lane start s
      | .mismatch => if isUser j then s else mismatchJob j lane s
      | .residue _ => if isUser j then residueJob j lane s else s

/-! ## Events that meet in the solver (R362, R364) -/

/-- The user jobs that have not started end NOT_RUN. -/
def dropUserJobs (s : State) : State :=
  (s.solver.jobs.filter (fun j => isUser j && holdsEntry j && j.running.isNone)).foldl endNotRun s

/-- Leaving RUN for SETUP: batches end DONE with their records. -/
def leaveRunSolver (s : State) : State := settleBatches (dropUserJobs s)

/-- Entry into SAFE: batches end ABORTED with their records, once the running jobs have finished. -/
def safeSolver (s : State) : State :=
  settleBatches (dropUserJobs (modSolver (fun (v : Solver) => { v with
    ending := v.ending ++ (batchKeys s).filter (fun k => !(batchJobs s k).isEmpty) }) s))

/-- A block reset: running jobs end ABORTED, waiting ones NOT_RUN; the owners of internal jobs get the same. -/
def resetSolver (s : State) : State :=
  let s1 := modSolver (fun (v : Solver) => { v with
    ending := v.ending ++ (batchKeys s).filter (fun k => !(batchJobs s k).isEmpty) }) s
  settleBatches ((s.solver.jobs.filter holdsEntry).foldl (fun (t : State) (j : Job) =>
    endJob j (emptyRecord j (if j.running.isSome then stAborted else stNotRun)) t) s1)

/-- A pair is retired: its jobs start again elsewhere; the fourth retirement is fatal. -/
def retirePair (p : Nat) (s : State) : State :=
  if !pairServes s p then s
  else
    let s1 := setPairState p .retired (modSolver (fun (v : Solver) => { v with jobs := v.jobs.map (fun j =>
      match j.running with
      | some r => if r.1.any (fun l => l / 2 == p) then { j with running := none, retried := false } else j
      | none => j) }) s)
    if pairsInService s1 = 0 then report (solverFault p 0) 0 5 .fa 0 s1 else s1

/-! ## Status (R366) -/

def PairState.code : PairState → Nat
  | .idle => 0
  | .locked => 1
  | .split => 2
  | .retired => 3

/-- Worst-case track updates that the pairs in service complete in 1 ms (R364). -/
def trackUpdateBudget (s : State) : Nat := pairsInService s * (320000 / worstCase (pack 32 [(80, 8, 8), (88, 8, 9)]))

def solverStatus (s : State) : Bytes :=
  let v := s.solver
  pack 32 [(0, 4, pairsInService s), (4, 4, splitPairs s), (24, 8, 64 - userEntriesFree s),
      (32, 8, ((tableJobs s).filter (fun j => !isUser j)).length), (40, 8, userEntriesFree s), (48, 16, trackUpdateBudget s),
      (64, 32, v.lockstepMismatches), (96, 32, v.jobsOverflow), (128, 32, v.jobsRegularised), (160, 32, v.jobsPartial),
      (192, 32, v.jobsNotRun), (224, 32, v.jobsDone)] ++
    (List.range 4).flatMap (fun p =>
      let x := vget v.pairs p
      pack 16 [(0, 8, p), (8, 8, x.state.code), (32, 32, x.residueErrors), (64, 32, x.mismatches), (96, 32, x.jobsRun)])

def execGetSolverStatus (k : CmdKey) (s : State) : Host.Outcome State Fault Refusal :=
  runCommand k 0x0901 (fun c s => doneWith c (solverStatus s) s) s

end Sys2Proof.Machine
end

