-- ==== Sys2Proof/Machine/EgoVote.lean ====
section
/-! DEFINITION. The ego-motion voters: scan matching, the wheel fit, wheel slip, the vote and the voters' trust (R163,
R185 to R188, R190, R192, R193). -/

namespace Sys2Proof.Machine

/-- The end of scan matching for a fusion instant (R185). -/
def scanEnd (s : State) (f : Dts) : Dts := f + fld (setting s 0x0503 0) 184 8 * msUnits

/-- COUNT when device time reaches an instant, at the counter's nominal rate. -/
def countAt (s : State) (t : Dts) : Nat := countNow s + (t - now s) * countsPerUs / usUnits

/-! ## Scan matching (R185) -/

/-- The reference store of the frame before (R218). -/
def storeBefore (s : State) (n : Nat) : RefStore :=
  (s.point.refs.toList.find? (fun r => match r.frame with
    | some f => f + 1 == n
    | none => false)).getD default

/-- The picked points, moved by the corrections so far, that find 5 neighbours in the reference store of the frame before,
with those neighbours. -/
def matchedPoints (s : State) (m : ScanMatch) : List ((Nat × Nat × Nat) × List (Nat × Nat × Nat)) :=
  m.points.filterMap (fun p =>
    let q := if m.outs.isEmpty then (p.x, p.y, p.z) else Config.correctedPoint m.outs (p.x, p.y, p.z)
    let near := (nearestQuery s (storeBefore s m.frame) q 5).1
    if 5 ≤ near.length then some (q, near.map (fun c => (c.x, c.y, c.z))) else none)

/-- The descriptor of a scan-matching iteration: OP 0, N 6, R 1, default pivot parameters, λ 0 (Table 12.1). -/
def scanDesc : Bytes := pack 32 [(64, 3, 1), (80, 8, 6), (88, 8, 1)]

def modScan (f : ScanMatch → ScanMatch) (s : State) : State :=
  modAlign (fun (a : Align) => { a with scan := a.scan.map f }) s

/-- An iteration's equations are ready: its job is issued. -/
def execScanMatchIteration (s : State) : Host.Outcome State Fault Refusal :=
  awakeAnswer s fun s =>
    match s.align.scan with
    | none => s
    | some m =>
      if m.jobRunning || m.converged || decide (fld (setting s 0x0503 0) 176 8 ≤ m.iterations) ||
          decide (scanEnd s m.instant ≤ now s) then s
      else
        let found := matchedPoints s m
        issueJob .lidarVoter scanDesc ((Config.normalEquations found ++ List.replicate 27 0).take 27)
          (some (countAt s (scanEnd s m.instant)))
          (modScan (fun (x : ScanMatch) => { x with jobRunning := true, matched := found.length }) s)

/-- An update moves less than 1 mm and 0.1 mrad: its solution is (tx, ty, tz, rx, ry, rz). -/
def smallUpdate (out : Bytes) : Bool :=
  let w (i : Nat) : Dy := f32 (fld out (32 * i) 32)
  let sq (a b c : Nat) : Dy := Dy.sum [(w a).mul (w a), (w b).mul (w b), (w c).mul (w c)]
  (sq 0 1 2).lt (Dy.ratio 1 1000000) && (sq 3 4 5).lt (Dy.ratio 1 100000000)

/-! ## The wheel fit (Table 12.1) -/

/-- A wheel with data that does not slip. -/
def wheelFits (s : State) (w : Nat) : Bool := (vget s.align.wheels w).hasData && !(vget s.align.wheels w).slipping

def fitWheels (s : State) : List Nat := (List.range 4).filter (wheelFits s)

/-- A wheel's two rows of [A | B], FP32 codes (R185, Table 12.1; assumption 125): the speed of its contact point (x, y) at a
forward speed v and a yaw rate ω is (v − ω y, ω x), and the wheel rolls at its speed along its steering angle. -/
def wheelFitRows (x : Wheel) : List (List Nat) :=
  let one : Nat := 0x3F800000
  let speed := to32 (Dy.ratio x.speed 1000000)
  let dir := Config.sinCos (x.contact.getD 2 0)
  [[one, to32 (f32 (x.contact.getD 1 0)).neg, fmul speed dir.2], [0, x.contact.getD 0 0, fmul speed dir.1]]

/-- The descriptor of a fit of some wheels: OP 2, N 2, R 1 (Table 12.1). -/
def wheelDesc (wheels : Nat) : Bytes := pack 32 [(56, 8, 2), (64, 3, 1), (72, 8, 2 * wheels), (80, 8, 2), (88, 8, 1)]

/-- The input of a fit: A column by column, then B (R351). -/
def wheelInput (rows : List (List Nat)) : List Nat := [0, 1, 2].flatMap (fun c => rows.map (fun r => r.getD c 0))

/-- The wheel voter's job of a frame: forward speed and yaw rate by least squares. -/
def issueWheelFit (n : Nat) (f : Dts) (s : State) : State :=
  let ws := (fitWheels s).map (fun w => (w, wheelFitRows (vget s.align.wheels w)))
  if ws.length < 2 then modAlign (fun (a : Align) => { a with wheelFit := none }) s
  else
    issueJob .wheelVoter (wheelDesc ws.length) (wheelInput (ws.flatMap (·.2))) (some (countAt s (scanEnd s f)))
      (modAlign (fun (a : Align) => { a with wheelFit := some { frame := n, wheels := ws, out := [] } }) s)

/-! ## Motions and agreement (R186, R187) -/

/-- A voter's motion: translation x and y in m, yaw change in rad, FP32 codes. -/
structure EgoMotion where
  x : Nat
  y : Nat
  yaw : Nat
deriving DecidableEq, Repr, Inhabited

def egoMotion (l : List Nat) : EgoMotion := { x := l.getD 0 0, y := l.getD 1 0, yaw := l.getD 2 0 }

def motionLength (m : EgoMotion) : Dy := (((f32 m.x).mul (f32 m.x)).add ((f32 m.y).mul (f32 m.y))).sqrt

/-- The median of up to three lengths: the middle one, of two their mean. -/
def medianLength (l : List Dy) : Dy :=
  match l.sortBy Dy.le with
  | [a] => a
  | [a, b] => (a.add b).mul ⟨1, -1⟩
  | [_, b, _] => b
  | _ => Dy.zero

/-- Two motions agree. -/
def motionsAgree (s : State) (len : Dy) (a b : EgoMotion) : Bool :=
  let p := setting s 0x0503 0
  let dx := (f32 a.x).sub (f32 b.x)
  let dy := (f32 a.y).sub (f32 b.y)
  ((dx.mul dx).add (dy.mul dy)).sqrt.le ((f32 (fld p 0 32)).add ((f32 (fld p 32 32)).mul len)) &&
    ((f32 a.yaw).sub (f32 b.yaw)).abs.le (f32 (fld p 64 32))

/-- What the voters state over a frame: 0 IMU, 1 wheels, 2 lidar; none where one abstains. -/
structure Ballot where
  imu : Option EgoMotion
  wheel : Option EgoMotion
  lidar : Option EgoMotion
deriving DecidableEq, Repr, Inhabited

def ballotOf (b : Ballot) : Nat → Option EgoMotion
  | 0 => b.imu
  | 1 => b.wheel
  | _ => b.lidar

/-- The lidar voter's motion: it abstains when this frame or the one before admitted no sweep, below two iterations or
below 1,024 points with neighbours, and until two frames have built stores after a block reset (R186, R226). -/
def lidarMotion (s : State) (f p : FusionSet) : Option EgoMotion :=
  match s.align.scan with
  | some m =>
    if m.frame = f.frame ∧ 2 ≤ m.iterations ∧ 1024 ≤ m.matched ∧ 2 ≤ s.point.storesSinceReset ∧ !f.lidars.isEmpty ∧ !p.lidars.isEmpty then
      some (egoMotion (Config.scanMotion (((poseAt s p.instant).map PoseEntry.numbers).getD [])
        (((poseAt s f.instant).map PoseEntry.numbers).getD []) m.outs))
    else none
  | none => none

/-- The wheel voter's forward speed and yaw rate, FP32 codes: the job's solution, or that of the wheels of the fit that do not
slip where one of them has been taken out of use since (R188; assumption 125). -/
def fitSolution (s : State) (w : WheelFit) : List Nat :=
  let left := w.wheels.filter (fun x => wheelFits s x.1)
  if left.length = w.wheels.length then [fld w.out 0 32, fld w.out 32 32]
  else (Config.solverX (jobParams (wheelDesc left.length)) (wheelInput (left.flatMap (·.2))) 0).take 2

/-- The wheel voter's motion from its fit: it abstains with fewer than two wheels in use (R186). -/
def wheelBallot (s : State) (f p : FusionSet) : Option EgoMotion :=
  match s.align.wheelFit with
  | some w =>
    if w.frame = f.frame ∧ !w.out.isEmpty ∧ 2 ≤ (w.wheels.filter (fun x => wheelFits s x.1)).length then
      some (egoMotion (Config.wheelMotion (fitSolution s w) ((f.instant : Int) - p.instant)))
    else none
  | none => none

/-! ## Wheel slip (R188) -/

/-- The mean of two motions. -/
def meanMotion (a b : EgoMotion) : List Nat :=
  let half (u v : Nat) : Nat := to32 (((f32 u).add (f32 v)).mul ⟨1, -1⟩)
  [half a.x b.x, half a.y b.y, half a.yaw b.yaw]

/-- A wheel against the speed predicted at its contact point. -/
def checkWheel (s : State) (m : List Nat) (span : Int) (x : Wheel) : Wheel :=
  if !x.hasData then x
  else
    let p := setting s 0x0503 0
    let want := f32 (Config.wheelPrediction x.contact m span).toNat
    let off := ((Dy.ratio x.speed 1000000).sub want).abs
    let bound := (f32 (fld p 96 32)).add ((f32 (fld p 128 32)).mul want.abs)
    if bound.lt off then { x with slipping := true, goodFrames := 0, slips := if x.slipping then x.slips else bump x.slips }
    else if !x.slipping then x
    else if 5 ≤ x.goodFrames + 1 then { x with slipping := false, goodFrames := 0 }
    else { x with goodFrames := x.goodFrames + 1 }

def checkWheels (m : List Nat) (span : Int) (s : State) : State :=
  modAlign (fun (a : Align) => { a with
    wheels := a.wheels.map (checkWheel s m span) }) s

/-! ## The voters' trust (R192, R193) -/

def modVoter (v : Nat) (f : Voter → Voter) (s : State) : State :=
  modAlign (fun (a : Align) => { a with voters := vmod a.voters v f }) s

/-- The wheel and lidar voters after a vote. -/
def judgeVoter (v : Nat) (outlier agreed : Bool) (s : State) : State :=
  let k := vget s.align.voters v
  let src := alignFault (28 + v)
  if k.trust == .excluded then
    if outlier then evaluateAgain src 0 4 true (modVoter v (fun (x : Voter) => { x with shadowRun := 0 }) s)
    else if !agreed then s
    else if shadowReturn s ≤ k.shadowRun + 1 then
      modVoter v (fun (x : Voter) => { x with trust := .trusted, outRun := 0, shadowRun := 0 }) (evaluateAgain src 0 4 false s)
    else modVoter v (fun (x : Voter) => { x with shadowRun := x.shadowRun + 1 }) s
  else if !outlier then modVoter v (fun (x : Voter) => { x with trust := .trusted, outRun := 0 }) s
  else if voteFrames s ≤ k.outRun + 1 then
    report src 0 4 .uc 0 (modVoter v (fun (x : Voter) =>
      { x with trust := .excluded, outRun := k.outRun + 1, shadowRun := 0 }) s)
  else modVoter v (fun (x : Voter) => { x with trust := .suspect, outRun := k.outRun + 1 }) s

/-- The IMU voter after a vote: its trust is that of the primary IMU; IMUs voted out before are judged in shadow by their
own motions. -/
def judgeImuVoter (outlier : Bool) (agrees : Nat → Option Bool) (s : State) : State :=
  let s1 := (List.range 4).foldl (fun (t : State) i =>
    if (sourceTrust t (16 + i)).trust != .excluded then t
    else match agrees i with
      | some a => judgeTrustAs (alignFault 28) (16 + i) (!a) a t
      | none => t) s
  let s2 := match s.align.primary with
    | some i => if (sourceTrust s (16 + i)).trust == .excluded then s1
        else judgeTrustAs (alignFault 28) (16 + i) outlier false s1
    | none => s1
  let shown := match s2.align.primary with
    | some i => (sourceTrust s2 (16 + i)).trust
    | none => .abstaining
  judgeImus (modVoter 0 (fun (x : Voter) => { x with trust := shown }) s2)

/-! ## The vote (R187, R190) -/

/-- The corrections of a frame's scan match. -/
def scanOuts (s : State) (n : Nat) : List Bytes :=
  match s.align.scan with
  | some m => if m.frame = n then m.outs else []
  | none => []

/-- With no IMU left, lidar odometry corrects the newest pose when the lidar voter is trusted (R163). -/
def correctOdometry (n : Nat) (s : State) : State :=
  match s.align.history with
  | e :: es =>
    if s.align.degradedEgo && (vget s.align.voters 2).trust == .trusted && !(scanOuts s n).isEmpty then
      modAlign (fun (a : Align) => { a with
        history := e.withNumbers (Config.odometryCorrection e.numbers (scanOuts s n)) :: es,
        fused := { a.fused with numbers := Config.odometryCorrection e.numbers (scanOuts s n) } }) s
    else s
  | [] => s

/-- A voter's vote counts: not EXCLUDED, and for the IMU voter not where its primary does not serve (R190). -/
def voterTrusted (s : State) (v : Nat) : Bool :=
  if v = 0 then s.align.primary.any (imuUsable s) else (vget s.align.voters v).trust != .excluded

/-- The voters of a ballot whose votes count. -/
def presentVoters (s : State) (b : Ballot) : List Nat :=
  [0, 1, 2].filter (fun v => (ballotOf b v).isSome && voterTrusted s v)

/-- |Δp| of R187. -/
def ballotLength (s : State) (b : Ballot) : Dy :=
  medianLength ((presentVoters s b).map (fun v => motionLength ((ballotOf b v).getD default)))

/-- The verdict takes effect on the frame's results and on the voters. -/
def applyVote (f : FusionSet) (b : Ballot) (s : State) : State :=
  let trusted (v : Nat) : Bool := voterTrusted s v
  let voting := [0, 1, 2].filter (fun v => (ballotOf b v).isSome)
  let present := presentVoters s b
  let len := ballotLength s b
  let agree (i j : Nat) : Bool := motionsAgree s len ((ballotOf b i).getD default) ((ballotOf b j).getD default)
  let r := vote agree present
  let group := present.filter (fun v => !r.2.contains v)
  let major := r.1 == .majority
  let judged (v : Nat) (t : State) : State :=
    let shadow := voting.contains v && !trusted v
    let joins := group.all (agree v)
    judgeVoter v (if shadow then major && !joins else r.2.contains v) (shadow && major && joins) t
  let imuAgrees (i : Nat) : Option Bool :=
    if major then some (group.all (fun v =>
      motionsAgree s len (egoMotion (f.motions.getD i [])) ((ballotOf b v).getD default)))
    else none
  let s1 := judgeImuVoter (r.2.contains 0) imuAgrees (judged 2 (judged 1 s))
  let s2 := [0, 1, 2].foldl (fun (t : State) v =>
    modVoter v (fun (x : Voter) => { x with voted := true, abstained := !voting.contains v }) t) s1
  let s3 := modAlign (fun (a : Align) => { a with
    verdict := r.1, egoContested := r.1 == .contested, lastVoteFrame := f.frame,
    ambiguous := if r.1 == .ambiguous then bump a.ambiguous else a.ambiguous }) s2
  if r.1 == .contested then report (alignFault 27) 0 4 .ce 0 s3 else s3

/-- What the voters state over a frame: the IMU voter abstains when no IMU is primary, and does not vote while its primary is
TIME_UNTRUSTED; in a worker all three abstain (R186, R190, R492). -/
def frameBallot (s : State) (f p : FusionSet) : Ballot :=
  if isWorker s then { imu := none, wheel := none, lidar := none }
  else
    { imu := (s.align.primary.filter (fun i => (sourceTrust s (16 + i)).trust != .timeUntrusted)).map (fun i =>
        egoMotion (f.motions.getD i [])),
      wheel := wheelBallot s f p, lidar := lidarMotion s f p }

/-- The vote of a frame, wheel slip first; the first frame after ENTER_RUN or a posture change has none (R186). In a worker
all three voters abstain (R492). -/
def holdEgoVote (f : FusionSet) (s : State) : State :=
  let close (t : State) : State :=
    modSet f.frame (fun (x : FusionSet) => { x with voted := true })
      (modAlign (fun (a : Align) => { a with
        scan := a.scan.filter (fun m => m.frame != f.frame), votedFrames := a.votedFrames + 1 }) t)
  match setOf s (f.frame - 1) with
  | some p =>
    if s.align.votedFrames = 0 then close s
    else
      let span : Int := (f.instant : Int) - p.instant
      let before := frameBallot s f p
      let s1 := match before.imu, before.lidar with
        | some a, some c =>
          if motionsAgree s (ballotLength s before) a c then checkWheels (meanMotion a c) span s else s
        | _, _ => s
      close (correctOdometry f.frame (applyVote f { before with wheel := (frameBallot s1 f p).wheel } s1))
  | none => close s

/-- The deadline of a frame's scan match (R185, R193): the last complete iterate stands, and the vote is held. -/
def execScanDeadline (s : State) : Host.Outcome State Fault Refusal :=
  awakeAnswer s fun s =>
    match s.align.sets.find? (fun f => !f.voted && decide (scanEnd s f.instant ≤ now s)) with
    | some f => if inRun s then holdEgoVote f s else s
    | none => s

/-- A scan-matching job has ended (R185, R361): an iteration that did not complete does not count; the match stops when the
update is small or ITER_MAX iterations have run. -/
def scanJobEnded (r : JobRecord) (s : State) : State :=
  match s.align.scan with
  | none => s
  | some m =>
    if r.status ≠ stDone then modScan (fun (x : ScanMatch) => { x with jobRunning := false }) s
    else
      let stop := smallUpdate r.out || decide (fld (setting s 0x0503 0) 176 8 ≤ m.iterations + 1)
      let s1 := modScan (fun (x : ScanMatch) => { x with
        jobRunning := false, iterations := x.iterations + 1, converged := stop, outs := x.outs ++ [r.out] }) s
      if stop then
        match setOf s1 m.frame with
        | some f => if f.voted || !inRun s1 then s1 else holdEgoVote f s1
        | none => s1
      else s1

/-- The wheel fit has ended. -/
def wheelJobEnded (r : JobRecord) (s : State) : State :=
  if r.status = stDone then
    modAlign (fun (a : Align) => { a with wheelFit := a.wheelFit.map (fun w => { w with out := r.out }) }) s
  else s

end Sys2Proof.Machine
end

