-- ==== Sys2Proof/Machine/GlideUnit.lean ====
section
/-! DEFINITION. Glide: track contexts, propagation, association, updates, births, misses, the commit, zones and event
rules, and the commands of the subsystem (R367 to R379, R387 to R392, R395, R397, R398). -/

namespace Sys2Proof.Machine

/-- A source number of the Glide and events subsystem (Table 15.3). -/
def glideFault (l4 l3 : Nat) : Nat := sourceOf 0x0A l4 l3

/-! ## Contexts (Table 13.1) -/

/-- An element of STATE, an FP32 code. -/
def trackState (c : Track) (i : Nat) : Nat := c.state.getD i 0

/-- The place of an element in the lower triangle. -/
def triIndex (i j : Nat) : Nat := if j ≤ i then i * (i + 1) / 2 + j else j * (j + 1) / 2 + i

/-- The 256 bytes of a context. -/
def trackBytes (c : Track) : Bytes :=
  let b := c.state.flatMap (bytesOfNat 4) ++ c.cov.flatMap (bytesOfNat 4) ++
    pack 76 [(0, 96, dtsBits c.lastUpdate), (96, 32, c.trackId), (128, 32, c.birthFrame), (160, 32, c.lastUpdateFrame),
      (192, 16, c.length), (208, 16, c.width), (224, 16, c.height), (240, 8, c.cls), (248, 8, c.classConf),
      (256, 8, c.existence), (264, 8, c.modalities), (272, 16, c.age), (288, 8, c.coast), (296, 4, c.life),
      (300, 12, c.flags), (312, 8, c.sourceDevice), (320, 32, c.stillSinceMs), (352, 64, c.zones)]
  b ++ bytesOfNat 4 (crc32c b)

/-- The bits of FLAGS. -/
def flagContested : Nat := 0
def flagCapped : Nat := 1
def flagLost : Nat := 2
def flagStill : Nat := 3
def flagOutside : Nat := 4
def flagStillBorn : Nat := 5
def flagDropped : Nat := 6

/-- Propagation pairs in service (R377). -/
def propPairs (s : State) : Nat := 16 - popCount 16 s.glide.pairsRetired

/-- The live limit (R378). -/
def liveLimit (s : State) : Nat := min 16384 (3800 * propPairs s / 3)

/-! ## Propagation (R376) -/

/-- π. -/
def piDy : Dy := Dy.ratio 314159265358979323846264338327950288419716939937510582097494 (10 ^ 59)

/-- An angle wrapped to (−π, π]. -/
def wrapAngle (x : Dy) : Dy :=
  let turns := -((((piDy.sub x).div (piDy.mul ⟨2, 0⟩)).floor))
  x.sub ((piDy.mul ⟨2, 0⟩).mul (Dy.ofInt turns))

/-- A track moved to an instant: STATE and COV, FP32 codes. -/
structure Moved where
  state : List Nat
  cov : List Nat
deriving DecidableEq, Repr, Inhabited

/-- The inner product of two rows. -/
def dotDy (a b : List Dy) : Dy := Dy.sum (List.zipWith Dy.mul a b)

/-- Process-noise density i of a class (Table 13.3). -/
def noiseDensity (p : Bytes) (i : Nat) : Dy := f16 (fld p (256 + 16 * i) 16)

/-- The rows of F, the Jacobian of the step, from cos w, sin w, cos and sin of YAW + w / 2, and d. -/
def jacobian (c : Track) (cw sw ct st d : Dy) : List (List Dy) :=
  let v (i : Nat) : Dy := f32 (trackState c i)
  let o := Dy.zero
  let one : Dy := ⟨1, 0⟩
  let half : Dy := ⟨1, -1⟩
  let ad := (v 7).mul d
  let add3 (x y z : Dy) : Dy := (x.add y).add z
  let vx := [o, o, o, cw, sw.neg, (ad.mul st).neg,
    add3 ((d.mul (sw.mul (v 3))).neg) ((d.mul (cw.mul (v 4))).neg) ((((ad.mul d).mul half).mul st).neg), d.mul ct]
  let vy := [o, o, o, sw, cw, ad.mul ct,
    add3 (d.mul (cw.mul (v 3))) ((d.mul (sw.mul (v 4))).neg) (((ad.mul d).mul half).mul ct), d.mul st]
  let hd := d.mul half
  let row (l : List Dy) : List Dy := l.map (fun x => hd.mul x)
  let plus (l m : List Dy) : List Dy := List.zipWith Dy.add l m
  [plus (row vx) [one, o, o, hd, o, o, o, o], plus (row vy) [o, one, o, o, hd, o, o, o], [o, o, one, o, o, o, o, o],
   vx, vy, [o, o, o, o, o, one, d, o], [o, o, o, o, o, o, one, o], [o, o, o, o, o, o, o, one]]

/-- propagate (R376): each element is rounded once to FP32. -/
def propagate (s : State) (c : Track) (t : Dts) : Moved :=
  let v (i : Nat) : Dy := f32 (trackState c i)
  let half : Dy := ⟨1, -1⟩
  let d := secondsOf ((t : Int) - c.lastUpdate)
  let w := (v 6).mul d
  let r := Config.sinCos (to32 w)
  let q := Config.sinCos (to32 ((v 5).add (w.mul half)))
  let sw := f32 r.1
  let cw := f32 r.2
  let st := f32 q.1
  let ct := f32 q.2
  let ad := (v 7).mul d
  let vx := ((cw.mul (v 3)).sub (sw.mul (v 4))).add (ad.mul ct)
  let vy := ((sw.mul (v 3)).add (cw.mul (v 4))).add (ad.mul st)
  let x := (v 0).add ((d.mul ((v 3).add vx)).mul half)
  let y := (v 1).add ((d.mul ((v 4).add vy)).mul half)
  let f := jacobian c cw sw ct st d
  let p := (List.range 8).map (fun i => (List.range 8).map (fun j => f32 (c.cov.getD (triIndex i j) 0)))
  let fp := f.map (fun row => (List.range 8).map (fun j => dotDy row (p.map (fun l => l.getD j Dy.zero))))
  let b := trackParams s c.cls
  let cov := (List.range 8).flatMap (fun i => (List.range (i + 1)).map (fun j =>
    let e := dotDy (fp.getD i []) (f.getD j [])
    to32 (if i = j then e.add (d.mul (noiseDensity b i)) else e)))
  { state := [to32 x, to32 y, trackState c 2, to32 vx, to32 vy, to32 (wrapAngle ((v 5).add w)), trackState c 6,
      trackState c 7],
    cov := cov }

/-! ## Update jobs (R372) -/

/-- The elements of STATE that a frame's detection measures. -/
def measured : List Nat := [0, 1, 2, 5, 3, 4]

/-- The elements that a merged worker entry measures (R496). -/
def allElements : List Nat := [0, 1, 2, 3, 4, 5, 6, 7]

/-- The larger of a stated deviation and its minimum, squared and as it is. -/
def sigmaOf (stated lo : Nat) : Dy := (f32 stated).max (f32 lo)

def sigmaPos (p : Bytes) (d : Detection) : Dy := sigmaOf d.sigmaPos (fld p 192 32)
def sigmaVel (p : Bytes) (d : Detection) : Dy := sigmaOf d.sigmaVel (fld p 160 32)
def sigmaYaw (p : Bytes) (d : Detection) : Dy := sigmaOf d.sigmaYaw (fld p 128 32)

/-- The measurement of a detection and its noise, in the order of `measured`. -/
def detectionMeasure (d : Detection) : List Nat := [d.x, d.y, d.z, d.yaw, d.vx, d.vy]

def detectionNoise (p : Bytes) (d : Detection) : List Dy :=
  let sq (x : Dy) : Dy := x.mul x
  [sq (sigmaPos p d), sq (sigmaPos p d), sq (sigmaPos p d), sq (sigmaYaw p d), sq (sigmaVel p d), sq (sigmaVel p d)]

/-- The input of an update job: S packed lower, then the eight columns of H P and the innovation. -/
def updateInput (m : Moved) (idx meas : List Nat) (noise : Nat → Nat → Dy) : List Nat :=
  let n := idx.length
  let at_ (i : Nat) : Nat := idx.getD i 0
  let p (i j : Nat) : Nat := m.cov.getD (triIndex i j) 0
  let lower := (List.range n).flatMap (fun i => (List.range (i + 1)).map (fun j =>
    to32 ((f32 (p (at_ i) (at_ j))).add (noise i j))))
  let hp := (List.range 8).flatMap (fun k => (List.range n).map (fun i => p (at_ i) k))
  let nu := (List.range n).map (fun i =>
    let e := (f32 (meas.getD i 0)).sub (f32 (m.state.getD (at_ i) 0))
    to32 (if at_ i = 5 then wrapAngle e else e))
  lower ++ hp ++ nu

/-- The descriptor of an update job: OP 0, N, R 9. -/
def updateDesc (n : Nat) : Bytes := pack 32 [(64, 3, 1), (80, 8, n), (88, 8, 9)]

/-- The new STATE and COV from a job's X. -/
def updateResult (m : Moved) (idx : List Nat) (out : Bytes) : Moved :=
  let n := idx.length
  let xw (col i : Nat) : Dy := f32 (fld out (32 * (n * col + i)) 32)
  let p (i j : Nat) : Dy := f32 (m.cov.getD (triIndex i j) 0)
  let gain (k col : Nat) : Dy := Dy.sum ((List.range n).map (fun i => (p (idx.getD i 0) k).mul (xw col i)))
  let state := (List.range 8).map (fun k =>
    let e := (f32 (m.state.getD k 0)).add (gain k 8)
    to32 (if k = 5 then wrapAngle e else e))
  let cov := (List.range 8).flatMap (fun a => (List.range (a + 1)).map (fun b =>
    to32 ((((p a b).sub (gain a b)).add ((p b a).sub (gain b a))).mul ⟨1, -1⟩)))
  { state := state, cov := cov }

/-! ## Hits, births and misses (R373, R374) -/

/-- A rise or a fall of EXISTENCE. -/
def existenceUp (e gain : Nat) : Nat := min 255 (e + ceilDiv ((256 - e) * gain) 256)
def existenceDown (e gain : Nat) : Nat := e - ceilDiv (e * gain) 256

/-- STATIONARY and what follows from it: `ms` is the whole milliseconds of f. -/
def settleStill (p : Bytes) (f : Dts) (c : Track) : Track :=
  let v (i : Nat) : Dy := f32 (trackState c i)
  let speed2 := ((v 3).mul (v 3)).add ((v 4).mul (v 4))
  let limit := Dy.ratio (fld p 48 8 : Nat) 100
  if speed2.lt (limit.mul limit) then
    if bitOf c.flags flagStill then c
    else { c with flags := setBit c.flags flagStill, stillSinceMs := f / msUnits % 2 ^ 32 }
  else { c with flags := clearBit (clearBit c.flags flagStill) flagStillBorn }

/-- 256 × a score, truncated to a whole number of 0 to 255. -/
def confOf (x : Dy) : Nat := min 255 (x.mul ⟨256, 0⟩).floor.toNat

/-- A quarter of the way from one FP16 extent to an FP32 one. -/
def quarterWay (have_ want : Nat) : Nat := to16 ((f16 have_).add (((f32 want).sub (f16 have_)).mul ⟨1, -2⟩))

/-- MODALITIES after an update (R370). -/
def modalities (old : Nat) (camera lidar : Bool) : Nat :=
  let m := putBit (putBit old 2 camera) 3 lidar
  let m1 := if camera then setBit m 0 else m
  if lidar then setBit m1 1 else m1

/-- A hit. -/
def hitTrack (p : Bytes) (c : Track) (d : Detection) (m : Moved) (frame : Nat) (f : Dts) : Track :=
  let sc := (f32 d.clsScore).mul ⟨256, 0⟩
  let own := d.cls == c.cls
  let better := own || (Dy.ofInt c.classConf).lt sc
  let conf := if own then min 255 (((Dy.ofInt (7 * c.classConf)).add sc).mul ⟨1, -3⟩).floor.toNat else confOf (f32 d.clsScore)
  settleStill p f { c with
    flags := clearBit (clearBit (clearBit c.flags flagDropped) flagLost) flagOutside,
    life := if c.life = 3 then 2 else c.life, coast := 0, modalities := modalities c.modalities d.camera d.lidar,
    existence := existenceUp c.existence (fld p 64 8), cls := if better then d.cls else c.cls,
    classConf := if better then conf else c.classConf, length := quarterWay c.length d.length,
    width := quarterWay c.width d.width, height := quarterWay c.height d.height, lastUpdateFrame := frame, lastUpdate := f,
    state := m.state, cov := m.cov }

/-- A birth in a context. -/
def bornTrack (s : State) (p : Bytes) (d : Detection) (index id frame : Nat) (f : Dts) : Track :=
  let sq (x : Dy) : Nat := to32 (x.mul x)
  let diag := [sq (sigmaPos p d), sq (sigmaPos p d), sq (sigmaPos p d), sq (sigmaVel p d), sq (sigmaVel p d),
    sq (sigmaYaw p d), 0x3E800000, 0x3F800000]
  settleStill p f { (default : Track) with
    index := index, sourceDevice := fld (setting s 0x0E00 0) 0 4, flags := 2 ^ flagStillBorn, life := 1,
    modalities := modalities 0 d.camera d.lidar, existence := fld p 88 8, classConf := confOf (f32 d.clsScore),
    cls := d.cls, length := to16 (f32 d.length), width := to16 (f32 d.width), height := to16 (f32 d.height),
    lastUpdateFrame := frame, birthFrame := frame, trackId := id, birth := f, lastUpdate := f,
    cov := (List.range 8).flatMap (fun i => (List.range (i + 1)).map (fun j => if i = j then diag.getD i 0 else 0)),
    state := [d.x, d.y, d.z, d.vx, d.vy, to32 (wrapAngle (f32 d.yaw)), 0, 0] }

/-- Identifiers that may not be given: those of live tracks and of births pending (R368). -/
def takenIds (s : State) : List Nat :=
  s.glide.store.map (·.trackId) ++ s.glide.pending.flatMap (fun u => u.entries.filterMap (fun e => match e with
    | .write c true => some c.trackId
    | _ => none))

/-- The first identifier from a value on that no live track holds, and the next value of the counter. -/
def freeId (taken : List Nat) : Nat → Nat → Nat
  | 0, n => n
  | k + 1, n => if n = 0 ∨ taken.contains n then freeId taken k ((n + 1) % 2 ^ 32) else n

/-- Store indices in use, births pending included. -/
def usedIndices (s : State) : List Nat :=
  s.glide.store.map (·.index) ++ s.glide.pending.flatMap (fun u => u.entries.filterMap (fun e => match e with
    | .write c true => some c.index
    | _ => none))

/-- A context whose word is marked is out of use (R433). -/
def contextMarked (s : State) (i : Nat) : Bool :=
  s.patrol.marks.any (fun m => m.source / 4 == sourceOf 0x0A 16 0 / 4 && m.detail == i)

/-- The lowest free context; none when the store is full or a birth would exceed the live limit. -/
def freeIndex (s : State) : Option Nat :=
  let used := usedIndices s
  if liveLimit s ≤ used.length then none
  else (List.range 16384).find? (fun i => !used.contains i && !contextMarked s i)

/-- The pending update of a key is changed. -/
def modUpdate (key : Nat) (f : FrameUpdate → FrameUpdate) (s : State) : State :=
  modGlide (fun (g : Glide) => { g with pending := g.pending.map (fun u => if u.key == key then f u else u) }) s

/-- A newborn track enters a pending update, or is dropped and counted. -/
def addBirth (key : Nat) (make : Nat → Nat → Track) (s : State) : State :=
  match freeIndex s with
  | none => modUpdate key (fun (u : FrameUpdate) => { u with birthsDropped := u.birthsDropped + 1, storeFull := true }) s
  | some i =>
    let id := freeId (takenIds s) 32768 s.glide.nextId
    modUpdate key (fun (u : FrameUpdate) => { u with entries := u.entries ++ [.write (make i id) true] })
      (modGlide (fun (g : Glide) => { g with nextId := (id + 1) % 2 ^ 32 }) s)

/-! ## Extents of the deletion test and of misses (R373, R374, R497) -/

/-- How far a position lies outside the box of an extent, in patch lengths along the worse axis: beyond one. -/
def farOutside (s : State) (x y : Dy) (cx cy lo hi : Int) : Bool :=
  let l := Dy.ratio (patchCm s) 100
  let out (v : Dy) (a b : Int) : Bool :=
    v.lt ((l.mul (Dy.ofInt a)).sub l) || ((l.mul (Dy.ofInt b)).add l).lt v
  out x (cx - 4) (cx + 4) || out y (cy + lo) (cy + hi)

/-- REGION_DX and REGION_DY of an entry of the region map (Table 17.2). -/
def regionDx (s : State) (d : Nat) : Int := sfld (setting s 0x0E02 0) (128 * d + 56) 8
def regionDy (s : State) (d : Nat) : Int := sfld (setting s 0x0E02 0) (128 * d + 48) 8

/-- The enabled workers of a manager. -/
def enabledWorkers (s : State) : List Nat :=
  if isManager s then (List.range 16).filter (fun d => d != 0 && regionEnabled s d) else []

/-- A position lies more than one patch length outside the extent in force; in a manager, outside the union. -/
def beyondExtent (s : State) (x y : Dy) : Bool :=
  let r := s.rink
  let own := if !r.reduced then farOutside s x y r.centreX r.centreY (-3) 3
    else if reducedSide s = 0 then farOutside s x y r.centreX r.centreY (-3) 2
    else farOutside s x y r.centreX r.centreY (-2) 3
  own && (enabledWorkers s).all (fun d =>
    farOutside s x y (r.centreX + regionDx s d) (r.centreY + regionDy s d) (-3) 3)

/-- A merged track whose worker's region is not valid (R497). -/
def orphaned (s : State) (c : Track) : Bool :=
  isManager s && bitOf c.modalities 4 && !(vget s.peers.peers c.sourceDevice).regionValid

/-- What a frame saw of a track it missed, by the track's position at f and the extent in force for the frame. -/
def missCode (s : State) (d : DetectionSet) (c : Track) (m : Moved) : Nat :=
  let x := f32 (m.state.getD 0 0)
  let y := f32 (m.state.getD 1 0)
  let g := patchAt s x y
  let entry := d.patches.getD (slotIndex g.1 g.2) 0
  if beyondExtent s x y then 3
  else if orphaned s c then 2
  else if !inExtent d.centreX d.centreY d.reduced (reducedSide s) g.1 g.2 then 1
  else if bitOf entry 1 && !bitOf entry 4 then 0 else 2

/-- A miss applied to a context. -/
def missTrack (p : Bytes) (code : Nat) (c : Track) : Track :=
  let c1 := { c with coast := min 255 (c.coast + 1), life := if c.life = 2 then 3 else c.life }
  match code with
  | 0 => { c1 with existence := existenceDown c.existence (fld p 56 8),
                   flags := clearBit (clearBit c.flags flagLost) flagOutside }
  | 2 => { c1 with flags := setBit (clearBit c.flags flagOutside) flagLost }
  | _ => { c1 with flags := setBit (clearBit c.flags flagLost) flagOutside }

/-! ## Association (R371) -/

/-- d2 as a fraction with a positive denominator; none where the matrix is not positive definite. -/
def gateDistance (a b c : Dy) (ex ey : Dy) : Option (Dy × Dy) :=
  let det := (a.mul c).sub (b.mul b)
  if Dy.zero.lt det then
    some (((c.mul (ex.mul ex)).sub ((b.mul (ex.mul ey)).mul ⟨2, 0⟩)).add (a.mul (ey.mul ey)), det)
  else none

/-- One fraction is less than another. -/
def fracLt (a b : Dy × Dy) : Bool := (a.1.mul b.2).lt (b.1.mul a.2)

/-- The track nearest to a measured position within GATE, lower TRACK_ID on a tie. `add` is added to P_xy. -/
def nearestTrack (gate : Dy) (x y : Nat) (add : Dy × Dy × Dy) (l : List (Track × Moved)) : Option (Track × Moved) :=
  (l.foldl (fun (b : Option ((Dy × Dy) × Track × Moved)) t =>
    let p (i : Nat) : Dy := f32 (t.2.cov.getD i 0)
    match gateDistance ((p 0).add add.1) ((p 1).add add.2.1) ((p 2).add add.2.2)
        ((f32 x).sub (f32 (t.2.state.getD 0 0))) ((f32 y).sub (f32 (t.2.state.getD 1 0))) with
    | none => b
    | some d =>
      if !(d.1.le (gate.mul d.2)) then b
      else match b with
        | none => some (d, t)
        | some (e, u) => if fracLt d e || (!fracLt e d && decide (t.1.trackId < u.1.trackId)) then some (d, t) else b)
    none).map (·.2)

/-- The matching so far. -/
structure Matching where
  left : List (Track × Moved)
  hits : List ((Track × Moved) × Detection)
  births : List Detection
deriving DecidableEq, Repr, Inhabited

def matchOne (s : State) (a : Matching) (d : Detection) : Matching :=
  let p := trackParams s d.cls
  let v := (sigmaPos p d).mul (sigmaPos p d)
  match nearestTrack (f32 (fld p 224 32)) d.x d.y (v, Dy.zero, v) a.left with
  | some t => { a with left := a.left.filter (fun u => u.1.trackId != t.1.trackId), hits := a.hits ++ [(t, d)] }
  | none =>
    if (Dy.ratio (fld p 96 8 : Nat) 256).le (f32 d.score) then { a with births := a.births ++ [d] } else a

/-- The place of a track in the order in which jobs are issued. -/
def issueRank (s : State) (id : Nat) : Nat :=
  match s.glide.lastOrder.findIdx? (fun x => x == id) with
  | some i => i
  | none => s.glide.lastOrder.length + id

/-- A tracked object contested or not in a frame (R191): the state of the track, its event and its record. -/
def contestTrack (f : Dts) (c : Track) (m : Moved) (contested : Bool) (s : State) : State :=
  let was := s.align.contestedTracks.any (fun x => x.id == c.trackId)
  let s1 := modAlign (fun (a : Align) =>
    { a with contestedTracks := contestStep (contestClear s) c.trackId contested a.contestedTracks }) s
  if contested && !was then
    let e : Event := { (default : Event) with
      detection := multipleFrom (tickPeriodMs s * msUnits) (now s), evidence := f, trackId := c.trackId,
      x := m.state.getD 0 0, y := m.state.getD 1 0, kind := 6, rule := 0xFF, zone := 0xFF, cls := c.cls,
      existence := c.existence }
    report (alignFault 27) 0 4 .ce 0 (modGlide (fun (g : Glide) => { g with events := g.events ++ [e] }) s1)
  else s1

/-- All of an update's jobs have ended: its last pending write is now. -/
def settleUpdate (key : Nat) (s : State) : State :=
  modUpdate key (fun (u : FrameUpdate) =>
    if u.finished.isSome || u.entries.any (fun e => match e with
      | .job _ _ => true
      | .mergeJob _ _ => true
      | _ => false) then u
    else { u with finished := some (now s) }) s

/-- The deadline of update jobs after an arrival (R372), as values of COUNT. -/
def updateDeadline (s : State) (arrival : Nat) : Nat :=
  arrival + (shortestSpacing (effectiveRate s) - 2000) * countsPerUs

/-- The track that a detection would give birth to now; none where no context is free. -/
def birthOf (d : DetectionSet) (q : Detection) (s : State) : Option Track :=
  (freeIndex s).map (fun i =>
    bornTrack s (trackParams s q.cls) q i (freeId (takenIds s) 32768 s.glide.nextId) d.frame d.instant)

/-- The births of a frame, and the tracks born with their detections. -/
def giveBirths (key : Nat) (d : DetectionSet) (births : List Detection) (s : State) : State × List (Track × Detection) :=
  births.foldl (fun (a : State × List (Track × Detection)) q =>
    (addBirth key (fun i id => bornTrack a.1 (trackParams a.1 q.cls) q i id d.frame d.instant) a.1,
     a.2 ++ (birthOf d q a.1).toList.map (fun c => (c, q)))) (s, [])

/-- The object-level vote on a track takes effect on the track, and joins the frame's tally (R189, R191). -/
def voteTrack (f : Dts) (a : State × List (Nat × Nat × Nat)) (h : (Track × Moved) × Detection) :
    State × List (Nat × Nat × Nat) :=
  let v := objectVote a.1 h.2 a.2
  (contestTrack f h.1.1 h.1.2 (v.1 == .contested) (modAlign (fun (x : Align) =>
    { x with ambiguous := satAdd 32 x.ambiguous (flag (v.1 == .ambiguous)) }) a.1), v.2)

/-- The frame whose detections have arrived is associated; its tracks are voted on, and with them the cross-check of the
frame is complete (R189 to R192). -/
def associate (d : DetectionSet) (s0 : State) : State :=
  let key := s0.solver.nextId
  let s := modSolver (fun (v : Solver) => { v with nextId := v.nextId + 1 })
    (modGlide (fun (g : Glide) => { g with
      params := Vector.ofFn (fun (i : Fin 16) => setting s0 0x0A00 i.val),
      arriving := g.arriving.filter (fun x => x.frame != d.frame) }) s0)
  let live := s.glide.store.map (fun c => (c, propagate s c d.instant))
  let a := (d.detections.sortBy detectionBefore).foldl (matchOne s) { left := live, hits := [], births := [] }
  let hits := a.hits.sortBy (fun x y => decide (issueRank s x.1.1.trackId ≤ issueRank s y.1.1.trackId))
  let u : FrameUpdate :=
    { key := key, frame := d.frame, instant := d.instant, worker := none, observed := 0,
      entries := hits.map (fun h => .job h.1.1.index h.2),
      misses := a.left.map (fun t => (t.1.index, missCode s d t.1 t.2)), patches := d.patches,
      recentred := d.recentred, detectionsDropped := d.dropped, updatesDropped := 0, birthsDropped := 0,
      storeFull := false, finished := none }
  let s1 := modGlide (fun (g : Glide) => { g with pending := g.pending ++ [u] }) s
  let s2 := hits.foldl (fun (t : State) h =>
    let n := detectionNoise (trackParams t h.2.cls) h.2
    issueJob (.glide h.1.1.index key) (updateDesc 6)
      (updateInput h.1.2 measured (detectionMeasure h.2) (fun i j => if i = j then n.getD i Dy.zero else Dy.zero))
      (some (updateDeadline t d.arrivedAt)) t) s1
  let b := giveBirths key d a.births s2
  let newborn := b.2.map (fun x => ((x.1, ({ state := x.1.state, cov := x.1.cov } : Moved)), x.2))
  let v := (hits ++ newborn).foldl (voteTrack d.instant) (b.1, d.tally)
  let s4 := a.left.foldl (fun (t : State) c => contestTrack d.instant c.1 c.2 false t) v.1
  settleUpdate key (if d.checked then judgeSources v.2 s4 else s4)

/-- No frame of the device's own is pending: the oldest arrived one is associated (R371). -/
def associateNext (s : State) : State :=
  if s.glide.pending.any (fun u => u.worker.isNone) then s
  else match s.glide.arriving.find? (fun d => d.arrived) with
    | some d => associate d s
    | none => s

/-- A frame's last detection arrives: Gate 7 opens, and the frame is associated once the one before it is committed. -/
def execDetectionsArrival (s : State) : Host.Outcome State Fault Refusal :=
  awakeAnswer s fun s =>
    match s.glide.arriving.find? (fun d => !d.arrived) with
    | none => s
    | some d =>
      if !inRun s then s
      else
        let close := now s + shortestSpacing (effectiveRate s) * usUnits + msUnits
        associateNext (armGate 7 d.frame (now s) close
          (modGlide (fun (g : Glide) => { g with
            arriving := g.arriving.map (fun x => if x.frame == d.frame then
              { x with arrived := true, arrivedAt := countNow s } else x) }) s))

/-! ## The end of an update job (R372, R496) -/

/-- A merged match takes EXISTENCE, class, extents and modalities of the worker's entry. -/
def mergedTrack (p : Bytes) (c e : Track) (m : Moved) (u : FrameUpdate) : Track :=
  settleStill p u.instant { c with
    flags := clearBit (clearBit (clearBit c.flags flagDropped) flagLost) flagOutside,
    life := if c.life = 3 then 2 else c.life, coast := 0, modalities := setBit e.modalities 4,
    sourceDevice := u.worker.getD 0, existence := e.existence, cls := e.cls, classConf := e.classConf, length := e.length,
    width := e.width, height := e.height, lastUpdateFrame := u.frame, lastUpdate := u.instant, state := m.state,
    cov := m.cov }

/-- The context that a finished job writes; none where it is dropped. -/
def finishEntry (s : State) (u : FrameUpdate) (r : JobRecord) : PendingEntry → PendingEntry
  | .job i d =>
    match s.glide.store.find? (fun c => c.index == i) with
    | some c =>
      if r.status = stDone ∧ !r.overflow then
        .write (hitTrack (trackParams s d.cls) c d (updateResult (propagate s c u.instant) measured r.out) u.frame u.instant)
          false
      else .dropped i
    | none => .dropped i
  | .mergeJob i e =>
    match s.glide.store.find? (fun c => c.index == i) with
    | some c =>
      if r.status = stDone ∧ !r.overflow then
        .write (mergedTrack (trackParams s e.cls) c e (updateResult (propagate s c u.instant) allElements r.out) u) false
      else .dropped i
    | none => .dropped i
  | x => x

def entryIndex : PendingEntry → Option Nat
  | .job i _ => some i
  | .mergeJob i _ => some i
  | _ => none

/-- An update job has ended. -/
def glideJobEnded (index key : Nat) (r : JobRecord) (s : State) : State :=
  match s.glide.pending.find? (fun u => u.key == key) with
  | none => s
  | some u =>
    let bad := r.status ≠ stDone ∨ r.overflow
    let s1 := modUpdate key (fun (x : FrameUpdate) => { x with
      entries := x.entries.map (fun e => if entryIndex e == some index then finishEntry s u r e else e),
      updatesDropped := if bad then x.updatesDropped + 1 else x.updatesDropped }) s
    settleUpdate key (if r.overflow then report (glideFault 17 0) 0 4 .ce 0 s1 else s1)

/-! ## The commit (R367, R373 to R375, R391) -/

/-- The context after an update's own entry for it, and its miss. -/
def entryFor (s : State) (u : FrameUpdate) (c : Track) : Track :=
  let w := u.entries.findSome? (fun e => match e with
    | .write d false => if d.index == c.index then some d else none
    | .dropped i => if i == c.index then some { c with flags := setBit c.flags flagDropped } else none
    | _ => none)
  match w with
  | some d => { d with zones := c.zones }
  | none => match u.misses.find? (fun m => m.1 == c.index) with
    | some m => missTrack (trackParams s c.cls) m.2 c
    | none => c

/-- LIFE, AGE and the caps of R191 at the commit. -/
def settleLife (s : State) (u : FrameUpdate) (c : Track) : Track :=
  let p := trackParams s c.cls
  let life := if c.life = 1 ∧ fld p 80 8 ≤ c.existence then 2 else c.life
  let age := if u.worker.isNone then min 65535 (u.frame - c.birthFrame) else c.age
  let g := patchAt s (f32 (trackState c 0)) (f32 (trackState c 1))
  let own := s.align.contestedTracks.any (fun x => x.id == c.trackId)
  let held := own || (inExtent s.rink.centreX s.rink.centreY s.rink.reduced (reducedSide s) g.1 g.2 &&
    patchContested s (slotIndex g.1 g.2))
  let cap := held && decide (existCap s < c.existence)
  { c with
    life := life, age := age, existence := if cap then existCap s else c.existence,
    flags := putBit (putBit c.flags flagContested own) flagCapped cap }

/-- The commit deletes a track (R374). -/
def deletes (s : State) (u : FrameUpdate) (c : Track) : Bool :=
  let p := trackParams s c.cls
  let missed := u.misses.find? (fun m => m.1 == c.index)
  decide (c.existence < fld p 72 8) || decide (fld p 112 16 * msUnits + c.lastUpdate < u.instant) ||
    (match missed with
     | some m => m.2 == 3
     | none => beyondExtent s (f32 (trackState c 0)) (f32 (trackState c 1)))

/-- Fields of an event rule (Table 13.11). -/
def ruleKind (b : Bytes) : Nat := fld b 8 8
def ruleZone (b : Bytes) : Nat := fld b 16 8
def ruleTimeMs (b : Bytes) : Nat := fld b 64 32

/-- The REMOVED events of a track that a miss in an observed patch deletes. -/
def removedEvents (s : State) (u : FrameUpdate) (t : Dts) (c : Track) : List Event :=
  let still := (u.instant / msUnits + 2 ^ 32 - c.stillSinceMs) % 2 ^ 32
  if !(u.misses.contains (c.index, 0)) || !bitOf c.flags flagStill then []
  else
    let m := propagate s c u.instant
    (s.glide.rules.filter (fun r => ruleKind r.2 == 4 && bitOf c.zones (ruleZone r.2) &&
        decide (ruleTimeMs r.2 ≤ still))).map (fun r =>
      { (default : Event) with
        detection := t, evidence := u.instant, trackId := c.trackId, x := m.state.getD 0 0, y := m.state.getD 1 0,
        kind := 4, rule := r.1, zone := ruleZone r.2, cls := c.cls, existence := c.existence })

/-- Tracks leave: their event states and contests go with them (R392). -/
def forgetTracks (ids : List Nat) (s : State) : State :=
  modAlign (fun (a : Align) => { a with contestedTracks := a.contestedTracks.filter (fun x => !ids.contains x.id) })
    (modGlide (fun (g : Glide) => { g with
      eventTable := g.eventTable.filter (fun e => !ids.contains e.trackId),
      untracked := g.untracked.filter (fun e => !ids.contains e.1),
      wasInside := g.wasInside.filter (fun w => !ids.contains w.1) }) s)

/-- The contexts in ascending index. -/
def byIndex (l : List Track) : List Track := l.sortBy (fun a b => decide (a.index ≤ b.index))

/-- A finished update is committed for tick instant t. -/
def commitUpdate (t : Dts) (u : FrameUpdate) (s : State) : State :=
  let born := u.entries.filterMap (fun e => match e with
    | .write c true => some c
    | _ => none)
  let all := byIndex ((s.glide.store.map (entryFor s u)) ++ born)
  let settled := all.map (settleLife s u)
  let gone := settled.filter (deletes s u)
  let kept := settled.filter (fun c => !deletes s u c)
  let events := gone.flatMap (fun c => if c.existence < fld (trackParams s c.cls) 72 8 then removedEvents s u t c else [])
  let own := u.worker.isNone
  let marked (bit : Nat) : Bool := u.patches.any (fun e => bitOf e bit)
  let s1 := modGlide (fun (g : Glide) => { g with
    store := kept, mirror := kept, pending := g.pending.filter (fun x => x.key != u.key), events := g.events ++ events,
    committed := if own then u.frame else g.committed,
    committedInstant := if own then u.instant else g.committedInstant,
    commits := if own then (u.instant :: g.commits).take 16 else g.commits,
    updatesDropped := u.updatesDropped + (if own then 0 else g.updatesDropped),
    detectionsDropped := if own then u.detectionsDropped else g.detectionsDropped,
    birthsDropped := u.birthsDropped + (if own then 0 else g.birthsDropped),
    storeFull := u.storeFull || (!own && g.storeFull),
    recentred := if own then u.recentred else g.recentred, patches := if own then u.patches else g.patches,
    refTruncated := if own then marked 2 else g.refTruncated,
    refMarked := if own then marked 4 || marked 5 || marked 6 else g.refMarked }) s
  let s2 := forgetTracks (gone.map (·.trackId)) s1
  if own then kickGate 7 u.frame s2 else s2

/-- At a cut-off: the updates whose last write lies at least 500 µs before the tick instant, in order; a frame follows the worker sets before it
(R19, R375, R496). -/
def commitReady : Nat → Dts → State → State
  | 0, _, s => s
  | n + 1, t, s =>
    match s.glide.pending with
    | u :: _ => match u.finished with
      | some d => if d + msUnits / 2 ≤ t then commitReady n t (commitUpdate t u s) else s
      | none => s
    | [] => s

/-! ## Zones (R388, R389) -/

/-- A zone's vertices, FP32 codes. -/
def zoneVertices (b : Bytes) : List (Nat × Nat) :=
  (List.range (fld b 8 8)).map (fun i => (fld b (64 + 64 * i) 32, fld b (96 + 64 * i) 32))

/-- A point's ray crosses an edge, taken half-open. -/
def crosses (x y : Dy) (a b : Nat × Nat) : Bool :=
  let ax := f32 a.1
  let ay := f32 a.2
  let bx := f32 b.1
  let by_ := f32 b.2
  if ay.le y == by_.le y then false
  else
    let left := (x.sub ax).mul (by_.sub ay)
    let right := (y.sub ay).mul (bx.sub ax)
    if ay.lt by_ then left.lt right else right.lt left

/-- The even-odd rule. -/
def insideZone (x y : Dy) (b : Bytes) : Bool :=
  let v := zoneVertices b
  let edges := v.zip (v.drop 1 ++ v.take 1)
  (edges.filter (fun e => crosses x y e.1 e.2)).length % 2 == 1

/-- The zones that hold a propagated track, as a mask. -/
def zoneMask (zones : List (Nat × Bytes)) (p : PropTrack) : Nat :=
  let x := f32 (p.state.getD 0 0)
  let y := f32 (p.state.getD 1 0)
  zones.foldl (fun m z => if insideZone x y z.2 then setBit m z.1 else m) 0

/-- A zone with PRIORITY. -/
def isPriority (z : Nat × Bytes) : Bool := bitAt z.2 16

/-! ## Event rules (R390 to R392) -/

/-- A track qualifies for a rule. -/
def qualifies (b : Bytes) (c : Track) : Bool :=
  (c.life == 2 || c.life == 3) && decide (fld b 24 8 ≤ c.existence) && bitOf (fld b 32 16) c.cls

/-- The entry of the event-state table for a track, a rule and a kind. -/
def stateEntry (s : State) (id rule : Nat) (k : EventStateKind) : Option EventState :=
  s.glide.eventTable.find? (fun e => e.trackId == id && e.rule == rule && e.kind == k)

def freeEntry (id rule : Nat) (k : EventStateKind) (s : State) : State :=
  modGlide (fun (g : Glide) => { g with
    eventTable := g.eventTable.filter (fun e => !(e.trackId == id && e.rule == rule && e.kind == k)),
    untracked := g.untracked.filter (fun e => e != (id, rule, k)) }) s

/-- An entry is taken. A condition that finds the table full goes untracked and is counted, once until it ends or finds an
entry (R392). -/
def takeEntry (id rule : Nat) (k : EventStateKind) (t : Dts) (s : State) : State :=
  if (stateEntry s id rule k).isSome then s
  else if 16384 ≤ s.glide.eventTable.length then
    if s.glide.untracked.contains (id, rule, k) then s
    else modGlide (fun (g : Glide) => { g with
      eventStateFull := satAdd 16 g.eventStateFull 1, untracked := g.untracked ++ [(id, rule, k)] }) s
  else modGlide (fun (g : Glide) => { g with
    eventTable := g.eventTable ++ [{ trackId := id, rule := rule, kind := k, since := t }],
    untracked := g.untracked.filter (fun e => e != (id, rule, k)) }) s

/-- An event of a rule, unless the rule's holdoff suppresses it. -/
def fireEvent (t : Dts) (r : Nat × Bytes) (p : PropTrack) (s : State) : State :=
  let c := p.track
  if (stateEntry s c.trackId r.1 .holdoff).isSome then s
  else
    let e : Event := { (default : Event) with
      detection := t, evidence := t, trackId := c.trackId, x := p.state.getD 0 0, y := p.state.getD 1 0,
      kind := ruleKind r.2, rule := r.1, zone := if ruleKind r.2 = 5 then 0xFF else ruleZone r.2, cls := c.cls,
      existence := c.existence }
    let s1 := modGlide (fun (g : Glide) => { g with events := g.events ++ [e] }) s
    if fld r.2 128 32 = 0 then s1 else takeEntry c.trackId r.1 .holdoff t (freeEntry c.trackId r.1 .holdoff s1)

/-- Holdoffs that have run out free their entries. -/
def endHoldoffs (t : Dts) (s : State) : State :=
  modGlide (fun (g : Glide) => { g with eventTable := g.eventTable.filter (fun e =>
    e.kind != .holdoff || decide (t < e.since + fld (lookupD g.rules e.rule []) 128 32 * msUnits)) }) s

/-- ZONE_ENTRY. -/
def evalEntry (t : Dts) (r : Nat × Bytes) (p : PropTrack) (inside : Bool) (s : State) : State :=
  if inside && !s.glide.wasInside.contains (p.track.trackId, r.1) then fireEvent t r p s else s

/-- DWELL. -/
def evalDwell (t : Dts) (r : Nat × Bytes) (p : PropTrack) (inside : Bool) (s : State) : State :=
  let id := p.track.trackId
  if !inside then freeEntry id r.1 .dwellFired (freeEntry id r.1 .dwell s)
  else if (stateEntry s id r.1 .dwellFired).isSome then s
  else
    let s1 := takeEntry id r.1 .dwell t s
    match stateEntry s1 id r.1 .dwell with
    | none => s1
    | some e =>
      if e.since + ruleTimeMs r.2 * msUnits ≤ t then
        fireEvent t r p (modGlide (fun (g : Glide) => { g with
          eventTable := g.eventTable.map (fun x => if x = e then { x with kind := .dwellFired } else x) }) s1)
      else s1

/-- APPEARED. -/
def evalAppeared (t : Dts) (r : Nat × Bytes) (p : PropTrack) (inside : Bool) (s : State) : State :=
  if inside && bitOf p.track.flags flagStillBorn && decide (p.track.birth + ruleTimeMs r.2 * msUnits ≤ t) then
    fireEvent t r p s
  else s

/-- APPROACH: D is the distance of R384. -/
def evalApproach (t : Dts) (r : Nat × Bytes) (p : PropTrack) (ok : Bool) (dist : Dy) (s : State) : State :=
  let id := p.track.trackId
  let radius := f32 (fld r.2 96 32)
  let far := radius.add ((Dy.ratio 1 2).max (radius.div (Dy.ofInt 10)))
  if far.lt dist then takeEntry id r.1 .approachArmed t s
  else if ok && dist.le radius && (stateEntry s id r.1 .approachArmed).isSome then
    fireEvent t r p (freeEntry id r.1 .approachArmed s)
  else if (stateEntry s id r.1 .approachArmed).isNone then freeEntry id r.1 .approachArmed s
  else s

/-- One rule over one track at a tick. -/
def evalRule (t : Dts) (dist : PropTrack → Dy) (r : Nat × Bytes) (s : State) (p : PropTrack) : State :=
  let ok := qualifies r.2 p.track
  let inside := ok && bitOf p.zones (ruleZone r.2)
  let s1 := match ruleKind r.2 with
    | 1 => evalEntry t r p inside s
    | 2 => evalDwell t r p inside s
    | 3 => evalAppeared t r p inside s
    | 5 => evalApproach t r p ok (dist p) s
    | _ => s
  modGlide (fun (g : Glide) =>
    let rest := g.wasInside.filter (fun w => w != (p.track.trackId, r.1))
    { g with wasInside := if inside then rest ++ [(p.track.trackId, r.1)] else rest }) s1

/-- Every rule over all live tracks (R391). -/
def evalRules (t : Dts) (dist : PropTrack → Dy) (ps : List PropTrack) (s : State) : State :=
  s.glide.rules.foldl (fun (u : State) r => ps.foldl (evalRule t dist r) u) (endHoldoffs t s)

/-! ## Settings that wait for the next tick (R384, R388, R390, R395) -/

def latchOne (s : State) (x : Nat × Bytes) : State :=
  let b := x.2
  let n := fld b 0 8
  match x.1 with
  | 0x0A01 => modGlide (fun (g : Glide) => { g with relevance := b }) s
  | 0x0A02 => modGlide (fun (g : Glide) => { g with
      zones := if fld b 8 8 = 0 then g.zones.filter (fun z => z.1 != n) else assocSet g.zones n b }) s
  | 0x0A03 => modGlide (fun (g : Glide) => { g with
      rules := if ruleKind b = 0 then g.rules.filter (fun r => r.1 != n) else assocSet g.rules n b,
      eventTable := g.eventTable.filter (fun e => e.rule != n),
      untracked := g.untracked.filter (fun e => e.2.1 != n),
      wasInside := g.wasInside.filter (fun w => w.2 != n) }) s
  | _ => modGlide (fun (g : Glide) => { g with zones := [], rules := [], eventTable := [], untracked := [],
                                                       wasInside := [] }) s

/-- A tick takes them. -/
def latchSettings (s : State) : State :=
  modGlide (fun (g : Glide) => { g with newAtTick := [] }) (s.glide.newAtTick.foldl latchOne s)

/-- A block accepted for the next tick. -/
def forNextTick (op : Nat) (b : Bytes) (s : State) : State :=
  modGlide (fun (g : Glide) => { g with newAtTick := g.newAtTick ++ [(op, b)] }) s

/-! ## Commands -/

/-- SET_TRACK_PARAMS: one class or all (R379); in force from the next association. -/
def execSetTrackParams (k : CmdKey) (s : State) : Host.Outcome State Fault Refusal :=
  runCommand k 0x0A00 (fun c s =>
    let cls := fld c.params 0 8
    done c (if cls = 0xFF then (List.range 16).foldl (fun (t : State) i =>
        putSetting 0x0A00 i (bytesOfNat 1 i ++ c.params.drop 1) t) s
      else putSetting 0x0A00 cls c.params s)) s

def execSetRelevanceRule (k : CmdKey) (s : State) : Host.Outcome State Fault Refusal :=
  runCommand k 0x0A01 (fun c s => done c (forNextTick 0x0A01 c.params (putSetting 0x0A01 0 c.params s))) s

def execSetZone (k : CmdKey) (s : State) : Host.Outcome State Fault Refusal :=
  runCommand k 0x0A02 (fun c s => done c (forNextTick 0x0A02 c.params (putSetting 0x0A02 (fld c.params 0 8) c.params s))) s

def execSetEventRule (k : CmdKey) (s : State) : Host.Outcome State Fault Refusal :=
  runCommand k 0x0A03 (fun c s => done c (forNextTick 0x0A03 c.params (putSetting 0x0A03 (fld c.params 0 8) c.params s))) s

/-- GET_TRACK: the committed context (R397). -/
def execGetTrack (k : CmdKey) (s : State) : Host.Outcome State Fault Refusal :=
  runCommand k 0x0A04 (fun c s =>
    match s.glide.store.find? (fun t => t.trackId == fld c.params 0 32) with
    | some t => doneWith c (trackBytes t) s
    | none => finish c stBadParam 0 [] s) s

def execClearZones (k : CmdKey) (s : State) : Host.Outcome State Fault Refusal :=
  runCommand k 0x0A05 (fun c s =>
    let s1 := (List.range 64).foldl (fun (t : State) i => dropSetting 0x0A02 i t) s
    let s2 := (List.range 256).foldl (fun (t : State) i => dropSetting 0x0A03 i t) s1
    done c (forNextTick 0x0A05 [] s2)) s

/-- The bytes of SET_ZONE (R51, R388). -/
def zoneLength (b : Bytes) : Nat := 8 + 8 * fld b 8 8

/-- SET_ZONE's first bad field. -/
def zoneBad (b : Bytes) : Option Nat :=
  let n := fld b 8 8
  if 64 ≤ fld b 0 8 then some 0
  else if n = 1 ∨ n = 2 ∨ 16 < n then some 1
  else if fld b 17 7 ≠ 0 then some 2
  else if fld b 24 40 ≠ 0 then some (3 + (((slice b 3 5).findIdx? (fun x => x != 0)).getD 0))
  else none

/-- Checks of a block beyond its fields. -/
def jointGlide (op : Nat) (b : Bytes) : Option Refuse :=
  match op with
  | 0x0A00 =>
    if fld b 88 8 ≤ fld b 72 8 then some (stBadParam, 9)
    else if fld b 80 8 ≤ fld b 88 8 then some (stBadParam, 10)
    else if fld b 96 8 < fld b 104 8 then some (stBadParam, 12) else none
  | 0x0A02 => (zoneBad b).map (fun o => (stBadParam, o))
  | _ => none

/-- An identifier that is not live (R397). -/
def startGlide (s : State) (op : Nat) (b : Bytes) : Option Refuse :=
  if op = 0x0A04 ∧ !s.glide.store.any (fun t => t.trackId == fld b 0 32) then some (stBadParam, 0) else none

/-! ## Resets and states (R387, R398) -/

/-- Frame updates that are not committed are discarded; their Gates are disarmed. -/
def discardUpdates (s : State) : State :=
  s.glide.pending.foldl (fun (t : State) u => if u.worker.isNone then closeWindowOf 7 u.frame t else t)
    (modGlide (fun (g : Glide) => { g with pending := [] }) s)

/-- Entry into SAFE: no frame updates (R387). -/
def safeGlide (s : State) : State :=
  modGlide (fun (g : Glide) => { g with arriving := [] }) (discardUpdates s)

/-- ENTER_SETUP and entry into Standby: every track and event state is deleted, without events (R387). -/
def clearTracks (s : State) : State :=
  modAlign (fun (a : Align) => { a with contestedTracks := [] })
    (modGlide (fun (g : Glide) => { g with
      store := [], mirror := [], eventTable := [], untracked := [], wasInside := [], lastOrder := [], result := none }) (safeGlide s))

/-- A block reset of Glide (R398): the pending bank is discarded and the event-state table is rebuilt. -/
def resetGlide (s : State) : State :=
  modGlide (fun (g : Glide) => { g with eventTable := [], untracked := [] }) (discardUpdates s)

/-- A context with an uncorrectable word or a bad CRC is loaded again from its mirror (R398). -/
def reloadContext (i : Nat) (s : State) : State :=
  modGlide (fun (g : Glide) => { g with store := g.store.map (fun c =>
    if c.index = i then (g.mirror.find? (fun m => m.index == i)).getD c else c) }) s

/-- A context whose mirror has failed too is deleted (R398). -/
def deleteContext (i : Nat) (s : State) : State :=
  let gone := (s.glide.store.filter (fun c => c.index == i)).map (·.trackId)
  forgetTracks gone (modGlide (fun (g : Glide) => { g with
    store := g.store.filter (fun c => c.index != i), mirror := g.mirror.filter (fun c => c.index != i) }) s)

/-- A propagation pair is retired (R378): fewer than 8 in service are fatal. -/
def retirePropPair (p : Nat) (s : State) : State :=
  if bitOf s.glide.pairsRetired p then s
  else
    let s1 := modGlide (fun (g : Glide) => { g with pairsRetired := setBit g.pairsRetired p }) s
    if propPairs s1 < 8 then report (glideFault p 0) 0 5 .fa 0 s1 else s1

end Sys2Proof.Machine
end

