-- ==== Sys2Proof/Machine/SolverEvents.lean ====
section
/-! DEFINITION. The solver's two events: ended internal jobs go to their owners, ended batches to their replies
(R348, R352, R359). -/

namespace Sys2Proof.Machine

/-- An ended internal job is handed to its owner and leaves the table. -/
def deliverJob (s : State) (j : Job) : State :=
  match j.record with
  | none => s
  | some r =>
    let s1 := modSolver (fun (v : Solver) => { v with jobs := v.jobs.filter (fun x => x.id != j.id) }) s
    match j.owner with
    | .glide i key => glideJobEnded i key r s1
    | .lidarVoter => scanJobEnded r s1
    | .wheelVoter => wheelJobEnded r s1
    | .user _ _ => s

/-- Every ended job is delivered. -/
def deliverJobs (s : State) : State :=
  settleBatches ((s.solver.jobs.filter (fun j => !isUser j && j.record.isSome)).foldl deliverJob s)

/-- The solver's clock domain runs: nothing of it is in a block reset. -/
def solverRuns (s : State) : Bool := !s.patrol.shadows.any (fun x => x.subsystem == 0x09)

/-- A scheduling instant (R359). -/
def execSolverSchedule (s : State) : Host.Outcome State Fault Refusal :=
  awakeAnswer s fun s => if solverRuns s then deliverJobs (schedule s) else s

/-- A job ends (R352, R363). -/
def execSolverJobComplete (job : Nat) (outcome : JobOutcome) (s : State) : Host.Outcome State Fault Refusal :=
  awakeAnswer s fun s => deliverJobs (jobEnds job outcome s)

end Sys2Proof.Machine
end

