-- ==== Sys2Proof/Machine/QueueUnit.lean ====
section
/-! DEFINITION. The queues: results and events as they are written, resets, notice pulses and the commands of the
subsystem (R405 to R419). -/

namespace Sys2Proof.Machine

/-- A source number of the Queues subsystem (Table 15.3). -/
def queueFault (l4 l3 : Nat) : Nat := sourceOf 0x0B l4 l3

def modOut (n : Nat) (f : OutQueue → OutQueue) (s : State) : State := setOutQueue n (f (outQueue s n)) s

/-! ## Writing (R413, R414) -/

/-- The tracks that a result keeps: all of `n`, as many as fit, or none at all when not even the 128 words of the header
and the entries fit. -/
def resultTracks (s : State) (n : Nat) : Option Nat :=
  if s.host.result.overrun then none
  else if 128 + 16 * n ≤ freeWords s 2 then some n
  else if 128 ≤ freeWords s 2 then some ((freeWords s 2 - 128) / 16)
  else none

/-- The result of tick instant t enters the result queue, whole or shortened, or the tick is counted LOST: the state, and the number of
tracks written. Its pulse falls 62 µs after t, or when the threshold is reached (R408, Table 1.1). -/
def offerResult (t : Dts) (n : Nat) (build : Nat → Bytes) (s : State) : State × Option Nat :=
  match resultTracks s n with
  | some m =>
    let s1 := if m < n then modOut 2 (fun (q : OutQueue) => { q with shortened := bump q.shortened }) s else s
    (sendPacketFrom (if cutOf s 2 = 0 then t + 62 * usUnits else 0) 2 (build m) s1, some m)
  | none =>
    let s1 := modOut 2 (fun (q : OutQueue) => { q with overrun := true, lost := bump q.lost }) s
    (if s.host.result.overrun then s1 else report (queueFault 2 0) 0 4 .ce 0 s1, none)

/-- An event's packet enters the event queue, or is counted LOST (R414). -/
def offerEvent (b : Bytes) (s : State) : State :=
  if wordsFor b.length ≤ freeWords s 3 then sendPacket 3 b s
  else modOut 3 (fun (q : OutQueue) => { q with lost := bump q.lost }) s

/-! ## Notice pulses (R408) -/

/-- A waiting pulse of 100 ns issues, at least 100 ns after the one before has ended. -/
def execNoticePulse (s : State) : Host.Outcome State Fault Refusal :=
  awakeAnswer s fun s =>
    let n := s.host.notices
    let apart := match n.lastPulse with
      | some c => decide (c + 100 ≤ countNow s)
      | none => true
    if n.waiting = 0 || !apart || flowService s || t16 s then s
    else { s with host := { s.host with
      notices := { n with waiting := n.waiting - 1, lastPulse := some (countNow s), pulses := n.pulses + 1 } } }

/-! ## Resets (R415 to R417) -/

/-- A queue is emptied by a reset that begins now. -/
def emptyQueue (by_ : Option CmdKey) (q : OutQueue) : OutQueue :=
  { q with words := [], overrun := false, inReset := true, resets := bump q.resets,
           resetBy := by_ }

/-- The notices of a queue's packets that a reset or Standby discards before they are readable. -/
def dropComing (n : Nat) (s : State) : State :=
  { s with host := { s.host with notices := { s.host.notices with
      coming := s.host.notices.coming.filter (fun c => c.bit + 1 != n) } } }

/-- A result that is being written: the reset removes it and the T48 writes it again whole from its staging (R415). -/
def unfinished (s : State) : Bool := decide (countNow s < s.host.result.stagedUntil)

/-- What follows a queue's reset that begins now: the TICK_NUMBER of the first result, or the next EVENT_SEQ. -/
def afterReset (s : State) (n : Nat) : Nat :=
  if n = 3 then s.glide.eventSeq
  else if unfinished s then fld (unpackWords s.host.result.staged) 64 64 else s.dev.nextTickNumber

/-- An outbound queue's reset begins: it is emptied; a result that was not whole is written again. -/
def beginQueueReset (n : Nat) (by_ : Option CmdKey) (s : State) : State :=
  let s1 := dropComing n (modOut n (fun (q : OutQueue) =>
    { emptyQueue by_ q with resetNext := afterReset s n, stagedUntil := 0 }) s)
  if n = 2 ∧ unfinished s then sendPacket 2 ((unpackWords s.host.result.staged).take
    (fld (unpackWords s.host.result.staged) 32 32)) s1 else s1

/-- A command already asked for the reset in progress. -/
def resetHeld (s : State) (n : Nat) : Bool := (outQueue s n).inReset

/-- RESET_QUEUE of the result or event queue; its reply follows the reset. -/
def execResetQueue (k : CmdKey) (s : State) : Host.Outcome State Fault Refusal :=
  runCommand k 0x0B03 (fun c s =>
    let n := fld c.params 0 8
    if resetHeld s n then s else beginQueueReset n (some k) s) s

/-- A queue reset completes and its command is answered. -/
def execQueueResetComplete (queue : Nat) (s : State) : Host.Outcome State Fault Refusal :=
  awakeAnswer s fun s =>
    if queue ≠ 2 ∧ queue ≠ 3 then s
    else match (outQueue s queue).resetBy with
      | none => s
      | some k =>
        let s1 := modOut queue (fun (q : OutQueue) => { q with inReset := false, resetBy := none }) s
        match flightOf k s1 with
        | some c => doneWith c (bytesOfNat 8 (outQueue s1 queue).resetNext) s1
        | none => s1

/-- A block reset of the subsystem begins: all four queues are emptied (R416). -/
def resetQueues (s : State) : State :=
  let i := s.host.intake
  let s1 := { s with host := { s.host with
    intake := { i with packets := [], partialWords := [], lostAfter := none },
    intakeLost := satAdd 32 s.host.intakeLost (intakeFill i), intakeResets := bump s.host.intakeResets } }
  let s2 := modOut 1 (fun (q : OutQueue) => { q with
    lost := satAdd 32 q.lost (q.words.filter (fun w => wordEnd w.word)).length }) s1
  [1, 2, 3].foldl (fun (t : State) n => beginQueueReset n (outQueue t n).resetBy t) s2

/-- It ends: queues whose reset a command asked for stay in it until that reset completes. -/
def endQueuesReset (s : State) : State :=
  [1, 2, 3].foldl (fun (t : State) n =>
    modOut n (fun (q : OutQueue) => if q.resetBy.isSome then q else { q with inReset := false }) t) s

/-- The words that remain at an entry into Standby are discarded and counted (R417). -/
def discardQueues (s : State) : State :=
  let i := s.host.intake
  let s1 := { s with host := { s.host with
    intake := { i with packets := [], partialWords := [], lostAfter := none },
    intakeLost := satAdd 32 s.host.intakeLost (intakeFill i) } }
  [1, 2, 3].foldl (fun (t : State) n =>
    dropComing n (modOut n (fun (q : OutQueue) => { q with
      words := [], lost := satAdd 32 q.lost q.words.length, overrun := false }) t)) s1

/-! ## Commands -/

def execSetQueueMode (k : CmdKey) (s : State) : Host.Outcome State Fault Refusal :=
  runCommand k 0x0B00 (fun c s => done c (putSetting 0x0B00 0 c.params s)) s

def execSetCutThrough (k : CmdKey) (s : State) : Host.Outcome State Fault Refusal :=
  runCommand k 0x0B01 (fun c s =>
    let n := fld c.params 0 8
    done c (modOut n (fun (q : OutQueue) => { q with cutThrough := fld c.params 16 16 }) (putSetting 0x0B01 n c.params s))) s

def execSetWatermarks (k : CmdKey) (s : State) : Host.Outcome State Fault Refusal :=
  runCommand k 0x0B02 (fun c s => done c (putSetting 0x0B02 0 c.params s)) s

/-- An entry of Table 14.6 for an outbound queue. -/
def queueEntry (s : State) (n : Nat) : Bytes :=
  let q := outQueue s n
  pack 32 [(0, 8, n), (8, 1, flag q.overrun), (9, 1, flag q.aboveHigh), (16, 16, if t16 s then 0 else q.cutThrough),
    (32, 32, queueCapacity n), (64, 32, fill (countNow s) q), (96, 32, packetsIn (countNow s) q), (128, 32, q.peak), (160, 32, q.lost),
    (192, 32, if n = 2 then q.shortened else 0), (224, 32, q.resets)]

/-- The entry of the command intake. -/
def intakeEntry (s : State) : Bytes :=
  let i := s.host.intake
  pack 32 [(9, 1, flag s.host.intakeAbove), (32, 32, queueCapacity 0), (64, 32, intakeFill i),
    (96, 32, (i.packets.filter (fun p => p.owed.isNone)).length), (128, 32, s.host.intakePeak), (160, 32, s.host.intakeLost),
    (224, 32, s.host.intakeResets)]

def queueStatus (s : State) : Bytes :=
  let n := s.host.notices
  pack 16 [(0, 1, flag (flowService s)), (1, 1, flag (t16 s)), (2, 1, flag n.fcCmd), (3, 1, flag n.fcOut), (32, 32, n.merged)] ++
    intakeEntry s ++ [1, 2, 3].flatMap (queueEntry s)

def execGetQueueStatus (k : CmdKey) (s : State) : Host.Outcome State Fault Refusal :=
  runCommand k 0x0B04 (fun c s => doneWith c (queueStatus s) s) s

/-- A low watermark below its high one (R410). -/
def jointQueues (op : Nat) (b : Bytes) : Option Refuse :=
  if op = 0x0B02 then
    (if fld b 0 8 ≤ fld b 8 8 then some (stBadParam, 1)
     else if fld b 16 8 ≤ fld b 24 8 then some (stBadParam, 3) else none)
  else none

/-- SET_CUT_THROUGH in T16-compatible mode (R406). -/
def startQueues (s : State) (op : Nat) : Option Refuse :=
  if op = 0x0B01 ∧ t16 s then some (stState, stateWord s % 65536) else none

end Sys2Proof.Machine
end

