-- ==== Sys2Proof/Machine/SafetyUnit.lean ====
section
/-! DEFINITION. The safety mechanisms: the safe-state message, the pins' waveform, checker injection, test cycles and
slices, the Groomer and the commands of the subsystem (R453 to R460, R466, R467, R469, R471, R472, R475 to R481). -/

namespace Sys2Proof.Machine

/-! ## Atide frames as they leave (R489) -/

/-- The device number (R484). -/
def deviceNumber (s : State) : Nat := fld (setting s 0x0E00 0) 0 4

/-- The Atide header (Table 17.3), big-endian. -/
def atideHeader (s : State) (type px py : Nat) (f : Dts) (seq len : Nat) : Bytes :=
  packBE 24 [(0, 16, len), (16, 32, seq), (48, 96, dtsBits f), (144, 8, py), (152, 8, px), (168, 8, deviceNumber s),
    (176, 8, type), (184, 8, 1)]

/-- An Atide frame is given to a port that is up; a safe-state message takes strict priority (R460). -/
def sendAtide (p dest type px py : Nat) (f : Dts) (seq : Nat) (payload : Bytes) (s : State) : State :=
  sendEth p dest (type == 6) (.atide (atideHeader s type px py f seq payload.length ++ payload)) s

/-! ## The safe-state message (R459, R460) -/

def safeBlock (s : State) : Bytes := setting s 0x0305 0
def safeTransport (s : State) : Nat := fld (safeBlock s) 0 8

/-- The payload of Table 16.7. -/
def safePayload (kind : Nat) (s : State) : Bytes :=
  let x := s.safety
  let body := packBE 64 [(496, 16, 1), (488, 8, kind), (480, 8, deviceNumber s), (448, 32, x.msgSeq),
    (384, 64, x.formedTick), (288, 96, dtsBits x.formedInstant), (256, 32, x.resultCrc), (224, 32, s.dev.degradation),
    (220, 4, s.dev.state.code), (216, 4, postureCode s.dev.posture), (210, 2, s.time.state.code),
    (209, 1, flag s.time.valid), (208, 1, flag x.resultValid), (32, 128, natOfBytes (firstFault s))]
  body.take 60 ++ bytesOfNatBE 4 (crc32c (body.take 60))

/-- One copy of a message on one port; a port without a link loses it. -/
def safeOnPort (payload : Bytes) (s : State) (p : Nat) : State :=
  if !bitOf (fld (safeBlock s) 8 6) p then s
  else if !portUp s p then modSafety (fun (x : Safety) => { x with safeMsgLost := min 255 (x.safeMsgLost + 1) }) s
  else if safeTransport s = 1 then
    modSafety (fun (x : Safety) => { x with safeSeq := (x.safeSeq + 1) % 2 ^ 32 })
      (sendAtide p (fld (safeBlock s) 208 48) 6 0xFF 0xFF s.safety.formedInstant s.safety.safeSeq payload s)
  else sendEth p (fld (safeBlock s) 208 48) true
    (.safeUdp (fld (safeBlock s) 144 16) (fld (safeBlock s) 160 16) (portIpv4 s p) (fld (safeBlock s) 176 32) payload) s

/-- A safe-state message leaves every port of PORT_MASK and takes the next MSG_SEQ. -/
def sendSafeMessage (kind : Nat) (s : State) : State :=
  if safeTransport s = 0 then s
  else
    let b := safePayload kind s
    modSafety (fun (x : Safety) => { x with msgSeq := (x.msgSeq + 1) % 2 ^ 32 }) ((List.range 6).foldl (safeOnPort b) s)

/-- The heartbeat of a tick: KIND 0 in RUN; KIND 1 in SAFE, once the copies of the first message have left. -/
def heartbeat (tick : Nat) (s : State) : State :=
  let n := fld (safeBlock s) 120 8
  if n = 0 ∨ tick % n ≠ 0 then s
  else if s.dev.state == .safe then (if s.safety.repeatsLeft = 0 then sendSafeMessage 1 s else s)
  else sendSafeMessage 0 s

/-- In SAFE the first message and its copies, 1 ms apart (Table 16.5, R460). -/
def execSafeMsgRepeat (s : State) : Host.Outcome State Fault Refusal :=
  awakeAnswer s fun s =>
    if s.dev.state != .safe || s.safety.repeatsLeft = 0 || decide (now s < s.safety.repeatFrom) then s
    else sendSafeMessage 1 (modSafety (fun (x : Safety) =>
      { x with repeatsLeft := x.repeatsLeft - 1, repeatFrom := now s + msUnits }) s)

def execConfigSafeMsg (k : CmdKey) (s : State) : Host.Outcome State Fault Refusal :=
  runCommand k 0x0305 (fun c s => done c (putSetting 0x0305 0 c.params s)) s

/-! ## The pins (R453 to R455) -/

/-- The half period of 1,250 cycles of the reference, as counts of COUNT. -/
def halfPeriod : Nat := 25000

/-- SAFE_A and SAFE_B toggle in antiphase. -/
def execSafeSignalToggle (s : State) : Host.Outcome State Fault Refusal :=
  awakeAnswer s fun s =>
    let x := s.safety
    if !x.toggling || !s.pins.refclk || decide (countNow s < x.lastToggle + halfPeriod) then s
    else modSafety (fun (x : Safety) => { x with safeA := !x.safeA, safeB := x.safeA, lastToggle := countNow s }) s

/-- Both pins are driven static low. -/
def staticPins (s : State) : State :=
  modSafety (fun (x : Safety) => { x with safeA := false, safeB := false, toggling := false }) s

/-- Toggling starts, in antiphase (R453). -/
def startToggling (s : State) : State :=
  if s.safety.toggling || !s.pins.refclk then s
  else modSafety (fun (x : Safety) => { x with safeA := true, safeB := false, toggling := true, lastToggle := countNow s }) s

/-- The monitor in the always-on island finds the reference gone: the generators stop at the level they hold, FAULT_N goes
low, and the fault is fatal (R454). -/
def execReferenceClockLoss (s : State) : Host.Outcome State Fault Refusal :=
  answer s (if !s.pins.refclk || inReset s then s
    else
      let s1 := modPins (fun (p : Pins) => { p with refclk := false })
        (modSafety (fun (x : Safety) => { x with toggling := false, faultN := true }) s)
      report (safetyFault 0 3) 0 5 .fa 0 s1)

/-! ## Task timing supervision (R466) -/

/-- An internal job has waited beyond the limit for a locked pair. -/
def startOverdue (s : State) : Bool :=
  s.solver.jobs.any (fun j => !isUser j && j.running.isNone && j.record.isNone &&
    decide (j.issuedAt + startLimit < countNow s))

/-- A monitor expires: 0 to 48 the step of that tile, 49 the solver start, 50 the watchdog of the management
controller. -/
def execTaskMonitorExpiry (tile : Nat) (s : State) : Host.Outcome State Fault Refusal :=
  awakeAnswer s fun s =>
    let count (s : State) : State := modSafety (fun (x : Safety) => { x with taskOverruns := bump x.taskOverruns }) s
    if tile < 49 then
      (if inRun s && s.rink.frame.isSome then report (safetyFault 2 1) 0 4 .uc 0 (count s) else s)
    else if tile = 49 then (if startOverdue s then report (safetyFault 2 0) 0 4 .uc 0 (count s) else s)
    else if tile = 50 then report (sourceOf 0x01 1 0) 0 4 .uc 0 (count s)
    else s

/-! ## Checker injection (R467 to R469) -/

def retiredTileMask (s : State) : Nat :=
  maskOf 49 (fun t => tileRole s t == .retired || tileRole s t == .dormant)

def retiredPairMask (s : State) : Nat := maskOf 4 (fun p => !pairServes s p)

/-- The checkers are injected, at boot or at an entry into Drive; `failed` of them did not report. -/
def runInjection (boot : Bool) (failed : Nat) (s : State) : State :=
  modSafety (fun (x : Safety) => { x with
    checkersRun := (Config.checkerInstances (retiredTileMask s) s.point.retired (retiredPairMask s)
      s.glide.pairsRetired boot).toNat,
    checkersFailed := failed }) s

/-- The largest L4 and L3 fields of a subsystem (Tables 15.3, 16.17). -/
def sourceLimits (sub l4 : Nat) : Option (Nat × Nat) :=
  match sub with
  | 0x01 => some (1, 0) | 0x02 => some (17, 0) | 0x03 => some (5, 6)
  | 0x04 => some (27, if l4 < 8 then 3 else 0)
  | 0x05 => some (31, 0)
  | 0x06 => some (6, if l4 < 4 then 7 else 0)
  | 0x07 => some (50, if l4 < 49 then 1 else 0)
  | 0x08 => some (4, if l4 = 0 then 1 else 0)
  | 0x09 => some (4, if l4 < 4 then 1 else 0)
  | 0x0A => some (19, if l4 < 16 then 1 else 0)
  | 0x0B => some (3, 2) | 0x0C => some (1, 0)
  | 0x0D => some (7, match l4 with | 0 => 3 | 1 => 7 | 2 => 1 | 5 => 7 | 6 => 7 | _ => 0)
  | 0x0E => some (15, 0) | 0x0F => some (3, 7) | 0x10 => some (3, 0) | 0x11 => some (7, 4)
  | _ => none

/-- The width of the L3 field of a subsystem (Table 15.3). -/
def l3Width (sub : Nat) : Nat :=
  match sub with
  | 0x02 => 2 | 0x04 => 2 | 0x05 => 2 | 0x07 => 1 | 0x0A => 2 | _ => 3

/-- SUBSYSTEM, L4 and L3 of a source number. -/
def sourceSub (src : Nat) : Nat := src / 128
def sourceL4 (src : Nat) : Nat := src % 128 / 2 ^ l3Width (sourceSub src)
def sourceL3 (src : Nat) : Nat := src % 2 ^ l3Width (sourceSub src)

def sourceExists (src : Nat) : Bool :=
  match sourceLimits (sourceSub src) (sourceL4 src) with
  | some m => decide (sourceL4 src ≤ m.1) && decide (sourceL3 src ≤ m.2)
  | none => false

/-- UNIT lies within the codes of R423. -/
def unitExists (src unit : Nat) : Bool :=
  if sourceSub src ≠ 0x07 then unit == 0
  else if sourceL4 src < 49 then (if sourceL3 src = 0 then decide (unit ≤ 29) else decide (unit ≤ 4))
  else if sourceL4 src = 50 then decide (unit ≤ 2) else unit == 0

/-- The entries of the memory that a source and UNIT name. -/
def entriesOf (src unit : Nat) : Nat :=
  match sourceSub src, sourceL4 src with
  | 0x05, 31 => 16384
  | 0x06, 4 => 262144
  | 0x09, 4 => 256
  | 0x0A, 16 => 16384
  | 0x0C, 1 => 512
  | 0x07, l => if l < 49 ∧ sourceL3 src = 0 ∧ unit < 11 then 0 else (Config.memoryEntries src unit).toNat
  | _, _ => (Config.memoryEntries src unit).toNat

/-- What a real detection of a comparison difference or a timeout carries: class and level (the fault tables); none where
the table names no such checker. -/
def comparisonFault (src unit : Nat) : Option (FaultClass × Nat) :=
  let l4 := sourceL4 src
  match sourceSub src with
  | 0x01 => if l4 = 0 then some (.fa, 5) else none
  | 0x02 => if l4 = 0 then some (.fa, 5) else if l4 < 9 then some (.uc, 4) else none
  | 0x06 => if l4 < 4 then some (.uc, 3) else none
  | 0x07 =>
    if l4 < 49 ∧ sourceL3 src = 0 then (if unit ≤ 8 then some (.uc, 3) else none)
    else if l4 < 49 then some (.ce, 3)
    else if l4 = 49 then some (.uc, 3) else some (.ce, 2)
  | 0x08 => some (.uc, if l4 = 0 then 3 else 4)
  | 0x09 => if l4 < 4 then some (.uc, 4) else none
  | 0x0A => if l4 < 16 then some (.uc, 3) else if l4 = 16 then some (.uc, 2) else none
  | 0x0B => if sourceL3 src < 2 then some (.uc, 4) else none
  | 0x0C => if l4 = 0 then some (.fa, 5) else none
  | 0x0D =>
    (match l4 with
    | 0 => if sourceL3 src < 3 then some (.fa, 5) else none
    | 5 => some (.uc, 3)
    | 6 => some (.uc, 3)
    | _ => none)
  | 0x0F => if l4 = 2 then some (.fa, 5) else if l4 = 3 then some (.uc, 3) else none
  | 0x10 => if l4 = 2 then some (.fa, 5) else some (.uc, 4)
  | _ => none

def timeoutFault (src unit : Nat) : Option (FaultClass × Nat) :=
  let l4 := sourceL4 src
  match sourceSub src with
  | 0x01 => if l4 = 1 then some (.uc, 4) else none
  | 0x07 => if l4 < 49 ∧ sourceL3 src = 0 ∧ unit = 9 then some (.uc, 4) else none
  | 0x0A => if l4 = 17 then some (.uc, 4) else none
  | 0x0D => if l4 = 1 ∨ l4 = 2 ∨ l4 = 4 then some (.uc, 4) else if l4 = 0 ∧ sourceL3 src = 3 then some (.fa, 5) else none
  | 0x0E => some (.uc, 4)
  | 0x0F =>
    if l4 = 1 then (if sourceL3 src = 3 ∨ sourceL3 src = 4 then some (.uc, 4) else some (.fa, 5)) else none
  | _ => none

/-- The class and level of the injected report; none where the checker does not have the KIND. -/
def injectedFault (src unit kind : Nat) : Option (FaultClass × Nat) :=
  match kind with
  | 0 => if entriesOf src unit = 0 then none else some (.ce, 2)
  | 1 => if entriesOf src unit = 0 then none else some (.uc, 2)
  | 2 => comparisonFault src unit
  | _ => timeoutFault src unit

/-- The limit in ns within which the named checker reports (Table 16.10). -/
def reportLimit (src kind : Nat) : Nat :=
  match sourceSub src, kind with
  | _, 0 => 2000
  | _, 1 => 2000
  | 0x02, 2 => 4
  | 0x07, 2 => 25600
  | 0x0F, 2 => 10000
  | 0x0D, 2 => 2000
  | _, _ => 1000

/-- A retired or DORMANT engine. -/
def engineGone (s : State) (src : Nat) : Bool :=
  let l4 := sourceL4 src
  match sourceSub src with
  | 0x06 => decide (l4 < 4) && peRetired s l4
  | 0x07 => decide (l4 < 49) && sourceL3 src == 0 && bitOf (retiredTileMask s) l4
  | 0x09 => decide (l4 < 4) && !pairServes s l4
  | 0x0A => decide (l4 < 16) && bitOf s.glide.pairsRetired l4
  | _ => false

/-- INJECT_FAULT: the test error is in the checker, whose report follows within its limit; the reply follows the report's
judgement, or INJECT_FAULT_REPORT_TIMEOUT (R468, R469). -/
def execInjectFault (k : CmdKey) (s : State) : Host.Outcome State Fault Refusal :=
  runCommand k 0x0D03 (fun c s =>
    let src := fld c.params 0 12
    let unit := fld c.params 12 6
    let kind := fld c.params 20 4
    let e := fld c.params 32 32
    match s.safety.injection, injectedFault src unit kind with
    | none, some (cls, level) =>
      let late := freeNat 32 s % (reportLimit src kind + 1) * nsUnits
      let r : Report :=
        { source := src, unit := unit, cls := cls, level := level, detail := e % 2 ^ 23, at_ := now s + late,
          kind := .detection, injected := true }
      modSafety (fun (x : Safety) => { x with
          injection := some { key := k, source := src, unit := unit, kind := kind, at_ := now s } })
        (modPatrol (fun (p : Patrol) => { p with wires := p.wires ++ [r] }) (spent s))
    | _, _ => s) s

/-- The reply to INJECT_FAULT: the injected record and the latency in ns. -/
def endInjection (x : Injection) (record : Bytes) (latency : Nat) (s : State) : State :=
  let s1 := modSafety (fun (y : Safety) => { y with injection := none }) s
  match flightOf x.key s1 with
  | some c => doneWith c (record ++ bytesOfNat 4 latency) s1
  | none => s1

/-- 1 ms has passed without the report: the checker is silent (R469). -/
def execInjectFaultReportTimeout (s : State) : Host.Outcome State Fault Refusal :=
  awakeAnswer s fun s =>
    match s.safety.injection with
    | none => s
    | some x =>
      if now s < x.at_ + msUnits || s.patrol.arrived.any (fun r => r.injected) then s
      else
        let s1 := modPatrol (fun (p : Patrol) => { p with wires := p.wires.filter (fun r => !r.injected) }) s
        report (safetyFault 3 0) 0 4 .uc (x.source * 2048 + x.unit * 32) (endInjection x (zeros 16) 0xFFFFFFFF s1)

/-! ## Test cycles and slices (R471 to R474) -/

/-- A test cycle begins 45 ms after the one before began, or at its completion if that is later. -/
def execTestCycleBegin (s : State) : Host.Outcome State Fault Refusal :=
  awakeAnswer s fun s =>
    let x := s.safety
    let dueAgain := match x.cycleFrom with
      | some b => decide (b + 45 * msUnits ≤ now s) && decide (12 ≤ x.slicesDone)
      | none => true
    if !sliceTested s || !dueAgain then s
    else modSafety (fun (x : Safety) => { x with cycleFrom := some (now s), slicesDone := 0, debtPaid := false }) s

/-- The steps that the service tiles have run last. -/
def lastSteps (s : State) : List (Option Nat) :=
  (serviceSlots s).map (fun n => match ownerOf s n with
    | some t => (vget s.rink.tiles t).lastStep
    | none => none)

/-- The declared tile time that remains, in µs, where every service tile stands at a slice mark. -/
def markRemaining (s : State) : Option Nat :=
  let img := planImage s
  let v := s.plans.variant.getD 0
  (lastSteps s).foldl (fun (m : Option Nat) x => match m, x with
    | some a, some st => if Config.sliceMark img v st then some (max a (Config.timeAfter img v st).toNat) else none
    | _, _ => none) (some 0)

/-- The slack of R472; none where no slice may start. -/
def slack (s : State) : Option Nat :=
  let spacing := shortestSpacing (effectiveRate s) * usUnits
  match s.rink.frame with
  | some f => (markRemaining s).map (fun r => f.imageStart + spacing - msUnits / 2 - (now s + r * usUnits))
  | none =>
    if (nextFrameFor s).any (fun f => f.cameraClosed && f.poseReady) then some 0
    else match s.rink.lastImage with
      | some i => some (i + spacing - now s)
      | none => some spacing

/-- A transparent slice runs: 150 µs in which no image phase starts. -/
def execTestSliceStart (s : State) : Host.Outcome State Fault Refusal :=
  awakeAnswer s fun s =>
    let x := s.safety
    let room := match slack s with
      | some d => decide (170 * usUnits < d)
      | none => false
    if !sliceTested s || x.cycleFrom.isNone || decide (12 ≤ x.slicesDone) || !room then s
    else
      let s1 := modSafety (fun (x : Safety) => { x with
        slicesDone := x.slicesDone + 1, slicesRun := bump x.slicesRun,
        imageNotBefore := some (now s + 150 * usUnits) }) s
      if x.slicesDone = 11 && !x.debtPaid then evaluateAgain (safetyFault 4 0) 0 4 false s1 else s1

/-! ## The Groomer (R475 to R480) -/

def execSetGroomer (k : CmdKey) (s : State) : Host.Outcome State Fault Refusal :=
  runCommand k 0x0D01 (fun c s =>
    let r := fld c.params 0 8
    let s1 := putSetting 0x0D01 r c.params s
    done c (modGroomer r (fun (g : Groomer) => { g with wholeSince := 0, dueFrom := none, injecting := false }) s1)) s

/-- The test pattern enters the normaliser; a real frame in progress wins at once. -/
def execGroomerInjection (rx : Nat) (s : State) : Host.Outcome State Fault Refusal :=
  awakeAnswer s fun s =>
    let g := groomer s rx
    match g.dueFrom with
    | none => s
    | some a =>
      if 8 ≤ rx || g.injecting || decide (now s < a + fld (groomerBlock s rx) 64 16 * usUnits) then s
      else if (receiver s rx).frame.isSome then injectionNotRun rx s
      else modGroomer rx (fun (g : Groomer) => { g with injecting := true }) s

/-- An injection ends and its signature is compared (R476, R478, R480). -/
def execGroomerInjectionEnd (rx : Nat) (passed : Bool) (s : State) : Host.Outcome State Fault Refusal :=
  awakeAnswer s fun s =>
    let g := groomer s rx
    let src := safetyFault 5 rx
    if 8 ≤ rx || !g.injecting then s
    else if passed then
      evaluateAgain src 0 3 false (modGroomer rx (fun (g : Groomer) => { g with
        injecting := false, dueFrom := none, passed := bump g.passed, notRunRun := 0, failRun := 0, distrust := false,
        check := .groomer }) s)
    else
      let s1 := report src 0 3 .uc 0 (modGroomer rx (fun (g : Groomer) => { g with
        injecting := false, dueFrom := none, failed := min 65535 (g.failed + 1), notRunRun := 0,
        failRun := g.failRun + 1, distrust := true, check := .groomer }) s)
      if 2 ≤ g.failRun + 1 then excludeCamera rx s1 else s1

/-! ## GET_SAFETY_STATUS (R481) -/

/-- SIGNAL of Table 16.14. -/
def signalCode (s : State) : Nat := if s.safety.toggling then 0 else if s.dev.state == .safe then 2 else 1

/-- PERIODIC_MODE of Table 16.14. -/
def periodicMode (s : State) : Nat := if !inRun s then 2 else if sliceTested s then 1 else 0

def safetyBlock (s : State) : Bytes :=
  let x := s.safety
  let age := match x.cycleFrom with
    | some b => min ((now s - b) / usUnits) (2 ^ 32 - 1)
    | none => 0
  pack 32 [(0, 2, signalCode s), (2, 1, flag x.faultN), (32, 32, x.taskOverruns), (72, 8, x.safeMsgLost),
    (80, 8, periodicMode s), (88, 8, if x.cycleFrom.isSome then 12 - x.slicesDone else 0), (96, 32, age),
    (128, 32, x.debtEvents), (160, 32, x.slicesRun), (192, 32, x.checkersRun), (224, 32, x.checkersFailed)]

def gateEntry (s : State) (n : Nat) : Bytes :=
  let g := gate s n
  pack 8 [(0, 8, n), (8, 1, flag g.extended), (16, 8, min 255 g.consecutive), (32, 32, g.misses)]

/-- CHECK of Table 16.16. -/
def checkCode (s : State) (r : Nat) : Nat :=
  if !bitAt (groomerBlock s r) 8 then 3
  else match (groomer s r).check with
    | .groomer => 0
    | .frozen => 1
    | .unavailable => 2
    | .disabled => 3

def receiverEntry (s : State) (r : Nat) : Bytes :=
  let g := groomer s r
  pack 16 [(0, 4, r), (4, 4, checkCode s r), (8, 8, min 255 g.notRunRun), (16, 16, min 65535 g.counterSkips),
    (32, 16, min 65535 g.frozen), (48, 16, min 65535 g.failed), (64, 32, g.notRun), (96, 32, g.passed)]

def execGetSafetyStatus (k : CmdKey) (s : State) : Host.Outcome State Fault Refusal :=
  runCommand k 0x0D02 (fun c s => doneWith c
    (safetyBlock s ++ (List.range 8).flatMap (gateEntry s) ++ (List.range 8).flatMap (receiverEntry s)) s) s

/-! ## Refusals -/

/-- The smaller of byte offsets. -/
def leastOffset (l : List (Bool × Nat)) : Option Nat :=
  (l.filter (fun x => x.1)).foldl (fun (b : Option Nat) x => some (match b with
    | some o => min o x.2
    | none => x.2)) none

/-- Checks of a block beyond its fields. -/
def jointSafety (op : Nat) (b : Bytes) : Option Refuse :=
  match op with
  | 0x0305 =>
    (leastOffset [(fld b 0 8 ≠ 0 && fld b 208 48 == 0, 26), (fld b 0 8 == 2 && fld b 176 32 == 0, 22)]).map
      (fun o => (stBadParam, o))
  | 0x0D01 => if 2 ≤ fld b 48 8 ∧ fld b 28 4 = 0 then some (stBadParam, 6) else none
  | 0x0D03 =>
    let src := fld b 0 12
    let unit := fld b 12 6
    let kind := fld b 20 4
    if !sourceExists src then some (stBadParam, 0)
    else if !unitExists src unit then some (stBadParam, 1)
    else if (injectedFault src unit kind).isNone then some (stBadParam, 2)
    else if kind < 2 ∧ entriesOf src unit ≤ fld b 32 32 then some (stBadParam, 4)
    else if 2 ≤ kind ∧ fld b 32 32 ≠ 0 then some (stBadParam, 4)
    else none
  | _ => none

/-- Checks that read the state. -/
def startSafety (s : State) (op : Nat) (b : Bytes) : Option Refuse :=
  match op with
  | 0x0305 =>
    if (List.range 6).any (fun p => bitOf (fld b 8 6) p && portInterface s p == 0) then some (stBadParam, 1) else none
  | 0x0D00 => (gateBad s b).map (fun o => (stBadParam, o))
  | 0x0D03 => if engineGone s (fld b 0 12) then some (stResource, sourceSub (fld b 0 12)) else none
  | _ => none

end Sys2Proof.Machine
end

