-- ==== Sys2Proof/Machine/PeerUnit.lean ====
section
/-! DEFINITION. Manager and workers: Atide frames, the pose and anchor broadcast, the track merge, status and loss, and
the commands of the subsystem (R483 to R502). -/

namespace Sys2Proof.Machine

/-- A source number of the Multi-device subsystem: the peer's number as L4 field (Table 15.3). -/
def peerFault (d : Nat) : Nat := sourceOf 0x0E d 0

def peer (s : State) (d : Nat) : Peer := vget s.peers.peers d

def modPeer (d : Nat) (f : Peer → Peer) (s : State) : State :=
  modPeers (fun (p : Peers) => { p with peers := vmod p.peers d f }) s

/-- Fields of a region map entry (Table 17.2). -/
def peerPort (s : State) (d : Nat) : Nat := fld (setting s 0x0E02 0) (128 * d + 72) 8
def peerMac (s : State) (d : Nat) : Nat := fld (setting s 0x0E02 0) (128 * d + 80) 48

/-! ## Role and time (R483, R487, R488) -/

/-- ROLE[1:0] is sampled, 2 µs, 4 µs and 6 µs after the release with which COUNT starts (R67); three samples that disagree read as 0b11, which makes a CE record (R483). -/
def execRoleSample (value : Nat) (s : State) : Host.Outcome State Fault Refusal :=
  awakeAnswer s fun s =>
    if s.peers.role.isSome || decide (3 < value) ||
        decide (countNow s < 2 * (s.peers.samples.length + 1) * countsPerUs) then s
    else
      let l := s.peers.samples ++ [value]
      if l.length < 3 then modPeers (fun (p : Peers) => { p with samples := l }) s
      else
        let r := if l.all (fun x => x == value) then value else 3
        let s1 := modPeers (fun (p : Peers) => { p with samples := l, role := some r }) s
        if r = 3 then report (peerFault 0) 0 5 .ce 0 s1 else s1

/-- A device's time is fit: LOCKED, or HOLDOVER with a bound of at most 1 µs. -/
def timeFit (state bound : Nat) : Bool := state == 2 || (state == 3 && decide (bound ≤ usUnits))

/-- ENTER_RUN is refused for want of the time arrangement of R487. -/
def peersUnfit (s : State) : Bool :=
  if isManager s then
    !isSet s 0x0E02 0 || decide (ptpRole s < 2) ||
      (enabledWorkers s).any (fun d => !bitOf (ptpMask s) (peerPort s d))
  else if isWorker s then
    !isSet s 0x0E02 0 || ptpRole s != 0 || ptpMask s != 2 ^ peerPort s 0 || timeSource s != 1
  else false

/-! ## Sending (R489) -/

/-- A frame leaves for a peer and takes the next SEQUENCE of that destination: the state, and the frame. -/
def sendPeer (d type px py : Nat) (f : Dts) (payload : Bytes) (s : State) : State :=
  let x := peer s d
  sendAtide (peerPort s d) (peerMac s d) type px py f x.txSeq payload
    (modPeer d (fun (y : Peer) => { y with txSeq := (y.txSeq + 1) % 2 ^ 32 }) s)

/-! ## Receiving (R490) -/

/-- Fields of a received header. -/
def headField (f : AtideFrame) (lo w : Nat) : Nat := fldBE 192 f.header lo w
def headType (f : AtideFrame) : Nat := headField f 176 8
def headDevice (f : AtideFrame) : Nat := headField f 168 8
def headInstant (f : AtideFrame) : Dts := dtsOf (headField f 48 96)
def headSeq (f : AtideFrame) : Nat := headField f 16 32
def headLength (f : AtideFrame) : Nat := headField f 0 16

/-- The payload without the padding of a short frame. -/
def payloadOf (f : AtideFrame) : Bytes := f.payload.take (headLength f)

/-- A field of a payload of `n` bytes. -/
def payField (f : AtideFrame) (n lo w : Nat) : Nat := fldBE (8 * n) (payloadOf f) lo w

/-- The payload length that a type has. -/
def typeLength (f : AtideFrame) : Option Nat :=
  match headType f with
  | 1 => some 128
  | 2 => some 40
  | 3 => some (16 + 224 * ((payloadOf f).getD 4 0).toNat)
  | 4 => some 8
  | 5 => some (4 + 2 * ((payloadOf f).getD 0 0).toNat)
  | 6 => some 64
  | _ => none

/-- The device takes a type from a sender: a manager STATUS and TRACKS from workers, a worker the rest from its
manager. -/
def roleTakes (s : State) (type d : Nat) : Bool :=
  (isManager s && (type == 2 || type == 3) && d != 0) ||
    (isWorker s && (type == 1 || type == 4 || type == 5) && d == 0)

/-- A frame is good under R490. -/
def atideGood (s : State) (f : AtideFrame) : Bool :=
  let n := headLength f
  let d := headDevice f
  f.header.length == 24 && headField f 184 8 == 1 && typeLength f == some n && decide (n ≤ f.payload.length) &&
    (f.payload.length == n || decide (f.payload.length ≤ 22)) && decide (d < 16) && regionEnabled s d &&
    peerMac s d == f.mac && roleTakes s (headType f) d

/-- SEQUENCE: missing values are counted; an older number is a resent frame. -/
def takeSequence (d seq : Nat) (s : State) : State :=
  modPeer d (fun (x : Peer) => match x.rxNext with
    | none => { x with rxNext := some ((seq + 1) % 2 ^ 32) }
    | some n =>
      let ahead := (seq + 2 ^ 32 - n) % 2 ^ 32
      if ahead < 2 ^ 31 then { x with rxNext := some ((seq + 1) % 2 ^ 32), gaps := satAdd 32 x.gaps ahead } else x) s

/-- A frame of a type arrives: discarded and counted, or taken with its sender's number. A good frame of another type is
another event; outside RUN and SAFE a good frame has no effect beyond its SEQUENCE. -/
def atideReceived (type : Nat) (f : AtideFrame) (s : State) (act : Nat → State → State) :
    Host.Outcome State Fault Refusal :=
  awakeAnswer s fun s =>
    if atideGood s f && headType f != type then s
    else frameIn f.port f.head s fun s =>
      if !atideGood s f then modPeers (fun (p : Peers) => { p with discarded := bump p.discarded }) s
      else
        let d := headDevice f
        let s1 := takeSequence d (headSeq f) s
        if ticking s1 then act d s1 else s1

/-! ## Pose and anchor broadcast (R491 to R493) -/

/-- A signed field of a big-endian payload. -/
def spayField (f : AtideFrame) (n lo w : Nat) : Int := signedOf w (payField f n lo w)

/-- REGION_VALID as a mask (Table 17.10): bit 0 the device itself. -/
def regionValidMask (s : State) : Nat :=
  if isManager s then maskOf 16 (fun d => d == 0 || (regionEnabled s d && (peer s d).regionValid)) else 1

/-- The payload of POSE_ANCHOR (Table 17.5) for a tick; the pose is zero where the ego state is refused. -/
def anchorPayload (s : State) (tick : Nat) (t : Dts) (pose : Option PoseEntry) : Bytes :=
  let a := s.align
  let b := match pose with
    | some e => natOfBytes (poseBytes e)
    | none => 0
  packBE 128 [(960, 64, tick), (864, 96, dtsBits t), (352, 512, b), (320, 32, codeOf 32 a.centreX),
    (288, 32, codeOf 32 a.centreY), (256, 32, codeOf 32 a.rebaseX), (224, 32, codeOf 32 a.rebaseY), (192, 32, anchorId s),
    (176, 16, a.anchorSeq), (160, 16, regionValidMask s), (128, 32, s.dev.degradation), (120, 8, effectiveRate s),
    (116, 4, s.rink.cellCode), (112, 4, s.dev.state.code), (108, 4, postureCode s.dev.posture),
    (106, 2, s.time.state.code), (105, 1, flag s.time.valid), (104, 1, flag s.peers.anchorNew), (32, 64, errorBoundCode s)]

/-- The manager sends POSE_ANCHOR to each enabled worker. -/
def sendAnchors (tick : Nat) (t : Dts) (pose : Option PoseEntry) (s : State) : State :=
  let b := anchorPayload s tick t pose
  let f := s.align.lastFusion
  (enabledWorkers s).foldl (fun (u : State) d => sendPeer d 1 0xFF 0xFF f b u) s

/-- A pose entry from its 64 bytes (Table 6.3). -/
def poseOfBytes (b : Bytes) : PoseEntry :=
  { time := dtsOf (fld b 416 96), posX := fld b 320 32, posY := fld b 352 32, posZ := fld b 384 32, qW := fld b 192 32,
    qX := fld b 224 32, qY := fld b 256 32, qZ := fld b 288 32, velX := fld b 96 32, velY := fld b 128 32,
    velZ := fld b 160 32, sigmaPos := fld b 80 16, sigmaAtt := fld b 64 16, sigmaVel := fld b 48 16,
    yawRate := fld b 32 16, imuSwitch := bitAt b 27, degradedEgo := bitAt b 26, standstill := bitAt b 25,
    wheelAided := bitAt b 24, primary := fld b 16 8, anchorSeq := fld b 0 16 }

/-- An order is kept with those of the latest fusion instants; ANCHOR_NEW counts once per fusion instant. -/
def keepOrder (o : AnchorOrder) (l : List AnchorOrder) : List AnchorOrder :=
  match l.getLast? with
  | some p =>
    let fresh := (o.anchorNew && p.instant != o.instant) || p.anchorId != o.anchorId || p.anchorNew
    ((l.filter (fun (x : AnchorOrder) => x.instant != o.instant)) ++ [{ o with anchorNew := fresh }]).drop (l.length - 3)
  | none => [o]

/-- A worker takes its manager's pose, anchor and Rink (R492, R493). -/
def takeAnchor (f : AtideFrame) (s : State) : State :=
  let t := dtsOf (payField f 128 864 96)
  let code := payField f 128 352 512
  let rx := spayField f 128 256 32
  let ry := spayField f 128 224 32
  let o : AnchorOrder :=
    { instant := headInstant f, centreX := spayField f 128 320 32, centreY := spayField f 128 288 32, rebaseX := rx,
      rebaseY := ry, anchorId := payField f 128 192 32, anchorSeq := payField f 128 176 16,
      anchorNew := payField f 128 104 1 == 1 }
  let mx := rx - s.align.rebaseX
  let my := ry - s.align.rebaseY
  let s1 := modAlign (fun (a : Align) => { a with
    history := if mx = 0 ∧ my = 0 then a.history else a.history.map (shiftPose s (-mx) (-my)),
    rebaseX := rx, rebaseY := ry, anchorSeq := o.anchorSeq, anchorSet := true,
    degradedEgo := bitOf (payField f 128 128 32) 3 }) s
  let s2 := modPeers (fun (p : Peers) => { p with orders := keepOrder o p.orders, managerLost := false }) s1
  if code = 0 then s2
  else writePose { poseOfBytes (bytesOfNat 64 code) with time := t, degradedEgo := bitOf (payField f 128 128 32) 3 } s2

def execAtidePoseAnchorReceived (frame : AtideFrame) (s : State) : Host.Outcome State Fault Refusal :=
  atideReceived 1 frame s fun _ s =>
    let s1 := evaluateAgain (peerFault 0) 0 4 false (takeAnchor frame s)
    modPeer 0 (fun (x : Peer) => { x with lastSeen := now s, phase := .valid, decided := none }) s1

/-- The end of the latest tick's 300 µs that has passed. -/
def statusEdge (s : State) : Dts :=
  let p := tickPeriodMs s * msUnits
  (now s - 300 * usUnits) / p * p + 300 * usUnits

/-- Nothing came from a peer by t + 300 µs of three consecutive ticks. -/
def silentThree (s : State) (x : Peer) : Bool :=
  decide (x.lastSeen + 3 * tickPeriodMs s * msUnits ≤ statusEdge s)

/-- A worker without its manager's POSE_ANCHOR for three ticks (R500). -/
def execPoseAnchorTimeout (s : State) : Host.Outcome State Fault Refusal :=
  awakeAnswer s fun s =>
    let x := peer s 0
    if !isWorker s || !ticking s || !silentThree s x then s
    else if s.peers.managerLost then
      (match x.decided with
      | some d =>
        if d + 3 * tickPeriodMs s * msUnits ≤ now s then
          evaluateAgain (peerFault 0) 0 4 true (modPeer 0 (fun (y : Peer) => { y with decided := none }) s)
        else s
      | none => s)
    else
      report (peerFault 0) 0 4 .uc 0 (modPeers (fun (p : Peers) => { p with managerLost := true })
        (modPeer 0 (fun (y : Peer) => { y with
          phase := .lost, lossEvents := bump y.lossEvents, decided := some (now s) }) s))

/-! ## Status (R498, R499) -/

/-- The payload of STATUS (Table 17.6). -/
def statusPayload (s : State) (tick : Nat) : Bytes :=
  let me := deviceNumber s
  packBE 40 [(256, 64, tick), (192, 64, errorBoundCode s), (160, 32, s.dev.epoch), (128, 32, s.dev.degradation),
    (120, 8, codeOf 8 (regionDx s me)), (112, 8, codeOf 8 (regionDy s me)), (108, 4, s.rink.cellCode),
    (104, 4, flag s.rink.reduced), (100, 4, s.dev.state.code), (96, 4, postureCode s.dev.posture),
    (94, 2, s.time.state.code), (93, 1, flag s.time.valid), (0, 16, s.glide.store.length)]

/-- A worker sends its STATUS. -/
def sendStatus (tick : Nat) (s : State) : State :=
  if isWorker s && regionEnabled s 0 then sendPeer 0 2 0xFF 0xFF s.glide.committedInstant (statusPayload s tick) s else s

/-- A STATUS frame is good (R498). -/
def statusGood (s : State) (d : Nat) (f : AtideFrame) : Bool :=
  payField f 40 100 4 == 2 && payField f 40 96 4 == postureCode s.dev.posture && payField f 40 108 4 == s.rink.cellCode &&
    spayField f 40 120 8 == regionDx s d && spayField f 40 112 8 == regionDy s d &&
    timeFit (payField f 40 94 2) (payField f 40 192 64)

/-- A VALID worker's region becomes invalid: its sets are discarded, a UC record is made, the next three ticks are the
retry. -/
def dropWorker (d : Nat) (phase : PeerPhase) (s : State) : State :=
  report (peerFault d) 0 4 .uc 0 (modPeer d (fun (x : Peer) => { x with
    phase := phase, goodRun := 0, lossEvents := bump x.lossEvents, regionValid := false, isOpen := none, whole := [],
    decided := some (now s) }) s)

/-- The retry's three ticks have passed without a good STATUS: the fault is found again. -/
def settleRetry (d : Nat) (s : State) : State :=
  match (peer s d).decided with
  | some t =>
    if t + 3 * tickPeriodMs s * msUnits ≤ now s then
      evaluateAgain (peerFault d) 0 4 true (modPeer d (fun (x : Peer) => { x with decided := none }) s)
    else s
  | none => s

def execAtideStatusReceived (frame : AtideFrame) (s : State) : Host.Outcome State Fault Refusal :=
  atideReceived 2 frame s fun d s =>
    let s1 := modPeer d (fun (x : Peer) => { x with lastSeen := now s, liveTracks := payField frame 40 0 16 }) s
    if statusGood s d frame then
      let run := (peer s d).goodRun + 1
      evaluateAgain (peerFault d) 0 4 false (modPeer d (fun (x : Peer) => { x with
        goodRun := run, decided := none, phase := if 10 ≤ run then .valid else x.phase }) s1)
    else if (peer s d).phase == .valid then dropWorker d .invalid s1
    else settleRetry d (modPeer d (fun (x : Peer) => { x with goodRun := 0 }) s1)

def execWorkerStatusTimeout (device : Nat) (s : State) : Host.Outcome State Fault Refusal :=
  awakeAnswer s fun s =>
    if !ticking s || !(enabledWorkers s).contains device || !silentThree s (peer s device) then s
    else if (peer s device).phase == .valid then dropWorker device .lost s
    else settleRetry device (modPeer device (fun (x : Peer) => { x with goodRun := 0 }) s)

/-! ## Track sets as a worker sends them (R494, R495) -/

/-- A track with its state and covariance at the frame's fusion instant, and its slot. -/
def setTrack (s : State) (f : Dts) (c : Track) : Nat × Track :=
  let m := propagate s c f
  let g := patchAt s (f32 (m.state.getD 0 0)) (f32 (m.state.getD 1 0))
  (slotIndex g.1 g.2, { c with state := m.state, cov := m.cov })

/-- A TRACKS entry (Table 17.8). -/
def trackEntry (c : Track) : Bytes :=
  packBE 224 ([(1760, 32, c.trackId), (1664, 96, dtsBits c.lastUpdate), (1648, 16, c.height), (1632, 16, c.width),
    (1616, 16, c.length), (1608, 8, c.cls), (1600, 8, c.classConf), (1592, 8, c.existence), (1584, 8, c.modalities),
    (1580, 4, c.life), (1568, 12, c.flags), (1552, 16, c.age), (1544, 8, c.coast)] ++
    (List.range 8).map (fun i => (1280 + 32 * i, 32, c.state.getD i 0)) ++
    (List.range 36).map (fun i => (128 + 32 * i, 32, c.cov.getD i 0)))

/-- A list in pieces of at most `n`. -/
def chunksOf (n : Nat) : Nat → List Track → List (List Track)
  | 0, _ => []
  | k + 1, l => if l.isEmpty then [] else l.take n :: chunksOf n k (l.drop n)

/-- The frames of a set: slot and tracks. -/
def setFrames (s : State) (f : Dts) (room : Nat) : List (Nat × List Track) :=
  let live := (s.glide.store.filter (fun c => c.life == 2 || c.life == 3)).map (setTrack s f)
  let frames := (List.range 48).flatMap (fun n =>
    let l := ((live.filter (fun x => x.1 == n)).map (·.2)).sortBy (fun a b => decide (a.trackId ≤ b.trackId))
    (chunksOf (max 1 room) l.length l).map (fun c => (n, c)))
  if frames.isEmpty ∨ room = 0 then [(48, [])] else frames

/-- OBSERVED_MASK of the committed frame. -/
def observedMask (s : State) : Nat :=
  maskOf 48 (fun n => let e := s.glide.patches.getD n 0; bitOf e 0 && bitOf e 1 && !bitOf e 4)

/-- The payload of one frame of a set (Table 17.7). -/
def setPayload (mask index count : Nat) (l : List Track) : Bytes :=
  packBE 16 [(112, 16, index), (96, 16, count), (88, 8, l.length), (0, 48, mask)] ++ l.flatMap trackEntry

/-- A worker sends its committed tracks as a set (R494). -/
def sendTracks (s : State) : State :=
  if !isWorker s || !regionEnabled s 0 then s
  else
    let f := s.glide.committedInstant
    let p := peerPort s 0
    let room := (fld (setting s 0x0300 p) 64 16 - 62) / 224
    let frames := setFrames s f room
    let mask := observedMask s
    let seq := (peer s 0).txSeq
    let bytes := frames.zipIdx.map (fun x =>
      let payload := setPayload mask x.2 frames.length x.1.2
      let slot := x.1.1
      atideHeader s 3 (if slot = 48 then 0xFF else slot % 8) (if slot = 48 then 0xFF else slot / 8) f
        ((seq + x.2) % 2 ^ 32) payload.length ++ payload)
    let s1 := modPeers (fun (q : Peers) => { q with
        kept := some { instant := f, frames := bytes, resent := [], acked := false, answered := false, lastAt := now s } })
      (modPeer 0 (fun (x : Peer) => { x with txSeq := (x.txSeq + frames.length) % 2 ^ 32 }) s)
    bytes.foldl (fun (u : State) b => sendEth p (peerMac u 0) false (.atide b) u) s1

/-- Frames of the kept set are sent once more, each at most once. -/
def resendFrames (which : List Nat) (s : State) : State :=
  match s.peers.kept with
  | none => s
  | some k =>
    let todo := which.filter (fun i => !k.resent.contains i && decide (i < k.frames.length))
    let p := peerPort s 0
    let s1 := modPeers (fun (q : Peers) => { q with
      kept := some { k with resent := k.resent ++ todo, answered := true } }) s
    todo.foldl (fun (u : State) i =>
      report (peerFault 0) 0 4 .ce 0 (modPeer 0 (fun (x : Peer) => { x with resends := bump x.resends })
        (sendEth p (peerMac u 0) false (.atide (k.frames.getD i [])) u))) s1

def execAtideAckReceived (frame : AtideFrame) (s : State) : Host.Outcome State Fault Refusal :=
  atideReceived 4 frame s fun _ s =>
    modPeers (fun (q : Peers) => { q with
      kept := q.kept.map (fun k => if k.instant = headInstant frame then { k with acked := true } else k) }) s

def execAtideResendReceived (frame : AtideFrame) (s : State) : Host.Outcome State Fault Refusal :=
  atideReceived 5 frame s fun _ s =>
    match s.peers.kept with
    | none => s
    | some k =>
      if k.instant ≠ headInstant frame then s
      else
        let b := payloadOf frame
        resendFrames ((List.range (b.getD 0 0).toNat).map (fun i => natOfBytesBE (slice b (4 + 2 * i) 2))) s

/-- Neither ACK nor RESEND by 500 µs after the last frame: the set is sent once more. -/
def execTrackSetAckTimeout (s : State) : Host.Outcome State Fault Refusal :=
  awakeAnswer s fun s =>
    match s.peers.kept with
    | none => s
    | some k =>
      if !isWorker s || k.acked || k.answered || decide (now s < k.lastAt + 500 * usUnits) then s
      else resendFrames (List.range k.frames.length) s

/-! ## Track sets as the manager takes them (R495) -/

/-- A track from a TRACKS entry. -/
def entryTrack (d : Nat) (b : Bytes) : Track :=
  let g (lo w : Nat) : Nat := fldBE 1792 b lo w
  { (default : Track) with
    trackId := g 1760 32, lastUpdate := dtsOf (g 1664 96), height := g 1648 16, width := g 1632 16, length := g 1616 16,
    cls := g 1608 8, classConf := g 1600 8, existence := g 1592 8, modalities := g 1584 8, life := g 1580 4,
    flags := g 1568 12, age := g 1552 16, coast := g 1544 8, sourceDevice := d,
    state := (List.range 8).map (fun i => g (1280 + 32 * i) 32),
    cov := (List.range 36).map (fun i => g (128 + 32 * i) 32) }

/-- The entries of a TRACKS frame. -/
def frameTracks (d : Nat) (f : AtideFrame) : List Track :=
  (List.range ((payloadOf f).getD 4 0).toNat).map (fun i => entryTrack d (slice (payloadOf f) (16 + 224 * i) 224))

/-- A set is discarded and counted LOST: its tracks get neither hit nor miss. -/
def loseSet (d : Nat) (s : State) : State :=
  report (peerFault d) 0 4 .ce 0 (modPeer d (fun (x : Peer) => { x with isOpen := none, setsLost := bump x.setsLost }) s)

/-- An uncorrectable word of the set buffer: the set that it holds is discarded as lost (Table 17.11). -/
def spoilSet (d : Nat) (s : State) : State :=
  modPeer d (fun (x : Peer) =>
    if x.isOpen.isSome then { x with isOpen := none, setsLost := bump x.setsLost }
    else match x.whole with
      | _ :: rest => { x with whole := rest, setsLost := bump x.setsLost }
      | [] => x) s

/-- The manager's frame that a set merges at, once it is committed (R496): the first at or after its instant. -/
def mergeInstant (s : State) (f : Dts) : Option Dts :=
  (s.glide.commits.filter (fun c => decide (f ≤ c))).getLast?

/-- A frame later than a set's has been committed: too late. -/
def setLate (s : State) (f : Dts) : Bool :=
  match mergeInstant s f with
  | some c => s.glide.commits.any (fun x => decide (c < x))
  | none => false

/-- A whole set is acknowledged, and waits for its merge or is late. -/
def closeSet (d : Nat) (o : OpenSet) (s : State) : State :=
  let s1 := sendPeer d 4 0xFF 0xFF o.instant (packBE 8 [(48, 16, o.frameCount)]) s
  modPeer d (fun (x : Peer) =>
    let y := { x with isOpen := none, lastSet := some o.instant }
    if setLate s o.instant then { y with setsLate := bump y.setsLate }
    else { y with whole := y.whole ++ [{ instant := o.instant, entries := o.frames.flatMap (·.2), observed := o.observed,
                                         wholeAt := now s }] }) s1

def execAtideTracksReceived (frame : AtideFrame) (s : State) : Host.Outcome State Fault Refusal :=
  atideReceived 3 frame s fun d s =>
    let b := payloadOf frame
    let i := natOfBytesBE (slice b 0 2)
    let n := natOfBytesBE (slice b 2 2)
    let f := headInstant frame
    let x := peer s d
    if n ≤ i || x.lastSet.any (fun l => decide (f ≤ l)) || x.isOpen.any (fun o => decide (f < o.instant)) then s
    else
      let s1 := match x.isOpen with
        | some o => if o.instant = f then s else loseSet d s
        | none => s
      let o : OpenSet := match (peer s1 d).isOpen with
        | some o => o
        | none => { instant := f, frameCount := n, frames := [], observed := fldBE 128 b 0 48, firstAt := now s,
                    lastAt := now s, resendAt := none }
      let o1 : OpenSet := { o with
        frames := (o.frames.filter (fun y => y.1 != i) ++ [(i, frameTracks d frame)]).sortBy
          (fun a c => decide (a.1 ≤ c.1)), lastAt := now s }
      if o1.frames.length = o1.frameCount then closeSet d o1 s1
      else modPeer d (fun (y : Peer) => { y with isOpen := some o1 }) s1

/-- The frames missing from an open set. -/
def missingFrames (o : OpenSet) : List Nat :=
  (List.range o.frameCount).filter (fun i => !o.frames.any (fun x => x.1 == i))

/-- 100 µs after the last frame, or 500 µs after the first, the manager asks for the missing frames once; 500 µs after
that the set is lost (R495). -/
def execTrackSetIncompleteTimeout (device : Nat) (s : State) : Host.Outcome State Fault Refusal :=
  awakeAnswer s fun s =>
    match (peer s device).isOpen with
    | none => s
    | some o =>
      if !isManager s || !ticking s then s
      else match o.resendAt with
        | some r => if now s < r + 500 * usUnits then s else loseSet device s
        | none =>
          if now s < o.lastAt + 100 * usUnits ∧ now s < o.firstAt + 500 * usUnits then s
          else
            let l := (missingFrames o).take 255
            let payload := packBE 4 [(24, 8, l.length)] ++ l.flatMap (fun i => bytesOfNatBE 2 i)
            modPeer device (fun (x : Peer) => { x with
                isOpen := some { o with resendAt := some (now s) }, resends := satAdd 32 x.resends l.length })
              (sendPeer device 5 0xFF 0xFF o.instant payload s)

/-! ## The merge (R496, R497) -/

/-- The matching of a set's entries. -/
structure SetMatching where
  left : List (Track × Moved)
  hits : List ((Track × Moved) × Track)
  births : List Track
deriving DecidableEq, Repr, Inhabited

def matchEntry (s : State) (a : SetMatching) (e : Track) : SetMatching :=
  let p := trackParams s e.cls
  let v (i : Nat) : Dy := f32 (e.cov.getD i 0)
  match nearestTrack (f32 (fld p 224 32)) (trackState e 0) (trackState e 1) (v 0, v 1, v 2) a.left with
  | some t => { a with left := a.left.filter (fun u => u.1.trackId != t.1.trackId), hits := a.hits ++ [(t, e)] }
  | none => { a with births := a.births ++ [e] }

/-- A birth from a worker's entry. -/
def mergedBirth (s : State) (d : Nat) (e : Track) (frame : Nat) (f : Dts) (i id : Nat) : Track :=
  let p := trackParams s e.cls
  settleStill p f { e with
    index := i, trackId := id, zones := 0, stillSinceMs := 0, sourceDevice := d, flags := 2 ^ flagStillBorn,
    life := if fld p 80 8 ≤ e.existence then 2 else 1, coast := 0, age := 0, modalities := setBit e.modalities 4,
    lastUpdateFrame := frame, birthFrame := frame, birth := f, lastUpdate := f }

/-- What a set saw of one of its worker's tracks. -/
def mergeMiss (s : State) (d observed : Nat) (c : Track) (m : Moved) : Nat :=
  let x := f32 (m.state.getD 0 0)
  let y := f32 (m.state.getD 1 0)
  let g := patchAt s x y
  if beyondExtent s x y then 3
  else if orphaned s c then 2
  else if !inExtent (s.rink.centreX + regionDx s d) (s.rink.centreY + regionDy s d) false 0 g.1 g.2 then 1
  else if bitOf observed (slotIndex g.1 g.2) then 0 else 2

/-- A pending merge stands before the device's own pending frame. -/
def insertMerge (u : FrameUpdate) (l : List FrameUpdate) : List FrameUpdate :=
  l.filter (fun x => x.worker.isSome) ++ [u] ++ l.filter (fun x => x.worker.isNone)

/-- The deadline of a merge's update jobs, from the set's arrival. -/
def mergeDeadline (s : State) (w : WholeSet) : Nat :=
  updateDeadline s (countNow s) - (now s - w.wholeAt) * countsPerUs / usUnits

/-- Entries of the pending bank that are free (R375). -/
def freeBank (s : State) : Nat := 6144 - (s.glide.pending.map (fun u => u.entries.length)).sum

/-- A set's entries as they merge: moved to the instant, in descending EXISTENCE, each with its place in that order as its
index. -/
def mergeEntries (s : State) (w : WholeSet) (f : Dts) : List Track :=
  ((w.entries.map (fun e =>
    if f = w.instant then e
    else
      let m := propagate s { e with lastUpdate := w.instant } f
      { e with state := m.state, cov := m.cov })).sortBy (fun a b => decide (b.existence ≤ a.existence))).zipIdx.map
    (fun e => { e.1 with index := e.2 })

/-- A whole set is merged as of an instant. Entries beyond the free bank entries are not applied (R375). -/
def mergeSet (d : Nat) (w : WholeSet) (f : Dts) (s0 : State) : State :=
  let key := s0.solver.nextId
  let frame := s0.glide.committed
  let s := modSolver (fun (v : Solver) => { v with nextId := v.nextId + 1 })
    (modPeer d (fun (x : Peer) => { x with whole := x.whole.filter (fun y => y.instant != w.instant) }) s0)
  let entries := mergeEntries s w f
  let room := freeBank s
  let live := s.glide.store.map (fun c => (c, propagate s c f))
  let a := entries.foldl (matchEntry s) { left := live, hits := [], births := [] }
  let jobs := a.hits.filter (fun h => decide (h.2.index < room))
  let missed := a.left.filter (fun t => bitOf t.1.modalities 4 && t.1.sourceDevice == d)
  let u : FrameUpdate :=
    { key := key, frame := frame, instant := f, worker := some d, observed := w.observed,
      entries := a.hits.map (fun h => if h.2.index < room then .mergeJob h.1.1.index h.2 else .dropped h.1.1.index),
      misses := missed.map (fun t => (t.1.index, mergeMiss s d w.observed t.1 t.2)), patches := [], recentred := false,
      detectionsDropped := 0, updatesDropped := a.hits.length - jobs.length,
      birthsDropped := (a.births.filter (fun e => decide (room ≤ e.index))).length, storeFull := false, finished := none }
  let s1 := modGlide (fun (g : Glide) => { g with pending := insertMerge u g.pending }) s
  let s2 := jobs.foldl (fun (t : State) h =>
    issueJob (.glide h.1.1.index key) (updateDesc 8)
      (updateInput h.1.2 allElements h.2.state (fun i j => f32 (h.2.cov.getD (triIndex i j) 0)))
      (some (mergeDeadline t w)) t) s1
  let s3 := (a.births.filter (fun e => decide (e.index < room))).foldl (fun (t : State) e => addBirth key (mergedBirth t d e frame f) t) s2
  settleUpdate key s3

/-- Sets of a worker that a later commit has overtaken are discarded and counted. -/
def dropLateSets (d : Nat) (s : State) : State :=
  let late := (peer s d).whole.filter (fun w => setLate s w.instant)
  modPeer d (fun (x : Peer) => { x with
    whole := x.whole.filter (fun w => !late.contains w), setsLate := satAdd 32 x.setsLate late.length }) s

/-- A whole set whose frame the manager has committed is merged. -/
def execTrackSetMerge (device : Nat) (s : State) : Host.Outcome State Fault Refusal :=
  awakeAnswer s fun s =>
    if !inRun s || !(enabledWorkers s).contains device then s
    else
      let s1 := dropLateSets device s
      match (peer s1 device).whole.find? (fun w => (mergeInstant s1 w.instant).isSome) with
      | some w => mergeSet device w ((mergeInstant s1 w.instant).getD 0) s1
      | none => s1

/-- A set has waited two shortest spacings (R496). -/
def execTrackSetWaitTimeout (device : Nat) (s : State) : Host.Outcome State Fault Refusal :=
  awakeAnswer s fun s =>
    let span := 2 * shortestSpacing (effectiveRate s) * usUnits
    let old := (peer s device).whole.filter (fun w => decide (w.wholeAt + span ≤ now s))
    if !inRun s || !isManager s || old.isEmpty then s
    else modPeer device (fun (x : Peer) => { x with
      whole := x.whole.filter (fun w => !old.contains w), setsLate := satAdd 32 x.setsLate old.length }) s

/-- Merges that a cut-off has committed are counted; a VALID worker's region becomes valid with the first (R499). -/
def countMerges (before : List FrameUpdate) (s : State) : State :=
  (before.filter (fun u => !s.glide.pending.any (fun x => x.key == u.key))).foldl (fun (t : State) u =>
    match u.worker with
    | some d => modPeer d (fun (x : Peer) => { x with
        setsMerged := bump x.setsMerged, regionValid := x.regionValid || x.phase == .valid }) t
    | none => t) s

/-! ## ENTER_RUN, resets -/

/-- At ENTER_RUN the manager's workers wait (R499), and a worker's manager is given three ticks. -/
def peersEnterRun (s : State) : State :=
  (List.range 16).foldl (fun (t : State) d =>
    let mine := d == deviceNumber s
    let phase : PeerPhase := if mine then .disabled
      else if (isManager s && regionEnabled s d) || (isWorker s && d == 0) then .waiting else .disabled
    modPeer d (fun (x : Peer) => { x with
      phase := phase, goodRun := 0, isOpen := none, whole := [], lastSeen := now s, decided := none, lastSet := none,
      regionValid := false }) t) s

/-- A block reset of the subsystem drops the sets in its buffers. -/
def resetPeers (s : State) : State :=
  modPeers (fun (p : Peers) => { p with
    kept := none,
    peers := (List.range 16).foldl (fun (v : Vector Peer 16) d =>
      vmod v d (fun (x : Peer) => { x with isOpen := none, whole := [] })) p.peers }) s

/-! ## Commands -/

def execSetDeviceNumber (k : CmdKey) (s : State) : Host.Outcome State Fault Refusal :=
  runCommand k 0x0E00 (fun c s => done c (putSetting 0x0E00 0 c.params s)) s

def execSetRegionMap (k : CmdKey) (s : State) : Host.Outcome State Fault Refusal :=
  runCommand k 0x0E02 (fun c s => done c (putSetting 0x0E02 0 c.params s)) s

def PeerPhase.code : PeerPhase → Nat
  | .disabled => 0
  | .waiting => 1
  | .valid => 2
  | .invalid => 3
  | .lost => 4

/-- An entry of Table 17.10: in a worker only its manager's and its own. -/
def peerEntry (s : State) (d : Nat) : Bytes :=
  let x := peer s d
  let mine := roleOf s != 0 && d == deviceNumber s
  let shown := isManager s || (isWorker s && (d == 0 || mine))
  if !shown then pack 32 [(0, 8, d)]
  else pack 32 [(0, 8, d), (8, 8, min 255 x.goodRun), (16, 8, if mine then (if inRun s then 2 else 1) else x.phase.code),
    (32, 8, codeOf 8 (regionDy s d)), (40, 8, codeOf 8 (regionDx s d)),
    (48, 16, if mine then s.glide.store.length else x.liveTracks), (64, 32, x.gaps), (96, 32, x.lossEvents),
    (128, 32, x.resends), (160, 32, x.setsLate), (192, 32, x.setsLost), (224, 32, x.setsMerged)]

def peerStatus (s : State) : Bytes :=
  pack 16 [(0, 2, s.peers.role.getD 0), (4, 4, deviceNumber s), (16, 16, regionValidMask s), (32, 32, s.peers.discarded)] ++
    (List.range 16).flatMap (peerEntry s)

def execGetPeerStatus (k : CmdKey) (s : State) : Host.Outcome State Fault Refusal :=
  runCommand k 0x0E01 (fun c s => doneWith c (peerStatus s) s) s

/-! ## Refusals (R484, R485) -/

/-- The bad fields of a region map. -/
def regionBad (s : State) (b : Bytes) : Option Nat :=
  let on (d : Nat) : Bool := bitAt b (128 * d)
  let dx (d : Nat) : Int := sfld b (128 * d + 56) 8
  let dy (d : Nat) : Int := sfld b (128 * d + 48) 8
  let me := deviceNumber s
  let overlap (m d : Nat) : Bool := on m && on d && decide (mag (dx m - dx d) < 8) && decide (mag (dy m - dy d) < 6)
  leastOffset ([(!on 0, 0), (dy 0 != 0, 6), (dx 0 != 0, 7), (isWorker s && !on me, 16 * me)] ++
    (List.range 16).flatMap (fun d =>
      [((List.range d).any (fun m => overlap m d), 16 * d + 7),
       (on d && portInterface s (fld b (128 * d + 72) 8) == 0, 16 * d + 9),
       (on d && bitAt b (128 * d + 120), 16 * d + 10)]))

/-- Refusals of the state for the commands of the subsystem. -/
def startPeers (s : State) (op : Nat) (b : Bytes) : Option Refuse :=
  match op with
  | 0x0E00 =>
    let d := fld b 0 4
    if (isManager s && d != 0) || (isWorker s && d == 0) then some (stBadParam, 0) else none
  | 0x0E02 =>
    if roleOf s = 0 then some (stState, stateWord s % 65536) else (regionBad s b).map (fun o => (stBadParam, o))
  | _ => none

end Sys2Proof.Machine
end

