-- ==== Sys2Proof/Machine/JournalUnit.lean ====
section
/-! DEFINITION. The three journals in flash, the journal write buffer and the non-volatile write inhibit as the writer
meets it (R517, R533, R534, R548). -/

namespace Sys2Proof.Machine

/-- The non-volatile write inhibit is set (R517). -/
def nvInhibited (s : State) : Bool := s.power.io18Inhibit || s.power.flashInhibit

/-- Sectors of a journal: 0 event, 1 configuration, 2 attestation index (Table 19.4). -/
def journalSectors : Nat → Nat
  | 0 => 3840
  | 1 => 32
  | _ => 4

/-- A journal by its number. -/
def ringOf (s : State) : Nat → FlashRing
  | 0 => s.security.eventJournal
  | 1 => s.security.configJournal
  | _ => s.security.indexJournal

def setRing (j : Nat) (r : FlashRing) (s : State) : State :=
  modSecurity (fun (x : Security) => match j with
    | 0 => { x with eventJournal := r }
    | 1 => { x with configJournal := r }
    | _ => { x with indexJournal := r }) s

/-- The SEQ a journal gives next. -/
def nextSeqOf (s : State) : Nat → Nat
  | 0 => s.security.eventSeqNext
  | 1 => s.security.configSeqNext
  | _ => s.security.indexSeqNext

def advanceSeq (j : Nat) (s : State) : State :=
  modSecurity (fun (x : Security) => match j with
    | 0 => { x with eventSeqNext := (x.eventSeqNext + 1) % 2 ^ 32 }
    | 1 => { x with configSeqNext := (x.configSeqNext + 1) % 2 ^ 32 }
    | _ => { x with indexSeqNext := (x.indexSeqNext + 1) % 2 ^ 32 }) s

/-- A record's bytes (Table 19.5), without its padding. -/
def recordBody (j : Nat) (r : JournalRecord) : Bytes :=
  let head := pack 12 [(0, 16, 0x4A4E), (16, 8, j), (24, 8, r.type), (32, 16, r.payload.length), (48, 16, 0xFFFF),
    (64, 32, r.seq)]
  head ++ bytesOfNat 4 (crc32c (head ++ r.payload)) ++ r.payload

/-- Bytes a record takes in flash: a multiple of 16 (R533). -/
def recordSpan (r : JournalRecord) : Nat := (16 + r.payload.length + 15) / 16 * 16

/-- A record with its padding of 0xFF. -/
def recordFlash (j : Nat) (r : JournalRecord) : Bytes :=
  let b := recordBody j r
  b ++ List.replicate (recordSpan r - b.length) 0xFF

/-- What a record of the configuration or index journal is the latest of: settings, a bulk item, a slot's commit state
(R529, R540), or the reservations. -/
def recordKind (r : JournalRecord) : Nat × Nat × Nat :=
  match r.type with
  | 0x11 => (0x11, fld r.payload 0 8, fld r.payload 8 8)
  | 0x12 => (0x12, fld r.payload 0 8, fld r.payload 8 8)
  | 0x13 => (0x12, fld r.payload 0 8, fld r.payload 8 8)
  | t => (t, 0, 0)

/-- A record is the latest of its kind. -/
def isLatest (rs : List (Nat × JournalRecord)) (r : JournalRecord) : Bool :=
  !rs.any (fun x => recordKind x.2 == recordKind r && decide (r.seq < x.2.seq))

/-- A record is placed at the write pointer; one that would cross a sector starts at the next (R533). -/
def placeRecord (x : JournalRecord) (r : FlashRing) : FlashRing :=
  if 65536 < r.used + recordSpan x then
    { records := r.records ++ [(r.sector + 1, x)], sector := r.sector + 1, used := recordSpan x }
  else { r with records := r.records ++ [(r.sector, x)], used := r.used + recordSpan x }

/-- The sector ahead of the write pointer is erased (R533): the event journal loses its oldest records, the others first
write again what is still the latest of its kind. What is written again keeps its SEQ, and where it fills the sector, the next
one ahead is erased in turn: `n` bounds these turns. -/
def eraseAhead (j : Nat) : Nat → FlashRing → FlashRing
  | 0, r => r
  | n + 1, r =>
    let gone := r.records.filter (fun x => decide (x.1 + journalSectors j ≤ r.sector + 1))
    let kept := r.records.filter (fun x => !decide (x.1 + journalSectors j ≤ r.sector + 1))
    if j = 0 then { r with records := kept }
    else
      let q := (gone.filter (fun x => isLatest r.records x.2)).foldl (fun (q : FlashRing) x => placeRecord x.2 q)
        { r with records := kept }
      if q.sector = r.sector then q else eraseAhead j n q

/-- A record is written to flash. -/
def writeFlashRecord (j : Nat) (x : JournalRecord) (s : State) : State :=
  let r := placeRecord x (ringOf s j)
  let r1 := if r.sector = (ringOf s j).sector then r else eraseAhead j (journalSectors j) r
  let lost := if j = 0 then r.records.length - r1.records.length else 0
  setRing j r1 (modSecurity (fun (y : Security) => { y with overwritten := satAdd 32 y.overwritten lost }) s)

/-- A new record of the configuration or index journal is written. -/
def appendRecord (j type : Nat) (payload : Bytes) (s : State) : State :=
  writeFlashRecord j { seq := nextSeqOf s j, type := type, payload := payload } (advanceSeq j s)

/-- A record of the event journal enters the journal write buffer (Table 18.4, R548); one that finds it full is counted. -/
def bufferRecord (type : Nat) (payload : Bytes) (s : State) : State :=
  if 130 ≤ s.security.retention.buffer.length then
    if nvInhibited s then modPower (fun (p : Power) => { p with nvEventsLost := bump p.nvEventsLost }) s
    else modSecurity (fun (x : Security) => { x with dropped := bump x.dropped }) s
  else
    let r : JournalRecord := { seq := s.security.eventSeqNext, type := type, payload := payload }
    let keep (x : Retention) : Retention := { x with buffer := x.buffer ++ [r] }
    modSecurity (fun (x : Security) => { x with retention := keep x.retention }) (advanceSeq 0 s)

/-- The records of a journal in ascending SEQ, those of the event journal with the buffered ones (R550). -/
def journalRecords (s : State) (j : Nat) : List JournalRecord :=
  (ringOf s j).records.map (fun x => x.2) ++ (if j = 0 then s.security.retention.buffer else [])

/-- The latest record of a test in a journal, by SEQ. -/
def latestRecord (rs : List (Nat × JournalRecord)) (p : JournalRecord → Bool) : Option JournalRecord :=
  rs.foldl (fun (b : Option JournalRecord) x =>
    if p x.2 then match b with
      | some y => if y.seq ≤ x.2.seq then some x.2 else b
      | none => some x.2
    else b) none

/-- Records whose CRC fails twice are ignored, each with a UC record (R534, Table 19.11). Where one stands after the last valid
record of the sector in writing, writing resumes at the next erased sector. -/
def dropBadRecords (j : Nat) (bad : List (Nat × Nat)) (s : State) : State :=
  let ring := ringOf s j
  let isBad (x : Nat × JournalRecord) : Bool := bad.contains (j, x.2.seq)
  let torn := ring.records.getLast?.any isBad
  let kept := { ring with records := ring.records.filter (fun x => !isBad x) }
  let next := if torn then eraseAhead j (journalSectors j) { kept with sector := kept.sector + 1, used := 0 } else kept
  (ring.records.filter isBad).foldl (fun (t : State) _ => report (sourceOf 0x10 3 0) 0 4 .uc 0 t) (setRing j next s)

/-- After a reset writing resumes where the last valid record ends (R534). The highest SEQ found gives the next one. -/
def scanJournal (j : Nat) (s : State) : State :=
  let top := (journalRecords s j).foldl (fun (m : Nat) r => max m (r.seq + 1)) (if j = 0 then nextSeqOf s 0 else 1)
  modSecurity (fun (x : Security) => match j with
    | 0 => { x with eventSeqNext := top % 2 ^ 32 }
    | 1 => { x with configSeqNext := top % 2 ^ 32 }
    | _ => { x with indexSeqNext := top % 2 ^ 32 }) s

/-- The flash master port's domain is used now (R513): 0 flash master port, 1 security. -/
def useDomain (d : Nat) (s : State) : State :=
  modPower (fun (p : Power) => { p with onDemand := assocSet p.onDemand d (now s) }) s

/-- A source number of the Security and journal subsystem: 0 flash master port, 1 LMS verifier, 2 fuses, 3 journals
(Table 15.3). -/
def securityFault (l4 : Nat) : Nat := sourceOf 0x10 l4 0

/-- JOURNAL_RECORD_WRITE: the oldest buffered record goes to flash, where no inhibit holds it (R517, R548). -/
def execJournalRecordWrite (s : State) : Host.Outcome State Fault Refusal :=
  awakeAnswer s fun s =>
    match s.security.retention.buffer with
    | r :: rest =>
      if nvInhibited s then s
      else
        let keep (x : Retention) : Retention := { x with buffer := rest }
        useDomain 0 (writeFlashRecord 0 r (modSecurity (fun (x : Security) => { x with retention := keep x.retention }) s))
    | [] => s

end Sys2Proof.Machine
end

