-- ==== Sys2Proof/Machine/ConfigUnit.lean ====
section
/-! DEFINITION. The check of a parameter block (R50), the configuration as SAVE_CONFIG commits it and a restore brings it
back (R527 to R530). -/

namespace Sys2Proof.Machine

/-! ## Parameters (R50) -/

/-- The offset of the first of several fields that is bad. -/
def refuseAt (cs : List (Bool × Nat)) : Option Refuse := (cs.find? (fun c => c.1)).map (fun c => (stBadParam, c.2))

/-- The first bad field of SET_LIFECYCLE (R539). -/
def lifecycleBad (b : Bytes) : Option Refuse :=
  let target := fld b 0 8
  refuseAt [(target != 2 && target != 3, 0), (fld b 8 56 != 0, 1 + ((slice b 1 7).findIdx? (fun x => x != 0)).getD 0),
    (target == 2 && decide (4 ≤ fld b 64 8), 8),
    (target == 2 && fld b 72 56 != 0, 9 + ((slice b 9 7).findIdx? (fun x => x != 0)).getD 0),
    (target == 3 && decide (2 ≤ fld b 64 32), 8)]

/-- The subsystems that RESET_SUBSYSTEM admits (R445). -/
def resetAdmitted (sub : Nat) : Bool := [0x03, 0x04, 0x05, 0x06, 0x08, 0x09, 0x0A, 0x0B, 0x0E].contains sub

/-- Parameters of the System, Patrol, Power and Security subsystems that fail together (R437, R445, R504, R519, R537,
R539, R541, R547, R550). -/
def jointControl (op : Nat) (b : Bytes) : Option Refuse :=
  match op with
  | 0x0105 => refuseAt [(!resetAdmitted (fld b 0 8), 0)]
  | 0x0C02 => refuseAt [(fld b 8 8 == 2 && !resetAdmitted (fld b 0 5), 1)]
  | 0x0104 => refuseAt [(fld b 0 2 == 3 && (fld b 4 2 == 0 || fld b 4 2 == 3), 0)]
  | 0x0F02 => refuseAt [(decide (fld b 16 8 < fld b 8 8 + 5), 1)]
  | 0x1001 =>
    let off := fld b 32 32
    let len := fld b 64 32
    let low := if fld b 0 8 = 0 then 65536 else 8192
    let high := if fld b 0 8 = 0 then 4194304 else 134217728
    refuseAt [(off % 64 != 0, 4),
      (len % 64 != 0 || decide (len < low) || decide (high < len) || decide (268435456 < off + len), 8)]
  | 0x1003 => refuseAt [(fld b 256 32 % 64 != 0 || decide (268435456 < fld b 256 32 + 7896), 32)]
  | 0x1004 => refuseAt [(fld b 32 32 != 0xA5A50000 + fld b 0 2, 4)]
  | 0x1005 =>
    let off := fld b 64 32
    let n := fld b 96 32
    refuseAt [(off % 64 != 0, 8), (n % 64 != 0 || n == 0 || decide (16777216 < n) || decide (268435456 < off + n), 12)]
  | 0x1006 => lifecycleBad b
  | _ => none

/-- Parameters that fail together, by the subsystem's chapter. -/
def jointRefusal (s : State) (op : Nat) (b : Bytes) : Option Refuse :=
  match op / 256 with
  | 0x02 => jointTime op b
  | 0x03 => if op = 0x0305 then jointSafety op b else jointPorts op b
  | 0x04 => match jointCamera op b with
    | some r => some r
    | none => match jointLidar op b with
      | some r => some r
      | none => jointSensors op b
  | 0x05 => jointSensors op b
  | 0x06 => if op = 0x0602 then (queryBad s b).map (fun o => (stBadParam, o)) else jointPoint op b
  | 0x08 => jointPlans op b
  | 0x09 => if op = 0x0900 then batchBad b else none
  | 0x0A => jointGlide op b
  | 0x0B => jointQueues op b
  | 0x0D => jointSafety op b
  | 0x11 => if op = 0x1101 then jointScrub b else none
  | _ => jointControl op b

/-- A block as its fields are judged: START, PERIOD and COUNT of a CONFIG_TS_OUT with ROLE 1 or 2 are ignored (R92, R93). -/
def judgedBlock (op : Nat) (b : Bytes) : Bytes :=
  if op = 0x0205 ∧ (outRole b = 1 ∨ outRole b = 2) then zeros 20 ++ b.drop 20 else b

/-- The refusal of a parameter block by its own values: the first bad parameter's byte offset (R50, R11). -/
def paramRefusal (s : State) (op : Nat) (b : Bytes) : Option Refuse :=
  match firstBad op (judgedBlock op b), jointRefusal s op b with
  | some o, some (st, d) => if st = stBadParam ∧ d < o then some (st, d) else some (stBadParam, o)
  | some o, none => some (stBadParam, o)
  | none, r => r

/-! ## The configuration (R527, Table 19.2) -/

/-- Opcodes whose settings a restore brings back, in the order of Table 19.2, with the number of their indices. -/
def restoredOps : List (Nat × Nat) :=
  [(0x0201, 1), (0x0202, 1), (0x0204, 8), (0x0205, 8), (0x0208, 1), (0x0300, 6), (0x0301, 96), (0x0302, 1), (0x0305, 1),
   (0x0400, 8), (0x0401, 8), (0x0404, 8), (0x0405, 4), (0x0406, 4), (0x0407, 2), (0x0500, 26), (0x0501, 1), (0x0502, 1),
   (0x0503, 1), (0x0504, 1), (0x0600, 1), (0x0700, 1), (0x0703, 1), (0x0A00, 16), (0x0A01, 1), (0x0A02, 64),
   (0x0A03, 256), (0x0B00, 1), (0x0B01, 4), (0x0B02, 1), (0x0C03, 1), (0x0C04, 1), (0x0D00, 7), (0x0D01, 8),
   (0x0E00, 1), (0x0E02, 1), (0x0F01, 1), (0x0F02, 1)]

/-- SET_ANCHOR goes into the configuration with MODE 0 (R182). -/
def savedBlock (op : Nat) (b : Bytes) : Bytes := if op = 0x0504 then 0 :: b.drop 1 else b

/-- The settings of the configuration: accepted blocks of the restored commands, but ROLE 1 outputs. -/
def configSettings (s : State) : List (Nat × Bytes) :=
  restoredOps.flatMap (fun o => (List.range o.2).filterMap (fun i =>
    if isSet s o.1 i && !(o.1 == 0x0205 && outRole (setting s o.1 i) == 1) then
      some (settingKey o.1 i, savedBlock o.1 (setting s o.1 i))
    else none))

/-- A bulk item's content: kind 0 shading table of a receiver, 1 lidar template; empty when none is loaded. -/
def bulkContent (s : State) (kind n : Nat) : Bytes :=
  if kind = 0 then
    let r := receiver s n
    vget r.shading (if r.shadingPending then 1 - r.activeShading else r.activeShading)
  else vget s.ingest.templates n

/-- The payload of a bulk item's BULK record (Table 19.6). -/
def bulkPayload (s : State) (kind n : Nat) : Bytes := [BitVec.ofNat 8 kind, BitVec.ofNat 8 n, 0, 0] ++ bulkContent s kind n

/-- The bulk items loaded: kind and number. -/
def bulkItems (s : State) : List (Nat × Nat) :=
  (List.range 16).filterMap (fun i => if (bulkContent s (i / 8) (i % 8)).isEmpty then none else some (i / 8, i % 8))

/-- The bulk items as the configuration names them: kind, number and the CRC-32C of the BULK record. -/
def bulkNames (s : State) : List (Nat × Nat × Nat) :=
  (bulkItems s).map (fun i => (i.1, i.2, crc32c (bulkPayload s i.1 i.2)))

/-- The configuration in force. -/
def configInForce (s : State) : SavedConfig :=
  { seq := s.security.configSeq, autoRun := s.security.autoRun, settings := configSettings s, bulk := bulkNames s }

/-- The payload of a CONFIG record (Table 19.6). A bulk item stands as an item of opcode 0x0402 or 0x0403 with its number
and the CRC of its BULK record (assumption 19). -/
def configPayload (c : SavedConfig) : Bytes :=
  let item (op : Nat) (b : Bytes) : Bytes := bytesOfNat 2 op ++ bytesOfNat 2 b.length ++ b
  bytesOfNat 4 c.seq ++ bytesOfNat 1 c.autoRun ++
    c.settings.flatMap (fun p => item (p.1 / 65536) p.2) ++
    c.bulk.flatMap (fun p => item (0x0402 + p.1) (bytesOfNat 4 p.2.1 ++ bytesOfNat 4 p.2.2))

/-- The index that a restored block carries for its opcode. -/
def blockIndex (op : Nat) (b : Bytes) : Nat :=
  match op with
  | 0x0205 => fld b 224 8
  | 0x0301 => fld b 0 8 * 16 + fld b 8 8
  | 0x0404 => fld b 64 8
  | 0x0500 => (srcIdx (fld b 0 8)).getD 0
  | 0x0201 | 0x0202 | 0x0208 | 0x0302 | 0x0305 | 0x0501 | 0x0502 | 0x0503 | 0x0504 | 0x0600 | 0x0700 | 0x0703 | 0x0A01
  | 0x0B00 | 0x0B02 | 0x0C03 | 0x0C04 | 0x0E00 | 0x0E02 | 0x0F01 | 0x0F02 => 0
  | _ => fld b 0 8

/-- The items of a CONFIG payload, `n` at most: opcode and block. -/
def configItems : Nat → Bytes → List (Nat × Bytes)
  | 0, _ => []
  | n + 1, b =>
    if b.length < 4 then []
    else
      let len := fld b 16 16
      (fld b 0 16, slice b 4 len) :: configItems n (b.drop (4 + len))

/-- A CONFIG record read back. -/
def configOf (b : Bytes) : SavedConfig :=
  let items := configItems b.length (b.drop 5)
  let bulk := items.filter (fun x => x.1 == 0x0402 || x.1 == 0x0403)
  let rest := items.filter (fun x => !(x.1 == 0x0402 || x.1 == 0x0403))
  { seq := fld b 0 32, autoRun := fld b 32 8, settings := rest.map (fun x => (settingKey x.1 (blockIndex x.1 x.2), x.2)),
    bulk := bulk.map (fun x => (x.1 - 0x0402, fld x.2 0 32, fld x.2 32 32)) }

/-! ## Restore (R528, R529) -/

/-- The copy that a restore takes and its CONFIG_SOURCE. -/
def chooseConfig (s : State) : Option SavedConfig × Nat :=
  let j := ((s.security.configJournal.records.filter (fun x => x.2.type == 0x10)).map (fun x => configOf x.2.payload)).foldl
    (fun (b : Option SavedConfig) c => match b with
      | some y => if y.seq ≤ c.seq then some c else b
      | none => some c) none
  match s.security.retention.config, j with
  | some r, none => (some r, 1)
  | some r, some c => if c.seq ≤ r.seq then (some r, 1) else (some c, 2)
  | none, some c => (some c, 2)
  | none, none => (none, 0)

/-- A block takes effect on what the machine holds beside the setting itself. -/
def takeSetting (op idx : Nat) (b : Bytes) (s : State) : State :=
  match op with
  | 0x0205 => setTime (fun (tb : TimeBase) => { tb with
      tsOut := vmod tb.tsOut idx (fun (o : TsOut) =>
        if o.stopped && o.block == b then resumeOut (now s) o else applyOut b (earliestOf b (now s)) (now s) o) }) s
  | 0x0208 => setTime (fun (tb : TimeBase) => { tb with sentryPeriod := fld b 0 8 }) s
  | 0x0400 => startSource idx (sourceConfigured s idx) s
  | 0x0404 => startSource (8 + idx) true (modLidar idx (fun _ =>
      { (default : Lidar) with template := vget s.ingest.templates (fld b 128 8) }) s)
  | 0x0405 => startSource (16 + idx) true s
  | 0x0406 => startSource (20 + idx) true s
  | 0x0407 => startSource (24 + idx) true s
  | 0x0501 => modAlign (fun (a : Align) => { a with pairing := b }) s
  | 0x0A01 => modGlide (fun (g : Glide) => { g with relevance := b }) s
  | 0x0A02 => modGlide (fun (g : Glide) => { g with zones := if fld b 8 8 = 0 then g.zones else assocSet g.zones idx b }) s
  | 0x0A03 => modGlide (fun (g : Glide) => { g with rules := if ruleKind b = 0 then g.rules else assocSet g.rules idx b }) s
  | _ => s

/-- The first of several refusals. -/
def firstRefusal : List (Option Refuse) → Option Refuse
  | [] => none
  | some r :: _ => some r
  | none :: rs => firstRefusal rs

/-- What a command that carried the block would be refused for beyond its own values, from what the restore has brought in before
it. What hangs on PTP, a plan or a binding's template is judged where they are used, at ENTER_RUN (R135, R529, assumption
157). An output that goes on after Standby keeps its sequence (R94). -/
def restoreRefusal (s : State) (op : Nat) (b : Bytes) : Option Refuse :=
  let o := vget s.time.tsOut (fld b 224 8)
  if op = 0x0205 ∧ o.stopped = true ∧ o.block = b then none
  else firstRefusal [startTime s op b, startSensors s op b, startAlignment s op b, startSafety s op b, startPeers s op b]

/-- One block of the copy: checked as if a command had carried it; a block that fails leaves the factory default, sets
RESTORE_REJECTED and makes a CE record of the System subsystem (R528). -/
def restoreBlock (p : Nat × Bytes) (s : State) : State :=
  let op := p.1 / 65536
  match firstRefusal [paramRefusal s op p.2, restoreRefusal s op p.2] with
  | some _ => report (sourceOf 0x01 0 0) 0 5 .ce op (modSecurity (fun (x : Security) =>
      { x with bootFlags := setBit x.bootFlags 5 }) s)
  | none => takeSetting op (p.1 % 65536) p.2 (putSetting op (p.1 % 65536) p.2 s)

/-- A bulk item the copy names, from its BULK record (R529). -/
def restoreBulk (b : Nat × Nat × Nat) (s : State) : State :=
  let found := s.security.configJournal.records.find? (fun x =>
    x.2.type == 0x11 && fld x.2.payload 0 8 == b.1 && fld x.2.payload 8 8 == b.2.1 && crc32c x.2.payload == b.2.2)
  match found with
  | some x =>
    let c := x.2.payload.drop 4
    if b.1 = 0 then modReceiver b.2.1 (fun (r : Receiver) => { r with
      shading := vset r.shading (1 - r.activeShading) c, shadingPending := true }) s
    else { s with ingest := { s.ingest with templates := vset s.ingest.templates b.2.1 c } }
  | none => report (securityFault 3) 0 4 .ce 0 (modSecurity (fun (x : Security) =>
      { x with bootFlags := setBit x.bootFlags 4 }) s)

/-- What every configuration starts from: the factory defaults in force. -/
def takeDefaults (s : State) : State :=
  modGlide (fun (g : Glide) => { g with relevance := factory 0x0A01 0, zones := [], rules := [] })
    (modAlign (fun (a : Align) => { a with pairing := factory 0x0501 0 }) { s with settings := [] })

/-- The settings are restored from a copy (R528): bulk items first, so that a binding finds its template. -/
def restoreFrom (c : SavedConfig) (s : State) : State :=
  let s1 := c.bulk.foldl (fun (t : State) b => restoreBulk b t) (takeDefaults s)
  let s2 := c.settings.foldl (fun (t : State) p => restoreBlock p t) s1
  let s3 := modAlign (fun (a : Align) => { a with primary := designatedImu s2 }) (ptpStart s2)
  modSecurity (fun (x : Security) => { x with configSeq := c.seq, autoRun := c.autoRun }) s3

/-- CONFIG_RESTORE (R528). -/
def configRestore (s : State) : State :=
  match chooseConfig s with
  | (some c, n) => modDev (fun (d : Dev) => { d with configSource := n }) (restoreFrom c s)
  | (none, n) => modDev (fun (d : Dev) => { d with configSource := n })
      (modSecurity (fun (x : Security) => { x with configSeq := 0, autoRun := 0 }) (ptpStart (takeDefaults s)))

/-! ## SAVE_CONFIG (R527, R529, R530) -/

/-- The configuration is written to retention SRAM. -/
def keepConfig (c : SavedConfig) (s : State) : State :=
  let keep (x : Retention) : Retention := { x with config := some c }
  modSecurity (fun (x : Security) => { x with retention := keep x.retention }) s

/-- CONFIG_SEQ rises by one. -/
def nextConfig (s : State) : State :=
  modSecurity (fun (x : Security) => { x with configSeq := (x.configSeq + 1) % 2 ^ 32 }) s

/-- A bulk item's record, if it has changed since its last (R529). -/
def saveBulk (i : Nat × Nat) (s : State) : State :=
  let p := bulkPayload s i.1 i.2
  let old := latestRecord s.security.configJournal.records (fun r =>
    r.type == 0x11 && fld r.payload 0 8 == i.1 && fld r.payload 8 8 == i.2)
  if (old.map (fun r => r.payload)) == some p then s else appendRecord 1 0x11 p s

/-- A command that meets the inhibit at its flash operation pauses there (R517). -/
def pauseWork (k : CmdKey) (s : State) : State :=
  if s.security.work.any (fun w => w.key == k) then s
  else modSecurity (fun (x : Security) => { x with
    work := x.work ++ [{ key := k, stage := 0, pausedAt := some (now s), retried := false, image := [] }] }) s

/-- A command's flash work is over. -/
def dropWorkOf (k : CmdKey) (s : State) : State :=
  modSecurity (fun (x : Security) => { x with work := x.work.filter (fun w => !(w.key == k)) }) s

def execSaveConfig (k : CmdKey) (s : State) : Host.Outcome State Fault Refusal :=
  runCommand k 0x0108 (fun c s =>
    if nvInhibited s then pauseWork k s
    else
      let auto := fld c.params 0 2
      let s1 := modSecurity (fun (x : Security) => { x with autoRun := auto }) (nextConfig (dropWorkOf k (useDomain 0 s)))
      let s2 := (bulkItems s1).foldl (fun (t : State) i => saveBulk i t) s1
      let cfg := configInForce s2
      conclude c stDone 0 [] (keepConfig cfg (appendRecord 1 0x10 (configPayload cfg) s2))) s

end Sys2Proof.Machine
end

