-- ==== Sys2Proof/Machine/SecurityUnit.lean ====
section
/-! DEFINITION. Images in flash, updates, keys, the life cycle, attestation and the journals' commands (chapter 19). -/

namespace Sys2Proof.Machine

/-! ## Firmware images and slots (R535, R540) -/

/-- A flash slot of a kind: 0 firmware, 1 plan; A 0, B 1. -/
def flashSlot (s : State) (kind slot : Nat) : FlashSlot := vget s.security.slots (2 * kind + slot)

def modFlash (kind slot : Nat) (f : FlashSlot → FlashSlot) (s : State) : State :=
  modSecurity (fun (x : Security) => { x with slots := vmod x.slots (2 * kind + slot) f }) s

def setFlash (kind slot : Nat) (st : SlotState) (s : State) : State :=
  modFlash kind slot (fun (f : FlashSlot) => { f with state := st }) s

/-- The stage at which a firmware image fails, as in Table 11.10: header 1, signature 2, die revision 4. -/
def firmwareFault (s : State) (img : Bytes) (length : Nat) : Option Nat :=
  let n := fld img 64 32
  if fld img 0 32 ≠ 0x57464E54 ∨ fld img 32 16 ≠ 1 ∨ n ≠ length ∨ n % 64 ≠ 0 ∨ n < 65536 ∨ 4194304 < n ∨
      (slice img 16 48).any (fun x => x != 0) then some 1
  else
    let sig := img.drop (n - 4096)
    if 2 ≤ fld sig 0 32 ∨ !signatureGood s (img.take (n - 4096)) sig then some 2
    else if revisionWord / 65536 < fld img 48 16 then some 4
    else none

/-- The stage, and beside it the directory index of Table 11.10, at which an image of a kind fails. -/
def imageFault (s : State) (kind : Nat) (img : Bytes) (length : Nat) : Option (Nat × Nat) :=
  if kind = 0 then (firmwareFault s img length).map (fun st => (st, 0xFF)) else verifyImage s img length

/-- The COMMIT records of a kind. -/
def isCommit (kind : Nat) (r : JournalRecord) : Bool := r.type == 0x12 && fld r.payload 0 8 == kind

/-- The committed slot of a kind, and its COMMIT record (R540). -/
def committedRecord (s : State) (kind : Nat) : Option JournalRecord :=
  latestRecord s.security.configJournal.records (isCommit kind)

def committedSlot (s : State) (kind : Nat) : Option Nat := (committedRecord s kind).map (fun r => fld r.payload 8 8)

/-- The other slot is a fallback: its latest COMMIT or INVALIDATE record is a COMMIT (R540). -/
def fallbackRecord (s : State) (kind : Nat) : Option JournalRecord :=
  match committedSlot s kind with
  | some a =>
    (latestRecord s.security.configJournal.records (fun r => (r.type == 0x12 || r.type == 0x13) &&
      fld r.payload 0 8 == kind && fld r.payload 8 8 == 1 - a)).filter (fun r => r.type == 0x12)
  | none => none

/-- An update's target: the slot that is not committed (R541). -/
def targetSlot (s : State) (kind : Nat) : Nat :=
  match committedSlot s kind with
  | some a => 1 - a
  | none => 0

/-- A slot verifies against its COMMIT record and its signature (R540). -/
def slotVerifies (s : State) (kind : Nat) (r : JournalRecord) : Bool :=
  let img := (flashSlot s kind (fld r.payload 8 8)).image
  let n := fld r.payload 96 32
  (imageFault s kind img n).isNone && decide (img.length = n) && (Config.sha256 img).toNat == fld r.payload 128 256

/-! ## Updates (R541 to R543) -/

/-- A COMMIT of the kind has been written since the last reset. -/
def committedSinceReset (s : State) (kind : Nat) : Bool :=
  if kind = 0 then s.security.committedNow.1 else s.security.committedNow.2

/-- The work of a command goes on at another step. -/
def modWork (k : CmdKey) (f : FlashWork → FlashWork) (s : State) : State :=
  modSecurity (fun (x : Security) => { x with work := x.work.map (fun w => if w.key == k then f w else w) }) s

/-- An update ends with VERIFY_FAILED at a stage. -/
def updateFailed (c : Cmd) (stage index : Nat) (s : State) : State :=
  conclude c stVerifyFailed (stage * 256 + index % 256) [] (dropWorkOf c.key s)

/-- BEGIN_UPDATE: the image in staging is verified, the INVALIDATE record written, and the erase begins (R541). -/
def execBeginUpdate (k : CmdKey) (s : State) : Host.Outcome State Fault Refusal :=
  runCommand k 0x1001 (fun c s =>
    let kind := fld c.params 0 8
    let n := fld c.params 64 32
    let img := cellsGet s.memory.staging (fld c.params 32 32) n
    let busy := s.security.work.any (fun w => w.key == k && w.stage != 0)
    if busy then s
    else match imageFault s kind img n with
      | some f => updateFailed c f.1 f.2 s
      | none =>
        if nvInhibited s then pauseWork k s
        else
          let t := targetSlot s kind
          let s1 := appendRecord 1 0x13 ([BitVec.ofNat 8 kind, BitVec.ofNat 8 t] ++ zeros 6) (dropWorkOf k (useDomain 0 s))
          let s2 := modFlash kind t (fun _ => { state := .writing, image := [] }) s1
          modSecurity (fun (x : Security) => { x with
            work := x.work ++ [{ key := k, stage := 3, pausedAt := none, retried := false, image := img }] }) s2) s

/-- A step of an update has ended well. -/
def advanceUpdate (c : Cmd) (w : FlashWork) (s : State) : State :=
  let kind := fld c.params 0 8
  let t := targetSlot s kind
  if w.stage = 3 then modWork c.key (fun x => { x with stage := 4, retried := false }) s
  else if w.stage = 4 then modWork c.key (fun x => { x with stage := 5, retried := false })
    (modFlash kind t (fun (f : FlashSlot) => { f with image := w.image }) s)
  else match imageFault s kind w.image w.image.length with
    | some _ => updateFailed c 6 0 (setFlash kind t .invalid s)
    | none => conclude c stDone 0 [] (dropWorkOf c.key (setFlash kind t .verified s))

/-- FLASH_OPERATION_COMPLETE: the last page program or sector erase of the step in progress ends, or the read-back; a
status failure is retried once (R541, Table 19.11). The writer of the journals keeps its next sector erased as it goes. -/
def execFlashOperationComplete (failed : Bool) (s : State) : Host.Outcome State Fault Refusal :=
  awakeAnswer s fun s =>
    match s.security.work.find? (fun w => w.stage != 0 && w.pausedAt.isNone) with
    | some w =>
      match flightOf w.key s with
      | some c =>
        let s0 := useDomain 0 s
        if failed then
          if w.retried then updateFailed c 6 0 (setFlash (fld c.params 0 8) (targetSlot s (fld c.params 0 8)) .invalid
            (evaluateAgain (securityFault 0) 0 4 true s0))
          else modWork c.key (fun x => { x with retried := true }) (report (securityFault 0) 0 4 .uc 0 s0)
        else advanceUpdate c w (if w.retried then evaluateAgain (securityFault 0) 0 4 false s0 else s0)
      | none => dropWorkOf w.key s
    | none => s

/-- COMMIT_UPDATE: one COMMIT record (R542). -/
def execCommitUpdate (k : CmdKey) (s : State) : Host.Outcome State Fault Refusal :=
  runCommand k 0x1002 (fun c s =>
    if nvInhibited s then pauseWork k s
    else
      let kind := fld c.params 0 8
      let t := targetSlot s kind
      let img := (flashSlot s kind t).image
      let payload := pack 48 [(0, 8, kind), (8, 8, t), (64, 32, fld img 96 32), (96, 32, img.length),
        (128, 256, (Config.sha256 img).toNat)]
      let mark (x : Security) : Security := { x with
        committedNow := if kind = 0 then (true, x.committedNow.2) else (x.committedNow.1, true) }
      conclude c stDone 0 [] (setFlash kind t .pending (modSecurity mark
        (appendRecord 1 0x12 payload (dropWorkOf k (useDomain 0 s)))))) s

/-- The first of the refusals of an update command (R541, R542). -/
def updateRefused (s : State) (op : Nat) (b : Bytes) : Option Refuse :=
  let kind := fld b 0 8
  if op = 0x1001 then if committedSinceReset s kind then some (stState, stateWord s % 65536) else none
  else
    let f := flashSlot s kind (targetSlot s kind)
    if f.state != .verified then some (stState, stateWord s % 65536)
    else if fld b 32 32 ≠ (Config.sha256 f.image).toNat % 2 ^ 32 then some (stBadParam, 4) else none

/-! ## Keys and life cycle (R536 to R539) -/

/-- A fuse key slot is changed. -/
def modKey (i : Nat) (f : KeySlot → KeySlot) (s : State) : State :=
  modSecurity (fun (x : Security) => { x with keys := vmod x.keys i f }) s

/-- The key slot that signed a firmware image. -/
def signerOf (img : Bytes) : Nat := fld (img.drop (img.length - 4096)) 0 32

/-- REVOKE_KEY would leave no Staotte key, or the firmware in use without another signer's (R537). -/
def revokeRefused (s : State) (slot : Nat) : Bool :=
  let live (i : Nat) : Bool := (vget s.security.keys i).programmed && !(vget s.security.keys i).revoked
  let left := (List.range 2).any (fun i => live i && i != slot)
  let signs := signerOf (firmwareImage s) == slot
  let other := (committedSlot s 0).any (fun i =>
    let signer := signerOf (flashSlot s 0 i).image
    signer != slot && live signer)
  !left || (signs && !other)

def execRevokeKey (k : CmdKey) (s : State) : Host.Outcome State Fault Refusal :=
  runCommand k 0x1004 (fun c s =>
    conclude c stDone 0 [] (modKey (fld c.params 0 2) (fun (x : KeySlot) => { x with revoked := true }) (useDomain 1 s))) s

/-- SET_LIFECYCLE (R539): the fuses of the target, or VERIFY_FAILED for an authorisation that does not verify. -/
def execSetLifecycle (k : CmdKey) (s : State) : Host.Outcome State Fault Refusal :=
  runCommand k 0x1006 (fun c s =>
    let b := c.params
    if fld b 0 8 = 2 then
      let program (i : Nat) (t : State) : State :=
        if bitAt b (64 + i) then modKey (2 + i) (fun (x : KeySlot) => { x with
          hash := fld b (128 + 256 * i) 256, programmed := true }) t else t
      conclude c stDone 0 [] (modSecurity (fun (x : Security) => { x with lifeCycle := 2 })
        (program 1 (program 0 (useDomain 1 s))))
    else
      let order := bytesOfNat 8 Config.deviceUid.toNat ++ bytesOfNat 8 s.security.returnNonce
      if signatureGood s order (b.drop 8) then
        let spoil (x : KeySlot) : KeySlot := { x with revoked := true }
        conclude c stDone 0 [] (modKey 3 spoil (modKey 2 spoil
          (modSecurity (fun (x : Security) => { x with lifeCycle := 3 }) (useDomain 1 s))))
      else conclude c stVerifyFailed 512 [] s) s

/-- A JTAG access with full control is granted by the life cycle and the device state, else counted (R538, Table 19.8). -/
def jtagGranted (s : State) : Bool :=
  match s.security.lifeCycle with
  | 0 => !ticking s
  | 1 => s.dev.state == .boot || s.dev.state == .setup
  | 2 => false
  | _ => true

/-- In every state but RETURNED no access is given in RUN and SAFE; IDCODE and BYPASS are what PRODUCTION leaves. -/
def execJtagAccess (full : Bool) (s : State) : Host.Outcome State Fault Refusal :=
  awakeAnswer s fun s =>
    let granted := if full then jtagGranted s else s.security.lifeCycle == 3 || !ticking s
    if granted then s else modSecurity (fun (x : Security) => { x with debugDenied := bump x.debugDenied }) s

/-! ## Attestation (R545 to R547) -/

/-- The highest block reserved, in the journal or in retention, plus one. -/
def nextBlock (s : State) : Nat :=
  s.security.indexJournal.records.foldl (fun (m : Nat) x => max m (fld x.2.payload 0 32 + 1)) s.security.retention.indexBlock

/-- The next attestation index (Table 19.10). -/
def nextIndexOf (s : State) : Nat :=
  match s.security.openBlock with
  | some b => if s.security.nextIndex < 64 * (b + 1) then s.security.nextIndex else 64 * nextBlock s
  | none => 64 * nextBlock s

def indicesLeft (s : State) : Nat := 1048576 - nextIndexOf s

/-- The index used next lies in an open block; else its block is reserved first (R546). -/
def openIndex (s : State) : State :=
  let q := nextIndexOf s
  if s.security.openBlock == some (q / 64) then modSecurity (fun (x : Security) => { x with nextIndex := q }) s
  else
    let keep (x : Retention) : Retention := { x with indexBlock := q / 64 + 1 }
    modSecurity (fun (x : Security) => { x with
        openBlock := some (q / 64), nextIndex := q, retention := keep x.retention })
      (appendRecord 2 0x20 (bytesOfNat 4 (q / 64) ++ zeros 12) s)

/-- An index is used. -/
def spendIndex (s : State) : State :=
  modSecurity (fun (x : Security) => { x with nextIndex := x.nextIndex + 1 }) s

/-- The report body of Table 19.9. -/
def attestBody (s : State) (nonce q : Nat) : Bytes :=
  let plan := match s.plans.driveSlot with
    | some i => (Config.sha256 (vget s.plans.slots i).image).toNat
    | none => 0
  let keyMask (p : KeySlot → Bool) : Nat := maskOf 4 (fun i => p (vget s.security.keys i))
  pack 192 [(1280, 256, nonce), (1024, 256, (Config.sha256 (firmwareImage s)).toNat), (768, 256, plan),
    (672, 96, dtsBits (now s)), (608, 64, s.dev.tickNumber), (544, 64, errorBoundCode s), (416, 128, natOfBytes (firstFault s)),
    (384, 32, crc32c (configPayload (configInForce s))), (352, 32, s.dev.epoch), (320, 32, planIdOf s s.plans.driveSlot),
    (288, 32, firmwareVersion s), (256, 32, planIdOf s s.plans.sentrySlot), (192, 64, Config.deviceUid.toNat),
    (160, 32, q), (128, 32, s.dev.degradation), (120, 8, s.security.lifeCycle), (112, 8, s.dev.state.code),
    (110, 2, s.time.state.code), (109, 1, flag s.time.valid), (68, 4, keyMask (fun x => x.revoked)),
    (64, 4, keyMask (fun x => x.programmed)), (32, 32, 7896), (16, 16, 1)]

/-- The report that one index gives, written to staging. -/
def writeAttest (c : Cmd) (q : Nat) (s : State) : State :=
  let body := attestBody s (fld c.params 0 256) q
  let all := body ++ bytesOfNat 60 Config.hssPublicKey.toNat ++ bytesOfNat 2568 Config.certificate.toNat ++
    bytesOfNat 5076 (Config.hssSign q body).toNat
  { s with memory := { s.memory with staging := cellsPut s.memory.staging (fld c.params 256 32) all } }

/-- ATTEST (R547): the signer checks its signature before it releases it; an index whose signature fails is discarded and
the next one used (R546). A second failure in a row ends the command with VERIFY_FAILED (assumption 20). -/
def execAttest (k : CmdKey) (s : State) : Host.Outcome State Fault Refusal :=
  runCommand k 0x1003 (fun c s =>
    if nvInhibited s then pauseWork k s
    else
      let s1 := openIndex (useDomain 1 (useDomain 0 (dropWorkOf k s)))
      let q := s1.security.nextIndex
      if Config.hssGood q (attestBody s1 (fld c.params 0 256) q) then
        conclude c stDone 0 [] (spendIndex (writeAttest c q s1))
      else
        let s0 := report (securityFault 1) 0 4 .uc 0 (spendIndex s1)
        if indicesLeft s0 = 0 then conclude c stVerifyFailed 512 [] (evaluateAgain (securityFault 1) 0 4 true s0)
        else
        let s2 := openIndex s0
        let q2 := s2.security.nextIndex
        if Config.hssGood q2 (attestBody s2 (fld c.params 0 256) q2) then
          conclude c stDone 0 [] (spendIndex (writeAttest c q2 (evaluateAgain (securityFault 1) 0 4 false s2)))
        else conclude c stVerifyFailed 512 [] (spendIndex (evaluateAgain (securityFault 1) 0 4 true s2))) s

/-! ## Journals and status (R550, R551) -/

/-- Whole records from the first on that fit a number of bytes. -/
def takeRecords (j : Nat) : Nat → List JournalRecord → List JournalRecord
  | _, [] => []
  | room, r :: rs => if room < recordSpan r then [] else r :: takeRecords j (room - recordSpan r) rs

/-- READ_JOURNAL (R550). -/
def execReadJournal (k : CmdKey) (s : State) : Host.Outcome State Fault Refusal :=
  runCommand k 0x1005 (fun c s =>
    let j := fld c.params 0 8
    let from_ := fld c.params 32 32
    let all := (journalRecords s j).sortBy (fun a b => decide (a.seq ≤ b.seq))
    let rs := takeRecords j (fld c.params 96 32) (all.filter (fun r => decide (from_ ≤ r.seq)))
    let bytes := rs.flatMap (recordFlash j)
    let s1 := { s with memory := { s.memory with staging := cellsPut s.memory.staging (fld c.params 64 32) bytes } }
    conclude c stDone 0 (bytesOfNat 4 ((rs.head?.map (fun r => r.seq)).getD 0) ++
      bytesOfNat 4 ((rs.getLast?.map (fun r => r.seq)).getD 0) ++ bytesOfNat 4 rs.length ++ bytesOfNat 4 bytes.length)
      (useDomain 0 s1)) s

def SlotState.code : SlotState → Nat
  | .invalid => 0
  | .writing => 1
  | .verified => 2
  | .pending => 3
  | .inUse => 4
  | .fallback => 5

/-- The block of Table 19.10. -/
def securityBlock (s : State) : Bytes :=
  let x := s.security
  pack 64 ([(448, 64, Config.deviceUid.toNat), (384, 64, x.returnNonce), (352, 32, nextIndexOf s),
      (320, 32, indicesLeft s), (288, 32, x.eventSeqNext), (256, 32, x.overwritten), (224, 32, x.dropped),
      (192, 32, x.configSeq), (160, 32, x.debugDenied), (128, 32, x.bootTimeUs), (96, 6, x.bootFlags),
      (64, 2, x.autoRun), (36, 4, maskOf 4 (fun i => (vget x.keys i).revoked)),
      (32, 4, maskOf 4 (fun i => (vget x.keys i).programmed)), (0, 8, x.lifeCycle)] ++
    (List.range 4).map (fun i => (48 + 4 * i, 4, (vget x.slots i).state.code)))

def execGetSecurityStatus (k : CmdKey) (s : State) : Host.Outcome State Fault Refusal :=
  runCommand k 0x1000 (fun c s => doneWith c (securityBlock s) s) s

/-- Refusals of the Security and journal commands that depend on the state (R537, R539, R541, R542, R547). -/
def startSecurity (s : State) (op : Nat) (b : Bytes) : Option Refuse :=
  match op with
  | 0x1001 | 0x1002 => updateRefused s op b
  | 0x1003 => if indicesLeft s = 0 then some (stResource, 0x0010) else none
  | 0x1004 => if revokeRefused s (fld b 0 2) then some (stState, stateWord s % 65536) else none
  | 0x1006 =>
    if (fld b 0 8 = 2 ∧ s.security.lifeCycle = 1) ∨ (fld b 0 8 = 3 ∧ s.security.lifeCycle = 2) then none
    else some (stState, stateWord s % 65536)
  | _ => none

/-- The life-cycle conditions of R538 and Table 19.8: DENIED. -/
def lifecycleDenies (s : State) (op : Nat) : Bool :=
  match s.security.lifeCycle with
  | 0 => op == 0x1006 || op == 0x1003
  | 3 => op == 0x1003 || op == 0x0102
  | _ => false

/-- A command that writes or erases flash, blows a fuse or reserves indices (R53, R537, R539). -/
def writesNonVolatile (op : Nat) : Bool := [0x0108, 0x1001, 0x1002, 0x1003, 0x1004, 0x1006].contains op

/-- Commands of the subsystem that run one at a time (R544). -/
def securitySerial (op : Nat) : Bool := [0x1001, 0x1002, 0x1004, 0x1006, 0x0108].contains op

end Sys2Proof.Machine
end

