-- ==== Sys2Proof/Machine/SafeState.lean ====
section
/-! DEFINITION. The end of a frame's work when RUN is left, and the entry into SAFE (R6, R57, R431, R456 to R458). -/

namespace Sys2Proof.Machine

/-! ## Leaving RUN -/

/-- Every fusion set and all work on frames is given up: ring slots released, takes and tile work dropped. -/
def stopFrames (s : State) : State :=
  let s1 := s.align.sets.foldl (fun (t : State) f => if f.skipped then t else releaseSlots f.cameras t) s
  let s2 := match s1.rink.frame with
    | some f => dropFromArray f.frame s1
    | none => s1
  modPoint (fun (p : PointState) => { p with current := none, waiting := [], books := [], delivered := none })
    (modAlign (fun (a : Align) => { a with sets := [], scan := none, wheelFit := none, recentreDue := [] })
      (modRink (fun (r : Rink) => { r with waitingFrame := none, gathers := [], remapAt := [] })
        (modGlide (fun (g : Glide) => { g with arriving := [] }) s2)))

/-- The frame-sync pulses that the alignment unit has programmed and not issued are withdrawn. -/
def withdrawSyncs (s : State) : State :=
  setTime (fun (tb : TimeBase) => { tb with tsOut := (List.range 8).foldl (fun (v : Vector TsOut 8) i =>
    vmod v i (fun (o : TsOut) => if outRole o.block == 1 then { o with next := none } else o)) tb.tsOut }) s

/-- What ends with RUN, whatever state follows: frames, Crossover, Gates, the variant in use, the test cycle. -/
def leaveRun (s : State) : State :=
  let s1 := withdrawSyncs (disarmAll (abortMigration (stopFrames s)))
  modSafety (fun (x : Safety) => { x with
      cycleFrom := none, slicesDone := 0, debtPaid := false, debtTime := 0, imageNotBefore := none })
    (modPlans (fun (p : Plans) => { p with variant := none }) s1)

/-! ## The fault log (R430, R431) -/

/-- STATE of Table 15.15. -/
def recordState (r : FaultRecord) : Nat :=
  if !r.isOpen then 0 else if r.shadow then 3 else if r.awaitingFrom.isSome then 2 else 1

/-- A fault-log entry (Table 15.15). -/
def entryBytes (r : FaultRecord) : Bytes :=
  pack 8 [(0, 32, r.logSeq), (32, 2, recordState r), (36, 12, r.lastSource)] ++ recordBytes r

/-- The latched record and every open one go to the event journal, unless the inhibit holds (R431). -/
def journalFaults (s : State) : State :=
  let latched := match s.patrol.latch with
    | some r => [r]
    | none => []
  let open_ := (s.patrol.opens.map (fun x => x.2)).filter (fun r => !latched.any (fun l => l.logSeq == r.logSeq))
  let s1 := modPatrol (fun (p : Patrol) => { p with journalDue := false }) s
  if nvInhibited s1 then s1
  else (latched ++ open_).foldl (fun (t : State) r => bufferRecord 0x02 (entryBytes r) t) s1

/-! ## The entry into SAFE (R456, R457) -/

/-- A command in flight ends at the entry: its opcode is not permitted in SAFE, and it is not a solver batch whose
running jobs still finish (R57, R362). -/
def endsInSafe (s : State) (c : Cmd) : Bool :=
  let kept := match opRow c.op with
    | some r => bitOf r.states 3
    | none => false
  !kept && !(c.op == 0x0900 && s.solver.ending.any (fun k => k == c.key))

/-- Flash work goes with its command; a target in writing is left invalid (R543). -/
def dropFlashWork (s : State) : State :=
  let gone (w : FlashWork) : Bool := (flightOf w.key s).isNone
  modSecurity (fun (x : Security) => { x with
    work := x.work.filter (fun w => !gone w),
    slots := if x.work.any (fun w => gone w && w.stage != 0) then
        (List.range 4).foldl (fun (v : Vector FlashSlot 4) i =>
          vmod v i (fun (f : FlashSlot) => if f.state == .writing then { f with state := .invalid } else f)) x.slots
      else x.slots }) s

/-- The first tick of a device without ticks: the next whole millisecond. -/
def startTicks (s : State) : State :=
  if s.time.nextTick.isSome then s
  else setTime (fun (tb : TimeBase) => { tb with nextTick := some (nextMultiple msUnits (now s)) }) s

/-- The device enters SAFE: the pins go static, FAULT_N low; changes in progress are abandoned; commands not permitted in
SAFE end; results go on with VALID clear (R6, R57, R362, R387, R456, R457). `d` is the instant that Table 16.5 measures
from: the first message leaves no earlier than 20 µs after it. The records are journalled now, or, where an FA report caused
the entry, once that report has been judged. -/
def enterSafe (deferred : Bool) (d : Dts) (s : State) : State :=
  if s.dev.state == .safe then s
  else
    let s1 := modSafety (fun (x : Safety) => { x with faultN := true }) (staticPins s)
    let s2 := modDev (fun (d : Dev) => { d with state := .safe, posture := none, firstValid := false }) s1
    let s3 := modPower (fun (p : Power) => { p with change := none, standby := none, wakeWaiting := none }) s2
    let s4 := modPlans (fun (p : Plans) => { p with swap := none }) (dropLoading (safeGlide (leaveRun s3)))
    let s5 := deliverJobs (safeSolver s4)
    let s6 := dropFlashWork (endCommands (endsInSafe s5) s5)
    let keep (x : Retention) : Retention := { x with safeMarker := true }
    let s7 := modSecurity (fun (x : Security) => { x with retention := keep x.retention }) (startTicks s6)
    let s8 := modSafety (fun (x : Safety) => { x with
      injection := none, repeatsLeft := fld (safeBlock s7) 128 8, repeatFrom := d + 20 * usUnits }) s7
    if deferred then modPatrol (fun (p : Patrol) => { p with journalDue := true }) s8 else journalFaults s8

/-- ENTER_SAFE (R57, R458), 1 µs after its take-up at the earliest (Table 16.5): its FA record is opened from a report with
LEVEL 6 and REASON in DETAIL; it alone of the commands that SAFE does not permit ends DONE. -/
def execEnterSafe (k : CmdKey) (s : State) : Host.Outcome State Fault Refusal :=
  runCommand k 0x0D04 (fun c s =>
    let others := s.host.flight.filter (fun d => !(d.key == k))
    if countNow s < c.takeUp + countsPerUs then s
    else done c (enterSafe true (timeAt s.time (BitVec.ofNat 72 c.takeUp))
      (report (safetyFault 7 0) 0 6 .fa (fld c.params 0 16) (setFlight others s)))) s

end Sys2Proof.Machine
end

