-- ==== Sys2Proof/Machine/StartUp.lean ====
section
/-! DEFINITION. What a power-down of the domains loses, the bridge of device time, and the images that a start takes from
flash (R83, R343, R510, R525, R526, R540). -/

namespace Sys2Proof.Machine

/-! ## What is lost with the domains -/

/-- A timed output over Standby: its sequence and what of it has issued stay, for it goes on after the wake (R94). One that the
alignment unit owns, or whose configuration is not restored, starts anew. -/
def sleepOut (o : TsOut) : TsOut :=
  if outRole o.block = 1 then { (default : TsOut) with stopped := true }
  else { o with waiting := none, next := none, trailing := none, stopped := true, level := idleLevel o.block,
                block := o.waiting.elim o.block Prod.fst,
                issued := if o.waiting.isSome then 0 else o.issued,
                lastIssued := if o.waiting.isSome then none else o.lastIssued }

/-- The working state of every unit outside the always-on island is lost; counters and settings stay (R510). -/
def coldUnits (s : State) : State :=
  let rink (r : Rink) : Rink := { r with
    tiles := r.tiles.map (fun (t : Tile) => { t with
      sram := [], streams := default, tables := default, working := default, uncommitted := none, draining := false, lastStep := none, signature := 0, rerun := false,
      refetch := false }),
    slots := default, packets := [], migration := none, migrationDue := none, mismatch := none, nextSource := none, testOrder := [],
    previousSource := none, copies := default, clearedNow := [],
    frame := none, waitingFrame := none, gathers := [], rays := [], remapAt := [], lanes := [],
    export_ := { r.export_ with writing := none, written := [] } }
  let ingest (i : Ingest) : Ingest := { i with
    rx := Ingest.reset.rx, lidars := default, templates := default, imus := default, encoders := default,
    cans := default,
    sources := i.sources.map (fun (m : Source) => { restartWindows m with
      state := .unconfigured, lastStamp := none, lastLag := none, lastUnit := none, offset := 0, rate := 0, ref := 0,
      residual := 0, meanLag := 0 }) }
  let align (a : Align) : Align := { a with
    history := [], primary := none, switched := false, fused := default, alone := default,
    aloneFrom := default, wheels := default, sets := [], lastFusion := 0,
    scan := none, wheelFit := none, recentreDue := [], anchorSet := false }
  let point (p : PointState) : PointState := { p with
    table := [], refs := default, latestRef := none, current := none, waiting := [], books := [], delivered := none,
    storesSinceReset := 0 }
  let glide (g : Glide) : Glide := { g with
    store := [], mirror := [], arriving := [], pending := [], result := none, lastOrder := [], eventTable := [], untracked := [],
    wasInside := [], events := [], newAtTick := [], inReset := false, blockResetDue := none }
  let safety (x : Safety) : Safety := { x with
    injection := none, cycleFrom := none,
    groomers := x.groomers.map (fun (g : Groomer) => { g with
      injecting := false, dueFrom := none, lastCrc := none, lastCounter := none }) }
  let peers (p : Peers) : Peers := { p with
    kept := none, orders := [],
    peers := p.peers.map (fun (x : Peer) => { x with isOpen := none, whole := [], rxNext := none }) }
  let time (tb : TimeBase) : TimeBase := { tb with
    tsIn := default, tsOut := tb.tsOut.map sleepOut, pps := default, nextTick := none, openTick := none, cutoff := none,
    goodRun := 0, badRun := 0 }
  { s with
    rink := rink s.rink, ingest := ingest s.ingest, align := align s.align, point := point s.point,
    glide := glide s.glide, safety := safety s.safety, peers := peers s.peers, time := time s.time,
    plans := default,
    solver := { s.solver with jobs := [], ending := [] },
    ports := { s.ports with eth := s.ports.eth.map (fun (e : EthPort) => { e with
      link := false, ptp := .initializing, txQueue := [], txUntil := 0, rxHeld := 0, exchange := none, sync := none,
      announce := none, asCapable := false }) },
    memory := { s.memory with staging := [], exportRegion := [] } }

/-! ## Device time across a pause (R83) -/

/-- Device time goes on after a pause of `periods` of the 32.768 kHz crystal since `from_`; a bridged time is valid
(R73). -/
def bridgeTime (from_ : Dts) (periods : Nat) (s : State) : State :=
  let d := periods * (secUnits / 32768)
  let extra := fld (setting s 0x0202 0) 56 8 * d / 1000000 + 31 * usUnits
  let s1 := setTime (fun (tb : TimeBase) => { tb with
    offset := from_ + d, baseCount := tb.count, slew := 0, phase := 0, running := true, valid := true,
    bridged := true }) s
  let s2 := if s1.time.state == .locked then enterHoldover s1 else s1
  setTime (fun (tb : TimeBase) => { tb with b0 := tb.b0 + extra }) s2

/-- The restored time source resumes: after a reset it starts in ACQUIRING from FREE_RUN (R580); a time state that the bridge
has kept stands (R83). -/
def resumeTime (s : State) : State :=
  let kept := s.time.bridged
  let s0 := setTime (fun (tb : TimeBase) => { tb with bridged := false }) s
  if timeSource s = 0 then s0
  else
    let s1 := setTime (fun (tb : TimeBase) => { tb with lastAdjust := now s }) s0
    if s.time.state == .freeRun && !kept then acquireSource s1 else s1

/-! ## Firmware and plan (R526, R540) -/

/-- DETAIL of the record of a fallback: the kind in [7:0] and the slot in [15:8], as in a COMMIT record (assumption
21). -/
def imageDetail (kind slot : Nat) : Nat := kind + 256 * slot

/-- The slot states of a kind once a slot is in use: the other is a fallback or invalid (Table 19.10), or still the target that
an update since the reset has verified (R542). -/
def useSlot (kind slot : Nat) (fallback : Bool) (s : State) : State :=
  let verified := (flashSlot s kind (1 - slot)).state == .verified
  setFlash kind (1 - slot) (if fallback then .fallback else if verified then .verified else .invalid)
    (setFlash kind slot .inUse s)

/-- A boot flag is set (Table 19.10). -/
def bootFlag (i : Nat) (s : State) : State :=
  modSecurity (fun (x : Security) => { x with bootFlags := setBit x.bootFlags i }) s

/-- The committed slot of a kind is verified, and its fallback after it (R540): the slot in use, or none. -/
def selectImage (kind : Nat) (s : State) : State × Option Nat :=
  match committedRecord s kind with
  | none => (setFlash kind 0 .invalid (setFlash kind 1 .invalid s), none)
  | some r =>
    let a := fld r.payload 8 8
    if slotVerifies s kind r then (useSlot kind a (fallbackRecord s kind).isSome s, some a)
    else match (fallbackRecord s kind).filter (fun f => slotVerifies s kind f) with
      | some _ =>
        (useSlot kind (1 - a) false (report (securityFault 0) 0 4 .uc (imageDetail kind a) (bootFlag kind s)), some (1 - a))
      | none => (setFlash kind 0 .invalid (setFlash kind 1 .invalid s), none)

/-- The flash plan goes into plan slot 0 and is active for each posture it serves; one that does not fit is refused
(R343, R526). -/
def loadFlashPlan (s : State) : State :=
  let had := (committedRecord s 1).isSome
  match selectImage 1 s with
  | (s1, none) =>
    let s2 := bootFlag 2 s1
    if had then report (securityFault 0) 0 4 .ce (imageDetail 1 0) s2 else s2
  | (s1, some a) =>
    let img := (flashSlot s1 1 a).image
    match fitImage s1 img with
    | none => report (sourceOf 0x08 0 0) 0 4 .ce stResource (bootFlag 2 s1)
    | some fits =>
      let s2 := modPlanSlot 0 (fun (_ : PlanSlot) => { image := img, loading := false, fits := fits }) s1
      let s3 := if servesPosture (planSlot s2 0) 0 then activate 0 0 s2 else s2
      if servesPosture (planSlot s3 0) 1 then activate 0 1 s3 else s3

end Sys2Proof.Machine
end

