-- ==== Sys2Proof/Machine/PostureUnit.lean ====
section
/-! DEFINITION. Device states and postures: the entry into RUN, changes of posture, Standby, wake and resume (R5, R96,
R182, R203, R230, R260, R334, R337 to R340, R387, R487, R504 to R510, R531, R577). -/

namespace Sys2Proof.Machine

/-- The posture of a code (Table 2.5). -/
def postureOf : Nat → Option Posture
  | 1 => some .drive
  | 2 => some .sentry
  | _ => none

/-! ## Refusals (R334, R487, R504) -/

/-- A refusal of a bound lidar that its binding would get now (R135, R529). -/
def lidarRefusal (s : State) : Option Refuse :=
  (List.range 8).findSome? (fun l => if isSet s 0x0404 l then startLidar s 0x0404 (setting s 0x0404 l) else none)

/-- What ENTER_RUN checks beyond the plan (R130, R135, R159, R487). -/
def runRefusal (s : State) : Option Refuse :=
  if (List.range 8).any (fun r => sourceConfigured s r && csiTriggered (csiBlock s r) && (syncOutput s r).isNone) then
    some (stResource, 0x0004)
  else if (List.range 26).any (fun i => sourceConfigured s i && !isSet s 0x0500 i) then some (stResource, 0x0005)
  else match lidarRefusal s with
    | some r => some r
    | none => if peersUnfit s then some (stResource, 0x000E) else none

/-- The plan checks for the posture entered: 1 Drive, 2 Sentry (R334). -/
def planRefusal (s : State) (target : Nat) : Option Refuse :=
  match (if target = 1 then s.plans.driveSlot else s.plans.sentrySlot) with
  | none => some (stResource, 0x0008)
  | some i => if servesPosture (planSlot s i) (target - 1) then planChecks s i (target - 1) else some (stResource, 0x0008)

/-- Every check of ENTER_RUN for a posture. -/
def enterRefusal (s : State) (target : Nat) : Option Refuse :=
  match planRefusal s target with
  | some r => some r
  | none => runRefusal s

/-- A wake source is enabled (Table 18.3). -/
def wakeEnabled (s : State) : Bool :=
  let b := setting s 0x0F01 0
  bitAt b 0 || fld b 8 8 != 0 || fld b 96 32 != 0

/-- Refusals of the posture commands that depend on the state. -/
def startPosture (s : State) (op : Nat) (b : Bytes) : Option Refuse :=
  let p := fld b 0 2
  match op with
  | 0x0102 => enterRefusal s p
  | 0x0104 =>
    if postureCode s.dev.posture = p then none
    else if p = 3 then if wakeEnabled s then none else some (stBadParam, 0)
    else planRefusal s p
  | _ => none

/-! ## A change begins (R505, R506) -/

/-- The frames that have begun are abandoned and counted (R506). -/
def abandonFrames (s : State) : State := s.align.sets.foldl (fun (t : State) f => skipFrame f.frame t) s

/-- A change to Drive or Sentry begins; from Sentry the frame in progress is abandoned. -/
def beginChange (target : Nat) (key : Option CmdKey) (s : State) : State :=
  let s1 := modPower (fun (p : Power) => { p with change := some { target := target, key := key, since := now s } }) s
  if inSentry s then abandonFrames s1 else s1

def execEnterRun (k : CmdKey) (s : State) : Host.Outcome State Fault Refusal :=
  runCommand k 0x0102 (fun c s =>
    if s.power.change.isSome then s else beginChange (fld c.params 0 2) (some k) s) s

/-- An entry into Standby begins (R507). -/
def beginStandby (c : Cmd) (s : State) : State :=
  modPower (fun (p : Power) => { p with
    change := some { target := 3, key := some c.key, since := now s }, standby := some .commands,
    standbyFrom := now s, wakePosture := fld c.params 4 2, wakeWaiting := none }) s

def execSetPosture (k : CmdKey) (s : State) : Host.Outcome State Fault Refusal :=
  runCommand k 0x0104 (fun c s =>
    let p := fld c.params 0 2
    if s.power.change.isSome then s
    else if postureCode s.dev.posture = p then conclude c stDone 0 [] s
    else if p = 3 then beginStandby c s
    else beginChange p (some k) s) s

/-! ## Leaving RUN for SETUP (R251, R336, R362, R387, R577) -/

/-- No tick is due any more. -/
def stopTicks (s : State) : State :=
  setTime (fun (tb : TimeBase) => { tb with nextTick := none, openTick := none, cutoff := none })
    (modGlide (fun (g : Glide) => { g with result := none }) s)

def execEnterSetup (k : CmdKey) (s : State) : Host.Outcome State Fault Refusal :=
  runCommand k 0x0103 (fun c s =>
    let s1 := deliverJobs (leaveRunSolver (clearTracks (landSwap (leaveRun s))))
    let s2 := stopTicks (staticPins s1)
    conclude c stDone 0 [] (modDev (fun (d : Dev) => { d with state := .setup, posture := none, firstValid := false }) s2)) s

/-! ## The tile array at a change (R260, R337, R340, R506) -/

/-- Whether a tile works. -/
def tileWorks (s : State) (t : Nat) : Bool := decide (t < 49) && tileRole s t != .retired

/-- A test in progress on a tile ends unrun. -/
def abortTest (t : Nat) (s : State) : State := if tileRole s t == .spareTesting then stopTest t s else s

/-- A tile takes a slot; a test in progress on it ends unrun. -/
def serveSlot (t slot : Nat) (s : State) : State := setRole t .service (some slot) (abortTest t s)

/-- A tile is powered down and holds nothing. -/
def dormantTile (t : Nat) (s : State) : State :=
  modTile t (fun (x : Tile) => { x with
    role := .dormant, slot := none, sram := [], streams := default, tables := default, working := default,
    uncommitted := none, draining := false, lastStep := none }) (abortTest t s)

/-- The slots and tiles of the service tiles. -/
def servicePairs (s : State) : List (Nat × Nat) :=
  (List.range 49).filterMap (fun t =>
    match (vget s.rink.tiles t).role, (vget s.rink.tiles t).slot with
    | .service, some n => some (n, t)
    | _, _ => none)

/-- The owners of the Sentry patches at the entry: their service tiles; a patch without one takes the first working tile
in walk order. -/
def sentryOwners (s : State) (want : List Nat) : List (Nat × Nat) :=
  let owned := want.filterMap (fun (n : Nat) => (ownerOf s n).map (fun (t : Nat) => (n, t)))
  let free := walkOrder.filter (fun t => tileWorks s t && !owned.any (fun p => p.2 == t))
  owned ++ (want.filter (fun n => (ownerOf s n).isNone)).zip free

/-- The entry into Sentry: four owners, a spare after them in walk order, the others DORMANT. -/
def enterSentryTiles (s : State) : State :=
  let want := (sentryPatches s s.rink.centreX s.rink.centreY).map (fun g => slotIndex g.1 g.2)
  let owners := sentryOwners s want
  let used (t : Nat) : Bool := owners.any (fun p => p.2 == t)
  let last := (walkOrder.reverse.find? used).getD 48
  let spare := (walkAfter last).find? (fun t => tileWorks s t && !used t)
  let place (u : State) (t : Nat) : State :=
    if !tileWorks s t then u
    else match owners.find? (fun p => p.2 == t) with
      | some p => serveSlot t p.1 u
      | none =>
        if spare == some t then
          (if tileRole s t == .spareReady || tileRole s t == .spareTesting then u else beginTest t u)
        else dormantTile t u
  let s1 := (List.range 49).foldl place s
  let s2 := (want.filter (fun n => (ownerOf s n).isNone)).foldl (fun (t : State) n => clearPatch n t) s1
  newGeneration (modRink (fun (r : Rink) => { r with
    sentrySlots := some want, reducePending := false,
    driveOwners := if s.rink.sentrySlots.isSome then r.driveOwners else servicePairs s }) s2)

/-- DORMANT tiles power up and are tested; those that fail are retired, a tenth is fatal (R253, R259, R506). -/
def wakeTiles (failed : List Nat) (s : State) : State :=
  (tilesIn s .dormant).foldl (fun (t : State) x =>
    if failed.contains x then
      let t1 := report (rinkFault x 0) 0 4 .uc 0 (modTile x (fun (y : Tile) => { y with lastTest := 2 }) (fence x t))
      if 10 ≤ tilesRetired t1 then report (rinkFault x 0) 0 5 .fa 0 t1 else t1
    else
      modCounters (fun (c : RinkCounters) => { c with testsPassed := bump c.testsPassed })
        (modTile x (fun (y : Tile) => { y with lastTest := 1 }) t)) s

/-- A working tile left over is a spare: one just powered up has passed its test. -/
def spareTile (t : Nat) (s : State) : State :=
  match tileRole s t with
  | .dormant => modRink (fun (r : Rink) => { r with nextOrder := r.nextOrder + 1 })
      (modTile t (fun (x : Tile) => { x with
        role := .spareReady, slot := none, spareSince := s.rink.nextOrder, readySince := s.rink.nextOrder }) s)
  | .service => beginTest t s
  | .migrationTarget => beginTest t s
  | _ => s

/-- The entry into Drive: the slots of the extent are assigned under R260 in one route generation. -/
def enterDriveTiles (failed : List Nat) (s : State) : State :=
  let s0 := wakeTiles failed s
  let reduced := s0.rink.reduced || decide (2 ≤ tilesRetired s0)
  let slots := (extentPatches s0.rink.centreX s0.rink.centreY reduced (reducedSide s0)).map (fun g => slotIndex g.1 g.2)
  let kept := (servicePairs s0).filter (fun p => slots.contains p.1)
  let back := s0.rink.driveOwners.filter (fun p => slots.contains p.1 && tileWorks s0 p.2 &&
    !kept.any (fun q => q.1 == p.1 || q.2 == p.2))
  let known := kept ++ back
  let open_ := slots.filter (fun n => !known.any (fun p => p.1 == n))
  let free := walkOrder.filter (fun t => tileWorks s0 t && !known.any (fun p => p.2 == t))
  let all := known ++ open_.zip free
  let fresh := all.filter (fun p => !kept.contains p)
  let spares := walkOrder.filter (fun t => tileWorks s0 t && !all.any (fun p => p.2 == t))
  let s1 := spares.foldl (fun (t : State) x => spareTile x t) s0
  let s2 := fresh.foldl (fun (t : State) p => serveSlot p.2 p.1 t) s1
  let s3 := fresh.foldl (fun (t : State) p => clearPatch p.1 t) s2
  newGeneration (modRink (fun (r : Rink) => { r with
    reduced := reduced, reducePending := false, sentrySlots := none, driveOwners := [] }) s3)

/-! ## The entry into RUN (R137, R180, R182, R230, R315) -/

/-- Every patch of the Rink is cleared. -/
def clearRink (s : State) : State := (List.range 48).foldl (fun (t : State) n => clearPatch n t) s

/-- A new anchor is due: none is set, or SET_ANCHOR asks for one (R182). -/
def newAnchorDue (s : State) : Bool := !s.align.anchorSet || (isSet s 0x0504 0 && fld (setting s 0x0504 0) 0 8 == 0)

/-- The fused state in the frame of a new anchor: the vehicle origin of this instant is its origin (R182). -/
def anchorNav (s : State) : Nav :=
  let r := Config.anchorTurn s.align.fused.numbers s.align.fused.filter
  { numbers := [0, 0, 0] ++ (r.1 ++ List.replicate 11 0).take 11, filter := r.2, at_ := some (now s) }

/-- A new anchor at the vehicle origin: the pose history empties, MODE reverts to 1 (R165, R182). The patches are cleared once
the variant that lays them out is known (R309). -/
def setNewAnchor (s : State) : State :=
  let seq := (s.align.anchorSeq + 1) % 65536
  let s1 := modAlign (fun (a : Align) => { a with
    history := [], fused := anchorNav s, alone := Vector.replicate 4 (anchorNav s), aloneFrom := anchorNav s,
    anchorSet := true, anchorSeq := seq, rebaseX := 0, rebaseY := 0, centreX := 0,
    centreY := 0, recentreDue := [] }) s
  let s2 := modRink (fun (r : Rink) => { r with centreX := 0, centreY := 0, rebaseX := 0, rebaseY := 0, anchorSeq := seq }) s1
  let s3 := if isSet s2 0x0504 0 then putSetting 0x0504 0 (1 :: (setting s2 0x0504 0).drop 1) s2 else s2
  modPeers (fun (p : Peers) => { p with anchorNew := true }) s3

/-- A source that has used up RECOVERY_LIMIT is trusted again (R180): its returns of the epoch stay counted. No source has
been admitted. -/
def freshTrust (s : State) : State :=
  let limit := fld s.align.pairing 40 8
  modAlign (fun (a : Align) => { a with trust := a.trust.map (fun (t : SourceTrust) =>
    let free := t.trust == .timeUntrusted && decide (limit ≤ t.recoveries)
    { t with trust := if free then .trusted else t.trust, missRun := if free then 0 else t.missRun,
             sinceAdmitted := 65535 }) }) s

/-- What the completion of ENTER_RUN does beyond a change of posture. -/
def enterRunState (s : State) : State :=
  let code := fld (setting s 0x0700 0) 0 4
  let s1 := modRink (fun (r : Rink) => { r with cellCode := code }) s
  let s2 := if newAnchorDue s1 then setNewAnchor s1 else s1
  let s3 := (List.range 8).foldl (fun (t : State) l => modLidar l (fun (x : Lidar) => { x with
    template := if isSet t 0x0404 l then vget t.ingest.templates (fld (setting t 0x0404 l) 128 8) else x.template }) t) s2
  let s4 := { s3 with memory := { s3.memory with exportRegion := [] } }
  peersEnterRun (freshTrust (modRink (fun (r : Rink) => { r with previousSource := none, mismatch := none, nextSource := none }) s4))

/-! ## The completion of a change (R96, R173, R505, R506) -/

/-- The first tick of the posture entered, and a cut-off that was raised for another tick is void (R96). -/
def startPostureTicks (sentry : Bool) (s : State) : State :=
  let ms := if sentry then fld (setting s 0x0208 0) 0 8 else 1
  let t := nextMultiple (ms * msUnits) (now s)
  let stale := s.time.cutoff.any (fun u => u != t)
  let s1 := setTime (fun (tb : TimeBase) => { tb with
    nextTick := some t, cutoff := if stale then none else tb.cutoff,
    sentryPeriod := if sentry then ms else tb.sentryPeriod }) s
  let s2 := if stale then modGlide (fun (g : Glide) => { g with result := none }) s1 else s1
  modGate 0 (fun (x : Gate) => { x with armed := [] }) s2

/-- The first fusion instant of the posture and its frame-sync pulses (R173). -/
def startFusion (s : State) : State :=
  match firstFusion s (now s) with
  | some f => programSyncs f (modAlign (fun (a : Align) => { a with fusionFrom := f, votedFrames := 0 }) s)
  | none => modAlign (fun (a : Align) => { a with fusionFrom := now s, votedFrames := 0 }) s

/-- Sources that Sentry does not power are absent until they deliver again (R157, R506). -/
def restSources (s : State) : State :=
  (List.range 26).foldl (fun (t : State) i =>
    if sourceConfigured t i && !sourceActive t i then
      modSource i (fun (m : Source) => { restartWindows m with state := .absent, lastStamp := none, lastLag := none }) t
    else t) s

/-- A change to Drive or Sentry is complete. -/
def completeChange (target : Nat) (failed : List Nat) (s : State) : State :=
  let setup := s.dev.state == .setup
  let sentry := target == 2
  let s1 := withdrawSyncs (abortMigration (landSwap (abandonFrames s)))
  let s2 := modDev (fun (d : Dev) => { d with
    state := .run, posture := postureOf target, autoDue := false, firstValid := if setup then false else d.firstValid }) s1
  let s3 := if setup then enterRunState s2 else s2
  let s4 := refreshFits ((activeSlot s3).getD 0) (target - 1) (modRink (fun (r : Rink) => { r with reducePending := false }) s3)
  let s5 := if sentry then restSources (enterSentryTiles (applyLadder s4))
    else runInjection false 0 (applyLadder (enterDriveTiles failed s4))
  let s6 := if setup && (newAnchorDue s || fld (setting s 0x0700 0) 0 4 != s.rink.cellCode) then clearRink s5 else s5
  judgeImus (startFusion (startPostureTicks sentry (buildRays s6)))

/-- DORMANT tiles power up in four groups, 1 ms apart, so the fourth no earlier than 3 ms after the start (R506). -/
def tilesPowered (c : PostureChange) (s : State) : Bool :=
  c.target != 1 || (tilesIn s .dormant).isEmpty || decide (c.since + 3 * msUnits ≤ now s)

/-- POSTURE_CHANGE_COMPLETE: `failedTiles` are the tiles that failed the test of R506. From Drive it waits for the frame
boundary. -/
def execPostureChangeComplete (failedTiles : List Nat) (s : State) : Host.Outcome State Fault Refusal :=
  awakeAnswer s fun s =>
    match s.power.change with
    | some c =>
      if c.target = 3 || postureCode s.dev.posture = c.target || s.rink.frame.isSome || !tilesPowered c s then s
      else completeChange c.target failedTiles s
    | none => s

/-- The first tick of the posture entered: the command that asked for the change ends (R505). -/
def concludeChange (s : State) : State :=
  match s.power.change with
  | some c =>
    if inRun s && postureCode s.dev.posture == c.target then
      let s1 := modPower (fun (p : Power) => { p with change := none }) s
      match c.key with
      | some k => concludeKey k stDone 0 [] s1
      | none => s1
    else s
  | none => s

/-! ## Entry into Standby (R94, R387, R417, R507) -/

/-- The 50 ms of a stage have passed. -/
def stageOver (s : State) : Bool := decide (s.power.standbyFrom + 50 * msUnits ≤ now s)

/-- The commands still in flight end as R57 lays down for SAFE, but the SET_POSTURE itself and batches whose running
jobs still finish. -/
def endForStandby (own : Option CmdKey) (s : State) : State :=
  let s1 := deliverJobs (safeSolver s)
  dropFlashWork (endCommands (fun c =>
    some c.key != own && !(c.op == 0x0900 && s1.solver.ending.any (fun k => k == c.key))) s1)

/-- The end of RUN for Standby: frames, tracks, ticks and timed outputs stop, and the final reply is due. -/
def leaveForStandby (s : State) : State :=
  let own := s.power.change.bind (fun c => c.key)
  let s1 := endForStandby own s
  let s2 := stopTicks (staticPins (clearTracks (dropLoading (landSwap (leaveRun s1)))))
  let s3 := setTime (fun (tb : TimeBase) => { tb with tsOut := tb.tsOut.map (fun (o : TsOut) => { o with stopped := true }) }) s2
  let s4 := modSafety (fun (x : Safety) => { x with injection := none }) s3
  let s5 := modPower (fun (p : Power) => { p with standby := some .draining, standbyFrom := now s4 }) s4
  match own with
  | some k => concludeKey k stDone 0 [] s5
  | none => s5

/-- STANDBY_DRAIN_TIMEOUT: the time of the commands is over, or that of the queues. Commands that have all ended early
end their stage early. RUN is left at a frame boundary, with no frame in the tile array (R507). -/
def execStandbyDrainTimeout (s : State) : Host.Outcome State Fault Refusal :=
  awakeAnswer s fun s =>
    match s.power.standby with
    | some .commands =>
      let own := s.power.change.bind (fun c => c.key)
      if stageOver s || s.host.flight.all (fun c => some c.key == own) then
        (if s.rink.frame.isSome then endForStandby own s else leaveForStandby s)
      else s
    | some .draining => if stageOver s && s.host.flight.isEmpty then discardQueues s else s
    | _ => s

/-- The queues have been read empty. -/
def queuesEmpty (s : State) : Bool :=
  s.host.reply.words.isEmpty && s.host.result.words.isEmpty && s.host.event.words.isEmpty

/-- The configuration, WAKE_POSTURE and the time go to retention SRAM, every other domain stops and the counter holds. -/
def fallAsleep (s : State) : State :=
  let s1 := nextConfig s
  let s2 := keepConfig (configInForce s1) s1
  let keep (x : Retention) : Retention := { x with bridge := some (now s2), training := true }
  let s3 := coldUnits (discardQueues (modSecurity (fun (x : Security) => { x with retention := keep x.retention }) s2))
  let s4 := modDev (fun (d : Dev) => { d with state := .setup, posture := some .standby, firstValid := false }) s3
  let s5 := setTime (fun (tb : TimeBase) => { tb with running := false, bridgeFrom := now s }) s4
  let s6 := modPower (fun (p : Power) => { p with
    standby := some .asleep, change := none, plls := 0, onDemand := [], pmbusTries := 0, pmbusDone := false,
    coolFrom := none }) s5
  { s6 with host := { s6.host with port := { s6.host.port with answersFrom := none } } }

/-! ## Wake and resume (R33, R83, R508 to R510, R516) -/

/-- An automatic entry into RUN is refused (R510, R531). -/
def refuseAuto (r : Refuse) (s : State) : State :=
  notice causeState (report (sourceOf 0x01 0 0) 0 5 .ce r.1 (bootFlag 3 s))

/-- The device carries out ENTER_RUN itself, with every check and refusal of the command. -/
def enterRunItself (target : Nat) (s : State) : State :=
  if lifecycleDenies s 0x0102 then refuseAuto (stDenied, 0) s
  else match enterRefusal s target with
    | some r => refuseAuto r s
    | none => beginChange target none s

/-- The fused VDD_TILE target in mV: 600 to 700 in steps of 5 (R516). -/
def vddTarget : Nat := 600 + 5 * (Config.vddTileTarget.toNat % 21)

/-- VOUT_COMMAND of the target: LINEAR16 with the exponent that the regulator reports, to the nearest (R564, assumption 159). -/
def voutCommand : Nat := (vddTarget * 2 ^ Config.voutPlaces.toNat + 500) / 1000 % 65536

/-- The target goes to PAGE 0 of 7-bit address 0x40. -/
def tryTarget (s : State) : State :=
  emit (.pmbus 0x40 0 voutCommand) (modPower (fun (p : Power) => { p with pmbusAt := countNow s }) s)

/-- The VDD_TILE target goes to the board's regulator (R516). -/
def sendTarget (s : State) : State :=
  tryTarget (modPower (fun (p : Power) => { p with pmbusTries := 0, pmbusDone := false }) s)

/-- The resume: firmware verified, LPDDR trained, settings restored, the flash plan loaded, and RUN entered. A firmware committed
since takes over (R542), and BOOT_FLAGS tells of this start (assumption 158). -/
def resume (cause input periods : Nat) (s : State) : State :=
  let s1 := bridgeTime s.time.bridgeFrom periods s
  let s2 := modPower (fun (p : Power) => { p with
    standby := none, wakeWaiting := none, wakeCause := cause, wakeInput := input, lastWake := now s1,
    wakeCount := bump p.wakeCount, plls := 31, faInStandby := false }) s1
  let s3 := modDev (fun (d : Dev) => { d with posture := none }) s2
  let s4 := { s3 with
    host := { s3.host with port := { s3.host.port with answersFrom := some (countNow s3 + 2000 * countsPerUs) } },
    memory := { s3.memory with channels := s3.memory.channels.map (fun (c : Channel) =>
      { c with fromRetention := s.security.retention.training }) } }
  let s5 := notice causeState (sendTarget (modSecurity (fun (x : Security) => { x with bootFlags := 0 }) s4))
  match selectImage 0 s5 with
  | (t, none) => enterSafe true (now t) (report (securityFault 0) 0 5 .fa 0 t)
  | (t, some _) =>
    let keep (x : Retention) : Retention := { x with training := true }
    let s6 := loadFlashPlan (resumeTime (configRestore (modSecurity (fun (x : Security) => { x with retention := keep x.retention }) t)))
    let down := [0, 1, 3, 5].filter (fun n => bitOf s.power.outOfRange n)
    let s7 := down.foldl (fun (t : State) n => report (sourceOf 0x0F 2 n) 0 5 .fa 0 t) s6
    if s.power.faInStandby then enterSafe true (now s7) s7 else enterRunItself s.power.wakePosture s7

/-- The edge of a TS_IN input is one that wakes: 0 rising, 1 falling, 2 both (Table 18.3). -/
def wakeEdge (b : Bytes) (input : Nat) (rising : Bool) : Bool :=
  match fld b (16 + 2 * input) 2 with
  | 0 => rising
  | 1 => !rising
  | _ => true

/-- A wake event of a cause is enabled: 1 host, 2 TS_IN, 3 timer (Table 18.3). -/
def wakeAllowed (s : State) (cause input : Nat) (rising : Bool) (periods : Nat) : Bool :=
  let b := setting s 0x0F01 0
  match cause with
  | 1 => bitAt b 0
  | 2 => decide (input < 8) && bitOf (fld b 8 8) input && wakeEdge b input rising
  | 3 => fld b 96 32 != 0 && decide (fld b 96 32 * 32768 ≤ periods)
  | _ => false

/-- WAKE_INPUT of a wake (Table 18.9). -/
def wakeInputOf (cause input : Nat) : Nat := if cause = 2 then input else 0xFF

/-- Two periods of the 32.768 kHz crystal: of two wake events within them the lower cause is reported (R510). -/
def wakeWindow : Nat := 2 * (secUnits / 32768)

/-- A wake event: in Standby it resumes; during the entry it waits for it. A second one within two periods of the crystal only
lowers the cause reported. -/
def wakeBy (cause input : Nat) (rising : Bool) (periods : Nat) (s : State) : State :=
  let p := s.power
  if inReset s || p.tripped || !wakeAllowed s cause input rising periods then s
  else match p.standby, p.wakeWaiting with
    | some .asleep, _ => resume cause (wakeInputOf cause input) periods s
    | some _, none =>
      modPower (fun (q : Power) => { q with wakeWaiting := some ⟨cause, wakeInputOf cause input, now s⟩ }) s
    | some _, some w =>
      if cause < w.cause ∧ now s ≤ w.at_ + wakeWindow then
        modPower (fun (q : Power) => { q with wakeWaiting := some { w with cause := cause, input := wakeInputOf cause input } }) s
      else s
    | none, _ =>
      if p.wakeCount ≠ 0 ∧ cause < p.wakeCause ∧ now s ≤ p.lastWake + wakeWindow then
        modPower (fun (q : Power) => { q with wakeCause := cause, wakeInput := wakeInputOf cause input }) s
      else s

/-- WAKE_EVENT: `aonPeriods` of the 32.768 kHz crystal have passed since the entry into Standby; `rising` is the edge of a TS_IN
input whose new level has held for two periods (R509). -/
def execWakeEvent (cause input : Nat) (rising : Bool) (aonPeriods : Nat) (s : State) : Host.Outcome State Fault Refusal :=
  answer s (wakeBy cause input rising aonPeriods s)

def execWakeTimerExpiry (aonPeriods : Nat) (s : State) : Host.Outcome State Fault Refusal :=
  answer s (wakeBy 3 0xFF false aonPeriods s)

/-- STANDBY_ENTRY_COMPLETE; a wake event that met the entry resumes at once (R508). -/
def execStandbyEntryComplete (s : State) : Host.Outcome State Fault Refusal :=
  awakeAnswer s fun s =>
    if s.power.standby == some .draining && s.host.flight.isEmpty && queuesEmpty s then
      match s.power.wakeWaiting with
      | some w => resume w.cause w.input 0 (fallAsleep s)
      | none => fallAsleep s
    else s

/-- AUTO_ENTER_RUN (R531). -/
def execAutoEnterRun (s : State) : Host.Outcome State Fault Refusal :=
  awakeAnswer s fun s =>
    if s.dev.autoDue && s.dev.state == .setup && s.power.change.isNone then
      enterRunItself s.security.autoRun (modDev (fun (d : Dev) => { d with autoDue := false }) s)
    else s

end Sys2Proof.Machine
end

