-- ==== Sys2Proof/Machine/Results.lean ====
section
/-! DEFINITION. Ticks and results: the tick, the cut-off, propagation to the tick instant, relevance selection, the result
record, the events of a tick and the RESTART record (R15 to R22, R95, R96, R169, R376, R380 to R386, R391 to R394). -/

namespace Sys2Proof.Machine

/-! ## The tick (R95, R96, R461) -/

/-- The counts of a tick period, at a rate in thousandths. -/
def periodCounts (ms thousandths : Nat) : Nat := ms * thousandths * countsPerUs

/-- A fusion instant at a tick: a frame starts and the wheels' fit is issued; in a manager the frames that name the
instant before have told of a new anchor. -/
def fuseAt (t : Dts) (s : State) : State :=
  if inRun s && s.power.change.isNone && decide (s.align.fusionFrom ≤ t) && isFusionInstant s t then
    let n := s.align.nextFrame
    let s1 := if s.align.sets.isEmpty then s else modPeers (fun (p : Peers) => { p with anchorNew := false }) s
    let s2 := fusionInstant t s1
    if isWorker s then s2 else issueWheelFit n t s2
  else s

/-- The tick instant after a tick; a period of SET_SENTRY_TICK takes effect here (R96). -/
def scheduleTick (t : Dts) (s : State) : State :=
  let ms := if inSentry s then fld (setting s 0x0208 0) 0 8 else 1
  let next := nextMultiple (ms * msUnits) t
  armGate 0 next (countNow s + periodCounts ms 997) (countNow s + periodCounts ms 1003)
    (setTime (fun (tb : TimeBase) => { tb with
      nextTick := some next, openTick := some t, lastTick := some t, sentryPeriod := if inSentry s then ms else tb.sentryPeriod }) s)

/-- The degradation flags in force at the tick, for its result (R7). -/
def latchFlags (s : State) : State := modDev (fun (d : Dev) => { d with tickDegradation := degradationOf s }) s

/-- TICK: device time has reached the next tick instant. -/
def execTick (s : State) : Host.Outcome State Fault Refusal :=
  awakeAnswer s fun s =>
    match s.time.nextTick with
    | none => s
    | some t =>
      if !ticking s || decide (now s < t) || s.time.openTick.isSome then s
      else
        let s1 := latchSettings (scheduleTick t (kickGate 0 t s))
        latchFlags (armGate 1 t (t + gateMin s1 1) (t + gateMax s1 1) (migrationTick t (fuseAt t (concludeChange s1))))

/-! ## The cut-off and propagation (R375 to R378, R385, R398) -/

/-- Every live track at an instant. -/
def propagateAll (t : Dts) (s : State) : List PropTrack :=
  s.glide.store.map (fun c =>
    let m := propagate s c t
    { track := c, state := m.state, cov := m.cov, zones := 0 })

/-- A block reset of Glide is in progress. -/
def glideResets (s : State) : Bool := s.patrol.shadows.any (fun x => x.subsystem == 0x0A)

/-- FRAME_UPDATE_CUTOFF: finished updates commit, the next frame is associated, propagation to the tick starts. -/
def execFrameUpdateCutoff (s : State) : Host.Outcome State Fault Refusal :=
  awakeAnswer s fun s =>
    match s.time.nextTick with
    | none => s
    | some t =>
      if !ticking s || decide (now s + msUnits / 2 < t) || s.time.cutoff == some t || s.time.openTick.isSome then s
      else
        let before := s.glide.pending
        let s1 := countMerges before (commitReady before.length t s)
        let s2 := if s1.glide.committed = s.glide.committed then s1 else sendTracks s1
        let s3 := associateNext s2
        let form : ResultForm :=
          { tick := s3.dev.nextTickNumber, instant := t, tracks := propagateAll t s3, done := false, reason := 0 }
        modGlide (fun (g : Glide) => { g with result := some form, inReset := glideResets s3 })
          (setTime (fun (tb : TimeBase) => { tb with cutoff := some t }) s3)

/-- The tick's result in formation is changed. -/
def modForm (f : ResultForm → ResultForm) (s : State) : State :=
  modGlide (fun (g : Glide) => { g with result := g.result.map f }) s

/-- Propagation of the tick has 20 µs left no longer. -/
def formLate (s : State) (f : ResultForm) : Bool := decide (f.instant < now s + 20 * usUnits)

/-- The lockstep comparison of a propagation pair. -/
def judgePair (mismatches : List Nat) (s : State) (p : Nat) : State :=
  if bitOf s.glide.pairsRetired p then s
  else if mismatches.contains p then report (glideFault p 0) 0 3 .uc 0 s
  else evaluateAgain (glideFault p 0) 0 3 false s

/-- PROPAGATION_COMPLETE, from t − 420 µs on: `mismatches` are the pairs whose lanes differed. Their tracks were propagated again on another
pair, and the time that took has passed. -/
def execPropagationComplete (mismatches : List Nat) (s : State) : Host.Outcome State Fault Refusal :=
  awakeAnswer s fun s =>
    match s.glide.result with
    | none => s
    | some f =>
      if f.done || decide (now s + 420 * usUnits < f.instant) then s
      else
        let differ := (List.range 16).any (fun p => mismatches.contains p && !bitOf s.glide.pairsRetired p)
        let reason := if !formLate s f then f.reason else if differ then 5 else 4
        modForm (fun (x : ResultForm) => { x with done := true, reason := reason })
          ((List.range 16).foldl (judgePair mismatches) s)

/-- PROPAGATION_DEADLINE, t − 20 µs: propagation that has not ended makes the result invalid. -/
def execPropagationDeadline (s : State) : Host.Outcome State Fault Refusal :=
  awakeAnswer s fun s =>
    match s.glide.result with
    | none => s
    | some f =>
      if now s + 20 * usUnits < f.instant then s
      else if f.done then evaluateAgain (glideFault 17 0) 0 4 false s
      else if f.reason = 0 then
        report (glideFault 17 0) 0 4 .uc 0 (modForm (fun (x : ResultForm) => { x with reason := 4 }) s)
      else s

/-! ## The ego state (R169) -/

/-- The ego state of a tick: HOW of R170 and the pose. -/
structure EgoView where
  how : Nat
  pose : Option PoseEntry
deriving DecidableEq, Repr, Inhabited

/-- The ego state in the anchor that tracks and the Rink follow. -/
def egoView (s : State) (t : Dts) : EgoView :=
  let p := poseFor s t
  { how := p.1,
    pose := p.2.map (shiftPose s (s.align.rebaseX - s.rink.rebaseX) (s.align.rebaseY - s.rink.rebaseY)) }

/-- A refused ego state after a valid one is a CE record (Table 6.14). -/
def noteEgo (e : EgoView) (s : State) : State :=
  let s1 := modAlign (fun (a : Align) => { a with egoWasValid := e.pose.isSome }) s
  if e.pose.isNone && s.align.egoWasValid then report (alignFault 26) 0 4 .ce 0 s1 else s1

/-! ## Relevance (R384) -/

/-- Position and velocity that distances are taken from: the Rink centre at rest while the ego state is not valid. -/
def viewPoint (s : State) (e : EgoView) : Dy × Dy × Dy × Dy :=
  match e.pose with
  | some p => (f32 p.posX, f32 p.posY, f32 p.velX, f32 p.velY)
  | none =>
    (Dy.ratio (s.rink.centreX * patchCm s) 100, Dy.ratio (s.rink.centreY * patchCm s) 100, Dy.zero, Dy.zero)

/-- D: the horizontal distance to a propagated track. -/
def distanceTo (v : Dy × Dy × Dy × Dy) (p : PropTrack) : Dy :=
  let x := (f32 (p.state.getD 0 0)).sub v.1
  let y := (f32 (p.state.getD 1 0)).sub v.2.1
  ((x.mul x).add (y.mul y)).sqrt

/-- c: the closing speed; at distance zero the manual states none. -/
def closingSpeed (v : Dy × Dy × Dy × Dy) (d : Dy) (p : PropTrack) : Dy :=
  if d.eq Dy.zero then ⟨Config.openReal (2 ^ 33 + p.track.trackId), -149⟩
  else
    let x := (f32 (p.state.getD 0 0)).sub v.1
    let y := (f32 (p.state.getD 1 0)).sub v.2.1
    let vx := (f32 (p.state.getD 3 0)).sub v.2.2.1
    let vy := (f32 (p.state.getD 4 0)).sub v.2.2.2
    (((x.mul vx).add (y.mul vy)).neg).div d

/-- The zones with PRIORITY, as a mask. -/
def priorityMask (s : State) : Nat := maskOf 64 (fun z => s.glide.zones.any (fun x => x.1 == z && isPriority x))

/-- The relevance key. -/
def relevanceKey (s : State) (v : Dy × Dy × Dy × Dy) (p : PropTrack) : Dy :=
  if p.zones &&& priorityMask s ≠ 0 then Dy.zero
  else
    let d := distanceTo v p
    Dy.zero.max (d.sub ((f32 (fld s.glide.relevance 96 32)).mul (closingSpeed v d p)))

/-- A track qualifies for a result. -/
def relevant (b : Bytes) (c : Track) : Bool :=
  (c.life == 2 || c.life == 3 || (c.life == 1 && bitAt b 32)) && decide (fld b 40 8 ≤ c.existence) &&
    bitOf (fld b 64 16) c.cls

/-- Ascending key, lower TRACK_ID first on a tie. -/
def keyBefore (a b : Dy × PropTrack) : Bool :=
  if a.1.lt b.1 then true else if b.1.lt a.1 then false else decide (a.2.track.trackId ≤ b.2.track.trackId)

/-- The tracks that a result carries, in order, and the number that qualified. -/
def selectTracks (s : State) (v : Dy × Dy × Dy × Dy) (ps : List PropTrack) : List PropTrack × Nat :=
  let ok := ps.filter (fun p => relevant s.glide.relevance p.track)
  let sorted := (ok.map (fun p => (relevanceKey s v p, p))).sortBy keyBefore
  ((sorted.take (fld s.glide.relevance 48 16)).map (fun x => x.2), ok.length)

/-! ## The record (R380 to R383) -/

/-- What one result states besides the state. -/
structure ResultHead where
  kind : Nat
  tick : Nat
  instant : Dts
  /-- FLAGS of Table 13.5 -/
  flags : Nat
  qualified : Nat
  live : Nat
  deferred : Nat
  ego : EgoView
deriving DecidableEq, Repr, Inhabited

/-- The ego fields of the header. -/
def egoFields (e : EgoView) : List (Nat × Nat × Nat) :=
  match e.pose with
  | none => []
  | some p =>
    [(640, 32, p.posX), (672, 32, p.posY), (704, 32, p.posZ), (736, 32, p.qW), (768, 32, p.qX), (800, 32, p.qY),
     (832, 32, p.qZ), (864, 32, p.velX), (896, 32, p.velY), (928, 32, p.velZ), (960, 32, to32 (f16 p.yawRate)),
     (992, 16, p.sigmaPos), (1008, 16, p.sigmaAtt), (1024, 16, p.sigmaVel)]

/-- The header of Table 13.4 for a result that keeps `n` tracks. -/
def resultHeader (s : State) (h : ResultHead) (n : Nat) : Bytes :=
  let g := s.glide
  let restart := h.kind == 2
  let frame : List (Nat × Nat × Nat) := if restart then [] else
    [(224, 16, min 65535 g.detectionsDropped), (240, 16, min 65535 g.updatesDropped), (288, 32, g.committed),
     (320, 96, dtsBits g.committedInstant), (1040, 16, min 65535 g.birthsDropped)]
  pack 256 ([(0, 8, h.kind), (8, 8, 1), (16, 16, n), (32, 32, 896 + 112 * n), (64, 64, h.tick),
    (128, 96, dtsBits h.instant), (256, 32, s.dev.epoch), (416, 32, h.flags), (448, 32, if restart then s.dev.degradation else s.dev.tickDegradation),
    (480, 4, s.dev.state.code), (484, 4, postureCode s.dev.posture), (488, 4, flag s.rink.reduced),
    (492, 4, s.rink.cellCode), (496, 2, s.time.state.code), (498, 1, flag s.time.valid), (499, 1, flag (s.time.slew != 0)),
    (512, 64, errorBoundCode s), (576, 64, holdoverAge s), (1056, 32, anchorId s), (1088, 16, s.rink.anchorSeq),
    (1104, 16, regionValidMask s), (1120, 32, codeOf 32 s.rink.rebaseX), (1152, 32, codeOf 32 s.rink.rebaseY),
    (1184, 32, codeOf 32 s.rink.centreX), (1216, 32, codeOf 32 s.rink.centreY), (1248, 32, s.rink.scrollsEpoch),
    (1280, 16, h.live), (1296, 16, h.qualified), (1312, 64, fld (setting s 0x0504 0) 192 64),
    (1376, 64, fld (setting s 0x0504 0) 128 64), (1440, 32, fld (setting s 0x0504 0) 96 32),
    (1472, 32, fld (setting s 0x0504 0) 64 32), (1504, 16, min 65535 h.deferred), (1520, 16, g.eventStateFull)] ++
    frame ++ egoFields h.ego)

/-- The slot that holds a propagated track's position, if its patch is in the full extent. -/
def slotOfTrack (s : State) (p : PropTrack) : Option Nat :=
  let g := patchAt s (f32 (p.state.getD 0 0)) (f32 (p.state.getD 1 0))
  if inExtent s.rink.centreX s.rink.centreY false 0 g.1 g.2 then some (slotIndex g.1 g.2) else none

/-- The 48 patch entries of Table 13.6. -/
def patchEntries (s : State) (ps : List PropTrack) : Bytes :=
  let slots := ps.filterMap (slotOfTrack s)
  (List.range 48).flatMap (fun n =>
    bytesOfNat 8 (s.glide.patches.getD n (0xFF * 2 ^ 32) + min 65535 (slots.count n) * 2 ^ 40))

/-- A source entry of Table 13.7. -/
def sourceEntry (s : State) (i : Nat) : Bytes :=
  let m := source s i
  pack 8 [(0, 8, srcNum i), (8, 8, shownTrust s i), (16, 8, m.state.code),
    (32, 32, min (mag m.residual / nsUnits) (2 ^ 32 - 1))]

/-- The 32 source entries. -/
def sourceEntries (s : State) : Bytes :=
  (List.range 26).flatMap (sourceEntry s) ++
    (List.range 3).flatMap (fun v => pack 8 [(0, 8, 0xE0 + v), (8, 8, shownVoter s v)]) ++
    (List.range 3).flatMap (fun _ => pack 8 [(0, 8, 0xFF), (8, 8, 4)])

/-- A track record of Table 13.8. -/
def trackRecord (p : PropTrack) : Bytes :=
  let c := p.track
  let v (i : Nat) : Nat := p.state.getD i 0
  let cov (i j : Nat) : Nat := p.cov.getD (triIndex i j) 0
  let half (i j : Nat) : Nat := to16 (f32 (cov i j))
  pack 112 [(0, 64, p.zones), (64, 12, c.flags), (76, 4, c.life), (80, 8, c.sourceDevice), (88, 8, c.modalities),
    (96, 8, c.existence), (104, 8, c.classConf), (112, 8, c.cls), (120, 8, c.coast), (128, 16, c.age),
    (144, 16, c.length), (160, 16, c.width), (176, 16, c.height), (192, 16, half 0 3), (208, 16, half 1 4),
    (224, 16, half 2 2), (240, 16, half 5 5), (256, 16, half 6 6), (272, 16, half 7 7), (288, 32, cov 3 3),
    (320, 32, cov 3 4), (352, 32, cov 4 4), (384, 32, cov 0 0), (416, 32, cov 0 1), (448, 32, cov 1 1), (480, 32, v 0),
    (512, 32, v 1), (544, 32, v 2), (576, 32, v 3), (608, 32, v 4), (640, 32, v 5), (672, 32, v 6), (704, 32, v 7),
    (736, 96, dtsBits c.lastUpdate), (832, 32, c.lastUpdateFrame), (864, 32, c.trackId)]

/-- The packet of a result that keeps the first `n` of its tracks. -/
def resultPacket (s : State) (h : ResultHead) (all chosen : List PropTrack) (n : Nat) : Bytes :=
  resultHeader s h n ++ patchEntries s all ++ sourceEntries s ++ (chosen.take n).flatMap trackRecord

/-- INVALID_REASON (Table 13.5, R385): SAFE, a re-map, a block reset of Glide, then propagation. -/
def invalidReason (s : State) (f : ResultForm) : Nat :=
  if s.dev.state == .safe then 2
  else if s.rink.remapAt.any (fun d => decide (d ≤ f.instant)) then 1
  else if s.glide.inReset then 3
  else if !f.done && f.reason == 0 then 4
  else f.reason

/-- FLAGS (Table 13.5). -/
def resultFlags (s : State) (e : EgoView) (reason qualified : Nat) : Nat :=
  flag (reason == 0) + 2 * flag e.pose.isSome + 4 * flag (e.pose.isSome && e.how == 1) + 8 * flag s.align.egoContested +
    16 * flag s.glide.recentred + 32 * flag (decide (fld s.glide.relevance 48 16 < qualified)) +
    64 * flag (s.glide.updatesDropped != 0) + 128 * flag s.glide.storeFull + 256 * flag (bitAt (setting s 0x0504 0) 8) +
    reason * 65536

/-! ## Events (R393, R394) -/

/-- An event takes what the tick states, once. -/
def stampEvent (s : State) (tick : Nat) (e : Event) : Event :=
  if e.tick ≠ 0 then e
  else { e with
    tick := tick, anchorSeq := s.rink.anchorSeq, timeState := s.time.state.code, timeValid := s.time.valid,
    errorUs := if !s.time.valid then 2 ^ 32 - 1 else match errorBound s with
      | some b => min (b / usUnits) (2 ^ 32 - 1)
      | none => 2 ^ 32 - 1,
    sentry := inSentry s, degraded := s.dev.tickDegradation != 0 }

/-- Ascending DETECTION_INSTANT, RULE, TRACK_ID. -/
def eventBefore (a b : Event) : Bool :=
  if a.detection ≠ b.detection then decide (a.detection < b.detection)
  else if a.rule ≠ b.rule then decide (a.rule < b.rule)
  else decide (a.trackId ≤ b.trackId)

/-- The event record of Table 13.13. -/
def eventRecord (seq : Nat) (e : Event) : Bytes :=
  pack 63 [(0, 1, flag e.patchEvent), (1, 1, flag e.degraded), (8, 2, e.timeState), (10, 1, flag e.timeValid),
    (11, 1, flag e.sentry), (32, 8, e.existence), (40, 8, e.cls), (48, 8, e.zone), (56, 8, e.rule), (64, 8, e.kind),
    (72, 16, e.anchorSeq), (88, 32, e.errorUs), (120, 32, e.y), (152, 32, e.x), (184, 32, e.trackId),
    (216, 96, dtsBits e.evidence), (312, 96, dtsBits e.detection), (408, 64, e.tick), (472, 32, seq)]

/-- An event is written to its queue and to the journal. -/
def writeEvent (s : State) (e : Event) : State :=
  let b := eventRecord s.glide.eventSeq e
  bufferRecord 0x01 b (offerEvent b (modGlide (fun (g : Glide) => { g with eventSeq := (g.eventSeq + 1) % 2 ^ 32 }) s))

/-- The events due at a tick, in order. -/
def dueEvents (s : State) (tick : Nat) (t : Dts) : List Event :=
  ((s.glide.events.filter (fun e => decide (e.detection ≤ t))).map (stampEvent s tick)).sortBy eventBefore

/-- Up to 256 events of a tick are written; the others keep their place. -/
def writeEvents (due : List Event) (t : Dts) (s : State) : State :=
  let s1 := modGlide (fun (g : Glide) => { g with
    events := due.drop 256 ++ g.events.filter (fun e => !decide (e.detection ≤ t)), deferred := due.length - 256 }) s
  (due.take 256).foldl writeEvent s1

/-! ## A tick's result (R169, R380, R409, R413, R453) -/

/-- The first valid result after an entry into RUN begins normal service and the toggling. -/
def beginService (valid : Bool) (written : Option Nat) (s : State) : State :=
  if valid && written.isSome && inRun s && !s.dev.firstValid then
    startToggling (modDev (fun (d : Dev) => { d with firstValid := true }) s)
  else s

/-- The result enters its queue, or is counted LOST; what the device keeps of it. -/
def putResult (h : ResultHead) (all chosen : List PropTrack) (valid : Bool) (s : State) : State :=
  let r := offerResult h.instant chosen.length (resultPacket s h all chosen) s
  let crc := match r.2 with
    | some m => crc32c (resultPacket s h all chosen m)
    | none => 0
  let s1 := modSafety (fun (x : Safety) => { x with
    formedTick := h.tick, formedInstant := h.instant, resultCrc := crc, resultValid := valid }) r.1
  let s2 := match r.2 with
    | some m => modGlide (fun (g : Glide) => { g with lastOrder := (chosen.take m).map (fun p => p.track.trackId) })
        (modDev (fun (d : Dev) => { d with tickNumber := h.tick, tickInstant := h.instant }) s1)
    | none => s1
  beginService valid r.2 (modDev (fun (d : Dev) => { d with nextTickNumber := h.tick + 1 }) s2)

/-- The propagated tracks of a tick with their zones. -/
def zonedTracks (s : State) (f : ResultForm) : List PropTrack :=
  f.tracks.map (fun p => { p with zones := zoneMask s.glide.zones p })

/-- The result of tick instant t is formed and written, then its events, its heartbeat and what peers are sent. -/
def formResult (t : Dts) (f : ResultForm) (s : State) : State :=
  let tick := s.dev.nextTickNumber
  let e := egoView s t
  let s1 := noteEgo e s
  let v := viewPoint s1 e
  let ps := zonedTracks s1 f
  let s2 := evalRules t (distanceTo v) ps (modGlide (fun (g : Glide) =>
    { g with store := g.store.map (fun c => match ps.find? (fun p => p.track.index == c.index) with
      | some p => { c with zones := p.zones }
      | none => c) }) s1)
  let sel := selectTracks s2 v ps
  let reason := invalidReason s2 f
  let due := dueEvents s2 tick t
  let h : ResultHead :=
    { kind := 1, tick := tick, instant := t, flags := resultFlags s2 e reason sel.2, qualified := sel.2,
      live := ps.length, deferred := due.length - 256, ego := e }
  let s3 := putResult h ps sel.1 (reason == 0) s2
  let s4 := kickGate 1 t s3
  let s5 := modRink (fun (r : Rink) => { r with remapAt := r.remapAt.filter (fun d => decide (t < d)) })
    (modGlide (fun (g : Glide) => { g with result := none, inReset := false })
      (setTime (fun (tb : TimeBase) => { tb with openTick := none }) s4))
  sendStatus tick (sendAnchors tick t (poseAt s5 t) (heartbeat tick (writeEvents due t s5)))

/-- The form of a tick whose cut-off was never raised. -/
def lateForm (s : State) (t : Dts) : ResultForm :=
  { tick := s.dev.nextTickNumber, instant := t, tracks := propagateAll t s, done := false, reason := 4 }

/-- EGO_STATE_FORM: the first pose entry at or after the open tick's instant is written, or 150 µs have
passed; the result follows no earlier than 60 µs after t (R169, Table 1.1). -/
def execEgoStateForm (s : State) : Host.Outcome State Fault Refusal :=
  awakeAnswer s fun s =>
    match s.time.openTick with
    | none => s
    | some t =>
      let written := s.align.history.any (fun p => decide (t ≤ p.time))
      if !ticking s || decide (now s < t + 60 * usUnits) || !(written || decide (t + 150 * usUnits ≤ now s)) then s
      else formResult t ((s.glide.result.filter (fun f => f.instant == t)).getD (lateForm s t)) s

/-! ## The RESTART record (R17, R386) -/

/-- The last whole millisecond of device time. -/
def restartInstant (s : State) : Dts := now s / msUnits * msUnits

/-- The RESTART record. -/
def restartRecord (s : State) : Bytes :=
  let h : ResultHead :=
    { kind := 2, tick := 0, instant := restartInstant s, flags := s.pins.restartCause * 2 ^ 24 + 6 * 65536, qualified := 0,
      live := 0, deferred := 0, ego := { how := 2, pose := none } }
  resultPacket s h [] [] 0

end Sys2Proof.Machine
end

