-- ==== Sys2Proof/Machine/BootUnit.lean ====
section
/-! DEFINITION. Resets and BOOT: the reset pins, the device reset, what each kind of reset keeps, and the end of BOOT (R33,
R59, R83, R253, R259, R386, R457, R468, R525 to R531, R565 to R568, R580). -/

namespace Sys2Proof.Machine

/-! ## What a reset keeps (R59, R259, R430, R439, R447, R580) -/

/-- The record as a device reset leaves it: closed (Table 15.6). -/
def closedRecord (r : FaultRecord) : FaultRecord :=
  { r with isOpen := false, awaitingFrom := none, shadow := false, closeDue := false }

/-- Patrol after a device reset: log, latch, marks and the counters that only a power-on clears. -/
def keptPatrol (p : Patrol) : Patrol :=
  { (default : Patrol) with
    log := p.log.map closedRecord, nextSeq := p.nextSeq, latch := p.latch.map closedRecord, marks := p.marks,
    overwritten := p.overwritten, shadowMasked := p.shadowMasked, ceCount := p.ceCount, ucCount := p.ucCount,
    faCount := p.faCount, transientCount := p.transientCount, lastingCount := p.lastingCount,
    lateReports := p.lateReports }

/-- The time base after a reset that does not touch it (R580). -/
def keptTime (tb : TimeBase) : TimeBase :=
  { TimeBase.reset with
    count := tb.count, countCopy := tb.countCopy, running := tb.running, offset := tb.offset, baseCount := tb.baseCount,
    freq := tb.freq, state := tb.state, valid := tb.valid, stepCount := tb.stepCount, lastError := tb.lastError,
    validFreq := tb.validFreq, holdoverFrom := tb.holdoverFrom, b0 := tb.b0, limitNoted := tb.limitNoted,
    lastAdjust := tb.lastAdjust, bridgeFrom := tb.bridgeFrom }

/-- The servo at a reset: SLEW zero, the phase correction discarded, LOCKED to HOLDOVER, ACQUIRING to FREE_RUN (R580). -/
def settleServo (s : State) : State :=
  let s1 := setTime (fun (tb : TimeBase) => { rebase tb tb.freq 0 with phase := 0 }) s
  match s1.time.state with
  | .locked => enterHoldover s1
  | .acquiring => enterFreeRun s1
  | _ => s1

/-- The tiles after a device reset: retirements persist (R259). -/
def keptTiles (r : Rink) : Vector Tile 49 :=
  Vector.ofFn (fun (t : Fin 49) =>
    if (vget r.tiles t.val).role == .retired then { (default : Tile) with role := .retired }
    else vget Rink.reset.tiles t.val)

/-- The solver pairs after a device reset. -/
def keptPairs (v : Solver) : Vector Pair 4 :=
  Vector.ofFn (fun (p : Fin 4) =>
    if (vget v.pairs p.val).state == .retired then { (default : Pair) with state := .retired } else default)

/-- What the always-on island keeps of power. -/
def keptPower (p : Power) : Power :=
  { p with
    change := none, standby := none, wakeWaiting := none, faInStandby := false, throttleRate := 0, throttleState := .off,
    held := false, coolFrom := none, excluded := 0, evaluated := 0, onDemand := [] }

/-- What flash, fuses and retention SRAM keep; the updates that ran have ended (R543). -/
def keptSecurity (x : Security) : Security :=
  { x with
    slots := x.slots.map (fun (f : FlashSlot) => { f with state := .invalid }), committedNow := (false, false), work := [],
    openBlock := none, nextIndex := 0, bootFlags := 0, bootTimeUs := 0, autoRun := 0, configSeq := 0,
    retention := { x.retention with unitsLost := false } }

/-- SET_OSC_CLASS stays in force until BOOT restores the settings: the holdover age and the bridge need it (R83, R580). -/
def keptSettings (s : State) : List (Nat × Bytes) := s.settings.filter (fun p => p.1 == settingKey 0x0202 0)

/-- The device reset itself: commands end without a reply, the queues are empty, EPOCH rises, FAULT_N is released, every
unit starts anew (R59, R457). A PORST_N (`cause` 1) leaves the time state for the bridge to settle at the release (R83). -/
def deviceReset (cause : Nat) (s : State) : State :=
  let dev (d : Dev) : Dev := { d with epoch := (s.dev.epoch + 1) % 2 ^ 32 }
  let lost := s.security.retention.unitsLost
  let point (p : PointState) : PointState := if lost then p else { p with retired := s.point.retired }
  let rink (r : Rink) : Rink := if lost then r else { r with tiles := keptTiles s.rink }
  let solver (v : Solver) : Solver := if lost then v else { v with pairs := keptPairs s.solver }
  let glide (g : Glide) : Glide := if lost then g else { g with pairsRetired := s.glide.pairsRetired }
  let marks (p : Patrol) : Patrol := if lost then { p with marks := [] } else p
  let peers (p : Peers) : Peers := { p with role := s.peers.role, samples := s.peers.samples }
  let pins (p : Pins) : Pins := { p with
    restartCause := if s.security.retention.safeMarker then 4 else cause, booting := true, resetDue := none,
    refclk := true }
  let channel (c : Channel) : Channel := { (default : Channel) with rowsMarked := if lost then 0 else c.rowsMarked }
  let memory (m : Memory) : Memory := { m with channels := s.memory.channels.map channel }
  let boot := modDev (fun (d : Dev) => { d with state := .boot, posture := none }) s
  let servo := if cause = 1 then setTime (fun (tb : TimeBase) => { rebase tb tb.freq 0 with phase := 0 }) boot
    else settleServo boot
  { State.reset with
    dev := dev State.reset.dev, time := keptTime servo.time, patrol := marks (keptPatrol s.patrol),
    point := point State.reset.point, rink := rink Rink.reset, solver := solver State.reset.solver,
    glide := glide Glide.reset, peers := peers Peers.reset, power := keptPower s.power,
    security := keptSecurity s.security, pins := pins s.pins, memory := memory State.reset.memory,
    settings := keptSettings s, tx := s.tx, freeCount := s.freeCount, pending := s.pending }

/-- A power-on reset: only fuses and flash keep what they hold; the device waits for its first release. -/
def powerOnReset (s : State) : State :=
  let x := s.security
  let security (y : Security) : Security := { y with
    keys := x.keys, lifeCycle := x.lifeCycle, eventJournal := x.eventJournal, configJournal := x.configJournal,
    indexJournal := x.indexJournal, slots := x.slots.map (fun (f : FlashSlot) => { f with state := .invalid }) }
  let power (p : Power) : Power := { p with
    temps := s.power.temps, supplies := s.power.supplies, outOfRange := s.power.outOfRange }
  let pins (p : Pins) : Pins := { p with porstN := s.pins.porstN, wrstN := s.pins.wrstN }
  { State.reset with
    security := security Security.reset, power := power Power.reset, pins := pins State.reset.pins,
    tx := s.tx, freeCount := s.freeCount, pending := s.pending }

/-! ## The reset pins (R565, R566, R568) -/

/-- A pulse is taken as a reset: from 1 µs on; up to 200 ns it is ignored; between, it may be taken or not. -/
def pulseTaken (s : State) (ns : Nat) : Bool :=
  if ns ≤ 200 then false else if 1000 ≤ ns then true else freeNat 1 s == 1

/-- PORST_N goes low for a pulse of this length, or longer; `powerLost`: VDD_AON falls with it. Device time is held for the
bridge (R83). -/
def execPorstNAssert (pulseNs : Nat) (powerLost : Bool) (s : State) : Host.Outcome State Fault Refusal :=
  let s0 := if 200 < pulseNs ∧ pulseNs < 1000 then spent s else s
  answer s (
    if powerLost then powerOnReset { s0 with pins := { s0.pins with porstN := false } }
    else if !s.pins.porstN || !pulseTaken s pulseNs then s0
    else
      let from_ := if s.power.standby == some .asleep then s.time.bridgeFrom else now s
      let held (x : Retention) : Retention := { x with bridge := some from_ }
      let s1 := modSecurity (fun (x : Security) => { x with retention := held x.retention }) s0
      let s2 := deviceReset 1 s1
      setTime (fun (tb : TimeBase) => { tb with running := false })
        (modPower (fun (p : Power) => { p with plls := 0, tripped := false })
          { s2 with pins := { s2.pins with porstN := false, released := false, booting := false } }))

/-- COUNT and its copy restart at zero (R64). -/
def countFromZero (s : State) : State :=
  setTime (fun (tb : TimeBase) => { tb with count := 0, countCopy := 0, baseCount := 0, running := true }) s

/-- The port answers 2 ms from now (R33). -/
def answerLater (s : State) : State := setPort (fun (p : Port) => { p with answersFrom := some (countNow s + 2000 * countsPerUs) }) s

/-- PORST_N_EFFECTIVE_RELEASE: BOOT starts; device time starts at zero after a power-on, else it is bridged over
`aonPeriods` of the 32.768 kHz crystal since the assertion, or since the entry into Standby that it met. The straps are
sampled anew. -/
def execPorstNEffectiveRelease (aonPeriods : Nat) (s : State) : Host.Outcome State Fault Refusal :=
  answer s (if s.pins.released then s
    else
      let s1 := countFromZero s
      let s2 := match s.pins.aonKept, s.security.retention.bridge with
        | true, some b => bridgeTime b aonPeriods s1
        | _, _ => s1
      let cause := if !s.pins.aonKept then 0 else s.pins.restartCause
      let drop (x : Retention) : Retention := { x with bridge := none }
      let s3 := modPins (fun (p : Pins) => { p with
        porstN := true, aonKept := true, released := true, booting := true, restartCause := cause })
        (modSecurity (fun (x : Security) => { x with retention := drop x.retention }) s2)
      let s4 := modPeers (fun (p : Peers) => { p with samples := [], role := none }) s3
      sendTarget (answerLater (modPower (fun (p : Power) => { p with plls := 31 }) s4)))

/-- WRST_N goes low: what ran ends; VDD_AON state and the role stay. In Standby the time that passed is bridged. -/
def execWrstNAssert (pulseNs aonPeriods : Nat) (s : State) : Host.Outcome State Fault Refusal :=
  let s0 := if 200 < pulseNs ∧ pulseNs < 1000 then spent s else s
  answer s (
    if !s.pins.porstN || !s.pins.released || !s.pins.wrstN || s.power.tripped || !pulseTaken s pulseNs then s0
    else
      let s1 := if s.power.standby == some .asleep then bridgeTime s.time.bridgeFrom aonPeriods s0 else s0
      let s2 := deviceReset 2 s1
      modPower (fun (p : Power) => { p with plls := 31 })
        { s2 with pins := { s2.pins with wrstN := false, booting := false } })

/-- WRST_N is released: BOOT starts from its first step. -/
def execWrstNRelease (s : State) : Host.Outcome State Fault Refusal :=
  answer s (if s.pins.wrstN || !s.pins.porstN then s
    else answerLater (modPins (fun (p : Pins) => { p with wrstN := true, booting := true }) s))

/-- DEVICE_RESET_START: 1 ms after the reply to RESET_DEVICE. -/
def execDeviceResetStart (s : State) : Host.Outcome State Fault Refusal :=
  awakeAnswer s fun s =>
    match s.pins.resetDue with
    | some c =>
      if countNow s < c then s
      else
        answerLater (deviceReset 3 s)
    | none => s

/-! ## Self-test retirements (R253, R259, R468) -/

/-- A point engine is retired: a take or a build that it holds is abandoned, the shares change with the next take, and the
fourth retirement is fatal (R224 to R226). -/
def retirePe (p : Nat) (s : State) : State :=
  if 4 ≤ p || peRetired s p then s
  else
    let holds := (List.range 48).any (fun n => slotEngine s n == p) || (List.range 8).any (fun l => lidarEngine s l == p)
    let s1 := modPoint (fun (x : PointState) => { x with
      retired := setBit x.retired p, table := if holds && x.current.isSome then [] else x.table,
      current := if holds then x.current.map abandonTake else x.current }) s
    if s1.point.retired = 15 then report (sourceOf 0x06 p 0) 0 5 .fa 0 s1 else s1

/-- The engine that a source names is retired for a failed self-test or a failed checker; a source without an engine to
retire is fatal (R468). -/
def retireEngine (src : Nat) (s : State) : State :=
  let l4 := sourceL4 src
  match sourceSub src with
  | 0x03 => modPort l4 (fun (e : EthPort) => { e with down := true }) s
  | 0x06 => if l4 < 4 then retirePe l4 s else report src 0 5 .fa 0 s
  | 0x07 =>
    if 49 ≤ l4 then report src 0 5 .fa 0 s
    else if tileRole s l4 == .retired then s
    else
      let s1 := fence l4 s
      if 10 ≤ tilesRetired s1 then report (rinkFault l4 0) 0 5 .fa 0 s1 else s1
  | 0x09 => if l4 < 4 then retirePair l4 s else report src 0 5 .fa 0 s
  | 0x0A => if l4 < 16 then retirePropPair l4 s else report src 0 5 .fa 0 s
  | _ => report src 0 5 .fa 0 s

/-- The route table after the self-test: each slot of the extent in force takes the tile of its number where that tile
works, the others take the remaining working tiles in walk order, and what is left over are spares (R247, R253, R260). -/
def bootTiles (s : State) : State :=
  let reduced := decide (2 ≤ tilesRetired s)
  let slots := (extentPatches 0 0 reduced (reducedSide s)).map (fun g => slotIndex g.1 g.2)
  let own := slots.filter (fun n => tileWorks s n)
  let free := walkOrder.filter (fun t => tileWorks s t && !own.contains t)
  let rest := (slots.filter (fun n => !own.contains n)).zip free
  let all := own.map (fun (n : Nat) => (n, n)) ++ rest
  let s1 := (List.range 49).foldl (fun (t : State) x =>
    if !tileWorks t x then t
    else match all.find? (fun p => p.2 == x) with
      | some p => setRole x .service (some p.1) t
      | none => setRole x .spareReady none t) s
  modRink (fun (r : Rink) => { r with reduced := reduced }) s1

/-! ## The end of BOOT (R386, R525 to R531, R540, R546, R548) -/

/-- What BOOT finds on the die: units that fail their self-test, checkers that fail their injection, channels that fail
training. -/
def bootTests (b : BootReport) (s : State) : State :=
  let s1 := b.failedUnits.foldl (fun (t : State) u => retireEngine u.1 t) s
  let s2 := b.failedCheckers.foldl (fun (t : State) src => retireEngine src t) s1
  let s3 := b.failedChannels.foldl (fun (t : State) c => report (sourceOf 0x11 c 3) 0 5 .fa 0 t) s2
  runInjection true b.failedCheckers.length (bootTiles s3)

/-- The journals are scanned without the records that no longer read well (R534). -/
def scanJournals (bad : List (Nat × Nat)) (s : State) : State :=
  [0, 1, 2].foldl (fun (t : State) j => scanJournal j (dropBadRecords j bad t)) s

/-- The journals are scanned, RETURN_NONCE is drawn, LPDDR is trained, the settings and the plan are brought in. -/
def bootServices (s : State) : State :=
  let nonce := freeNat 64 s
  let fromValues := s.security.retention.training
  let trained (x : Retention) : Retention := { x with training := true }
  let s1 := modSecurity (fun (x : Security) => { x with returnNonce := nonce, retention := trained x.retention }) (spent s)
  let s2 := { s1 with memory := { s1.memory with
    channels := s1.memory.channels.map (fun (c : Channel) => { c with fromRetention := fromValues }) } }
  loadFlashPlan (resumeTime (configRestore s2))

/-- The RESTART record opens the epoch in the result queue, an EPOCH record in the event journal. -/
def openEpoch (s : State) : State :=
  let payload := bytesOfNat 4 s.dev.epoch ++ bytesOfNat 1 s.pins.restartCause ++ bytesOfNat 12 (dtsBits (restartInstant s))
  bufferRecord 0x03 payload (sendPacket 2 (restartRecord s) s)

/-- An FA has been reported since the reset: BOOT ends in SAFE (R526). -/
def bootFatal (s : State) : Bool :=
  (s.patrol.wires ++ s.patrol.arrived).any (fun r => r.cls == .fa && !r.injected) || s.patrol.faOpen

/-- BOOT ends. -/
def endBoot (s : State) : State :=
  let s1 := openEpoch s
  let cause := s1.pins.restartCause
  let clear (x : Retention) : Retention := { x with safeMarker := false }
  let s2 := modSecurity (fun (x : Security) => { x with retention := clear x.retention })
    (modPins (fun (p : Pins) => { p with booting := false }) s1)
  if bootFatal s2 then enterSafe true (now s2) s2
  else modDev (fun (d : Dev) => { d with
    state := .setup, autoDue := s2.security.autoRun != 0 && cause != 4 }) s2

/-- COUNT has gone on since the release of the reset: the port answers 2 ms after it (R33). -/
def sinceRelease (s : State) : Nat := countNow s + 2000 * countsPerUs - s.host.port.answersFrom.getD 0

/-- FLASH_RESET_N: low in reset and for 10 µs from the reset's release (Tables 20.5 and 20.8). -/
def flashResetN (s : State) : Bool :=
  !inReset s && !(s.dev.state == .boot && s.host.port.answersFrom.any (fun c =>
    decide (countNow s + 2000 * countsPerUs < c + 10 * countsPerUs)))

/-- BOOT_COMPLETE with what the die found, no earlier than the 3 ms that the training of LPDDR takes at least (Table 19.1).
BOOT_TIME_US is reckoned from the release of the reset. -/
def execBootComplete (report_ : BootReport) (s : State) : Host.Outcome State Fault Refusal :=
  awakeAnswer s fun s =>
    if s.dev.state != .boot || !s.pins.booting || decide (sinceRelease s < 3000 * countsPerUs) then s
    else
      let s0 := modSecurity (fun (x : Security) => { x with bootTimeUs := sinceRelease s / countsPerUs }) s
      let s1 := scanJournals report_.badRecords s0
      if report_.fuseMismatch then endBoot (report (securityFault 2) 0 5 .fa 0 s1)
      else match selectImage 0 s1 with
        | (s2, none) => endBoot (report (securityFault 0) 0 5 .fa 0 s2)
        | (s2, some _) => endBoot (bootServices (bootTests report_ s2))

end Sys2Proof.Machine
end

