-- ==== Sys2Proof/Machine/PowerUnit.lean ====
section
/-! DEFINITION. Power, clocks and thermal control: sensors, throttle, supply monitors, the non-volatile write inhibit, PLLs
and on-demand domains (R513 to R524, R564). -/

namespace Sys2Proof.Machine

/-! ## The readings (R518) -/

/-- The source number of a thermal sensor, a PLL and a supply monitor (Table 15.3). -/
def thermalFault (n : Nat) : Nat := sourceOf 0x0F 3 n
def pllFault (n : Nat) : Nat := sourceOf 0x0F 1 n
def supplyFault (n : Nat) : Nat := sourceOf 0x0F 2 n

/-- A sensor's latest reading in °C. -/
def tempOf (s : State) (n : Nat) : Int := vget s.power.temps n

/-- Sensors in service: not excluded. -/
def sensorsInService (s : State) : List Nat := (List.range 8).filter (fun n => !bitOf s.power.excluded n)

/-- tmax of R520: the highest reading of the sensors in service, and the lowest sensor that reads it. -/
def hottest (s : State) : Option (Nat × Int) :=
  (sensorsInService s).foldl (fun (best : Option (Nat × Int)) n => match best with
    | some b => if b.2 < tempOf s n then some (n, tempOf s n) else best
    | none => some (n, tempOf s n)) none

/-- The median of the readings but one. -/
def medianBut (l : List Int) (n : Nat) : Int := ((l.eraseIdx n).sortBy (fun a b => decide (a ≤ b))).getD 3 0

/-- A reading is out of range or out of agreement. -/
def readingBad (l : List Int) (n : Nat) : Bool :=
  let x := l.getD n 0
  decide (x < -50) || decide (150 < x) || decide (20 < (x - medianBut l n).natAbs)

/-- A retry of a source at a level is pending. The sensors and the throttle share their source numbers (R520). -/
def pendingAt (s : State) (src level : Nat) : Bool :=
  s.patrol.retries.any (fun r => r.source == src && r.level == level)

/-- The retry of a source at a level ends without a new detection. -/
def reportCleanAt (src level : Nat) (s : State) : State :=
  modPatrol (fun (p : Patrol) => { p with wires := p.wires ++
    [{ source := src, unit := 0, cls := .ce, level := level, detail := 0, at_ := now s, kind := .retryClean,
       injected := false }] }) s

/-- One sensor's reading is judged: bad, it is reported at L3; good after a detection, its retry ends clean. -/
def judgeSensor (l : List Int) (n : Nat) (s : State) : State :=
  if readingBad l n then report (thermalFault n) 0 3 .uc 0 s
  else if pendingAt s (thermalFault n) 3 then reportCleanAt (thermalFault n) 3 s else s

/-- Sensors whose fault state lasts: bad now, in a quiet period, or lasting (bits 8 and up). -/
def excludedNow (l : List Int) (s : State) : Nat :=
  (List.range 8).foldl (fun (m : Nat) n =>
    if readingBad l n || bitOf s.power.excluded (8 + n) || s.patrol.quiet.any (fun q => q.source == thermalFault n)
    then setBit m n else m) (s.power.excluded / 256 * 256)

/-- The limits of SET_THERMAL_LIMITS (Table 18.7). -/
def limits (s : State) : Bytes := setting s 0x0F02 0
def throttleC (s : State) : Int := (fld (limits s) 8 8 : Nat)
def shutdownC (s : State) : Int := (fld (limits s) 16 8 : Nat)
def hystC (s : State) : Int := (fld (limits s) 32 8 : Nat)

/-- tmax stands at a limit or above. -/
def atLeast (s : State) (limit : Int) : Bool :=
  match hottest s with
  | some b => decide (limit ≤ b.2)
  | none => false

/-- Readings are below THROTTLE_C − HYST_C since. -/
def settleCool (s : State) : State :=
  let cool := if atLeast s (throttleC s - hystC s) then none else some (s.power.coolFrom.getD (now s))
  modPower (fun (p : Power) => { p with coolFrom := cool }) s

/-- THERMAL_SENSOR_READ: the eight readings in whole °C. The junction's coming to SHUTDOWN_C is fatal (R522). -/
def execThermalSensorRead (readings : List Int) (s : State) : Host.Outcome State Fault Refusal :=
  awakeAnswer s fun s =>
    if readings.length ≠ 8 then s
    else
      let was := atLeast s (shutdownC s)
      let s1 := (List.range 8).foldl (fun (t : State) n => judgeSensor readings n t) s
      let s2 := modPower (fun (p : Power) => { p with
        temps := Vector.ofFn (fun (n : Fin 8) => readings.getD n.val 0), excluded := excludedNow readings s1 }) s1
      let s3 := settleCool s2
      match hottest s3 with
      | some b => if atLeast s3 (shutdownC s3) && !was then report (thermalFault b.1) 0 5 .fa 0 s3 else s3
      | none => s3

/-! ## The throttle (R520, R521) -/

/-- FLOOR_FPS and STEP_FPS. -/
def floorFps (s : State) : Nat := fld (limits s) 48 8
def stepFps (s : State) : Nat := fld (limits s) 40 8

/-- The throttle rate takes a value and a state. -/
def setThrottle (rate : Nat) (st : ThrottleState) (s : State) : State :=
  modPower (fun (p : Power) => { p with throttleRate := rate, throttleState := st }) s

/-- The throttle engages: a record at L4 with the hottest sensor, and the retry RETRY_S later. -/
def engage (n : Nat) (t : Dts) (s : State) : State :=
  report (thermalFault n) 0 4 .uc 0 (modPower (fun (p : Power) => { p with
    throttleRate := ratedRate s, engagedAt := t, throttleEvents := bump p.throttleEvents }) s)

/-- A step down. At the floor the throttle holds. -/
def throttleDown (s : State) : State :=
  let rate := max (s.power.throttleRate - stepFps s) (floorFps s)
  setThrottle rate (if rate = s.power.throttleRate then .holding else .steppingDown) s

/-- A step up; at the rate of R254 the throttle ends. -/
def throttleUp (s : State) : State :=
  let rate := s.power.throttleRate + stepFps s
  if ratedRate s ≤ rate then setThrottle 0 .off s else setThrottle rate .steppingUp s

/-- The procedure of R520 at a whole second `t`. -/
def throttleAt (t : Dts) (s : State) : State :=
  if s.power.held then setThrottle (floorFps s) .held s
  else match hottest s with
    | none => s
    | some b =>
      if throttleC s ≤ b.2 then throttleDown (if s.power.throttleRate = 0 then engage b.1 t s else s)
      else if s.power.throttleRate ≠ 0 ∧ (s.power.coolFrom.any (fun c => decide (c + 5 * secUnits ≤ t))) then
        throttleUp s
      else if s.power.throttleRate ≠ 0 then setThrottle s.power.throttleRate .holding s
      else s

/-- THROTTLE_EVALUATION: once at each whole second of device time. -/
def execThrottleEvaluation (s : State) : Host.Outcome State Fault Refusal :=
  awakeAnswer s fun s =>
    let sec := now s / secUnits
    if !inRun s || sec = s.power.evaluated then s
    else throttleAt (sec * secUnits) (modPower (fun (p : Power) => { p with evaluated := sec }) s)

/-- THROTTLE_RETRY: RETRY_S after the engagement, the reading decides (R432). -/
def execThrottleRetry (s : State) : Host.Outcome State Fault Refusal :=
  awakeAnswer s fun s =>
    let due := s.power.engagedAt + fld (limits s) 56 8 * secUnits
    match (List.range 8).find? (fun n => pendingAt s (thermalFault n) 4) with
    | some n =>
      if now s < due then s
      else if atLeast s (throttleC s) then report (thermalFault n) 0 4 .uc 0 s
      else reportCleanAt (thermalFault n) 4 s
    | none => s

/-- ANALOG_THERMAL_TRIP: every domain but the always-on island stops, until PORST_N (R522). -/
def execAnalogThermalTrip (s : State) : Host.Outcome State Fault Refusal :=
  answer s (if inReset s || s.power.tripped then s
    else
      let s1 := report (sourceOf 0x0F 0 0) 0 5 .fa 0 s
      let s2 := modSafety (fun (x : Safety) => { x with faultN := true }) (staticPins s1)
      setTime (fun (tb : TimeBase) => { tb with running := false })
        (modPower (fun (p : Power) => { p with tripped := true, plls := 0 }) s2))

/-! ## Supplies (R515, R517, Tables 18.6 and 20.13) -/

/-- The thresholds of a supply in units of 10 µV: under and over. -/
def supplyRange (n : Nat) : Int × Option Int :=
  match n with
  | 0 => ((vddTarget : Int) * 92, some ((vddTarget : Int) * 108))
  | 1 => (69000, some 81000)
  | 2 => (68000, some 83000)
  | 3 => (46000, some 54000)
  | 4 => (162000, some 198000)
  | 5 => (297000, some 363000)
  | _ => (172000, none)

/-- A level in mV is outside a supply's range. -/
def supplyUnder (n : Nat) (mv : Int) : Bool := decide (mv * 100 < (supplyRange n).1)
def supplyOver (n : Nat) (mv : Int) : Bool := (supplyRange n).2.any (fun top => decide (top < mv * 100))

/-- The absolute maximum of a supply in mV (Table 20.13). -/
def supplyMaximum (n : Nat) : Int :=
  match n with
  | 0 => 850
  | 1 => 900
  | 2 => 900
  | 3 => 650
  | 4 => 2200
  | 5 => 4000
  | _ => 2200

/-- A level beyond the absolute maximum ratings, where the device may be damaged at once (R573). -/
def beyondRatings (n : Nat) (mv : Int) : Bool := decide (mv < -300) || decide (supplyMaximum n < mv)

/-- A supply is monitored now (Table 18.6): in Standby only the always-on island's own three. -/
def monitored (s : State) (n : Nat) : Bool := !halted s || n == 2 || n == 4 || n == 6

/-- The level is recorded. -/
def recordLevel (n : Nat) (mv : Int) (s : State) : State :=
  let out := supplyUnder n mv || supplyOver n mv
  modPower (fun (p : Power) => { p with
    supplies := vset p.supplies n mv.toNat,
    outOfRange := if out then setBit p.outOfRange n else p.outOfRange &&& (127 - 2 ^ n) }) s

/-- The inhibit of a supply sets: flash operations in progress pause, the first setting counts (R517). -/
def setInhibit (n : Nat) (s : State) : State :=
  let s1 := if nvInhibited s then s
    else modSecurity (fun (x : Security) => { x with
        work := x.work.map (fun (w : FlashWork) => { w with pausedAt := some (w.pausedAt.getD (now s)) }) })
      (modPower (fun (p : Power) => { p with nvInhibitEvents := bump p.nvInhibitEvents }) s)
  modPower (fun (p : Power) => { p with
    io18Inhibit := p.io18Inhibit || n == 4, flashInhibit := p.flashInhibit || n == 6 }) s1

/-- Both supplies of the inhibit stand at 1.76 V or above since. -/
def settleInhibit (s : State) : State :=
  let good := decide (1760 ≤ vget s.power.supplies 4) && decide (1760 ≤ vget s.power.supplies 6)
  modPower (fun (p : Power) => { p with nvGoodFrom := if good then some (p.nvGoodFrom.getD (now s)) else none }) s

/-- A supply out of its range is fatal; in Standby FAULT_N falls and the next wake enters SAFE. -/
def supplyFatal (n : Nat) (s : State) : State :=
  let s1 := report (supplyFault n) 0 5 .fa 0 s
  if halted s then
    modSafety (fun (x : Safety) => { x with faultN := true })
      (modPower (fun (p : Power) => { p with faInStandby := true }) s1)
  else s1

/-- The crossing's effect. -/
def supplyCrossing (n : Nat) (mv : Int) (s : State) : State :=
  let was := bitOf s.power.outOfRange n
  let s1 := recordLevel n mv s
  if n = 2 ∧ supplyUnder 2 mv then powerOnReset s1
  else if inReset s1 || !monitored s1 n then s1
  else
    let s2 := if n = 4 ∨ n = 6 then settleInhibit (if mv < 1720 then setInhibit n s1 else s1) else s1
    if n ≠ 6 ∧ (supplyUnder n mv || supplyOver n mv) ∧ !was then supplyFatal n s2 else s2

/-- SUPPLY_MONITOR_CROSSING: a supply has stood at a level for 2 µs. -/
def execSupplyMonitorCrossing (supply : Nat) (millivolts : Int) (s : State) : Host.Outcome State Fault Refusal :=
  if 6 < supply then answer s s
  else if beyondRatings supply millivolts then .fault .beyondAbsoluteMaximum
  else answer s (supplyCrossing supply millivolts s)

/-- NV_INHIBIT_CLEAR: both supplies have stood at 1.76 V or above for 10 ms; what paused goes on (R517). -/
def execNvInhibitClear (s : State) : Host.Outcome State Fault Refusal :=
  awakeAnswer s fun s =>
    if !nvInhibited s || !(s.power.nvGoodFrom.any (fun t => decide (t + 10 * msUnits ≤ now s))) then s
    else
      modSecurity (fun (x : Security) => { x with
          work := (x.work.filter (fun (w : FlashWork) => w.stage != 0)).map
            (fun (w : FlashWork) => { w with pausedAt := none }) })
        (modPower (fun (p : Power) => { p with io18Inhibit := false, flashInhibit := false }) s)

/-- A paused command ends: its target, begun, is left invalid (R517, R543). -/
def endPaused (w : FlashWork) (s : State) : State :=
  let s1 := concludeKey w.key stSupplyLow 0 [] (dropWorkOf w.key s)
  if w.stage = 0 then s1
  else match flightOf w.key s with
    | some c => setFlash (fld c.params 0 8) (targetSlot s (fld c.params 0 8)) .invalid s1
    | none => s1

/-- NV_PAUSE_TIMEOUT: the inhibit has held a command for 2 s. -/
def execNvPauseTimeout (s : State) : Host.Outcome State Fault Refusal :=
  awakeAnswer s fun s =>
    (s.security.work.filter (fun w => w.pausedAt.any (fun t => decide (t + 2 * secUnits ≤ now s)))).foldl
      (fun (t : State) w => endPaused w t) s

/-! ## PLLs and on-demand domains (R513, R514) -/

/-- PLL_LOCK_LOSS: fatal for PLL_TB, PLL_CORE and PLL_MEM; PLL_IO and PLL_CTL are retried by one relock, and a loss before
the relock is the retry's own. -/
def execPllLockLoss (pll : Nat) (s : State) : Host.Outcome State Fault Refusal :=
  awakeAnswer s fun s =>
    if 4 < pll then s
    else if !bitOf s.power.plls pll then
      (if 3 ≤ pll && pendingAt s (pllFault pll) 4 then report (pllFault pll) 0 4 .uc 0 s else s)
    else
      let s1 := modPower (fun (p : Power) => { p with plls := p.plls &&& (31 - 2 ^ pll) }) s
      if pll < 3 then report (pllFault pll) 0 5 .fa 0 s1 else report (pllFault pll) 0 4 .uc 0 s1

/-- PLL_RELOCK: the relock of PLL_IO or PLL_CTL succeeds. -/
def execPllRelock (pll : Nat) (s : State) : Host.Outcome State Fault Refusal :=
  awakeAnswer s fun s =>
    if pll < 3 || 4 < pll || bitOf s.power.plls pll then s
    else
      let s1 := modPower (fun (p : Power) => { p with plls := setBit p.plls pll }) s
      if retryPending s (pllFault pll) 0 then reportCleanAt (pllFault pll) 4 s1 else s1

/-- PMBUS_RETRY: the regulator did not acknowledge; four tries more, 1 ms apart, then a CE record (R564). -/
def execPmbusRetry (acknowledged : Bool) (s : State) : Host.Outcome State Fault Refusal :=
  awakeAnswer s fun s =>
    if s.power.pmbusDone || 4 ≤ s.power.pmbusTries || decide (countNow s < s.power.pmbusAt + 1000 * countsPerUs) then s
    else
      let s1 := tryTarget (modPower (fun (p : Power) => { p with
        pmbusTries := p.pmbusTries + 1, pmbusDone := acknowledged }) s)
      if !acknowledged && s1.power.pmbusTries == 4 then report (supplyFault 0) 0 4 .ce 0 s1 else s1

/-- ON_DEMAND_DOMAIN_STOP: 10 ms after its last use. -/
def execOnDemandDomainStop (domain : Nat) (s : State) : Host.Outcome State Fault Refusal :=
  awakeAnswer s fun s =>
    modPower (fun (p : Power) => { p with
      onDemand := p.onDemand.filter (fun x => !(x.1 == domain && decide (x.2 + 10 * msUnits ≤ now s))) }) s

/-! ## The commands of the Power group -/

/-- A supply's measured level: within ±1 % of the level last recorded; free where the run has recorded none. -/
def supplyLevel (n : Nat) (s : State) : Nat × State :=
  let v := vget s.power.supplies n
  let r := freeNat 16 s
  if v = 0 then (r, spent s) else (v - v / 100 + r % (2 * (v / 100) + 1), spent s)

/-- The levels of supplies, in turn. -/
def supplyLevels : List Nat → State → List Nat × State
  | [], s => ([], s)
  | n :: ns, s =>
    let r := supplyLevel n s
    let t := supplyLevels ns r.2
    (r.1 :: t.1, t.2)

/-- THROTTLE_STATE's code (Table 18.9). -/
def ThrottleState.code : ThrottleState → Nat
  | .off => 0
  | .steppingDown => 1
  | .holding => 2
  | .steppingUp => 3
  | .held => 4

/-- TEMP_MAX's code: free where no sensor is in service. -/
def tempMaxCode (s : State) : Nat :=
  match hottest s with
  | some b => codeOf 8 b.2
  | none => freeNat 8 s

/-- GET_POWER's block (Table 18.9), with the voltages measured and the estimate of POWER_MW. -/
def powerBlock (s : State) (mv : List Nat) (power tmax : Nat) : Bytes :=
  let p := s.power
  let v (n : Nat) : Nat := mv.getD n 0
  pack 64 ([(0, 96, dtsBits p.lastWake), (104, 8, postureCode s.dev.posture), (112, 1, flag p.io18Inhibit),
    (113, 1, flag p.flashInhibit), (120, 8, p.wakeInput), (128, 8, p.wakeCause), (136, 8, p.throttleState.code),
    (144, 8, p.throttleRate), (152, 8, tmax)] ++
    (List.range 8).map (fun n => (160 + 8 * n, 8, codeOf 8 (tempOf s n))) ++
    [(224, 16, vddTarget), (240, 16, v 0), (256, 16, v 1), (272, 16, v 2), (288, 16, v 3), (304, 16, v 6), (320, 16, v 4),
     (336, 16, v 5), (352, 32, power), (384, 32, p.wakeCount), (416, 32, p.nvInhibitEvents), (448, 32, p.throttleEvents),
     (480, 32, p.nvEventsLost)])

def execGetPower (k : CmdKey) (s : State) : Host.Outcome State Fault Refusal :=
  runCommand k 0x0F00 (fun c s =>
    let m := supplyLevels (List.range 7) s
    let power := freeNat 32 m.2
    let s1 := spent m.2
    doneWith c (powerBlock s m.1 power (tempMaxCode s1)) (spent s1)) s

def execSetWakeSources (k : CmdKey) (s : State) : Host.Outcome State Fault Refusal :=
  runCommand k 0x0F01 (fun c s => done c (putSetting 0x0F01 0 c.params s)) s

def execSetThermalLimits (k : CmdKey) (s : State) : Host.Outcome State Fault Refusal :=
  runCommand k 0x0F02 (fun c s => done c (putSetting 0x0F02 0 c.params s)) s

end Sys2Proof.Machine
end

