-- ==== Sys2Proof/Machine/PatrolUnit.lean ====
section
/-! DEFINITION. Patrol: the arrival of reports, the judgement of collector cycles, the escalation ladder, reactions, reset
shadows and the commands of its group (R58, R421 to R448). -/

namespace Sys2Proof.Machine

/-! ## Records, the fault log and the latch (R424 to R430) -/

/-- A class's place in R425's order. -/
def classRank (c : FaultClass) : Nat := classCode c

/-- The open record of a subsystem. -/
def openRec (s : State) (sub : Nat) : Option FaultRecord :=
  (s.patrol.opens.find? (fun x => x.1 == sub)).map (fun x => x.2)

/-- A record as a report opens it. -/
def newRecord (q : Report) : FaultRecord :=
  { firstDts := q.at_, source := q.source, cls := q.cls, level := max 2 (min 7 q.level), overflow := false,
    simultaneous := false, isOpen := !q.injected, host := false,
    action := if q.cls == .fa && !q.injected then 7 else 0, retry := .none, merged := 0, unit := q.unit,
    injected := q.injected, detail := q.detail, lastSource := 0, logSeq := 0, awaitingFrom := none, shadow := false,
    byReset := false, closeDue := false }

/-- The record as it stands takes the place of its copies in the log and the latch. -/
def updateCopies (r : FaultRecord) (s : State) : State :=
  modPatrol (fun (p : Patrol) => { p with
    log := p.log.map (fun (x : FaultRecord) => if x.logSeq == r.logSeq then r else x),
    latch := p.latch.map (fun (x : FaultRecord) => if x.logSeq == r.logSeq then r else x) }) s

/-- The open record of its subsystem. -/
def putRec (r : FaultRecord) (s : State) : State :=
  updateCopies r (modPatrol (fun (p : Patrol) => { p with opens := assocSet p.opens (sourceSub r.source) r }) s)

/-- The open record of a subsystem is changed. -/
def modRec (sub : Nat) (f : FaultRecord → FaultRecord) (s : State) : State :=
  match openRec s sub with
  | some r => putRec (f r) s
  | none => s

/-- A record closes (Table 15.6): one of FA class only at a device reset, one in a reset shadow when that closes. -/
def closeRec (sub : Nat) (s : State) : State :=
  match openRec s sub with
  | none => s
  | some r =>
    if r.cls == .fa then s
    else if r.shadow then putRec { r with awaitingFrom := none, closeDue := true } s
    else
      updateCopies { r with isOpen := false, awaitingFrom := none, closeDue := false }
        (modPatrol (fun (p : Patrol) => { p with opens := p.opens.filter (fun x => x.1 != sub) }) s)

/-- A record of a class is counted (R447): as it opens, and in the class that a merge or a verdict raises it to. -/
def countClass (c : FaultClass) (s : State) : State :=
  modPatrol (fun (p : Patrol) => match c with
    | .ce => { p with ceCount := bump p.ceCount }
    | .uc => { p with ucCount := bump p.ucCount }
    | .fa => { p with faCount := bump p.faCount }) s

/-- A record enters the fault log and the counters (R430, R447); an open one is its subsystem's. -/
def logRecord (r : FaultRecord) (s : State) : State :=
  let r1 := { r with logSeq := s.patrol.nextSeq }
  let full := decide (512 ≤ s.patrol.log.length)
  modPatrol (fun (p : Patrol) => { p with
    log := (if full then p.log.drop 1 else p.log) ++ [r1],
    nextSeq := (p.nextSeq + 1) % 2 ^ 32,
    overwritten := if full then bump p.overwritten else p.overwritten,
    opens := if r1.isOpen then assocSet p.opens (sourceSub r.source) r1 else p.opens }) (countClass r.cls s)

/-- A record that holds the first fault is latched, with the notice FAULT (R428). -/
def latchRec (sub : Nat) (s : State) : State :=
  match openRec s sub with
  | some r => notice causeFault (modPatrol (fun (p : Patrol) => { p with latch := some r }) s)
  | none => s

/-- Another record opens after the latched one. -/
def markOverflow (s : State) : State :=
  match s.patrol.latch with
  | none => s
  | some l =>
    if l.isOpen then modRec (sourceSub l.source) (fun (r : FaultRecord) =>
      if r.logSeq == l.logSeq then { r with overflow := true } else r) s
    else modPatrol (fun (p : Patrol) => { p with latch := some { l with overflow := true } }) s

/-- A record that a verdict or a block reset opens, outside the judgement of a report. -/
def openNow (r : FaultRecord) (s : State) : State :=
  let s1 := logRecord r s
  if s1.patrol.latch.isSome then markOverflow s1
  else if r.cls == .ce then s1 else latchRec (sourceSub r.source) s1

/-- merge(e, q) of R425; a merge that raises the record to FA stops its timer (R427, R435). -/
def mergeInto (e : FaultRecord) (q : Report) : FaultRecord :=
  let fatal := q.cls == .fa
  { e with
    cls := if classRank e.cls < classRank q.cls then q.cls else e.cls,
    level := if fatal then max e.level (max 2 (min 7 q.level)) else e.level,
    action := if fatal then 7 else e.action,
    awaitingFrom := if fatal then none else e.awaitingFrom,
    overflow := true, merged := min (e.merged + 1) 255, lastSource := q.source }

/-! ## Reset shadows (R441, R442) -/

/-- A subsystem's reset shadow is open. -/
def shadowOpen (s : State) (sub : Nat) : Bool := s.patrol.shadows.any (fun x => x.subsystem == sub)

/-- A report falls into a reset shadow of its own subsystem, by its detection instant: one still open, or the latest that has
closed. -/
def inShadow (s : State) (q : Report) : Bool :=
  s.patrol.shadows.any (fun x => x.subsystem == sourceSub q.source && decide (x.since ≤ q.at_)) ||
    s.patrol.closedShadows.any (fun x => x.1 == sourceSub q.source && decide (x.2.1 ≤ q.at_) && decide (q.at_ < x.2.2))

/-- A report is masked: a detector of the resetting block, which for Glide leaves out the track store that the reset
keeps; an FA detector never is. -/
def shadowMasks (s : State) (q : Report) : Bool :=
  q.kind == .detection && q.cls != .fa && !q.injected && inShadow s q &&
    !(sourceSub q.source == 0x0A && sourceL4 q.source == 16)

/-! ## Block resets (R58, R441 to R445) -/

/-- What a block reset of a subsystem re-initialises. Where its chapter lays nothing down, the units start anew and what was
in progress in them is dropped. -/
def resetBlock (sub : Nat) (s : State) : State :=
  match sub with
  | 0x03 => ptpStart s
  | 0x04 => (List.range 26).foldl (fun (t : State) i => startSource i (sourceConfigured t i) t)
      ((List.range 8).foldl (fun (t : State) r =>
        modReceiver r (fun (x : Receiver) => { x with frame := none, dropping := false }) t) s)
  | 0x05 => modAlign (fun (a : Align) => { a with
      history := [], fused := default, alone := default, aloneFrom := default, scan := none, wheelFit := none }) s
  | 0x06 => resetPoint s
  | 0x08 => modPlans (fun (p : Plans) => { p with swap := none }) (dropLoading s)
  | 0x09 => deliverJobs (resetSolver s)
  | 0x0A => resetGlide s
  | 0x0B => resetQueues s
  | 0x0E => resetPeers s
  | _ => s

/-- A reset that an open record caused: a reaction's or a retry's, not RESET_SUBSYSTEM's. -/
def resetOfRecord (key : Option CmdKey) (s : State) : Bool :=
  match key with
  | none => true
  | some k => match flightOf k s with
    | some c => c.op == 0x0C02
    | none => false

/-- The record of a block reset: its own, or the open record that it is noted in (R441). -/
def noteReset (sub : Nat) (key : Option CmdKey) (s : State) : State :=
  match openRec s sub with
  | some r =>
    let r1 := { r with action := max r.action 6, shadow := true }
    putRec (if resetOfRecord key s then r1
      else { r1 with merged := min (r.merged + 1) 255, lastSource := sub * 128 }) s
  | none =>
    let q : Report := { source := sub * 128, unit := 0, cls := .ce, level := 5, detail := 0, at_ := now s,
                        kind := .detection, injected := false }
    openNow { newRecord q with action := 6, shadow := true, byReset := true } s

/-- A block reset starts: the shadow opens, the subsystem's commands end, but the Queues subsystem's go on (R416). -/
def beginReset (sub : Nat) (key : Option CmdKey) (s : State) : State :=
  let s1 := noteReset sub key s
  let s2 := modPatrol (fun (p : Patrol) => { p with
    shadows := p.shadows ++ [{ subsystem := sub, since := now s, by_ := key }] }) s1
  let s3 := resetBlock sub s2
  if sub = 0x0B then s3 else endCommands (fun c => c.op / 256 == sub) s3

/-- A block reset is asked for: a second one of the same subsystem waits, and one of Glide waits for its slot (R441,
R444). -/
def requestReset (sub : Nat) (key : Option CmdKey) (s : State) : State :=
  if shadowOpen s sub || s.patrol.resetsWaiting.any (fun x => x.1 == sub) ||
      (sub == 0x0A && s.glide.blockResetDue.isSome) then
    modPatrol (fun (p : Patrol) => { p with resetsWaiting := p.resetsWaiting ++ [(sub, key)] }) s
  else if sub = 0x0A ∧ ticking s then modGlide (fun (g : Glide) => { g with blockResetDue := some key }) s
  else beginReset sub key s

/-- GLIDE_BLOCK_RESET: t + 400 µs of a tick, after that tick's events and before the next cut-off (R444). -/
def execGlideBlockReset (s : State) : Host.Outcome State Fault Refusal :=
  awakeAnswer s fun s =>
    match s.glide.blockResetDue with
    | none => s
    | some key =>
      let slot := decide (s.safety.formedInstant + 400 * usUnits ≤ now s) && s.time.openTick.isNone &&
        !(s.time.nextTick.isSome && s.time.cutoff == s.time.nextTick)
      if ticking s && !slot then s
      else beginReset 0x0A key (modGlide (fun (g : Glide) => { g with blockResetDue := none }) s)

/-- The Gates of the stages that consume a block's output, directly or through later stages (R443). -/
def gatesAfter (sub : Nat) : List Nat :=
  match sub with
  | 0x02 => List.range 8
  | 0x04 => [1, 2, 3, 4, 5, 6, 7]
  | 0x05 => [1, 4, 5, 6, 7]
  | 0x06 => [1, 6, 7]
  | 0x09 => [1, 7]
  | 0x0A => [1]
  | _ => []

/-- What a command waits for has happened: it replies. -/
def replyTo (k : CmdKey) (s : State) : State :=
  match flightOf k s with
  | some c => if isLong c.op then conclude c stDone 0 [] s else done c s
  | none => s

/-- The next waiting reset of a subsystem starts. -/
def nextReset (sub : Nat) (s : State) : State :=
  match s.patrol.resetsWaiting.find? (fun x => x.1 == sub) with
  | none => s
  | some x =>
    let rest := modPatrol (fun (p : Patrol) => { p with resetsWaiting := p.resetsWaiting.erase x }) s
    let others := rest.patrol.resetsWaiting
    let s1 := requestReset sub x.2 (modPatrol (fun (p : Patrol) => { p with
      resetsWaiting := others.filter (fun y => y.1 != sub) }) rest)
    modPatrol (fun (p : Patrol) => { p with
      resetsWaiting := p.resetsWaiting ++ others.filter (fun y => y.1 == sub) }) s1

/-- The record of a reset as its shadow closes. -/
def endShadowRec (sub : Nat) (s : State) : State :=
  match openRec s sub with
  | none => s
  | some r =>
    let s1 := putRec { r with shadow := false } s
    if (r.byReset && r.awaitingFrom.isNone && r.retry != .pending) || r.closeDue then closeRec sub s1 else s1

/-- BLOCK_RESET_COMPLETE: the shadow closes, the Gates downstream are extended by a tick (R443, R464), the command that
asked replies. -/
def execBlockResetComplete (subsystem : Nat) (s : State) : Host.Outcome State Fault Refusal :=
  awakeAnswer s fun s =>
    match s.patrol.shadows.find? (fun x => x.subsystem == subsystem) with
    | none => s
    | some x =>
      let s1 := modPatrol (fun (p : Patrol) => { p with
        shadows := p.shadows.filter (fun y => y.subsystem != subsystem),
        closedShadows := assocSet p.closedShadows subsystem (x.since, now s) }) s
      let s2 := endShadowRec subsystem s1
      let s3 := (gatesAfter subsystem).foldl (fun (t : State) g =>
        modGate g (fun (y : Gate) => { y with extendNext := true }) t) s2
      let s4 := if subsystem = 0x0B then endQueuesReset s3 else s3
      let s5 := match x.by_ with
        | some k => replyTo k s4
        | none => s4
      nextReset subsystem s5

/-! ## Containment (R435, Table 15.8) -/

/-- The containment of a lasting L4 fault: its ACTION code (Table 15.5) and the state after it. -/
def contain (src : Nat) (s : State) : Nat × State :=
  let l4 := sourceL4 src
  match sourceSub src with
  | 0x01 => (4, s)
  | 0x02 => (4, setTime (fun (tb : TimeBase) => { tb with disabled := setBit tb.disabled l4 }) s)
  | 0x03 => (4, modPort l4 (fun (e : EthPort) => { e with down := true }) s)
  | 0x04 => (4, if l4 < 26 then modSource l4 (fun (m : Source) => { m with state := .absent }) s else s)
  | 0x05 =>
    (4, if l4 < 26 then modTrust l4 (fun (t : SourceTrust) => { t with trust := .excluded, shadowRun := 0 }) s
      else if 28 ≤ l4 ∧ l4 ≤ 30 then
        modVoter (l4 - 28) (fun (v : Voter) => { v with trust := .excluded, shadowRun := 0 }) s
      else s)
  | 0x06 => if l4 < 4 then (5, retirePe l4 s) else (0, s)
  | 0x07 => if l4 < 49 then (5, retireTile l4 s) else (0, s)
  | 0x08 => (1, endCommands (fun c => c.op == 0x0800 && c.started.isSome) (dropLoading s))
  | 0x09 => if l4 < 4 then (5, deliverJobs (retirePair l4 s)) else (0, s)
  | 0x0A => if l4 < 16 then (5, retirePropPair l4 s) else (0, s)
  | 0x0B => (6, s)
  | 0x0D => (4, s)
  | 0x0E => (4, modPeer l4 (fun (x : Peer) => { x with
      phase := if x.phase == .lost then .lost else .invalid, goodRun := 0, regionValid := false }) s)
  | 0x0F =>
    let lasting := if l4 = 3 then setBit s.power.excluded (8 + sourceL3 src) else s.power.excluded
    (0, setThrottle (floorFps s) .held (modPower (fun (p : Power) => { p with held := true, excluded := lasting }) s))
  | 0x11 => (4, { s with memory := { s.memory with
      channels := vmod s.memory.channels l4 (fun (c : Channel) => { c with fenced := true }) } })
  | _ => (0, s)

/-! ## The escalation ladder (R432 to R434, Table 15.7) -/

/-- The limits of SET_RECOVERY_LIMITS (Table 15.11). -/
def quietMs (s : State) : Nat := fld (setting s 0x0C04 0) 0 16
def recoveryMax (s : State) : Nat := fld (setting s 0x0C04 0) 16 8
def windowS (s : State) : Nat := fld (setting s 0x0C04 0) 32 32
def markLimit (s : State) : Nat := fld (setting s 0x0C04 0) 64 16

/-- Two sources name one L4 engine. -/
def sameEngine (a b : Nat) : Bool := sourceSub a == sourceSub b && sourceL4 a == sourceL4 b

/-- The marked elements of an engine. -/
def marksOf (s : State) (src : Nat) : List Mark := s.patrol.marks.filter (fun m => sameEngine m.source src)

/-- The record is the retry's own (R426). -/
def ownRecord (p : PendingRetry) (r : FaultRecord) : Bool := r.source == p.source && r.unit == p.unit

/-- A record for a verdict to stand in: the open one, else one of its own (R426). -/
def ensureOpen (p : PendingRetry) (s : State) : State :=
  if (openRec s (sourceSub p.source)).isSome then s
  else
    let q : Report := { source := p.source, unit := p.unit, cls := .uc, level := 4, detail := 0, at_ := now s,
                        kind := .detection, injected := false }
    openNow (newRecord q) s

/-- Lasting at L4: containment at once, and the reaction timer starts where it does not run (R426, R435). -/
def escalate (p : PendingRetry) (s : State) : State :=
  let (a, s1) := contain p.source (ensureOpen p s)
  modRec (sourceSub p.source) (fun (r : FaultRecord) => { r with
    level := max r.level 4, action := max r.action a, retry := .lasting,
    awaitingFrom := if r.cls == .fa then none else some (r.awaitingFrom.getD (now s)) }) s1

/-- The patch that a tile serves is lost for the frame in progress. -/
def loseTilePatch (tile : Nat) (s : State) : State :=
  match (vget s.rink.tiles tile).slot with
  | some n => if ownerOf s n == some tile then losePatch n s else s
  | none => s

/-- The source of a tile, and the UNIT that holds an SRAM word: 16 banks of 4,096 words (R423, Table 8.3). -/
def tileOf (src : Nat) : Option Nat :=
  if sourceSub src == 0x07 && sourceL3 src == 0 && decide (sourceL4 src < 49) then some (sourceL4 src) else none
def sramUnit (unit : Nat) : Bool := decide (12 ≤ unit) && decide (unit ≤ 27)

/-- An element is marked (R433): an LPDDR row counts in its channel (Table 2.18), an SRAM word loses its patch (R263), a track
context whose mirror failed too is deleted (R398). -/
def addMark (p : PendingRetry) (s : State) : State :=
  let m : Mark := { source := p.source, unit := p.unit, detail := p.detail }
  if s.patrol.marks.contains m then s
  else
    let s1 := modPatrol (fun (x : Patrol) => { x with marks := x.marks ++ [m] }) s
    if sourceSub p.source = 0x11 then { s1 with memory := { s1.memory with
      channels := vmod s1.memory.channels (sourceL4 p.source) (fun (c : Channel) =>
        { c with rowsMarked := satAdd 16 c.rowsMarked 1 }) } }
    else if sourceSub p.source = 0x0A ∧ sourceL4 p.source = 16 then deleteContext p.detail s1
    else match tileOf p.source with
      | some x => if sramUnit p.unit then loseTilePatch x s1 else s1
      | none => s1

/-- A lasting fault with nothing left to contain it: FA, SAFE (R420, Table 15.7). -/
def lastingFatal (p : PendingRetry) (s : State) : State :=
  let s1 := modRec (sourceSub p.source) (fun (r : FaultRecord) => { r with
    cls := .fa, level := max r.level (max 5 (min 7 p.level)), action := 7, retry := .lasting, awaitingFrom := none })
    (ensureOpen p s)
  enterSafe false (now s1) (modPatrol (fun (x : Patrol) => { x with faOpen := true }) (countClass .fa s1))

/-- A table store has no elements to mark: its lasting fault is its tile's (R290). -/
def tableStore (src unit : Nat) : Bool := (tileOf src).isSome && unit == 11

/-- A section of a plan that differs again when it is read again is fatal: the plan's weights are untrusted (Table 11.15). -/
def planSection (src : Nat) : Bool := sourceSub src == 0x08 && decide (1 ≤ sourceL4 src)

/-- The verdict lasting. -/
def lasting (p : PendingRetry) (s : State) : State :=
  let sub := sourceSub p.source
  let s1 := modPatrol (fun (x : Patrol) => { x with
    retries := x.retries.erase p, lastingCount := bump x.lastingCount }) s
  if p.level ≤ 2 && !tableStore p.source p.unit then
    let s2 := addMark p s1
    let own := (openRec s2 sub).any (ownRecord p)
    let s3 := if own then modRec sub (fun (r : FaultRecord) =>
      { r with retry := .lasting, action := max r.action 2 }) s2 else s2
    if markLimit s < (marksOf s3 p.source).length then escalate p s3
    else if own then closeRec sub s3 else s3
  else if p.level ≤ 4 && !planSection p.source then escalate p s1
  else lastingFatal p s1

/-- The verdict transient: an L3 unit enters its quiet period (R433, R434). -/
def transient (p : PendingRetry) (s : State) : State :=
  let sub := sourceSub p.source
  let s1 := modPatrol (fun (x : Patrol) => { x with
    retries := x.retries.erase p, transientCount := bump x.transientCount,
    quiet := if p.level = 3 then (x.quiet.filter (fun q => !(q.source == p.source && q.unit == p.unit))) ++
        [{ source := p.source, unit := p.unit, since := now s }]
      else x.quiet }) s
  if (openRec s1 sub).any (ownRecord p) then
    closeRec sub (modRec sub (fun (r : FaultRecord) =>
      { r with retry := .transient, action := if p.level = 3 then max r.action 3 else r.action }) s1)
  else s1

/-- The pending retry that a report answers: of its source, unit and level, for an L2 element its own index. A clean report
of another level answers the oldest retry of its source and unit. -/
def retryOf (s : State) (q : Report) : Option PendingRetry :=
  let same (r : PendingRetry) : Bool := r.source == q.source && r.unit == q.unit
  match s.patrol.retries.find? (fun r => same r && r.level == q.level && (q.level != 2 || r.detail == q.detail)) with
  | some r => some r
  | none => if q.kind == .retryClean then s.patrol.retries.find? same else none

/-- A pointer of a queue: its parity mismatch is retried by the block reset and the second after it (R420). -/
def isPointer (src : Nat) : Bool := sourceSub src == 0x0B && decide (sourceL3 src < 2)

/-- A UC of a record or merged into one: its retry starts. -/
def startRetry (q : Report) (s : State) : State :=
  let p : PendingRetry := { source := q.source, unit := q.unit, level := q.level, detail := q.detail }
  let s1 := modPatrol (fun (x : Patrol) => { x with retries := x.retries ++ [p] }) s
  let s2 := modRec (sourceSub q.source) (fun (r : FaultRecord) =>
    if ownRecord p r && r.retry == .none then { r with retry := .pending, action := max r.action 1 } else r) s1
  if isPointer q.source then
    requestReset 0x0B none (modPatrol (fun (x : Patrol) => { x with
      pointerFault := some (sourceL4 q.source, now s) }) s2)
  else s2

/-- A UC is judged: a retry's own outcome, a second detection in a quiet period, or a fault to retry. What a reset shadow
brings is neither retried nor escalated (R442). -/
def judgeReport (q : Report) (s : State) : State :=
  if q.cls != .uc || inShadow s q then s
  else match retryOf s q with
    | some p => lasting p s
    | none =>
      if q.level = 3 ∧ s.patrol.quiet.any (fun x => x.source == q.source && x.unit == q.unit) then
        lasting { source := q.source, unit := q.unit, level := 3, detail := q.detail }
          (modPatrol (fun (x : Patrol) => { x with
            quiet := x.quiet.filter (fun y => !(y.source == q.source && y.unit == q.unit)) }) s)
      else startRetry q s

/-- A retry ended clean. -/
def judgeClean (q : Report) (s : State) : State :=
  match retryOf s q with
  | some p => transient p s
  | none => s

/-! ## Arrival and judgement (R425 to R428) -/

/-- An uncorrectable word of the Rink's memories: an SRAM word loses the patch of the frame, a table store is loaded again and
its step run again, a ray table is built again and its camera's columns of the frame are dropped (Tables 8.14, 9.9, 10.8). -/
def damageRink (src unit detail : Nat) (s : State) : State :=
  match tileOf src with
  | some x =>
    if sramUnit unit then loseTilePatch x s
    else if unit = 11 then modTile x (fun (t : Tile) => { t with rerun := t.slot.isSome }) s
    else s
  | none =>
    if src != rinkFault 49 0 then s
    else
      let camera := (Config.rayCamera detail).toNat
      buildRays (modRink (fun (r : Rink) => { r with
        frame := r.frame.map (fun f => { f with raysLost := f.raysLost ++ [camera] }),
        packets := r.packets.filter (fun p => p.receiver != camera),
        slots := r.slots.map (fun (x : Slot) => { x with passCameras := x.passCameras.map (fun m => clearBit m camera) }) }) s)

/-- Errors of an LPDDR channel are counted (Table 2.18). -/
def countMemory (channel corrected uncorrected : Nat) (s : State) : State :=
  { s with memory := { s.memory with channels := vmod s.memory.channels channel (fun (c : Channel) => { c with
      corrected := satAdd 32 c.corrected corrected, uncorrected := satAdd 32 c.uncorrected uncorrected }) } }

/-- The two hash engines disagree on a load: it ends with VERIFY_FAILED at stage 2 (Table 11.15). -/
def hashesDiffer (s : State) : State :=
  match s.host.flight.find? (fun c => c.op == 0x0800 && c.started.isSome && c.outcome.isNone) with
  | some c => conclude c stVerifyFailed 0x02FF [] (dropLoading s)
  | none => s

/-- A partition of retention SRAM is empty from now on, in the order of Table 18.4 (R511, Table 18.10). Retirements and marks are
in force until the reset that would have read them. -/
def losePartition (n : Nat) (s : State) : State :=
  let keep (f : Retention → Retention) : State := modSecurity (fun (x : Security) => { x with retention := f x.retention }) s
  match n with
  | 0 => keep (fun x => { x with config := none })
  | 1 => modPatrol (fun (p : Patrol) => { p with log := [], latch := none, nextSeq := 0 }) s
  | 2 => keep (fun x => { x with buffer := [] })
  | 3 => keep (fun x => { x with unitsLost := true })
  | 4 => keep (fun x => { x with training := false })
  | 5 => modSecurity (fun (x : Security) => { x with openBlock := none }) (keep (fun x => { x with indexBlock := 0 }))
  | 6 => keep (fun x => { x with safeMarker := false, bridge := none })
  | _ => s

/-- What an error in a memory word, or a comparison in hardware, does besides its report. A bucket of the voxel table or a reference-store entry that fails its
check is left out (R229); a queue word reads DAMAGED (R402, R420); an uncorrectable fault-log entry gives its place to the
record of this fault, whose DETAIL holds the lost LOG_SEQ (Table 15.16); an LPDDR word counts in its channel. -/
def damageWord (q : Report) (s : State) : State :=
  if sourceSub q.source = 0x11 ∧ q.level = 2 ∧ q.cls != .fa then
    countMemory (sourceL4 q.source) (flag (q.cls == .ce)) (flag (q.cls == .uc)) s
  else if sourceSub q.source = 0x07 ∧ q.level = 2 ∧ q.cls == .uc then damageRink q.source q.unit q.detail s
  else if sourceSub q.source = 0x09 ∧ q.level = 2 ∧ q.cls == .uc then
    if sourceL4 q.source = 4 then deliverJobs (loseEntry q.detail s)
    else rereadJob (2 * sourceL4 q.source + sourceL3 q.source) s
  else if sourceSub q.source = 0x0A ∧ sourceL4 q.source = 16 ∧ q.level = 2 ∧ q.cls == .uc then reloadContext q.detail s
  else if sourceSub q.source = 0x0E ∧ q.level = 2 ∧ q.cls == .uc then spoilSet (sourceL4 q.source) s
  else if sourceSub q.source = 0x08 ∧ sourceL4 q.source = 0 ∧ q.level = 3 ∧ q.cls == .uc then hashesDiffer s
  else if sourceSub q.source = 0x0B ∧ sourceL4 q.source ≠ 0 ∧ sourceL3 q.source = 2 ∧ q.cls == .uc then
    modOut (sourceL4 q.source) (fun (o : OutQueue) => { o with
      words := o.words.zipIdx.map (fun (w : OutWord × Nat) =>
        if w.2 = q.detail then { w.1 with damaged := true } else w.1) }) s
  else if sourceSub q.source = 0x06 ∧ q.level = 2 ∧ q.cls == .uc then damagePoint (sourceL4 q.source) q.detail s
  else if q.source = sourceOf 0x0F 0 0 ∧ q.level = 2 ∧ q.cls == .uc then losePartition (Config.retentionPartition q.detail) s
  else if sourceSub q.source = 0x0C ∧ sourceL4 q.source = 1 ∧ q.cls == .uc then
    modPatrol (fun (p : Patrol) => { p with log := p.log.filter (fun r => r.logSeq % 2 ^ 23 != q.detail) }) s
  else s

/-- A mismatch of a queue's pointers within 1 s of the reset that retries the one before is fatal (R420). -/
def pointerVerdict (s : State) (q : Report) : Report :=
  if isPointer q.source && q.cls == .uc && (s.patrol.pointerFault.any (fun x =>
      x.1 == sourceL4 q.source && decide (q.at_ ≤ x.2 + secUnits))) then
    { q with cls := .fa, level := 5 }
  else q

/-- A report reaches Patrol. An FA goes to the safety manager at once; during BOOT, BOOT's end sees to it (R421, R425,
R526). -/
def arrive (q : Report) (s : State) : State :=
  if shadowMasks s q then modPatrol (fun (p : Patrol) => { p with shadowMasked := bump p.shadowMasked }) s
  else
    let r := pointerVerdict s q
    let s1 := modPatrol (fun (p : Patrol) => { p with arrived := p.arrived ++ [r] }) s
    if r.cls == .fa && !r.injected && s1.dev.state != .boot then enterSafe true r.at_ s1 else s1

/-- The earliest arrival of a report. What an FA report does at its arrival, the pins' change, comes no earlier than 1 µs
after its detection instant (Table 16.5). -/
def arrivesFrom (q : Report) : Dts := if q.cls == .fa then q.at_ + usUnits else q.at_

/-- FAULT_REPORT_ARRIVAL: the oldest report on the fault wires, or one of a detector whose element the model does not hold
(an ECC word, a lockstep comparator, a link). -/
def execFaultReportArrival (report_ : Option Report) (s : State) : Host.Outcome State Fault Refusal :=
  awakeAnswer s fun s =>
    match report_ with
    | some q =>
      if !sourceExists q.source || !unitExists q.source q.unit || q.injected || decide (now s < arrivesFrom q) then s
      else arrive q (damageWord q s)
    | none => match s.patrol.wires.find? (fun q => decide (arrivesFrom q ≤ now s)) with
      | some q => arrive q (modPatrol (fun (p : Patrol) => { p with wires := p.wires.erase q }) s)
      | none => s

/-- The collector cycle of a report: its own, or the current one when that has been judged (R427). -/
def cycleOf (s : State) (q : Report) : Nat := max (q.at_ / usUnits * usUnits) s.patrol.judgedTo

/-- A report of R425's order: highest class, then lowest source. -/
def reportFirst (l : List Report) : Option Report :=
  l.foldl (fun (best : Option Report) q => match best with
    | some b => if classRank b.cls < classRank q.cls ∨ (classRank b.cls = classRank q.cls ∧ q.source < b.source) then
        some q else best
    | none => some q) none

/-- The record's own retry outcome is not merged (R426). -/
def ownOutcome (s : State) (e : FaultRecord) (q : Report) : Bool :=
  e.source == q.source && e.unit == q.unit && q.cls == .uc && (retryOf s q).isSome

/-- A subsystem's reports of a cycle: into its open record, or a new one, returned for the log. -/
def judgeSub (reps : List Report) (acc : State × List FaultRecord) (sub : Nat) : State × List FaultRecord :=
  let rs := reps.filter (fun q => sourceSub q.source == sub)
  match openRec acc.1 sub, reportFirst rs with
  | some e, some _ =>
    let e1 := (rs.filter (fun q => !ownOutcome acc.1 e q)).foldl mergeInto e
    let s1 := putRec e1 acc.1
    (if e1.cls == e.cls then s1 else countClass e1.cls s1, acc.2)
  | none, some r =>
    let others := rs.erase r
    let e := others.foldl mergeInto (newRecord r)
    (acc.1, acc.2 ++ [{ e with simultaneous := !others.isEmpty }])
  | _, none => acc

/-- The order in which the records of a cycle enter the log (R425). -/
def recordBefore (a b : FaultRecord) : Bool :=
  if a.firstDts ≠ b.firstDts then decide (a.firstDts < b.firstDts)
  else if classRank a.cls ≠ classRank b.cls then decide (classRank b.cls < classRank a.cls)
  else decide (a.source ≤ b.source)

/-- The latch after a cycle's records have been logged. -/
def judgeLatch (reps : List Report) (opened : Bool) (s : State) : State :=
  match s.patrol.latch with
  | some _ => if opened then markOverflow s else s
  | none => match reportFirst (reps.filter (fun q => q.cls != .ce)) with
    | none => s
    | some f =>
      let sub := sourceSub f.source
      latchRec sub (if 1 < reps.length then modRec sub (fun (r : FaultRecord) =>
        { r with overflow := true, simultaneous := true }) s else s)

/-- The reply to INJECT_FAULT follows its report's judgement (R468, R469). -/
def judgeInjected (q : Report) (s : State) : State :=
  match s.safety.injection with
  | some x =>
    if x.source == q.source && x.unit == q.unit then
      endInjection x (recordBytes (newRecord q)) ((q.at_ - x.at_) / nsUnits) s
    else s
  | none => s

/-- One cycle's reports are judged. -/
def judgeCycle (all : List Report) (s : State) : State :=
  let reps := all.filter (fun q => q.kind == .detection && !q.injected)
  let injected := all.filter (fun q => q.kind == .detection && q.injected)
  let (s1, fresh) := (List.range 32).foldl (judgeSub reps) (s, [])
  let records := (fresh ++ injected.map newRecord).sortBy recordBefore
  let s2 := records.foldl (fun (t : State) r => logRecord r t) s1
  let s3 := judgeLatch reps (!fresh.isEmpty) s2
  let s4 := reps.foldl (fun (t : State) q => judgeReport q t) s3
  let s5 := (all.filter (fun q => q.kind == .retryClean)).foldl (fun (t : State) q => judgeClean q t) s4
  let s6 := (fresh.filter (fun r => r.cls == .ce)).foldl (fun (t : State) r => closeRec (sourceSub r.source) t) s5
  let s7 := injected.foldl (fun (t : State) q => judgeInjected q t) s6
  if reps.any (fun q => q.cls == .fa) then
    let s8 := modPatrol (fun (p : Patrol) => { p with faOpen := true }) s7
    if s8.patrol.journalDue then journalFaults s8 else s8
  else s7

/-- Reports that reached Patrol after their cycle's judgement are counted, with a CE record (R427, Table 15.16). -/
def noteLate (n : Nat) (s : State) : State :=
  if n = 0 then s
  else report (sourceOf 0x0C 0 0) 0 4 .ce 0
    (modPatrol (fun (p : Patrol) => { p with lateReports := satAdd 32 p.lateReports n }) s)

/-- 1 s after a pointer's block reset without a mismatch of that queue, the retry has ended clean (R420). -/
def settlePointer (s : State) : State :=
  match s.patrol.pointerFault with
  | none => s
  | some x =>
    if now s ≤ x.2 + secUnits then s
    else
      let s1 := modPatrol (fun (p : Patrol) => { p with pointerFault := none }) s
      (s1.patrol.retries.filter (fun r => isPointer r.source && sourceL4 r.source == x.1)).foldl
        (fun (t : State) r => transient r t) s1

/-- COLLECTOR_JUDGEMENT at c + 3 µs: the earliest cycle with reports that have arrived, or none up to now. -/
def execCollectorJudgement (s : State) : Host.Outcome State Fault Refusal :=
  awakeAnswer s fun s0 =>
    let s := settlePointer s0
    let cycles := s.patrol.arrived.map (cycleOf s)
    match cycles.foldl (fun (m : Option Nat) c => some (min (m.getD c) c)) none with
    | none =>
      let upTo := (now s - 2 * usUnits) / usUnits * usUnits
      if now s < 3 * usUnits then s
      else modPatrol (fun (p : Patrol) => { p with judgedTo := max p.judgedTo upTo }) s
    | some c =>
      if now s < c + 3 * usUnits then s
      else
        let all := s.patrol.arrived.filter (fun q => cycleOf s q == c)
        let late := (all.filter (fun q => decide (q.at_ / usUnits * usUnits < s.patrol.judgedTo))).length
        judgeCycle all (noteLate late (modPatrol (fun (p : Patrol) => { p with
          arrived := p.arrived.filter (fun q => !all.contains q), judgedTo := c + usUnits }) s))

/-! ## Quiet periods and reactions (R434 to R437) -/

/-- QUIET_PERIOD_EXPIRY: the unit leaves fault state and its recovery counts; too many within WINDOW_S are lasting at
L4. -/
def execQuietPeriodExpiry (source_ unit : Nat) (s : State) : Host.Outcome State Fault Refusal :=
  awakeAnswer s fun s =>
    let same (a b : Nat) : Bool := a == source_ && b == unit
    match s.patrol.quiet.find? (fun q => same q.source q.unit) with
    | none => s
    | some q =>
      if now s < q.since + quietMs s * msUnits then s
      else
        let old := match s.patrol.recoveries.find? (fun c => same c.source c.unit) with
          | some c => c.at_
          | none => []
        let recent := old.filter (fun t => decide (now s < t + windowS s * secUnits)) ++ [now s]
        let s1 := modPatrol (fun (p : Patrol) => { p with
          quiet := p.quiet.filter (fun x => !same x.source x.unit),
          recoveries := p.recoveries.filter (fun c => !same c.source c.unit) ++
            [{ source := source_, unit := unit, at_ := recent }] }) s
        if recoveryMax s < recent.length then lasting { source := source_, unit := unit, level := 4, detail := 0 } s1
        else s1

/-- The default reaction of Table 15.8: 1 CONTAIN, 2 RESET_SUBSYSTEM, 3 SAFE. -/
def defaultReaction (src : Nat) : Nat :=
  match sourceSub src with
  | 0x01 | 0x0C | 0x0D | 0x0F | 0x11 => 3
  | 0x0A => if sourceL4 src < 16 then 1 else 2
  | _ => 1

/-- A reaction is applied to the record that awaits it (R437); the reply of a command follows its completion. -/
def applyReaction (sub reaction : Nat) (key : Option CmdKey) (s : State) : State :=
  match openRec s sub with
  | none => s
  | some r =>
    let code := if reaction = 0 then defaultReaction r.source else reaction
    let s1 := putRec { r with host := r.host || key.isSome, awaitingFrom := none } s
    let reply (t : State) : State := match key with
      | some k => replyTo k t
      | none => t
    match code with
    | 2 => requestReset sub key (modRec sub (fun (x : FaultRecord) => { x with closeDue := true }) s1)
    | 3 => reply (closeRec sub (enterSafe false (now s1) (modRec sub (fun (x : FaultRecord) => { x with action := 7 }) s1)))
    | _ =>
      let s2 := if sub = 0x0F then modPower (fun (p : Power) => { p with held := false }) s1 else s1
      reply (closeRec sub s2)

/-- REACTION_TIMER_EXPIRY: the default reaction, TIMER_US after the lasting verdict (R435, R436). -/
def execReactionTimerExpiry (subsystem : Nat) (s : State) : Host.Outcome State Fault Refusal :=
  awakeAnswer s fun s =>
    match (openRec s subsystem).bind (fun r => r.awaitingFrom) with
    | some t =>
      if now s < t + fld (setting s 0x0C03 0) 0 24 * usUnits then s else applyReaction subsystem 0 none s
    | none => s

/-! ## Commands of the Patrol group, and RESET_SUBSYSTEM -/

/-- The record that SET_REACTION names awaits a reaction and is the one its DTS_CHECK means (R437). -/
def reactionFits (s : State) (b : Bytes) : Bool :=
  match openRec s (fld b 0 5) with
  | some r => r.awaitingFrom.isSome && dtsLow r.firstDts % 2 ^ 32 == fld b 32 32
  | none => false

/-- The marks that CLEAR_FAULT names: one, or those of an engine (Table 15.10). -/
def namedMarks (s : State) (b : Bytes) : List Mark :=
  let src := fld b 20 12
  if fld b 0 8 = 0 then
    s.patrol.marks.filter (fun m => m.source == src && m.unit == fld b 35 6 && m.detail == fld b 41 23)
  else marksOf s src

/-- The refusals of the Patrol group and RESET_SUBSYSTEM that hang on the state. -/
def startPatrol (s : State) (op : Nat) (b : Bytes) : Option Refuse :=
  match op with
  | 0x0C01 =>
    if fld b 0 8 = 3 ∧ s.dev.state ≠ .setup then some (stState, stateWord s % 65536)
    else if fld b 0 8 ≤ 1 ∧ (namedMarks s b).isEmpty then some (stBadParam, 2)
    else none
  | 0x0C02 => if reactionFits s b then none else some (stState, stateWord s % 65536)
  | _ => none

/-- A fault-log query's entries (R447). -/
def queriedRecords (s : State) (b : Bytes) : List FaultRecord :=
  if bitAt b 40 then (List.range 32).filterMap (fun n => openRec s n)
  else s.patrol.log.filter (fun r => decide (fld b 0 32 ≤ r.logSeq))

/-- The masks of Table 15.14. -/
def openMask (s : State) : Nat := (List.range 32).foldl (fun (m : Nat) n => if (openRec s n).isSome then setBit m n else m) 0
def awaitingMask (s : State) : Nat :=
  (List.range 32).foldl (fun (m : Nat) n =>
    if ((openRec s n).bind (fun r => r.awaitingFrom)).isSome then setBit m n else m) 0

/-- GET_FAULT_RECORDS' block (Table 15.14). -/
def patrolBlock (s : State) : Bytes :=
  let p := s.patrol
  firstFault s ++ pack 48 [(0, 32, p.nextSeq), (32, 32, (p.log.head?.map (fun r => r.logSeq)).getD p.nextSeq),
    (64, 32, p.overwritten), (96, 32, p.shadowMasked), (128, 32, openMask s), (160, 32, awaitingMask s),
    (192, 32, p.ceCount), (224, 32, p.ucCount), (256, 32, p.faCount), (288, 32, p.transientCount),
    (320, 32, p.lastingCount), (352, 32, p.lateReports)]

def execGetFaultRecords (k : CmdKey) (s : State) : Host.Outcome State Fault Refusal :=
  runCommand k 0x0C00 (fun c s => doneWith c
    (patrolBlock s ++ ((queriedRecords s c.params).take (fld c.params 32 8)).flatMap entryBytes) s) s

/-- The bytes of a region whose LPDDR words satisfy `p` (channel and word) become zero. -/
def wordsZero (region : Nat) (p : Nat → Nat → Bool) (m : List Host.Cell) : List Host.Cell :=
  m.filter (fun c => !(p (Config.memoryWord region (c.1 / 64)).1.toNat (Config.memoryWord region (c.1 / 64)).2))

/-- The LPDDR words that satisfy `p` hold zero: what the host port reaches of them. -/
def zeroMemory (p : Nat → Nat → Bool) (s : State) : State :=
  { s with memory := { s.memory with
      staging := wordsZero 0 p s.memory.staging, exportRegion := wordsZero 1 p s.memory.exportRegion } }

/-- A marked element is tested by its subsystem's write-and-read test (the outcome is the element's own: a free value); one
that passes holds zero and loses its mark (R439). -/
def clearMark (acc : Bool × State) (m : Mark) : Bool × State :=
  let s := acc.2
  if freeNat 1 s = 0 then (true, spent s)
  else
    let s1 := modPatrol (fun (p : Patrol) => { p with marks := p.marks.erase m }) (spent s)
    let l4 := sourceL4 m.source
    match sourceSub m.source with
    | 0x07 => (acc.1, if (tileOf m.source).isSome && sramUnit m.unit then
        modTile l4 (fun (t : Tile) => { t with sram := cellsZero t.sram (m.detail * 64) 64 }) s1 else s1)
    | 0x11 =>
      let s2 := zeroMemory (fun ch w => ch == l4 && (Config.memoryRow w).toNat == m.detail) s1
      (acc.1, { s2 with memory := { s2.memory with
        channels := vmod s2.memory.channels l4 (fun (c : Channel) => { c with rowsMarked := c.rowsMarked - 1 }) } })
    | _ => (acc.1, s1)

def execClearFault (k : CmdKey) (s : State) : Host.Outcome State Fault Refusal :=
  runCommand k 0x0C01 (fun c s =>
    let b := c.params
    match fld b 0 8 with
    | 2 => done c (modPatrol (fun (p : Patrol) => { p with latch := none }) s)
    | 3 => done c (modPatrol (fun (p : Patrol) => { p with
        recoveries := p.recoveries.filter (fun x => !(x.source == fld b 20 12 && x.unit == fld b 35 6)) }) s)
    | _ =>
      let r := (namedMarks s b).foldl clearMark (false, s)
      if r.1 then finish c stFaultActive (fld b 20 12) [] r.2 else done c r.2) s

/-! ## SCRUB (R579) -/

/-- The element of TARGET and INDEX that an uncorrectable word makes faulty, as a retry of its memory names it: an LPDDR row, a
word of SRAM with its bank, a bucket, or one of the four entries of a reference-store word. -/
def scrubElement (target index : Nat) (w : Nat × Nat) : PendingRetry :=
  let at_ (source unit detail : Nat) : PendingRetry := { source := source, unit := unit, level := 2, detail := detail }
  match target with
  | 0 => at_ (sourceOf 0x11 index 4) 0 (Config.memoryRow w.1).toNat
  | 1 => at_ (rinkFault index 0) (12 + w.1 / 4096) w.1
  | 2 => at_ (sourceOf 0x06 4 0) 0 w.1
  | _ => at_ (sourceOf 0x06 (5 + index) 0) 0 (4 * w.1 + w.2 % 4)

/-- An element is marked. -/
def elementMarked (s : State) (p : PendingRetry) : Bool :=
  s.patrol.marks.any (fun m => m.source == p.source && m.unit == p.unit && m.detail == p.detail)

/-- A word that a scrub finds uncorrectable: reported, with what the error does, and marked. -/
def scrubBad (p : PendingRetry) (s : State) : State :=
  let s1 := report p.source p.unit 2 .uc p.detail s
  addMark p (if sourceSub p.source = 0x06 then damagePoint (sourceL4 p.source) p.detail s1
    else if sourceSub p.source = 0x07 then damageRink p.source p.unit p.detail s1 else s1)

/-- The marked words of a range hold zero with valid check bits; the marks stay. -/
def scrubZero (target index off n : Nat) (s : State) : State :=
  let inside (w : Nat) : Bool := decide (off ≤ w) && decide (w < off + n)
  let hit (w e : Nat) : Bool := inside w && elementMarked s (scrubElement target index (w, e))
  match target with
  | 0 => zeroMemory (fun ch w => ch == index && hit w 0) s
  | 1 => modTile index (fun (t : Tile) => { t with sram := t.sram.filter (fun c => !hit (c.1 / 64) 0) }) s
  | 2 => modPoint (fun (p : PointState) => { p with table := p.table.filter (fun e => !hit e.bucket 0) }) s
  | _ => modPoint (fun (p : PointState) => { p with refs := vmod p.refs index (fun r =>
      { r with cells := r.cells.filter (fun c => !hit (refBucket c.cx c.cy c.cz) c.way) }) }) s

/-- SCRUB over memory in which so many words hold a single-bit error and those of `bad` (word and, in a reference store, entry)
an uncorrectable one: the first are corrected, the second reported and marked, marked words set to zero. -/
def execScrub (k : CmdKey) (corrected_ : Nat) (bad : List (Nat × Nat)) (s : State) : Host.Outcome State Fault Refusal :=
  runCommand k 0x1101 (fun c s =>
    let target := fld c.params 0 8
    let index := fld c.params 8 8
    let off := fld c.params 64 32
    let n := fld c.params 96 32
    let found := (bad.filter (fun w => decide (off ≤ w.1) && decide (w.1 < off + n))).eraseDups
    let fresh := found.filter (fun w => !elementMarked s (scrubElement target index w))
    let words := (fresh.map Prod.fst).eraseDups.length
    let corrected := min corrected_ (n - words)
    let s1 := fresh.foldl (fun (t : State) w => scrubBad (scrubElement target index w) t) (scrubZero target index off n s)
    let s2 := if target = 0 then countMemory index corrected words s1 else s1
    conclude c stDone 0 (bytesOfNat 4 corrected ++ bytesOfNat 4 words) s2) s

/-- A command has asked for a block reset that has not completed. -/
def resetAsked (s : State) (k : CmdKey) : Bool :=
  s.patrol.shadows.any (fun x => x.by_ == some k) || s.patrol.resetsWaiting.any (fun x => x.2 == some k) ||
    s.glide.blockResetDue == some (some k)

def execSetReaction (k : CmdKey) (s : State) : Host.Outcome State Fault Refusal :=
  runCommand k 0x0C02 (fun c s =>
    if resetAsked s k then s
    else if reactionFits s c.params then applyReaction (fld c.params 0 5) (fld c.params 8 8) (some k) s
    else finish c stState (stateWord s % 65536) [] s) s

def execSetReactionTimer (k : CmdKey) (s : State) : Host.Outcome State Fault Refusal :=
  runCommand k 0x0C03 (fun c s => done c (putSetting 0x0C03 0 c.params s)) s

def execSetRecoveryLimits (k : CmdKey) (s : State) : Host.Outcome State Fault Refusal :=
  runCommand k 0x0C04 (fun c s => done c (putSetting 0x0C04 0 c.params s)) s

/-- RESET_SUBSYSTEM: its final reply follows the close of the shadow (R445). -/
def execResetSubsystem (k : CmdKey) (s : State) : Host.Outcome State Fault Refusal :=
  runCommand k 0x0105 (fun c s =>
    if resetAsked s k then s else requestReset (fld c.params 0 8) (some k) s) s

end Sys2Proof.Machine
end

