-- ==== Sys2Proof/Machine/Commands.lean ====
section
/-! DEFINITION. The life of a command: the checks at its take-up, the entry into flight, the start with its own checks, and
the final reply (R44 to R63, R412, R438). -/

namespace Sys2Proof.Machine

/-! ## Packets (R46, R48, R60) -/

/-- A packet's version as its VERSION field says. -/
def packetVersion (b : Bytes) : Option Ver :=
  match fld b 12 4 with
  | 2 => some .v2
  | 1 => some .v1
  | _ => none

/-- LENGTH in bytes; none where it is out of range. -/
def packetLength (v : Ver) (b : Bytes) : Option Nat :=
  let n := fld b 0 12
  match v with
  | .v2 => if 4 ≤ n ∧ n ≤ 1024 then some (4 * n) else none
  | .v1 => if 12 ≤ n ∧ n ≤ 2048 ∧ n % 4 = 0 then some n else none

/-- Whether the packet's CRC-32C is right. -/
def packetCrcGood (v : Ver) (b : Bytes) : Bool :=
  match v with
  | .v2 => crc32c (b.take 12 ++ b.drop 16) == fld b 96 32
  | .v1 => crc32c (b.take 8 ++ b.drop 12) == fld b 64 32

/-- A reserved header bit is set, or the tag is the forbidden one (R49). -/
def headerBad (v : Ver) (b : Bytes) : Bool :=
  match v with
  | .v2 => fld b 17 15 != 0 || fld b 48 16 == 0xFFFF
  | .v1 => fld b 32 32 != 0 || fld b 24 8 == 0xFF

/-- OPCODE, TAG, ORDERED, DEADLINE_US and the parameters of a packet. A version 1 command is ordered and has no deadline
(R61). -/
def headOp (v : Ver) (b : Bytes) : Nat :=
  match v with
  | .v2 => fld b 32 16
  | .v1 => fld b 16 8
def headTag (v : Ver) (b : Bytes) : Nat :=
  match v with
  | .v2 => fld b 48 16
  | .v1 => fld b 24 8
def headOrdered (v : Ver) (b : Bytes) : Bool := v == .v1 || bitAt b 16
def headDeadline (v : Ver) (b : Bytes) : Nat :=
  match v with
  | .v2 => fld b 64 32
  | .v1 => 0
def headParams (v : Ver) (b : Bytes) : Bytes :=
  match v with
  | .v2 => b.drop 16
  | .v1 => b.drop 12

/-- The T48 opcode of a packet: in version 1 the counterpart of Table 2.11. -/
def commandOp (v : Ver) (b : Bytes) : Option Nat :=
  match v with
  | .v2 => (opRow (headOp v b)).map (fun r => r.op)
  | .v1 => t16Counterpart (headOp v b)

/-! ## Parameter lengths (R51) -/

/-- The fixed length of an opcode's parameter block: 0 where it takes none. -/
def fixedLength : Nat → Nat
  | 0x0102 => 4 | 0x0104 => 4 | 0x0105 => 4 | 0x0108 => 4 | 0x0201 => 16 | 0x0202 => 16 | 0x0203 => 24 | 0x0204 => 8
  | 0x0205 => 32 | 0x0206 => 4 | 0x0208 => 4 | 0x0300 => 32 | 0x0301 => 16 | 0x0302 => 16 | 0x0304 => 4 | 0x0305 => 32
  | 0x0400 => 32 | 0x0401 => 24 | 0x0402 => 12 | 0x0403 => 12 | 0x0404 => 32 | 0x0405 => 88 | 0x0406 => 16 | 0x0408 => 4
  | 0x0500 => 64 | 0x0501 => 16 | 0x0502 => 16 | 0x0503 => 32 | 0x0504 => 32 | 0x0505 => 16 | 0x0600 => 16 | 0x0700 => 8
  | 0x0702 => 4 | 0x0703 => 8 | 0x0800 => 12 | 0x0801 => 4 | 0x0803 => 4 | 0x0A00 => 48 | 0x0A01 => 16 | 0x0A03 => 32
  | 0x0A04 => 4 | 0x0B00 => 4 | 0x0B01 => 8 | 0x0B02 => 8 | 0x0B03 => 4 | 0x0C00 => 8 | 0x0C01 => 16 | 0x0C02 => 8
  | 0x0C03 => 4 | 0x0C04 => 16 | 0x0D00 => 8 | 0x0D01 => 16 | 0x0D03 => 16 | 0x0D04 => 4 | 0x0E00 => 4 | 0x0E02 => 256
  | 0x0F01 => 16 | 0x0F02 => 16 | 0x1001 => 16 | 0x1002 => 8 | 0x1003 => 48 | 0x1004 => 8 | 0x1005 => 16 | 0x1101 => 16
  | _ => 0

/-- The least length that holds an opcode's count fields; 0 where it has none. -/
def countLength (op : Nat) : Nat :=
  match op with
  | 0x0407 | 0x0602 | 0x0900 => 16
  | 0x0A02 | 0x1006 => 8
  | _ => 0

/-- The byte offset of a count field out of its range. -/
def countBad (op : Nat) (b : Bytes) : Option Nat :=
  match op with
  | 0x0407 => if 32 < fld b 96 8 then some 12 else if 64 < fld b 104 8 then some 13 else none
  | 0x0602 => if fld b 48 16 = 0 ∨ 338 < fld b 48 16 then some 6 else none
  | 0x0900 => if fld b 0 8 = 0 ∨ 64 < fld b 0 8 then some 0 else none
  | 0x0A02 => if fld b 8 8 = 1 ∨ fld b 8 8 = 2 ∨ 16 < fld b 8 8 then some 1 else none
  | 0x1006 => if fld b 0 8 ≠ 2 ∧ fld b 0 8 ≠ 3 then some 0 else none
  | _ => none

/-- The length that an opcode's parameters must have. -/
def wantedLength (op : Nat) (b : Bytes) : Nat :=
  match op with
  | 0x0107 => b.length
  | 0x0407 => 16 + 16 * (fld b 96 8 + fld b 104 8)
  | 0x0602 => 16 + 12 * fld b 48 16
  | 0x0900 => batchLength b
  | 0x0A02 => zoneLength b
  | 0x1006 => if fld b 0 8 = 2 then 80 else 2576
  | _ => fixedLength op

/-! ## The checks at take-up (R50) -/

/-- The GET commands of Table 2.12. -/
def isGet (op : Nat) : Bool :=
  [0x0100, 0x0101, 0x0200, 0x0206, 0x0207, 0x0303, 0x0304, 0x0408, 0x0505, 0x0506, 0x0601, 0x0701, 0x0704, 0x0802, 0x0901,
   0x0A04, 0x0B04, 0x0C00, 0x0D02, 0x0E01, 0x0F00, 0x1000, 0x1100].contains op

/-- The commands that change device state or posture (R56). -/
def changesState (op : Nat) : Bool := [0x0102, 0x0103, 0x0104, 0x0106].contains op

/-- BOOT found no firmware: SAFE with the ROM alone, which takes the commands of BOOT (R540). -/
def romOnly (s : State) : Bool :=
  s.dev.state == .safe && !(s.security.slots.toList.take 2).any (fun f => f.state == .inUse)

/-- The opcode is refused with STATE: the device state, the queue mode, an entry into Standby (R507), or another change
of state in flight (R56). -/
def stateRefused (s : State) (op : Nat) : Bool :=
  !opAllowed s op || (op == 0x0B01 && t16 s) || (s.power.standby.isSome && !isGet op) ||
    (romOnly s && !(opRow op).any (fun r => bitOf r.states 0)) ||
    (changesState op && s.host.flight.any (fun c => changesState c.op))

/-- The refusals that hang on the state, by the subsystems' chapters. -/
def startRefusal (s : State) (op : Nat) (b : Bytes) : Option Refuse :=
  firstRefusal [startPosture s op b, startTime s op b, startPorts s op b, startLidar s op b, startSensors s op b,
    startAlignment s op b, startRink s op b, startPlans s op b, startSolver s op, startGlide s op b, startQueues s op,
    startPatrol s op b, startSafety s op b, startPeers s op b, startSecurity s op b,
    if op = 0x1101 then startScrub s b else none]

/-- The refusal at the lower offset of two BAD_PARAM refusals, else the first. -/
def lowerRefusal : Option Refuse → Option Refuse → Option Refuse
  | none, r => r
  | r, none => r
  | some a, some b => if a.1 = stBadParam ∧ b.1 = stBadParam ∧ b.2 < a.2 then some b else some a

/-- A parameter out of the range that the present settings give it: judged at the take-up as R50 says, and at the start again,
since other commands may have changed the settings (assumption 106). What a CONFIG_TS_OUT's START is measured from is the
command's start (R91). -/
def rangeRefusal (s : State) (op : Nat) (b : Bytes) : Option Refuse :=
  match startRefusal s op b with
  | some r => if r.1 = stBadParam ∧ op ≠ 0x0205 then some r else none
  | none => none

/-- The parameters' refusal, in the order of R50. -/
def blockRefusal (s : State) (v : Ver) (op : Nat) (b : Bytes) : Option Refuse :=
  if b.length < countLength op then some (stBadLength, countLength op)
  else match countBad op b with
    | some o => some (stBadParam, o)
    | none =>
      if b.length ≠ wantedLength op b then some (stBadLength, wantedLength op b)
      else
        let long := if v = .v1 ∧ op = 0x0C00 ∧ 82 < fld b 32 8 then some (stBadParam, 4) else none
        lowerRefusal (paramRefusal s op b) (lowerRefusal long (rangeRefusal s op b))

/-- What the checks of R50 say of a packet: a reply that refuses it, or the command. -/
inductive PacketVerdict where
  | refuse (o : Owed)
  | accept (c : Cmd)
deriving DecidableEq, Repr

/-- The refusal of a packet whose tag cannot be trusted. -/
def untrusted (v : Ver) (status detail : Nat) : PacketVerdict :=
  match v with
  | .v2 => .refuse { ver := .v2, op := 0xFFFF, tag := 0xFFFF, status := status, ordered := false, detail := detail }
  | .v1 => .refuse { ver := .v1, op := 0xFF, tag := 0xFF, status := status, ordered := false, detail := detail }

/-- The checks from the tag on, of a packet of `b` bytes. -/
def judgeHeader (s : State) (p : IntakePacket) (v : Ver) (b : Bytes) : PacketVerdict :=
  let tag := headTag v b
  let refuse (status detail : Nat) : PacketVerdict :=
    .refuse { ver := v, op := headOp v b, tag := tag, status := status, ordered := headOrdered v b, detail := detail }
  if headerBad v b then refuse stBadParam 0
  else match commandOp v b with
    | none => refuse stBadOpcode 0
    | some op =>
      if s.host.flight.any (fun c => c.key == { ver := v, tag := tag }) then refuse stTagInUse 0
      else if stateRefused s op then refuse stState (stateWord s % 65536)
      else match blockRefusal s v op (headParams v b) with
        | some r => refuse r.1 r.2
        | none => .accept
          { key := { ver := v, tag := tag }, op := op, rawOp := headOp v b, params := headParams v b,
            ordered := headOrdered v b, seq := p.seq, takeUp := p.takeUp, deadlineUs := headDeadline v b,
            started := none, outcome := none, reserved := 0 }

/-- The checks of R50. -/
def judgePacket (s : State) (p : IntakePacket) : PacketVerdict :=
  let raw := unpackWords p.words
  let n := p.words.length
  match packetVersion raw with
  | none => untrusted (if t16 s then .v1 else .v2) stBadVersion n
  | some v => match packetLength v raw with
    | none => untrusted v stBadLength n
    | some len =>
      if wordsFor len ≠ n then untrusted v stBadLength n
      else
        let b := raw.take len
        if !packetCrcGood v b then untrusted v stBadCrc n else judgeHeader s p v b

/-- The intake's packets are changed. -/
def setPackets (ps : List IntakePacket) (s : State) : State :=
  { s with host := { s.host with intake := { s.host.intake with packets := ps } } }

/-- A packet leaves the intake. -/
def dropPacket (p : IntakePacket) (s : State) : State :=
  setPackets (s.host.intake.packets.filter (fun q => q.seq != p.seq)) s

/-- A command enters flight. -/
def enterFlight (c : Cmd) (s : State) : State := setFlight (s.host.flight ++ [c]) s

/-- A packet of the intake is refused: its reply at once, or owed until its order comes (R55). -/
def refusePacket (p : IntakePacket) (o : Owed) (s : State) : State :=
  if replyWaits s p.seq o then setPackets (s.host.intake.packets.map (fun (q : IntakePacket) =>
    if q.seq = p.seq then { q with words := [], accepted := none, owed := some o } else q)) s
  else sendPacket 1 (owedReply o) (dropPacket p s)

/-- A packet whose refusal is owed and whose order has come. -/
def owedDue (s : State) (p : IntakePacket) : Bool := p.owed.any (fun o => !replyWaits s p.seq o)

/-- A packet that has not been judged. -/
def unjudged (p : IntakePacket) : Bool := p.accepted.isNone && p.owed.isNone

/-- COMMAND_ACCEPTANCE, while 3 reply words are free (R412): a refusal whose order has come is sent; else the oldest packet
not yet judged is judged, and answered, enters flight, or waits for the flight to have room (R52). -/
def execCommandAcceptance (s : State) : Host.Outcome State Fault Refusal :=
  awakeAnswer s fun s =>
    if !ctlClocked s || replyRoom s < 3 then s
    else match s.host.intake.packets.find? (owedDue s) with
      | some p => match p.owed with
        | some o => sendPacket 1 (owedReply o) (dropPacket p s)
        | none => s
      | none => match s.host.intake.packets.find? unjudged with
        | none => s
        | some p => match judgePacket s p with
          | .refuse o => refusePacket p o s
          | .accept c =>
            let waits := s.host.intake.packets.any (fun q => q.accepted.isSome)
            if s.host.flight.length < 256 ∧ !waits then enterFlight c (dropPacket p s)
            else setPackets (s.host.intake.packets.map (fun (q : IntakePacket) =>
              if q.seq = p.seq then { q with accepted := some c } else q)) s

/-- What refuses a command at its entry into flight: its tag is carried by another now; the device has entered SAFE, where it
is not permitted (R57); another change of state is in flight (R56). -/
def entryRefusal (s : State) (c : Cmd) : Option Refuse :=
  if s.host.flight.any (fun d => d.key == c.key) then some (stTagInUse, 0)
  else if s.dev.state = .safe ∧ !opAllowed s c.op then some (stNotRun, 0)
  else if changesState c.op && s.host.flight.any (fun d => changesState d.op) then some (stState, stateWord s % 65536)
  else none

/-- COMMAND_ENTER_FLIGHT: the oldest command that waits enters flight, in take-up order. -/
def execCommandEnterFlight (s : State) : Host.Outcome State Fault Refusal :=
  awakeAnswer s fun s =>
    match s.host.intake.packets.find? (fun p => p.accepted.isSome) with
    | none => s
    | some p => match p.accepted with
      | none => s
      | some c =>
        if !ctlClocked s || 256 ≤ s.host.flight.length || replyRoom s < 3 then s
        else match entryRefusal s c with
          | some r => refusePacket p { ver := c.key.ver, op := c.rawOp, tag := c.key.tag, status := r.1,
                                       ordered := c.ordered, detail := r.2 } s
          | none => enterFlight c (dropPacket p s)

/-! ## The start (R53 to R56, R328, R412, R438, R544) -/

/-- The commands that the Plans subsystem runs one at a time (R328). -/
def planSerial (op : Nat) : Bool := [0x0800, 0x0801, 0x0803].contains op

/-- Another command of a set has not had its final reply and comes before. -/
def serialWaits (s : State) (c : Cmd) (which : Nat → Bool) : Bool :=
  which c.op && s.host.flight.any (fun d => which d.op && d.key != c.key && (d.started.isSome || decide (d.seq < c.seq)))

/-- ORDERED and what is taken up after it wait (R55). -/
def orderWaits (s : State) (c : Cmd) : Bool :=
  c.op != 0x0D04 && s.host.flight.any (fun d => decide (d.seq < c.seq) && (c.ordered || d.ordered))

/-- The command cannot start yet. -/
def startWaits (s : State) (c : Cmd) : Bool :=
  orderWaits s c || serialWaits s c planSerial || serialWaits s c securitySerial ||
    (c.op == 0x0900 && batchWaits s c.params) || decide (replyRoom s < reservation c)

/-- A subsystem's record awaits a reaction or its reset shadow is open: the SOURCE that refuses its commands (R438). -/
def faultBlocks (s : State) (sub : Nat) : Option Nat :=
  match openRec s sub with
  | some r => if r.awaitingFrom.isSome || r.shadow || shadowOpen s sub then some r.source else none
  | none => if shadowOpen s sub then some (sub * 128) else none

/-- FAULT_ACTIVE at the start of a command. -/
def faultRefusal (s : State) (op : Nat) (b : Bytes) : Option Refuse :=
  let own := if isGet op || op / 256 == 0x0C || op == 0x0D04 then none else faultBlocks s (op / 256)
  let named := if op = 0x0105 then faultBlocks s (fld b 0 8) else none
  match own, named with
  | some src, _ => some (stFaultActive, src)
  | none, some src => some (stFaultActive, src)
  | none, none => none

/-- The deadline has passed (R46). -/
def deadlinePassed (s : State) (c : Cmd) : Bool :=
  c.deadlineUs != 0 && decide (c.takeUp + c.deadlineUs * countsPerUs < countNow s)

/-- The checks of R53, in their order. -/
def startChecks (s : State) (c : Cmd) : Option Refuse :=
  let r := startRefusal s c.op c.params
  if deadlinePassed s c then some (stDeadline, 0)
  else if lifecycleDenies s c.op then some (stDenied, 0)
  else if r.any (fun x => x.1 == stDenied) then r
  else if writesNonVolatile c.op && nvInhibited s then some (stSupplyLow, 0)
  else match faultRefusal s c.op c.params with
    | some f => some f
    | none => r

/-- DETAIL of the ACCEPTED reply: the bound that the manual gives, or the expected duration, a free value. -/
def acceptedMs (s : State) (c : Cmd) : Nat :=
  match c.op with
  | 0x0800 => 20 + (fld c.params 32 32 + 999999) / 1000000
  | 0x1101 => min (scrubMs c.params) 65535
  | _ => freeNat 16 s

/-- The start: the reply's words are reserved, a command marked L is answered with ACCEPTED (R54, R412). -/
def startCommand (c : Cmd) (s : State) : State :=
  let s1 := modCmd c.key (fun (d : Cmd) => { d with
    started := some (countNow s), reserved := replyWords c.key.ver (maxResult c) }) s
  let s2 := if c.op = 0x0800 then markLoading s1 else s1
  if c.key.ver == .v2 && isLong c.op then
    sendPacket 1 (replyPacket .v2 c.rawOp c.key.tag stAccepted (acceptedMs s c) false c.ordered []) (spent s2)
  else s2

/-- COMMAND_START. -/
def execCommandStart (k : CmdKey) (s : State) : Host.Outcome State Fault Refusal :=
  awakeAnswer s fun s =>
    match flightOf k s with
    | none => s
    | some c =>
      if !ctlClocked s || c.started.isSome || startWaits s c then s
      else match startChecks s c with
        | some r => finish c r.1 r.2 [] s
        | none => startCommand c s

/-- LONG_COMMAND_COMPLETE: the work of a command marked L has ended and its final reply follows (R54). -/
def execLongCommandComplete (k : CmdKey) (s : State) : Host.Outcome State Fault Refusal :=
  awakeAnswer s fun s =>
    match flightOf k s with
    | none => s
    | some c => match c.outcome with
      | some o => if ctlClocked s then finish c o.status o.detail o.results s else s
      | none => s

end Sys2Proof.Machine
end

