-- ==== Sys2Proof/Machine/Dispatch.lean ====
section
/-! DEFINITION. The dispatch: one arm per command, each one direct call of its meaning. -/

namespace Sys2Proof.Machine

def exec (i : Instr) (s : State) : Host.Outcome State Fault Refusal :=
  match i with
  | .readId second len => Sys2Proof.Machine.execReadId second len s
  | .enter4s second => Sys2Proof.Machine.execEnter4s second s
  | .enter8s second => Sys2Proof.Machine.execEnter8s second s
  | .enter8d second => Sys2Proof.Machine.execEnter8d second s
  | .return1s second => Sys2Proof.Machine.execReturn1s second s
  | .readQueueWindow code second addr len => Sys2Proof.Machine.execReadQueueWindow code second addr len s
  | .writeCommandWindow second addr data => Sys2Proof.Machine.execWriteCommandWindow second addr data s
  | .writeStagingAperture second addr data => Sys2Proof.Machine.execWriteStagingAperture second addr data s
  | .writePortMode second addr data => Sys2Proof.Machine.execWritePortMode second addr data s
  | .writeNoticeCause second addr data => Sys2Proof.Machine.execWriteNoticeCause second addr data s
  | .writeOtherRegister second addr data => Sys2Proof.Machine.execWriteOtherRegister second addr data s
  | .commandAcceptance => Sys2Proof.Machine.execCommandAcceptance s
  | .commandEnterFlight => Sys2Proof.Machine.execCommandEnterFlight s
  | .commandStart k => Sys2Proof.Machine.execCommandStart k s
  | .longCommandComplete k => Sys2Proof.Machine.execLongCommandComplete k s
  | .getInfo k => Sys2Proof.Machine.execGetInfo k s
  | .getState k => Sys2Proof.Machine.execGetState k s
  | .enterRun k => Sys2Proof.Machine.execEnterRun k s
  | .enterSetup k => Sys2Proof.Machine.execEnterSetup k s
  | .setPosture k => Sys2Proof.Machine.execSetPosture k s
  | .resetSubsystem k => Sys2Proof.Machine.execResetSubsystem k s
  | .resetDevice k => Sys2Proof.Machine.execResetDevice k s
  | .echo k => Sys2Proof.Machine.execEcho k s
  | .saveConfig k => Sys2Proof.Machine.execSaveConfig k s
  | .getTime k => Sys2Proof.Machine.execGetTime k s
  | .setTimeSource k => Sys2Proof.Machine.execSetTimeSource k s
  | .setOscClass k => Sys2Proof.Machine.execSetOscClass k s
  | .servoAdjust k => Sys2Proof.Machine.execServoAdjust k s
  | .configTsIn k => Sys2Proof.Machine.execConfigTsIn k s
  | .configTsOut k => Sys2Proof.Machine.execConfigTsOut k s
  | .getCaptures k => Sys2Proof.Machine.execGetCaptures k s
  | .getHoldover k => Sys2Proof.Machine.execGetHoldover k s
  | .setSentryTick k => Sys2Proof.Machine.execSetSentryTick k s
  | .configPort k => Sys2Proof.Machine.execConfigPort k s
  | .setPortCorrections k => Sys2Proof.Machine.execSetPortCorrections k s
  | .configPtp k => Sys2Proof.Machine.execConfigPtp k s
  | .getPtpStatus k => Sys2Proof.Machine.execGetPtpStatus k s
  | .getPortStats k => Sys2Proof.Machine.execGetPortStats k s
  | .configSafeMsg k => Sys2Proof.Machine.execConfigSafeMsg k s
  | .configCsi k => Sys2Proof.Machine.execConfigCsi k s
  | .setNormaliser k => Sys2Proof.Machine.execSetNormaliser k s
  | .loadShadingTable k => Sys2Proof.Machine.execLoadShadingTable k s
  | .loadLidarTemplate k => Sys2Proof.Machine.execLoadLidarTemplate k s
  | .bindLidar k => Sys2Proof.Machine.execBindLidar k s
  | .configImu k => Sys2Proof.Machine.execConfigImu k s
  | .configEncoder k => Sys2Proof.Machine.execConfigEncoder k s
  | .configCan k => Sys2Proof.Machine.execConfigCan k s
  | .getSourceStatus k => Sys2Proof.Machine.execGetSourceStatus k s
  | .setCalibration k => Sys2Proof.Machine.execSetCalibration k s
  | .setPairing k => Sys2Proof.Machine.execSetPairing k s
  | .setExtrapolationLimit k => Sys2Proof.Machine.execSetExtrapolationLimit k s
  | .setVoterThresholds k => Sys2Proof.Machine.execSetVoterThresholds k s
  | .setAnchor k => Sys2Proof.Machine.execSetAnchor k s
  | .getPose k => Sys2Proof.Machine.execGetPose k s
  | .getVoterStatus k => Sys2Proof.Machine.execGetVoterStatus k s
  | .setVoxelConfig k => Sys2Proof.Machine.execSetVoxelConfig k s
  | .getPointStats k => Sys2Proof.Machine.execGetPointStats k s
  | .runNeighbourQuery k => Sys2Proof.Machine.execRunNeighbourQuery k s
  | .setCellSize k => Sys2Proof.Machine.execSetCellSize k s
  | .getTileMap k => Sys2Proof.Machine.execGetTileMap k s
  | .retireTile k => Sys2Proof.Machine.execRetireTile k s
  | .configBevExport k => Sys2Proof.Machine.execConfigBevExport k s
  | .getRinkStats k => Sys2Proof.Machine.execGetRinkStats k s
  | .loadPlan k => Sys2Proof.Machine.execLoadPlan k s
  | .activatePlan k => Sys2Proof.Machine.execActivatePlan k s
  | .getPlanStatus k => Sys2Proof.Machine.execGetPlanStatus k s
  | .unloadPlan k => Sys2Proof.Machine.execUnloadPlan k s
  | .submitSolverBatch k => Sys2Proof.Machine.execSubmitSolverBatch k s
  | .getSolverStatus k => Sys2Proof.Machine.execGetSolverStatus k s
  | .setTrackParams k => Sys2Proof.Machine.execSetTrackParams k s
  | .setRelevanceRule k => Sys2Proof.Machine.execSetRelevanceRule k s
  | .setZone k => Sys2Proof.Machine.execSetZone k s
  | .setEventRule k => Sys2Proof.Machine.execSetEventRule k s
  | .getTrack k => Sys2Proof.Machine.execGetTrack k s
  | .clearZones k => Sys2Proof.Machine.execClearZones k s
  | .setQueueMode k => Sys2Proof.Machine.execSetQueueMode k s
  | .setCutThrough k => Sys2Proof.Machine.execSetCutThrough k s
  | .setWatermarks k => Sys2Proof.Machine.execSetWatermarks k s
  | .resetQueue k => Sys2Proof.Machine.execResetQueue k s
  | .getQueueStatus k => Sys2Proof.Machine.execGetQueueStatus k s
  | .getFaultRecords k => Sys2Proof.Machine.execGetFaultRecords k s
  | .clearFault k => Sys2Proof.Machine.execClearFault k s
  | .setReaction k => Sys2Proof.Machine.execSetReaction k s
  | .setReactionTimer k => Sys2Proof.Machine.execSetReactionTimer k s
  | .setRecoveryLimits k => Sys2Proof.Machine.execSetRecoveryLimits k s
  | .setGateWindows k => Sys2Proof.Machine.execSetGateWindows k s
  | .setGroomer k => Sys2Proof.Machine.execSetGroomer k s
  | .getSafetyStatus k => Sys2Proof.Machine.execGetSafetyStatus k s
  | .injectFault k => Sys2Proof.Machine.execInjectFault k s
  | .enterSafe k => Sys2Proof.Machine.execEnterSafe k s
  | .setDeviceNumber k => Sys2Proof.Machine.execSetDeviceNumber k s
  | .getPeerStatus k => Sys2Proof.Machine.execGetPeerStatus k s
  | .setRegionMap k => Sys2Proof.Machine.execSetRegionMap k s
  | .getPower k => Sys2Proof.Machine.execGetPower k s
  | .setWakeSources k => Sys2Proof.Machine.execSetWakeSources k s
  | .setThermalLimits k => Sys2Proof.Machine.execSetThermalLimits k s
  | .getSecurityStatus k => Sys2Proof.Machine.execGetSecurityStatus k s
  | .beginUpdate k => Sys2Proof.Machine.execBeginUpdate k s
  | .commitUpdate k => Sys2Proof.Machine.execCommitUpdate k s
  | .attest k => Sys2Proof.Machine.execAttest k s
  | .revokeKey k => Sys2Proof.Machine.execRevokeKey k s
  | .readJournal k => Sys2Proof.Machine.execReadJournal k s
  | .setLifecycle k => Sys2Proof.Machine.execSetLifecycle k s
  | .getMemoryStatus k => Sys2Proof.Machine.execGetMemoryStatus k s
  | .scrub k corrected bad => Sys2Proof.Machine.execScrub k corrected bad s
  | .porstNAssert pulseNs powerLost => Sys2Proof.Machine.execPorstNAssert pulseNs powerLost s
  | .porstNEffectiveRelease aonPeriods => Sys2Proof.Machine.execPorstNEffectiveRelease aonPeriods s
  | .roleSample value => Sys2Proof.Machine.execRoleSample value s
  | .wrstNAssert pulseNs aonPeriods => Sys2Proof.Machine.execWrstNAssert pulseNs aonPeriods s
  | .deviceResetStart => Sys2Proof.Machine.execDeviceResetStart s
  | .bootComplete report => Sys2Proof.Machine.execBootComplete report s
  | .autoEnterRun => Sys2Proof.Machine.execAutoEnterRun s
  | .countIncrement n mismatch => Sys2Proof.Machine.execCountIncrement n mismatch s
  | .tick => Sys2Proof.Machine.execTick s
  | .frameUpdateCutoff => Sys2Proof.Machine.execFrameUpdateCutoff s
  | .tsInEdge input falling at_ => Sys2Proof.Machine.execTsInEdge input falling at_ s
  | .zdaSentence uart utc => Sys2Proof.Machine.execZdaSentence uart utc s
  | .ppsSourceLoss => Sys2Proof.Machine.execPpsSourceLoss s
  | .hostSourceLoss => Sys2Proof.Machine.execHostSourceLoss s
  | .tsOutLeadingEdge out => Sys2Proof.Machine.execTsOutLeadingEdge out s
  | .tsOutTrailingEdge out => Sys2Proof.Machine.execTsOutTrailingEdge out s
  | .ptpSyncReceived port msg head => Sys2Proof.Machine.execPtpSyncReceived port msg head s
  | .ptpFollowUpReceived port msg head => Sys2Proof.Machine.execPtpFollowUpReceived port msg head s
  | .ptpDelayReqReceived port msg head => Sys2Proof.Machine.execPtpDelayReqReceived port msg head s
  | .ptpDelayRespReceived port msg head => Sys2Proof.Machine.execPtpDelayRespReceived port msg head s
  | .ptpPdelayReqReceived port msg head => Sys2Proof.Machine.execPtpPdelayReqReceived port msg head s
  | .ptpPdelayRespReceived port msg head => Sys2Proof.Machine.execPtpPdelayRespReceived port msg head s
  | .ptpPdelayRespFollowUpReceived port msg head => Sys2Proof.Machine.execPtpPdelayRespFollowUpReceived port msg head s
  | .ptpAnnounceReceived port msg head => Sys2Proof.Machine.execPtpAnnounceReceived port msg head s
  | .ptpSignalingReceived port msg head => Sys2Proof.Machine.execPtpSignalingReceived port msg head s
  | .ptpManagementReceived port msg head => Sys2Proof.Machine.execPtpManagementReceived port msg head s
  | .ptpSyncInterval port => Sys2Proof.Machine.execPtpSyncInterval port s
  | .ptpDelayInterval port => Sys2Proof.Machine.execPtpDelayInterval port s
  | .ptpAnnounceInterval port => Sys2Proof.Machine.execPtpAnnounceInterval port s
  | .syncReceiptTimeout port => Sys2Proof.Machine.execSyncReceiptTimeout port s
  | .announceReceiptTimeout port => Sys2Proof.Machine.execAnnounceReceiptTimeout port s
  | .pdelayTimeout port => Sys2Proof.Machine.execPdelayTimeout port s
  | .linkDown port => Sys2Proof.Machine.execLinkDown port s
  | .linkUp port speed => Sys2Proof.Machine.execLinkUp port speed s
  | .arpRequest port ip target sender head => Sys2Proof.Machine.execArpRequest port ip target sender head s
  | .ethOtherFrame port kind head => Sys2Proof.Machine.execEthOtherFrame port kind head s
  | .lidarDatagram d => Sys2Proof.Machine.execLidarDatagram d s
  | .sweepTimeout lidar => Sys2Proof.Machine.execSweepTimeout lidar s
  | .csiFrameStart rx vc number corrected => Sys2Proof.Machine.execCsiFrameStart rx vc number corrected s
  | .csiLongPacket rx packet => Sys2Proof.Machine.execCsiLongPacket rx packet s
  | .csiFrameEnd rx vc number corrected => Sys2Proof.Machine.execCsiFrameEnd rx vc number corrected s
  | .imuDataReady imu => Sys2Proof.Machine.execImuDataReady imu s
  | .imuTransactionComplete imu burst => Sys2Proof.Machine.execImuTransactionComplete imu burst s
  | .encoderEdge enc onB level at_ => Sys2Proof.Machine.execEncoderEdge enc onB level at_ s
  | .canMessage can msg => Sys2Proof.Machine.execCanMessage can msg s
  | .canErrorFrame can => Sys2Proof.Machine.execCanErrorFrame can s
  | .canBusOff can => Sys2Proof.Machine.execCanBusOff can s
  | .sourceLossTimeout source => Sys2Proof.Machine.execSourceLossTimeout source s
  | .wheelVelocityUpdate => Sys2Proof.Machine.execWheelVelocityUpdate s
  | .poseAtFusionInstant => Sys2Proof.Machine.execPoseAtFusionInstant s
  | .cameraPartClose => Sys2Proof.Machine.execCameraPartClose s
  | .lidarPartClose => Sys2Proof.Machine.execLidarPartClose s
  | .scanMatchIteration => Sys2Proof.Machine.execScanMatchIteration s
  | .scanDeadline => Sys2Proof.Machine.execScanDeadline s
  | .takeStart => Sys2Proof.Machine.execTakeStart s
  | .takeComplete => Sys2Proof.Machine.execTakeComplete s
  | .ruleBooksDelivered hurt => Sys2Proof.Machine.execRuleBooksDelivered hurt s
  | .frameBoundary => Sys2Proof.Machine.execFrameBoundary s
  | .sequencerStepEnd tile step => Sys2Proof.Machine.execSequencerStepEnd tile step s
  | .haloPoint slot strip => Sys2Proof.Machine.execHaloPoint slot strip s
  | .liftColumn receiver column => Sys2Proof.Machine.execLiftColumn receiver column s
  | .liftPacket packet => Sys2Proof.Machine.execLiftPacket packet s
  | .endOfPassMarker slot => Sys2Proof.Machine.execEndOfPassMarker slot s
  | .bevPhaseStart => Sys2Proof.Machine.execBevPhaseStart s
  | .headsEnd slot heads => Sys2Proof.Machine.execHeadsEnd slot heads s
  | .exportComplete => Sys2Proof.Machine.execExportComplete s
  | .remoteGatherRequest tile gather => Sys2Proof.Machine.execRemoteGatherRequest tile gather s
  | .remoteGatherTimeout tile => Sys2Proof.Machine.execRemoteGatherTimeout tile s
  | .routeGenerationMarker router => Sys2Proof.Machine.execRouteGenerationMarker router s
  | .linkFlitError link group resendFailed => Sys2Proof.Machine.execLinkFlitError link group resendFailed s
  | .migrationCopyStart => Sys2Proof.Machine.execMigrationCopyStart s
  | .migrationShadowStep => Sys2Proof.Machine.execMigrationShadowStep s
  | .migrationHandover => Sys2Proof.Machine.execMigrationHandover s
  | .forwarderDrained => Sys2Proof.Machine.execForwarderDrained s
  | .spareTestComplete tile passed => Sys2Proof.Machine.execSpareTestComplete tile passed s
  | .testCycleBegin => Sys2Proof.Machine.execTestCycleBegin s
  | .testSliceStart => Sys2Proof.Machine.execTestSliceStart s
  | .solverSchedule => Sys2Proof.Machine.execSolverSchedule s
  | .solverJobComplete job outcome => Sys2Proof.Machine.execSolverJobComplete job outcome s
  | .detectionsArrival => Sys2Proof.Machine.execDetectionsArrival s
  | .propagationComplete mismatches => Sys2Proof.Machine.execPropagationComplete mismatches s
  | .propagationDeadline => Sys2Proof.Machine.execPropagationDeadline s
  | .egoStateForm => Sys2Proof.Machine.execEgoStateForm s
  | .glideBlockReset => Sys2Proof.Machine.execGlideBlockReset s
  | .noticePulse => Sys2Proof.Machine.execNoticePulse s
  | .queueResetComplete queue => Sys2Proof.Machine.execQueueResetComplete queue s
  | .faultReportArrival report => Sys2Proof.Machine.execFaultReportArrival report s
  | .collectorJudgement => Sys2Proof.Machine.execCollectorJudgement s
  | .reactionTimerExpiry subsystem => Sys2Proof.Machine.execReactionTimerExpiry subsystem s
  | .quietPeriodExpiry source unit => Sys2Proof.Machine.execQuietPeriodExpiry source unit s
  | .blockResetComplete subsystem => Sys2Proof.Machine.execBlockResetComplete subsystem s
  | .safeSignalToggle => Sys2Proof.Machine.execSafeSignalToggle s
  | .referenceClockLoss => Sys2Proof.Machine.execReferenceClockLoss s
  | .gateWindowExpiry gate => Sys2Proof.Machine.execGateWindowExpiry gate s
  | .taskMonitorExpiry tile => Sys2Proof.Machine.execTaskMonitorExpiry tile s
  | .groomerInjection rx => Sys2Proof.Machine.execGroomerInjection rx s
  | .groomerInjectionEnd rx passed => Sys2Proof.Machine.execGroomerInjectionEnd rx passed s
  | .safeMsgRepeat => Sys2Proof.Machine.execSafeMsgRepeat s
  | .atidePoseAnchorReceived frame => Sys2Proof.Machine.execAtidePoseAnchorReceived frame s
  | .atideStatusReceived frame => Sys2Proof.Machine.execAtideStatusReceived frame s
  | .atideTracksReceived frame => Sys2Proof.Machine.execAtideTracksReceived frame s
  | .atideAckReceived frame => Sys2Proof.Machine.execAtideAckReceived frame s
  | .atideResendReceived frame => Sys2Proof.Machine.execAtideResendReceived frame s
  | .trackSetIncompleteTimeout device => Sys2Proof.Machine.execTrackSetIncompleteTimeout device s
  | .trackSetAckTimeout => Sys2Proof.Machine.execTrackSetAckTimeout s
  | .trackSetMerge device => Sys2Proof.Machine.execTrackSetMerge device s
  | .workerStatusTimeout device => Sys2Proof.Machine.execWorkerStatusTimeout device s
  | .poseAnchorTimeout => Sys2Proof.Machine.execPoseAnchorTimeout s
  | .postureChangeComplete failedTiles => Sys2Proof.Machine.execPostureChangeComplete failedTiles s
  | .standbyDrainTimeout => Sys2Proof.Machine.execStandbyDrainTimeout s
  | .standbyEntryComplete => Sys2Proof.Machine.execStandbyEntryComplete s
  | .wakeEvent cause input rising aonPeriods => Sys2Proof.Machine.execWakeEvent cause input rising aonPeriods s
  | .wakeTimerExpiry aonPeriods => Sys2Proof.Machine.execWakeTimerExpiry aonPeriods s
  | .thermalSensorRead readings => Sys2Proof.Machine.execThermalSensorRead readings s
  | .throttleEvaluation => Sys2Proof.Machine.execThrottleEvaluation s
  | .throttleRetry => Sys2Proof.Machine.execThrottleRetry s
  | .analogThermalTrip => Sys2Proof.Machine.execAnalogThermalTrip s
  | .supplyMonitorCrossing supply millivolts => Sys2Proof.Machine.execSupplyMonitorCrossing supply millivolts s
  | .nvInhibitClear => Sys2Proof.Machine.execNvInhibitClear s
  | .nvPauseTimeout => Sys2Proof.Machine.execNvPauseTimeout s
  | .pllLockLoss pll => Sys2Proof.Machine.execPllLockLoss pll s
  | .pllRelock pll => Sys2Proof.Machine.execPllRelock pll s
  | .pmbusRetry acknowledged => Sys2Proof.Machine.execPmbusRetry acknowledged s
  | .journalRecordWrite => Sys2Proof.Machine.execJournalRecordWrite s
  | .flashOperationComplete failed => Sys2Proof.Machine.execFlashOperationComplete failed s
  | .wrstNRelease => Sys2Proof.Machine.execWrstNRelease s
  | .jtagAccess full => Sys2Proof.Machine.execJtagAccess full s
  | .csiPhySyncLoss rx lane => Sys2Proof.Machine.execCsiPhySyncLoss rx lane s
  | .csiSkewCalibration rx => Sys2Proof.Machine.execCsiSkewCalibration rx s
  | .injectFaultReportTimeout => Sys2Proof.Machine.execInjectFaultReportTimeout s
  | .trackSetWaitTimeout device => Sys2Proof.Machine.execTrackSetWaitTimeout device s
  | .onDemandDomainStop domain => Sys2Proof.Machine.execOnDemandDomainStop domain s

end Sys2Proof.Machine
end

