-- ==== Sys2Proof/Safety.lean ====
section
/-! DEFINITION. What counts as a safe run, and the words in which statements are made: the parts of State that a command
leaves as they were, and a command that completes. -/

namespace Sys2Proof.Machine

/-- The parts of State that a frame can name. The words that every command settles at its end stand in none of them:
DEGRADATION, NOTICE_CAUSE and the pulses waiting, the flow-control pins, the peaks and the ABOVE_HIGH bits. -/
inductive Part where
  | device | port | intake | flight | reply | result | event | mask
  | time | ports | patrol | safety | ingest | align | point | rink | plans | solver | glide | peers
  | power | security | pins | memory | settings | tx | freeCount | pending
deriving DecidableEq, Repr

/-- An outbound queue without what every command settles. -/
def OutQueue.core (q : OutQueue) : OutQueue := { q with peak := 0, aboveHigh := false }

/-- A part is the same in two states. -/
def Part.same (s t : State) : Part → Prop
  | .device => { t.dev with degradation := 0 } = { s.dev with degradation := 0 }
  | .port => t.host.port = s.host.port
  | .intake => t.host.intake = s.host.intake ∧ t.host.intakeLost = s.host.intakeLost ∧
      t.host.intakeResets = s.host.intakeResets
  | .flight => t.host.flight = s.host.flight
  | .reply => t.host.reply.core = s.host.reply.core
  | .result => t.host.result.core = s.host.result.core
  | .event => t.host.event.core = s.host.event.core
  | .mask => t.host.notices.mask = s.host.notices.mask
  | .time => t.time = s.time
  | .ports => t.ports = s.ports
  | .patrol => t.patrol = s.patrol
  | .safety => t.safety = s.safety
  | .ingest => t.ingest = s.ingest
  | .align => t.align = s.align
  | .point => t.point = s.point
  | .rink => t.rink = s.rink
  | .plans => t.plans = s.plans
  | .solver => t.solver = s.solver
  | .glide => t.glide = s.glide
  | .peers => t.peers = s.peers
  | .power => t.power = s.power
  | .security => t.security = s.security
  | .pins => t.pins = s.pins
  | .memory => t.memory = s.memory
  | .settings => t.settings = s.settings
  | .tx => t.tx = s.tx
  | .freeCount => t.freeCount = s.freeCount
  | .pending => t.pending = s.pending

/-- Nothing but the named parts has changed. -/
def ChangesOnly (changed : List Part) (s t : State) : Prop := ∀ p, p ∉ changed → p.same s t

/-- A command completes: it answers a next state that is as said. -/
def Completes (c : Instr) (s : State) (Q : State → Prop) : Prop := ∃ t, exec c s = .next t ∧ Q t

/-- A command of the host has started, its work has not ended, and the interpreter runs. -/
def Ready (k : CmdKey) (op : Nat) (s : State) (c : Cmd) : Prop :=
  running k op s = some c ∧ awake s = true ∧ ctlClocked s = true

/-- The results that a command's final reply carries: a version 1 reply keeps the first part of them (R61). -/
def finalResults (c : Cmd) (results : Bytes) : Bytes :=
  match c.key.ver with
  | .v1 => resultCut c.op results
  | .v2 => results

/-- A packet stands last in the reply queue, its words written one after the other from the moment the writer is free
(R406). The threshold at which it opens is the one in force when it is written. -/
def ReplySent (b : Bytes) (s t : State) : Prop :=
  t.host.reply.words = s.host.reply.words ++ outWords (writeStart s 1) (cutOf t 1) (packWords b)

/-- The final reply of a command stands last in the reply queue and the command has left flight. -/
def Replied (c : Cmd) (status detail : Nat) (results : Bytes) (s t : State) : Prop :=
  ReplySent (replyPacket c.key.ver c.rawOp c.key.tag status detail true c.ordered (finalResults c results)) s t ∧
  t.host.flight = s.host.flight.filter (fun x => !(x.key == c.key))

/-- The work of a command marked L has ended with an outcome: its final reply is due. -/
def Concluded (c : Cmd) (status detail : Nat) (results : Bytes) (s t : State) : Prop :=
  t.host.flight = s.host.flight.map (fun (d : Cmd) =>
    if d.key == c.key then { d with outcome := some { status := status, detail := detail, results := results } } else d)

/-- A command of the host answers with a block of its parameters and the state, and changes nothing else. -/
def RepliesBlock (cmd : CmdKey → Instr) (op : Nat) (block : Bytes → State → Bytes) : Prop :=
  ∀ (k : CmdKey) (c : Cmd) (s : State), Ready k op s c → Completes (cmd k) s fun t =>
    Replied c stDone 0 (block c.params s) s t ∧ ChangesOnly [.flight, .reply] s t

/-- A command of the host puts its parameter block in force under an index and is answered DONE; beside the settings only
the named parts change. -/
def StoresSetting (cmd : CmdKey → Instr) (op : Nat) (idx : Bytes → Nat) (also : List Part) : Prop :=
  ∀ (k : CmdKey) (c : Cmd) (s : State), Ready k op s c → Completes (cmd k) s fun t =>
    Replied c stDone 0 [] s t ∧ t.settings = (putSetting op (idx c.params) c.params s).settings ∧
      setting t op (idx c.params) = c.params ∧ ChangesOnly ([.flight, .reply, .settings] ++ also) s t

/-- A frame reaches a port that carries frames, finds room in its receive buffer, and has the length and the tag that the
port's configuration accepts (R29, R99). -/
def FrameTaken (p : Nat) (h : FrameHead) (s : State) : Prop :=
  awake s = true ∧ portUp s p = true ∧ rxRoom s p h = true ∧ frameFits s p h = true

/-- A PTP message of a kind is taken in by a port, and fits the instance (R116, R117). -/
def PtpTaken (p : Nat) (kind : PtpKind) (m : PtpMsg) (h : FrameHead) (s : State) : Prop :=
  FrameTaken p h s ∧ m.kind = kind ∧ ptpFits s p m = true

/-- A port's transmitter is free, and no frame of strict priority waits for it: an event message given to it starts at once
(R104). -/
def FreeForEvents (p : Nat) (s : State) : Prop :=
  portUp s p = true ∧ (ethPort s p).txUntil ≤ countNow s ∧ ∀ y ∈ (ethPort s p).txQueue, y.urgent = false

/-- A port's transmitter is free, and no frame waits for it. -/
def Idle (p : Nat) (s : State) : Prop :=
  portUp s p = true ∧ (ethPort s p).txUntil ≤ countNow s ∧ (ethPort s p).txQueue = []

/-- One frame leaves a port now, and nothing else leaves the device: its addresses, tag and payload (R100). -/
def FrameLeft (p dest : Nat) (what : EthPayload) (s t : State) : Prop :=
  (∃ f : EthFrame, t.tx = s.tx ++ [.eth p f] ∧ f.dest = dest ∧ f.source = portMac s p ∧ f.what = what ∧
    f.tag = frameTag s p what) ∧
  (ethPort t p).counters.framesTx = bump (ethPort s p).counters.framesTx

/-- A path-delay measurement joins the last eight, or is counted as an outlier; after eight outliers in a row the mean
starts again from the next one (R109). -/
def DelayTaken (m : Interval) (e f : EthPort) : Prop :=
  ((∀ d, meanDelay e = some d → mag (m - d) ≤ usUnits) →
    f.delays = (e.delays ++ [m]).drop (e.delays.length - 7) ∧ f.outlierRun = 0 ∧
    f.counters.pathOutlier = e.counters.pathOutlier) ∧
  ∀ d, meanDelay e = some d → usUnits < mag (m - d) → f.counters.pathOutlier = bump e.counters.pathOutlier ∧
    (e.outlierRun < 7 → f.delays = e.delays ∧ f.outlierRun = e.outlierRun + 1) ∧
    (7 ≤ e.outlierRun → f.delays = [] ∧ f.outlierRun = 0)

/-- A safe state: every word that a command settles at its end is as the rest of the state calls for. DEGRADATION holds
the flags in force (R7), FC_CMD_N and FC_OUT_N have the levels of R409 and R410, no fill is above its peak (Table 14.6). -/
structure Settled (s : State) : Prop where
  degradation : s.dev.degradation = degradationOf s
  fcCmd : s.host.notices.fcCmd = fcCmdOf s
  fcOut : s.host.notices.fcOut = fcOutOf s
  replyPeak : fill (countNow s) s.host.reply ≤ s.host.reply.peak
  resultPeak : fill (countNow s) s.host.result ≤ s.host.result.peak
  eventPeak : fill (countNow s) s.host.event ≤ s.host.event.peak
  intakePeak : intakeFill s.host.intake ≤ s.host.intakePeak

end Sys2Proof.Machine
end

