-- ==== Sys2Proof/Certificates/Slice0/Obligations.lean ====
section
/-! DEFINITION. The statements for the provers, chapter by chapter of the manual. -/

open Sys2Proof Sys2Proof.Machine

/-! ## The queue of commands and what every command settles -/

/-- A step takes the command at the front of the queue and runs it with the queue's rest; on an empty queue the block idles,
which is the model's choice (assumption 1). -/
def Obligations.StepRunsFrontCommand : Prop :=
  (∀ (c : Instr) (cs : List Instr) (s : State), s.pending = c :: cs → step s = exec c { s with pending := cs }) ∧
  ∀ s : State, s.pending = [] → step s = .next s

/-- From every settled state a step that answers a next state answers a settled one: DEGRADATION, FC_CMD_N, FC_OUT_N and
the peaks are as the rest of the state calls for. Model's choices: assumption 39. -/
def Obligations.StepsStaySettled : Prop := ∀ s t : State, Settled s → step s = .next t → Settled t

/-- The state after reset is settled. Model's choices: assumptions 2, 39. -/
def Obligations.ResetIsSettled : Prop := Settled State.reset

/-! ## Chapter 02: the host port -/

/-- A latency written to PORT_MODE is in force at the end of the transfer, raised to the mode's minimum, and is what a
READ of PORT_MODE then returns; each mode-changing instruction, in a mode it is valid in (Table 2.2), puts the port into
its mode with both latencies at the new mode's defaults (R42, Table 2.1). RETURN_1S needs no second byte. READ_ID drives
DEVICE_ID and REVISION, and repeats them for the whole data phase; HOST_DS strobes in the eight-line modes. A transfer
whose code is unknown, or whose second byte in 8D-8D-8D is not the inverse, moves nothing: the lines stay undriven and
BAD_INSTRUCTION counts one (R31, R34). -/
def Obligations.PortModesAndIdentity : Prop :=
  ((∀ (second v : Nat) (s : State), portAnswers s = true → instructionOk s.host.port 0x02 second = true →
     Completes (.writePortMode second 0x30 (bytesOfNat 4 v)) s fun t =>
       t.host.port.mode = s.host.port.mode ∧
       t.host.port.readLatency = max (minRead s.host.port.mode) (v / 256 % 64) ∧
       t.host.port.apertureLatency = max (minAperture s.host.port.mode) (v / 65536 % 64) ∧
       t.host.notices.mask = s.host.notices.mask % 64 ∧ ChangesOnly [.port, .mask] s t ∧
       ∀ second', instructionOk t.host.port 0x0B second' = true → Completes (.readQueueWindow 0x0B second' 0x30 4) t fun u =>
         u.host.port.dq = some (bytesOfNat 4 (portModeWord t.host.port))) ∧
   ∀ (second : Nat) (s : State), portAnswers s = true →
     (s.host.port.mode = .s1 → Completes (.enter4s second) s fun t =>
       (t.host.port.mode = .s4 ∧ t.host.port.readLatency = 10 ∧ t.host.port.apertureLatency = 24) ∧ ChangesOnly [.port] s t) ∧
     (s.host.port.mode = .s1 ∨ s.host.port.mode = .s4 → Completes (.enter8s second) s fun t =>
       (t.host.port.mode = .s8 ∧ t.host.port.readLatency = 16 ∧ t.host.port.apertureLatency = 40) ∧ ChangesOnly [.port] s t) ∧
     (s.host.port.mode ≠ .d8 → Completes (.enter8d second) s fun t =>
       (t.host.port.mode = .d8 ∧ t.host.port.readLatency = 20 ∧ t.host.port.apertureLatency = 40) ∧ ChangesOnly [.port] s t) ∧
     Completes (.return1s second) s fun t =>
       (t.host.port.mode = .s1 ∧ t.host.port.readLatency = 8 ∧ t.host.port.apertureLatency = 12) ∧ ChangesOnly [.port] s t) ∧
  (∀ (second len : Nat) (s : State), portAnswers s = true →
     (instructionOk s.host.port 0x9F second = true → Completes (.readId second len) s fun t => ChangesOnly [.port] s t ∧
       t.host.port = { s.host.port with dq := some (idBytes (phaseLen s.host.port len)), driven := outLines s.host.port.mode,
                                        ds := s.host.port.mode == .s8 || s.host.port.mode == .d8 } ∧
       ∀ i, i < phaseLen s.host.port len → (idBytes (phaseLen s.host.port len)).getD i 0 =
         (bytesOfNat 4 deviceId ++ bytesOfNat 4 revisionWord).getD (i % 8) 0) ∧
     (s.host.port.mode = .d8 → second + 0x9F ≠ 255 → Completes (.readId second len) s fun t =>
       t.host.port = { s.host.port with badInstruction := bump s.host.port.badInstruction, dq := none, driven := 0, ds := false } ∧
       ChangesOnly [.port] s t) ∧
     ∀ code addr : Nat, knownCode code = false → Completes (.readQueueWindow code second addr len) s fun t =>
       t.host.port = { s.host.port with badInstruction := bump s.host.port.badInstruction, dq := none, driven := 0, ds := false } ∧
       ChangesOnly [.port] s t)

/-- A READ of a queue window whose queue holds more readable words than it takes drives those words and consumes them; a
word the transfer ends inside stays, and no other queue is touched (R37). A queue-window transfer that does not start at
a multiple of 8 moves no word and counts one in MISALIGNED; a read of it returns words with VALID clear and REASON 6.
Model's choices: assumptions 10, 24. -/
def Obligations.QueueWindowsMoveWholeWords : Prop :=
  (∀ (n second len : Nat) (s : State), portAnswers s = true → instructionOk s.host.port 0x0B second = true →
     n = 1 ∨ n = 2 ∨ n = 3 → (outQueue s n).inReset = false →
     phaseLen s.host.port len / 8 < (outQueue s n).words.length →
     (∀ w ∈ (outQueue s n).words, w.damaged = false ∧ wordValid w.word = true ∧ w.begun ≤ countNow s ∧ w.readyAt ≤ countNow s) →
     Completes (.readQueueWindow 0x0B second (0x10000 * (n + 1)) len) s fun t =>
       (outQueue t n).words = (outQueue s n).words.drop (phaseLen s.host.port len / 8) ∧
       (∀ m, m = 1 ∨ m = 2 ∨ m = 3 → m ≠ n → (outQueue t m).words = (outQueue s m).words) ∧
       t.host.port.dq = some ((((outQueue s n).words.map (fun w => w.word)).flatMap (fun w => bytesOfNat 8 w.toNat)).take
         (phaseLen s.host.port len)) ∧
       ChangesOnly [.port, .reply, .result, .event] s t) ∧
  (∀ (n second addr len : Nat) (data : Bytes) (s : State), portAnswers s = true → addr % 8 ≠ 0 →
     (s.host.port.mode = .d8 → addr % 2 = 0) →
     (n = 1 ∨ n = 2 ∨ n = 3 → instructionOk s.host.port 0x0B second = true →
       0x10000 * (n + 1) ≤ addr → addr < 0x10000 * (n + 2) →
       Completes (.readQueueWindow 0x0B second addr len) s fun t =>
         t.host.port.misaligned = bump s.host.port.misaligned ∧ ChangesOnly [.port] s t ∧
         t.host.port.dq = some (((List.replicate ((phaseLen s.host.port len + 7) / 8) (mkWord false false 6 0)).flatMap
           (fun w => bytesOfNat 8 w.toNat)).take (phaseLen s.host.port len))) ∧
     (instructionOk s.host.port 0x02 second = true → 0x10000 ≤ addr → addr < 0x20000 →
       Completes (.writeCommandWindow second addr data) s fun t =>
         t.host.port.misaligned = bump s.host.port.misaligned ∧ ChangesOnly [.port] s t))

/-- A WRITE of the staging aperture stores each of its bytes that lies in the region and outside the ranges closed by R39, and
no other byte of memory changes; one that had a byte ignored counts one in APERTURE_BLOCKED. -/
def Obligations.StagingWritesStore : Prop :=
  ∀ (second off : Nat) (data : Bytes) (s : State), portAnswers s = true → instructionOk s.host.port 0x02 second = true →
    (s.host.port.mode = .d8 → off % 2 = 0 ∧ data.length % 2 = 0) → off < 0x10000000 → cellsWf s.memory.staging = true →
    Completes (.writeStagingAperture second (0x10000000 + off) data) s fun t =>
      (∀ a, cellAt t.memory.staging a =
        if off ≤ a ∧ a < off + data.length ∧ a < 0x10000000 ∧ stagingBlocked s a = false then data.getD (a - off) 0
        else cellAt s.memory.staging a) ∧
      t.memory.exportRegion = s.memory.exportRegion ∧ t.memory.channels = s.memory.channels ∧
      cellsWf t.memory.staging = true ∧
      ((∃ a, off ≤ a ∧ a < off + data.length ∧ a < 0x10000000 ∧ stagingBlocked s a = true) →
        t.host.port.apertureBlocked = bump s.host.port.apertureBlocked) ∧
      ((∀ a, off ≤ a → a < off + data.length → a < 0x10000000 → stagingBlocked s a = false) →
        t.host.port.apertureBlocked = s.host.port.apertureBlocked) ∧
      ChangesOnly [.port, .memory] s t

/-- A WRITE of NOTICE_CAUSE clears the bits written as 1 and no other; beside that a bit sets only where the notice of a packet
becomes due in the same step, and STATE_CHANGE and FLOW as the settled levels call for. NOTICE_MASK takes what is written; a
write to any other byte of the status block but PORT_MODE changes no register (R41). A write that the port does not take is
counted (R34), and one before R33's moment is not even that. Model's choices: assumption 10. -/
def Obligations.NoticeRegistersTakeWrites : Prop :=
  (∀ (second v : Nat) (s : State), portAnswers s = true → instructionOk s.host.port 0x02 second = true → v < 2 ^ 32 →
    Completes (.writeNoticeCause second 0x34 (bytesOfNat 4 v)) s fun t =>
      (∀ b, b < 6 → b ≠ causeFlow ∧ b ≠ causeState ∨ Settled s → bitOf t.host.notices.cause b =
        (bitOf s.host.notices.cause b && !bitOf v b ||
          s.host.notices.coming.any (fun c => c.bit == b && decide (c.count ≤ countNow s) && decide (c.from_ ≤ now s)))) ∧
      t.host.port.mode = s.host.port.mode ∧ t.host.notices.mask = s.host.notices.mask % 64 ∧ ChangesOnly [.port, .mask] s t) ∧
  (∀ (second v : Nat) (s : State), portAnswers s = true → instructionOk s.host.port 0x02 second = true →
    Completes (.writeOtherRegister second 0x38 (bytesOfNat 4 v)) s fun t => t.host.notices.mask = v % 64 ∧
      ChangesOnly [.port, .mask] s t) ∧
  (∀ (second addr : Nat) (data : Bytes) (s : State), portAnswers s = true → instructionOk s.host.port 0x02 second = true →
    (s.host.port.mode = .d8 → addr % 2 = 0) → addr + data.length ≤ 0x30 ∨ 0x3C ≤ addr ∧ addr < 0x1000 →
    minRead s.host.port.mode ≤ s.host.port.readLatency → s.host.port.readLatency < 64 →
    minAperture s.host.port.mode ≤ s.host.port.apertureLatency → s.host.port.apertureLatency < 64 →
    s.host.notices.mask < 64 → Completes (.writeOtherRegister second addr data) s fun t =>
      t.host.port = { s.host.port with dq := none, driven := 0, ds := false } ∧ ChangesOnly [.port] s t) ∧
  ∀ (second addr : Nat) (data : Bytes) (s : State) (i : Instr),
    i = .writeNoticeCause second addr data ∨ i = .writeOtherRegister second addr data →
    (portAnswers s = false → Completes i s fun t => ChangesOnly [] s t) ∧
    (portAnswers s = true → instructionOk s.host.port 0x02 second = false ∨ s.host.port.mode = .d8 ∧ addr % 2 = 1 →
      Completes i s fun t => t.host.port = { s.host.port with
        badInstruction := bump s.host.port.badInstruction, dq := none, driven := 0, ds := false } ∧ ChangesOnly [.port] s t)

/-- A word written to the command window: with VALID clear it is ignored; with VALID set and room it enters the intake, and
with END it makes of itself and the words before it a packet taken up now (R43, R44). -/
def Obligations.CommandWordsAreTakenUp : Prop :=
  ∀ (second : Nat) (w : QWord) (s : State), portAnswers s = true → instructionOk s.host.port 0x02 second = true →
    Completes (.writeCommandWindow second 0x10000 (bytesOfNat 8 w.toNat)) s fun t =>
      ChangesOnly (if wordEnd w = true then [.port, .intake, .reply] else [.port, .intake]) s t ∧
      (wordValid w = false → t.host.intake = s.host.intake) ∧
      (wordValid w = true → intakeFill s.host.intake < 8192 → wordEnd w = false →
        t.host.intake = { s.host.intake with partialWords := s.host.intake.partialWords ++ [w] }) ∧
      (wordValid w = true → intakeFill s.host.intake < 8192 → wordEnd w = true → s.host.intake.lostAfter = none →
        t.host.intake = { s.host.intake with
          packets := s.host.intake.packets ++ [{ words := s.host.intake.partialWords ++ [w], seq := s.host.intake.nextSeq,
                                                 takeUp := countNow s, accepted := none, owed := none }],
          partialWords := [], nextSeq := s.host.intake.nextSeq + 1 })

/-! ## Chapter 02: the life of a command -/

/-- A packet whose checks fail is refused and leaves the intake: its reply is sent at once, or is owed while an order holds it;
one that passes enters flight while fewer than 256 commands are there and none waits before it, and otherwise waits in the
intake (R50, R52, R55). One whose covered bytes do not give its CRC-32C is refused with BAD_CRC (R48). One that waits enters
flight when there is room. Model's choices: assumptions 26, 37, 100, 106. -/
def Obligations.AcceptanceAnswersOrAdmits : Prop :=
  (∀ (s : State) (p : IntakePacket), awake s = true → ctlClocked s = true →
    s.host.intake.packets.find? (owedDue s) = none → s.host.intake.packets.find? unjudged = some p → 3 ≤ replyRoom s →
    Completes .commandAcceptance s fun t =>
      match judgePacket s p with
      | .refuse o =>
        if replyWaits s p.seq o = true then
          t.host.intake.packets = s.host.intake.packets.map (fun (q : IntakePacket) =>
            if q.seq = p.seq then { q with words := [], accepted := none, owed := some o } else q) ∧
          ChangesOnly [.intake] s t
        else
          ReplySent (owedReply o) s t ∧ t.host.intake.packets = s.host.intake.packets.filter (fun q => q.seq != p.seq) ∧
          ChangesOnly [.intake, .reply] s t
      | .accept c =>
        if s.host.flight.length < 256 ∧ s.host.intake.packets.any (fun q => q.accepted.isSome) = false then
          t.host.flight = s.host.flight ++ [c] ∧
          t.host.intake.packets = s.host.intake.packets.filter (fun q => q.seq != p.seq) ∧
          ChangesOnly [.intake, .flight] s t
        else
          t.host.intake.packets = s.host.intake.packets.map (fun (q : IntakePacket) =>
            if q.seq = p.seq then { q with accepted := some c } else q) ∧
          ChangesOnly [.intake] s t) ∧
  (∀ (s : State) (p : IntakePacket) (o : Owed), awake s = true → ctlClocked s = true → 3 ≤ replyRoom s →
    s.host.intake.packets.find? (owedDue s) = some p → p.owed = some o → Completes .commandAcceptance s fun t =>
      ReplySent (owedReply o) s t ∧ t.host.intake.packets = s.host.intake.packets.filter (fun q => q.seq != p.seq) ∧
      ChangesOnly [.intake, .reply] s t) ∧
  (∀ (s : State) (p : IntakePacket) (v : Ver) (n : Nat),
    packetVersion (unpackWords p.words) = some v → packetLength v (unpackWords p.words) = some n →
    wordsFor n = p.words.length → packetCrcGood v ((unpackWords p.words).take n) = false →
    judgePacket s p = untrusted v stBadCrc p.words.length) ∧
  (∀ (s : State) (p : IntakePacket) (ps : List IntakePacket) (c : Cmd), awake s = true → ctlClocked s = true →
    s.host.intake.packets = p :: ps → p.accepted = some c → s.host.flight.length < 256 → 3 ≤ replyRoom s →
    (∀ d ∈ s.host.flight, d.key ≠ c.key) → (s.dev.state = .safe → opAllowed s c.op = true) →
    (changesState c.op = true → ∀ d ∈ s.host.flight, changesState d.op = false) →
    Completes .commandEnterFlight s fun t => t.host.flight = s.host.flight ++ [c] ∧
      t.host.intake.packets = (p :: ps).filter (fun q => q.seq != p.seq) ∧ ChangesOnly [.intake, .flight] s t)

/-- A command that need not wait and passes the checks starts: from then on its reply's words are reserved and, where the
table marks it L and it is of version 2, an ACCEPTED reply with FINAL clear stands last in the reply queue; one that a check
refuses ends with that refusal (R53, R54). An ORDERED command does not start while a command taken up before it is in flight,
and none taken up after an ORDERED one starts while that one is there: ENTER_SAFE alone does (R55). The outcome of a command
marked L goes out in its final reply. Model's choices: assumptions 27, 37, 100, 106. -/
def Obligations.StartsAndFinalReplies : Prop :=
  (∀ (k : CmdKey) (s : State) (c : Cmd), awake s = true → ctlClocked s = true → flightOf k s = some c → c.started = none →
    startWaits s c = false → Completes (.commandStart k) s fun t =>
      match startChecks s c with
      | some r => Replied c r.1 r.2 [] s t ∧ ChangesOnly [.flight, .reply] s t
      | none =>
        (∃ d, flightOf k t = some d ∧ d.started = some (countNow s) ∧ d.op = c.op ∧ d.params = c.params ∧
          d.reserved = replyWords c.key.ver (maxResult c)) ∧
        ChangesOnly [.flight, .reply, .plans, .freeCount] s t ∧
        if c.key.ver = .v2 ∧ isLong c.op = true then
          ReplySent (replyPacket .v2 c.rawOp c.key.tag stAccepted (acceptedMs s c) false c.ordered []) s t
        else t.host.reply.words = s.host.reply.words) ∧
  (∀ (k : CmdKey) (s : State) (c d : Cmd), flightOf k s = some c → c.op ≠ 0x0D04 → d ∈ s.host.flight → d.seq < c.seq →
    c.ordered = true ∨ d.ordered = true → Completes (.commandStart k) s fun t => ChangesOnly [] s t) ∧
  (∀ (k : CmdKey) (s : State) (c : Cmd) (o : Final), awake s = true → ctlClocked s = true → flightOf k s = some c →
    c.outcome = some o → Completes (.longCommandComplete k) s fun t =>
      Replied c o.status o.detail o.results s t ∧ ChangesOnly [.flight, .reply] s t)

/-- ECHO returns its parameters unchanged, RESET_DEVICE answers without results and makes the device reset due 1 ms later,
where none is due already (R33, R51, R577), and GET_STATE's result is the 16 B of Table 2.16 (R576). -/
def Obligations.SystemCommandsReply : Prop :=
  RepliesBlock .echo 0x0107 (fun b _ => b) ∧
  (∀ (k : CmdKey) (c : Cmd) (s : State), Ready k 0x0106 s c → Completes (.resetDevice k) s fun t =>
    Replied c stDone 0 [] s t ∧ t.pins.resetDue = some (s.pins.resetDue.getD (countNow s + 500000)) ∧
    { t.pins with resetDue := none } = { s.pins with resetDue := none } ∧ ChangesOnly [.flight, .reply, .pins] s t) ∧
  RepliesBlock .getState 0x0101 (fun _ => stateBlock) ∧
  ∀ s : State, stateWord s < 2 ^ 32 → s.dev.degradation < 2 ^ 32 → s.dev.epoch < 2 ^ 32 →
    (stateBlock s).length = 16 ∧ fld (stateBlock s) 0 32 = stateWord s ∧ fld (stateBlock s) 32 32 = s.dev.degradation ∧
    fld (stateBlock s) 64 32 = s.dev.epoch ∧ fld (stateBlock s) 96 2 = s.time.state.code ∧
    fld (stateBlock s) 98 1 = flag s.time.valid ∧ fld (stateBlock s) 99 29 = 0

/-! ## Chapter 03: device time -/

/-- A change of FREQ and SLEW loads BASE_COUNT, OFFSET and the rate together: device time at that count is what the old pair
gave, and from there it rises by at least 1.996 ns (130,816 units of 2⁻¹⁶ ns) a count and never runs back (R65, R66). -/
def Obligations.RateChangesAreContinuous : Prop :=
  ∀ (tb : TimeBase) (freq slew : Int), (rebase tb freq slew).baseCount = tb.count ∧
    (rebase tb freq slew).offset = timeAt tb tb.count ∧
    timeAt (rebase tb freq slew) tb.count = timeAt tb tb.count ∧
    ∀ j k : Nat, j ≤ k → k < 2 ^ 71 →
      timeAt (rebase tb freq slew) (tb.count + BitVec.ofNat 72 j) + (k - j) * 130816 ≤
        timeAt (rebase tb freq slew) (tb.count + BitVec.ofNat 72 k)

/-- Counts pass: both copies of COUNT rise by them, and where the copies then differ a fatal fault of the Time subsystem is
reported (R64, R67). Beside the time base and the fault wires only frames that wait for a transmitter (R104) and, while
DEGRADED_EGO stands, wheel odometry's pose entries (R163) change anything. Model's choices: assumptions 18, 22. -/
def Obligations.CountIncrementCompletes : Prop :=
  ∀ (n : Nat) (mismatch : Bool) (s : State), s.time.running = true →
    Completes (.countIncrement n mismatch) s fun t =>
      t.time.count = s.time.count + BitVec.ofNat 72 n ∧
      (mismatch = false → t.time.countCopy = s.time.countCopy + BitVec.ofNat 72 n) ∧
      (mismatch = true → t.time.countCopy ≠ t.time.count ∧ ∃ r, t.patrol.wires.getLast? = some r ∧
        r.source = timeFault 0 ∧ r.cls = .fa ∧ r.level = 5) ∧
      ChangesOnly [.time, .patrol, .ports, .tx, .align] s t ∧
      ((∀ p, p < 6 → (ethPort s p).txQueue = []) → s.align.degradedEgo = false → ChangesOnly [.time, .patrol] s t)

/-- SERVO_ADJUST with SOURCE 3: LAST_ERROR is −PHASE. In RUN device time does not move, no step is counted, and what SLEW
then removes it removes at no more than SLEW_MAX_PPM (R75). In SETUP with TIME_VALID clear device time steps by PHASE, and the
holders of stamps discard them (R74, R76). Model's choices: assumptions 46, 108, 109. -/
def Obligations.HostSteersDeviceTime : Prop :=
  ∀ (k : CmdKey) (c : Cmd) (s : State), Ready k 0x0203 s c → timeSource s = 3 → 1 ≤ slewMaxPpm s →
    Completes (.servoAdjust k) s fun t =>
      Replied c stDone 0 [] s t ∧ t.time.lastError = -sfld c.params 0 64 ∧ t.time.valid = true ∧
      (s.dev.state = .run → now t = now s ∧ t.time.stepCount = s.time.stepCount ∧
        (t.time.slew ≠ 0 → mag t.time.slew ≤ slewMaxUnits s)) ∧
      (s.dev.state = .setup → s.time.valid = false → 0 ≤ (now s : Int) + sfld c.params 0 64 →
        (now t : Int) = now s + sfld c.params 0 64 ∧ t.time.stepCount = satAdd 16 s.time.stepCount 1 ∧
        t.align.history = [] ∧ ∀ i, i < 8 → (vget t.time.tsIn i).buffer = []) ∧
      ChangesOnly [.flight, .reply, .time, .align, .ingest, .patrol, .freeCount] s t

/-- A label for a PPS edge with TOD_INPUT 2, and a ZDA sentence with TOD_INPUT 0 or 1, give the measured error: the edge's
stamp less UTC second, UTC_OFFSET_S and CABLE_DELAY_NS. SERVO_ADJUST labels the edge before its take-up (R77).
Model's choices: assumption 17. -/
def Obligations.PpsLabelsMeasure : Prop :=
  (∀ (k : CmdKey) (c : Cmd) (s : State) (e : Dts), Ready k 0x0203 s c → timeSource s ≠ 3 → s.time.pps.lastEdge = some e →
    s.time.pps.lastCount ≤ c.takeUp → bitOf s.time.disabled 17 = false → s.time.pps.labelled = false →
    (∀ m, s.time.pps.mark = some m → m.edge < s.time.pps.lastCount) →
    Completes (.servoAdjust k) s fun t => Replied c stDone 0 [] s t ∧
      t.time.lastError = labelError s e (fld c.params 144 48)) ∧
  (∀ (uart utc : Nat) (s : State) (e : Dts), awake s = true → ioClocked s = true → timeSource s = 2 → todInput s = uart →
    uart < 2 → s.time.pps.labelled = false → s.time.pps.lastEdge = some e → bitOf s.time.disabled 17 = false →
    Completes (.zdaSentence uart utc) s fun t => t.time.lastError = labelError s e utc ∧ t.time.pps.labelled = true)

/-- A source that is lost: LOCKED becomes HOLDOVER, ACQUIRING becomes FREE_RUN. In both SLEW becomes zero and device
time goes on without a jump; in HOLDOVER FREQ is that of the last valid measurement and B₀ is the last error's magnitude
+ 20 ns, and in RUN the entry makes a CE record (R70, R71, R79 to R81, R84). SET_TIME_SOURCE: SOURCE 0 enters FREE_RUN
from any time state, another source starts in ACQUIRING; device time does not move (R69 to R71).
Model's choices: assumptions 15, 17, 107. -/
def Obligations.TimeSourcesAreSelectedAndLost : Prop :=
  (∀ (s : State) (i : Instr), awake s = true →
     (i = .ppsSourceLoss ∧ timeSource s = 2 ∧ s.time.pps.lastEdge.getD s.time.lastAdjust + 3 * secUnits / 2 ≤ now s ∨
      i = .hostSourceLoss ∧ timeSource s = 3 ∧ s.time.lastAdjust + 2 * secUnits ≤ now s) →
     Completes i s fun t => now t = now s ∧ ChangesOnly [.time, .patrol] s t ∧
       (s.time.state = .locked → t.time.state = .holdover ∧ t.time.slew = 0 ∧ t.time.freq = s.time.validFreq ∧
         t.time.b0 = mag s.time.lastError + 20 * nsUnits ∧ holdoverAge t = 0 ∧
         (inRun s = true → ∃ r, t.patrol.wires = s.patrol.wires ++ [r] ∧ r.source = timeFault 17 ∧ r.cls = .ce)) ∧
       (s.time.state = .acquiring → t.time.state = .freeRun ∧ t.time.slew = 0 ∧ t.time.freq = s.time.freq)) ∧
  (∀ (k : CmdKey) (c : Cmd) (s : State), Ready k 0x0201 s c → Completes (.setTimeSource k) s fun t =>
     Concluded c stDone 0 [] s t ∧ setting t 0x0201 0 = c.params ∧ now t = now s ∧
     (fld c.params 0 8 = 0 → t.time.state = .freeRun ∧ t.time.slew = 0) ∧
     (fld c.params 0 8 ≠ 0 → t.time.state = .acquiring) ∧ ChangesOnly [.flight, .time, .settings] s t)

/-- Edges at a capture input: one too soon after the last accepted one is counted in EDGE_REJECT and not stamped;
another is stamped and enters the buffer, or finds it full and is counted in CAPTURE_OVERFLOW (R87, R88). A read of the
captures returns the counters and the entries and empties the buffer. The edges of a timed output: a leading edge issues
once its instant is reached, and the trailing edge follows WIDTH_NS later (R90). A camera's frame-sync instant is kept
for its receiver (R92). Model's choices: assumptions 48, 110. -/
def Obligations.CapturesAndTimedOutputs : Prop :=
  ((∀ (i : Nat) (falling : Bool) (at_ : Nat) (s : State), awake s = true → i < 8 → ioClocked s = true →
     bitOf s.time.disabled (1 + i) = false → isSet s 0x0204 i = true →
     edgeWanted (fld (setting s 0x0204 i) 8 8) falling = true → fld (setting s 0x0204 i) 32 8 = 0 →
     Completes (.tsInEdge i falling at_) s fun t => ChangesOnly [.time] s t ∧
       let old := vget s.time.tsIn i
       let new := vget t.time.tsIn i
       let stamp := timeAt s.time (BitVec.ofNat 72 at_)
       let soon := ∃ l, old.lastAccepted = some l ∧ stamp < l + (fld (setting s 0x0204 i) 16 8 * 4 + 16) * nsUnits
       (soon → new = { old with reject := bump old.reject }) ∧
       (¬ soon → old.buffer.length < 16 → new.lastAccepted = some stamp ∧ new.overflow = old.overflow ∧
         new.buffer = old.buffer ++ [{ stamp := stamp, edge := flag falling, seq := old.seq }]) ∧
       (¬ soon → 16 ≤ old.buffer.length → new.lastAccepted = some stamp ∧ new.overflow = bump old.overflow ∧
         new.buffer = old.buffer)) ∧
   (∀ (k : CmdKey) (c : Cmd) (s : State), Ready k 0x0206 s c → fld c.params 0 8 < 8 → Completes (.getCaptures k) s fun t =>
     Replied c stDone 0 (capturesBlock (vget s.time.tsIn (fld c.params 0 8))) s t ∧
     (vget t.time.tsIn (fld c.params 0 8)).buffer = [] ∧ ChangesOnly [.flight, .reply, .time] s t)) ∧
  (∀ (o : Nat) (s : State) (t₀ : Dts), awake s = true → o < 8 →
     ((vget s.time.tsOut o).next = some t₀ → t₀ ≤ now s → bitOf s.time.disabled (9 + o) = false →
       (vget s.time.tsOut o).stopped = false → s.dev.state ≠ .boot → (vget s.time.tsOut o).trailing = none →
       pulseAllowed s (vget s.time.tsOut o) = true → Completes (.tsOutLeadingEdge o) s fun t =>
         (vget t.time.tsOut o).trailing = some (t₀ + outWidth (vget s.time.tsOut o).block) ∧
         (vget t.time.tsOut o).lastIssued = some t₀ ∧ (vget t.time.tsOut o).level = pulseLevel (vget s.time.tsOut o).block ∧
         (vget t.time.tsOut o).issued = (vget s.time.tsOut o).issued + 1 ∧
         (outRole (vget s.time.tsOut o).block = 1 → fld (vget s.time.tsOut o).block 240 8 < 8 →
           (vget t.ingest.rx (fld (vget s.time.tsOut o).block 240 8)).syncs =
             (vget s.ingest.rx (fld (vget s.time.tsOut o).block 240 8)).syncs ++ [t₀]) ∧
         ChangesOnly [.time, .ingest] s t) ∧
     ((vget s.time.tsOut o).trailing = some t₀ → t₀ ≤ now s → Completes (.tsOutTrailingEdge o) s fun t =>
         (vget t.time.tsOut o).trailing = none ∧
         ((vget s.time.tsOut o).waiting = none → (vget t.time.tsOut o).level = idleLevel (vget s.time.tsOut o).block) ∧
         (∀ b lo, (vget s.time.tsOut o).waiting = some (b, lo) → (vget t.time.tsOut o).block = b) ∧
         ChangesOnly [.time] s t))


/-! ## Chapter 04: the Ethernet ports and PTP -/

/-- A Sync of the SLAVE port, one-step or completed by its Follow_Up, gives the measured error t2 − t1 − mean path delay −
ASYMMETRY, t2 the ingress stamp, which is device time at the MII crossing with INGRESS_LATENCY taken off, and every
correctionField in t1 (R106, R108). Model's choices: assumption 49. -/
def Obligations.SyncsMeasureTheError : Prop :=
  ∀ (p : Nat) (m : PtpMsg) (h : FrameHead) (s : State), isSlave s p = true →
    (PtpTaken p .sync m h s → m.twoStep = true → Completes (.ptpSyncReceived p m h) s fun t =>
      (ethPort t p).sync = some { seqId := m.seqId, ingress := ingressStamp s p h, correction := m.correction,
                                  rateOffset := m.rateOffset } ∧
      (ethPort t p).counters.ptpRx = bump (ethPort s p).counters.ptpRx ∧ ChangesOnly [.ports] s t) ∧
    ∀ d, meanDelay (ethPort s p) = some d → timeSource s = 1 → bitOf s.time.disabled 17 = false →
      (PtpTaken p .sync m h s → m.twoStep = false → Completes (.ptpSyncReceived p m h) s fun t =>
        t.time.lastError = (timeAt s.time (BitVec.ofNat 72 h.at_) - fld (corrections s p) 32 32 : Nat) -
          ((m.timestamp : Int) + m.correction) - d - asymmetry s p ∧ (ethPort t p).lastSync = now s ∧
        ChangesOnly [.ports, .time, .align, .ingest, .patrol, .freeCount] s t) ∧
      ∀ w, PtpTaken p .followUp m h s → (ethPort s p).sync = some w → w.seqId = m.seqId →
        ingressStamp s p h ≤ w.ingress + syncSpan s → Completes (.ptpFollowUpReceived p m h) s fun t =>
          t.time.lastError = w.ingress - ((m.timestamp : Int) + w.correction + m.correction) - d - asymmetry s p ∧
          (ethPort t p).sync = none ∧ ChangesOnly [.ports, .time, .align, .ingest, .patrol, .freeCount] s t

/-- The answers to a delay request and to a peer-delay request give path-delay measurements: ((t2 − t1) + (t4 − t3)) / 2, and
((t4 − t1) × neighbourRateRatio − T) / 2 with T from correctionField one-step and from the responder's timestamps two-step
(R108, R109). Model's choices: assumptions 11, 49, 111. -/
def Obligations.PathDelaysAreMeasured : Prop :=
  ∀ (p : Nat) (m : PtpMsg) (h : FrameHead) (s : State) (x : Exchange), (ethPort s p).exchange = some x →
    x.seqId = m.seqId →
    (∀ (e : Interval) (t3 : Dts), PtpTaken p .delayResp m h s → isSlave s p = true → ptpProfile s = 1 →
      m.requester = portIdentity s p → (ethPort s p).lastSyncDelta = some e → x.egress = some t3 →
      Completes (.ptpDelayRespReceived p m h) s fun t =>
        DelayTaken ((e + ((m.timestamp : Int) - m.correction - t3)) / 2) (ethPort s p) (ethPort t p) ∧
        (ethPort t p).exchange = none ∧ ChangesOnly [.ports] s t) ∧
    (PtpTaken p .pdelayResp m h s → peerDelay s = true → m.requester = portIdentity s p →
      (m.twoStep = true → Completes (.ptpPdelayRespReceived p m h) s fun t =>
        (ethPort t p).exchange = some { x with response := some (m.timestamp, ingressStamp s p h, m.correction) } ∧
        ChangesOnly [.ports] s t) ∧
      ∀ t1 : Dts, m.twoStep = false → x.egress = some t1 → Completes (.ptpPdelayRespReceived p m h) s fun t =>
        let d : Int := ingressStamp s p h - t1
        DelayTaken ((d + d * (ethPort s p).rateRatio / 2 ^ 40 - m.correction) / 2) (ethPort s p) (ethPort t p) ∧
        (ethPort t p).exchange = none ∧ (ethPort t p).pdelayFailRun = 0 ∧ ChangesOnly [.ports, .time, .patrol] s t) ∧
    ∀ (t1 t2 t4 : Dts) (c : Int), PtpTaken p .pdelayRespFollowUp m h s → peerDelay s = true →
      x.response = some (t2, t4, c) → x.egress = some t1 → Completes (.ptpPdelayRespFollowUpReceived p m h) s fun t =>
        let d : Int := (t4 : Int) - t1
        let turnaround : Int := (m.timestamp : Int) + m.correction - t2 + c
        DelayTaken ((d + d * (ethPort t p).rateRatio / 2 ^ 40 - turnaround) / 2) (ethPort s p) (ethPort t p) ∧
        (ethPort t p).exchange = none ∧ (ethPort t p).pdelayFailRun = 0 ∧ ChangesOnly [.ports, .time, .patrol] s t

/-- What the ports send. A Sync, a delay request and the answer to a Pdelay_Req are event messages: they go before every frame
that has no priority and start at once where the transmitter is free; a busy transmitter finishes its frame first (R104). A
one-step Sync carries its egress stamp, the FRACTION in correctionField; a two-step one leaves behind it the Follow_Up that
carries it, which starts when the transmitter is free. A delay request's own stamp stays inside, and is lost while eight are
held. A MASTER port answers a Delay_Req with its ingress stamp and announces the grandmaster, and every PTP port answers a
Pdelay_Req one-step with its turnaround in correctionField (R116, R118 to R120).
Model's choices: assumptions 11, 49, 118, 120. -/
def Obligations.PtpMessagesAreSent : Prop :=
  ∀ (p : Nat) (m : PtpMsg) (h : FrameHead) (s : State),
    (∀ n : Nat, awake s = true → portUp s p = true → ptpOn s p = true → isMaster s p = true → s.time.valid = true →
      syncInterval s p = some n → (ethPort s p).sentSync + n ≤ now s → Completes (.ptpSyncInterval p) s fun t =>
        let e := egressStamp s p
        let sync := { ownMsg s p .sync (ethPort s p).seqSync with rateOffset := sentRateOffset s }
        let stamped : PtpMsg := { (sync : PtpMsg) with timestamp := e / nsUnits * nsUnits, correction := (e % nsUnits : Nat) }
        (FreeForEvents p s → bitAt (ptpBlock s) (48 + p) = false ∨ 8 ≤ stampsHeld (ethPort s p) →
          FrameLeft p sync.dest.mac (ptpPayload s p sync stamped) s t ∧
          (ethPort t p).counters.oneStep = bump (ethPort s p).counters.oneStep) ∧
        (FreeForEvents p s → bitAt (ptpBlock s) (48 + p) = true → stampsHeld (ethPort s p) < 8 →
          FrameLeft p sync.dest.mac (ptpPayload s p { (sync : PtpMsg) with twoStep := true } { (sync : PtpMsg) with twoStep := true }) s t ∧
          ∃ y : TxFrame, (ethPort t p).txQueue = (ethPort s p).txQueue ++ [y] ∧
            y.what = .ptp { (stamped : PtpMsg) with kind := .followUp, dest := ptpDest s .followUp } none) ∧
        (countNow s < (ethPort s p).txUntil → t.tx = s.tx ∧
          ∃ y : TxFrame, y.what = .ptp sync none ∧ (ethPort t p).txQueue =
            (ethPort s p).txQueue.takeWhile (·.urgent) ++ y :: (ethPort s p).txQueue.dropWhile (·.urgent)) ∧
        ChangesOnly [.ports, .tx] s t) ∧
    (∀ n : Nat, awake s = true → FreeForEvents p s → ptpOn s p = true → peerDelay s = true ∨ isSlave s p = true →
      delayInterval s p = some n → (ethPort s p).sentDelay + n ≤ now s → Completes (.ptpDelayInterval p) s fun t =>
        let lost := 8 ≤ ((ethPort s p).txQueue.filter TxFrame.followUp).length
        let req := ownMsg s p (if peerDelay s then .pdelayReq else .delayReq) (ethPort s p).seqDelay
        FrameLeft p req.dest.mac (ptpPayload s p req req) s t ∧
        (∃ x, (ethPort t p).exchange = some x ∧ x.seqId = req.seqId ∧ (lost → x.egress = none) ∧
          (¬ lost → x.egress = some (egressStamp s p))) ∧
        (lost → (ethPort t p).counters.txStampMissed = bump (ethPort s p).counters.txStampMissed) ∧
        (unanswered s p = true → (ethPort t p).counters.pdelayFails = bump (ethPort s p).counters.pdelayFails) ∧
        (unanswered s p = false → ChangesOnly [.ports, .tx] s t) ∧ ChangesOnly [.ports, .tx, .time, .patrol] s t) ∧
    (∀ n : Nat, awake s = true → Idle p s → ptpOn s p = true → isMaster s p = true → announceInterval s p = some n →
      (ethPort s p).sentAnnounce + n ≤ now s → Completes (.ptpAnnounceInterval p) s fun t =>
        (∃ a : PtpMsg, FrameLeft p a.dest.mac (ptpPayload s p a a) s t ∧ a.kind = .announce ∧
          a.gm = some (announced s).1) ∧
        (slavePort s = none → (announced s).1.clockClass = ownClockClass s ∧ (announced s).1.stepsRemoved = 0) ∧
        ChangesOnly [.ports, .tx] s t) ∧
    (PtpTaken p .delayReq m h s → Idle p s → isMaster s p = true → ptpProfile s = 1 →
      Completes (.ptpDelayReqReceived p m h) s fun t =>
        (∃ a : PtpMsg, FrameLeft p a.dest.mac (ptpPayload s p a a) s t ∧ a.kind = .delayResp ∧ a.requester = m.source ∧
          a.seqId = m.seqId % 65536 ∧ (a.timestamp : Int) - a.correction = ingressStamp s p h - m.correction) ∧
        ChangesOnly [.ports, .tx] s t) ∧
    (PtpTaken p .pdelayReq m h s → FreeForEvents p s → peerDelay s = true → Completes (.ptpPdelayReqReceived p m h) s fun t =>
      (bitAt (ptpBlock s) (48 + p) = false ∨ 8 ≤ stampsHeld (ethPort s p) → ∃ a b : PtpMsg,
        FrameLeft p a.dest.mac (ptpPayload s p b a) s t ∧ a.kind = .pdelayResp ∧
        a.twoStep = false ∧ a.requester = m.source ∧ a.timestamp = 0 ∧
        a.correction = m.correction + (egressStamp s p : Int) - (ingressStamp s p h : Int)) ∧
      (bitAt (ptpBlock s) (48 + p) = true → stampsHeld (ethPort s p) < 8 → ∃ (a b : PtpMsg) (y : TxFrame),
        FrameLeft p a.dest.mac (ptpPayload s p a a) s t ∧ (ethPort t p).txQueue = (ethPort s p).txQueue ++ [y] ∧
        y.what = .ptp b none ∧ a.kind = .pdelayResp ∧ a.twoStep = true ∧ b.kind = .pdelayRespFollowUp ∧ b.requester = m.source ∧
        ((b.timestamp : Int) + b.correction) - a.timestamp + a.correction =
          m.correction + (egressStamp s p : Int) - (ingressStamp s p h : Int)) ∧ ChangesOnly [.ports, .tx] s t) ∧
    ∀ (n : Nat) (x : TxFrame) (q : List TxFrame) (b : PtpMsg), s.time.running = true → portUp s p = true →
      (ethPort s p).txQueue = x :: q → x.what = .ptp b none → b.kind = .followUp ∨ b.kind = .pdelayRespFollowUp →
      (∀ o, o < 6 → o ≠ p → (ethPort s o).txQueue = []) → s.align.degradedEgo = false →
      (ethPort s p).txUntil ≤ (s.time.count + BitVec.ofNat 72 n).toNat → Completes (.countIncrement n false) s fun t =>
        FrameLeft p x.dest (ptpPayload s p b b) s t ∧ (ethPort t p).txQueue = q ∧
        (ethPort t p).counters.followUps = bump (ethPort s p).counters.followUps

/-- Frames that a port takes without an exchange: an Announce is kept and the BMCA runs; a Signaling message sets the
intervals it asks for; a Management message, and every message that does not fit, is discarded and counted (R100, R112,
R116, R117). An ARP request or neighbour solicitation for the port's own address is answered, another is discarded; the
remaining frames are counted by their kind; a frame that finds the receive buffer full is dropped and counted, and one whose
length or tag the configuration does not accept is discarded (R29, R99, R100, Table 4.9).
Model's choices: assumptions 11, 49, 119. -/
def Obligations.OtherFramesAreCounted : Prop :=
  ∀ (p : Nat) (m : PtpMsg) (h : FrameHead) (s : State), awake s = true → portUp s p = true →
    (∀ g, PtpTaken p .announce m h s → ptpRole s ≠ 3 → m.gm = some g → m.source.1 ≠ clockIdentity s →
      g.stepsRemoved < 255 → clockIdentity s ∉ m.pathTrace → Completes (.ptpAnnounceReceived p m h) s fun t =>
        (ethPort t p).announce = some { g with sender := m.source.1 } ∧ (ethPort t p).lastAnnounce = now s ∧
        ChangesOnly [.ports, .time, .patrol] s t) ∧
    (∀ a b c, PtpTaken p .signaling m h s → m.intervals = some (a, b, c) → Completes (.ptpSignalingReceived p m h) s fun t =>
      (a ≠ -128 → a ≠ 126 → (ethPort t p).signalled.1 = some a) ∧ (a = 126 → (ethPort t p).signalled.1 = none) ∧
      (a = -128 → (ethPort t p).signalled.1 = (ethPort s p).signalled.1) ∧ ChangesOnly [.ports] s t) ∧
    (FrameTaken p h s → ptpOn s p = true → ∀ i : Instr,
      i = .ptpManagementReceived p m h ∧ m.kind = .management ∨ i = .ptpSyncReceived p m h ∧ m.kind = .sync ∧
        (ptpFits s p m = false ∨ isSlave s p = false) ∨ i = .ptpAnnounceReceived p m h ∧ m.kind = .announce ∧
        (ptpFits s p m = false ∨ ptpRole s = 3) → Completes i s fun t =>
          (ethPort t p).counters = { (ethPort s p).counters with
            framesRx := bump (ethPort s p).counters.framesRx,
            ptpDiscarded := bump (ethPort s p).counters.ptpDiscarded } ∧ ChangesOnly [.ports] s t) ∧
    (FrameTaken p h s → ∀ ip target sender, Completes (.arpRequest p ip target sender h) s fun t =>
      let mine := if ip = 4 then portIpv4 s p else portIpv6 s p
      (mine ≠ 0 ∧ target = mine → Idle p s → FrameLeft p sender (.answer ip mine) s t) ∧
      (mine = 0 ∨ target ≠ mine → t.tx = s.tx ∧
        (ethPort t p).counters.discarded = bump (ethPort s p).counters.discarded) ∧ ChangesOnly [.ports, .tx] s t) ∧
    ∀ kind, Completes (.ethOtherFrame p kind h) s fun t => ChangesOnly [.ports] s t ∧
      (kind = .badFcs → (ethPort t p).counters.fcsErrors = bump (ethPort s p).counters.fcsErrors) ∧
      (kind ≠ .badFcs → rxRoom s p h = false → (ethPort t p).counters.rxOverflow = bump (ethPort s p).counters.rxOverflow ∧
        (ethPort t p).rxHeld = (ethPort s p).rxHeld - h.drained) ∧
      (kind ≠ .badFcs → rxRoom s p h = true → (ethPort t p).rxHeld = (ethPort s p).rxHeld - h.drained + h.length ∧
        (ethPort t p).counters.framesRx = bump (ethPort s p).counters.framesRx ∧
        (frameFits s p h = false ∨ kind = .unaccepted →
          (ethPort t p).counters.discarded = bump (ethPort s p).counters.discarded) ∧
        (frameFits s p h = true → kind = .ptpRefused →
          (ethPort t p).counters.ptpDiscarded = bump (ethPort s p).counters.ptpDiscarded))

/-- Losses and links: receipt timeouts are counted and cost a LOCKED servo on SOURCE 1 its lock (R114); a link that goes
down in SETUP or RUN is counted, with a CE record where the port runs PTP, is bound to a lidar or carries a peer, and keeps the port's
configuration and corrections, as a link that returns does (R101). CONFIG_PORT and CONFIG_PTP take effect with the outcome
DONE (R99, R110, R112). Model's choices: assumptions 12, 49, 120. -/
def Obligations.PortLossesAndLinks : Prop :=
  (∀ (p : Nat) (s : State), awake s = true → portUp s p = true → ptpOn s p = true → isSlave s p = true →
    ((ethPort s p).lastSync + syncSpan s * fld (ptpBlock s) 104 8 ≤ now s →
      Completes (.syncReceiptTimeout p) s fun t =>
        (ethPort t p).counters.syncTimeouts = bump (ethPort s p).counters.syncTimeouts ∧
        (timeSource s = 1 → s.time.state = .locked → t.time.state = .holdover) ∧
        ChangesOnly [.ports, .time, .patrol] s t) ∧
    (ptpRole s ≠ 3 → (ethPort s p).announce.isSome = true →
      (ethPort s p).lastAnnounce + announceSpan s * fld (ptpBlock s) 96 8 ≤ now s → Completes (.announceReceiptTimeout p) s fun t =>
        (ethPort t p).counters.announceTimeouts = bump (ethPort s p).counters.announceTimeouts ∧
        (ethPort t p).announce = none ∧ ChangesOnly [.ports, .time, .patrol] s t)) ∧
  (∀ (p n : Nat) (s : State) (x : Exchange), awake s = true → portUp s p = true → ptpOn s p = true → peerDelay s = true →
    (ethPort s p).exchange = some x → x.response = none → delayInterval s p = some n → x.sentAt + n ≤ now s →
    Completes (.pdelayTimeout p) s fun t =>
      (ethPort t p).counters.pdelayFails = bump (ethPort s p).counters.pdelayFails ∧ (ethPort t p).exchange = none ∧
      ((ethPort s p).pdelayFailRun = 2 → (ethPort t p).asCapable = false) ∧ ChangesOnly [.ports, .time, .patrol] s t) ∧
  (∀ (p : Nat) (s : State), awake s = true → p < 6 →
    ((ethPort s p).link = true → Completes (.linkDown p) s fun t => (ethPort t p).link = false ∧
      (s.dev.state = .setup ∨ s.dev.state = .run →
        (ethPort t p).counters.linkDown = bump (ethPort s p).counters.linkDown ∧
        (ptpOn s p = true ∨ lidarBound s p = true ∨ atideOnPort s p = true →
          ∃ r ∈ t.patrol.wires, r.source = portFault p 0 ∧ r.cls = .ce)) ∧ ChangesOnly [.ports, .time, .patrol] s t) ∧
    ∀ speed, (ethPort s p).link = false → speedAdmitted s p speed = true → Completes (.linkUp p speed) s fun t =>
      (ethPort t p).link = true ∧ (ethPort t p).speed = speed ∧ ChangesOnly [.ports, .time, .patrol] s t) ∧
  ∀ (k : CmdKey) (c : Cmd) (s : State),
    (Ready k 0x0300 s c → Completes (.configPort k) s fun t => Concluded c stDone 0 [] s t ∧
      setting t 0x0300 (fld c.params 0 8) = c.params ∧
      (speedAdmitted t (fld c.params 0 8) (ethPort s (fld c.params 0 8)).speed = true →
        (ethPort t (fld c.params 0 8)).link = (ethPort s (fld c.params 0 8)).link) ∧
      ChangesOnly [.flight, .settings, .ports, .time, .patrol] s t) ∧
    (Ready k 0x0302 s c → Completes (.configPtp k) s fun t => Concluded c stDone 0 [] s t ∧
      setting t 0x0302 0 = c.params ∧ (∀ p, p < 6 → (ethPort t p).ptp =
        if ptpOn t p = false then .initializing else if fld c.params 16 8 = 3 then .master else .listening) ∧
      ChangesOnly [.flight, .settings, .ports, .time, .patrol] s t)

/-! ## Chapter 05: sensor ingest -/

/-- The source clock model takes a unit (R152, R153): one that runs backwards is discarded and counted in REORDERED; one whose
lag leaps by more than a second restarts a VALID model; every other joins the window. The 64th closes it: RESIDUAL is the
spread of its lags, and a STARTING model with enough windows is VALID. Model's choices: assumption 54. -/
def Obligations.ClockModelsTakeUnits : Prop :=
  ∀ (i : Nat) (st arrival : Dts) (s : State), i < 26 → (source s i).state = .starting ∨ (source s i).state = .valid →
    let m := source s i
    let stamp := modelStamp s i st arrival
    let lag := unitLag m stamp arrival
    let r := takeUnit i st arrival s
    let n := source r.1 i
    n.units = bump m.units ∧
    (∀ l, m.lastStamp = some l → stamp < l → r.2.1 = false ∧ n.reordered = bump m.reordered ∧ n.window = m.window ∧
      n.lastStamp = some l) ∧
    ((∀ l, m.lastStamp = some l → l ≤ stamp) → r.2 = (true, lag) ∧ n.reordered = m.reordered ∧ n.lastStamp = some stamp ∧
      (∀ lo hi, lagRange s i = some (lo, hi) →
        n.lagOut = if lag < lo ∨ hi < lag then bump m.lagOut else m.lagOut) ∧
      (m.state = .valid → (∃ p, m.lastLag = some p ∧ secUnits < mag (lag - p)) →
        n.state = .starting ∧ n.restarts = bump m.restarts ∧ n.window = [] ∧ n.windows = 0 ∧
        ∃ x, r.1.patrol.wires = s.patrol.wires ++ [x] ∧ x.source = ingestFault i 0 ∧ x.cls = .ce) ∧
      (m.state = .starting ∨ (∀ p, m.lastLag = some p → mag (lag - p) ≤ secUnits) → n.restarts = m.restarts ∧
        (m.window.length < 63 → n.window = m.window ++ [{ stamp := stamp, arrival := arrival }] ∧ n.state = m.state ∧
          n.residual = m.residual) ∧
        (m.window.length = 63 → n.window = [] ∧ n.windows = m.windows + 1 ∧
          (sourceMode s i ≠ 3 → let w := m.window ++ [{ stamp := stamp, arrival := arrival }]
            (∀ u ∈ w, ∀ v ∈ w, unitLag m u.stamp u.arrival - unitLag m v.stamp v.arrival ≤ n.residual) ∧
            ∃ u ∈ w, ∃ v ∈ w, unitLag m u.stamp u.arrival - unitLag m v.stamp v.arrival = n.residual) ∧
          (sourceMode s i ≠ 2 ∨ 7 ≤ m.windows → n.state = .valid) ∧
          (m.state = .starting → sourceMode s i = 2 → m.windows < 7 → n.state = .starting)))) ∧
    ChangesOnly [.ingest, .align, .patrol] s r.1

/-- A camera's packets (R126 to R130, R132, R157): a frame-start packet opens a frame in a slot that is not held, E0 from the
frame-sync edge or from the arrival, the normaliser's block taken up; a free-running receiver drops one within 32 ms. A full
line of the data type joins the frame. A frame-end packet after exactly HEIGHT good lines makes the frame whole, any other
damaged, and it is written to its slot with M. A corrected header counts in ECC_CORRECTED. The third loss of synchronisation of
a lane in a frame is a UC. Model's choices: assumptions 51, 54. -/
def Obligations.CamerasTakeFrames : Prop :=
  ∀ (rx vc number : Nat) (ecc : Bool) (s : State), awake s = true → rxTakes s rx vc = true → number < 65536 →
    (csiTriggered (csiBlock s rx) = false → (∃ l, (receiver s rx).lastKept = some l ∧ now s < l + 32 * msUnits) →
      Completes (.csiFrameStart rx vc number ecc) s fun t => (source t rx).dropped = bump (source s rx).dropped ∧
        (receiver t rx).dropping = true ∧ (receiver t rx).lastKept = (receiver s rx).lastKept ∧
        ChangesOnly [.ingest, .align, .patrol, .safety] s t) ∧
    ((receiver s rx).frame = none → (∃ i, i < 3 ∧ (vget (receiver s rx).slots i).held = false) →
      csiTriggered (csiBlock s rx) = true ∨ (∀ l, (receiver s rx).lastKept = some l → l + 32 * msUnits ≤ now s) →
      (∀ l, (source s rx).lastStamp = some l → l ≤ modelStamp s rx (exposureStart s rx (now s)) (now s)) →
      Completes (.csiFrameStart rx vc number ecc) s fun t => ∃ f, (receiver t rx).frame = some f ∧ f.arrival = now s ∧
        f.lines = 0 ∧ f.bad = false ∧ f.slot < 3 ∧ (vget (receiver s rx).slots f.slot).held = false ∧
        (∀ e, csiTriggered (csiBlock s rx) = true → (receiver s rx).syncs.getLast? = some e →
          f.e0 = e + fld (csiBlock s rx) 224 32 * nsUnits) ∧
        (csiTriggered (csiBlock s rx) = false → f.e0 = now s - fld (csiBlock s rx) 96 32 * nsUnits) ∧
        (receiver t rx).norm = setting s 0x0401 rx ∧ (source t rx).units = bump (source s rx).units ∧
        (source t rx).eccCorrected = (if ecc = true then bump (source s rx).eccCorrected else (source s rx).eccCorrected) ∧
        ChangesOnly [.ingest, .align, .patrol, .safety] s t) ∧
    (∀ (p : CsiPacket) (f : OpenFrame), p.vc = vc → (receiver s rx).frame = some f → (receiver s rx).dropping = false →
      p.headerOk = true → p.dataType = csiType (csiBlock s rx) → csiType (csiBlock s rx) ≠ 0x1E →
      Completes (.csiLongPacket rx p) s fun t => ∃ g, (receiver t rx).frame = some g ∧ g.lines = f.lines + 1 ∧
        (g.bad = true ↔ f.bad = true ∨ p.crcOk = false ∨ p.pixels.length ≠ csiWidth (csiBlock s rx) ∨
          csiHeight (csiBlock s rx) ≤ f.lines) ∧
        (f.upper = none → g.upper = some p.pixels ∧ g.tensor = f.tensor) ∧
        (∀ u, f.upper = some u → g.upper = none ∧ g.tensor = f.tensor ++ quadRow (csiBlock s rx) (receiver s rx).norm
          (vget (receiver s rx).shading (receiver s rx).activeShading) (bitAt (receiver s rx).norm 10) (f.lines / 2) u
          p.pixels) ∧
        (source t rx).eccCorrected =
          (if p.corrected = true then bump (source s rx).eccCorrected else (source s rx).eccCorrected) ∧
        ChangesOnly [.ingest, .align, .patrol, .safety] s t) ∧
    (∀ f : OpenFrame, (receiver s rx).frame = some f → (receiver s rx).dropping = false → f.slot < 3 →
      Completes (.csiFrameEnd rx vc number ecc) s fun t => (receiver t rx).frame = none ∧
        (∃ fr, (vget (receiver t rx).slots f.slot).frame = some fr ∧ fr.tensor = f.tensor ∧ fr.arrival = f.arrival ∧
          fr.mid = f.e0 + psUnits ((csiHeight (csiBlock s rx) - 1) * fld (csiBlock s rx) 160 32) / 2 +
            exposureOf (csiBlock s rx) f.embedded / 2 ∧
          (f.bad = true ∨ f.lines ≠ csiHeight (csiBlock s rx) → fr.damaged = true) ∧
          (f.bad = false → f.lines = csiHeight (csiBlock s rx) → (groomer s rx).distrust = false →
            frozenFound (frozenMode s rx) (groomer s rx) (crc32c f.tensor) f.counter = false →
            fr.damaged = false)) ∧
        (f.bad = true ∨ f.lines ≠ csiHeight (csiBlock s rx) → (source t rx).damaged = bump (source s rx).damaged) ∧
        (f.bad = false → f.lines = csiHeight (csiBlock s rx) → (groomer s rx).distrust = false →
            frozenFound (frozenMode s rx) (groomer s rx) (crc32c f.tensor) f.counter = false →
          (source t rx).whole = bump (source s rx).whole) ∧
        ChangesOnly [.ingest, .align, .patrol, .safety] s t) ∧
    (∀ lane, lane < 4 → lane < fld (csiBlock s rx) 24 4 → inFrame s rx = true → Completes (.csiPhySyncLoss rx lane) s fun t =>
      vget (receiver t rx).syncLosses lane = vget (receiver s rx).syncLosses lane + 1 ∧
      (vget (receiver s rx).syncLosses lane = 2 → ∃ r, t.patrol.wires = s.patrol.wires ++ [r] ∧
        r.source = ingestFault rx lane ∧ r.cls = .uc ∧ r.level = 3) ∧ ChangesOnly [.ingest, .patrol] s t) ∧
    (fld (csiBlock s rx) 20 4 = 2 → Completes (.csiSkewCalibration rx) s fun t =>
      (receiver t rx).skewCalibrations = bump (receiver s rx).skewCalibrations ∧ ChangesOnly [.ingest] s t)

/-- The RAW normaliser: round((p × 2^(16 − b) − BLACK) × GAIN × S), ties away from zero, clamped to 16 bits (R131). -/
def Obligations.NormaliserFollowsItsFormula : Prop :=
  ∀ (norm : Bytes) (b p c : Nat) (shade : Nat × Nat), 0 < shade.2 → b ≤ 16 →
    let x : Rat := ((p : Rat) * 2 ^ (16 - b) - fld norm (64 + 16 * c) 16) * ((fld norm (128 + 16 * c) 16 : Rat) / 4096) *
      ((shade.1 : Rat) / shade.2)
    ∃ n : Int, (|x - n| < 1 / 2 ∨ |x - n| = 1 / 2 ∧ |x| < |(n : Rat)|) ∧
      normalise norm b p c shade = (max 0 (min 65535 n)).toNat

/-- A lidar's datagrams (R135 to R142): one of no binding is discarded, a damaged one counted in DAMAGED; of a taken one the
units count, its columns are reached, and a wrap first hands the whole range image (R201) to the alignment unit, as
1.5 / SWEEP_HZ without a wrap does. Two points of a cell: RETURN_KEEP decides, the earlier one stays on a tie.
Model's choices: assumptions 52, 115, 116, 129. -/
def Obligations.LidarsTakeDatagrams : Prop :=
  (∀ (d : Datagram) (s : State), FrameTaken d.port d.head s →
    (lidarOf s d = none → Completes (.lidarDatagram d) s fun t =>
      (ethPort t d.port).counters.discarded = bump (ethPort s d.port).counters.discarded ∧ ChangesOnly [.ports] s t) ∧
    ∀ l, lidarOf s d = some l →
      let tpl := (lidar s l).template
      let bind := setting s 0x0404 l
      let arrival := ingressStamp s d.port d.head
      let T := sensorTime tpl d.payload arrival (fld bind 224 16)
      let cols := packetColumns tpl d.payload bind
      (datagramDamaged tpl d = true → Completes (.lidarDatagram d) s fun t =>
        (source t (l + 8)).damaged = bump (source s (l + 8)).damaged ∧ ChangesOnly [.ports, .ingest] s t) ∧
      (datagramDamaged tpl d = false →
        (∀ q, (source s (l + 8)).lastStamp = some q → q ≤ modelStamp s (l + 8) (packetStamp tpl d.payload T) arrival) →
        Completes (.lidarDatagram d) s fun t =>
          (source t (l + 8)).units = bump (source s (l + 8)).units ∧
          (∀ c ∈ cols, 0 ≤ c → c.toNat ∈ (lidar t l).filling.columns) ∧
          (lidar t l).lastColumn = (cols.getLast?).map Int.toNat ∧
          (sweepWraps bind (lidar s l).lastColumn cols = true → (lidar t l).inUse = some (wholeSweep l bind (lidar s l).filling) ∧
            (source t (l + 8)).whole = bump (source s (l + 8)).whole) ∧
          (sweepWraps bind (lidar s l).lastColumn cols = false → (lidar t l).inUse = (lidar s l).inUse) ∧
          ChangesOnly [.ports, .ingest, .align, .patrol] s t)) ∧
  (∀ (l : Nat) (s : State) (f : Dts), awake s = true → l < 8 → sourceActive s (l + 8) = true →
    (lidar s l).sweepFrom = some f → f + 3 * secUnits / (2 * fld (setting s 0x0404 l) 216 8) ≤ now s →
    Completes (.sweepTimeout l) s fun t => (lidar t l).inUse = some (wholeSweep l (setting s 0x0404 l) (lidar s l).filling) ∧
      (lidar t l).filling.points = [] ∧ (source t (l + 8)).whole = bump (source s (l + 8)).whole ∧
      (source t (l + 8)).lost = (if (lidar s l).inUse.any (fun w => !w.handed) = true then bump (source s (l + 8)).lost
        else (source s (l + 8)).lost) ∧ ChangesOnly [.ingest, .align] s t) ∧
  ∀ (keep : Nat) (p o : LidarPoint) (img : RangeImage), o ∈ img.points → o.row = p.row → o.col = p.col →
    (∀ q ∈ img.points, q.row = p.row → q.col = p.col → q = o) →
    let r := putPoint keep p img
    r.2 = 1 ∧ (∀ q, q.row ≠ p.row ∨ q.col ≠ p.col → (q ∈ r.1.points ↔ q ∈ img.points)) ∧
    ((keep = 0 ∧ p.returnIndex < o.returnIndex ∨ keep = 1 ∧ o.returnIndex < p.returnIndex ∨
      2 ≤ keep ∧ o.intensity < p.intensity) → p ∈ r.1.points) ∧
    (keep = 0 ∧ o.returnIndex ≤ p.returnIndex ∨ keep = 1 ∧ p.returnIndex ≤ o.returnIndex ∨
      2 ≤ keep ∧ p.intensity ≤ o.intensity → r.1.points = img.points)

/-- IMUs, encoders, CAN controllers and the loss of a source (R145 to R150, R155): a data-ready edge starts the transaction or
is counted in DRDY_EARLY and kept; a completed burst is a unit that the motion unit integrates; an accepted quadrature edge
moves the position by one; a CAN message is held by every filter that takes it; a silent source becomes ABSENT with a CE
record. Model's choices: assumptions 53, 122, 123. -/
def Obligations.MotionSourcesDeliver : Prop :=
  (∀ (i : Nat) (s : State), awake s = true → i < 4 → sourceActive s (16 + i) = true →
    (∀ e rest, (imu s i).edges = e :: rest → Completes (.imuDataReady i) s fun t =>
      ((imu s i).running = none → (imu t i).running = some e ∧ (imu t i).edges = rest ∧
        t.tx = s.tx ++ [.spi i (imuCommand (setting s 0x0405 i))]) ∧
      (∀ r, (imu s i).running = some r → (imu t i).running = some r ∧ (imu t i).kept = (imu s i).kept ++ [e] ∧
        (source t (16 + i)).drdyEarly = bump (source s (16 + i)).drdyEarly) ∧ ChangesOnly [.ingest, .tx] s t) ∧
    ∀ (e : Dts) (burst : Bytes), (imu s i).running = some e → motionRuns s = true → (imu s i).buffers = [] →
      let stamp := e - fld (setting s 0x0405 i) 160 32 * nsUnits
      (∀ l, (source s (16 + i)).lastStamp = some l → l ≤ stamp) →
      Completes (.imuTransactionComplete i burst) s fun t =>
        (source t (16 + i)).units = bump (source s (16 + i)).units ∧
        (source t (16 + i)).whole = bump (source s (16 + i)).whole ∧
        (imu t i).buffers = [] ∧ (imu t i).running = (imu s i).kept.head? ∧
        (isWorker s = false → s.align.primary = some i → imuUsable s i = true → (source s (16 + i)).window.length < 63 →
          newestTime s stamp ≤ stamp → ∃ x, t.align.history = (x :: s.align.history).take 16384 ∧ x.time = stamp ∧
            x.primary = srcNum (16 + i) ∧ x.anchorSeq = s.align.anchorSeq % 65536) ∧
        ChangesOnly [.ingest, .align, .patrol, .tx] s t) ∧
  (∀ (n : Nat) (onB level : Bool) (at_ : Dts) (s : State), awake s = true → n < 4 → sourceActive s (20 + n) = true →
    let x := vget s.ingest.encoders n
    let b := setting s 0x0406 n
    (if onB then x.b else x.a) ≠ level →
    ((∀ l, x.lastAccepted = some l → l + (fld b 48 8 * 8 + 40) * nsUnits ≤ at_) →
      (∀ l, (source s (20 + n)).lastStamp = some l → l ≤ at_) → Completes (.encoderEdge n onB level at_) s fun t =>
        let forward := (if onB then level == x.a else level != x.b) != bitAt b 8
        (vget t.ingest.encoders n).position = wrap32 (x.position + if forward then 1 else -1) ∧
        (vget t.ingest.encoders n).lastAccepted = some at_ ∧
        (source t (20 + n)).units = bump (source s (20 + n)).units ∧ ChangesOnly [.ingest, .align, .patrol] s t) ∧
    (∀ l, x.lastAccepted = some l → l + fld b 48 8 * 8 * nsUnits ≤ at_ → at_ < l + (fld b 48 8 * 8 + 40) * nsUnits →
      Completes (.encoderEdge n onB level at_) s fun t => (vget t.ingest.encoders n).position = x.position ∧
        (source t (20 + n)).dropped = bump (source s (20 + n)).dropped ∧ ChangesOnly [.ingest] s t)) ∧
  (∀ (n : Nat) (s : State), awake s = true → n < 2 → sourceActive s (24 + n) = true →
    (∀ (i : Nat) (msg : CanMessage), i < canFilters (setting s 0x0407 n) →
      filterTakes (canFilter (setting s 0x0407 n) i) msg = true →
      (∀ l, (source s (24 + n)).lastStamp = some l → l ≤ modelStamp s (24 + n) msg.stamp msg.stamp) →
      Completes (.canMessage n msg) s fun t => (source t (24 + n)).units = bump (source s (24 + n)).units ∧
        (lookupD (can t n).latest i default).data = msg.data ∧ (lookupD (can t n).latest i default).stamp = msg.stamp ∧
        ChangesOnly [.ingest, .align, .patrol] s t) ∧
    (Completes (.canErrorFrame n) s fun t => (source t (24 + n)).damaged = bump (source s (24 + n)).damaged ∧
      ChangesOnly [.ingest] s t) ∧
    (canAcks s n = true → Completes (.canBusOff n) s fun t => canAcks t n = false ∧
      (∃ r, t.patrol.wires = s.patrol.wires ++ [r] ∧ r.source = ingestFault (24 + n) 0 ∧ r.cls = .ce) ∧
      ChangesOnly [.ingest, .patrol] s t)) ∧
  ∀ (k i : Nat) (s : State), awake s = true → srcIdx k = some i → sourceActive s i = true →
    (source s i).state = .starting ∨ (source s i).state = .valid → sourceSilent s i = true →
    Completes (.sourceLossTimeout k) s fun t => (source t i).state = .absent ∧
      (source t i).lossEvents = bump (source s i).lossEvents ∧
      (∃ r ∈ t.patrol.wires, r.source = ingestFault i 0 ∧ r.cls = .ce ∧ r.at_ = now s) ∧
      ChangesOnly [.ingest, .align, .patrol] s t

/-- The loads and configurations of ingest: a template or a shading table that its checks admit is kept, another ends with
VERIFY_FAILED and the first offending offset (R133, R139); a configured source is ABSENT until its first unit (R151, R155).
Model's choices: assumptions 50, 117, 121. -/
def Obligations.IngestIsConfigured : Prop :=
  ∀ (k : CmdKey) (c : Cmd) (s : State),
    (Ready k 0x0403 s c → Completes (.loadLidarTemplate k) s fun t =>
      let len := fld c.params 64 32
      let tpl := cellsGet s.memory.staging (fld c.params 32 32) (min len 2592)
      (∀ o, templateFault tpl len = some o → Concluded c stVerifyFailed o [] s t ∧ t.ingest = s.ingest) ∧
      (templateFault tpl len = none → Concluded c stDone 0 [] s t ∧
        (fld c.params 0 8 < 8 → vget t.ingest.templates (fld c.params 0 8) = tpl)) ∧
      ChangesOnly [.flight, .ingest] s t) ∧
    (Ready k 0x0402 s c → fld c.params 0 8 < 8 → Completes (.loadShadingTable k) s fun t =>
      let len := fld c.params 64 32
      let tbl := cellsGet s.memory.staging (fld c.params 32 32) (min len 33808)
      let r := fld c.params 0 8
      (len ≠ 8 + 8 * fld tbl 0 8 * fld tbl 8 8 → Concluded c stVerifyFailed 1 [] s t ∧ t.ingest = s.ingest) ∧
      (len = 8 + 8 * fld tbl 0 8 * fld tbl 8 8 → 2 ≤ fld tbl 0 8 → fld tbl 0 8 ≤ 65 → 2 ≤ fld tbl 8 8 →
        fld tbl 8 8 ≤ 65 → Concluded c stDone 0 [] s t ∧ (receiver t r).shadingPending = true ∧
          ((receiver s r).activeShading < 2 → vget (receiver t r).shading (1 - (receiver s r).activeShading) = tbl ∧
            vget (receiver t r).shading (receiver s r).activeShading =
              vget (receiver s r).shading (receiver s r).activeShading)) ∧
      ChangesOnly [.flight, .ingest] s t) ∧
    (Ready k 0x0400 s c → fld c.params 0 8 < 8 → Completes (.configCsi k) s fun t => Concluded c stDone 0 [] s t ∧
      setting t 0x0400 (fld c.params 0 8) = c.params ∧ (receiver t (fld c.params 0 8)).frame = none ∧
      (source t (fld c.params 0 8)).state = (if fld c.params 20 4 = 0 then .unconfigured else .absent) ∧
      ChangesOnly [.flight, .settings, .ingest] s t) ∧
    (Ready k 0x0404 s c → fld c.params 64 8 < 8 → Completes (.bindLidar k) s fun t => Replied c stDone 0 [] s t ∧
      setting t 0x0404 (fld c.params 64 8) = c.params ∧
      (lidar t (fld c.params 64 8)).template = vget s.ingest.templates (fld c.params 128 8) ∧
      (source t (fld c.params 64 8 + 8)).state = .absent ∧ ChangesOnly [.flight, .reply, .settings, .ingest] s t) ∧
    (Ready k 0x0405 s c → fld c.params 0 8 < 4 → Completes (.configImu k) s fun t => Replied c stDone 0 [] s t ∧
      setting t 0x0405 (fld c.params 0 8) = c.params ∧ (source t (16 + fld c.params 0 8)).state = .absent ∧
      t.align.primary = designatedImu t ∧ ChangesOnly [.flight, .reply, .settings, .ingest, .align] s t) ∧
    (Ready k 0x0406 s c → fld c.params 0 8 < 4 → Completes (.configEncoder k) s fun t => Replied c stDone 0 [] s t ∧
      setting t 0x0406 (fld c.params 0 8) = c.params ∧ (source t (20 + fld c.params 0 8)).state = .absent ∧
      ChangesOnly [.flight, .reply, .settings, .ingest] s t) ∧
    (Ready k 0x0407 s c → fld c.params 0 8 < 2 → Completes (.configCan k) s fun t => Concluded c stDone 0 [] s t ∧
      setting t 0x0407 (fld c.params 0 8) = c.params ∧ (source t (24 + fld c.params 0 8)).state = .absent ∧
      (can t (fld c.params 0 8)).busOff = false ∧ ChangesOnly [.flight, .settings, .ingest] s t)

/-! ## Chapter 06: alignment and ego-motion -/

/-- The pose at an instant (R166, R167, R170): beyond LIMIT_US after the newest entry it is refused with HOW 3, within it
extrapolated with HOW 1, POS + VEL × Δ and the sigmas grown; before the oldest entry it is refused with HOW 2; between the
two newest entries it is interpolated with HOW 0, each SIGMA the larger of the two, unless they lie more than LIMIT_US
apart. Model's choices: assumptions 40, 53. -/
def Obligations.PosesAtAnyInstant : Prop :=
  ∀ (s : State) (n : PoseEntry) (rest : List PoseEntry) (t : Dts), s.align.history = n :: rest →
    (poseLimit s < t - n.time → poseFor s t = (3, none)) ∧
    (n.time < t → t - n.time ≤ poseLimit s → ∃ e, poseFor s t = (1, some e) ∧ e.time = t ∧
      let d := secondsOf ((t : Int) - n.time)
      e.posX = to32 ((f32 n.posX).add ((f32 n.velX).mul d)) % 2 ^ 32 ∧
      e.posY = to32 ((f32 n.posY).add ((f32 n.velY).mul d)) % 2 ^ 32 ∧
      e.sigmaVel = to16 ((f16 n.sigmaVel).add ((accelBound s).mul d)) % 2 ^ 16 ∧
      e.velX = n.velX % 2 ^ 32 ∧ e.yawRate = n.yawRate % 2 ^ 16 ∧ e.anchorSeq = n.anchorSeq) ∧
    ((∀ e ∈ n :: rest, t < e.time) → poseFor s t = (2, none)) ∧
    ∀ a rest', rest = a :: rest' → a.time ≤ t → t < n.time →
      (poseLimit s < n.time - a.time → poseFor s t = (3, none)) ∧
      (n.time - a.time ≤ poseLimit s → ∃ e, poseFor s t = (0, some e) ∧ e.time = t ∧
        e.posX = to32 (lerp (f32 a.posX) (f32 n.posX) (t - a.time) (n.time - a.time)) % 2 ^ 32 ∧
        e.velX = to32 (lerp (f32 a.velX) (f32 n.velX) (t - a.time) (n.time - a.time)) % 2 ^ 32 ∧
        (e.sigmaPos = a.sigmaPos % 2 ^ 16 ∨ e.sigmaPos = n.sigmaPos % 2 ^ 16) ∧
        ((f16 a.sigmaPos).le (f16 n.sigmaPos) = true → e.sigmaPos = n.sigmaPos % 2 ^ 16))

/-- A part of a fusion set closes when every due source has a whole in-window unit, and CLOSE_MS after F at the latest; the
oldest set of which that holds closes, and where it holds of none nothing happens. A source with a whole unit in window has its
MISS_RUN cleared; one with no unit in window is counted in MISSES, and at MISS_LIMIT, or with a RESIDUAL above half the frame
period, becomes TIME_UNTRUSTED with a UC record; one whose units in window are all damaged is judged by neither (R179, R180).
Once the pose at F is available, the frame's scroll is ordered: +1 patch
on an axis where the vehicle lies more than L beyond the centre C, −1 where it lies as far before it; where after that
it is still more than 2 L away on an axis, the Rink recentres on the nearest grid point, counted and with a CE record
(R184). Model's choices: assumptions 57, 58, 124. -/
def Obligations.FusionSetsCloseAndScroll : Prop :=
  ((∀ s : State, awake s = true → inRun s = true →
     (∀ (pre post : List FusionSet) (f : FusionSet), s.align.sets = pre ++ f :: post →
       (∀ g ∈ pre, closesNow s true g = false) → f.cameraClosed = false → f.skipped = false → f.instant ≤ now s →
       partReady s f.instant true = true ∨ f.instant + cameraCloseMs s * msUnits ≤ now s →
       Completes .cameraPartClose s fun t => (∀ g ∈ t.align.sets, g.frame = f.frame → g.cameraClosed = true) ∧
         ChangesOnly [.align, .ingest, .patrol, .rink, .safety, .point, .glide] s t) ∧
     ((∀ g ∈ s.align.sets, g.cameraClosed = true ∨ g.skipped = true ∨ now s < g.instant ∨
         partReady s g.instant true = false ∧ now s < g.instant + cameraCloseMs s * msUnits) →
       Completes .cameraPartClose s fun t => ChangesOnly [] s t) ∧
     (∀ (pre post : List FusionSet) (f : FusionSet), s.align.sets = pre ++ f :: post →
       (∀ g ∈ pre, closesNow s false g = false) → f.lidarClosed = false → f.skipped = false → f.instant ≤ now s →
       partReady s f.instant false = true ∨ f.instant + lidarCloseMs s * msUnits ≤ now s →
       Completes .lidarPartClose s fun t => (∀ g ∈ t.align.sets, g.frame = f.frame → g.lidarClosed = true) ∧
         ChangesOnly [.align, .ingest, .patrol, .rink, .safety, .point, .glide, .freeCount] s t) ∧
     ((∀ g ∈ s.align.sets, g.lidarClosed = true ∨ g.skipped = true ∨ now s < g.instant ∨
         partReady s g.instant false = false ∧ now s < g.instant + lidarCloseMs s * msUnits) →
       Completes .lidarPartClose s fun t => ChangesOnly [] s t)) ∧
   ∀ (n i : Nat) (f : Dts) (s : State), i < 16 → dueIn s i = true →
     let k := sourceTrust s i
     let j := sourceTrust (judgeSource n f s i) i
     let steady := 2 * (source s i).residual ≤ (framePeriod s : Int)
     (∀ u, nearestUnit f (unitsOfSource s i) = some u → inWindow s f u.mu u.alpha = true →
       j.missRun = 0 ∧ j.misses = k.misses ∧ (k.trust = .trusted → 0 < missLimit s → steady → j.trust = .trusted)) ∧
     ((∃ u ∈ unitsOfSource s i, inWindow s f u.mu u.alpha = true) →
       (∀ u ∈ unitsOfSource s i, inWindow s f u.mu u.alpha = true → u.damaged = true) →
       j.misses = k.misses ∧ j.missRun = k.missRun) ∧
     ((∀ u ∈ unitsOfSource s i, inWindow s f u.mu u.alpha = false) → j.misses = bump k.misses ∧ j.missRun = k.missRun + 1 ∧
       (k.trust ≠ .timeUntrusted → missLimit s ≤ k.missRun + 1 ∨ ¬ steady → j.trust = .timeUntrusted ∧
         ∃ r ∈ (judgeSource n f s i).patrol.wires, r.source = alignFault i ∧ r.cls = .uc) ∧
       (k.trust = .timeUntrusted → j.trust = .timeUntrusted ∨ 0 = returnFrames s))) ∧
  ((∀ (n : Nat) (p : PoseEntry) (s : State),
     let val (d : Dy) : Rat := (d.n : Rat) * (2 : Rat) ^ d.e
     let L : Rat := (patchCm s : Rat) / 100
     let off (x : Nat) (c : Int) : Rat := val (f32 x) - c * L
     let order (x : Nat) (c : Int) : Int := if off x c > L then 1 else if off x c < -L then -1 else 0
     let cx := s.align.centreX + order p.posX s.align.centreX
     let cy := s.align.centreY + order p.posY s.align.centreY
     let t := orderScroll n p s
     (|off p.posX cx| ≤ 2 * L → |off p.posY cy| ≤ 2 * L → t.align.centreX = cx ∧ t.align.centreY = cy ∧
       t.align.recentres = s.align.recentres ∧ t.patrol = s.patrol) ∧
     (|off p.posX cx| > 2 * L ∨ |off p.posY cy| > 2 * L → t.align.centreX = nearestPatch s (f32 p.posX) ∧
       t.align.centreY = nearestPatch s (f32 p.posY) ∧ t.align.recentres = bump s.align.recentres ∧
       ∃ r, t.patrol.wires = s.patrol.wires ++ [r] ∧ r.source = alignFault 27 ∧ r.cls = .ce)) ∧
   ∀ (f : FusionSet) (p : PoseEntry) (s : State), awake s = true → isWorker s = false →
     s.align.sets.find? (fun f => !f.poseReady && !f.skipped && decide (f.instant ≤ now s) &&
       (poseAt s f.instant).isSome) = some f → poseAt s f.instant = some p → rebaseAt p s = s → Completes .poseAtFusionInstant s fun t =>
       (∀ g ∈ t.align.sets, g.frame = f.frame → g.poseReady = true ∧ g.originZ = p.posZ) ∧
       t.align.centreX = (orderScroll f.frame p s).align.centreX ∧
       t.align.centreY = (orderScroll f.frame p s).align.centreY ∧
       ChangesOnly [.align, .patrol, .safety, .ingest, .rink, .point, .glide] s t)

/-- Every vote (R190): below two present voters there is no verdict. With MAJORITY one set of pairwise agreeing voters is more
than half of the present ones and holds every other such set, and the rest are the outliers. CONTESTED is where no such set
exists; AMBIGUOUS where two exist of which neither holds the other. Model's choices: assumption 55. -/
def Obligations.VotesFollowTheProcedure : Prop :=
  ∀ (agree : Nat → Nat → Bool) (present : List Nat), present.Nodup → (∀ i j, agree i j = agree j i) →
    let big (g : List Nat) : Prop := g.Sublist present ∧ g.Pairwise (fun a b => agree a b = true) ∧
      present.length < 2 * g.length
    (present.length < 2 → vote agree present = (.noVerdict, [])) ∧
    (2 ≤ present.length →
      ((∀ g, ¬ big g) ↔ vote agree present = (.contested, [])) ∧
      (∀ out, vote agree present = (.majority, out) → ∃ g, big g ∧ out = present.filter (fun v => !g.contains v) ∧
        ∀ h, big h → h ⊆ g) ∧
      (∀ out, vote agree present = (.ambiguous, out) → ∃ g h, big g ∧ big h ∧ ¬ g ⊆ h ∧ ¬ h ⊆ g))

/-- The voters' work completes: an iteration's equations become a solver job; the deadline holds the frame's vote; every
10 ms the speed of each wheel enters, an encoder's from the stamps of its first and last edge, zero below two edges (R148, R161,
R185, R193). Model's choices: assumptions 59, 125, 127. -/
def Obligations.EgoMotionStepsComplete : Prop :=
  (∀ (m : ScanMatch) (s : State), awake s = true → s.align.scan = some m → m.jobRunning = false → m.converged = false →
    m.iterations < fld (setting s 0x0503 0) 176 8 → now s < scanEnd s m.instant → Completes .scanMatchIteration s fun t =>
      (∃ x, t.align.scan = some x ∧ x.frame = m.frame ∧ x.jobRunning = true ∧ x.iterations = m.iterations) ∧
      (∃ j, t.solver.jobs = s.solver.jobs ++ [j] ∧ j.owner = .lidarVoter ∧ j.running = none) ∧
      ChangesOnly [.align, .solver] s t) ∧
  (∀ (f : FusionSet) (s : State), awake s = true → inRun s = true →
    s.align.sets.find? (fun f => !f.voted && decide (scanEnd s f.instant ≤ now s)) = some f →
    Completes .scanDeadline s fun t => (∀ g ∈ t.align.sets, g.frame = f.frame → g.voted = true) ∧
      t.align.votedFrames = s.align.votedFrames + 1 ∧ ChangesOnly [.align, .patrol] s t) ∧
  ∀ (s : State), awake s = true → s.dev.state ≠ .boot → isWorker s = false → s.align.lastWheelUpdate + 10 * msUnits ≤ now s →
    Completes .wheelVelocityUpdate s fun t => t.align.lastWheelUpdate = now s ∧
      (∀ w v, w < 4 → encoderSpeed s w = some v → (vget t.align.wheels w).speed = v ∧
        (vget t.align.wheels w).hasData = true) ∧
      (∀ w e, (List.range 4).find? (fun e => sourceActive s (20 + e) && fld (setting s 0x0406 e) 32 8 == w) = some e →
        ((vget s.ingest.encoders e).edges.length < 2 → encoderSpeed s w = some 0) ∧
        ∀ a mid b, (vget s.ingest.encoders e).edges = a :: mid ++ [b] → a.1 < b.1 → encoderSpeed s w =
          some ((fld (setting s 0x0406 e) 96 32 : Int) * wrap32 (b.2.1 - a.2.1) * secUnits /
            (fld (setting s 0x0406 e) 64 32 * (b.1 - a.1) : Nat))) ∧
      (∀ e, e < 4 → (vget t.ingest.encoders e).edges = []) ∧ ChangesOnly [.align, .ingest, .patrol] s t

/-! ## Chapter 07: the point engines -/

/-- The insertion of a point (R204, R207): an outside point is only counted; in a bucket that holds its key it merges, and the
voxel keeps the newer sweep's point, or the first in scan order of one sweep; a full or marked bucket drops it and truncates
its patch; a far point beyond the far quota is dropped; else it takes the lowest free way with HITS 1.
Model's choices: assumption 61. -/
def Obligations.VoxelInsertionFollowsTheProcedure : Prop :=
  ∀ (s : State) (t : Take) (a : TakeFold) (p : DeskPoint), p.lidar < 8 →
    let v := voxelIndex s t p
    let b := bucketOf 65536 (keyX s v) (keyY s v) v.kz.toNat
    let slot := keySlot s (keyX s v) (keyY s v)
    let holds (e : Voxel) : Prop := e.bucket = b ∧ e.keyX = keyX s v ∧ e.keyY = keyY s v ∧ e.keyZ = v.kz.toNat
    let r := insertPoint s t a p
    let c := vget a.lidars p.lidar
    let d := vget r.lidars p.lidar
    (outside s t v = true → r.table = a.table ∧ d = { c with outside := bump c.outside } ∧ r.truncated = a.truncated) ∧
    (outside s t v = false →
      (pointMarked s 4 b = true ∨ (¬ (∃ e ∈ a.table, holds e) ∧ ∀ w, w < 4 → ∃ e ∈ a.table, e.bucket = b ∧ e.way = w) →
        r.table = a.table ∧ d = { c with bucketDropped := bump c.bucketDropped } ∧ slot ∈ r.truncated) ∧
      (pointMarked s 4 b = false → (∃ e ∈ a.table, holds e) → d = { c with merged := bump c.merged } ∧
        r.table.length = a.table.length ∧ r.near = a.near ∧ r.far = a.far ∧
        ∀ e ∈ a.table, (¬ holds e → e ∈ r.table) ∧ (holds e → ∃ e' ∈ r.table, holds e' ∧ e'.hits = min (e.hits + 1) 255 ∧
          e'.near = e.near ∧
          (p.lidar = e.lidar → p.scanIndex < e.scanIndex → e'.scanIndex = p.scanIndex ∧ e'.posX = p.x) ∧
          (p.lidar = e.lidar → e.scanIndex ≤ p.scanIndex → e'.scanIndex = e.scanIndex ∧ e'.posX = e.posX) ∧
          (p.lidar ≠ e.lidar → lookupD a.mus e.lidar 0 < p.mu → e'.lidar = p.lidar ∧ e'.posX = p.x) ∧
          (p.lidar ≠ e.lidar → p.mu < lookupD a.mus e.lidar 0 → e'.lidar = e.lidar ∧ e'.posX = e.posX))) ∧
      (pointMarked s 4 b = false → ¬ (∃ e ∈ a.table, holds e) → (∃ w, w < 4 ∧ ∀ e ∈ a.table, e.bucket = b → e.way ≠ w) →
        (p.near = false → 262144 - nearEntries s ≤ a.far →
          r.table = a.table ∧ d = { c with quotaDropped := bump c.quotaDropped } ∧ slot ∈ r.truncated) ∧
        (p.near = true ∨ a.far < 262144 - nearEntries s → d = c ∧ r.truncated = a.truncated ∧
          r.near = a.near + flag p.near ∧ r.far = a.far + flag (!p.near) ∧
          ∃ e, r.table = a.table ++ [e] ∧ holds e ∧ e.hits = 1 ∧ e.near = p.near ∧ e.way < 4 ∧
            (∀ x ∈ a.table, x.bucket = b → x.way ≠ e.way) ∧
            ∀ w, w < e.way → ∃ x ∈ a.table, x.bucket = b ∧ x.way = w)))

/-- The frame's work in the point engines: the take starts when nothing is before it and empties the table first, and takes at
most POINT_CAP points and NEAR_ENTRIES more (R206, R208); its completion gives the frame's reference store, the other one
stands (R218); with the last rule book delivered the table is empty and the frame's books stand, every book of a truncated
patch with TRUNCATED set, and a book whose check sequence its tile found wrong as one with NO_LIDAR (R209, R217, R318). A batch of queries is
answered from the latest store (R221, R222). Model's choices: assumptions 61, 130, 131. -/
def Obligations.TakesRunAndDeliver : Prop :=
  (∀ (t : Take) (rest : List Take) (s : State), awake s = true → s.point.current = none → s.point.waiting = t :: rest →
    Completes .takeStart s fun u => u.point.waiting = rest ∧
      (∃ x, u.point.current = some x ∧ x.frame = t.frame ∧ x.begun = true ∧ x.complete = t.dropped) ∧
      u.point.sharesWithout = s.point.retired ∧
      (t.dropped = true → u.point.table = [] ∧ u.point.lidars = s.point.lidars) ∧
      (t.dropped = false → u.point.frameNumber = t.frame ∧ u.point.taken = min t.points.length (pointCap s) ∧
        u.point.overCap ≤ nearEntries s ∧ u.point.voxels = u.point.table.length ∧
        u.point.voxels ≤ u.point.taken + u.point.overCap) ∧ ChangesOnly [.point] s u) ∧
  (∀ (t : Take) (s : State), awake s = true → s.point.current = some t → t.begun = true → t.complete = false →
    s.point.latestRef = none ∨ s.point.latestRef = some 0 ∨ s.point.latestRef = some 1 → Completes .takeComplete s fun u =>
      u.point.current = some { t with complete := true } ∧ (latestStore u).frame = some t.frame ∧
      u.point.storesSinceReset = s.point.storesSinceReset + 1 ∧
      (∀ j, s.point.latestRef = some j → u.point.latestRef = some (1 - j) ∧ vget u.point.refs j = vget s.point.refs j) ∧
      u.point.table = s.point.table ∧ ChangesOnly [.point] s u) ∧
  (∀ (hurt : List (Nat × Nat)) (t : Take) (f : TileFrame) (s : State), awake s = true → s.point.current = some t → s.rink.frame = some f →
    t.complete = true → t.frame = f.frame → Completes (.ruleBooksDelivered hurt) s fun u => u.point.table = [] ∧
      u.point.current = none ∧
      u.point.books = ((buildBooks s t).books.map (markTruncated (buildBooks s t).truncated)).map
        (spoilBook s t.frame hurt) ∧
      (hurt = [] → (∀ b ∈ (buildBooks s t).books, (buildBooks s t).truncated.contains b.slot = true → b.truncated = false →
        ∃ b' ∈ u.point.books, b'.slot = b.slot ∧ b'.set = b.set ∧ b'.truncated = true ∧
          b'.bytes = b.bytes.set 7 (b.bytes.getD 7 0 ||| 1))) ∧
      u.point.delivered = some t.frame ∧
      u.point.latencyUs = min 65535 ((now s - t.lidarClose) / usUnits) ∧
      u.point.peakLatencyUs = max s.point.peakLatencyUs u.point.latencyUs ∧
      u.point.truncatedPatches = (buildBooks s t).truncated.length ∧
      ChangesOnly [.point, .rink, .safety, .patrol, .align, .ingest, .glide] s u) ∧
  (∀ (k : CmdKey) (c : Cmd) (s : State), Ready k 0x0602 s c → Completes (.runNeighbourQuery k) s fun t =>
    Concluded c stDone 0 (queryReply s c.params) s t ∧ ChangesOnly [.flight] s t) ∧
  ∀ (s : State) (st : RefStore) (q : Nat × Nat × Nat) (radius maxN : Nat),
    let r := ballQuery s st q radius maxN
    r.1.length ≤ maxN ∧ (∀ c ∈ r.1, c ∈ st.cells ∧ (distance2 q c).le ((f32 radius).mul (f32 radius)) = true) ∧
    r.1.Pairwise (fun a b => (distance2 q a).le (distance2 q b) = true) ∧ (r.2.1 = true → r.1.length = maxN)

/-! ## Chapter 08: the Rink and the tiles -/

/-- The Rink moves over the ground by whole patches (R234 to R236): in full extent a scroll keeps every tile at its slot,
clears the patches that enter and no other, and takes a route generation; a rebase turns the slots of the route table
against the shift, with their tiles and their CONTESTED marks, and clears nothing; a recentre clears every patch of the
extent. Model's choices: assumptions 56, 57. -/
def Obligations.TheRinkMovesByWholePatches : Prop :=
  ∀ (s : State), inSentry s = false →
    (s.rink.reduced = false → (∀ n, n < 48 → (ownerOf s n).isSome = true) →
      ∀ dx dy : Int, (dx, dy) ∈ [((1 : Int), (0 : Int)), (-1, 0), (0, 1), (0, -1)] →
      let t := scrollBy dx dy s
      t.rink.centreX = s.rink.centreX + dx ∧ t.rink.centreY = s.rink.centreY + dy ∧
      t.rink.generation = (s.rink.generation + 1) % 2 ^ 32 ∧ t.rink.counters.scrolls = bump s.rink.counters.scrolls ∧
      (∀ u, u < 49 → (vget t.rink.tiles u).slot = (vget s.rink.tiles u).slot ∧
        (vget t.rink.tiles u).role = (vget s.rink.tiles u).role) ∧
      (∀ n, n < 48 → patchOfSlot t.rink.centreX t.rink.centreY n = patchOfSlot s.rink.centreX s.rink.centreY n →
        vget t.rink.slots n = vget s.rink.slots n) ∧
      (∀ n, n < 48 → patchOfSlot t.rink.centreX t.rink.centreY n ≠ patchOfSlot s.rink.centreX s.rink.centreY n →
        (vget t.rink.slots n).historyAge = 0 ∧ ∀ u, ownerOf s n = some u → ∀ i, i < (stateRegion s).2 →
          cellsWf (vget s.rink.tiles u).sram = true → cellAt (vget t.rink.tiles u).sram ((stateRegion s).1 + i) = 0) ∧
      t.align = { s.align with contestedPatches := t.align.contestedPatches } ∧
      (∀ c ∈ s.align.contestedPatches, c.id < 48 → (c ∈ t.align.contestedPatches ↔
        patchOfSlot t.rink.centreX t.rink.centreY c.id = patchOfSlot s.rink.centreX s.rink.centreY c.id)) ∧
      ChangesOnly [.rink, .align] s t) ∧
    (∀ mx my : Int,
      let t := rotateRoutes mx my s
      let turned (n : Nat) : Nat := ((((n % 8 : Nat) : Int) - mx) % 8).toNat + 8 * ((((n / 8 : Nat) : Int) - my) % 6).toNat
      (∀ u, u < 49 → vget t.rink.tiles u =
        { vget s.rink.tiles u with slot := (vget s.rink.tiles u).slot.map turned }) ∧
      (∀ n, n < 48 → vget t.rink.slots (turned n) = vget s.rink.slots n) ∧
      t.rink.centreX = s.rink.centreX - mx ∧ t.rink.centreY = s.rink.centreY - my ∧
      t.rink.generation = (s.rink.generation + 1) % 2 ^ 32 ∧
      t.rink.counters.rebaseRotations = bump s.rink.counters.rebaseRotations ∧
      t.align = { s.align with
        contestedPatches := s.align.contestedPatches.map (fun (c : Contest) => { c with id := turned c.id }) } ∧
      ChangesOnly [.rink, .align] s t) ∧
    ∀ cx cy : Int,
      let t := recentreTo cx cy s
      t.rink.centreX = cx ∧ t.rink.centreY = cy ∧ (∀ n, slotInExtent t n = true → (vget t.rink.slots n).historyAge = 0) ∧
      ChangesOnly [.rink, .align] s t

/-- A frame's image phase starts at its boundary, when the array is free and the frame's cameras are settled and its pose is
known (R23, R237): the frame holds the array from that instant, with its strips numbered and dealt to the slots in service
(R291), and the patches' histories age by one frame, up to 255, or begin at 0 where the patch was cleared or has just come to
be served (R238). FRAME_NUMBER of the tile map is the frame's where the routes changed (R261), and a recentre ordered by a
later frame waits for its own. A frame that orders no move, with no change of
extent, no new plan and no manager to follow, leaves the tiles, the routes and the centre as they are.
Model's choices: assumption 64. -/
def Obligations.FramesBeginAtTheirBoundary : Prop :=
  ∀ (f : FusionSet) (s : State), awake s = true → inRun s = true → s.power.change = none → s.rink.frame = none →
    nextFrameFor s = some f → f.cameraClosed = true → f.poseReady = true → (∀ x, s.safety.imageNotBefore = some x → x ≤ now s) →
    Completes .frameBoundary s fun t =>
      (∃ x, t.rink.frame = some x ∧ x.frame = f.frame ∧ x.instant = f.instant ∧ x.imageStart = now s ∧
        x.cameras = f.cameras ∧ x.strips = frameStrips (planImage t) f.cameras ∧ x.deal = serviceSlots t ∧
        x.phase = (if x.strips = [] then .lift else .image)) ∧
      t.rink.boundaryFrame = (if t.rink.generation = s.rink.generation then s.rink.boundaryFrame else f.frame) ∧
      t.align.recentreDue = s.align.recentreDue.filter (fun n => decide (f.frame < n)) ∧
      (∀ n, n < 48 → (vget t.rink.slots n).haloLost = false ∧ (vget t.rink.slots n).cameraPartial = false ∧
        (vget t.rink.slots n).landing = [] ∧ (vget t.rink.slots n).historyAge ≤ 255) ∧
      (isWorker s = false → (∀ n ∈ s.align.recentreDue, f.frame < n) → s.rink.reducePending = false → s.plans.swap = none →
        f.rebaseX = s.rink.rebaseX → f.rebaseY = s.rink.rebaseY → f.centreX = s.rink.centreX → f.centreY = s.rink.centreY →
        (∀ u, u < 49 → vget t.rink.tiles u = { vget s.rink.tiles u with lastStep := none, arith := default }) ∧
        t.rink.generation = s.rink.generation ∧ t.rink.centreX = s.rink.centreX ∧ t.rink.centreY = s.rink.centreY ∧
        ∀ n, n < 48 → (vget t.rink.slots n).historyAge =
          (if (serviceSlots s).contains n = true ∧ (vget s.rink.slots n).clearing = false ∧ (vget s.rink.slots n).served = true
            then min 255 ((vget s.rink.slots n).historyAge + 1) else 0)) ∧
      ChangesOnly [.rink, .align, .ingest, .safety, .settings, .plans, .glide, .peers, .flight] s t

/-- Crossover (R247, R248, R250): the copy starts from the first service tile that follows the previous source in walk
order, to the spare that has been ready longest; after 102.4 µs at the earliest the target holds what the source holds; with
equal signatures at the end of the shadow step the slot passes to the target in a new route generation and the source drains,
with others the migration is aborted, with a CE record, and the target is tested: if it passes, the source is the next tile to
be freed. A forwarder to which no router's copy leads any more, once tested, is ready or retired; the tenth retirement is fatal
(R253). A router's copy of the route table, its generation and its owners, follows the marker (R233).
Model's choices: assumption 63. -/
def Obligations.RolesWalkTheArray : Prop :=
  (∀ (t : Dts) (a b p : Nat) (s : State), awake s = true → inRun s = true → s.rink.migration = none →
    s.rink.migrationDue = some t → t ≤ now s →
    longest s .spareReady (·.readySince) = some b → s.rink.nextSource = none →
    s.rink.previousSource = some p → (walkAfter p).find? (fun u => tileRole s u == .service) = some a →
    Completes .migrationCopyStart s fun u => (∃ m, u.rink.migration = some m ∧ m.phase = .copy ∧ m.source = a ∧
      m.target = b ∧ m.tick = t ∧ m.since = now s) ∧ tileRole u b = .migrationTarget ∧ tileRole u a = .service ∧
      u.rink.previousSource = some a ∧ u.rink.generation = s.rink.generation ∧ ChangesOnly [.rink] s u) ∧
  (∀ (m : Migration) (s : State), awake s = true → s.rink.migration = some m → m.source < 49 → m.target < 49 →
    m.source ≠ m.target → tileRole s m.source = .service → tileRole s m.target = .migrationTarget →
    let a := vget s.rink.tiles m.source
    let b := vget s.rink.tiles m.target
    (m.phase = .copy → 10 * m.since + 1024 * usUnits ≤ 10 * now s → Completes .migrationShadowStep s fun u =>
      u.rink.migration = some { m with phase := .shadow, since := now s } ∧
      vget u.rink.tiles m.target = { a with
        role := b.role, slot := b.slot, lastTest := b.lastTest, spareSince := b.spareSince, readySince := b.readySince,
        draining := b.draining, arith := b.arith } ∧
      vget u.rink.tiles m.source = a ∧ ChangesOnly [.rink] s u) ∧
    (m.phase = .shadow → 10 * m.since + usUnits ≤ 10 * now s → a.signature = b.signature → Completes .migrationHandover s fun u =>
      (vget u.rink.tiles m.target).role = .service ∧ (vget u.rink.tiles m.target).slot = a.slot ∧
      (vget u.rink.tiles m.source).role = .spareTesting ∧ (vget u.rink.tiles m.source).slot = none ∧
      (vget u.rink.tiles m.source).draining = true ∧ u.rink.migration = some { m with phase := .drain, since := now s } ∧
      u.rink.generation = (s.rink.generation + 1) % 2 ^ 32 ∧ u.rink.counters.migrations = bump s.rink.counters.migrations ∧
      u.rink.counters.maxHandoverUs = max s.rink.counters.maxHandoverUs ((now s - m.tick) / usUnits) ∧
      ChangesOnly [.rink] s u) ∧
    (m.phase = .shadow → 10 * m.since + usUnits ≤ 10 * now s → a.signature ≠ b.signature →
      Completes .migrationHandover s fun u => u.rink.migration = none ∧
      vget u.rink.tiles m.source = a ∧ (vget u.rink.tiles m.target).role = .spareTesting ∧
      u.rink.mismatch = some (m.target, m.source) ∧ u.rink.nextSource = s.rink.nextSource ∧ u.rink.generation = s.rink.generation ∧
      u.rink.counters.shadowMismatches = bump s.rink.counters.shadowMismatches ∧
      u.rink.counters.migrationAborts = bump s.rink.counters.migrationAborts ∧
      (∃ r, u.patrol.wires = s.patrol.wires ++ [r] ∧ r.cls = .ce ∧ r.level = 4) ∧ ChangesOnly [.rink, .patrol] s u)) ∧
  (∀ (m : Migration) (s : State), awake s = true → s.rink.migration = some m → m.phase = .drain → m.source < 49 →
    10 * m.since + 5 * usUnits ≤ 10 * now s → unrouted s m.source = true → Completes .forwarderDrained s fun u => u.rink.migration = none ∧
      vget u.rink.tiles m.source = { vget s.rink.tiles m.source with draining := false } ∧ ChangesOnly [.rink] s u) ∧
  (∀ (x : Nat) (s : State), awake s = true → x < 49 → tileRole s x = .spareTesting → (vget s.rink.tiles x).draining = false →
    testMayEnd s x = true →
    (Completes (.spareTestComplete x true) s fun u => tileRole u x = .spareReady ∧ (vget u.rink.tiles x).lastTest = 1 ∧
      u.rink.counters.testsPassed = bump s.rink.counters.testsPassed ∧
      (∀ a, s.rink.mismatch = some (x, a) → u.rink.nextSource = some a) ∧
      ((∀ a, s.rink.mismatch ≠ some (x, a)) → u.rink.nextSource = s.rink.nextSource) ∧ ChangesOnly [.rink] s u) ∧
    (wouldBeTenth s = true → Completes (.spareTestComplete x false) s fun u => tileRole u x = .retired ∧
      (∃ r ∈ u.patrol.wires, r.source = rinkFault x 0 ∧ r.cls = .fa ∧ r.level = 5) ∧
      ChangesOnly [.rink, .patrol, .plans] s u) ∧
    (wouldBeTenth s = false → Completes (.spareTestComplete x false) s fun u => tileRole u x = .retired ∧ (vget u.rink.tiles x).lastTest = 2 ∧
      (∃ r, u.patrol.wires = s.patrol.wires ++ [r] ∧ r.source = rinkFault x 0 ∧ r.cls = .uc ∧ r.level = 4) ∧
      ChangesOnly [.rink, .patrol, .plans] s u)) ∧
  ∀ (router : Nat) (s : State), awake s = true → router < 49 → Completes (.routeGenerationMarker router) s fun u =>
    (vget u.rink.copies router).generation = s.rink.generation ∧
    (∀ n, n < 48 → vget (vget u.rink.copies router).owners n = ownerOf s n) ∧ (∀ q, q < 49 → q ≠ router → vget u.rink.copies q = vget s.rink.copies q) ∧
    ChangesOnly [.rink] s u

/-- The retirement of a tile (R256): a spare only leaves the spares; a service tile's slot passes at once, in a new route
generation, to the spare that has been ready longest, with HISTORY_AGE 0 and its temporal state zero, and is lost to the
frame in progress, and the result of the tick after the decision is invalid (R257); without any spare in full extent the change to reduced extent waits for the next boundary. RETIRE_TILE is
answered DONE. A flit that fails its CRC is a CE record of its link; a lane group whose third resend within 1 ms fails is
replaced, and without a spare of its link that is fatal (R244). Model's choices: assumption 62. -/
def Obligations.TilesRetireAndLanesAreReplaced : Prop :=
  (∀ (k : CmdKey) (c : Cmd) (x : Nat) (s : State), Ready k 0x0702 s c → fld c.params 0 8 = x → x < 49 →
    tileRole s x ≠ .retired → wouldBeTenth s = false →
    inSentry s = false → Completes (.retireTile k) s fun u => Concluded c stDone 0 [] s u ∧ tileRole u x = .retired ∧
      (vget u.rink.tiles x).slot = none ∧
      (tileRole s x = .spareReady ∨ tileRole s x = .spareTesting → u.rink.generation = s.rink.generation ∧
        ∀ y, y < 49 → y ≠ x → vget u.rink.tiles y = vget s.rink.tiles y) ∧
      (∀ n o, tileRole s x = .service → (vget s.rink.tiles x).slot = some n → n < 48 → s.rink.migration = none →
        longest s .spareReady (·.readySince) = some o → tileRole u o = .service ∧ (vget u.rink.tiles o).slot = some n ∧
        u.rink.generation = (s.rink.generation + 1) % 2 ^ 32 ∧ (vget u.rink.slots n).historyAge = 0 ∧
        (s.rink.frame ≠ none → (vget u.rink.slots n).patchLost = true) ∧ 
        u.rink.remapAt = (if ticking s then s.rink.remapAt ++ [now s] else s.rink.remapAt) ∧
        ∀ y, y < 49 → y ≠ x → y ≠ o → vget u.rink.tiles y = vget s.rink.tiles y) ∧
      (tileRole s x = .service → s.rink.migration = none → longest s .spareReady (·.readySince) = none →
        longest s .spareTesting (·.spareSince) = none → s.rink.reduced = false → u.rink.reducePending = true ∧
        ∀ y, y < 49 → y ≠ x → (vget u.rink.tiles y).slot = (vget s.rink.tiles y).slot)) ∧
  ∀ (link group : Nat) (failed : Bool) (s : State), awake s = true → link < 245 → group < 16 →
    let before := ((s.rink.lanes.find? (fun g => g.link == link && g.group == group)).map (fun (g : LaneGroup) =>
      (g.failures.filter (fun t => decide (now s < t + msUnits))).length)).getD 0
    let used := lookupD s.rink.laneSpares link 0
    Completes (.linkFlitError link group failed) s fun u =>
      (∃ r, u.patrol.wires = s.patrol.wires ++ [r] ∧ r.unit = link % 5 ∧
        ((r.cls = .fa ∧ r.level = 4) ↔ failed = true ∧ 2 ≤ before ∧ 2 ≤ used) ∧ (r.cls = .ce ∨ r.cls = .fa) ∧
        (r.cls = .ce → r.level = 3)) ∧
      (failed = true → 2 ≤ before → used < 2 → lookupD u.rink.laneSpares link 0 = used + 1 ∧
        u.rink.counters.laneRepairs = bump s.rink.counters.laneRepairs) ∧
      (failed = false ∨ before < 2 → u.rink.laneSpares = s.rink.laneSpares) ∧ ChangesOnly [.rink, .patrol] s u

/-! ## Chapter 09: tile arithmetic -/

/-- The end of a step (R240, R263, R270 to R288): a step whose predecessor is not the one run last does not run and is
reported; one whose halo point is not past, or whose strips are not its slot's, does not run either. One whose checks pass
writes its outputs to their places and nowhere else, and leaves its signature, the CRC-32C of its CHECK values; the block of a
temporal update goes into the free working slot (R308). One whose checks fail leaves the tile's memory as it was, counts what
it met, every failing unit is reported as UC at L3, and the step is to be run again. No other tile changes. No output is an
infinity or a NaN (R274): whatever goes into the epilogue's conversion or an accumulation, the code that comes out is finite in
its format, and an integer output is the value rounded by ROUND, held within the format's range (R278, R279).
Model's choices: assumptions 65, 66, 136, 137, 138, 139, 141, 142. -/
def Obligations.StepsEndCheckedAndFinite : Prop :=
  (∀ (tile : Nat) (e : StepEnd) (f : TileFrame) (slot : Nat) (s : State), awake s = true → inRun s = true → tile < 49 →
     s.rink.frame = some f → workSlot s tile = some slot → cellsWf (vget s.rink.tiles tile).sram = true →
     let x := vget s.rink.tiles tile
     let r := stepResult s slot e (enterStep s f tile slot e x)
     let failed := failedUnits e r
     let temporal := (stepLayer s e).any (fun l => fld l 128 8 == 10)
     let flow : Prop := (x.lastStep = none ∧ e.predecessors = []) ∨ ∃ l, x.lastStep = some l ∧ l ∈ e.predecessors
     let outside (a : Nat) (w : Nat × Bytes) : Prop := a < w.1 ∨ w.1 + w.2.length ≤ a
     (haloReady s slot e = false ∨ gathersDealt s f slot e = false →
       Completes (.sequencerStepEnd tile e) s fun u => ChangesOnly [] s u) ∧
     (haloReady s slot e = true → gathersDealt s f slot e = true →
       (¬ flow → Completes (.sequencerStepEnd tile e) s fun u =>
         (∃ w, u.patrol.wires = s.patrol.wires ++ [w] ∧ w.source = rinkFault tile 0 ∧ w.cls = .uc ∧ w.level = 3) ∧
         vget u.rink.tiles tile = { x with refetch := true } ∧
         (∀ y, y < 49 → y ≠ tile → vget u.rink.tiles y = vget s.rink.tiles y) ∧ ChangesOnly [.rink, .patrol] s u) ∧
       (flow → failed = [] → Completes (.sequencerStepEnd tile e) s fun u =>
         let z := vget u.rink.tiles tile
         z.lastStep = some e.step ∧ z.rerun = false ∧ z.refetch = false ∧ z.slot = x.slot ∧ z.role = x.role ∧
         z.signature = crc32c (r.signs.flatMap (bytesOfNat 8)) ∧
         (∀ w, e.gathers = [] → r.writes = [w] → temporal = false → e.layer.any (layerSpilled s) = false →
           w.1 + w.2.length ≤ 4194304 → cellsGet z.sram w.1 w.2.length = w.2) ∧
         (temporal = true → r.writes ≠ [] → ∃ i, z.uncommitted = some i ∧ i < 2 ∧ x.uncommitted ≠ some i ∧
           vget z.working i = r.writes) ∧
         (∀ a, (∀ g ∈ e.gathers, a < (gatherBytes s f slot g).1 ∨
             (gatherBytes s f slot g).1 + (gatherBytes s f slot g).2.1.length ≤ a) → (∀ w ∈ r.writes, outside a w) →
           (∀ i, x.uncommitted = some i → ∀ w ∈ vget x.working i, outside a w) → cellAt z.sram a = cellAt x.sram a) ∧
         (e.columnHeads = true → f.phase = .image → ∃ g, u.rink.frame = some g ∧ g.phase = .lift ∧ g.frame = f.frame) ∧
         (∀ y, y < 49 → y ≠ tile → vget u.rink.tiles y = vget s.rink.tiles y) ∧
         ChangesOnly [.rink, .patrol, .ingest, .safety] s u) ∧
       (flow → failed ≠ [] → Completes (.sequencerStepEnd tile e) s fun u =>
         vget u.rink.tiles tile = { x with rerun := true, arith := x.arith.take r.counts r.failed.length } ∧
         (∀ n ∈ failed, ∃ w ∈ u.patrol.wires, w.source = rinkFault tile 0 ∧ w.unit = n ∧ w.cls = .uc ∧ w.level = 3) ∧
         u.rink.arithTotal = s.rink.arithTotal.take r.counts r.failed.length ∧
         (∀ y, y < 49 → y ≠ tile → vget u.rink.tiles y = vget s.rink.tiles y) ∧ ChangesOnly [.rink, .patrol] s u))) ∧
  ((∀ (f mode y scale : Nat), 3 ≤ f → f ≤ 7 → (toFormat f mode y scale).1 < 2 ^ fmtBits f ∧
     elementBad f (toFormat f mode y scale).1 = false) ∧
   (∀ (f mode y scale : Nat), f ≤ 2 →
     let q := roundInt mode (f32 (fmul y (to32 ((Dy.ofInt 1).div (f32 scale)))))
     let m : Int := 2 ^ (fmtBits f - 1)
     elementValue f (toFormat f mode y scale).1 = Dy.ofInt (max (-m) (min (m - 1) q)) ∧
     ((toFormat f mode y scale).2 = true ↔ q < -m ∨ m ≤ q)) ∧
   ∀ (fa fw : Nat) (a w : List Elem) (code : Nat) (sat : Bool),
     accumulate fa fw a w = .fp code sat → fmt32.finite code = true ∧ code < 2 ^ 32)

/-- The checksum column on an integer pair (R285): the array takes the output columns 64 at a time, and CHECK and OUTSUM of
each group are compared exactly, before saturation. A group passes exactly when what its accumulators are off by sums to zero:
without a fault always, and never when a single integer output is off by any amount; a row fails with any of its groups. -/
def Obligations.IntegerRowsAreCheckedExactly : Prop :=
  ∀ (fa fw index : Nat) (a : List Elem) (w : List (List Elem)) (upset : List (Nat × Int)), (pairKp fa fw).isSome = true →
    fmtIsInt fa = true →
    let off (i : Nat) : Int := ((upset.find? (fun u => u.1 == i)).map (·.2)).getD 0
    let p := productRow fa fw a w upset
    p.checks.length = (w.length + 63) / 64 ∧
    (∀ g c, p.checks[g]? = some c → (c.ok = true ↔
      ((List.range (min 64 (w.length - 64 * g))).map (fun i => off (64 * g + i))).sum = 0)) ∧
    ((checkResult index p).failed = [] ↔ ∀ c ∈ p.checks, c.ok = true) ∧
    (upset = [] → (checkResult index p).failed = []) ∧
    ∀ n d, upset = [(n, d)] → n < w.length → d ≠ 0 → (checkResult index p).failed = [index]

/-! ## Chapter 10: the Lift, halos, heads and the export -/

/-- The Lift (R296 to R300): a column is cut into runs of bins of one patch, one packet each to a served slot, bins outside
the extent counted; a column that looks too steeply down is dropped whole. Every column comes once, and a packet goes to the
tile that the Lift router's copy of the route table names (R242). A column whose residue check fails has the frame's Lift
routed once more, and after that every patch is CAMERA_PARTIAL (R318). A packet's bins join the landing sums as
⌊(f × w + 64) / 128⌋, a negative weight as zero, and its receiver's CAMERAS bit is set; a lost patch discards it. The marker of
a pass, after its last column and the last packet to a slot, leaves the landing buffer zeroed, and with the last slot's marker
the pass ends. Model's choices: assumptions 67, 133, 134, 143. -/
def Obligations.LiftGathersColumnsOnTheGround : Prop :=
  (∀ (bins : List (Option LiftBin)), ((cutRuns bins none []).flatMap (·.2)) = bins.filterMap id ∧
    ∀ run ∈ cutRuns bins none [], run.2 ≠ [] ∧ ∀ b ∈ run.2, b.patch = run.1) ∧
  (∀ (r : Nat) (c : LiftColumn) (f : TileFrame) (rec_ : Bytes) (g : Dy3 × Dy3) (s : State),
    awake s = true → s.rink.frame = some f → cameraRecord (planImage s) r = some rec_ →
    let d := liftDescriptor rec_
    let j := columnStrip f r rec_ c.column
    liftRunning s f = true → c.pass = f.pass → f.pass < liftPasses (planImage s) →
    (r, c.column) ∈ passColumns (planImage s) f → (∀ x ∈ f.columns, ¬ (x.1 = r ∧ x.2.1 = c.column)) →
    (∀ x ∈ f.columns, stripSlot f x.2.2 = stripSlot f j → x.2.2 ≤ j) → columnRay s f r c.column = some g →
    let bins := columnBins s d g.1 g.2 (c.weights.take (fld d 72 8))
    (c.residue = false → r ∉ f.raysLost → Completes (.liftColumn r c) s fun t =>
      t.rink.frame = some { f with columns := (r, c.column, j) :: f.columns } ∧
      (degenerate g.2 = true → t.rink.packets = s.rink.packets ∧
        t.rink.liftDegenerate = satAdd 32 s.rink.liftDegenerate 1 ∧ t.rink.liftOutside = s.rink.liftOutside) ∧
      (degenerate g.2 = false → t.rink.liftDegenerate = s.rink.liftDegenerate ∧
        t.rink.liftOutside = satAdd 32 s.rink.liftOutside (bins.filter (·.isNone)).length ∧
        ∃ new, t.rink.packets = s.rink.packets ++ new ∧
          (∀ p ∈ new, p.receiver = r ∧ p.features = c.features ∧ slotServed s p.slot = true ∧
            vget (vget s.rink.copies 3).owners p.slot = some p.tile ∧ p.path = meshPath 3 p.tile) ∧
          ((∀ n, n < 48 → slotServed s n = true ∧ (vget (vget s.rink.copies 3).owners n).isSome = true) →
            new.flatMap (·.bins) = (bins.filterMap id).map (fun b => (b.cell, b.weight)))) ∧
      ChangesOnly [.rink] s t) ∧
    (c.residue = true → Completes (.liftColumn r c) s fun t =>
      (∃ w, t.patrol.wires = s.patrol.wires ++ [w] ∧ w.source = rinkFault 49 0 ∧ w.cls = .uc ∧ w.level = 3) ∧
      (f.rerouted = false → t.rink.packets = [] ∧ t.rink.frame = some { f with pass := 0, columns := [], rerouted := true } ∧
        ∀ n, n < 48 → (vget t.rink.slots n).landing = [] ∧ (vget t.rink.slots n).markers = 0) ∧
      (f.rerouted = true → t.rink.packets = s.rink.packets ∧
        ∀ n ∈ f.deal, n < 48 → slotServed s n = true → (vget t.rink.slots n).cameraPartial = true) ∧
      ChangesOnly [.rink, .patrol] s t)) ∧
  (∀ (q : LiftPacket) (p : LiftFlight) (f : TileFrame) (s : State), awake s = true → q.slot < 48 →
    s.rink.frame = some f → f.pass < 2 → s.rink.packets.find? (fun p => p.slot == q.slot) = some p →
    let x := vget s.rink.slots q.slot
    Completes (.liftPacket q) s fun t =>
      let y := vget t.rink.slots q.slot
      t.rink.packets = s.rink.packets.erase p ∧
      (x.patchLost = true ∨ packetArrives s p = false → y = x ∧ t.rink.liftBins = s.rink.liftBins) ∧
      (x.patchLost = false → packetArrives s p = true → bitOf (vget y.passCameras f.pass) p.receiver = true ∧
        t.rink.liftBins = satAdd 32 s.rink.liftBins p.bins.length ∧
        ∀ cell i, i < 32 → i < p.features.length → lookupD y.landing (cell * 32 + i) 0 = lookupD x.landing (cell * 32 + i) 0 +
          ((p.bins.filter (fun b => b.1 == cell)).map (fun b => (p.features.getD i 0 * max 0 b.2 + 64) / 128)).sum) ∧
      (∀ n, n < 48 → n ≠ q.slot → vget t.rink.slots n = vget s.rink.slots n) ∧ ChangesOnly [.rink] s t) ∧
  (∀ (n : Nat) (f : TileFrame) (s : State), awake s = true → n < 48 → s.rink.frame = some f → f.phase = .lift →
    f.pass < liftPasses (planImage s) → n ∈ f.deal → (vget s.rink.slots n).markers = f.pass →
    (∀ p ∈ s.rink.packets, p.slot ≠ n) → awaitedColumns s f = [] →
    (∀ w, (gate s 5).armed.find? (fun w => w.key == f.frame) = some w →
      w.opens ≤ gateClock s 5 ∧ gateClock s 5 ≤ w.closes) → Completes (.endOfPassMarker n) s fun t =>
      (vget t.rink.slots n).landing = [] ∧ (vget t.rink.slots n).markers = f.pass + 1 ∧
      ((∀ m ∈ f.deal, m = n ∨ (vget s.rink.slots m).markers = f.pass + 1) →
        t.rink.frame = some { f with pass := f.pass + 1, columns := [] }) ∧
      ((∃ m ∈ f.deal, m < 48 ∧ m ≠ n ∧ (vget s.rink.slots m).markers ≠ f.pass + 1) → t.rink.frame = some f) ∧
      ChangesOnly [.rink, .safety, .patrol] s t) ∧
  ∀ (f : TileFrame) (s : State), awake s = true → s.rink.frame = some f → s.point.delivered = some f.frame →
    f.phase = .lift → liftPasses (planImage s) ≤ f.pass →
    Completes .bevPhaseStart s fun t => t.rink.frame = some { f with phase := .bev } ∧ ChangesOnly [.rink] s t

/-- The BEV phase (R245, R246, R311, R312): a strip from a neighbour is written to the halo ring, bit for bit, and ends the
wait for it; a lost neighbour's is zeros and marks the patch HALO_LOST, counted once; a remote gather beyond the layer's reach
is read as zero and a sample counted, one on a lost patch marks the asking patch, one that is answered brings the segment bit
for bit, and one that a tile leaves unanswered for 50 µs is a UC of that tile. The end of the heads (R313 to R316, R369): a
slot's detections, at most 128 in descending SCORE, join the frame's; with the last slot the frame leaves the array and its
detections go to Glide, ordered by slot. The last record of an export makes WRITE_SEQ 2k + 2, in the buffer of k mod 2.
Model's choices: assumptions 68, 69, 70. -/
def Obligations.BevPhaseServesAndEnds : Prop :=
  ((∀ (n m : Nat) (strip : HaloStrip) (layer : Bytes) (f : TileFrame) (s : State), awake s = true → n < 48 →
     s.rink.frame = some f → (layerRecords (planImage s))[strip.layer]? = some layer →
     let h := fld layer 160 8
     let x := vget s.rink.slots n
     f.phase = .bev → slotServed s n = true → x.headsDone = false → h ≠ 0 → strip.neighbour < 8 →
     neighbourSlot s n strip.neighbour = some m → strip.cells.length = stripCells h strip.neighbour →
     x.haloLayer = some strip.layer ∨ x.haloWait = [] →
     let awaited := if x.haloLayer = some strip.layer then x.haloWait
       else (List.range 8).filter (fun d => (neighbourSlot s n d).isSome)
     let b := stripBytes s n strip.neighbour (rowBytes (dscA layer) (fld layer 192 16)) h strip.cells
     let at_ := strip.ring.getD strip.neighbour 0
     Completes (.haloPoint n strip) s fun t =>
       (vget t.rink.slots n).haloLayer = some strip.layer ∧
       (vget t.rink.slots n).haloWait = awaited.filter (fun d => d != strip.neighbour) ∧
       (∀ u, ownerOf s n = some u → cellsWf (vget s.rink.tiles u).sram = true → at_ + b.length ≤ 4194304 →
         cellsGet (vget t.rink.tiles u).sram at_ b.length = b) ∧
       ((vget s.rink.slots m).patchLost = true → (∀ v ∈ b, v = 0) ∧ (vget t.rink.slots n).haloLost = true ∧
         t.rink.counters.haloLost = (if x.haloLost = true then s.rink.counters.haloLost
           else bump s.rink.counters.haloLost)) ∧
       ((vget s.rink.slots m).patchLost = false → (vget t.rink.slots n).haloLost = x.haloLost) ∧
       (∀ k, k < 48 → k ≠ n → vget t.rink.slots k = vget s.rink.slots k) ∧ ChangesOnly [.rink] s t) ∧
   (∀ (tile n : Nat) (g : Gather) (layer : Bytes) (f : TileFrame) (s : State), awake s = true → tile < 49 →
     s.rink.frame = some f → f.phase = .bev → workSlot s tile = some n →
     (layerRecords (planImage s))[g.layer]? = some layer →
     let sampled := fld layer 128 8 == 12
     let reach := if sampled then fld layer 184 4 else 1
     let p := patchOfSlot s.rink.centreX s.rink.centreY n
     let q := (p.1 + g.dx, p.2 + g.dy)
     let m := slotIndex q.1 q.2
     let beyond := reach < max (mag g.dx) (mag g.dy) ∨ patchInExtent s q = false ∨ slotServed s m = false
     let brings (t : State) (b : Bytes) : Prop := ∀ u, ownerOf s n = some u → cellsWf (vget s.rink.tiles u).sram = true →
       g.to_ + b.length ≤ 4194304 → cellsGet (vget t.rink.tiles u).sram g.to_ b.length = b
     Completes (.remoteGatherRequest tile g) s fun t =>
       (beyond → brings t (zeros 64) ∧ t.rink.gathers = s.rink.gathers ∧
         t.rink.samplesClipped = (if sampled then satAdd 32 s.rink.samplesClipped 1 else s.rink.samplesClipped)) ∧
       (¬ beyond → t.rink.samplesClipped = s.rink.samplesClipped) ∧
       (¬ beyond → (vget s.rink.slots m).patchLost = true → brings t (zeros 64) ∧
         (n < 48 → (vget t.rink.slots n).haloLost = true)) ∧
       (¬ beyond → (vget s.rink.slots m).patchLost = false → ∀ a o, vget (vget s.rink.copies tile).owners m = some a →
         ownerOf s m = some o → (∃ w ∈ t.rink.gathers, w.slot = n ∧ w.tile = a ∧ w.to_ = g.to_ ∧ w.sent = now s) ∧
         (a = o → brings t (cellsGet (vget s.rink.tiles o).sram g.address 64))) ∧ ChangesOnly [.rink] s t) ∧
   ∀ (tile : Nat) (x : GatherWait) (s : State), awake s = true →
     s.rink.gathers.find? (fun x => x.tile == tile && decide (x.sent + 50 * usUnits ≤ now s)) = some x →
     Completes (.remoteGatherTimeout tile) s fun t => t.rink.gathers = s.rink.gathers.erase x ∧
       (∃ r, t.patrol.wires = s.patrol.wires ++ [r] ∧ r.source = rinkFault tile 0 ∧ r.cls = .uc ∧ r.level = 4) ∧
       (x.slot < 48 → (vget t.rink.slots x.slot).haloLost = true) ∧ ChangesOnly [.rink, .patrol] s t) ∧
  ((∀ (n : Nat) (h : HeadsOutput) (f : TileFrame) (s : State), awake s = true → n < 48 → s.rink.frame = some f →
     f.phase = .bev → n ∈ f.deal → (vget s.rink.slots n).headsDone = false →
     (∀ w, (gate s 6).armed.find? (fun w => w.key == f.frame) = some w →
       w.opens ≤ gateClock s 6 ∧ gateClock s 6 ≤ w.closes) →
     let x := vget s.rink.slots n
     let found := (takeDetections s n (((setOf s f.frame).map (·.originZ)).getD 0) h).1
     let bare (l : List Detection) : List Detection := l.map (fun (d : Detection) => { d with opinions := [] })
     Completes (.headsEnd n h) s fun t =>
       ((∃ m ∈ f.deal, m ≠ n ∧ m < 48 ∧ (vget s.rink.slots m).headsDone = false ∧ (vget s.rink.slots m).patchLost = false) →
         ∃ g, t.rink.frame = some g ∧ g.frame = f.frame ∧ (vget t.rink.slots n).headsDone = true ∧
           t.glide.arriving = s.glide.arriving ∧ (x.patchLost = true → g.detections = f.detections) ∧
           (x.patchLost = false → bare g.detections = bare (f.detections ++ found)) ∧
           (x.patchLost = false → crossChecks s = false → g.detections = f.detections ++ found)) ∧
       ((∀ m ∈ f.deal, m = n ∨ (vget s.rink.slots m).headsDone = true ∨ (vget s.rink.slots m).patchLost = true) →
         t.rink.frame = none ∧ t.rink.gathers = [] ∧
         t.rink.counters.lastTileTimeUs = min ((now s - f.imageStart) / usUnits) (2 ^ 32 - 1) ∧
         ∃ a, t.glide.arriving = s.glide.arriving ++ [a] ∧ a.frame = f.frame ∧ a.instant = f.instant ∧
           a.patches.length = 48 ∧ a.detections.Pairwise (fun p q => p.slot ≤ q.slot)) ∧
       ChangesOnly [.rink, .align, .glide, .patrol, .memory, .safety, .ingest] s t) ∧
   (∀ (n z : Nat) (h : HeadsOutput) (s : State), (takeDetections s n z h).1.length ≤ 128 ∧
     ∀ d ∈ (takeDetections s n z h).1, d.slot = n ∧
       (Dy.ratio (fld (trackParams s d.cls) 104 8 : Nat) 256).le (f32 d.score) = true) ∧
   ∀ s : State, awake s = true → s.rink.export_.writing ≠ none → 48 ≤ s.rink.export_.written.length →
     cellsWf s.memory.exportRegion = true → Completes .exportComplete s fun t =>
       t.rink.export_.writing = none ∧ t.rink.export_.k = s.rink.export_.k + 1 ∧
       natOfBytes (cellsGet t.memory.exportRegion (exportBuffer s.rink.export_.k + 60) 4) =
         (2 * s.rink.export_.k + 2) % 2 ^ 32 ∧
       (∀ a, (a < exportBuffer s.rink.export_.k + 60 ∨ exportBuffer s.rink.export_.k + 64 ≤ a) →
         cellAt t.memory.exportRegion a = cellAt s.memory.exportRegion a) ∧ ChangesOnly [.rink, .memory] s t)

/-! ## Chapter 11: plans -/

/-- The fit of a variant (R330, R331): spill entries are applied in their order, only while the residency is above 4,096
KiB, each adding its time and traffic and freeing its residency; rate(v, x) is the largest rate not above the configured
one whose spacings all reach x. The plan commands: LOAD_PLAN ends with VERIFY_FAILED and the stage and section of the
first check that fails, or with RESOURCE where a variant does not fit, and its slot is then EMPTY (R329, R332); else the
slot holds the image and the reply its slot entry (R333). ACTIVATE_PLAN makes the plan active for a posture that is not
running, and for the one running waits for a frame boundary at least 2 ms after
its start (R336). UNLOAD_PLAN empties the slot
(R342). Model's choices: assumption 72. -/
def Obligations.PlansAreFittedAndActivated : Prop :=
  ((∀ (es : List Bytes) (r t m n : Nat),
     let q := applySpill es r t m n
     n ≤ q.2.2.2 ∧ q.2.2.2 ≤ n + es.length ∧ (q.1 ≤ 4096 ∨ q.2.2.2 = n + es.length) ∧
     q.1 = (es.take (q.2.2.2 - n)).foldl (fun a e => a - fld e 48 16) r ∧
     q.2.1 = t + ((es.take (q.2.2.2 - n)).map (fun e => fld e 64 32)).sum ∧
     q.2.2.1 = m + ((es.take (q.2.2.2 - n)).map (fun e => fld e 96 32)).sum ∧
     ∀ j, j < q.2.2.2 - n → 4096 < (es.take j).foldl (fun a e => a - fld e 48 16) r) ∧
   (∀ (t n : Nat) (sliced : Bool) (r : Nat), driveRate t sliced n = some r ↔
     1 ≤ r ∧ r ≤ n ∧ rateHolds r t sliced = true ∧ ∀ q, r < q → q ≤ n → rateHolds q t sliced = false) ∧
   (∀ (tick t n : Nat) (sliced : Bool) (r : Nat), sentryRate tick t sliced n = some r ↔
     1 ≤ r ∧ r ≤ n ∧ (if sliced = true then 100 * t ≤ 96 * ((1000 / r - tick) * 1000) else t ≤ (1000 / r - tick) * 1000) ∧
     ∀ q, r < q → q ≤ n →
       ¬ (if sliced = true then 100 * t ≤ 96 * ((1000 / q - tick) * 1000) else t ≤ (1000 / q - tick) * 1000)) ∧
   ∀ (s : State) (img b : Bytes) (kind idx : Nat) (f : VariantFit), fitVariant s img (kind, b, idx) = some f →
     fld b 112 16 ≤ 128 ∧ fld b 96 16 ≤ 4608 ∧ f.kind = kind ∧ f.record = b ∧
     f.tileTimeUs = fld b 128 32 + (((spillEntries img b).take f.spilled).map (fun e => fld e 64 32)).sum ∧
     (kind = 0 → f.tileTimeUs ≤ fld b 160 32) ∧ (kind ≠ 0 → f.tileTimeUs * 100 ≤ fld b 160 32 * 96) ∧
     variantRate s kind f.tileTimeUs false = some f.rate ∧
     (fld b 192 32 + (((spillEntries img b).take f.spilled).map (fun e => fld e 96 32)).sum) * 1024 * f.rate ≤ 291840000000) ∧
  ((∀ (k : CmdKey) (c : Cmd) (i : Nat) (s : State), Ready k 0x0800 s c → loadingSlot s = some i →
     let len := fld c.params 32 32
     let img := cellsGet s.memory.staging (fld c.params 0 32) len
     Completes (.loadPlan k) s fun t =>
       (∀ f, verifyImage s img len = some f → Concluded c stVerifyFailed (f.1 * 256 + f.2) [] s t ∧
         slotEmpty (planSlot t i) = true) ∧
       (verifyImage s img len = none → fitImage s img = none → Concluded c stResource 0x0008 [] s t ∧
         slotEmpty (planSlot t i) = true) ∧
       (∀ l, verifyImage s img len = none → fitImage s img = some l → Concluded c stDone 0 (slotEntry t i) s t ∧
         planSlot t i = { image := img, loading := false, fits := l }) ∧
       (∀ j, j < 4 → j ≠ i → (planSlot s j).loading = false → planSlot t j = planSlot s j) ∧
       t.plans.driveSlot = s.plans.driveSlot ∧ t.plans.sentrySlot = s.plans.sentrySlot ∧ ChangesOnly [.flight, .plans] s t) ∧
   (∀ (k : CmdKey) (c : Cmd) (s : State), Ready k 0x0801 s c →
     let i := fld c.params 0 8
     let posture := fld c.params 8 2
     (postureRuns s posture = false → Completes (.activatePlan k) s fun t => Concluded c stDone 0 [] s t ∧
       (posture = 0 → t.plans.driveSlot = some i ∧ t.plans.sentrySlot = s.plans.sentrySlot) ∧
       (posture ≠ 0 → t.plans.sentrySlot = some i ∧ t.plans.driveSlot = s.plans.driveSlot) ∧
       (∀ j, j < 4 → (planSlot t j).image = (planSlot s j).image) ∧ ChangesOnly [.flight, .plans, .rink, .settings] s t) ∧
     (postureRuns s posture = true → s.plans.swap = none → Completes (.activatePlan k) s fun t =>
       t.plans.driveSlot = s.plans.driveSlot ∧ t.plans.sentrySlot = s.plans.sentrySlot ∧
       t.plans.swap = some { key := k, slot := i, posture := posture, notBefore := startInstant c s + 2 * msUnits } ∧
       ChangesOnly [.plans] s t)) ∧
   ∀ (k : CmdKey) (c : Cmd) (s : State), Ready k 0x0803 s c → Completes (.unloadPlan k) s fun t =>
     Replied c stDone 0 [] s t ∧ (fld c.params 0 8 < 4 → slotEmpty (planSlot t (fld c.params 0 8)) = true) ∧
     (∀ j, j < 4 → j ≠ fld c.params 0 8 → planSlot t j = planSlot s j) ∧ ChangesOnly [.flight, .reply, .plans] s t)


/-! ## Chapter 12: the solver unit -/

/-- A batch that is admitted (R350) has 1 to 64 jobs, each within its limits: N 1 to 32, R at most 32, an input that
ends within staging, at most 8,192 cycles with its refinement, and a reply of at most 4,080 bytes; no job asks for X
without right-hand sides, for the factor of a substitution, or for the inverse of any other operation than OP 3. The
solver's work (R358 to R363): a batch puts its jobs into the table at its start; at a scheduling instant a job starts
only if its worst case ends by its deadline, an internal one on both lanes of a pair, a user job on a lane of its own; a
clean end gives a user job its record; the first lockstep difference is a UC record of the pair and the job runs once
more on it. Model's choices: assumption 73. -/
def Obligations.SolverBatchesAndJobs : Prop :=
  (∀ b : Bytes, batchBad b = none → 1 ≤ fld b 0 8 ∧ fld b 0 8 ≤ 64 ∧ ∀ i, i < fld b 0 8 →
     let d := descriptor b i
     jobOp d ≤ 5 ∧ 1 ≤ jobN d ∧ jobN d ≤ 32 ∧ jobR d ≤ 32 ∧ worstCase d ≤ 8192 ∧ jobOffset d % 4 = 0 ∧
     jobOffset d + 4 * inputWords d ≤ 2 ^ 28 ∧ 16 + resultBytesTo b i ≤ 4080 ∧
     (jobOp d = 2 → jobN d ≤ jobM d ∧ jobM d ≤ 64 ∧ rowsWithLambda d ≤ 64) ∧ (jobOp d = 4 ∨ jobOp d = 5 → 1 ≤ jobR d) ∧
     (bitOf (jobOutputs d) 0 = true → 1 ≤ jobR d) ∧ (bitOf (jobOutputs d) 1 = true → jobOp d ≤ 3) ∧
     (bitOf (jobOutputs d) 2 = true → jobOp d = 3) ∧ (jobRefine d ≠ 0 → jobOp d = 0 ∨ jobOp d = 1 ∨ jobOp d = 3)) ∧
  ((∀ (k : CmdKey) (c : Cmd) (s : State), Ready k 0x0900 s c → batchJobs s k = [] → Completes (.submitSolverBatch k) s fun t =>
     (∃ new, t.solver.jobs = s.solver.jobs ++ new ∧ new.length = fld c.params 0 8 ∧
       (∀ j ∈ new, ∃ i, i < fld c.params 0 8 ∧ j.owner = .user k i ∧ j.desc = descriptor c.params i ∧ j.running = none ∧
         j.record = none ∧ j.id = s.solver.nextId + i)) ∧
     t.host.flight = s.host.flight ∧ ChangesOnly [.solver] s t) ∧
   (∀ s : State, awake s = true → solverRuns s = true → (s.solver.jobs.map (fun j => j.id)).Nodup →
     (∀ j ∈ s.solver.jobs, j.id < s.solver.nextId) → Completes .solverSchedule s fun t =>
       (∀ j ∈ t.solver.jobs, ∀ lanes start, j.running = some (lanes, start) →
         (∃ i ∈ s.solver.jobs, i.id = j.id ∧ i.running = j.running) ∨
         (start = countNow s ∧ (∀ due, j.deadline = some due → countNow s * 16 + worstBase j.desc * 25 ≤ due * 16) ∧
           (isUser j = true → ∃ l, lanes = [l]) ∧ (isUser j = false → ∃ p, p < 4 ∧ lanes = [2 * p, 2 * p + 1]))) ∧
       ChangesOnly [.solver, .patrol, .flight, .glide, .align, .safety, .rink, .ingest, .point] s t) ∧
   ∀ (id : Nat) (j : Job) (lanes : List Nat) (start : Nat) (s : State), awake s = true →
     s.solver.jobs.find? (fun j => j.id == id) = some j → j.running = some (lanes, start) → j.record = none →
     (s.solver.jobs.map (fun j => j.id)).Nodup →
     let lane := lanes.headD 0
     (∀ k i, j.owner = .user k i → (∃ x ∈ s.solver.jobs, x.id ≠ id ∧ (∃ m, x.owner = .user k m) ∧ x.record = none) →
       Completes (.solverJobComplete id .clean) s fun t =>
         (∃ x ∈ t.solver.jobs, x.id = id ∧ x.running = none ∧ x.record = some (runRecord s j lane start)) ∧
         ChangesOnly [.solver, .patrol, .flight, .glide, .align, .safety, .rink, .ingest, .point] s t) ∧
     (isUser j = false → j.retried = false → tooLate s j = false → lane < 8 →
       Completes (.solverJobComplete id .mismatch) s fun t =>
         (∃ x ∈ t.solver.jobs, x.id = id ∧ x.retried = true ∧ x.record = none ∧
           x.running = some ([2 * (lane / 2), 2 * (lane / 2) + 1], countNow s)) ∧
         t.solver.lockstepMismatches = bump s.solver.lockstepMismatches ∧
         (∃ r ∈ t.patrol.wires, r.source = solverFault (lane / 2) 0 ∧ r.cls = .uc ∧ r.level = 4)))


/-! ## Chapter 13: Glide -/

/-- Tracks follow their frames (R368, R371, R373, R374, R378): a hit raises EXISTENCE by ⌈(256 − EXISTENCE) × GAIN_HIT / 256⌉ up
to 255 and clears COAST_FRAMES and the loss flags; a miss in an observed patch lowers it by ⌈EXISTENCE × GAIN_MISS / 256⌉, one
elsewhere leaves it and flags where the track lay; a birth takes the lowest free context that no marked word puts out of use
(R433) and an identifier that is not zero
and no live track's. The arrival of a frame's last detection associates it once no frame of the device's own is pending:
every live track is then matched or missed. Model's choices: assumptions 74, 128, 147. -/
def Obligations.TracksFollowTheirFrames : Prop :=
  (∀ (p : Bytes) (c : Track) (d : Detection) (m : Moved) (frame : Nat) (f : Dts),
    let t := hitTrack p c d m frame f
    t.existence = min 255 (c.existence + ((256 - c.existence) * fld p 64 8 + 255) / 256) ∧ t.coast = 0 ∧
    t.trackId = c.trackId ∧ t.index = c.index ∧ t.lastUpdate = f ∧ t.lastUpdateFrame = frame ∧ t.state = m.state ∧
    bitOf t.flags flagLost = false ∧ bitOf t.flags flagOutside = false ∧ (c.life = 3 → t.life = 2)) ∧
  (∀ (p : Bytes) (c : Track) (code : Nat),
    let t := missTrack p code c
    t.coast = min 255 (c.coast + 1) ∧ (c.life = 2 → t.life = 3) ∧ t.trackId = c.trackId ∧ t.state = c.state ∧
    t.lastUpdate = c.lastUpdate ∧
    (code = 0 → t.existence = c.existence - (c.existence * fld p 56 8 + 255) / 256 ∧ bitOf t.flags flagLost = false ∧
      bitOf t.flags flagOutside = false) ∧
    (code = 1 → t.existence = c.existence ∧ bitOf t.flags flagOutside = true ∧ bitOf t.flags flagLost = false) ∧
    (code = 2 → t.existence = c.existence ∧ bitOf t.flags flagLost = true ∧ bitOf t.flags flagOutside = false)) ∧
  (∀ (s : State) (i : Nat), s.glide.nextId < 2 ^ 32 → freeIndex s = some i →
    let id := freeId (takenIds s) 32768 s.glide.nextId
    id ≠ 0 ∧ id < 2 ^ 32 ∧ id ∉ takenIds s ∧ i < 16384 ∧ i ∉ usedIndices s ∧ contextMarked s i = false ∧
    (∀ j, j < i → j ∈ usedIndices s ∨ contextMarked s j = true) ∧
    (usedIndices s).length < liveLimit s) ∧
  ∀ (d : DetectionSet) (s : State), awake s = true → inRun s = true →
    s.glide.arriving.find? (fun d => !d.arrived) = some d →
    ((∃ u ∈ s.glide.pending, u.worker = none) → Completes .detectionsArrival s fun t =>
      t.glide.pending = s.glide.pending ∧ t.glide.store = s.glide.store ∧
      (∀ x ∈ t.glide.arriving, x.frame = d.frame → x.arrived = true) ∧ ChangesOnly [.glide, .safety] s t) ∧
    ((∀ u ∈ s.glide.pending, u.worker ≠ none) → (∀ x ∈ s.glide.arriving, x.arrived = false) →
      (s.glide.store.map (fun c => c.trackId)).Nodup → (s.glide.pending.all (fun u => decide (u.key < s.solver.nextId))) = true →
      Completes .detectionsArrival s fun t => t.glide.store = s.glide.store ∧
        (∃ u, t.glide.pending = s.glide.pending ++ [u] ∧ u.frame = d.frame ∧ u.instant = d.instant ∧ u.worker = none ∧
          (u.entries.filterMap entryIndex ++ u.misses.map (fun m => m.1)).Perm (s.glide.store.map (fun c => c.index))) ∧
        ChangesOnly [.glide, .safety, .solver, .align, .patrol] s t)

/-- Results are formed once per tick (R95, R96, R173, R375, R376, R384, R385, R394): the tick opens its result, plans the next
tick at the next whole multiple of the period and, at a fusion instant, starts a frame; the flags that its result shows are
those in force (R7); at the cut-off the updates at the head of the pending ones that were finished 500 µs before the tick are
committed, whole, and every live track is propagated; propagation that ends late, or has not ended 20 µs before the tick, makes
the result invalid; with the ego state of the tick, and not before 60 µs after it, the result is written, VALID exactly when
no reason stands against it, with at most 256 events; it carries at most MAX_TRACKS tracks, the qualifying ones of the lowest
keys. GET_TRACK answers with the committed context, CLEAR_ZONES removes every zone and rule (R395, R397).
Model's choices: assumptions 10, 75, 76, 93. -/
def Obligations.ResultsAreFormedOncePerTick : Prop :=
  (∀ (t : Dts) (s : State), awake s = true → ticking s = true → s.time.nextTick = some t → s.time.openTick = none →
    (now s < t → Completes .tick s fun u => ChangesOnly [] s u) ∧
    (t ≤ now s → Completes .tick s fun u => u.time.openTick = some t ∧ u.time.nextTick =
        some (nextMultiple ((if inSentry s then fld (setting s 0x0208 0) 0 8 else 1) * msUnits) t) ∧
      u.glide.newAtTick = [] ∧ u.glide.store = s.glide.store ∧ u.dev.tickDegradation = u.dev.degradation ∧
      (inRun s = true → inSentry s = false → s.power.change = none → s.align.fusionFrom ≤ t →
        isFusionInstant s t = true → u.align.nextFrame = (s.align.nextFrame + 1) % 2 ^ 32 ∧
          ∃ f ∈ u.align.sets, f.frame = s.align.nextFrame ∧ f.instant = t))) ∧
  (∀ (t : Dts) (s : State), awake s = true → ticking s = true → s.time.nextTick = some t → t ≤ now s + msUnits / 2 →
    s.time.cutoff ≠ some t → s.time.openTick = none → Completes .frameUpdateCutoff s fun u =>
      u.time.cutoff = some t ∧
      (∃ f, u.glide.result = some f ∧ f.instant = t ∧ f.done = false ∧ f.tick = s.dev.nextTickNumber ∧
        f.tracks.map (fun p => p.track) = u.glide.store) ∧
      (s.glide.pending = [] → u.glide.store = s.glide.store ∧ u.glide.committed = s.glide.committed) ∧
      (∀ x rest, s.glide.pending = x :: rest → (∀ d, x.finished = some d → t < d + msUnits / 2) →
        u.glide.store = s.glide.store) ∧
      (∀ x d, s.glide.pending = [x] → x.finished = some d → d + msUnits / 2 ≤ t → x.worker = none →
        u.glide.committed = x.frame ∧ u.glide.committedInstant = x.instant)) ∧
  (∀ (l : List Nat) (f : ResultForm) (s : State), awake s = true → s.glide.result = some f → f.done = false →
    (now s + 420 * usUnits < f.instant → Completes (.propagationComplete l) s fun u => ChangesOnly [] s u) ∧
    (f.instant ≤ now s + 420 * usUnits → Completes (.propagationComplete l) s fun u =>
      (now s + 20 * usUnits ≤ f.instant → u.glide.result = some { f with done := true }) ∧
      (f.instant < now s + 20 * usUnits → ∃ g, u.glide.result = some g ∧ g.done = true ∧ g.tracks = f.tracks ∧
        ((∃ p ∈ l, p < 16 ∧ bitOf s.glide.pairsRetired p = false) → g.reason = 5) ∧
        ((∀ p ∈ l, 16 ≤ p) → g.reason = 4)) ∧
      (∀ p ∈ l, p < 16 → bitOf s.glide.pairsRetired p = false →
        ∃ r ∈ u.patrol.wires, r.source = glideFault p 0 ∧ r.cls = .uc ∧ r.level = 3) ∧ ChangesOnly [.glide, .patrol] s u)) ∧
  (∀ (f : ResultForm) (s : State), awake s = true → s.glide.result = some f → f.done = false → f.reason = 0 →
    f.instant ≤ now s + 20 * usUnits → Completes .propagationDeadline s fun u =>
      u.glide.result = some { f with reason := 4 } ∧
      (∃ r, u.patrol.wires = s.patrol.wires ++ [r] ∧ r.source = glideFault 17 0 ∧ r.cls = .uc ∧ r.level = 4) ∧
      ChangesOnly [.glide, .patrol] s u) ∧
  (∀ (t : Dts) (s : State), awake s = true → ticking s = true → s.time.openTick = some t →
    t + 60 * usUnits ≤ now s → t + 150 * usUnits ≤ now s ∨ (∃ p ∈ s.align.history, t ≤ p.time) → Completes .egoStateForm s fun u =>
      u.time.openTick = none ∧ u.glide.result = none ∧ u.dev.nextTickNumber = s.dev.nextTickNumber + 1 ∧
      u.safety.formedTick = s.dev.nextTickNumber ∧ u.safety.formedInstant = t ∧ u.rink.remapAt = s.rink.remapAt.filter (fun d => decide (t < d)) ∧
      (u.safety.resultValid = true ↔ s.dev.state ≠ .safe ∧ (∀ d ∈ s.rink.remapAt, t < d) ∧ s.glide.inReset = false ∧
        ∃ f, s.glide.result = some f ∧ f.instant = t ∧ f.done = true ∧ f.reason = 0) ∧
      (∃ n, n ≤ 256 ∧ u.glide.eventSeq = (s.glide.eventSeq + n) % 2 ^ 32) ∧
      (resultTracks s 0 ≠ none → u.dev.tickNumber = s.dev.nextTickNumber ∧ u.dev.tickInstant = t)) ∧
  (∀ (s : State) (v : Dy × Dy × Dy × Dy) (ps : List PropTrack),
    let r := selectTracks s v ps
    r.1.length ≤ fld s.glide.relevance 48 16 ∧ r.2 = (ps.filter (fun p => relevant s.glide.relevance p.track)).length ∧
    (∀ p ∈ r.1, p ∈ ps ∧ relevant s.glide.relevance p.track = true) ∧
    r.1.Pairwise (fun a b => (relevanceKey s v b).lt (relevanceKey s v a) = false)) ∧
  (∀ (k : CmdKey) (c : Cmd) (x : Track) (s : State), Ready k 0x0A04 s c →
    s.glide.store.find? (fun t => t.trackId == fld c.params 0 32) = some x → Completes (.getTrack k) s fun t =>
      Replied c stDone 0 (trackBytes x) s t ∧ ChangesOnly [.flight, .reply] s t) ∧
  ∀ (k : CmdKey) (c : Cmd) (s : State), Ready k 0x0A05 s c → Completes (.clearZones k) s fun t => Replied c stDone 0 [] s t ∧
    t.glide.newAtTick = s.glide.newAtTick ++ [(0x0A05, [])] ∧ (latchSettings t).glide.zones = [] ∧
    (latchSettings t).glide.rules = [] ∧ (latchSettings t).glide.eventTable = [] ∧
    ChangesOnly [.flight, .reply, .settings, .glide] s t

/-! ## Chapter 14: the queues -/

/-- The queues (R408, R413 to R415): a result that fits is written whole, its notice not before 62 µs after its instant; with
at least 128 free words it is shortened to the tracks that fit and counted, else the queue enters overrun and the tick is LOST;
an event without 9 free words is LOST. A waiting pulse issues in normal native service 200 ns after the one before began.
RESET_QUEUE empties its queue and clears its overrun, a result that was not yet whole is written again, and the command is
answered when the reset completes, with the number that follows. Model's choices: assumptions 10, 33, 34. -/
def Obligations.QueuesFillAndReset : Prop :=
  (∀ (at_ : Dts) (n : Nat) (build : Nat → Bytes) (s : State),
    let r := offerResult at_ n build s
    let packet (m : Nat) : List OutWord := outWords (writeStart s 2) (cutOf s 2) (packWords (build m))
    let told : Prop := ∃ c ∈ r.1.host.notices.coming, c.bit = causeResult ∧ (cutOf s 2 = 0 → c.from_ = at_ + 62 * usUnits)
    (s.host.result.overrun = false → 128 + 16 * n ≤ freeWords s 2 → r.2 = some n ∧ told ∧
      r.1.host.result.words = s.host.result.words ++ packet n ∧ r.1.host.result.shortened = s.host.result.shortened) ∧
    (s.host.result.overrun = false → freeWords s 2 < 128 + 16 * n → 128 ≤ freeWords s 2 →
      r.2 = some ((freeWords s 2 - 128) / 16) ∧ told ∧ r.1.host.result.shortened = bump s.host.result.shortened ∧
      r.1.host.result.words = s.host.result.words ++ packet ((freeWords s 2 - 128) / 16)) ∧
    (s.host.result.overrun = true ∨ freeWords s 2 < 128 → r.2 = none ∧ r.1.host.result.words = s.host.result.words ∧
      r.1.host.result.overrun = true ∧ r.1.host.result.lost = bump s.host.result.lost ∧
      (s.host.result.overrun = false → ∃ x, r.1.patrol.wires = s.patrol.wires ++ [x] ∧ x.source = queueFault 2 0 ∧ x.cls = .ce))) ∧
  (∀ (b : Bytes) (s : State), b.length = 63 →
    (9 ≤ freeWords s 3 → (offerEvent b s).host.event.words =
      s.host.event.words ++ outWords (writeStart s 3) (cutOf s 3) (packWords b) ∧ (packWords b).length = 9) ∧
    (freeWords s 3 < 9 → (offerEvent b s).host.event.words = s.host.event.words ∧
      (offerEvent b s).host.event.lost = bump s.host.event.lost)) ∧
  (∀ s : State, awake s = true → s.dev.degradation = degradationOf s →
    (∀ c ∈ s.host.notices.coming, countNow s < c.count ∨ now s < c.from_) →
    (s.host.notices.waiting ≠ 0 → (∀ c, s.host.notices.lastPulse = some c → c + 100 ≤ countNow s) → flowService s = false →
      t16 s = false → Completes .noticePulse s fun t => t.host.notices.waiting = s.host.notices.waiting - 1 ∧
        t.host.notices.pulses = s.host.notices.pulses + 1 ∧ t.host.notices.lastPulse = some (countNow s) ∧ ChangesOnly [] s t) ∧
    (s.host.notices.waiting = 0 ∨ flowService s = true ∨ t16 s = true → Completes .noticePulse s fun t =>
      t.host.notices.pulses = s.host.notices.pulses ∧ ChangesOnly [] s t)) ∧
  (∀ (k : CmdKey) (c : Cmd) (n : Nat) (s : State), Ready k 0x0B03 s c → fld c.params 0 8 = n → n = 2 ∨ n = 3 →
    (outQueue s n).inReset = false → Completes (.resetQueue k) s fun t =>
      (¬ (n = 2 ∧ unfinished s = true) → (outQueue t n).words = []) ∧
      (n = 2 → unfinished s = true → (outQueue t n).words = outWords (countNow s) (cutOf s 2)
        (packWords ((unpackWords s.host.result.staged).take (fld (unpackWords s.host.result.staged) 32 32)))) ∧
      (n = 3 → (outQueue t n).resetNext = s.glide.eventSeq) ∧
      (n = 2 → unfinished s = false → (outQueue t n).resetNext = s.dev.nextTickNumber) ∧
      (outQueue t n).overrun = false ∧ (outQueue t n).inReset = true ∧
      (outQueue t n).resets = bump (outQueue s n).resets ∧ (outQueue t n).lost = (outQueue s n).lost ∧
      (outQueue t n).shortened = (outQueue s n).shortened ∧ (outQueue t n).resetBy = some k ∧
      ChangesOnly [if n = 2 then .result else .event] s t) ∧
  ∀ (k : CmdKey) (c : Cmd) (n : Nat) (s : State), awake s = true → n = 2 ∨ n = 3 → (outQueue s n).resetBy = some k →
    flightOf k s = some c → Completes (.queueResetComplete n) s fun t =>
      Replied c stDone 0 (bytesOfNat 8 (outQueue s n).resetNext) s t ∧
      (outQueue t n).inReset = false ∧ (outQueue t n).resetBy = none ∧
      ChangesOnly [.flight, .reply, if n = 2 then .result else .event] s t

/-! ## Chapter 15: fault collection -/

/-- Reports become records (R421, R425 to R430, R442): a report on the wires arrives, a masked one is counted instead, and an
FA enters SAFE at once. 3 µs after its cycle began a single report opens its subsystem's record, in the log under the next
LOG_SEQ: a CE closes at the end of its judgement and is never latched, a UC stays open with its retry pending and is latched
with the notice FAULT while the latch is empty; one that finds its subsystem's record open is merged.
Model's choices: assumption 77. -/
def Obligations.ReportsBecomeRecords : Prop :=
  (∀ (q : Report) (s : State), awake s = true → s.patrol.wires.find? (fun q => decide (arrivesFrom q ≤ now s)) = some q →
    (shadowMasks s q = true → Completes (.faultReportArrival none) s fun t => t.patrol.wires = s.patrol.wires.erase q ∧
      t.patrol.arrived = s.patrol.arrived ∧ t.patrol.shadowMasked = bump s.patrol.shadowMasked ∧ ChangesOnly [.patrol] s t) ∧
    (shadowMasks s q = false → isPointer q.source = false →
      (q.cls ≠ .fa → Completes (.faultReportArrival none) s fun t => t.patrol.wires = s.patrol.wires.erase q ∧
        t.patrol.arrived = s.patrol.arrived ++ [q] ∧ ChangesOnly [.patrol] s t) ∧
      (q.cls = .fa → q.injected = false → s.dev.state ≠ .boot → Completes (.faultReportArrival none) s fun t =>
        q ∈ t.patrol.arrived ∧ t.dev.state = .safe))) ∧
  (∀ (q : Report) (s : State), awake s = true → sourceExists q.source = true → unitExists q.source q.unit = true →
    q.injected = false → q.at_ ≤ now s → q.cls = .uc → shadowMasks s q = false → isPointer q.source = false →
    Completes (.faultReportArrival (some q)) s fun t => t.patrol.arrived = s.patrol.arrived ++ [q] ∧
      (∀ w, q.source = queueFault 3 2 → s.host.event.words[q.detail]? = some w →
        t.host.event.words[q.detail]? = some { w with damaged := true }) ∧
      (q.source = sourceOf 0x0C 1 0 → ∀ r ∈ t.patrol.log, r.logSeq % 2 ^ 23 ≠ q.detail) ∧
      (q.source = sourceOf 0x06 4 0 → q.level = 2 → ∀ e ∈ t.point.table, e.bucket ≠ q.detail) ∧
      (∀ l3 < 8, ∀ l4 < 8, q.source = sourceOf 0x11 l4 l3 → q.level = 2 →
        (vget t.memory.channels l4).uncorrected = satAdd 32 (vget s.memory.channels l4).uncorrected 1) ∧
      (sourceSub q.source ∉ [0x06, 0x07, 0x08, 0x09, 0x0A, 0x0E, 0x0F, 0x11] →
        ChangesOnly [.patrol, .reply, .result, .event] s t)) ∧
  ∀ (q : Report) (s : State), awake s = true → s.patrol.arrived = [q] → q.kind = .detection → q.injected = false →
    q.cls ≠ .fa → s.patrol.pointerFault = none → s.patrol.judgedTo ≤ q.at_ / usUnits * usUnits →
    q.at_ / usUnits * usUnits + 3 * usUnits ≤ now s → inShadow s q = false → s.patrol.latch = none →
    (∀ r ∈ s.patrol.log, r.logSeq ≠ s.patrol.nextSeq) → s.patrol.log.length < 512 → sourceSub q.source < 32 →
    isPointer q.source = false →
    let sub := sourceSub q.source
    let opened (t : State) (r : FaultRecord) : Prop := t.patrol.log = s.patrol.log ++ [r] ∧ r.logSeq = s.patrol.nextSeq ∧
      r.source = q.source ∧ r.unit = q.unit ∧ r.detail = q.detail ∧ r.firstDts = q.at_ ∧ r.cls = q.cls ∧
      r.level = max 2 (min 7 q.level) ∧ r.overflow = false ∧ r.simultaneous = false ∧ r.merged = 0 ∧ r.host = false ∧
      t.patrol.nextSeq = (s.patrol.nextSeq + 1) % 2 ^ 32
    (openRec s sub = none → q.cls = .ce → Completes .collectorJudgement s fun t => t.patrol.arrived = [] ∧
      (∃ r, opened t r ∧ r.isOpen = false ∧ r.action = 0 ∧ r.retry = .none) ∧ openRec t sub = none ∧ t.patrol.latch = none ∧
      t.patrol.ceCount = bump s.patrol.ceCount ∧ ChangesOnly [.patrol] s t) ∧
    (openRec s sub = none → q.cls = .uc → (∀ p ∈ s.patrol.retries, p.source = q.source → p.unit ≠ q.unit) →
      (∀ x ∈ s.patrol.quiet, x.source = q.source → x.unit ≠ q.unit) → Completes .collectorJudgement s fun t =>
        t.patrol.arrived = [] ∧ (∃ r, opened t r ∧ r.isOpen = true ∧ r.action = 1 ∧ r.retry = .pending ∧
          openRec t sub = some r ∧ t.patrol.latch = some r) ∧ bitOf t.host.notices.cause causeFault = true ∧
        t.patrol.retries = s.patrol.retries ++
          [{ source := q.source, unit := q.unit, level := q.level, detail := q.detail }] ∧
        t.patrol.ucCount = bump s.patrol.ucCount ∧ ChangesOnly [.patrol] s t) ∧
    ∀ e, openRec s sub = some e → sourceSub e.source = sub → q.cls = .ce → (e.source ≠ q.source ∨ e.unit ≠ q.unit) →
      Completes .collectorJudgement s fun t => t.patrol.arrived = [] ∧
        (∃ r, openRec t sub = some r ∧ r = { e with overflow := true, merged := min (e.merged + 1) 255,
                                                    lastSource := q.source,
                                                    cls := if classCode e.cls < 1 then .ce else e.cls }) ∧
        t.patrol.nextSeq = s.patrol.nextSeq ∧ ChangesOnly [.patrol] s t

/-- Verdicts, reactions and block resets (R433 to R437, R441 to R445): a lasting fault at L3 or L4 is contained at once
(Table 15.8) and its record awaits a reaction; a lasting element is marked, and a transient L3 unit enters its quiet period,
at whose end a recovery is counted. The default reaction CONTAIN at the timer's end, or the one that SET_REACTION chooses,
closes the record. A block reset opens its shadow, one of Glide waits for its slot, and the shadow's close ends it, with the
Gates downstream extended. CLEAR_FAULT with MODE 2 releases the latch.
Model's choices: assumptions 77, 78, 82, 83, 84. -/
def Obligations.VerdictsReactionsAndResets : Prop :=
  (∀ (p : PendingRetry) (r : FaultRecord) (s : State),
    let sub := sourceSub p.source
    let l4 := sourceL4 p.source
    openRec s sub = some r → sourceSub r.source = sub → r.cls = .uc →
    (3 ≤ p.level → p.level ≤ 4 → sub = 0x02 ∨ sub = 0x04 ∧ l4 < 26 ∨ sub = 0x05 ∧ l4 < 26 ∨ sub = 0x11 ∧ l4 < 8 →
      let t := lasting p s
      (∃ x, openRec t sub = some x ∧ 4 ≤ x.level ∧ x.retry = .lasting ∧ x.cls = .uc ∧ x.source = r.source ∧
        x.awaitingFrom = some (r.awaitingFrom.getD (now s)) ∧ 4 ≤ x.action) ∧
      t.patrol.lastingCount = bump s.patrol.lastingCount ∧
      (sub = 0x02 → bitOf t.time.disabled l4 = true) ∧ (sub = 0x04 → (source t l4).state = .absent) ∧
      (sub = 0x05 → (sourceTrust t l4).trust = .excluded) ∧ (sub = 0x11 → (vget t.memory.channels l4).fenced = true)) ∧
    (p.level = 2 → tableStore p.source p.unit = false → (marksOf s p.source).length + 1 ≤ markLimit s → r.source = p.source → r.unit = p.unit →
      r.shadow = false → let t := lasting p s
      { source := p.source, unit := p.unit, detail := p.detail } ∈ t.patrol.marks ∧ openRec t sub = none) ∧
    (p.level = 3 → r.source = p.source → r.unit = p.unit → r.shadow = false → let t := transient p s
      { source := p.source, unit := p.unit, since := now s } ∈ t.patrol.quiet ∧ openRec t sub = none ∧
      t.patrol.transientCount = bump s.patrol.transientCount)) ∧
  (∀ (src unit : Nat) (q : QuietUnit) (s : State), awake s = true →
    s.patrol.quiet.find? (fun q => q.source == src && q.unit == unit) = some q → q.since + quietMs s * msUnits ≤ now s →
    (∀ c ∈ s.patrol.recoveries, c.source = src → c.unit ≠ unit) → 1 ≤ recoveryMax s →
    Completes (.quietPeriodExpiry src unit) s fun t => (∀ x ∈ t.patrol.quiet, x.source = src → x.unit ≠ unit) ∧
      { source := src, unit := unit, at_ := [now s] } ∈ t.patrol.recoveries ∧ t.patrol.opens = s.patrol.opens ∧
      ChangesOnly [.patrol] s t) ∧
  (∀ (sub : Nat) (r : FaultRecord) (since : Dts) (s : State), openRec s sub = some r → sourceSub r.source = sub →
    r.cls = .uc → r.shadow = false → r.awaitingFrom = some since → sub ≠ 0x0F →
    (awake s = true → since + fld (setting s 0x0C03 0) 0 24 * usUnits ≤ now s → defaultReaction r.source = 1 →
      Completes (.reactionTimerExpiry sub) s fun t => openRec t sub = none ∧ ChangesOnly [.patrol] s t) ∧
    ∀ (k : CmdKey) (c : Cmd), Ready k 0x0C02 s c → fld c.params 0 5 = sub → dtsLow r.firstDts % 2 ^ 32 = fld c.params 32 32 →
      fld c.params 8 8 = 1 → resetAsked s k = false → Completes (.setReaction k) s fun t => Replied c stDone 0 [] s t ∧
        openRec t sub = none ∧ (∀ x ∈ t.patrol.log, x.logSeq = r.logSeq → x.host = true ∧ x.isOpen = false) ∧
        ChangesOnly [.flight, .reply, .patrol] s t) ∧
  (∀ (k : CmdKey) (c : Cmd) (s : State), Ready k 0x0105 s c → resetAsked s k = false → shadowOpen s (fld c.params 0 8) = false →
    s.patrol.resetsWaiting = [] → s.glide.blockResetDue = none →
    (∀ e, openRec s (fld c.params 0 8) = some e → sourceSub e.source = fld c.params 0 8) →
    ([0x03, 0x04, 0x05, 0x06, 0x08, 0x09, 0x0B, 0x0E].contains (fld c.params 0 8) = true → Completes (.resetSubsystem k) s fun t =>
      { subsystem := fld c.params 0 8, since := now s, by_ := some k } ∈ t.patrol.shadows ∧ (flightOf k t).isSome = true ∧
      (∃ r, openRec t (fld c.params 0 8) = some r ∧ 6 ≤ r.action ∧ r.shadow = true)) ∧
    (fld c.params 0 8 = 0x0A → ticking s = true → Completes (.resetSubsystem k) s fun t =>
      t.glide.blockResetDue = some (some k) ∧ t.patrol = s.patrol ∧ t.host.flight = s.host.flight ∧ ChangesOnly [.glide] s t)) ∧
  (∀ (key : Option CmdKey) (s : State), awake s = true → s.glide.blockResetDue = some key → ticking s = true →
    s.time.openTick = none → s.time.nextTick ≠ s.time.cutoff →
    (now s < s.safety.formedInstant + 400 * usUnits → Completes .glideBlockReset s fun t => ChangesOnly [] s t) ∧
    (s.safety.formedInstant + 400 * usUnits ≤ now s → Completes .glideBlockReset s fun t => t.glide.blockResetDue = none ∧
      { subsystem := 0x0A, since := now s, by_ := key } ∈ t.patrol.shadows)) ∧
  (∀ (sub : Nat) (since : Dts) (s : State), awake s = true → s.patrol.resetsWaiting = [] →
    s.patrol.shadows = [{ subsystem := sub, since := since, by_ := none }] → sub ≠ 0x0B → openRec s sub = none →
    Completes (.blockResetComplete sub) s fun t => t.patrol.shadows = [] ∧
      t.patrol.wires = s.patrol.wires ∧
      (∀ q, sourceSub q.source = sub → since ≤ q.at_ → q.at_ < now s → shadowMasks t q = shadowMasks s q) ∧
      (∀ g ∈ gatesAfter sub, (gate t g).extendNext = true) ∧ ChangesOnly [.patrol, .safety] s t) ∧
  ∀ (k : CmdKey) (c : Cmd) (s : State), Ready k 0x0C01 s c → fld c.params 0 8 = 2 → Completes (.clearFault k) s fun t =>
    Replied c stDone 0 [] s t ∧ t.patrol = { s.patrol with latch := none } ∧ ChangesOnly [.flight, .reply, .patrol] s t

/-! ## Chapter 16: functional safety -/

/-- The safe state (R57, R454, R456 to R460): ENTER_SAFE drives SAFE_A, SAFE_B and FAULT_N low at once, leaves its FA report
and the marker that the next RESTART record shows, and alone of the commands not permitted in SAFE ends DONE. The two pins
toggle in antiphase every 25,000 counts; a lost reference stops them and drives FAULT_N low. In SAFE the first message is
repeated 1 ms apart, each copy with the next MSG_SEQ; its payload is 64 bytes and ends in its CRC-32C.
Model's choices: assumptions 31, 87, 88, 152. -/
def Obligations.SafeStateIsSignalled : Prop :=
  (∀ (k : CmdKey) (c : Cmd) (s : State), Ready k 0x0D04 s c → s.dev.state ≠ .safe → s.host.flight = [c] →
    (countNow s < c.takeUp + countsPerUs → Completes (.enterSafe k) s fun t => ChangesOnly [] s t) ∧
    (c.takeUp + countsPerUs ≤ countNow s → Completes (.enterSafe k) s fun t => t.dev.state = .safe ∧ t.dev.posture = none ∧
      t.safety.safeA = false ∧ t.safety.safeB = false ∧ t.safety.toggling = false ∧ t.safety.faultN = true ∧
      t.security.retention.safeMarker = true ∧ t.host.flight = [] ∧
      ReplySent (replyPacket c.key.ver c.rawOp c.key.tag stDone 0 true c.ordered []) s t ∧
      t.safety.repeatFrom = timeAt s.time (BitVec.ofNat 72 c.takeUp) + 20 * usUnits ∧
      ∃ r ∈ t.patrol.wires, r.source = safetyFault 7 0 ∧ r.cls = .fa ∧ r.level = 6 ∧ r.detail = fld c.params 0 16)) ∧
  (∀ s : State, awake s = true → s.safety.toggling = true → s.pins.refclk = true →
    (s.safety.lastToggle + 25000 ≤ countNow s → Completes .safeSignalToggle s fun t => t.safety = { s.safety with
      safeA := !s.safety.safeA, safeB := s.safety.safeA, lastToggle := countNow s } ∧ ChangesOnly [.safety] s t) ∧
    (countNow s < s.safety.lastToggle + 25000 → Completes .safeSignalToggle s fun t => ChangesOnly [] s t)) ∧
  (∀ s : State, s.pins.refclk = true → inReset s = false → Completes .referenceClockLoss s fun t =>
    t.pins = { s.pins with refclk := false } ∧ t.safety = { s.safety with toggling := false, faultN := true } ∧
    (∃ r, t.patrol.wires = s.patrol.wires ++ [r] ∧ r.source = safetyFault 0 3 ∧ r.cls = .fa ∧ r.level = 5) ∧
    ChangesOnly [.pins, .safety, .patrol] s t) ∧
  (∀ (p : Nat) (s : State), awake s = true → s.dev.state = .safe → s.safety.repeatsLeft ≠ 0 →
    s.safety.repeatFrom ≤ now s → safeTransport s = 2 → fld (safeBlock s) 8 6 = 2 ^ p → p < 6 → FreeForEvents p s →
    Completes .safeMsgRepeat s fun t => t.safety = { s.safety with
        repeatsLeft := s.safety.repeatsLeft - 1, repeatFrom := now s + msUnits,
        msgSeq := (s.safety.msgSeq + 1) % 2 ^ 32 } ∧
      FrameLeft p (fld (safeBlock s) 208 48) (.safeUdp (fld (safeBlock s) 144 16) (fld (safeBlock s) 160 16) (portIpv4 s p)
        (fld (safeBlock s) 176 32) (safePayload 1 s)) s t ∧ ChangesOnly [.safety, .tx, .ports] s t) ∧
  ∀ (kind : Nat) (s : State), kind < 256 → let b := safePayload kind s
    b.length = 64 ∧ b.drop 60 = bytesOfNatBE 4 (crc32c (b.take 60)) ∧ natOfBytesBE (b.take 2) = 1 ∧
    natOfBytesBE (slice b 2 1) = kind ∧ (s.safety.msgSeq < 2 ^ 32 → natOfBytesBE (slice b 4 4) = s.safety.msgSeq) ∧
    (s.safety.resultCrc < 2 ^ 32 → natOfBytesBE (slice b 28 4) = s.safety.resultCrc)

/-- Injection, Gates, monitors, slices and the Groomer (R463, R466, R468 to R472, R476 to R478): an injected report is marked
INJECTED, is logged but neither latched nor made an open record, and the reply carries its record and latency; without a
report in 1 ms the record and the latency are zero and all ones, with a UC. A Gate that closes without its kick and a step
beyond its limit are UCs. A test cycle begins 45 ms after the one before, and a slice holds the next image phase 150 µs. A
due test pattern gives way to a frame in progress; its signature passes, or is a UC that makes the receiver's frames count
as damaged. Model's choices: assumptions 71, 85, 86, 89. -/
def Obligations.CheckersAreTested : Prop :=
  (∀ (k : CmdKey) (c : Cmd) (cls : FaultClass) (level : Nat) (s : State), Ready k 0x0D03 s c → s.safety.injection = none →
    injectedFault (fld c.params 0 12) (fld c.params 12 6) (fld c.params 20 4) = some (cls, level) →
    Completes (.injectFault k) s fun t =>
      (∃ r, t.patrol.wires = s.patrol.wires ++ [r] ∧ r.injected = true ∧ r.source = fld c.params 0 12 ∧
        r.unit = fld c.params 12 6 ∧ r.cls = cls ∧ r.level = level ∧ now s ≤ r.at_ ∧
        r.at_ ≤ now s + reportLimit (fld c.params 0 12) (fld c.params 20 4) * nsUnits) ∧
      (∃ x, t.safety.injection = some x ∧ x.key = k ∧ x.source = fld c.params 0 12 ∧ x.unit = fld c.params 12 6 ∧
        x.at_ = now s) ∧ t.host.flight = s.host.flight ∧ ChangesOnly [.patrol, .safety, .freeCount] s t) ∧
  (∀ (x : Injection) (c : Cmd) (s : State), awake s = true → s.safety.injection = some x → flightOf x.key s = some c →
    (∀ q : Report, s.patrol.arrived = [q] → q.kind = .detection → q.injected = true → q.source = x.source →
      q.unit = x.unit → s.patrol.pointerFault = none → s.patrol.judgedTo ≤ q.at_ / usUnits * usUnits →
      q.at_ / usUnits * usUnits + 3 * usUnits ≤ now s → Completes .collectorJudgement s fun t =>
        Replied c stDone 0 (recordBytes (newRecord q) ++ bytesOfNat 4 ((q.at_ - x.at_) / nsUnits)) s t ∧
        t.safety = { s.safety with injection := none } ∧ t.patrol.latch = s.patrol.latch ∧ t.patrol.opens = s.patrol.opens ∧
        t.patrol.retries = s.patrol.retries ∧ t.patrol.nextSeq = (s.patrol.nextSeq + 1) % 2 ^ 32 ∧
        ChangesOnly [.flight, .reply, .safety, .patrol] s t) ∧
    (x.at_ + msUnits ≤ now s → s.patrol.arrived.any (fun r => r.injected) = false →
      Completes .injectFaultReportTimeout s fun t => Replied c stDone 0 (zeros 16 ++ bytesOfNat 4 0xFFFFFFFF) s t ∧
        t.safety = { s.safety with injection := none } ∧ (∃ r ∈ t.patrol.wires, r.source = safetyFault 3 0 ∧ r.cls = .uc ∧
          r.level = 4 ∧ r.detail = x.source * 2 ^ 11 + x.unit * 2 ^ 5) ∧ ChangesOnly [.flight, .reply, .safety, .patrol] s t)) ∧
  (∀ (g : Nat) (w : GateWindow) (s : State), awake s = true → inRun s = true → g < 2 →
    (gate s g).armed.find? (fun w => decide (w.closes < gateClock s g)) = some w → Completes (.gateWindowExpiry g) s fun t =>
      (gate t g).misses = bump (gate s g).misses ∧ (gate t g).consecutive = (gate s g).consecutive + 1 ∧
      (∀ v ∈ (gate t g).armed, v.key ≠ w.key) ∧ (∃ r, t.patrol.wires = s.patrol.wires ++ [r] ∧
        r.source = safetyFault 1 g ∧ r.cls = .uc ∧ r.level = 4) ∧ ChangesOnly [.safety, .patrol] s t) ∧
  (∀ (tile : Nat) (s : State), awake s = true → tile < 49 → inRun s = true → s.rink.frame ≠ none →
    Completes (.taskMonitorExpiry tile) s fun t => t.safety.taskOverruns = bump s.safety.taskOverruns ∧
      (∃ r, t.patrol.wires = s.patrol.wires ++ [r] ∧ r.source = safetyFault 2 1 ∧ r.cls = .uc ∧ r.level = 4) ∧
      ChangesOnly [.safety, .patrol] s t) ∧
  (∀ s : State, awake s = true → sliceTested s = true →
    ((s.safety.cycleFrom = none ∨ ∃ b, s.safety.cycleFrom = some b ∧ b + 45 * msUnits ≤ now s ∧ 12 ≤ s.safety.slicesDone) →
      Completes .testCycleBegin s fun t => t.safety = { s.safety with
        cycleFrom := some (now s), slicesDone := 0, debtPaid := false } ∧ ChangesOnly [.safety] s t) ∧
    ∀ d, s.safety.cycleFrom ≠ none → s.safety.slicesDone < 11 → slack s = some d →
      (170 * usUnits < d → Completes .testSliceStart s fun t => t.safety.slicesDone = s.safety.slicesDone + 1 ∧
        t.safety.slicesRun = bump s.safety.slicesRun ∧ t.safety.imageNotBefore = some (now s + 150 * usUnits) ∧
        ChangesOnly [.safety] s t) ∧
      (d ≤ 170 * usUnits → Completes .testSliceStart s fun t => ChangesOnly [] s t)) ∧
  ∀ (r : Nat) (s : State), awake s = true → r < 8 →
    (∀ a, (groomer s r).dueFrom = some a → (groomer s r).injecting = false →
      a + fld (groomerBlock s r) 64 16 * usUnits ≤ now s →
      ((receiver s r).frame = none → Completes (.groomerInjection r) s fun t => (groomer t r).injecting = true ∧
        (groomer t r).notRun = (groomer s r).notRun ∧ ChangesOnly [.safety] s t) ∧
      ((receiver s r).frame ≠ none → Completes (.groomerInjection r) s fun t => (groomer t r).injecting = false ∧
        (groomer t r).notRun = bump (groomer s r).notRun ∧ (groomer t r).notRunRun = (groomer s r).notRunRun + 1 ∧
        ((groomer s r).notRunRun = 15 → (groomer s r).check = .groomer → (groomer t r).check ≠ .groomer) ∧
        ChangesOnly [.safety, .patrol] s t)) ∧
    ((groomer s r).injecting = true →
      (Completes (.groomerInjectionEnd r true) s fun t => (groomer t r).passed = bump (groomer s r).passed ∧
        (groomer t r).injecting = false ∧ (groomer t r).distrust = false ∧ (groomer t r).notRunRun = 0 ∧
        (groomer t r).check = .groomer ∧ ChangesOnly [.safety, .patrol] s t) ∧
      Completes (.groomerInjectionEnd r false) s fun t => (groomer t r).distrust = true ∧ (groomer t r).injecting = false ∧
        (groomer t r).failRun = (groomer s r).failRun + 1 ∧ (∃ x, t.patrol.wires = s.patrol.wires ++ [x] ∧
          x.source = safetyFault 5 r ∧ x.cls = .uc ∧ x.level = 3) ∧
        (1 ≤ (groomer s r).failRun → (sourceTrust t r).trust = .excluded) ∧ ChangesOnly [.safety, .patrol, .align] s t)

/-! ## Chapter 17: manager and workers -/

/-- Atide frames (R483, R489 to R493, R495, R498, R499): the third sample, 2 µs after the second, fixes ROLE; a frame that fails a check is counted in
ATIDE_DISCARDED. A worker takes its manager's Rink offsets and pose entry, an ACK ends its set's wait, and a RESEND for its
kept set sends each named frame once more with a CE record. The manager keeps a worker's LIVE_TRACKS and counts good STATUS
frames, of which the tenth in a row makes it VALID; a VALID worker whose STATUS is not good becomes INVALID with a UC. The
frame that completes a set is acknowledged, another joins the open set. Model's choices: assumptions 90, 148. -/
def Obligations.AtideFramesAreTaken : Prop :=
  (∀ (v : Nat) (s : State), awake s = true → s.peers.role = none → v ≤ 3 →
    (countNow s < 2 * (s.peers.samples.length + 1) * countsPerUs → Completes (.roleSample v) s fun t => ChangesOnly [] s t) ∧
    (2 * (s.peers.samples.length + 1) * countsPerUs ≤ countNow s → s.peers.samples.length < 2 → Completes (.roleSample v) s fun t =>
      t.peers = { s.peers with samples := s.peers.samples ++ [v] } ∧ ChangesOnly [.peers] s t) ∧
    (6 * countsPerUs ≤ countNow s → s.peers.samples = [v, v] → Completes (.roleSample v) s fun t => t.peers.role = some v ∧
      (v = 3 → ∃ r, t.patrol.wires = s.patrol.wires ++ [r] ∧ r.source = sourceOf 0x0E 0 0 ∧ r.cls = .ce ∧ r.level = 5) ∧
      ChangesOnly [.peers, .patrol] s t)) ∧
  (∀ (f : AtideFrame) (s : State) (i : Instr), FrameTaken f.port f.head s → atideGood s f = false →
    i = .atidePoseAnchorReceived f ∨ i = .atideStatusReceived f ∨ i = .atideTracksReceived f ∨ i = .atideAckReceived f ∨
      i = .atideResendReceived f → Completes i s fun t =>
        t.peers = { s.peers with discarded := bump s.peers.discarded } ∧ ChangesOnly [.peers, .ports] s t) ∧
  ∀ (f : AtideFrame) (s : State), FrameTaken f.port f.head s → ticking s = true → atideGood s f = true →
    (isWorker s = true →
      (headType f = 1 → Completes (.atidePoseAnchorReceived f) s fun t =>
        t.align.rebaseX = spayField f 128 256 32 ∧ t.align.rebaseY = spayField f 128 224 32 ∧
        t.align.anchorSeq = payField f 128 176 16 ∧ t.peers.managerLost = false ∧ (peer t 0).lastSeen = now s ∧
        (s.peers.orders = [] → ∃ o, t.peers.orders = [o] ∧ o.instant = headInstant f ∧ o.centreX = spayField f 128 320 32 ∧
          o.centreY = spayField f 128 288 32) ∧
        (payField f 128 352 512 ≠ 0 → ∃ e ∈ t.align.history, e.time = dtsOf (payField f 128 864 96) ∧
          e.degradedEgo = bitOf (payField f 128 128 32) 3) ∧
        ChangesOnly [.ports, .peers, .align, .patrol] s t) ∧
      (headType f = 4 → Completes (.atideAckReceived f) s fun t =>
        (∀ k, s.peers.kept = some k → t.peers.kept = some (if k.instant = headInstant f then { k with acked := true } else k)) ∧
        ChangesOnly [.ports, .peers] s t) ∧
      ∀ k, headType f = 5 → s.peers.kept = some k → k.instant = headInstant f → k.resent = [] →
        payloadOf f = [1, 0, 0, 0, 0, 0] → k.frames ≠ [] → Idle (peerPort s 0) s →
        Completes (.atideResendReceived f) s fun t => (∃ l, t.peers.kept = some l ∧ l.resent = [0] ∧ l.answered = true) ∧
          FrameLeft (peerPort s 0) (peerMac s 0) (.atide (k.frames.getD 0 [])) s t ∧
          (peer t 0).resends = bump (peer s 0).resends ∧ (∃ r, t.patrol.wires = s.patrol.wires ++ [r] ∧
            r.source = sourceOf 0x0E 0 0 ∧ r.cls = .ce) ∧ ChangesOnly [.ports, .peers, .tx, .patrol] s t) ∧
    (isManager s = true → let d := headDevice f
      (headType f = 2 → (statusGood s d f = true → Completes (.atideStatusReceived f) s fun t =>
          (peer t d).goodRun = (peer s d).goodRun + 1 ∧ (peer t d).liveTracks = payField f 40 0 16 ∧
          (peer t d).lastSeen = now s ∧ (peer t d).phase = (if 9 ≤ (peer s d).goodRun then .valid else (peer s d).phase) ∧
          ChangesOnly [.ports, .peers, .patrol] s t) ∧
        (statusGood s d f = false → (peer s d).phase = .valid → Completes (.atideStatusReceived f) s fun t =>
          (peer t d).phase = .invalid ∧ (peer t d).goodRun = 0 ∧ (peer t d).regionValid = false ∧ (peer t d).isOpen = none ∧
          (peer t d).whole = [] ∧ (peer t d).lossEvents = bump (peer s d).lossEvents ∧
          (∃ r, t.patrol.wires = s.patrol.wires ++ [r] ∧ r.source = sourceOf 0x0E d 0 ∧ r.cls = .uc ∧ r.level = 4) ∧
          ChangesOnly [.ports, .peers, .patrol] s t)) ∧
      (headType f = 3 → (peer s d).isOpen = none → (∀ l, (peer s d).lastSet = some l → l < headInstant f) →
        let index := natOfBytesBE (slice (payloadOf f) 0 2)
        let count := natOfBytesBE (slice (payloadOf f) 2 2)
        (count = 1 → index = 0 → setLate s (headInstant f) = false → Idle (peerPort s d) s →
          Completes (.atideTracksReceived f) s fun t => (peer t d).isOpen = none ∧
            (∃ w, (peer t d).whole = (peer s d).whole ++ [w] ∧ w.instant = headInstant f ∧ w.entries = frameTracks d f ∧
              w.wholeAt = now s) ∧ FrameLeft (peerPort s d) (peerMac s d)
              (.atide (atideHeader s 4 0xFF 0xFF (headInstant f) (peer s d).txSeq 8 ++ packBE 8 [(48, 16, 1)])) s t ∧
            ChangesOnly [.ports, .peers, .tx] s t) ∧
        (index < count → 2 ≤ count → Completes (.atideTracksReceived f) s fun t =>
          (∃ o, (peer t d).isOpen = some o ∧ o.instant = headInstant f ∧ o.frames = [(index, frameTracks d f)] ∧
            o.frameCount = count) ∧ ChangesOnly [.ports, .peers] s t)))

/-- The waits of the multi-device subsystem (R495, R496, R499, R500): missing frames are asked for once and then cost the set;
a kept set without an answer is sent again; a whole set that waits two shortest spacings is late, and one whose frame the
manager has committed joins the pending updates. A worker silent for three ticks is LOST, as is a manager to its worker, each
with a UC. Model's choices: assumption 91. -/
def Obligations.AtideWaitsEnd : Prop :=
  (∀ (d : Nat) (o : OpenSet) (s : State), awake s = true → d < 16 → isManager s = true → ticking s = true →
    (peer s d).isOpen = some o →
    (o.resendAt = none → o.lastAt + 100 * usUnits ≤ now s ∨ o.firstAt + 500 * usUnits ≤ now s →
      Completes (.trackSetIncompleteTimeout d) s fun t => (peer t d).isOpen = some { o with resendAt := some (now s) } ∧
        (Idle (peerPort s d) s → ∃ b, FrameLeft (peerPort s d) (peerMac s d) (.atide b) s t) ∧
        ChangesOnly [.ports, .peers, .tx] s t) ∧
    (∀ r, o.resendAt = some r → r + 500 * usUnits ≤ now s → Completes (.trackSetIncompleteTimeout d) s fun t =>
      (peer t d).isOpen = none ∧ (peer t d).setsLost = bump (peer s d).setsLost ∧ (∃ r, t.patrol.wires = s.patrol.wires ++ [r] ∧
        r.source = sourceOf 0x0E d 0 ∧ r.cls = .ce) ∧ ChangesOnly [.peers, .patrol] s t)) ∧
  (∀ (k : KeptSet) (s : State), awake s = true → isWorker s = true → s.peers.kept = some k → k.acked = false →
    k.answered = false → k.lastAt + 500 * usUnits ≤ now s → k.resent = [] → k.frames ≠ [] → Idle (peerPort s 0) s →
    Completes .trackSetAckTimeout s fun t =>
      (∃ l, t.peers.kept = some l ∧ l.resent = List.range k.frames.length ∧ l.answered = true ∧ l.frames = k.frames) ∧
      FrameLeft (peerPort s 0) (peerMac s 0) (.atide (k.frames.getD 0 [])) s t ∧
      (ethPort t (peerPort s 0)).txQueue.map (fun x => x.what) = (k.frames.drop 1).map EthPayload.atide ∧
      ChangesOnly [.ports, .peers, .tx, .patrol] s t) ∧
  (∀ (d : Nat) (w : WholeSet) (s : State), awake s = true → inRun s = true → d < 16 → (peer s d).whole = [w] →
    (isManager s = true → w.wholeAt + 2 * shortestSpacing (effectiveRate s) * usUnits ≤ now s →
      Completes (.trackSetWaitTimeout d) s fun t => (peer t d).whole = [] ∧
        (peer t d).setsLate = satAdd 32 (peer s d).setsLate 1 ∧ ChangesOnly [.peers] s t) ∧
    (d ∈ enabledWorkers s → setLate s w.instant = true → Completes (.trackSetMerge d) s fun t => (peer t d).whole = [] ∧
      (peer t d).setsLate = satAdd 32 (peer s d).setsLate 1 ∧ t.glide = s.glide ∧ ChangesOnly [.peers] s t) ∧
    ∀ c, d ∈ enabledWorkers s → setLate s w.instant = false → mergeInstant s w.instant = some c → w.entries = [] →
      (∀ x ∈ s.glide.pending, x.worker ≠ none) → (∀ x ∈ s.glide.pending, x.key < s.solver.nextId) →
      Completes (.trackSetMerge d) s fun t => (peer t d).whole = [] ∧ t.glide.store = s.glide.store ∧
        (∃ u, t.glide.pending = s.glide.pending ++ [u] ∧ u.worker = some d ∧ u.instant = c ∧ u.finished = some (now s) ∧
          u.entries = [] ∧ ∀ m ∈ u.misses, ∃ x ∈ s.glide.store, x.index = m.1 ∧ x.sourceDevice = d) ∧
        ChangesOnly [.peers, .solver, .glide] s t) ∧
  (∀ (d : Nat) (s : State), awake s = true → ticking s = true → d ∈ enabledWorkers s → d < 16 →
    silentThree s (peer s d) = true → (peer s d).phase = .valid → Completes (.workerStatusTimeout d) s fun t =>
      (peer t d).phase = .lost ∧ (peer t d).regionValid = false ∧ (peer t d).lossEvents = bump (peer s d).lossEvents ∧
      (∃ r, t.patrol.wires = s.patrol.wires ++ [r] ∧ r.source = sourceOf 0x0E d 0 ∧ r.cls = .uc ∧ r.level = 4) ∧
      (bitOf t.dev.degradation 10 = true) ∧ ChangesOnly [.peers, .patrol] s t) ∧
  ∀ s : State, awake s = true → isWorker s = true → ticking s = true → silentThree s (peer s 0) = true →
    s.peers.managerLost = false → Completes .poseAnchorTimeout s fun t => t.peers.managerLost = true ∧
      (peer t 0).phase = .lost ∧ (peer t 0).lossEvents = bump (peer s 0).lossEvents ∧ bitOf t.dev.degradation 10 = true ∧
      (∃ r, t.patrol.wires = s.patrol.wires ++ [r] ∧ r.source = sourceOf 0x0E 0 0 ∧ r.cls = .uc ∧ r.level = 4) ∧
      ChangesOnly [.peers, .patrol] s t

/-! ## Chapter 18: power, clocks and postures -/

/-- Device states and postures (R83, R96, R505 to R510, R531): ENTER_RUN and SET_POSTURE begin a change, SET_POSTURE to the
posture in force ends at once; the completion takes over with the first tick at the next whole multiple of the tick period,
and no tile stays DORMANT in Drive. ENTER_SETUP ends ticks and tracks and drives the pins low. The entry into Standby ends
its stages: ticks and tracks, then every domain but the always-on island, with the time bridged at the wake.
Model's choices: assumptions 47, 92, 156, 158. -/
def Obligations.PosturesChange : Prop :=
  (∀ (k : CmdKey) (c : Cmd) (s : State), s.power.change = none →
    (Ready k 0x0102 s c → inSentry s = false → Completes (.enterRun k) s fun t =>
      t.power = { s.power with change := some { target := fld c.params 0 2, key := some k, since := now s } } ∧
      ChangesOnly [.power] s t) ∧
    (Ready k 0x0104 s c → postureCode s.dev.posture = fld c.params 0 2 → Completes (.setPosture k) s fun t =>
      Concluded c stDone 0 [] s t ∧ ChangesOnly [.flight] s t) ∧
    (Ready k 0x0104 s c → inRun s = true → fld c.params 0 2 = 3 → Completes (.setPosture k) s fun t =>
      t.power = { s.power with
        change := some { target := 3, key := some k, since := now s }, standby := some .commands, standbyFrom := now s,
        wakePosture := fld c.params 4 2, wakeWaiting := none } ∧ ChangesOnly [.power] s t) ∧
    (Ready k 0x0104 s c → s.dev.posture = some .drive → fld c.params 0 2 = 2 → Completes (.setPosture k) s fun t =>
      t.power.change = some { target := 2, key := some k, since := now s } ∧ ChangesOnly [.power] s t) ∧
    (Ready k 0x0103 s c → Completes (.enterSetup k) s fun t => t.dev.state = .setup ∧ t.dev.posture = none ∧
      t.time.nextTick = none ∧ t.time.openTick = none ∧ t.glide.store = [] ∧ t.align.sets = [] ∧ t.rink.frame = none ∧
      t.safety.safeA = false ∧ t.safety.safeB = false ∧ t.safety.toggling = false ∧
      ∃ d, flightOf k t = some d ∧ d.outcome = some { status := stDone, detail := 0, results := [] })) ∧
  (∀ (failed : List Nat) (c : PostureChange) (s : State), awake s = true → s.power.change = some c → s.rink.frame = none →
    postureCode s.dev.posture ≠ c.target →
    (tilesPowered c s = false → Completes (.postureChangeComplete failed) s fun t => ChangesOnly [] s t) ∧
    (tilesPowered c s = true → c.target = 1 → Completes (.postureChangeComplete failed) s fun t => t.dev.state = .run ∧ t.dev.posture = some .drive ∧
      t.time.nextTick = some (nextMultiple msUnits (now s)) ∧ (∀ x, x < 49 → (vget t.rink.tiles x).role ≠ .dormant) ∧
      (s.dev.state = .setup → t.dev.firstValid = false ∧ t.align.anchorSet = true ∧ t.memory.exportRegion = [])) ∧
    (c.target = 2 → Completes (.postureChangeComplete failed) s fun t => t.dev.state = .run ∧ t.dev.posture = some .sentry ∧
      t.time.nextTick = some (nextMultiple (fld (setting s 0x0208 0) 0 8 * msUnits) (now s)))) ∧
  (∀ s : State, awake s = true →
    (s.power.standby = some .commands → s.power.standbyFrom + 50 * msUnits ≤ now s → s.rink.frame = none → Completes .standbyDrainTimeout s fun t =>
      t.power.standby = some .draining ∧ t.power.standbyFrom = now s ∧ t.time.nextTick = none ∧ t.glide.store = [] ∧
      t.safety.toggling = false ∧ t.safety.safeA = false ∧ t.safety.safeB = false ∧ t.align.sets = []) ∧
    (s.power.standby = some .draining → s.host.flight = [] → queuesEmpty s = true → s.power.wakeWaiting = none →
      Completes .standbyEntryComplete s fun t => t.power.standby = some .asleep ∧ t.time.running = false ∧ t.power.plls = 0 ∧
        t.security.retention.bridge = some (now s) ∧ t.time.bridgeFrom = now s ∧ t.memory.staging = [] ∧
        t.memory.exportRegion = [] ∧ t.align.history = [] ∧ awake t = false)) ∧
  (∀ (cause input periods : Nat) (rising : Bool) (s : State), inReset s = false → s.power.tripped = false →
    (wakeAllowed s cause input rising periods = false → Completes (.wakeEvent cause input rising periods) s fun t => ChangesOnly [] s t) ∧
    (wakeAllowed s cause input rising periods = true → s.power.standby = some .asleep → ∀ i : Instr,
      i = .wakeEvent cause input rising periods ∨ i = .wakeTimerExpiry periods ∧ cause = 3 → Completes i s fun t =>
        t.power.standby = none ∧ t.power.wakeCount = bump s.power.wakeCount ∧ t.power.wakeCause = cause ∧
        t.power.wakeInput = (if cause = 2 then input else 0xFF) ∧ t.time.running = true ∧
        t.power.lastWake = s.time.bridgeFrom + periods * (secUnits / 32768) ∧
        now t = s.time.bridgeFrom + periods * (secUnits / 32768) ∧
        ((s.power.faInStandby = true ∨ (selectImage 0 s).2 = none) → t.dev.state = .safe))) ∧
  ∀ s : State, awake s = true → s.dev.autoDue = true → s.dev.state = .setup → s.power.change = none →
    lifecycleDenies s 0x0102 = false →
    let a := { s with dev := { s.dev with autoDue := false } }
    (enterRefusal a s.security.autoRun = none → Completes .autoEnterRun s fun t => t.dev.autoDue = false ∧
      t.power.change = some { target := s.security.autoRun, key := none, since := now s }) ∧
    ∀ r, enterRefusal a s.security.autoRun = some r → Completes .autoEnterRun s fun t => t.dev.autoDue = false ∧
      t.power = s.power ∧ bitOf t.security.bootFlags 3 = true ∧ ∃ x, t.patrol.wires = s.patrol.wires ++ [x] ∧
        x.source = sourceOf 0x01 0 0 ∧ x.cls = .ce ∧ x.detail = r.1

/-- Sensors, throttle, supplies and clocks (R513 to R522, R564, R573): a bad sensor is a UC at L3 and leaves service, the
junction's coming to SHUTDOWN_C is fatal; in RUN a reading at THROTTLE_C lowers the rate by STEP_FPS each second, and RETRY_S
later its retry ends. The analog trip stops the device. A supply outside its range is fatal, one beyond the absolute maximum
is the model's fault, VDD_AON under its range powers the device on anew, and 1.72 V sets the inhibit, which clears after 10 ms
and ends a command that it held for 2 s. A lost PLL stops its domains, PLL_IO and PLL_CTL relock; an idle domain stops.
Model's choices: assumptions 7, 94, 95. -/
def Obligations.PowerIsGuarded : Prop :=
  (∀ (l : List Int) (s : State), awake s = true → l.length = 8 → (∀ n, n < 8 → readingBad l n = false) →
    s.power.excluded = 0 → s.patrol.quiet = [] → s.patrol.retries = [] → Completes (.thermalSensorRead l) s fun t =>
      (∀ n, n < 8 → tempOf t n = l.getD n 0) ∧ t.power.excluded = 0 ∧
      (atLeast s (shutdownC s) = false → (∃ x ∈ l, shutdownC s ≤ x) → ∃ r, t.patrol.wires = s.patrol.wires ++ [r] ∧
        r.cls = .fa ∧ r.level = 5 ∧ sourceSub r.source = 0x0F) ∧
      ((∀ x ∈ l, x < shutdownC s) → t.patrol = s.patrol) ∧ ChangesOnly [.power, .patrol] s t) ∧
  (∀ (l : List Int) (n : Nat) (s : State), awake s = true → l.length = 8 → n < 8 → readingBad l n = true →
    Completes (.thermalSensorRead l) s fun t => bitOf t.power.excluded n = true ∧
      (∃ r ∈ t.patrol.wires, r.source = thermalFault n ∧ r.cls = .uc ∧ r.level = 3) ∧ ChangesOnly [.power, .patrol] s t) ∧
  (∀ (n : Nat) (x : Int) (s : State), awake s = true → inRun s = true → hottest s = some (n, x) → s.power.held = false →
    now s / secUnits ≠ s.power.evaluated →
    (throttleC s ≤ x → s.power.throttleRate = 0 → Completes .throttleEvaluation s fun t =>
      t.power.throttleRate = max (ratedRate s - stepFps s) (floorFps s) ∧
      t.power.throttleEvents = bump s.power.throttleEvents ∧ t.power.evaluated = now s / secUnits ∧
      (∃ r, t.patrol.wires = s.patrol.wires ++ [r] ∧ r.source = thermalFault n ∧ r.cls = .uc ∧ r.level = 4) ∧
      ChangesOnly [.power, .patrol] s t) ∧
    (throttleC s ≤ x → s.power.throttleRate ≠ 0 → Completes .throttleEvaluation s fun t =>
      t.power.throttleRate = max (s.power.throttleRate - stepFps s) (floorFps s) ∧ ChangesOnly [.power] s t) ∧
    ∀ c, x < throttleC s → s.power.throttleRate ≠ 0 → s.power.coolFrom = some c →
      c + 5 * secUnits ≤ now s / secUnits * secUnits → Completes .throttleEvaluation s fun t =>
        t.power.throttleRate = (if ratedRate s ≤ s.power.throttleRate + stepFps s then 0
          else s.power.throttleRate + stepFps s) ∧ ChangesOnly [.power] s t) ∧
  (∀ (n : Nat) (s : State), awake s = true → (List.range 8).find? (fun n => pendingAt s (thermalFault n) 4) = some n →
    s.power.engagedAt + fld (limits s) 56 8 * secUnits ≤ now s → Completes .throttleRetry s fun t =>
      (∃ r, t.patrol.wires = s.patrol.wires ++ [r] ∧ r.source = thermalFault n ∧ r.level = 4 ∧
        (r.kind = .detection ↔ atLeast s (throttleC s) = true)) ∧ ChangesOnly [.patrol] s t) ∧
  (∀ s : State, inReset s = false → s.power.tripped = false → Completes .analogThermalTrip s fun t => t.power.tripped = true ∧
    t.safety.faultN = true ∧ t.safety.safeA = false ∧ t.safety.safeB = false ∧ t.time.running = false ∧ awake t = false ∧
    ChangesOnly [.power, .safety, .time, .patrol] s t) ∧
  (∀ (n : Nat) (mv : Int) (s : State), n ≤ 6 →
    (beyondRatings n mv = true → exec (.supplyMonitorCrossing n mv) s = .fault .beyondAbsoluteMaximum) ∧
    (beyondRatings n mv = false → awake s = true →
      (n = 2 → supplyUnder 2 mv = true → Completes (.supplyMonitorCrossing n mv) s fun t => t.dev.state = .boot ∧
        awake t = false ∧ t.patrol.log = [] ∧ t.pins.porstN = s.pins.porstN) ∧
      (n ≠ 6 → ¬ (n = 2 ∧ supplyUnder 2 mv = true) → supplyUnder n mv = true ∨ supplyOver n mv = true →
        bitOf s.power.outOfRange n = false → Completes (.supplyMonitorCrossing n mv) s fun t =>
          vget t.power.supplies n = mv.toNat ∧ bitOf t.power.outOfRange n = true ∧
          (∃ r, t.patrol.wires = s.patrol.wires ++ [r] ∧ r.source = supplyFault n ∧ r.cls = .fa ∧ r.level = 5) ∧
          ChangesOnly [.power, .security, .patrol] s t) ∧
      (n = 6 → mv < 1720 → nvInhibited s = false → Completes (.supplyMonitorCrossing n mv) s fun t => nvInhibited t = true ∧
        t.power.nvInhibitEvents = bump s.power.nvInhibitEvents ∧ (∀ w ∈ t.security.work, w.pausedAt ≠ none) ∧
        t.patrol = s.patrol ∧ ChangesOnly [.power, .security] s t))) ∧
  (∀ s : State, awake s = true →
    (∀ g, nvInhibited s = true → s.power.nvGoodFrom = some g → g + 10 * msUnits ≤ now s → Completes .nvInhibitClear s fun t =>
      nvInhibited t = false ∧ (∀ w ∈ t.security.work, w.pausedAt = none) ∧ ChangesOnly [.power, .security] s t) ∧
    ∀ (w : FlashWork) (c : Cmd) (p : Dts), s.security.work = [w] → w.pausedAt = some p → p + 2 * secUnits ≤ now s →
      flightOf w.key s = some c → Completes .nvPauseTimeout s fun t => Concluded c stSupplyLow 0 [] s t ∧
        t.security.work = [] ∧ ChangesOnly [.flight, .security] s t) ∧
  ∀ (n : Nat) (s : State), awake s = true →
    (n ≤ 4 → bitOf s.power.plls n = true → s.power.plls < 32 → Completes (.pllLockLoss n) s fun t =>
      bitOf t.power.plls n = false ∧ (∀ m, m ≠ n → bitOf t.power.plls m = bitOf s.power.plls m) ∧
      (∃ r, t.patrol.wires = s.patrol.wires ++ [r] ∧ r.source = pllFault n ∧ (r.cls = .fa ↔ n < 3) ∧
        (3 ≤ n → r.cls = .uc ∧ r.level = 4)) ∧ ChangesOnly [.power, .patrol] s t) ∧
    (n = 3 ∨ n = 4 → bitOf s.power.plls n = false → Completes (.pllRelock n) s fun t => bitOf t.power.plls n = true ∧
      (∀ m, m ≠ n → bitOf t.power.plls m = bitOf s.power.plls m) ∧ ChangesOnly [.power, .patrol] s t) ∧
    (∀ ack, s.power.pmbusDone = false → s.power.pmbusTries < 4 → countNow s < s.power.pmbusAt + 1000 * countsPerUs →
      Completes (.pmbusRetry ack) s fun t => ChangesOnly [] s t) ∧
    (∀ ack, s.power.pmbusDone = false → s.power.pmbusTries < 4 → s.power.pmbusAt + 1000 * countsPerUs ≤ countNow s →
      Completes (.pmbusRetry ack) s fun t =>
      t.tx = s.tx ++ [.pmbus 0x40 0 voutCommand] ∧ t.power = { s.power with
        pmbusTries := s.power.pmbusTries + 1, pmbusDone := ack, pmbusAt := countNow s } ∧
      (ack = false → s.power.pmbusTries = 3 → ∃ r, t.patrol.wires = s.patrol.wires ++ [r] ∧ r.source = supplyFault 0 ∧
        r.cls = .ce) ∧ ChangesOnly [.power, .tx, .patrol] s t) ∧
    Completes (.onDemandDomainStop n) s fun t =>
      t.power.onDemand = s.power.onDemand.filter (fun x => !(x.1 == n && decide (x.2 + 10 * msUnits ≤ now s))) ∧
      ChangesOnly [.power] s t

/-! ## Chapter 19: security and the journals -/

/-- Updates (R540 to R544, Table 19.11): an image in staging that fails its check ends BEGIN_UPDATE with VERIFY_FAILED and
nothing is erased; else an INVALIDATE record stands in the configuration journal, the slot that is not committed is WRITING,
and the committed slot stays committed. The flash steps then erase, program and read back, and end with the slot VERIFIED; a
status failure is retried once and then ends with stage 6 and an INVALID slot. COMMIT_UPDATE writes the COMMIT record of
Table 19.7, the slot becomes PENDING and is the committed one. SAVE_CONFIG raises CONFIG_SEQ and writes journal and
retention. An inhibit pauses each before it writes. Model's choices: assumptions 21, 99. -/
def Obligations.UpdatesGoSlotBySlot : Prop :=
  let paused (k : CmdKey) (s t : State) : Prop := t.security.work = s.security.work ++
    [{ key := k, stage := 0, pausedAt := some (now s), retried := false, image := [] }] ∧ ChangesOnly [.security] s t
  let unpaused (k : CmdKey) (s : State) : Prop := ∀ w ∈ s.security.work, w.key ≠ k
  let journal (t : State) := t.security.configJournal.records
  let kept (c : Cmd) (s : State) : SavedConfig :=
    ⟨(s.security.configSeq + 1) % 2 ^ 32, fld c.params 0 2, configSettings s, bulkNames s⟩
  (∀ (k : CmdKey) (c : Cmd) (s : State), Ready k 0x1001 s c → unpaused k s → fld c.params 0 8 ≤ 1 →
    let kind := fld c.params 0 8
    let n := fld c.params 64 32
    let img := cellsGet s.memory.staging (fld c.params 32 32) n
    (∀ f, imageFault s kind img n = some f → Completes (.beginUpdate k) s fun t =>
      Concluded c stVerifyFailed (f.1 * 256 + f.2 % 256) [] s t ∧ t.security.slots = s.security.slots ∧
      journal t = journal s ∧ ChangesOnly [.flight, .security] s t) ∧
    (imageFault s kind img n = none → nvInhibited s = true → Completes (.beginUpdate k) s fun t => paused k s t) ∧
    (imageFault s kind img n = none → nvInhibited s = false → s.security.configJournal.used + 32 ≤ 65536 →
      Completes (.beginUpdate k) s fun t =>
        journal t = journal s ++ [(s.security.configJournal.sector, (⟨s.security.configSeqNext, 0x13,
          [BitVec.ofNat 8 kind, BitVec.ofNat 8 (targetSlot s kind)] ++ zeros 6⟩ : JournalRecord))] ∧
        flashSlot t kind (targetSlot s kind) = { state := .writing, image := [] } ∧
        (∀ x y, x ≤ 1 → y ≤ 1 → (x, y) ≠ (kind, targetSlot s kind) → flashSlot t x y = flashSlot s x y) ∧
        committedSlot t kind = committedSlot s kind ∧
        { key := k, stage := 3, pausedAt := none, retried := false, image := img } ∈ t.security.work ∧
        ChangesOnly [.security, .power] s t)) ∧
  (∀ (w : FlashWork) (c : Cmd) (s : State), awake s = true → s.security.work = [w] → w.pausedAt = none → w.stage ≠ 0 →
    flightOf w.key s = some c → fld c.params 0 8 ≤ 1 →
    let kind := fld c.params 0 8
    let target (t : State) : FlashSlot := flashSlot t kind (targetSlot s kind)
    (w.retried = false →
      (w.stage = 3 → Completes (.flashOperationComplete false) s fun t =>
        t.security.work = [{ w with stage := 4 }] ∧ ChangesOnly [.security, .power] s t) ∧
      (w.stage = 4 → Completes (.flashOperationComplete false) s fun t => t.security.work = [{ w with stage := 5 }] ∧
        (target t).image = w.image ∧ ChangesOnly [.security, .power] s t) ∧
      (w.stage = 5 → imageFault s kind w.image w.image.length = none → Completes (.flashOperationComplete false) s fun t =>
        t.security.work = [] ∧ (target t).state = .verified ∧ Concluded c stDone 0 [] s t ∧
        ChangesOnly [.flight, .security, .power] s t) ∧
      Completes (.flashOperationComplete true) s fun t => t.security.work = [{ w with retried := true }] ∧
        (∃ r, t.patrol.wires = s.patrol.wires ++ [r] ∧ r.source = securityFault 0 ∧ r.cls = .uc ∧ r.level = 4) ∧
        ChangesOnly [.security, .power, .patrol] s t) ∧
    (w.retried = true → Completes (.flashOperationComplete true) s fun t => t.security.work = [] ∧
      (target t).state = .invalid ∧ Concluded c stVerifyFailed 0x600 [] s t ∧
      ChangesOnly [.flight, .security, .power, .patrol] s t)) ∧
  (∀ (k : CmdKey) (c : Cmd) (s : State), Ready k 0x1002 s c → unpaused k s → fld c.params 0 8 ≤ 1 →
    let kind := fld c.params 0 8
    let a := targetSlot s kind
    let img := (flashSlot s kind a).image
    (nvInhibited s = true → Completes (.commitUpdate k) s fun t => paused k s t) ∧
    (nvInhibited s = false → (∀ x ∈ journal s, x.2.seq < s.security.configSeqNext) → img.length < 2 ^ 32 →
      Completes (.commitUpdate k) s fun t => Concluded c stDone 0 [] s t ∧ flashSlot t kind a = { state := .pending, image := img } ∧
        committedSlot t kind = some a ∧ committedSinceReset t kind = true ∧
        (∃ x ∈ journal t, x.2.type = 0x12 ∧ x.2.seq = s.security.configSeqNext ∧ fld x.2.payload 0 8 = kind ∧
          fld x.2.payload 8 8 = a ∧ fld x.2.payload 96 32 = img.length ∧
          fld x.2.payload 128 256 = (Config.sha256 img).toNat) ∧
        ChangesOnly [.flight, .security, .power] s t)) ∧
  ∀ (k : CmdKey) (c : Cmd) (s : State), Ready k 0x0108 s c → unpaused k s →
    (nvInhibited s = true → Completes (.saveConfig k) s fun t => paused k s t) ∧
    (nvInhibited s = false → (∀ x ∈ journal s, x.2.seq < s.security.configSeqNext) →
      s.security.configSeqNext + 17 < 2 ^ 32 → Completes (.saveConfig k) s fun t => Concluded c stDone 0 [] s t ∧
      t.security.configSeq = (s.security.configSeq + 1) % 2 ^ 32 ∧ t.security.autoRun = fld c.params 0 2 ∧
      t.security.retention.config = some (kept c s) ∧
      (∃ x ∈ journal t, x.2.type = 0x10 ∧ x.2.payload = configPayload (kept c s)) ∧
      ChangesOnly [.flight, .security, .power] s t)

/-- Keys, life cycle, attestation and journals (R517, R537 to R539, R546 to R548, R550): REVOKE_KEY revokes one slot;
SET_LIFECYCLE reaches PRODUCTION with the slots of KEY_MASK programmed, RETURNED only under an authorisation that verifies.
JTAG is refused and counted where Table 19.8 gives no access. ATTEST spends the next index, of a block that stands reserved,
and writes 7,896 bytes at its offset, the report body first; an index whose signature fails is discarded for the next.
READ_JOURNAL copies whole records in ascending SEQ from FROM_SEQ on, up to the first that would pass MAX_BYTES; the oldest
buffered record goes to flash unless the inhibit holds it. Model's choices: assumptions 20, 99, 153, 155. -/
def Obligations.KeysAttestationAndJournals : Prop :=
  let returned (s : State) : Bytes := bytesOfNat 8 Config.deviceUid.toNat ++ bytesOfNat 8 s.security.returnNonce
  let attested (c : Cmd) (q : Nat) (s t : State) : Prop :=
    let body := attestBody s (fld c.params 0 256) q
    let off := fld c.params 256 32
    Concluded c stDone 0 [] s t ∧ t.security.nextIndex = q + 1 ∧ t.security.openBlock = some (q / 64) ∧
    cellsGet t.memory.staging off 7896 = body ++ bytesOfNat 60 Config.hssPublicKey.toNat ++
      bytesOfNat 2568 Config.certificate.toNat ++ bytesOfNat 5076 (Config.hssSign q body).toNat ∧
    ∀ a, a < off ∨ off + 7896 ≤ a → cellAt t.memory.staging a = cellAt s.memory.staging a
  (∀ (k : CmdKey) (c : Cmd) (s : State), Ready k 0x1004 s c → Completes (.revokeKey k) s fun t =>
    Concluded c stDone 0 [] s t ∧
    (∀ i, i < 4 → vget t.security.keys i = (if i = fld c.params 0 2 then { vget s.security.keys i with revoked := true }
      else vget s.security.keys i)) ∧ ChangesOnly [.flight, .security, .power] s t) ∧
  (∀ (k : CmdKey) (c : Cmd) (s : State), Ready k 0x1006 s c →
    (fld c.params 0 8 = 2 → Completes (.setLifecycle k) s fun t => Concluded c stDone 0 [] s t ∧ t.security.lifeCycle = 2 ∧
      (∀ i, i < 2 → vget t.security.keys (2 + i) = (if bitAt c.params (64 + i) then { vget s.security.keys (2 + i) with
          programmed := true, hash := fld c.params (128 + 256 * i) 256 } else vget s.security.keys (2 + i)) ∧
        vget t.security.keys i = vget s.security.keys i) ∧ ChangesOnly [.flight, .security, .power] s t) ∧
    (fld c.params 0 8 = 3 → signatureGood s (returned s) (c.params.drop 8) = false → Completes (.setLifecycle k) s fun t =>
      Concluded c stVerifyFailed 512 [] s t ∧ ChangesOnly [.flight] s t) ∧
    (fld c.params 0 8 = 3 → signatureGood s (returned s) (c.params.drop 8) = true → Completes (.setLifecycle k) s fun t =>
      Concluded c stDone 0 [] s t ∧ t.security.lifeCycle = 3 ∧
      (∀ i, i < 2 → vget t.security.keys (2 + i) = { vget s.security.keys (2 + i) with revoked := true } ∧
        vget t.security.keys i = vget s.security.keys i) ∧ ChangesOnly [.flight, .security, .power] s t)) ∧
  (∀ (full : Bool) (s : State), awake s = true →
    let open_ := s.security.lifeCycle = 3 ∨ s.dev.state = .setup ∧ (full = true → s.security.lifeCycle ≤ 1)
    (open_ → Completes (.jtagAccess full) s fun t => ChangesOnly [] s t) ∧
    (s.security.lifeCycle < 3 → ticking s = true ∨ full = true ∧ s.security.lifeCycle = 2 → Completes (.jtagAccess full) s fun t =>
      t.security = { s.security with debugDenied := bump s.security.debugDenied } ∧ ChangesOnly [.security] s t)) ∧
  (∀ (k : CmdKey) (c : Cmd) (s : State), Ready k 0x1003 s c → nvInhibited s = false → (∀ w ∈ s.security.work, w.key ≠ k) →
    cellsWf s.memory.staging = true →
    let q := nextIndexOf s
    let good (q : Nat) : Bool := Config.hssGood q (attestBody s (fld c.params 0 256) q)
    (good q = true → Completes (.attest k) s fun t => attested c q s t ∧
      (s.security.openBlock ≠ some (q / 64) → t.security.retention.indexBlock = q / 64 + 1 ∧
        ((∀ x ∈ s.security.indexJournal.records, x.2.seq < s.security.indexSeqNext) →
          ∃ x ∈ t.security.indexJournal.records, x.2.type = 0x20 ∧ x.2.seq = s.security.indexSeqNext ∧
            x.2.payload = bytesOfNat 4 (q / 64) ++ zeros 12)) ∧
      ChangesOnly [.flight, .security, .power, .memory] s t) ∧
    (good q = false → q % 64 ≠ 63 → q + 1 < 1048576 → good (q + 1) = true → Completes (.attest k) s fun t =>
      attested c (q + 1) s t ∧ (∃ r ∈ t.patrol.wires, r.source = securityFault 1 ∧ r.cls = .uc) ∧
      ChangesOnly [.flight, .security, .power, .memory, .patrol] s t)) ∧
  (∀ (k : CmdKey) (c : Cmd) (s : State), Ready k 0x1005 s c → cellsWf s.memory.staging = true → Completes (.readJournal k) s fun t =>
    let j := fld c.params 0 8
    let off := fld c.params 64 32
    let room := fld c.params 96 32
    let all := ((journalRecords s j).sortBy (fun a b => decide (a.seq ≤ b.seq))).filter (fun r => decide (fld c.params 32 32 ≤ r.seq))
    let size (l : List JournalRecord) : Nat := (l.map recordSpan).sum
    ∃ n, n ≤ all.length ∧ size (all.take n) ≤ room ∧ (n < all.length → room < size (all.take (n + 1))) ∧
      let rs := all.take n
      let bytes := rs.flatMap (recordFlash j)
      Concluded c stDone 0 (bytesOfNat 4 ((rs.head?.map (fun r => r.seq)).getD 0) ++
        bytesOfNat 4 ((rs.getLast?.map (fun r => r.seq)).getD 0) ++ bytesOfNat 4 n ++ bytesOfNat 4 bytes.length) s t ∧
      cellsGet t.memory.staging off bytes.length = bytes ∧
      (∀ a, a < off ∨ off + bytes.length ≤ a → cellAt t.memory.staging a = cellAt s.memory.staging a) ∧
      ChangesOnly [.flight, .power, .memory] s t) ∧
  ∀ (r : JournalRecord) (rest : List JournalRecord) (s : State), awake s = true → s.security.retention.buffer = r :: rest →
    (nvInhibited s = true → Completes .journalRecordWrite s fun t => ChangesOnly [] s t) ∧
    (nvInhibited s = false → Completes .journalRecordWrite s fun t => t.security.retention.buffer = rest ∧
      (∃ n, (n, r) ∈ t.security.eventJournal.records) ∧
      (∀ x ∈ t.security.eventJournal.records, x ∈ s.security.eventJournal.records ∨ x.2 = r) ∧
      (s.security.eventJournal.used + recordSpan r ≤ 65536 → t.security.eventJournal = { s.security.eventJournal with
        records := s.security.eventJournal.records ++ [(s.security.eventJournal.sector, r)],
        used := s.security.eventJournal.used + recordSpan r }) ∧ ChangesOnly [.security, .power] s t)

/-! ## Chapter 20: resets and pins -/

/-- Resets (R33, R59, R83, R259, R430, R457, R525, R526, R528, R565, R566, R568): a reset pulse of 1 µs or more ends what ran,
without a reply, and raises EPOCH; the fault log stays, closed, as do marks and retired tiles unless their partition of
retention SRAM was lost; a pulse of 200 ns or less is ignored, and
the loss of VDD_AON leaves only fuses and flash. BOOT starts at the effective release or at the release of WRST_N, the port
answers 2 ms later, and device time is bridged. BOOT ends in SAFE where the fuses or the firmware fail, else in SETUP, with
the RESTART record written and the settings restored from the chosen copy.
Model's choices: assumptions 47, 96, 98, 154, 157. -/
def Obligations.ResetsAndBoot : Prop :=
  let ended (cause : Nat) (s t : State) : Prop := t.dev.state = .boot ∧ t.dev.epoch = (s.dev.epoch + 1) % 2 ^ 32 ∧
    t.host.flight = [] ∧ t.host.reply.words = [] ∧ t.host.result.words = [] ∧ t.host.event.words = [] ∧
    t.safety.safeA = false ∧ t.safety.safeB = false ∧ t.safety.faultN = false ∧ t.patrol.log = s.patrol.log.map closedRecord ∧
    t.patrol.opens = [] ∧
    t.patrol.marks = (if s.security.retention.unitsLost then [] else s.patrol.marks) ∧ t.security.keys = s.security.keys ∧
    (∀ i, i < 49 → ((vget t.rink.tiles i).role = .retired ↔
      s.security.retention.unitsLost = false ∧ (vget s.rink.tiles i).role = .retired)) ∧
    t.pins.restartCause = (if s.security.retention.safeMarker then 4 else cause) ∧ t.tx = s.tx ∧ t.pending = s.pending
  (∀ (ns : Nat) (s : State),
    (ns ≤ 200 → Completes (.porstNAssert ns false) s fun t => ChangesOnly [] s t) ∧
    (1000 ≤ ns → s.pins.porstN = true → s.power.standby ≠ some .asleep → Completes (.porstNAssert ns false) s fun t =>
      ended 1 s t ∧ awake t = false ∧ t.time.running = false ∧ t.security.retention.bridge = some (now s)) ∧
    (200 < ns → ns < 1000 → Completes (.porstNAssert ns false) s fun t => t.freeCount = s.freeCount + 1 ∧
      (freeNat 1 s = 0 → ChangesOnly [.freeCount] s t)) ∧
    Completes (.porstNAssert ns true) s fun t => t.pins.porstN = false ∧ awake t = false ∧ t.dev.epoch = 0 ∧
      t.patrol.log = [] ∧ t.security.retention = State.reset.security.retention ∧ t.security.keys = s.security.keys ∧
      t.security.lifeCycle = s.security.lifeCycle ∧ t.security.configJournal = s.security.configJournal ∧
      t.security.eventJournal = s.security.eventJournal) ∧
  (∀ (n : Nat) (s : State), s.pins.released = false → Completes (.porstNEffectiveRelease n) s fun t =>
    t.pins.released = true ∧ t.pins.booting = true ∧ countNow t = 0 ∧ t.time.running = true ∧ t.peers.role = none ∧
    t.host.port.answersFrom = some (2000 * countsPerUs) ∧ t.tx = s.tx ++ [.pmbus 0x40 0 voutCommand] ∧
    (s.pins.aonKept = false → t.pins.restartCause = 0) ∧
    ∀ b, s.pins.aonKept = true → s.security.retention.bridge = some b → now t = b + n * (secUnits / 32768) ∧
      t.time.valid = true) ∧
  (∀ (ns n : Nat) (s : State),
    (ns ≤ 200 ∨ s.pins.porstN = false → Completes (.wrstNAssert ns n) s fun t => ChangesOnly [.freeCount] s t) ∧
    (1000 ≤ ns → inReset s = false → halted s = false → Completes (.wrstNAssert ns n) s fun t =>
      ended 2 s t ∧ t.pins.wrstN = false ∧ t.time.count = s.time.count ∧ t.peers.role = s.peers.role)) ∧
  (∀ s : State, s.pins.porstN = true → s.pins.wrstN = false → Completes .wrstNRelease s fun t => t.pins.wrstN = true ∧
    t.pins.booting = true ∧ t.host.port.answersFrom = some (countNow s + 2000 * countsPerUs) ∧ ChangesOnly [.pins, .port] s t) ∧
  (∀ (d : Nat) (s : State), awake s = true → s.pins.resetDue = some d →
    (countNow s < d → Completes .deviceResetStart s fun t => ChangesOnly [] s t) ∧
    (d ≤ countNow s → Completes .deviceResetStart s fun t => ended 3 s t ∧ t.pins.resetDue = none ∧ t.pins.booting = true ∧
      t.host.port.answersFrom = some (countNow s + 2000 * countsPerUs))) ∧
  ∀ (b : BootReport) (s : State), awake s = true → s.dev.state = .boot → s.pins.booting = true →
    (sinceRelease s < 3000 * countsPerUs → Completes (.bootComplete b) s fun t => ChangesOnly [] s t) ∧
    (3000 * countsPerUs ≤ sinceRelease s →
      let s0 : State := { s with security := { s.security with bootTimeUs := sinceRelease s / countsPerUs } }
      (b.fuseMismatch = true ∨ (selectImage 0 (scanJournals b.badRecords s0)).2 = none → Completes (.bootComplete b) s fun t =>
        t.dev.state = .safe ∧ t.security.bootTimeUs = sinceRelease s / countsPerUs ∧ t.pins.booting = false ∧
        t.host.result.words.length > s.host.result.words.length) ∧
      (b.fuseMismatch = false → (selectImage 0 (scanJournals [] s0)).2.isSome = true → b.failedUnits = [] →
        b.failedCheckers = [] → b.failedChannels = [] → b.badRecords = [] → s.patrol.wires = [] → s.patrol.arrived = [] →
        s.patrol.faOpen = false → s.host.result.words = [] → Completes (.bootComplete b) s fun t => t.dev.state = .setup ∧
          t.security.bootTimeUs = sinceRelease s / countsPerUs ∧ t.pins.booting = false ∧
          t.security.retention.safeMarker = false ∧ t.dev.configSource = (chooseConfig s).2 ∧ t.host.result.words ≠ [] ∧
          (t.dev.autoDue = true ↔ t.security.autoRun ≠ 0 ∧ s.pins.restartCause ≠ 4)))

/-! ## The commands that read and the commands that set -/

/-- Commands that read (R11, R84, R121, R142, R186, R199, R223, R254, R263, R358, R373, R419, R447, R481, R502, R522, R551,
R578): each is answered DONE with its chapter's block, and leaves everything else as it was. GET_POWER measures: its
voltages and its estimate are free values, and it changes nothing but their count. Model's choices: assumption 3. -/
def Obligations.StatusCommandsReply : Prop :=
  RepliesBlock .getInfo 0x0100 (fun _ s => infoBlock s) ∧
  RepliesBlock .getMemoryStatus 0x1100 (fun _ s => memoryBlock s) ∧
  RepliesBlock .getTime 0x0200 (fun _ s => timeBlock s) ∧
  RepliesBlock .getHoldover 0x0207 (fun _ s => holdoverBlock s) ∧
  RepliesBlock .getPtpStatus 0x0303 (fun _ s => ptpStatusBlock s) ∧
  RepliesBlock .getPortStats 0x0304 (fun b s => portStatsBlock s (fld b 0 8)) ∧
  RepliesBlock .getSourceStatus 0x0408 (fun b s => sourceStatus s ((srcIdx (fld b 0 8)).getD 0)) ∧
  RepliesBlock .getPose 0x0505 (fun b s => poseBlock s (dtsOf (fld b 0 96))) ∧
  RepliesBlock .getVoterStatus 0x0506 (fun _ s => voterStatusBlock s) ∧
  RepliesBlock .getPointStats 0x0601 (fun _ s => pointStats s) ∧
  RepliesBlock .getTileMap 0x0701 (fun _ s => tileMap s) ∧
  RepliesBlock .getRinkStats 0x0704 (fun _ s => rinkStats s.rink.counters) ∧
  RepliesBlock .getPlanStatus 0x0802 (fun _ s => planBlock s ++ (List.range 4).flatMap (slotEntry s)) ∧
  RepliesBlock .getSolverStatus 0x0901 (fun _ s => solverStatus s) ∧
  RepliesBlock .getQueueStatus 0x0B04 (fun _ s => queueStatus s) ∧
  RepliesBlock .getFaultRecords 0x0C00 (fun b s =>
    patrolBlock s ++ ((queriedRecords s b).take (fld b 32 8)).flatMap entryBytes) ∧
  RepliesBlock .getSafetyStatus 0x0D02 (fun _ s =>
    safetyBlock s ++ (List.range 8).flatMap (gateEntry s) ++ (List.range 8).flatMap (receiverEntry s)) ∧
  RepliesBlock .getPeerStatus 0x0E01 (fun _ s => peerStatus s) ∧
  RepliesBlock .getSecurityStatus 0x1000 (fun _ s => securityBlock s) ∧
  ∀ (k : CmdKey) (c : Cmd) (s : State), Ready k 0x0F00 s c → Completes (.getPower k) s fun t =>
    (∃ (mv : List Nat) (power tmax : Nat), Replied c stDone 0 (powerBlock s mv power tmax) s t) ∧
    s.freeCount < t.freeCount ∧ ChangesOnly [.flight, .reply, .freeCount] s t

/-- Commands that set (R11, R92, R379, R527 and the tables of each command): the parameter block of an accepted command is in
force under the command's index until another takes its place, and nothing beside the settings changes but what the
command's chapter names. A new Sentry period counts from the command's start. SET_TRACK_PARAMS with CLASS 0xFF sets every class, SET_CALIBRATION with PRIMARY on an IMU clears
PRIMARY on the others. Model's choices: assumption 8. -/
def Obligations.SettingsTakeEffect : Prop :=
  (StoresSetting .setOscClass 0x0202 (fun _ => 0) [] ∧
    StoresSetting .configTsIn 0x0204 (fun b => fld b 0 8) [] ∧
    StoresSetting .configTsOut 0x0205 (fun b => fld b 224 8) [.time] ∧
    StoresSetting .setSentryTick 0x0208 (fun _ => 0) [.time] ∧
    (∀ (k : CmdKey) (c : Cmd) (s : State), Ready k 0x0208 s c → Completes (.setSentryTick k) s fun t =>
      ((∀ u, s.time.lastTick = some u → u ≤ startInstant c s) → t.time = s.time) ∧
      ∀ u, s.time.lastTick = some u → startInstant c s < u → inSentry s = true → s.time.nextTick.isSome = true →
        t.time.nextTick = some (nextMultiple (fld c.params 0 8 * msUnits) u)) ∧
    StoresSetting .setPortCorrections 0x0301 (fun b => fld b 0 8 * 16 + fld b 8 8) [] ∧
    StoresSetting .configSafeMsg 0x0305 (fun _ => 0) [] ∧
    StoresSetting .setNormaliser 0x0401 (fun b => fld b 0 8) []) ∧
  (StoresSetting .setPairing 0x0501 (fun _ => 0) [.align] ∧
    StoresSetting .setExtrapolationLimit 0x0502 (fun _ => 0) [] ∧
    StoresSetting .setVoterThresholds 0x0503 (fun _ => 0) [] ∧
    StoresSetting .setAnchor 0x0504 (fun _ => 0) [] ∧
    StoresSetting .setVoxelConfig 0x0600 (fun _ => 0) [] ∧
    StoresSetting .setCellSize 0x0700 (fun _ => 0) [] ∧
    StoresSetting .configBevExport 0x0703 (fun _ => 0) []) ∧
  (StoresSetting .setRelevanceRule 0x0A01 (fun _ => 0) [.glide] ∧
    StoresSetting .setZone 0x0A02 (fun b => fld b 0 8) [.glide] ∧
    StoresSetting .setEventRule 0x0A03 (fun b => fld b 0 8) [.glide] ∧
    StoresSetting .setQueueMode 0x0B00 (fun _ => 0) [] ∧
    StoresSetting .setCutThrough 0x0B01 (fun b => fld b 0 8) [.result, .event] ∧
    StoresSetting .setWatermarks 0x0B02 (fun _ => 0) []) ∧
  (StoresSetting .setReactionTimer 0x0C03 (fun _ => 0) [] ∧
    StoresSetting .setRecoveryLimits 0x0C04 (fun _ => 0) [] ∧
    StoresSetting .setGateWindows 0x0D00 (fun b => fld b 0 8) [] ∧
    StoresSetting .setGroomer 0x0D01 (fun b => fld b 0 8) [.safety] ∧
    StoresSetting .setDeviceNumber 0x0E00 (fun _ => 0) [] ∧
    StoresSetting .setRegionMap 0x0E02 (fun _ => 0) [] ∧
    StoresSetting .setWakeSources 0x0F01 (fun _ => 0) [] ∧
    StoresSetting .setThermalLimits 0x0F02 (fun _ => 0) []) ∧
  (∀ (k : CmdKey) (c : Cmd) (s : State), Ready k 0x0A00 s c →
    let cls := fld c.params 0 8
    (cls ≠ 0xFF → Completes (.setTrackParams k) s fun t => Replied c stDone 0 [] s t ∧ setting t 0x0A00 cls = c.params ∧
      ChangesOnly [.flight, .reply, .settings] s t) ∧
    (cls = 0xFF → Completes (.setTrackParams k) s fun t => Replied c stDone 0 [] s t ∧
      (∀ i, i < 16 → setting t 0x0A00 i = bytesOfNat 1 i ++ c.params.drop 1) ∧
      ChangesOnly [.flight, .reply, .settings] s t)) ∧
  (∀ (k : CmdKey) (c : Cmd) (s : State) (i : Nat), Ready k 0x0500 s c → srcIdx (fld c.params 0 8) = some i →
    Completes (.setCalibration k) s fun t => Replied c stDone 0 [] s t ∧ setting t 0x0500 i = c.params ∧
      (16 ≤ i → i < 20 → bitAt c.params 16 = true → sourceConfigured s i = true → t.align.primary = some (i - 16) ∧
        ∀ j, 16 ≤ j → j < 20 → j ≠ i → isSet s 0x0500 j = true → (setting s 0x0500 j).length = 64 →
          bitAt (setting t 0x0500 j) 16 = false ∧ ∀ n, n ≠ 16 → bitAt (setting t 0x0500 j) n = bitAt (setting s 0x0500 j) n) ∧
      ChangesOnly [.flight, .reply, .settings, .align] s t) ∧
  ∀ (k : CmdKey) (c : Cmd) (n : Nat) (bad : List (Nat × Nat)) (s : State), Ready k 0x1101 s c →
    let target := fld c.params 0 8
    let index := fld c.params 8 8
    let off := fld c.params 64 32
    let len := fld c.params 96 32
    let found := (bad.filter (fun w => decide (off ≤ w.1) && decide (w.1 < off + len))).eraseDups
    let fresh := found.filter (fun w => !elementMarked s (scrubElement target index w))
    let y := (fresh.map Prod.fst).eraseDups.length
    let x := min n (len - y)
    Completes (.scrub k n bad) s fun t => Concluded c stDone 0 (bytesOfNat 4 x ++ bytesOfNat 4 y) s t ∧
      (∀ m ∈ s.patrol.marks, m ∈ t.patrol.marks) ∧
      (∀ w ∈ fresh, let e := scrubElement target index w
        elementMarked t e = true ∧ ∃ r ∈ t.patrol.wires, r.source = e.source ∧ r.unit = e.unit ∧ r.cls = .uc ∧ r.level = 2 ∧
          r.detail = e.detail) ∧
      (target = 0 → ∀ j, j < 8 → (vget t.memory.channels j).corrected = (if j = index then
          satAdd 32 (vget s.memory.channels j).corrected x else (vget s.memory.channels j).corrected) ∧
        (vget t.memory.channels j).uncorrected = (if j = index then
          satAdd 32 (vget s.memory.channels j).uncorrected y else (vget s.memory.channels j).uncorrected)) ∧
      (target ≠ 0 → t.memory = s.memory) ∧
      (target = 1 → index < 49 → ∀ (m : Mark) (a : Nat), m ∈ s.patrol.marks → m.source = rinkFault index 0 →
        m.unit = 12 + m.detail / 4096 → off ≤ m.detail → m.detail < off + len → m.detail * 64 ≤ a → a < m.detail * 64 + 64 →
        cellAt (vget t.rink.tiles index).sram a = 0) ∧
      ChangesOnly [.flight, .memory, .rink, .patrol, .point] s t
end

