-- ==== Sys2Proof/Laws/Bytes.lean ====
section
/-! SUPPORT. Little-endian byte strings and their bit fields. -/

theorem List.insertBy_perm {α : Type} (le : α → α → Bool) (x : α) : ∀ l : List α, (List.insertBy le x l).Perm (x :: l)
  | [] => .refl _
  | y :: ys => by
    unfold List.insertBy
    split
    · exact .refl _
    · exact ((List.insertBy_perm le x ys).cons y).trans (.swap x y ys)

/-- Sorting rearranges: nothing is lost and nothing comes in. -/
theorem List.sortBy_perm {α : Type} (le : α → α → Bool) : ∀ l : List α, (l.sortBy le).Perm l
  | [] => .refl _
  | x :: xs => (List.insertBy_perm le x _).trans ((List.sortBy_perm le xs).cons x)

@[simp] theorem List.length_sortBy {α : Type} (le : α → α → Bool) (l : List α) : (l.sortBy le).length = l.length :=
  (List.sortBy_perm le l).length_eq

@[simp] theorem List.mem_sortBy {α : Type} (le : α → α → Bool) (l : List α) (x : α) : x ∈ l.sortBy le ↔ x ∈ l :=
  (List.sortBy_perm le l).mem_iff

theorem List.insertBy_pairwise {α : Type} (le : α → α → Bool) (total : ∀ a b, le a b = true ∨ le b a = true)
    (trans : ∀ a b c, le a b = true → le b c = true → le a c = true) (x : α) :
    ∀ l : List α, l.Pairwise (fun a b => le a b = true) → (List.insertBy le x l).Pairwise (fun a b => le a b = true)
  | [], _ => List.pairwise_singleton _ _
  | y :: ys, h => by
    unfold List.insertBy
    split
    · next hx =>
      exact List.pairwise_cons.2 ⟨fun z hz => (List.mem_cons.1 hz).elim (fun e => e ▸ hx)
        (fun hz => trans x y z hx (List.rel_of_pairwise_cons h hz)), h⟩
    · next hx =>
      refine List.pairwise_cons.2 ⟨fun z hz => ?_, List.insertBy_pairwise le total trans x ys h.of_cons⟩
      rcases List.mem_cons.1 ((List.insertBy_perm le x ys).mem_iff.1 hz) with e | hz
      · exact e ▸ (total x y).resolve_left hx
      · exact List.rel_of_pairwise_cons h hz

/-- Sorting by a total and transitive order puts the list in that order. -/
theorem List.sortBy_pairwise {α : Type} (le : α → α → Bool) (total : ∀ a b, le a b = true ∨ le b a = true)
    (trans : ∀ a b c, le a b = true → le b c = true → le a c = true) :
    ∀ l : List α, (l.sortBy le).Pairwise (fun a b => le a b = true)
  | [] => .nil
  | x :: xs => List.insertBy_pairwise le total trans x _ (List.sortBy_pairwise le total trans xs)

namespace Sys2Proof.Machine

/-- The number that the bytes of a number hold. -/
theorem natOfBytes_bytesOfNat : ∀ n v : Nat, natOfBytes (bytesOfNat n v) = v % 256 ^ n
  | 0, v => by simp [bytesOfNat, natOfBytes, Nat.mod_one]
  | n + 1, v => by
    have h : natOfBytes (bytesOfNat (n + 1) v) = v % 256 + 256 * (v / 256 % 256 ^ n) :=
      congrArg (fun x => v % 256 + 256 * x) (natOfBytes_bytesOfNat n (v / 256))
    rw [h, Nat.pow_succ', Nat.mod_mul]

theorem bytesOfNat_drop : ∀ k n v : Nat, (bytesOfNat n v).drop k = bytesOfNat (n - k) (v / 256 ^ k)
  | 0, n, v => by simp
  | k + 1, 0, v => by simp [bytesOfNat]
  | k + 1, n + 1, v => by
    simp only [bytesOfNat, List.drop_succ_cons, bytesOfNat_drop k n (v / 256), Nat.add_sub_add_right,
      Nat.div_div_eq_div_mul, pow_succ']

theorem bytesOfNat_take : ∀ k n v : Nat, k ≤ n → (bytesOfNat n v).take k = bytesOfNat k v
  | 0, _, _, _ => rfl
  | k + 1, 0, _, h => absurd h (by omega)
  | k + 1, n + 1, v, h => by
    simp only [bytesOfNat, List.take_succ_cons, bytesOfNat_take k n (v / 256) (by omega)]

theorem slice_bytesOfNat (n v a k : Nat) (h : a + k ≤ n) : slice (bytesOfNat n v) a k = bytesOfNat k (v / 256 ^ a) := by
  unfold slice
  rw [bytesOfNat_drop, bytesOfNat_take _ _ _ (by omega)]

/-- A field of the bytes of a number. -/
theorem fld_bytesOfNat (n v lo w : Nat) (h : lo + w ≤ 8 * n) : fld (bytesOfNat n v) lo w = v / 2 ^ lo % 2 ^ w := by
  unfold fld
  by_cases hw : w = 0
  · subst hw; simp [Nat.mod_one]
  rw [slice_bytesOfNat _ _ _ _ (by omega), natOfBytes_bytesOfNat]
  have h1 : (256 : Nat) ^ (lo / 8) = 2 ^ (8 * (lo / 8)) := by rw [pow_mul]; norm_num
  have h2 : (256 : Nat) ^ ((lo % 8 + w + 7) / 8) = 2 ^ (8 * ((lo % 8 + w + 7) / 8)) := by rw [pow_mul]; norm_num
  rw [h1, h2]
  set m := 8 * ((lo % 8 + w + 7) / 8) with hm
  have hle : lo % 8 + w ≤ m := by omega
  have e : v / 2 ^ lo = v / 2 ^ (8 * (lo / 8)) / 2 ^ (lo % 8) := by
    rw [Nat.div_div_eq_div_mul, ← pow_add]; congr 2; omega
  rw [e]
  set x := v / 2 ^ (8 * (lo / 8))
  have hsplit : 2 ^ m = 2 ^ (lo % 8) * 2 ^ (m - lo % 8) := by rw [← pow_add]; congr 1; omega
  rw [hsplit, Nat.mod_mul_right_div_self, Nat.mod_mod_of_dvd]
  exact pow_dvd_pow 2 (by omega)

/-- The bytes of what bytes hold. -/
theorem bytesOfNat_natOfBytes : ∀ b : Bytes, bytesOfNat b.length (natOfBytes b) = b
  | [] => rfl
  | b :: bs => by
    simp only [List.length_cons, bytesOfNat, natOfBytes]
    have h1 : (b.toNat + 256 * natOfBytes bs) / 256 = natOfBytes bs := by have := b.isLt; omega
    rw [h1, bytesOfNat_natOfBytes bs]
    congr 1
    apply BitVec.eq_of_toNat_eq
    have := b.isLt
    simp only [BitVec.toNat_ofNat]
    omega

end Sys2Proof.Machine
end

