-- ==== Sys2Proof/Laws/Memory.lean ====
section
/-! SUPPORT. The memories held as cells: every write keeps the canonical form, a byte reads back, every other byte stays. -/

namespace Sys2Proof.Machine

/-- The canonical form of a non-empty list, as a proposition. -/
theorem cellsWfFrom_cons (lo a : Nat) (b : Byte) (cs : List Host.Cell) :
    cellsWfFrom lo ((a, b) :: cs) = true ↔ lo ≤ a ∧ b ≠ 0 ∧ cellsWfFrom (a + 1) cs = true := by
  show (decide (lo ≤ a) && decide (b ≠ 0) && cellsWfFrom (a + 1) cs) = true ↔ _
  rw [Bool.and_eq_true, Bool.and_eq_true, decide_eq_true_iff, decide_eq_true_iff, and_assoc]

/-- A list whose addresses start at `hi` starts at any lower bound too. -/
theorem cellsWfFrom_mono {lo hi : Nat} (h : lo ≤ hi) : ∀ m, cellsWfFrom hi m = true → cellsWfFrom lo m = true
  | [], _ => rfl
  | (a, b) :: cs, hw => by
    rw [cellsWfFrom_cons] at hw ⊢
    exact ⟨h.trans hw.1, hw.2⟩

/-- A write at or above the lower bound keeps the form. -/
theorem cellPut_wfFrom {lo x : Nat} (v : Byte) (h : lo ≤ x) :
    ∀ m, cellsWfFrom lo m = true → cellsWfFrom lo (cellPut m x v) = true
  | [], _ => by
    unfold cellPut
    split_ifs with hv
    · rfl
    · exact (cellsWfFrom_cons lo x v []).2 ⟨h, hv, rfl⟩
  | (a, b) :: cs, hw => by
    obtain ⟨ha, hb, hcs⟩ := (cellsWfFrom_cons lo a b cs).1 hw
    unfold cellPut
    split_ifs with h1 hv h2 hv
    · exact hw
    · exact (cellsWfFrom_cons lo x v _).2 ⟨h, hv, (cellsWfFrom_cons (x + 1) a b cs).2 ⟨h1, hb, hcs⟩⟩
    · exact cellsWfFrom_mono (by omega) cs hcs
    · exact (cellsWfFrom_cons lo x v cs).2 ⟨h, hv, h2 ▸ hcs⟩
    · exact (cellsWfFrom_cons lo a b _).2 ⟨ha, hb, cellPut_wfFrom v (by omega) cs hcs⟩

/-- A write keeps the canonical form. -/
theorem cellPut_wf (m : List Host.Cell) (x : Nat) (v : Byte) (h : cellsWf m = true) : cellsWf (cellPut m x v) = true :=
  cellPut_wfFrom v (Nat.zero_le x) m h

/-- Writes of several bytes keep it. -/
theorem cellsPut_wf : ∀ (b : Bytes) (m : List Host.Cell) (x : Nat), cellsWf m = true → cellsWf (cellsPut m x b) = true
  | [], _, _, h => h
  | v :: vs, m, x, h => cellsPut_wf vs _ (x + 1) (cellPut_wf m x v h)

/-- An address below every cell reads zero. -/
theorem cellAt_below {lo x : Nat} (hx : x < lo) : ∀ m, cellsWfFrom lo m = true → cellAt m x = 0
  | [], _ => rfl
  | (a, b) :: cs, hw => by
    have ha := ((cellsWfFrom_cons lo a b cs).1 hw).1
    unfold cellAt
    rw [if_neg (by omega), if_pos (by omega)]

theorem cellAt_cellPut_from {lo : Nat} (x : Nat) (v : Byte) (y : Nat) :
    ∀ m, cellsWfFrom lo m = true → cellAt (cellPut m x v) y = if y = x then v else cellAt m y
  | [], _ => by
    unfold cellPut
    by_cases hy : y = x
    · subst hy
      by_cases hv : v = 0
      · rw [if_pos hv, if_pos rfl]; exact hv.symm
      · rw [if_neg hv, if_pos rfl]; unfold cellAt; rw [if_pos rfl]
    · rw [if_neg hy]
      by_cases hv : v = 0
      · rw [if_pos hv]
      · rw [if_neg hv]; unfold cellAt; rw [if_neg (Ne.symm hy)]; split_ifs <;> rfl
  | (a, b) :: cs, hw => by
    obtain ⟨_, _, hcs⟩ := (cellsWfFrom_cons lo a b cs).1 hw
    unfold cellPut
    rcases Nat.lt_trichotomy x a with h | h | h
    · rw [if_pos h]
      by_cases hy : y = x
      · subst hy
        rw [if_pos rfl]
        split_ifs with hv
        · unfold cellAt; rw [if_neg (by omega), if_pos h]; exact hv.symm
        · unfold cellAt; rw [if_pos rfl]
      · rw [if_neg hy]
        split_ifs with hv
        · rfl
        · rw [cellAt, if_neg (Ne.symm hy)]
          split_ifs with h2
          · unfold cellAt; rw [if_neg (by omega), if_pos (by omega)]
          · rfl
    · subst h
      rw [if_neg (Nat.lt_irrefl x), if_pos rfl]
      by_cases hy : y = x
      · subst hy
        rw [if_pos rfl]
        split_ifs with hv
        · rw [hv]; exact cellAt_below (Nat.lt_succ_self y) cs hcs
        · unfold cellAt; rw [if_pos rfl]
      · rw [if_neg hy, cellAt, if_neg (Ne.symm hy)]
        split_ifs with hv h2 h2
        · exact cellAt_below (by omega) cs hcs
        · rfl
        · unfold cellAt; rw [if_neg (Ne.symm hy), if_pos h2]
        · rw [cellAt, if_neg (Ne.symm hy), if_neg h2]
    · rw [if_neg (by omega), if_neg (by omega), cellAt, cellAt, cellAt_cellPut_from x v y cs hcs]
      by_cases hy : y = x
      · subst hy; rw [if_neg (by omega), if_neg (by omega), if_pos rfl, if_pos rfl]
      · simp only [if_neg hy]

/-- A read after a write: the byte written, every other byte as before. -/
theorem cellAt_cellPut (m : List Host.Cell) (x : Nat) (v : Byte) (y : Nat) (h : cellsWf m = true) :
    cellAt (cellPut m x v) y = if y = x then v else cellAt m y :=
  cellAt_cellPut_from (lo := 0) x v y m h

/-- The memories at reset have the canonical form. -/
theorem reset_memory_wf : State.reset.memory.wf = true := rfl

end Sys2Proof.Machine
end

