-- ==== Sys2Proof/Laws/State.lean ====
section
/-! SUPPORT. One lemma per field of State and per update of it, true by unfolding. -/

namespace Sys2Proof.Machine

@[simp] theorem modDev_dev (f : Dev → Dev) (s : State) : (modDev f s).dev = f s.dev := rfl
@[simp] theorem modDev_host (f : Dev → Dev) (s : State) : (modDev f s).host = s.host := rfl
@[simp] theorem modDev_time (f : Dev → Dev) (s : State) : (modDev f s).time = s.time := rfl
@[simp] theorem modDev_ports (f : Dev → Dev) (s : State) : (modDev f s).ports = s.ports := rfl
@[simp] theorem modDev_patrol (f : Dev → Dev) (s : State) : (modDev f s).patrol = s.patrol := rfl
@[simp] theorem modDev_safety (f : Dev → Dev) (s : State) : (modDev f s).safety = s.safety := rfl
@[simp] theorem modDev_ingest (f : Dev → Dev) (s : State) : (modDev f s).ingest = s.ingest := rfl
@[simp] theorem modDev_align (f : Dev → Dev) (s : State) : (modDev f s).align = s.align := rfl
@[simp] theorem modDev_point (f : Dev → Dev) (s : State) : (modDev f s).point = s.point := rfl
@[simp] theorem modDev_rink (f : Dev → Dev) (s : State) : (modDev f s).rink = s.rink := rfl
@[simp] theorem modDev_plans (f : Dev → Dev) (s : State) : (modDev f s).plans = s.plans := rfl
@[simp] theorem modDev_solver (f : Dev → Dev) (s : State) : (modDev f s).solver = s.solver := rfl
@[simp] theorem modDev_glide (f : Dev → Dev) (s : State) : (modDev f s).glide = s.glide := rfl
@[simp] theorem modDev_peers (f : Dev → Dev) (s : State) : (modDev f s).peers = s.peers := rfl
@[simp] theorem modDev_power (f : Dev → Dev) (s : State) : (modDev f s).power = s.power := rfl
@[simp] theorem modDev_security (f : Dev → Dev) (s : State) : (modDev f s).security = s.security := rfl
@[simp] theorem modDev_pins (f : Dev → Dev) (s : State) : (modDev f s).pins = s.pins := rfl
@[simp] theorem modDev_memory (f : Dev → Dev) (s : State) : (modDev f s).memory = s.memory := rfl
@[simp] theorem modDev_settings (f : Dev → Dev) (s : State) : (modDev f s).settings = s.settings := rfl
@[simp] theorem modDev_tx (f : Dev → Dev) (s : State) : (modDev f s).tx = s.tx := rfl
@[simp] theorem modDev_freeCount (f : Dev → Dev) (s : State) : (modDev f s).freeCount = s.freeCount := rfl
@[simp] theorem modDev_pending (f : Dev → Dev) (s : State) : (modDev f s).pending = s.pending := rfl

@[simp] theorem modPower_dev (f : Power → Power) (s : State) : (modPower f s).dev = s.dev := rfl
@[simp] theorem modPower_host (f : Power → Power) (s : State) : (modPower f s).host = s.host := rfl
@[simp] theorem modPower_time (f : Power → Power) (s : State) : (modPower f s).time = s.time := rfl
@[simp] theorem modPower_ports (f : Power → Power) (s : State) : (modPower f s).ports = s.ports := rfl
@[simp] theorem modPower_patrol (f : Power → Power) (s : State) : (modPower f s).patrol = s.patrol := rfl
@[simp] theorem modPower_safety (f : Power → Power) (s : State) : (modPower f s).safety = s.safety := rfl
@[simp] theorem modPower_ingest (f : Power → Power) (s : State) : (modPower f s).ingest = s.ingest := rfl
@[simp] theorem modPower_align (f : Power → Power) (s : State) : (modPower f s).align = s.align := rfl
@[simp] theorem modPower_point (f : Power → Power) (s : State) : (modPower f s).point = s.point := rfl
@[simp] theorem modPower_rink (f : Power → Power) (s : State) : (modPower f s).rink = s.rink := rfl
@[simp] theorem modPower_plans (f : Power → Power) (s : State) : (modPower f s).plans = s.plans := rfl
@[simp] theorem modPower_solver (f : Power → Power) (s : State) : (modPower f s).solver = s.solver := rfl
@[simp] theorem modPower_glide (f : Power → Power) (s : State) : (modPower f s).glide = s.glide := rfl
@[simp] theorem modPower_peers (f : Power → Power) (s : State) : (modPower f s).peers = s.peers := rfl
@[simp] theorem modPower_power (f : Power → Power) (s : State) : (modPower f s).power = f s.power := rfl
@[simp] theorem modPower_security (f : Power → Power) (s : State) : (modPower f s).security = s.security := rfl
@[simp] theorem modPower_pins (f : Power → Power) (s : State) : (modPower f s).pins = s.pins := rfl
@[simp] theorem modPower_memory (f : Power → Power) (s : State) : (modPower f s).memory = s.memory := rfl
@[simp] theorem modPower_settings (f : Power → Power) (s : State) : (modPower f s).settings = s.settings := rfl
@[simp] theorem modPower_tx (f : Power → Power) (s : State) : (modPower f s).tx = s.tx := rfl
@[simp] theorem modPower_freeCount (f : Power → Power) (s : State) : (modPower f s).freeCount = s.freeCount := rfl
@[simp] theorem modPower_pending (f : Power → Power) (s : State) : (modPower f s).pending = s.pending := rfl

@[simp] theorem modSafety_dev (f : Safety → Safety) (s : State) : (modSafety f s).dev = s.dev := rfl
@[simp] theorem modSafety_host (f : Safety → Safety) (s : State) : (modSafety f s).host = s.host := rfl
@[simp] theorem modSafety_time (f : Safety → Safety) (s : State) : (modSafety f s).time = s.time := rfl
@[simp] theorem modSafety_ports (f : Safety → Safety) (s : State) : (modSafety f s).ports = s.ports := rfl
@[simp] theorem modSafety_patrol (f : Safety → Safety) (s : State) : (modSafety f s).patrol = s.patrol := rfl
@[simp] theorem modSafety_safety (f : Safety → Safety) (s : State) : (modSafety f s).safety = f s.safety := rfl
@[simp] theorem modSafety_ingest (f : Safety → Safety) (s : State) : (modSafety f s).ingest = s.ingest := rfl
@[simp] theorem modSafety_align (f : Safety → Safety) (s : State) : (modSafety f s).align = s.align := rfl
@[simp] theorem modSafety_point (f : Safety → Safety) (s : State) : (modSafety f s).point = s.point := rfl
@[simp] theorem modSafety_rink (f : Safety → Safety) (s : State) : (modSafety f s).rink = s.rink := rfl
@[simp] theorem modSafety_plans (f : Safety → Safety) (s : State) : (modSafety f s).plans = s.plans := rfl
@[simp] theorem modSafety_solver (f : Safety → Safety) (s : State) : (modSafety f s).solver = s.solver := rfl
@[simp] theorem modSafety_glide (f : Safety → Safety) (s : State) : (modSafety f s).glide = s.glide := rfl
@[simp] theorem modSafety_peers (f : Safety → Safety) (s : State) : (modSafety f s).peers = s.peers := rfl
@[simp] theorem modSafety_power (f : Safety → Safety) (s : State) : (modSafety f s).power = s.power := rfl
@[simp] theorem modSafety_security (f : Safety → Safety) (s : State) : (modSafety f s).security = s.security := rfl
@[simp] theorem modSafety_pins (f : Safety → Safety) (s : State) : (modSafety f s).pins = s.pins := rfl
@[simp] theorem modSafety_memory (f : Safety → Safety) (s : State) : (modSafety f s).memory = s.memory := rfl
@[simp] theorem modSafety_settings (f : Safety → Safety) (s : State) : (modSafety f s).settings = s.settings := rfl
@[simp] theorem modSafety_tx (f : Safety → Safety) (s : State) : (modSafety f s).tx = s.tx := rfl
@[simp] theorem modSafety_freeCount (f : Safety → Safety) (s : State) : (modSafety f s).freeCount = s.freeCount := rfl
@[simp] theorem modSafety_pending (f : Safety → Safety) (s : State) : (modSafety f s).pending = s.pending := rfl

@[simp] theorem modPatrol_dev (f : Patrol → Patrol) (s : State) : (modPatrol f s).dev = s.dev := rfl
@[simp] theorem modPatrol_host (f : Patrol → Patrol) (s : State) : (modPatrol f s).host = s.host := rfl
@[simp] theorem modPatrol_time (f : Patrol → Patrol) (s : State) : (modPatrol f s).time = s.time := rfl
@[simp] theorem modPatrol_ports (f : Patrol → Patrol) (s : State) : (modPatrol f s).ports = s.ports := rfl
@[simp] theorem modPatrol_patrol (f : Patrol → Patrol) (s : State) : (modPatrol f s).patrol = f s.patrol := rfl
@[simp] theorem modPatrol_safety (f : Patrol → Patrol) (s : State) : (modPatrol f s).safety = s.safety := rfl
@[simp] theorem modPatrol_ingest (f : Patrol → Patrol) (s : State) : (modPatrol f s).ingest = s.ingest := rfl
@[simp] theorem modPatrol_align (f : Patrol → Patrol) (s : State) : (modPatrol f s).align = s.align := rfl
@[simp] theorem modPatrol_point (f : Patrol → Patrol) (s : State) : (modPatrol f s).point = s.point := rfl
@[simp] theorem modPatrol_rink (f : Patrol → Patrol) (s : State) : (modPatrol f s).rink = s.rink := rfl
@[simp] theorem modPatrol_plans (f : Patrol → Patrol) (s : State) : (modPatrol f s).plans = s.plans := rfl
@[simp] theorem modPatrol_solver (f : Patrol → Patrol) (s : State) : (modPatrol f s).solver = s.solver := rfl
@[simp] theorem modPatrol_glide (f : Patrol → Patrol) (s : State) : (modPatrol f s).glide = s.glide := rfl
@[simp] theorem modPatrol_peers (f : Patrol → Patrol) (s : State) : (modPatrol f s).peers = s.peers := rfl
@[simp] theorem modPatrol_power (f : Patrol → Patrol) (s : State) : (modPatrol f s).power = s.power := rfl
@[simp] theorem modPatrol_security (f : Patrol → Patrol) (s : State) : (modPatrol f s).security = s.security := rfl
@[simp] theorem modPatrol_pins (f : Patrol → Patrol) (s : State) : (modPatrol f s).pins = s.pins := rfl
@[simp] theorem modPatrol_memory (f : Patrol → Patrol) (s : State) : (modPatrol f s).memory = s.memory := rfl
@[simp] theorem modPatrol_settings (f : Patrol → Patrol) (s : State) : (modPatrol f s).settings = s.settings := rfl
@[simp] theorem modPatrol_tx (f : Patrol → Patrol) (s : State) : (modPatrol f s).tx = s.tx := rfl
@[simp] theorem modPatrol_freeCount (f : Patrol → Patrol) (s : State) : (modPatrol f s).freeCount = s.freeCount := rfl
@[simp] theorem modPatrol_pending (f : Patrol → Patrol) (s : State) : (modPatrol f s).pending = s.pending := rfl

@[simp] theorem modSolver_dev (f : Solver → Solver) (s : State) : (modSolver f s).dev = s.dev := rfl
@[simp] theorem modSolver_host (f : Solver → Solver) (s : State) : (modSolver f s).host = s.host := rfl
@[simp] theorem modSolver_time (f : Solver → Solver) (s : State) : (modSolver f s).time = s.time := rfl
@[simp] theorem modSolver_ports (f : Solver → Solver) (s : State) : (modSolver f s).ports = s.ports := rfl
@[simp] theorem modSolver_patrol (f : Solver → Solver) (s : State) : (modSolver f s).patrol = s.patrol := rfl
@[simp] theorem modSolver_safety (f : Solver → Solver) (s : State) : (modSolver f s).safety = s.safety := rfl
@[simp] theorem modSolver_ingest (f : Solver → Solver) (s : State) : (modSolver f s).ingest = s.ingest := rfl
@[simp] theorem modSolver_align (f : Solver → Solver) (s : State) : (modSolver f s).align = s.align := rfl
@[simp] theorem modSolver_point (f : Solver → Solver) (s : State) : (modSolver f s).point = s.point := rfl
@[simp] theorem modSolver_rink (f : Solver → Solver) (s : State) : (modSolver f s).rink = s.rink := rfl
@[simp] theorem modSolver_plans (f : Solver → Solver) (s : State) : (modSolver f s).plans = s.plans := rfl
@[simp] theorem modSolver_solver (f : Solver → Solver) (s : State) : (modSolver f s).solver = f s.solver := rfl
@[simp] theorem modSolver_glide (f : Solver → Solver) (s : State) : (modSolver f s).glide = s.glide := rfl
@[simp] theorem modSolver_peers (f : Solver → Solver) (s : State) : (modSolver f s).peers = s.peers := rfl
@[simp] theorem modSolver_power (f : Solver → Solver) (s : State) : (modSolver f s).power = s.power := rfl
@[simp] theorem modSolver_security (f : Solver → Solver) (s : State) : (modSolver f s).security = s.security := rfl
@[simp] theorem modSolver_pins (f : Solver → Solver) (s : State) : (modSolver f s).pins = s.pins := rfl
@[simp] theorem modSolver_memory (f : Solver → Solver) (s : State) : (modSolver f s).memory = s.memory := rfl
@[simp] theorem modSolver_settings (f : Solver → Solver) (s : State) : (modSolver f s).settings = s.settings := rfl
@[simp] theorem modSolver_tx (f : Solver → Solver) (s : State) : (modSolver f s).tx = s.tx := rfl
@[simp] theorem modSolver_freeCount (f : Solver → Solver) (s : State) : (modSolver f s).freeCount = s.freeCount := rfl
@[simp] theorem modSolver_pending (f : Solver → Solver) (s : State) : (modSolver f s).pending = s.pending := rfl

@[simp] theorem modPeers_dev (f : Peers → Peers) (s : State) : (modPeers f s).dev = s.dev := rfl
@[simp] theorem modPeers_host (f : Peers → Peers) (s : State) : (modPeers f s).host = s.host := rfl
@[simp] theorem modPeers_time (f : Peers → Peers) (s : State) : (modPeers f s).time = s.time := rfl
@[simp] theorem modPeers_ports (f : Peers → Peers) (s : State) : (modPeers f s).ports = s.ports := rfl
@[simp] theorem modPeers_patrol (f : Peers → Peers) (s : State) : (modPeers f s).patrol = s.patrol := rfl
@[simp] theorem modPeers_safety (f : Peers → Peers) (s : State) : (modPeers f s).safety = s.safety := rfl
@[simp] theorem modPeers_ingest (f : Peers → Peers) (s : State) : (modPeers f s).ingest = s.ingest := rfl
@[simp] theorem modPeers_align (f : Peers → Peers) (s : State) : (modPeers f s).align = s.align := rfl
@[simp] theorem modPeers_point (f : Peers → Peers) (s : State) : (modPeers f s).point = s.point := rfl
@[simp] theorem modPeers_rink (f : Peers → Peers) (s : State) : (modPeers f s).rink = s.rink := rfl
@[simp] theorem modPeers_plans (f : Peers → Peers) (s : State) : (modPeers f s).plans = s.plans := rfl
@[simp] theorem modPeers_solver (f : Peers → Peers) (s : State) : (modPeers f s).solver = s.solver := rfl
@[simp] theorem modPeers_glide (f : Peers → Peers) (s : State) : (modPeers f s).glide = s.glide := rfl
@[simp] theorem modPeers_peers (f : Peers → Peers) (s : State) : (modPeers f s).peers = f s.peers := rfl
@[simp] theorem modPeers_power (f : Peers → Peers) (s : State) : (modPeers f s).power = s.power := rfl
@[simp] theorem modPeers_security (f : Peers → Peers) (s : State) : (modPeers f s).security = s.security := rfl
@[simp] theorem modPeers_pins (f : Peers → Peers) (s : State) : (modPeers f s).pins = s.pins := rfl
@[simp] theorem modPeers_memory (f : Peers → Peers) (s : State) : (modPeers f s).memory = s.memory := rfl
@[simp] theorem modPeers_settings (f : Peers → Peers) (s : State) : (modPeers f s).settings = s.settings := rfl
@[simp] theorem modPeers_tx (f : Peers → Peers) (s : State) : (modPeers f s).tx = s.tx := rfl
@[simp] theorem modPeers_freeCount (f : Peers → Peers) (s : State) : (modPeers f s).freeCount = s.freeCount := rfl
@[simp] theorem modPeers_pending (f : Peers → Peers) (s : State) : (modPeers f s).pending = s.pending := rfl

@[simp] theorem modSecurity_dev (f : Security → Security) (s : State) : (modSecurity f s).dev = s.dev := rfl
@[simp] theorem modSecurity_host (f : Security → Security) (s : State) : (modSecurity f s).host = s.host := rfl
@[simp] theorem modSecurity_time (f : Security → Security) (s : State) : (modSecurity f s).time = s.time := rfl
@[simp] theorem modSecurity_ports (f : Security → Security) (s : State) : (modSecurity f s).ports = s.ports := rfl
@[simp] theorem modSecurity_patrol (f : Security → Security) (s : State) : (modSecurity f s).patrol = s.patrol := rfl
@[simp] theorem modSecurity_safety (f : Security → Security) (s : State) : (modSecurity f s).safety = s.safety := rfl
@[simp] theorem modSecurity_ingest (f : Security → Security) (s : State) : (modSecurity f s).ingest = s.ingest := rfl
@[simp] theorem modSecurity_align (f : Security → Security) (s : State) : (modSecurity f s).align = s.align := rfl
@[simp] theorem modSecurity_point (f : Security → Security) (s : State) : (modSecurity f s).point = s.point := rfl
@[simp] theorem modSecurity_rink (f : Security → Security) (s : State) : (modSecurity f s).rink = s.rink := rfl
@[simp] theorem modSecurity_plans (f : Security → Security) (s : State) : (modSecurity f s).plans = s.plans := rfl
@[simp] theorem modSecurity_solver (f : Security → Security) (s : State) : (modSecurity f s).solver = s.solver := rfl
@[simp] theorem modSecurity_glide (f : Security → Security) (s : State) : (modSecurity f s).glide = s.glide := rfl
@[simp] theorem modSecurity_peers (f : Security → Security) (s : State) : (modSecurity f s).peers = s.peers := rfl
@[simp] theorem modSecurity_power (f : Security → Security) (s : State) : (modSecurity f s).power = s.power := rfl
@[simp] theorem modSecurity_security (f : Security → Security) (s : State) : (modSecurity f s).security = f s.security := rfl
@[simp] theorem modSecurity_pins (f : Security → Security) (s : State) : (modSecurity f s).pins = s.pins := rfl
@[simp] theorem modSecurity_memory (f : Security → Security) (s : State) : (modSecurity f s).memory = s.memory := rfl
@[simp] theorem modSecurity_settings (f : Security → Security) (s : State) : (modSecurity f s).settings = s.settings := rfl
@[simp] theorem modSecurity_tx (f : Security → Security) (s : State) : (modSecurity f s).tx = s.tx := rfl
@[simp] theorem modSecurity_freeCount (f : Security → Security) (s : State) : (modSecurity f s).freeCount = s.freeCount := rfl
@[simp] theorem modSecurity_pending (f : Security → Security) (s : State) : (modSecurity f s).pending = s.pending := rfl

@[simp] theorem modPlans_dev (f : Plans → Plans) (s : State) : (modPlans f s).dev = s.dev := rfl
@[simp] theorem modPlans_host (f : Plans → Plans) (s : State) : (modPlans f s).host = s.host := rfl
@[simp] theorem modPlans_time (f : Plans → Plans) (s : State) : (modPlans f s).time = s.time := rfl
@[simp] theorem modPlans_ports (f : Plans → Plans) (s : State) : (modPlans f s).ports = s.ports := rfl
@[simp] theorem modPlans_patrol (f : Plans → Plans) (s : State) : (modPlans f s).patrol = s.patrol := rfl
@[simp] theorem modPlans_safety (f : Plans → Plans) (s : State) : (modPlans f s).safety = s.safety := rfl
@[simp] theorem modPlans_ingest (f : Plans → Plans) (s : State) : (modPlans f s).ingest = s.ingest := rfl
@[simp] theorem modPlans_align (f : Plans → Plans) (s : State) : (modPlans f s).align = s.align := rfl
@[simp] theorem modPlans_point (f : Plans → Plans) (s : State) : (modPlans f s).point = s.point := rfl
@[simp] theorem modPlans_rink (f : Plans → Plans) (s : State) : (modPlans f s).rink = s.rink := rfl
@[simp] theorem modPlans_plans (f : Plans → Plans) (s : State) : (modPlans f s).plans = f s.plans := rfl
@[simp] theorem modPlans_solver (f : Plans → Plans) (s : State) : (modPlans f s).solver = s.solver := rfl
@[simp] theorem modPlans_glide (f : Plans → Plans) (s : State) : (modPlans f s).glide = s.glide := rfl
@[simp] theorem modPlans_peers (f : Plans → Plans) (s : State) : (modPlans f s).peers = s.peers := rfl
@[simp] theorem modPlans_power (f : Plans → Plans) (s : State) : (modPlans f s).power = s.power := rfl
@[simp] theorem modPlans_security (f : Plans → Plans) (s : State) : (modPlans f s).security = s.security := rfl
@[simp] theorem modPlans_pins (f : Plans → Plans) (s : State) : (modPlans f s).pins = s.pins := rfl
@[simp] theorem modPlans_memory (f : Plans → Plans) (s : State) : (modPlans f s).memory = s.memory := rfl
@[simp] theorem modPlans_settings (f : Plans → Plans) (s : State) : (modPlans f s).settings = s.settings := rfl
@[simp] theorem modPlans_tx (f : Plans → Plans) (s : State) : (modPlans f s).tx = s.tx := rfl
@[simp] theorem modPlans_freeCount (f : Plans → Plans) (s : State) : (modPlans f s).freeCount = s.freeCount := rfl
@[simp] theorem modPlans_pending (f : Plans → Plans) (s : State) : (modPlans f s).pending = s.pending := rfl

@[simp] theorem modPins_dev (f : Pins → Pins) (s : State) : (modPins f s).dev = s.dev := rfl
@[simp] theorem modPins_host (f : Pins → Pins) (s : State) : (modPins f s).host = s.host := rfl
@[simp] theorem modPins_time (f : Pins → Pins) (s : State) : (modPins f s).time = s.time := rfl
@[simp] theorem modPins_ports (f : Pins → Pins) (s : State) : (modPins f s).ports = s.ports := rfl
@[simp] theorem modPins_patrol (f : Pins → Pins) (s : State) : (modPins f s).patrol = s.patrol := rfl
@[simp] theorem modPins_safety (f : Pins → Pins) (s : State) : (modPins f s).safety = s.safety := rfl
@[simp] theorem modPins_ingest (f : Pins → Pins) (s : State) : (modPins f s).ingest = s.ingest := rfl
@[simp] theorem modPins_align (f : Pins → Pins) (s : State) : (modPins f s).align = s.align := rfl
@[simp] theorem modPins_point (f : Pins → Pins) (s : State) : (modPins f s).point = s.point := rfl
@[simp] theorem modPins_rink (f : Pins → Pins) (s : State) : (modPins f s).rink = s.rink := rfl
@[simp] theorem modPins_plans (f : Pins → Pins) (s : State) : (modPins f s).plans = s.plans := rfl
@[simp] theorem modPins_solver (f : Pins → Pins) (s : State) : (modPins f s).solver = s.solver := rfl
@[simp] theorem modPins_glide (f : Pins → Pins) (s : State) : (modPins f s).glide = s.glide := rfl
@[simp] theorem modPins_peers (f : Pins → Pins) (s : State) : (modPins f s).peers = s.peers := rfl
@[simp] theorem modPins_power (f : Pins → Pins) (s : State) : (modPins f s).power = s.power := rfl
@[simp] theorem modPins_security (f : Pins → Pins) (s : State) : (modPins f s).security = s.security := rfl
@[simp] theorem modPins_pins (f : Pins → Pins) (s : State) : (modPins f s).pins = f s.pins := rfl
@[simp] theorem modPins_memory (f : Pins → Pins) (s : State) : (modPins f s).memory = s.memory := rfl
@[simp] theorem modPins_settings (f : Pins → Pins) (s : State) : (modPins f s).settings = s.settings := rfl
@[simp] theorem modPins_tx (f : Pins → Pins) (s : State) : (modPins f s).tx = s.tx := rfl
@[simp] theorem modPins_freeCount (f : Pins → Pins) (s : State) : (modPins f s).freeCount = s.freeCount := rfl
@[simp] theorem modPins_pending (f : Pins → Pins) (s : State) : (modPins f s).pending = s.pending := rfl

@[simp] theorem modRink_dev (f : Rink → Rink) (s : State) : (modRink f s).dev = s.dev := rfl
@[simp] theorem modRink_host (f : Rink → Rink) (s : State) : (modRink f s).host = s.host := rfl
@[simp] theorem modRink_time (f : Rink → Rink) (s : State) : (modRink f s).time = s.time := rfl
@[simp] theorem modRink_ports (f : Rink → Rink) (s : State) : (modRink f s).ports = s.ports := rfl
@[simp] theorem modRink_patrol (f : Rink → Rink) (s : State) : (modRink f s).patrol = s.patrol := rfl
@[simp] theorem modRink_safety (f : Rink → Rink) (s : State) : (modRink f s).safety = s.safety := rfl
@[simp] theorem modRink_ingest (f : Rink → Rink) (s : State) : (modRink f s).ingest = s.ingest := rfl
@[simp] theorem modRink_align (f : Rink → Rink) (s : State) : (modRink f s).align = s.align := rfl
@[simp] theorem modRink_point (f : Rink → Rink) (s : State) : (modRink f s).point = s.point := rfl
@[simp] theorem modRink_rink (f : Rink → Rink) (s : State) : (modRink f s).rink = f s.rink := rfl
@[simp] theorem modRink_plans (f : Rink → Rink) (s : State) : (modRink f s).plans = s.plans := rfl
@[simp] theorem modRink_solver (f : Rink → Rink) (s : State) : (modRink f s).solver = s.solver := rfl
@[simp] theorem modRink_glide (f : Rink → Rink) (s : State) : (modRink f s).glide = s.glide := rfl
@[simp] theorem modRink_peers (f : Rink → Rink) (s : State) : (modRink f s).peers = s.peers := rfl
@[simp] theorem modRink_power (f : Rink → Rink) (s : State) : (modRink f s).power = s.power := rfl
@[simp] theorem modRink_security (f : Rink → Rink) (s : State) : (modRink f s).security = s.security := rfl
@[simp] theorem modRink_pins (f : Rink → Rink) (s : State) : (modRink f s).pins = s.pins := rfl
@[simp] theorem modRink_memory (f : Rink → Rink) (s : State) : (modRink f s).memory = s.memory := rfl
@[simp] theorem modRink_settings (f : Rink → Rink) (s : State) : (modRink f s).settings = s.settings := rfl
@[simp] theorem modRink_tx (f : Rink → Rink) (s : State) : (modRink f s).tx = s.tx := rfl
@[simp] theorem modRink_freeCount (f : Rink → Rink) (s : State) : (modRink f s).freeCount = s.freeCount := rfl
@[simp] theorem modRink_pending (f : Rink → Rink) (s : State) : (modRink f s).pending = s.pending := rfl

@[simp] theorem modAlign_dev (f : Align → Align) (s : State) : (modAlign f s).dev = s.dev := rfl
@[simp] theorem modAlign_host (f : Align → Align) (s : State) : (modAlign f s).host = s.host := rfl
@[simp] theorem modAlign_time (f : Align → Align) (s : State) : (modAlign f s).time = s.time := rfl
@[simp] theorem modAlign_ports (f : Align → Align) (s : State) : (modAlign f s).ports = s.ports := rfl
@[simp] theorem modAlign_patrol (f : Align → Align) (s : State) : (modAlign f s).patrol = s.patrol := rfl
@[simp] theorem modAlign_safety (f : Align → Align) (s : State) : (modAlign f s).safety = s.safety := rfl
@[simp] theorem modAlign_ingest (f : Align → Align) (s : State) : (modAlign f s).ingest = s.ingest := rfl
@[simp] theorem modAlign_align (f : Align → Align) (s : State) : (modAlign f s).align = f s.align := rfl
@[simp] theorem modAlign_point (f : Align → Align) (s : State) : (modAlign f s).point = s.point := rfl
@[simp] theorem modAlign_rink (f : Align → Align) (s : State) : (modAlign f s).rink = s.rink := rfl
@[simp] theorem modAlign_plans (f : Align → Align) (s : State) : (modAlign f s).plans = s.plans := rfl
@[simp] theorem modAlign_solver (f : Align → Align) (s : State) : (modAlign f s).solver = s.solver := rfl
@[simp] theorem modAlign_glide (f : Align → Align) (s : State) : (modAlign f s).glide = s.glide := rfl
@[simp] theorem modAlign_peers (f : Align → Align) (s : State) : (modAlign f s).peers = s.peers := rfl
@[simp] theorem modAlign_power (f : Align → Align) (s : State) : (modAlign f s).power = s.power := rfl
@[simp] theorem modAlign_security (f : Align → Align) (s : State) : (modAlign f s).security = s.security := rfl
@[simp] theorem modAlign_pins (f : Align → Align) (s : State) : (modAlign f s).pins = s.pins := rfl
@[simp] theorem modAlign_memory (f : Align → Align) (s : State) : (modAlign f s).memory = s.memory := rfl
@[simp] theorem modAlign_settings (f : Align → Align) (s : State) : (modAlign f s).settings = s.settings := rfl
@[simp] theorem modAlign_tx (f : Align → Align) (s : State) : (modAlign f s).tx = s.tx := rfl
@[simp] theorem modAlign_freeCount (f : Align → Align) (s : State) : (modAlign f s).freeCount = s.freeCount := rfl
@[simp] theorem modAlign_pending (f : Align → Align) (s : State) : (modAlign f s).pending = s.pending := rfl

@[simp] theorem modGlide_dev (f : Glide → Glide) (s : State) : (modGlide f s).dev = s.dev := rfl
@[simp] theorem modGlide_host (f : Glide → Glide) (s : State) : (modGlide f s).host = s.host := rfl
@[simp] theorem modGlide_time (f : Glide → Glide) (s : State) : (modGlide f s).time = s.time := rfl
@[simp] theorem modGlide_ports (f : Glide → Glide) (s : State) : (modGlide f s).ports = s.ports := rfl
@[simp] theorem modGlide_patrol (f : Glide → Glide) (s : State) : (modGlide f s).patrol = s.patrol := rfl
@[simp] theorem modGlide_safety (f : Glide → Glide) (s : State) : (modGlide f s).safety = s.safety := rfl
@[simp] theorem modGlide_ingest (f : Glide → Glide) (s : State) : (modGlide f s).ingest = s.ingest := rfl
@[simp] theorem modGlide_align (f : Glide → Glide) (s : State) : (modGlide f s).align = s.align := rfl
@[simp] theorem modGlide_point (f : Glide → Glide) (s : State) : (modGlide f s).point = s.point := rfl
@[simp] theorem modGlide_rink (f : Glide → Glide) (s : State) : (modGlide f s).rink = s.rink := rfl
@[simp] theorem modGlide_plans (f : Glide → Glide) (s : State) : (modGlide f s).plans = s.plans := rfl
@[simp] theorem modGlide_solver (f : Glide → Glide) (s : State) : (modGlide f s).solver = s.solver := rfl
@[simp] theorem modGlide_glide (f : Glide → Glide) (s : State) : (modGlide f s).glide = f s.glide := rfl
@[simp] theorem modGlide_peers (f : Glide → Glide) (s : State) : (modGlide f s).peers = s.peers := rfl
@[simp] theorem modGlide_power (f : Glide → Glide) (s : State) : (modGlide f s).power = s.power := rfl
@[simp] theorem modGlide_security (f : Glide → Glide) (s : State) : (modGlide f s).security = s.security := rfl
@[simp] theorem modGlide_pins (f : Glide → Glide) (s : State) : (modGlide f s).pins = s.pins := rfl
@[simp] theorem modGlide_memory (f : Glide → Glide) (s : State) : (modGlide f s).memory = s.memory := rfl
@[simp] theorem modGlide_settings (f : Glide → Glide) (s : State) : (modGlide f s).settings = s.settings := rfl
@[simp] theorem modGlide_tx (f : Glide → Glide) (s : State) : (modGlide f s).tx = s.tx := rfl
@[simp] theorem modGlide_freeCount (f : Glide → Glide) (s : State) : (modGlide f s).freeCount = s.freeCount := rfl
@[simp] theorem modGlide_pending (f : Glide → Glide) (s : State) : (modGlide f s).pending = s.pending := rfl

@[simp] theorem modPoint_dev (f : PointState → PointState) (s : State) : (modPoint f s).dev = s.dev := rfl
@[simp] theorem modPoint_host (f : PointState → PointState) (s : State) : (modPoint f s).host = s.host := rfl
@[simp] theorem modPoint_time (f : PointState → PointState) (s : State) : (modPoint f s).time = s.time := rfl
@[simp] theorem modPoint_ports (f : PointState → PointState) (s : State) : (modPoint f s).ports = s.ports := rfl
@[simp] theorem modPoint_patrol (f : PointState → PointState) (s : State) : (modPoint f s).patrol = s.patrol := rfl
@[simp] theorem modPoint_safety (f : PointState → PointState) (s : State) : (modPoint f s).safety = s.safety := rfl
@[simp] theorem modPoint_ingest (f : PointState → PointState) (s : State) : (modPoint f s).ingest = s.ingest := rfl
@[simp] theorem modPoint_align (f : PointState → PointState) (s : State) : (modPoint f s).align = s.align := rfl
@[simp] theorem modPoint_point (f : PointState → PointState) (s : State) : (modPoint f s).point = f s.point := rfl
@[simp] theorem modPoint_rink (f : PointState → PointState) (s : State) : (modPoint f s).rink = s.rink := rfl
@[simp] theorem modPoint_plans (f : PointState → PointState) (s : State) : (modPoint f s).plans = s.plans := rfl
@[simp] theorem modPoint_solver (f : PointState → PointState) (s : State) : (modPoint f s).solver = s.solver := rfl
@[simp] theorem modPoint_glide (f : PointState → PointState) (s : State) : (modPoint f s).glide = s.glide := rfl
@[simp] theorem modPoint_peers (f : PointState → PointState) (s : State) : (modPoint f s).peers = s.peers := rfl
@[simp] theorem modPoint_power (f : PointState → PointState) (s : State) : (modPoint f s).power = s.power := rfl
@[simp] theorem modPoint_security (f : PointState → PointState) (s : State) : (modPoint f s).security = s.security := rfl
@[simp] theorem modPoint_pins (f : PointState → PointState) (s : State) : (modPoint f s).pins = s.pins := rfl
@[simp] theorem modPoint_memory (f : PointState → PointState) (s : State) : (modPoint f s).memory = s.memory := rfl
@[simp] theorem modPoint_settings (f : PointState → PointState) (s : State) : (modPoint f s).settings = s.settings := rfl
@[simp] theorem modPoint_tx (f : PointState → PointState) (s : State) : (modPoint f s).tx = s.tx := rfl
@[simp] theorem modPoint_freeCount (f : PointState → PointState) (s : State) : (modPoint f s).freeCount = s.freeCount := rfl
@[simp] theorem modPoint_pending (f : PointState → PointState) (s : State) : (modPoint f s).pending = s.pending := rfl

@[simp] theorem setTime_dev (f : TimeBase → TimeBase) (s : State) : (setTime f s).dev = s.dev := rfl
@[simp] theorem setTime_host (f : TimeBase → TimeBase) (s : State) : (setTime f s).host = s.host := rfl
@[simp] theorem setTime_time (f : TimeBase → TimeBase) (s : State) : (setTime f s).time = f s.time := rfl
@[simp] theorem setTime_ports (f : TimeBase → TimeBase) (s : State) : (setTime f s).ports = s.ports := rfl
@[simp] theorem setTime_patrol (f : TimeBase → TimeBase) (s : State) : (setTime f s).patrol = s.patrol := rfl
@[simp] theorem setTime_safety (f : TimeBase → TimeBase) (s : State) : (setTime f s).safety = s.safety := rfl
@[simp] theorem setTime_ingest (f : TimeBase → TimeBase) (s : State) : (setTime f s).ingest = s.ingest := rfl
@[simp] theorem setTime_align (f : TimeBase → TimeBase) (s : State) : (setTime f s).align = s.align := rfl
@[simp] theorem setTime_point (f : TimeBase → TimeBase) (s : State) : (setTime f s).point = s.point := rfl
@[simp] theorem setTime_rink (f : TimeBase → TimeBase) (s : State) : (setTime f s).rink = s.rink := rfl
@[simp] theorem setTime_plans (f : TimeBase → TimeBase) (s : State) : (setTime f s).plans = s.plans := rfl
@[simp] theorem setTime_solver (f : TimeBase → TimeBase) (s : State) : (setTime f s).solver = s.solver := rfl
@[simp] theorem setTime_glide (f : TimeBase → TimeBase) (s : State) : (setTime f s).glide = s.glide := rfl
@[simp] theorem setTime_peers (f : TimeBase → TimeBase) (s : State) : (setTime f s).peers = s.peers := rfl
@[simp] theorem setTime_power (f : TimeBase → TimeBase) (s : State) : (setTime f s).power = s.power := rfl
@[simp] theorem setTime_security (f : TimeBase → TimeBase) (s : State) : (setTime f s).security = s.security := rfl
@[simp] theorem setTime_pins (f : TimeBase → TimeBase) (s : State) : (setTime f s).pins = s.pins := rfl
@[simp] theorem setTime_memory (f : TimeBase → TimeBase) (s : State) : (setTime f s).memory = s.memory := rfl
@[simp] theorem setTime_settings (f : TimeBase → TimeBase) (s : State) : (setTime f s).settings = s.settings := rfl
@[simp] theorem setTime_tx (f : TimeBase → TimeBase) (s : State) : (setTime f s).tx = s.tx := rfl
@[simp] theorem setTime_freeCount (f : TimeBase → TimeBase) (s : State) : (setTime f s).freeCount = s.freeCount := rfl
@[simp] theorem setTime_pending (f : TimeBase → TimeBase) (s : State) : (setTime f s).pending = s.pending := rfl

@[simp] theorem setPort_dev (f : Port → Port) (s : State) : (setPort f s).dev = s.dev := rfl
@[simp] theorem setPort_host (f : Port → Port) (s : State) : (setPort f s).host = { s.host with port := f s.host.port } := rfl
@[simp] theorem setPort_time (f : Port → Port) (s : State) : (setPort f s).time = s.time := rfl
@[simp] theorem setPort_ports (f : Port → Port) (s : State) : (setPort f s).ports = s.ports := rfl
@[simp] theorem setPort_patrol (f : Port → Port) (s : State) : (setPort f s).patrol = s.patrol := rfl
@[simp] theorem setPort_safety (f : Port → Port) (s : State) : (setPort f s).safety = s.safety := rfl
@[simp] theorem setPort_ingest (f : Port → Port) (s : State) : (setPort f s).ingest = s.ingest := rfl
@[simp] theorem setPort_align (f : Port → Port) (s : State) : (setPort f s).align = s.align := rfl
@[simp] theorem setPort_point (f : Port → Port) (s : State) : (setPort f s).point = s.point := rfl
@[simp] theorem setPort_rink (f : Port → Port) (s : State) : (setPort f s).rink = s.rink := rfl
@[simp] theorem setPort_plans (f : Port → Port) (s : State) : (setPort f s).plans = s.plans := rfl
@[simp] theorem setPort_solver (f : Port → Port) (s : State) : (setPort f s).solver = s.solver := rfl
@[simp] theorem setPort_glide (f : Port → Port) (s : State) : (setPort f s).glide = s.glide := rfl
@[simp] theorem setPort_peers (f : Port → Port) (s : State) : (setPort f s).peers = s.peers := rfl
@[simp] theorem setPort_power (f : Port → Port) (s : State) : (setPort f s).power = s.power := rfl
@[simp] theorem setPort_security (f : Port → Port) (s : State) : (setPort f s).security = s.security := rfl
@[simp] theorem setPort_pins (f : Port → Port) (s : State) : (setPort f s).pins = s.pins := rfl
@[simp] theorem setPort_memory (f : Port → Port) (s : State) : (setPort f s).memory = s.memory := rfl
@[simp] theorem setPort_settings (f : Port → Port) (s : State) : (setPort f s).settings = s.settings := rfl
@[simp] theorem setPort_tx (f : Port → Port) (s : State) : (setPort f s).tx = s.tx := rfl
@[simp] theorem setPort_freeCount (f : Port → Port) (s : State) : (setPort f s).freeCount = s.freeCount := rfl
@[simp] theorem setPort_pending (f : Port → Port) (s : State) : (setPort f s).pending = s.pending := rfl

@[simp] theorem setFlight_dev (f : List Cmd) (s : State) : (setFlight f s).dev = s.dev := rfl
@[simp] theorem setFlight_host (f : List Cmd) (s : State) : (setFlight f s).host = { s.host with flight := f } := rfl
@[simp] theorem setFlight_time (f : List Cmd) (s : State) : (setFlight f s).time = s.time := rfl
@[simp] theorem setFlight_ports (f : List Cmd) (s : State) : (setFlight f s).ports = s.ports := rfl
@[simp] theorem setFlight_patrol (f : List Cmd) (s : State) : (setFlight f s).patrol = s.patrol := rfl
@[simp] theorem setFlight_safety (f : List Cmd) (s : State) : (setFlight f s).safety = s.safety := rfl
@[simp] theorem setFlight_ingest (f : List Cmd) (s : State) : (setFlight f s).ingest = s.ingest := rfl
@[simp] theorem setFlight_align (f : List Cmd) (s : State) : (setFlight f s).align = s.align := rfl
@[simp] theorem setFlight_point (f : List Cmd) (s : State) : (setFlight f s).point = s.point := rfl
@[simp] theorem setFlight_rink (f : List Cmd) (s : State) : (setFlight f s).rink = s.rink := rfl
@[simp] theorem setFlight_plans (f : List Cmd) (s : State) : (setFlight f s).plans = s.plans := rfl
@[simp] theorem setFlight_solver (f : List Cmd) (s : State) : (setFlight f s).solver = s.solver := rfl
@[simp] theorem setFlight_glide (f : List Cmd) (s : State) : (setFlight f s).glide = s.glide := rfl
@[simp] theorem setFlight_peers (f : List Cmd) (s : State) : (setFlight f s).peers = s.peers := rfl
@[simp] theorem setFlight_power (f : List Cmd) (s : State) : (setFlight f s).power = s.power := rfl
@[simp] theorem setFlight_security (f : List Cmd) (s : State) : (setFlight f s).security = s.security := rfl
@[simp] theorem setFlight_pins (f : List Cmd) (s : State) : (setFlight f s).pins = s.pins := rfl
@[simp] theorem setFlight_memory (f : List Cmd) (s : State) : (setFlight f s).memory = s.memory := rfl
@[simp] theorem setFlight_settings (f : List Cmd) (s : State) : (setFlight f s).settings = s.settings := rfl
@[simp] theorem setFlight_tx (f : List Cmd) (s : State) : (setFlight f s).tx = s.tx := rfl
@[simp] theorem setFlight_freeCount (f : List Cmd) (s : State) : (setFlight f s).freeCount = s.freeCount := rfl
@[simp] theorem setFlight_pending (f : List Cmd) (s : State) : (setFlight f s).pending = s.pending := rfl

@[simp] theorem putSetting_dev (op idx : Nat) (b : Bytes) (s : State) : (putSetting op idx b s).dev = s.dev := rfl
@[simp] theorem putSetting_host (op idx : Nat) (b : Bytes) (s : State) : (putSetting op idx b s).host = s.host := rfl
@[simp] theorem putSetting_time (op idx : Nat) (b : Bytes) (s : State) : (putSetting op idx b s).time = s.time := rfl
@[simp] theorem putSetting_ports (op idx : Nat) (b : Bytes) (s : State) : (putSetting op idx b s).ports = s.ports := rfl
@[simp] theorem putSetting_patrol (op idx : Nat) (b : Bytes) (s : State) : (putSetting op idx b s).patrol = s.patrol := rfl
@[simp] theorem putSetting_safety (op idx : Nat) (b : Bytes) (s : State) : (putSetting op idx b s).safety = s.safety := rfl
@[simp] theorem putSetting_ingest (op idx : Nat) (b : Bytes) (s : State) : (putSetting op idx b s).ingest = s.ingest := rfl
@[simp] theorem putSetting_align (op idx : Nat) (b : Bytes) (s : State) : (putSetting op idx b s).align = s.align := rfl
@[simp] theorem putSetting_point (op idx : Nat) (b : Bytes) (s : State) : (putSetting op idx b s).point = s.point := rfl
@[simp] theorem putSetting_rink (op idx : Nat) (b : Bytes) (s : State) : (putSetting op idx b s).rink = s.rink := rfl
@[simp] theorem putSetting_plans (op idx : Nat) (b : Bytes) (s : State) : (putSetting op idx b s).plans = s.plans := rfl
@[simp] theorem putSetting_solver (op idx : Nat) (b : Bytes) (s : State) : (putSetting op idx b s).solver = s.solver := rfl
@[simp] theorem putSetting_glide (op idx : Nat) (b : Bytes) (s : State) : (putSetting op idx b s).glide = s.glide := rfl
@[simp] theorem putSetting_peers (op idx : Nat) (b : Bytes) (s : State) : (putSetting op idx b s).peers = s.peers := rfl
@[simp] theorem putSetting_power (op idx : Nat) (b : Bytes) (s : State) : (putSetting op idx b s).power = s.power := rfl
@[simp] theorem putSetting_security (op idx : Nat) (b : Bytes) (s : State) : (putSetting op idx b s).security = s.security := rfl
@[simp] theorem putSetting_pins (op idx : Nat) (b : Bytes) (s : State) : (putSetting op idx b s).pins = s.pins := rfl
@[simp] theorem putSetting_memory (op idx : Nat) (b : Bytes) (s : State) : (putSetting op idx b s).memory = s.memory := rfl
@[simp] theorem putSetting_settings (op idx : Nat) (b : Bytes) (s : State) : (putSetting op idx b s).settings = assocSet s.settings (settingKey op idx) b := rfl
@[simp] theorem putSetting_tx (op idx : Nat) (b : Bytes) (s : State) : (putSetting op idx b s).tx = s.tx := rfl
@[simp] theorem putSetting_freeCount (op idx : Nat) (b : Bytes) (s : State) : (putSetting op idx b s).freeCount = s.freeCount := rfl
@[simp] theorem putSetting_pending (op idx : Nat) (b : Bytes) (s : State) : (putSetting op idx b s).pending = s.pending := rfl

@[simp] theorem modPort_dev (p : Nat) (f : EthPort → EthPort) (s : State) : (modPort p f s).dev = s.dev := rfl
@[simp] theorem modPort_host (p : Nat) (f : EthPort → EthPort) (s : State) : (modPort p f s).host = s.host := rfl
@[simp] theorem modPort_time (p : Nat) (f : EthPort → EthPort) (s : State) : (modPort p f s).time = s.time := rfl
@[simp] theorem modPort_ports (p : Nat) (f : EthPort → EthPort) (s : State) : (modPort p f s).ports = { s.ports with eth := vmod s.ports.eth p f } := rfl
@[simp] theorem modPort_patrol (p : Nat) (f : EthPort → EthPort) (s : State) : (modPort p f s).patrol = s.patrol := rfl
@[simp] theorem modPort_safety (p : Nat) (f : EthPort → EthPort) (s : State) : (modPort p f s).safety = s.safety := rfl
@[simp] theorem modPort_ingest (p : Nat) (f : EthPort → EthPort) (s : State) : (modPort p f s).ingest = s.ingest := rfl
@[simp] theorem modPort_align (p : Nat) (f : EthPort → EthPort) (s : State) : (modPort p f s).align = s.align := rfl
@[simp] theorem modPort_point (p : Nat) (f : EthPort → EthPort) (s : State) : (modPort p f s).point = s.point := rfl
@[simp] theorem modPort_rink (p : Nat) (f : EthPort → EthPort) (s : State) : (modPort p f s).rink = s.rink := rfl
@[simp] theorem modPort_plans (p : Nat) (f : EthPort → EthPort) (s : State) : (modPort p f s).plans = s.plans := rfl
@[simp] theorem modPort_solver (p : Nat) (f : EthPort → EthPort) (s : State) : (modPort p f s).solver = s.solver := rfl
@[simp] theorem modPort_glide (p : Nat) (f : EthPort → EthPort) (s : State) : (modPort p f s).glide = s.glide := rfl
@[simp] theorem modPort_peers (p : Nat) (f : EthPort → EthPort) (s : State) : (modPort p f s).peers = s.peers := rfl
@[simp] theorem modPort_power (p : Nat) (f : EthPort → EthPort) (s : State) : (modPort p f s).power = s.power := rfl
@[simp] theorem modPort_security (p : Nat) (f : EthPort → EthPort) (s : State) : (modPort p f s).security = s.security := rfl
@[simp] theorem modPort_pins (p : Nat) (f : EthPort → EthPort) (s : State) : (modPort p f s).pins = s.pins := rfl
@[simp] theorem modPort_memory (p : Nat) (f : EthPort → EthPort) (s : State) : (modPort p f s).memory = s.memory := rfl
@[simp] theorem modPort_settings (p : Nat) (f : EthPort → EthPort) (s : State) : (modPort p f s).settings = s.settings := rfl
@[simp] theorem modPort_tx (p : Nat) (f : EthPort → EthPort) (s : State) : (modPort p f s).tx = s.tx := rfl
@[simp] theorem modPort_freeCount (p : Nat) (f : EthPort → EthPort) (s : State) : (modPort p f s).freeCount = s.freeCount := rfl
@[simp] theorem modPort_pending (p : Nat) (f : EthPort → EthPort) (s : State) : (modPort p f s).pending = s.pending := rfl

@[simp] theorem modReceiver_dev (r : Nat) (f : Receiver → Receiver) (s : State) : (modReceiver r f s).dev = s.dev := rfl
@[simp] theorem modReceiver_host (r : Nat) (f : Receiver → Receiver) (s : State) : (modReceiver r f s).host = s.host := rfl
@[simp] theorem modReceiver_time (r : Nat) (f : Receiver → Receiver) (s : State) : (modReceiver r f s).time = s.time := rfl
@[simp] theorem modReceiver_ports (r : Nat) (f : Receiver → Receiver) (s : State) : (modReceiver r f s).ports = s.ports := rfl
@[simp] theorem modReceiver_patrol (r : Nat) (f : Receiver → Receiver) (s : State) : (modReceiver r f s).patrol = s.patrol := rfl
@[simp] theorem modReceiver_safety (r : Nat) (f : Receiver → Receiver) (s : State) : (modReceiver r f s).safety = s.safety := rfl
@[simp] theorem modReceiver_ingest (r : Nat) (f : Receiver → Receiver) (s : State) : (modReceiver r f s).ingest = { s.ingest with rx := vmod s.ingest.rx r f } := rfl
@[simp] theorem modReceiver_align (r : Nat) (f : Receiver → Receiver) (s : State) : (modReceiver r f s).align = s.align := rfl
@[simp] theorem modReceiver_point (r : Nat) (f : Receiver → Receiver) (s : State) : (modReceiver r f s).point = s.point := rfl
@[simp] theorem modReceiver_rink (r : Nat) (f : Receiver → Receiver) (s : State) : (modReceiver r f s).rink = s.rink := rfl
@[simp] theorem modReceiver_plans (r : Nat) (f : Receiver → Receiver) (s : State) : (modReceiver r f s).plans = s.plans := rfl
@[simp] theorem modReceiver_solver (r : Nat) (f : Receiver → Receiver) (s : State) : (modReceiver r f s).solver = s.solver := rfl
@[simp] theorem modReceiver_glide (r : Nat) (f : Receiver → Receiver) (s : State) : (modReceiver r f s).glide = s.glide := rfl
@[simp] theorem modReceiver_peers (r : Nat) (f : Receiver → Receiver) (s : State) : (modReceiver r f s).peers = s.peers := rfl
@[simp] theorem modReceiver_power (r : Nat) (f : Receiver → Receiver) (s : State) : (modReceiver r f s).power = s.power := rfl
@[simp] theorem modReceiver_security (r : Nat) (f : Receiver → Receiver) (s : State) : (modReceiver r f s).security = s.security := rfl
@[simp] theorem modReceiver_pins (r : Nat) (f : Receiver → Receiver) (s : State) : (modReceiver r f s).pins = s.pins := rfl
@[simp] theorem modReceiver_memory (r : Nat) (f : Receiver → Receiver) (s : State) : (modReceiver r f s).memory = s.memory := rfl
@[simp] theorem modReceiver_settings (r : Nat) (f : Receiver → Receiver) (s : State) : (modReceiver r f s).settings = s.settings := rfl
@[simp] theorem modReceiver_tx (r : Nat) (f : Receiver → Receiver) (s : State) : (modReceiver r f s).tx = s.tx := rfl
@[simp] theorem modReceiver_freeCount (r : Nat) (f : Receiver → Receiver) (s : State) : (modReceiver r f s).freeCount = s.freeCount := rfl
@[simp] theorem modReceiver_pending (r : Nat) (f : Receiver → Receiver) (s : State) : (modReceiver r f s).pending = s.pending := rfl

@[simp] theorem modSource_dev (i : Nat) (f : Source → Source) (s : State) : (modSource i f s).dev = s.dev := rfl
@[simp] theorem modSource_host (i : Nat) (f : Source → Source) (s : State) : (modSource i f s).host = s.host := rfl
@[simp] theorem modSource_time (i : Nat) (f : Source → Source) (s : State) : (modSource i f s).time = s.time := rfl
@[simp] theorem modSource_ports (i : Nat) (f : Source → Source) (s : State) : (modSource i f s).ports = s.ports := rfl
@[simp] theorem modSource_patrol (i : Nat) (f : Source → Source) (s : State) : (modSource i f s).patrol = s.patrol := rfl
@[simp] theorem modSource_safety (i : Nat) (f : Source → Source) (s : State) : (modSource i f s).safety = s.safety := rfl
@[simp] theorem modSource_ingest (i : Nat) (f : Source → Source) (s : State) : (modSource i f s).ingest = { s.ingest with sources := vmod s.ingest.sources i f } := rfl
@[simp] theorem modSource_align (i : Nat) (f : Source → Source) (s : State) : (modSource i f s).align = s.align := rfl
@[simp] theorem modSource_point (i : Nat) (f : Source → Source) (s : State) : (modSource i f s).point = s.point := rfl
@[simp] theorem modSource_rink (i : Nat) (f : Source → Source) (s : State) : (modSource i f s).rink = s.rink := rfl
@[simp] theorem modSource_plans (i : Nat) (f : Source → Source) (s : State) : (modSource i f s).plans = s.plans := rfl
@[simp] theorem modSource_solver (i : Nat) (f : Source → Source) (s : State) : (modSource i f s).solver = s.solver := rfl
@[simp] theorem modSource_glide (i : Nat) (f : Source → Source) (s : State) : (modSource i f s).glide = s.glide := rfl
@[simp] theorem modSource_peers (i : Nat) (f : Source → Source) (s : State) : (modSource i f s).peers = s.peers := rfl
@[simp] theorem modSource_power (i : Nat) (f : Source → Source) (s : State) : (modSource i f s).power = s.power := rfl
@[simp] theorem modSource_security (i : Nat) (f : Source → Source) (s : State) : (modSource i f s).security = s.security := rfl
@[simp] theorem modSource_pins (i : Nat) (f : Source → Source) (s : State) : (modSource i f s).pins = s.pins := rfl
@[simp] theorem modSource_memory (i : Nat) (f : Source → Source) (s : State) : (modSource i f s).memory = s.memory := rfl
@[simp] theorem modSource_settings (i : Nat) (f : Source → Source) (s : State) : (modSource i f s).settings = s.settings := rfl
@[simp] theorem modSource_tx (i : Nat) (f : Source → Source) (s : State) : (modSource i f s).tx = s.tx := rfl
@[simp] theorem modSource_freeCount (i : Nat) (f : Source → Source) (s : State) : (modSource i f s).freeCount = s.freeCount := rfl
@[simp] theorem modSource_pending (i : Nat) (f : Source → Source) (s : State) : (modSource i f s).pending = s.pending := rfl

@[simp] theorem modTrust_dev (i : Nat) (f : SourceTrust → SourceTrust) (s : State) : (modTrust i f s).dev = s.dev := rfl
@[simp] theorem modTrust_host (i : Nat) (f : SourceTrust → SourceTrust) (s : State) : (modTrust i f s).host = s.host := rfl
@[simp] theorem modTrust_time (i : Nat) (f : SourceTrust → SourceTrust) (s : State) : (modTrust i f s).time = s.time := rfl
@[simp] theorem modTrust_ports (i : Nat) (f : SourceTrust → SourceTrust) (s : State) : (modTrust i f s).ports = s.ports := rfl
@[simp] theorem modTrust_patrol (i : Nat) (f : SourceTrust → SourceTrust) (s : State) : (modTrust i f s).patrol = s.patrol := rfl
@[simp] theorem modTrust_safety (i : Nat) (f : SourceTrust → SourceTrust) (s : State) : (modTrust i f s).safety = s.safety := rfl
@[simp] theorem modTrust_ingest (i : Nat) (f : SourceTrust → SourceTrust) (s : State) : (modTrust i f s).ingest = s.ingest := rfl
@[simp] theorem modTrust_align (i : Nat) (f : SourceTrust → SourceTrust) (s : State) : (modTrust i f s).align = { s.align with trust := vmod s.align.trust i f } := rfl
@[simp] theorem modTrust_point (i : Nat) (f : SourceTrust → SourceTrust) (s : State) : (modTrust i f s).point = s.point := rfl
@[simp] theorem modTrust_rink (i : Nat) (f : SourceTrust → SourceTrust) (s : State) : (modTrust i f s).rink = s.rink := rfl
@[simp] theorem modTrust_plans (i : Nat) (f : SourceTrust → SourceTrust) (s : State) : (modTrust i f s).plans = s.plans := rfl
@[simp] theorem modTrust_solver (i : Nat) (f : SourceTrust → SourceTrust) (s : State) : (modTrust i f s).solver = s.solver := rfl
@[simp] theorem modTrust_glide (i : Nat) (f : SourceTrust → SourceTrust) (s : State) : (modTrust i f s).glide = s.glide := rfl
@[simp] theorem modTrust_peers (i : Nat) (f : SourceTrust → SourceTrust) (s : State) : (modTrust i f s).peers = s.peers := rfl
@[simp] theorem modTrust_power (i : Nat) (f : SourceTrust → SourceTrust) (s : State) : (modTrust i f s).power = s.power := rfl
@[simp] theorem modTrust_security (i : Nat) (f : SourceTrust → SourceTrust) (s : State) : (modTrust i f s).security = s.security := rfl
@[simp] theorem modTrust_pins (i : Nat) (f : SourceTrust → SourceTrust) (s : State) : (modTrust i f s).pins = s.pins := rfl
@[simp] theorem modTrust_memory (i : Nat) (f : SourceTrust → SourceTrust) (s : State) : (modTrust i f s).memory = s.memory := rfl
@[simp] theorem modTrust_settings (i : Nat) (f : SourceTrust → SourceTrust) (s : State) : (modTrust i f s).settings = s.settings := rfl
@[simp] theorem modTrust_tx (i : Nat) (f : SourceTrust → SourceTrust) (s : State) : (modTrust i f s).tx = s.tx := rfl
@[simp] theorem modTrust_freeCount (i : Nat) (f : SourceTrust → SourceTrust) (s : State) : (modTrust i f s).freeCount = s.freeCount := rfl
@[simp] theorem modTrust_pending (i : Nat) (f : SourceTrust → SourceTrust) (s : State) : (modTrust i f s).pending = s.pending := rfl

@[simp] theorem modSlot_dev (n : Nat) (f : Slot → Slot) (s : State) : (modSlot n f s).dev = s.dev := rfl
@[simp] theorem modSlot_host (n : Nat) (f : Slot → Slot) (s : State) : (modSlot n f s).host = s.host := rfl
@[simp] theorem modSlot_time (n : Nat) (f : Slot → Slot) (s : State) : (modSlot n f s).time = s.time := rfl
@[simp] theorem modSlot_ports (n : Nat) (f : Slot → Slot) (s : State) : (modSlot n f s).ports = s.ports := rfl
@[simp] theorem modSlot_patrol (n : Nat) (f : Slot → Slot) (s : State) : (modSlot n f s).patrol = s.patrol := rfl
@[simp] theorem modSlot_safety (n : Nat) (f : Slot → Slot) (s : State) : (modSlot n f s).safety = s.safety := rfl
@[simp] theorem modSlot_ingest (n : Nat) (f : Slot → Slot) (s : State) : (modSlot n f s).ingest = s.ingest := rfl
@[simp] theorem modSlot_align (n : Nat) (f : Slot → Slot) (s : State) : (modSlot n f s).align = s.align := rfl
@[simp] theorem modSlot_point (n : Nat) (f : Slot → Slot) (s : State) : (modSlot n f s).point = s.point := rfl
@[simp] theorem modSlot_rink (n : Nat) (f : Slot → Slot) (s : State) : (modSlot n f s).rink = { s.rink with slots := vmod s.rink.slots n f } := rfl
@[simp] theorem modSlot_plans (n : Nat) (f : Slot → Slot) (s : State) : (modSlot n f s).plans = s.plans := rfl
@[simp] theorem modSlot_solver (n : Nat) (f : Slot → Slot) (s : State) : (modSlot n f s).solver = s.solver := rfl
@[simp] theorem modSlot_glide (n : Nat) (f : Slot → Slot) (s : State) : (modSlot n f s).glide = s.glide := rfl
@[simp] theorem modSlot_peers (n : Nat) (f : Slot → Slot) (s : State) : (modSlot n f s).peers = s.peers := rfl
@[simp] theorem modSlot_power (n : Nat) (f : Slot → Slot) (s : State) : (modSlot n f s).power = s.power := rfl
@[simp] theorem modSlot_security (n : Nat) (f : Slot → Slot) (s : State) : (modSlot n f s).security = s.security := rfl
@[simp] theorem modSlot_pins (n : Nat) (f : Slot → Slot) (s : State) : (modSlot n f s).pins = s.pins := rfl
@[simp] theorem modSlot_memory (n : Nat) (f : Slot → Slot) (s : State) : (modSlot n f s).memory = s.memory := rfl
@[simp] theorem modSlot_settings (n : Nat) (f : Slot → Slot) (s : State) : (modSlot n f s).settings = s.settings := rfl
@[simp] theorem modSlot_tx (n : Nat) (f : Slot → Slot) (s : State) : (modSlot n f s).tx = s.tx := rfl
@[simp] theorem modSlot_freeCount (n : Nat) (f : Slot → Slot) (s : State) : (modSlot n f s).freeCount = s.freeCount := rfl
@[simp] theorem modSlot_pending (n : Nat) (f : Slot → Slot) (s : State) : (modSlot n f s).pending = s.pending := rfl

@[simp] theorem modTile_dev (n : Nat) (f : Tile → Tile) (s : State) : (modTile n f s).dev = s.dev := rfl
@[simp] theorem modTile_host (n : Nat) (f : Tile → Tile) (s : State) : (modTile n f s).host = s.host := rfl
@[simp] theorem modTile_time (n : Nat) (f : Tile → Tile) (s : State) : (modTile n f s).time = s.time := rfl
@[simp] theorem modTile_ports (n : Nat) (f : Tile → Tile) (s : State) : (modTile n f s).ports = s.ports := rfl
@[simp] theorem modTile_patrol (n : Nat) (f : Tile → Tile) (s : State) : (modTile n f s).patrol = s.patrol := rfl
@[simp] theorem modTile_safety (n : Nat) (f : Tile → Tile) (s : State) : (modTile n f s).safety = s.safety := rfl
@[simp] theorem modTile_ingest (n : Nat) (f : Tile → Tile) (s : State) : (modTile n f s).ingest = s.ingest := rfl
@[simp] theorem modTile_align (n : Nat) (f : Tile → Tile) (s : State) : (modTile n f s).align = s.align := rfl
@[simp] theorem modTile_point (n : Nat) (f : Tile → Tile) (s : State) : (modTile n f s).point = s.point := rfl
@[simp] theorem modTile_rink (n : Nat) (f : Tile → Tile) (s : State) : (modTile n f s).rink = { s.rink with tiles := vmod s.rink.tiles n f } := rfl
@[simp] theorem modTile_plans (n : Nat) (f : Tile → Tile) (s : State) : (modTile n f s).plans = s.plans := rfl
@[simp] theorem modTile_solver (n : Nat) (f : Tile → Tile) (s : State) : (modTile n f s).solver = s.solver := rfl
@[simp] theorem modTile_glide (n : Nat) (f : Tile → Tile) (s : State) : (modTile n f s).glide = s.glide := rfl
@[simp] theorem modTile_peers (n : Nat) (f : Tile → Tile) (s : State) : (modTile n f s).peers = s.peers := rfl
@[simp] theorem modTile_power (n : Nat) (f : Tile → Tile) (s : State) : (modTile n f s).power = s.power := rfl
@[simp] theorem modTile_security (n : Nat) (f : Tile → Tile) (s : State) : (modTile n f s).security = s.security := rfl
@[simp] theorem modTile_pins (n : Nat) (f : Tile → Tile) (s : State) : (modTile n f s).pins = s.pins := rfl
@[simp] theorem modTile_memory (n : Nat) (f : Tile → Tile) (s : State) : (modTile n f s).memory = s.memory := rfl
@[simp] theorem modTile_settings (n : Nat) (f : Tile → Tile) (s : State) : (modTile n f s).settings = s.settings := rfl
@[simp] theorem modTile_tx (n : Nat) (f : Tile → Tile) (s : State) : (modTile n f s).tx = s.tx := rfl
@[simp] theorem modTile_freeCount (n : Nat) (f : Tile → Tile) (s : State) : (modTile n f s).freeCount = s.freeCount := rfl
@[simp] theorem modTile_pending (n : Nat) (f : Tile → Tile) (s : State) : (modTile n f s).pending = s.pending := rfl

@[simp] theorem modCounters_dev (f : RinkCounters → RinkCounters) (s : State) : (modCounters f s).dev = s.dev := rfl
@[simp] theorem modCounters_host (f : RinkCounters → RinkCounters) (s : State) : (modCounters f s).host = s.host := rfl
@[simp] theorem modCounters_time (f : RinkCounters → RinkCounters) (s : State) : (modCounters f s).time = s.time := rfl
@[simp] theorem modCounters_ports (f : RinkCounters → RinkCounters) (s : State) : (modCounters f s).ports = s.ports := rfl
@[simp] theorem modCounters_patrol (f : RinkCounters → RinkCounters) (s : State) : (modCounters f s).patrol = s.patrol := rfl
@[simp] theorem modCounters_safety (f : RinkCounters → RinkCounters) (s : State) : (modCounters f s).safety = s.safety := rfl
@[simp] theorem modCounters_ingest (f : RinkCounters → RinkCounters) (s : State) : (modCounters f s).ingest = s.ingest := rfl
@[simp] theorem modCounters_align (f : RinkCounters → RinkCounters) (s : State) : (modCounters f s).align = s.align := rfl
@[simp] theorem modCounters_point (f : RinkCounters → RinkCounters) (s : State) : (modCounters f s).point = s.point := rfl
@[simp] theorem modCounters_rink (f : RinkCounters → RinkCounters) (s : State) : (modCounters f s).rink = { s.rink with counters := f s.rink.counters } := rfl
@[simp] theorem modCounters_plans (f : RinkCounters → RinkCounters) (s : State) : (modCounters f s).plans = s.plans := rfl
@[simp] theorem modCounters_solver (f : RinkCounters → RinkCounters) (s : State) : (modCounters f s).solver = s.solver := rfl
@[simp] theorem modCounters_glide (f : RinkCounters → RinkCounters) (s : State) : (modCounters f s).glide = s.glide := rfl
@[simp] theorem modCounters_peers (f : RinkCounters → RinkCounters) (s : State) : (modCounters f s).peers = s.peers := rfl
@[simp] theorem modCounters_power (f : RinkCounters → RinkCounters) (s : State) : (modCounters f s).power = s.power := rfl
@[simp] theorem modCounters_security (f : RinkCounters → RinkCounters) (s : State) : (modCounters f s).security = s.security := rfl
@[simp] theorem modCounters_pins (f : RinkCounters → RinkCounters) (s : State) : (modCounters f s).pins = s.pins := rfl
@[simp] theorem modCounters_memory (f : RinkCounters → RinkCounters) (s : State) : (modCounters f s).memory = s.memory := rfl
@[simp] theorem modCounters_settings (f : RinkCounters → RinkCounters) (s : State) : (modCounters f s).settings = s.settings := rfl
@[simp] theorem modCounters_tx (f : RinkCounters → RinkCounters) (s : State) : (modCounters f s).tx = s.tx := rfl
@[simp] theorem modCounters_freeCount (f : RinkCounters → RinkCounters) (s : State) : (modCounters f s).freeCount = s.freeCount := rfl
@[simp] theorem modCounters_pending (f : RinkCounters → RinkCounters) (s : State) : (modCounters f s).pending = s.pending := rfl

@[simp] theorem modGate_dev (g : Nat) (f : Gate → Gate) (s : State) : (modGate g f s).dev = s.dev := rfl
@[simp] theorem modGate_host (g : Nat) (f : Gate → Gate) (s : State) : (modGate g f s).host = s.host := rfl
@[simp] theorem modGate_time (g : Nat) (f : Gate → Gate) (s : State) : (modGate g f s).time = s.time := rfl
@[simp] theorem modGate_ports (g : Nat) (f : Gate → Gate) (s : State) : (modGate g f s).ports = s.ports := rfl
@[simp] theorem modGate_patrol (g : Nat) (f : Gate → Gate) (s : State) : (modGate g f s).patrol = s.patrol := rfl
@[simp] theorem modGate_safety (g : Nat) (f : Gate → Gate) (s : State) : (modGate g f s).safety = { s.safety with gates := vmod s.safety.gates g f } := rfl
@[simp] theorem modGate_ingest (g : Nat) (f : Gate → Gate) (s : State) : (modGate g f s).ingest = s.ingest := rfl
@[simp] theorem modGate_align (g : Nat) (f : Gate → Gate) (s : State) : (modGate g f s).align = s.align := rfl
@[simp] theorem modGate_point (g : Nat) (f : Gate → Gate) (s : State) : (modGate g f s).point = s.point := rfl
@[simp] theorem modGate_rink (g : Nat) (f : Gate → Gate) (s : State) : (modGate g f s).rink = s.rink := rfl
@[simp] theorem modGate_plans (g : Nat) (f : Gate → Gate) (s : State) : (modGate g f s).plans = s.plans := rfl
@[simp] theorem modGate_solver (g : Nat) (f : Gate → Gate) (s : State) : (modGate g f s).solver = s.solver := rfl
@[simp] theorem modGate_glide (g : Nat) (f : Gate → Gate) (s : State) : (modGate g f s).glide = s.glide := rfl
@[simp] theorem modGate_peers (g : Nat) (f : Gate → Gate) (s : State) : (modGate g f s).peers = s.peers := rfl
@[simp] theorem modGate_power (g : Nat) (f : Gate → Gate) (s : State) : (modGate g f s).power = s.power := rfl
@[simp] theorem modGate_security (g : Nat) (f : Gate → Gate) (s : State) : (modGate g f s).security = s.security := rfl
@[simp] theorem modGate_pins (g : Nat) (f : Gate → Gate) (s : State) : (modGate g f s).pins = s.pins := rfl
@[simp] theorem modGate_memory (g : Nat) (f : Gate → Gate) (s : State) : (modGate g f s).memory = s.memory := rfl
@[simp] theorem modGate_settings (g : Nat) (f : Gate → Gate) (s : State) : (modGate g f s).settings = s.settings := rfl
@[simp] theorem modGate_tx (g : Nat) (f : Gate → Gate) (s : State) : (modGate g f s).tx = s.tx := rfl
@[simp] theorem modGate_freeCount (g : Nat) (f : Gate → Gate) (s : State) : (modGate g f s).freeCount = s.freeCount := rfl
@[simp] theorem modGate_pending (g : Nat) (f : Gate → Gate) (s : State) : (modGate g f s).pending = s.pending := rfl

@[simp] theorem modGroomer_dev (r : Nat) (f : Groomer → Groomer) (s : State) : (modGroomer r f s).dev = s.dev := rfl
@[simp] theorem modGroomer_host (r : Nat) (f : Groomer → Groomer) (s : State) : (modGroomer r f s).host = s.host := rfl
@[simp] theorem modGroomer_time (r : Nat) (f : Groomer → Groomer) (s : State) : (modGroomer r f s).time = s.time := rfl
@[simp] theorem modGroomer_ports (r : Nat) (f : Groomer → Groomer) (s : State) : (modGroomer r f s).ports = s.ports := rfl
@[simp] theorem modGroomer_patrol (r : Nat) (f : Groomer → Groomer) (s : State) : (modGroomer r f s).patrol = s.patrol := rfl
@[simp] theorem modGroomer_safety (r : Nat) (f : Groomer → Groomer) (s : State) : (modGroomer r f s).safety = { s.safety with groomers := vmod s.safety.groomers r f } := rfl
@[simp] theorem modGroomer_ingest (r : Nat) (f : Groomer → Groomer) (s : State) : (modGroomer r f s).ingest = s.ingest := rfl
@[simp] theorem modGroomer_align (r : Nat) (f : Groomer → Groomer) (s : State) : (modGroomer r f s).align = s.align := rfl
@[simp] theorem modGroomer_point (r : Nat) (f : Groomer → Groomer) (s : State) : (modGroomer r f s).point = s.point := rfl
@[simp] theorem modGroomer_rink (r : Nat) (f : Groomer → Groomer) (s : State) : (modGroomer r f s).rink = s.rink := rfl
@[simp] theorem modGroomer_plans (r : Nat) (f : Groomer → Groomer) (s : State) : (modGroomer r f s).plans = s.plans := rfl
@[simp] theorem modGroomer_solver (r : Nat) (f : Groomer → Groomer) (s : State) : (modGroomer r f s).solver = s.solver := rfl
@[simp] theorem modGroomer_glide (r : Nat) (f : Groomer → Groomer) (s : State) : (modGroomer r f s).glide = s.glide := rfl
@[simp] theorem modGroomer_peers (r : Nat) (f : Groomer → Groomer) (s : State) : (modGroomer r f s).peers = s.peers := rfl
@[simp] theorem modGroomer_power (r : Nat) (f : Groomer → Groomer) (s : State) : (modGroomer r f s).power = s.power := rfl
@[simp] theorem modGroomer_security (r : Nat) (f : Groomer → Groomer) (s : State) : (modGroomer r f s).security = s.security := rfl
@[simp] theorem modGroomer_pins (r : Nat) (f : Groomer → Groomer) (s : State) : (modGroomer r f s).pins = s.pins := rfl
@[simp] theorem modGroomer_memory (r : Nat) (f : Groomer → Groomer) (s : State) : (modGroomer r f s).memory = s.memory := rfl
@[simp] theorem modGroomer_settings (r : Nat) (f : Groomer → Groomer) (s : State) : (modGroomer r f s).settings = s.settings := rfl
@[simp] theorem modGroomer_tx (r : Nat) (f : Groomer → Groomer) (s : State) : (modGroomer r f s).tx = s.tx := rfl
@[simp] theorem modGroomer_freeCount (r : Nat) (f : Groomer → Groomer) (s : State) : (modGroomer r f s).freeCount = s.freeCount := rfl
@[simp] theorem modGroomer_pending (r : Nat) (f : Groomer → Groomer) (s : State) : (modGroomer r f s).pending = s.pending := rfl

@[simp] theorem emit_dev (e : Emission) (s : State) : (emit e s).dev = s.dev := rfl
@[simp] theorem emit_host (e : Emission) (s : State) : (emit e s).host = s.host := rfl
@[simp] theorem emit_time (e : Emission) (s : State) : (emit e s).time = s.time := rfl
@[simp] theorem emit_ports (e : Emission) (s : State) : (emit e s).ports = s.ports := rfl
@[simp] theorem emit_patrol (e : Emission) (s : State) : (emit e s).patrol = s.patrol := rfl
@[simp] theorem emit_safety (e : Emission) (s : State) : (emit e s).safety = s.safety := rfl
@[simp] theorem emit_ingest (e : Emission) (s : State) : (emit e s).ingest = s.ingest := rfl
@[simp] theorem emit_align (e : Emission) (s : State) : (emit e s).align = s.align := rfl
@[simp] theorem emit_point (e : Emission) (s : State) : (emit e s).point = s.point := rfl
@[simp] theorem emit_rink (e : Emission) (s : State) : (emit e s).rink = s.rink := rfl
@[simp] theorem emit_plans (e : Emission) (s : State) : (emit e s).plans = s.plans := rfl
@[simp] theorem emit_solver (e : Emission) (s : State) : (emit e s).solver = s.solver := rfl
@[simp] theorem emit_glide (e : Emission) (s : State) : (emit e s).glide = s.glide := rfl
@[simp] theorem emit_peers (e : Emission) (s : State) : (emit e s).peers = s.peers := rfl
@[simp] theorem emit_power (e : Emission) (s : State) : (emit e s).power = s.power := rfl
@[simp] theorem emit_security (e : Emission) (s : State) : (emit e s).security = s.security := rfl
@[simp] theorem emit_pins (e : Emission) (s : State) : (emit e s).pins = s.pins := rfl
@[simp] theorem emit_memory (e : Emission) (s : State) : (emit e s).memory = s.memory := rfl
@[simp] theorem emit_settings (e : Emission) (s : State) : (emit e s).settings = s.settings := rfl
@[simp] theorem emit_tx (e : Emission) (s : State) : (emit e s).tx = s.tx ++ [e] := rfl
@[simp] theorem emit_freeCount (e : Emission) (s : State) : (emit e s).freeCount = s.freeCount := rfl
@[simp] theorem emit_pending (e : Emission) (s : State) : (emit e s).pending = s.pending := rfl

@[simp] theorem spent_dev (s : State) : (spent s).dev = s.dev := rfl
@[simp] theorem spent_host (s : State) : (spent s).host = s.host := rfl
@[simp] theorem spent_time (s : State) : (spent s).time = s.time := rfl
@[simp] theorem spent_ports (s : State) : (spent s).ports = s.ports := rfl
@[simp] theorem spent_patrol (s : State) : (spent s).patrol = s.patrol := rfl
@[simp] theorem spent_safety (s : State) : (spent s).safety = s.safety := rfl
@[simp] theorem spent_ingest (s : State) : (spent s).ingest = s.ingest := rfl
@[simp] theorem spent_align (s : State) : (spent s).align = s.align := rfl
@[simp] theorem spent_point (s : State) : (spent s).point = s.point := rfl
@[simp] theorem spent_rink (s : State) : (spent s).rink = s.rink := rfl
@[simp] theorem spent_plans (s : State) : (spent s).plans = s.plans := rfl
@[simp] theorem spent_solver (s : State) : (spent s).solver = s.solver := rfl
@[simp] theorem spent_glide (s : State) : (spent s).glide = s.glide := rfl
@[simp] theorem spent_peers (s : State) : (spent s).peers = s.peers := rfl
@[simp] theorem spent_power (s : State) : (spent s).power = s.power := rfl
@[simp] theorem spent_security (s : State) : (spent s).security = s.security := rfl
@[simp] theorem spent_pins (s : State) : (spent s).pins = s.pins := rfl
@[simp] theorem spent_memory (s : State) : (spent s).memory = s.memory := rfl
@[simp] theorem spent_settings (s : State) : (spent s).settings = s.settings := rfl
@[simp] theorem spent_tx (s : State) : (spent s).tx = s.tx := rfl
@[simp] theorem spent_freeCount (s : State) : (spent s).freeCount = s.freeCount + 1 := rfl
@[simp] theorem spent_pending (s : State) : (spent s).pending = s.pending := rfl

end Sys2Proof.Machine
end

