-- ==== Sys2Proof/Laws/Shared.lean ====
section
/-! SUPPORT. What the shared operations do, said once: what a command settles at its end, the rows of the opcodes, replies,
memory operations. -/

namespace Sys2Proof.Machine

/-! ## What every command settles at its end -/

@[simp] theorem notice_dev (b : Nat) (s : State) : (notice b s).dev = s.dev := rfl
@[simp] theorem notice_time (b : Nat) (s : State) : (notice b s).time = s.time := rfl
@[simp] theorem notice_ports (b : Nat) (s : State) : (notice b s).ports = s.ports := rfl
@[simp] theorem notice_patrol (b : Nat) (s : State) : (notice b s).patrol = s.patrol := rfl
@[simp] theorem notice_safety (b : Nat) (s : State) : (notice b s).safety = s.safety := rfl
@[simp] theorem notice_ingest (b : Nat) (s : State) : (notice b s).ingest = s.ingest := rfl
@[simp] theorem notice_align (b : Nat) (s : State) : (notice b s).align = s.align := rfl
@[simp] theorem notice_point (b : Nat) (s : State) : (notice b s).point = s.point := rfl
@[simp] theorem notice_rink (b : Nat) (s : State) : (notice b s).rink = s.rink := rfl
@[simp] theorem notice_plans (b : Nat) (s : State) : (notice b s).plans = s.plans := rfl
@[simp] theorem notice_solver (b : Nat) (s : State) : (notice b s).solver = s.solver := rfl
@[simp] theorem notice_glide (b : Nat) (s : State) : (notice b s).glide = s.glide := rfl
@[simp] theorem notice_peers (b : Nat) (s : State) : (notice b s).peers = s.peers := rfl
@[simp] theorem notice_power (b : Nat) (s : State) : (notice b s).power = s.power := rfl
@[simp] theorem notice_security (b : Nat) (s : State) : (notice b s).security = s.security := rfl
@[simp] theorem notice_pins (b : Nat) (s : State) : (notice b s).pins = s.pins := rfl
@[simp] theorem notice_memory (b : Nat) (s : State) : (notice b s).memory = s.memory := rfl
@[simp] theorem notice_settings (b : Nat) (s : State) : (notice b s).settings = s.settings := rfl
@[simp] theorem notice_tx (b : Nat) (s : State) : (notice b s).tx = s.tx := rfl
@[simp] theorem notice_freeCount (b : Nat) (s : State) : (notice b s).freeCount = s.freeCount := rfl
@[simp] theorem notice_pending (b : Nat) (s : State) : (notice b s).pending = s.pending := rfl

@[simp] theorem settleNotice_dev (o s : State) : (settleNotice o s).dev = s.dev := by
  unfold settleNotice; dsimp only; split_ifs <;> rfl
@[simp] theorem settleNotice_time (o s : State) : (settleNotice o s).time = s.time := by
  unfold settleNotice; dsimp only; split_ifs <;> rfl
@[simp] theorem settleNotice_ports (o s : State) : (settleNotice o s).ports = s.ports := by
  unfold settleNotice; dsimp only; split_ifs <;> rfl
@[simp] theorem settleNotice_patrol (o s : State) : (settleNotice o s).patrol = s.patrol := by
  unfold settleNotice; dsimp only; split_ifs <;> rfl
@[simp] theorem settleNotice_safety (o s : State) : (settleNotice o s).safety = s.safety := by
  unfold settleNotice; dsimp only; split_ifs <;> rfl
@[simp] theorem settleNotice_ingest (o s : State) : (settleNotice o s).ingest = s.ingest := by
  unfold settleNotice; dsimp only; split_ifs <;> rfl
@[simp] theorem settleNotice_align (o s : State) : (settleNotice o s).align = s.align := by
  unfold settleNotice; dsimp only; split_ifs <;> rfl
@[simp] theorem settleNotice_point (o s : State) : (settleNotice o s).point = s.point := by
  unfold settleNotice; dsimp only; split_ifs <;> rfl
@[simp] theorem settleNotice_rink (o s : State) : (settleNotice o s).rink = s.rink := by
  unfold settleNotice; dsimp only; split_ifs <;> rfl
@[simp] theorem settleNotice_plans (o s : State) : (settleNotice o s).plans = s.plans := by
  unfold settleNotice; dsimp only; split_ifs <;> rfl
@[simp] theorem settleNotice_solver (o s : State) : (settleNotice o s).solver = s.solver := by
  unfold settleNotice; dsimp only; split_ifs <;> rfl
@[simp] theorem settleNotice_glide (o s : State) : (settleNotice o s).glide = s.glide := by
  unfold settleNotice; dsimp only; split_ifs <;> rfl
@[simp] theorem settleNotice_peers (o s : State) : (settleNotice o s).peers = s.peers := by
  unfold settleNotice; dsimp only; split_ifs <;> rfl
@[simp] theorem settleNotice_power (o s : State) : (settleNotice o s).power = s.power := by
  unfold settleNotice; dsimp only; split_ifs <;> rfl
@[simp] theorem settleNotice_security (o s : State) : (settleNotice o s).security = s.security := by
  unfold settleNotice; dsimp only; split_ifs <;> rfl
@[simp] theorem settleNotice_pins (o s : State) : (settleNotice o s).pins = s.pins := by
  unfold settleNotice; dsimp only; split_ifs <;> rfl
@[simp] theorem settleNotice_memory (o s : State) : (settleNotice o s).memory = s.memory := by
  unfold settleNotice; dsimp only; split_ifs <;> rfl
@[simp] theorem settleNotice_settings (o s : State) : (settleNotice o s).settings = s.settings := by
  unfold settleNotice; dsimp only; split_ifs <;> rfl
@[simp] theorem settleNotice_tx (o s : State) : (settleNotice o s).tx = s.tx := by
  unfold settleNotice; dsimp only; split_ifs <;> rfl
@[simp] theorem settleNotice_freeCount (o s : State) : (settleNotice o s).freeCount = s.freeCount := by
  unfold settleNotice; dsimp only; split_ifs <;> rfl
@[simp] theorem settleNotice_pending (o s : State) : (settleNotice o s).pending = s.pending := by
  unfold settleNotice; dsimp only; split_ifs <;> rfl

/-- What no notice touches, no list of notices touches. -/
theorem foldl_notice {α : Type} (f : State → α) (h : ∀ b s, f (notice b s) = f s) (l : List ComingNotice) :
    ∀ s : State, f (l.foldl (fun (t : State) c => notice c.bit t) s) = f s := by
  induction l with
  | nil => intro s; rfl
  | cons c l ih => intro s; exact (ih _).trans (h _ _)

/-- What a state keeps when notices are given and when the list of those to come changes, the notices due leave. -/
theorem noticeReady_keeps {α : Type} (f : State → α) (h : ∀ b s, f (notice b s) = f s)
    (h' : ∀ (s : State) l, f { s with host := { s.host with notices := { s.host.notices with coming := l } } } = f s)
    (s : State) : f (noticeReady s) = f s := (foldl_notice f h _ _).trans (h' s _)

@[simp] theorem noticeReady_dev (s : State) : (noticeReady s).dev = s.dev :=
  noticeReady_keeps (·.dev) (fun _ _ => rfl) (fun _ _ => rfl) s
@[simp] theorem noticeReady_time (s : State) : (noticeReady s).time = s.time :=
  noticeReady_keeps (·.time) (fun _ _ => rfl) (fun _ _ => rfl) s
@[simp] theorem noticeReady_ports (s : State) : (noticeReady s).ports = s.ports :=
  noticeReady_keeps (·.ports) (fun _ _ => rfl) (fun _ _ => rfl) s
@[simp] theorem noticeReady_patrol (s : State) : (noticeReady s).patrol = s.patrol :=
  noticeReady_keeps (·.patrol) (fun _ _ => rfl) (fun _ _ => rfl) s
@[simp] theorem noticeReady_safety (s : State) : (noticeReady s).safety = s.safety :=
  noticeReady_keeps (·.safety) (fun _ _ => rfl) (fun _ _ => rfl) s
@[simp] theorem noticeReady_ingest (s : State) : (noticeReady s).ingest = s.ingest :=
  noticeReady_keeps (·.ingest) (fun _ _ => rfl) (fun _ _ => rfl) s
@[simp] theorem noticeReady_align (s : State) : (noticeReady s).align = s.align :=
  noticeReady_keeps (·.align) (fun _ _ => rfl) (fun _ _ => rfl) s
@[simp] theorem noticeReady_point (s : State) : (noticeReady s).point = s.point :=
  noticeReady_keeps (·.point) (fun _ _ => rfl) (fun _ _ => rfl) s
@[simp] theorem noticeReady_rink (s : State) : (noticeReady s).rink = s.rink :=
  noticeReady_keeps (·.rink) (fun _ _ => rfl) (fun _ _ => rfl) s
@[simp] theorem noticeReady_plans (s : State) : (noticeReady s).plans = s.plans :=
  noticeReady_keeps (·.plans) (fun _ _ => rfl) (fun _ _ => rfl) s
@[simp] theorem noticeReady_solver (s : State) : (noticeReady s).solver = s.solver :=
  noticeReady_keeps (·.solver) (fun _ _ => rfl) (fun _ _ => rfl) s
@[simp] theorem noticeReady_glide (s : State) : (noticeReady s).glide = s.glide :=
  noticeReady_keeps (·.glide) (fun _ _ => rfl) (fun _ _ => rfl) s
@[simp] theorem noticeReady_peers (s : State) : (noticeReady s).peers = s.peers :=
  noticeReady_keeps (·.peers) (fun _ _ => rfl) (fun _ _ => rfl) s
@[simp] theorem noticeReady_power (s : State) : (noticeReady s).power = s.power :=
  noticeReady_keeps (·.power) (fun _ _ => rfl) (fun _ _ => rfl) s
@[simp] theorem noticeReady_security (s : State) : (noticeReady s).security = s.security :=
  noticeReady_keeps (·.security) (fun _ _ => rfl) (fun _ _ => rfl) s
@[simp] theorem noticeReady_pins (s : State) : (noticeReady s).pins = s.pins :=
  noticeReady_keeps (·.pins) (fun _ _ => rfl) (fun _ _ => rfl) s
@[simp] theorem noticeReady_memory (s : State) : (noticeReady s).memory = s.memory :=
  noticeReady_keeps (·.memory) (fun _ _ => rfl) (fun _ _ => rfl) s
@[simp] theorem noticeReady_settings (s : State) : (noticeReady s).settings = s.settings :=
  noticeReady_keeps (·.settings) (fun _ _ => rfl) (fun _ _ => rfl) s
@[simp] theorem noticeReady_tx (s : State) : (noticeReady s).tx = s.tx :=
  noticeReady_keeps (·.tx) (fun _ _ => rfl) (fun _ _ => rfl) s
@[simp] theorem noticeReady_freeCount (s : State) : (noticeReady s).freeCount = s.freeCount :=
  noticeReady_keeps (·.freeCount) (fun _ _ => rfl) (fun _ _ => rfl) s
@[simp] theorem noticeReady_pending (s : State) : (noticeReady s).pending = s.pending :=
  noticeReady_keeps (·.pending) (fun _ _ => rfl) (fun _ _ => rfl) s

@[simp] theorem settle_time (o s : State) : (settle o s).time = s.time :=
  (settleNotice_time o _).trans (noticeReady_time (settleFlags s))
@[simp] theorem settle_ports (o s : State) : (settle o s).ports = s.ports :=
  (settleNotice_ports o _).trans (noticeReady_ports (settleFlags s))
@[simp] theorem settle_patrol (o s : State) : (settle o s).patrol = s.patrol :=
  (settleNotice_patrol o _).trans (noticeReady_patrol (settleFlags s))
@[simp] theorem settle_safety (o s : State) : (settle o s).safety = s.safety :=
  (settleNotice_safety o _).trans (noticeReady_safety (settleFlags s))
@[simp] theorem settle_ingest (o s : State) : (settle o s).ingest = s.ingest :=
  (settleNotice_ingest o _).trans (noticeReady_ingest (settleFlags s))
@[simp] theorem settle_align (o s : State) : (settle o s).align = s.align :=
  (settleNotice_align o _).trans (noticeReady_align (settleFlags s))
@[simp] theorem settle_point (o s : State) : (settle o s).point = s.point :=
  (settleNotice_point o _).trans (noticeReady_point (settleFlags s))
@[simp] theorem settle_rink (o s : State) : (settle o s).rink = s.rink :=
  (settleNotice_rink o _).trans (noticeReady_rink (settleFlags s))
@[simp] theorem settle_plans (o s : State) : (settle o s).plans = s.plans :=
  (settleNotice_plans o _).trans (noticeReady_plans (settleFlags s))
@[simp] theorem settle_solver (o s : State) : (settle o s).solver = s.solver :=
  (settleNotice_solver o _).trans (noticeReady_solver (settleFlags s))
@[simp] theorem settle_glide (o s : State) : (settle o s).glide = s.glide :=
  (settleNotice_glide o _).trans (noticeReady_glide (settleFlags s))
@[simp] theorem settle_peers (o s : State) : (settle o s).peers = s.peers :=
  (settleNotice_peers o _).trans (noticeReady_peers (settleFlags s))
@[simp] theorem settle_power (o s : State) : (settle o s).power = s.power :=
  (settleNotice_power o _).trans (noticeReady_power (settleFlags s))
@[simp] theorem settle_security (o s : State) : (settle o s).security = s.security :=
  (settleNotice_security o _).trans (noticeReady_security (settleFlags s))
@[simp] theorem settle_pins (o s : State) : (settle o s).pins = s.pins :=
  (settleNotice_pins o _).trans (noticeReady_pins (settleFlags s))
@[simp] theorem settle_memory (o s : State) : (settle o s).memory = s.memory :=
  (settleNotice_memory o _).trans (noticeReady_memory (settleFlags s))
@[simp] theorem settle_settings (o s : State) : (settle o s).settings = s.settings :=
  (settleNotice_settings o _).trans (noticeReady_settings (settleFlags s))
@[simp] theorem settle_tx (o s : State) : (settle o s).tx = s.tx :=
  (settleNotice_tx o _).trans (noticeReady_tx (settleFlags s))
@[simp] theorem settle_freeCount (o s : State) : (settle o s).freeCount = s.freeCount :=
  (settleNotice_freeCount o _).trans (noticeReady_freeCount (settleFlags s))
@[simp] theorem settle_pending (o s : State) : (settle o s).pending = s.pending :=
  (settleNotice_pending o _).trans (noticeReady_pending (settleFlags s))

/-- Only DEGRADATION of the device's own words is settled. -/
@[simp] theorem settle_dev (o s : State) : (settle o s).dev = { s.dev with degradation := degradationOf s } :=
  (settleNotice_dev o _).trans (noticeReady_dev (settleFlags s))

theorem notice_flight (b : Nat) (s : State) : (notice b s).host.flight = s.host.flight := rfl
theorem notice_intake (b : Nat) (s : State) : (notice b s).host.intake = s.host.intake := rfl
theorem notice_port (b : Nat) (s : State) : (notice b s).host.port = s.host.port := rfl

/-- The flight, the intake's packets and the port are not settled. -/
@[simp] theorem settle_flight (o s : State) : (settle o s).host.flight = s.host.flight := by
  refine Eq.trans (b := (noticeReady (settleFlags s)).host.flight) ?_
    (noticeReady_keeps (·.host.flight) (fun _ _ => rfl) (fun _ _ => rfl) (settleFlags s))
  show (settleNotice o (noticeReady (settleFlags s))).host.flight = _
  unfold settleNotice; dsimp only; split_ifs <;> rfl

@[simp] theorem settle_intake (o s : State) : (settle o s).host.intake = s.host.intake := by
  refine Eq.trans (b := (noticeReady (settleFlags s)).host.intake) ?_
    (noticeReady_keeps (·.host.intake) (fun _ _ => rfl) (fun _ _ => rfl) (settleFlags s))
  show (settleNotice o (noticeReady (settleFlags s))).host.intake = _
  unfold settleNotice; dsimp only; split_ifs <;> rfl

@[simp] theorem settle_port (o s : State) : (settle o s).host.port = s.host.port := by
  refine Eq.trans (b := (noticeReady (settleFlags s)).host.port) ?_
    (noticeReady_keeps (·.host.port) (fun _ _ => rfl) (fun _ _ => rfl) (settleFlags s))
  show (settleNotice o (noticeReady (settleFlags s))).host.port = _
  unfold settleNotice; dsimp only; split_ifs <;> rfl

/-- Nor are the words in the outbound queues. -/
@[simp] theorem settle_reply_words (o s : State) : (settle o s).host.reply.words = s.host.reply.words := by
  refine Eq.trans (b := (noticeReady (settleFlags s)).host.reply.words) ?_
    (noticeReady_keeps (·.host.reply.words) (fun _ _ => rfl) (fun _ _ => rfl) (settleFlags s))
  show (settleNotice o (noticeReady (settleFlags s))).host.reply.words = _
  unfold settleNotice; dsimp only; split_ifs <;> rfl

@[simp] theorem settle_result_words (o s : State) : (settle o s).host.result.words = s.host.result.words := by
  refine Eq.trans (b := (noticeReady (settleFlags s)).host.result.words) ?_
    (noticeReady_keeps (·.host.result.words) (fun _ _ => rfl) (fun _ _ => rfl) (settleFlags s))
  show (settleNotice o (noticeReady (settleFlags s))).host.result.words = _
  unfold settleNotice; dsimp only; split_ifs <;> rfl

@[simp] theorem settle_event_words (o s : State) : (settle o s).host.event.words = s.host.event.words := by
  refine Eq.trans (b := (noticeReady (settleFlags s)).host.event.words) ?_
    (noticeReady_keeps (·.host.event.words) (fun _ _ => rfl) (fun _ _ => rfl) (settleFlags s))
  show (settleNotice o (noticeReady (settleFlags s))).host.event.words = _
  unfold settleNotice; dsimp only; split_ifs <;> rfl

/-- DEGRADATION hangs on neither the host side nor itself. -/
theorem degradationOf_host (s : State) (h : HostState) : degradationOf { s with host := h } = degradationOf s := rfl

theorem degradationOf_settleNotice (o s : State) : degradationOf (settleNotice o s) = degradationOf s := by
  unfold settleNotice; dsimp only; split_ifs <;> rfl

/-- After every command DEGRADATION is the one the state calls for (R7). -/
theorem degradation_settled (o s : State) : (settle o s).dev.degradation = degradationOf (settle o s) := by
  rw [settle_dev]
  exact ((degradationOf_settleNotice o _).trans (noticeReady_keeps degradationOf (fun _ _ => rfl) (fun _ _ => rfl)
    (settleFlags s))).symm

/-! ## The rows of the opcodes -/

/-- A started command whose work has not ended does its work. -/
theorem runCommand_next {k : CmdKey} {op : Nat} {f : Cmd → State → State} {s : State} {c : Cmd}
    (hr : running k op s = some c) (ha : awake s = true) (hc : ctlClocked s = true) :
    runCommand k op f s = .next (settle s (f c s)) := by
  simp [runCommand, hr, ha, hc, answer]

/-- No such command, no event. -/
theorem runCommand_none {k : CmdKey} {op : Nat} {f : Cmd → State → State} {s : State}
    (hr : running k op s = none) : runCommand k op f s = .next (settle s s) := by
  simp [runCommand, hr, answer]

/-- An event of the domains that run. -/
theorem awakeAnswer_next {s : State} {f : State → State} (h : awake s = true) :
    awakeAnswer s f = .next (settle s (f s)) := by
  simp [awakeAnswer, h, answer]

/-- A transfer that the port answers. -/
theorem transfer_next {s : State} {f : State → State} (h : portAnswers s = true) :
    transfer s f = .next (settle s (f s)) := by
  simp [transfer, h, answer]

/-! ## Replies -/

theorem sendPacket_reply_words (b : Bytes) (s : State) :
    (sendPacket 1 b s).host.reply.words = s.host.reply.words ++ outWords (writeStart s 1) (cutOf s 1) (packWords b) := rfl

theorem sendPacket_flight (b : Bytes) (s : State) : (sendPacket 1 b s).host.flight = s.host.flight := rfl

/-- A command's final reply takes it out of flight. -/
theorem finish_flight (c : Cmd) (st d : Nat) (r : Bytes) (s : State) :
    (finish c st d r s).host.flight = s.host.flight.filter (fun x => !(x.key == c.key)) := rfl

/-! ## Memory operations -/

/-- Clearing a range keeps the canonical form. -/
theorem cellsZero_wfFrom (off n : Nat) : ∀ (lo : Nat) (m : List Host.Cell),
    cellsWfFrom lo m = true → cellsWfFrom lo (cellsZero m off n) = true
  | _, [], _ => rfl
  | lo, (a, b) :: cs, hw => by
    obtain ⟨ha, hb, hcs⟩ := (cellsWfFrom_cons lo a b cs).1 hw
    have ih := cellsZero_wfFrom off n (a + 1) cs hcs
    unfold cellsZero at ih ⊢
    rw [List.filter_cons]
    split_ifs
    · exact (cellsWfFrom_cons lo a b _).2 ⟨ha, hb, ih⟩
    · exact cellsWfFrom_mono (by omega) _ ih

theorem cellsZero_wf (m : List Host.Cell) (off n : Nat) (h : cellsWf m = true) : cellsWf (cellsZero m off n) = true :=
  cellsZero_wfFrom off n 0 m h

/-- A write of the staging aperture keeps it. -/
theorem writeStaging_wf : ∀ (b : Bytes) (off : Nat) (s : State) (m : List Host.Cell),
    cellsWf m = true → cellsWf (writeStaging off b s m) = true
  | [], _, _, _, h => h
  | v :: vs, off, s, m, h => by
    unfold writeStaging
    split_ifs
    · exact writeStaging_wf vs (off + 1) s _ (cellPut_wf m off v h)
    · exact writeStaging_wf vs (off + 1) s m h

/-! ## Records -/

/-- A number's bytes are as many as asked. -/
theorem bytesOfNat_length : ∀ n v : Nat, (bytesOfNat n v).length = n
  | 0, _ => rfl
  | n + 1, v => congrArg Nat.succ (bytesOfNat_length n (v / 256))

/-- Every fault record takes 16 bytes. -/
theorem recordBytes_length (r : FaultRecord) : (recordBytes r).length = 16 := bytesOfNat_length 16 _

end Sys2Proof.Machine
end

