-- ==== Sys2Proof/Laws/Frames.lean ====
section
/-! SUPPORT. Frames, said once: no part that a frame can name is touched by what a command settles at its end; a reply changes
the reply queue and the flight alone. -/

namespace Sys2Proof.Machine

theorem notice_outs (b : Nat) (s : State) : (notice b s).host.reply = s.host.reply ∧
    (notice b s).host.result = s.host.result ∧ (notice b s).host.event = s.host.event ∧
    (notice b s).host.intake = s.host.intake ∧ (notice b s).host.intakeLost = s.host.intakeLost ∧
    (notice b s).host.intakeResets = s.host.intakeResets := ⟨rfl, rfl, rfl, rfl, rfl, rfl⟩

/-- A notice leaves NOTICE_MASK. -/
theorem notice_mask (b : Nat) (s : State) : (notice b s).host.notices.mask = s.host.notices.mask := by
  unfold notice; dsimp only; split_ifs <;> rfl

/-- The parts of a state that a notice is given in are the same. -/
theorem same_notice (b : Nat) (s t : State) (p : Part) (h : p.same s t) : p.same s (notice b t) := by
  cases p
  case mask => exact (notice_mask b t).trans h
  all_goals exact h

theorem same_settleNotice (o s t : State) (p : Part) (h : p.same s t) : p.same s (settleNotice o t) := by
  unfold settleNotice
  dsimp only
  split_ifs
  · cases p
    case mask => exact (notice_mask _ t).trans h
    all_goals exact h
  · exact same_notice _ s t p h
  · cases p <;> exact h
  · exact h

/-- The notices of packets that have become readable touch no part. -/
theorem same_noticeReady (s t : State) (p : Part) (h : p.same s t) : p.same s (noticeReady t) := by
  have key : ∀ (l : List ComingNotice) (u : State), p.same s u →
      p.same s (l.foldl (fun (t : State) c => notice c.bit t) u) := by
    intro l
    induction l with
    | nil => intro u h; exact h
    | cons c l ih => intro u h; exact ih _ (same_notice c.bit s u p h)
  exact key _ _ (by cases p <;> exact h)

/-- What a command settles at its end touches no part. -/
theorem same_settle {s t : State} (o : State) {p : Part} (h : p.same s t) : p.same s (settle o t) := by
  have h1 : p.same s (settleFlags t) := by cases p <;> exact h
  have h2 := same_settleNotice o s _ p (same_noticeReady s _ p h1)
  unfold settle
  generalize settleNotice o (noticeReady (settleFlags t)) = u at h2
  cases p <;> exact h2

theorem ChangesOnly.settle {l : List Part} {s t : State} (o : State) (h : ChangesOnly l s t) :
    ChangesOnly l s (settle o t) := fun p hp => same_settle o (h p hp)

theorem ChangesOnly.refl (l : List Part) (s : State) : ChangesOnly l s s := fun p _ => by cases p <;> first | rfl | exact ⟨rfl, rfl, rfl⟩

/-- A state of the same parts may take a state's place. -/
theorem Part.same_trans {s t u : State} {p : Part} (h : p.same s t) (h' : p.same t u) : p.same s u := by
  cases p
  case intake => exact ⟨h'.1.trans h.1, h'.2.1.trans h.2.1, h'.2.2.trans h.2.2⟩
  all_goals exact Eq.trans h' h

theorem ChangesOnly.trans {l l' m : List Part} {s t u : State} (h : ChangesOnly l s t) (h' : ChangesOnly l' t u)
    (hl : l ⊆ m) (hl' : l' ⊆ m) : ChangesOnly m s u :=
  fun p hp => Part.same_trans (h p (fun x => hp (hl x))) (h' p (fun x => hp (hl' x)))

/-- A packet written into the reply queue, with its notice. -/
theorem changesOnly_sendReply (b : Bytes) (s : State) : ChangesOnly [.reply] s (sendPacket 1 b s) := by
  intro p hp
  cases p <;> first | rfl | exact ⟨rfl, rfl, rfl⟩ | (simp at hp)

/-- A final reply changes the flight and the reply queue. -/
theorem changesOnly_finish (c : Cmd) (st d : Nat) (r : Bytes) (s : State) :
    ChangesOnly [.flight, .reply] s (finish c st d r s) := by
  intro p hp
  unfold finish
  cases p <;> first | rfl | exact ⟨rfl, rfl, rfl⟩ | (simp at hp)

/-- The reply queue's writer begins when it is free (R406). -/
theorem writeStart_of {s t : State} (hr : t.host.reply.words = s.host.reply.words) (hn : countNow t = countNow s) :
    writeStart t 1 = writeStart s 1 := by
  unfold writeStart outQueue; simp only; rw [hr, hn]

/-- The reply queue's threshold is not settled. -/
theorem cutOf_settle (o s : State) : cutOf (settle o s) 1 = cutOf s 1 := by
  have h : (settle o s).host.reply.core = s.host.reply.core := same_settle (s := s) (t := s) o (p := .reply) rfl
  have hc : (settle o s).host.reply.cutThrough = s.host.reply.cutThrough := by
    have := congrArg (fun (q : OutQueue) => q.cutThrough) h
    exact this
  unfold cutOf t16 setting outQueue
  rw [settle_settings]; simp only; rw [hc]

/-- The final reply of a command, after work that touched neither the flight nor the reply queue. -/
theorem replied_finish {c : Cmd} {st d : Nat} {r : Bytes} {s t : State} (o : State)
    (hf : t.host.flight = s.host.flight) (hr : t.host.reply.words = s.host.reply.words) (hn : countNow t = countNow s) :
    Replied c st d r s (settle o (finish c st d r t)) := by
  unfold Replied
  rw [settle_flight, finish_flight, hf]
  refine ⟨?_, rfl⟩
  unfold ReplySent
  rw [settle_reply_words, cutOf_settle, ← writeStart_of hr hn, ← hr]
  rfl

/-- The outcome of a command marked L, after work that did not touch the flight. -/
theorem concluded_conclude {c : Cmd} {st d : Nat} {r : Bytes} {s t : State} (o : State)
    (hf : t.host.flight = s.host.flight) : Concluded c st d r s (settle o (conclude c st d r t)) := by
  unfold Concluded
  rw [settle_flight, ← hf]
  rfl

/-- A command that answers with a block. -/
theorem repliesBlock_of {cmd : CmdKey → Instr} {op : Nat} {block : Bytes → State → Bytes}
    (h : ∀ k s, exec (cmd k) s = runCommand k op (fun c s => doneWith c (block c.params s) s) s) :
    RepliesBlock cmd op block := by
  intro k c s ⟨hr, ha, hc⟩
  exact ⟨_, (h k s).trans (runCommand_next hr ha hc), replied_finish s rfl rfl rfl,
    (changesOnly_finish c stDone 0 (block c.params s) s).settle s⟩

/-- The value an association list gives for a key just set. -/
theorem lookupD_assocSet {β : Type} (l : List (Nat × β)) (k : Nat) (v d : β) : lookupD (assocSet l k v) k d = v := by
  unfold lookupD assocSet
  split_ifs with h
  · induction l with
    | nil => simp at h
    | cons a l ih =>
      by_cases ha : a.1 = k
      · simp [ha]
      · simp only [List.any_cons, Bool.or_eq_true, beq_iff_eq, ha, false_or] at h
        simp only [List.map_cons, beq_iff_eq, ha, if_false]
        rw [List.find?_cons_of_neg (by simpa using ha)]
        simpa using ih h
  · rw [List.find?_append]
    have : l.find? (fun p => p.1 == k) = none := by
      rw [List.find?_eq_none]; intro x hx hk; exact h (List.any_eq_true.2 ⟨x, hx, hk⟩)
    rw [this]; simp

/-- A setting just put is in force. -/
theorem setting_putSetting (op idx : Nat) (b : Bytes) (s : State) : setting (putSetting op idx b s) op idx = b :=
  lookupD_assocSet _ _ _ _

end Sys2Proof.Machine
end

