-- ==== Sys2Proof/Laws/HostPort.lean ====
section
/-! SUPPORT. What the operations of the host port do, said once. -/

namespace Sys2Proof.Machine

/-- Whether the port answers is not settled. -/
@[simp] theorem portAnswers_settle (o s : State) : portAnswers (settle o s) = portAnswers s := by
  unfold portAnswers awake halted inReset countNow; simp

/-- A field that a write covers takes what is written. -/
theorem overlay_all (base old v : Nat) : overlay base old base (bytesOfNat 4 v) = v % 2 ^ 32 := by
  have : (List.range 4).map (fun i =>
    if base ≤ base + i ∧ base + i < base + (bytesOfNat 4 v).length then (bytesOfNat 4 v).getD (base + i - base) 0
    else (bytesOfNat 4 old).getD i 0) = bytesOfNat 4 v := by
    simp [List.range_succ, bytesOfNat_length]
    simp [bytesOfNat]
  unfold overlay
  rw [this, natOfBytes_bytesOfNat]; norm_num

/-- A field that a write does not reach keeps its value. -/
theorem overlay_none (base old addr : Nat) (data : Bytes) (h : addr + data.length ≤ base ∨ base + 4 ≤ addr) :
    overlay base old addr data = old % 2 ^ 32 := by
  have : (List.range 4).map (fun i =>
    if addr ≤ base + i ∧ base + i < addr + data.length then data.getD (base + i - addr) 0
    else (bytesOfNat 4 old).getD i 0) = bytesOfNat 4 old := by
    have e : ∀ i ∈ List.range 4, (if addr ≤ base + i ∧ base + i < addr + data.length then data.getD (base + i - addr) 0
    else (bytesOfNat 4 old).getD i 0) = (bytesOfNat 4 old).getD i 0 := by
      intro i hi
      have := List.mem_range.1 hi
      rw [if_neg]; omega
    rw [List.map_congr_left e]
    simp [List.range_succ, bytesOfNat]
  unfold overlay
  rw [this, natOfBytes_bytesOfNat]; norm_num

/-- PORT_MODE stands at 0x030 of the status block (Table 2.4). -/
theorem statusBlock_portMode (s : State) (i : Nat) (hi : i < 4) :
    (statusBlock s).getD (0x30 + i) 0 = (bytesOfNat 4 (portModeWord s.host.port)).getD i 0 := by
  unfold statusBlock
  dsimp only
  iterate 13 rw [List.getD_append _ _ _ _ (by simp only [List.length_append, bytesOfNat_length]; omega)]
  rw [List.getD_append_right _ _ _ _ (by simp only [List.length_append, bytesOfNat_length]; omega)]
  congr 1
  simp only [List.length_append, bytesOfNat_length]; omega

/-- Its four bytes. -/
theorem readLinear_portMode (s : State) :
    readLinear (fun i => (statusBlock s).getD i 0) 0x1000 0x30 4 = bytesOfNat 4 (portModeWord s.host.port) := by
  unfold readLinear
  rw [List.map_congr_left (g := fun i => (bytesOfNat 4 (portModeWord s.host.port)).getD i 0)]
  · generalize portModeWord s.host.port = w
    simp [List.range_succ, bytesOfNat]
  · intro i hi
    have := List.mem_range.1 hi
    dsimp only
    rw [if_pos (by omega), statusBlock_portMode s i this]

/-- A READ of PORT_MODE. -/
theorem readAt_portMode (s : State) : readAt 0x30 4 s = drive (bytesOfNat 4 (portModeWord s.host.port)) s := by
  unfold readAt
  rw [if_pos (by norm_num), ← readLinear_portMode]

/-- Eight bytes of two 32-bit words. -/
theorem bytes8_split (a b : Nat) (ha : a < 4294967296) : bytesOfNat 8 (a + b * 2 ^ 32) = bytesOfNat 4 a ++ bytesOfNat 4 b := by
  have h1 := List.take_append_drop 4 (bytesOfNat 8 (a + b * 2 ^ 32))
  rw [bytesOfNat_take _ _ _ (by norm_num), bytesOfNat_drop] at h1
  rw [← h1]
  have : (a + b * 2 ^ 32) / 256 ^ 4 = b := by norm_num; omega
  rw [this]
  congr 1
  simp only [bytesOfNat, List.cons.injEq, and_true]
  refine ⟨?_, ?_, ?_, ?_⟩ <;> apply BitVec.eq_of_toNat_eq <;> simp only [BitVec.toNat_ofNat] <;> omega

/-- DEVICE_ID fits its 32 bits. -/
theorem deviceId_lt : deviceId < 4294967296 := by
  have h := Config.variant.isLt
  have : deviceId ≤ 4718592 + 256 * 256 := by
    show 4718592 + Config.variant.toNat * 256 ≤ _
    generalize Config.variant.toNat = x at *
    omega
  exact lt_of_le_of_lt this (by norm_num)

/-- READ_ID repeats its eight bytes (R34). -/
theorem idBytes_spec (n i : Nat) (h : i < n) : (idBytes n).getD i 0 = (bytesOfNat 4 deviceId ++ bytesOfNat 4 revisionWord).getD (i % 8) 0 := by
  have hd := deviceId_lt
  unfold idBytes
  generalize deviceId = a at *
  generalize revisionWord = b
  rw [bytes8_split a b hd, List.getD_eq_getElem _ _ (by simpa using h)]
  rw [List.getElem_map, List.getElem_range]

/-- A change of the port alone. -/
theorem changes_setPort (f : Port → Port) (s : State) : ChangesOnly [.port] s (setPort f s) := by
  intro p hp
  cases p <;> first | rfl | exact ⟨rfl, rfl, rfl⟩ | (simp at hp)

/-- No read waits for a word that is readable. -/
theorem waitWord_ready {at_ : Nat} {w : OutWord} (h : w.begun ≤ at_ ∧ w.readyAt ≤ at_) : waitWord at_ w = none := by
  unfold waitWord
  rw [if_neg (by omega), if_neg (by omega)]

/-- Whole words clocked out of a queue that holds more. -/
theorem readWhole_words (at_ : Nat) : ∀ (n : Nat) (q : OutQueue), q.inReset = false → n < q.words.length →
    (∀ w ∈ q.words, w.damaged = false ∧ wordValid w.word = true ∧ w.begun ≤ at_ ∧ w.readyAt ≤ at_) →
    (readWhole at_ n q).1 = (q.words.take n).map (fun w => w.word) ∧ (readWhole at_ n q).2 = { q with words := q.words.drop n }
  | 0, q, _, _, _ => by simp [readWhole]
  | n + 1, q, hr, hl, hv => by
    match hq : q.words with
    | [] => rw [hq] at hl; simp at hl
    | w :: ws =>
      have hw := hv w (by rw [hq]; simp)
      have ih := readWhole_words at_ n { q with words := ws } hr (by rw [hq] at hl; simpa using hl) (fun x hx => hv x (by rw [hq]; exact List.mem_cons_of_mem _ hx))
      unfold readWhole
      rw [if_neg (by simp [hr]), hq]
      dsimp only
      rw [waitWord_ready hw.2.2, ih.1, ih.2, hw.1]
      simp

/-- No valid word is the OVERRUN word. -/
theorem mkWord4_invalid (w : QWord) (h : wordValid w = true) : w ≠ mkWord false false 4 0 := by
  rintro rfl; revert h; decide

/-- The bytes of whole words and of the one a transfer ends inside. -/
theorem flatMap_bytes_take (ws : List QWord) (k m : Nat) (hm : k < 8 * (m + 1)) (hl : m < ws.length) :
    ((ws.take m ++ [ws.getD m 0]).flatMap (fun w => bytesOfNat 8 w.toNat)).take k =
      (ws.flatMap (fun w => bytesOfNat 8 w.toNat)).take k := by
  have e : ws.take m ++ [ws.getD m 0] = ws.take (m + 1) := by
    rw [List.getD_eq_getElem _ _ hl, List.take_append_getElem hl]
  rw [e]
  conv_rhs => rw [← List.take_append_drop (m + 1) ws, List.flatMap_append]
  rw [List.take_append_of_le_length]
  have : ∀ l : List QWord, (l.flatMap (fun w => bytesOfNat 8 w.toNat)).length = 8 * l.length := by
    intro l; induction l with
    | nil => rfl
    | cons a l ih => simp [List.flatMap_cons, bytesOfNat_length, ih]; omega
  rw [this, List.length_take]; omega

/-- A read of a queue that holds more whole words than it takes (R37). -/
theorem readQueue_words (at_ len : Nat) (q : OutQueue) (hr : q.inReset = false) (hl : len / 8 < q.words.length)
    (hv : ∀ w ∈ q.words, w.damaged = false ∧ wordValid w.word = true ∧ w.begun ≤ at_ ∧ w.readyAt ≤ at_) :
    readQueue at_ len q = (((q.words.map (fun w => w.word)).flatMap (fun w => bytesOfNat 8 w.toNat)).take len,
      { q with words := q.words.drop (len / 8) }) := by
  obtain ⟨h1, h2⟩ := readWhole_words at_ (len / 8) q hr hl hv
  unfold readQueue
  dsimp only
  rw [h1, h2]
  have hc : ((q.words.take (len / 8)).map (fun w => w.word)).contains (mkWord false false 4 0) = false := by
    rw [Bool.eq_false_iff]
    intro hcon
    rw [List.contains_iff_mem, List.mem_map] at hcon
    obtain ⟨w, hw, he⟩ := hcon
    exact mkWord4_invalid w.word (hv w (List.mem_of_mem_take hw)).2.1 he
  rw [hc]
  simp only [Bool.false_eq_true, if_false]
  have hhead : headWord at_ { q with words := q.words.drop (len / 8) } = (q.words.map (fun w => w.word)).getD (len / 8) 0 := by
    unfold headWord
    rw [if_neg (by simp [hr])]
    have := List.drop_eq_getElem_cons hl
    dsimp only
    rw [this]
    dsimp only
    rw [waitWord_ready (hv _ (List.getElem_mem hl)).2.2, (hv _ (List.getElem_mem hl)).1, List.getD_eq_getElem _ _ (by simpa using hl)]
    simp
  rw [hhead, List.map_take, flatMap_bytes_take _ _ _ (by omega) (by simpa using hl)]

/-- The words of a queue are not settled. -/
theorem outQueue_settle_words (o s : State) (n : Nat) : (outQueue (settle o s) n).words = (outQueue s n).words := by
  unfold outQueue
  split
  · exact settle_reply_words o s
  · exact settle_result_words o s
  · exact settle_event_words o s

/-- A WRITE is the business of the window of its start address (R36). -/
theorem hostWrite_at {second addr : Nat} {data : Bytes} {s : State} (hi : instructionOk s.host.port 0x02 second = true)
    (he : s.host.port.mode = .d8 → addr % 2 = 0) : hostWrite second addr data s =
      writeAt addr (data.take (phaseLen s.host.port data.length))
        (setPort (fun p => { p with dq := none, driven := 0, ds := false }) s) := by
  unfold hostWrite
  rw [if_neg]
  rw [hi]
  by_cases hm : s.host.port.mode = .d8
  · simp [hm, he hm]
  · simp [hm]

/-- A data phase of whole units is taken whole (R32). -/
theorem phaseLen_self (p : Port) (n : Nat) (h : p.mode = .d8 → n % 2 = 0) : phaseLen p n = n := by
  unfold phaseLen
  split_ifs with hm
  · have := h (by simpa using hm); omega
  · rfl

/-- What a byte of staging reads as after a write (R39). -/
theorem writeStaging_at : ∀ (b : Bytes) (off : Nat) (s : State) (m : List Host.Cell) (a : Nat), cellsWf m = true →
    cellAt (writeStaging off b s m) a =
      if off ≤ a ∧ a < off + b.length ∧ a < 0x10000000 ∧ stagingBlocked s a = false then b.getD (a - off) 0 else cellAt m a
  | [], off, s, m, a, _ => by
    unfold writeStaging
    rw [if_neg]; simp; omega
  | v :: vs, off, s, m, a, hm => by
    unfold writeStaging
    have hm' : cellsWf (if (off < 0x10000000 && !stagingBlocked s off) = true then cellPut m off v else m) = true := by
      split_ifs
      · exact cellPut_wf m off v hm
      · exact hm
    rw [writeStaging_at vs (off + 1) s _ a hm']
    by_cases ha : a = off
    · subst ha
      rw [if_neg (by omega)]
      by_cases hb : a < 0x10000000 ∧ stagingBlocked s a = false
      · rw [if_pos (by simp [hb]), if_pos ⟨le_refl _, by simp, hb.1, hb.2⟩, cellAt_cellPut m a v a hm]; simp
      · rw [if_neg (by simpa using fun h1 h2 => hb ⟨h1, h2⟩), if_neg (fun h => hb ⟨h.2.2.1, h.2.2.2⟩)]
    · have hc : cellAt (if (off < 0x10000000 && !stagingBlocked s off) = true then cellPut m off v else m) a = cellAt m a := by
        split_ifs
        · rw [cellAt_cellPut m off v a hm, if_neg ha]
        · rfl
      rw [hc]
      by_cases hb : off + 1 ≤ a ∧ a < off + 1 + vs.length ∧ a < 0x10000000 ∧ stagingBlocked s a = false
      · rw [if_pos hb, if_pos ⟨by omega, by simp; omega, hb.2.2.1, hb.2.2.2⟩]
        have : a - off = (a - (off + 1)) + 1 := by omega
        rw [this]; rfl
      · rw [if_neg hb, if_neg]
        rintro ⟨h1, h2, h3, h4⟩
        exact hb ⟨by omega, by simp at h2; omega, h3, h4⟩

/-- Ones written to NOTICE_CAUSE clear its bits. -/
theorem cause_bit (c v b : Nat) (hc : c < 64) : bitOf (c &&& (63 - v % 64)) b = (bitOf c b && !bitOf v b) := by
  have key : ∀ c : Fin 64, ∀ v : Fin 64, ∀ b : Fin 6, bitOf (c.val &&& (63 - v.val)) b.val = (bitOf c.val b.val && !bitOf v.val b.val) := by decide +kernel
  have hv : v % 64 < 64 := Nat.mod_lt _ (by norm_num)
  by_cases hb : b < 6
  · have h := key ⟨c, hc⟩ ⟨v % 64, hv⟩ ⟨b, hb⟩
    simp only at h
    rw [h]
    congr 2
    unfold bitOf
    congr 1
    interval_cases b <;> omega
  · have h0 : ∀ x, x < 64 → bitOf x b = false := by
      intro x hx
      unfold bitOf
      have : x / 2 ^ b = 0 := by
        apply Nat.div_eq_of_lt
        calc x < 64 := hx
          _ = 2 ^ 6 := by norm_num
          _ ≤ 2 ^ b := Nat.pow_le_pow_right (by norm_num) (by omega)
      rw [this]; rfl
    rw [h0 c hc, h0 _ (lt_of_le_of_lt Nat.and_le_left hc)]
    rfl

/-- NOTICE_MASK is not settled. -/
theorem settle_mask (o s : State) : (settle o s).host.notices.mask = s.host.notices.mask :=
  same_settle (s := s) (t := s) o (p := .mask) rfl

/-- A command in flight has the key it was asked by. -/
theorem flightOf_key {k : CmdKey} {s : State} {c : Cmd} (h : flightOf k s = some c) : c.key = k := by
  unfold flightOf at h
  simpa using List.find?_some h

/-- The command that a change of the flight was made to. -/
theorem find_map_mod (l : List Cmd) (k : CmdKey) (f : Cmd → Cmd) (hf : ∀ c, (f c).key = c.key) (c : Cmd)
    (h : l.find? (fun c => c.key == k) = some c) : (l.map (fun c => if c.key == k then f c else c)).find? (fun c => c.key == k) = some (f c) := by
  induction l with
  | nil => simp at h
  | cons a l ih =>
    by_cases ha : a.key = k
    · simp [ha] at h
      subst h
      simp [ha, hf]
    · rw [List.find?_cons_of_neg (by simpa using ha)] at h
      rw [List.map_cons, if_neg (by simpa using ha), List.find?_cons_of_neg (by simpa using ha)]
      exact ih h

end Sys2Proof.Machine
end

