-- ==== Sys2Proof/WellFormed.lean ====
section
/-! DEFINITION. Well-formed commands: the ranges that the manual gives their operands. A command that is not well-formed
names nothing on the device. -/

namespace Sys2Proof

/-- A command's name: its tag is not the forbidden one (R49). -/
def keyOk (k : CmdKey) : Bool :=
  match k.ver with
  | .v2 => decide (k.tag < 0xFFFF)
  | .v1 => decide (k.tag < 0xFF)

/-- The operands of a command lie within their ranges. -/
def Instr.wf (i : Instr) : Bool :=
  match i with
  | .readId second _ => decide (second < 256)
  | .enter4s second => decide (second < 256)
  | .enter8s second => decide (second < 256)
  | .enter8d second => decide (second < 256)
  | .return1s second => decide (second < 256)
  | .readQueueWindow code second addr _ => decide (code < 256) && decide (second < 256) && decide (addr < 4294967296)
  | .writeCommandWindow second addr _ => decide (second < 256) && decide (addr < 4294967296)
  | .writeStagingAperture second addr _ => decide (second < 256) && decide (addr < 4294967296)
  | .writePortMode second addr _ => decide (second < 256) && decide (addr < 4294967296)
  | .writeNoticeCause second addr _ => decide (second < 256) && decide (addr < 4294967296)
  | .writeOtherRegister second addr _ => decide (second < 256) && decide (addr < 4294967296)
  | .commandAcceptance => true
  | .commandEnterFlight => true
  | .commandStart k => keyOk k
  | .longCommandComplete k => keyOk k
  | .getInfo k => keyOk k
  | .getState k => keyOk k
  | .enterRun k => keyOk k
  | .enterSetup k => keyOk k
  | .setPosture k => keyOk k
  | .resetSubsystem k => keyOk k
  | .resetDevice k => keyOk k
  | .echo k => keyOk k
  | .saveConfig k => keyOk k
  | .getTime k => keyOk k
  | .setTimeSource k => keyOk k
  | .setOscClass k => keyOk k
  | .servoAdjust k => keyOk k
  | .configTsIn k => keyOk k
  | .configTsOut k => keyOk k
  | .getCaptures k => keyOk k
  | .getHoldover k => keyOk k
  | .setSentryTick k => keyOk k
  | .configPort k => keyOk k
  | .setPortCorrections k => keyOk k
  | .configPtp k => keyOk k
  | .getPtpStatus k => keyOk k
  | .getPortStats k => keyOk k
  | .configSafeMsg k => keyOk k
  | .configCsi k => keyOk k
  | .setNormaliser k => keyOk k
  | .loadShadingTable k => keyOk k
  | .loadLidarTemplate k => keyOk k
  | .bindLidar k => keyOk k
  | .configImu k => keyOk k
  | .configEncoder k => keyOk k
  | .configCan k => keyOk k
  | .getSourceStatus k => keyOk k
  | .setCalibration k => keyOk k
  | .setPairing k => keyOk k
  | .setExtrapolationLimit k => keyOk k
  | .setVoterThresholds k => keyOk k
  | .setAnchor k => keyOk k
  | .getPose k => keyOk k
  | .getVoterStatus k => keyOk k
  | .setVoxelConfig k => keyOk k
  | .getPointStats k => keyOk k
  | .runNeighbourQuery k => keyOk k
  | .setCellSize k => keyOk k
  | .getTileMap k => keyOk k
  | .retireTile k => keyOk k
  | .configBevExport k => keyOk k
  | .getRinkStats k => keyOk k
  | .loadPlan k => keyOk k
  | .activatePlan k => keyOk k
  | .getPlanStatus k => keyOk k
  | .unloadPlan k => keyOk k
  | .submitSolverBatch k => keyOk k
  | .getSolverStatus k => keyOk k
  | .setTrackParams k => keyOk k
  | .setRelevanceRule k => keyOk k
  | .setZone k => keyOk k
  | .setEventRule k => keyOk k
  | .getTrack k => keyOk k
  | .clearZones k => keyOk k
  | .setQueueMode k => keyOk k
  | .setCutThrough k => keyOk k
  | .setWatermarks k => keyOk k
  | .resetQueue k => keyOk k
  | .getQueueStatus k => keyOk k
  | .getFaultRecords k => keyOk k
  | .clearFault k => keyOk k
  | .setReaction k => keyOk k
  | .setReactionTimer k => keyOk k
  | .setRecoveryLimits k => keyOk k
  | .setGateWindows k => keyOk k
  | .setGroomer k => keyOk k
  | .getSafetyStatus k => keyOk k
  | .injectFault k => keyOk k
  | .enterSafe k => keyOk k
  | .setDeviceNumber k => keyOk k
  | .getPeerStatus k => keyOk k
  | .setRegionMap k => keyOk k
  | .getPower k => keyOk k
  | .setWakeSources k => keyOk k
  | .setThermalLimits k => keyOk k
  | .getSecurityStatus k => keyOk k
  | .beginUpdate k => keyOk k
  | .commitUpdate k => keyOk k
  | .attest k => keyOk k
  | .revokeKey k => keyOk k
  | .readJournal k => keyOk k
  | .setLifecycle k => keyOk k
  | .getMemoryStatus k => keyOk k
  | .scrub k _ _ => keyOk k
  | .porstNAssert _ _ => true
  | .porstNEffectiveRelease _ => true
  | .roleSample value => decide (value < 4)
  | .wrstNAssert _ _ => true
  | .deviceResetStart => true
  | .bootComplete _ => true
  | .autoEnterRun => true
  | .countIncrement _ _ => true
  | .tick => true
  | .frameUpdateCutoff => true
  | .tsInEdge input _ _ => decide (input < 8)
  | .zdaSentence uart _ => decide (uart < 2)
  | .ppsSourceLoss => true
  | .hostSourceLoss => true
  | .tsOutLeadingEdge out => decide (out < 8)
  | .tsOutTrailingEdge out => decide (out < 8)
  | .ptpSyncReceived port _ _ => decide (port < 6)
  | .ptpFollowUpReceived port _ _ => decide (port < 6)
  | .ptpDelayReqReceived port _ _ => decide (port < 6)
  | .ptpDelayRespReceived port _ _ => decide (port < 6)
  | .ptpPdelayReqReceived port _ _ => decide (port < 6)
  | .ptpPdelayRespReceived port _ _ => decide (port < 6)
  | .ptpPdelayRespFollowUpReceived port _ _ => decide (port < 6)
  | .ptpAnnounceReceived port _ _ => decide (port < 6)
  | .ptpSignalingReceived port _ _ => decide (port < 6)
  | .ptpManagementReceived port _ _ => decide (port < 6)
  | .ptpSyncInterval port => decide (port < 6)
  | .ptpDelayInterval port => decide (port < 6)
  | .ptpAnnounceInterval port => decide (port < 6)
  | .syncReceiptTimeout port => decide (port < 6)
  | .announceReceiptTimeout port => decide (port < 6)
  | .pdelayTimeout port => decide (port < 6)
  | .linkDown port => decide (port < 6)
  | .linkUp port speed => decide (port < 6) && decide (1 ≤ speed) && decide (speed ≤ 6)
  | .arpRequest port _ _ _ _ => decide (port < 6)
  | .ethOtherFrame port _ _ => decide (port < 6)
  | .lidarDatagram _ => true
  | .sweepTimeout lidar => decide (lidar < 8)
  | .csiFrameStart rx vc number _ => decide (rx < 8) && decide (vc < 16) && decide (number < 65536)
  | .csiLongPacket rx _ => decide (rx < 8)
  | .csiFrameEnd rx vc number _ => decide (rx < 8) && decide (vc < 16) && decide (number < 65536)
  | .imuDataReady imu => decide (imu < 4)
  | .imuTransactionComplete imu _ => decide (imu < 4)
  | .encoderEdge enc _ _ _ => decide (enc < 4)
  | .canMessage can _ => decide (can < 2)
  | .canErrorFrame can => decide (can < 2)
  | .canBusOff can => decide (can < 2)
  | .sourceLossTimeout source => decide (source < 26)
  | .wheelVelocityUpdate => true
  | .poseAtFusionInstant => true
  | .cameraPartClose => true
  | .lidarPartClose => true
  | .scanMatchIteration => true
  | .scanDeadline => true
  | .takeStart => true
  | .takeComplete => true
  | .ruleBooksDelivered _ => true
  | .frameBoundary => true
  | .sequencerStepEnd tile _ => decide (tile < 49)
  | .haloPoint slot _ => decide (slot < 48)
  | .liftColumn receiver _ => decide (receiver < 8)
  | .liftPacket _ => true
  | .endOfPassMarker slot => decide (slot < 48)
  | .bevPhaseStart => true
  | .headsEnd slot _ => decide (slot < 48)
  | .exportComplete => true
  | .remoteGatherRequest tile _ => decide (tile < 49)
  | .remoteGatherTimeout tile => decide (tile < 49)
  | .routeGenerationMarker router => decide (router < 49)
  | .linkFlitError link group _ => decide (link < 256) && decide (group < 4)
  | .migrationCopyStart => true
  | .migrationShadowStep => true
  | .migrationHandover => true
  | .forwarderDrained => true
  | .spareTestComplete tile _ => decide (tile < 49)
  | .testCycleBegin => true
  | .testSliceStart => true
  | .solverSchedule => true
  | .solverJobComplete _ _ => true
  | .detectionsArrival => true
  | .propagationComplete mismatches => mismatches.all (fun x => decide (x < 16))
  | .propagationDeadline => true
  | .egoStateForm => true
  | .glideBlockReset => true
  | .noticePulse => true
  | .queueResetComplete queue => decide (2 ≤ queue) && decide (queue ≤ 3)
  | .faultReportArrival _ => true
  | .collectorJudgement => true
  | .reactionTimerExpiry subsystem => decide (1 ≤ subsystem) && decide (subsystem ≤ 17)
  | .quietPeriodExpiry source unit => decide (source < 4096) && decide (unit < 64)
  | .blockResetComplete subsystem => decide (1 ≤ subsystem) && decide (subsystem ≤ 17)
  | .safeSignalToggle => true
  | .referenceClockLoss => true
  | .gateWindowExpiry gate => decide (gate < 8)
  | .taskMonitorExpiry tile => decide (tile < 51)
  | .groomerInjection rx => decide (rx < 8)
  | .groomerInjectionEnd rx _ => decide (rx < 8)
  | .safeMsgRepeat => true
  | .atidePoseAnchorReceived _ => true
  | .atideStatusReceived _ => true
  | .atideTracksReceived _ => true
  | .atideAckReceived _ => true
  | .atideResendReceived _ => true
  | .trackSetIncompleteTimeout device => decide (device < 16)
  | .trackSetAckTimeout => true
  | .trackSetMerge device => decide (device < 16)
  | .workerStatusTimeout device => decide (device < 16)
  | .poseAnchorTimeout => true
  | .postureChangeComplete failedTiles => failedTiles.all (fun x => decide (x < 49))
  | .standbyDrainTimeout => true
  | .standbyEntryComplete => true
  | .wakeEvent cause input _ _ => decide (1 ≤ cause) && decide (cause ≤ 3) && decide (input < 8)
  | .wakeTimerExpiry _ => true
  | .thermalSensorRead readings => readings.length == 8
  | .throttleEvaluation => true
  | .throttleRetry => true
  | .analogThermalTrip => true
  | .supplyMonitorCrossing supply _ => decide (supply < 7)
  | .nvInhibitClear => true
  | .nvPauseTimeout => true
  | .pllLockLoss pll => decide (pll < 5)
  | .pllRelock pll => decide (pll < 5)
  | .pmbusRetry _ => true
  | .journalRecordWrite => true
  | .flashOperationComplete _ => true
  | .wrstNRelease => true
  | .jtagAccess _ => true
  | .csiPhySyncLoss rx lane => decide (rx < 8) && decide (lane < 4)
  | .csiSkewCalibration rx => decide (rx < 8)
  | .injectFaultReportTimeout => true
  | .trackSetWaitTimeout device => decide (device < 16)
  | .onDemandDomainStop domain => decide (domain < 2)

end Sys2Proof
end

