-- ==== Sys2Proof/Tests/Slice0.lean ====
section
/-! SUPPORT. The model's own tests: small states, one step each, and the witnesses of the statements' hypotheses. -/

namespace Sys2Proof.Machine

set_option Elab.async false

/-! ## Small states -/

/-- A state in SETUP with every domain running and the port answering. -/
def live : State :=
  { State.reset with
    dev := { State.reset.dev with state := .setup },
    host := { State.reset.host with port := { Port.reset with answersFrom := some 0 } },
    power := { State.reset.power with plls := 31 },
    pins := { State.reset.pins with porstN := true, released := true } }

/-- The same in RUN, in Drive. -/
def liveRun : State := { live with dev := { live.dev with state := .run, posture := some .drive, firstValid := true } }

/-- The same with its port in a mode. -/
def inMode (m : PortMode) : State := setPort (enterMode m) live

/-- The key of the commands below. -/
def key1 : CmdKey := { ver := .v2, tag := 1 }

/-- A started command of an opcode. -/
def cmd1 (op : Nat) (params : Bytes) : Cmd :=
  { key := key1, op := op, rawOp := op, params := params, ordered := false, seq := 0, takeUp := 0, deadlineUs := 0,
    started := some 0, outcome := none, reserved := 3 }

/-- A state with one started command. -/
def running1 (s : State) (op : Nat) (params : Bytes) : State := setFlight [cmd1 op params] s

/-- A state with commands waiting in its queue. -/
def waiting1 : State := { live with pending := [.enter4s 0, .tick] }

/-! ## The queue of commands -/

theorem test_reset_idles : step State.reset = .next State.reset := rfl

theorem witness_frontCommand : waiting1.pending = .enter4s 0 :: [.tick] := rfl
theorem witness_emptyQueue : live.pending = [] := rfl

/-- Every opcode can stand started in a state whose interpreter runs. -/
theorem witness_ready (op : Nat) (params : Bytes) : Ready key1 op (running1 live op params) (cmd1 op params) :=
  ⟨by simp [running, flightOf, running1, setFlight, cmd1], (by decide : awake live = true), (by decide : ctlClocked live = true)⟩

theorem witness_ready_run (op : Nat) (params : Bytes) : Ready key1 op (running1 liveRun op params) (cmd1 op params) :=
  ⟨by simp [running, flightOf, running1, setFlight, cmd1], (by decide : awake live = true), (by decide : ctlClocked live = true)⟩

/-! ## Chapter 02 -/

theorem witness_modes : portAnswers (inMode .s1) = true ∧ (inMode .s1).host.port.mode = .s1 ∧
    portAnswers (inMode .s4) = true ∧ (inMode .s4).host.port.mode = .s4 ∧
    portAnswers (inMode .d8) = true ∧ (inMode .d8).host.port.mode = .d8 := by decide

/-- The second byte of WRITE, READ and READ_ID in 8D-8D-8D is the inverse of the code. -/
theorem witness_instructionOk : instructionOk (inMode .d8).host.port 0x02 0xFD = true ∧
    instructionOk (inMode .d8).host.port 0x0B 0xF4 = true ∧ instructionOk (inMode .d8).host.port 0x9F 0x60 = true ∧
    (0x61 : Nat) + 0x9F ≠ 255 ∧ knownCode 0x0C = false := by decide

/-- A port whose reply queue holds two words. -/
def twoWords : State :=
  { live with host := { live.host with reply := { live.host.reply with
      words := [⟨mkWord true false 0 1, false, 0, 0, 0⟩, ⟨mkWord true true 0 2, false, 0, 0, 0⟩] } } }

theorem witness_queueRead : portAnswers twoWords = true ∧ instructionOk twoWords.host.port 0x0B 0 = true ∧
    (outQueue twoWords 1).inReset = false ∧ phaseLen twoWords.host.port 15 / 8 < (outQueue twoWords 1).words.length ∧
    ∀ w ∈ (outQueue twoWords 1).words, w.damaged = false ∧ wordValid w.word = true ∧
      w.begun ≤ countNow twoWords ∧ w.readyAt ≤ countNow twoWords := by decide

/-- A read of 12 B consumes one word and leaves the one it ends inside. -/
theorem test_partial_word_stays : (readQueue 0 12 (outQueue twoWords 1)).2.words =
    [⟨mkWord true true 0 2, false, 0, 0, 0⟩] := by decide

theorem witness_misaligned : portAnswers (inMode .d8) = true ∧ (0x2FFFE : Nat) % 8 ≠ 0 ∧ (0x2FFFE : Nat) % 2 = 0 ∧
    0x10000 * (1 + 1) ≤ 0x2FFFE ∧ 0x2FFFE < 0x10000 * (1 + 2) ∧ (0x10004 : Nat) % 8 ≠ 0 := by decide

theorem witness_staging : portAnswers (inMode .d8) = true ∧ instructionOk (inMode .d8).host.port 0x02 0xFD = true ∧
    (0xFFFFFFE : Nat) % 2 = 0 ∧ ([1, 2] : Bytes).length % 2 = 0 ∧ 0xFFFFFFE < 0x10000000 ∧
    cellsWf (inMode .d8).memory.staging = true ∧ stagingBlocked (inMode .d8) 0xFFFFFFE = false ∧
    stagingBlocked State.reset 0 = true := by decide

theorem witness_noticeRegisters : live.host.notices.mask < 64 ∧ live.host.notices.cause < 64 ∧
    minRead live.host.port.mode ≤ live.host.port.readLatency ∧ live.host.port.readLatency < 64 ∧
    minAperture live.host.port.mode ≤ live.host.port.apertureLatency ∧ live.host.port.apertureLatency < 64 := by decide

/-- The second codes that a mode other than 8D-8D-8D needs, and those of addresses outside the registers. -/
theorem witness_registerWrites : portAnswers live = true ∧ live.host.port.mode ≠ .d8 ∧
    instructionOk live.host.port 0x02 0 = true ∧ (0 : Nat) + 4 ≤ 0x30 ∧ 0x3C ≤ (0xFFF : Nat) ∧ (0xFFF : Nat) < 0x1000 ∧
    portAnswers State.reset = false ∧ instructionOk (inMode .d8).host.port 0x02 0 = false ∧ Settled State.reset ∧
    ([{ bit := 1, count := 0, from_ := 0 }] : List ComingNotice).any (fun c => c.bit == 1 &&
      decide (c.count ≤ countNow live) && decide (c.from_ ≤ now live)) = true :=
  ⟨by decide, by decide, by decide, by decide, by decide, by decide, by decide, by decide,
    ⟨by decide +kernel, by decide +kernel, by decide +kernel, by decide +kernel, by decide +kernel, by decide +kernel,
      by decide +kernel⟩, by decide⟩

theorem witness_words : wordValid (mkWord true true 0 5) = true ∧ wordEnd (mkWord true true 0 5) = true ∧
    wordValid (mkWord true false 0 5) = true ∧ wordEnd (mkWord true false 0 5) = false ∧
    wordValid (mkWord false false 0 5) = false ∧ intakeFill live.host.intake < 8192 ∧
    live.host.intake.lostAfter = none := by decide

/-- CRC-32C of "123456789" (R48). -/
theorem test_crc32c : crc32c [0x31, 0x32, 0x33, 0x34, 0x35, 0x36, 0x37, 0x38, 0x39] = 0xE3069283 := by decide +kernel

/-- The DTS of the example of chapter 00. -/
theorem test_dts : bytesOfNat 12 (dtsBits (1700000000 * secUnits + 250 * 65536 + 32768)) =
    [0x00, 0x80, 0xFA, 0x00, 0x00, 0x00, 0x00, 0xF1, 0x53, 0x65, 0x00, 0x00] := by decide +kernel

/-- The words of the LOAD_PLAN packet of Table 2.14. -/
theorem test_packWords : packWords [0x07, 0x20, 0, 0, 0, 0x08, 0x41, 0, 0xA0, 0x03] =
    [0x8041080000002007#64, 0xC00000000003A000#64] := by decide +kernel

/-- A packet in the intake: GET_STATE without parameters, its CRC as given. -/
def packet1 (crc : Nat) : IntakePacket :=
  { words := packWords (pack 12 [(0, 12, 4), (12, 4, 2), (32, 16, 0x0101), (48, 16, 7)] ++ bytesOfNat 4 crc), seq := 0,
    takeUp := 0, accepted := none, owed := none }

/-- A state with it. -/
def withPacket (p : IntakePacket) : State :=
  { live with host := { live.host with intake := { live.host.intake with packets := [p] } } }

theorem witness_acceptance : awake (withPacket (packet1 0)) = true ∧ ctlClocked (withPacket (packet1 0)) = true ∧
    (withPacket (packet1 0)).host.intake.packets.find? (owedDue (withPacket (packet1 0))) = none ∧
    (withPacket (packet1 0)).host.intake.packets.find? unjudged = some (packet1 0) ∧
    3 ≤ replyRoom (withPacket (packet1 0)) := by decide +kernel

/-- A refusal that no order holds any more. -/
def owedPacket : IntakePacket := { packet1 0 with owed := some { (default : Owed) with ver := .v2, status := stBadParam } }

theorem witness_owed : (withPacket owedPacket).host.intake.packets.find? (owedDue (withPacket owedPacket)) = some owedPacket ∧
    3 ≤ replyRoom (withPacket owedPacket) := by decide +kernel

theorem witness_badCrc : packetVersion (unpackWords (packet1 0).words) = some .v2 ∧
    packetLength .v2 (unpackWords (packet1 0).words) = some 16 ∧ wordsFor 16 = (packet1 0).words.length ∧
    packetCrcGood .v2 ((unpackWords (packet1 0).words).take 16) = false := by decide +kernel

/-- A command that has passed its checks and waits to enter flight. -/
def waitingState : State := withPacket { packet1 0 with accepted := some { cmd1 0x0101 [] with started := none } }

theorem witness_enterFlight : awake waitingState = true ∧ ctlClocked waitingState = true ∧
    waitingState.host.flight.length < 256 ∧ 3 ≤ replyRoom waitingState ∧ waitingState.dev.state ≠ .safe ∧ waitingState.host.flight = [] := by decide +kernel

/-- A command in flight that has not started. -/
def unstarted (op : Nat) (params : Bytes) (s : State) : State := setFlight [{ cmd1 op params with started := none }] s

theorem witness_start : awake (unstarted 0x0101 [] live) = true ∧ ctlClocked (unstarted 0x0101 [] live) = true ∧
    flightOf key1 (unstarted 0x0101 [] live) = some { cmd1 0x0101 [] with started := none } ∧
    startWaits (unstarted 0x0101 [] live) { cmd1 0x0101 [] with started := none } = false := by decide +kernel

/-- Two commands, the earlier one ORDERED. -/
def orderedPair : State :=
  setFlight [{ cmd1 0x0107 [] with started := none, ordered := true },
    { cmd1 0x0107 [] with key := { ver := .v2, tag := 2 }, started := none, seq := 1 }] live

theorem witness_ordered : flightOf { ver := .v2, tag := 2 } orderedPair =
    some { cmd1 0x0107 [] with key := { ver := .v2, tag := 2 }, started := none, seq := 1 } ∧
    { cmd1 0x0107 [] with started := none, ordered := true } ∈ orderedPair.host.flight := by decide +kernel

theorem witness_longComplete : flightOf key1 (setFlight [{ cmd1 0x0800 [] with outcome := some ⟨0, 0, []⟩ }] live) =
    some { cmd1 0x0800 [] with outcome := some ⟨0, 0, []⟩ } := by decide +kernel

theorem witness_stateBlock : stateWord live < 2 ^ 32 ∧ live.dev.degradation < 2 ^ 32 ∧ live.dev.epoch < 2 ^ 32 := by decide +kernel

/-! ## Chapter 03 -/

/-- A state whose time base counts, with a source selected. -/
def timed (source : Nat) (s : State) : State :=
  putSetting 0x0201 0 (pack 16 [(0, 8, source), (64, 16, 1000), (80, 16, 100)]) { s with time := { s.time with running := true } }

theorem witness_count : (timed 0 live).time.running = true ∧ (timed 0 live).align.degradedEgo = false ∧
    ∀ p : Fin 6, (ethPort (timed 0 live) p.val).txQueue = [] := by decide +kernel

theorem witness_rate : (0 : Nat) ≤ 2 ^ 71 - 1 ∧ 2 ^ 71 - 1 < 2 ^ 71 := by decide

theorem witness_hostSource : timeSource (timed 3 live) = 3 ∧ 1 ≤ slewMaxPpm (timed 3 live) ∧ (timed 3 live).dev.state = .setup ∧
    (timed 3 live).time.valid = false ∧ timeSource (timed 3 liveRun) = 3 ∧ (timed 3 liveRun).dev.state = .run ∧
    0 ≤ (now (timed 3 live) : Int) + sfld (zeros 24) 0 64 := by decide +kernel

/-- A GNSS source with an edge at one second, waiting for its label. -/
def ppsState : State :=
  { timed 2 live with time := { (timed 2 live).time with pps := { (default : Pps) with lastEdge := some 0 } } }

theorem witness_pps : timeSource ppsState = 2 ∧ todInput ppsState = 0 ∧ ppsState.time.pps.lastEdge = some 0 ∧
    (0 : Nat) ≤ timeAt ppsState.time (BitVec.ofNat 72 0) ∧ bitOf ppsState.time.disabled 17 = false ∧
    ppsState.time.pps.labelled = false ∧ ppsState.time.pps.mark = none ∧ ppsState.time.pps.lastCount ≤ 0 ∧ awake ppsState = true ∧ ioClocked ppsState = true := by decide +kernel

/-- A locked source that has given nothing for two seconds. -/
def silent (source : Nat) (st : TimeState) : State :=
  { timed source live with time := { (timed source live).time with state := st, count := 1000000000 } }

theorem witness_lost : awake (silent 2 .locked) = true ∧ timeSource (silent 2 .locked) = 2 ∧
    (silent 2 .locked).time.pps.lastEdge.getD (silent 2 .locked).time.lastAdjust + 3 * secUnits / 2 ≤ now (silent 2 .locked) ∧
    timeSource (silent 3 .acquiring) = 3 ∧
    (silent 3 .acquiring).time.lastAdjust + 2 * secUnits ≤ now (silent 3 .acquiring) := by decide +kernel

/-- Table 3.5: class 2, B₀ 50 ns, a holdover age of one day: 475.25 µs. -/
def heldOver : State :=
  putSetting 0x0202 0 (pack 16 [(0, 4, 2)]) { live with time := { live.time with
    state := .holdover, b0 := 50 * nsUnits, holdoverFrom := 0, offset := 86400 * secUnits } }

theorem test_errorBound_oneDay : errorBound heldOver = some (475250 * nsUnits) := by decide +kernel

/-- An input that captures both edges with no filter, its buffer as given. -/
def capturing (buffer : List Capture) : State :=
  putSetting 0x0204 0 (pack 8 [(8, 8, 3)]) { timed 0 live with time := { (timed 0 live).time with
    tsIn := vset (timed 0 live).time.tsIn 0 { (default : TsIn) with buffer := buffer, lastAccepted := some 0 } } }

theorem witness_capture : awake (capturing []) = true ∧ ioClocked (capturing []) = true ∧
    bitOf (capturing []).time.disabled 1 = false ∧ isSet (capturing []) 0x0204 0 = true ∧
    edgeWanted (fld (setting (capturing []) 0x0204 0) 8 8) true = true ∧ fld (setting (capturing []) 0x0204 0) 32 8 = 0 := by
  decide +kernel

/-- The three cases of an edge: 15 ns after the last one, 16 ns after it, and with a full buffer. -/
theorem witness_capture_cases : timeAt (capturing []).time 7 < 0 + (0 * 4 + 16) * nsUnits ∧
    ¬ timeAt (capturing []).time 8 < 0 + (0 * 4 + 16) * nsUnits ∧
    (vget (capturing (List.replicate 16 default)).time.tsIn 0).buffer.length = 16 := by decide +kernel

/-- An output whose leading edge is due, and one whose trailing edge is. -/
def outputDue (trail : Option Dts) : State :=
  { timed 0 live with time := { (timed 0 live).time with
    tsOut := vset (timed 0 live).time.tsOut 7 { (default : TsOut) with
      block := pack 32 [(160, 32, 1000), (232, 8, 1), (240, 8, 7)], next := some 0, trailing := trail,
      waiting := some (pack 32 [(232, 8, 4)], 0) } } }

theorem witness_outputs : (vget (outputDue none).time.tsOut 7).next = some 0 ∧ 0 ≤ now (outputDue none) ∧
    bitOf (outputDue none).time.disabled 16 = false ∧ (vget (outputDue none).time.tsOut 7).stopped = false ∧
    (outputDue none).dev.state ≠ .boot ∧ (vget (outputDue none).time.tsOut 7).trailing = none ∧
    pulseAllowed (outputDue none) (vget (outputDue none).time.tsOut 7) = true ∧
    fld (vget (outputDue none).time.tsOut 7).block 240 8 < 8 ∧
    (vget (outputDue (some 0)).time.tsOut 7).trailing = some 0 := by decide +kernel

/-! ## Chapter 04 -/

/-- Port 4 up at 1 Gb/s under CONFIG_PTP with a profile and a role, in a port state. -/
def onPort (profile role : Nat) (f : EthPort → EthPort) : State :=
  modPort 4 (fun e => f { e with link := true, speed := 3 })
    (putSetting 0x0300 4 (pack 32 [(0, 8, 4), (12, 4, 5), (16, 32, 0xC0A80001), (64, 16, 1522), (80, 48, 0x020000000001)])
      (putSetting 0x0301 (4 * 16 + 3) (pack 16 [(0, 8, 4), (8, 8, 3), (32, 32, 180 * 65536), (64, 32, 220 * 65536),
          (96, 32, 20 * 65536)])
        (putSetting 0x0302 0 (pack 16 [(0, 8, profile), (16, 8, role), (40, 6, 16), (96, 8, 3), (104, 8, 3)]) (timed 1 live))))

/-- A frame of 64 bytes without a tag that crosses the MII boundary at a count, nothing having left the buffer. -/
def frameAt (count : Nat) : FrameHead := { at_ := count, length := 64, vid := none, drained := 0 }

/-- A PTP message of a kind. -/
def message (kind : PtpKind) (timestamp : Dts) (twoStep : Bool) : PtpMsg :=
  { kind := kind, version := 2, domain := 0, transport := 0,
    dest := { mac := if peerKind kind then 0x0180C200000E else 0x011B19000000, ip := 0, udpPort := 0 }, seqId := 7, twoStep := twoStep, timestamp := timestamp,
    correction := 0, source := (5, 1), requester := (0x020000FFFE000001, 5), gm := none, intervals := none,
    rateOffset := 0, pathTrace := [] }

/-- A SLAVE port with a known mean path delay of 500 ns and a request outstanding. -/
def slavePort4 (profile : Nat) : State :=
  onPort profile 0 (fun e => { e with
    ptp := .slave, delays := [500 * nsUnits],
    sync := some { seqId := 7, ingress := 1000 * nsUnits, correction := 0, rateOffset := 0 },
    lastSyncDelta := some (770 * nsUnits),
    exchange := some { seqId := 7, egress := some (10000220 * nsUnits), sentAt := 0, response := none },
    announce := some default })

theorem witness_ptpTaken : PtpTaken 4 .sync (message .sync 0 false) (frameAt 0) (slavePort4 1) ∧
    PtpTaken 4 .followUp (message .followUp 0 false) (frameAt 0) (slavePort4 1) ∧
    PtpTaken 4 .delayResp (message .delayResp 0 false) (frameAt 0) (slavePort4 1) ∧
    PtpTaken 4 .pdelayResp (message .pdelayResp 0 true) (frameAt 0) (slavePort4 2) ∧
    isSlave (slavePort4 1) 4 = true ∧ timeSource (slavePort4 1) = 1 ∧ peerDelay (slavePort4 2) = true ∧
    portIdentity (slavePort4 1) 4 = (0x020000FFFE000001, 5) := by unfold PtpTaken FrameTaken; decide +kernel

theorem witness_meanDelay : meanDelay (ethPort (slavePort4 1) 4) = some (500 * nsUnits) ∧
    ingressStamp (slavePort4 1) 4 (frameAt 0) ≤ 1000 * nsUnits + syncSpan (slavePort4 1) ∧
    bitOf (slavePort4 1).time.disabled 17 = false := by decide +kernel

/-- Table 4.4: the mean path delay is 500 ns, the error 770 − 500 − 20 = +250 ns. -/
theorem test_table_4_4 : ((770 : Int) * nsUnits + ((10000450 : Int) * nsUnits - 10000220 * nsUnits)) / 2 = 500 * nsUnits ∧
    (ingressStamp (slavePort4 1) 4 (frameAt 475) : Int) - 500 * nsUnits - asymmetry (slavePort4 1) 4 = 250 * nsUnits := by
  decide +kernel

/-- A follow-up of a two-step peer-delay response is awaited. -/
def pdelayAwaited : State := onPort 2 0 (fun e => { e with
  exchange := some { seqId := 7, egress := some 0, sentAt := 0, response := some (10, 20, 0) } })

theorem witness_pdelayFollowUp : PtpTaken 4 .pdelayRespFollowUp (message .pdelayRespFollowUp 0 false) (frameAt 0) pdelayAwaited := by
  unfold PtpTaken FrameTaken; decide +kernel

/-- A MASTER port of a grandmaster whose time is valid and whose intervals have passed. -/
def masterPort (profile : Nat) : State :=
  let s := onPort profile 3 (fun e => { e with ptp := .master })
  { s with time := { s.time with valid := true, count := 5000000000 } }

theorem witness_master : awake (masterPort 1) = true ∧ portUp (masterPort 1) 4 = true ∧ ptpOn (masterPort 1) 4 = true ∧
    isMaster (masterPort 1) 4 = true ∧ (masterPort 1).time.valid = true ∧ slavePort (masterPort 1) = none ∧
    syncInterval (masterPort 1) 4 = some secUnits ∧ announceInterval (masterPort 1) 4 = some secUnits ∧
    delayInterval (masterPort 2) 4 = some secUnits ∧ peerDelay (masterPort 2) = true ∧ 0 + secUnits ≤ now (masterPort 1) := by
  decide +kernel

theorem witness_requests : PtpTaken 4 .delayReq (message .delayReq 0 false) (frameAt 0) (masterPort 1) ∧
    PtpTaken 4 .pdelayReq (message .pdelayReq 0 false) (frameAt 0) (masterPort 2) := by unfold PtpTaken FrameTaken; decide +kernel

theorem witness_announce : PtpTaken 4 .announce { message .announce 0 false with gm := some default } (frameAt 0) (slavePort4 1) ∧
    ptpRole (slavePort4 1) ≠ 3 ∧ (5 : Nat) ≠ clockIdentity (slavePort4 1) ∧ (default : GmData).stepsRemoved < 255 ∧
    PtpTaken 4 .signaling { message .signaling 0 false with intervals := some (-128, 126, 0) } (frameAt 0)
      (slavePort4 1) ∧
    ptpFits (slavePort4 1) 4 { message .sync 0 false with domain := 1 } = false := by unfold PtpTaken FrameTaken; decide +kernel

/-- A port whose timeouts have passed. -/
def overdue (profile : Nat) : State :=
  let s := slavePort4 profile
  { s with time := { s.time with state := .locked, count := 5000000000 } }

theorem witness_timeouts : 0 + syncSpan (overdue 1) * 3 ≤ now (overdue 1) ∧ 0 + announceSpan (overdue 1) * 3 ≤ now (overdue 1) ∧
    fld (ptpBlock (overdue 1)) 104 8 = 3 ∧ fld (ptpBlock (overdue 1)) 96 8 = 3 ∧
    (ethPort (overdue 1) 4).announce.isSome = true ∧ portUp (overdue 1) 4 = true ∧ peerDelay (overdue 2) = true ∧
    delayInterval (overdue 2) 4 = some secUnits := by decide +kernel

theorem witness_links : (ethPort (slavePort4 1) 4).link = true ∧ ptpOn (slavePort4 1) 4 = true ∧ (ethPort live 4).link = false ∧
    speedAdmitted (slavePort4 1) 4 3 = true := by decide +kernel

/-- The transmitter of the master port: free, busy with a frame, and with two-step operation and a full store of stamps. -/
def busyPort : State := modPort 4 (fun e => { e with txUntil := 5000000001 }) (masterPort 1)
def followUpWaits : TxFrame := { dest := 0, what := .ptp (message .followUp 0 false) none, urgent := false, ingress := 0 }
def twoStepPort (held : Nat) : State :=
  let s := masterPort 1
  modPort 4 (fun e => { e with txQueue := List.replicate held followUpWaits })
    (putSetting 0x0302 0 (pack 16 [(0, 8, 1), (16, 8, 3), (40, 6, 16), (48, 6, 16), (96, 8, 3), (104, 8, 3)]) s)

theorem witness_transmitters : FreeForEvents 4 (masterPort 1) ∧ Idle 4 (masterPort 1) ∧
    countNow busyPort < (ethPort busyPort 4).txUntil ∧ FreeForEvents 4 (twoStepPort 8) ∧
    bitAt (ptpBlock (twoStepPort 8)) 52 = true ∧ 8 ≤ stampsHeld (ethPort (twoStepPort 8) 4) ∧
    stampsHeld (ethPort (twoStepPort 0) 4) < 8 ∧ bitAt (ptpBlock (masterPort 1)) 52 = false ∧
    unanswered (slavePort4 2) 4 = true ∧ unanswered (masterPort 2) 4 = false ∧
    (ethPort (twoStepPort 1) 4).txQueue = [followUpWaits] := by unfold FreeForEvents Idle; decide +kernel

/-- Frames that the port does not take: a full buffer, a length beyond MAX_FRAME. -/
theorem witness_frames : FrameTaken 4 (frameAt 0) (slavePort4 1) ∧
    rxRoom (modPort 4 (fun e => { e with rxHeld := 65536 }) (slavePort4 1)) 4 (frameAt 0) = false ∧
    frameFits (slavePort4 1) 4 { frameAt 0 with length := 1523 } = false := by unfold FrameTaken; decide +kernel

/-- A frame in transmission is finished first, and the event message stands before the one without priority (R104). -/
theorem test_priority : queueTx { followUpWaits with urgent := true, dest := 1 } [followUpWaits] =
    [{ followUpWaits with urgent := true, dest := 1 }, followUpWaits] := by decide +kernel

theorem witness_admittedSpeed : speedAdmitted (slavePort4 1) 4 (ethPort (slavePort4 1) 4).speed = true := by decide +kernel

/-! ## Chapter 05 -/

/-- CONFIG_CSI of receiver 7: RAW12, 64 × 64, virtual channel 2, four lanes of D-PHY v2.1. -/
def csi1 (trigger : Nat) : Bytes :=
  pack 32 [(0, 8, 7), (8, 12, 100), (20, 4, 2), (24, 4, 4), (28, 4, 2), (32, 8, 0x2C), (40, 4, trigger), (48, 16, 64),
    (64, 16, 64), (80, 16, 500), (192, 32, 10000000)]

/-- A state with that receiver, its receiver part as given. -/
def camera1 (trigger : Nat) (f : Receiver → Receiver) : State :=
  modReceiver 7 f (putSetting 0x0400 7 (csi1 trigger) (timed 0 live))

theorem witness_rxTakes : awake (camera1 1 id) = true ∧ rxTakes (camera1 1 id) 7 2 = true ∧
    csiTriggered (csiBlock (camera1 0 id) 7) = false ∧ csiTriggered (csiBlock (camera1 1 id) 7) = true ∧
    (receiver (camera1 1 id) 7).frame = none ∧ (vget (receiver (camera1 1 id) 7).slots 0).held = false ∧
    (source (camera1 1 id) 7).lastStamp = none ∧ csiType (csiBlock (camera1 1 id) 7) ≠ 0x1E ∧
    fld (csiBlock (camera1 1 id) 7) 24 4 = 4 ∧ fld (csiBlock (camera1 1 id) 7) 20 4 = 2 := by decide +kernel

theorem witness_inFrame : inFrame (camera1 1 (fun x => { x with dropping := true })) 7 = true ∧
    (vget (receiver (camera1 1 id) 7).slots 2).held = false := by decide +kernel

/-- A frame kept 31 ms ago, and a frame open. -/
theorem witness_csi : (receiver (camera1 0 (fun x => { x with lastKept := some 0 })) 7).lastKept = some 0 ∧
    now (camera1 0 id) < 0 + 32 * msUnits ∧
    (receiver (camera1 0 (fun x => { x with frame := some { (default : OpenFrame) with slot := 2, lines := 64 } })) 7).frame =
      some { (default : OpenFrame) with slot := 2, lines := 64 } ∧
    frozenFound (frozenMode (camera1 0 id) 7) (groomer (camera1 0 id) 7) (crc32c []) none = false ∧ (groomer (camera1 0 id) 7).distrust = false := by decide +kernel

/-- The example after Table 5.4: code 1,000, BLACK_0 1,024, GAIN_0 1.5, shading 1.25: 28,080, and 1,755 in U12. -/
theorem test_normaliser : normalise (pack 24 [(64, 16, 1024), (128, 16, 0x1800)]) 12 1000 0 (20480, 16384) = 28080 ∧
    toU12 28080 = 1755 := by decide +kernel

theorem test_normaliser_clamps : normalise (pack 24 [(64, 16, 1024), (128, 16, 0x1000)]) 12 10 0 (1, 1) = 0 := by
  decide +kernel

/-- Table 5.10: azimuth 9,010 × 1.745329 × 10⁻⁴ rad falls into column 512 of 2,048. -/
theorem test_lidar_column : columnOf (fmul (fofInt 0x2332) 0x393702D3) 0 2048 = 512 := by decide +kernel

/-- A lidar bound to UDP port 2368 of port 4, its template one point of one block. -/
def lidar1 : State :=
  let tpl := pack 80 [(0, 16, 16), (16, 16, 0), (32, 16, 1), (48, 16, 16), (80, 16, 1), (96, 16, 16), (136, 8, 3), (152, 8, 0)]
  modLidar 7 (fun x => { x with template := tpl, sweepFrom := some 0, inUse := some default })
    (putSetting 0x0404 7 (pack 32 [(64, 8, 7), (72, 8, 4), (80, 16, 2368), (136, 8, 2), (160, 16, 16), (176, 16, 1),
      (216, 8, 10), (240, 16, 10000)]) (overdue 1))

/-- A datagram for it. -/
def datagram1 (bytes : Nat) : Datagram :=
  { port := 4, ip := 4, srcIp := 1, udpPort := 2368, fragmented := false, payload := zeros bytes, head := frameAt 500000 }

theorem witness_datagram : FrameTaken 4 (frameAt 500000) lidar1 ∧ lidarOf lidar1 (datagram1 16) = some 7 ∧
    lidarOf lidar1 { datagram1 16 with udpPort := 1 } = none ∧
    datagramDamaged (lidar lidar1 7).template (datagram1 17) = true ∧
    datagramDamaged (lidar lidar1 7).template (datagram1 16) = false ∧ (source lidar1 15).lastStamp = none := by
  unfold FrameTaken; decide +kernel

theorem witness_sweep : sourceActive lidar1 15 = true ∧ (lidar lidar1 7).sweepFrom = some 0 ∧
    0 + 3 * secUnits / (2 * fld (setting lidar1 0x0404 7) 216 8) ≤ now lidar1 ∧
    sweepWraps (setting lidar1 0x0404 7) (some 15) [6] = true ∧ sweepWraps (setting lidar1 0x0404 7) (some 15) [7] = false := by
  decide +kernel

theorem witness_cell : (default : LidarPoint) ∈ [(default : LidarPoint)] := by decide

/-- Table 5.9's first field read from bytes 2 and 3, most significant first. -/
theorem test_field_bigEndian : rawAt [0xA5, 0x3C, 0x12, 0x34] 0 ⟨0x0D, 0, true, false, 0, 16, 2, 0, 0⟩ = 0x1234 := by
  decide +kernel

/-- An IMU on master 3, an encoder on input 3 and CAN controller 1 with one filter that takes identifier 5. -/
def motion1 (f : ImuMaster → ImuMaster) : State :=
  modImu 3 f (putSetting 0x0405 3 (pack 88 [(0, 8, 3), (136, 8, 16), (144, 16, 1000)])
    (putSetting 0x0406 3 (pack 16 [(0, 8, 3), (48, 8, 4), (64, 32, 100), (96, 32, 2000000)])
      (putSetting 0x0407 1 (pack 32 [(0, 8, 1), (8, 1, 1), (16, 16, 100), (96, 8, 1), (128, 29, 5), (160, 29, 0x7FF),
        (196, 1, 1)]) (timed 0 live))))

/-- A message for it. -/
def canMessage1 : CanMessage :=
  { kind := 0, id := 5, vcid := 0, extended := false, data := [1, 2], stamp := 1000000 }

theorem witness_motion : sourceActive (motion1 id) 19 = true ∧ sourceActive (motion1 id) 23 = true ∧
    sourceActive (motion1 id) 25 = true ∧ motionRuns (motion1 id) = true ∧
    (imu (motion1 (fun m => { m with edges := [5], running := some 4 })) 3).edges = [5] ∧
    (imu (motion1 (fun m => { m with running := some 4 })) 3).buffers = [] ∧ canAcks (motion1 id) 1 = true ∧
    canFilters (setting (motion1 id) 0x0407 1) = 1 ∧
    filterTakes (canFilter (setting (motion1 id) 0x0407 1) 0) canMessage1 = true := by decide +kernel

/-- The encoder's last edge, and edges 72 ns, 40 ns and 32 ns after it with FILTER 4. -/
theorem witness_encoder : (fld (setting (motion1 id) 0x0406 3) 48 8 * 8 + 40) * nsUnits = 72 * nsUnits ∧
    (40 : Nat) * nsUnits < 72 * nsUnits ∧ fld (setting (motion1 id) 0x0406 3) 48 8 * 8 * nsUnits = 32 * nsUnits ∧
    (vget (motion1 id).ingest.encoders 3).b ≠ true := by decide +kernel

/-- The primary IMU with a unit before, silent for ten periods. -/
def silentImu : State :=
  let s := modSource 19 (fun m => { m with state := .valid, lastUnit := some 0 }) (motion1 (fun m => { m with lastEdge := some 0 }))
  { s with align := { s.align with primary := some 3 }, time := { s.time with count := 50000000 } }

theorem witness_loss : srcIdx 0x23 = some 19 ∧ sourceActive silentImu 19 = true ∧ (source silentImu 19).state = .valid ∧
    sourceSilent silentImu 19 = true ∧ imuUsable silentImu 3 = true ∧ newestTime silentImu 7 ≤ 7 := by decide +kernel

/-- A model in each case of R153. -/
theorem witness_model : (source silentImu 19).lastStamp = none ∧ (source silentImu 19).lastLag = none ∧
    (source silentImu 19).window.length < 63 ∧ sourceMode silentImu 19 = 0 ∧ sourceMode lidar1 15 = 3 ∧
    secUnits < mag ((secUnits : Int) + 1 - 0) := by decide +kernel

/-- The template fault of an empty template is its PAYLOAD_LENGTH. -/
theorem test_template_fault : templateFault (zeros 32) 32 = some 0 := by decide +kernel

/-- A binding whose ROWS and COLUMNS stand at their bounds. -/
theorem witness_configs : fld (csi1 1) 0 8 < 8 ∧ fld (csi1 1) 20 4 ≠ 0 := by decide +kernel

/-! ## Chapter 06 -/

/-- A pose entry at an instant, at rest at the origin. -/
def entryAt (t : Dts) : PoseEntry := { (default : PoseEntry) with time := t, qW := 0x3F800000 }

/-- A state in RUN with two pose entries 1 ms apart and a fusion set at an instant. -/
def posed (f : FusionSet) : State :=
  let s := timed 0 liveRun
  { s with align := { s.align with history := [entryAt (100 * msUnits), entryAt (99 * msUnits)], sets := [f] },
           time := { s.time with count := 50000000 } }

/-- A set whose instant has come. -/
def set1 : FusionSet := { (default : FusionSet) with frame := 3, instant := 99 * msUnits }

theorem witness_poses : poseLimit (posed set1) = 20000 * usUnits ∧ 20000 * usUnits < 121 * msUnits - 100 * msUnits ∧
    120 * msUnits - 100 * msUnits ≤ 20000 * usUnits ∧ 100 * msUnits - 99 * msUnits ≤ 20000 * usUnits ∧ 20000 * usUnits < 100 * msUnits - 79 * msUnits := by decide +kernel

/-- Table 6.5: 8.0 m/s for 1.85 ms from the origin is 14.80 mm, as FP32. -/
theorem test_table_6_5 : to32 ((f32 0).add ((f32 0x41000000).mul (secondsOf ((1850000 * nsUnits : Nat) : Int)))) = 0x3C727BB3 := by
  decide +kernel

theorem witness_parts : (posed set1).align.sets = [] ++ set1 :: [] ∧ set1.cameraClosed = false ∧ set1.lidarClosed = false ∧
    set1.skipped = false ∧ set1.instant ≤ now (posed set1) ∧ set1.poseReady = false ∧
    closesNow (posed set1) true { set1 with frame := 2, cameraClosed := true } = false ∧
    closesNow (posed set1) false { set1 with frame := 2, lidarClosed := true } = false ∧
    partReady (posed set1) set1.instant true = true ∧ partReady (posed set1) set1.instant false = true ∧
    inRun (posed set1) = true ∧ awake (posed set1) = true := by decide +kernel

/-- A camera that is due and has nothing in window. -/
def dueCamera : State :=
  let s := posed set1
  modSource 7 (fun m => { m with state := .valid }) (putSetting 0x0400 7 (csi1 0)
    { s with align := { s.align with pairing := factory 0x0501 0 } })

theorem witness_due : dueIn dueCamera 7 = true ∧ unitsOfSource dueCamera 7 = [] ∧ missLimit dueCamera = 3 ∧
    partReady dueCamera set1.instant true = false ∧ now dueCamera < set1.instant + cameraCloseMs dueCamera * msUnits ∧
    2 * (source dueCamera 7).residual ≤ (framePeriod dueCamera : Int) := by decide +kernel

/-- A camera whose one unit in window is damaged: neither clause of a whole unit nor of none. -/
def damagedCamera : State :=
  modReceiver 7 (fun x => { x with slots := vset x.slots 0 { (default : RingSlot) with
    frame := some { (default : CamFrame) with mid := set1.instant, arrival := set1.instant, damaged := true } } }) dueCamera

theorem witness_damagedOnly : (∃ u ∈ unitsOfSource damagedCamera 7, inWindow damagedCamera set1.instant u.mu u.alpha = true) ∧
    ∀ u ∈ unitsOfSource damagedCamera 7, inWindow damagedCamera set1.instant u.mu u.alpha = true → u.damaged = true := by
  decide +kernel

/-- A unit in window: its mapped and arrival instants at the fusion instant itself. -/
theorem witness_inWindow : inWindow dueCamera 5 5 5 = true := by decide +kernel

/-- The vehicle more than one patch ahead of the centre, and more than three, in units of patches of 12.8 m at reset: 15 m and 40 m. -/
theorem witness_scroll : scrollOf live (f32 0x41700000) 0 = 1 ∧ farFrom live (f32 0x41700000) 1 = false ∧
    farFrom live (f32 0x42200000) 1 = true ∧ scrollOf live (f32 0xC1700000) 0 = -1 := by decide +kernel

theorem witness_poseAt : (posed set1).align.sets.find? (fun f => !f.poseReady && !f.skipped &&
      decide (f.instant ≤ now (posed set1)) && (poseAt (posed set1) f.instant).isSome) = some set1 ∧ isWorker (posed set1) = false ∧
    (poseFor (posed set1) set1.instant).1 = 0 ∧ rebaseEnabled (posed set1) = true := by decide +kernel

/-- No pose within 2,048 m of the origin moves the anchor. -/
theorem witness_noRebase : rebaseAt (entryAt (99 * msUnits)) (posed set1) = posed set1 := by
  have h : (rebaseEnabled (posed set1) && (Dy.ofInt (2048 * 2048)).lt
      (((f32 (entryAt (99 * msUnits)).posX).mul (f32 (entryAt (99 * msUnits)).posX)).add
        ((f32 (entryAt (99 * msUnits)).posY).mul (f32 (entryAt (99 * msUnits)).posY)))) = false := by decide +kernel
  unfold rebaseAt
  simp only [h]
  rfl

/-- Three voters of which two agree: the third is the outlier. -/
theorem test_vote_majority : vote (fun a b => a == b || a + b == 1) [0, 1, 2] = (.majority, [2]) := by decide

/-- The middle one agrees with both others, which disagree: AMBIGUOUS. -/
theorem test_vote_ambiguous : vote (fun a b => a == b || a + b == 1 || a + b == 3) [0, 1, 2] = (.ambiguous, []) := by decide

theorem witness_vote : ([0, 1, 2] : List Nat).Nodup ∧ vote (fun a b => a == b) [0, 1, 2] = (.contested, []) := by decide

/-- A scan match before its deadline, wheels 10 ms after their last update, an encoder with two edges. -/
def scanning : State :=
  let s := putSetting 0x0406 3 (pack 16 [(0, 8, 3), (64, 32, 100), (96, 32, 2000000)]) (posed set1)
  { s with
    align := { s.align with scan := some { (default : ScanMatch) with frame := 3, instant := 99 * msUnits } },
    ingest := { s.ingest with encoders := vset s.ingest.encoders 3 { (default : Encoder) with
      edges := [(0, 0, true), (msUnits, 1, true)] } } }

theorem witness_scan : (0 : Nat) < fld (setting scanning 0x0503 0) 176 8 ∧ now scanning < scanEnd scanning (99 * msUnits) ∧
    scanning.align.lastWheelUpdate + 10 * msUnits ≤ now scanning ∧ encoderSpeed scanning 0 = some 20000000 ∧
    (scanning.align.sets.find? (fun f => !f.voted && decide (scanEnd scanning f.instant ≤ now scanning))) = none := by
  decide +kernel

/-- The deadline of a fusion set 28 ms after its instant. -/
theorem witness_deadline : (posed { set1 with instant := 72 * msUnits }).align.sets.find? (fun f => !f.voted &&
    decide (scanEnd (posed { set1 with instant := 72 * msUnits }) f.instant ≤ now (posed { set1 with instant := 72 * msUnits }))) =
    some { set1 with instant := 72 * msUnits } := by decide +kernel

/-! ## Chapter 07 -/

/-- A take of one point, and an empty fold of it. -/
def point1 (lidar_ scan mu : Nat) (near : Bool) : DeskPoint :=
  { lidar := lidar_, scanIndex := scan, time := 0, near := near, intensity := 7, x := 0, y := 0, z := 0, mu := mu }

def take1 : Take :=
  { (default : Take) with frame := 3, points := [point1 7 5 0 true], begun := true }

def fold1 (table : List Voxel) (far : Nat) : TakeFold :=
  { table := table, near := 0, far := far, taken := 0, pastCap := 0, lidars := Vector.replicate 8 default, truncated := [],
    mus := [(2, 9)] }

/-- The point at the origin: layer 10 of the default configuration, bucket 10 × 0x2C1D mod 65,536. -/
theorem test_bucket : bucketOf 65536 0 0 10 = 0xB922 ∧ (voxelIndex live take1 (point1 7 5 0 true)).kz = 10 ∧
    outside live take1 (voxelIndex live take1 (point1 7 5 0 true)) = false := by decide +kernel

/-- An entry of its bucket. -/
def voxel1 (way kz lidar_ scan : Nat) : Voxel :=
  { (default : Voxel) with bucket := 0xB922, way := way, keyZ := kz, lidar := lidar_, scanIndex := scan, hits := 1 }

/-- A point outside, an empty bucket, a merge, a full bucket, the far quota. -/
theorem witness_insert : outside live take1 (voxelIndex live take1 { point1 7 5 0 true with z := 0x42C80000 }) = true ∧
    pointMarked live 4 0xB922 = false ∧ nearEntries live = 65536 ∧
    (insertPoint live take1 (fold1 [] 196607) (point1 7 5 0 false)).far = 196608 ∧
    (insertPoint live take1 (fold1 [] 196608) (point1 7 5 0 false)).truncated = [keySlot live 0 0] ∧
    (insertPoint live take1 (fold1 [voxel1 0 10 7 6] 0) (point1 7 5 0 true)).table.length = 1 ∧
    (insertPoint live take1 (fold1 [voxel1 0 1 0 0, voxel1 1 2 0 0, voxel1 2 3 0 0, voxel1 3 4 0 0] 0)
      (point1 7 5 0 true)).table.length = 4 := by decide +kernel

/-- One sweep's later point in scan order does not replace the kept one; a newer sweep's does. -/
theorem test_keeps : keepsPoint (fold1 [] 0) (point1 7 5 0 true) (voxel1 0 10 7 5) = false ∧
    keepsPoint (fold1 [] 0) (point1 7 5 10 true) (voxel1 0 10 2 5) = true ∧
    keepsPoint (fold1 [] 0) (point1 7 5 9 true) (voxel1 0 10 2 5) = false := by decide +kernel

/-- A take waiting, and one whose frame holds the array. -/
def taking (complete : Bool) : State :=
  let s := timed 0 liveRun
  { s with
    point := { s.point with current := some { take1 with complete := complete } },
    rink := { s.rink with frame := some { (default : TileFrame) with frame := 3 } } }

theorem witness_takes : live.point.current = none ∧ live.point.latestRef = none ∧ take1.begun = true ∧ take1.complete = false ∧
    (taking true).rink.frame = some { (default : TileFrame) with frame := 3 } := by decide +kernel

/-! ## Chapter 08 -/

/-- The walk order of R247: row 1 runs from x = 6 to 0; tile 48 ends it. -/
theorem test_walk : walkOrder.length = 49 ∧ walkOrder.take 9 = [0, 1, 2, 3, 4, 5, 6, 13, 12] ∧ walkOrder.getLast? = some 48 ∧
    (walkAfter 48).head? = some 0 := by decide +kernel

/-- Table 10.3: the slots of five global patches. -/
theorem test_slots : slotIndex 8 3 = 24 ∧ slotIndex 8 4 = 32 ∧ slotIndex 9 4 = 33 ∧ slotIndex 11 4 = 35 ∧ slotIndex (-1) (-1) = 47 := by
  decide +kernel

/-- A scroll of +1 in x clears the six patches of one column. -/
theorem test_scroll : (scrollBy 1 0 liveRun).rink.counters.patchClears = 6 ∧ (scrollBy 1 0 liveRun).rink.centreX = 1 ∧
    (scrollBy 0 1 liveRun).rink.counters.patchClears = 8 := by decide +kernel

/-- A rebase by (8, −3) turns slot (1, 1) to slot (1, 4). -/
theorem test_rotate : (vget (rotateRoutes 8 (-3) liveRun).rink.tiles 9).slot = some 33 := by decide +kernel

theorem witness_walk : inSentry liveRun = false ∧ liveRun.rink.reduced = false ∧
    (List.range 48).all (fun n => (ownerOf liveRun n).isSome) = true ∧
    patchOfSlot 1 0 4 ≠ patchOfSlot 0 0 4 ∧ patchOfSlot 1 0 3 = patchOfSlot 0 0 3 := by decide +kernel

/-- A set whose boundary is due. -/
def atBoundary : State :=
  let s := timed 0 liveRun
  { s with align := { s.align with sets := [{ (default : FusionSet) with frame := 3, cameraClosed := true, poseReady := true }] } }

theorem witness_boundary : awake atBoundary = true ∧ inRun atBoundary = true ∧ atBoundary.power.change = none ∧
    atBoundary.rink.frame = none ∧ (nextFrameFor atBoundary).isSome = true ∧ atBoundary.safety.imageNotBefore = none ∧
    isWorker atBoundary = false ∧ atBoundary.plans.swap = none ∧ atBoundary.rink.reducePending = false := by decide +kernel

/-- A migration in a phase, from tile 0 to tile 48. -/
def migrating (p : MigrationPhase) (mismatch : Bool) : State :=
  let s := timed 0 liveRun
  let s1 := modTile 48 (fun (t : Tile) =>
    { t with role := if p == .drain then .service else .migrationTarget, signature := flag mismatch }) s
  { s1 with
    rink := { s1.rink with migration := some { phase := p, source := 0, target := 48, tick := 0, since := 0 } },
    time := { s1.time with count := 1000000 } }

/-- A forwarder to which no router's copy leads any more. -/
def drained : State :=
  let s := migrating .drain false
  modRink (fun (r : Rink) => { r with copies := r.copies.map (fun (c : RouteCopy) => { c with owners := default }) }) s

theorem witness_migration : tileRole (migrating .copy false) 0 = .service ∧ tileRole (migrating .copy false) 48 = .migrationTarget ∧
    awake (migrating .shadow true) = true ∧
    (vget (migrating .shadow true).rink.tiles 0).signature ≠ (vget (migrating .shadow true).rink.tiles 48).signature ∧
    (vget (migrating .shadow false).rink.tiles 0).signature = (vget (migrating .shadow false).rink.tiles 48).signature ∧
    10 * 0 + 1024 * usUnits ≤ 10 * now (migrating .copy false) ∧ unrouted (migrating .drain false) 0 = false ∧
    unrouted drained 0 = true ∧ 10 * 0 + 5 * usUnits ≤ 10 * now drained := by
  decide +kernel

/-- A spare ready, a spare in test, no spare. -/
def spares (r : TileRole) : State :=
  let s := modTile 48 (fun (t : Tile) => { t with role := r, slot := none }) (timed 0 liveRun)
  { s with rink := { s.rink with migrationDue := some 5, previousSource := some 3 } }

theorem witness_spares : longest (spares .spareReady) .spareReady (·.readySince) = some 48 ∧
    (walkAfter 3).find? (fun u => tileRole (spares .spareReady) u == .service) = some 4 ∧
    tileRole (spares .spareTesting) 48 = .spareTesting ∧ (vget (spares .spareTesting).rink.tiles 48).draining = false ∧
    tileRole (spares .spareReady) 5 = .service ∧ (vget (spares .spareReady).rink.tiles 5).slot = some 5 ∧
    longest (spares .retired) .spareReady (·.readySince) = none ∧ longest (spares .retired) .spareTesting (·.spareSince) = none ∧
    inSentry (spares .retired) = false ∧ (spares .retired).rink.reduced = false := by decide +kernel

/-- Tile 12's slot passes to the spare at once (Table 8.9). -/
theorem test_retire : tileRole (retireTile 12 (spares .spareTesting)) 48 = .service ∧
    (vget (retireTile 12 (spares .spareTesting)).rink.tiles 48).slot = some 12 ∧
    (retireTile 12 (spares .spareTesting)).rink.counters.testsNotRun = 1 ∧
    (retireTile 12 (spares .retired)).rink.reducePending = true := by decide +kernel

theorem witness_lanes : (245 : Nat) ≤ 245 ∧ lookupD live.rink.laneSpares 7 0 = 0 ∧ awake live = true := by decide +kernel

/-- Nine tiles retired: one more would be the tenth. -/
def nineRetired : State :=
  (List.range 9).foldl (fun s i => modTile (20 + i) (fun (t : Tile) => { t with role := .retired, slot := none }) s)
    (spares .spareTesting)

theorem witness_tenth : wouldBeTenth nineRetired = true ∧ tileRole nineRetired 48 = .spareTesting ∧
    wouldBeTenth (spares .spareTesting) = false ∧ testMayEnd (spares .spareTesting) 48 = true ∧
    (vget nineRetired.rink.tiles 48).draining = false ∧
    (modRink (fun (r : Rink) => { r with mismatch := some (48, 3) }) (spares .spareTesting)).rink.mismatch = some (48, 3) := by
  decide +kernel

theorem witness_noMove : atBoundary.align.recentreDue = [] ∧ atBoundary.rink.centreX = 0 ∧ atBoundary.rink.rebaseX = 0 ∧
    (default : FusionSet).centreX = 0 ∧ (default : FusionSet).rebaseX = 0 ∧ liveRun.align.contestedPatches = [] := by
  decide +kernel

/-- A router with its own copy of the table, the others following later (R233). -/
theorem test_copy : (vget (match execRouteGenerationMarker 5 (spares .spareReady) with | .next t => t.rink.copies | _ => default) 5).generation =
    (spares .spareReady).rink.generation := by decide +kernel

/-! ## Chapter 09 -/

/-- Table 9.10: −2.75 in the floating formats and INT8, and the block of 5.2. -/
theorem test_encodings : (toFormat 7 0 0xC0300000 0).1 = 0xC0300000 ∧ (toFormat 6 0 0xC0300000 0).1 = 0xC030 ∧
    (toFormat 5 0 0xC0300000 0).1 = 0xC180 ∧ (toFormat 3 0 0xC0300000 0).1 = 0xC3 ∧ (toFormat 4 0 0xC0300000 0).1 = 0xC2 ∧
    (toFormat 1 0 0xC0300000 0x3E800000).1 = 0xF5 ∧ (mxElement 8 0 0x7F 0xC0300000).1 = 0xD ∧
    (mxElement 9 0 0x7F 0xC0300000).1 = 0x33 ∧ (mxElement 10 0 0x81 0xC0300000).1 = 0xD4 ∧
    sharedScale 8 [0xC0300000, 0x40A66666] = 0x7F ∧ sharedScale 10 [0xC0300000, 0x40A66666] = 0x81 ∧
    (mxElement 8 0 0x7F 0x40A66666).1 = 7 ∧ (mxElement 9 0 0x7F 0x40A66666).1 = 0x1A ∧
    (mxElement 10 0 0x81 0x40A66666).1 = 0x53 := by decide +kernel

/-- Table 9.10: the camera code 1,755 with GAIN 1/4095 in FP16. -/
theorem test_camera_code : (inputCode 5 0 (fadd (fmul (fofInt 1755) 0x39800801) 0)).1 = 0x36DB := by decide +kernel

/-- Table 9.12: 180 × 0.0125 − 0.4 = 1.85, and 1.598674 / 0.05 rounds to 32. -/
theorem test_epilogue : fmul (fofInt 180) 0x3C4CCCCD = 0x40100000 ∧ (toFormat 1 0 0x3FCCA159 0x3D4CCCCD).1 = 32 ∧
    fmul 0x80000000 0x40000000 = 0x80000000 := by decide +kernel

/-- An INT8 × INT8 layer, and a row of two outputs. -/
def int8Layer : Bytes := pack 64 [(4, 4, 1), (8, 4, 1), (12, 4, 1), (24, 4, 15), (32, 32, 2), (64, 32, 0x3F800000), (96, 32, 0x3F800000)]

def row1 : StepRow :=
  { at_ := 64, channel := 0, source := .product [⟨.sram, 0, 2, 0, 2⟩] [[⟨.sram, 2, 2, 0, 2⟩], [⟨.sram, 4, 2, 0, 2⟩]],
    residualFormat := 1, residual := [] }

/-- The tile's memory for it: A = 2, -1 and W = 3, 4 and 5, 6. -/
def memory1 : StepMemory :=
  { sram := cellsPut [] 0 [2, 255, 3, 4, 5, 6], spill := [], weights := [], tables := default, landing := [] }

theorem test_row : (rowResult memory1 [] int8Layer [] (row1, 0)).writes = [(64, [2, 4])] ∧
    (rowResult memory1 [] int8Layer [] (row1, 0)).failed = [] ∧
    (rowResult memory1 [] int8Layer [(0, 1, 1)] (row1, 0)).failed = [0] := by decide +kernel

theorem witness_rows : (pairKp (dscA int8Layer) (dscW int8Layer)).isSome = true ∧ fmtIsInt (dscA int8Layer) = true ∧
    (productRow 1 1 [(2, 127)] [[(3, 127)]] [(0, 1)]).checks.map (·.ok) = [false] := by
  decide +kernel

/-- A plan image of some sections shared by its variants. -/
def imageOf (l : List (Nat × Bytes)) : Bytes :=
  let dir := (l.zipIdx.foldl (fun (a : Bytes × Nat) x =>
    (a.1 ++ pack 16 [(0, 32, a.2), (32, 32, x.1.2.length), (96, 8, x.1.1), (104, 8, 0xFF)], a.2 + x.1.2.length))
    ([], 64 + 16 * l.length)).1
  pack 64 [(192, 16, l.length)] ++ dir ++ l.flatMap (·.2)

/-- A layer record: INT8 throughout, four channels, with its type, its mode and its halo width. -/
def layer1 (typ mode h : Nat) : Bytes :=
  pack 48 [(4, 4, 1), (8, 4, 1), (12, 4, 1), (24, 4, 15), (32, 32, 2), (64, 32, 0x3F800000), (96, 32, 0x3F800000), (128, 8, typ),
    (136, 2, mode), (160, 8, h), (168, 8, 255), (184, 4, 2), (192, 16, 4), (208, 16, 4)]

/-- A camera's record: receiver 2 with one column, its centre straight ahead; one bin, 1 m away; one strip. -/
def cameraRec1 : Bytes :=
  pack 48 [(0, 4, 2)] ++ pack 32 [(56, 8, 32), (72, 8, 1), (80, 16, 1), (192, 32, 0x3F800000), (224, 32, 0x3F800000)] ++
    pack 16 [(16, 16, 1), (32, 16, 64), (64, 16, 64)]

/-- A state whose plan has layers of every kind that the tests need. -/
def planned (s : State) : State :=
  let image := imageOf [(0x03, layer1 1 0 0 ++ layer1 10 0 0 ++ layer1 1 2 1 ++ layer1 12 0 0 ++ layer1 9 1 0), (0x06, cameraRec1)]
  { s with plans := { s.plans with
    driveSlot := some 0, slots := vset s.plans.slots 0 { vget s.plans.slots 0 with image := image } } }

/-- A frame on the array, in a phase, that tile 0 works for. -/
def onArray (p : FramePhase) : State :=
  let s := planned (timed 0 liveRun)
  { s with rink := { s.rink with frame := some { (default : TileFrame) with
      frame := 3, phase := p, deal := [0], cameras := [(2, 0)], strips := [(2, 0)] } } }

/-- A step without rows, with predecessors and perhaps a residue fault. -/
def step1 (pred : List Nat) (residue : Option Nat) : StepEnd :=
  { (default : StepEnd) with predecessors := pred, residue := residue }

/-- A step of a layer with the row above. -/
def step2 (layer : Nat) : StepEnd := { step1 [] none with layer := some layer, work := .rows [row1] }

/-- What a step yields on tile 0. -/
def yields (e : StepEnd) : StepResult :=
  let s := onArray .image
  stepResult s 0 e (enterStep s default 0 0 e (vget s.rink.tiles 0))

theorem witness_steps : workSlot (onArray .image) 0 = some 0 ∧ cellsWf (vget (onArray .image).rink.tiles 0).sram = true ∧
    (vget (onArray .image).rink.tiles 0).lastStep = none ∧ awake (onArray .image) = true ∧ inRun (onArray .image) = true ∧
    failedUnits (step1 [] none) (yields (step1 [] none)) = [] ∧ failedUnits (step1 [] (some 2)) (yields (step1 [] (some 2))) = [7] ∧
    haloReady (onArray .image) 0 (step2 0) = true ∧ gathersDealt (onArray .image) default 0 (step2 0) = true := by
  decide +kernel

/-- Layer 2 reads a halo whose point is not past; strip 5 is dealt to no slot. -/
theorem witness_unready : haloReady (onArray .image) 0 (step2 2) = false ∧
    gathersDealt (onArray .image) default 0 { step2 0 with gathers := [.camera 5 0 0 1 0] } = false := by decide +kernel

/-- A step with outputs, one of the temporal update, and a tile with a block to commit. -/
theorem witness_stepOutputs : (yields (step2 0)).writes = [(64, [0, 0])] ∧ (yields (step2 1)).writes ≠ [] ∧
    (stepLayer (onArray .image) (step2 1)).any (fun l => fld l 128 8 == 10) = true ∧
    (stepLayer (onArray .image) (step2 0)).any (fun l => fld l 128 8 == 10) = false ∧
    layerSpilled (onArray .image) 0 = false ∧ failedUnits (step2 1) (yields (step2 1)) = [] := by decide +kernel

/-- A temporal update fills the first working slot, and the next one the other; the first block is then in the state (R308). -/
theorem test_commit : (vget (putOutputs (onArray .image) 0 0 (step2 1) (yields (step2 1))).rink.tiles 0).uncommitted = some 0 ∧
    (commitBlock { (default : Tile) with uncommitted := some 0, working := vset default 0 [(64, [7])] }).sram = [(64, 7)] := by
  decide +kernel

theorem witness_accumulate : accumulate 5 5 [(0x3C00, 127)] [(0x4000, 127)] = .fp 0x40000000 false := by decide +kernel

/-! ## Chapter 10 -/

/-- The worked contribution: ⌊(90 × 40 + 64) / 128⌋ = 28; a negative weight is zero. -/
theorem test_share : liftShare 90 40 = 28 ∧ liftShare (-90) 40 = -28 ∧ liftShare 90 (-1) = 0 := by decide +kernel

/-- Two runs of one column. -/
def bin1 (x : Int) (cell : Nat) : Option LiftBin := some { patch := (x, 4), cell := cell, weight := 40 }

theorem test_runs : (cutRuns [bin1 8 1, bin1 8 2, none, bin1 8 3, bin1 9 4] none []).map (fun r => r.2.length) = [2, 1, 1] := by
  decide +kernel

/-- A frame in its Lift: slot 0 is served and camera 2 looks along x, or straight down. -/
def inLift (down : Bool) : State :=
  let s := modSlot 0 (fun (x : Slot) => { x with served := true }) (onArray .lift)
  { s with rink := { s.rink with
    frame := s.rink.frame.map (fun (f : TileFrame) =>
      { f with poses := [(2, { (default : PoseEntry) with qW := 0x3F800000 })] }),
    rays := [(2, pack 12 [(if down then 64 else 0, 32, 0x3F800000)])] } }

/-- The column of camera 2. -/
def column1 (residue : Bool) : LiftColumn := { pass := 0, column := 0, features := [90], weights := [40], residue := residue }

theorem witness_columns : liftRunning (inLift false) ((inLift false).rink.frame.getD default) = true ∧
    passColumns (planImage (inLift false)) ((inLift false).rink.frame.getD default) = [(2, 0)] ∧
    awaitedColumns (inLift false) ((inLift false).rink.frame.getD default) = [(2, 0)] ∧
    liftPasses (planImage (inLift false)) = 1 ∧ cameraRecord (planImage (inLift false)) 2 = some cameraRec1 ∧
    (columnRay (inLift false) ((inLift false).rink.frame.getD default) 2 0).map (fun g => degenerate g.2) = some false ∧
    (columnRay (inLift true) ((inLift true).rink.frame.getD default) 2 0).map (fun g => degenerate g.2) = some true ∧
    vget (vget (inLift false).rink.copies 3).owners 0 = some 0 ∧ slotServed (inLift false) 0 = true := by decide +kernel

/-- A column makes one packet; with a residue fault it makes none, and the frame's Lift is routed once more. -/
theorem test_column : ∃ t u, exec (.liftColumn 2 (column1 false)) (inLift false) = .next t ∧
    t.rink.packets.map (fun p => (p.slot, p.bins, p.tile)) = [(0, [(5, 40)], 0)] ∧
    exec (.liftColumn 2 (column1 true)) (inLift false) = .next u ∧ u.rink.packets = [] ∧
    u.rink.frame.map (·.rerouted) = some true := by
  refine ⟨_, _, rfl, ?_, rfl, ?_⟩ <;> decide +kernel

/-- A packet of one bin to cell 5 of slot 3. -/
def packet3 : LiftFlight := { slot := 3, receiver := 2, features := [90, -90], bins := [(5, 40)], tile := 3, path := [3] }

/-- It is on its way to its tile, or to one that the slot has left. -/
def landing1 (tile : Nat) : State :=
  let s := onArray .lift
  { s with rink := { s.rink with packets := [{ packet3 with tile := tile }] } }

theorem test_landing : ∃ t, exec (.liftPacket { slot := 3 }) (landing1 3) = .next t ∧
    lookupD (vget t.rink.slots 3).landing 160 0 = 28 ∧ lookupD (vget t.rink.slots 3).landing 161 0 = -28 := by
  refine ⟨_, rfl, ?_⟩; decide +kernel

theorem witness_lift : (landing1 3).rink.packets.find? (fun p => p.slot == 3) = some packet3 ∧ awake (landing1 3) = true ∧
    (vget (landing1 3).rink.slots 3).patchLost = false ∧ packetArrives (landing1 3) packet3 = true ∧
    packetArrives (landing1 4) { packet3 with tile := 4 } = false := by decide +kernel

/-- A Lift whose columns have all come. -/
def routed : State :=
  let s := onArray .lift
  { s with rink := { s.rink with frame := s.rink.frame.map (fun (f : TileFrame) => { f with columns := [(2, 0, 0)] }) } }

theorem witness_marker : awaitedColumns routed (routed.rink.frame.getD default) = [] ∧ routed.rink.packets = [] ∧
    (vget routed.rink.slots 0).markers = 0 ∧ ((gate routed 5).armed.find? (fun w => w.key == 3)).isNone = true := by
  decide +kernel

/-- A frame in its BEV phase that serves slots 0 and 1; a gather waits for tile 1. -/
def inBev : State :=
  let s := modSlot 1 (fun (x : Slot) => { x with served := true }) (modSlot 0 (fun (x : Slot) => { x with served := true }) (onArray .bev))
  { s with
    rink := { s.rink with gathers := [{ slot := 0, tile := 1, to_ := 64, sent := 0 }] },
    time := { s.time with count := 30000 } }

theorem witness_bev : neighbourSlot inBev 0 4 = some 1 ∧ slotServed inBev 0 = true ∧ (vget inBev.rink.slots 0).headsDone = false ∧
    workSlot inBev 0 = some 0 ∧ awake inBev = true ∧ stripCells 1 4 = 64 ∧
    (layerRecords (planImage inBev))[2]? = some (layer1 1 2 1) ∧ (vget inBev.rink.slots 0).haloLayer ≠ some 2 ∧
    (vget inBev.rink.slots 0).haloWait = [] ∧ (vget (vget inBev.rink.copies 0).owners 1) = some 1 ∧ ownerOf inBev 1 = some 1 ∧
    (layerRecords (planImage inBev))[3]? = some (layer1 12 0 0) ∧ patchInExtent inBev (-100, 0) = false := by decide +kernel

theorem witness_gather : (inBev.rink.gathers.find? (fun x => x.tile == 1 && decide (x.sent + 50 * usUnits ≤ now inBev))).isSome =
    true := by decide +kernel

/-- The neighbour's strip goes into the halo ring; the gather of its tile's bytes lands in the asking tile's SRAM. -/
theorem test_strip : ∃ t, exec (.haloPoint 0 { layer := 2, neighbour := 4, cells := List.range 64, ring := [] }) inBev = .next t ∧
    (vget t.rink.slots 0).haloLayer = some 2 ∧ 4 ∉ (vget t.rink.slots 0).haloWait := by
  refine ⟨_, rfl, ?_⟩; decide +kernel

/-- A frame whose Lift has ended and whose rule books are delivered. -/
def lifted : State :=
  let s := onArray .lift
  { s with
    point := { s.point with delivered := some 3 },
    rink := { s.rink with frame := s.rink.frame.map (fun (f : TileFrame) => { f with pass := 1 }) } }

theorem witness_lifted : liftPasses (planImage lifted) ≤ 1 ∧ lifted.point.delivered = some 3 ∧ awake lifted = true := by
  decide +kernel

/-- The last slot of a frame, and one of two. -/
theorem witness_heads : (inBev.rink.frame.map (·.deal)) = some [0] ∧ (vget inBev.rink.slots 0).patchLost = false ∧
    crossChecks inBev = false ∧ ((gate inBev 6).armed.find? (fun w => w.key == 3)).isNone = true := by decide +kernel

/-- An export whose last record is in LPDDR. -/
def exported : State :=
  { live with rink := { live.rink with export_ := { live.rink.export_ with k := 5, writing := some 9, written := List.range 48 } } }

theorem witness_export : exported.rink.export_.writing ≠ none ∧ 48 ≤ exported.rink.export_.written.length ∧
    cellsWf exported.memory.exportRegion = true ∧ exportBuffer 5 = 0x800000 := by decide +kernel

/-! ## Chapter 11 -/

/-- The worked example's spill list: E0, E1, E2. -/
def spill3 : List Bytes :=
  [pack 16 [(0, 32, 212), (48, 16, 256), (64, 32, 850)], pack 16 [(0, 32, 230), (48, 16, 256), (64, 32, 800)],
   pack 16 [(0, 32, 241), (48, 16, 128), (64, 32, 400)]]

/-- Table 11.16: two entries are applied; RATE 29 and 28, then 27 and 26. -/
theorem test_fit : applySpill spill3 4520 31400 0 0 = (4008, 33050, 0, 2) ∧ driveRate 33050 false 30 = some 29 ∧
    driveRate 33050 true 30 = some 28 ∧ driveRate 36300 false 30 = some 27 ∧ driveRate 36300 true 30 = some 26 := by
  decide +kernel

theorem witness_rates : sentryRate 10 100000 false 10 = some 9 := by decide +kernel

/-- A load in progress in slot 1; a plan command in Drive and in SETUP. -/
theorem witness_loading : loadingSlot (modPlanSlot 1 (fun p => { p with loading := true }) live) = some 1 ∧
    verifyImage live [] 0 = some (1, 0xFF) ∧ postureRuns live 0 = false := by decide +kernel

theorem witness_running : postureRuns liveRun 0 = true ∧ liveRun.plans.swap = none := by decide +kernel

/-! ## Chapter 12 -/

/-- A descriptor of an operation. -/
def job1 (op n r : Nat) : Bytes := pack 32 [(56, 8, op), (64, 3, 1), (80, 8, n), (88, 8, r)]

/-- Table 12.6, and QR of 64 × 32 with R = 0. -/
theorem test_worst : worstFactor 4 = 108 ∧ worstFactor 32 = 1115 ∧ worstCase (job1 0 8 9) = 314 ∧ worstCase (job1 0 32 1) = 1519 ∧
    worstCase (job1 3 32 0) = 5425 ∧ worstStep (job1 0 6 1) = 101 ∧ worstQr 64 32 0 = 7404 := by decide +kernel

/-- The tunnel's first pivot is replaced (R354). -/
theorem test_pivot : pivotReplaced (job1 0 6 1) [0x34D6BF95] 0 = true ∧ pivotReplaced (job1 0 6 1) [0x3F800000] 0 = false := by
  decide +kernel

theorem witness_batch : batchBad ([1] ++ zeros 15 ++ job1 0 6 1) = none := by decide +kernel

/-- A job of a batch of two on lane 0, and an internal job on pair 0. -/
def solving (owner : JobOwner) (lanes : List Nat) : State :=
  let j : Job := { (default : Job) with owner := owner, desc := job1 0 6 1, running := some (lanes, 0) }
  let i : Job := { (default : Job) with id := 1, owner := .user key1 1, desc := job1 0 6 1, deadline := some 5 }
  { live with solver := { live.solver with jobs := [j, i], nextId := 2 } }

theorem witness_solver : solverRuns live = true ∧ ((solving (.user key1 0) [0]).solver.jobs.map (fun j => j.id)).Nodup ∧
    ((solving (.user key1 0) [0]).solver.jobs.find? (fun j => j.id == 0)).isSome = true ∧
    batchJobs live key1 = [] ∧ awake (solving .lidarVoter [0, 1]) = true := by decide +kernel

/-- A job whose worst case does not fit its deadline ends NOT_RUN; without one it starts on lane 2 of a split pair. -/
theorem test_schedule : ((schedule (solving (.user key1 0) [0])).solver.jobs.getD 1 default).record.isSome = true := by
  decide +kernel

/-! ## Chapter 13 -/

/-- Table 13.10's closing speed and key need the propagation's sine; the existence rules do not: 64 with gain 96 rises by 72,
166 with gain 64 falls by 42. -/
theorem test_existence : existenceUp 64 96 = 136 ∧ existenceDown 166 64 = 124 ∧ liveLimit live = 16384 := by decide +kernel

/-- R378: 12 pairs in service carry 15,200 tracks, 8 carry 10,133. -/
theorem test_limit : liveLimit { live with glide := { live.glide with pairsRetired := 15 } } = 15200 ∧
    liveLimit { live with glide := { live.glide with pairsRetired := 255 } } = 10133 := by decide +kernel

/-- The unit square, half-open: its lower left corner lies in it, its upper right one not. -/
def square : Bytes := bytesOfNat 1 7 ++ [4] ++ zeros 6 ++
  [0, 0, 0x3F800000, 0, 0x3F800000, 0x3F800000, 0, 0x3F800000].flatMap (bytesOfNat 4)

theorem test_zone : insideZone (f32 0) (f32 0) square = true ∧ insideZone (f32 0x3F800000) (f32 0x3F800000) square = false ∧
    insideZone (f32 0x3F000000) (f32 0x3F000000) square = true ∧ zoneBad square = none := by decide +kernel

/-- A track, and the records' lengths of Tables 13.1, 13.4, 13.8, 13.13. -/
def track1 : Track := { (default : Track) with trackId := 7, life := 2, existence := 200, state := List.replicate 8 0, cov := List.replicate 36 0 }

theorem test_lengths : (trackBytes track1).length = 256 ∧
    (resultPacket live { (default : ResultHead) with kind := 1 } [] [] 0).length = 896 ∧
    (trackRecord { (default : PropTrack) with track := track1 }).length = 112 ∧
    (eventRecord 3 default).length = 63 := by decide +kernel

/-- A tick in formation: before its cut-off, after it, and with propagation ended. -/
def ticked (open_ : Bool) (form : Option ResultForm) : State :=
  let s := timed 0 liveRun
  { s with
    time := { s.time with count := 2500000, nextTick := some (5 * msUnits), openTick := if open_ then some (4 * msUnits) else none },
    glide := { s.glide with store := [track1], result := form } }

theorem witness_tick : ticking (ticked false none) = true ∧ awake (ticked false none) = true ∧
    (ticked false none).time.cutoff ≠ some (5 * msUnits) ∧ (ticked false none).time.openTick = none ∧
    (ticked false none).glide.pending = [] ∧ (ticked true none).time.openTick = some (4 * msUnits) ∧
    resultTracks (ticked true none) 0 ≠ none := by decide +kernel

/-- A result in formation for the tick at an instant, and an update of one frame finished at one. -/
def formAt (t : Dts) : ResultForm := { (default : ResultForm) with instant := t }

def update1 (d : Dts) : FrameUpdate := { (default : FrameUpdate) with finished := some d }

theorem witness_propagation : now (ticked false none) = 5 * msUnits ∧
    now (ticked false none) + 420 * usUnits < (formAt (6 * msUnits)).instant ∧
    (formAt (5 * msUnits + 100 * usUnits)).instant ≤ now (ticked false none) + 420 * usUnits ∧
    now (ticked false none) + 20 * usUnits ≤ (formAt (5 * msUnits + 100 * usUnits)).instant ∧
    (formAt (5 * msUnits)).instant < now (ticked false none) + 20 * usUnits ∧
    (4 * msUnits) + 150 * usUnits ≤ now (ticked true none) ∧ (update1 (5 * msUnits - msUnits / 2)).finished =
      some (5 * msUnits - msUnits / 2) ∧ (update1 0).worker = none := by decide +kernel

theorem witness_form : (ticked false (some default)).glide.result = some default ∧ (default : ResultForm).done = false ∧
    (default : ResultForm).reason = 0 ∧ bitOf (ticked false (some default)).glide.pairsRetired 3 = false := by decide +kernel

/-- A frame's detections on their way, with and without a pending frame. -/
def arriving1 (pending : List FrameUpdate) : State :=
  let s := timed 0 liveRun
  { s with glide := { s.glide with arriving := [{ (default : DetectionSet) with frame := 3 }], pending := pending, store := [track1] } }

theorem witness_arrival : ((arriving1 []).glide.arriving.find? (fun d => !d.arrived)).isSome = true ∧
    ((arriving1 []).glide.store.map (fun c => c.trackId)).Nodup ∧ inRun (arriving1 []) = true ∧
    freeIndex (arriving1 []) = some 1 ∧ (arriving1 []).glide.nextId < 2 ^ 32 ∧
    (arriving1 [default]).glide.pending.any (fun u => u.worker.isNone) = true := by decide +kernel

theorem witness_track : ((arriving1 []).glide.store.find? (fun t => t.trackId == 7)).isSome = true := by decide +kernel

/-- A tick and a fusion instant at a whole second of device time. -/
def tickDue : State :=
  let s := timed 0 { liveRun with
    plans := { liveRun.plans with driveSlot := some 0, variant := some 0,
                                  slots := vset liveRun.plans.slots 0 ⟨[], false, [⟨0, [], 0, 0, 30, 30⟩]⟩ } }
  { s with time := { s.time with count := 500000000, nextTick := some secUnits } }

theorem witness_tickDue : tickDue.time.nextTick = some secUnits ∧ tickDue.time.openTick = none ∧ secUnits ≤ now tickDue ∧
    inRun tickDue = true ∧ inSentry tickDue = false ∧ tickDue.power.change = none ∧ tickDue.align.fusionFrom ≤ secUnits ∧
    isFusionInstant tickDue secUnits = true ∧ awake tickDue = true ∧
    now { tickDue with time := { tickDue.time with count := 499999999 } } < secUnits := by decide +kernel

/-! ## Chapter 14 -/

/-- Table 14.5: with 15,488 words free a result keeps 960 tracks; with none it is lost. -/
def filled (used : Nat) (overrun : Bool) : State :=
  { live with host := { live.host with
    result := { live.host.result with words := List.replicate used default, overrun := overrun } } }

theorem test_shortened : (131072 - 115584 - 128) / 16 = 960 ∧ resultTracks (filled 3 false) 1024 = some 1024 ∧
    resultTracks (filled 0 true) 0 = none := by decide +kernel

theorem witness_overrun : (filled 0 true).host.result.overrun = true ∧ 128 + 16 * 1024 ≤ freeWords (filled 3 false) 2 ∧
    9 ≤ freeWords live 3 := by decide +kernel

/-- A pulse waits in normal native service. -/
def pulsing : State :=
  let n := liveRun.host.notices
  { liveRun with
    dev := { liveRun.dev with degradation := degradationOf liveRun },
    host := { liveRun.host with notices := { n with waiting := 2, lastPulse := none } } }

theorem witness_pulse : pulsing.host.notices.waiting ≠ 0 ∧ flowService pulsing = false ∧ t16 pulsing = false ∧
    awake pulsing = true ∧ flowService live = true ∧ pulsing.dev.degradation = degradationOf pulsing := by decide +kernel

/-- A result queue in a reset that a command asked for. -/
def resetting : State :=
  { live with host := { live.host with
    result := { live.host.result with inReset := true, resetBy := some key1 }, flight := [{ (default : Cmd) with key := key1 }] } }

theorem witness_reset : (outQueue resetting 2).resetBy = some key1 ∧ (flightOf key1 resetting).isSome = true ∧
    awake resetting = true ∧ (outQueue live 2).inReset = false := by decide +kernel

/-- A result that is not yet whole when its queue is reset. -/
theorem witness_unfinished : unfinished { resetting with host := { resetting.host with
      result := { resetting.host.result with stagedUntil := 1 } } } = true ∧ unfinished live = false ∧
    freeWords (filled 131000 false) 2 < 128 ∧ freeWords (filled 130900 false) 2 < 128 + 16 * 1024 ∧
    128 ≤ freeWords (filled 130900 false) 2 := by decide +kernel

/-! ## Chapter 15 -/

/-- A report at the start of device time. -/
def report1 (src unit level : Nat) (cls : FaultClass) (at_ : Dts) : Report :=
  { source := src, unit := unit, cls := cls, level := level, detail := 0, at_ := at_, kind := .detection, injected := false }

/-- A state in RUN at 1 ms with reports on the wires, arrived, and an open record of subsystem 0x07. -/
def collecting (wires arrived : List Report) (opens : List FaultRecord) : State :=
  let s := timed 0 liveRun
  { s with
    time := { s.time with count := 500000 },
    patrol := { s.patrol with wires := wires, arrived := arrived, opens := opens.map (fun r => (sourceSub r.source, r)), log := opens } }

theorem witness_wires : (collecting [report1 0x3A8 2 3 .uc 0] [] []).patrol.wires.find? (fun q => decide (arrivesFrom q ≤
      now (collecting [report1 0x3A8 2 3 .uc 0] [] []))) = some (report1 0x3A8 2 3 .uc 0) ∧
    (collecting [report1 0x3A8 2 5 .fa 0] [] []).patrol.wires.find? (fun q => decide (arrivesFrom q ≤
      now (collecting [report1 0x3A8 2 5 .fa 0] [] []))) = some (report1 0x3A8 2 5 .fa 0) ∧
    inShadow (collecting [] [report1 0x3A8 2 3 .uc 0] []) (report1 0x3A8 2 3 .uc 0) = false ∧
    sourceSub 0x3A8 ∉ [0x06, 0x08, 0x09] ∧ tableStore 0x3A8 2 = false ∧
    shadowMasks (collecting [report1 0x3A8 2 3 .uc 0] [] []) (report1 0x3A8 2 3 .uc 0) = false ∧
    isPointer 0x3A8 = false ∧ awake (collecting [report1 0x3A8 2 3 .uc 0] [] []) = true ∧
    sourceExists (sourceOf 0x0C 1 0) = true ∧ unitExists (queueFault 3 2) 0 = true ∧ sourceExists (queueFault 3 2) = true := by
  decide +kernel

theorem witness_masked : shadowMasks { live with patrol := { live.patrol with shadows := [⟨7, 0, none⟩] } }
    (report1 0x3A8 2 3 .uc 0) = true := by decide +kernel

theorem witness_judged : (collecting [] [report1 0x3A8 2 3 .uc 0] []).patrol.judgedTo ≤ 0 ∧
    0 + 3 * usUnits ≤ now (collecting [] [report1 0x3A8 2 3 .uc 0] []) ∧
    (collecting [] [report1 0x3A8 2 3 .uc 0] []).patrol.latch = none ∧ sourceSub 0x3A8 = 7 ∧
    openRec (collecting [] [report1 0x3A8 2 3 .uc 0] []) 7 = none ∧
    openRec (collecting [] [report1 0x3A8 2 1 .ce 0] [newRecord (report1 0x38A 0 4 .uc 0)]) 7 =
      some (newRecord (report1 0x38A 0 4 .uc 0)) ∧
    (collecting [] [report1 0x3A8 2 1 .ce 0] [newRecord (report1 0x38A 0 4 .uc 0)]).patrol.shadows = [] := by decide +kernel

/-- Table 15.13 at +303 µs: A for 0x3A8 is latched with OVERFLOW and SIMULTANEOUS, B for 0x899 is logged after it. -/
theorem test_table_15_13 :
    let t := judgeCycle [report1 0x3A8 2 3 .uc 0, report1 0x899 0 2 .ce 26214] (collecting [] [] [])
    t.patrol.log.map (fun r => (r.source, r.isOpen)) = [(0x3A8, true), (0x899, false)] ∧
      t.patrol.latch.map (fun r => (r.source, r.overflow, r.simultaneous, r.level, r.action)) = some (0x3A8, true, true, 3, 1) := by
  decide +kernel

/-- Table 15.13 at +325 µs: the re-run's mismatch is lasting at L4, ACTION 5, and tile 20 is retired. -/
theorem test_lasting :
    let s := judgeCycle [report1 0x3A8 2 3 .uc 0] (collecting [] [] [])
    let t := judgeCycle [report1 0x3A8 2 3 .uc 1000000] s
    (openRec t 7).map (fun r => (r.level, r.action, r.retry, r.merged)) = some (4, 5, .lasting, 0) ∧
      (vget t.rink.tiles 20).role = .retired := by decide +kernel

/-- A record that awaits a reaction since the start of device time, and the setting of a quiet unit. -/
def awaiting : State :=
  let s := collecting [] [] [{ newRecord (report1 0x3A8 2 4 .uc 0) with awaitingFrom := some 0, retry := .lasting }]
  { s with patrol := { s.patrol with quiet := [⟨0x3A8, 2, 0⟩] }, time := { s.time with count := 50000000 } }

theorem witness_reaction : (openRec awaiting 7).map (fun r => (r.awaitingFrom, r.shadow, r.cls, sourceSub r.source)) =
      some (some 0, false, .uc, 7) ∧
    0 + fld (setting awaiting 0x0C03 0) 0 24 * usUnits ≤ now awaiting ∧ defaultReaction 0x3A8 = 1 ∧
    awake awaiting = true ∧ resetAsked awaiting key1 = false ∧ 0 + quietMs awaiting * msUnits ≤ now awaiting ∧
    1 ≤ recoveryMax awaiting ∧ (marksOf awaiting 0x3A8).length + 1 ≤ markLimit awaiting ∧
    awaiting.patrol.quiet.find? (fun q => q.source == 0x3A8 && q.unit == 2) = some ⟨0x3A8, 2, 0⟩ := by decide +kernel

theorem witness_lasting : (openRec (collecting [] [] [newRecord (report1 (sourceOf 0x04 25 0) 0 4 .uc 0)]) 4).isSome = true ∧
    sourceL4 (sourceOf 0x04 25 0) = 25 ∧ sourceSub (sourceOf 0x11 7 4) = 0x11 ∧ sourceL4 (sourceOf 0x11 7 4) = 7 := by
  decide +kernel

theorem witness_resets : shadowOpen liveRun 4 = false ∧ liveRun.patrol.resetsWaiting = [] ∧ liveRun.glide.blockResetDue = none ∧
    ticking liveRun = true ∧ liveRun.time.openTick = none ∧ openRec liveRun 4 = none := by decide +kernel

/-- A block reset of Glide that waits for its slot: 0.4 ms after a tick, and before it. -/
theorem witness_glideSlot : let s := { awaiting with glide := { awaiting.glide with blockResetDue := some none } }
    ticking s = true ∧ s.safety.formedInstant + 400 * usUnits ≤ now s ∧
    ({ s with time := { s.time with nextTick := some 1 } } : State).time.nextTick ≠ s.time.cutoff := by decide +kernel

/-- A shadow whose reset was asked for by nobody. -/
def shadowed : State := { awaiting with patrol := { awaiting.patrol with shadows := [⟨6, 0, none⟩] } }

theorem witness_shadowed : shadowed.patrol.shadows = [⟨6, 0, none⟩] ∧ openRec shadowed 6 = none ∧
    shadowed.patrol.resetsWaiting = [] ∧ (gatesAfter 6).length ≠ 0 ∧
    now shadowed < { shadowed.safety with formedInstant := now shadowed }.formedInstant + 400 * usUnits := by decide +kernel

/-! ## Chapter 16 -/

theorem witness_enterSafe : (running1 liveRun 0x0D04 [5, 0, 0, 0]).host.flight = [cmd1 0x0D04 [5, 0, 0, 0]] ∧
    (running1 liveRun 0x0D04 []).dev.state ≠ .safe ∧ (cmd1 0x0D04 []).takeUp + countsPerUs = 500 ∧
    countNow { liveRun with time := { liveRun.time with count := 500 } } = 500 ∧ countNow liveRun = 0 := by decide +kernel

/-- ENTER_SAFE ends DONE once; a command that SAFE does not permit ends ABORTED beside it (R57). -/
theorem test_enterSafe :
    let s := setFlight [cmd1 0x0D04 [5, 0, 0, 0], { cmd1 0x0201 [] with key := { ver := .v2, tag := 2 } }]
      { liveRun with time := { liveRun.time with count := 500 } }
    ∃ t, exec (.enterSafe key1) s = .next t ∧ t.host.flight = [] ∧ packetsIn (countNow t + 1000) t.host.reply = 2 := by
  refine ⟨_, rfl, ?_⟩; decide +kernel

/-- The pins toggle and the reference runs; in SAFE with one copy left, on port 1. -/
def signalling : State :=
  let s := { liveRun with safety := { liveRun.safety with toggling := true, safeA := true }, pins := { liveRun.pins with refclk := true } }
  { s with time := { s.time with count := 25000 } }

theorem witness_toggle : signalling.safety.toggling = true ∧ signalling.pins.refclk = true ∧
    signalling.safety.lastToggle + 25000 ≤ countNow signalling ∧ inReset signalling = false ∧
    countNow { signalling with time := { signalling.time with count := 24999 } } < signalling.safety.lastToggle + 25000 := by
  decide +kernel

def repeating : State :=
  let s := slavePort4 1
  putSetting 0x0305 0 (pack 32 [(0, 8, 2), (8, 6, 16), (128, 8, 3), (176, 32, 1), (208, 48, 1)])
    { s with dev := { s.dev with state := .safe }, safety := { s.safety with repeatsLeft := 2 },
             time := { s.time with count := 500000 } }

theorem witness_repeat : repeating.dev.state = .safe ∧ repeating.safety.repeatsLeft ≠ 0 ∧
    repeating.safety.repeatFrom ≤ now repeating ∧ FreeForEvents 4 repeating ∧ safeTransport repeating = 2 ∧
    fld (safeBlock repeating) 8 6 = 2 ^ 4 ∧ portUp repeating 4 = true ∧ awake repeating = true := by
  unfold FreeForEvents; decide +kernel

/-- Table 16.10's sources: the SRAM bank of a tile is no comparator, its checksum column is one. -/
theorem test_injectedFault : injectedFault 0x3A8 4 2 = some (.uc, 3) ∧ injectedFault 0x3A8 12 2 = none ∧
    injectedFault (sourceOf 0x0C 1 0) 0 1 = some (.uc, 2) ∧ sourceExists (sourceOf 0x0D 2 2) = false := by decide +kernel

/-- An injected report that has arrived. -/
def injected1 : State :=
  let s := collecting [] [{ report1 0x3A8 4 3 .uc 0 with injected := true }] []
  setFlight [cmd1 0x0D03 []] { s with safety := { s.safety with injection := some ⟨key1, 0x3A8, 4, 2, 0⟩ } }

theorem witness_injected : injected1.safety.injection = some ⟨key1, 0x3A8, 4, 2, 0⟩ ∧
    (flightOf key1 injected1).isSome = true ∧ injected1.patrol.judgedTo ≤ 0 ∧ 0 + 3 * usUnits ≤ now injected1 ∧
    0 + msUnits ≤ now injected1 ∧ injected1.patrol.pointerFault = none ∧ awake injected1 = true := by decide +kernel

theorem witness_gate : let s := modGate 1 (fun (g : Gate) => { g with armed := [⟨3, 0, 5⟩] }) (timed 0 liveRun)
    let u := { s with time := { s.time with count := 10 } }
    inRun u = true ∧ (gate u 1).armed.find? (fun w => decide (w.closes < gateClock u 1)) = some ⟨3, 0, 5⟩ ∧
      (onArray .lift).rink.frame ≠ none := by decide +kernel

/-- Every tile on service: no rolling spare remains. -/
def noSpare : State :=
  let s := timed 0 liveRun
  { s with rink := { s.rink with tiles := Vector.ofFn (fun (i : Fin 49) =>
      { (vget s.rink.tiles i.val) with role := if i.val = 48 then .retired else .service }) } }

theorem witness_slices : sliceTested noSpare = true ∧ noSpare.safety.cycleFrom = none ∧
    awake noSpare = true ∧ noSpare.safety.slicesDone < 11 ∧ (slack noSpare).isSome = true := by decide +kernel

/-- A receiver whose injection is due, and one whose injection runs. -/
def grooming (inj : Bool) : State :=
  modGroomer 7 (fun (g : Groomer) => { g with dueFrom := some 0, injecting := inj })
    { timed 0 liveRun with time := { (timed 0 liveRun).time with count := 500000 } }

theorem witness_groomer : (groomer (grooming false) 7).dueFrom = some 0 ∧ (groomer (grooming true) 7).injecting = true ∧
    0 + fld (groomerBlock (grooming false) 7) 64 16 * usUnits ≤ now (grooming false) ∧
    (receiver (grooming false) 7).frame = none := by decide +kernel

/-! ## Chapter 17 -/

/-- A device of a role on port 4, with a region map of the manager and worker 1, in RUN. -/
def fleet (role : Nat) (f : Peer → Peer) : State :=
  let s := putSetting 0x0E02 0 (pack 256 [(0, 1, 1), (72, 8, 4), (80, 48, 2), (128, 1, 1), (184, 8, 8), (200, 8, 4), (208, 48, 2)])
    (slavePort4 1)
  let s1 := { s with dev := liveRun.dev, peers := { s.peers with role := some role } }
  modPeer 1 f (modPeer 0 f { s1 with time := { s1.time with count := 5000000 } })

/-- A frame from a peer with a header and a payload. -/
def frameFrom (d type : Nat) (payload : Bytes) : AtideFrame :=
  { port := 4, head := frameAt 0, mac := 2, payload := payload,
    header := packBE 24 [(0, 16, payload.length), (48, 96, 3), (168, 8, d), (176, 8, type), (184, 8, 1)] }

theorem witness_role : live.peers.role = none ∧ live.peers.samples.length < 2 ∧ awake live = true ∧
    countNow live < 2 * (live.peers.samples.length + 1) * countsPerUs ∧
    6 * countsPerUs ≤ countNow { live with time := { live.time with count := 3000 } } := by decide +kernel

/-- A frame is taken in, and the way to a peer is free. -/
theorem witness_peerFrames : FrameTaken (frameFrom 1 2 (zeros 40)).port (frameFrom 1 2 (zeros 40)).head (fleet 1 id) ∧
    FrameTaken (frameFrom 0 1 (zeros 128)).port (frameFrom 0 1 (zeros 128)).head (fleet 2 id) ∧
    Idle (peerPort (fleet 1 id) 1) (fleet 1 id) ∧ Idle (peerPort (fleet 2 id) 0) (fleet 2 id) := by
  unfold FrameTaken Idle; decide +kernel

theorem witness_atide : portUp (fleet 1 id) 4 = true ∧ atideGood (fleet 1 id) (frameFrom 1 2 (zeros 40)) = true ∧
    atideGood (fleet 1 id) (frameFrom 1 2 (zeros 39)) = false ∧ awake (fleet 1 id) = true ∧ ticking (fleet 1 id) = true ∧
    isManager (fleet 1 id) = true ∧ isWorker (fleet 2 id) = true ∧
    atideGood (fleet 2 id) (frameFrom 0 1 (zeros 128)) = true ∧ atideGood (fleet 2 id) (frameFrom 0 4 (zeros 8)) = true ∧
    atideGood (fleet 2 id) (frameFrom 0 5 [1, 0, 0, 0, 0, 0]) = true := by decide +kernel

/-- A worker's STATUS that is good, and one that is not. -/
theorem witness_status : statusGood (fleet 1 id) 1 (frameFrom 1 2 (packBE 40 [(120, 8, 8), (108, 4, 2), (100, 4, 2), (96, 4, 1), (94, 2, 2)])) =
      true ∧ statusGood (fleet 1 id) 1 (frameFrom 1 2 (zeros 40)) = false ∧
    (peer (fleet 1 (fun x => { x with phase := .valid })) 1).phase = .valid := by decide +kernel

/-- A set of one frame without tracks. -/
theorem witness_tracks : let f := frameFrom 1 3 (setPayload 0 0 1 [])
    atideGood (fleet 1 id) f = true ∧ natOfBytesBE (slice (payloadOf f) 0 2) = 0 ∧ natOfBytesBE (slice (payloadOf f) 2 2) = 1 ∧
    headInstant f = 3 ∧ setLate (fleet 1 id) 3 = false ∧ (peer (fleet 1 id) 1).isOpen = none ∧ peerPort (fleet 1 id) 1 = 4 := by
  decide +kernel

/-- 6 entries fit the default MAX_FRAME (R494). -/
theorem test_room : (fld (setting live 0x0300 4) 64 16 - 62) / 224 = 6 := by decide +kernel

/-- An open set of which a frame is missing, asked for and not. -/
def openSet (resend : Option Dts) : OpenSet :=
  { instant := 3, frameCount := 2, frames := [(1, [])], observed := 0, firstAt := 0, lastAt := 0, resendAt := resend }

theorem witness_missing : missingFrames (openSet none) = [0] ∧
    (peer (fleet 1 (fun x => { x with isOpen := some (openSet none) })) 1).isOpen = some (openSet none) ∧
    0 + 500 * usUnits ≤ now (fleet 1 id) := by decide +kernel

/-- A worker's kept set, and a manager's whole set whose frame is committed or overtaken. -/
theorem witness_kept : let s := fleet 2 id
    ({ s with peers := { s.peers with kept := some ⟨3, [[1]], [], false, false, 0⟩ } } : State).peers.kept =
      some ⟨3, [[1]], [], false, false, 0⟩ ∧ portUp s (peerPort s 0) = true := by decide +kernel

def mergeable (commits : List Dts) : State :=
  let s := fleet 1 (fun x => { x with whole := [⟨3, [], 0, 0⟩] })
  { s with glide := { s.glide with commits := commits } }

theorem witness_merge : (peer (mergeable [5]) 1).whole = [⟨3, [], 0, 0⟩] ∧ mergeInstant (mergeable [5]) 3 = some 5 ∧
    setLate (mergeable [5]) 3 = false ∧ setLate (mergeable [7, 5]) 3 = true ∧ enabledWorkers (mergeable [5]) = [1] ∧
    inRun (mergeable [5]) = true ∧ (mergeable [5]).glide.pending = [] := by decide +kernel

theorem witness_silent : silentThree (fleet 1 (fun x => { x with phase := .valid })) (peer (fleet 1 id) 1) = true ∧
    silentThree (fleet 2 id) (peer (fleet 2 id) 0) = true ∧ (fleet 2 id).peers.managerLost = false := by decide +kernel

/-! ## Chapter 18 -/

theorem witness_enterRun : live.power.change = none ∧ inSentry live = false ∧ postureCode liveRun.dev.posture = 1 ∧
    inRun liveRun = true ∧ liveRun.power.change = none ∧ liveRun.dev.posture = some .drive := by decide +kernel

/-- A posture change has begun. -/
def changing (s : State) (target : Nat) : State := { s with power := { s.power with change := some ⟨target, none, 0⟩ } }

/-- Tiles that are powered, and one that is not. -/
theorem witness_tilesPowered : tilesPowered ⟨1, none, 0⟩ (changing live 1) = true ∧
    tilesPowered ⟨1, none, 0⟩ (modTile 5 (fun (t : Tile) => { t with role := .dormant }) (changing live 1)) = false := by
  decide +kernel

theorem witness_change : (changing live 1).power.change = some ⟨1, none, 0⟩ ∧ (changing live 1).rink.frame = none ∧
    postureCode (changing live 1).dev.posture ≠ 1 ∧ postureCode (changing liveRun 2).dev.posture ≠ 2 ∧
    awake (changing liveRun 2) = true := by decide +kernel

/-- Where an entry into Standby stands, 50 ms on. -/
def standing (g : StandbyStage) : State :=
  let s := timed 0 liveRun
  { s with time := { s.time with count := 25000000 }, power := { s.power with standby := some g } }

theorem witness_standby : awake (standing .commands) = true ∧ (standing .commands).power.standbyFrom + 50 * msUnits ≤
      now (standing .commands) ∧ (standing .draining).host.flight = [] ∧ queuesEmpty (standing .draining) = true ∧
    (standing .draining).power.wakeWaiting = none ∧ awake (standing .draining) = true := by decide +kernel

/-- A device asleep with a wake timer of two seconds. -/
def asleep1 : State := putSetting 0x0F01 0 (pack 16 [(8, 8, 1), (96, 32, 2)]) (standing .asleep)

theorem witness_wake : wakeAllowed asleep1 3 0 false 65536 = true ∧ wakeAllowed asleep1 3 0 false 65535 = false ∧
    wakeAllowed asleep1 2 0 true 5 = true ∧ wakeAllowed asleep1 2 0 false 5 = false ∧ inReset asleep1 = false ∧
    asleep1.power.tripped = false ∧ asleep1.power.standby = some .asleep ∧ asleep1.power.faInStandby = false := by decide +kernel

/-- One without a committed firmware. -/
theorem witness_wakeSafe : (selectImage 0 { asleep1 with security := { asleep1.security with configJournal := default } }).2 =
    none := by decide +kernel

theorem witness_auto : let s := { live with dev := { live.dev with autoDue := true }, security := { live.security with autoRun := 1 } }
    s.dev.autoDue = true ∧ s.dev.state = .setup ∧ lifecycleDenies s 0x0102 = false ∧ awake s = true ∧
    (enterRefusal { s with dev := { s.dev with autoDue := false } } s.security.autoRun).isSome = true := by decide +kernel

/-- A device in SETUP whose Drive plan agrees with the voxel setting in force. -/
def plannedDrive : State :=
  let v := setting live 0x0600 0
  let img := pack 512 [(264, 2, fld v 0 2), (256, 8, fld v 32 8), (240, 12, fld v 4 12), (224, 16, fld v 16 16), (208, 16, 0xFFFF)]
  { live with
    plans := { live.plans with driveSlot := some 0, slots := vset live.plans.slots 0 ⟨img, false, [⟨0, [], 0, 0, 30, 30⟩]⟩ },
    dev := { live.dev with autoDue := true }, security := { live.security with autoRun := 1 } }

theorem witness_accepted : enterRefusal plannedDrive plannedDrive.security.autoRun = none ∧
    enterRefusal { plannedDrive with dev := { plannedDrive.dev with autoDue := false } } 1 = none := by decide +kernel

theorem witness_readings : let l : List Int := [40, 41, 42, 43, 44, 45, 46, 47]
    (∀ n, n < 8 → readingBad l n = false) ∧ l.length = 8 ∧ (∀ x ∈ l, x < shutdownC live) ∧
    readingBad [40, 41, 42, 43, 44, 45, 46, 90] 7 = true ∧ readingBad [130, 130, 130, 130, 130, 130, 130, 130] 0 = false ∧
    shutdownC live ≤ 130 ∧ atLeast live (shutdownC live) = false ∧ live.power.excluded = 0 ∧ live.patrol.quiet = [] := by
  decide +kernel

/-- Sensors at a temperature, at 6 s. -/
def warm (x : Int) (rate : Nat) (cool : Option Dts) : State :=
  let s := timed 0 liveRun
  { s with
    time := { s.time with count := 3000000000 },
    power := { s.power with temps := Vector.replicate 8 x, throttleRate := rate, coolFrom := cool } }

theorem witness_throttle : hottest (warm 120 0 none) = some (0, 120) ∧ throttleC (warm 120 0 none) ≤ 120 ∧
    now (warm 120 0 none) / secUnits ≠ (warm 120 0 none).power.evaluated ∧ (warm 120 0 none).power.held = false ∧
    inRun (warm 120 0 none) = true ∧ (60 : Int) < throttleC (warm 60 10 (some 0)) ∧
    0 + 5 * secUnits ≤ now (warm 60 10 (some 0)) / secUnits * secUnits := by decide +kernel

theorem witness_throttleRetry : let s := { warm 120 20 none with time := { (warm 120 20 none).time with count := 60000000000 }, patrol := { (warm 120 20 none).patrol with
      retries := [⟨thermalFault 0, 0, 4, 0⟩] } }
    (List.range 8).find? (fun n => pendingAt s (thermalFault n) 4) = some 0 ∧
    s.power.engagedAt + fld (limits s) 56 8 * secUnits ≤ now s := by decide +kernel

theorem witness_supplies : beyondRatings 0 860 = true ∧ beyondRatings 2 670 = false ∧ supplyUnder 2 670 = true ∧
    supplyUnder 1 680 = true ∧ supplyOver 1 820 = true ∧ bitOf live.power.outOfRange 1 = false ∧
    nvInhibited live = false ∧ beyondRatings 6 1700 = false := by decide +kernel

/-- The inhibit holds a paused command since time zero, at 2 s. -/
def inhibited : State :=
  let s := running1 (timed 0 live) 0x1002 []
  { s with
    time := { s.time with count := 1000000000 },
    power := { s.power with flashInhibit := true, nvGoodFrom := some 0 },
    security := { s.security with work := [⟨key1, 0, some 0, false, []⟩] } }

theorem witness_inhibit : nvInhibited inhibited = true ∧ 0 + 10 * msUnits ≤ now inhibited ∧ 0 + 2 * secUnits ≤ now inhibited ∧
    (flightOf key1 inhibited).isSome = true := by decide +kernel

theorem witness_clocks : bitOf live.power.plls 0 = true ∧ live.power.plls < 32 ∧
    bitOf ({ live with power := { live.power with plls := 7 } } : State).power.plls 3 = false ∧
    live.power.pmbusDone = false ∧ live.power.pmbusTries < 4 ∧ countNow live < live.power.pmbusAt + 1000 * countsPerUs ∧
    live.power.pmbusAt + 1000 * countsPerUs ≤ countNow { live with time := { live.time with count := 500000 } } := by
  decide +kernel

/-- VDD_IO18 has no under-voltage report beside the power-off and FLASH_VSENSE none: both only inhibit (R517). -/
theorem test_vsense : ∃ t, exec (.supplyMonitorCrossing 6 1700) live = .next t ∧ t.power.flashInhibit = true ∧
    t.patrol.wires = [] := ⟨_, rfl, by decide +kernel⟩

/-! ## Chapters 19 and 20 -/

/-- A journal whose only record commits slot A of a kind. -/
def committed (kind : Nat) (s : State) : State :=
  setRing 1 { records := [(0, { seq := 1, type := 0x12, payload := BitVec.ofNat 8 kind :: zeros 47 })], sector := 0, used := 64 }
    { s with security := { s.security with configSeqNext := 2 } }

/-- An update of the firmware at a step. -/
def updating (stage : Nat) (retried : Bool) : State :=
  let s := running1 (committed 0 live) 0x1001 (zeros 16)
  { s with security := { s.security with work := [⟨key1, stage, none, retried, []⟩] } }

theorem witness_update : targetSlot (committed 0 live) 0 = 1 ∧ committedSlot (committed 0 live) 0 = some 0 ∧
    imageFault (committed 0 live) 0 [] 0 = some (1, 0xFF) ∧ (∀ x ∈ (ringOf (committed 0 live) 1).records, x.2.seq < 2) ∧
    (committed 0 live).security.configJournal.used + 32 ≤ 65536 ∧ (updating 3 false).security.work = [⟨key1, 3, none, false, []⟩] ∧
    (flightOf key1 (updating 3 true)).isSome = true ∧ fld (cmd1 0x1001 (zeros 16)).params 0 8 ≤ 1 ∧
    awake (updating 3 true) = true ∧ nvInhibited (committed 0 live) = false := by decide +kernel

/-- BEGIN_UPDATE of bytes that are no image ends with stage 1, header (Table 11.10). -/
theorem test_updateFails : ∃ t, exec (.beginUpdate key1) (running1 (committed 0 live) 0x1001 (zeros 16)) = .next t ∧
    (t.host.flight.head?.bind (fun c => c.outcome)) = some { status := stVerifyFailed, detail := 0x1FF, results := [] } :=
  ⟨_, rfl, by decide +kernel⟩

/-- COMMIT_UPDATE writes one record of 64 bytes, behind the 64 that stood there. -/
theorem test_commitUpdate : ∃ t, exec (.commitUpdate key1) (running1 (committed 0 live) 0x1002 (zeros 8)) = .next t ∧
    t.security.configJournal.used = 128 ∧ t.security.configSeqNext = 3 := by
  refine ⟨_, rfl, ?_⟩; decide +kernel

theorem witness_lifecycle : fld (2 :: zeros 79) 0 8 = 2 ∧ fld (3 :: zeros 2575) 0 8 = 3 ∧
    bitAt (pack 80 [(0, 8, 2), (64, 2, 1)]) 64 = true ∧ live.security.lifeCycle = 1 ∧ ticking liveRun = true ∧
    live.dev.state = .setup := by decide +kernel

/-- Block 37 is the last reserved: the first ATTEST after a reset opens block 38 at index 2,432 (Table 19.12). -/
theorem test_index : nextIndexOf { live with security := { live.security with
    retention := { live.security.retention with indexBlock := 38 } } } = 2432 := by decide +kernel

theorem witness_attest : cellsWf live.memory.staging = true ∧ nvInhibited live = false ∧ live.security.work = [] ∧
    nextIndexOf live % 64 ≠ 63 ∧ nextIndexOf live + 1 < 1048576 ∧ live.security.openBlock ≠ some (nextIndexOf live / 64) ∧
    (∀ x ∈ live.security.indexJournal.records, x.2.seq < live.security.indexSeqNext) ∧
    (∀ x ∈ live.security.configJournal.records, x.2.seq < live.security.configSeqNext) ∧
    live.security.configSeqNext + 17 < 2 ^ 32 := by
  decide +kernel

/-- Two event records, one buffered; an EVENT record takes 80 bytes (R549). -/
def written : State := { live with security := { live.security with
  eventJournal := { records := [(0, ⟨0, 1, zeros 63⟩)], sector := 0, used := 80 },
  retention := { live.security.retention with buffer := [⟨1, 1, zeros 63⟩] } } }

theorem test_readJournal : ∃ t, exec (.readJournal key1) (running1 written 0x1005 (pack 16 [(96, 32, 128)])) = .next t ∧
    (t.host.flight.head?.bind (fun c => c.outcome)).map (fun o => o.results) =
      some (zeros 8 ++ bytesOfNat 4 1 ++ bytesOfNat 4 80) := by
  refine ⟨_, rfl, ?_⟩; decide +kernel

theorem witness_buffer : written.security.retention.buffer = [⟨1, 1, zeros 63⟩] := rfl

/-- A record of the device that has not yet been released, and one that WRST_N holds. -/
theorem witness_pins : State.reset.pins.released = false ∧ State.reset.pins.aonKept = false ∧ live.pins.porstN = true ∧
    inReset live = false ∧ halted live = false ∧ live.power.standby ≠ some .asleep ∧
    ({ live with pins := { live.pins with wrstN := false } } : State).pins.wrstN = false ∧
    countNow { live with pins := { live.pins with resetDue := some 5 } } < 5 := by decide +kernel

/-- After a pause of one second device time goes on one second later (R83). -/
theorem test_bridge : let s := { live with pins := { live.pins with released := false, porstN := false, aonKept := true },
                                           security := { live.security with retention := { live.security.retention with bridge := some 7 } } }
    ∃ t, exec (.porstNEffectiveRelease 32768) s = .next t ∧ now t = 7 + secUnits ∧ t.time.valid = true ∧ countNow t = 0 := by
  refine ⟨_, rfl, ?_⟩; decide +kernel

/-- WRST_N raises EPOCH and closes the log. -/
theorem test_wrst : ∃ t, exec (.wrstNAssert 1000 0) { live with patrol := { live.patrol with
      log := [newRecord (report1 0x3A8 2 3 .uc 0)] } } = .next t ∧ t.dev.epoch = 1 ∧
    t.patrol.log.map (fun r => r.isOpen) = [false] ∧ t.pins.restartCause = 2 := by
  refine ⟨_, rfl, ?_⟩; decide +kernel

/-- A device in BOOT without a committed image. -/
def inBoot : State :=
  { live with dev := { live.dev with state := .boot }, pins := { live.pins with booting := true }, time := { live.time with count := 1500000 },
              security := { live.security with configJournal := default } }

/-- BOOT without firmware ends in SAFE. -/
theorem witness_boot : let s := inBoot
    awake s = true ∧ (selectImage 0 s).2 = none ∧ (selectImage 0 (scanJournals [] s)).2 = none ∧
    3000 * countsPerUs ≤ sinceRelease s ∧ sinceRelease { s with time := { s.time with count := 0 } } < 3000 * countsPerUs ∧
    s.patrol.wires = [] ∧ s.host.result.words = [] := by decide +kernel

/-- The committed firmware verifies where the opaque signature check says so. -/
theorem witness_firmware (h : ∀ r, committedRecord (committed 0 inBoot) 0 = some r →
    slotVerifies (committed 0 inBoot) 0 r = true) :
    (selectImage 0 (committed 0 inBoot)).2.isSome = true ∧ (committed 0 inBoot).patrol.arrived = [] ∧
    (committed 0 inBoot).patrol.faOpen = false := by
  refine ⟨?_, by decide +kernel, by decide +kernel⟩
  have hc : (committedRecord (committed 0 inBoot) 0).isSome = true := by decide +kernel
  unfold selectImage
  split
  · next e => simp [e] at hc
  · next e => simp [h _ e]

/-- An image of the least length with its header, good where the opaque signature check says so. -/
def image1 : Bytes := pack 64 [(0, 32, 0x57464E54), (32, 16, 1), (64, 32, 65536)] ++ zeros 65472

theorem witness_image (h : signatureGood live (image1.take 61440) (image1.drop 61440) = true) :
    imageFault live 0 image1 65536 = none := by
  have h1 : fld image1 64 32 = 65536 := by decide +kernel
  have h2 : fld image1 0 32 = 0x57464E54 := by decide +kernel
  have h3 : fld image1 32 16 = 1 := by decide +kernel
  have h4 : fld image1 48 16 = 0 := by decide +kernel
  have h5 : ∀ x ∈ slice image1 16 48, x = 0#8 := by decide +kernel
  have h6 : fld (image1.drop 61440) 0 32 = 0 := by decide +kernel
  simp [imageFault, firmwareFault, h1, h2, h3, h4, h6, h]
  exact h5

theorem test_boot : ∃ t, exec (.bootComplete ⟨true, [], [], [], []⟩)
    inBoot = .next t ∧ t.dev.state = .safe ∧ packetsIn (countNow t + 1000) t.host.result = 1 := by
  refine ⟨_, rfl, ?_⟩; decide +kernel

/-- A scan that finds no bad record leaves the committed image where it was. -/
theorem test_scan : committedRecord (scanJournals [] (committed 0 inBoot)) 0 = committedRecord (committed 0 inBoot) 0 := by
  decide +kernel

/-! ## Commands that read and commands that set -/

theorem witness_imu : srcIdx 0x20 = some 16 ∧ sourceConfigured (putSetting 0x0405 0 (zeros 88) live) 16 = true ∧
    bitAt (pack 64 [(0, 8, 0x20), (16, 1, 1)]) 16 = true ∧ isSet (putSetting 0x0500 17 (pack 64 [(0, 8, 0x21), (16, 1, 1)]) live)
      0x0500 17 = true := by decide +kernel

/-- PRIMARY on IMU 0 clears it on IMU 1. -/
theorem test_primary : let s := putSetting 0x0500 17 (pack 64 [(0, 8, 0x21), (16, 1, 1)]) (putSetting 0x0405 0 (zeros 88) live)
    ∃ t, exec (.setCalibration key1) (running1 s 0x0500 (pack 64 [(0, 8, 0x20), (16, 1, 1)])) = .next t ∧
      t.align.primary = some 0 ∧ setting t 0x0500 17 = pack 64 [(0, 8, 0x21)] := by
  refine ⟨_, rfl, ?_⟩; decide +kernel

/-- CLASS 0xFF reaches class 15 under its own number. -/
theorem test_classes : ∃ t, exec (.setTrackParams key1) (running1 live 0x0A00 (0xFF :: zeros 47)) = .next t ∧
    setting t 0x0A00 15 = 15 :: zeros 47 := by
  refine ⟨_, rfl, ?_⟩; decide +kernel

/-- The first second of Sentry time: a command that started before the latest tick, and one after it. -/
theorem witness_sentryTick : let s := { live with time := { live.time with lastTick := some msUnits } }
    startInstant (cmd1 0x0208 [5]) s < msUnits ∧ s.time.lastTick = some msUnits ∧ live.time.lastTick = none := by
  decide +kernel

/-- A mark of tile 3's SRAM in a range that SCRUB covers, and a word found bad beside it. -/
theorem witness_scrub : let m : Mark := { source := rinkFault 3 0, unit := 12, detail := 5 }
    let b := pack 16 [(0, 8, 1), (8, 8, 3), (96, 32, 8)]
    fld b 8 8 < 49 ∧ m.source = rinkFault (fld b 8 8) 0 ∧ m.unit = 12 + m.detail / 4096 ∧ fld b 64 32 ≤ m.detail ∧
      m.detail < fld b 64 32 + fld b 96 32 ∧ ∃ t, exec (.scrub key1 1 [(6, 0)]) (running1 live 0x1101 b) = .next t ∧
        (t.host.flight.head?.bind (fun c => c.outcome)).map (fun o => o.results) = some (bytesOfNat 4 1 ++ bytesOfNat 4 1) ∧
        t.patrol.wires.map (fun r => r.detail) = [6] := by
  refine ⟨by decide, by decide, by decide, by decide, by decide, _, rfl, ?_⟩; decide +kernel

/-! ## Ill-formed commands that the check refuses -/

/-- A name with the forbidden tag of its version. -/
def badKey2 : CmdKey := { ver := .v2, tag := 0xFFFF }
def badKey1 : CmdKey := { ver := .v1, tag := 0xFF }

theorem test_ill_operands_0 : ([.readId 256 0,
    .enter4s 256,
    .enter8s 256,
    .enter8d 256,
    .return1s 256,
    .readQueueWindow 256 0 0 0,
    .readQueueWindow 0 256 0 0,
    .readQueueWindow 0 0 4294967296 0,
    .writeCommandWindow 256 0 [],
    .writeCommandWindow 0 4294967296 [],
    .writeStagingAperture 256 0 [],
    .writeStagingAperture 0 4294967296 [],
    .writePortMode 256 0 [],
    .writePortMode 0 4294967296 [],
    .writeNoticeCause 256 0 [],
    .writeNoticeCause 0 4294967296 [],
    .writeOtherRegister 256 0 [],
    .writeOtherRegister 0 4294967296 [],
    .roleSample 4,
    .tsInEdge 8 false 0,
    .zdaSentence 2 0,
    .tsOutLeadingEdge 8,
    .tsOutTrailingEdge 8,
    .ptpSyncReceived 6 default default,
    .ptpFollowUpReceived 6 default default,
    .ptpDelayReqReceived 6 default default,
    .ptpDelayRespReceived 6 default default,
    .ptpPdelayReqReceived 6 default default,
    .ptpPdelayRespReceived 6 default default,
    .ptpPdelayRespFollowUpReceived 6 default default] : List Instr).all (fun i => i.wf == false) = true := by decide

theorem test_ill_operands_1 : ([.ptpAnnounceReceived 6 default default,
    .ptpSignalingReceived 6 default default,
    .ptpManagementReceived 6 default default,
    .ptpSyncInterval 6,
    .ptpDelayInterval 6,
    .ptpAnnounceInterval 6,
    .syncReceiptTimeout 6,
    .announceReceiptTimeout 6,
    .pdelayTimeout 6,
    .linkDown 6,
    .linkUp 6 1,
    .linkUp 0 0,
    .linkUp 0 7,
    .arpRequest 6 0 0 0 default,
    .ethOtherFrame 6 default default,
    .sweepTimeout 8,
    .csiFrameStart 8 0 0 false,
    .csiFrameStart 0 16 0 false,
    .csiFrameStart 0 0 65536 false,
    .csiLongPacket 8 default,
    .csiFrameEnd 8 0 0 false,
    .csiFrameEnd 0 16 0 false,
    .csiFrameEnd 0 0 65536 false,
    .imuDataReady 4,
    .imuTransactionComplete 4 [],
    .encoderEdge 4 false false 0,
    .canMessage 2 default,
    .canErrorFrame 2,
    .canBusOff 2,
    .sourceLossTimeout 26] : List Instr).all (fun i => i.wf == false) = true := by decide

theorem test_ill_operands_2 : ([.sequencerStepEnd 49 default,
    .haloPoint 48 default,
    .liftColumn 8 default,
    .endOfPassMarker 48,
    .headsEnd 48 default,
    .remoteGatherRequest 49 default,
    .remoteGatherTimeout 49,
    .routeGenerationMarker 49,
    .linkFlitError 256 0 false,
    .linkFlitError 0 4 false,
    .spareTestComplete 49 false,
    .propagationComplete [16],
    .queueResetComplete 1,
    .queueResetComplete 4,
    .reactionTimerExpiry 0,
    .reactionTimerExpiry 18,
    .quietPeriodExpiry 4096 0,
    .quietPeriodExpiry 0 64,
    .blockResetComplete 0,
    .blockResetComplete 18,
    .gateWindowExpiry 8,
    .taskMonitorExpiry 51,
    .groomerInjection 8,
    .groomerInjectionEnd 8 false,
    .trackSetIncompleteTimeout 16,
    .trackSetMerge 16,
    .workerStatusTimeout 16,
    .postureChangeComplete [49],
    .wakeEvent 0 0 false 0,
    .wakeEvent 4 0 false 0] : List Instr).all (fun i => i.wf == false) = true := by decide

theorem test_ill_operands_3 : ([.wakeEvent 1 8 false 0,
    .thermalSensorRead [],
    .supplyMonitorCrossing 7 0,
    .pllLockLoss 5,
    .pllRelock 5,
    .csiPhySyncLoss 8 0,
    .csiPhySyncLoss 0 4,
    .csiSkewCalibration 8,
    .trackSetWaitTimeout 16,
    .onDemandDomainStop 2] : List Instr).all (fun i => i.wf == false) = true := by decide

theorem test_ill_tags_0 : ([.commandStart badKey2,
    .longCommandComplete badKey1,
    .getInfo badKey2,
    .getState badKey1,
    .enterRun badKey2,
    .enterSetup badKey1,
    .setPosture badKey2,
    .resetSubsystem badKey1,
    .resetDevice badKey2,
    .echo badKey1,
    .saveConfig badKey2,
    .getTime badKey1,
    .setTimeSource badKey2,
    .setOscClass badKey1,
    .servoAdjust badKey2,
    .configTsIn badKey1,
    .configTsOut badKey2,
    .getCaptures badKey1,
    .getHoldover badKey2,
    .setSentryTick badKey1,
    .configPort badKey2,
    .setPortCorrections badKey1,
    .configPtp badKey2,
    .getPtpStatus badKey1,
    .getPortStats badKey2,
    .configSafeMsg badKey1,
    .configCsi badKey2,
    .setNormaliser badKey1,
    .loadShadingTable badKey2,
    .loadLidarTemplate badKey1] : List Instr).all (fun i => i.wf == false) = true := by decide

theorem test_ill_tags_1 : ([.bindLidar badKey2,
    .configImu badKey1,
    .configEncoder badKey2,
    .configCan badKey1,
    .getSourceStatus badKey2,
    .setCalibration badKey1,
    .setPairing badKey2,
    .setExtrapolationLimit badKey1,
    .setVoterThresholds badKey2,
    .setAnchor badKey1,
    .getPose badKey2,
    .getVoterStatus badKey1,
    .setVoxelConfig badKey2,
    .getPointStats badKey1,
    .runNeighbourQuery badKey2,
    .setCellSize badKey1,
    .getTileMap badKey2,
    .retireTile badKey1,
    .configBevExport badKey2,
    .getRinkStats badKey1,
    .loadPlan badKey2,
    .activatePlan badKey1,
    .getPlanStatus badKey2,
    .unloadPlan badKey1,
    .submitSolverBatch badKey2,
    .getSolverStatus badKey1,
    .setTrackParams badKey2,
    .setRelevanceRule badKey1,
    .setZone badKey2,
    .setEventRule badKey1] : List Instr).all (fun i => i.wf == false) = true := by decide

theorem test_ill_tags_2 : ([.getTrack badKey2,
    .clearZones badKey1,
    .setQueueMode badKey2,
    .setCutThrough badKey1,
    .setWatermarks badKey2,
    .resetQueue badKey1,
    .getQueueStatus badKey2,
    .getFaultRecords badKey1,
    .clearFault badKey2,
    .setReaction badKey1,
    .setReactionTimer badKey2,
    .setRecoveryLimits badKey1,
    .setGateWindows badKey2,
    .setGroomer badKey1,
    .getSafetyStatus badKey2,
    .injectFault badKey1,
    .enterSafe badKey2,
    .setDeviceNumber badKey1,
    .getPeerStatus badKey2,
    .setRegionMap badKey1,
    .getPower badKey2,
    .setWakeSources badKey1,
    .setThermalLimits badKey2,
    .getSecurityStatus badKey1,
    .beginUpdate badKey2,
    .commitUpdate badKey1,
    .attest badKey2,
    .revokeKey badKey1,
    .readJournal badKey2,
    .setLifecycle badKey1] : List Instr).all (fun i => i.wf == false) = true := by decide

theorem test_ill_tags_3 : ([.getMemoryStatus badKey2,
    .scrub badKey1 0 []] : List Instr).all (fun i => i.wf == false) = true := by decide

theorem test_well_formed : keyOk badKey1 = false ∧ keyOk badKey2 = false ∧ (Instr.getState key1).wf = true ∧
    (Instr.linkUp 5 6).wf = true ∧ (Instr.readQueueWindow 0x0B 0 0 8).wf = true := by decide

end Sys2Proof.Machine
end

section
/-! The port's modes and its identity: what a transfer does to the port, and what it leaves. -/

namespace Sys2Proof.Machine

/-! ## The meanings of the port's transfers -/

theorem exec_readId (second len : Nat) (s : State) : exec (.readId second len) s = execReadId second len s := rfl
theorem exec_enter4s (second : Nat) (s : State) : exec (.enter4s second) s = execEnter4s second s := rfl
theorem exec_enter8s (second : Nat) (s : State) : exec (.enter8s second) s = execEnter8s second s := rfl
theorem exec_enter8d (second : Nat) (s : State) : exec (.enter8d second) s = execEnter8d second s := rfl
theorem exec_return1s (second : Nat) (s : State) : exec (.return1s second) s = execReturn1s second s := rfl
theorem exec_readQueueWindow (code second addr len : Nat) (s : State) :
    exec (.readQueueWindow code second addr len) s = execReadQueueWindow code second addr len s := rfl
theorem exec_writePortMode (second addr : Nat) (data : Bytes) (s : State) :
    exec (.writePortMode second addr data) s = execWritePortMode second addr data s := rfl

/-! ## Transfers that change the port alone -/

/-- A transfer that the port answers completes with the transfer's effect, settled. -/
theorem completes_of_transfer {i : Instr} {s : State} {f : State → State} {Q : State → Prop}
    (hi : exec i s = transfer s f) (ha : portAnswers s = true) (hq : Q (settle s (f s))) : Completes i s Q :=
  ⟨_, hi.trans (transfer_next ha), hq⟩

/-- What a completed command does implies what is asked of it. -/
theorem Completes.imp {i : Instr} {s : State} {P Q : State → Prop} (h : Completes i s P) (hpq : ∀ t, P t → Q t) :
    Completes i s Q := by
  obtain ⟨t, ht, hp⟩ := h
  exact ⟨t, ht, hpq t hp⟩

/-- A transfer whose effect is a change of the port leaves the port so changed and everything else as it was. -/
theorem completes_setPort {i : Instr} {s : State} {f : State → State} (g : Port → Port)
    (hi : exec i s = transfer s f) (ha : portAnswers s = true) (hf : f s = setPort g s) :
    Completes i s fun t => t.host.port = g s.host.port ∧ ChangesOnly [.port] s t := by
  refine completes_of_transfer hi ha ?_
  rw [hf]
  exact ⟨settle_port s (setPort g s), (changes_setPort g s).settle s⟩

/-- A transfer that the port ignores leaves the lines undriven and counts one in BAD_INSTRUCTION (R34). -/
theorem completes_badTransfer {i : Instr} {s : State} {f : State → State}
    (hi : exec i s = transfer s f) (ha : portAnswers s = true) (hf : f s = badTransfer s) :
    Completes i s fun t =>
      t.host.port = { s.host.port with
        badInstruction := bump s.host.port.badInstruction, dq := none, driven := 0, ds := false } ∧
      ChangesOnly [.port] s t :=
  completes_setPort _ hi ha hf

/-- A transfer that enters a mode puts both latencies at the mode's defaults (R42). -/
theorem completes_enterMode {i : Instr} {s : State} {f : State → State} (m : PortMode)
    (hi : exec i s = transfer s f) (ha : portAnswers s = true)
    (hf : f s = setPort (fun p => enterMode m { p with dq := none, driven := 0, ds := false }) s) :
    Completes i s fun t =>
      (t.host.port.mode = m ∧ t.host.port.readLatency = minRead m ∧ t.host.port.apertureLatency = minAperture m) ∧
      ChangesOnly [.port] s t := by
  refine (completes_setPort _ hi ha hf).imp fun t ⟨hport, hframe⟩ => ⟨?_, hframe⟩
  rw [hport]
  exact ⟨rfl, rfl, rfl⟩

/-! ## The second instruction byte (Table 2.1) -/

/-- Outside 8D-8D-8D the port asks for no second byte. -/
theorem instructionOk_of_ne {p : Port} (h : p.mode ≠ .d8) (code second : Nat) : instructionOk p code second = true := by
  simp [instructionOk, h]

/-- In 8D-8D-8D a second byte that is not the code's inverse is refused. -/
theorem instructionOk_d8 {p : Port} {code second : Nat} (hm : p.mode = .d8) (h : second + code ≠ 255) :
    instructionOk p code second = false := by
  simp [instructionOk, hm, h]

/-! ## Mode changes (Table 2.2, R35, R42) -/

theorem completes_enter4s {s : State} (second : Nat) (ha : portAnswers s = true) (hm : s.host.port.mode = .s1) :
    Completes (.enter4s second) s fun t =>
      (t.host.port.mode = .s4 ∧ t.host.port.readLatency = 10 ∧ t.host.port.apertureLatency = 24) ∧
      ChangesOnly [.port] s t := by
  have hok := instructionOk_of_ne (p := s.host.port) (by simp [hm]) 0x38 second
  exact completes_enterMode .s4 (exec_enter4s second s) ha (if_pos (by simp [hok, hm]))

theorem completes_enter8s {s : State} (second : Nat) (ha : portAnswers s = true)
    (hm : s.host.port.mode = .s1 ∨ s.host.port.mode = .s4) :
    Completes (.enter8s second) s fun t =>
      (t.host.port.mode = .s8 ∧ t.host.port.readLatency = 16 ∧ t.host.port.apertureLatency = 40) ∧
      ChangesOnly [.port] s t := by
  have hne : s.host.port.mode ≠ .d8 := by rcases hm with h | h <;> simp [h]
  have hok := instructionOk_of_ne hne 0xE8 second
  exact completes_enterMode .s8 (exec_enter8s second s) ha (if_pos (by simp [hok, hm]))

theorem completes_enter8d {s : State} (second : Nat) (ha : portAnswers s = true) (hm : s.host.port.mode ≠ .d8) :
    Completes (.enter8d second) s fun t =>
      (t.host.port.mode = .d8 ∧ t.host.port.readLatency = 20 ∧ t.host.port.apertureLatency = 40) ∧
      ChangesOnly [.port] s t := by
  have hok := instructionOk_of_ne hm 0xE9 second
  exact completes_enterMode .d8 (exec_enter8d second s) ha (if_pos (by simp [hok, hm]))

theorem completes_return1s {s : State} (second : Nat) (ha : portAnswers s = true) :
    Completes (.return1s second) s fun t =>
      (t.host.port.mode = .s1 ∧ t.host.port.readLatency = 8 ∧ t.host.port.apertureLatency = 12) ∧
      ChangesOnly [.port] s t :=
  completes_enterMode .s1 (exec_return1s second s) ha rfl

/-! ## READ_ID and unknown codes (R34) -/

/-- READ_ID drives its bytes on the mode's lines; HOST_DS strobes in the eight-line modes (R31). -/
theorem completes_readId {s : State} {second : Nat} (len : Nat) (ha : portAnswers s = true)
    (hok : instructionOk s.host.port 0x9F second = true) :
    Completes (.readId second len) s fun t =>
      t.host.port = { s.host.port with
        dq := some (idBytes (phaseLen s.host.port len)), driven := outLines s.host.port.mode,
        ds := s.host.port.mode == .s8 || s.host.port.mode == .d8 } ∧
      ChangesOnly [.port] s t :=
  completes_setPort _ (exec_readId second len s) ha (if_pos hok)

/-- READ_ID without the inverse of its code is ignored in 8D-8D-8D. -/
theorem completes_readId_refused {s : State} {second : Nat} (len : Nat) (ha : portAnswers s = true)
    (hm : s.host.port.mode = .d8) (h : second + 0x9F ≠ 255) :
    Completes (.readId second len) s fun t =>
      t.host.port = { s.host.port with
        badInstruction := bump s.host.port.badInstruction, dq := none, driven := 0, ds := false } ∧
      ChangesOnly [.port] s t :=
  completes_badTransfer (exec_readId second len s) ha (if_neg (by simp [instructionOk_d8 hm h]))

/-- A transfer of a code outside Table 2.2 is ignored, whatever its address and length. -/
theorem completes_unknownCode {s : State} {code : Nat} (second addr len : Nat) (ha : portAnswers s = true)
    (hk : knownCode code = false) :
    Completes (.readQueueWindow code second addr len) s fun t =>
      t.host.port = { s.host.port with
        badInstruction := bump s.host.port.badInstruction, dq := none, driven := 0, ds := false } ∧
      ChangesOnly [.port] s t :=
  completes_badTransfer (exec_readQueueWindow code second addr len s) ha (if_pos (by simp [hk]))

/-! ## PORT_MODE (R41, R42) -/

/-- A write of the status block changes the port and the notices' words, no other part. -/
theorem changesOnly_writeStatus (addr : Nat) (data : Bytes) (s : State) :
    ChangesOnly [.port, .mask] s (writeStatus addr data s) := by
  intro p hp
  cases p
  case port => simp at hp
  case mask => simp at hp
  case intake => exact ⟨rfl, rfl, rfl⟩
  all_goals rfl

/-- A word written to PORT_MODE gives the latencies, each raised to the mode's minimum; the mode field takes nothing. -/
theorem writeStatus_portMode_port (v : Nat) (s : State) :
    (writeStatus 0x30 (bytesOfNat 4 v) s).host.port = { s.host.port with
      readLatency := max (minRead s.host.port.mode) (v / 256 % 64),
      apertureLatency := max (minAperture s.host.port.mode) (v / 65536 % 64) } := by
  have hread : v % 2 ^ 32 / 256 % 64 = v / 256 % 64 := by omega
  have haperture : v % 2 ^ 32 / 65536 % 64 = v / 65536 % 64 := by omega
  simp only [writeStatus, overlay_all, hread, haperture]

/-- A word written to PORT_MODE does not reach NOTICE_MASK, of which six bits exist. -/
theorem writeStatus_portMode_mask (v : Nat) (s : State) :
    (writeStatus 0x30 (bytesOfNat 4 v) s).host.notices.mask = s.host.notices.mask % 64 := by
  have hmask := overlay_none 0x38 s.host.notices.mask 0x30 (bytesOfNat 4 v) (.inl (by simp [bytesOfNat_length]))
  simp only [writeStatus, hmask]
  omega

/-- A whole word written to PORT_MODE is a write of the status block, in every mode. -/
theorem hostWrite_portMode {second : Nat} (v : Nat) {s : State} (hok : instructionOk s.host.port 0x02 second = true) :
    hostWrite second 0x30 (bytesOfNat 4 v) s = writeStatus 0x30 (bytesOfNat 4 v)
      (setPort (fun p => { p with dq := none, driven := 0, ds := false }) s) := by
  have hlen : phaseLen s.host.port (bytesOfNat 4 v).length = (bytesOfNat 4 v).length :=
    phaseLen_self _ _ fun _ => by rw [bytesOfNat_length]
  have hfits : (bytesOfNat 4 v).length ≤ 0x1000 - 0x30 := by rw [bytesOfNat_length]; norm_num
  rw [hostWrite_at hok (fun _ => rfl), hlen, List.take_length, writeAt, if_pos (by norm_num),
    List.take_of_length_le hfits]

/-- WRITE of PORT_MODE: the latencies in force at the end of the transfer, the mode kept, and the port still answers. -/
theorem completes_writePortMode {s : State} {second : Nat} (v : Nat) (ha : portAnswers s = true)
    (hok : instructionOk s.host.port 0x02 second = true) :
    Completes (.writePortMode second 0x30 (bytesOfNat 4 v)) s fun t =>
      t.host.port = { s.host.port with
        readLatency := max (minRead s.host.port.mode) (v / 256 % 64),
        apertureLatency := max (minAperture s.host.port.mode) (v / 65536 % 64),
        dq := none, driven := 0, ds := false } ∧
      t.host.notices.mask = s.host.notices.mask % 64 ∧ ChangesOnly [.port, .mask] s t ∧ portAnswers t = true := by
  refine completes_of_transfer (exec_writePortMode second 0x30 _ s) ha ?_
  rw [hostWrite_portMode v hok]
  set u := setPort (fun p => { p with dq := none, driven := 0, ds := false }) s with hu
  have hframe : ChangesOnly [.port, .mask] s (writeStatus 0x30 (bytesOfNat 4 v) u) :=
    (changes_setPort _ s).trans (changesOnly_writeStatus 0x30 _ u) (by simp) (by simp)
  have hanswers : portAnswers (writeStatus 0x30 (bytesOfNat 4 v) u) = portAnswers s := rfl
  refine ⟨?_, ?_, hframe.settle s, ?_⟩
  · rw [settle_port, writeStatus_portMode_port, hu, setPort_host]
  · rw [settle_mask, writeStatus_portMode_mask, hu, setPort_host]
  · rw [portAnswers_settle, hanswers, ha]

/-- A READ of PORT_MODE drives the word in force. -/
theorem completes_readPortMode {s : State} {second : Nat} (ha : portAnswers s = true)
    (hok : instructionOk s.host.port 0x0B second = true) :
    Completes (.readQueueWindow 0x0B second 0x30 4) s fun t =>
      t.host.port.dq = some (bytesOfNat 4 (portModeWord s.host.port)) := by
  have hlen : phaseLen s.host.port 4 = 4 := phaseLen_self _ _ fun _ => rfl
  have hknown : knownCode 0x0B = true := rfl
  refine completes_of_transfer (exec_readQueueWindow 0x0B second 0x30 4 s) ha ?_
  simp [hknown, hok, hlen, readAt_portMode, drive]

/-- Settles O4: each transfer's effect is a change of the port (with NOTICE_MASK, for a write of the status block), and
what a command settles at its end leaves the port as that effect made it. -/
theorem portModesAndIdentity : Obligations.PortModesAndIdentity := by
  unfold Obligations.PortModesAndIdentity
  refine ⟨⟨fun second v s ha hok => ?_, fun second s ha => ?_⟩, fun second len s ha => ⟨fun hok => ?_, ?_, ?_⟩⟩
  · refine (completes_writePortMode v ha hok).imp fun t ⟨hport, hmask, hframe, hanswers⟩ => ?_
    refine ⟨?_, ?_, ?_, hmask, hframe, fun _ hok' => completes_readPortMode hanswers hok'⟩ <;> rw [hport]
  · exact ⟨completes_enter4s second ha, completes_enter8s second ha, completes_enter8d second ha,
      completes_return1s second ha⟩
  · exact (completes_readId len ha hok).imp fun t ⟨hport, hframe⟩ => ⟨hframe, hport, idBytes_spec _⟩
  · exact completes_readId_refused len ha
  · exact fun _ addr => completes_unknownCode second addr len ha

end Sys2Proof.Machine
end

section
/-! SUPPORT. The exact arithmetic of the integer pairs: dyadics that are integers, integer elements, and the dot products that
the accumulators and the checksum column hold (R271, R285). -/

namespace Sys2Proof.Machine

/-! ## Dyadics that are integers -/

@[simp] theorem Dy.add_ofInt (i j : Int) : (Dy.ofInt i).add (Dy.ofInt j) = Dy.ofInt (i + j) := by
  simp [Dy.add, Dy.align, Dy.ofInt]

@[simp] theorem Dy.mul_ofInt (i j : Int) : (Dy.ofInt i).mul (Dy.ofInt j) = Dy.ofInt (i * j) := rfl

@[simp] theorem Dy.floor_ofInt (i : Int) : (Dy.ofInt i).floor = i := by simp [Dy.floor, Dy.ofInt]

theorem Dy.foldl_add_ofInt (l : List Int) : ∀ i : Int, (l.map Dy.ofInt).foldl Dy.add (Dy.ofInt i) = Dy.ofInt (i + l.sum) := by
  induction l with
  | nil => simp
  | cons j l ih => intro i; simp [ih, add_assoc]

/-- A sum of integers is exact. -/
theorem Dy.sum_map_ofInt {α : Type} (f : α → Int) (l : List α) :
    Dy.sum (l.map fun x => Dy.ofInt (f x)) = Dy.ofInt (l.map f).sum := by
  have h := Dy.foldl_add_ofInt (l.map f) 0
  rwa [List.map_map, zero_add] at h

/-! ## Integer elements -/

/-- The number of an element of an integer format. -/
def intValue (f : Nat) (x : Elem) : Int := signedOf (fmtBits f) (x.1 % 2 ^ fmtBits f)

theorem elemVal_int {f : Nat} (hf : fmtIsInt f = true) (x : Elem) : elemVal f x = Dy.ofInt (intValue f x) := by
  have hmx : fmtIsMx f = false := by
    have : f ≤ 2 := of_decide_eq_true hf
    simp [fmtIsMx]; omega
  simp [elemVal, hmx, elementValue, hf, intValue]

/-- The element that stands for a missing one is zero. -/
@[simp] theorem intValue_missing (f : Nat) : intValue f (0, 127) = 0 := by simp [intValue, signedOf]

/-- Table 9.3: what an integer format pairs with is an integer format. -/
theorem fmtIsInt_of_pair {fa fw : Nat} (hpair : (pairKp fa fw).isSome = true) (ha : fmtIsInt fa = true) :
    fmtIsInt fw = true := by
  unfold pairKp at hpair
  split at hpair <;> simp_all [fmtIsInt]

/-! ## Dot products -/

/-- The exact sum of one output. -/
def dot (fa fw : Nat) (a w : List Elem) : Int := ((a.zip w).map fun p => intValue fa p.1 * intValue fw p.2).sum

theorem accumulate_int {fa fw : Nat} (ha : fmtIsInt fa = true) (hw : fmtIsInt fw = true) (a w : List Elem) :
    accumulate fa fw a w = .int (dot fa fw a w) := by
  simp [accumulate, ha, passProducts, elemVal_int ha, elemVal_int hw, Dy.sum_map_ofInt, dot]

/-- The exact sum by the index k: a column that is too short goes on with zeros. -/
theorem dot_eq_sum_range (fa fw : Nat) : ∀ a w : List Elem, dot fa fw a w =
    ((List.range a.length).map fun k => intValue fa (a.getD k (0, 127)) * intValue fw (w.getD k (0, 127))).sum
  | [], w => by simp [dot]
  | x :: a, [] => by simp [dot]
  | x :: a, y :: w => by
    have ih := dot_eq_sum_range fa fw a w
    simp only [dot] at ih
    simp [dot, ih, List.range_succ_eq_map, Function.comp_def]

theorem rowSum_int {fw : Nat} (hw : fmtIsInt fw = true) (k : Nat) (w : List (List Elem)) :
    rowSum fw k w false = Dy.ofInt (w.map fun l => intValue fw (l.getD k (0, 127))).sum := by
  simp [rowSum, elemVal_int hw, Dy.sum_map_ofInt]

/-- A sum over k of products with row sums is the sum over the columns of their dot products. -/
theorem sum_mul_rowSums (fa fw : Nat) (a : List Elem) (w : List (List Elem)) :
    ((List.range a.length).map fun k => intValue fa (a.getD k (0, 127)) *
      (w.map fun l => intValue fw (l.getD k (0, 127))).sum).sum = (w.map (dot fa fw a)).sum := by
  induction w with
  | nil => simp
  | cons l w ih => simp only [List.map_cons, List.sum_cons, mul_add, List.sum_map_add, ih, dot_eq_sum_range]

/-- CHECK of an integer pair: the sum of the columns' exact sums (R285). -/
theorem check_int {fa fw : Nat} (ha : fmtIsInt fa = true) (hw : fmtIsInt fw = true) (a : List Elem) (w : List (List Elem)) :
    Dy.sum ((List.range a.length).map fun k => (aValue fa k a).mul (rowSum fw k w false)) =
      Dy.ofInt (w.map (dot fa fw a)).sum := by
  simp only [aValue, elemVal_int ha, rowSum_int hw, Dy.mul_ofInt, Dy.sum_map_ofInt, sum_mul_rowSums]

/-- The exact comparison of CHECK with OUTSUM (R285). -/
theorem checkRow_int_ok {fa fw : Nat} (ha : fmtIsInt fa = true) (hw : fmtIsInt fw = true) (a : List Elem)
    (w : List (List Elem)) (outs : List Int) :
    (checkRow fa fw a w (outs.map .int)).ok = true ↔ (w.map (dot fa fw a)).sum = outs.sum := by
  simp [checkRow, ha, check_int ha hw, List.foldl_map, List.sum_eq_foldl]

end Sys2Proof.Machine
end

section
/-! The checksum of an integer pair: what a group of columns is off by, and when a row fails (R285). -/

namespace Sys2Proof.Machine

/-! ## Outputs and groups of columns -/

/-- What the silicon puts on an output's accumulator. -/
def upsetAt (upset : List (Nat × Int)) (i : Nat) : Int := ((upset.find? fun u => u.1 == i).map (·.2)).getD 0

@[simp] theorem upsetAt_nil (i : Nat) : upsetAt [] i = 0 := rfl

theorem upsetAt_singleton (n : Nat) (d : Int) (i : Nat) : upsetAt [(n, d)] i = if i = n then d else 0 := by
  by_cases h : i = n
  · simp [upsetAt, h]
  · simp [upsetAt, h, Ne.symm h]

/-- What a group's accumulators are off by, in all. -/
def groupUpset (upset : List (Nat × Int)) (columns g : Nat) : Int :=
  ((List.range (min 64 (columns - 64 * g))).map fun i => upsetAt upset (64 * g + i)).sum

@[simp] theorem groupUpset_nil (columns g : Nat) : groupUpset [] columns g = 0 := by simp [groupUpset]

/-- A single upset shows whole in the group of its output. -/
theorem groupUpset_singleton {n columns : Nat} (d : Int) (hn : n < columns) :
    groupUpset [(n, d)] columns (n / 64) = d := by
  have hplace : ∀ i, 64 * (n / 64) + i = n ↔ i = n % 64 := by omega
  have hin : n % 64 < min 64 (columns - 64 * (n / 64)) := by omega
  simp [groupUpset, upsetAt_singleton, hplace, List.sum_map_ite_eq, List.count_range, hin]

/-- The accumulators of an integer pair: the exact sums with the faults of the silicon. -/
theorem productRow_accs_int {fa fw : Nat} (ha : fmtIsInt fa = true) (hw : fmtIsInt fw = true) (a : List Elem)
    (w : List (List Elem)) (upset : List (Nat × Int)) : (productRow fa fw a w upset).accs =
      (w.zipIdx.map fun p => dot fa fw a p.1 + upsetAt upset p.2).map Acc.int := by
  simp only [productRow, List.zipIdx_map, List.map_map]
  refine List.map_congr_left fun p _ => ?_
  cases hfind : upset.find? (fun u => u.1 == p.2) <;> simp [accumulate_int ha hw, upsetAt, hfind]

/-- The columns of a group with their numbers. -/
def groupColumns (w : List (List Elem)) (g : Nat) : List (List Elem × Nat) := (w.zipIdx.drop (64 * g)).take 64

theorem groupColumns_fst (w : List (List Elem)) (g : Nat) :
    (groupColumns w g).map Prod.fst = (w.drop (64 * g)).take 64 := by
  simp [groupColumns, List.map_take, List.map_drop, List.zipIdx_map_fst]

theorem groupColumns_snd (w : List (List Elem)) (g : Nat) :
    (groupColumns w g).map Prod.snd = (List.range (min 64 (w.length - 64 * g))).map (64 * g + ·) := by
  rw [groupColumns, List.map_take, List.map_drop, List.zipIdx_map_snd, List.drop_range', List.range'_eq_map_range,
    ← List.map_take, List.take_range, zero_add, mul_one]

theorem sum_groupColumns_upset (upset : List (Nat × Int)) (w : List (List Elem)) (g : Nat) :
    ((groupColumns w g).map fun p => upsetAt upset p.2).sum = groupUpset upset w.length g := by
  have h := congrArg (List.map (upsetAt upset)) (groupColumns_snd w g)
  rw [List.map_map, List.map_map] at h
  exact congrArg List.sum h

/-! ## The check of a row -/

theorem productRow_checks_length (fa fw : Nat) (a : List Elem) (w : List (List Elem)) (upset : List (Nat × Int)) :
    (productRow fa fw a w upset).checks.length = (w.length + 63) / 64 := by
  simp [productRow]

theorem productRow_check {fa fw : Nat} {a : List Elem} {w : List (List Elem)} {upset : List (Nat × Int)} {g : Nat}
    {c : RowCheck} (hc : (productRow fa fw a w upset).checks[g]? = some c) :
    c = checkRow fa fw a ((w.drop (64 * g)).take 64) (((productRow fa fw a w upset).accs.drop (64 * g)).take 64) := by
  obtain ⟨h, rfl⟩ := List.getElem?_eq_some_iff.1 hc
  simp [productRow]

/-- CHECK and OUTSUM of a group differ by just what its accumulators are off by. -/
theorem productRow_check_ok {fa fw : Nat} (ha : fmtIsInt fa = true) (hw : fmtIsInt fw = true) {a : List Elem}
    {w : List (List Elem)} {upset : List (Nat × Int)} {g : Nat} {c : RowCheck}
    (hc : (productRow fa fw a w upset).checks[g]? = some c) : c.ok = true ↔ groupUpset upset w.length g = 0 := by
  have haccs : ((productRow fa fw a w upset).accs.drop (64 * g)).take 64 =
      ((groupColumns w g).map fun p => dot fa fw a p.1 + upsetAt upset p.2).map Acc.int := by
    simp only [productRow_accs_int ha hw, groupColumns, List.map_take, List.map_drop]
  have hsum : (((groupColumns w g).map Prod.fst).map (dot fa fw a)).sum =
      ((groupColumns w g).map fun p => dot fa fw a p.1).sum := by rw [List.map_map]; rfl
  rw [productRow_check hc, haccs, ← groupColumns_fst, checkRow_int_ok ha hw, hsum, List.sum_map_add,
    sum_groupColumns_upset, left_eq_add]

/-- A row fails with any of its groups. -/
theorem checkResult_failed_eq_nil (index : Nat) (p : ProductRow) :
    (checkResult index p).failed = [] ↔ ∀ c ∈ p.checks, c.ok = true := by
  simp [checkResult]

theorem checkResult_failed_of_not_ok {index : Nat} {p : ProductRow} {c : RowCheck} (hc : c ∈ p.checks)
    (hok : ¬ c.ok = true) : (checkResult index p).failed = [index] := by
  have hall : ¬ p.checks.all (·.ok) = true := fun h => hok (List.all_eq_true.1 h c hc)
  simp only [checkResult, if_neg hall]

/-- Settles O40: CHECK is the sum of the group's exact sums, so that it differs from OUTSUM by the sum of what the group's
accumulators are off by; that sum is zero without an upset, and a single upset's own amount in its group. -/
theorem integerRowsAreCheckedExactly : Obligations.IntegerRowsAreCheckedExactly := by
  unfold Obligations.IntegerRowsAreCheckedExactly
  intro fa fw index a w upset hpair ha off p
  have hw : fmtIsInt fw = true := fmtIsInt_of_pair hpair ha
  have hlength : p.checks.length = (w.length + 63) / 64 := productRow_checks_length fa fw a w upset
  have hgroup : ∀ g c, p.checks[g]? = some c → (c.ok = true ↔ groupUpset upset w.length g = 0) :=
    fun g c hc => productRow_check_ok ha hw hc
  refine ⟨hlength, hgroup, checkResult_failed_eq_nil index p, fun hnone => ?_, fun n d hone hn hd => ?_⟩
  · refine (checkResult_failed_eq_nil index p).2 fun c hc => ?_
    obtain ⟨g, hg⟩ := List.mem_iff_getElem?.1 hc
    exact (hgroup g c hg).2 (by rw [hnone, groupUpset_nil])
  · have hlt : n / 64 < p.checks.length := by omega
    have hc := List.getElem?_eq_getElem hlt
    refine checkResult_failed_of_not_ok (List.mem_of_getElem? hc) fun hok => hd ?_
    rw [← groupUpset_singleton d hn, ← hone]
    exact (hgroup _ _ hc).1 hok

end Sys2Proof.Machine
end

section
/-! The queue of commands, and what every command settles at its end. -/

namespace Sys2Proof.Machine

/-! ## What a command settles is settled (R7, R409, R410, Table 14.6) -/

/-- A level that hysteresis has judged is judged the same again. -/
theorem hysteresis_idem (was : Bool) (level low high : Nat) :
    hysteresis (hysteresis was level low high) level low high = hysteresis was level low high := by
  unfold hysteresis
  split_ifs <;> rfl

/-- FC_CMD_N hangs on no word that is settled but its own level. -/
theorem fcCmdOf_settlePins (s : State) : fcCmdOf (settlePins s) = fcCmdOf s := by
  have hshow : fcCmdOf (settlePins s) =
      if !portAnswers s then true else if !flowService s then false else if queueInReset s then true
      else hysteresis (fcCmdOf s) (intakeFill s.host.intake) (markWords s 0 8) (markWords s 0 0) := rfl
  rw [hshow]
  unfold fcCmdOf
  split_ifs
  case neg => exact hysteresis_idem _ _ _ _
  all_goals rfl

/-- Nor does FC_OUT_N. -/
theorem fcOutOf_settlePins (s : State) : fcOutOf (settlePins s) = fcOutOf s := by
  have hshow : fcOutOf (settlePins s) =
      if !flowService s then false
      else if (List.range 3).any (fun i =>
        decide (markWords s (i + 1) 16 ≤ fill (countNow s) (outQueue s (i + 1)))) then true
      else if (List.range 3).all (fun i =>
        decide (fill (countNow s) (outQueue s (i + 1)) ≤ markWords s (i + 1) 24)) then false
      else fcOutOf s := rfl
  rw [hshow]
  conv_rhs => unfold fcOutOf
  unfold fcOutOf
  split_ifs <;> rfl

/-- Whatever state a command leaves, what it settles at its end makes it a settled one. -/
theorem settled_settle (o s : State) : Settled (settle o s) where
  degradation := degradation_settled o s
  fcCmd := (fcCmdOf_settlePins _).symm
  fcOut := (fcOutOf_settlePins _).symm
  replyPeak := le_max_right _ _
  resultPeak := le_max_right _ _
  eventPeak := le_max_right _ _
  intakePeak := le_max_right _ _

/-! ## Every command settles -/

/-- An outcome that is no next state, or one settled at a command's end. -/
def Settles (o : Host.Outcome State Fault Refusal) : Prop := ∀ t, o = .next t → Settled t

theorem settles_answer (o s : State) : Settles (answer o s) := by
  rintro t ⟨rfl⟩
  exact settled_settle o s

theorem settles_fault (r : Fault) : Settles (.fault r) := fun _ h => nomatch h

theorem settles_supplyMonitorCrossing (supply : Nat) (mv : Int) (s : State) :
    Settles (execSupplyMonitorCrossing supply mv s) := by
  unfold execSupplyMonitorCrossing
  split_ifs
  · exact settles_answer _ _
  · exact settles_fault _
  · exact settles_answer _ _

/-- Every meaning but one of the dispatch is an answer; that one may fault instead. -/
theorem settles_exec (i : Instr) (s : State) : Settles (exec i s) := by
  cases i
  case supplyMonitorCrossing supply mv => exact settles_supplyMonitorCrossing supply mv s
  all_goals exact settles_answer _ _

/-- Settles O2: every command ends in `settle`, which makes any state a settled one. -/
theorem stepsStaySettled : Obligations.StepsStaySettled := by
  unfold Obligations.StepsStaySettled step
  intro s t hs ht
  split at ht
  · cases ht
    exact hs
  · exact settles_exec _ _ t ht

/-- Settles O1: the definition of a step, by the queue's two forms. -/
theorem stepRunsFrontCommand : Obligations.StepRunsFrontCommand := by
  unfold Obligations.StepRunsFrontCommand step
  exact ⟨fun c cs s h => by rw [h], fun s h => by rw [h]⟩

/-- Settles O3: DEGRADATION's only flag at reset is DEGRADED_TIME, and the queues are empty. -/
theorem resetIsSettled : Obligations.ResetIsSettled where
  degradation := by decide +kernel
  fcCmd := rfl
  fcOut := by decide +kernel
  replyPeak := le_refl 0
  resultPeak := le_refl 0
  eventPeak := le_refl 0
  intakePeak := le_refl 0

end Sys2Proof.Machine
end

section
/-! SUPPORT. How the rows of the table complete, and frames part by part. -/

namespace Sys2Proof.Machine

/-! ## The arms of the dispatch -/

theorem exec_writeCommandWindow second addr data (s : State) :
    exec (.writeCommandWindow second addr data) s = execWriteCommandWindow second addr data s := rfl
theorem exec_writeStagingAperture second addr data (s : State) :
    exec (.writeStagingAperture second addr data) s = execWriteStagingAperture second addr data s := rfl
theorem exec_writeNoticeCause second addr data (s : State) :
    exec (.writeNoticeCause second addr data) s = execWriteNoticeCause second addr data s := rfl
theorem exec_writeOtherRegister second addr data (s : State) :
    exec (.writeOtherRegister second addr data) s = execWriteOtherRegister second addr data s := rfl
theorem exec_commandAcceptance (s : State) : exec .commandAcceptance s = execCommandAcceptance s := rfl
theorem exec_commandEnterFlight (s : State) : exec .commandEnterFlight s = execCommandEnterFlight s := rfl
theorem exec_commandStart k (s : State) : exec (.commandStart k) s = execCommandStart k s := rfl
theorem exec_longCommandComplete k (s : State) : exec (.longCommandComplete k) s = execLongCommandComplete k s := rfl
theorem exec_getInfo k (s : State) : exec (.getInfo k) s = execGetInfo k s := rfl
theorem exec_getState k (s : State) : exec (.getState k) s = execGetState k s := rfl
theorem exec_enterRun k (s : State) : exec (.enterRun k) s = execEnterRun k s := rfl
theorem exec_enterSetup k (s : State) : exec (.enterSetup k) s = execEnterSetup k s := rfl
theorem exec_setPosture k (s : State) : exec (.setPosture k) s = execSetPosture k s := rfl
theorem exec_resetSubsystem k (s : State) : exec (.resetSubsystem k) s = execResetSubsystem k s := rfl
theorem exec_resetDevice k (s : State) : exec (.resetDevice k) s = execResetDevice k s := rfl
theorem exec_echo k (s : State) : exec (.echo k) s = execEcho k s := rfl
theorem exec_saveConfig k (s : State) : exec (.saveConfig k) s = execSaveConfig k s := rfl
theorem exec_getTime k (s : State) : exec (.getTime k) s = execGetTime k s := rfl
theorem exec_setTimeSource k (s : State) : exec (.setTimeSource k) s = execSetTimeSource k s := rfl
theorem exec_setOscClass k (s : State) : exec (.setOscClass k) s = execSetOscClass k s := rfl
theorem exec_servoAdjust k (s : State) : exec (.servoAdjust k) s = execServoAdjust k s := rfl
theorem exec_configTsIn k (s : State) : exec (.configTsIn k) s = execConfigTsIn k s := rfl
theorem exec_configTsOut k (s : State) : exec (.configTsOut k) s = execConfigTsOut k s := rfl
theorem exec_getCaptures k (s : State) : exec (.getCaptures k) s = execGetCaptures k s := rfl
theorem exec_getHoldover k (s : State) : exec (.getHoldover k) s = execGetHoldover k s := rfl
theorem exec_setSentryTick k (s : State) : exec (.setSentryTick k) s = execSetSentryTick k s := rfl
theorem exec_configPort k (s : State) : exec (.configPort k) s = execConfigPort k s := rfl
theorem exec_setPortCorrections k (s : State) : exec (.setPortCorrections k) s = execSetPortCorrections k s := rfl
theorem exec_configPtp k (s : State) : exec (.configPtp k) s = execConfigPtp k s := rfl
theorem exec_getPtpStatus k (s : State) : exec (.getPtpStatus k) s = execGetPtpStatus k s := rfl
theorem exec_getPortStats k (s : State) : exec (.getPortStats k) s = execGetPortStats k s := rfl
theorem exec_configSafeMsg k (s : State) : exec (.configSafeMsg k) s = execConfigSafeMsg k s := rfl
theorem exec_configCsi k (s : State) : exec (.configCsi k) s = execConfigCsi k s := rfl
theorem exec_setNormaliser k (s : State) : exec (.setNormaliser k) s = execSetNormaliser k s := rfl
theorem exec_loadShadingTable k (s : State) : exec (.loadShadingTable k) s = execLoadShadingTable k s := rfl
theorem exec_loadLidarTemplate k (s : State) : exec (.loadLidarTemplate k) s = execLoadLidarTemplate k s := rfl
theorem exec_bindLidar k (s : State) : exec (.bindLidar k) s = execBindLidar k s := rfl
theorem exec_configImu k (s : State) : exec (.configImu k) s = execConfigImu k s := rfl
theorem exec_configEncoder k (s : State) : exec (.configEncoder k) s = execConfigEncoder k s := rfl
theorem exec_configCan k (s : State) : exec (.configCan k) s = execConfigCan k s := rfl
theorem exec_getSourceStatus k (s : State) : exec (.getSourceStatus k) s = execGetSourceStatus k s := rfl
theorem exec_setCalibration k (s : State) : exec (.setCalibration k) s = execSetCalibration k s := rfl
theorem exec_setPairing k (s : State) : exec (.setPairing k) s = execSetPairing k s := rfl
theorem exec_setExtrapolationLimit k (s : State) : exec (.setExtrapolationLimit k) s = execSetExtrapolationLimit k s := rfl
theorem exec_setVoterThresholds k (s : State) : exec (.setVoterThresholds k) s = execSetVoterThresholds k s := rfl
theorem exec_setAnchor k (s : State) : exec (.setAnchor k) s = execSetAnchor k s := rfl
theorem exec_getPose k (s : State) : exec (.getPose k) s = execGetPose k s := rfl
theorem exec_getVoterStatus k (s : State) : exec (.getVoterStatus k) s = execGetVoterStatus k s := rfl
theorem exec_setVoxelConfig k (s : State) : exec (.setVoxelConfig k) s = execSetVoxelConfig k s := rfl
theorem exec_getPointStats k (s : State) : exec (.getPointStats k) s = execGetPointStats k s := rfl
theorem exec_runNeighbourQuery k (s : State) : exec (.runNeighbourQuery k) s = execRunNeighbourQuery k s := rfl
theorem exec_setCellSize k (s : State) : exec (.setCellSize k) s = execSetCellSize k s := rfl
theorem exec_getTileMap k (s : State) : exec (.getTileMap k) s = execGetTileMap k s := rfl
theorem exec_retireTile k (s : State) : exec (.retireTile k) s = execRetireTile k s := rfl
theorem exec_configBevExport k (s : State) : exec (.configBevExport k) s = execConfigBevExport k s := rfl
theorem exec_getRinkStats k (s : State) : exec (.getRinkStats k) s = execGetRinkStats k s := rfl
theorem exec_loadPlan k (s : State) : exec (.loadPlan k) s = execLoadPlan k s := rfl
theorem exec_activatePlan k (s : State) : exec (.activatePlan k) s = execActivatePlan k s := rfl
theorem exec_getPlanStatus k (s : State) : exec (.getPlanStatus k) s = execGetPlanStatus k s := rfl
theorem exec_unloadPlan k (s : State) : exec (.unloadPlan k) s = execUnloadPlan k s := rfl
theorem exec_submitSolverBatch k (s : State) : exec (.submitSolverBatch k) s = execSubmitSolverBatch k s := rfl
theorem exec_getSolverStatus k (s : State) : exec (.getSolverStatus k) s = execGetSolverStatus k s := rfl
theorem exec_setTrackParams k (s : State) : exec (.setTrackParams k) s = execSetTrackParams k s := rfl
theorem exec_setRelevanceRule k (s : State) : exec (.setRelevanceRule k) s = execSetRelevanceRule k s := rfl
theorem exec_setZone k (s : State) : exec (.setZone k) s = execSetZone k s := rfl
theorem exec_setEventRule k (s : State) : exec (.setEventRule k) s = execSetEventRule k s := rfl
theorem exec_getTrack k (s : State) : exec (.getTrack k) s = execGetTrack k s := rfl
theorem exec_clearZones k (s : State) : exec (.clearZones k) s = execClearZones k s := rfl
theorem exec_setQueueMode k (s : State) : exec (.setQueueMode k) s = execSetQueueMode k s := rfl
theorem exec_setCutThrough k (s : State) : exec (.setCutThrough k) s = execSetCutThrough k s := rfl
theorem exec_setWatermarks k (s : State) : exec (.setWatermarks k) s = execSetWatermarks k s := rfl
theorem exec_resetQueue k (s : State) : exec (.resetQueue k) s = execResetQueue k s := rfl
theorem exec_getQueueStatus k (s : State) : exec (.getQueueStatus k) s = execGetQueueStatus k s := rfl
theorem exec_getFaultRecords k (s : State) : exec (.getFaultRecords k) s = execGetFaultRecords k s := rfl
theorem exec_clearFault k (s : State) : exec (.clearFault k) s = execClearFault k s := rfl
theorem exec_setReaction k (s : State) : exec (.setReaction k) s = execSetReaction k s := rfl
theorem exec_setReactionTimer k (s : State) : exec (.setReactionTimer k) s = execSetReactionTimer k s := rfl
theorem exec_setRecoveryLimits k (s : State) : exec (.setRecoveryLimits k) s = execSetRecoveryLimits k s := rfl
theorem exec_setGateWindows k (s : State) : exec (.setGateWindows k) s = execSetGateWindows k s := rfl
theorem exec_setGroomer k (s : State) : exec (.setGroomer k) s = execSetGroomer k s := rfl
theorem exec_getSafetyStatus k (s : State) : exec (.getSafetyStatus k) s = execGetSafetyStatus k s := rfl
theorem exec_injectFault k (s : State) : exec (.injectFault k) s = execInjectFault k s := rfl
theorem exec_enterSafe k (s : State) : exec (.enterSafe k) s = execEnterSafe k s := rfl
theorem exec_setDeviceNumber k (s : State) : exec (.setDeviceNumber k) s = execSetDeviceNumber k s := rfl
theorem exec_getPeerStatus k (s : State) : exec (.getPeerStatus k) s = execGetPeerStatus k s := rfl
theorem exec_setRegionMap k (s : State) : exec (.setRegionMap k) s = execSetRegionMap k s := rfl
theorem exec_getPower k (s : State) : exec (.getPower k) s = execGetPower k s := rfl
theorem exec_setWakeSources k (s : State) : exec (.setWakeSources k) s = execSetWakeSources k s := rfl
theorem exec_setThermalLimits k (s : State) : exec (.setThermalLimits k) s = execSetThermalLimits k s := rfl
theorem exec_getSecurityStatus k (s : State) : exec (.getSecurityStatus k) s = execGetSecurityStatus k s := rfl
theorem exec_beginUpdate k (s : State) : exec (.beginUpdate k) s = execBeginUpdate k s := rfl
theorem exec_commitUpdate k (s : State) : exec (.commitUpdate k) s = execCommitUpdate k s := rfl
theorem exec_attest k (s : State) : exec (.attest k) s = execAttest k s := rfl
theorem exec_revokeKey k (s : State) : exec (.revokeKey k) s = execRevokeKey k s := rfl
theorem exec_readJournal k (s : State) : exec (.readJournal k) s = execReadJournal k s := rfl
theorem exec_setLifecycle k (s : State) : exec (.setLifecycle k) s = execSetLifecycle k s := rfl
theorem exec_getMemoryStatus k (s : State) : exec (.getMemoryStatus k) s = execGetMemoryStatus k s := rfl
theorem exec_scrub k corrected bad (s : State) : exec (.scrub k corrected bad) s = execScrub k corrected bad s := rfl
theorem exec_porstNAssert pulseNs powerLost (s : State) :
    exec (.porstNAssert pulseNs powerLost) s = execPorstNAssert pulseNs powerLost s := rfl
theorem exec_porstNEffectiveRelease aonPeriods (s : State) :
    exec (.porstNEffectiveRelease aonPeriods) s = execPorstNEffectiveRelease aonPeriods s := rfl
theorem exec_roleSample value (s : State) : exec (.roleSample value) s = execRoleSample value s := rfl
theorem exec_wrstNAssert pulseNs aonPeriods (s : State) :
    exec (.wrstNAssert pulseNs aonPeriods) s = execWrstNAssert pulseNs aonPeriods s := rfl
theorem exec_deviceResetStart (s : State) : exec .deviceResetStart s = execDeviceResetStart s := rfl
theorem exec_bootComplete report (s : State) : exec (.bootComplete report) s = execBootComplete report s := rfl
theorem exec_autoEnterRun (s : State) : exec .autoEnterRun s = execAutoEnterRun s := rfl
theorem exec_countIncrement n mismatch (s : State) :
    exec (.countIncrement n mismatch) s = execCountIncrement n mismatch s := rfl
theorem exec_tick (s : State) : exec .tick s = execTick s := rfl
theorem exec_frameUpdateCutoff (s : State) : exec .frameUpdateCutoff s = execFrameUpdateCutoff s := rfl
theorem exec_tsInEdge input falling at_ (s : State) :
    exec (.tsInEdge input falling at_) s = execTsInEdge input falling at_ s := rfl
theorem exec_zdaSentence uart utc (s : State) : exec (.zdaSentence uart utc) s = execZdaSentence uart utc s := rfl
theorem exec_ppsSourceLoss (s : State) : exec .ppsSourceLoss s = execPpsSourceLoss s := rfl
theorem exec_hostSourceLoss (s : State) : exec .hostSourceLoss s = execHostSourceLoss s := rfl
theorem exec_tsOutLeadingEdge out (s : State) : exec (.tsOutLeadingEdge out) s = execTsOutLeadingEdge out s := rfl
theorem exec_tsOutTrailingEdge out (s : State) : exec (.tsOutTrailingEdge out) s = execTsOutTrailingEdge out s := rfl
theorem exec_ptpSyncReceived port msg head (s : State) :
    exec (.ptpSyncReceived port msg head) s = execPtpSyncReceived port msg head s := rfl
theorem exec_ptpFollowUpReceived port msg head (s : State) :
    exec (.ptpFollowUpReceived port msg head) s = execPtpFollowUpReceived port msg head s := rfl
theorem exec_ptpDelayReqReceived port msg head (s : State) :
    exec (.ptpDelayReqReceived port msg head) s = execPtpDelayReqReceived port msg head s := rfl
theorem exec_ptpDelayRespReceived port msg head (s : State) :
    exec (.ptpDelayRespReceived port msg head) s = execPtpDelayRespReceived port msg head s := rfl
theorem exec_ptpPdelayReqReceived port msg head (s : State) :
    exec (.ptpPdelayReqReceived port msg head) s = execPtpPdelayReqReceived port msg head s := rfl
theorem exec_ptpPdelayRespReceived port msg head (s : State) :
    exec (.ptpPdelayRespReceived port msg head) s = execPtpPdelayRespReceived port msg head s := rfl
theorem exec_ptpPdelayRespFollowUpReceived port msg head (s : State) :
    exec (.ptpPdelayRespFollowUpReceived port msg head) s = execPtpPdelayRespFollowUpReceived port msg head s := rfl
theorem exec_ptpAnnounceReceived port msg head (s : State) :
    exec (.ptpAnnounceReceived port msg head) s = execPtpAnnounceReceived port msg head s := rfl
theorem exec_ptpSignalingReceived port msg head (s : State) :
    exec (.ptpSignalingReceived port msg head) s = execPtpSignalingReceived port msg head s := rfl
theorem exec_ptpManagementReceived port msg head (s : State) :
    exec (.ptpManagementReceived port msg head) s = execPtpManagementReceived port msg head s := rfl
theorem exec_ptpSyncInterval port (s : State) : exec (.ptpSyncInterval port) s = execPtpSyncInterval port s := rfl
theorem exec_ptpDelayInterval port (s : State) : exec (.ptpDelayInterval port) s = execPtpDelayInterval port s := rfl
theorem exec_ptpAnnounceInterval port (s : State) :
    exec (.ptpAnnounceInterval port) s = execPtpAnnounceInterval port s := rfl
theorem exec_syncReceiptTimeout port (s : State) : exec (.syncReceiptTimeout port) s = execSyncReceiptTimeout port s := rfl
theorem exec_announceReceiptTimeout port (s : State) :
    exec (.announceReceiptTimeout port) s = execAnnounceReceiptTimeout port s := rfl
theorem exec_pdelayTimeout port (s : State) : exec (.pdelayTimeout port) s = execPdelayTimeout port s := rfl
theorem exec_linkDown port (s : State) : exec (.linkDown port) s = execLinkDown port s := rfl
theorem exec_linkUp port speed (s : State) : exec (.linkUp port speed) s = execLinkUp port speed s := rfl
theorem exec_arpRequest port ip target sender head (s : State) :
    exec (.arpRequest port ip target sender head) s = execArpRequest port ip target sender head s := rfl
theorem exec_ethOtherFrame port kind head (s : State) :
    exec (.ethOtherFrame port kind head) s = execEthOtherFrame port kind head s := rfl
theorem exec_lidarDatagram d (s : State) : exec (.lidarDatagram d) s = execLidarDatagram d s := rfl
theorem exec_sweepTimeout lidar (s : State) : exec (.sweepTimeout lidar) s = execSweepTimeout lidar s := rfl
theorem exec_csiFrameStart rx vc number corrected (s : State) :
    exec (.csiFrameStart rx vc number corrected) s = execCsiFrameStart rx vc number corrected s := rfl
theorem exec_csiLongPacket rx packet (s : State) : exec (.csiLongPacket rx packet) s = execCsiLongPacket rx packet s := rfl
theorem exec_csiFrameEnd rx vc number corrected (s : State) :
    exec (.csiFrameEnd rx vc number corrected) s = execCsiFrameEnd rx vc number corrected s := rfl
theorem exec_imuDataReady imu (s : State) : exec (.imuDataReady imu) s = execImuDataReady imu s := rfl
theorem exec_imuTransactionComplete imu burst (s : State) :
    exec (.imuTransactionComplete imu burst) s = execImuTransactionComplete imu burst s := rfl
theorem exec_encoderEdge enc onB level at_ (s : State) :
    exec (.encoderEdge enc onB level at_) s = execEncoderEdge enc onB level at_ s := rfl
theorem exec_canMessage can msg (s : State) : exec (.canMessage can msg) s = execCanMessage can msg s := rfl
theorem exec_canErrorFrame can (s : State) : exec (.canErrorFrame can) s = execCanErrorFrame can s := rfl
theorem exec_canBusOff can (s : State) : exec (.canBusOff can) s = execCanBusOff can s := rfl
theorem exec_sourceLossTimeout source (s : State) :
    exec (.sourceLossTimeout source) s = execSourceLossTimeout source s := rfl
theorem exec_wheelVelocityUpdate (s : State) : exec .wheelVelocityUpdate s = execWheelVelocityUpdate s := rfl
theorem exec_poseAtFusionInstant (s : State) : exec .poseAtFusionInstant s = execPoseAtFusionInstant s := rfl
theorem exec_cameraPartClose (s : State) : exec .cameraPartClose s = execCameraPartClose s := rfl
theorem exec_lidarPartClose (s : State) : exec .lidarPartClose s = execLidarPartClose s := rfl
theorem exec_scanMatchIteration (s : State) : exec .scanMatchIteration s = execScanMatchIteration s := rfl
theorem exec_scanDeadline (s : State) : exec .scanDeadline s = execScanDeadline s := rfl
theorem exec_takeStart (s : State) : exec .takeStart s = execTakeStart s := rfl
theorem exec_takeComplete (s : State) : exec .takeComplete s = execTakeComplete s := rfl
theorem exec_ruleBooksDelivered hurt (s : State) : exec (.ruleBooksDelivered hurt) s = execRuleBooksDelivered hurt s := rfl
theorem exec_frameBoundary (s : State) : exec .frameBoundary s = execFrameBoundary s := rfl
theorem exec_sequencerStepEnd tile step (s : State) :
    exec (.sequencerStepEnd tile step) s = execSequencerStepEnd tile step s := rfl
theorem exec_haloPoint slot strip (s : State) : exec (.haloPoint slot strip) s = execHaloPoint slot strip s := rfl
theorem exec_liftColumn receiver column (s : State) :
    exec (.liftColumn receiver column) s = execLiftColumn receiver column s := rfl
theorem exec_liftPacket packet (s : State) : exec (.liftPacket packet) s = execLiftPacket packet s := rfl
theorem exec_endOfPassMarker slot (s : State) : exec (.endOfPassMarker slot) s = execEndOfPassMarker slot s := rfl
theorem exec_bevPhaseStart (s : State) : exec .bevPhaseStart s = execBevPhaseStart s := rfl
theorem exec_headsEnd slot heads (s : State) : exec (.headsEnd slot heads) s = execHeadsEnd slot heads s := rfl
theorem exec_exportComplete (s : State) : exec .exportComplete s = execExportComplete s := rfl
theorem exec_remoteGatherRequest tile gather (s : State) :
    exec (.remoteGatherRequest tile gather) s = execRemoteGatherRequest tile gather s := rfl
theorem exec_remoteGatherTimeout tile (s : State) :
    exec (.remoteGatherTimeout tile) s = execRemoteGatherTimeout tile s := rfl
theorem exec_routeGenerationMarker router (s : State) :
    exec (.routeGenerationMarker router) s = execRouteGenerationMarker router s := rfl
theorem exec_linkFlitError link group resendFailed (s : State) :
    exec (.linkFlitError link group resendFailed) s = execLinkFlitError link group resendFailed s := rfl
theorem exec_migrationCopyStart (s : State) : exec .migrationCopyStart s = execMigrationCopyStart s := rfl
theorem exec_migrationShadowStep (s : State) : exec .migrationShadowStep s = execMigrationShadowStep s := rfl
theorem exec_migrationHandover (s : State) : exec .migrationHandover s = execMigrationHandover s := rfl
theorem exec_forwarderDrained (s : State) : exec .forwarderDrained s = execForwarderDrained s := rfl
theorem exec_spareTestComplete tile passed (s : State) :
    exec (.spareTestComplete tile passed) s = execSpareTestComplete tile passed s := rfl
theorem exec_testCycleBegin (s : State) : exec .testCycleBegin s = execTestCycleBegin s := rfl
theorem exec_testSliceStart (s : State) : exec .testSliceStart s = execTestSliceStart s := rfl
theorem exec_solverSchedule (s : State) : exec .solverSchedule s = execSolverSchedule s := rfl
theorem exec_solverJobComplete job outcome (s : State) :
    exec (.solverJobComplete job outcome) s = execSolverJobComplete job outcome s := rfl
theorem exec_detectionsArrival (s : State) : exec .detectionsArrival s = execDetectionsArrival s := rfl
theorem exec_propagationComplete mismatches (s : State) :
    exec (.propagationComplete mismatches) s = execPropagationComplete mismatches s := rfl
theorem exec_propagationDeadline (s : State) : exec .propagationDeadline s = execPropagationDeadline s := rfl
theorem exec_egoStateForm (s : State) : exec .egoStateForm s = execEgoStateForm s := rfl
theorem exec_glideBlockReset (s : State) : exec .glideBlockReset s = execGlideBlockReset s := rfl
theorem exec_noticePulse (s : State) : exec .noticePulse s = execNoticePulse s := rfl
theorem exec_queueResetComplete queue (s : State) :
    exec (.queueResetComplete queue) s = execQueueResetComplete queue s := rfl
theorem exec_faultReportArrival report (s : State) :
    exec (.faultReportArrival report) s = execFaultReportArrival report s := rfl
theorem exec_collectorJudgement (s : State) : exec .collectorJudgement s = execCollectorJudgement s := rfl
theorem exec_reactionTimerExpiry subsystem (s : State) :
    exec (.reactionTimerExpiry subsystem) s = execReactionTimerExpiry subsystem s := rfl
theorem exec_quietPeriodExpiry source unit (s : State) :
    exec (.quietPeriodExpiry source unit) s = execQuietPeriodExpiry source unit s := rfl
theorem exec_blockResetComplete subsystem (s : State) :
    exec (.blockResetComplete subsystem) s = execBlockResetComplete subsystem s := rfl
theorem exec_safeSignalToggle (s : State) : exec .safeSignalToggle s = execSafeSignalToggle s := rfl
theorem exec_referenceClockLoss (s : State) : exec .referenceClockLoss s = execReferenceClockLoss s := rfl
theorem exec_gateWindowExpiry gate (s : State) : exec (.gateWindowExpiry gate) s = execGateWindowExpiry gate s := rfl
theorem exec_taskMonitorExpiry tile (s : State) : exec (.taskMonitorExpiry tile) s = execTaskMonitorExpiry tile s := rfl
theorem exec_groomerInjection rx (s : State) : exec (.groomerInjection rx) s = execGroomerInjection rx s := rfl
theorem exec_groomerInjectionEnd rx passed (s : State) :
    exec (.groomerInjectionEnd rx passed) s = execGroomerInjectionEnd rx passed s := rfl
theorem exec_safeMsgRepeat (s : State) : exec .safeMsgRepeat s = execSafeMsgRepeat s := rfl
theorem exec_atidePoseAnchorReceived frame (s : State) :
    exec (.atidePoseAnchorReceived frame) s = execAtidePoseAnchorReceived frame s := rfl
theorem exec_atideStatusReceived frame (s : State) :
    exec (.atideStatusReceived frame) s = execAtideStatusReceived frame s := rfl
theorem exec_atideTracksReceived frame (s : State) :
    exec (.atideTracksReceived frame) s = execAtideTracksReceived frame s := rfl
theorem exec_atideAckReceived frame (s : State) : exec (.atideAckReceived frame) s = execAtideAckReceived frame s := rfl
theorem exec_atideResendReceived frame (s : State) :
    exec (.atideResendReceived frame) s = execAtideResendReceived frame s := rfl
theorem exec_trackSetIncompleteTimeout device (s : State) :
    exec (.trackSetIncompleteTimeout device) s = execTrackSetIncompleteTimeout device s := rfl
theorem exec_trackSetAckTimeout (s : State) : exec .trackSetAckTimeout s = execTrackSetAckTimeout s := rfl
theorem exec_trackSetMerge device (s : State) : exec (.trackSetMerge device) s = execTrackSetMerge device s := rfl
theorem exec_workerStatusTimeout device (s : State) :
    exec (.workerStatusTimeout device) s = execWorkerStatusTimeout device s := rfl
theorem exec_poseAnchorTimeout (s : State) : exec .poseAnchorTimeout s = execPoseAnchorTimeout s := rfl
theorem exec_postureChangeComplete failedTiles (s : State) :
    exec (.postureChangeComplete failedTiles) s = execPostureChangeComplete failedTiles s := rfl
theorem exec_standbyDrainTimeout (s : State) : exec .standbyDrainTimeout s = execStandbyDrainTimeout s := rfl
theorem exec_standbyEntryComplete (s : State) : exec .standbyEntryComplete s = execStandbyEntryComplete s := rfl
theorem exec_wakeEvent cause input rising aonPeriods (s : State) :
    exec (.wakeEvent cause input rising aonPeriods) s = execWakeEvent cause input rising aonPeriods s := rfl
theorem exec_wakeTimerExpiry aonPeriods (s : State) :
    exec (.wakeTimerExpiry aonPeriods) s = execWakeTimerExpiry aonPeriods s := rfl
theorem exec_thermalSensorRead readings (s : State) :
    exec (.thermalSensorRead readings) s = execThermalSensorRead readings s := rfl
theorem exec_throttleEvaluation (s : State) : exec .throttleEvaluation s = execThrottleEvaluation s := rfl
theorem exec_throttleRetry (s : State) : exec .throttleRetry s = execThrottleRetry s := rfl
theorem exec_analogThermalTrip (s : State) : exec .analogThermalTrip s = execAnalogThermalTrip s := rfl
theorem exec_supplyMonitorCrossing supply millivolts (s : State) :
    exec (.supplyMonitorCrossing supply millivolts) s = execSupplyMonitorCrossing supply millivolts s := rfl
theorem exec_nvInhibitClear (s : State) : exec .nvInhibitClear s = execNvInhibitClear s := rfl
theorem exec_nvPauseTimeout (s : State) : exec .nvPauseTimeout s = execNvPauseTimeout s := rfl
theorem exec_pllLockLoss pll (s : State) : exec (.pllLockLoss pll) s = execPllLockLoss pll s := rfl
theorem exec_pllRelock pll (s : State) : exec (.pllRelock pll) s = execPllRelock pll s := rfl
theorem exec_pmbusRetry acknowledged (s : State) : exec (.pmbusRetry acknowledged) s = execPmbusRetry acknowledged s := rfl
theorem exec_journalRecordWrite (s : State) : exec .journalRecordWrite s = execJournalRecordWrite s := rfl
theorem exec_flashOperationComplete failed (s : State) :
    exec (.flashOperationComplete failed) s = execFlashOperationComplete failed s := rfl
theorem exec_wrstNRelease (s : State) : exec .wrstNRelease s = execWrstNRelease s := rfl
theorem exec_jtagAccess full (s : State) : exec (.jtagAccess full) s = execJtagAccess full s := rfl
theorem exec_csiPhySyncLoss rx lane (s : State) : exec (.csiPhySyncLoss rx lane) s = execCsiPhySyncLoss rx lane s := rfl
theorem exec_csiSkewCalibration rx (s : State) : exec (.csiSkewCalibration rx) s = execCsiSkewCalibration rx s := rfl
theorem exec_injectFaultReportTimeout (s : State) : exec .injectFaultReportTimeout s = execInjectFaultReportTimeout s := rfl
theorem exec_trackSetWaitTimeout device (s : State) :
    exec (.trackSetWaitTimeout device) s = execTrackSetWaitTimeout device s := rfl
theorem exec_onDemandDomainStop domain (s : State) :
    exec (.onDemandDomainStop domain) s = execOnDemandDomainStop domain s := rfl

/-! ## Completion -/

/-- A row of the domains that run completes with its effect, settled. -/
theorem completes_of_awake {i : Instr} {s : State} {f : State → State} {Q : State → Prop}
    (hi : exec i s = awakeAnswer s f) (ha : awake s = true) (hq : Q (settle s (f s))) : Completes i s Q :=
  ⟨_, hi.trans (awakeAnswer_next ha), hq⟩

/-- A started command completes with its work, settled. -/
theorem completes_of_command {i : Instr} {k : CmdKey} {op : Nat} {f : Cmd → State → State} {s : State} {c : Cmd}
    {Q : State → Prop} (hi : exec i s = runCommand k op f s) (h : Ready k op s c) (hq : Q (settle s (f c s))) :
    Completes i s Q := by
  obtain ⟨hrun, hawake, hclock⟩ := h
  exact ⟨_, hi.trans (runCommand_next hrun hawake hclock), hq⟩

/-- A row that always answers completes with its effect, settled. -/
theorem completes_of_answer {i : Instr} {s u : State} {Q : State → Prop} (hi : exec i s = answer s u)
    (hq : Q (settle s u)) : Completes i s Q := ⟨_, hi, hq⟩

/-! ## Frames -/

/-- A frame, part by part. -/
theorem changesOnly_iff (l : List Part) (s t : State) : ChangesOnly l s t ↔
    (Part.device ∉ l → Part.device.same s t) ∧ (Part.port ∉ l → Part.port.same s t) ∧
    (Part.intake ∉ l → Part.intake.same s t) ∧ (Part.flight ∉ l → Part.flight.same s t) ∧
    (Part.reply ∉ l → Part.reply.same s t) ∧ (Part.result ∉ l → Part.result.same s t) ∧
    (Part.event ∉ l → Part.event.same s t) ∧ (Part.mask ∉ l → Part.mask.same s t) ∧
    (Part.time ∉ l → Part.time.same s t) ∧ (Part.ports ∉ l → Part.ports.same s t) ∧
    (Part.patrol ∉ l → Part.patrol.same s t) ∧ (Part.safety ∉ l → Part.safety.same s t) ∧
    (Part.ingest ∉ l → Part.ingest.same s t) ∧ (Part.align ∉ l → Part.align.same s t) ∧
    (Part.point ∉ l → Part.point.same s t) ∧ (Part.rink ∉ l → Part.rink.same s t) ∧
    (Part.plans ∉ l → Part.plans.same s t) ∧ (Part.solver ∉ l → Part.solver.same s t) ∧
    (Part.glide ∉ l → Part.glide.same s t) ∧ (Part.peers ∉ l → Part.peers.same s t) ∧
    (Part.power ∉ l → Part.power.same s t) ∧ (Part.security ∉ l → Part.security.same s t) ∧
    (Part.pins ∉ l → Part.pins.same s t) ∧ (Part.memory ∉ l → Part.memory.same s t) ∧
    (Part.settings ∉ l → Part.settings.same s t) ∧ (Part.tx ∉ l → Part.tx.same s t) ∧
    (Part.freeCount ∉ l → Part.freeCount.same s t) ∧ (Part.pending ∉ l → Part.pending.same s t) := by
  constructor
  · intro h
    refine ⟨?_, ?_, ?_, ?_, ?_, ?_, ?_, ?_, ?_, ?_, ?_, ?_, ?_, ?_, ?_, ?_, ?_, ?_, ?_, ?_, ?_, ?_, ?_, ?_, ?_, ?_, ?_, ?_⟩
    all_goals exact h _
  · rintro ⟨_, _, _, _, _, _, _, _, _, _, _, _, _, _, _, _, _, _, _, _, _, _, _, _, _, _, _, _⟩ p
    cases p
    all_goals assumption

/-- A frame may name more parts. -/
theorem ChangesOnly.mono {l m : List Part} {s t : State} (h : ChangesOnly l s t) (hl : l ⊆ m) : ChangesOnly m s t :=
  fun p hp => h p fun hmem => hp (hl hmem)

theorem changesOnly_modDev (f : Dev → Dev) (s : State) : ChangesOnly [.device] s (modDev f s) := by
  rw [changesOnly_iff]
  simp [Part.same]

theorem changesOnly_setTime (f : TimeBase → TimeBase) (s : State) : ChangesOnly [.time] s (setTime f s) := by
  rw [changesOnly_iff]
  simp [Part.same]

theorem changesOnly_modPort (p : Nat) (f : EthPort → EthPort) (s : State) : ChangesOnly [.ports] s (modPort p f s) := by
  rw [changesOnly_iff]
  simp [Part.same]

theorem changesOnly_modPatrol (f : Patrol → Patrol) (s : State) : ChangesOnly [.patrol] s (modPatrol f s) := by
  rw [changesOnly_iff]
  simp [Part.same]

theorem changesOnly_modSafety (f : Safety → Safety) (s : State) : ChangesOnly [.safety] s (modSafety f s) := by
  rw [changesOnly_iff]
  simp [Part.same]

theorem changesOnly_modSource (i : Nat) (f : Source → Source) (s : State) : ChangesOnly [.ingest] s (modSource i f s) := by
  rw [changesOnly_iff]
  simp [Part.same]

theorem changesOnly_modReceiver (r : Nat) (f : Receiver → Receiver) (s : State) : ChangesOnly [.ingest] s (modReceiver r f s) := by
  rw [changesOnly_iff]
  simp [Part.same]

theorem changesOnly_modAlign (f : Align → Align) (s : State) : ChangesOnly [.align] s (modAlign f s) := by
  rw [changesOnly_iff]
  simp [Part.same]

theorem changesOnly_modTrust (i : Nat) (f : SourceTrust → SourceTrust) (s : State) : ChangesOnly [.align] s (modTrust i f s) := by
  rw [changesOnly_iff]
  simp [Part.same]

theorem changesOnly_modPoint (f : PointState → PointState) (s : State) : ChangesOnly [.point] s (modPoint f s) := by
  rw [changesOnly_iff]
  simp [Part.same]

theorem changesOnly_modRink (f : Rink → Rink) (s : State) : ChangesOnly [.rink] s (modRink f s) := by
  rw [changesOnly_iff]
  simp [Part.same]

theorem changesOnly_modSlot (n : Nat) (f : Slot → Slot) (s : State) : ChangesOnly [.rink] s (modSlot n f s) := by
  rw [changesOnly_iff]
  simp [Part.same]

theorem changesOnly_modTile (t : Nat) (f : Tile → Tile) (s : State) : ChangesOnly [.rink] s (modTile t f s) := by
  rw [changesOnly_iff]
  simp [Part.same]

theorem changesOnly_modPlans (f : Plans → Plans) (s : State) : ChangesOnly [.plans] s (modPlans f s) := by
  rw [changesOnly_iff]
  simp [Part.same]

theorem changesOnly_modSolver (f : Solver → Solver) (s : State) : ChangesOnly [.solver] s (modSolver f s) := by
  rw [changesOnly_iff]
  simp [Part.same]

theorem changesOnly_modGlide (f : Glide → Glide) (s : State) : ChangesOnly [.glide] s (modGlide f s) := by
  rw [changesOnly_iff]
  simp [Part.same]

theorem changesOnly_modPeers (f : Peers → Peers) (s : State) : ChangesOnly [.peers] s (modPeers f s) := by
  rw [changesOnly_iff]
  simp [Part.same]

theorem changesOnly_modPower (f : Power → Power) (s : State) : ChangesOnly [.power] s (modPower f s) := by
  rw [changesOnly_iff]
  simp [Part.same]

theorem changesOnly_modSecurity (f : Security → Security) (s : State) : ChangesOnly [.security] s (modSecurity f s) := by
  rw [changesOnly_iff]
  simp [Part.same]

theorem changesOnly_modPins (f : Pins → Pins) (s : State) : ChangesOnly [.pins] s (modPins f s) := by
  rw [changesOnly_iff]
  simp [Part.same]

theorem changesOnly_putSetting (op idx : Nat) (b : Bytes) (s : State) : ChangesOnly [.settings] s (putSetting op idx b s) := by
  rw [changesOnly_iff]
  simp [Part.same]

theorem changesOnly_emit (e : Emission) (s : State) : ChangesOnly [.tx] s (emit e s) := by
  rw [changesOnly_iff]
  simp [Part.same]

theorem changesOnly_setFlight (l : List Cmd) (s : State) : ChangesOnly [.flight] s (setFlight l s) := by
  rw [changesOnly_iff]
  simp [Part.same]

theorem changesOnly_spent (s : State) : ChangesOnly [.freeCount] s (spent s) := by
  rw [changesOnly_iff]
  simp [Part.same]

theorem changesOnly_modCmd (k : CmdKey) (f : Cmd → Cmd) (s : State) : ChangesOnly [.flight] s (modCmd k f s) :=
  changesOnly_setFlight _ s

/-- The end of a long command's work changes the flight alone. -/
theorem changesOnly_conclude (c : Cmd) (st d : Nat) (r : Bytes) (s : State) :
    ChangesOnly [.flight] s (conclude c st d r s) := changesOnly_setFlight _ s

/-- A report stands on the fault wires, and nothing else changes. -/
theorem changesOnly_report (source unit level : Nat) (cls : FaultClass) (detail : Nat) (s : State) :
    ChangesOnly [.patrol] s (report source unit level cls detail s) := by
  rw [changesOnly_iff]
  simp [Part.same, report]

theorem changesOnly_reportClean (source unit : Nat) (s : State) :
    ChangesOnly [.patrol] s (reportClean source unit s) := by
  rw [changesOnly_iff]
  simp [Part.same, reportClean]

/-- The frame of one work after another, in the parts of both. -/
theorem ChangesOnly.comp {l l' : List Part} {s t u : State} (h : ChangesOnly l s t) (h' : ChangesOnly l' t u) :
    ChangesOnly (l ++ l') s u := h.trans h' (List.subset_append_left _ _) (List.subset_append_right _ _)

/-- The words of the reply queue that a frame leaves. -/
theorem ChangesOnly.reply_words {l : List Part} {s t : State} (h : ChangesOnly l s t) (hl : Part.reply ∉ l) :
    t.host.reply.words = s.host.reply.words := by
  have hcore := congrArg OutQueue.words (h .reply hl)
  exact hcore

/-- The final reply of a command after work that left the flight, the reply queue and the time base. -/
theorem replied_of_frame {l : List Part} {s t : State} (h : ChangesOnly l s t) (hf : Part.flight ∉ l)
    (hr : Part.reply ∉ l) (ht : Part.time ∉ l) (c : Cmd) (st d : Nat) (r : Bytes) :
    Replied c st d r s (settle s (finish c st d r t)) := by
  have htime : t.time = s.time := h .time ht
  exact replied_finish s (h .flight hf) (h.reply_words hr) (by rw [countNow, htime]; rfl)

/-- The frame of a command's work and of its final reply. -/
theorem changesOnly_finished {l m : List Part} {s t : State} (h : ChangesOnly l s t) (c : Cmd) (st d : Nat) (r : Bytes)
    (hm : l ++ [.flight, .reply] ⊆ m) : ChangesOnly m s (settle s (finish c st d r t)) :=
  ((h.comp (changesOnly_finish c st d r t)).mono hm).settle s

/-- One work after another in the same parts. -/
theorem ChangesOnly.step {l : List Part} {s t u : State} (h : ChangesOnly l s t) (h' : ChangesOnly l t u) :
    ChangesOnly l s u := h.trans h' (List.Subset.refl _) (List.Subset.refl _)

/-- A part that no work of a list touches is not touched by all of them. -/
theorem changesOnly_foldl {α : Type} {l : List Part} {f : State → α → State} (h : ∀ s x, ChangesOnly l s (f s x))
    (xs : List α) : ∀ s, ChangesOnly l s (xs.foldl f s) := by
  induction xs with
  | nil => exact fun s => .refl l s
  | cons x xs ih => exact fun s => (h s x).step (ih _)

/-- One of two works. -/
theorem changesOnly_ite {l : List Part} {p : Prop} [Decidable p] {s t u : State} (h : p → ChangesOnly l s t)
    (h' : ¬ p → ChangesOnly l s u) : ChangesOnly l s (if p then t else u) := by
  split_ifs with hp
  · exact h hp
  · exact h' hp

end Sys2Proof.Machine
end

section
/-! The windows of the host port: queue windows, the staging aperture, the status block and the command window (R36 to R45). -/

namespace Sys2Proof.Machine

/-! ## Queue windows (R37) -/

/-- The queue windows of Table 2.3: 0x20000, 0x30000 and 0x40000, 64 KiB each. -/
theorem readAt_window {n : Nat} (hn : n = 1 ∨ n = 2 ∨ n = 3) {addr : Nat} (hlo : 0x10000 * (n + 1) ≤ addr)
    (hhi : addr < 0x10000 * (n + 2)) (len : Nat) (s : State) : readAt addr len s = readWindow n addr len s := by
  unfold readAt
  rcases hn with rfl | rfl | rfl
  · rw [if_neg (by omega), if_pos (by omega)]
  · rw [if_neg (by omega), if_neg (by omega), if_pos (by omega)]
  · rw [if_neg (by omega), if_neg (by omega), if_neg (by omega), if_pos (by omega)]

/-- A READ that the port takes has the effect of its window. -/
theorem completes_read {s : State} {second addr : Nat} (len : Nat) {Q : State → Prop} (ha : portAnswers s = true)
    (hok : instructionOk s.host.port 0x0B second = true) (heven : s.host.port.mode = .d8 → addr % 2 = 0)
    (hq : Q (settle s (readAt addr (phaseLen s.host.port len) s))) :
    Completes (.readQueueWindow 0x0B second addr len) s Q := by
  have hodd : (s.host.port.mode == .d8 && addr % 2 == 1) = false := by
    cases hm : s.host.port.mode <;> simp_all
  have hknown : knownCode 0x0B = true := rfl
  refine completes_of_transfer (exec_readQueueWindow 0x0B second addr len s) ha ?_
  simpa [hknown, hok, hodd] using hq

theorem setOutQueue_same {n m : Nat} (hn : n = 1 ∨ n = 2 ∨ n = 3) (hm : m = 1 ∨ m = 2 ∨ m = 3) (q : OutQueue) (s : State) :
    outQueue (setOutQueue n q s) m = if m = n then q else outQueue s m := by
  rcases hn with rfl | rfl | rfl <;> rcases hm with rfl | rfl | rfl <;> rfl

/-- A READ of a queue window touches the port and the outbound queues. -/
theorem changesOnly_readWindow {n : Nat} (hn : n = 1 ∨ n = 2 ∨ n = 3) (b : Bytes) (q : OutQueue) (s : State) :
    ChangesOnly [.port, .reply, .result, .event] s (drive b (setOutQueue n q s)) := by
  rw [changesOnly_iff]
  rcases hn with rfl | rfl | rfl <;> simp [Part.same, drive, setOutQueue]

/-- A READ of a queue window whose queue holds more readable words than it takes. -/
theorem readWindow_words {n : Nat} (len : Nat) {s : State} (hr : (outQueue s n).inReset = false)
    (hl : len / 8 < (outQueue s n).words.length)
    (hv : ∀ w ∈ (outQueue s n).words,
      w.damaged = false ∧ wordValid w.word = true ∧ w.begun ≤ countNow s ∧ w.readyAt ≤ countNow s)
    {addr : Nat} (haddr : addr % 8 = 0) : readWindow n addr len s =
      drive ((((outQueue s n).words.map (fun w => w.word)).flatMap (fun w => bytesOfNat 8 w.toNat)).take len)
        (setOutQueue n { outQueue s n with words := (outQueue s n).words.drop (len / 8) } s) := by
  simp only [readWindow, haddr, readQueue_words (countNow s) len _ hr hl hv]
  rfl

/-- The words that a misaligned READ returns: VALID clear, REASON 6. -/
def misalignedBytes (len : Nat) : Bytes :=
  ((List.replicate ((len + 7) / 8) (mkWord false false 6 0)).flatMap (fun w => bytesOfNat 8 w.toNat)).take len

/-- A misaligned READ of a queue window changes the port alone. -/
theorem readWindow_misaligned (n : Nat) {addr : Nat} (haddr : addr % 8 ≠ 0) (len : Nat) (s : State) :
    readWindow n addr len s = setPort (fun p => { p with
      misaligned := bump p.misaligned, dq := some (misalignedBytes len), driven := outLines p.mode,
      ds := p.mode == .s8 || p.mode == .d8 }) s := by
  simp only [readWindow, bne_iff_ne, ne_eq, haddr, not_false_eq_true, if_true]
  rfl

/-! ## Writes -/

/-- A WRITE that the port takes puts its data in the window of its start address. -/
theorem completes_write {i : Instr} {s : State} {second addr : Nat} {data : Bytes} {Q : State → Prop}
    (hi : exec i s = transfer s (hostWrite second addr data)) (ha : portAnswers s = true)
    (hok : instructionOk s.host.port 0x02 second = true) (heven : s.host.port.mode = .d8 → addr % 2 = 0)
    (hq : Q (settle s (writeAt addr (data.take (phaseLen s.host.port data.length))
      (setPort (fun p => { p with dq := none, driven := 0, ds := false }) s)))) : Completes i s Q :=
  completes_of_transfer hi ha (by rwa [hostWrite_at hok heven])

/-- The command window of Table 2.3: 0x10000, 64 KiB. -/
theorem writeAt_command {addr : Nat} (hlo : 0x10000 ≤ addr) (hhi : addr < 0x20000) (data : Bytes) (s : State) :
    writeAt addr data s = writeCommands addr data s := by
  unfold writeAt
  rw [if_neg (by omega), if_pos ⟨hlo, hhi⟩]

/-- The staging aperture of Table 2.3: from 0x10000000, 256 MiB. -/
theorem writeAt_staging {off : Nat} (h : off < 0x10000000) (data : Bytes) (s : State) :
    writeAt (0x10000000 + off) data s = writeAperture off data s := by
  unfold writeAt
  rw [if_neg (by omega), if_neg (by omega), if_pos (by omega), Nat.add_sub_cancel_left]

/-- The status block of Table 2.3: the first 4 KiB. -/
theorem writeAt_status {addr : Nat} (h : addr < 0x1000) (data : Bytes) (s : State) :
    writeAt addr data s = writeStatus addr (data.take (0x1000 - addr)) s := if_pos h

/-- Settles O5: a READ is `readQueue_words` on the queue of its window; a transfer out of place is a change of the port. -/
theorem queueWindowsMoveWholeWords : Obligations.QueueWindowsMoveWholeWords := by
  unfold Obligations.QueueWindowsMoveWholeWords
  refine ⟨fun n second len s ha hok hn hr hl hv => ?_, fun n second addr len data s ha hmis heven => ⟨?_, ?_⟩⟩
  · refine completes_read len ha hok (fun _ => by omega) ?_
    rw [readAt_window hn (le_refl _) (by omega), readWindow_words _ hr hl hv (by omega)]
    refine ⟨?_, fun m hm hne => ?_, ?_, (changesOnly_readWindow hn _ _ s).settle s⟩
    · rw [outQueue_settle_words]
      exact congrArg OutQueue.words ((setOutQueue_same hn hn _ s).trans (if_pos rfl))
    · rw [outQueue_settle_words]
      exact congrArg OutQueue.words ((setOutQueue_same hn hm _ s).trans (if_neg hne))
    · rw [settle_port]
      rfl
  · intro hn hok hlo hhi
    refine completes_read len ha hok heven ?_
    rw [readAt_window hn hlo hhi, readWindow_misaligned n hmis]
    refine ⟨?_, (changes_setPort _ s).settle s, ?_⟩ <;> rw [settle_port] <;> rfl
  · intro hok hlo hhi
    refine completes_write rfl ha hok heven ?_
    rw [writeAt_command hlo hhi, writeCommands, if_pos (by simpa using hmis)]
    refine ⟨by rw [settle_port]; rfl, ?_⟩
    exact ((changes_setPort _ s).trans (changes_setPort _ _) (List.Subset.refl _) (List.Subset.refl _)).settle s

/-! ## The staging aperture (R38, R39) -/

/-- A WRITE of `n` bytes of the aperture has one that R39 closes. -/
def closedByte (s : State) (off n : Nat) : Bool :=
  (List.range n).any fun i => decide (off + i < 0x10000000) && stagingBlocked s (off + i)

theorem closedByte_iff (s : State) (off n : Nat) : closedByte s off n = true ↔
    ∃ a, off ≤ a ∧ a < off + n ∧ a < 0x10000000 ∧ stagingBlocked s a = true := by
  simp only [closedByte, List.any_eq_true, List.mem_range, Bool.and_eq_true, decide_eq_true_eq]
  constructor
  · rintro ⟨i, hi, hin, hb⟩
    exact ⟨off + i, by omega, by omega, hin, hb⟩
  · rintro ⟨a, hlo, hhi, hin, hb⟩
    exact ⟨a - off, by omega, by rwa [Nat.add_sub_cancel' hlo], by rwa [Nat.add_sub_cancel' hlo]⟩

/-- What a WRITE of the aperture leaves: its open bytes in staging, the ignored ones counted once. -/
theorem writeAperture_memory (off : Nat) (data : Bytes) (s : State) : (writeAperture off data s).memory =
    { s.memory with staging := writeStaging off data s s.memory.staging } := by
  unfold writeAperture
  dsimp only
  split_ifs <;> rfl

theorem writeAperture_blocked (off : Nat) (data : Bytes) (s : State) :
    (writeAperture off data s).host.port.apertureBlocked =
      if closedByte s off data.length then bump s.host.port.apertureBlocked else s.host.port.apertureBlocked := by
  unfold writeAperture closedByte
  dsimp only
  split_ifs <;> rfl

theorem changesOnly_writeAperture (off : Nat) (data : Bytes) (s : State) :
    ChangesOnly [.port, .memory] s (writeAperture off data s) := by
  unfold writeAperture
  rw [changesOnly_iff]
  dsimp only
  split_ifs <;> simp [Part.same]

/-- Settles O6: the bytes are those of `writeStaging_at`, and a byte was ignored as `closedByte_iff` says. -/
theorem stagingWritesStore : Obligations.StagingWritesStore := by
  unfold Obligations.StagingWritesStore
  intro second off data s ha hok heven hoff hwf
  refine completes_write rfl ha hok (fun hm => by have := (heven hm).1; omega) ?_
  rw [phaseLen_self _ _ (fun hm => (heven hm).2), List.take_length, writeAt_staging hoff]
  set u := setPort (fun p => { p with dq := none, driven := 0, ds := false }) s
  have hframe : ChangesOnly [.port, .memory] s (writeAperture off data u) :=
    (changes_setPort _ s).trans (changesOnly_writeAperture off data u) (by simp) (by simp)
  rw [settle_memory, settle_port, writeAperture_memory, writeAperture_blocked]
  refine ⟨fun a => writeStaging_at data off u _ a hwf, rfl, rfl, writeStaging_wf data off u _ hwf, fun hex => ?_,
    fun hall => ?_, hframe.settle s⟩
  · exact if_pos ((closedByte_iff u off _).2 hex)
  · refine if_neg fun h => ?_
    obtain ⟨a, hlo, hhi, hin, hb⟩ := (closedByte_iff u off _).1 h
    exact absurd hb (by rw [show stagingBlocked u a = stagingBlocked s a from rfl, hall a hlo hhi hin]; decide)

end Sys2Proof.Machine
end

section
/-! The notice registers of the status block, and what a command settles in NOTICE_CAUSE (R41, R408 to R411). -/

namespace Sys2Proof.Machine

/-! ## Bits of a number -/

theorem bitOf_eq_testBit (n i : Nat) : bitOf n i = n.testBit i := by
  rw [Nat.testBit_eq_decide_div_mod_eq]
  rfl

/-- A set bit is set, and no other bit changes. -/
theorem bitOf_setBit (n b i : Nat) : bitOf (setBit n b) i = (bitOf n i || i == b) := by
  by_cases hset : bitOf n b = true
  · by_cases hi : i = b
    · simp [setBit, hset, hi]
    · simp [setBit, hset, hi]
  · have hclear : n / 2 ^ b % 2 = 0 := by
      simp only [bitOf, beq_iff_eq] at hset
      omega
    have hsplit : n = 2 ^ b * (2 * (n / 2 ^ b / 2)) + n % 2 ^ b := by
      have := Nat.div_add_mod n (2 ^ b)
      rw [show 2 * (n / 2 ^ b / 2) = n / 2 ^ b by omega]
      exact this.symm
    have hlow : n % 2 ^ b < 2 ^ b := Nat.mod_lt _ (Nat.two_pow_pos b)
    generalize n / 2 ^ b / 2 = q at hsplit
    generalize n % 2 ^ b = r at hsplit hlow
    have hset' : setBit n b = 2 ^ b * (2 * q + 1) + r := by
      rw [setBit, if_neg hset, hsplit]
      ring
    rw [hset', hsplit, bitOf_eq_testBit, bitOf_eq_testBit, Nat.testBit_two_pow_mul_add _ hlow,
      Nat.testBit_two_pow_mul_add _ hlow]
    rcases Nat.lt_trichotomy i b with h | rfl | h
    · simp [h, h.ne]
    · simp
    · obtain ⟨k, rfl⟩ := Nat.exists_eq_add_of_lt h
      have hk : b + k + 1 - b = k + 1 := by omega
      have hne : b + k + 1 ≠ b := by omega
      simp [hk, hne, Nat.testBit_succ, Nat.mul_add_div]

/-- Ones written to NOTICE_CAUSE clear its six bits (R41). -/
theorem bitOf_cleared {b : Nat} (hb : b < 6) (c v : Nat) :
    bitOf (c &&& (63 - v % 64)) b = (bitOf c b && !bitOf v b) := by
  have hmask : (63 - v % 64).testBit b = !v.testBit b := by
    have h := Nat.testBit_two_pow_sub_succ (x := v % 64) (n := 6) (by omega) b
    rw [show (2 : Nat) ^ 6 - (v % 64 + 1) = 63 - v % 64 by omega] at h
    rw [h, show v % 64 = v % 2 ^ 6 by norm_num, Nat.testBit_mod_two_pow]
    simp [hb]
  simp only [bitOf_eq_testBit, Nat.testBit_and, hmask]

/-! ## What a command settles in NOTICE_CAUSE -/

theorem bitOf_notice_cause (bit : Nat) (s : State) (b : Nat) :
    bitOf (notice bit s).host.notices.cause b = (bitOf s.host.notices.cause b || b == bit) := by
  rw [← bitOf_setBit]
  unfold notice
  dsimp only
  split_ifs <;> rfl

/-- A notice of a packet is due. -/
def comingDue (s : State) (c : ComingNotice) : Bool := decide (c.count ≤ countNow s) && decide (c.from_ ≤ now s)

theorem bitOf_foldl_notice (l : List ComingNotice) (b : Nat) : ∀ s : State,
    bitOf (l.foldl (fun (t : State) c => notice c.bit t) s).host.notices.cause b =
      (bitOf s.host.notices.cause b || l.any fun c => c.bit == b) := by
  induction l with
  | nil => intro s; simp
  | cons c l ih =>
    intro s
    rw [List.foldl_cons, ih, bitOf_notice_cause, List.any_cons, Bool.or_assoc, BEq.comm]

/-- The notices due set their bits. -/
theorem bitOf_noticeReady (s : State) (b : Nat) : bitOf (noticeReady s).host.notices.cause b =
    (bitOf s.host.notices.cause b || s.host.notices.coming.any fun c => c.bit == b && comingDue s c) := by
  unfold noticeReady
  dsimp only
  rw [bitOf_foldl_notice, List.any_filter]
  congr 2
  funext c
  exact Bool.and_comm _ _

/-- A state change sets its own bit. -/
theorem bitOf_settleNotice (o s : State) (b : Nat) : bitOf (settleNotice o s).host.notices.cause b =
    (bitOf s.host.notices.cause b || (b == causeState && stateChanged o s)) := by
  unfold settleNotice
  dsimp only
  split_ifs with hchanged <;> simp [hchanged, bitOf_notice_cause]

/-- A change of the flow-control pins sets its own bit. -/
theorem bitOf_settlePins (s : State) (b : Nat) : bitOf (settlePins s).host.notices.cause b =
    (bitOf s.host.notices.cause b ||
      (b == causeFlow && (fcCmdOf s != s.host.notices.fcCmd || fcOutOf s != s.host.notices.fcOut))) := by
  unfold settlePins
  dsimp only
  split_ifs with hchanged
  · rw [bitOf_setBit, hchanged, Bool.and_true]
  · simp [hchanged]

theorem notice_fcCmd (b : Nat) (s : State) : (notice b s).host.notices.fcCmd = s.host.notices.fcCmd := by
  unfold notice; dsimp only; split_ifs <;> rfl

theorem notice_fcOut (b : Nat) (s : State) : (notice b s).host.notices.fcOut = s.host.notices.fcOut := by
  unfold notice; dsimp only; split_ifs <;> rfl

/-- What the flow-control pins hang on is not settled before them. -/
theorem fcCmdOf_notice (b : Nat) (s : State) : fcCmdOf (notice b s) = fcCmdOf s := by
  unfold fcCmdOf
  rw [notice_fcCmd]
  rfl

theorem fcOutOf_notice (b : Nat) (s : State) : fcOutOf (notice b s) = fcOutOf s := by
  unfold fcOutOf
  rw [notice_fcOut]
  rfl

/-- What notices leave alone, the notice of a state change leaves alone. -/
theorem settleNotice_keeps {α : Type} (f : State → α) (h : ∀ b s, f (notice b s) = f s)
    (h' : ∀ (s : State) n, f { s with host := { s.host with notices := { s.host.notices with waiting := n } } } = f s)
    (o s : State) : f (settleNotice o s) = f s := by
  unfold settleNotice
  dsimp only
  split_ifs
  · exact (h' _ _).trans (h _ _)
  · exact h _ _
  · exact h' _ _
  · rfl

/-- What neither notices nor levels nor DEGRADATION touch is as the command left it when the pins are settled. -/
theorem beforePins_keeps {α : Type} (f : State → α) (h : ∀ b s, f (notice b s) = f s)
    (hwaiting : ∀ (s : State) n, f { s with host := { s.host with notices := { s.host.notices with waiting := n } } } = f s)
    (hcoming : ∀ (s : State) l, f { s with host := { s.host with notices := { s.host.notices with coming := l } } } = f s)
    (hlevels : ∀ s : State, f (settleLevels s) = f s) (hflags : ∀ s : State, f (settleFlags s) = f s) (o s : State) :
    f (settleLevels (settleNotice o (noticeReady (settleFlags s)))) = f s := by
  rw [hlevels, settleNotice_keeps f h hwaiting, noticeReady_keeps f h hcoming, hflags]

/-- Every bit of NOTICE_CAUSE after a command: the command's own, the notices due, STATE_CHANGE and FLOW. -/
theorem bitOf_settle_cause (o s : State) (b : Nat) : bitOf (settle o s).host.notices.cause b =
    (bitOf s.host.notices.cause b || (s.host.notices.coming.any fun c => c.bit == b && comingDue s c) ||
      (b == causeState && stateChanged o (noticeReady (settleFlags s))) ||
      (b == causeFlow && (fcCmdOf s != s.host.notices.fcCmd || fcOutOf s != s.host.notices.fcOut))) := by
  have hcmd := beforePins_keeps fcCmdOf fcCmdOf_notice (fun _ _ => rfl) (fun _ _ => rfl) (fun _ => rfl) (fun _ => rfl) o s
  have hout := beforePins_keeps fcOutOf fcOutOf_notice (fun _ _ => rfl) (fun _ _ => rfl) (fun _ => rfl) (fun _ => rfl) o s
  have hpinCmd := beforePins_keeps (·.host.notices.fcCmd) notice_fcCmd (fun _ _ => rfl) (fun _ _ => rfl) (fun _ => rfl)
    (fun _ => rfl) o s
  have hpinOut := beforePins_keeps (·.host.notices.fcOut) notice_fcOut (fun _ _ => rfl) (fun _ _ => rfl) (fun _ => rfl)
    (fun _ => rfl) o s
  unfold settle
  rw [bitOf_settlePins, hcmd, hout, hpinCmd, hpinOut]
  congr 1
  exact (bitOf_settleNotice o _ b).trans (congrArg (· || _) (bitOf_noticeReady (settleFlags s) b))

/-! ## WRITEs of the status block (R41, R42) -/

/-- What a whole-field or partial WRITE of the status block leaves. -/
theorem writeStatus_cause_bit {b : Nat} (hb : b < 6) (addr : Nat) (data : Bytes) (s : State) :
    bitOf (writeStatus addr data s).host.notices.cause b =
      (bitOf s.host.notices.cause b && !bitOf (overlay 0x034 0 addr data) b) := bitOf_cleared hb _ _

/-- A whole word of the status block taken by the port. -/
theorem completes_writeWord {i : Instr} {s : State} {second addr v : Nat} {Q : State → Prop}
    (hi : exec i s = transfer s (hostWrite second addr (bytesOfNat 4 v))) (haddr : addr % 4 = 0) (hlt : addr < 0x1000)
    (ha : portAnswers s = true) (hok : instructionOk s.host.port 0x02 second = true)
    (hq : Q (settle s (writeStatus addr (bytesOfNat 4 v)
      (setPort (fun p => { p with dq := none, driven := 0, ds := false }) s)))) : Completes i s Q := by
  have hlen : phaseLen s.host.port (bytesOfNat 4 v).length = (bytesOfNat 4 v).length :=
    phaseLen_self _ _ fun _ => by rw [bytesOfNat_length]
  have hfits : (bytesOfNat 4 v).length ≤ 0x1000 - addr := by rw [bytesOfNat_length]; omega
  refine completes_write hi ha hok (fun _ => by omega) ?_
  rwa [hlen, List.take_length, writeAt_status hlt, List.take_of_length_le hfits]

/-- A write of the status block beside NOTICE_MASK leaves NOTICE_MASK, of which six bits exist. -/
theorem writeStatus_mask_kept {addr : Nat} {data : Bytes} (h : addr + data.length ≤ 0x38 ∨ 0x3C ≤ addr) (s : State) :
    (writeStatus addr data s).host.notices.mask = s.host.notices.mask % 64 := by
  have hmask := overlay_none 0x38 s.host.notices.mask addr data h
  simp only [writeStatus, hmask]
  omega

/-- The frame of a write of the status block that the port takes. -/
theorem changesOnly_statusWrite (addr : Nat) (data : Bytes) (f : Port → Port) (s : State) :
    ChangesOnly [.port, .mask] s (writeStatus addr data (setPort f s)) :=
  (changes_setPort f s).trans (changesOnly_writeStatus addr data _) (by simp) (by simp)

/-- From a settled state a change of the port and of NOTICE_CAUSE and NOTICE_MASK is no state change and no change of the
flow-control pins. -/
theorem stateChanged_of_settled {s : State} (hs : Settled s) (addr : Nat) (data : Bytes) (f : Port → Port) :
    stateChanged s (noticeReady (settleFlags (writeStatus addr data (setPort f s)))) = false := by
  have hflow : flowService (noticeReady (settleFlags (writeStatus addr data (setPort f s)))) = flowService s :=
    noticeReady_keeps flowService (fun _ _ => rfl) (fun _ _ => rfl) _
  have hdeg : degradationOf (writeStatus addr data (setPort f s)) = s.dev.degradation := hs.degradation.symm
  unfold stateChanged
  rw [noticeReady_dev, hflow, settleFlags, hdeg]
  simp [writeStatus]

/-- WRITE of NOTICE_CAUSE: a bit after it. -/
theorem writeNoticeCause_bit {b v : Nat} (hb : b < 6) (hv : v < 2 ^ 32) (f : Port → Port)
    (hf : ∀ p, (f p).answersFrom = p.answersFrom) (s : State)
    (hkind : b ≠ causeFlow ∧ b ≠ causeState ∨ Settled s) :
    bitOf (settle s (writeStatus 0x34 (bytesOfNat 4 v) (setPort f s))).host.notices.cause b =
      (bitOf s.host.notices.cause b && !bitOf v b ||
        s.host.notices.coming.any (fun c => c.bit == b && decide (c.count ≤ countNow s) && decide (c.from_ ≤ now s))) := by
  have hcoming : (s.host.notices.coming.any fun c => c.bit == b && comingDue s c) =
      s.host.notices.coming.any
        (fun c => c.bit == b && decide (c.count ≤ countNow s) && decide (c.from_ ≤ now s)) := by
    simp only [comingDue, Bool.and_assoc]
  set u := writeStatus 0x34 (bytesOfNat 4 v) (setPort f s) with hu
  have hown : bitOf u.host.notices.cause b = (bitOf s.host.notices.cause b && !bitOf v b) := by
    rw [hu, writeStatus_cause_bit hb, overlay_all, Nat.mod_eq_of_lt hv]
    rfl
  rw [bitOf_settle_cause, hown, show u.host.notices.coming = s.host.notices.coming from rfl,
    show comingDue u = comingDue s from rfl, hcoming]
  rcases hkind with ⟨hflow, hstate⟩ | hs
  · simp [beq_false_of_ne hflow, beq_false_of_ne hstate]
  · have hanswers : portAnswers u = portAnswers s := by
      show (awake s && match (f s.host.port).answersFrom with
        | some c => decide (c ≤ countNow s)
        | none => false) = _
      rw [hf]
      rfl
    have hcmd : fcCmdOf u = u.host.notices.fcCmd := by
      refine Eq.trans ?_ hs.fcCmd.symm
      unfold fcCmdOf
      rw [hanswers]
      rfl
    have hout : fcOutOf u = u.host.notices.fcOut := hs.fcOut.symm
    rw [stateChanged_of_settled hs, hcmd, hout]
    simp

/-- PORT_MODE's word gives back the latencies that fit their fields. -/
theorem portModeWord_latencies {p : Port} (hr : p.readLatency < 64) (ha : p.apertureLatency < 64) :
    portModeWord p % 2 ^ 32 / 256 % 64 = p.readLatency ∧ portModeWord p % 2 ^ 32 / 65536 % 64 = p.apertureLatency := by
  have hcode : p.mode.code < 4 := by cases p.mode <;> decide
  unfold portModeWord
  omega

/-- A write that reaches neither PORT_MODE nor NOTICE_MASK leaves every register as it is. -/
theorem writeStatus_other_port {addr : Nat} {data : Bytes} (h : addr + data.length ≤ 0x30 ∨ 0x3C ≤ addr) {s : State}
    (hrmin : minRead s.host.port.mode ≤ s.host.port.readLatency) (hr : s.host.port.readLatency < 64)
    (hamin : minAperture s.host.port.mode ≤ s.host.port.apertureLatency) (ha : s.host.port.apertureLatency < 64) :
    (writeStatus addr data s).host.port = s.host.port := by
  have hword := overlay_none 0x30 (portModeWord s.host.port) addr data (by omega)
  obtain ⟨hread, haperture⟩ := portModeWord_latencies hr ha
  simp only [writeStatus, hword, hread, haperture, max_eq_right hrmin, max_eq_right hamin]

/-- Settles O7: a bit of NOTICE_CAUSE is what `bitOf_settle_cause` says; what a write leaves is what its overlay covers. -/
theorem noticeRegistersTakeWrites : Obligations.NoticeRegistersTakeWrites := by
  unfold Obligations.NoticeRegistersTakeWrites
  refine ⟨fun second v s ha hok hv => ?_, fun second v s ha hok => ?_, ?_, fun second addr data s i hi => ?_⟩
  · refine completes_writeWord rfl rfl (by norm_num) ha hok
      ⟨fun b hb hkind => writeNoticeCause_bit hb hv (fun p => { p with dq := none, driven := 0, ds := false })
        (fun _ => rfl) s hkind, ?_, ?_,
        (changesOnly_statusWrite _ _ _ s).settle s⟩
    · rw [settle_port]
      rfl
    · rw [settle_mask, writeStatus_mask_kept (.inl (by rw [bytesOfNat_length]))]
      rfl
  · refine completes_writeWord rfl rfl (by norm_num) ha hok ⟨?_, (changesOnly_statusWrite _ _ _ s).settle s⟩
    rw [settle_mask]
    simp only [writeStatus, overlay_all]
    omega
  · intro second addr data s ha hok heven hplace hrmin hr hamin hal hmask
    have hlt : addr < 0x1000 := by omega
    refine completes_write rfl ha hok heven ?_
    rw [writeAt_status hlt]
    set d := (data.take (phaseLen s.host.port data.length)).take (0x1000 - addr) with hd
    have hle : d.length ≤ data.length := by rw [hd, List.length_take, List.length_take]; omega
    set u := setPort (fun p => { p with dq := none, driven := 0, ds := false }) s
    have hport : (writeStatus addr d u).host.port = u.host.port :=
      writeStatus_other_port (by omega) hrmin hr hamin hal
    have hkept : (writeStatus addr d u).host.notices.mask = s.host.notices.mask :=
      (writeStatus_mask_kept (by omega) u).trans (Nat.mod_eq_of_lt hmask)
    refine ⟨(settle_port s _).trans hport, ChangesOnly.settle s fun p hp => ?_⟩
    by_cases hm : p = .mask
    · subst hm
      exact hkept
    · exact changesOnly_statusWrite addr d _ s p (by simp_all)
  · have hexec : exec i s = transfer s (hostWrite second addr data) := by rcases hi with rfl | rfl <;> rfl
    refine ⟨fun ha => ⟨_, hexec, ?_⟩, fun ha hbad => ?_⟩
    · rw [if_neg (by simp [ha])]
      exact (ChangesOnly.refl [] s).settle s
    · refine completes_badTransfer hexec ha (if_pos ?_)
      rcases hbad with h | ⟨hm, hodd⟩
      · simp [h]
      · simp [hm, hodd]

end Sys2Proof.Machine
end

section
/-! The life of a command: the intake, acceptance, the start and the final reply (R43 to R55). -/

namespace Sys2Proof.Machine

/-! ## Command words (R43, R44) -/

/-- A word's eight bytes are that word. -/
theorem wordsOf_one (w : QWord) : wordsOf 1 (bytesOfNat 8 w.toNat) = [w] := by
  have htake : (bytesOfNat 8 w.toNat).take 8 = bytesOfNat 8 w.toNat := List.take_of_length_le (by rw [bytesOfNat_length])
  have hword : BitVec.ofNat 64 (w.toNat % 256 ^ 8) = w := by
    apply BitVec.eq_of_toNat_eq
    rw [BitVec.toNat_ofNat, Nat.mod_eq_of_lt (show w.toNat < 256 ^ 8 from w.isLt), Nat.mod_eq_of_lt w.isLt]
  rw [wordsOf, wordsOf, htake, natOfBytes_bytesOfNat, hword]

/-- A word written at the start of the command window reaches the intake if it is valid. -/
theorem completes_writeCommandWord {s : State} {second : Nat} (w : QWord) {Q : State → Prop} (ha : portAnswers s = true)
    (hok : instructionOk s.host.port 0x02 second = true)
    (hq : ∀ u, u = setPort (fun p => { p with dq := none, driven := 0, ds := false }) s →
      Q (settle s (if wordValid w then intakeWord w u else u))) :
    Completes (.writeCommandWindow second 0x10000 (bytesOfNat 8 w.toNat)) s Q := by
  have hlen : phaseLen s.host.port (bytesOfNat 8 w.toNat).length = (bytesOfNat 8 w.toNat).length :=
    phaseLen_self _ _ fun _ => by rw [bytesOfNat_length]
  refine completes_write rfl ha hok (fun _ => by norm_num) ?_
  rw [hlen, List.take_length, writeAt_command (le_refl _) (by norm_num), writeCommands, if_neg (by decide)]
  simp only [bytesOfNat_length, Nat.reduceDiv, Nat.reduceMod, wordsOf_one, intakeWords, BEq.rfl, if_true]
  exact hq _ rfl

/-- The reply of a discarded packet goes to the reply queue or waits in the intake (R45). -/
theorem changesOnly_replyOverrun (o : Owed) (s : State) : ChangesOnly [.intake, .reply] s (replyOverrun o s) := by
  unfold replyOverrun
  dsimp only
  split_ifs
  · exact (changesOnly_sendReply _ s).mono (by simp)
  · rw [changesOnly_iff]
    simp [Part.same]

/-- A word that does not end its packet enters the intake where there is room. -/
theorem intakeWord_goesOn {w : QWord} (he : wordEnd w = false) (hroom : intakeFill s.host.intake < 8192) :
    (intakeWord w s).host.intake = { s.host.intake with partialWords := s.host.intake.partialWords ++ [w] } := by
  simp [intakeWord, he, hroom]

/-- The word that ends a packet without a loss makes of itself and the words before it a packet. -/
theorem intakeWord_ends {w : QWord} {s : State} (he : wordEnd w = true) (hroom : intakeFill s.host.intake < 8192)
    (hlost : s.host.intake.lostAfter = none) : (intakeWord w s).host.intake = { s.host.intake with
      packets := s.host.intake.packets ++ [{ words := s.host.intake.partialWords ++ [w], seq := s.host.intake.nextSeq,
                                             takeUp := countNow s, accepted := none, owed := none }],
      partialWords := [], nextSeq := s.host.intake.nextSeq + 1 } := by
  simp [intakeWord, he, hroom, hlost]

theorem changesOnly_intakeWord_goesOn {w : QWord} (he : wordEnd w = false) (s : State) :
    ChangesOnly [.port, .intake] s (intakeWord w s) := by
  unfold intakeWord
  simp only [he, changesOnly_iff]
  simp [Part.same]

theorem changesOnly_intakeWord (w : QWord) (s : State) : ChangesOnly [.port, .intake, .reply] s (intakeWord w s) := by
  unfold intakeWord
  dsimp only
  split
  · rw [changesOnly_iff]
    simp [Part.same]
  · split
    · rw [changesOnly_iff]
      simp [Part.same]
    · have hdrop : ∀ p : Intake × Port, ChangesOnly [.port, .intake] s
          { s with host := { s.host with intake := p.1, port := p.2 } } := fun p => by
        rw [changesOnly_iff]
        simp [Part.same]
      split
      · exact (hdrop (_, _)).trans (changesOnly_replyOverrun _ _) (by simp) (by simp)
      · exact (hdrop (_, _)).mono (by simp)

/-- Settles O8: a valid word's effect on the intake, by whether it ends its packet. -/
theorem commandWordsAreTakenUp : Obligations.CommandWordsAreTakenUp := by
  unfold Obligations.CommandWordsAreTakenUp
  intro second w s ha hok
  refine completes_writeCommandWord w ha hok fun u hu => ?_
  have hintake : u.host.intake = s.host.intake := by rw [hu]; rfl
  have hcount : countNow u = countNow s := by rw [hu]; rfl
  have hport : ChangesOnly [.port] s u := by rw [hu]; exact changes_setPort _ s
  rw [← hintake, ← hcount, settle_intake]
  cases hv : wordValid w
  · have hframe := hport.mono (m := if wordEnd w = true then [.port, .intake, .reply] else [.port, .intake])
      (by split_ifs <;> simp)
    exact ⟨hframe.settle s, fun _ => rfl, nofun, nofun⟩
  · cases he : wordEnd w
    · exact ⟨(hport.trans (changesOnly_intakeWord_goesOn he u) (by simp) (by simp)).settle s, nofun,
        fun _ hroom _ => intakeWord_goesOn he hroom, nofun⟩
    · exact ⟨(hport.trans (changesOnly_intakeWord w u) (by simp) (by simp)).settle s, nofun,
        nofun, fun _ hroom _ hlost => intakeWord_ends he hroom hlost⟩

/-! ## Acceptance (R48 to R52, R55) -/

/-- COMMAND_ACCEPTANCE while the reply queue has room. -/
theorem acceptance_open {s : State} (hc : ctlClocked s = true) (hroom : 3 ≤ replyRoom s) :
    (!ctlClocked s || decide (replyRoom s < 3)) = false := by
  simp [hc]
  omega

theorem changesOnly_setPackets (ps : List IntakePacket) (s : State) : ChangesOnly [.intake] s (setPackets ps s) := by
  rw [changesOnly_iff]
  simp [Part.same, setPackets]

theorem changesOnly_enterFlight (c : Cmd) (p : IntakePacket) (s : State) :
    ChangesOnly [.intake, .flight] s (enterFlight c (dropPacket p s)) := by
  rw [changesOnly_iff]
  simp [Part.same, enterFlight, dropPacket, setPackets]

/-- A packet in the reply queue after work that left its words and COUNT alone. -/
theorem replySent_sendPacket {b : Bytes} {s t : State} (o : State) (hr : t.host.reply.words = s.host.reply.words)
    (hn : countNow t = countNow s) : ReplySent b s (settle o (sendPacket 1 b t)) := by
  unfold ReplySent
  rw [settle_reply_words, cutOf_settle, ← writeStart_of hr hn, ← hr]
  rfl

/-- A refusal that is sent: the reply stands last in the queue and the packet has left the intake. -/
theorem refusal_sent (o : Owed) (p : IntakePacket) (s : State) :
    ReplySent (owedReply o) s (settle s (sendPacket 1 (owedReply o) (dropPacket p s))) ∧
    (settle s (sendPacket 1 (owedReply o) (dropPacket p s))).host.intake.packets =
      s.host.intake.packets.filter (fun q => q.seq != p.seq) ∧
    ChangesOnly [.intake, .reply] s (settle s (sendPacket 1 (owedReply o) (dropPacket p s))) := by
  refine ⟨replySent_sendPacket s rfl rfl, by rw [settle_intake]; rfl, ChangesOnly.settle s ?_⟩
  exact (changesOnly_setPackets _ s).trans (changesOnly_sendReply _ _) (by simp) (by simp)

/-- A command that enters flight leaves the intake. -/
theorem entry_completed (c : Cmd) (p : IntakePacket) (s : State) :
    (settle s (enterFlight c (dropPacket p s))).host.flight = s.host.flight ++ [c] ∧
    (settle s (enterFlight c (dropPacket p s))).host.intake.packets =
      s.host.intake.packets.filter (fun q => q.seq != p.seq) ∧
    ChangesOnly [.intake, .flight] s (settle s (enterFlight c (dropPacket p s))) :=
  ⟨by rw [settle_flight]; rfl, by rw [settle_intake]; rfl, (changesOnly_enterFlight c p s).settle s⟩

/-- Nothing refuses a command of a new tag, permitted in the device's state, beside no other change of state. -/
theorem entryRefusal_none {s : State} {c : Cmd} (hkey : ∀ d ∈ s.host.flight, d.key ≠ c.key)
    (hsafe : s.dev.state = .safe → opAllowed s c.op = true)
    (hstate : changesState c.op = true → ∀ d ∈ s.host.flight, changesState d.op = false) : entryRefusal s c = none := by
  unfold entryRefusal
  rw [if_neg, if_neg, if_neg]
  · simp only [Bool.and_eq_true, List.any_eq_true, not_and, not_exists]
    intro hc d hd hch
    exact absurd (hstate hc d hd) (by simp [hch])
  · rintro ⟨hs, hno⟩
    simp [hsafe hs] at hno
  · simp only [List.any_eq_true, beq_iff_eq, not_exists, not_and]
    exact hkey

/-- Settles O9: the branches of COMMAND_ACCEPTANCE and of COMMAND_ENTER_FLIGHT, and the check of R48. -/
theorem acceptanceAnswersOrAdmits : Obligations.AcceptanceAnswersOrAdmits := by
  unfold Obligations.AcceptanceAnswersOrAdmits
  refine ⟨fun s p ha hc hdue hjudge hroom => ?_, fun s p o ha hc hroom hdue ho => ?_, fun s p v n hv hn hw hcrc => ?_,
    fun s p ps c ha hc hps hacc hlen hroom hkey hsafe hstate => ?_⟩
  · refine completes_of_awake (exec_commandAcceptance s) ha ?_
    simp only [acceptance_open hc hroom, hdue, hjudge, Bool.false_eq_true, if_false]
    cases judgePacket s p with
    | refuse o =>
      dsimp only
      unfold refusePacket
      split_ifs
      · exact ⟨by rw [settle_intake]; rfl, (changesOnly_setPackets _ s).settle s⟩
      · exact refusal_sent o p s
    | accept c =>
      simp only [Bool.not_eq_true']
      split_ifs
      · exact entry_completed c p s
      · exact ⟨by rw [settle_intake]; rfl, (changesOnly_setPackets _ s).settle s⟩
  · refine completes_of_awake (exec_commandAcceptance s) ha ?_
    simp only [acceptance_open hc hroom, hdue, ho, Bool.false_eq_true, if_false]
    exact refusal_sent o p s
  · simp [judgePacket, hv, hn, hw, hcrc]
  · refine completes_of_awake (exec_commandEnterFlight s) ha ?_
    have hfind : s.host.intake.packets.find? (fun p => p.accepted.isSome) = some p := by simp [hps, hacc]
    have hgo : (!ctlClocked s || decide (256 ≤ s.host.flight.length) || decide (replyRoom s < 3)) = false := by
      simp [hc]
      omega
    simp only [hfind, hacc, hgo, entryRefusal_none hkey hsafe hstate, ← hps, Bool.false_eq_true, if_false]
    exact entry_completed c p s

/-! ## The start and the final reply (R53 to R55) -/

theorem changesOnly_markLoading (s : State) : ChangesOnly [.plans] s (markLoading s) := by
  unfold markLoading
  split
  · exact changesOnly_modPlans _ s
  · exact .refl _ s

theorem markLoading_host (s : State) : (markLoading s).host = s.host := by
  unfold markLoading modPlanSlot
  split <;> rfl

theorem markLoading_time (s : State) : (markLoading s).time = s.time := by
  unfold markLoading modPlanSlot
  split <;> rfl

/-- A command that starts, before its ACCEPTED reply: its start is noted and its reply's words are reserved (R412). -/
def noteStart (c : Cmd) (s : State) : State :=
  let s1 := modCmd c.key (fun (d : Cmd) => { d with
    started := some (countNow s), reserved := replyWords c.key.ver (maxResult c) }) s
  if c.op = 0x0800 then markLoading s1 else s1

theorem startCommand_eq (c : Cmd) (s : State) : startCommand c s =
    if c.key.ver == .v2 && isLong c.op then
      sendPacket 1 (replyPacket .v2 c.rawOp c.key.tag stAccepted (acceptedMs s c) false c.ordered []) (spent (noteStart c s))
    else noteStart c s := rfl

theorem noteStart_flight (c : Cmd) (s : State) : (noteStart c s).host.flight = s.host.flight.map (fun d =>
    if d.key == c.key then { d with started := some (countNow s), reserved := replyWords c.key.ver (maxResult c) }
    else d) := by
  unfold noteStart
  dsimp only
  split_ifs
  · rw [markLoading_host]; rfl
  · rfl

theorem noteStart_reply_words (c : Cmd) (s : State) : (noteStart c s).host.reply.words = s.host.reply.words := by
  unfold noteStart
  dsimp only
  split_ifs
  · rw [markLoading_host]; rfl
  · rfl

theorem countNow_noteStart (c : Cmd) (s : State) : countNow (noteStart c s) = countNow s := by
  unfold noteStart countNow
  dsimp only
  split_ifs
  · rw [markLoading_time]; rfl
  · rfl

theorem changesOnly_noteStart (c : Cmd) (s : State) : ChangesOnly [.flight, .plans] s (noteStart c s) := by
  unfold noteStart
  dsimp only
  split_ifs
  · exact (changesOnly_modCmd _ _ _).trans (changesOnly_markLoading _) (by simp) (by simp)
  · exact (changesOnly_modCmd _ _ _).mono (by simp)

/-- A state in which the flight is as noted holds the started command. -/
theorem flightOf_noteStart {k : CmdKey} {c : Cmd} {s t : State} (hc : flightOf k s = some c)
    (ht : t.host.flight = (noteStart c s).host.flight) : ∃ d, flightOf k t = some d ∧ d.started = some (countNow s) ∧
      d.op = c.op ∧ d.params = c.params ∧ d.reserved = replyWords c.key.ver (maxResult c) := by
  refine ⟨{ c with started := some (countNow s), reserved := replyWords c.key.ver (maxResult c) }, ?_, rfl, rfl, rfl, rfl⟩
  obtain rfl := flightOf_key hc
  unfold flightOf at hc ⊢
  rw [ht, noteStart_flight]
  exact find_map_mod _ _ (fun d => { d with
    started := some (countNow s), reserved := replyWords c.key.ver (maxResult c) }) (fun _ => rfl) c hc

/-- An ORDERED command waits for those taken up before it, and what is taken up after one waits for it (R55). -/
theorem startWaits_of_order {s : State} {c d : Cmd} (hop : c.op ≠ 0x0D04) (hd : d ∈ s.host.flight) (hseq : d.seq < c.seq)
    (hord : c.ordered = true ∨ d.ordered = true) : startWaits s c = true := by
  have hwait : orderWaits s c = true := by
    simp only [orderWaits, bne_iff_ne, ne_eq, hop, not_false_eq_true, Bool.and_eq_true, List.any_eq_true,
      Bool.or_eq_true, decide_eq_true_eq]
    exact ⟨trivial, d, hd, hseq, hord⟩
  simp [startWaits, hwait]

/-- Settles O10: the start's effect by `startCommand_eq`, R55 by `startWaits_of_order`, the final reply by `finish`. -/
theorem startsAndFinalReplies : Obligations.StartsAndFinalReplies := by
  unfold Obligations.StartsAndFinalReplies
  refine ⟨fun k s c ha hclk hc hnot hwaits => ?_, fun k s c d hc hop hd hseq hord => ?_, fun k s c o ha hclk hc ho => ?_⟩
  · refine completes_of_awake (exec_commandStart k s) ha ?_
    simp only [hc, hclk, hnot, hwaits, Option.isSome_none, Bool.not_true, Bool.or_self, Bool.false_eq_true, if_false]
    cases startChecks s c with
    | some r => exact ⟨replied_finish s rfl rfl rfl, (changesOnly_finish _ _ _ _ _).settle s⟩
    | none =>
      dsimp only
      rw [startCommand_eq]
      have hwords := noteStart_reply_words c s
      have hframe := changesOnly_noteStart c s
      by_cases hlong : c.key.ver = .v2 ∧ isLong c.op = true
      · rw [if_pos (by simp [hlong]), if_pos hlong]
        refine ⟨flightOf_noteStart hc (by rw [settle_flight]; rfl), ChangesOnly.settle s ?_,
          replySent_sendPacket s hwords (countNow_noteStart c s)⟩
        exact ((hframe.comp (changesOnly_spent _)).comp (changesOnly_sendReply _ _)).mono (by simp)
      · rw [if_neg (by simpa using hlong), if_neg hlong]
        exact ⟨flightOf_noteStart hc (settle_flight _ _), (hframe.mono (by simp)).settle s,
          (settle_reply_words _ _).trans hwords⟩
  · refine completes_of_answer (exec_commandStart k s) (ChangesOnly.settle s ?_)
    simp only [hc, startWaits_of_order hop hd hseq hord, Bool.or_true, if_true, ite_self]
    exact ChangesOnly.refl _ s
  · refine completes_of_awake (exec_longCommandComplete k s) ha ?_
    simp only [hc, ho, hclk, if_true]
    exact ⟨replied_finish s rfl rfl rfl, (changesOnly_finish _ _ _ _ _).settle s⟩

end Sys2Proof.Machine
end

section
/-! Device time goes on: rate changes and the counter (R64 to R68), with what counts bring about elsewhere. -/

namespace Sys2Proof.Machine

/-! ## The formula of R65 -/

/-- The clamped RATE is at least −2³¹. -/
theorem rateOf_ge (tb : TimeBase) : -(2 ^ 31) ≤ rateOf tb := le_max_left _ _

/-- From one count on to another the formula gains at least 130,816 units a count, the least RATE's step. -/
theorem countsTime_gain (tb : TimeBase) {j k : Nat} (h : j ≤ k) :
    countsTime tb j + (k - j) * 130816 ≤ countsTime tb k := by
  have hrate : 1099511627776 - 2147483648 ≤ (1099511627776 + rateOf tb).toNat := by
    have := rateOf_ge tb
    omega
  unfold countsTime
  generalize (1099511627776 + rateOf tb).toNat = r at hrate
  obtain ⟨d, rfl⟩ := Nat.exists_eq_add_of_le h
  have hstep : d * 130816 * 1099511627776 ≤ d * 131072 * r := by
    calc d * 130816 * 1099511627776 = d * 131072 * (1099511627776 - 2147483648) := by ring
      _ ≤ d * 131072 * r := Nat.mul_le_mul_left _ hrate
  rw [Nat.add_sub_cancel_left, ← Nat.add_mul_div_right _ _ (by norm_num)]
  refine Nat.div_le_div_right ?_
  calc j * 131072 * r + d * 130816 * 1099511627776 ≤ j * 131072 * r + d * 131072 * r := Nat.add_le_add_left hstep _
    _ = (j + d) * 131072 * r := by ring

/-- Device time `k` counts after BASE_COUNT. -/
theorem timeAt_after {tb : TimeBase} {k : Nat} (hk : k < 2 ^ 71) :
    timeAt tb (tb.baseCount + BitVec.ofNat 72 k) = tb.offset + countsTime tb k := by
  have hsub : tb.baseCount + BitVec.ofNat 72 k - tb.baseCount = BitVec.ofNat 72 k := by
    rw [BitVec.add_comm, BitVec.add_sub_cancel]
  have hval : (BitVec.ofNat 72 k).toNat = k := by
    rw [BitVec.toNat_ofNat]
    exact Nat.mod_eq_of_lt (by omega)
  rw [timeAt, hsub, hval, if_pos hk]

/-- Settles O12: after a rate change BASE_COUNT is COUNT, so that `timeAt_after` and `countsTime_gain` give device time. -/
theorem rateChangesAreContinuous : Obligations.RateChangesAreContinuous := by
  unfold Obligations.RateChangesAreContinuous
  intro tb freq slew
  have hafter : ∀ k, k < 2 ^ 71 → timeAt (rebase tb freq slew) (tb.count + BitVec.ofNat 72 k) =
      timeAt tb tb.count + countsTime (rebase tb freq slew) k := fun k hk => timeAt_after (tb := rebase tb freq slew) hk
  refine ⟨rfl, rfl, ?_, fun j k hjk hk => ?_⟩
  · simpa [countsTime] using hafter 0 (by norm_num)
  · rw [hafter j (by omega), hafter k hk, Nat.add_assoc]
    exact Nat.add_le_add_left (countsTime_gain _ hjk) _

/-! ## Frames that leave a port touch the port and the record of what has left -/

theorem changesOnly_countPort (p : Nat) (f : PortCounters → PortCounters) (s : State) :
    ChangesOnly [.ports] s (countPort p f s) := changesOnly_modPort p _ s

theorem changesOnly_ethOut (p dest : Nat) (what : EthPayload) (s : State) :
    ChangesOnly [.ports, .tx] s (ethOut p dest what s) :=
  (changesOnly_modPort p _ s).comp (changesOnly_emit _ _)

theorem changesOnly_ptpOut (p dest : Nat) (before after : PtpMsg) (s : State) :
    ChangesOnly [.ports, .tx] s (ptpOut p dest before after s) :=
  ((changesOnly_ethOut p dest _ s).comp (changesOnly_countPort p _ _)).mono (by simp)

theorem changesOnly_ptpOut_modPort (p dest : Nat) (before after : PtpMsg) (f : EthPort → EthPort) (s : State) :
    ChangesOnly [.ports, .tx] s (modPort p f (ptpOut p dest before after s)) :=
  ((changesOnly_ptpOut p dest before after s).comp (changesOnly_modPort p f _)).mono (by simp)

theorem changesOnly_startPtp (p : Nat) (x : TxFrame) (m : PtpMsg) (s : State) :
    ChangesOnly [.ports, .tx] s (startPtp p x m s) := by
  unfold startPtp
  dsimp only
  split
  case h_1 | h_2 =>
    split_ifs
    · exact changesOnly_ptpOut_modPort _ _ _ _ _ s
    · exact changesOnly_ptpOut_modPort _ _ _ _ _ s
  case h_3 | h_4 =>
    split_ifs
    · exact changesOnly_ptpOut_modPort _ _ _ _ _ s
    · exact changesOnly_ptpOut_modPort _ _ _ _ _ s
  case h_5 | h_6 => exact changesOnly_ptpOut_modPort _ _ _ _ _ s
  case h_7 => exact changesOnly_ptpOut _ _ _ _ s

theorem changesOnly_beginFrame (p : Nat) (x : TxFrame) (s : State) :
    ChangesOnly [.ports, .tx] s (beginFrame p x s) := by
  unfold beginFrame
  split
  · exact changesOnly_startPtp _ _ _ _
  · exact changesOnly_ethOut _ _ _ _

theorem changesOnly_pumpPort (p : Nat) (s : State) : ChangesOnly [.ports, .tx] s (pumpPort p s) := by
  unfold pumpPort
  split
  · exact .refl _ s
  · split_ifs
    · exact (changesOnly_modPort _ _ _).mono (by simp)
    · exact .refl _ s
    · exact ((changesOnly_modPort _ _ _).comp (changesOnly_beginFrame _ _ _)).mono (by simp)

/-- A port at which no frame waits has nothing to start. -/
theorem pumpPort_idle {p : Nat} {s : State} (h : (ethPort s p).txQueue = []) : pumpPort p s = s := by
  unfold pumpPort
  rw [h]

/-! ## Wheel odometry writes pose entries (R163) -/

theorem changesOnly_odometryEntries (n : Nat) : ∀ (from_ : Dts) (s : State),
    ChangesOnly [.align] s (odometryEntries n from_ s) := by
  induction n with
  | zero => exact fun _ s => .refl _ s
  | succ n ih =>
    intro from_ s
    unfold odometryEntries
    dsimp only
    split_ifs
    · exact .refl _ s
    · refine ChangesOnly.step ?_ (ih _ _)
      rw [changesOnly_iff]
      simp [Part.same, writePose]

theorem changesOnly_odometry (n : Nat) (s : State) : ChangesOnly [.align] s (odometry n s) := by
  unfold odometry
  dsimp only
  split_ifs
  · exact .refl _ s
  · exact changesOnly_odometryEntries _ _ _

/-! ## COUNT (R64 to R67) -/

/-- The slew's end on the way does not hold COUNT up: both copies rise by all the counts. -/
theorem countUp_counts (n : Nat) (tb : TimeBase) :
    (countUp n tb).count = tb.count + BitVec.ofNat 72 n ∧ (countUp n tb).countCopy = tb.countCopy + BitVec.ofNat 72 n := by
  unfold countUp
  dsimp only
  split
  · exact ⟨rfl, rfl⟩
  · split_ifs with hleft
    · exact ⟨rfl, rfl⟩
    · have hsum : ∀ c : BitVec 72, ∀ k, k ≤ n → c + BitVec.ofNat 72 k + BitVec.ofNat 72 (n - k) = c + BitVec.ofNat 72 n := by
        intro c k hk
        rw [BitVec.add_assoc, ← BitVec.ofNat_add, Nat.add_sub_cancel' hk]
      exact ⟨hsum _ _ (by omega), hsum _ _ (by omega)⟩

theorem changesOnly_noteLimit (s : State) : ChangesOnly [.time, .patrol] s (noteLimit s) := by
  unfold noteLimit
  dsimp only
  split_ifs
  · exact ((changesOnly_setTime _ s).comp (changesOnly_report _ _ _ _ _ _)).mono (by simp)
  · exact (changesOnly_setTime _ s).mono (by simp)

/-- The record of the holdover limit leaves COUNT. -/
theorem noteLimit_counts (s : State) : (noteLimit s).time.count = s.time.count ∧
    (noteLimit s).time.countCopy = s.time.countCopy := by
  unfold noteLimit
  dsimp only
  split_ifs <;> exact ⟨rfl, rfl⟩

/-- What counts that pass bring about, the comparison of the copies apart. -/
def countsPass (n : Nat) (s : State) : State :=
  odometry n ((List.range 6).foldl (fun t p => pumpPort p t) (noteLimit (setTime (countUp n) s)))

theorem changesOnly_noteLimit_countUp (n : Nat) (s : State) :
    ChangesOnly [.time, .patrol] s (noteLimit (setTime (countUp n) s)) :=
  ((changesOnly_setTime _ s).comp (changesOnly_noteLimit _)).mono (by simp)

theorem changesOnly_countsPass (n : Nat) (s : State) :
    ChangesOnly [.time, .patrol, .ports, .tx, .align] s (countsPass n s) :=
  (((changesOnly_noteLimit_countUp n s).comp (changesOnly_foldl (fun t p => changesOnly_pumpPort p t) _ _)).comp
    (changesOnly_odometry n _)).mono (by simp)

/-- Nothing waits for a transmitter and no odometry runs: counts touch the time base and the fault wires. -/
theorem changesOnly_countsPass_quiet (n : Nat) {s : State} (hq : ∀ p, p < 6 → (ethPort s p).txQueue = [])
    (he : s.align.degradedEgo = false) : ChangesOnly [.time, .patrol] s (countsPass n s) := by
  have h := changesOnly_noteLimit_countUp n s
  unfold countsPass
  set u := noteLimit (setTime (countUp n) s)
  have hports : u.ports = s.ports := h .ports (by simp)
  have halign : u.align = s.align := h .align (by simp)
  have hpump : ∀ l : List Nat, (∀ p ∈ l, p < 6) → l.foldl (fun t p => pumpPort p t) u = u := by
    intro l
    induction l with
    | nil => intro _; rfl
    | cons p l ih =>
      intro hl
      have hidle : (ethPort u p).txQueue = [] := by
        unfold ethPort
        rw [hports]
        exact hq p (hl p (by simp))
      rw [List.foldl_cons, pumpPort_idle hidle, ih fun q hq => hl q (by simp [hq])]
  rw [hpump _ (fun p hp => List.mem_range.1 hp), odometry, if_pos (by simp [halign, he])]
  exact h

/-- Frames and odometry leave the time base. -/
theorem countsPass_counts (n : Nat) (s : State) : (countsPass n s).time.count = s.time.count + BitVec.ofNat 72 n ∧
    (countsPass n s).time.countCopy = s.time.countCopy + BitVec.ofNat 72 n := by
  have htime : (countsPass n s).time = (noteLimit (setTime (countUp n) s)).time :=
    ((changesOnly_foldl (fun t p => changesOnly_pumpPort p t) (List.range 6) (noteLimit (setTime (countUp n) s))).comp
      (changesOnly_odometry n _)) .time (by simp)
  obtain ⟨hcount, hcopy⟩ := noteLimit_counts (setTime (countUp n) s)
  obtain ⟨hup, hupCopy⟩ := countUp_counts n s.time
  rw [htime, hcount, hcopy]
  exact ⟨hup, hupCopy⟩

/-- The comparison of the copies finds a mismatch. -/
def copiesDiffer (s : State) : State :=
  report (timeFault 0) 0 5 .fa 0 (setTime (fun tb => { tb with countCopy := tb.count ^^^ 1 }) s)

theorem execCountIncrement_running (n : Nat) (mismatch : Bool) {s : State} (hrun : s.time.running = true) :
    execCountIncrement n mismatch s =
      answer s (if mismatch = true then copiesDiffer (countsPass n s) else countsPass n s) := by
  unfold execCountIncrement countsPass copiesDiffer
  simp only [hrun, Bool.not_true, Bool.false_eq_true, if_false]

/-- A number that differs in its last bit is another. -/
theorem xor_one_ne (c : BitVec 72) : c ^^^ 1 ≠ c := by
  intro h
  have hbit := congrArg (BitVec.getLsbD · 0) h
  simp at hbit

/-- Settles O13: what the counts do is `countsPass`; the copies are then compared. -/
theorem countIncrementCompletes : Obligations.CountIncrementCompletes := by
  unfold Obligations.CountIncrementCompletes
  intro n mismatch s hrun
  obtain ⟨hcount, hcopy⟩ := countsPass_counts n s
  have hframe := changesOnly_countsPass n s
  have hquiet := changesOnly_countsPass_quiet n (s := s)
  refine completes_of_answer ((exec_countIncrement n mismatch s).trans (execCountIncrement_running n mismatch hrun)) ?_
  rw [settle_time, settle_patrol]
  generalize countsPass n s = u at hcount hcopy hframe hquiet
  cases mismatch with
  | false =>
    rw [if_neg Bool.false_ne_true]
    exact ⟨hcount, fun _ => hcopy, nofun, hframe.settle s, fun hq he => (hquiet hq he).settle s⟩
  | true =>
    rw [if_pos rfl]
    have hadd : ChangesOnly [.time, .patrol] (u) (copiesDiffer (u)) :=
      (changesOnly_setTime _ _).comp (changesOnly_report _ _ _ _ _ _)
    exact ⟨hcount, nofun, fun _ => ⟨xor_one_ne _, _, List.getLast?_concat, rfl, rfl, rfl⟩,
      ((hframe.comp hadd).mono (by simp)).settle s, fun hq he => ((hquiet hq he).step hadd).settle s⟩

end Sys2Proof.Machine
end

section
/-! Time sources, labels, captures and timed outputs (R69 to R94). -/

namespace Sys2Proof.Machine

/-! ## Fixed tables -/

theorem vget_eq_getElem {α : Type} [Inhabited α] {n : Nat} (v : Vector α n) {i : Nat} (h : i < n) : vget v i = v[i] := by
  unfold vget
  rw [List.getD_eq_getElem _ _ (by simpa using h)]
  exact Vector.getElem_toList _

@[simp] theorem vget_vset_same {α : Type} [Inhabited α] {n : Nat} (v : Vector α n) {i : Nat} (x : α) (h : i < n) :
    vget (vset v i x) i = x := by
  rw [vget_eq_getElem _ h, vset, dif_pos h]
  exact Vector.getElem_set_self h

theorem vget_vset_ne {α : Type} [Inhabited α] {n : Nat} (v : Vector α n) {i j : Nat} (x : α) (h : j ≠ i) :
    vget (vset v i x) j = vget v j := by
  unfold vset
  split_ifs with hi
  · by_cases hj : j < n
    · rw [vget_eq_getElem _ hj, vget_eq_getElem _ hj]
      exact Vector.getElem_set_ne hi hj (Ne.symm h)
    · unfold vget
      rw [List.getD_eq_default _ _ (by simpa using hj), List.getD_eq_default _ _ (by simpa using hj)]
  · rfl

@[simp] theorem vget_vmod_same {α : Type} [Inhabited α] {n : Nat} (v : Vector α n) {i : Nat} (f : α → α) (h : i < n) :
    vget (vmod v i f) i = f (vget v i) := vget_vset_same v _ h

theorem vget_vmod_ne {α : Type} [Inhabited α] {n : Nat} (v : Vector α n) {i j : Nat} (f : α → α) (h : j ≠ i) :
    vget (vmod v i f) j = vget v j := vget_vset_ne v _ h

/-! ## Device time over a re-based pair -/

/-- Loading another pair at the present count does not move device time (R66). -/
theorem timeAt_rebase (tb : TimeBase) (freq slew : Int) : timeAt (rebase tb freq slew) tb.count = timeAt tb tb.count :=
  (rateChangesAreContinuous tb freq slew).2.2.1

/-! ## Measurements (R70 to R75) -/

/-- The lock tests note the error; what they enter keeps it. -/
theorem lockTests_lastError (err : Interval) (s : State) : (lockTests err s).time.lastError = err := by
  have hhold : ∀ u : State, (enterHoldover u).time.lastError = u.time.lastError := by
    intro u
    unfold enterHoldover
    dsimp only
    split_ifs <;> rfl
  unfold lockTests
  extract_lets good bad s1
  split
  · rfl
  · split_ifs
    · rw [hhold]; rfl
    · rfl
  · split_ifs <;> rfl
  · split_ifs <;> rfl

/-- COUNT stays, and nothing but the time base, the holders of stamps, the fault wires and the free values changes. -/
def Steers (s t : State) : Prop :=
  t.time.count = s.time.count ∧ ChangesOnly [.time, .align, .ingest, .patrol, .freeCount] s t

theorem Steers.trans {s t u : State} (h : Steers s t) (h' : Steers t u) : Steers s u :=
  ⟨h'.1.trans h.1, h.2.step h'.2⟩

theorem steers_setTime {f : TimeBase → TimeBase} {s : State} (h : (f s.time).count = s.time.count) :
    Steers s (setTime f s) := ⟨h, (changesOnly_setTime f s).mono (by simp)⟩

theorem steers_spent (s : State) : Steers s (spent s) := ⟨rfl, (changesOnly_spent s).mono (by simp)⟩

theorem steers_refl (s : State) : Steers s s := ⟨rfl, .refl _ s⟩

theorem steers_enterHoldover (s : State) : Steers s (enterHoldover s) := by
  unfold enterHoldover
  extract_lets fresh s1
  have hs1 : Steers s s1 := steers_setTime rfl
  split_ifs
  · exact hs1.trans ⟨rfl, (changesOnly_report _ _ _ _ _ _).mono (by simp)⟩
  · exact hs1

theorem steers_lockTests (err : Interval) (s : State) : Steers s (lockTests err s) := by
  unfold lockTests
  extract_lets good bad s1
  have hs1 : Steers s s1 := steers_setTime rfl
  split
  · exact hs1.trans (steers_setTime rfl)
  · split_ifs
    · exact hs1.trans (steers_enterHoldover _)
    · exact hs1
  · split_ifs
    · exact hs1.trans (steers_setTime rfl)
    · exact hs1
  · split_ifs
    · exact hs1.trans (steers_setTime rfl)
    · exact hs1

theorem steers_stepTime (by_ : Interval) (s : State) : Steers s (stepTime by_ s) := by
  refine ⟨rfl, ?_⟩
  rw [changesOnly_iff]
  simp [Part.same, stepTime]

theorem steers_slewPhase (phase : Interval) (s : State) : Steers s (slewPhase phase s) := by
  unfold slewPhase
  split
  · exact steers_setTime rfl
  · exact (steers_spent s).trans (steers_setTime rfl)

theorem steers_applyPhase (phase : Interval) (s : State) : Steers s (applyPhase phase s) := by
  unfold applyPhase
  split_ifs
  · exact steers_stepTime phase s
  · exact (steers_setTime rfl).trans (steers_slewPhase phase _)

theorem steers_steerFreq (err : Interval) (s : State) : Steers s (steerFreq err s) :=
  (steers_spent s).trans (steers_setTime rfl)

/-- A measurement that the servo takes (R70 to R75). -/
theorem steers_measure (err : Interval) (s : State) : Steers s (measure err s) := by
  unfold measure
  split_ifs
  · exact steers_refl s
  · exact ((steers_steerFreq err s).trans (steers_applyPhase _ _)).trans (steers_lockTests err _)

/-- What the servo, not disabled, measures is its last error. -/
theorem measure_lastError {s : State} (h : bitOf s.time.disabled 17 = false) (err : Interval) :
    (measure err s).time.lastError = err := by
  unfold measure
  rw [if_neg (by simp [h])]
  exact lockTests_lastError err _

/-- A measurement leaves whether the latest edge has a label. -/
theorem measure_labelled (err : Interval) (s : State) :
    (measure err s).time.pps.labelled = s.time.pps.labelled := by
  have hhold : ∀ u : State, (enterHoldover u).time.pps = u.time.pps := by
    intro u
    unfold enterHoldover
    dsimp only
    split_ifs <;> rfl
  have hlock : ∀ u : State, (lockTests err u).time.pps = u.time.pps := by
    intro u
    unfold lockTests
    extract_lets good bad s1
    split
    · rfl
    · split_ifs
      · exact hhold s1
      · rfl
    · split_ifs <;> rfl
    · split_ifs <;> rfl
  have hphase : ∀ (d : Interval) (u : State), (applyPhase d u).time.pps.labelled = u.time.pps.labelled := by
    intro d u
    unfold applyPhase slewPhase
    split_ifs <;> rfl
  unfold measure
  split_ifs
  · rfl
  · rw [hlock, hphase]
    rfl

/-! ## Labels (R77) -/

/-- A label taken up after the latest edge names that edge. -/
theorem labelledEdge_latest {taken : Nat} {p : Pps} {e : Dts} (he : p.lastEdge = some e) (hc : p.lastCount ≤ taken) :
    labelledEdge taken p = some (p.lastCount, some e, p.labelled) := by
  simp [labelledEdge, he, hc]

/-- No label has reached the latest edge, nor a later one. -/
def EdgeUnlabelled (p : Pps) : Prop := p.labelled = false ∧ ∀ m, p.mark = some m → m.edge < p.lastCount

/-- The first label of the latest edge is measured, whatever of the servo's own words it marks before. -/
theorem labelTaken_first {utc taken : Nat} {s : State} {e : Dts} (he : s.time.pps.lastEdge = some e)
    (hc : s.time.pps.lastCount ≤ taken) (hu : EdgeUnlabelled s.time.pps) : ∃ u,
      Steers s u ∧ u.time.disabled = s.time.disabled ∧ labelTaken utc taken s = measure (labelError s e utc) u := by
  obtain ⟨hl, hm⟩ := hu
  have hfilter : s.time.pps.mark.filter (fun m => m.edge == s.time.pps.lastCount) = none := by
    cases hmark : s.time.pps.mark with
    | none => rfl
    | some m => simp [(hm m hmark).ne]
  have hany : s.time.pps.mark.any (fun m => decide (s.time.pps.lastCount < m.edge)) = false := by
    cases hmark : s.time.pps.mark with
    | none => rfl
    | some m => simpa using (hm m hmark).le
  unfold labelTaken
  rw [labelledEdge_latest he hc]
  simp only [hfilter, hl, hany, Bool.or_self, Bool.false_eq_true, if_false, measureMarked]
  exact ⟨_, (steers_setTime rfl).trans (steers_setTime rfl), rfl, rfl⟩

/-- What an error measured on a steered state leaves to the reply: flight, reply queue and COUNT. -/
theorem Steers.replied {s t : State} (h : Steers s t) (c : Cmd) (st d : Nat) (r : Bytes) :
    Replied c st d r s (settle s (finish c st d r t)) ∧
    ChangesOnly [.flight, .reply, .time, .align, .ingest, .patrol, .freeCount] s (settle s (finish c st d r t)) := by
  obtain ⟨hcount, hframe⟩ := h
  exact ⟨replied_finish s (hframe .flight (by simp)) (hframe.reply_words (by simp)) (congrArg BitVec.toNat hcount),
    changesOnly_finished hframe c st d r (by simp)⟩

/-- Settles O15: the labelled edge's measurement is `measure`, whose error is `measure_lastError`. -/
theorem ppsLabelsMeasure : Obligations.PpsLabelsMeasure := by
  unfold Obligations.PpsLabelsMeasure
  refine ⟨fun k c s e h hsrc he hc hdis hl hm => ?_, fun uart utc s e ha hio hsrc htod hu hl he hdis => ?_⟩
  · refine completes_of_command (exec_servoAdjust k s) h ?_
    obtain ⟨u, hu, hdis', hlabel⟩ := labelTaken_first (utc := fld c.params 144 48) he hc ⟨hl, hm⟩
    dsimp only
    rw [if_neg hsrc, hlabel]
    refine ⟨((hu.trans (steers_measure _ u)).replied c stDone 0 []).1, ?_⟩
    rw [settle_time]
    exact measure_lastError (by rw [hdis', hdis]) _
  · refine completes_of_awake (exec_zdaSentence uart utc s) ha ?_
    have hdue : timeSource s = 2 ∧ todInput s = uart ∧ uart < 2 ∧ ioClocked s = true ∧ (!s.time.pps.labelled) = true :=
      ⟨hsrc, htod, hu, hio, by simp [hl]⟩
    simp only [if_pos hdue, labelEdge, he, settle_time]
    refine ⟨measure_lastError ?_ _, measure_labelled _ _⟩
    exact hdis

/-! ## Sources lost and selected (R69 to R71, R79 to R81, R84) -/

/-- Entry into HOLDOVER from another time state (R80, R81). -/
theorem enterHoldover_time {s : State} (h : s.time.state ≠ .holdover) : (enterHoldover s).time =
    { rebase s.time s.time.validFreq 0 with
      state := .holdover, phase := 0, goodRun := 0, badRun := 0, holdoverFrom := now s,
      b0 := mag s.time.lastError + 20 * nsUnits } := by
  have hfresh : (s.time.state != TimeState.holdover) = true := by simp [h]
  unfold enterHoldover
  simp only [hfresh, if_true, Bool.true_and]
  split_ifs <;> rfl

/-- The entry in RUN makes a CE record of the servo (R84). -/
theorem enterHoldover_wires {s : State} (h : s.time.state ≠ .holdover) (hrun : inRun s = true) :
    ∃ r, (enterHoldover s).patrol.wires = s.patrol.wires ++ [r] ∧ r.source = timeFault 17 ∧ r.cls = .ce := by
  have hfresh : (s.time.state != TimeState.holdover) = true := by simp [h]
  unfold enterHoldover
  simp only [hfresh, hrun, Bool.and_self, if_true]
  exact ⟨_, rfl, rfl, rfl⟩

theorem changesOnly_enterHoldover (s : State) : ChangesOnly [.time, .patrol] s (enterHoldover s) := by
  unfold enterHoldover
  dsimp only
  refine changesOnly_ite (fun _ => ?_) fun _ => ?_
  · exact (changesOnly_setTime _ s).comp (changesOnly_report _ _ _ _ _ _)
  · exact (changesOnly_setTime _ s).mono (by simp)

theorem changesOnly_loseSource (s : State) : ChangesOnly [.time, .patrol] s (loseSource s) := by
  unfold loseSource
  split
  · exact changesOnly_enterHoldover s
  · exact changesOnly_enterHoldover s
  · exact (changesOnly_setTime _ s).mono (by simp)
  · exact .refl _ s

/-- Losing a source re-bases at the present count: device time goes on without a jump. -/
theorem now_loseSource (s : State) : now (loseSource s) = now s := by
  have hhold : now (enterHoldover s) = now s := by
    unfold enterHoldover
    dsimp only
    split <;> exact timeAt_rebase s.time s.time.validFreq 0
  unfold loseSource
  split
  · exact hhold
  · exact hhold
  · exact timeAt_rebase s.time s.time.freq 0
  · rfl

/-- What the loss of a source brings about (R71, R80, R81, R84). -/
def LosesSource (s t : State) : Prop :=
  now t = now s ∧ ChangesOnly [.time, .patrol] s t ∧
  (s.time.state = .locked → t.time.state = .holdover ∧ t.time.slew = 0 ∧ t.time.freq = s.time.validFreq ∧
    t.time.b0 = mag s.time.lastError + 20 * nsUnits ∧ holdoverAge t = 0 ∧
    (inRun s = true → ∃ r, t.patrol.wires = s.patrol.wires ++ [r] ∧ r.source = timeFault 17 ∧ r.cls = .ce)) ∧
  (s.time.state = .acquiring → t.time.state = .freeRun ∧ t.time.slew = 0 ∧ t.time.freq = s.time.freq)

theorem losesSource_loseSource (s : State) : LosesSource s (loseSource s) := by
  refine ⟨now_loseSource s, changesOnly_loseSource s, fun hlocked => ?_, fun hacq => ?_⟩
  · have hne : s.time.state ≠ .holdover := by rw [hlocked]; decide
    have hnow := now_loseSource s
    have heq : loseSource s = enterHoldover s := by unfold loseSource; rw [hlocked]
    rw [heq] at hnow ⊢
    have hage : holdoverAge (enterHoldover s) = now (enterHoldover s) - now s := by
      unfold holdoverAge
      rw [enterHoldover_time hne]
    rw [hage, hnow, enterHoldover_time hne]
    exact ⟨rfl, rfl, rfl, rfl, Nat.sub_self _, enterHoldover_wires hne⟩
  · have heq : loseSource s = enterFreeRun s := by unfold loseSource; rw [hacq]
    rw [heq]
    exact ⟨rfl, rfl, rfl⟩

/-- What a command settles at its end is none of it. -/
theorem LosesSource.settle {s t : State} (o : State) (h : LosesSource s t) : LosesSource s (Machine.settle o t) := by
  have hnow : now (Machine.settle o t) = now t := by unfold now; rw [settle_time]
  have hage : holdoverAge (Machine.settle o t) = holdoverAge t := by unfold holdoverAge; rw [hnow, settle_time]
  obtain ⟨h1, h2, h3, h4⟩ := h
  unfold LosesSource
  rw [hnow, hage, settle_time, settle_patrol]
  exact ⟨h1, h2.settle o, h3, h4⟩

/-- The PPS source's loss: the next edge is taken as a first one, and the source is lost. -/
theorem losesSource_losePps (s : State) : LosesSource s (losePps s) := by
  unfold losePps
  obtain ⟨h1, h2, h3, h4⟩ := losesSource_loseSource (setTime (fun tb => { tb with
    lastAdjust := now s, pps := { tb.pps with lastEdge := none, prevEdge := none, rejectRun := 0 } }) s)
  exact ⟨h1, ((changesOnly_setTime _ s).mono (by simp)).step h2, h3, h4⟩

/-- A slew held to SLEW_MAX_PPM goes on from the present count. -/
theorem now_holdSlew (s : State) : now (holdSlew s) = now s := by
  unfold holdSlew
  split
  · rfl
  · exact timeAt_rebase s.time s.time.freq _

theorem changesOnly_holdSlew (s : State) : ChangesOnly [.time] s (holdSlew s) := by
  unfold holdSlew
  exact changesOnly_ite (fun _ => .refl _ s) fun _ => changesOnly_setTime _ s

theorem now_settle (o t : State) : now (settle o t) = now t := by unfold now; rw [settle_time]

theorem setting_settle (o t : State) (op idx : Nat) : setting (settle o t) op idx = setting t op idx := by
  unfold setting; rw [settle_settings]

/-- What a frame leaves of the settings in force. -/
theorem ChangesOnly.setting {l : List Part} {s t : State} (h : ChangesOnly l s t) (hl : Part.settings ∉ l) (op idx : Nat) :
    Machine.setting t op idx = Machine.setting s op idx := by
  have hsettings : t.settings = s.settings := h .settings hl
  unfold Machine.setting
  rw [hsettings]

/-- The source that SET_TIME_SOURCE selects: none enters FREE_RUN, another starts in ACQUIRING (R69 to R71). -/
def selectSource (c : Cmd) (t : Dts) (s : State) : State :=
  if fld c.params 0 8 = 0 then enterFreeRun s
  else setTime (fun tb => { tb with
    state := .acquiring, goodRun := 0, badRun := 0, lastAdjust := t,
    pps := { tb.pps with lastEdge := none, prevEdge := none, labelled := false, mark := none, rejectRun := 0 } }) s

theorem changesOnly_selectSource (c : Cmd) (t : Dts) (s : State) : ChangesOnly [.time] s (selectSource c t s) :=
  changesOnly_ite (fun _ => changesOnly_setTime _ s) fun _ => changesOnly_setTime _ s

/-- Device time does not move at the selection. -/
theorem now_selectSource (c : Cmd) (t : Dts) (s : State) : now (selectSource c t s) = now s := by
  unfold selectSource
  split
  · exact timeAt_rebase s.time s.time.freq 0
  · rfl

/-- SET_TIME_SOURCE: the outcome, the setting in force and the time state. -/
theorem selects_setTimeSource (c : Cmd) (s : State) :
    let t := settle s (conclude c stDone 0 [] (selectSource c (now s) (holdSlew (putSetting 0x0201 0 c.params s))))
    Concluded c stDone 0 [] s t ∧ setting t 0x0201 0 = c.params ∧ now t = now s ∧
      (fld c.params 0 8 = 0 → t.time.state = .freeRun ∧ t.time.slew = 0) ∧
      (fld c.params 0 8 ≠ 0 → t.time.state = .acquiring) ∧ ChangesOnly [.flight, .time, .settings] s t := by
  have hset := changesOnly_putSetting 0x0201 0 c.params s
  have hval := setting_putSetting 0x0201 0 c.params s
  have hhold := now_holdSlew (putSetting 0x0201 0 c.params s)
  have hframe := (changesOnly_holdSlew (putSetting 0x0201 0 c.params s)).comp (changesOnly_selectSource c (now s) _)
  intro t
  refine ⟨concluded_conclude s ((hset.comp hframe) .flight (by simp)), ?_, ?_, fun hz => ?_, fun hz => ?_, ?_⟩
  · rw [setting_settle, (hframe.comp (changesOnly_conclude c _ _ _ _)).setting (by simp), hval]
  · rw [now_settle]
    exact (now_selectSource c (now s) _).trans hhold
  · rw [settle_time, selectSource, if_pos hz]
    exact ⟨rfl, rfl⟩
  · rw [settle_time, selectSource, if_neg hz]
    rfl
  · exact ((hset.comp (hframe.comp (changesOnly_conclude c _ _ _ _))).mono (by simp)).settle s

/-- Settles O16: the loss is `loseSource`; a selection re-bases at most. -/
theorem timeSourcesAreSelectedAndLost : Obligations.TimeSourcesAreSelectedAndLost := by
  unfold Obligations.TimeSourcesAreSelectedAndLost
  refine ⟨fun s i ha hi => ?_, fun k c s h => ?_⟩
  · rcases hi with ⟨rfl, hdue⟩ | ⟨rfl, hdue⟩
    · refine completes_of_awake (exec_ppsSourceLoss s) ha ?_
      simp only [if_pos hdue]
      exact (losesSource_losePps s).settle s
    · refine completes_of_awake (exec_hostSourceLoss s) ha ?_
      simp only [if_pos hdue]
      exact (losesSource_loseSource s).settle s
  · exact completes_of_command (exec_setTimeSource k s) h (selects_setTimeSource c s)

/-! ## Capture inputs and timed outputs (R85 to R92) -/

/-- An edge that the input accepts: its stamp and its entry, or the overflow (R88). -/
def acceptEdge (t : TsIn) (stamp : Dts) (falling : Bool) : TsIn :=
  { t with
    lastAccepted := some stamp, seq := (t.seq + 1) % 16777216,
    buffer := if 16 ≤ t.buffer.length then t.buffer
      else t.buffer ++ [{ stamp := stamp, edge := flag falling, seq := t.seq }],
    overflow := if 16 ≤ t.buffer.length then bump t.overflow else t.overflow }

/-- An edge is too soon after the last accepted one of its input (R87). -/
def tooSoon (t : TsIn) (stamp : Dts) (filter : Nat) : Prop :=
  ∃ l, t.lastAccepted = some l ∧ stamp < l + (filter * 4 + 16) * nsUnits

/-- The accepted edge of an input bound to nothing. -/
theorem execTsInEdge_effect {i : Nat} {falling : Bool} {at_ : Nat} {s : State} (ha : awake s = true) (hi : i < 8)
    (hio : ioClocked s = true) (hdis : bitOf s.time.disabled (1 + i) = false) (hset : isSet s 0x0204 i = true)
    (hwant : edgeWanted (fld (setting s 0x0204 i) 8 8) falling = true) (hbind : fld (setting s 0x0204 i) 32 8 = 0) :
    ∃ x, execTsInEdge i falling at_ s = answer s (setTime (fun tb => { tb with tsIn := vset tb.tsIn i x }) s) ∧
      (tooSoon (vget s.time.tsIn i) (timeAt s.time (BitVec.ofNat 72 at_)) (fld (setting s 0x0204 i) 16 8) →
        x = { vget s.time.tsIn i with reject := bump (vget s.time.tsIn i).reject }) ∧
      (¬ tooSoon (vget s.time.tsIn i) (timeAt s.time (BitVec.ofNat 72 at_)) (fld (setting s 0x0204 i) 16 8) →
        x = acceptEdge (vget s.time.tsIn i) (timeAt s.time (BitVec.ofNat 72 at_)) falling) := by
  have htaken : (!(decide (i < 8) && ioClocked s && !bitOf s.time.disabled (1 + i) && isSet s 0x0204 i &&
      edgeWanted (fld (setting s 0x0204 i) 8 8) falling)) = false := by
    simp [hi, hio, hdis, hset, hwant]
  unfold execTsInEdge awakeAnswer
  simp only [ha, htaken, if_true, Bool.false_eq_true, if_false]
  generalize vget s.time.tsIn i = x
  generalize timeAt s.time (BitVec.ofNat 72 at_) = stamp
  by_cases hsoon : tooSoon x stamp (fld (setting s 0x0204 i) 16 8)
  · refine ⟨{ x with reject := bump x.reject }, ?_, fun _ => rfl, fun h => absurd hsoon h⟩
    obtain ⟨l, hl, hlt⟩ := hsoon
    simp [hl, hlt]
  · refine ⟨acceptEdge x stamp falling, ?_, fun h => absurd h hsoon, fun _ => rfl⟩
    have hbound : ∀ f, captureTo i stamp at_ (setTime f s) = setTime f s := by
      intro f
      have hblock : setting (setTime f s) 0x0204 i = setting s 0x0204 i := rfl
      simp only [captureTo, hblock, hbind]
    have hlate : ∀ l, x.lastAccepted = some l → ¬ stamp < l + (fld (setting s 0x0204 i) 16 8 * 4 + 16) * nsUnits :=
      fun l hl hlt => hsoon ⟨l, hl, hlt⟩
    rw [hbound]
    cases hl : x.lastAccepted with
    | none => simp [acceptEdge]
    | some l => simp [acceptEdge, hlate l hl]

/-- A leading edge whose instant has come, as its output and a camera's receiver note it. -/
def leadEdge (o : Nat) (t : Dts) (s : State) : State :=
  let x := vget s.time.tsOut o
  let x1 := { x with lastIssued := some t, issued := x.issued + 1, trailing := some (t + outWidth x.block), next := none,
                     level := pulseLevel x.block }
  let s1 := setTime (fun tb => { tb with tsOut := vset tb.tsOut o { x1 with next := nextInstant x1 (t + 1) } }) s
  if outRole x.block = 1 then
    { s1 with ingest := { s1.ingest with rx := vmod s1.ingest.rx (fld x.block 240 8) (fun r =>
        { r with syncs := r.syncs ++ [t] }) } }
  else s1

theorem execTsOutLeadingEdge_effect {o : Nat} {s : State} {t : Dts} (ha : awake s = true) (ho : o < 8)
    (hnext : (vget s.time.tsOut o).next = some t) (hdue : t ≤ now s) (hdis : bitOf s.time.disabled (9 + o) = false)
    (hstop : (vget s.time.tsOut o).stopped = false) (hboot : s.dev.state ≠ .boot)
    (htrail : (vget s.time.tsOut o).trailing = none) (hallow : pulseAllowed s (vget s.time.tsOut o) = true) :
    execTsOutLeadingEdge o s = answer s (leadEdge o t s) := by
  have hgo : (decide (8 ≤ o) || bitOf s.time.disabled (9 + o) || (vget s.time.tsOut o).stopped ||
      s.dev.state == .boot || (vget s.time.tsOut o).trailing.isSome || decide (now s < t)) = false := by
    simp [hdis, hstop, hboot, htrail, ho, hdue]
  unfold execTsOutLeadingEdge awakeAnswer
  rw [if_pos ha]
  simp only [hnext, hgo, hallow, Bool.not_true, Bool.false_eq_true, if_false]
  rfl

theorem leadEdge_time (o : Nat) (t : Dts) (s : State) : ∃ next, (leadEdge o t s).time.tsOut = vset s.time.tsOut o
    { vget s.time.tsOut o with
      lastIssued := some t, issued := (vget s.time.tsOut o).issued + 1, next := next,
      trailing := some (t + outWidth (vget s.time.tsOut o).block), level := pulseLevel (vget s.time.tsOut o).block } := by
  unfold leadEdge
  dsimp only
  split <;> exact ⟨_, rfl⟩

theorem changesOnly_leadEdge (o : Nat) (t : Dts) (s : State) : ChangesOnly [.time, .ingest] s (leadEdge o t s) := by
  unfold leadEdge
  dsimp only
  rw [changesOnly_iff]
  split <;> simp [Part.same]

/-- A configuration takes its place whole; no pulse is then in progress. -/
theorem applyOut_block (b : Bytes) (lo t : Dts) (o : TsOut) :
    (applyOut b lo t o).block = b ∧ (applyOut b lo t o).trailing = o.trailing := by
  unfold applyOut
  dsimp only
  split <;> exact ⟨rfl, rfl⟩

/-- A trailing edge, and the configuration that waited for it (R90, R91). -/
def trailEdge (o : TsOut) (t : Dts) : TsOut :=
  match o.waiting with
  | some w => applyOut w.1 w.2 t { o with trailing := none, level := idleLevel o.block }
  | none => { o with trailing := none, level := idleLevel o.block }

theorem trailEdge_spec (o : TsOut) (t : Dts) : (trailEdge o t).trailing = none ∧
    (o.waiting = none → (trailEdge o t).level = idleLevel o.block) ∧
    ∀ b lo, o.waiting = some (b, lo) → (trailEdge o t).block = b := by
  cases hw : o.waiting with
  | none =>
    simp only [trailEdge, hw]
    exact ⟨trivial, fun _ => trivial, nofun⟩
  | some w =>
    simp only [trailEdge, hw]
    exact ⟨(applyOut_block _ _ _ _).2, nofun,
      fun b lo hwait => (applyOut_block _ _ _ _).1.trans (congrArg Prod.fst (Option.some.inj hwait))⟩

/-- Settles O17: each edge's effect is one entry of its input's or its output's table. -/
theorem capturesAndTimedOutputs : Obligations.CapturesAndTimedOutputs := by
  unfold Obligations.CapturesAndTimedOutputs
  refine ⟨⟨fun i falling at_ s ha hi hio hdis hset hwant hbind => ?_, fun k c s h hi => ?_⟩, fun o s t₀ ha ho =>
    ⟨fun hnext hdue hdis hstop hboot htrail hallow => ?_, fun htrail hdue => ?_⟩⟩
  · obtain ⟨x, hx, hreject, haccept⟩ := execTsInEdge_effect (falling := falling) (at_ := at_) ha hi hio hdis hset hwant hbind
    refine completes_of_answer ((exec_tsInEdge i falling at_ s).trans hx) ⟨(changesOnly_setTime _ s).settle s, ?_⟩
    rw [settle_time, setTime_time, vget_vset_same _ _ hi]
    refine ⟨hreject, fun hnot hroom => ?_, fun hnot hfull => ?_⟩
    · rw [haccept hnot, acceptEdge, if_neg (by omega), if_neg (by omega)]
      exact ⟨rfl, rfl, rfl⟩
    · rw [haccept hnot, acceptEdge, if_pos hfull, if_pos hfull]
      exact ⟨rfl, rfl, rfl⟩
  · refine completes_of_command (exec_getCaptures k s) h ?_
    have hframe := changesOnly_setTime (fun tb => { tb with
      tsIn := vmod tb.tsIn (fld c.params 0 8) (fun t => { t with buffer := [] }) }) s
    refine ⟨replied_finish s rfl rfl rfl, ?_, changesOnly_finished hframe _ _ _ _ (by simp)⟩
    rw [settle_time]
    exact congrArg TsIn.buffer (vget_vmod_same _ _ hi)
  · refine completes_of_answer ((exec_tsOutLeadingEdge o s).trans
      (execTsOutLeadingEdge_effect ha ho hnext hdue hdis hstop hboot htrail hallow)) ?_
    obtain ⟨next, htime⟩ := leadEdge_time o t₀ s
    rw [settle_time, settle_ingest, htime, vget_vset_same _ _ ho]
    refine ⟨rfl, rfl, rfl, rfl, fun hrole hcam => ?_, (changesOnly_leadEdge o t₀ s).settle s⟩
    rw [leadEdge]
    simp only [if_pos hrole]
    exact congrArg Receiver.syncs (vget_vmod_same _ _ hcam)
  · refine completes_of_awake (exec_tsOutTrailingEdge o s) ha ?_
    simp only [htrail, if_neg (not_or.2 ⟨Nat.not_le.2 ho, Nat.not_lt.2 hdue⟩)]
    change (fun t : State => _)
      (settle s (setTime (fun tb => { tb with tsOut := vset tb.tsOut o (trailEdge (vget s.time.tsOut o) (now s)) }) s))
    rw [settle_time, setTime_time, vget_vset_same _ _ ho]
    obtain ⟨hnone, hlevel, hblock⟩ := trailEdge_spec (vget s.time.tsOut o) (now s)
    exact ⟨hnone, hlevel, hblock, (changesOnly_setTime _ s).settle s⟩

end Sys2Proof.Machine
end

section
/-! Ethernet ports and PTP: frames taken in, and what PTP measures (R99 to R109, R116, R117). -/

namespace Sys2Proof.Machine

/-! ## One port of the six -/

theorem vmod_vmod {α : Type} [Inhabited α] {n : Nat} (v : Vector α n) (i : Nat) (f g : α → α) :
    vmod (vmod v i g) i f = vmod v i fun x => f (g x) := by
  by_cases h : i < n
  · unfold vmod
    rw [vget_vset_same _ _ h]
    simp [vset, h, Vector.set_set]
  · simp [vmod, vset, h]

theorem modPort_modPort (p : Nat) (f g : EthPort → EthPort) (s : State) :
    modPort p f (modPort p g s) = modPort p (fun e => f (g e)) s := by
  simp only [modPort, vmod_vmod]

theorem ethPort_modPort {p : Nat} (hp : p < 6) (f : EthPort → EthPort) (s : State) :
    ethPort (modPort p f s) p = f (ethPort s p) := vget_vmod_same _ _ hp

theorem ethPort_modPort_ne {p q : Nat} (h : q ≠ p) (f : EthPort → EthPort) (s : State) :
    ethPort (modPort p f s) q = ethPort s q := vget_vmod_ne _ _ h

theorem portUp_lt {s : State} {p : Nat} (h : portUp s p = true) : p < 6 := by
  unfold portUp at h
  simp only [Bool.and_eq_true, decide_eq_true_eq] at h
  exact h.1.1.1.1.1

/-- A settled state's ports are those of the state. -/
theorem ethPort_settle (s t : State) (p : Nat) : ethPort (settle s t) p = ethPort t p := by
  rw [ethPort, settle_ports, ethPort]

/-- A port's corrections hang on its speed alone. -/
theorem corrections_modPort {p : Nat} (hp : p < 6) {f : EthPort → EthPort} {s : State}
    (hf : (f (ethPort s p)).speed = (ethPort s p).speed) : corrections (modPort p f s) p = corrections s p := by
  rw [corrections, ethPort_modPort hp, hf]
  rfl

theorem ingressStamp_modPort {p : Nat} (hp : p < 6) {f : EthPort → EthPort} {s : State} (h : FrameHead)
    (hf : (f (ethPort s p)).speed = (ethPort s p).speed) : ingressStamp (modPort p f s) p h = ingressStamp s p h := by
  rw [ingressStamp, corrections_modPort hp hf]
  rfl

theorem asymmetry_modPort {p : Nat} (hp : p < 6) {f : EthPort → EthPort} {s : State}
    (hf : (f (ethPort s p)).speed = (ethPort s p).speed) : asymmetry (modPort p f s) p = asymmetry s p := by
  rw [asymmetry, corrections_modPort hp hf]
  rfl

theorem isSlave_modPort {p : Nat} (hp : p < 6) {f : EthPort → EthPort} {s : State}
    (hf : (f (ethPort s p)).ptp = (ethPort s p).ptp) : isSlave (modPort p f s) p = isSlave s p := by
  rw [isSlave, ethPort_modPort hp, hf]
  rfl

/-! ## Frames taken in (R29, R99) -/

/-- A port with a frame in its receive buffer, counted. -/
def arrived (s : State) (p : Nat) (h : FrameHead) (e : EthPort) : EthPort :=
  { e with rxHeld := rxBefore s p h + h.length, counters := { e.counters with framesRx := bump e.counters.framesRx } }

/-- A frame that finds room and fits is passed on. -/
theorem frameIn_taken {p : Nat} {h : FrameHead} {s : State} (f : State → State) (ht : FrameTaken p h s) :
    frameIn p h s f = f (modPort p (arrived s p h) s) := by
  obtain ⟨_, hup, hroom, hfits⟩ := ht
  simp only [frameIn, hup, hroom, hfits, countRx, countPort, modPort_modPort, Bool.not_true, Bool.false_eq_true, if_false,
    if_true]
  rfl

/-- A port with a PTP message taken in, counted. -/
def ptpArrived (s : State) (p : Nat) (h : FrameHead) (e : EthPort) : EthPort :=
  { arrived s p h e with counters := { (arrived s p h e).counters with ptpRx := bump e.counters.ptpRx } }

/-- A PTP message that fits and is wanted is worked on. -/
theorem ptpReceived_taken {p : Nat} {kind : PtpKind} {m : PtpMsg} {h : FrameHead} {s : State} {want : State → Bool}
    (f : State → State) (ht : PtpTaken p kind m h s) (hw : want (modPort p (arrived s p h) s) = true) :
    ptpReceived p kind m h s want f = answer s (f (modPort p (ptpArrived s p h) s)) := by
  obtain ⟨hframe, hkind, hfits⟩ := ht
  have hfits' : ptpFits (modPort p (arrived s p h) s) p m = true := hfits
  have hon : ptpOn (modPort p (arrived s p h) s) p = true := by
    unfold ptpFits at hfits'
    simp only [Bool.and_eq_true] at hfits'
    exact hfits'.1.1.1.1
  unfold ptpReceived awakeAnswer
  rw [if_pos hframe.1]
  beta_reduce
  rw [if_neg (by simp [hkind]), frameIn_taken _ hframe]
  simp only [hfits', hon, hw, countPort, modPort_modPort, Bool.and_self, Bool.not_true, Bool.false_eq_true, if_false, if_true]
  rfl

/-! ## Measured errors (R106, R108) -/

/-- What a Sync whose origin time is complete brings about on the port the servo follows. -/
theorem syncMeasured_modPort {p : Nat} (hp : p < 6) {f : EthPort → EthPort} {s : State} {d : Interval}
    (hd : meanDelay (f (ethPort s p)) = some d) (hf : (f (ethPort s p)).speed = (ethPort s p).speed)
    (hsrc : timeSource s = 1) (t1 t2 : Interval) : syncMeasured p t1 t2 (modPort p f s) =
      measure (t2 - t1 - d - asymmetry s p) (modPort p (fun e => { f e with lastSyncDelta := some (t2 - t1) }) s) := by
  have hsource : ∀ g, timeSource (modPort p g s) = 1 := fun _ => hsrc
  unfold syncMeasured
  simp only [modPort_modPort, ethPort_modPort hp, hsource, if_true]
  rw [asymmetry_modPort hp (f := fun e => { f e with lastSyncDelta := some (t2 - t1) }) hf]
  simp only [meanDelay] at hd ⊢
  rw [hd]

/-- The error measured after a change of a port, the port as changed and the frame. -/
theorem measure_modPort {p : Nat} (hp : p < 6) {s : State} (hdis : bitOf s.time.disabled 17 = false) (err : Interval)
    (f : EthPort → EthPort) : (settle s (measure err (modPort p f s))).time.lastError = err ∧
      ethPort (settle s (measure err (modPort p f s))) p = f (ethPort s p) ∧
      ChangesOnly [.ports, .time, .align, .ingest, .patrol, .freeCount] s (settle s (measure err (modPort p f s))) := by
  have hframe := (steers_measure err (modPort p f s)).2
  have hports : (measure err (modPort p f s)).ports = (modPort p f s).ports := hframe .ports (by simp)
  refine ⟨?_, ?_, (((changesOnly_modPort p f s).comp hframe).mono (by simp)).settle s⟩
  · rw [settle_time]
    exact measure_lastError (s := modPort p f s) hdis err
  · unfold ethPort
    rw [settle_ports, hports]
    exact ethPort_modPort hp f s

/-- Settles O18: the message is taken by `ptpReceived_taken`, the error measured by `measure_modPort`. -/
theorem syncsMeasureTheError : Obligations.SyncsMeasureTheError := by
  unfold Obligations.SyncsMeasureTheError
  intro p m h s hslave
  refine ⟨fun ht htwo => ?_, fun d hd hsrc hdis => ⟨fun ht hone => ?_, fun w ht hw hseq hspan => ?_⟩⟩
  all_goals have hp := portUp_lt ht.1.2.1
  all_goals have hslave' : isSlave (modPort p (arrived s p h) s) p = true := by rw [isSlave_modPort hp rfl, hslave]
  · refine completes_of_answer ((exec_ptpSyncReceived p m h s).trans (ptpReceived_taken _ ht hslave')) ?_
    simp only [htwo, if_true, modPort_modPort, ethPort_settle, ethPort_modPort hp]
    refine ⟨?_, rfl, (changesOnly_modPort p _ s).settle s⟩
    rw [ingressStamp_modPort hp h rfl]
  · refine completes_of_answer ((exec_ptpSyncReceived p m h s).trans (ptpReceived_taken _ ht hslave')) ?_
    simp only [hone, Bool.false_eq_true, if_false, modPort_modPort]
    rw [syncMeasured_modPort hp (by exact hd) rfl hsrc, ingressStamp_modPort hp h rfl]
    obtain ⟨herr, hport, hframe⟩ := measure_modPort hp hdis
      ((ingressStamp s p h : Interval) - ((m.timestamp : Int) + m.correction) - d - asymmetry s p) _
    exact ⟨herr, (congrArg EthPort.lastSync hport).trans rfl, hframe⟩
  · have hfollows : followsSync (modPort p (arrived s p h) s) p m h = true := by
      rw [followsSync, ethPort_modPort hp, ingressStamp_modPort hp h rfl]
      simp only [arrived, hw, Option.any_some, hseq, beq_self_eq_true, Bool.true_and]
      exact decide_eq_true hspan
    refine completes_of_answer ((exec_ptpFollowUpReceived p m h s).trans
      (ptpReceived_taken _ ht (by rw [hslave', hfollows]; rfl))) ?_
    have hw' : (ethPort (modPort p (ptpArrived s p h) s) p).sync = some w := by
      rw [ethPort_modPort hp]
      exact hw
    simp only [hw', modPort_modPort]
    rw [syncMeasured_modPort hp (by exact hd) rfl hsrc]
    obtain ⟨herr, hport, hframe⟩ := measure_modPort hp hdis
      ((w.ingress : Interval) - ((m.timestamp : Int) + w.correction + m.correction) - d - asymmetry s p) _
    exact ⟨herr, (congrArg EthPort.sync hport).trans rfl, hframe⟩

end Sys2Proof.Machine
end

section
/-! The BMCA's pass over the ports, and path-delay measurements (R108, R109, R112 to R114, R117). -/

namespace Sys2Proof.Machine

/-! ## A pass over the ports -/

theorem modPort_congr {p : Nat} {f g : EthPort → EthPort} {s : State} (h : f (ethPort s p) = g (ethPort s p)) :
    modPort p f s = modPort p g s := by
  unfold ethPort at h
  simp only [modPort, vmod, h]

/-- A pass that changes each port of a list once. -/
theorem ethPort_pass (f : Nat → EthPort → EthPort) (q : Nat) : ∀ (l : List Nat), l.Nodup → (∀ p ∈ l, p < 6) → ∀ s : State,
    ethPort (l.foldl (fun t p => modPort p (f p) t) s) q = if q ∈ l then f q (ethPort s q) else ethPort s q := by
  intro l
  induction l with
  | nil => simp
  | cons p l ih =>
    intro hnodup hlt s
    obtain ⟨hp, hl⟩ := List.nodup_cons.1 hnodup
    rw [List.foldl_cons, ih hl fun x hx => hlt x (List.mem_cons_of_mem _ hx)]
    by_cases hq : q = p
    · subst hq
      rw [if_neg hp, if_pos List.mem_cons_self, ethPort_modPort (hlt q List.mem_cons_self)]
    · simp only [List.mem_cons, hq, false_or, ethPort_modPort_ne hq]

theorem changesOnly_pass (f : Nat → EthPort → EthPort) (l : List Nat) (s : State) :
    ChangesOnly [.ports] s (l.foldl (fun t p => modPort p (f p) t) s) :=
  changesOnly_foldl (fun t p => changesOnly_modPort p (f p) t) l s

/-! ## The BMCA (R112 to R114) -/

/-- The state that the BMCA gives a port. -/
def bmcaTaken (s : State) (p : Nat) (e : EthPort) : EthPort :=
  if bmcaState s p == .slave && e.ptp != .slave then
    { e with ptp := bmcaState s p, lastSync := now s, lastAnnounce := now s }
  else { e with ptp := bmcaState s p }

/-- Every port with the state that the BMCA gives it. -/
def bmcaPorts (s : State) : State := (List.range 6).foldl (fun t p => modPort p (bmcaTaken s p) t) s

theorem ethPort_bmcaPorts {p : Nat} (hp : p < 6) (s : State) : ethPort (bmcaPorts s) p = bmcaTaken s p (ethPort s p) := by
  rw [bmcaPorts, ethPort_pass _ _ _ List.nodup_range (by simp), if_pos (List.mem_range.2 hp)]

theorem changesOnly_losePtp (s : State) : ChangesOnly [.time, .patrol] s (losePtp s) :=
  changesOnly_ite (fun _ => changesOnly_loseSource s) fun _ => .refl _ s

/-- Device time goes on without a jump, in the same count. -/
def SameClock (s t : State) : Prop := now t = now s ∧ countNow t = countNow s

theorem SameClock.trans {s t u : State} (h : SameClock s t) (h' : SameClock t u) : SameClock s u :=
  ⟨h'.1.trans h.1, h'.2.trans h.2⟩

theorem sameClock_of_time {s t : State} (h : t.time = s.time) : SameClock s t := by
  rw [SameClock, now, countNow, h]
  exact ⟨rfl, rfl⟩

theorem sameClock_losePtp (s : State) : SameClock s (losePtp s) := by
  unfold losePtp
  split
  · refine ⟨now_loseSource s, ?_⟩
    unfold loseSource
    split
    · exact congrArg BitVec.toNat (steers_enterHoldover s).1
    · exact congrArg BitVec.toNat (steers_enterHoldover s).1
    · rfl
    · rfl
  · exact ⟨rfl, rfl⟩

theorem ethPort_of_frame {l : List Part} {s t : State} (h : ChangesOnly l s t) (hl : Part.ports ∉ l) (p : Nat) :
    ethPort t p = ethPort s p := by
  have hports : t.ports = s.ports := h .ports hl
  rw [ethPort, hports, ethPort]

/-- What the BMCA does after the ports have their states: the servo's source. -/
theorem runBmca_cases (s : State) : runBmca s = losePtp (bmcaPorts s) ∨ runBmca s = acquireSource (bmcaPorts s) ∨
    runBmca s = bmcaPorts s := by
  have hdef : runBmca s = match slavePort s, slavePort (bmcaPorts s) with
    | some _, none => losePtp (bmcaPorts s)
    | some a, some b => if a ≠ b ∧ timeSource s = 1 then acquireSource (bmcaPorts s) else bmcaPorts s
    | _, _ => bmcaPorts s := rfl
  rw [hdef]
  cases slavePort s with
  | none => exact .inr (.inr rfl)
  | some a =>
    cases slavePort (bmcaPorts s) with
    | none => exact .inl rfl
    | some b =>
      dsimp only
      split
      · exact .inr (.inl rfl)
      · exact .inr (.inr rfl)

theorem changesOnly_bmcaServo (s : State) : ChangesOnly [.time, .patrol] (bmcaPorts s) (runBmca s) := by
  rcases runBmca_cases s with h | h | h <;> rw [h]
  · exact changesOnly_losePtp _
  · exact (changesOnly_setTime _ _).mono (by simp)
  · exact .refl _ _

theorem changesOnly_runBmca (s : State) : ChangesOnly [.ports, .time, .patrol] s (runBmca s) :=
  ((changesOnly_pass _ _ s).comp (changesOnly_bmcaServo s)).mono (by simp)

theorem sameClock_acquireSource (s : State) : SameClock s (acquireSource s) := ⟨rfl, rfl⟩

/-- Device time goes on without a jump while the BMCA changes the servo's source. -/
theorem sameClock_runBmca (s : State) : SameClock s (runBmca s) := by
  have hports : SameClock s (bmcaPorts s) := sameClock_of_time (changesOnly_pass _ _ s .time (by simp))
  rcases runBmca_cases s with h | h | h <;> rw [h]
  · exact hports.trans (sameClock_losePtp _)
  · exact hports.trans (sameClock_acquireSource _)
  · exact hports

/-- The BMCA leaves of a port all but its state and what its receipt timeouts count from. -/
theorem ethPort_runBmca {p : Nat} (hp : p < 6) (s : State) : ethPort (runBmca s) p = bmcaTaken s p (ethPort s p) :=
  (ethPort_of_frame (changesOnly_bmcaServo s) (by simp) p).trans (ethPort_bmcaPorts hp s)

/-- What a pass of the BMCA leaves of a port's measurements and counters. -/
structure SameMeasurements (e f : EthPort) : Prop where
  delays : f.delays = e.delays
  outlierRun : f.outlierRun = e.outlierRun
  counters : f.counters = e.counters
  exchange : f.exchange = e.exchange
  pdelayFailRun : f.pdelayFailRun = e.pdelayFailRun
  rateRatio : f.rateRatio = e.rateRatio
  announce : f.announce = e.announce
  asCapable : f.asCapable = e.asCapable
  link : f.link = e.link
  speed : f.speed = e.speed
  down : f.down = e.down
  txQueue : f.txQueue = e.txQueue
  txUntil : f.txUntil = e.txUntil

theorem sameMeasurements_refl (e : EthPort) : SameMeasurements e e := ⟨rfl, rfl, rfl, rfl, rfl, rfl, rfl, rfl, rfl, rfl, rfl, rfl, rfl⟩

theorem sameMeasurements_bmcaTaken (s : State) (p : Nat) (e : EthPort) : SameMeasurements e (bmcaTaken s p e) := by
  unfold bmcaTaken
  split <;> exact ⟨rfl, rfl, rfl, rfl, rfl, rfl, rfl, rfl, rfl, rfl, rfl, rfl, rfl⟩

theorem sameMeasurements_runBmca {p : Nat} (hp : p < 6) (s : State) :
    SameMeasurements (ethPort s p) (ethPort (runBmca s) p) := by
  rw [ethPort_runBmca hp]
  exact sameMeasurements_bmcaTaken s p _

/-- The BMCA after the source of the servo is lost. -/
theorem sameMeasurements_runBmca_losePtp {p : Nat} (hp : p < 6) (s : State) :
    SameMeasurements (ethPort s p) (ethPort (runBmca (losePtp s)) p) := by
  have h := sameMeasurements_runBmca hp (losePtp s)
  rwa [ethPort_of_frame (changesOnly_losePtp s) (by simp)] at h

theorem changesOnly_runBmca_losePtp (s : State) : ChangesOnly [.ports, .time, .patrol] s (runBmca (losePtp s)) :=
  ((changesOnly_losePtp s).mono (by simp)).step (changesOnly_runBmca _)

/-! ## Path delay (R108, R109) -/

/-- A port that takes a path-delay measurement, or counts it as an outlier. -/
def delayed (m : Interval) (e : EthPort) : EthPort :=
  if ∀ d, meanDelay e = some d → mag (m - d) ≤ usUnits then
    { e with delays := (e.delays ++ [m]).drop (e.delays.length - 7), outlierRun := 0 }
  else if 8 ≤ e.outlierRun + 1 then
    { e with delays := [], outlierRun := 0, counters := { e.counters with pathOutlier := bump e.counters.pathOutlier } }
  else
    { e with outlierRun := e.outlierRun + 1,
             counters := { e.counters with pathOutlier := bump e.counters.pathOutlier } }

theorem addDelay_eq (p : Nat) (m : Interval) (s : State) : addDelay p m s = modPort p (delayed m) s := by
  have hnear : (match meanDelay (ethPort s p) with
      | some d => decide (mag (m - d) ≤ usUnits)
      | none => true) = decide (∀ d, meanDelay (ethPort s p) = some d → mag (m - d) ≤ usUnits) := by
    cases h : meanDelay (ethPort s p) <;> simp
  have hdef : addDelay p m s = if decide (∀ d, meanDelay (ethPort s p) = some d → mag (m - d) ≤ usUnits) then
      modPort p (fun e => { e with delays := (e.delays ++ [m]).drop (e.delays.length - 7), outlierRun := 0 }) s
    else modPort p (fun e => if 8 ≤ e.outlierRun + 1 then { e with delays := [], outlierRun := 0 }
      else { e with outlierRun := e.outlierRun + 1 })
        (countPort p (fun c => { c with pathOutlier := bump c.pathOutlier }) s) := by
    rw [← hnear]
    rfl
  rw [hdef]
  by_cases h : ∀ d, meanDelay (ethPort s p) = some d → mag (m - d) ≤ usUnits
  · rw [if_pos (decide_eq_true h)]
    exact modPort_congr (by rw [delayed, if_pos h])
  · rw [if_neg (by rw [decide_eq_true_eq]; exact h), countPort, modPort_modPort]
    exact modPort_congr (by rw [delayed, if_neg h])

theorem delayTaken_delayed {m : Interval} {e e' : EthPort} (hd : e'.delays = e.delays) (hr : e'.outlierRun = e.outlierRun)
    (hc : e'.counters.pathOutlier = e.counters.pathOutlier) : DelayTaken m e (delayed m e') := by
  have hmean : meanDelay e' = meanDelay e := by rw [meanDelay, hd, meanDelay]
  refine ⟨fun hnear => ?_, fun d hsome hfar => ?_⟩
  · rw [delayed, if_pos (by rwa [hmean])]
    exact ⟨by rw [hd], rfl, hc⟩
  · rw [delayed, if_neg fun hall => Nat.not_le.2 hfar (hall d (hmean.trans hsome))]
    refine ⟨?_, fun hrun => ?_, fun hrun => ?_⟩
    · split <;> rw [hc]
    · rw [if_neg (by omega)]
      exact ⟨hd, by rw [hr]⟩
    · rw [if_pos (by omega)]
      exact ⟨rfl, rfl⟩

theorem changesOnly_checkCapable (p : Nat) (s : State) : ChangesOnly [.ports, .time, .patrol] s (checkCapable p s) := by
  unfold checkCapable
  split
  · exact changesOnly_runBmca_losePtp s
  · split
    · exact changesOnly_runBmca s
    · exact .refl _ s

theorem sameMeasurements_checkCapable {p : Nat} (hp : p < 6) (s : State) :
    SameMeasurements (ethPort s p) (ethPort (checkCapable p s) p) := by
  unfold checkCapable
  split
  · exact sameMeasurements_runBmca_losePtp hp s
  · split
    · exact sameMeasurements_runBmca hp s
    · exact sameMeasurements_refl _

/-- A peer-delay measurement of a known rate ratio, with the far end's last stamp. -/
def pdelayTaken (ratio : Int) (t1 t4 : Dts) (turnaround : Int) (far : Option Dts) (capable : Bool) (e : EthPort) : EthPort :=
  { delayed ((((t4 : Int) - t1) + ((t4 : Int) - t1) * ratio / 1099511627776 - turnaround) / 2)
      { e with rateRatio := ratio, lastPdelay := far.map (fun f => (f, t4)), exchange := none, pdelayFailRun := 0 } with
    asCapable := capable }

/-- The rate ratio of a peer-delay measurement: the port's own where the far end gives no stamp. -/
theorem pdelayMeasured_eq (p : Nat) (t1 t4 : Dts) (turnaround : Int) (far : Option Dts) (s : State) :
    ∃ ratio capable, (far = none → ratio = (ethPort s p).rateRatio) ∧
      pdelayMeasured p t1 t4 turnaround far s = modPort p (pdelayTaken ratio t1 t4 turnaround far capable) s := by
  let ratio : Int := match far, (ethPort s p).lastPdelay with
    | some f, some (f0, n0) =>
      if n0 < t4 then ((f : Int) - f0) * 1099511627776 / ((t4 : Int) - n0) - 1099511627776 else (ethPort s p).rateRatio
    | _, _ => (ethPort s p).rateRatio
  refine ⟨ratio, ptpProfile s == 3 && decide ((((t4 : Int) - t1) + ((t4 : Int) - t1) * ratio / 1099511627776 - turnaround) / 2 ≤
    (800 * nsUnits : Nat)), ?_, ?_⟩
  · rintro rfl
    rfl
  · unfold pdelayMeasured
    simp only [addDelay_eq, modPort_modPort]
    rfl

theorem delayed_exchange (m : Interval) (e : EthPort) : (delayed m e).exchange = e.exchange ∧
    (delayed m e).pdelayFailRun = e.pdelayFailRun ∧ (delayed m e).rateRatio = e.rateRatio := by
  unfold delayed
  split
  · exact ⟨rfl, rfl, rfl⟩
  · split <;> exact ⟨rfl, rfl, rfl⟩

theorem DelayTaken.congr {m : Interval} {e f f' : EthPort} (h : DelayTaken m e f) (hd : f'.delays = f.delays)
    (hr : f'.outlierRun = f.outlierRun) (hc : f'.counters = f.counters) : DelayTaken m e f' := by
  unfold DelayTaken at h ⊢
  rwa [hd, hr, hc]

/-- A peer-delay exchange that has ended with a measurement. -/
theorem checkCapable_measured {p : Nat} (hp : p < 6) (h : FrameHead) (t1 t4 : Dts) (turnaround : Int) (far : Option Dts)
    (s : State) {t : State}
    (ht : t = checkCapable p (pdelayMeasured p t1 t4 turnaround far (modPort p (ptpArrived s p h) s))) :
    DelayTaken ((((t4 : Int) - t1) + ((t4 : Int) - t1) * (ethPort t p).rateRatio / 2 ^ 40 - turnaround) / 2)
      (ethPort s p) (ethPort t p) ∧
    (ethPort t p).exchange = none ∧ (ethPort t p).pdelayFailRun = 0 ∧
    (far = none → (ethPort t p).rateRatio = (ethPort s p).rateRatio) ∧ ChangesOnly [.ports, .time, .patrol] s t := by
  obtain ⟨ratio, capable, hratio, heq⟩ := pdelayMeasured_eq p t1 t4 turnaround far (modPort p (ptpArrived s p h) s)
  rw [ethPort_modPort hp] at hratio
  rw [heq, modPort_modPort] at ht
  have hsame := sameMeasurements_checkCapable hp
    (modPort p (fun e => pdelayTaken ratio t1 t4 turnaround far capable (ptpArrived s p h e)) s)
  rw [← ht, ethPort_modPort hp] at hsame
  have hframe := ((changesOnly_modPort p _ s).mono (by simp)).step (changesOnly_checkCapable p
    (modPort p (fun e => pdelayTaken ratio t1 t4 turnaround far capable (ptpArrived s p h e)) s))
  rw [← ht] at hframe
  obtain ⟨hexchange, hrun, hrate⟩ := delayed_exchange
    ((((t4 : Int) - t1) + ((t4 : Int) - t1) * ratio / 1099511627776 - turnaround) / 2)
    { ptpArrived s p h (ethPort s p) with
      rateRatio := ratio, lastPdelay := far.map (fun f => (f, t4)), exchange := none, pdelayFailRun := 0 }
  have hnow : (ethPort t p).rateRatio = ratio := hsame.rateRatio.trans hrate
  refine ⟨?_, hsame.exchange.trans hexchange, hsame.pdelayFailRun.trans hrun, fun hfar => ?_, hframe⟩
  · rw [hnow]
    exact (delayTaken_delayed (e := ethPort s p) (e' := { ptpArrived s p h (ethPort s p) with
      rateRatio := ratio, lastPdelay := far.map (fun f => (f, t4)), exchange := none, pdelayFailRun := 0 }) rfl rfl rfl).congr
      hsame.delays hsame.outlierRun hsame.counters
  · rw [hnow, hratio hfar]
    rfl

/-- Settles O19: the exchange is the one that the port began; the measurement is `delayed`'s. -/
theorem pathDelaysAreMeasured : Obligations.PathDelaysAreMeasured := by
  unfold Obligations.PathDelaysAreMeasured
  intro p m h s x hx hseq
  refine ⟨fun e t3 ht hslave hprof hreq hdelta hegress => ?_, fun ht hpeer hreq => ⟨fun htwo => ?_, fun t1 hone hegress => ?_⟩,
    fun t1 t2 t4 c ht hpeer hresp hegress => ?_⟩
  all_goals have hp := portUp_lt ht.1.2.1
  all_goals have hx' : (ethPort (modPort p (ptpArrived s p h) s) p).exchange = some x :=
      (congrArg EthPort.exchange (ethPort_modPort hp _ s)).trans hx
  · have hwant : (isSlave (modPort p (arrived s p h) s) p && ptpProfile (modPort p (arrived s p h) s) == 1) = true := by
      rw [isSlave_modPort hp rfl, hslave]
      exact beq_iff_eq.2 hprof
    refine completes_of_answer ((exec_ptpDelayRespReceived p m h s).trans (ptpReceived_taken _ ht hwant)) ?_
    have hdelta' : (ethPort (modPort p (ptpArrived s p h) s) p).lastSyncDelta = some e := by
      rw [ethPort_modPort hp]
      exact hdelta
    have hmine : m.requester = portIdentity (modPort p (ptpArrived s p h) s) p ∧ x.seqId = m.seqId := ⟨hreq, hseq⟩
    simp only [hx', hdelta', if_pos hmine, hegress]
    simp only [addDelay_eq, modPort_modPort, ethPort_settle, ethPort_modPort hp]
    exact ⟨delayTaken_delayed rfl rfl rfl, (delayed_exchange _ _).1, (changesOnly_modPort p _ s).settle s⟩
  · refine completes_of_answer ((exec_ptpPdelayRespReceived p m h s).trans (ptpReceived_taken _ ht hpeer)) ?_
    have hmine : m.requester = portIdentity (modPort p (ptpArrived s p h) s) p ∧ x.seqId = m.seqId := ⟨hreq, hseq⟩
    simp only [hx', if_pos hmine, htwo, if_true]
    simp only [modPort_modPort, ethPort_settle, ethPort_modPort hp]
    exact ⟨by rw [ingressStamp_modPort hp h rfl], (changesOnly_modPort p _ s).settle s⟩
  · refine completes_of_answer ((exec_ptpPdelayRespReceived p m h s).trans (ptpReceived_taken _ ht hpeer)) ?_
    have hmine : m.requester = portIdentity (modPort p (ptpArrived s p h) s) p ∧ x.seqId = m.seqId := ⟨hreq, hseq⟩
    simp only [hx', if_pos hmine, hone, hegress, Bool.false_eq_true, if_false]
    rw [ingressStamp_modPort hp h rfl]
    obtain ⟨hdelay, hexchange, hrun, hrate, hframe⟩ := checkCapable_measured hp h t1 (ingressStamp s p h) m.correction none s rfl
    rw [hrate rfl] at hdelay
    rw [ethPort_settle]
    exact ⟨hdelay, hexchange, hrun, hframe.settle s⟩
  · have hwant : (peerDelay (modPort p (arrived s p h) s) && (match (ethPort (modPort p (arrived s p h) s) p).exchange with
        | some x => x.seqId == m.seqId && x.response.isSome
        | none => false)) = true := by
      have hx'' : (ethPort (modPort p (arrived s p h) s) p).exchange = some x := by
        rw [ethPort_modPort hp]
        exact hx
      rw [hx'']
      simp only [hseq, hresp, beq_self_eq_true, Option.isSome_some, Bool.and_self, Bool.and_true]
      exact hpeer
    refine completes_of_answer ((exec_ptpPdelayRespFollowUpReceived p m h s).trans (ptpReceived_taken _ ht hwant)) ?_
    simp only [hx', hresp, hegress]
    obtain ⟨hdelay, hexchange, hrun, -, hframe⟩ := checkCapable_measured hp h t1 t4
      ((m.timestamp : Int) + m.correction - t2 + c) (some ((m.timestamp : Int) + m.correction).toNat) s rfl
    rw [ethPort_settle]
    exact ⟨hdelay, hexchange, hrun, hframe.settle s⟩

end Sys2Proof.Machine
end

section
/-! Frames that leave a port, and the PTP messages that ports send (R100, R104, R118 to R120). -/

namespace Sys2Proof.Machine

/-! ## One frame leaves -/

theorem ethPort_ethOut {p : Nat} (hp : p < 6) (dest : Nat) (what : EthPayload) (s : State) :
    ethPort (ethOut p dest what s) p = { ethPort s p with
      txUntil := countNow s + 1 + (Config.frameCounts (ethPort s p).speed what).toNat,
      counters := { (ethPort s p).counters with framesTx := bump (ethPort s p).counters.framesTx } } :=
  ethPort_modPort hp _ s

theorem frameLeft_ethOut {p : Nat} (hp : p < 6) (dest : Nat) (what : EthPayload) (s : State) :
    FrameLeft p dest what s (ethOut p dest what s) := by
  refine ⟨⟨_, rfl, rfl, rfl, rfl, rfl⟩, ?_⟩
  rw [ethPort_ethOut hp]

/-- A frame has left, whatever becomes of the port afterwards and has become of it before. -/
theorem FrameLeft.congr {p dest : Nat} {what : EthPayload} {s u t t' : State} (h : FrameLeft p dest what u t)
    (hset : u.settings = s.settings) (htx : u.tx = s.tx)
    (hcount : (ethPort u p).counters.framesTx = (ethPort s p).counters.framesTx) (htx' : t'.tx = t.tx)
    (hcount' : (ethPort t' p).counters.framesTx = (ethPort t p).counters.framesTx) : FrameLeft p dest what s t' := by
  obtain ⟨⟨f, hf, hdest, hsource, hwhat, htag⟩, hbump⟩ := h
  have hsetting : ∀ op idx, setting u op idx = setting s op idx := fun op idx => by rw [setting, hset, setting]
  refine ⟨⟨f, ?_, hdest, ?_, hwhat, ?_⟩, ?_⟩
  · rw [htx', hf, htx]
  · rw [hsource, portMac, hsetting, portMac]
  · rw [htag]
    simp only [frameTag, vlanOn, hsetting]
    rfl
  · rw [hcount', hbump, hcount]

/-- A PTP message has left, and is counted. -/
theorem ethPort_ptpOut {p : Nat} (hp : p < 6) (dest : Nat) (before after : PtpMsg) (s : State) :
    ethPort (ptpOut p dest before after s) p = { ethPort s p with
      txUntil := countNow s + 1 + (Config.frameCounts (ethPort s p).speed (ptpPayload s p before after)).toNat,
      counters := { (ethPort s p).counters with
        framesTx := bump (ethPort s p).counters.framesTx, ptpTx := bump (ethPort s p).counters.ptpTx } } := by
  rw [ptpOut, countPort, ethPort_modPort hp, ethPort_ethOut hp]

theorem frameLeft_ptpOut {p : Nat} (hp : p < 6) (dest : Nat) (before after : PtpMsg) (s : State) :
    FrameLeft p dest (ptpPayload s p before after) s (ptpOut p dest before after s) := by
  refine (frameLeft_ethOut hp dest (ptpPayload s p before after) s).congr rfl rfl rfl rfl ?_
  rw [ethPort_ptpOut hp, ethPort_ethOut hp]

/-- A PTP message has left, and the port has noted it. -/
theorem frameLeft_modPort_ptpOut {p : Nat} (hp : p < 6) (dest : Nat) (before after : PtpMsg) {f : EthPort → EthPort}
    (hf : ∀ e, (f e).counters.framesTx = e.counters.framesTx) (s : State) :
    FrameLeft p dest (ptpPayload s p before after) s (modPort p f (ptpOut p dest before after s)) := by
  refine (frameLeft_ptpOut hp dest before after s).congr rfl rfl rfl rfl ?_
  rw [ethPort_modPort hp, hf]

/-! ## The kinds of messages as they start (R118 to R120) -/

theorem startPtp_oneStep {p : Nat} {x : TxFrame} {m : PtpMsg} {s : State} (hk : m.kind = .sync ∨ m.kind = .pdelayResp)
    (h : bitAt (ptpBlock s) (48 + p) = false ∨ 8 ≤ stampsHeld (ethPort s p)) : startPtp p x m s =
      modPort p (fun e => { e with counters := { e.counters with oneStep := bump e.counters.oneStep } })
        (ptpOut p x.dest m (oneStepForm m x.ingress (egressStamp s p)) s) := by
  have hoff : (bitAt (ptpBlock s) (48 + p) && !decide (8 ≤ stampsHeld (ethPort s p))) = false := by
    rcases h with h | h <;> simp [h]
  unfold startPtp
  rcases hk with hk | hk <;> simp only [hk, hoff, Bool.false_eq_true, if_false] <;> rfl

/-- The follow-up message of a two-step message, as it waits. -/
def followFrame (p : Nat) (m : PtpMsg) (s : State) : TxFrame :=
  { dest := (followUpOf m (egressStamp s p) (ptpDest s)).dest.mac,
    what := .ptp (followUpOf m (egressStamp s p) (ptpDest s)) none, urgent := false, ingress := 0 }

theorem startPtp_twoStep {p : Nat} {x : TxFrame} {m : PtpMsg} {s : State} (hk : m.kind = .sync ∨ m.kind = .pdelayResp)
    (hbit : bitAt (ptpBlock s) (48 + p) = true) (hroom : stampsHeld (ethPort s p) < 8) : startPtp p x m s =
      modPort p (fun e => { e with txQueue := e.txQueue ++ [followFrame p m s] })
        (ptpOut p x.dest (twoStepForm m x.ingress) (twoStepForm m x.ingress) s) := by
  have hon : (bitAt (ptpBlock s) (48 + p) && !decide (8 ≤ stampsHeld (ethPort s p))) = true := by
    simp [hbit, hroom]
  unfold startPtp
  rcases hk with hk | hk <;> simp only [hk, hon, if_true] <;> rfl

theorem startPtp_request {p : Nat} {x : TxFrame} {m : PtpMsg} {s : State} (hk : m.kind = .delayReq ∨ m.kind = .pdelayReq) :
    startPtp p x m s = modPort p (fun e =>
      if 8 ≤ stampsHeld (ethPort s p) then { e with counters := { e.counters with txStampMissed := bump e.counters.txStampMissed } }
      else { e with exchange := e.exchange.map fun y =>
        if y.seqId = m.seqId then { y with egress := some (egressStamp s p) } else y }) (ptpOut p x.dest m m s) := by
  unfold startPtp
  by_cases h : 8 ≤ stampsHeld (ethPort s p)
  · rcases hk with hk | hk <;> simp only [hk, h, decide_true, if_true] <;> rfl
  · rcases hk with hk | hk <;> simp only [hk, h, decide_false, Bool.false_eq_true, if_false]

theorem startPtp_followUp {p : Nat} {x : TxFrame} {m : PtpMsg} {s : State}
    (hk : m.kind = .followUp ∨ m.kind = .pdelayRespFollowUp) : startPtp p x m s =
      modPort p (fun e => { e with counters := { e.counters with followUps := bump e.counters.followUps } })
        (ptpOut p x.dest m m s) := by
  unfold startPtp
  rcases hk with hk | hk <;> simp only [hk] <;> rfl

theorem startPtp_general {p : Nat} {x : TxFrame} {m : PtpMsg} {s : State} (hk : m.kind = .announce ∨ m.kind = .delayResp) :
    startPtp p x m s = ptpOut p x.dest m m s := by
  unfold startPtp
  rcases hk with hk | hk <;> simp only [hk]

theorem beginFrame_ptp {p : Nat} {x : TxFrame} {m : PtpMsg} {u : Option Nat} (h : x.what = .ptp m u) (s : State) :
    beginFrame p x s = startPtp p x m s := by
  unfold beginFrame
  rw [h]

/-! ## The transmit queue (R104) -/

theorem modPort_self {p : Nat} {f : EthPort → EthPort} {s : State} (h : f (ethPort s p) = ethPort s p) : modPort p f s = s := by
  have hself : vset s.ports.eth p (vget s.ports.eth p) = s.ports.eth := by
    by_cases hp : p < 6
    · simp [vset, hp, vget_eq_getElem _ hp]
    · simp [vset, hp]
  unfold ethPort at h
  simp only [modPort, vmod, h, hself]

theorem portUp_modPort {p : Nat} (hp : p < 6) {f : EthPort → EthPort} {s : State}
    (hlink : (f (ethPort s p)).link = (ethPort s p).link) (hdown : (f (ethPort s p)).down = (ethPort s p).down) :
    portUp (modPort p f s) p = portUp s p := by
  have hport : ethPort (modPort p f s) p = f (ethPort s p) := ethPort_modPort hp f s
  unfold portUp
  rw [hport, hlink, hdown]
  rfl

theorem queueTx_plain {x : TxFrame} {q : List TxFrame} (h : x.urgent = false) : queueTx x q = q ++ [x] := by
  simp [queueTx, h]

/-- An urgent frame goes before all that have no priority. -/
theorem queueTx_urgent {x : TxFrame} {q : List TxFrame} (h : x.urgent = true) (hq : ∀ y ∈ q, y.urgent = false) :
    queueTx x q = x :: q := by
  cases q with
  | nil => simp [queueTx, h]
  | cons y q => simp [queueTx, h, hq y List.mem_cons_self]

/-- A frame that goes first on a free port starts at once. -/
theorem sendFrame_begins {p : Nat} {x : TxFrame} {s : State} (hup : portUp s p = true)
    (hfree : (ethPort s p).txUntil ≤ countNow s) (hfirst : queueTx x (ethPort s p).txQueue = x :: (ethPort s p).txQueue) :
    sendFrame p x s = beginFrame p x s := by
  have hp := portUp_lt hup
  have hup' : portUp (modPort p (fun e => { e with txQueue := queueTx x e.txQueue }) s) p = true := by
    rw [portUp_modPort hp rfl rfl, hup]
  have hqueue : (ethPort (modPort p (fun e => { e with txQueue := queueTx x e.txQueue }) s) p).txQueue =
      x :: (ethPort s p).txQueue := by rw [ethPort_modPort hp, hfirst]
  have huntil : ¬ countNow (modPort p (fun e => { e with txQueue := queueTx x e.txQueue }) s) <
      (ethPort (modPort p (fun e => { e with txQueue := queueTx x e.txQueue }) s) p).txUntil := by
    rw [ethPort_modPort hp]
    exact Nat.not_lt.2 hfree
  rw [sendFrame, if_pos hup]
  unfold pumpPort
  rw [hqueue]
  simp only [hup', Bool.not_true, Bool.false_eq_true, if_false, if_neg huntil, modPort_modPort]
  rw [modPort_self rfl]

theorem sendFrame_urgent {p : Nat} {x : TxFrame} {s : State} (h : FreeForEvents p s) (hx : x.urgent = true) :
    sendFrame p x s = beginFrame p x s := by
  obtain ⟨hup, hfree, hq⟩ := h
  exact sendFrame_begins hup hfree (queueTx_urgent hx hq)

theorem sendFrame_idle {p : Nat} {x : TxFrame} {s : State} (h : Idle p s) : sendFrame p x s = beginFrame p x s := by
  obtain ⟨hup, hfree, hq⟩ := h
  refine sendFrame_begins hup hfree ?_
  cases hx : x.urgent <;> simp [queueTx, hx, hq]

/-- A busy transmitter finishes its frame first. -/
theorem sendFrame_busy {p : Nat} {x : TxFrame} {s : State} (hup : portUp s p = true)
    (hbusy : countNow s < (ethPort s p).txUntil) :
    sendFrame p x s = modPort p (fun e => { e with txQueue := queueTx x e.txQueue }) s := by
  have hp := portUp_lt hup
  have hup' : portUp (modPort p (fun e => { e with txQueue := queueTx x e.txQueue }) s) p = true := by
    rw [portUp_modPort hp rfl rfl, hup]
  have huntil : countNow (modPort p (fun e => { e with txQueue := queueTx x e.txQueue }) s) <
      (ethPort (modPort p (fun e => { e with txQueue := queueTx x e.txQueue }) s) p).txUntil := by
    rw [ethPort_modPort hp]
    exact hbusy
  rw [sendFrame, if_pos hup]
  unfold pumpPort
  split
  · rfl
  · simp only [hup', Bool.not_true, Bool.false_eq_true, if_false, if_pos huntil]

end Sys2Proof.Machine
end

section
/-! The PTP messages that ports send, settled (O20). -/

namespace Sys2Proof.Machine

theorem changesOnly_sendFrame (p : Nat) (x : TxFrame) (s : State) : ChangesOnly [.ports, .tx] s (sendFrame p x s) := by
  unfold sendFrame
  split
  · exact ((changesOnly_modPort _ _ _).comp (changesOnly_pumpPort _ _)).mono (by simp)
  · exact .refl _ s

/-- A port is changed and a frame given to a port. -/
theorem changesOnly_sendFrame_modPort (p : Nat) (x : TxFrame) (q : Nat) (f : EthPort → EthPort) (s : State) :
    ChangesOnly [.ports, .tx] s (sendFrame p x (modPort q f s)) :=
  ((changesOnly_modPort _ _ _).comp (changesOnly_sendFrame _ _ _)).mono (by simp)

theorem FrameLeft.settle {p dest : Nat} {what : EthPayload} {s t : State} (o : State) (h : FrameLeft p dest what s t) :
    FrameLeft p dest what s (Machine.settle o t) :=
  h.congr rfl rfl rfl (settle_tx o t) (by rw [ethPort_settle])

theorem egressStamp_modPort {p : Nat} (hp : p < 6) {f : EthPort → EthPort} {s : State}
    (hf : (f (ethPort s p)).speed = (ethPort s p).speed) : egressStamp (modPort p f s) p = egressStamp s p := by
  rw [egressStamp, corrections_modPort hp hf]
  rfl

/-- What giving a frame to a port hangs on. -/
structure SameTransmitter (e f : EthPort) : Prop where
  link : f.link = e.link
  down : f.down = e.down
  speed : f.speed = e.speed
  txQueue : f.txQueue = e.txQueue
  txUntil : f.txUntil = e.txUntil
  framesTx : f.counters.framesTx = e.counters.framesTx
  oneStep : f.counters.oneStep = e.counters.oneStep

section
variable {p : Nat} {f : EthPort → EthPort} {s : State}

theorem FreeForEvents.modPort (h : FreeForEvents p s) (hf : SameTransmitter (ethPort s p) (f (ethPort s p))) :
    FreeForEvents p (Machine.modPort p f s) := by
  obtain ⟨hup, hfree, hq⟩ := h
  have hp := portUp_lt hup
  refine ⟨by rw [portUp_modPort hp hf.link hf.down, hup], ?_, ?_⟩
  · rw [ethPort_modPort hp, hf.txUntil]
    exact hfree
  · rw [ethPort_modPort hp, hf.txQueue]
    exact hq

theorem Idle.modPort (h : Idle p s) (hf : SameTransmitter (ethPort s p) (f (ethPort s p))) :
    Idle p (Machine.modPort p f s) := by
  obtain ⟨hup, hfree, hq⟩ := h
  have hp := portUp_lt hup
  refine ⟨by rw [portUp_modPort hp hf.link hf.down, hup], ?_, ?_⟩
  · rw [ethPort_modPort hp, hf.txUntil]
    exact hfree
  · rw [ethPort_modPort hp, hf.txQueue, hq]

theorem FrameLeft.after_modPort {dest : Nat} {what : EthPayload} {t : State} (hp : p < 6)
    (hf : SameTransmitter (ethPort s p) (f (ethPort s p))) (h : FrameLeft p dest what (Machine.modPort p f s) t) :
    FrameLeft p dest what s t :=
  h.congr rfl rfl (by rw [ethPort_modPort hp, hf.framesTx]) rfl rfl

end

/-- An event message that answers or begins an exchange, one-step. -/
theorem sendFrame_oneStep {p : Nat} {x : TxFrame} {m : PtpMsg} {c : Option Nat} {u : State} (h : FreeForEvents p u)
    (hx : x.urgent = true) (hwhat : x.what = .ptp m c) (hk : m.kind = .sync ∨ m.kind = .pdelayResp)
    (hone : bitAt (ptpBlock u) (48 + p) = false ∨ 8 ≤ stampsHeld (ethPort u p)) :
    FrameLeft p x.dest (ptpPayload u p m (oneStepForm m x.ingress (egressStamp u p))) u (sendFrame p x u) ∧
      (ethPort (sendFrame p x u) p).counters.oneStep = bump (ethPort u p).counters.oneStep := by
  have hp := portUp_lt h.1
  rw [sendFrame_urgent h hx, beginFrame_ptp hwhat, startPtp_oneStep hk hone]
  refine ⟨frameLeft_modPort_ptpOut hp _ _ _ (by exact fun _ => rfl) u, ?_⟩
  rw [ethPort_modPort hp, ethPort_ptpOut hp]

/-- The same two-step: the follow-up message waits. -/
theorem sendFrame_twoStep {p : Nat} {x : TxFrame} {m : PtpMsg} {c : Option Nat} {u : State} (h : FreeForEvents p u)
    (hx : x.urgent = true) (hwhat : x.what = .ptp m c) (hk : m.kind = .sync ∨ m.kind = .pdelayResp)
    (hbit : bitAt (ptpBlock u) (48 + p) = true) (hroom : stampsHeld (ethPort u p) < 8) :
    FrameLeft p x.dest (ptpPayload u p (twoStepForm m x.ingress) (twoStepForm m x.ingress)) u (sendFrame p x u) ∧
      (ethPort (sendFrame p x u) p).txQueue = (ethPort u p).txQueue ++ [followFrame p m u] := by
  have hp := portUp_lt h.1
  rw [sendFrame_urgent h hx, beginFrame_ptp hwhat, startPtp_twoStep hk hbit hroom]
  refine ⟨frameLeft_modPort_ptpOut hp _ _ _ (by exact fun _ => rfl) u, ?_⟩
  rw [ethPort_modPort hp, ethPort_ptpOut hp]

/-- A general message leaves an idle port at once. -/
theorem sendPtp_general {p : Nat} {m : PtpMsg} {u : State} (h : Idle p u) (hk : m.kind = .announce ∨ m.kind = .delayResp) :
    FrameLeft p m.dest.mac (ptpPayload u p m m) u (sendPtp p m u) := by
  rw [sendPtp, sendFrame_idle h, beginFrame_ptp rfl, startPtp_general hk]
  exact frameLeft_ptpOut (portUp_lt h.1) _ _ _ u

/-- A port's stamps are those of its queue and of its exchange. -/
theorem stampsHeld_congr {e f : EthPort} (hq : f.txQueue = e.txQueue) (hx : f.exchange = e.exchange) :
    stampsHeld f = stampsHeld e := by
  rw [stampsHeld, hq, hx, stampsHeld]

/-! ## The Sync of a MASTER port -/

/-- The Sync that a port sends. -/
def syncOf (s : State) (p : Nat) : PtpMsg := { ownMsg s p .sync (ethPort s p).seqSync with rateOffset := sentRateOffset s }

/-- The Sync as it is given to the port. -/
def syncFrame (s : State) (p : Nat) : TxFrame :=
  { dest := (syncOf s p).dest.mac, what := .ptp (syncOf s p) none, urgent := true, ingress := 0 }

/-- A port that has made its Sync. -/
def syncMade (s : State) (e : EthPort) : EthPort :=
  { e with sentSync := now s, seqSync := (e.seqSync + 1) % 65536 }

theorem execPtpSyncInterval_due {p n : Nat} {s : State} (ha : awake s = true) (hup : portUp s p = true)
    (hon : ptpOn s p = true) (hmaster : isMaster s p = true) (hvalid : s.time.valid = true)
    (hint : syncInterval s p = some n) (hdue : (ethPort s p).sentSync + n ≤ now s) :
    execPtpSyncInterval p s = answer s (sendFrame p (syncFrame s p) (modPort p (syncMade s) s)) := by
  have hgo : (portUp s p && ptpOn s p && isMaster s p && (s.time.valid || (slavePort s).isSome) &&
      intervalPassed s (ethPort s p).sentSync (syncInterval s p)) = true := by
    simp [hup, hon, hmaster, hvalid, hint, intervalPassed, hdue]
  unfold execPtpSyncInterval awakeAnswer
  rw [if_pos ha]
  simp only [hgo, Bool.not_true, Bool.false_eq_true, if_false]
  rfl

theorem sameTransmitter_syncMade (s : State) (e : EthPort) : SameTransmitter e (syncMade s e) :=
  ⟨rfl, rfl, rfl, rfl, rfl, rfl, rfl⟩

/-- What a due Sync brings about, by the transmitter's state. -/
theorem syncIsSent (p : Nat) (s : State) {n : Nat} (ha : awake s = true) (hup : portUp s p = true) (hon : ptpOn s p = true)
    (hmaster : isMaster s p = true) (hvalid : s.time.valid = true) (hint : syncInterval s p = some n)
    (hdue : (ethPort s p).sentSync + n ≤ now s) : Completes (.ptpSyncInterval p) s fun t =>
      let e := egressStamp s p
      let sync := syncOf s p
      let stamped : PtpMsg := { (sync : PtpMsg) with timestamp := e / nsUnits * nsUnits, correction := (e % nsUnits : Nat) }
      (FreeForEvents p s → bitAt (ptpBlock s) (48 + p) = false ∨ 8 ≤ stampsHeld (ethPort s p) →
        FrameLeft p sync.dest.mac (ptpPayload s p sync stamped) s t ∧
        (ethPort t p).counters.oneStep = bump (ethPort s p).counters.oneStep) ∧
      (FreeForEvents p s → bitAt (ptpBlock s) (48 + p) = true → stampsHeld (ethPort s p) < 8 →
        FrameLeft p sync.dest.mac (ptpPayload s p { (sync : PtpMsg) with twoStep := true } { (sync : PtpMsg) with twoStep := true }) s t ∧
        ∃ y : TxFrame, (ethPort t p).txQueue = (ethPort s p).txQueue ++ [y] ∧
          y.what = .ptp { (stamped : PtpMsg) with kind := .followUp, dest := ptpDest s .followUp } none) ∧
      (countNow s < (ethPort s p).txUntil → t.tx = s.tx ∧
        ∃ y : TxFrame, y.what = .ptp sync none ∧ (ethPort t p).txQueue =
          (ethPort s p).txQueue.takeWhile (·.urgent) ++ y :: (ethPort s p).txQueue.dropWhile (·.urgent)) ∧
      ChangesOnly [.ports, .tx] s t := by
  have hp := portUp_lt hup
  have hsame := sameTransmitter_syncMade s (ethPort s p)
  have hport : ethPort (modPort p (syncMade s) s) p = syncMade s (ethPort s p) := ethPort_modPort hp _ s
  have hheld : stampsHeld (ethPort (modPort p (syncMade s) s) p) = stampsHeld (ethPort s p) := by
    rw [hport]
    exact stampsHeld_congr rfl rfl
  have hegress : egressStamp (modPort p (syncMade s) s) p = egressStamp s p := egressStamp_modPort hp rfl
  refine completes_of_answer ((exec_ptpSyncInterval p s).trans
    (execPtpSyncInterval_due ha hup hon hmaster hvalid hint hdue)) ?_
  refine ⟨fun hfree hone => ?_, fun hfree hbit hroom => ?_, fun hbusy => ?_,
    (changesOnly_sendFrame_modPort _ _ _ _ s).settle s⟩
  · obtain ⟨hleft, hcount⟩ := sendFrame_oneStep (x := syncFrame s p) (hfree.modPort hsame) rfl rfl (.inl rfl) (hone.imp id fun h => hheld ▸ h)
    rw [ethPort_settle]
    refine ⟨?_, hcount.trans (by rw [hport]; rfl)⟩
    rw [hegress, syncFrame] at hleft
    have hform : oneStepForm (syncOf s p) 0 (egressStamp s p) = { syncOf s p with
        timestamp := egressStamp s p / nsUnits * nsUnits, correction := (egressStamp s p % nsUnits : Nat) } := by
      simp [oneStepForm, syncOf, ownMsg]
    rw [hform] at hleft
    exact (hleft.after_modPort hp hsame).settle s
  · obtain ⟨hleft, hqueue⟩ := sendFrame_twoStep (x := syncFrame s p) (hfree.modPort hsame) rfl rfl (.inl rfl) hbit (hheld ▸ hroom)
    rw [ethPort_settle]
    refine ⟨(hleft.after_modPort hp hsame).settle s, _, hqueue.trans (by rw [hport]; rfl), ?_⟩
    simp [followFrame, followUpOf, hegress, syncOf, ownMsg]
    rfl
  · have hup' : portUp (modPort p (syncMade s) s) p = true := by rw [portUp_modPort hp rfl rfl, hup]
    have hbusy' : countNow (modPort p (syncMade s) s) < (ethPort (modPort p (syncMade s) s) p).txUntil := by
      rw [hport]
      exact hbusy
    rw [sendFrame_busy hup' hbusy', ethPort_settle, settle_tx, ethPort_modPort hp, hport]
    exact ⟨rfl, _, rfl, rfl⟩

end Sys2Proof.Machine
end

section
/-! Requests, general messages and answers that ports send, and the Follow_Up that a Sync leaves behind it. -/

namespace Sys2Proof.Machine

/-! ## What a port carries hangs on settings, domains and the port itself -/

theorem ChangesOnly.setting_eq {l : List Part} {s t : State} (h : ChangesOnly l s t) (hl : Part.settings ∉ l) (op idx : Nat) :
    Machine.setting t op idx = Machine.setting s op idx := by
  have hset : t.settings = s.settings := h .settings hl
  rw [Machine.setting, hset, Machine.setting]

theorem ChangesOnly.dev_state {l : List Part} {s t : State} (h : ChangesOnly l s t) (hl : Part.device ∉ l) :
    t.dev.state = s.dev.state := by
  have hdev : Part.device.same s t := h .device hl
  have hstate := congrArg Dev.state hdev
  exact hstate

theorem ChangesOnly.dev_posture {l : List Part} {s t : State} (h : ChangesOnly l s t) (hl : Part.device ∉ l) :
    t.dev.posture = s.dev.posture := by
  have hdev : Part.device.same s t := h .device hl
  have hposture := congrArg Dev.posture hdev
  exact hposture

theorem portUp_of_frame {s t : State} {p : Nat} (h : ChangesOnly [.ports, .time, .patrol, .tx] s t)
    (hlink : (ethPort t p).link = (ethPort s p).link) (hdown : (ethPort t p).down = (ethPort s p).down) :
    portUp t p = portUp s p := by
  have hset : t.settings = s.settings := h .settings (by simp)
  have hstate := h.dev_state (by simp)
  have hposture := h.dev_posture (by simp)
  have hpower : t.power = s.power := h .power (by simp)
  have hplans : t.plans = s.plans := h .plans (by simp)
  have hpeers : t.peers = s.peers := h .peers (by simp)
  simp only [portUp, portPowered, portInterface, ioClocked, inSentry, ptpOn, ptpProfile, ptpMask, ptpBlock, lidarOnPort,
    variantFit, activeSlot, atideOnPort, roleOf, regionEnabled, isSet, setting, hset, hstate, hposture, hpower, hplans, hpeers, hlink, hdown]
  rfl

/-! ## An exchange that ends without a response (R114, Table 4.9) -/

/-- A port whose peer-delay exchange has failed. -/
def pdelayFailed (e : EthPort) : EthPort :=
  { e with
    exchange := none, pdelayFailRun := e.pdelayFailRun + 1, asCapable := e.asCapable && !decide (3 ≤ e.pdelayFailRun + 1),
    counters := { e.counters with pdelayFails := bump e.counters.pdelayFails } }

theorem failPdelay_eq (p : Nat) (s : State) : failPdelay p s =
    if decide (3 ≤ (ethPort s p).pdelayFailRun + 1) = true then
      runBmca (if isSlave s p then losePtp (modPort p pdelayFailed s) else modPort p pdelayFailed s)
    else modPort p pdelayFailed s := by
  have hcongr : modPort p (fun e => { e with
      exchange := none, pdelayFailRun := e.pdelayFailRun + 1,
      asCapable := e.asCapable && !decide (3 ≤ (ethPort s p).pdelayFailRun + 1),
      counters := { e.counters with pdelayFails := bump e.counters.pdelayFails } }) s = modPort p pdelayFailed s :=
    modPort_congr rfl
  rw [← hcongr]
  rfl

/-- The BMCA, after the source is lost where a SLAVE port lost it. -/
theorem bmcaAfterLoss {p : Nat} (hp : p < 6) (lost : Bool) (s : State) :
    SameMeasurements (ethPort s p) (ethPort (runBmca (if lost then losePtp s else s)) p) ∧
      SameClock s (runBmca (if lost then losePtp s else s)) ∧
      ChangesOnly [.ports, .time, .patrol] s (runBmca (if lost then losePtp s else s)) := by
  cases lost with
  | false => exact ⟨sameMeasurements_runBmca hp s, sameClock_runBmca s, changesOnly_runBmca s⟩
  | true =>
    exact ⟨sameMeasurements_runBmca_losePtp hp s, (sameClock_losePtp s).trans (sameClock_runBmca _), changesOnly_runBmca_losePtp s⟩

theorem sameClock_modPort (p : Nat) (f : EthPort → EthPort) (s : State) : SameClock s (modPort p f s) := ⟨rfl, rfl⟩

theorem failPdelay_port {p : Nat} (hp : p < 6) (s : State) :
    SameMeasurements (pdelayFailed (ethPort s p)) (ethPort (failPdelay p s) p) ∧ SameClock s (failPdelay p s) ∧
      ChangesOnly [.ports, .time, .patrol] s (failPdelay p s) := by
  have hport : ethPort (modPort p pdelayFailed s) p = pdelayFailed (ethPort s p) := ethPort_modPort hp _ s
  have hmod : ChangesOnly [.ports, .time, .patrol] s (modPort p pdelayFailed s) :=
    (changesOnly_modPort p _ s).mono (by simp)
  rw [failPdelay_eq, ← hport]
  split
  · obtain ⟨hsame, hclock, hframe⟩ := bmcaAfterLoss hp (isSlave s p) (modPort p pdelayFailed s)
    exact ⟨hsame, (sameClock_modPort _ _ _).trans hclock, hmod.step hframe⟩
  · exact ⟨sameMeasurements_refl _, sameClock_modPort _ _ _, hmod⟩

/-! ## The delay request (Table 4.7, R119) -/

/-- The state with a peer-delay exchange that had no response failed. -/
def exchangeClosed (p : Nat) (s : State) : State := if unanswered s p then failPdelay p s else s

theorem exchangeClosed_port {p : Nat} (hp : p < 6) (s : State) :
    SameTransmitter (ethPort s p) (ethPort (exchangeClosed p s) p) ∧
      (ethPort (exchangeClosed p s) p).counters.txStampMissed = (ethPort s p).counters.txStampMissed ∧
      (unanswered s p = true →
        (ethPort (exchangeClosed p s) p).counters.pdelayFails = bump (ethPort s p).counters.pdelayFails) ∧
      SameClock s (exchangeClosed p s) ∧ (unanswered s p = false → exchangeClosed p s = s) ∧
      ChangesOnly [.ports, .time, .patrol] s (exchangeClosed p s) := by
  unfold exchangeClosed
  split
  case isTrue hun =>
    obtain ⟨hsame, hclock, hframe⟩ := failPdelay_port hp s
    have hcounters := hsame.counters
    refine ⟨⟨hsame.link, hsame.down, hsame.speed, hsame.txQueue, hsame.txUntil, ?_, ?_⟩, ?_, fun _ => ?_, hclock,
      fun h => absurd (hun.symm.trans h) (by simp), hframe⟩
    all_goals rw [hcounters]; rfl
  case isFalse hun =>
    exact ⟨⟨rfl, rfl, rfl, rfl, rfl, rfl, rfl⟩, rfl, fun h => absurd h hun, ⟨rfl, rfl⟩, fun _ => rfl, .refl _ s⟩

/-- A port that has begun an exchange. -/
def exchangeBegun (s : State) (p : Nat) (e : EthPort) : EthPort :=
  { e with
    sentDelay := now s, seqDelay := (e.seqDelay + 1) % 65536,
    exchange := some { seqId := (ethPort s p).seqDelay % 65536, egress := none, sentAt := now s, response := none } }

/-- The state in which the request goes to the port. -/
def requestState (s : State) (p : Nat) : State := modPort p (exchangeBegun s p) (exchangeClosed p s)

/-- The delay request that a port sends. -/
def requestOf (s : State) (p : Nat) : PtpMsg :=
  ownMsg s p (if peerDelay s then .pdelayReq else .delayReq) (ethPort s p).seqDelay

/-- The request as it is given to the port. -/
def requestFrame (s : State) (p : Nat) : TxFrame :=
  { dest := (requestOf s p).dest.mac, what := .ptp (requestOf s p) none, urgent := eventKind (requestOf s p).kind, ingress := 0 }

theorem requestOf_kind (s : State) (p : Nat) : (requestOf s p).kind = .delayReq ∨ (requestOf s p).kind = .pdelayReq := by
  have hkind : (requestOf s p).kind = if peerDelay s then .pdelayReq else .delayReq := rfl
  rw [hkind]
  split
  · exact .inr rfl
  · exact .inl rfl

theorem execPtpDelayInterval_due {p n : Nat} {s : State} (ha : awake s = true) (hup : portUp s p = true)
    (hon : ptpOn s p = true) (hrole : peerDelay s = true ∨ isSlave s p = true) (hint : delayInterval s p = some n)
    (hdue : (ethPort s p).sentDelay + n ≤ now s) : execPtpDelayInterval p s =
      answer s (sendFrame p (requestFrame s p) (requestState s p)) := by
  have hgo : (portUp s p && ptpOn s p && (if peerDelay s then intervalPassed s (ethPort s p).sentDelay (delayInterval s p)
      else isSlave s p && intervalPassed s (ethPort s p).sentDelay ((delayInterval s p).map (fun n => n * 7 / 10)))) = true := by
    have hshort : (ethPort s p).sentDelay + n * 7 / 10 ≤ now s := le_trans (Nat.add_le_add_left (by omega) _) hdue
    cases hpeer : peerDelay s with
    | true => simp [hup, hon, hint, intervalPassed, hdue]
    | false =>
      have hslave : isSlave s p = true := hrole.resolve_left (by simp [hpeer])
      simp [hup, hon, hint, intervalPassed, hslave, hshort]
  unfold execPtpDelayInterval awakeAnswer
  rw [if_pos ha]
  simp only [hgo, Bool.not_true, Bool.false_eq_true, if_false]
  rfl

theorem freeForEvents_requestState {p : Nat} {s : State} (h : FreeForEvents p s) : FreeForEvents p (requestState s p) := by
  have hp := portUp_lt h.1
  obtain ⟨hsame, -, -, hclock, -, hframe⟩ := exchangeClosed_port hp s
  obtain ⟨hup, hfree, hq⟩ := h
  refine FreeForEvents.modPort ⟨?_, ?_, ?_⟩ ⟨rfl, rfl, rfl, rfl, rfl, rfl, rfl⟩
  · rw [portUp_of_frame (hframe.mono (by simp)) hsame.link hsame.down, hup]
  · rw [hsame.txUntil, hclock.2]
    exact hfree
  · rw [hsame.txQueue]
    exact hq

theorem stampsHeld_requestState {p : Nat} (hp : p < 6) (s : State) :
    stampsHeld (ethPort (requestState s p) p) = ((ethPort s p).txQueue.filter TxFrame.followUp).length := by
  obtain ⟨hsame, -⟩ := exchangeClosed_port hp s
  rw [requestState, ethPort_modPort hp, stampsHeld]
  simp [exchangeBegun, hsame.txQueue, flag]

/-- What a due delay request brings about. -/
theorem requestIsSent (p : Nat) (s : State) {n : Nat} (ha : awake s = true) (hfree : FreeForEvents p s)
    (hon : ptpOn s p = true) (hrole : peerDelay s = true ∨ isSlave s p = true) (hint : delayInterval s p = some n)
    (hdue : (ethPort s p).sentDelay + n ≤ now s) : Completes (.ptpDelayInterval p) s fun t =>
      let lost := 8 ≤ ((ethPort s p).txQueue.filter TxFrame.followUp).length
      let req := requestOf s p
      FrameLeft p req.dest.mac (ptpPayload s p req req) s t ∧
      (∃ x, (ethPort t p).exchange = some x ∧ x.seqId = req.seqId ∧ (lost → x.egress = none) ∧
        (¬ lost → x.egress = some (egressStamp s p))) ∧
      (lost → (ethPort t p).counters.txStampMissed = bump (ethPort s p).counters.txStampMissed) ∧
      (unanswered s p = true → (ethPort t p).counters.pdelayFails = bump (ethPort s p).counters.pdelayFails) ∧
      (unanswered s p = false → ChangesOnly [.ports, .tx] s t) ∧ ChangesOnly [.ports, .tx, .time, .patrol] s t := by
  have hup := hfree.1
  have hp := portUp_lt hup
  have hurgent : (requestFrame s p).urgent = true := by
    unfold requestFrame
    rcases requestOf_kind s p with h | h <;> rw [h] <;> rfl
  refine completes_of_answer ((exec_ptpDelayInterval p s).trans (execPtpDelayInterval_due ha hup hon hrole hint hdue)) ?_
  obtain ⟨hsame, hmissed, hfails, hclock, hquiet, hframe⟩ := exchangeClosed_port hp s
  have hframe' : ChangesOnly [.ports, .time, .patrol] s (requestState s p) :=
    hframe.step ((changesOnly_modPort p _ _).mono (by simp))
  have hsend := changesOnly_sendFrame p (requestFrame s p) (requestState s p)
  have hport : ethPort (requestState s p) p = exchangeBegun s p (ethPort (exchangeClosed p s) p) := ethPort_modPort hp _ _
  have hegress : egressStamp (requestState s p) p = egressStamp s p := by
    have hcorr : corrections (requestState s p) p = corrections s p := by
      rw [corrections, corrections, hframe'.setting_eq (by simp), hport]
      exact congrArg _ (congrArg (p * 16 + ·) hsame.speed)
    rw [egressStamp, hcorr, egressStamp]
    exact congrArg (· + _) hclock.1
  have hset : (requestState s p).settings = s.settings := hframe' .settings (by simp)
  have htx : (requestState s p).tx = s.tx := hframe' .tx (by simp)
  have hpayload : ptpPayload (requestState s p) p (requestOf s p) (requestOf s p) =
      ptpPayload s p (requestOf s p) (requestOf s p) := by
    simp only [ptpPayload, portIpv4, portIpv6, hframe'.setting_eq (show Part.settings ∉ _ by simp)]
  rw [sendFrame_urgent (freeForEvents_requestState hfree) hurgent, beginFrame_ptp rfl,
    startPtp_request (requestOf_kind s p), stampsHeld_requestState hp, hegress] at hsend ⊢
  rw [ethPort_settle, ethPort_modPort hp, ethPort_ptpOut hp, hport]
  refine ⟨?_, ?_, fun hlost => ?_, fun hun => ?_, fun hun => ?_, ((hframe'.comp hsend).mono (by simp)).settle s⟩
  · refine FrameLeft.settle s ?_
    have hleft := frameLeft_modPort_ptpOut hp (requestFrame s p).dest (requestOf s p) (requestOf s p) (f := fun e =>
      if 8 ≤ ((ethPort s p).txQueue.filter TxFrame.followUp).length then
        { e with counters := { e.counters with txStampMissed := bump e.counters.txStampMissed } }
      else { e with exchange := e.exchange.map fun y =>
        if y.seqId = (requestOf s p).seqId then { y with egress := some (egressStamp s p) } else y })
      (fun e => by split <;> rfl) (requestState s p)
    rw [hpayload] at hleft
    exact hleft.congr hset htx (by rw [hport]; exact hsame.framesTx) rfl rfl
  · by_cases hlost : 8 ≤ ((ethPort s p).txQueue.filter TxFrame.followUp).length
    · simp only [if_pos hlost]
      exact ⟨_, rfl, rfl, fun _ => rfl, fun h => absurd hlost h⟩
    · simp only [if_neg hlost]
      refine ⟨{ seqId := (ethPort s p).seqDelay % 65536, egress := some (egressStamp s p), sentAt := now s, response := none },
        ?_, rfl, fun h => absurd h hlost, fun _ => rfl⟩
      exact congrArg some (if_pos rfl)
  · simp only [if_pos hlost]
    exact congrArg bump hmissed
  · split <;> exact hfails hun
  · have hports : ChangesOnly [.ports] s (requestState s p) := by
      rw [requestState, hquiet hun]
      exact changesOnly_modPort p _ s
    exact ((hports.comp hsend).mono (by simp)).settle s

end Sys2Proof.Machine
end

section
/-! Announce, the answers to requests, and the Follow_Up that waits for its transmitter (O20). -/

namespace Sys2Proof.Machine

/-- What a frame that arrives leaves of the transmitter. -/
theorem sameTransmitter_ptpArrived (s : State) (p : Nat) (h : FrameHead) (e : EthPort) :
    SameTransmitter e (ptpArrived s p h e) := ⟨rfl, rfl, rfl, rfl, rfl, rfl, rfl⟩

/-- Whole nanoseconds and the rest make a stamp. -/
theorem stamp_parts (t : Dts) : ((t / nsUnits * nsUnits : Nat) : Int) + (t % nsUnits : Nat) = t := by
  have h := Nat.div_add_mod' t nsUnits
  exact_mod_cast h

/-! ## Announce (R115) -/

/-- The Announce that a port sends. -/
def announceOf (s : State) (p : Nat) : PtpMsg :=
  { ownMsg s p .announce (ethPort s p).seqAnnounce with
    gm := some (announced s).1, pathTrace := if ptpProfile s = 3 then (announced s).2 ++ [clockIdentity s] else [] }

/-- A port that has announced. -/
def announceMade (s : State) (e : EthPort) : EthPort :=
  { e with sentAnnounce := now s, seqAnnounce := (e.seqAnnounce + 1) % 65536 }

theorem execPtpAnnounceInterval_due {p n : Nat} {s : State} (ha : awake s = true) (hup : portUp s p = true)
    (hon : ptpOn s p = true) (hmaster : isMaster s p = true) (hint : announceInterval s p = some n)
    (hdue : (ethPort s p).sentAnnounce + n ≤ now s) : execPtpAnnounceInterval p s =
      answer s (sendPtp p (announceOf s p) (modPort p (announceMade s) s)) := by
  have hgo : (portUp s p && ptpOn s p && isMaster s p &&
      intervalPassed s (ethPort s p).sentAnnounce (announceInterval s p)) = true := by
    simp [hup, hon, hmaster, hint, intervalPassed, hdue]
  unfold execPtpAnnounceInterval awakeAnswer
  rw [if_pos ha]
  simp only [hgo, Bool.not_true, Bool.false_eq_true, if_false]
  rfl

/-- Without a SLAVE port the T48 announces its own values. -/
theorem announced_own {s : State} (h : slavePort s = none) :
    (announced s).1.clockClass = ownClockClass s ∧ (announced s).1.stepsRemoved = 0 := by
  unfold announced
  rw [h]
  exact ⟨rfl, rfl⟩

/-! ## The answers to requests (R116, R118 to R120) -/

section
variable {p : Nat} {m : PtpMsg} {h : FrameHead} {s : State}

/-- The answer to a Delay_Req. -/
def delayRespOf (s : State) (p : Nat) (m : PtpMsg) (t4 : Dts) : PtpMsg :=
  { ownMsg s p .delayResp m.seqId with
    timestamp := t4 / nsUnits * nsUnits, correction := m.correction - (t4 % nsUnits : Nat), requester := m.source }

theorem delayReqIsAnswered (ht : PtpTaken p .delayReq m h s) (hidle : Idle p s) (hmaster : isMaster s p = true)
    (hprof : ptpProfile s = 1) : Completes (.ptpDelayReqReceived p m h) s fun t =>
      (∃ a : PtpMsg, FrameLeft p a.dest.mac (ptpPayload s p a a) s t ∧ a.kind = .delayResp ∧ a.requester = m.source ∧
        a.seqId = m.seqId % 65536 ∧ (a.timestamp : Int) - a.correction = ingressStamp s p h - m.correction) ∧
      ChangesOnly [.ports, .tx] s t := by
  have hp := portUp_lt hidle.1
  have hwant : (isMaster (modPort p (arrived s p h) s) p && ptpProfile (modPort p (arrived s p h) s) == 1) = true := by
    rw [isMaster, ethPort_modPort hp]
    exact Bool.and_eq_true_iff.2 ⟨hmaster, beq_iff_eq.2 hprof⟩
  refine completes_of_answer ((exec_ptpDelayReqReceived p m h s).trans (ptpReceived_taken _ ht hwant)) ?_
  rw [ingressStamp_modPort hp h rfl]
  refine ⟨⟨delayRespOf s p m (ingressStamp s p h), ?_, rfl, rfl, rfl, ?_⟩,
    (changesOnly_sendFrame_modPort _ _ _ _ s).settle s⟩
  · have hsame := sameTransmitter_ptpArrived s p h (ethPort s p)
    have hleft := sendPtp_general (m := delayRespOf s p m (ingressStamp s p h)) (hidle.modPort hsame) (.inr rfl)
    exact (hleft.after_modPort hp hsame).settle s
  · have hparts := stamp_parts (ingressStamp s p h)
    simp only [delayRespOf]
    omega

/-- The answer to a Pdelay_Req, as it is given to the port. -/
def pdelayRespOf (s : State) (p : Nat) (m : PtpMsg) : PtpMsg :=
  { ownMsg s p .pdelayResp m.seqId with requester := m.source, correction := m.correction }

def pdelayRespFrame (s : State) (p : Nat) (m : PtpMsg) (t2 : Dts) : TxFrame :=
  { dest := (pdelayRespOf s p m).dest.mac, what := .ptp (pdelayRespOf s p m) none, urgent := true, ingress := t2 }

theorem pdelayReqIsAnswered (ht : PtpTaken p .pdelayReq m h s) (hfree : FreeForEvents p s) (hpeer : peerDelay s = true) :
    Completes (.ptpPdelayReqReceived p m h) s fun t =>
      (bitAt (ptpBlock s) (48 + p) = false ∨ 8 ≤ stampsHeld (ethPort s p) → ∃ a b : PtpMsg,
        FrameLeft p a.dest.mac (ptpPayload s p b a) s t ∧ a.kind = .pdelayResp ∧
        a.twoStep = false ∧ a.requester = m.source ∧ a.timestamp = 0 ∧
        a.correction = m.correction + (egressStamp s p : Int) - (ingressStamp s p h : Int)) ∧
      (bitAt (ptpBlock s) (48 + p) = true → stampsHeld (ethPort s p) < 8 → ∃ (a b : PtpMsg) (y : TxFrame),
        FrameLeft p a.dest.mac (ptpPayload s p a a) s t ∧ (ethPort t p).txQueue = (ethPort s p).txQueue ++ [y] ∧
        y.what = .ptp b none ∧ a.kind = .pdelayResp ∧ a.twoStep = true ∧ b.kind = .pdelayRespFollowUp ∧ b.requester = m.source ∧
        ((b.timestamp : Int) + b.correction) - a.timestamp + a.correction =
          m.correction + (egressStamp s p : Int) - (ingressStamp s p h : Int)) ∧ ChangesOnly [.ports, .tx] s t := by
  have hp := portUp_lt hfree.1
  have hsame := sameTransmitter_ptpArrived s p h (ethPort s p)
  have hegress : egressStamp (modPort p (ptpArrived s p h) s) p = egressStamp s p := egressStamp_modPort hp rfl
  have hheld : stampsHeld (ethPort (modPort p (ptpArrived s p h) s) p) = stampsHeld (ethPort s p) := by
    rw [ethPort_modPort hp]
    exact stampsHeld_congr rfl rfl
  refine completes_of_answer ((exec_ptpPdelayReqReceived p m h s).trans (ptpReceived_taken _ ht hpeer)) ?_
  rw [ingressStamp_modPort hp h rfl]
  refine ⟨fun hone => ?_, fun hbit hroom => ?_, (changesOnly_sendFrame_modPort _ _ _ _ s).settle s⟩
  · obtain ⟨hleft, -⟩ := sendFrame_oneStep (x := pdelayRespFrame s p m (ingressStamp s p h)) (hfree.modPort hsame) rfl rfl
      (.inr rfl) (hone.imp id fun hfull => hheld ▸ hfull)
    rw [hegress] at hleft
    refine ⟨oneStepForm (pdelayRespOf s p m) (ingressStamp s p h) (egressStamp s p), pdelayRespOf s p m,
      (hleft.after_modPort hp hsame).settle s, rfl, rfl, rfl, rfl, ?_⟩
    exact (Int.add_sub_assoc _ _ _).symm
  · obtain ⟨hleft, hqueue⟩ := sendFrame_twoStep (x := pdelayRespFrame s p m (ingressStamp s p h)) (hfree.modPort hsame) rfl rfl
      (.inr rfl) hbit (hheld ▸ hroom)
    rw [ethPort_modPort hp] at hqueue
    refine ⟨twoStepForm (pdelayRespOf s p m) (ingressStamp s p h), followUpOf (pdelayRespOf s p m) (egressStamp s p) (ptpDest s),
      followFrame p (pdelayRespOf s p m) (modPort p (ptpArrived s p h) s), (hleft.after_modPort hp hsame).settle s, ?_, ?_,
      rfl, rfl, rfl, rfl, ?_⟩
    · rw [ethPort_settle]
      exact hqueue
    · rw [followFrame, hegress]
      rfl
    · have hout := stamp_parts (egressStamp s p)
      have hin := stamp_parts (ingressStamp s p h)
      push_cast at hout hin
      simp [followUpOf, twoStepForm, pdelayRespOf, ownMsg]
      linarith

end

/-! ## The Follow_Up that waits (R119) -/

/-- What leaves one port leaves the others. -/
theorem ethPort_ptpOut_ne {p o : Nat} (ho : o ≠ p) (dest : Nat) (before after : PtpMsg) (s : State) :
    ethPort (ptpOut p dest before after s) o = ethPort s o := by
  rw [ptpOut, countPort, ethPort_modPort_ne ho]
  exact ethPort_modPort_ne ho _ s

/-- Of several ports only one has a frame that waits. -/
theorem pumpPorts_single {p : Nat} {u v : State} (hv : pumpPort p u = v) (hu : ∀ o, o < 6 → o ≠ p → (ethPort u o).txQueue = [])
    (hother : ∀ o, o ≠ p → ethPort v o = ethPort u o) (hp : p < 6) :
    (List.range 6).foldl (fun t o => pumpPort o t) u = v := by
  have hidle : ∀ (l : List Nat) (w : State), (∀ o ∈ l, (ethPort w o).txQueue = []) →
      l.foldl (fun t o => pumpPort o t) w = w := by
    intro l w
    induction l with
    | nil => intro _; rfl
    | cons o l ih =>
      intro hl
      rw [List.foldl_cons, pumpPort_idle (hl o List.mem_cons_self)]
      exact ih fun x hx => hl x (List.mem_cons_of_mem _ hx)
  obtain ⟨l, r, hsplit⟩ := List.append_of_mem (List.mem_range.2 hp)
  have hnodup : (l ++ p :: r).Nodup := hsplit ▸ List.nodup_range
  have hlt : ∀ o ∈ l ++ p :: r, o < 6 := fun o ho => List.mem_range.1 (hsplit ▸ ho)
  obtain ⟨-, hpr, hdisj⟩ := List.nodup_append.1 hnodup
  rw [hsplit, List.foldl_append, hidle l u fun o ho => hu o (hlt o (by simp [ho])) (hdisj o ho p List.mem_cons_self),
    List.foldl_cons, hv]
  refine hidle r v fun o ho => ?_
  have hne : o ≠ p := fun heq => (List.nodup_cons.1 hpr).1 (heq ▸ ho)
  rw [hother o hne, hu o (hlt o (by simp [ho])) hne]

/-- Counts that pass leave what a port carries, and the port, as they were. -/
theorem countUp_ports (n : Nat) (s : State) {p : Nat} : ethPort (noteLimit (setTime (countUp n) s)) p = ethPort s p ∧
    portUp (noteLimit (setTime (countUp n) s)) p = portUp s p := by
  have hframe := changesOnly_noteLimit_countUp n s
  have hport := ethPort_of_frame hframe (by simp) p
  exact ⟨hport, portUp_of_frame (hframe.mono (by simp)) (congrArg EthPort.link hport) (congrArg EthPort.down hport)⟩

/-- A follow-up message that waits first leaves once the transmitter is free. -/
theorem followUpIsSent {p n : Nat} {x : TxFrame} {q : List TxFrame} {b : PtpMsg} {s : State} (hrun : s.time.running = true)
    (hup : portUp s p = true) (hq : (ethPort s p).txQueue = x :: q) (hx : x.what = .ptp b none)
    (hk : b.kind = .followUp ∨ b.kind = .pdelayRespFollowUp) (hidle : ∀ o, o < 6 → o ≠ p → (ethPort s o).txQueue = [])
    (hego : s.align.degradedEgo = false) (hfree : (ethPort s p).txUntil ≤ (s.time.count + BitVec.ofNat 72 n).toNat) :
    Completes (.countIncrement n false) s fun t =>
      FrameLeft p x.dest (ptpPayload s p b b) s t ∧ (ethPort t p).txQueue = q ∧
      (ethPort t p).counters.followUps = bump (ethPort s p).counters.followUps := by
  have hp := portUp_lt hup
  refine completes_of_answer ((exec_countIncrement n false s).trans (execCountIncrement_running n false hrun)) ?_
  rw [if_neg Bool.false_ne_true, ethPort_settle]
  obtain ⟨hport, hup'⟩ := countUp_ports n s (p := p)
  have hothers : ∀ o, ethPort (noteLimit (setTime (countUp n) s)) o = ethPort s o := fun o => (countUp_ports n s).1
  have hframe := changesOnly_noteLimit_countUp n s
  have hcount : countNow (noteLimit (setTime (countUp n) s)) = (s.time.count + BitVec.ofNat 72 n).toNat := by
    rw [countNow, (noteLimit_counts _).1]
    exact congrArg BitVec.toNat (countUp_counts n s.time).1
  unfold countsPass
  generalize noteLimit (setTime (countUp n) s) = u at hport hup' hothers hframe hcount ⊢
  have hpump : pumpPort p u = modPort p (fun e => { e with counters := { e.counters with followUps := bump e.counters.followUps } })
      (ptpOut p x.dest b b (modPort p (fun e => { e with txQueue := q }) u)) := by
    unfold pumpPort
    rw [hport, hq]
    simp only [hup', hup, Bool.not_true, Bool.false_eq_true, if_false, if_neg (hcount ▸ Nat.not_lt.2 hfree)]
    rw [beginFrame_ptp hx, startPtp_followUp hk]
  rw [pumpPorts_single hpump (fun o ho hne => by rw [hothers, hidle o ho hne]) (fun o hne => by
    rw [ethPort_modPort_ne hne, ethPort_ptpOut_ne hne, ethPort_modPort_ne hne]) hp]
  have halign : u.align = s.align := hframe .align (by simp)
  have hset : u.settings = s.settings := hframe .settings (by simp)
  have htx : u.tx = s.tx := hframe .tx (by simp)
  have hstill : ∀ w : State, w.align = u.align → odometry n w = w := fun w hw => by
    unfold odometry
    rw [if_pos (by simp [hw, halign, hego])]
  rw [hstill _ (by exact rfl), ethPort_modPort hp, ethPort_ptpOut hp, ethPort_modPort hp]
  refine ⟨?_, rfl, congrArg (fun e => bump e.counters.followUps) hport⟩
  have hleft := frameLeft_modPort_ptpOut hp x.dest b b (f := fun e => { e with
    counters := { e.counters with followUps := bump e.counters.followUps } }) (fun _ => rfl)
    (modPort p (fun e => { e with txQueue := q }) u)
  have hpayload : ptpPayload (modPort p (fun e => { e with txQueue := q }) u) p b b = ptpPayload s p b b := by
    simp only [ptpPayload, portIpv4, portIpv6, setting, modPort, hset]
  rw [hpayload] at hleft
  exact (hleft.congr hset htx (by rw [ethPort_modPort hp, hport]) rfl rfl).settle s

/-- Settles O20: each message is given to the port's queue; `startPtp` completes it as it starts. -/
theorem ptpMessagesAreSent : Obligations.PtpMessagesAreSent := by
  unfold Obligations.PtpMessagesAreSent
  intro p m h s
  refine ⟨fun n ha hup hon hmaster hvalid hint hdue => syncIsSent p s ha hup hon hmaster hvalid hint hdue,
    fun n ha hfree hon hrole hint hdue => requestIsSent p s ha hfree hon hrole hint hdue,
    fun n ha hidle hon hmaster hint hdue => ?_, delayReqIsAnswered, pdelayReqIsAnswered,
    fun n x q b hrun hup hq hx hk hidle hego hfree => followUpIsSent hrun hup hq hx hk hidle hego hfree⟩
  have hp := portUp_lt hidle.1
  have hsame : SameTransmitter (ethPort s p) (announceMade s (ethPort s p)) := ⟨rfl, rfl, rfl, rfl, rfl, rfl, rfl⟩
  refine completes_of_answer ((exec_ptpAnnounceInterval p s).trans
    (execPtpAnnounceInterval_due ha hidle.1 hon hmaster hint hdue)) ?_
  refine ⟨⟨announceOf s p, ?_, rfl, rfl⟩, announced_own, (changesOnly_sendFrame_modPort _ _ _ _ s).settle s⟩
  exact ((sendPtp_general (hidle.modPort hsame) (.inl rfl)).after_modPort hp hsame).settle s

end Sys2Proof.Machine
end

section
/-! Frames that no exchange takes, receipt timeouts, links and the ports' configuration (O21, O22). -/

namespace Sys2Proof.Machine

/-! ## Frames that are counted (R29, R99, R100, R116, R117) -/

/-- A port with one more PTP message discarded. -/
def ptpDiscardedAt (e : EthPort) : EthPort :=
  { e with counters := { e.counters with ptpDiscarded := bump e.counters.ptpDiscarded } }

/-- A port with one more frame discarded. -/
def discardedAt (e : EthPort) : EthPort :=
  { e with counters := { e.counters with discarded := bump e.counters.discarded } }

theorem countPtpDiscarded_modPort (p : Nat) (f : EthPort → EthPort) (s : State) :
    countPtpDiscarded p (modPort p f s) = modPort p (fun e => ptpDiscardedAt (f e)) s := modPort_modPort p _ f s

theorem countDiscarded_modPort (p : Nat) (f : EthPort → EthPort) (s : State) :
    countDiscarded p (modPort p f s) = modPort p (fun e => discardedAt (f e)) s := modPort_modPort p _ f s

/-- A PTP message that does not fit, or that the port does not want, is discarded and counted. -/
theorem ptpReceived_discarded {p : Nat} {kind : PtpKind} {m : PtpMsg} {h : FrameHead} {s : State} {want : State → Bool}
    (f : State → State) (ht : FrameTaken p h s) (hon : ptpOn s p = true) (hk : m.kind = kind)
    (hno : ptpFits s p m = false ∨ want (modPort p (arrived s p h) s) = false) :
    ptpReceived p kind m h s want f = answer s (modPort p (fun e => ptpDiscardedAt (arrived s p h e)) s) := by
  have hon' : ptpOn (modPort p (arrived s p h) s) p = true := hon
  have hno' : (ptpFits (modPort p (arrived s p h) s) p m && want (modPort p (arrived s p h) s)) = false := by
    rcases hno with hfits | hwant
    · have hfits' : ptpFits (modPort p (arrived s p h) s) p m = false := hfits
      rw [hfits', Bool.false_and]
    · rw [hwant, Bool.and_false]
  unfold ptpReceived awakeAnswer
  rw [if_pos ht.1]
  beta_reduce
  rw [if_neg (by simp [hk]), frameIn_taken _ ht]
  simp only [hon', hno', Bool.not_true, Bool.false_eq_true, if_false, countPtpDiscarded_modPort]

theorem ptpMessageIsDiscarded {i : Instr} {p : Nat} {h : FrameHead} {s : State} (hp : p < 6)
    (hi : exec i s = answer s (modPort p (fun e => ptpDiscardedAt (arrived s p h e)) s)) : Completes i s fun t =>
      (ethPort t p).counters = { (ethPort s p).counters with
        framesRx := bump (ethPort s p).counters.framesRx,
        ptpDiscarded := bump (ethPort s p).counters.ptpDiscarded } ∧ ChangesOnly [.ports] s t := by
  refine completes_of_answer hi ⟨?_, (changesOnly_modPort p _ s).settle s⟩
  rw [ethPort_settle, ethPort_modPort hp]
  rfl

/-- A frame without room in the receive buffer. -/
theorem frameIn_full {p : Nat} {h : FrameHead} {s : State} (f : State → State) (hup : portUp s p = true)
    (hroom : rxRoom s p h = false) : frameIn p h s f = modPort p (fun e => { e with
      rxHeld := rxBefore s p h, counters := { e.counters with rxOverflow := bump e.counters.rxOverflow } }) s := by
  simp only [frameIn, hup, hroom, countPort, modPort_modPort, Bool.not_true, Bool.not_false, Bool.false_eq_true, if_false,
    if_true]

/-- A frame whose length or tag the port does not accept. -/
theorem frameIn_unfit {p : Nat} {h : FrameHead} {s : State} (f : State → State) (hup : portUp s p = true)
    (hroom : rxRoom s p h = true) (hfits : frameFits s p h = false) :
    frameIn p h s f = modPort p (fun e => discardedAt (arrived s p h e)) s := by
  simp only [frameIn, hup, hroom, hfits, countRx, countPort, modPort_modPort, Bool.not_true, Bool.false_eq_true, if_false]
  exact countDiscarded_modPort p (arrived s p h) s

section
variable {p : Nat} {h : FrameHead} {s : State} {i : Instr} {f : State → State} {g : EthPort → EthPort} {k : OtherFrame}

/-- What a frame of a kind that is only counted brings about. -/
theorem otherFrame_counted (hi : exec i s = awakeAnswer s fun s => frameIn p h s f) (ha : awake s = true) (hup : portUp s p = true)
    (hf : f (modPort p (arrived s p h) s) = modPort p (fun e => g (arrived s p h e)) s)
    (hg : k = .unaccepted ∧ g = discardedAt ∨ k = .ptpRefused ∧ g = ptpDiscardedAt) : Completes i s fun t => ChangesOnly [.ports] s t ∧
      (rxRoom s p h = false → (ethPort t p).counters.rxOverflow = bump (ethPort s p).counters.rxOverflow ∧
        (ethPort t p).rxHeld = (ethPort s p).rxHeld - h.drained) ∧
      (rxRoom s p h = true → (ethPort t p).rxHeld = (ethPort s p).rxHeld - h.drained + h.length ∧
        (ethPort t p).counters.framesRx = bump (ethPort s p).counters.framesRx ∧
        (frameFits s p h = false ∨ k = .unaccepted →
          (ethPort t p).counters.discarded = bump (ethPort s p).counters.discarded) ∧
        (frameFits s p h = true → k = .ptpRefused →
          (ethPort t p).counters.ptpDiscarded = bump (ethPort s p).counters.ptpDiscarded)) := by
  have hp := portUp_lt hup
  refine completes_of_awake hi ha ?_
  simp only [ethPort_settle]
  cases hroom : rxRoom s p h with
  | false =>
    rw [frameIn_full f hup hroom, ethPort_modPort hp]
    exact ⟨(changesOnly_modPort p _ s).settle s, fun _ => ⟨rfl, rfl⟩, nofun⟩
  | true =>
    cases hfits : frameFits s p h with
    | false =>
      rw [frameIn_unfit f hup hroom hfits, ethPort_modPort hp]
      exact ⟨(changesOnly_modPort p _ s).settle s, nofun, fun _ => ⟨rfl, rfl, fun _ => rfl, nofun⟩⟩
    | true =>
      rw [frameIn_taken f ⟨ha, hup, hroom, hfits⟩, hf, ethPort_modPort hp]
      refine ⟨(changesOnly_modPort p _ s).settle s, nofun, fun _ => ?_⟩
      rcases hg with ⟨rfl, rfl⟩ | ⟨rfl, rfl⟩
      · exact ⟨rfl, rfl, fun _ => rfl, nofun⟩
      · exact ⟨rfl, rfl, by simp, fun _ _ => rfl⟩

end

/-- The BMCA restarts an announce timeout or leaves it. -/
theorem lastAnnounce_bmcaTaken (s : State) (p : Nat) (e : EthPort) :
    (bmcaTaken s p e).lastAnnounce = now s ∨ (bmcaTaken s p e).lastAnnounce = e.lastAnnounce := by
  unfold bmcaTaken
  split
  · exact .inl rfl
  · exact .inr rfl

/-- A port with an Announce taken in. -/
def announcedAt (s : State) (g : GmData) (m : PtpMsg) (e : EthPort) : EthPort :=
  { e with announce := some { g with sender := m.source.1 }, pathTrace := m.pathTrace, lastAnnounce := now s }

theorem announceIsTaken {p : Nat} {m : PtpMsg} {h : FrameHead} {s : State} {g : GmData} (ht : PtpTaken p .announce m h s)
    (hrole : ptpRole s ≠ 3) (hgm : m.gm = some g) (hown : m.source.1 ≠ clockIdentity s) (hsteps : g.stepsRemoved < 255)
    (hpath : clockIdentity s ∉ m.pathTrace) : Completes (.ptpAnnounceReceived p m h) s fun t =>
      (ethPort t p).announce = some { g with sender := m.source.1 } ∧ (ethPort t p).lastAnnounce = now s ∧
      ChangesOnly [.ports, .time, .patrol] s t := by
  have hp := portUp_lt ht.1.2.1
  have hwant : (ptpRole (modPort p (arrived s p h) s) != 3) = true := bne_iff_ne.2 hrole
  refine completes_of_answer ((exec_ptpAnnounceReceived p m h s).trans (ptpReceived_taken _ ht hwant)) ?_
  have hkeep : ¬ (m.source.1 = clockIdentity (modPort p (ptpArrived s p h) s) ∨ 255 ≤ g.stepsRemoved ∨
      m.pathTrace.contains (clockIdentity (modPort p (ptpArrived s p h) s)) = true) := by
    rw [List.contains_iff_mem]
    exact not_or.2 ⟨hown, not_or.2 ⟨Nat.not_le.2 hsteps, hpath⟩⟩
  simp only [hgm, if_neg hkeep, modPort_modPort]
  change (fun t : State => (ethPort t p).announce = some { g with sender := m.source.1 } ∧ (ethPort t p).lastAnnounce = now s ∧
      ChangesOnly [.ports, .time, .patrol] s t)
    (settle s (runBmca (modPort p (fun e => announcedAt s g m (ptpArrived s p h e)) s)))
  set u := modPort p (fun e => announcedAt s g m (ptpArrived s p h e)) s
  have hport : ethPort u p = announcedAt s g m (ptpArrived s p h (ethPort s p)) := ethPort_modPort hp _ s
  have hframe : ChangesOnly [.ports, .time, .patrol] s u := (changesOnly_modPort p _ s).mono (by simp)
  rw [ethPort_settle]
  refine ⟨?_, ?_, (hframe.step (changesOnly_runBmca u)).settle s⟩
  · rw [(sameMeasurements_runBmca hp u).announce, hport]
    rfl
  · rw [ethPort_runBmca hp]
    rcases lastAnnounce_bmcaTaken u p (ethPort u p) with hnow | hkept
    · exact hnow
    · rw [hkept, hport]
      rfl

/-- The interval that a port uses after a request for one. -/
theorem askedInterval_spec (old : Option Int) (v : Int) : (v ≠ -128 → v ≠ 126 → askedInterval old v = some v) ∧
    (v = 126 → askedInterval old v = none) ∧ (v = -128 → askedInterval old v = old) := by
  unfold askedInterval
  refine ⟨fun h h' => by rw [if_neg h, if_neg h'], fun h => by subst h; rfl, fun h => if_pos h⟩

theorem signalingIsTaken {p : Nat} {m : PtpMsg} {h : FrameHead} {s : State} {a b c : Int} (ht : PtpTaken p .signaling m h s)
    (hint : m.intervals = some (a, b, c)) : Completes (.ptpSignalingReceived p m h) s fun t =>
      (a ≠ -128 → a ≠ 126 → (ethPort t p).signalled.1 = some a) ∧ (a = 126 → (ethPort t p).signalled.1 = none) ∧
      (a = -128 → (ethPort t p).signalled.1 = (ethPort s p).signalled.1) ∧ ChangesOnly [.ports] s t := by
  have hp := portUp_lt ht.1.2.1
  refine completes_of_answer ((exec_ptpSignalingReceived p m h s).trans (ptpReceived_taken _ ht rfl)) ?_
  simp only [hint, modPort_modPort, ethPort_settle, ethPort_modPort hp]
  obtain ⟨hother, hstop, hkeep⟩ := askedInterval_spec (ethPort s p).signalled.1 a
  exact ⟨hother, hstop, hkeep, (changesOnly_modPort p _ s).settle s⟩

/-- An address request, answered or discarded. -/
theorem addressRequestIsTaken {p : Nat} {h : FrameHead} {s : State} (ht : FrameTaken p h s) (ip target sender : Nat) :
    Completes (.arpRequest p ip target sender h) s fun t =>
      let mine := if ip = 4 then portIpv4 s p else portIpv6 s p
      (mine ≠ 0 ∧ target = mine → Idle p s → FrameLeft p sender (.answer ip mine) s t) ∧
      (mine = 0 ∨ target ≠ mine → t.tx = s.tx ∧
        (ethPort t p).counters.discarded = bump (ethPort s p).counters.discarded) ∧ ChangesOnly [.ports, .tx] s t := by
  have hp := portUp_lt ht.2.1
  refine completes_of_awake (exec_arpRequest p ip target sender h s) ht.1 ?_
  rw [frameIn_taken _ ht]
  have hmine : (if ip = 4 then portIpv4 (modPort p (arrived s p h) s) p else portIpv6 (modPort p (arrived s p h) s) p) =
      if ip = 4 then portIpv4 s p else portIpv6 s p := rfl
  simp only [hmine]
  generalize (if ip = 4 then portIpv4 s p else portIpv6 s p) = mine
  by_cases hask : mine ≠ 0 ∧ target = mine
  · rw [if_pos hask]
    refine ⟨fun _ hidle => ?_, fun h => absurd hask (by tauto), (changesOnly_sendFrame_modPort _ _ _ _ s).settle s⟩
    have hsame : SameTransmitter (ethPort s p) (arrived s p h (ethPort s p)) := ⟨rfl, rfl, rfl, rfl, rfl, rfl, rfl⟩
    have hleft : FrameLeft p sender (.answer ip mine) (modPort p (arrived s p h) s)
        (sendEth p sender false (.answer ip mine) (modPort p (arrived s p h) s)) := by
      rw [sendEth, sendFrame_idle (hidle.modPort hsame)]
      exact frameLeft_ethOut hp _ _ _
    exact (hleft.after_modPort hp hsame).settle s
  · rw [if_neg hask, countDiscarded_modPort, settle_tx, ethPort_settle, ethPort_modPort hp]
    exact ⟨fun h => absurd h hask, fun _ => ⟨rfl, rfl⟩, ((changesOnly_modPort p _ s).mono (by simp)).settle s⟩

/-- Settles O21: `ptpReceived` and `frameIn` by their cases. -/
theorem otherFramesAreCounted : Obligations.OtherFramesAreCounted := by
  unfold Obligations.OtherFramesAreCounted
  intro p m h s ha hup
  have hp := portUp_lt hup
  refine ⟨fun g => announceIsTaken, fun a b c => signalingIsTaken, fun ht hon i hi => ?_, fun ht ip target sender =>
    addressRequestIsTaken ht ip target sender, fun kind => ?_⟩
  · rcases hi with ⟨rfl, hk⟩ | ⟨rfl, hk, hno⟩ | ⟨rfl, hk, hno⟩
    · exact ptpMessageIsDiscarded hp ((exec_ptpManagementReceived p m h s).trans
        (ptpReceived_discarded _ ht hon hk (.inr rfl)))
    · exact ptpMessageIsDiscarded hp ((exec_ptpSyncReceived p m h s).trans
        (ptpReceived_discarded _ ht hon hk (hno.imp id fun hslave => by rw [isSlave_modPort hp rfl, hslave])))
    · exact ptpMessageIsDiscarded hp ((exec_ptpAnnounceReceived p m h s).trans
        (ptpReceived_discarded _ ht hon hk (hno.imp id fun hrole => bne_eq_false_iff_eq.2 hrole)))
  · cases kind with
    | badFcs =>
      refine completes_of_awake (exec_ethOtherFrame p .badFcs h s) ha ?_
      simp only [hup, if_true, ethPort_settle]
      rw [countPort, ethPort_modPort hp]
      exact ⟨(changesOnly_modPort p _ s).settle s, fun _ => rfl, by simp, by simp⟩
    | unaccepted =>
      obtain ⟨t, ht, hframe, hfull, htaken⟩ := otherFrame_counted (i := .ethOtherFrame p .unaccepted h)
        (exec_ethOtherFrame p .unaccepted h s) ha hup (countDiscarded_modPort p (arrived s p h) s) (.inl ⟨rfl, rfl⟩)
      exact ⟨t, ht, hframe, nofun, fun _ => hfull, fun _ => htaken⟩
    | ptpRefused =>
      obtain ⟨t, ht, hframe, hfull, htaken⟩ := otherFrame_counted (i := .ethOtherFrame p .ptpRefused h)
        (exec_ethOtherFrame p .ptpRefused h s) ha hup (countPtpDiscarded_modPort p (arrived s p h) s) (.inr ⟨rfl, rfl⟩)
      exact ⟨t, ht, hframe, nofun, fun _ => hfull, fun _ => htaken⟩

end Sys2Proof.Machine
end

section
/-! Receipt timeouts, links and the ports' configuration (O22). -/

namespace Sys2Proof.Machine

/-! ## Records on the fault wires stay -/

theorem wires_enterHoldover (s : State) : s.patrol.wires <+: (enterHoldover s).patrol.wires := by
  unfold enterHoldover
  dsimp only
  split
  · exact List.prefix_append _ _
  · exact List.prefix_rfl

theorem wires_losePtp (s : State) : s.patrol.wires <+: (losePtp s).patrol.wires := by
  unfold losePtp loseSource
  split
  · split
    · exact wires_enterHoldover s
    · exact wires_enterHoldover s
    · exact List.prefix_rfl
    · exact List.prefix_rfl
  · exact List.prefix_rfl

theorem patrol_acquireSource (s : State) : (acquireSource s).patrol = s.patrol := rfl

theorem wires_runBmca (s : State) : s.patrol.wires <+: (runBmca s).patrol.wires := by
  have hports : (bmcaPorts s).patrol = s.patrol := changesOnly_pass _ _ s .patrol (by simp)
  rw [← hports]
  rcases runBmca_cases s with h | h | h <;> rw [h]
  · exact wires_losePtp _
  · rw [patrol_acquireSource]

/-! ## Receipt timeouts (R114) -/

theorem syncTimeoutIsCounted {p : Nat} {s : State} (ha : awake s = true) (hup : portUp s p = true) (hon : ptpOn s p = true)
    (hslave : isSlave s p = true) (hdue : (ethPort s p).lastSync + syncSpan s * fld (ptpBlock s) 104 8 ≤ now s) :
    Completes (.syncReceiptTimeout p) s fun t =>
      (ethPort t p).counters.syncTimeouts = bump (ethPort s p).counters.syncTimeouts ∧
      (timeSource s = 1 → s.time.state = .locked → t.time.state = .holdover) ∧
      ChangesOnly [.ports, .time, .patrol] s t := by
  have hp := portUp_lt hup
  have hgo : (portUp s p && ptpOn s p && isSlave s p && intervalPassed s (ethPort s p).lastSync
      (some (syncSpan s * fld (ptpBlock s) 104 8))) = true := by
    simp [hup, hon, hslave, intervalPassed, hdue]
  refine completes_of_awake (exec_syncReceiptTimeout p s) ha ?_
  simp only [if_pos hgo]
  rw [ethPort_settle, settle_time, ethPort_of_frame (changesOnly_losePtp _) (by simp), ethPort_modPort hp]
  refine ⟨rfl, fun hsrc hlocked => ?_,
    (((changesOnly_modPort p _ s).comp (changesOnly_losePtp _)).mono (by simp)).settle s⟩
  rw [losePtp, if_pos (by exact hsrc)]
  obtain ⟨-, -, hloses, -⟩ := losesSource_loseSource (modPort p (fun e => { e with
    lastSync := now s, counters := { e.counters with syncTimeouts := bump e.counters.syncTimeouts } }) s)
  exact (hloses hlocked).1

theorem announceTimeoutIsCounted {p : Nat} {s : State} (ha : awake s = true) (hup : portUp s p = true)
    (hon : ptpOn s p = true) (hrole : ptpRole s ≠ 3) (hann : (ethPort s p).announce.isSome = true)
    (hdue : (ethPort s p).lastAnnounce + announceSpan s * fld (ptpBlock s) 96 8 ≤ now s) :
    Completes (.announceReceiptTimeout p) s fun t =>
      (ethPort t p).counters.announceTimeouts = bump (ethPort s p).counters.announceTimeouts ∧
      (ethPort t p).announce = none ∧ ChangesOnly [.ports, .time, .patrol] s t := by
  have hp := portUp_lt hup
  have hgo : (portUp s p && ptpOn s p && ptpRole s != 3 && ((ethPort s p).announce.isSome || (ethPort s p).ptp == .listening) &&
      intervalPassed s (ethPort s p).lastAnnounce (some (announceSpan s * fld (ptpBlock s) 96 8))) = true := by
    simp [hup, hon, hrole, hann, intervalPassed, hdue]
  refine completes_of_awake (exec_announceReceiptTimeout p s) ha ?_
  simp only [if_pos hgo]
  obtain ⟨hsame, -, hframe⟩ := bmcaAfterLoss hp (isSlave s p) (modPort p (fun e => { e with
    announce := none, lastAnnounce := now s, ptp := if ptpRole s == 0 then e.ptp else
      (if e.ptp == .slave then e.ptp else .master),
    counters := { e.counters with announceTimeouts := bump e.counters.announceTimeouts } }) s)
  rw [ethPort_modPort hp] at hsame
  rw [ethPort_settle, hsame.counters, hsame.announce]
  exact ⟨rfl, rfl, (((changesOnly_modPort p _ s).mono (by simp)).step hframe).settle s⟩

theorem pdelayTimeoutIsCounted {p n : Nat} {s : State} {x : Exchange} (ha : awake s = true) (hup : portUp s p = true)
    (hon : ptpOn s p = true) (hpeer : peerDelay s = true) (hx : (ethPort s p).exchange = some x) (hresp : x.response = none)
    (hint : delayInterval s p = some n) (hdue : x.sentAt + n ≤ now s) : Completes (.pdelayTimeout p) s fun t =>
      (ethPort t p).counters.pdelayFails = bump (ethPort s p).counters.pdelayFails ∧ (ethPort t p).exchange = none ∧
      ((ethPort s p).pdelayFailRun = 2 → (ethPort t p).asCapable = false) ∧ ChangesOnly [.ports, .time, .patrol] s t := by
  have hgo : (portUp s p && ptpOn s p && unanswered s p && intervalPassed s x.sentAt (delayInterval s p)) = true := by
    simp [hup, hon, unanswered, hpeer, hx, hresp, intervalPassed, hint, hdue]
  refine completes_of_awake (exec_pdelayTimeout p s) ha ?_
  simp only [hx, if_pos hgo]
  obtain ⟨hsame, -, hframe⟩ := failPdelay_port (portUp_lt hup) s
  rw [ethPort_settle, hsame.counters, hsame.exchange, hsame.asCapable]
  exact ⟨rfl, rfl, fun hrun => by simp [pdelayFailed, hrun], hframe.settle s⟩

/-! ## Links (R101) -/

/-- A loss of link is counted in SETUP and RUN. -/
def lossCounts (s : State) : Bool := s.dev.state == .setup || inRun s

/-- A port whose link has gone down. -/
def linkLost (s : State) (e : EthPort) : EthPort :=
  { e with
    link := false, txQueue := [], txUntil := 0, rxHeld := 0, exchange := none, sync := none, announce := none,
    asCapable := false,
    counters := if lossCounts s then { e.counters with linkDown := bump e.counters.linkDown } else e.counters }

/-- The loss of a link, as the port and the fault wires note it. -/
def linkNoted (p : Nat) (s : State) : State :=
  if lossCounts s && (ptpOn s p || lidarBound s p || atideOnPort s p) then
    report (portFault p 0) 0 4 .ce 0 (modPort p (linkLost s) s)
  else modPort p (linkLost s) s

theorem loseLink_eq (p : Nat) (s : State) : loseLink p s =
    if ptpOn s p then runBmca (if isSlave s p then losePtp (linkNoted p s) else linkNoted p s) else linkNoted p s := rfl

theorem linkNoted_port {p : Nat} (hp : p < 6) (s : State) : ethPort (linkNoted p s) p = linkLost s (ethPort s p) ∧
    ChangesOnly [.ports, .time, .patrol] s (linkNoted p s) := by
  unfold linkNoted
  split
  · exact ⟨ethPort_modPort hp _ s, ((changesOnly_modPort p _ s).comp (changesOnly_report _ _ _ _ _ _)).mono (by simp)⟩
  · exact ⟨ethPort_modPort hp _ s, (changesOnly_modPort p _ s).mono (by simp)⟩

theorem wires_bmcaAfterLoss (lost : Bool) (s : State) :
    s.patrol.wires <+: (runBmca (if lost then losePtp s else s)).patrol.wires := by
  cases lost with
  | false => exact wires_runBmca s
  | true => exact (wires_losePtp s).trans (wires_runBmca _)

/-- What the loss of a link does beside the port's exchanges. -/
theorem loseLink_port {p : Nat} (hp : p < 6) (s : State) :
    SameMeasurements (linkLost s (ethPort s p)) (ethPort (loseLink p s) p) ∧
      (linkNoted p s).patrol.wires <+: (loseLink p s).patrol.wires ∧ ChangesOnly [.ports, .time, .patrol] s (loseLink p s) := by
  obtain ⟨hport, hframe⟩ := linkNoted_port hp s
  rw [loseLink_eq, ← hport]
  split
  · obtain ⟨hsame, -, hbmca⟩ := bmcaAfterLoss hp (isSlave s p) (linkNoted p s)
    exact ⟨hsame, wires_bmcaAfterLoss _ _, hframe.step hbmca⟩
  · exact ⟨sameMeasurements_refl _, List.prefix_rfl, hframe⟩

theorem linkLossIsNoted {p : Nat} {s : State} (ha : awake s = true) (hp : p < 6) (hlink : (ethPort s p).link = true) :
    Completes (.linkDown p) s fun t => (ethPort t p).link = false ∧
      (s.dev.state = .setup ∨ s.dev.state = .run →
        (ethPort t p).counters.linkDown = bump (ethPort s p).counters.linkDown ∧
        (ptpOn s p = true ∨ lidarBound s p = true ∨ atideOnPort s p = true →
          ∃ r ∈ t.patrol.wires, r.source = portFault p 0 ∧ r.cls = .ce)) ∧ ChangesOnly [.ports, .time, .patrol] s t := by
  refine completes_of_awake (exec_linkDown p s) ha ?_
  rw [if_pos (by simp [hp, hlink])]
  obtain ⟨hsame, hwires, hframe⟩ := loseLink_port hp s
  rw [ethPort_settle, hsame.link, hsame.counters, settle_patrol]
  refine ⟨rfl, fun hstate => ?_, hframe.settle s⟩
  have hcounts : lossCounts s = true := by
    rcases hstate with h | h <;> simp [lossCounts, inRun, h]
  refine ⟨by simp [linkLost, hcounts], fun hserves => ?_⟩
  have hmem : ∃ r ∈ (linkNoted p s).patrol.wires, r.source = portFault p 0 ∧ r.cls = .ce := by
    rw [linkNoted, if_pos (by rcases hserves with h | h | h <;> simp [hcounts, h])]
    exact ⟨_, List.mem_append_right _ List.mem_cons_self, rfl, rfl⟩
  obtain ⟨r, hr, hsource, hcls⟩ := hmem
  exact ⟨r, hwires.subset hr, hsource, hcls⟩

theorem linkReturns {p speed : Nat} {s : State} (ha : awake s = true) (hp : p < 6) (hlink : (ethPort s p).link = false)
    (hspeed : speedAdmitted s p speed = true) : Completes (.linkUp p speed) s fun t =>
      (ethPort t p).link = true ∧ (ethPort t p).speed = speed ∧ ChangesOnly [.ports, .time, .patrol] s t := by
  refine completes_of_awake (exec_linkUp p speed s) ha ?_
  simp only [if_pos (show (decide (p < 6) && speedAdmitted s p speed && !(ethPort s p).link) = true by simp [hp, hlink, hspeed])]
  have hmod := changesOnly_modPort p (fun e => { e with link := true, speed := speed, lastAnnounce := now s }) s
  have hport : ethPort (modPort p (fun e => { e with link := true, speed := speed, lastAnnounce := now s }) s) p =
      { ethPort s p with link := true, speed := speed, lastAnnounce := now s } := ethPort_modPort hp _ s
  generalize modPort p (fun e => { e with link := true, speed := speed, lastAnnounce := now s }) s = u at hmod hport ⊢
  rw [ethPort_settle]
  split
  · have hsame := sameMeasurements_runBmca hp u
    rw [hsame.link, hsame.speed, hport]
    exact ⟨rfl, rfl, ((hmod.mono (by simp)).step (changesOnly_runBmca u)).settle s⟩
  · rw [hport]
    exact ⟨rfl, rfl, (hmod.mono (by simp)).settle s⟩

/-! ## Configuration (R99, R110, R112) -/

theorem ethPort_conclude (c : Cmd) (st d : Nat) (r : Bytes) (s : State) (p : Nat) : ethPort (conclude c st d r s) p = ethPort s p :=
  ethPort_of_frame (changesOnly_conclude c st d r s) (by simp) p

theorem changesOnly_concluded {l m : List Part} {s t : State} (h : ChangesOnly l s t) (c : Cmd) (st d : Nat) (r : Bytes)
    (hm : l ++ [.flight] ⊆ m) : ChangesOnly m s (settle s (conclude c st d r t)) :=
  ((h.comp (changesOnly_conclude c st d r t)).mono hm).settle s

theorem setting_conclude (c : Cmd) (st d : Nat) (r : Bytes) (s : State) (op idx : Nat) :
    setting (conclude c st d r s) op idx = setting s op idx :=
  (changesOnly_conclude c st d r s).setting_eq (by simp) op idx

theorem speedAdmitted_congr {s t : State} (h : ∀ op idx, setting t op idx = setting s op idx) (p speed : Nat) :
    speedAdmitted t p speed = speedAdmitted s p speed := by
  simp only [speedAdmitted, portInterface, h]

/-- CONFIG_PORT's work before its outcome. -/
def portConfigured (c : Cmd) (s : State) : State :=
  if (ethPort s (fld c.params 0 8)).link && !speedAdmitted (putSetting 0x0300 (fld c.params 0 8) c.params s) (fld c.params 0 8)
      (ethPort s (fld c.params 0 8)).speed
  then loseLink (fld c.params 0 8) (putSetting 0x0300 (fld c.params 0 8) c.params s)
  else putSetting 0x0300 (fld c.params 0 8) c.params s

/-- A frame that the port's number does not matter to. -/
theorem changesOnly_loseLink (p : Nat) (s : State) : ChangesOnly [.ports, .time, .patrol] s (loseLink p s) := by
  have hnoted : ChangesOnly [.ports, .time, .patrol] s (linkNoted p s) := by
    unfold linkNoted
    split
    · exact ((changesOnly_modPort p _ s).comp (changesOnly_report _ _ _ _ _ _)).mono (by simp)
    · exact (changesOnly_modPort p _ s).mono (by simp)
  rw [loseLink_eq]
  split
  · refine hnoted.step ?_
    split
    · exact changesOnly_runBmca_losePtp _
    · exact changesOnly_runBmca _
  · exact hnoted

theorem configPortCompletes {k : CmdKey} {c : Cmd} {s : State} (h : Ready k 0x0300 s c) : Completes (.configPort k) s fun t =>
    Concluded c stDone 0 [] s t ∧ setting t 0x0300 (fld c.params 0 8) = c.params ∧
      (speedAdmitted t (fld c.params 0 8) (ethPort s (fld c.params 0 8)).speed = true →
        (ethPort t (fld c.params 0 8)).link = (ethPort s (fld c.params 0 8)).link) ∧
      ChangesOnly [.flight, .settings, .ports, .time, .patrol] s t := by
  refine completes_of_command (f := fun c s => conclude c stDone 0 [] (portConfigured c s)) (exec_configPort k s) h ?_
  have hput := changesOnly_putSetting 0x0300 (fld c.params 0 8) c.params s
  have hwork : ChangesOnly [.ports, .time, .patrol] (putSetting 0x0300 (fld c.params 0 8) c.params s) (portConfigured c s) :=
    changesOnly_ite (fun _ => changesOnly_loseLink _ _) fun _ => .refl _ _
  have hframe := hput.comp hwork
  have hset : ∀ op idx, setting (settle s (conclude c stDone 0 [] (portConfigured c s))) op idx =
      setting (putSetting 0x0300 (fld c.params 0 8) c.params s) op idx := fun op idx => by
    rw [setting_settle, setting_conclude, hwork.setting_eq (by simp)]
  refine ⟨concluded_conclude s (hframe .flight (by simp)), ?_, fun hadm => ?_, changesOnly_concluded hframe c _ _ _ (by simp)⟩
  · rw [hset, setting_putSetting]
  · rw [speedAdmitted_congr hset] at hadm
    rw [ethPort_settle, ethPort_conclude, portConfigured, hadm, Bool.not_true, Bool.and_false, if_neg Bool.false_ne_true]
    rfl

/-- A port that starts afresh under a configuration. -/
def ptpStarted (s : State) (p : Nat) (e : EthPort) : EthPort :=
  { e with
    ptp := if !ptpOn s p then .initializing else if ptpRole s = 3 then .master else .listening,
    delays := [], outlierRun := 0, rateRatio := 0, asCapable := false, pdelayFailRun := 0, exchange := none,
    sync := none, announce := none, pathTrace := [], cumulative := 0, lastSyncDelta := none, lastPdelay := none,
    lastSync := now s, lastAnnounce := now s, sentSync := now s, sentDelay := now s, sentAnnounce := now s,
    signalled := (none, none, none) }

theorem ptpStart_eq (s : State) : ptpStart s = (List.range 6).foldl (fun t p => modPort p (ptpStarted s p) t) s := rfl

theorem configPtpCompletes {k : CmdKey} {c : Cmd} {s : State} (h : Ready k 0x0302 s c) : Completes (.configPtp k) s fun t =>
    Concluded c stDone 0 [] s t ∧ setting t 0x0302 0 = c.params ∧ (∀ p, p < 6 → (ethPort t p).ptp =
        if ptpOn t p = false then .initializing else if fld c.params 16 8 = 3 then .master else .listening) ∧
      ChangesOnly [.flight, .settings, .ports, .time, .patrol] s t := by
  refine completes_of_command (f := fun c s => conclude c stDone 0 []
    (if (slavePort s).isSome then losePtp (ptpStart (putSetting 0x0302 0 c.params s)) else ptpStart (putSetting 0x0302 0 c.params s)))
    (exec_configPtp k s) h ?_
  have hput := changesOnly_putSetting 0x0302 0 c.params s
  have hval := setting_putSetting 0x0302 0 c.params s
  generalize putSetting 0x0302 0 c.params s = u at hput hval
  have hstart : ChangesOnly [.ports] u (ptpStart u) := changesOnly_pass _ _ u
  have hlose : ChangesOnly [.time, .patrol] (ptpStart u) (if (slavePort s).isSome then losePtp (ptpStart u) else ptpStart u) :=
    changesOnly_ite (fun _ => changesOnly_losePtp _) fun _ => .refl _ _
  have hports : ∀ p, p < 6 → ethPort (ptpStart u) p = ptpStarted u p (ethPort u p) := fun p hp => by
    rw [ptpStart_eq, ethPort_pass _ _ _ List.nodup_range (by simp), if_pos (List.mem_range.2 hp)]
  generalize (if (slavePort s).isSome then losePtp (ptpStart u) else ptpStart u) = v at hlose ⊢
  have hframe := (hput.comp hstart).comp hlose
  have hset : ∀ op idx, setting (settle s (conclude c stDone 0 [] v)) op idx = setting u op idx := fun op idx => by
    rw [setting_settle, setting_conclude, hlose.setting_eq (by simp), hstart.setting_eq (by simp)]
  refine ⟨concluded_conclude s (hframe .flight (by simp)), (hset _ _).trans hval, fun p hp => ?_,
    changesOnly_concluded hframe c _ _ _ (by simp)⟩
  have hon : ptpOn (settle s (conclude c stDone 0 [] v)) p = ptpOn u p := by
    simp only [ptpOn, ptpProfile, ptpMask, ptpBlock, hset]
  have hrole : ptpRole u = fld c.params 16 8 := by rw [ptpRole, ptpBlock, hval]
  rw [hon, ethPort_settle, ethPort_conclude, ethPort_of_frame hlose (by simp), hports p hp, ptpStarted, hrole]
  cases ptpOn u p <;> rfl

/-- Settles O22: each loss and each configuration by its lemma. -/
theorem portLossesAndLinks : Obligations.PortLossesAndLinks := by
  unfold Obligations.PortLossesAndLinks
  exact ⟨fun p s ha hup hon hslave => ⟨syncTimeoutIsCounted ha hup hon hslave, announceTimeoutIsCounted ha hup hon⟩,
    fun p n s x => pdelayTimeoutIsCounted, fun p s ha hp => ⟨linkLossIsNoted ha hp, fun speed => linkReturns ha hp⟩,
    fun k c s => ⟨configPortCompletes, configPtpCompletes⟩⟩

end Sys2Proof.Machine
end

section
/-! The source clock model (O23): what a unit does to its source's model, case by case (R152, R153). -/

namespace Sys2Proof.Machine

/-! ## The model that meets a unit -/

/-- A source's model with one more unit counted; one that was ABSENT starts. -/
def unitMet (arrival : Dts) (m : Source) : Source :=
  let c := { m with units := bump m.units, lastUnit := some arrival }
  if m.state == .absent || m.state == .unconfigured then restartWindows { c with lastStamp := none } else c

/-- A unit's lag is out of the range that is expected of its source. -/
def lagOutside (s : State) (i : Nat) (lag : Interval) : Bool :=
  match lagRange s i with
  | some r => decide (lag < r.1) || decide (r.2 < lag)
  | none => false

/-- The model with a kept unit's stamp and lag. -/
def unitKept (out : Bool) (stamp : Dts) (m : Source) : Source :=
  if out then { m with lastStamp := some stamp, lagOut := bump m.lagOut } else { m with lastStamp := some stamp }

/-- The model whose lag has leapt. -/
def modelRestarted (lag : Interval) (m : Source) : Source :=
  restartWindows { m with restarts := bump m.restarts, lastLag := some lag }

/-- The model with a unit in its window. -/
def unitJoined (stamp arrival : Dts) (lag : Interval) (m : Source) : Source :=
  { m with lastLag := some lag, window := m.window ++ [{ stamp := stamp, arrival := arrival }] }

/-- A stamp runs backwards. -/
def backwards (m : Source) (stamp : Dts) : Bool :=
  match m.lastStamp with
  | some l => decide (stamp < l)
  | none => false

/-- A lag leaps by more than a second. -/
def leaps (m : Source) (lag : Interval) : Bool :=
  match m.lastLag with
  | some l => decide (secUnits < mag (lag - l))
  | none => false

section
variable (i : Nat) (st arrival : Dts) (s : State)

/-- The unit's model, stamp and lag. -/
def metModel : Source := unitMet arrival (source s i)
def metLag : Interval := unitLag (metModel i arrival s) (modelStamp s i st arrival) arrival
def keptModel : Source :=
  unitKept (lagOutside s i (metLag i st arrival s)) (modelStamp s i st arrival) (metModel i arrival s)
def joinedModel : Source :=
  unitJoined (modelStamp s i st arrival) arrival (metLag i st arrival s) (keptModel i st arrival s)

/-- What `takeUnit` does, by the three questions it asks. -/
theorem takeUnit_eq : takeUnit i st arrival s =
    if backwards (metModel i arrival s) (modelStamp s i st arrival) then
      (modSource i (fun _ => { metModel i arrival s with reordered := bump (metModel i arrival s).reordered }) s, false, 0)
    else if (keptModel i st arrival s).state == .valid && leaps (keptModel i st arrival s) (metLag i st arrival s) then
      (report (ingestFault i 0) 0 4 .ce 0
        (modSource i (fun _ => modelRestarted (metLag i st arrival s) (keptModel i st arrival s)) s), true, metLag i st arrival s)
    else if (joinedModel i st arrival s).window.length < 64 then
      (modSource i (fun _ => joinedModel i st arrival s) s, true, metLag i st arrival s)
    else (checkTimeTrust i (modSource i (fun _ =>
      closeWindow (sourceMode s i) (lagMin s i) (joinedModel i st arrival s)) s), true, metLag i st arrival s) := rfl

end

/-! ## What a unit leaves of its source and of the device -/

/-- The counters of a source that a unit's stamps do not touch, with the unit counted. -/
structure UnitCounted (m n : Source) : Prop where
  units : n.units = bump m.units
  whole : n.whole = m.whole
  damaged : n.damaged = m.damaged
  lost : n.lost = m.lost
  dropped : n.dropped = m.dropped
  lossEvents : n.lossEvents = m.lossEvents
  eccCorrected : n.eccCorrected = m.eccCorrected
  missingColumns : n.missingColumns = m.missingColumns
  drdyEarly : n.drdyEarly = m.drdyEarly

/-- Counters that stay, however the model changes. -/
theorem UnitCounted.keep {m n n' : Source} (h : UnitCounted m n) (hu : n'.units = n.units) (hw : n'.whole = n.whole)
    (hd : n'.damaged = n.damaged) (hl : n'.lost = n.lost) (hdr : n'.dropped = n.dropped)
    (hle : n'.lossEvents = n.lossEvents) (he : n'.eccCorrected = n.eccCorrected)
    (hm : n'.missingColumns = n.missingColumns) (hy : n'.drdyEarly = n.drdyEarly) : UnitCounted m n' :=
  ⟨hu.trans h.units, hw.trans h.whole, hd.trans h.damaged, hl.trans h.lost, hdr.trans h.dropped, hle.trans h.lossEvents,
    he.trans h.eccCorrected, hm.trans h.missingColumns, hy.trans h.drdyEarly⟩

theorem unitCounted_unitMet (arrival : Dts) (m : Source) : UnitCounted m (unitMet arrival m) := by
  unfold unitMet restartWindows
  dsimp only
  split <;> exact ⟨rfl, rfl, rfl, rfl, rfl, rfl, rfl, rfl, rfl⟩

theorem UnitCounted.kept {m n : Source} (h : UnitCounted m n) (out : Bool) (stamp : Dts) :
    UnitCounted m (unitKept out stamp n) := by
  unfold unitKept
  split <;> exact h.keep rfl rfl rfl rfl rfl rfl rfl rfl rfl

/-- A refit touches the model's map alone. -/
theorem refit_fields (low : Interval) (w : List Unit64) (m : Source) :
    ∃ minima rate ref offset, refit low w m = { m with minima := minima, rate := rate, ref := ref, offset := offset } := by
  unfold refit
  split
  · exact ⟨m.minima, m.rate, m.ref, m.offset, rfl⟩
  · exact ⟨_, _, _, _, rfl⟩

/-- The spread of a window's lags. -/
def windowSpread (m : Source) : Interval :=
  let lags := m.window.map (fun (u : Unit64) => unitLag m u.stamp u.arrival)
  lags.foldl max (lags.headD 0) - lags.foldl min (lags.headD 0)

/-- The mean of a window's lags. -/
def windowMean (m : Source) : Interval :=
  let lags := m.window.map (fun (u : Unit64) => unitLag m u.stamp u.arrival)
  lags.foldl (fun (a : Int) l => a + l) 0 / ((max 1 lags.length : Nat) : Int)

/-- A model with what a full window measures. -/
def windowMeasured (mode : Nat) (m : Source) : Source :=
  { m with residual := if mode = 3 then 0 else windowSpread m, meanLag := windowMean m, windows := m.windows + 1 }

/-- The state of a model with its window closed. -/
def closedState (mode : Nat) (m : Source) : ModelState :=
  if m.state == .starting && decide ((if mode = 2 then 8 else 1) ≤ m.windows + 1) then .valid else m.state

/-- A full window closes: what it measures, and when the model is VALID; a refit touches the model's map alone. -/
theorem closeWindow_fields (mode : Nat) (low : Interval) (m : Source) : ∃ minima rate ref offset,
    closeWindow mode low m = { windowMeasured mode m with
      minima := minima, rate := rate, ref := ref, offset := offset, window := [], state := closedState mode m } := by
  have hdef : closeWindow mode low m =
      (fun m2 : Source => { m2 with
        window := [],
        state := if m2.state == .starting && decide ((if mode = 2 then 8 else 1) ≤ m.windows + 1) then .valid else m2.state })
      (if mode = 2 then refit low m.window (windowMeasured mode m) else windowMeasured mode m) := rfl
  have hfit : ∃ minima rate ref offset, (if mode = 2 then refit low m.window (windowMeasured mode m) else windowMeasured mode m) =
      { windowMeasured mode m with minima := minima, rate := rate, ref := ref, offset := offset } := by
    split
    · exact refit_fields low m.window (windowMeasured mode m)
    · exact ⟨m.minima, m.rate, m.ref, m.offset, rfl⟩
  obtain ⟨minima, rate, ref, offset, hfit⟩ := hfit
  rw [hdef, hfit]
  exact ⟨minima, rate, ref, offset, rfl⟩

theorem changesOnly_evaluateAgain (src unit level : Nat) (bad : Bool) (s : State) :
    ChangesOnly [.patrol] s (evaluateAgain src unit level bad s) := by
  unfold evaluateAgain
  split
  · exact .refl _ s
  · split
    · exact changesOnly_report _ _ _ _ _ s
    · exact changesOnly_reportClean _ _ s

theorem changesOnly_checkTimeTrust (i : Nat) (s : State) : ChangesOnly [.align, .patrol] s (checkTimeTrust i s) := by
  have hagain := fun bad => (changesOnly_evaluateAgain (alignFault i) 0 4 bad s).mono (show [Part.patrol] ⊆ [.align, .patrol] by simp)
  unfold checkTimeTrust
  dsimp only
  split
  · split
    · exact (hagain _).step ((changesOnly_modTrust i _ _).mono (by simp))
    · exact hagain _
  · split
    · exact (changesOnly_modTrust i _ s).comp (changesOnly_report _ _ _ _ _ _)
    · exact .refl _ s

theorem changesOnly_takeUnit (i : Nat) (st arrival : Dts) (s : State) :
    ChangesOnly [.ingest, .align, .patrol] s (takeUnit i st arrival s).1 := by
  rw [takeUnit_eq]
  split
  · exact (changesOnly_modSource i _ s).mono (by simp)
  · split
    · exact ((changesOnly_modSource i _ s).comp (changesOnly_report _ _ _ _ _ _)).mono (by simp)
    · split
      · exact (changesOnly_modSource i _ s).mono (by simp)
      · exact (changesOnly_modSource i _ s).comp (changesOnly_checkTimeTrust i _)

/-- A unit changes its source's model alone of what ingest holds. -/
theorem takeUnit_ingest (i : Nat) (st arrival : Dts) (s : State) : ∃ n, UnitCounted (source s i) n ∧
    (takeUnit i st arrival s).1.ingest = (modSource i (fun _ => n) s).ingest := by
  have hmet := unitCounted_unitMet arrival (source s i)
  have hkept := hmet.kept (lagOutside s i (metLag i st arrival s)) (modelStamp s i st arrival)
  rw [takeUnit_eq]
  split
  · exact ⟨_, by exact hmet.keep rfl rfl rfl rfl rfl rfl rfl rfl rfl, rfl⟩
  · split
    · exact ⟨_, by exact hkept.keep rfl rfl rfl rfl rfl rfl rfl rfl rfl, rfl⟩
    · split
      · exact ⟨_, by exact hkept.keep rfl rfl rfl rfl rfl rfl rfl rfl rfl, rfl⟩
      · refine ⟨_, ?_, changesOnly_checkTimeTrust i _ .ingest (by simp)⟩
        obtain ⟨_, _, _, _, hclose⟩ := closeWindow_fields (sourceMode s i) (lagMin s i) (joinedModel i st arrival s)
        rw [hclose]
        exact hkept.keep rfl rfl rfl rfl rfl rfl rfl rfl rfl

theorem source_modSource {i : Nat} (hi : i < 26) (f : Source → Source) (s : State) :
    source (modSource i f s) i = f (source s i) := vget_vmod_same _ _ hi

theorem source_modSource_ne {i j : Nat} (h : j ≠ i) (f : Source → Source) (s : State) :
    source (modSource i f s) j = source s j := vget_vmod_ne _ _ h

theorem source_of_ingest {s t : State} (h : t.ingest = s.ingest) (i : Nat) : source t i = source s i := by
  rw [source, h, source]

theorem unitCounted_takeUnit {i : Nat} (hi : i < 26) (st arrival : Dts) (s : State) :
    UnitCounted (source s i) (source (takeUnit i st arrival s).1 i) := by
  obtain ⟨n, hn, hingest⟩ := takeUnit_ingest i st arrival s
  rwa [source_of_ingest hingest, source_modSource hi]

/-- A stamp that does not run backwards is kept, also of a source that was ABSENT. -/
theorem takeUnit_kept {i : Nat} {st arrival : Dts} {s : State}
    (h : ∀ l, (source s i).lastStamp = some l → l ≤ modelStamp s i st arrival) :
    (takeUnit i st arrival s).2 = (true, metLag i st arrival s) := by
  have hforth : backwards (metModel i arrival s) (modelStamp s i st arrival) = false := by
    unfold backwards metModel unitMet restartWindows
    dsimp only
    split
    next l hl =>
      split at hl
      · exact absurd hl nofun
      · exact decide_eq_false (Nat.not_lt.2 (h l hl))
    · rfl
  rw [takeUnit_eq, if_neg (by rw [hforth]; exact Bool.false_ne_true)]
  split
  · rfl
  · split <;> rfl

/-! ## A unit of a source that delivers (O23) -/

/-- The largest and the smallest of a list that begins at one of its members. -/
theorem foldl_max_spec (l : List Int) : ∀ a, a ≤ l.foldl max a ∧ (∀ x ∈ l, x ≤ l.foldl max a) ∧ (l.foldl max a = a ∨ l.foldl max a ∈ l) := by
  induction l with
  | nil => exact fun a => ⟨le_refl a, by simp, .inl rfl⟩
  | cons b l ih =>
    intro a
    obtain ⟨hle, hall, hmem⟩ := ih (max a b)
    refine ⟨(le_max_left a b).trans hle, fun x hx => ?_, ?_⟩
    · rcases List.mem_cons.1 hx with rfl | hx
      · exact (le_max_right a x).trans hle
      · exact hall x hx
    · rw [List.foldl_cons]
      rcases hmem with h | h
      · rcases max_choice a b with hm | hm
        · exact .inl (h.trans hm)
        · exact .inr (List.mem_cons.2 (.inl (h.trans hm)))
      · exact .inr (List.mem_cons_of_mem b h)

theorem foldl_min_spec (l : List Int) : ∀ a, l.foldl min a ≤ a ∧ (∀ x ∈ l, l.foldl min a ≤ x) ∧ (l.foldl min a = a ∨ l.foldl min a ∈ l) := by
  induction l with
  | nil => exact fun a => ⟨le_refl a, by simp, .inl rfl⟩
  | cons b l ih =>
    intro a
    obtain ⟨hle, hall, hmem⟩ := ih (min a b)
    refine ⟨hle.trans (min_le_left a b), fun x hx => ?_, ?_⟩
    · rcases List.mem_cons.1 hx with rfl | hx
      · exact hle.trans (min_le_right a x)
      · exact hall x hx
    · rw [List.foldl_cons]
      rcases hmem with h | h
      · rcases min_choice a b with hm | hm
        · exact .inl (h.trans hm)
        · exact .inr (List.mem_cons.2 (.inl (h.trans hm)))
      · exact .inr (List.mem_cons_of_mem b h)

/-- The spread of a window that is not empty is the largest difference of two of its lags. -/
theorem windowSpread_spec {m : Source} (h : m.window ≠ []) :
    (∀ u ∈ m.window, ∀ v ∈ m.window, unitLag m u.stamp u.arrival - unitLag m v.stamp v.arrival ≤ windowSpread m) ∧
    ∃ u ∈ m.window, ∃ v ∈ m.window, unitLag m u.stamp u.arrival - unitLag m v.stamp v.arrival = windowSpread m := by
  set lags := m.window.map (fun (u : Unit64) => unitLag m u.stamp u.arrival) with hlags
  have hspread : windowSpread m = lags.foldl max (lags.headD 0) - lags.foldl min (lags.headD 0) := rfl
  have hhead : lags.headD 0 ∈ lags := by
    cases hw : m.window with
    | nil => exact absurd hw h
    | cons u w => simp [hlags, hw]
  obtain ⟨-, hmax, hmaxMem⟩ := foldl_max_spec lags (lags.headD 0)
  obtain ⟨-, hmin, hminMem⟩ := foldl_min_spec lags (lags.headD 0)
  have hmaxMem' : lags.foldl max (lags.headD 0) ∈ lags := hmaxMem.elim (fun h => by rw [h]; exact hhead) id
  have hminMem' : lags.foldl min (lags.headD 0) ∈ lags := hminMem.elim (fun h => by rw [h]; exact hhead) id
  have hmem : ∀ u ∈ m.window, unitLag m u.stamp u.arrival ∈ lags := fun u hu => List.mem_map_of_mem hu
  rw [hspread]
  refine ⟨fun u hu v hv => sub_le_sub (hmax _ (hmem u hu)) (hmin _ (hmem v hv)), ?_⟩
  obtain ⟨u, hu, hueq⟩ := List.mem_map.1 hmaxMem'
  obtain ⟨v, hv, hveq⟩ := List.mem_map.1 hminMem'
  exact ⟨u, hu, v, hv, by rw [hueq, hveq]⟩

section
variable {i : Nat} {st arrival : Dts} {s : State}

/-- The model of a source that delivers meets the unit as it stands. -/
theorem metModel_delivering (h : (source s i).state = .starting ∨ (source s i).state = .valid) :
    metModel i arrival s = { source s i with units := bump (source s i).units, lastUnit := some arrival } := by
  unfold metModel unitMet
  rw [if_neg (by rcases h with h | h <;> simp [h])]

theorem metLag_delivering (h : (source s i).state = .starting ∨ (source s i).state = .valid) :
    metLag i st arrival s = unitLag (source s i) (modelStamp s i st arrival) arrival := by
  rw [metLag, metModel_delivering h]
  rfl

/-- A kept unit's model: the stamp, and the lag counted where it is out of range. -/
theorem keptModel_delivering (h : (source s i).state = .starting ∨ (source s i).state = .valid) :
    keptModel i st arrival s = { source s i with
      units := bump (source s i).units, lastUnit := some arrival, lastStamp := some (modelStamp s i st arrival),
      lagOut := if lagOutside s i (unitLag (source s i) (modelStamp s i st arrival) arrival) then bump (source s i).lagOut
        else (source s i).lagOut } := by
  rw [keptModel, metLag_delivering h, metModel_delivering h, unitKept]
  split <;> rfl

/-- A unit that is kept, and its lag does not leap: the model with the unit in its window. -/
def joinedSource (i : Nat) (st arrival : Dts) (s : State) : Source :=
  if (joinedModel i st arrival s).window.length < 64 then joinedModel i st arrival s
  else closeWindow (sourceMode s i) (lagMin s i) (joinedModel i st arrival s)

theorem source_takeUnit_backwards (hi : i < 26) (h : backwards (metModel i arrival s) (modelStamp s i st arrival) = true) :
    (takeUnit i st arrival s).2.1 = false ∧ source (takeUnit i st arrival s).1 i =
      { metModel i arrival s with reordered := bump (metModel i arrival s).reordered } := by
  rw [takeUnit_eq, if_pos h]
  exact ⟨rfl, source_modSource hi _ s⟩

theorem source_takeUnit_leaps (hi : i < 26) (h : backwards (metModel i arrival s) (modelStamp s i st arrival) = false)
    (hl : ((keptModel i st arrival s).state == .valid && leaps (keptModel i st arrival s) (metLag i st arrival s)) = true) :
    source (takeUnit i st arrival s).1 i = modelRestarted (metLag i st arrival s) (keptModel i st arrival s) ∧
      ∃ x, (takeUnit i st arrival s).1.patrol.wires = s.patrol.wires ++ [x] ∧ x.source = ingestFault i 0 ∧ x.cls = .ce := by
  rw [takeUnit_eq, if_neg (by rw [h]; exact Bool.false_ne_true), if_pos hl]
  exact ⟨source_modSource hi _ s, _, rfl, rfl, rfl⟩

theorem source_takeUnit_joins (hi : i < 26) (h : backwards (metModel i arrival s) (modelStamp s i st arrival) = false)
    (hl : ((keptModel i st arrival s).state == .valid && leaps (keptModel i st arrival s) (metLag i st arrival s)) = false) :
    source (takeUnit i st arrival s).1 i = joinedSource i st arrival s := by
  rw [takeUnit_eq, if_neg (by rw [h]; exact Bool.false_ne_true), if_neg (by rw [hl]; exact Bool.false_ne_true), joinedSource]
  split
  · exact source_modSource hi _ s
  · have hingest := changesOnly_checkTimeTrust i (modSource i (fun _ =>
      closeWindow (sourceMode s i) (lagMin s i) (joinedModel i st arrival s)) s) .ingest (by simp)
    rw [source_of_ingest hingest]
    exact source_modSource hi _ s

end

/-- What a model with a unit in its window keeps of the model before. -/
theorem joinedSource_fields {i : Nat} {st arrival : Dts} {s : State}
    (h : (source s i).state = .starting ∨ (source s i).state = .valid) :
    (joinedSource i st arrival s).reordered = (source s i).reordered ∧
    (joinedSource i st arrival s).lastStamp = some (modelStamp s i st arrival) ∧
    (joinedSource i st arrival s).lagOut = (keptModel i st arrival s).lagOut ∧
    (joinedSource i st arrival s).restarts = (source s i).restarts := by
  have hk := keptModel_delivering (st := st) (arrival := arrival) h
  unfold joinedSource
  split
  · unfold joinedModel unitJoined
    rw [hk]
    exact ⟨rfl, rfl, rfl, rfl⟩
  · obtain ⟨_, _, _, _, hclose⟩ := closeWindow_fields (sourceMode s i) (lagMin s i) (joinedModel i st arrival s)
    rw [hclose]
    unfold windowMeasured joinedModel unitJoined
    rw [hk]
    exact ⟨rfl, rfl, rfl, rfl⟩

/-- Settles O23: `takeUnit_eq` by its three questions. -/
theorem clockModelsTakeUnits : Obligations.ClockModelsTakeUnits := by
  unfold Obligations.ClockModelsTakeUnits
  intro i st arrival s hi hstate
  dsimp only
  have hmet := metModel_delivering (arrival := arrival) hstate
  have hlag := metLag_delivering (st := st) (arrival := arrival) hstate
  have hkept := keptModel_delivering (st := st) (arrival := arrival) hstate
  refine ⟨(unitCounted_takeUnit hi st arrival s).units, fun l hl hlt => ?_, fun hforth => ?_, changesOnly_takeUnit i st arrival s⟩
  · have hback : backwards (metModel i arrival s) (modelStamp s i st arrival) = true := by
      rw [hmet, backwards]
      simp [hl, hlt]
    obtain ⟨hno, hsource⟩ := source_takeUnit_backwards hi hback
    rw [hsource, hmet]
    exact ⟨hno, rfl, rfl, hl⟩
  · have hback : backwards (metModel i arrival s) (modelStamp s i st arrival) = false := by
      rw [hmet, backwards]
      cases hl : (source s i).lastStamp with
      | none => simp
      | some l => simpa [hl] using hforth l hl
    have hout : ∀ lo hi', lagRange s i = some (lo, hi') → (keptModel i st arrival s).lagOut =
        if unitLag (source s i) (modelStamp s i st arrival) arrival < lo ∨
          hi' < unitLag (source s i) (modelStamp s i st arrival) arrival then bump (source s i).lagOut else (source s i).lagOut := by
      intro lo hi' hr
      rw [hkept]
      simp [lagOutside, hr]
    have hstateEq : (keptModel i st arrival s).state = (source s i).state := by rw [hkept]
    have hjoinedState : (joinedModel i st arrival s).state = (source s i).state := hstateEq
    have hwindow : (joinedModel i st arrival s).window =
        (source s i).window ++ [{ stamp := modelStamp s i st arrival, arrival := arrival }] := by
      rw [joinedModel, hkept]
      rfl
    have hlagEq : ∀ st' arr', unitLag (joinedModel i st arrival s) st' arr' = unitLag (source s i) st' arr' := fun _ _ => by
      rw [joinedModel, hkept]
      rfl
    have hleapIff : leaps (keptModel i st arrival s) (metLag i st arrival s) = true ↔ ∃ p, (source s i).lastLag = some p ∧
        secUnits < mag (unitLag (source s i) (modelStamp s i st arrival) arrival - p) := by
      rw [hlag, hkept, leaps]
      cases hlast : (source s i).lastLag <;> simp
    cases hl : (keptModel i st arrival s).state == .valid && leaps (keptModel i st arrival s) (metLag i st arrival s) with
    | true =>
      obtain ⟨hsource, hwire⟩ := source_takeUnit_leaps hi hback hl
      obtain ⟨hvalid, hleap⟩ := Bool.and_eq_true_iff.1 hl
      rw [takeUnit_kept hforth, hsource, hlag]
      refine ⟨rfl, by rw [hkept]; rfl, by rw [hkept]; rfl, hout, fun _ _ => ⟨rfl, by rw [hkept]; rfl, rfl, rfl, hwire⟩, fun hno => ?_⟩
      rw [hstateEq, beq_iff_eq] at hvalid
      rw [hleapIff] at hleap
      obtain ⟨p, hp, hfar⟩ := hleap
      rcases hno with hstart | hnear
      · rw [hstart] at hvalid
        exact absurd hvalid (by decide)
      · exact absurd hfar (Nat.not_lt.2 (hnear p hp))
    | false =>
      have hsource := source_takeUnit_joins hi hback hl
      obtain ⟨hre, hstamp, hlagOut, hrestarts⟩ := joinedSource_fields (st := st) (arrival := arrival) hstate
      rw [takeUnit_kept hforth, hsource, hlag, hre, hstamp, hlagOut, hrestarts]
      refine ⟨rfl, rfl, rfl, hout, fun hvalid hp => ?_, fun _ => ⟨rfl, fun hlen => ?_, fun hlen => ?_⟩⟩
      · have hleap : ((keptModel i st arrival s).state == .valid && leaps (keptModel i st arrival s) (metLag i st arrival s)) = true := by
          rw [hleapIff.2 hp, hstateEq, hvalid]
          rfl
        exact absurd (hleap.symm.trans hl) (by decide)
      · rw [joinedSource, if_pos (by rw [hwindow, List.length_append]; exact Nat.succ_lt_succ hlen)]
        exact ⟨hwindow, hstateEq, by rw [joinedModel, hkept]; rfl⟩
      · rw [joinedSource, if_neg (by rw [hwindow, List.length_append, hlen]; exact Nat.lt_irrefl 64)]
        obtain ⟨_, _, _, _, hclose⟩ := closeWindow_fields (sourceMode s i) (lagMin s i) (joinedModel i st arrival s)
        have hwindows : (joinedModel i st arrival s).windows = (source s i).windows := by rw [joinedModel, hkept]; rfl
        rw [hclose]
        refine ⟨rfl, congrArg (· + 1) hwindows, fun hmode => ?_, fun hvalid => ?_, fun hstart hmode hfew => ?_⟩
        · have hresidual : (windowMeasured (sourceMode s i) (joinedModel i st arrival s)).residual =
              windowSpread (joinedModel i st arrival s) := if_neg hmode
          have hspread := windowSpread_spec (m := joinedModel i st arrival s) (by rw [hwindow]; simp)
          rw [hwindow] at hspread
          simp only [hlagEq] at hspread
          rw [← hresidual] at hspread
          exact hspread
        · change closedState (sourceMode s i) (joinedModel i st arrival s) = .valid
          rw [closedState, hwindows, hjoinedState]
          rcases hstate with hst | hst
          · rw [hst, if_pos (by simp only [beq_self_eq_true, Bool.true_and, decide_eq_true_eq]; split <;> omega)]
          · rw [hst]
            rfl
        · change closedState (sourceMode s i) (joinedModel i st arrival s) = .starting
          rw [closedState, hwindows, hjoinedState, hstart, hmode, if_neg (by simp; omega)]

end Sys2Proof.Machine
end

section
/-! The RAW normaliser (O25): rounding to the nearest, ties away from zero (R131). -/

namespace Sys2Proof.Machine

/-- `n` is `x` rounded to the nearest, ties away from zero. -/
def RoundedTo (x : Rat) (n : Int) : Prop := |x - n| < 1 / 2 ∨ |x - n| = 1 / 2 ∧ |x| < |(n : Rat)|

theorem RoundedTo.neg {x : Rat} {n : Int} (h : RoundedTo x n) : RoundedTo (-x) (-n) := by
  have hdiff : |-x - ((-n : Int) : Rat)| = |x - n| := by
    rw [← abs_neg (x - n)]
    push_cast
    ring_nf
  have hn : |((-n : Int) : Rat)| = |(n : Rat)| := by rw [Int.cast_neg, abs_neg]
  rw [RoundedTo, hdiff, hn, abs_neg]
  exact h

/-- Halves are rounded up of what is not negative. -/
theorem roundedTo_nat (a : Nat) {b : Nat} (hb : 0 < b) : RoundedTo ((a : Rat) / b) (((2 * a + b) / (2 * b) : Nat) : Int) := by
  set q := (2 * a + b) / (2 * b)
  have hlow : 2 * b * q ≤ 2 * a + b := Nat.mul_div_le _ _
  have hhigh : 2 * a + b < 2 * b * (q + 1) := Nat.lt_mul_div_succ _ (by omega)
  have hb' : (0 : Rat) < b := Nat.cast_pos.2 hb
  have hlow' : 2 * (b : Rat) * q ≤ 2 * a + b := by exact_mod_cast hlow
  have hhigh' : 2 * (a : Rat) + b < 2 * b * (q + 1) := by exact_mod_cast hhigh
  have hge : (q : Rat) - 1 / 2 ≤ (a : Rat) / b := by
    rw [le_div_iff₀ hb']
    linarith
  have hlt : (a : Rat) / b < q + 1 / 2 := by
    rw [div_lt_iff₀ hb']
    linarith
  have hpos : (0 : Rat) ≤ (a : Rat) / b := by positivity
  rw [RoundedTo, Int.cast_natCast]
  rcases hge.lt_or_eq with hgt | heq
  · exact .inl (abs_lt.2 ⟨by linarith, by linarith⟩)
  · refine .inr ⟨?_, ?_⟩
    · rw [← heq, abs_of_neg (by linarith)]
      ring
    · rw [abs_of_nonneg hpos, abs_of_nonneg (Nat.cast_nonneg q)]
      linarith

theorem roundedTo_roundDiv (a : Int) {b : Nat} (hb : 0 < b) : RoundedTo ((a : Rat) / b) (roundDiv a b) := by
  unfold roundDiv
  split
  case isTrue hneg =>
    have h := (roundedTo_nat (-a).toNat hb).neg
    have hcast : (((-a).toNat : Nat) : Rat) = -(a : Rat) := by
      have hint : (((-a).toNat : Nat) : Int) = -a := Int.toNat_of_nonneg (by omega)
      exact_mod_cast hint
    rwa [hcast, neg_div, neg_neg] at h
  case isFalse hpos =>
    have h := roundedTo_nat a.toNat hb
    have hcast : ((a.toNat : Nat) : Rat) = (a : Rat) := by
      have hint : ((a.toNat : Nat) : Int) = a := Int.toNat_of_nonneg (by omega)
      exact_mod_cast hint
    rwa [hcast] at h

/-- Settles O25: the formula is a quotient, and `roundDiv` rounds it. -/
theorem normaliserFollowsItsFormula : Obligations.NormaliserFollowsItsFormula := by
  unfold Obligations.NormaliserFollowsItsFormula
  intro norm b p c shade hs hb
  refine ⟨_, ?_, rfl⟩
  have h := roundedTo_roundDiv
    ((((p * 2 ^ (16 - b) : Nat) : Int) - (fld norm (64 + 16 * c) 16 : Int)) * (fld norm (128 + 16 * c) 16 : Int) *
      (shade.1 : Int)) (b := 4096 * shade.2) (by omega)
  have hs' : (shade.2 : Rat) ≠ 0 := by exact_mod_cast hs.ne'
  have hx : ((p : Rat) * 2 ^ (16 - b) - fld norm (64 + 16 * c) 16) * ((fld norm (128 + 16 * c) 16 : Rat) / 4096) *
      ((shade.1 : Rat) / shade.2) =
      (((((p * 2 ^ (16 - b) : Nat) : Int) - (fld norm (64 + 16 * c) 16 : Int)) * (fld norm (128 + 16 * c) 16 : Int) *
        (shade.1 : Int) : Int) : Rat) / ((4096 * shade.2 : Nat) : Rat) := by
    push_cast
    field_simp
  rw [hx]
  exact h

end Sys2Proof.Machine
end

section
/-! Cameras (O24): frames that start, grow and end (R126 to R130, R132, R157). -/

namespace Sys2Proof.Machine

/-! ## The parts that camera packets touch -/

theorem receiver_modReceiver {r : Nat} (hr : r < 8) (f : Receiver → Receiver) (s : State) :
    receiver (modReceiver r f s) r = f (receiver s r) := vget_vmod_same _ _ hr

theorem receiver_of_ingest {s t : State} (h : t.ingest = s.ingest) (r : Nat) : receiver t r = receiver s r := by
  rw [receiver, h, receiver]

theorem changesOnly_modGroomer (r : Nat) (f : Groomer → Groomer) (s : State) : ChangesOnly [.safety] s (modGroomer r f s) := by
  rw [changesOnly_iff]
  simp [Part.same]

theorem changesOnly_injectionNotRun (r : Nat) (s : State) : ChangesOnly [.safety, .patrol] s (injectionNotRun r s) := by
  have hmod : ∀ f t, ChangesOnly [.safety, .patrol] t (modGroomer r f t) := fun f t =>
    (changesOnly_modGroomer r f t).mono (by simp)
  have hrep : ∀ c t, ChangesOnly [.safety, .patrol] t (report (safetyFault 5 r) 0 4 c 0 t) := fun c t =>
    (changesOnly_report _ _ _ _ _ t).mono (by simp)
  unfold injectionNotRun
  dsimp only
  split
  · exact hmod _ _
  · split
    · exact ((hmod _ _).step (hmod _ _)).step (hrep _ _)
    · exact ((hmod _ _).step (hmod _ _)).step (hrep _ _)

theorem changesOnly_abortInjection (r : Nat) (s : State) : ChangesOnly [.safety, .patrol] s (abortInjection r s) :=
  changesOnly_ite (fun _ => changesOnly_injectionNotRun r s) fun _ => .refl _ s

theorem changesOnly_scheduleInjection (r : Nat) (whole : Bool) (s : State) :
    ChangesOnly [.safety, .patrol] s (scheduleInjection r whole s) := by
  have hmod : ∀ f t, ChangesOnly [.safety, .patrol] t (modGroomer r f t) := fun f t =>
    (changesOnly_modGroomer r f t).mono (by simp)
  unfold scheduleInjection
  exact changesOnly_ite (fun _ => changesOnly_injectionNotRun r s) fun _ => changesOnly_ite (fun _ => hmod _ _) fun _ =>
    changesOnly_ite (fun _ => (hmod _ _).step (hmod _ _)) fun _ => (hmod _ _).step (changesOnly_injectionNotRun r _)

theorem groomer_modGroomer {r : Nat} (hr : r < 8) (f : Groomer → Groomer) (s : State) :
    groomer (modGroomer r f s) r = f (groomer s r) := vget_vmod_same _ _ hr

/-- What an injection that does not run leaves of the detectors' memory. -/
theorem groomer_abortInjection {r : Nat} (hr : r < 8) (s : State) :
    (groomer (abortInjection r s) r).distrust = (groomer s r).distrust ∧
    (groomer (abortInjection r s) r).lastCrc = (groomer s r).lastCrc ∧
    (groomer (abortInjection r s) r).lastCounter = (groomer s r).lastCounter := by
  have hrep : ∀ src c t, groomer (report src 0 4 c 0 t) r = groomer t r := fun _ _ _ => rfl
  unfold abortInjection
  split
  · unfold injectionNotRun
    dsimp only
    split
    · rw [groomer_modGroomer hr]
      exact ⟨rfl, rfl, rfl⟩
    · split
      · rw [hrep, groomer_modGroomer hr, groomer_modGroomer hr]
        exact ⟨rfl, rfl, rfl⟩
      · rw [hrep, groomer_modGroomer hr, groomer_modGroomer hr]
        exact ⟨rfl, rfl, rfl⟩
  · exact ⟨rfl, rfl, rfl⟩

theorem changesOnly_countCorrected (r : Nat) (corrected : Bool) (s : State) :
    ChangesOnly [.ingest] s (countCorrected r corrected s) :=
  changesOnly_ite (fun _ => changesOnly_modSource r _ s) fun _ => .refl _ s

theorem receiver_countCorrected (r q : Nat) (corrected : Bool) (s : State) :
    receiver (countCorrected r corrected s) q = receiver s q := by
  unfold countCorrected
  split <;> rfl

/-- A source with a corrected header counted. -/
def eccCounted (corrected : Bool) (m : Source) : Source :=
  if corrected then { m with eccCorrected := bump m.eccCorrected } else m

theorem source_countCorrected {r : Nat} (hr : r < 26) (corrected : Bool) (s : State) :
    source (countCorrected r corrected s) r = eccCounted corrected (source s r) := by
  unfold countCorrected eccCounted
  split
  · exact source_modSource hr _ s
  · rfl

/-! ## The end of a frame (R127, R129, R130, R479) -/

theorem changesOnly_runFrozen (r : Nat) (f : OpenFrame) (s : State) :
    ChangesOnly [.safety, .align, .patrol] s (runFrozen r f s).1 := by
  have hmod : ∀ g, ChangesOnly [.safety, .align, .patrol] s (modGroomer r g s) := fun g =>
    (changesOnly_modGroomer r g s).mono (by simp)
  have hhit : ∀ u, ChangesOnly [.safety, .align, .patrol] s u → ChangesOnly [.safety, .align, .patrol] s
      (if 2 ≤ (groomer s r).frozenRun + 1 then excludeCamera r (report (safetyFault 6 r) 0 3 .uc 0 u)
        else report (safetyFault 6 r) 0 3 .uc 0 u) := fun u hu =>
    (hu.step ((changesOnly_report _ _ _ _ _ _).mono (by simp))).step
      (changesOnly_ite (fun _ => (changesOnly_modTrust r _ _).mono (by simp)) fun _ => .refl _ _)
  have hmiss : ∀ u, ChangesOnly [.safety, .align, .patrol] s u → ChangesOnly [.safety, .align, .patrol] s
      (if 0 < (groomer s r).frozenRun then evaluateAgain (safetyFault 6 r) 0 3 false u else u) := fun u hu =>
    hu.step (changesOnly_ite (fun _ => (changesOnly_evaluateAgain _ _ _ _ _).mono (by simp)) fun _ => .refl _ _)
  unfold runFrozen
  dsimp only
  rw [apply_ite Prod.fst]
  refine changesOnly_ite (fun _ => ?_) fun _ => ?_
  · exact hhit _ (hmod _)
  · exact hmiss _ (hmod _)

/-- The frozen-frame detectors find nothing: the frame stays whole. -/
theorem runFrozen_whole {r : Nat} {f : OpenFrame} {s : State}
    (h : frozenFound (frozenMode s r) (groomer s r) (crc32c f.tensor) f.counter = false) : (runFrozen r f s).2 = true := by
  unfold runFrozen
  simp only [h, Bool.false_eq_true, if_false]

/-- A frame has all its lines, all good, and its receiver is not distrusted. -/
def frameComplete (r : Nat) (arrived : Bool) (f : OpenFrame) (s : State) : Bool :=
  arrived && !f.bad && f.lines == csiHeight (csiBlock s r) && !(groomer s r).distrust

/-- The detectors' work on a frame that has ended, and whether the frame is whole. -/
def frameJudged (r : Nat) (arrived : Bool) (f : OpenFrame) (s : State) : State × Bool :=
  if frameComplete r arrived f s then runFrozen r f s else (s, false)

/-- The frame as its slot holds it. -/
def slotFrame (b : Bytes) (whole : Bool) (f : OpenFrame) : CamFrame :=
  { tensor := f.tensor, e0 := f.e0, exposure := exposureOf b f.embedded, lineTimePs := fld b 160 32,
    mid := midPoint b f.e0 (exposureOf b f.embedded), arrival := f.arrival, lag := f.lag, damaged := !whole }

/-- A receiver whose frame has ended. -/
def frameEnded (b : Bytes) (whole : Bool) (run : Nat) (f : OpenFrame) (x : Receiver) : Receiver :=
  { x with
    frame := none, damagedRun := if whole then 0 else run,
    slots := vmod x.slots f.slot (fun sl => { sl with frame := some (slotFrame b whole f), admitted := false }) }

/-- A source with one more frame, whole or damaged. -/
def frameCounted (whole : Bool) (m : Source) : Source :=
  if whole then { m with whole := bump m.whole } else { m with damaged := bump m.damaged }

/-- The frame's slot and its counters. -/
def frameStored (b : Bytes) (r : Nat) (whole : Bool) (f : OpenFrame) (s : State) : State :=
  modSource r (frameCounted whole) (modReceiver r (frameEnded b whole ((receiver s r).damagedRun + 1) f) s)

theorem changesOnly_lateCheck (i : Nat) (mu alpha : Interval) (s : State) : ChangesOnly [.align] s (lateCheck i mu alpha s) :=
  changesOnly_ite (fun _ => changesOnly_modTrust i _ s) fun _ => .refl _ s

theorem changesOnly_frameStored (b : Bytes) (r : Nat) (whole : Bool) (f : OpenFrame) (s : State) :
    ChangesOnly [.ingest] s (frameStored b r whole f s) :=
  (changesOnly_modReceiver r _ s).step (changesOnly_modSource r _ _)

/-- After the frame is stored, a report or the check for late units. -/
def afterFrame (r run : Nat) (whole : Bool) (frame : CamFrame) (s : State) : State :=
  if !whole && run == 3 then report (ingestFault r 0) 0 4 .ce 0 s
  else if whole then lateCheck r (frame.mid : Int) (arrivalInstant s r frame.mid frame.lag) s else s

theorem endFrame_eq (r : Nat) (arrived : Bool) (f : OpenFrame) (s : State) : endFrame r arrived f s =
    afterFrame r ((receiver (frameJudged r arrived f s).1 r).damagedRun + 1) (frameJudged r arrived f s).2
      (slotFrame (csiBlock s r) (frameJudged r arrived f s).2 f)
      (frameStored (csiBlock s r) r (frameJudged r arrived f s).2 f (frameJudged r arrived f s).1) := rfl

theorem changesOnly_afterFrame (r run : Nat) (whole : Bool) (frame : CamFrame) (s : State) :
    ChangesOnly [.align, .patrol] s (afterFrame r run whole frame s) :=
  changesOnly_ite (fun _ => (changesOnly_report _ _ _ _ _ _).mono (by simp)) fun _ =>
    changesOnly_ite (fun _ => (changesOnly_lateCheck _ _ _ _).mono (by simp)) fun _ => .refl _ _

theorem changesOnly_frameJudged (r : Nat) (arrived : Bool) (f : OpenFrame) (s : State) :
    ChangesOnly [.safety, .align, .patrol] s (frameJudged r arrived f s).1 := by
  unfold frameJudged
  split
  · exact changesOnly_runFrozen r f s
  · exact .refl _ s

theorem changesOnly_endFrame (r : Nat) (arrived : Bool) (f : OpenFrame) (s : State) :
    ChangesOnly [.ingest, .align, .patrol, .safety] s (endFrame r arrived f s) := by
  rw [endFrame_eq]
  exact (((changesOnly_frameJudged r arrived f s).comp (changesOnly_frameStored _ _ _ _ _)).comp
    (changesOnly_afterFrame _ _ _ _ _)).mono (by simp)

/-- A frame that ends leaves its receiver and its source as its completeness calls for. -/
theorem endFrame_ingest {r : Nat} (hr : r < 8) (arrived : Bool) (f : OpenFrame) (s : State) :
    receiver (endFrame r arrived f s) r = frameEnded (csiBlock s r) (frameJudged r arrived f s).2
      ((receiver s r).damagedRun + 1) f (receiver s r) ∧
    source (endFrame r arrived f s) r = frameCounted (frameJudged r arrived f s).2 (source s r) := by
  have hjudged := changesOnly_frameJudged r arrived f s .ingest (by simp)
  have hafter := changesOnly_afterFrame r ((receiver (frameJudged r arrived f s).1 r).damagedRun + 1)
    (frameJudged r arrived f s).2 (slotFrame (csiBlock s r) (frameJudged r arrived f s).2 f)
    (frameStored (csiBlock s r) r (frameJudged r arrived f s).2 f (frameJudged r arrived f s).1) .ingest (by simp)
  rw [endFrame_eq, receiver_of_ingest hafter, source_of_ingest hafter, frameStored, source_modSource (by omega)]
  refine ⟨?_, ?_⟩
  · rw [← receiver_of_ingest hjudged]
    exact receiver_modReceiver hr _ _
  · rw [← source_of_ingest hjudged]
    rfl

/-- A frame with a bad line or too few or too many is damaged. -/
theorem frameJudged_damaged {r : Nat} {arrived : Bool} {f : OpenFrame} {s : State}
    (h : f.bad = true ∨ f.lines ≠ csiHeight (csiBlock s r)) : (frameJudged r arrived f s).2 = false := by
  have hno : frameComplete r arrived f s = false := by
    unfold frameComplete
    rcases h with h | h
    · simp [h]
    · simp [beq_false_of_ne h]
  rw [frameJudged, hno]
  rfl

theorem frameJudged_whole {r : Nat} {f : OpenFrame} {s : State} (hbad : f.bad = false)
    (hlines : f.lines = csiHeight (csiBlock s r)) (hdis : (groomer s r).distrust = false)
    (hfrozen : frozenFound (frozenMode s r) (groomer s r) (crc32c f.tensor) f.counter = false) :
    (frameJudged r true f s).2 = true := by
  have hyes : frameComplete r true f s = true := by simp [frameComplete, hbad, hlines, hdis]
  rw [frameJudged, hyes, if_pos rfl]
  exact runFrozen_whole hfrozen

end Sys2Proof.Machine
end

section
/-! Camera packets (O24): frame starts, lines, frame ends, losses of synchronisation. -/

namespace Sys2Proof.Machine

theorem rxTakes_iff {s : State} {r vc : Nat} : rxTakes s r vc = true ↔
    r < 8 ∧ sourceActive s r = true ∧ csiVc (csiBlock s r) = vc := by
  unfold rxTakes
  simp [and_assoc]

theorem ChangesOnly.csiBlock {l : List Part} {s t : State} (h : ChangesOnly l s t) (hl : Part.settings ∉ l) (r : Nat) :
    Machine.csiBlock t r = Machine.csiBlock s r := h.setting_eq hl 0x0400 r

theorem ChangesOnly.now_eq {l : List Part} {s t : State} (h : ChangesOnly l s t) (hl : Part.time ∉ l) : now t = now s :=
  (sameClock_of_time (h .time hl)).1

/-! ## The packet's receiver (R126, R157, R477) -/

theorem source_modReceiver (r i : Nat) (f : Receiver → Receiver) (s : State) : source (modReceiver r f s) i = source s i := rfl

theorem receiver_modSource (i r : Nat) (f : Source → Source) (s : State) : receiver (modSource i f s) r = receiver s r := rfl

/-- A packet's effect on the Groomer and on the count of corrected headers. -/
def packetMet (r : Nat) (corrected : Bool) (s : State) : State := countCorrected r corrected (abortInjection r s)

theorem changesOnly_packetMet (r : Nat) (corrected : Bool) (s : State) :
    ChangesOnly [.ingest, .safety, .patrol] s (packetMet r corrected s) :=
  ((changesOnly_abortInjection r s).comp (changesOnly_countCorrected r corrected _)).mono (by simp)

theorem receiver_packetMet (r : Nat) (corrected : Bool) (s : State) : receiver (packetMet r corrected s) r = receiver s r := by
  rw [packetMet, receiver_countCorrected, receiver_of_ingest (changesOnly_abortInjection r s .ingest (by simp))]

theorem source_packetMet {r : Nat} (hr : r < 8) (corrected : Bool) (s : State) :
    source (packetMet r corrected s) r = eccCounted corrected (source s r) := by
  rw [packetMet, source_countCorrected (by omega), source_of_ingest (changesOnly_abortInjection r s .ingest (by simp))]

theorem groomer_packetMet {r : Nat} (hr : r < 8) (corrected : Bool) (s : State) :
    (groomer (packetMet r corrected s) r).distrust = (groomer s r).distrust ∧
    (groomer (packetMet r corrected s) r).lastCrc = (groomer s r).lastCrc ∧
    (groomer (packetMet r corrected s) r).lastCounter = (groomer s r).lastCounter := by
  have hsafety : (packetMet r corrected s).safety = (abortInjection r s).safety :=
    changesOnly_countCorrected r corrected _ .safety (by simp)
  have hgroomer : groomer (packetMet r corrected s) r = groomer (abortInjection r s) r := by rw [groomer, hsafety, groomer]
  rw [hgroomer]
  exact groomer_abortInjection hr s

/-! ## Frame starts (R128 to R130, R132) -/

/-- A receiver whose lanes begin a frame. -/
def lanesCleared (x : Receiver) : Receiver := { x with syncLosses := Vector.replicate 4 0 }

/-- A frame-start packet has been met; a frame still open has ended damaged. -/
def startMet (r : Nat) (corrected : Bool) (s : State) : State :=
  match (receiver s r).frame with
  | some f => endFrame r false f (modReceiver r lanesCleared (packetMet r corrected s))
  | none => modReceiver r lanesCleared (packetMet r corrected s)

/-- A free-running receiver's frame starts too soon after the one before (R128). -/
def tooEarly (r : Nat) (s : State) : Bool :=
  !csiTriggered (csiBlock s r) && (match (receiver s r).lastKept with
    | some l => decide (now s < l + 32 * msUnits)
    | none => false)

/-- A frame start that is dropped. -/
def startDropped (r : Nat) (s : State) : State :=
  modReceiver r (fun x => { x with dropping := true }) (modSource r (fun m => { m with dropped := bump m.dropped }) s)

theorem receiver_lanesCleared {r : Nat} (hr : r < 8) (corrected : Bool) (s : State) :
    receiver (modReceiver r lanesCleared (packetMet r corrected s)) r = lanesCleared (receiver s r) := by
  rw [receiver_modReceiver hr, receiver_packetMet]

theorem execCsiFrameStart_eq {r vc number : Nat} {corrected : Bool} {s : State} (ha : awake s = true)
    (ht : rxTakes s r vc = true) (hn : number < 65536) : execCsiFrameStart r vc number corrected s =
      answer s (if tooEarly r (startMet r corrected s) then startDropped r (startMet r corrected s)
        else startFrame r (startMet r corrected s)) := by
  have hr := (rxTakes_iff.1 ht).1
  have hgo : (!rxTakes s r vc || decide (65536 ≤ number)) = false := by simp [ht, hn]
  have hframe : (receiver (modReceiver r lanesCleared (packetMet r corrected s)) r).frame = (receiver s r).frame := by
    rw [receiver_lanesCleared hr]
    rfl
  unfold execCsiFrameStart awakeAnswer
  rw [if_pos ha]
  simp only [hgo, Bool.false_eq_true, if_false]
  have hmet : startMet r corrected s = match (receiver (modReceiver r lanesCleared (packetMet r corrected s)) r).frame with
      | some f => endFrame r false f (modReceiver r lanesCleared (packetMet r corrected s))
      | none => modReceiver r lanesCleared (packetMet r corrected s) := by
    rw [hframe]
    rfl
  rw [hmet]
  rfl

theorem changesOnly_startMet (r : Nat) (corrected : Bool) (s : State) :
    ChangesOnly [.ingest, .align, .patrol, .safety] s (startMet r corrected s) := by
  have hmet : ChangesOnly [.ingest, .align, .patrol, .safety] s (modReceiver r lanesCleared (packetMet r corrected s)) :=
    ((changesOnly_packetMet r corrected s).comp (changesOnly_modReceiver r _ _)).mono (by simp)
  unfold startMet
  split
  · exact hmet.step (changesOnly_endFrame _ _ _ _)
  · exact hmet

/-- A frame start leaves the receiver's last frame and the count of dropped ones. -/
theorem startMet_keeps {r : Nat} (hr : r < 8) (corrected : Bool) (s : State) :
    (receiver (startMet r corrected s) r).lastKept = (receiver s r).lastKept ∧
    (source (startMet r corrected s) r).dropped = (source s r).dropped := by
  have hsource : (source (modReceiver r lanesCleared (packetMet r corrected s)) r).dropped = (source s r).dropped := by
    have hpacket : (source (packetMet r corrected s) r).dropped = (source s r).dropped := by
      rw [source_packetMet hr, eccCounted]
      split <;> rfl
    exact hpacket
  unfold startMet
  split
  · obtain ⟨hrx, hsrc⟩ := endFrame_ingest hr false _ (modReceiver r lanesCleared (packetMet r corrected s))
    rw [hrx, hsrc, receiver_lanesCleared hr, ← hsource]
    refine ⟨rfl, ?_⟩
    unfold frameCounted
    split <;> rfl
  · rw [receiver_lanesCleared hr]
    exact ⟨rfl, hsource⟩

theorem frameStartIsDropped {r vc number : Nat} {corrected : Bool} {s : State} (ha : awake s = true) (ht : rxTakes s r vc = true)
    (hn : number < 65536) (hfree : csiTriggered (csiBlock s r) = false)
    (hsoon : ∃ l, (receiver s r).lastKept = some l ∧ now s < l + 32 * msUnits) :
    Completes (.csiFrameStart r vc number corrected) s fun t => (source t r).dropped = bump (source s r).dropped ∧
      (receiver t r).dropping = true ∧ (receiver t r).lastKept = (receiver s r).lastKept ∧
      ChangesOnly [.ingest, .align, .patrol, .safety] s t := by
  have hr := (rxTakes_iff.1 ht).1
  obtain ⟨hlast, hdropped⟩ := startMet_keeps hr corrected s
  have hmet := changesOnly_startMet r corrected s
  obtain ⟨l, hl, hlt⟩ := hsoon
  have hearly : tooEarly r (startMet r corrected s) = true := by
    rw [tooEarly, hmet.csiBlock (by simp), hfree, hlast, hl, hmet.now_eq (by simp)]
    simp only [Bool.not_false, Bool.true_and, decide_eq_true_eq]
    exact hlt
  refine completes_of_answer ((exec_csiFrameStart r vc number corrected s).trans (execCsiFrameStart_eq ha ht hn)) ?_
  rw [if_pos hearly, source_of_ingest (settle_ingest _ _), receiver_of_ingest (settle_ingest _ _), startDropped,
    receiver_modReceiver hr, source_modReceiver, source_modSource (by omega), receiver_modSource]
  generalize startMet r corrected s = u at hlast hdropped hmet
  refine ⟨congrArg bump hdropped, rfl, hlast, ((hmet.comp ((changesOnly_modSource r _ _).step (changesOnly_modReceiver r _ _))).mono (by simp)).settle s⟩

/-- One step of the choice of a slot. -/
def slotChoice (slots : Vector RingSlot 3) (best : Option (Nat × Nat)) (i : Nat) : Option (Nat × Nat) :=
  if (vget slots i).held then best
  else match best with
    | some (_, a) => if (vget slots i).age < a then some (i, (vget slots i).age) else best
    | none => some (i, (vget slots i).age)

/-- The choice among some slots holds a free one as soon as there is one. -/
theorem slotChoice_free (slots : Vector RingSlot 3) (l : List Nat) : ∀ best : Option (Nat × Nat),
    (∀ b, best = some b → b.1 < 3 ∧ (vget slots b.1).held = false) → (∀ i ∈ l, i < 3) →
    (best.isSome = true ∨ ∃ i ∈ l, (vget slots i).held = false) →
    ∃ b, l.foldl (slotChoice slots) best = some b ∧ b.1 < 3 ∧ (vget slots b.1).held = false := by
  induction l with
  | nil =>
    intro best hbest _ hsome
    obtain ⟨b, hb⟩ := Option.isSome_iff_exists.1 (hsome.resolve_right (by simp))
    exact ⟨b, hb, hbest b hb⟩
  | cons i l ih =>
    intro best hbest hlt hsome
    have hstep : ∀ b, slotChoice slots best i = some b → b.1 < 3 ∧ (vget slots b.1).held = false := by
      intro b hb
      unfold slotChoice at hb
      split at hb
      · exact hbest b hb
      next hfree =>
        have hi : i < 3 ∧ (vget slots i).held = false := ⟨hlt i List.mem_cons_self, by simpa using hfree⟩
        split at hb
        · split at hb
          · rw [← Option.some.inj hb]
            exact hi
          · exact hbest b hb
        · rw [← Option.some.inj hb]
          exact hi
    refine ih _ hstep (fun j hj => hlt j (List.mem_cons_of_mem _ hj)) ?_
    by_cases hfree : (vget slots i).held = false
    · left
      unfold slotChoice
      rw [if_neg (by simp [hfree])]
      split
      · split <;> rfl
      · rfl
    · have hheld : slotChoice slots best i = best := if_pos (by simpa using hfree)
      rw [hheld]
      refine hsome.imp id fun h => ?_
      obtain ⟨j, hj, hjfree⟩ := h
      rcases List.mem_cons.1 hj with rfl | hj
      · exact absurd hjfree hfree
      · exact ⟨j, hj, hjfree⟩

/-- The slot written next is one that is not held. -/
theorem nextSlot_free {x : Receiver} (h : ∃ i, i < 3 ∧ (vget x.slots i).held = false) :
    nextSlot x < 3 ∧ (vget x.slots (nextSlot x)).held = false := by
  obtain ⟨i, hi, hfree⟩ := h
  obtain ⟨b, hb, hlt, hbfree⟩ := slotChoice_free x.slots (List.range 3) none nofun (fun i hi => List.mem_range.1 hi)
    (.inr ⟨i, List.mem_range.2 hi, hfree⟩)
  have hnext : nextSlot x = ((List.range 3).foldl (slotChoice x.slots) none).elim 0 (·.1) := rfl
  rw [hnext, hb]
  exact ⟨hlt, hbfree⟩

end Sys2Proof.Machine
end

section
/-! Camera packets (O24): frames that open, take lines and end; losses of synchronisation. -/

namespace Sys2Proof.Machine

/-! ## A frame opens (R128 to R130, R132) -/

/-- The open frame of a frame-start packet. -/
def openedFrame (n : Nat) (t e0 : Dts) (lag : Interval) : OpenFrame :=
  { slot := n, arrival := t, e0 := e0, lag := lag, lines := 0, upper := none, tensor := [], bad := false,
    embedded := none, counter := none, embLines := 0 }

/-- The frame in the slot to be written is whole and has not been admitted: it is lost. -/
def ringLoss (r : Nat) (s : State) : Bool :=
  match (vget (receiver s r).slots (nextSlot (receiver s r))).frame with
  | some f => !f.damaged && !(vget (receiver s r).slots (nextSlot (receiver s r))).admitted
  | none => false

/-- The frame that the slot still held is counted where it is lost. -/
def ringCounted (r : Nat) (s : State) : State :=
  if ringLoss r s then modSource r (fun m => { m with lost := bump m.lost }) s else s

/-- A receiver with a frame opened in a slot. -/
def frameOpened (r n : Nat) (t : Dts) (f : OpenFrame) (s : State) (x : Receiver) : Receiver :=
  { x with
    frame := some f, dropping := false, lastKept := some t, starts := (x.starts ++ [t]).drop (x.starts.length - 64),
    slots := vset x.slots n { held := false, frame := none, admitted := false, age := x.nextAge },
    nextAge := x.nextAge + 1, norm := setting s 0x0401 r, syncs := [],
    activeShading := if shadingDue s r then 1 - x.activeShading else x.activeShading,
    shadingPending := x.shadingPending && !shadingDue s r }

theorem startFrame_eq (r : Nat) (s : State) : startFrame r s =
    if !(takeUnit r (exposureStart s r (now s)) (now s) s).2.1 then
      modReceiver r (fun x => { x with dropping := true, frame := none }) (takeUnit r (exposureStart s r (now s)) (now s) s).1
    else
      modReceiver r (frameOpened r (nextSlot (receiver (takeUnit r (exposureStart s r (now s)) (now s) s).1 r)) (now s)
        (openedFrame (nextSlot (receiver (takeUnit r (exposureStart s r (now s)) (now s) s).1 r)) (now s)
          (exposureStart s r (now s)) (takeUnit r (exposureStart s r (now s)) (now s) s).2.2)
        (ringCounted r (takeUnit r (exposureStart s r (now s)) (now s) s).1))
        (ringCounted r (takeUnit r (exposureStart s r (now s)) (now s) s).1) := rfl

theorem ringCounted_keeps {r : Nat} (hr : r < 8) (s : State) : receiver (ringCounted r s) r = receiver s r ∧
    (source (ringCounted r s) r).units = (source s r).units ∧
    (source (ringCounted r s) r).eccCorrected = (source s r).eccCorrected ∧ ChangesOnly [.ingest] s (ringCounted r s) := by
  unfold ringCounted
  split
  · rw [receiver_modSource, source_modSource (by omega)]
    exact ⟨rfl, rfl, rfl, changesOnly_modSource r _ s⟩
  · exact ⟨rfl, rfl, rfl, .refl _ s⟩

/-- A frame start that is kept: its slot, its stamps and the normaliser's block. -/
theorem startFrame_kept {r : Nat} {s : State} (hr : r < 8)
    (hkept : ∀ l, (source s r).lastStamp = some l → l ≤ modelStamp s r (exposureStart s r (now s)) (now s)) :
    (receiver (startFrame r s) r).frame = some (openedFrame (nextSlot (receiver s r)) (now s) (exposureStart s r (now s))
      (metLag r (exposureStart s r (now s)) (now s) s)) ∧
    (receiver (startFrame r s) r).norm = setting s 0x0401 r ∧
    (source (startFrame r s) r).units = bump (source s r).units ∧
    (source (startFrame r s) r).eccCorrected = (source s r).eccCorrected ∧
    ChangesOnly [.ingest, .align, .patrol] s (startFrame r s) := by
  have hunit := takeUnit_kept hkept
  have hframe := changesOnly_takeUnit r (exposureStart s r (now s)) (now s) s
  obtain ⟨n, hn, hingest⟩ := takeUnit_ingest r (exposureStart s r (now s)) (now s) s
  have hcounted := unitCounted_takeUnit (i := r) (by omega) (exposureStart s r (now s)) (now s) s
  have hrx : receiver (takeUnit r (exposureStart s r (now s)) (now s) s).1 r = receiver s r := by
    rw [receiver_of_ingest hingest, receiver_modSource]
  rw [startFrame_eq, hunit, if_neg (by simp), hrx]
  generalize (takeUnit r (exposureStart s r (now s)) (now s) s).1 = u at hframe hcounted hrx ⊢
  obtain ⟨hvrx, hvunits, hvecc, hvframe⟩ := ringCounted_keeps hr u
  have hall := hframe.step (hvframe.mono (by simp))
  rw [receiver_modReceiver hr, source_modReceiver, hvunits, hvecc, hcounted.units, hcounted.eccCorrected]
  exact ⟨rfl, hall.setting_eq (by simp) _ _, rfl, rfl, hall.step ((changesOnly_modReceiver r _ _).mono (by simp))⟩

/-- E0 and its stamp do not hang on what the packet's header and lanes count. -/
theorem exposureStart_congr {r : Nat} {s t : State} (hcsi : csiBlock t r = csiBlock s r)
    (hsyncs : (receiver t r).syncs = (receiver s r).syncs) (arrival : Dts) : exposureStart t r arrival = exposureStart s r arrival := by
  unfold exposureStart
  rw [hcsi, hsyncs]

theorem modelStamp_congr {r : Nat} {s t : State} (h : ∀ op idx, setting t op idx = setting s op idx) (st arrival : Dts) :
    modelStamp t r st arrival = modelStamp s r st arrival := by
  unfold modelStamp sourceMode lagMin lagRange sourceBlock
  simp only [h]

theorem frameOpens {r vc number : Nat} {corrected : Bool} {s : State} (ha : awake s = true) (ht : rxTakes s r vc = true)
    (hn : number < 65536) (hnone : (receiver s r).frame = none)
    (hslot : ∃ i, i < 3 ∧ (vget (receiver s r).slots i).held = false)
    (htime : csiTriggered (csiBlock s r) = true ∨ (∀ l, (receiver s r).lastKept = some l → l + 32 * msUnits ≤ now s))
    (hstamp : ∀ l, (source s r).lastStamp = some l → l ≤ modelStamp s r (exposureStart s r (now s)) (now s)) :
    Completes (.csiFrameStart r vc number corrected) s fun t => ∃ f, (receiver t r).frame = some f ∧ f.arrival = now s ∧
      f.lines = 0 ∧ f.bad = false ∧ f.slot < 3 ∧ (vget (receiver s r).slots f.slot).held = false ∧
      (∀ e, csiTriggered (csiBlock s r) = true → (receiver s r).syncs.getLast? = some e →
        f.e0 = e + fld (csiBlock s r) 224 32 * nsUnits) ∧
      (csiTriggered (csiBlock s r) = false → f.e0 = now s - fld (csiBlock s r) 96 32 * nsUnits) ∧
      (receiver t r).norm = setting s 0x0401 r ∧ (source t r).units = bump (source s r).units ∧
      (source t r).eccCorrected = (if corrected = true then bump (source s r).eccCorrected else (source s r).eccCorrected) ∧
      ChangesOnly [.ingest, .align, .patrol, .safety] s t := by
  have hr := (rxTakes_iff.1 ht).1
  have hmet : startMet r corrected s = modReceiver r lanesCleared (packetMet r corrected s) := by
    unfold startMet
    rw [hnone]
  have hframe := changesOnly_startMet r corrected s
  have hlast := (startMet_keeps hr corrected s).1
  have hnow := hframe.now_eq (by simp)
  have hcsi := hframe.csiBlock (by simp) r
  have hlate : tooEarly r (startMet r corrected s) = false := by
    rw [tooEarly, hcsi, hlast, hnow]
    rcases htime with htrig | hlate
    · rw [htrig]
      rfl
    · cases hl : (receiver s r).lastKept with
      | none => simp
      | some l => simp [hlate l hl]
  have hrx : receiver (startMet r corrected s) r = lanesCleared (receiver s r) := by rw [hmet, receiver_lanesCleared hr]
  have hsrc : source (startMet r corrected s) r = eccCounted corrected (source s r) := by
    rw [hmet, source_modReceiver, source_packetMet hr]
  have hlastStamp : (eccCounted corrected (source s r)).lastStamp = (source s r).lastStamp := by
    unfold eccCounted
    split <;> rfl
  have hunits : (eccCounted corrected (source s r)).units = (source s r).units := by
    unfold eccCounted
    split <;> rfl
  refine completes_of_answer ((exec_csiFrameStart r vc number corrected s).trans (execCsiFrameStart_eq ha ht hn)) ?_
  rw [if_neg (by rw [hlate]; exact Bool.false_ne_true)]
  have hset : ∀ op idx, setting (startMet r corrected s) op idx = setting s op idx := fun op idx =>
    hframe.setting_eq (by simp) op idx
  generalize startMet r corrected s = u at hframe hnow hcsi hrx hsrc hset
  have he0 : exposureStart u r (now u) = exposureStart s r (now s) := by
    rw [hnow]
    exact exposureStart_congr hcsi (by rw [hrx]; rfl) _
  obtain ⟨hopen, hnorm, hcount, hecc, hstart⟩ := startFrame_kept (s := u) hr (by
    rw [hsrc, hlastStamp, he0, modelStamp_congr hset, hnow]
    exact hstamp)
  obtain ⟨hlt, hheld⟩ := nextSlot_free (x := receiver u r) (by rw [hrx]; exact hslot)
  rw [he0, hnow] at hopen
  rw [source_of_ingest (settle_ingest _ _), receiver_of_ingest (settle_ingest _ _), hnorm, hcount, hecc, hsrc, hunits]
  refine ⟨_, hopen, rfl, rfl, rfl, hlt, ?_, fun e htrig hsync => ?_, fun htrig => ?_, hset _ _, rfl, ?_,
    (hframe.step (hstart.mono (by simp))).settle s⟩
  · rw [hrx] at hheld
    have hn' : nextSlot (receiver u r) = nextSlot (lanesCleared (receiver s r)) := by rw [hrx]
    change (vget (receiver s r).slots (nextSlot (receiver u r))).held = false
    rw [hn']
    exact hheld
  · change exposureStart s r (now s) = _
    simp only [exposureStart, htrig, hsync]
  · change exposureStart s r (now s) = _
    simp only [exposureStart, htrig]
  · unfold eccCounted
    split <;> rfl

/-! ## A line joins the frame (R126, R130) -/

/-- An image line of RAW data: counted, and joined in pairs. -/
theorem takeLine_raw {s : State} {r : Nat} {line : List Nat} {f : OpenFrame} (hraw : csiType (csiBlock s r) ≠ 0x1E) :
    (takeLine s r line f).lines = f.lines + 1 ∧
    ((takeLine s r line f).bad = true ↔ f.bad = true ∨ line.length ≠ csiWidth (csiBlock s r) ∨
      csiHeight (csiBlock s r) ≤ f.lines) ∧
    (f.upper = none → (takeLine s r line f).upper = some line ∧ (takeLine s r line f).tensor = f.tensor) ∧
    ∀ u, f.upper = some u → (takeLine s r line f).upper = none ∧ (takeLine s r line f).tensor = f.tensor ++
      quadRow (csiBlock s r) (receiver s r).norm (vget (receiver s r).shading (receiver s r).activeShading)
        (bitAt (receiver s r).norm 10) (f.lines / 2) u line := by
  have hyuv : (csiType (csiBlock s r) == 0x1E) = false := beq_false_of_ne hraw
  unfold takeLine
  simp only [hyuv, Bool.false_eq_true, if_false]
  cases hu : f.upper with
  | none => exact ⟨rfl, by simp [or_assoc], fun _ => ⟨rfl, rfl⟩, nofun⟩
  | some u =>
    refine ⟨rfl, by simp [or_assoc], nofun, fun u' hu' => ?_⟩
    rw [← Option.some.inj hu']
    exact ⟨rfl, rfl⟩

/-- A frame with a line of image data taken in. -/
def lineTaken (s : State) (r : Nat) (p : CsiPacket) (f : OpenFrame) : OpenFrame :=
  { takeLine s r p.pixels f with bad := (takeLine s r p.pixels f).bad || !p.crcOk }

theorem execCsiLongPacket_line {r : Nat} {p : CsiPacket} {f : OpenFrame} {s : State} (ha : awake s = true)
    (ht : rxTakes s r p.vc = true) (hf : (receiver s r).frame = some f) (hd : (receiver s r).dropping = false)
    (hh : p.headerOk = true) (hty : p.dataType = csiType (csiBlock s r)) : execCsiLongPacket r p s =
      answer s (modReceiver r (fun x => { x with frame := some (lineTaken (packetMet r p.corrected s) r p f) })
        (packetMet r p.corrected s)) := by
  have hrx := receiver_packetMet r p.corrected s
  have hf' : (receiver (packetMet r p.corrected s) r).frame = some f := by rw [hrx, hf]
  have hd' : (receiver (packetMet r p.corrected s) r).dropping = false := by rw [hrx, hd]
  unfold packetMet at hf' hd' ⊢
  unfold execCsiLongPacket awakeAnswer
  rw [if_pos ha]
  simp only [ht, hf', hd', hh, hty, Bool.not_true, Bool.false_eq_true, if_false, if_true]
  rfl

theorem lineIsTaken {r : Nat} {p : CsiPacket} {f : OpenFrame} {s : State} (ha : awake s = true)
    (ht : rxTakes s r p.vc = true) (hf : (receiver s r).frame = some f) (hd : (receiver s r).dropping = false)
    (hh : p.headerOk = true) (hty : p.dataType = csiType (csiBlock s r)) (hraw : csiType (csiBlock s r) ≠ 0x1E) :
    Completes (.csiLongPacket r p) s fun t => ∃ g, (receiver t r).frame = some g ∧ g.lines = f.lines + 1 ∧
      (g.bad = true ↔ f.bad = true ∨ p.crcOk = false ∨ p.pixels.length ≠ csiWidth (csiBlock s r) ∨
        csiHeight (csiBlock s r) ≤ f.lines) ∧
      (f.upper = none → g.upper = some p.pixels ∧ g.tensor = f.tensor) ∧
      (∀ u, f.upper = some u → g.upper = none ∧ g.tensor = f.tensor ++ quadRow (csiBlock s r) (receiver s r).norm
        (vget (receiver s r).shading (receiver s r).activeShading) (bitAt (receiver s r).norm 10) (f.lines / 2) u
        p.pixels) ∧
      (source t r).eccCorrected =
        (if p.corrected = true then bump (source s r).eccCorrected else (source s r).eccCorrected) ∧
      ChangesOnly [.ingest, .align, .patrol, .safety] s t := by
  have hr := (rxTakes_iff.1 ht).1
  refine completes_of_answer ((exec_csiLongPacket r p s).trans (execCsiLongPacket_line ha ht hf hd hh hty)) ?_
  have hframe := changesOnly_packetMet r p.corrected s
  have hcsi := hframe.csiBlock (by simp) r
  have hrx := receiver_packetMet r p.corrected s
  have hsrc := source_packetMet hr p.corrected s
  generalize packetMet r p.corrected s = u at hframe hcsi hrx hsrc ⊢
  obtain ⟨hlines, hbad, hupper, hlower⟩ := takeLine_raw (s := u) (r := r) (line := p.pixels) (f := f) (by rw [hcsi]; exact hraw)
  rw [hcsi] at hbad
  rw [hcsi, hrx] at hlower
  rw [source_of_ingest (settle_ingest _ _), receiver_of_ingest (settle_ingest _ _), receiver_modReceiver hr,
    source_modReceiver, hsrc]
  refine ⟨_, rfl, hlines, ?_, hupper, hlower, ?_, ((hframe.comp (changesOnly_modReceiver r _ u)).mono (by simp)).settle s⟩
  · simp only [lineTaken, Bool.or_eq_true, hbad, Bool.not_eq_true']
    tauto
  · unfold eccCounted
    split <;> rfl

/-! ## A frame ends (R127, R129, R130) -/

theorem execCsiFrameEnd_open {r vc number : Nat} {corrected : Bool} {f : OpenFrame} {s : State} (ha : awake s = true)
    (ht : rxTakes s r vc = true) (hn : number < 65536) (hf : (receiver s r).frame = some f)
    (hd : (receiver s r).dropping = false) : execCsiFrameEnd r vc number corrected s =
      answer s (scheduleInjection r ((receiver (endFrame r true f (packetMet r corrected s)) r).damagedRun == 0)
        (endFrame r true f (packetMet r corrected s))) := by
  have hgo : (!rxTakes s r vc || decide (65536 ≤ number)) = false := by simp [ht, hn]
  have hrx := receiver_packetMet r corrected s
  have hf' : (receiver (packetMet r corrected s) r).frame = some f := by rw [hrx, hf]
  have hd' : (receiver (packetMet r corrected s) r).dropping = false := by rw [hrx, hd]
  unfold packetMet at hf' hd' ⊢
  unfold execCsiFrameEnd awakeAnswer
  rw [if_pos ha]
  simp only [hgo, hf', hd', Bool.false_eq_true, if_false]

theorem frameEnds {r vc number : Nat} {corrected : Bool} {f : OpenFrame} {s : State} (ha : awake s = true)
    (ht : rxTakes s r vc = true) (hn : number < 65536) (hf : (receiver s r).frame = some f)
    (hd : (receiver s r).dropping = false) (hslot : f.slot < 3) :
    Completes (.csiFrameEnd r vc number corrected) s fun t => (receiver t r).frame = none ∧
      (∃ fr, (vget (receiver t r).slots f.slot).frame = some fr ∧ fr.tensor = f.tensor ∧ fr.arrival = f.arrival ∧
        fr.mid = f.e0 + psUnits ((csiHeight (csiBlock s r) - 1) * fld (csiBlock s r) 160 32) / 2 +
          exposureOf (csiBlock s r) f.embedded / 2 ∧
        (f.bad = true ∨ f.lines ≠ csiHeight (csiBlock s r) → fr.damaged = true) ∧
        (f.bad = false → f.lines = csiHeight (csiBlock s r) → (groomer s r).distrust = false →
          frozenFound (frozenMode s r) (groomer s r) (crc32c f.tensor) f.counter = false →
          fr.damaged = false)) ∧
      (f.bad = true ∨ f.lines ≠ csiHeight (csiBlock s r) → (source t r).damaged = bump (source s r).damaged) ∧
      (f.bad = false → f.lines = csiHeight (csiBlock s r) → (groomer s r).distrust = false →
          frozenFound (frozenMode s r) (groomer s r) (crc32c f.tensor) f.counter = false →
        (source t r).whole = bump (source s r).whole) ∧
      ChangesOnly [.ingest, .align, .patrol, .safety] s t := by
  have hr := (rxTakes_iff.1 ht).1
  refine completes_of_answer ((exec_csiFrameEnd r vc number corrected s).trans (execCsiFrameEnd_open ha ht hn hf hd)) ?_
  have hframe := changesOnly_packetMet r corrected s
  have hcsi := hframe.csiBlock (by simp) r
  have hrx := receiver_packetMet r corrected s
  have hsrc := source_packetMet hr corrected s
  obtain ⟨hdis, hcrc, hcounter⟩ := groomer_packetMet hr corrected s
  have hmode : frozenMode (packetMet r corrected s) r = frozenMode s r := by
    rw [frozenMode, groomerBlock, hframe.setting_eq (by simp), frozenMode, groomerBlock]
  generalize packetMet r corrected s = u at hframe hcsi hrx hsrc hdis hcrc hcounter hmode ⊢
  obtain ⟨hended, hcount⟩ := endFrame_ingest hr true f u
  have hend := changesOnly_endFrame r true f u
  have hfrozen : frozenFound (frozenMode u r) (groomer u r) (crc32c f.tensor) f.counter =
      frozenFound (frozenMode s r) (groomer s r) (crc32c f.tensor) f.counter := by
    rw [frozenFound, frozenFound, hmode, hcrc, hcounter]
  have hdamaged := frameJudged_damaged (r := r) (arrived := true) (f := f) (s := u)
  have hwhole := frameJudged_whole (r := r) (f := f) (s := u)
  rw [hcsi] at hended hdamaged hwhole
  rw [hdis, hfrozen] at hwhole
  have hfields : (eccCounted corrected (source s r)).damaged = (source s r).damaged ∧
      (eccCounted corrected (source s r)).whole = (source s r).whole := by
    unfold eccCounted
    split <;> exact ⟨rfl, rfl⟩
  have hsched := changesOnly_scheduleInjection r ((receiver (endFrame r true f u) r).damagedRun == 0) (endFrame r true f u)
  have hingest := hsched .ingest (by simp)
  generalize scheduleInjection r ((receiver (endFrame r true f u) r).damagedRun == 0) (endFrame r true f u) = v at hsched hingest ⊢
  rw [source_of_ingest (settle_ingest _ _), receiver_of_ingest (settle_ingest _ _), source_of_ingest hingest,
    receiver_of_ingest hingest, hended, hcount, hsrc]
  refine ⟨rfl, ⟨slotFrame (csiBlock s r) (frameJudged r true f u).2 f, ?_, rfl, rfl, rfl, fun hbad => ?_,
    fun hgood hlines htrust hmoves => ?_⟩, fun hbad => ?_, fun hgood hlines htrust hmoves => ?_,
    ((hframe.comp (hend.comp hsched)).mono (by simp)).settle s⟩
  · have hstored : vget (frameEnded (csiBlock s r) (frameJudged r true f u).2 ((receiver u r).damagedRun + 1) f (receiver u r)).slots
        f.slot = { vget (receiver u r).slots f.slot with
          frame := some (slotFrame (csiBlock s r) (frameJudged r true f u).2 f), admitted := false } :=
      vget_vmod_same _ _ hslot
    rw [hstored]
  · rw [slotFrame, hdamaged hbad]
    rfl
  · rw [slotFrame, hwhole hgood hlines htrust hmoves]
    rfl
  · rw [hdamaged hbad]
    exact congrArg bump hfields.1
  · rw [hwhole hgood hlines htrust hmoves]
    exact congrArg bump hfields.2

/-- Settles O24: each packet's effect by its lemma. -/
theorem camerasTakeFrames : Obligations.CamerasTakeFrames := by
  unfold Obligations.CamerasTakeFrames
  intro rx vc number ecc s ha ht hn
  obtain ⟨hr, hactive, -⟩ := rxTakes_iff.1 ht
  refine ⟨frameStartIsDropped ha ht hn, frameOpens ha ht hn, fun p f hvc hf hd hh hty hraw => ?_, fun f => frameEnds ha ht hn,
    fun lane hlane hused hin => ?_, fun hphy => ?_⟩
  · exact lineIsTaken ha (hvc ▸ ht) hf hd hh hty hraw
  · refine completes_of_awake (exec_csiPhySyncLoss rx lane s) ha ?_
    have hgo : (decide (rx < 8) && sourceActive s rx && decide (lane < fld (csiBlock s rx) 24 4) && inFrame s rx) = true := by
      simp [hr, hactive, hused, hin]
    simp only [hgo, Bool.not_true, Bool.false_eq_true, if_false]
    have hmod := changesOnly_modReceiver rx (fun x => { x with
      syncLosses := vset x.syncLosses lane (vget (receiver s rx).syncLosses lane + 1) }) s
    have hrx := receiver_modReceiver hr (fun x => { x with
      syncLosses := vset x.syncLosses lane (vget (receiver s rx).syncLosses lane + 1) }) s
    have hpatrol : (modReceiver rx (fun x => { x with
      syncLosses := vset x.syncLosses lane (vget (receiver s rx).syncLosses lane + 1) }) s).patrol = s.patrol := rfl
    generalize modReceiver rx (fun x => { x with
      syncLosses := vset x.syncLosses lane (vget (receiver s rx).syncLosses lane + 1) }) s = u at hmod hrx hpatrol ⊢
    rw [settle_patrol, receiver_of_ingest (settle_ingest _ _)]
    have hcount : ∀ v : State, v.ingest = u.ingest →
        vget (receiver v rx).syncLosses lane = vget (receiver s rx).syncLosses lane + 1 := fun v hv => by
      rw [receiver_of_ingest hv, hrx]
      exact vget_vset_same _ _ hlane
    split
    case isTrue h3 =>
      refine ⟨hcount _ rfl, fun _ => ⟨_, congrArg (fun p : Patrol => p.wires ++ [_]) hpatrol, rfl, rfl, rfl⟩,
        (hmod.comp (changesOnly_report _ _ _ _ _ _)).settle s⟩
    case isFalse h3 =>
      exact ⟨hcount _ rfl, fun h2 => absurd (by rw [h2]) h3, (hmod.mono (by simp)).settle s⟩
  · refine completes_of_awake (exec_csiSkewCalibration rx s) ha ?_
    rw [if_pos (by simp [hr, hactive, hphy]), receiver_of_ingest (settle_ingest _ _), receiver_modReceiver hr]
    exact ⟨rfl, (changesOnly_modReceiver rx _ s).settle s⟩

end Sys2Proof.Machine
end

section
/-! Lidars (O26): cells of the range image, sweeps and datagrams (R135 to R142, R201). -/

namespace Sys2Proof.Machine

/-! ## Two points of a cell (R141) -/

/-- Two points lie in one cell. -/
theorem sameCell_iff (q p : LidarPoint) : (q.row == p.row && q.col == p.col) = true ↔ q.row = p.row ∧ q.col = p.col := by
  simp

theorem keepsNewer_of {keep : Nat} {o p : LidarPoint} (h : keep = 0 ∧ p.returnIndex < o.returnIndex ∨
    keep = 1 ∧ o.returnIndex < p.returnIndex ∨ 2 ≤ keep ∧ o.intensity < p.intensity) : keepsNewer keep o p = true := by
  rcases h with ⟨rfl, h⟩ | ⟨rfl, h⟩ | ⟨hk, h⟩
  · exact decide_eq_true h
  · exact decide_eq_true h
  · obtain ⟨n, rfl⟩ := Nat.exists_eq_add_of_le' hk
    exact decide_eq_true h

theorem keepsOlder_of {keep : Nat} {o p : LidarPoint} (h : keep = 0 ∧ o.returnIndex ≤ p.returnIndex ∨
    keep = 1 ∧ p.returnIndex ≤ o.returnIndex ∨ 2 ≤ keep ∧ p.intensity ≤ o.intensity) : keepsNewer keep o p = false := by
  rcases h with ⟨rfl, h⟩ | ⟨rfl, h⟩ | ⟨hk, h⟩
  · exact decide_eq_false (Int.not_lt.2 h)
  · exact decide_eq_false (Int.not_lt.2 h)
  · obtain ⟨n, rfl⟩ := Nat.exists_eq_add_of_le' hk
    exact decide_eq_false (Nat.not_lt.2 h)

/-- The image with a cell's point replaced. -/
def cellReplaced (p : LidarPoint) (l : List LidarPoint) : List LidarPoint :=
  l.map fun q => if q.row == p.row && q.col == p.col then p else q

theorem mem_cellReplaced_other {p q : LidarPoint} {l : List LidarPoint} (h : q.row ≠ p.row ∨ q.col ≠ p.col) :
    q ∈ cellReplaced p l ↔ q ∈ l := by
  have hcell : ¬ (q.row == p.row && q.col == p.col) = true := by
    rw [sameCell_iff]
    tauto
  unfold cellReplaced
  rw [List.mem_map]
  constructor
  · rintro ⟨x, hx, rfl⟩
    split at h
    · simp at h
    · split
      next hyes hno => exact absurd hno hyes
      · exact hx
  · exact fun hq => ⟨q, hq, if_neg hcell⟩

theorem pointsOfCell {keep : Nat} {p o : LidarPoint} {img : RangeImage} (ho : o ∈ img.points) (hrow : o.row = p.row)
    (hcol : o.col = p.col) (honly : ∀ q ∈ img.points, q.row = p.row → q.col = p.col → q = o) :
    putPoint keep p img = if keepsNewer keep o p then ({ img with points := cellReplaced p img.points }, 1) else (img, 1) := by
  have hfind : img.points.find? (fun (x : LidarPoint) => x.row == p.row && x.col == p.col) = some o := by
    cases hf : img.points.find? (fun (x : LidarPoint) => x.row == p.row && x.col == p.col) with
    | none => exact absurd ((sameCell_iff o p).2 ⟨hrow, hcol⟩) (List.find?_eq_none.1 hf o ho)
    | some x =>
      obtain ⟨hr, hc⟩ := (sameCell_iff x p).1 (List.find?_some (p := fun (x : LidarPoint) => x.row == p.row && x.col == p.col) hf)
      rw [honly x (List.mem_of_find?_eq_some hf) hr hc]
  unfold putPoint
  rw [hfind]
  rfl

/-! ## The parts of ingest that a lidar changes -/

theorem lidar_modLidar {l : Nat} (hl : l < 8) (f : Lidar → Lidar) (s : State) : lidar (modLidar l f s) l = f (lidar s l) :=
  vget_vmod_same _ _ hl

theorem lidar_of_ingest {s t : State} (h : t.ingest = s.ingest) (l : Nat) : lidar t l = lidar s l := by
  rw [lidar, h, lidar]

theorem lidar_modSource (i l : Nat) (f : Source → Source) (s : State) : lidar (modSource i f s) l = lidar s l := rfl

theorem source_modLidar (l i : Nat) (f : Lidar → Lidar) (s : State) : source (modLidar l f s) i = source s i := rfl

theorem changesOnly_modLidar (l : Nat) (f : Lidar → Lidar) (s : State) : ChangesOnly [.ingest] s (modLidar l f s) := by
  rw [changesOnly_iff]
  simp [Part.same, modLidar]

/-! ## A sweep ends (R142, R201) -/

/-- A lidar whose image has been handed on. -/
def imageHanded (t : Dts) (w : Sweep) (x : Lidar) : Lidar :=
  { x with inUse := some w, admitted := false, filling := default, sweepFrom := some t }

/-- A lidar source with a whole sweep counted. -/
def sweepCounted (missing : Nat) (lost : Bool) (m : Source) : Source :=
  { m with
    whole := bump m.whole, missingColumns := satAdd 32 m.missingColumns missing,
    lost := if lost then bump m.lost else m.lost }

/-- The image is handed on and counted. -/
def sweepHanded (l : Nat) (s : State) : State :=
  modSource (l + 8) (sweepCounted (wholeSweep l (setting s 0x0404 l) (lidar s l).filling).missing
      ((lidar s l).inUse.any (fun w => !w.handed)))
    (modLidar l (imageHanded (now s) (wholeSweep l (setting s 0x0404 l) (lidar s l).filling)) s)

theorem changesOnly_sweepHanded (l : Nat) (s : State) : ChangesOnly [.ingest] s (sweepHanded l s) :=
  (changesOnly_modLidar l _ s).step (changesOnly_modSource _ _ _)

theorem endSweep_handed (l : Nat) (s : State) : ChangesOnly [.align] (sweepHanded l s) (endSweep l s) := by
  unfold endSweep
  dsimp only
  split
  · exact changesOnly_lateCheck _ _ _ _
  · exact .refl _ _

theorem changesOnly_endSweep (l : Nat) (s : State) : ChangesOnly [.ingest, .align] s (endSweep l s) :=
  (changesOnly_sweepHanded l s).comp (endSweep_handed l s)

theorem endSweep_ingest {l : Nat} (hl : l < 8) (s : State) :
    lidar (endSweep l s) l = imageHanded (now s) (wholeSweep l (setting s 0x0404 l) (lidar s l).filling) (lidar s l) ∧
    source (endSweep l s) (l + 8) = sweepCounted (wholeSweep l (setting s 0x0404 l) (lidar s l).filling).missing
      ((lidar s l).inUse.any (fun w => !w.handed)) (source s (l + 8)) := by
  have hingest := endSweep_handed l s .ingest (by simp)
  rw [lidar_of_ingest hingest, source_of_ingest hingest, sweepHanded, lidar_modSource, lidar_modLidar hl,
    source_modSource (by omega), source_modLidar]
  exact ⟨rfl, rfl⟩

theorem sweepTimesOut {l : Nat} {s : State} {f : Dts} (ha : awake s = true) (hl : l < 8) (hact : sourceActive s (l + 8) = true)
    (hf : (lidar s l).sweepFrom = some f) (hdue : f + 3 * secUnits / (2 * fld (setting s 0x0404 l) 216 8) ≤ now s) :
    Completes (.sweepTimeout l) s fun t => (lidar t l).inUse = some (wholeSweep l (setting s 0x0404 l) (lidar s l).filling) ∧
      (lidar t l).filling.points = [] ∧ (source t (l + 8)).whole = bump (source s (l + 8)).whole ∧
      (source t (l + 8)).lost = (if (lidar s l).inUse.any (fun w => !w.handed) = true then bump (source s (l + 8)).lost
        else (source s (l + 8)).lost) ∧ ChangesOnly [.ingest, .align] s t := by
  refine completes_of_awake (exec_sweepTimeout l s) ha ?_
  have hgo : (decide (l < 8) && sourceActive s (l + 8)) = true := by simp [hl, hact]
  simp only [hgo, hf, if_pos hdue]
  obtain ⟨hlidar, hsource⟩ := endSweep_ingest hl s
  have hframe := (changesOnly_endSweep l s).comp (changesOnly_modLidar l (fun x => { x with sweepFrom := none, lastColumn := none })
    (endSweep l s))
  rw [lidar_of_ingest (settle_ingest _ _), source_of_ingest (settle_ingest _ _), lidar_modLidar hl, source_modLidar, hlidar,
    hsource]
  exact ⟨rfl, rfl, rfl, rfl, (hframe.mono (by simp)).settle s⟩

/-! ## A packet's points (R136, R140, R141) -/

/-- Columns join the columns that were reached. -/
def columnsReached (l : List Nat) (a : List Nat) : List Nat := l.foldl (fun a c => if a.contains c then a else a ++ [c]) a

theorem mem_columnsReached (l : List Nat) : ∀ (a : List Nat) (c : Nat), c ∈ a ∨ c ∈ l → c ∈ columnsReached l a := by
  induction l with
  | nil => exact fun a c h => h.resolve_right (by simp)
  | cons x l ih =>
    intro a c h
    refine ih _ c ?_
    beta_reduce
    by_cases hx : x ∈ a
    · rw [if_pos (List.contains_iff_mem.2 hx)]
      rcases h with h | h
      · exact .inl h
      · rcases List.mem_cons.1 h with rfl | h
        · exact .inl hx
        · exact .inr h
    · rw [if_neg (mt List.contains_iff_mem.1 hx)]
      rcases h with h | h
      · exact .inl (List.mem_append_left _ h)
      · rcases List.mem_cons.1 h with rfl | h
        · exact .inl (List.mem_append_right _ List.mem_cons_self)
        · exact .inr h

/-- The state before a packet's points: a wrap has ended the sweep. -/
def wrapped (l : Nat) (bind : Bytes) (cols : List Int) (s : State) : State :=
  if sweepWraps bind (lidar s l).lastColumn cols then endSweep l s else s

/-- What a packet leaves of its lidar and of its source. -/
theorem parsePacket_ingest {l : Nat} (hl : l < 8) (t pkt bind : Bytes) (T : Dts) (lag : Interval) (s : State) :
    (∀ c ∈ packetColumns t pkt bind, 0 ≤ c → c.toNat ∈ (lidar (parsePacket l t pkt bind T lag s) l).filling.columns) ∧
    (lidar (parsePacket l t pkt bind T lag s) l).lastColumn = ((packetColumns t pkt bind).getLast?).map Int.toNat ∧
    (lidar (parsePacket l t pkt bind T lag s) l).inUse = (lidar (wrapped l bind (packetColumns t pkt bind) s) l).inUse ∧
    (source (parsePacket l t pkt bind T lag s) (l + 8)).units =
      (source (wrapped l bind (packetColumns t pkt bind) s) (l + 8)).units ∧
    (source (parsePacket l t pkt bind T lag s) (l + 8)).whole =
      (source (wrapped l bind (packetColumns t pkt bind) s) (l + 8)).whole ∧
    ChangesOnly [.ingest] (wrapped l bind (packetColumns t pkt bind) s) (parsePacket l t pkt bind T lag s) := by
  unfold parsePacket
  extract_lets places cols s1 img0 times t0 t1 reached
  split
  next img dropped _ =>
  extract_lets img1
  rw [lidar_modSource, lidar_modLidar hl, source_modSource (by omega), source_modLidar]
  refine ⟨fun c hc hpos => ?_, rfl, rfl, rfl, rfl, (changesOnly_modLidar l _ _).step (changesOnly_modSource _ _ _)⟩
  refine mem_columnsReached reached img.columns c.toNat (.inr ?_)
  exact List.mem_map_of_mem (List.mem_filter.2 ⟨hc, decide_eq_true hpos⟩)

/-! ## Datagrams (R135, R136) -/

theorem lidarOf_lt {s : State} {d : Datagram} {l : Nat} (h : lidarOf s d = some l) : l < 8 :=
  List.mem_range.1 (List.mem_of_find?_eq_some h)

/-- The sequence number of a packet, before its points. -/
theorem checkSequence_keeps {l : Nat} (hl : l < 8) (t pkt : Bytes) (s : State) :
    (lidar (checkSequence l t pkt s) l).lastColumn = (lidar s l).lastColumn ∧
    (lidar (checkSequence l t pkt s) l).filling = (lidar s l).filling ∧
    (lidar (checkSequence l t pkt s) l).inUse = (lidar s l).inUse ∧
    (source (checkSequence l t pkt s) (l + 8)).units = (source s (l + 8)).units ∧
    (source (checkSequence l t pkt s) (l + 8)).whole = (source s (l + 8)).whole ∧
    (source (checkSequence l t pkt s) (l + 8)).lastStamp = (source s (l + 8)).lastStamp ∧
    ChangesOnly [.ingest] s (checkSequence l t pkt s) := by
  unfold checkSequence
  split
  · exact ⟨rfl, rfl, rfl, rfl, rfl, rfl, .refl _ s⟩
  · dsimp only
    rw [lidar_modSource, lidar_modLidar hl, source_modSource (by omega), source_modLidar]
    exact ⟨rfl, rfl, rfl, rfl, rfl, rfl, (changesOnly_modLidar l _ s).step (changesOnly_modSource _ _ _)⟩

theorem wrapped_ingest {l : Nat} (hl : l < 8) (bind : Bytes) (cols : List Int) {s : State} (hbind : setting s 0x0404 l = bind) :
    (source (wrapped l bind cols s) (l + 8)).units = (source s (l + 8)).units ∧
    (sweepWraps bind (lidar s l).lastColumn cols = true →
      (lidar (wrapped l bind cols s) l).inUse = some (wholeSweep l bind (lidar s l).filling) ∧
      (source (wrapped l bind cols s) (l + 8)).whole = bump (source s (l + 8)).whole) ∧
    (sweepWraps bind (lidar s l).lastColumn cols = false → (lidar (wrapped l bind cols s) l).inUse = (lidar s l).inUse) ∧
    ChangesOnly [.ingest, .align] s (wrapped l bind cols s) := by
  unfold wrapped
  split
  case isTrue hw =>
    obtain ⟨hlidar, hsource⟩ := endSweep_ingest hl s
    rw [hlidar, hsource, hbind]
    exact ⟨rfl, fun _ => ⟨rfl, rfl⟩, fun hno => absurd (hw.symm.trans hno) (by decide), changesOnly_endSweep l s⟩
  case isFalse hw =>
    exact ⟨rfl, fun hyes => absurd hyes hw, fun _ => rfl, .refl _ s⟩

section
variable {d : Datagram} {s : State} {l : Nat}

/-- The work on a datagram that a binding takes. -/
def datagramWork (d : Datagram) (l : Nat) (bind : Bytes) (arrival : Dts) (s : State) : State :=
  let t := (lidar s l).template
  if datagramDamaged t d then modSource (l + 8) (fun (m : Source) => { m with damaged := bump m.damaged }) s
  else
    let T := sensorTime t d.payload arrival (fld bind 224 16)
    let r := takeUnit (l + 8) (packetStamp t d.payload T) arrival (checkSequence l t d.payload s)
    if r.2.1 then parsePacket l t d.payload bind T r.2.2 r.1 else r.1

theorem execLidarDatagram_bound (ht : FrameTaken d.port d.head s) (hl : lidarOf s d = some l) : execLidarDatagram d s =
    answer s (datagramWork d l (setting s 0x0404 l) (ingressStamp s d.port d.head)
      (modPort d.port (arrived s d.port d.head) s)) := by
  have hl' : lidarOf (modPort d.port (arrived s d.port d.head) s) d = some l := hl
  unfold execLidarDatagram awakeAnswer
  rw [if_pos ht.1]
  beta_reduce
  rw [frameIn_taken _ ht]
  simp only [hl']
  rw [ingressStamp_modPort (portUp_lt ht.2.1) _ rfl]
  rfl

theorem damagedDatagramIsCounted (ht : FrameTaken d.port d.head s) (hl : lidarOf s d = some l)
    (hdam : datagramDamaged (lidar s l).template d = true) : Completes (.lidarDatagram d) s fun t =>
      (source t (l + 8)).damaged = bump (source s (l + 8)).damaged ∧ ChangesOnly [.ports, .ingest] s t := by
  have hlt := lidarOf_lt hl
  refine completes_of_answer ((exec_lidarDatagram d s).trans (execLidarDatagram_bound ht hl)) ?_
  have hmod := changesOnly_modPort d.port (arrived s d.port d.head) s
  have hingest : (modPort d.port (arrived s d.port d.head) s).ingest = s.ingest := rfl
  generalize modPort d.port (arrived s d.port d.head) s = u at hmod hingest ⊢
  rw [source_of_ingest (settle_ingest _ _), datagramWork, lidar_of_ingest hingest, if_pos hdam, source_modSource (by omega),
    source_of_ingest hingest]
  exact ⟨rfl, (hmod.comp (changesOnly_modSource _ _ u)).settle s⟩

theorem datagramIsTaken (ht : FrameTaken d.port d.head s) (hl : lidarOf s d = some l)
    (hdam : datagramDamaged (lidar s l).template d = false)
    (hstamp : ∀ q, (source s (l + 8)).lastStamp = some q → q ≤ modelStamp s (l + 8) (packetStamp (lidar s l).template d.payload
      (sensorTime (lidar s l).template d.payload (ingressStamp s d.port d.head) (fld (setting s 0x0404 l) 224 16)))
      (ingressStamp s d.port d.head)) : Completes (.lidarDatagram d) s fun t =>
      (source t (l + 8)).units = bump (source s (l + 8)).units ∧
      (∀ c ∈ packetColumns (lidar s l).template d.payload (setting s 0x0404 l), 0 ≤ c →
        c.toNat ∈ (lidar t l).filling.columns) ∧
      (lidar t l).lastColumn =
        ((packetColumns (lidar s l).template d.payload (setting s 0x0404 l)).getLast?).map Int.toNat ∧
      (sweepWraps (setting s 0x0404 l) (lidar s l).lastColumn
          (packetColumns (lidar s l).template d.payload (setting s 0x0404 l)) = true →
        (lidar t l).inUse = some (wholeSweep l (setting s 0x0404 l) (lidar s l).filling) ∧
        (source t (l + 8)).whole = bump (source s (l + 8)).whole) ∧
      (sweepWraps (setting s 0x0404 l) (lidar s l).lastColumn
          (packetColumns (lidar s l).template d.payload (setting s 0x0404 l)) = false →
        (lidar t l).inUse = (lidar s l).inUse) ∧
      ChangesOnly [.ports, .ingest, .align, .patrol] s t := by
  have hlt := lidarOf_lt hl
  refine completes_of_answer ((exec_lidarDatagram d s).trans (execLidarDatagram_bound ht hl)) ?_
  have hmod := changesOnly_modPort d.port (arrived s d.port d.head) s
  have hingest : (modPort d.port (arrived s d.port d.head) s).ingest = s.ingest := rfl
  generalize modPort d.port (arrived s d.port d.head) s = u at hmod hingest ⊢
  set bind := setting s 0x0404 l with hbind
  set tpl := (lidar s l).template
  set arrival := ingressStamp s d.port d.head
  set T := sensorTime tpl d.payload arrival (fld bind 224 16)
  obtain ⟨hcol, hfill, huse, hunits, hwhole, hlast, hseq⟩ := checkSequence_keeps hlt tpl d.payload u
  rw [lidar_of_ingest hingest] at hcol hfill huse
  rw [source_of_ingest hingest] at hunits hwhole hlast
  have hset : ∀ op idx, setting (checkSequence l tpl d.payload u) op idx = setting s op idx := fun op idx => by
    rw [hseq.setting_eq (by simp), hmod.setting_eq (by simp)]
  rw [source_of_ingest (settle_ingest _ _), lidar_of_ingest (settle_ingest _ _), datagramWork, lidar_of_ingest hingest,
    if_neg (by rw [hdam]; exact Bool.false_ne_true)]
  dsimp only
  generalize checkSequence l tpl d.payload u = v at hcol hfill huse hunits hwhole hlast hseq hset ⊢
  have hkept := takeUnit_kept (i := l + 8) (st := packetStamp tpl d.payload T) (arrival := arrival) (s := v) (by
    rw [hlast, modelStamp_congr hset]
    exact hstamp)
  obtain ⟨n, -, hn⟩ := takeUnit_ingest (l + 8) (packetStamp tpl d.payload T) arrival v
  have hcounted := unitCounted_takeUnit (i := l + 8) (by omega) (packetStamp tpl d.payload T) arrival v
  have hunit := changesOnly_takeUnit (l + 8) (packetStamp tpl d.payload T) arrival v
  have hlidar : lidar (takeUnit (l + 8) (packetStamp tpl d.payload T) arrival v).1 l = lidar v l :=
    (lidar_of_ingest hn l).trans (lidar_modSource _ _ _ _)
  rw [hkept, if_pos rfl]
  generalize (takeUnit (l + 8) (packetStamp tpl d.payload T) arrival v).1 = w at hlidar hcounted hunit ⊢
  obtain ⟨hcols, hlastCol, hinUse, hunits', hwhole', hparse⟩ := parsePacket_ingest hlt tpl d.payload bind T
    (metLag (l + 8) (packetStamp tpl d.payload T) arrival v) w
  obtain ⟨hwunits, hwraps, hstays, hwrap⟩ := wrapped_ingest hlt bind (packetColumns tpl d.payload bind) (s := w) (by
    rw [hunit.setting_eq (by simp), hset])
  rw [hlidar, hcol, hfill, hcounted.whole, hwhole] at hwraps
  rw [hlidar, hcol, huse] at hstays
  refine ⟨?_, hcols, hlastCol, fun hw => ?_, fun hw => ?_,
    ((hmod.comp (hseq.comp (hunit.comp (hwrap.comp hparse)))).mono (by simp)).settle s⟩
  · rw [hunits', hwunits, hcounted.units, hunits]
  · rw [hinUse, hwhole']
    exact hwraps hw
  · rw [hinUse]
    exact hstays hw

end

/-- Settles O26: datagrams by their binding, sweeps by `endSweep`, cells by `putPoint`. -/
theorem lidarsTakeDatagrams : Obligations.LidarsTakeDatagrams := by
  unfold Obligations.LidarsTakeDatagrams
  refine ⟨fun d s ht => ⟨fun hnone => ?_, fun l hl => ⟨damagedDatagramIsCounted ht hl, datagramIsTaken ht hl⟩⟩,
    fun l s f ha hl hact hf hdue => sweepTimesOut ha hl hact hf hdue, fun keep p o img ho hrow hcol honly => ?_⟩
  · have hnone' : lidarOf (modPort d.port (arrived s d.port d.head) s) d = none := hnone
    refine completes_of_awake (exec_lidarDatagram d s) ht.1 ?_
    rw [frameIn_taken _ ht]
    simp only [hnone', countDiscarded_modPort, ethPort_settle]
    rw [ethPort_modPort (portUp_lt ht.2.1)]
    exact ⟨rfl, (changesOnly_modPort _ _ s).settle s⟩
  · rw [pointsOfCell ho hrow hcol honly]
    split
    case isTrue hnew =>
      refine ⟨rfl, fun q hq => mem_cellReplaced_other hq, fun _ => ?_, fun hold => ?_⟩
      · exact List.mem_map.2 ⟨o, ho, if_pos ((sameCell_iff o p).2 ⟨hrow, hcol⟩)⟩
      · exact absurd (hnew.symm.trans (keepsOlder_of hold)) (by decide)
    case isFalse hold =>
      exact ⟨rfl, fun q hq => .rfl, fun hnew => absurd (keepsNewer_of hnew) hold, fun _ => rfl⟩

end Sys2Proof.Machine
end

section
/-! IMUs (O27): data-ready edges, and the burst that ends as a unit of the source and as a sample of the motion unit (R144 to
R146, R159 to R164). -/

namespace Sys2Proof.Machine

/-! ## What a source's use rests on -/

/-- A state that differs in ingest, in the alignment unit beside trust, in Patrol and in what is sent alone. -/
def SensesOnly (s t : State) : Prop := ∃ ing al pat tx, al.trust = s.align.trust ∧
  t = { s with ingest := ing, align := al, patrol := pat, tx := tx }

theorem SensesOnly.trans {s t u : State} (h : SensesOnly s t) (h' : SensesOnly t u) : SensesOnly s u := by
  obtain ⟨_, _, _, _, htrust, rfl⟩ := h
  obtain ⟨ing, al, pat, tx, htrust', rfl⟩ := h'
  exact ⟨ing, al, pat, tx, htrust'.trans htrust, rfl⟩

theorem sensesOnly_modSource (i : Nat) (f : Source → Source) (s : State) : SensesOnly s (modSource i f s) :=
  ⟨_, s.align, s.patrol, s.tx, rfl, rfl⟩

theorem sensesOnly_report (src unit level : Nat) (cls : FaultClass) (detail : Nat) (s : State) :
    SensesOnly s (report src unit level cls detail s) := ⟨s.ingest, s.align, _, s.tx, rfl, rfl⟩

theorem SensesOnly.active {s t : State} (h : SensesOnly s t) (i : Nat) : sourceActive t i = sourceActive s i := by
  obtain ⟨ing, al, pat, tx, -, rfl⟩ := h
  rfl

theorem SensesOnly.trust {s t : State} (h : SensesOnly s t) (i : Nat) : sourceTrust t i = sourceTrust s i := by
  obtain ⟨ing, al, pat, tx, htrust, rfl⟩ := h
  exact congrArg (vget · i) htrust

/-- An IMU in use stays in use while its model is not ABSENT. -/
theorem SensesOnly.usable {i : Nat} {s t : State} (h : SensesOnly s t) (hstate : (source t (16 + i)).state ≠ .absent)
    (hu : imuUsable s i = true) : imuUsable t i = true := by
  simp only [imuUsable, Bool.and_eq_true, h.active, h.trust] at hu ⊢
  obtain ⟨⟨⟨hactive, -⟩, htrusted⟩, htimely⟩ := hu
  exact ⟨⟨⟨hactive, by simpa using hstate⟩, htrusted⟩, htimely⟩

theorem state_of_usable {i : Nat} {s : State} (h : imuUsable s i = true) : (source s (16 + i)).state ≠ .absent := by
  simp only [imuUsable, Bool.and_eq_true, bne_iff_ne] at h
  exact h.1.1.2

/-! ## Units leave the reset shadows -/

theorem shadows_evaluateAgain (src unit level : Nat) (bad : Bool) (s : State) :
    (evaluateAgain src unit level bad s).patrol.shadows = s.patrol.shadows := by
  unfold evaluateAgain
  split
  · rfl
  · split <;> rfl

theorem shadows_checkTimeTrust (i : Nat) (s : State) : (checkTimeTrust i s).patrol.shadows = s.patrol.shadows := by
  have hagain := fun bad => shadows_evaluateAgain (alignFault i) 0 4 bad s
  unfold checkTimeTrust
  dsimp only
  split
  · split
    · exact hagain _
    · exact hagain _
  · split <;> rfl

theorem shadows_takeUnit (i : Nat) (st arrival : Dts) (s : State) :
    (takeUnit i st arrival s).1.patrol.shadows = s.patrol.shadows := by
  rw [takeUnit_eq]
  split
  · rfl
  · split
    · rfl
    · split
      · rfl
      · exact shadows_checkTimeTrust i _

theorem source_report (src unit level : Nat) (cls : FaultClass) (detail : Nat) (s : State) (i : Nat) :
    source (report src unit level cls detail s) i = source s i := rfl

/-- A unit that does not fill the window of a source in use leaves the source in use. -/
theorem takeUnit_short {i : Nat} {st arrival : Dts} {s : State} (hi : i < 26) (hstate : (source s i).state ≠ .absent)
    (hshort : (source s i).window.length < 63) : SensesOnly s (takeUnit i st arrival s).1 ∧
      (takeUnit i st arrival s).1.align = s.align ∧ (source (takeUnit i st arrival s).1 i).state ≠ .absent := by
  have hmet : (metModel i arrival s).state ≠ .absent ∧ (metModel i arrival s).window.length < 63 := by
    unfold metModel unitMet restartWindows
    dsimp only
    split
    · exact ⟨nofun, by simp⟩
    · exact ⟨hstate, hshort⟩
  have hkept : (keptModel i st arrival s).state ≠ .absent ∧ (keptModel i st arrival s).window.length < 63 := by
    unfold keptModel unitKept
    split <;> exact hmet
  have hjoined : (joinedModel i st arrival s).window.length < 64 := by
    rw [joinedModel, unitJoined, List.length_append]
    exact Nat.add_lt_add_right hkept.2 1
  rw [takeUnit_eq, if_pos hjoined]
  split
  · exact ⟨sensesOnly_modSource i _ s, rfl, by rw [source_modSource hi]; exact hmet.1⟩
  · split
    · refine ⟨(sensesOnly_modSource i _ s).trans (sensesOnly_report _ _ _ _ _ _), rfl, ?_⟩
      rw [source_report, source_modSource hi]
      exact nofun
    · exact ⟨sensesOnly_modSource i _ s, rfl, by rw [source_modSource hi]; exact hkept.1⟩

/-! ## The parts of ingest that an IMU changes -/

theorem imu_modImu {i : Nat} (hi : i < 4) (f : ImuMaster → ImuMaster) (s : State) : imu (modImu i f s) i = f (imu s i) :=
  vget_vmod_same _ _ hi

theorem imu_of_ingest {s t : State} (h : t.ingest = s.ingest) (i : Nat) : imu t i = imu s i := by
  rw [imu, h, imu]

theorem source_modImu (i j : Nat) (f : ImuMaster → ImuMaster) (s : State) : source (modImu i f s) j = source s j := rfl

theorem imu_modSource (i j : Nat) (f : Source → Source) (s : State) : imu (modSource i f s) j = imu s j := rfl

theorem sensesOnly_modImu (i : Nat) (f : ImuMaster → ImuMaster) (s : State) : SensesOnly s (modImu i f s) :=
  ⟨_, s.align, s.patrol, s.tx, rfl, rfl⟩

theorem imu_emit (e : Emission) (s : State) (i : Nat) : imu (emit e s) i = imu s i := rfl

theorem changesOnly_modImu (i : Nat) (f : ImuMaster → ImuMaster) (s : State) : ChangesOnly [.ingest] s (modImu i f s) := by
  rw [changesOnly_iff]
  simp [Part.same, modImu]

theorem imu_takeUnit (i j : Nat) (st arrival : Dts) (s : State) : imu (takeUnit i st arrival s).1 j = imu s j := by
  obtain ⟨n, -, hingest⟩ := takeUnit_ingest i st arrival s
  rw [imu_of_ingest hingest]
  rfl

/-! ## Data-ready edges (R145, R146) -/

theorem dataReady {i : Nat} {s : State} {e : Dts} {rest : List Dts} (ha : awake s = true) (hi : i < 4)
    (hactive : sourceActive s (16 + i) = true) (he : (imu s i).edges = e :: rest) : Completes (.imuDataReady i) s fun t =>
      ((imu s i).running = none → (imu t i).running = some e ∧ (imu t i).edges = rest ∧
        t.tx = s.tx ++ [.spi i (imuCommand (setting s 0x0405 i))]) ∧
      (∀ r, (imu s i).running = some r → (imu t i).running = some r ∧ (imu t i).kept = (imu s i).kept ++ [e] ∧
        (source t (16 + i)).drdyEarly = bump (source s (16 + i)).drdyEarly) ∧ ChangesOnly [.ingest, .tx] s t := by
  refine completes_of_awake (exec_imuDataReady i s) ha ?_
  have hgo : (!(decide (i < 4) && sourceActive s (16 + i))) = false := by simp [hi, hactive]
  simp only [he, hgo, Bool.false_eq_true, if_false]
  cases hrun : (imu s i).running with
  | none =>
    simp only
    have himu := imu_modImu hi (fun (m : ImuMaster) => { m with edges := rest, running := some e, lastEdge := some e }) s
    refine ⟨fun _ => ?_, nofun, ?_⟩
    · rw [imu_of_ingest (settle_ingest _ _), imu_emit, himu]
      exact ⟨rfl, rfl, settle_tx _ _⟩
    · exact ((changesOnly_modImu i _ s).comp (changesOnly_emit _ _)).settle s
  | some r =>
    simp only
    have himu := imu_modImu hi (fun (m : ImuMaster) =>
      { m with edges := rest, kept := m.kept ++ [e], lastEdge := some e }) s
    refine ⟨nofun, fun r' hr' => ?_, ?_⟩
    · obtain rfl := Option.some.inj hr'
      rw [imu_of_ingest (settle_ingest _ _), imu_modSource, himu, source_of_ingest (settle_ingest _ _),
        source_modSource (by omega), source_modImu]
      exact ⟨hrun, rfl, rfl⟩
    · exact (((changesOnly_modImu i _ s).step (changesOnly_modSource _ _ _)).mono (by simp)).settle s

/-! ## The IMUs' service (R162, R163) -/

theorem changesOnly_regainEgo (s : State) : ChangesOnly [.align, .patrol] s (regainEgo s) := by
  unfold regainEgo
  split
  · exact (changesOnly_modAlign (fun a => { a with degradedEgo := false }) s).comp (changesOnly_evaluateAgain _ _ _ _ _)
  · exact .refl _ s

theorem changesOnly_makePrimary (i : Nat) (s : State) : ChangesOnly [.align, .patrol] s (makePrimary i s) :=
  ((changesOnly_modAlign (fun a => { a with
    primary := some i, switched := true, fused := if (vget s.align.alone i).at_.isSome then vget s.align.alone i else s.align.fused })
    s).mono (by simp)).step (changesOnly_regainEgo _)

theorem changesOnly_switchPrimary (i : Nat) (s : State) : ChangesOnly [.align, .patrol] s (switchPrimary i s) := by
  unfold switchPrimary
  split
  · split
    · split
      · exact changesOnly_regainEgo s
      · exact .refl _ s
    · exact changesOnly_ite (fun _ => changesOnly_makePrimary i s) fun _ => .refl _ s
  · exact changesOnly_ite (fun _ => changesOnly_makePrimary i s) fun _ => .refl _ s

theorem changesOnly_judgeImus (s : State) : ChangesOnly [.align, .patrol] s (judgeImus s) := by
  unfold judgeImus
  split
  · exact .refl _ s
  · exact (changesOnly_modAlign (fun a => { a with primary := none, degradedEgo := true }) s).comp
      (changesOnly_report _ _ _ _ _ _)

theorem history_judgeImus (s : State) : (judgeImus s).align.history = s.align.history := by
  unfold judgeImus
  split <;> rfl

/-- What serving as primary again leaves of the alignment unit. -/
theorem regainEgo_eq (s : State) : ∃ b pat, regainEgo s = { s with align := { s.align with degradedEgo := b }, patrol := pat } := by
  unfold regainEgo
  split
  · unfold evaluateAgain
    split
    · exact ⟨false, s.patrol, rfl⟩
    · split
      · exact ⟨false, _, rfl⟩
      · exact ⟨false, _, rfl⟩
  · exact ⟨s.align.degradedEgo, s.patrol, rfl⟩

/-! ## A sample is integrated (R160, R164) -/

theorem changesOnly_integrateSample (i : Nat) (stamp : Dts) (burst : Bytes) (s : State) :
    ChangesOnly [.align, .patrol] s (integrateSample i stamp burst s) := by
  have halign : ∀ (f : Align → Align) (u : State), ChangesOnly [.align, .patrol] u (modAlign f u) :=
    fun f u => (changesOnly_modAlign f u).mono (by simp)
  unfold integrateSample
  split
  · exact .refl _ s
  · extract_lets v cal s0 al s1 zero n m s2
    have h1 : ChangesOnly [.align, .patrol] s s1 :=
      (changesOnly_switchPrimary i s).step (halign (fun a => { a with alone := vmod s0.align.alone i fun n => n.take cal v stamp }) s0)
    split
    · exact h1
    · refine h1.step ((halign (fun a => { a with history :=
        ({ (poseMarks s1 stamp).withNumbers m.numbers with standstill := zero } :: s1.align.history).take 16384 }) s1).step ?_)
      exact halign (fun a => { a with fused := m, switched := false }) _

/-- The primary in use makes a pose entry of its sample. -/
theorem history_integrateSample {i : Nat} {stamp : Dts} {burst : Bytes} {s : State} (hw : isWorker s = false)
    (hp : s.align.primary = some i) (hu : imuUsable s i = true) (hn : newestTime s stamp ≤ stamp) :
    ∃ x, (integrateSample i stamp burst s).align.history = (x :: s.align.history).take 16384 ∧ x.time = stamp ∧
      x.primary = srcNum (16 + i) ∧ x.anchorSeq = s.align.anchorSeq % 65536 := by
  have hswitch : switchPrimary i s = regainEgo s := by
    unfold switchPrimary
    rw [hp]
    simp only [hu, if_true]
  obtain ⟨b, pat, hregain⟩ := regainEgo_eq s
  unfold integrateSample
  rw [if_neg (by rw [hw]; exact Bool.false_ne_true), hswitch, hregain]
  extract_lets v cal was s0 al s1 zero n m s2
  have hsenses : SensesOnly s s1 := ⟨s.ingest, s1.align, pat, s.tx, rfl, rfl⟩
  have husable : imuUsable s1 i = true := hsenses.usable (state_of_usable hu) hu
  have hnewest : ¬ stamp < newestTime s1 stamp := Nat.not_lt.2 hn
  have hprimary : s1.align.primary = some i := hp
  have hgo : ¬ ((!(s1.align.primary = some i && imuUsable s1 i) || decide (stamp < newestTime s1 stamp)) = true) := by
    simp [hprimary, husable, hnewest]
  rw [if_neg hgo]
  refine ⟨_, rfl, rfl, ?_, rfl⟩
  show (match s1.align.primary with | some i => srcNum (16 + i) | none => 0xFF) = srcNum (16 + i)
  rw [hprimary]

/-! ## The end of a burst (R145, R146) -/

/-- The master's transaction has ended, and that of an edge kept has begun. -/
def imuAdvanced (m : ImuMaster) : ImuMaster := { m with running := m.kept.head?, kept := m.kept.drop 1 }

/-- The state in which the burst's unit is taken. -/
def burstEnded (i : Nat) (s : State) : State :=
  let s0 := modImu i imuAdvanced s
  if (imu s0 i).running.isSome then emit (.spi i (imuCommand (setting s 0x0405 i))) s0 else s0

/-- The stamp of a sample. -/
def sampleStamp (i : Nat) (e : Dts) (s : State) : Dts := e - fld (setting s 0x0405 i) 160 32 * nsUnits

/-- The burst as configured. -/
def burstFit (i : Nat) (burst : Bytes) (s : State) : Bytes := fit (fld (setting s 0x0405 i) 136 8) burst

/-- A source with a whole unit counted. -/
def wholeCounted (x : Source) : Source := { x with whole := bump x.whole }

/-- The unit of a burst is taken and counted. -/
def burstTaken (i : Nat) (e : Dts) (burst : Bytes) (s : State) : State :=
  modSource (16 + i) wholeCounted
    (checkImuCounter i (burstFit i burst s) (takeUnit (16 + i) (sampleStamp i e s) (now s) (burstEnded i s)).1)

/-- The sample waits for the motion unit. -/
def sampleWaits (i : Nat) (e : Dts) (burst : Bytes) (s : State) : State :=
  modImu i (fun m => { m with buffers := m.buffers ++ [{ stamp := sampleStamp i e s, arrival := now s, burst := burstFit i burst s }] })
    (burstTaken i e burst s)

theorem modelStamp_imu {i : Nat} (hi : i < 4) (st arrival : Dts) (s : State) : modelStamp s (16 + i) st arrival = st := by
  have hmode : sourceMode s (16 + i) = 0 := by
    unfold sourceMode
    rw [if_neg (by omega), if_neg (by omega), if_pos (by omega)]
  rw [modelStamp, if_neg (by rw [hmode]; decide)]

theorem checkImuCounter_eq (i : Nat) (burst : Bytes) (s : State) : checkImuCounter i burst s = s ∨
    ∃ n lost, checkImuCounter i burst s = modSource (16 + i) (fun (x : Source) => { x with lost := satAdd 32 x.lost lost })
      (modImu i (fun (m : ImuMaster) => { m with lastCounter := some n }) s) := by
  unfold checkImuCounter
  dsimp only
  cases imuField (setting s 0x0405 i) burst 7 with
  | none => exact .inl rfl
  | some v => exact .inr ⟨_, _, rfl⟩

/-- What the sample counter changes. -/
theorem checkImuCounter_keeps {i : Nat} (hi : i < 4) (burst : Bytes) (s : State) :
    SensesOnly s (checkImuCounter i burst s) ∧ (checkImuCounter i burst s).align = s.align ∧
    (checkImuCounter i burst s).patrol = s.patrol ∧
    (source (checkImuCounter i burst s) (16 + i)).units = (source s (16 + i)).units ∧
    (source (checkImuCounter i burst s) (16 + i)).whole = (source s (16 + i)).whole ∧
    (source (checkImuCounter i burst s) (16 + i)).state = (source s (16 + i)).state ∧
    (imu (checkImuCounter i burst s) i).buffers = (imu s i).buffers ∧
    (imu (checkImuCounter i burst s) i).running = (imu s i).running ∧
    ChangesOnly [.ingest] s (checkImuCounter i burst s) := by
  rcases checkImuCounter_eq i burst s with h | ⟨n, lost, h⟩
  · rw [h]
    exact ⟨⟨s.ingest, s.align, s.patrol, s.tx, rfl, rfl⟩, rfl, rfl, rfl, rfl, rfl, rfl, rfl, .refl _ s⟩
  · rw [h]
    have hframe := (changesOnly_modImu i (fun (m : ImuMaster) => { m with lastCounter := some n }) s).step
      (changesOnly_modSource (16 + i) (fun (x : Source) => { x with lost := satAdd 32 x.lost lost }) _)
    rw [source_modSource (by omega), source_modImu, imu_modSource, imu_modImu hi]
    exact ⟨⟨_, s.align, s.patrol, s.tx, rfl, rfl⟩, rfl, rfl, rfl, rfl, rfl, rfl, rfl, hframe⟩

section
variable {i : Nat} (hi : i < 4) (s : State)
include hi

theorem imu_burstEnded : imu (burstEnded i s) i = imuAdvanced (imu s i) := by
  unfold burstEnded
  extract_lets s0
  split
  · rw [imu_emit, imu_modImu hi]
  · exact imu_modImu hi _ s

omit hi in
theorem burstEnded_eq : ∃ tx, burstEnded i s = { modImu i imuAdvanced s with tx := tx } := by
  unfold burstEnded
  extract_lets s0
  split
  · exact ⟨_, rfl⟩
  · exact ⟨s.tx, rfl⟩

end

section
variable {i : Nat} {s : State} {e : Dts} {burst : Bytes} (hi : i < 4)
  (hstamp : ∀ l, (source s (16 + i)).lastStamp = some l → l ≤ sampleStamp i e s)

/-- What the unit of a burst leaves, before the motion unit takes its sample. -/
structure SampleWaiting (i : Nat) (e : Dts) (burst : Bytes) (s t : State) : Prop where
  units : (source t (16 + i)).units = bump (source s (16 + i)).units
  whole : (source t (16 + i)).whole = bump (source s (16 + i)).whole
  running : (imu t i).running = (imu s i).kept.head?
  buffers : (imu t i).buffers = (imu s i).buffers ++
    [{ stamp := sampleStamp i e s, arrival := now s, burst := burstFit i burst s }]
  shadows : t.patrol.shadows = s.patrol.shadows
  frame : ChangesOnly [.ingest, .align, .patrol, .tx] s t

include hi in
theorem sampleWaiting : SampleWaiting i e burst s (sampleWaits i e burst s) := by
  obtain ⟨tx, hended⟩ := burstEnded_eq (i := i) s
  have himu := imu_burstEnded hi s
  have hsource : source (burstEnded i s) (16 + i) = source s (16 + i) := by rw [hended]; rfl
  have hshadows : (burstEnded i s).patrol.shadows = s.patrol.shadows := by rw [hended]; rfl
  have hframe : ChangesOnly [.ingest, .tx] s (burstEnded i s) := by
    rw [hended, changesOnly_iff]
    simp [Part.same, modImu]
  have hunit := unitCounted_takeUnit (i := 16 + i) (by omega) (sampleStamp i e s) (now s) (burstEnded i s)
  have hunitImu := imu_takeUnit (16 + i) i (sampleStamp i e s) (now s) (burstEnded i s)
  have hunitShadows := shadows_takeUnit (16 + i) (sampleStamp i e s) (now s) (burstEnded i s)
  have hunitFrame := changesOnly_takeUnit (16 + i) (sampleStamp i e s) (now s) (burstEnded i s)
  unfold sampleWaits burstTaken
  generalize (takeUnit (16 + i) (sampleStamp i e s) (now s) (burstEnded i s)).1 = u at hunit hunitImu hunitShadows hunitFrame ⊢
  obtain ⟨-, -, hpatrol, hunits, hwhole, -, hbuffers, hrunning, hcounter⟩ := checkImuCounter_keeps hi (burstFit i burst s) u
  have hmod := fun (f : Source → Source) (g : ImuMaster → ImuMaster) =>
    (changesOnly_modSource (16 + i) f (checkImuCounter i (burstFit i burst s) u)).step (changesOnly_modImu i g _)
  generalize checkImuCounter i (burstFit i burst s) u = v at hpatrol hunits hwhole hbuffers hrunning hcounter hmod ⊢
  refine ⟨?_, ?_, ?_, ?_, ?_, ((hframe.comp (hunitFrame.comp (hcounter.comp (hmod _ _)))).mono (by simp))⟩
  · rw [source_modImu, source_modSource (by omega)]
    exact hunits.trans (hunit.units.trans (by rw [hsource]))
  · rw [source_modImu, source_modSource (by omega)]
    exact congrArg bump (hwhole.trans (hunit.whole.trans (by rw [hsource])))
  · rw [imu_modImu hi, imu_modSource]
    exact hrunning.trans (by rw [hunitImu, himu]; rfl)
  · rw [imu_modImu hi, imu_modSource]
    exact congrArg (· ++ [_]) (hbuffers.trans (by rw [hunitImu, himu]; rfl))
  · exact (congrArg Patrol.shadows hpatrol).trans (hunitShadows.trans hshadows)

include hi in
/-- The unit of an IMU in use, its window not full, leaves it in use and the pose history as it was. -/
theorem sampleWaiting_usable (hu : imuUsable s i = true) (hshort : (source s (16 + i)).window.length < 63) :
    SensesOnly s (sampleWaits i e burst s) ∧ (sampleWaits i e burst s).align = s.align ∧
      imuUsable (sampleWaits i e burst s) i = true := by
  obtain ⟨tx, hended⟩ := burstEnded_eq (i := i) s
  have hsource : source (burstEnded i s) (16 + i) = source s (16 + i) := by rw [hended]; rfl
  have halign : (burstEnded i s).align = s.align := by rw [hended]; rfl
  have hsenses : SensesOnly s (burstEnded i s) := by
    rw [hended]
    exact ⟨_, s.align, s.patrol, tx, rfl, rfl⟩
  obtain ⟨hunit, hunitAlign, hstate⟩ := takeUnit_short (i := 16 + i) (st := sampleStamp i e s) (arrival := now s)
    (s := burstEnded i s) (by omega) (by rw [hsource]; exact state_of_usable hu) (by rw [hsource]; exact hshort)
  have hall : SensesOnly s (sampleWaits i e burst s) ∧ (sampleWaits i e burst s).align = s.align ∧
      (source (sampleWaits i e burst s) (16 + i)).state ≠ .absent := by
    unfold sampleWaits burstTaken
    generalize (takeUnit (16 + i) (sampleStamp i e s) (now s) (burstEnded i s)).1 = u at hunit hunitAlign hstate ⊢
    obtain ⟨hcounter, hcounterAlign, -, -, -, hcounterState, -⟩ := checkImuCounter_keeps hi (burstFit i burst s) u
    generalize checkImuCounter i (burstFit i burst s) u = v at hcounter hcounterAlign hcounterState ⊢
    refine ⟨hsenses.trans (hunit.trans (hcounter.trans ((sensesOnly_modSource _ _ v).trans (sensesOnly_modImu _ _ _)))),
      hcounterAlign.trans (hunitAlign.trans halign), ?_⟩
    rw [source_modImu, source_modSource (by omega)]
    exact fun h => hstate (hcounterState.symm.trans h)
  obtain ⟨hsens, hal, hst⟩ := hall
  exact ⟨hsens, hal, hsens.usable hst hu⟩

/-- The motion unit's work on the sample that waits alone. -/
def sampleWork (i : Nat) (e : Dts) (burst : Bytes) (s : State) : State :=
  judgeImus (integrateSample i (sampleStamp i e s) (burstFit i burst s)
    (modImu i (fun m => { m with buffers := [] }) (sampleWaits i e burst s)))

include hi hstamp in
theorem execImuTransactionComplete_sample (ha : awake s = true) (hrun : (imu s i).running = some e)
    (hmotion : motionRuns s = true) (hb : (imu s i).buffers = []) :
    execImuTransactionComplete i burst s = answer s (sampleWork i e burst s) := by
  obtain ⟨tx, hended⟩ := burstEnded_eq (i := i) s
  have hkept : (takeUnit (16 + i) (sampleStamp i e s) (now s) (burstEnded i s)).2.1 = true := by
    rw [takeUnit_kept]
    rw [modelStamp_imu hi, hended]
    exact hstamp
  have hwaits := sampleWaiting hi (s := s) (e := e) (burst := burst)
  have hlen : ¬ 2 ≤ (imu (burstTaken i e burst s) i).buffers.length := by
    have hbuf := hwaits.buffers
    rw [hb, sampleWaits, imu_modImu hi] at hbuf
    have := congrArg List.length hbuf
    simp only [List.length_append] at this
    simp at this
    simp [this]
  have hmotion' : motionRuns (sampleWaits i e burst s) = true := by
    rw [motionRuns, hwaits.shadows]
    exact hmotion
  have hdef : execImuTransactionComplete i burst s = answer s
      (if !(takeUnit (16 + i) (sampleStamp i e s) (now s) (burstEnded i s)).2.1 then
        (takeUnit (16 + i) (sampleStamp i e s) (now s) (burstEnded i s)).1
      else if 2 ≤ (imu (burstTaken i e burst s) i).buffers.length then
        modSource (16 + i) (fun (x : Source) => { x with dropped := bump x.dropped }) (burstTaken i e burst s)
      else judgeImus (if motionRuns (sampleWaits i e burst s) then takeSamples i (sampleWaits i e burst s)
        else sampleWaits i e burst s)) := by
    unfold execImuTransactionComplete awakeAnswer
    rw [if_pos ha]
    simp only [hrun, decide_eq_true hi]
    rfl
  rw [hdef, hkept, if_neg (by decide), if_neg hlen, if_pos hmotion', takeSamples, hwaits.buffers, hb]
  rfl

include hi hstamp in
theorem transactionCompletes (ha : awake s = true) (hrun : (imu s i).running = some e) (hmotion : motionRuns s = true)
    (hb : (imu s i).buffers = []) : Completes (.imuTransactionComplete i burst) s fun t =>
      (source t (16 + i)).units = bump (source s (16 + i)).units ∧
      (source t (16 + i)).whole = bump (source s (16 + i)).whole ∧
      (imu t i).buffers = [] ∧ (imu t i).running = (imu s i).kept.head? ∧
      (isWorker s = false → s.align.primary = some i → imuUsable s i = true → (source s (16 + i)).window.length < 63 →
        newestTime s (sampleStamp i e s) ≤ sampleStamp i e s → ∃ x, t.align.history = (x :: s.align.history).take 16384 ∧
          x.time = sampleStamp i e s ∧ x.primary = srcNum (16 + i) ∧ x.anchorSeq = s.align.anchorSeq % 65536) ∧
      ChangesOnly [.ingest, .align, .patrol, .tx] s t := by
  refine completes_of_answer ((exec_imuTransactionComplete i burst s).trans
    (execImuTransactionComplete_sample hi hstamp ha hrun hmotion hb)) ?_
  have hwaits := sampleWaiting hi (s := s) (e := e) (burst := burst)
  have husable := sampleWaiting_usable hi (s := s) (e := e) (burst := burst)
  unfold sampleWork
  generalize sampleWaits i e burst s = u at hwaits husable ⊢
  have hframe := (changesOnly_modImu i (fun m => { m with buffers := [] }) u).comp
    ((changesOnly_integrateSample i (sampleStamp i e s) (burstFit i burst s)
      (modImu i (fun m => { m with buffers := [] }) u)).step (changesOnly_judgeImus _))
  have hingest : (judgeImus (integrateSample i (sampleStamp i e s) (burstFit i burst s)
      (modImu i (fun m => { m with buffers := [] }) u))).ingest = (modImu i (fun m => { m with buffers := [] }) u).ingest :=
    ((changesOnly_integrateSample i _ _ _).step (changesOnly_judgeImus _)) .ingest (by simp)
  have himu := imu_modImu hi (fun m => { m with buffers := [] }) u
  rw [source_of_ingest (settle_ingest _ _), imu_of_ingest (settle_ingest _ _), settle_align, history_judgeImus,
    source_of_ingest hingest, imu_of_ingest hingest, source_modImu, himu]
  refine ⟨hwaits.units, hwaits.whole, rfl, hwaits.running, fun hw hp hu hshort hn => ?_,
    ((hwaits.frame.comp hframe).mono (by simp)).settle s⟩
  obtain ⟨hsenses, halign, hus⟩ := husable hu hshort
  have hcleared : SensesOnly s (modImu i (fun m => { m with buffers := [] }) u) := hsenses.trans (sensesOnly_modImu i _ u)
  have halign' : (modImu i (fun m => { m with buffers := [] }) u).align = s.align := halign
  have hus' : imuUsable (modImu i (fun m => { m with buffers := [] }) u) i = true := hus
  have hworker : isWorker (modImu i (fun m => { m with buffers := [] }) u) = false := by
    obtain ⟨_, _, _, _, -, heq⟩ := hcleared
    rw [heq]
    exact hw
  have hpose := history_integrateSample (stamp := sampleStamp i e s) (burst := burstFit i burst s) hworker
    (by rw [halign']; exact hp) hus' (by rw [newestTime, halign']; exact hn)
  rw [halign'] at hpose
  exact hpose

end

end Sys2Proof.Machine
end

section
/-! Encoders, CAN controllers and the loss of a source, and O27 (R147 to R150, R155). -/

namespace Sys2Proof.Machine

/-! ## Encoders (R147, R148) -/

/-- The position and the state of a quadrature channel change by an edge. -/
def putEncoder (n : Nat) (f : Encoder → Encoder) (s : State) : State :=
  { s with ingest := { s.ingest with encoders := vmod s.ingest.encoders n f } }

theorem changesOnly_putEncoder (n : Nat) (f : Encoder → Encoder) (s : State) : ChangesOnly [.ingest] s (putEncoder n f s) := by
  rw [changesOnly_iff]
  simp [Part.same, putEncoder]

/-- An encoder with the level of a line. -/
def levelSet (onB level : Bool) (e : Encoder) : Encoder := if onB then { e with b := level } else { e with a := level }

/-- The step of an accepted edge, with the sense of rotation as configured. -/
def edgeStep (b : Bytes) (onB level : Bool) (x : Encoder) : Int :=
  if bitAt b 8 then -(quadStep onB level x.a x.b) else quadStep onB level x.a x.b

/-- An encoder with an edge accepted. -/
def edgeTaken (onB level : Bool) (at_ : Dts) (p step : Int) (e : Encoder) : Encoder :=
  { levelSet onB level e with
    position := p, lastAccepted := some at_, lastStep := step, lastOnB := onB,
    edges := e.edges ++ [(at_, p, decide (0 < step))] }

/-- An accepted edge moves the position one forward or one back. -/
theorem edgeStep_eq (b : Bytes) (onB level : Bool) (x : Encoder) :
    edgeStep b onB level x = if ((if onB then level == x.a else level != x.b) != bitAt b 8) = true then 1 else -1 := by
  unfold edgeStep quadStep
  cases onB <;> cases level <;> cases x.a <;> cases x.b <;> cases bitAt b 8 <;> rfl

section
variable {n : Nat} {onB level : Bool} {at_ : Dts} {s : State} (ha : awake s = true) (hn : n < 4)
  (hactive : sourceActive s (20 + n) = true)
  (hlevel : (if onB then (vget s.ingest.encoders n).b else (vget s.ingest.encoders n).a) ≠ level)
include ha hn hactive hlevel

/-- The span since the last accepted edge. -/
def edgeGap (at_ : Dts) (x : Encoder) : Nat :=
  match x.lastAccepted with
  | some l => at_ - l
  | none => secUnits

theorem execEncoderEdge_filtered
    (hgap : fld (setting s 0x0406 n) 48 8 * 8 * nsUnits ≤ edgeGap at_ (vget s.ingest.encoders n)) :
    execEncoderEdge n onB level at_ s = answer s
      (if edgeGap at_ (vget s.ingest.encoders n) < (fld (setting s 0x0406 n) 48 8 * 8 + 40) * nsUnits then
        modSource (20 + n) (fun (m : Source) => { m with dropped := bump m.dropped }) (putEncoder n (levelSet onB level) s)
      else if !(takeUnit (20 + n) at_ at_ s).2.1 then (takeUnit (20 + n) at_ at_ s).1
      else modSource (20 + n) wholeCounted (putEncoder n (edgeTaken onB level at_
        (wrap32 ((vget s.ingest.encoders n).position + edgeStep (setting s 0x0406 n) onB level (vget s.ingest.encoders n)))
        (edgeStep (setting s 0x0406 n) onB level (vget s.ingest.encoders n))) (takeUnit (20 + n) at_ at_ s).1)) := by
  have hgo : (!(decide (n < 4) && sourceActive s (20 + n)) ||
      (if onB then (vget s.ingest.encoders n).b else (vget s.ingest.encoders n).a) == level) = false := by
    simp only [decide_eq_true hn, hactive, Bool.and_self, Bool.not_true, Bool.false_or]
    exact beq_eq_false_iff_ne.2 hlevel
  have hslow : (decide (edgeGap at_ (vget s.ingest.encoders n) < fld (setting s 0x0406 n) 48 8 * 8 * nsUnits) &&
      (vget s.ingest.encoders n).lastOnB != onB && (vget s.ingest.encoders n).lastStep != 0) = false := by
    rw [decide_eq_false (Nat.not_lt.2 hgap), Bool.false_and, Bool.false_and]
  have hdef : execEncoderEdge n onB level at_ s = awakeAnswer s fun s =>
      if !(decide (n < 4) && sourceActive s (20 + n)) ||
        (if onB then (vget s.ingest.encoders n).b else (vget s.ingest.encoders n).a) == level then s
      else if decide (edgeGap at_ (vget s.ingest.encoders n) < fld (setting s 0x0406 n) 48 8 * 8 * nsUnits) &&
          (vget s.ingest.encoders n).lastOnB != onB && (vget s.ingest.encoders n).lastStep != 0 then
        modSource (20 + n) (fun (m : Source) => { m with damaged := bump m.damaged })
          (putEncoder n (fun (e : Encoder) => { levelSet onB level e with
            position := wrap32 (e.position - e.lastStep), lastStep := 0, edges := e.edges.dropLast }) s)
      else if edgeGap at_ (vget s.ingest.encoders n) < (fld (setting s 0x0406 n) 48 8 * 8 + 40) * nsUnits then
        modSource (20 + n) (fun (m : Source) => { m with dropped := bump m.dropped }) (putEncoder n (levelSet onB level) s)
      else if !(takeUnit (20 + n) at_ at_ s).2.1 then (takeUnit (20 + n) at_ at_ s).1
      else modSource (20 + n) wholeCounted (putEncoder n (edgeTaken onB level at_
        (wrap32 ((vget s.ingest.encoders n).position + edgeStep (setting s 0x0406 n) onB level (vget s.ingest.encoders n)))
        (edgeStep (setting s 0x0406 n) onB level (vget s.ingest.encoders n))) (takeUnit (20 + n) at_ at_ s).1) := rfl
  rw [hdef, awakeAnswer, if_pos ha]
  simp only [hgo, hslow, Bool.false_eq_true, if_false]

omit ha hn hactive hlevel in
theorem fld_lt (b : Bytes) (lo w : Nat) : fld b lo w < 2 ^ w := Nat.mod_lt _ (Nat.two_pow_pos w)

theorem edgeIsAccepted
    (hgap : ∀ l, (vget s.ingest.encoders n).lastAccepted = some l →
      l + (fld (setting s 0x0406 n) 48 8 * 8 + 40) * nsUnits ≤ at_)
    (hstamp : ∀ l, (source s (20 + n)).lastStamp = some l → l ≤ at_) : Completes (.encoderEdge n onB level at_) s fun t =>
      (vget t.ingest.encoders n).position = wrap32 ((vget s.ingest.encoders n).position +
        if ((if onB then level == (vget s.ingest.encoders n).a else level != (vget s.ingest.encoders n).b) !=
          bitAt (setting s 0x0406 n) 8) = true then 1 else -1) ∧
      (vget t.ingest.encoders n).lastAccepted = some at_ ∧
      (source t (20 + n)).units = bump (source s (20 + n)).units ∧ ChangesOnly [.ingest, .align, .patrol] s t := by
  have hlong : (fld (setting s 0x0406 n) 48 8 * 8 + 40) * nsUnits ≤ edgeGap at_ (vget s.ingest.encoders n) := by
    unfold edgeGap
    cases hl : (vget s.ingest.encoders n).lastAccepted with
    | none =>
      have hbound := fld_lt (setting s 0x0406 n) 48 8
      simp only [nsUnits, secUnits]
      omega
    | some l => exact Nat.le_sub_of_add_le' (hgap l hl)
  have hmode : modelStamp s (20 + n) at_ at_ = at_ := by
    have hmode : sourceMode s (20 + n) = 0 := by
      unfold sourceMode
      rw [if_neg (by omega), if_neg (by omega), if_pos (by omega)]
    rw [modelStamp, if_neg (by rw [hmode]; decide)]
  have hkept : (takeUnit (20 + n) at_ at_ s).2.1 = true := by
    rw [takeUnit_kept (by rw [hmode]; exact hstamp)]
  refine completes_of_answer ((exec_encoderEdge n onB level at_ s).trans
    (execEncoderEdge_filtered ha hn hactive hlevel
      (Nat.le_trans (Nat.mul_le_mul_right _ (Nat.le_add_right _ 40)) hlong))) ?_
  rw [if_neg (Nat.not_lt.2 hlong), hkept, if_neg (by decide)]
  have hunit := unitCounted_takeUnit (i := 20 + n) (by omega) at_ at_ s
  have hframe := changesOnly_takeUnit (20 + n) at_ at_ s
  generalize (takeUnit (20 + n) at_ at_ s).1 = u at hunit hframe ⊢
  rw [source_of_ingest (settle_ingest _ _), settle_ingest, source_modSource (by omega), ← edgeStep_eq]
  have hput := vget_vmod_same u.ingest.encoders (edgeTaken onB level at_
    (wrap32 ((vget s.ingest.encoders n).position + edgeStep (setting s 0x0406 n) onB level (vget s.ingest.encoders n)))
    (edgeStep (setting s 0x0406 n) onB level (vget s.ingest.encoders n))) hn
  exact ⟨congrArg Encoder.position hput, congrArg Encoder.lastAccepted hput, hunit.units,
    ((hframe.comp ((changesOnly_putEncoder n _ u).step (changesOnly_modSource _ _ _))).mono (by simp)).settle s⟩

theorem edgeIsTooEarly {l : Dts} (hl : (vget s.ingest.encoders n).lastAccepted = some l)
    (hfilter : l + fld (setting s 0x0406 n) 48 8 * 8 * nsUnits ≤ at_)
    (hearly : at_ < l + (fld (setting s 0x0406 n) 48 8 * 8 + 40) * nsUnits) :
    Completes (.encoderEdge n onB level at_) s fun t =>
      (vget t.ingest.encoders n).position = (vget s.ingest.encoders n).position ∧
      (source t (20 + n)).dropped = bump (source s (20 + n)).dropped ∧ ChangesOnly [.ingest] s t := by
  have hgap : edgeGap at_ (vget s.ingest.encoders n) = at_ - l := by
    rw [edgeGap, hl]
  refine completes_of_answer ((exec_encoderEdge n onB level at_ s).trans
    (execEncoderEdge_filtered ha hn hactive hlevel (by rw [hgap]; exact Nat.le_sub_of_add_le' hfilter))) ?_
  rw [hgap, if_pos (Nat.sub_lt_left_of_lt_add (Nat.le_of_add_right_le hfilter) hearly), source_of_ingest (settle_ingest _ _),
    settle_ingest, source_modSource (by omega)]
  have hput := vget_vmod_same s.ingest.encoders (levelSet onB level) hn
  refine ⟨(congrArg Encoder.position hput).trans ?_, rfl,
    ((changesOnly_putEncoder n _ s).step (changesOnly_modSource _ _ _)).settle s⟩
  cases onB <;> rfl

end

/-! ## CAN controllers (R149, R150) -/

theorem can_of_ingest {s t : State} (h : t.ingest = s.ingest) (n : Nat) : can t n = can s n := by
  rw [can, h, can]

theorem can_modCan {n : Nat} (hn : n < 2) (f : Can → Can) (s : State) : can (modCan n f s) n = f (can s n) :=
  vget_vmod_same _ _ hn

theorem can_modSource (i n : Nat) (f : Source → Source) (s : State) : can (modSource i f s) n = can s n := rfl

theorem can_report (src unit level : Nat) (cls : FaultClass) (detail : Nat) (s : State) (n : Nat) :
    can (report src unit level cls detail s) n = can s n := rfl

theorem source_modCan (n i : Nat) (f : Can → Can) (s : State) : source (modCan n f s) i = source s i := rfl

theorem changesOnly_modCan (n : Nat) (f : Can → Can) (s : State) : ChangesOnly [.ingest] s (modCan n f s) := by
  rw [changesOnly_iff]
  simp [Part.same, modCan]

theorem lookupD_assocSet_ne {β : Type} (l : List (Nat × β)) {k j : Nat} (h : j ≠ k) (v d : β) :
    lookupD (assocSet l k v) j d = lookupD l j d := by
  have hkey : (k == j) = false := beq_eq_false_iff_ne.2 (Ne.symm h)
  have hmap : ∀ l : List (Nat × β), (l.map fun p => if p.1 == k then (k, v) else p).find? (fun p => p.1 == j) =
      l.find? fun p => p.1 == j := by
    intro l
    induction l with
    | nil => rfl
    | cons p l ih =>
      rw [List.map_cons, List.find?_cons, List.find?_cons, ih]
      by_cases hp : p.1 = k
      · simp [hp, hkey]
      · simp [hp]
  have hfind : (assocSet l k v).find? (fun p => p.1 == j) = l.find? fun p => p.1 == j := by
    unfold assocSet
    split
    · exact hmap l
    · rw [List.find?_append]
      simp [hkey]
  rw [lookupD, hfind]
  rfl

section
variable {n : Nat} (hn : n < 2) (b : Bytes) (m : CanMessage) (i : Nat) (s : State)
include hn

/-- What a filter that selects a message leaves of its controller and of the source. -/
theorem filterMessage_ingest : ∃ e : CanLatest, e.data = m.data ∧ e.stamp = m.stamp ∧
    (can (filterMessage n b m i s) n).latest = assocSet (can s n).latest i e ∧
    (source (filterMessage n b m i s) (24 + n)).units = (source s (24 + n)).units := by
  unfold filterMessage
  extract_lets f old len alive skipped untaken entry sigs
  rw [can_modSource, can_modCan hn, source_modSource (by omega), source_modCan]
  exact ⟨entry, rfl, rfl, rfl, rfl⟩

omit hn in
theorem changesOnly_filterMessage : ChangesOnly [.ingest] s (filterMessage n b m i s) :=
  (changesOnly_modCan n _ s).step (changesOnly_modSource _ _ _)

/-- A filter holds a message. -/
def holdsMessage (n : Nat) (m : CanMessage) (j : Nat) (s : State) : Prop :=
  (lookupD (can s n).latest j default).data = m.data ∧ (lookupD (can s n).latest j default).stamp = m.stamp

theorem filterMessage_holds (j : Nat) (h : j = i ∨ holdsMessage n m j s) :
    holdsMessage n m j (filterMessage n b m i s) := by
  obtain ⟨e, hdata, hstamp, hlatest, -⟩ := filterMessage_ingest hn b m i s
  unfold holdsMessage
  rw [hlatest]
  by_cases hj : j = i
  · rw [hj, lookupD_assocSet]
    exact ⟨hdata, hstamp⟩
  · rw [lookupD_assocSet_ne _ hj]
    exact h.resolve_left hj

theorem filtersTake (l : List Nat) : ∀ s, (∀ j, j ∈ l ∨ holdsMessage n m j s →
      holdsMessage n m j (l.foldl (fun t i => filterMessage n b m i t) s)) ∧
    (source (l.foldl (fun t i => filterMessage n b m i t) s) (24 + n)).units = (source s (24 + n)).units := by
  induction l with
  | nil => exact fun s => ⟨fun j h => h.resolve_left (by simp), rfl⟩
  | cons x l ih =>
    intro s
    obtain ⟨hhold, hunits⟩ := ih (filterMessage n b m x s)
    obtain ⟨e, -, -, -, hone⟩ := filterMessage_ingest hn b m x s
    refine ⟨fun j h => hhold j ?_, hunits.trans hone⟩
    rcases h with h | h
    · rcases List.mem_cons.1 h with rfl | h
      · exact .inr (filterMessage_holds hn b m j s j (.inl rfl))
      · exact .inl h
    · exact .inr (filterMessage_holds hn b m x s j (.inr h))

end

section
variable {n : Nat} {s : State} (ha : awake s = true) (hn : n < 2) (hactive : sourceActive s (24 + n) = true)
include ha hn hactive

/-- The filters of a controller that select a message. -/
def filtersHit (n : Nat) (m : CanMessage) (s : State) : List Nat :=
  (List.range (canFilters (setting s 0x0407 n))).filter fun i => filterTakes (canFilter (setting s 0x0407 n) i) m

theorem messageIsHeld {i : Nat} {m : CanMessage} (hi : i < canFilters (setting s 0x0407 n))
    (htakes : filterTakes (canFilter (setting s 0x0407 n) i) m = true)
    (hstamp : ∀ l, (source s (24 + n)).lastStamp = some l → l ≤ modelStamp s (24 + n) m.stamp m.stamp) :
    Completes (.canMessage n m) s fun t => (source t (24 + n)).units = bump (source s (24 + n)).units ∧
      (lookupD (can t n).latest i default).data = m.data ∧ (lookupD (can t n).latest i default).stamp = m.stamp ∧
      ChangesOnly [.ingest, .align, .patrol] s t := by
  have hmem : i ∈ filtersHit n m s := List.mem_filter.2 ⟨List.mem_range.2 hi, htakes⟩
  have hgo : (!(decide (n < 2) && sourceActive s (24 + n)) || (filtersHit n m s).isEmpty) = false := by
    simp [hn, hactive, List.ne_nil_of_mem hmem]
  have hkept : (takeUnit (24 + n) m.stamp m.stamp s).2.1 = true := by
    rw [takeUnit_kept hstamp]
  have hdef : execCanMessage n m s = awakeAnswer s fun s =>
      if !(decide (n < 2) && sourceActive s (24 + n)) || (filtersHit n m s).isEmpty then s
      else if !(takeUnit (24 + n) m.stamp m.stamp s).2.1 then (takeUnit (24 + n) m.stamp m.stamp s).1
      else (filtersHit n m s).foldl (fun t i => filterMessage n (setting s 0x0407 n) m i t)
        (modSource (24 + n) wholeCounted (takeUnit (24 + n) m.stamp m.stamp s).1) := rfl
  refine completes_of_awake ((exec_canMessage n m s).trans hdef) ha ?_
  simp only [hgo, hkept, Bool.not_true, Bool.false_eq_true, if_false]
  have hunit := unitCounted_takeUnit (i := 24 + n) (by omega) m.stamp m.stamp s
  have hframe := changesOnly_takeUnit (24 + n) m.stamp m.stamp s
  generalize (takeUnit (24 + n) m.stamp m.stamp s).1 = u at hunit hframe ⊢
  obtain ⟨hheld, hunits⟩ := filtersTake hn (setting s 0x0407 n) m (filtersHit n m s) (modSource (24 + n) wholeCounted u)
  have hwork := (changesOnly_modSource (24 + n) wholeCounted u).step
    (changesOnly_foldl (fun t i => changesOnly_filterMessage (n := n) (setting s 0x0407 n) m i t) (filtersHit n m s) _)
  obtain ⟨hdata, hst⟩ := hheld i (.inl hmem)
  rw [source_of_ingest (settle_ingest _ _), can_of_ingest (settle_ingest _ _), hunits, source_modSource (by omega)]
  exact ⟨hunit.units, hdata, hst, ((hframe.comp hwork).mono (by simp)).settle s⟩

theorem errorFrameIsCounted : Completes (.canErrorFrame n) s fun t =>
    (source t (24 + n)).damaged = bump (source s (24 + n)).damaged ∧ ChangesOnly [.ingest] s t := by
  refine completes_of_awake (exec_canErrorFrame n s) ha ?_
  have hgo : (decide (n < 2) && sourceActive s (24 + n)) = true := by simp [hn, hactive]
  simp only [hgo, if_true]
  rw [source_of_ingest (settle_ingest _ _), source_modSource (by omega)]
  exact ⟨rfl, (changesOnly_modSource _ _ s).settle s⟩

theorem busOffIsReported (hacks : canAcks s n = true) : Completes (.canBusOff n) s fun t => canAcks t n = false ∧
    (∃ r, t.patrol.wires = s.patrol.wires ++ [r] ∧ r.source = ingestFault (24 + n) 0 ∧ r.cls = .ce) ∧
    ChangesOnly [.ingest, .patrol] s t := by
  refine completes_of_awake (exec_canBusOff n s) ha ?_
  have hgo : (decide (n < 2) && sourceActive s (24 + n) && canAcks s n) = true := by simp [hn, hactive, hacks]
  simp only [hgo, if_true]
  have hcan := can_modCan hn (fun (c : Can) => { c with busOff := true }) s
  have hframe := (changesOnly_modCan n (fun (c : Can) => { c with busOff := true }) s).comp
    (changesOnly_report (ingestFault (24 + n) 0) 0 4 .ce 0 _)
  refine ⟨?_, ?_, hframe.settle s⟩
  · rw [canAcks, can_of_ingest (settle_ingest _ _), can_report, hcan]
    exact Bool.and_false _
  · rw [settle_patrol]
    exact ⟨_, rfl, rfl, rfl⟩

end

/-! ## The loss of a source (R155) -/

theorem wires_judgeImus (s : State) : s.patrol.wires <+: (judgeImus s).patrol.wires := by
  unfold judgeImus
  split
  · exact List.prefix_rfl
  · exact List.prefix_append _ _

theorem srcIdx_lt {k i : Nat} (h : srcIdx k = some i) : i < 26 := by
  unfold srcIdx at h
  split_ifs at h <;> simp at h <;> omega

/-- A source that has fallen silent. -/
def sourceLost (m : Source) : Source := { m with state := .absent, lossEvents := bump m.lossEvents }

theorem sourceIsLost {k i : Nat} {s : State} (ha : awake s = true) (hk : srcIdx k = some i) (hactive : sourceActive s i = true)
    (hstate : (source s i).state = .starting ∨ (source s i).state = .valid) (hsilent : sourceSilent s i = true) :
    Completes (.sourceLossTimeout k) s fun t => (source t i).state = .absent ∧
      (source t i).lossEvents = bump (source s i).lossEvents ∧
      (∃ r ∈ t.patrol.wires, r.source = ingestFault i 0 ∧ r.cls = .ce ∧ r.at_ = now s) ∧
      ChangesOnly [.ingest, .align, .patrol] s t := by
  have hdef : execSourceLossTimeout k s = awakeAnswer s fun s =>
      match srcIdx k with
      | none => s
      | some i =>
        if sourceActive s i && ((source s i).state == .starting || (source s i).state == .valid) && sourceSilent s i then
          judgeImus (report (ingestFault i 0) 0 4 .ce 0 (modSource i sourceLost s))
        else s := rfl
  refine completes_of_awake ((exec_sourceLossTimeout k s).trans hdef) ha ?_
  have hgo : (sourceActive s i && ((source s i).state == .starting || (source s i).state == .valid) && sourceSilent s i) = true := by
    rcases hstate with h | h <;> simp [hactive, h, hsilent]
  simp only [hk, hgo, if_true]
  have hframe := (changesOnly_modSource i sourceLost s).comp (changesOnly_report (ingestFault i 0) 0 4 .ce 0 _)
  have hjudge := changesOnly_judgeImus (report (ingestFault i 0) 0 4 .ce 0 (modSource i sourceLost s))
  have hingest : (judgeImus (report (ingestFault i 0) 0 4 .ce 0 (modSource i sourceLost s))).ingest =
      (modSource i sourceLost s).ingest := hjudge .ingest (by simp)
  have hsource := source_modSource (srcIdx_lt hk) sourceLost s
  have hwires := wires_judgeImus (report (ingestFault i 0) 0 4 .ce 0 (modSource i sourceLost s))
  rw [source_of_ingest (settle_ingest _ _), settle_patrol, source_of_ingest hingest, hsource]
  refine ⟨rfl, rfl, ⟨_, hwires.subset (List.mem_append_right _ List.mem_cons_self), rfl, rfl, rfl⟩, ?_⟩
  exact ((hframe.comp hjudge).mono (by simp)).settle s

/-- Settles O27: each source's events by their lemmas. -/
theorem motionSourcesDeliver : Obligations.MotionSourcesDeliver := by
  unfold Obligations.MotionSourcesDeliver
  refine ⟨fun i s ha hi hactive => ⟨fun e rest => dataReady ha hi hactive, fun e burst hrun hmotion hb hstamp => ?_⟩,
    fun n onB level at_ s ha hn hactive hlevel => ⟨fun hgap hstamp => ?_, fun l hl hfilter hearly => ?_⟩,
    fun n s ha hn hactive => ⟨fun i m hi htakes hstamp => messageIsHeld ha hn hactive hi htakes hstamp,
      errorFrameIsCounted ha hn hactive, busOffIsReported ha hn hactive⟩,
    fun k i s ha hk hactive hstate hsilent => sourceIsLost ha hk hactive hstate hsilent⟩
  · exact transactionCompletes hi hstamp ha hrun hmotion hb
  · exact edgeIsAccepted ha hn hactive hlevel hgap hstamp
  · exact edgeIsTooEarly ha hn hactive hlevel hl hfilter hearly

end Sys2Proof.Machine
end

section
/-! Loads and configurations of ingest (O28; R125, R133, R135, R137, R139, R144, R147, R149, R155). -/

namespace Sys2Proof.Machine

/-! ## Commands that answer DONE or conclude -/

/-- A command whose work ends in the reply DONE. -/
theorem completes_done {i : Instr} {k : CmdKey} {op : Nat} {work : Cmd → State → State} {s : State} {c : Cmd}
    {l m : List Part} {Q : State → Prop} (hi : exec i s = runCommand k op (fun c s => done c (work c s)) s)
    (h : Ready k op s c) (hframe : ChangesOnly l s (work c s)) (hf : Part.flight ∉ l) (hr : Part.reply ∉ l)
    (ht : Part.time ∉ l) (hm : l ++ [.flight, .reply] ⊆ m)
    (hq : ∀ t, Replied c stDone 0 [] s t → ChangesOnly m s t → ChangesOnly [.flight, .reply] (work c s) t → Q t) :
    Completes i s Q :=
  completes_of_command (f := fun c s => done c (work c s)) hi h
    (hq _ (replied_of_frame hframe hf hr ht c stDone 0 []) (changesOnly_finished hframe c stDone 0 [] hm)
      ((changesOnly_finish c stDone 0 [] (work c s)).settle s))

/-- A command marked L whose work ends with an outcome. -/
theorem completes_concluded {i : Instr} {k : CmdKey} {op : Nat} {work : Cmd → State → State} {s : State} {c : Cmd}
    {st d : Nat} {r : Bytes} {u : State} {l m : List Part} {Q : State → Prop} (hi : exec i s = runCommand k op work s)
    (h : Ready k op s c) (hwork : work c s = conclude c st d r u) (hframe : ChangesOnly l s u) (hf : Part.flight ∉ l)
    (hm : l ++ [.flight] ⊆ m)
    (hq : ∀ t, Concluded c st d r s t → ChangesOnly m s t → ChangesOnly [.flight] u t → Q t) : Completes i s Q :=
  completes_of_command hi h (by
    rw [hwork]
    exact hq _ (concluded_conclude s (hframe .flight hf)) (changesOnly_concluded hframe c st d r hm)
      ((changesOnly_conclude c st d r u).settle s))

/-! ## A configured source (R155) -/

/-- A source as its configuration starts it. -/
def sourceStarted (configured : Bool) (m : Source) : Source :=
  { restartWindows m with
    state := if configured then .absent else .unconfigured, lastStamp := none, lastLag := none, lastUnit := none,
    offset := 0, rate := 0, ref := 0, residual := 0, meanLag := 0 }

theorem startSource_eq (i : Nat) (configured : Bool) (s : State) :
    startSource i configured s = modSource i (sourceStarted configured) s := rfl

theorem source_startSource {i : Nat} (hi : i < 26) (configured : Bool) (s : State) :
    (source (startSource i configured s) i).state = if configured then .absent else .unconfigured := by
  rw [startSource_eq, source_modSource hi]
  rfl

theorem changesOnly_startSource (i : Nat) (configured : Bool) (s : State) : ChangesOnly [.ingest] s (startSource i configured s) :=
  changesOnly_modSource i _ s

/-- What a configuration changes: its block is in force and ingest starts its source. -/
theorem changesOnly_configured {op idx : Nat} {b : Bytes} {s t : State} (h : ChangesOnly [.ingest] (putSetting op idx b s) t) :
    ChangesOnly [.settings, .ingest] s t :=
  (changesOnly_putSetting op idx b s).comp h

theorem setting_configured {op idx : Nat} {b : Bytes} {s u t : State} {l : List Part}
    (h : ChangesOnly [.ingest] (putSetting op idx b s) u) (ht : ChangesOnly l u t) (hl : Part.settings ∉ l) :
    setting t op idx = b := by
  rw [ht.setting_eq hl, h.setting_eq (by simp), setting_putSetting]

theorem isSet_putSetting (op idx : Nat) (b : Bytes) (s : State) : isSet (putSetting op idx b s) op idx = true := by
  unfold isSet putSetting assocSet
  dsimp only
  split
  case isTrue h =>
    obtain ⟨p, hp, hk⟩ := List.any_eq_true.1 h
    exact List.any_eq_true.2 ⟨_, List.mem_map_of_mem hp, by simp [hk]⟩
  case isFalse h => simp

/-! ## The commands -/

/-- A template is kept for bindings to come. -/
def templateKept (n : Nat) (tpl : Bytes) (s : State) : State :=
  { s with ingest := { s.ingest with templates := vset s.ingest.templates n tpl } }

theorem changesOnly_templateKept (n : Nat) (tpl : Bytes) (s : State) : ChangesOnly [.ingest] s (templateKept n tpl s) := by
  rw [changesOnly_iff]
  simp [Part.same, templateKept]

section
variable {k : CmdKey} {c : Cmd} {s : State}

theorem lidarTemplateIsLoaded (h : Ready k 0x0403 s c) : Completes (.loadLidarTemplate k) s fun t =>
    (∀ o, templateFault (cellsGet s.memory.staging (fld c.params 32 32) (min (fld c.params 64 32) 2592))
        (fld c.params 64 32) = some o → Concluded c stVerifyFailed o [] s t ∧ t.ingest = s.ingest) ∧
    (templateFault (cellsGet s.memory.staging (fld c.params 32 32) (min (fld c.params 64 32) 2592))
        (fld c.params 64 32) = none → Concluded c stDone 0 [] s t ∧ (fld c.params 0 8 < 8 →
      vget t.ingest.templates (fld c.params 0 8) =
        cellsGet s.memory.staging (fld c.params 32 32) (min (fld c.params 64 32) 2592))) ∧
    ChangesOnly [.flight, .ingest] s t := by
  cases hfault : templateFault (cellsGet s.memory.staging (fld c.params 32 32) (min (fld c.params 64 32) 2592))
      (fld c.params 64 32) with
  | some o =>
    refine completes_concluded (st := stVerifyFailed) (d := o) (r := []) (u := s) (m := [.flight, .ingest])
      (exec_loadLidarTemplate k s) h (by simp only [hfault]) (.refl [] s) (by simp) (by simp) fun t hc hframe hrest => ?_
    refine ⟨fun o' ho => ?_, nofun, hframe⟩
    obtain rfl := Option.some.inj ho
    exact ⟨hc, hrest .ingest (by simp)⟩
  | none =>
    refine completes_concluded (st := stDone) (d := 0) (r := []) (m := [.flight, .ingest])
      (exec_loadLidarTemplate k s) h (by simp only [hfault]; rfl)
      (changesOnly_templateKept (fld c.params 0 8) _ s) (by simp) (by simp) fun t hc hframe hrest => ?_
    refine ⟨nofun, fun _ => ⟨hc, fun hn => ?_⟩, hframe⟩
    rw [hrest .ingest (by simp)]
    exact vget_vset_same _ _ hn

theorem shadingTableIsLoaded (h : Ready k 0x0402 s c) (hr : fld c.params 0 8 < 8) (tbl : Bytes)
    (htbl : tbl = cellsGet s.memory.staging (fld c.params 32 32) (min (fld c.params 64 32) 33808)) :
    Completes (.loadShadingTable k) s fun t =>
      (fld c.params 64 32 ≠ 8 + 8 * fld tbl 0 8 * fld tbl 8 8 →
        Concluded c stVerifyFailed 1 [] s t ∧ t.ingest = s.ingest) ∧
      (fld c.params 64 32 = 8 + 8 * fld tbl 0 8 * fld tbl 8 8 → 2 ≤ fld tbl 0 8 → fld tbl 0 8 ≤ 65 → 2 ≤ fld tbl 8 8 →
        fld tbl 8 8 ≤ 65 → Concluded c stDone 0 [] s t ∧ (receiver t (fld c.params 0 8)).shadingPending = true ∧
          ((receiver s (fld c.params 0 8)).activeShading < 2 →
            vget (receiver t (fld c.params 0 8)).shading (1 - (receiver s (fld c.params 0 8)).activeShading) = tbl ∧
            vget (receiver t (fld c.params 0 8)).shading (receiver s (fld c.params 0 8)).activeShading =
              vget (receiver s (fld c.params 0 8)).shading (receiver s (fld c.params 0 8)).activeShading)) ∧
      ChangesOnly [.flight, .ingest] s t := by
  by_cases hbad : fld c.params 64 32 ≠ 8 + 8 * fld tbl 0 8 * fld tbl 8 8 ∨ fld tbl 0 8 < 2 ∨ 65 < fld tbl 0 8 ∨
      fld tbl 8 8 < 2 ∨ 65 < fld tbl 8 8
  · refine completes_concluded (st := stVerifyFailed) (d := 1) (r := []) (u := s) (m := [.flight, .ingest])
      (exec_loadShadingTable k s) h (by simp only [← htbl, if_pos hbad]) (.refl [] s) (by simp) (by simp)
      fun t hc hframe hrest => ?_
    exact ⟨fun _ => ⟨hc, hrest .ingest (by simp)⟩, fun hlen h1 h2 h3 h4 => by omega, hframe⟩
  · refine completes_concluded (st := stDone) (d := 0) (r := []) (m := [.flight, .ingest])
      (exec_loadShadingTable k s) h (by simp only [← htbl, if_neg hbad]; rfl) (changesOnly_modReceiver (fld c.params 0 8) _ s)
      (by simp) (by simp) fun t hc hframe hrest => ?_
    refine ⟨fun hlen => absurd (.inl hlen) hbad, fun _ _ _ _ _ => ⟨hc, ?_⟩, hframe⟩
    rw [receiver_of_ingest (hrest .ingest (by simp)), receiver_modReceiver hr]
    refine ⟨rfl, fun hactive => ⟨vget_vset_same _ _ (by omega), vget_vset_ne _ _ (by omega)⟩⟩

theorem receiverIsConfigured (h : Ready k 0x0400 s c) (hr : fld c.params 0 8 < 8) : Completes (.configCsi k) s fun t =>
    Concluded c stDone 0 [] s t ∧ setting t 0x0400 (fld c.params 0 8) = c.params ∧
      (receiver t (fld c.params 0 8)).frame = none ∧
      (source t (fld c.params 0 8)).state = (if fld c.params 20 4 = 0 then .unconfigured else .absent) ∧
      ChangesOnly [.flight, .settings, .ingest] s t := by
  have hconf : sourceConfigured (putSetting 0x0400 (fld c.params 0 8) c.params s) (fld c.params 0 8) =
      (fld c.params 20 4 != 0) := by
    rw [sourceConfigured, if_pos hr, isSet_putSetting, setting_putSetting, Bool.true_and]
  have hingest := (changesOnly_modReceiver (fld c.params 0 8) (fun (x : Receiver) => { x with
      frame := none, dropping := false, lastKept := none, starts := [], damagedRun := 0, syncs := [],
      syncLosses := Vector.replicate 4 0 }) (putSetting 0x0400 (fld c.params 0 8) c.params s)).step
    (changesOnly_startSource (fld c.params 0 8)
      (sourceConfigured (putSetting 0x0400 (fld c.params 0 8) c.params s) (fld c.params 0 8)) _)
  refine completes_concluded (m := [.flight, .settings, .ingest]) (exec_configCsi k s) h rfl (changesOnly_configured hingest)
    (by simp) (by simp) fun t hc hframe hrest => ?_
  refine ⟨hc, setting_configured hingest hrest (by simp), ?_, ?_, hframe⟩
  · rw [receiver_of_ingest (hrest .ingest (by simp)), startSource_eq]
    exact congrArg Receiver.frame (receiver_modReceiver hr _ _)
  · rw [source_of_ingest (hrest .ingest (by simp)), source_startSource (by omega), hconf]
    by_cases h0 : fld c.params 20 4 = 0
    · simp [h0]
    · simp [h0]

theorem lidarIsBound (h : Ready k 0x0404 s c) (hl : fld c.params 64 8 < 8) : Completes (.bindLidar k) s fun t =>
    Replied c stDone 0 [] s t ∧ setting t 0x0404 (fld c.params 64 8) = c.params ∧
      (lidar t (fld c.params 64 8)).template = vget s.ingest.templates (fld c.params 128 8) ∧
      (source t (fld c.params 64 8 + 8)).state = .absent ∧ ChangesOnly [.flight, .reply, .settings, .ingest] s t := by
  have hingest := (changesOnly_modLidar (fld c.params 64 8) (fun _ =>
      { (default : Lidar) with template := vget s.ingest.templates (fld c.params 128 8) })
      (putSetting 0x0404 (fld c.params 64 8) c.params s)).step (changesOnly_startSource (fld c.params 64 8 + 8) true _)
  refine completes_done (m := [.flight, .reply, .settings, .ingest]) (work := fun c s => startSource (fld c.params 64 8 + 8) true
      (modLidar (fld c.params 64 8) (fun _ =>
        { (default : Lidar) with template := vget s.ingest.templates (fld c.params 128 8) })
        (putSetting 0x0404 (fld c.params 64 8) c.params s))) (exec_bindLidar k s) h (changesOnly_configured hingest)
    (by simp) (by simp) (by simp) (by simp) fun t hc hframe hrest => ?_
  refine ⟨hc, setting_configured hingest hrest (by simp), ?_, ?_, hframe⟩
  · rw [lidar_of_ingest (hrest .ingest (by simp)), startSource_eq, lidar_modSource, lidar_modLidar hl]
  · rw [source_of_ingest (hrest .ingest (by simp)), source_startSource (by omega)]
    rfl

theorem designatedImu_congr {s t : State} (h : t.settings = s.settings) : designatedImu t = designatedImu s := by
  simp only [designatedImu, sourceConfigured, isSet, setting, h]

/-- A state whose primary is the configured one. -/
def primaryDesignated (s : State) : State := modAlign (fun a => { a with primary := designatedImu s }) s

theorem imuIsConfigured (h : Ready k 0x0405 s c) (hi : fld c.params 0 8 < 4) : Completes (.configImu k) s fun t =>
    Replied c stDone 0 [] s t ∧ setting t 0x0405 (fld c.params 0 8) = c.params ∧
      (source t (16 + fld c.params 0 8)).state = .absent ∧ t.align.primary = designatedImu t ∧
      ChangesOnly [.flight, .reply, .settings, .ingest, .align] s t := by
  have hingest := (changesOnly_modImu (fld c.params 0 8) (fun _ => default)
      (putSetting 0x0405 (fld c.params 0 8) c.params s)).step (changesOnly_startSource (16 + fld c.params 0 8) true _)
  have halign := changesOnly_modAlign (fun a => { a with primary := designatedImu (startSource (16 + fld c.params 0 8) true
    (modImu (fld c.params 0 8) (fun _ => default) (putSetting 0x0405 (fld c.params 0 8) c.params s))) })
    (startSource (16 + fld c.params 0 8) true
    (modImu (fld c.params 0 8) (fun _ => default) (putSetting 0x0405 (fld c.params 0 8) c.params s)))
  refine completes_done (m := [.flight, .reply, .settings, .ingest, .align]) (work := fun c s =>
      primaryDesignated (startSource (16 + fld c.params 0 8) true (modImu (fld c.params 0 8) (fun _ => default)
        (putSetting 0x0405 (fld c.params 0 8) c.params s)))) (exec_configImu k s) h
    ((changesOnly_configured hingest).comp halign) (by simp) (by simp) (by simp) (by simp) fun t hc hframe hrest => ?_
  have hset : t.settings = (putSetting 0x0405 (fld c.params 0 8) c.params s).settings := hrest .settings (by simp)
  refine ⟨hc, setting_configured hingest (halign.comp hrest) (by simp), ?_, ?_, hframe⟩
  · rw [source_of_ingest (hrest .ingest (by simp))]
    exact source_startSource (by omega) true _
  · rw [hrest .align (by simp), designatedImu_congr hset]
    exact designatedImu_congr (hingest .settings (by simp))

theorem encoderIsConfigured (h : Ready k 0x0406 s c) (hi : fld c.params 0 8 < 4) : Completes (.configEncoder k) s fun t =>
    Replied c stDone 0 [] s t ∧ setting t 0x0406 (fld c.params 0 8) = c.params ∧
      (source t (20 + fld c.params 0 8)).state = .absent ∧ ChangesOnly [.flight, .reply, .settings, .ingest] s t := by
  have hingest := (changesOnly_putEncoder (fld c.params 0 8) (fun (e : Encoder) =>
      { e with lastAccepted := none, edges := [], lastStep := 0 }) (putSetting 0x0406 (fld c.params 0 8) c.params s)).step
    (changesOnly_startSource (20 + fld c.params 0 8) true _)
  refine completes_done (m := [.flight, .reply, .settings, .ingest]) (work := fun c s =>
      startSource (20 + fld c.params 0 8) true (putEncoder (fld c.params 0 8) (fun (e : Encoder) =>
        { e with lastAccepted := none, edges := [], lastStep := 0 }) (putSetting 0x0406 (fld c.params 0 8) c.params s)))
    (exec_configEncoder k s) h (changesOnly_configured hingest) (by simp) (by simp) (by simp) (by simp)
    fun t hc hframe hrest => ?_
  refine ⟨hc, setting_configured hingest hrest (by simp), ?_, hframe⟩
  rw [source_of_ingest (hrest .ingest (by simp)), source_startSource (by omega)]
  rfl

theorem canIsConfigured (h : Ready k 0x0407 s c) (hn : fld c.params 0 8 < 2) : Completes (.configCan k) s fun t =>
    Concluded c stDone 0 [] s t ∧ setting t 0x0407 (fld c.params 0 8) = c.params ∧
      (source t (24 + fld c.params 0 8)).state = .absent ∧ (can t (fld c.params 0 8)).busOff = false ∧
      ChangesOnly [.flight, .settings, .ingest] s t := by
  have hingest := (changesOnly_modCan (fld c.params 0 8) (fun _ => default)
      (putSetting 0x0407 (fld c.params 0 8) c.params s)).step (changesOnly_startSource (24 + fld c.params 0 8) true _)
  refine completes_concluded (m := [.flight, .settings, .ingest]) (exec_configCan k s) h rfl (changesOnly_configured hingest)
    (by simp) (by simp) fun t hc hframe hrest => ?_
  refine ⟨hc, setting_configured hingest hrest (by simp), ?_, ?_, hframe⟩
  · rw [source_of_ingest (hrest .ingest (by simp)), source_startSource (by omega)]
    rfl
  · rw [can_of_ingest (hrest .ingest (by simp)), startSource_eq, can_modSource, can_modCan hn]
    rfl

end

/-- Settles O28: each load and each configuration by its lemma. -/
theorem ingestIsConfigured : Obligations.IngestIsConfigured := by
  unfold Obligations.IngestIsConfigured
  exact fun k c s => ⟨lidarTemplateIsLoaded, fun h hr => shadingTableIsLoaded h hr _ rfl, receiverIsConfigured, lidarIsBound,
    imuIsConfigured, encoderIsConfigured, canIsConfigured⟩

end Sys2Proof.Machine
end

section
/-! The pose at an instant (O29; R166, R167, R170). -/

namespace Sys2Proof.Machine

/-! ## Poses -/

section
variable {s : State} {n : PoseEntry} {rest : List PoseEntry} {t : Dts} (h : s.align.history = n :: rest)
include h

theorem poseFor_after (ht : n.time < t) : poseFor s t =
    if poseLimit s < t - n.time then (3, none) else (1, some (extrapolate s n t)) := by
  unfold poseFor
  rw [h]
  exact if_pos ht

theorem poseFor_before (ht : t < n.time) : poseFor s t = match bracket (n :: rest) t with
    | some (a, b) => if poseLimit s < b.time - a.time then (3, none) else (0, some (interpolate a b t))
    | none => (2, none) := by
  unfold poseFor
  rw [h]
  simp only [if_neg (Nat.lt_asymm ht), if_neg (Nat.ne_of_lt ht)] <;> rfl

end

/-- No two entries lie about an instant before them all. -/
theorem bracket_none {t : Dts} : ∀ l : List PoseEntry, (∀ e ∈ l, t < e.time) → bracket l t = none
  | [], _ => rfl
  | [_], _ => rfl
  | b :: a :: rest, h => by
    have ha : ¬ (a.time ≤ t ∧ t ≤ b.time) := fun hab => Nat.not_le.2 (h a (by simp)) hab.1
    rw [bracket, if_neg ha]
    exact bracket_none (a :: rest) fun e he => h e (List.mem_cons_of_mem b he)

/-- The larger of two deviations is one of them, and the younger where it is not smaller. -/
theorem interpolate_sigmaPos (a b : PoseEntry) (t : Dts) :
    (interpolate a b t).sigmaPos = (if (f16 a.sigmaPos).le (f16 b.sigmaPos) then b.sigmaPos else a.sigmaPos) % 2 ^ 16 := rfl

/-- Settles O29: beyond the newest entry, before the oldest, and between the two newest. -/
theorem posesAtAnyInstant : Obligations.PosesAtAnyInstant := by
  unfold Obligations.PosesAtAnyInstant
  intro s n rest t h
  refine ⟨fun hfar => ?_, fun hafter hnear => ?_, fun hall => ?_, fun a rest' hrest hat htn => ?_⟩
  · rw [poseFor_after h (Nat.lt_of_sub_pos (Nat.zero_lt_of_lt hfar)), if_pos hfar]
  · rw [poseFor_after h hafter, if_neg (Nat.not_lt.2 hnear)]
    exact ⟨_, rfl, rfl, rfl, rfl, rfl, rfl, rfl, rfl⟩
  · rw [poseFor_before h (hall n List.mem_cons_self), bracket_none _ hall]
  · have hbracket : bracket (n :: rest) t = some (a, n) := by
      rw [hrest, bracket, if_pos ⟨hat, Nat.le_of_lt htn⟩]
    rw [poseFor_before h htn, hbracket]
    refine ⟨fun hfar => if_pos hfar, fun hnear => ⟨interpolate a n t, if_neg (Nat.not_lt.2 hnear), rfl, rfl, rfl, ?_, fun hle => ?_⟩⟩
    · rw [interpolate_sigmaPos]
      split
      · exact .inr rfl
      · exact .inl rfl
    · rw [interpolate_sigmaPos, if_pos hle]

end Sys2Proof.Machine
end

section
/-! Votes (O31; R190, assumption 55): the sets of voters that agree pairwise, the largest of them, and the verdict. -/

namespace Sys2Proof.Machine

/-! ## The sets that agree -/

theorem mem_agreeSets {agree : Nat → Nat → Bool} {l : List Nat} : ∀ {g : List Nat},
    g ∈ agreeSets agree l ↔ g.Sublist l ∧ g.Pairwise fun a b => agree a b = true := by
  induction l with
  | nil =>
    intro g
    simp only [agreeSets, List.mem_singleton, List.sublist_nil]
    exact ⟨fun h => ⟨h, by rw [h]; exact .nil⟩, fun h => h.1⟩
  | cons v vs ih =>
    intro g
    simp only [agreeSets, List.mem_append, List.mem_map, List.mem_filter, List.all_eq_true, ih, List.sublist_cons_iff]
    constructor
    · rintro (⟨hsub, hpair⟩ | ⟨r, ⟨⟨hsub, hpair⟩, hall⟩, rfl⟩)
      · exact ⟨.inl hsub, hpair⟩
      · exact ⟨.inr ⟨r, rfl, hsub⟩, List.pairwise_cons.2 ⟨hall, hpair⟩⟩
    · rintro ⟨hsub | ⟨r, rfl, hsub⟩, hpair⟩
      · exact .inl ⟨hsub, hpair⟩
      · obtain ⟨hall, hpair⟩ := List.pairwise_cons.1 hpair
        exact .inr ⟨r, ⟨⟨hsub, hpair⟩, hall⟩, rfl⟩

theorem nodup_agreeSets (agree : Nat → Nat → Bool) : ∀ {l : List Nat}, l.Nodup → (agreeSets agree l).Nodup
  | [], _ => by simp [agreeSets]
  | v :: vs, h => by
    obtain ⟨hv, hvs⟩ := List.nodup_cons.1 h
    have hrest := nodup_agreeSets agree hvs
    refine hrest.append ((hrest.filter _).map fun a b hab => List.tail_eq_of_cons_eq hab) fun g hg hmap => ?_
    obtain ⟨r, -, rfl⟩ := List.mem_map.1 hmap
    exact hv ((mem_agreeSets.1 hg).1.subset List.mem_cons_self)

/-- A sublist of a list without repetition is what the list keeps of the sublist's members. -/
theorem sublist_eq_filter {l g : List Nat} (h : g.Sublist l) (hl : l.Nodup) : g = l.filter fun x => decide (x ∈ g) := by
  induction h with
  | slnil => rfl
  | @cons g l a hg ih =>
    obtain ⟨ha, hl⟩ := List.nodup_cons.1 hl
    rw [List.filter_cons_of_neg (by simpa using fun hag => ha (hg.subset hag)), ← ih hl]
  | @cons_cons g l a hg ih =>
    obtain ⟨ha, hl⟩ := List.nodup_cons.1 hl
    rw [List.filter_cons_of_pos (by simp)]
    refine congrArg (a :: ·) ((ih hl).trans (List.filter_congr fun x hx => ?_))
    have hxa : x ≠ a := fun h => ha (h ▸ hx)
    simp [hxa]

/-- Sublists of a list without repetition are equal once they have the same members. -/
theorem sublist_eq_of_subset {l g h : List Nat} (hl : l.Nodup) (hg : g.Sublist l) (hh : h.Sublist l) (hgh : g ⊆ h)
    (hlen : h.length ≤ g.length) : g = h := by
  have hperm : g.Perm h := (List.Nodup.subperm (hl.sublist hg) hgh).perm_of_length_le hlen
  rw [sublist_eq_filter hg hl, sublist_eq_filter hh hl]
  exact List.filter_congr fun x _ => decide_eq_decide.2 hperm.mem_iff

theorem mem_maximalSets {l : List (List Nat)} {g : List Nat} :
    g ∈ maximalSets l ↔ g ∈ l ∧ ∀ h ∈ l, g ⊆ h → h.length ≤ g.length := by
  unfold maximalSets
  rw [List.mem_filter]
  refine and_congr_right fun _ => ?_
  simp only [Bool.not_eq_true', List.any_eq_false, Bool.and_eq_true, decide_eq_true_eq, List.all_eq_true,
    List.contains_iff_mem, not_and']
  exact forall₂_congr fun h _ => imp_congr Iff.rfl Nat.not_lt

/-- Every set lies in a largest one. -/
theorem exists_maximal {l : List (List Nat)} {n : Nat} (hn : ∀ g ∈ l, g.length ≤ n) {g : List Nat} (hg : g ∈ l) :
    ∃ h ∈ maximalSets l, g ⊆ h ∧ g.length ≤ h.length := by
  obtain ⟨k, hk⟩ : ∃ k, n - g.length = k := ⟨_, rfl⟩
  induction k using Nat.strong_induction_on generalizing g with
  | _ k ih =>
    by_cases hmax : g ∈ maximalSets l
    · exact ⟨g, hmax, List.Subset.refl g, le_refl _⟩
    · have hlarger : ∃ h ∈ l, g ⊆ h ∧ g.length < h.length := by
        by_contra hno
        push Not at hno
        exact hmax (mem_maximalSets.2 ⟨hg, hno⟩)
      obtain ⟨h, hh, hsub, hlen⟩ := hlarger
      have hbound := hn h hh
      obtain ⟨m, hm, hhm, hlen'⟩ := ih (n - h.length) (by omega) hh rfl
      exact ⟨m, hm, fun x hx => hhm (hsub hx), by omega⟩

/-! ## The vote -/

section
variable (agree : Nat → Nat → Bool) (present : List Nat)

/-- A set of pairwise agreeing voters that is more than half of the present ones. -/
def MajoritySet (g : List Nat) : Prop :=
  g.Sublist present ∧ g.Pairwise (fun a b => agree a b = true) ∧ present.length < 2 * g.length

/-- The largest such sets. -/
def votingGroups : List (List Nat) :=
  (maximalSets (agreeSets agree present)).filter fun g => decide (present.length < 2 * g.length)

theorem vote_eq (h : 2 ≤ present.length) : vote agree present =
    match votingGroups agree present with
    | [] => (.contested, [])
    | [g] => (.majority, present.filter (fun v => !g.contains v))
    | _ => (.ambiguous, []) := by
  unfold vote
  rw [if_neg (Nat.not_lt.2 h)]
  rfl

variable {agree present}

theorem mem_votingGroups {g : List Nat} : g ∈ votingGroups agree present ↔
    MajoritySet agree present g ∧ ∀ h, MajoritySet agree present h → g ⊆ h → h.length ≤ g.length := by
  unfold votingGroups MajoritySet
  rw [List.mem_filter, mem_maximalSets, mem_agreeSets, decide_eq_true_eq]
  constructor
  · rintro ⟨⟨⟨hsub, hpair⟩, hmax⟩, hbig⟩
    exact ⟨⟨hsub, hpair, hbig⟩, fun h hh => hmax h (mem_agreeSets.2 ⟨hh.1, hh.2.1⟩)⟩
  · rintro ⟨⟨hsub, hpair, hbig⟩, hmax⟩
    refine ⟨⟨⟨hsub, hpair⟩, fun h hh hgh => ?_⟩, hbig⟩
    obtain ⟨hs, hp⟩ := mem_agreeSets.1 hh
    by_contra hlen
    exact hlen (hmax h ⟨hs, hp, by omega⟩ hgh)

/-- Every majority set lies in a voting group. -/
theorem exists_votingGroup {g : List Nat} (hg : MajoritySet agree present g) :
    ∃ h ∈ votingGroups agree present, g ⊆ h := by
  obtain ⟨hsub, hpair, hbig⟩ := hg
  obtain ⟨h, hh, hgh, hlen⟩ := exists_maximal (l := agreeSets agree present) (n := present.length)
    (fun x hx => (mem_agreeSets.1 hx).1.length_le) (mem_agreeSets.2 ⟨hsub, hpair⟩)
  exact ⟨h, List.mem_filter.2 ⟨hh, decide_eq_true (by omega)⟩, hgh⟩

theorem votingGroups_eq_nil_iff : votingGroups agree present = [] ↔ ∀ g, ¬ MajoritySet agree present g := by
  constructor
  · intro h g hg
    obtain ⟨m, hm, -⟩ := exists_votingGroup hg
    rw [h] at hm
    exact absurd hm (by simp)
  · exact fun h => List.eq_nil_iff_forall_not_mem.2 fun g hg => h g (mem_votingGroups.1 hg).1

/-- Of two voting groups neither holds the other. -/
theorem votingGroups_apart (hp : present.Nodup) {g h : List Nat} (hg : g ∈ votingGroups agree present)
    (hh : h ∈ votingGroups agree present) (hne : g ≠ h) : ¬ g ⊆ h := fun hsub => by
  obtain ⟨hgbig, hgmax⟩ := mem_votingGroups.1 hg
  have hhbig := (mem_votingGroups.1 hh).1
  exact hne (sublist_eq_of_subset hp hgbig.1 hhbig.1 hsub (hgmax h hhbig hsub))

end

/-- Settles O31: the verdict is read from the number of the largest majority sets. -/
theorem votesFollowTheProcedure : Obligations.VotesFollowTheProcedure := by
  unfold Obligations.VotesFollowTheProcedure
  intro agree present hp hsym
  refine ⟨fun h => by rw [vote, if_pos h], fun h2 => ?_⟩
  have hvote := vote_eq agree present h2
  have hnil := votingGroups_eq_nil_iff (agree := agree) (present := present)
  have hnodup : (votingGroups agree present).Nodup := ((nodup_agreeSets agree hp).filter _).filter _
  have hmem := fun g (hg : g ∈ votingGroups agree present) => (mem_votingGroups.1 hg).1
  have hhold := fun g (hg : MajoritySet agree present g) => exists_votingGroup hg
  have hapart := fun g h (hg : g ∈ votingGroups agree present) (hh : h ∈ votingGroups agree present) =>
    votingGroups_apart hp hg hh
  match hgroups : votingGroups agree present with
  | [] =>
    rw [hgroups] at hvote
    rw [hvote]
    exact ⟨⟨fun _ => rfl, fun _ => hnil.1 hgroups⟩, nofun, nofun⟩
  | [g] =>
    rw [hgroups] at hvote hmem hhold
    rw [hvote]
    refine ⟨⟨fun hno => absurd (hmem g (by simp)) (hno g), nofun⟩, fun out hout => ?_, nofun⟩
    obtain rfl := (Prod.mk.inj hout).2
    refine ⟨g, hmem g (by simp), rfl, fun h hh => ?_⟩
    obtain ⟨m, hm, hsub⟩ := hhold h hh
    rwa [List.mem_singleton.1 hm] at hsub
  | g :: h :: rest =>
    rw [hgroups] at hvote hmem hnodup hapart
    rw [hvote]
    have hne : g ≠ h := fun heq => (List.nodup_cons.1 hnodup).1 (heq ▸ List.mem_cons_self)
    refine ⟨⟨fun hno => absurd (hmem g (by simp)) (hno g), nofun⟩, nofun, fun out _ =>
      ⟨g, h, hmem g (by simp), hmem h (by simp), hapart g h (by simp) (by simp) hne, hapart h g (by simp) (by simp) hne.symm⟩⟩

end Sys2Proof.Machine
end

section
/-! The insertion of a point into the voxel table (O33; R204, R207, assumption 61). -/

namespace Sys2Proof.Machine

/-! ## The bucket of a key -/

/-- The bucket of a voxel. -/
def voxelBucket (s : State) (v : VoxelIndex) : Nat := bucketOf 65536 (keyX s v) (keyY s v) v.kz.toNat

/-- An entry holds a voxel's key. -/
def holdsKey (s : State) (v : VoxelIndex) (e : Voxel) : Bool :=
  e.bucket == voxelBucket s v && e.keyX == keyX s v && e.keyY == keyY s v && e.keyZ == v.kz.toNat

/-- The same as a proposition. -/
def Holds (s : State) (v : VoxelIndex) (e : Voxel) : Prop :=
  e.bucket = voxelBucket s v ∧ e.keyX = keyX s v ∧ e.keyY = keyY s v ∧ e.keyZ = v.kz.toNat

theorem holdsKey_iff {s : State} {v : VoxelIndex} {e : Voxel} : holdsKey s v e = true ↔ Holds s v e := by
  simp [holdsKey, Holds, and_assoc]

/-- The entries of a bucket. -/
def bucketEntries (b : Nat) (table : List Voxel) : List Voxel := table.filter fun e => e.bucket == b

/-- The lowest free way of a bucket. -/
def freeWay (b : Nat) (table : List Voxel) : Option Nat :=
  (List.range 4).find? fun w => !(bucketEntries b table).any fun e => e.way == w

theorem any_bucketEntries (b w : Nat) (table : List Voxel) :
    ((bucketEntries b table).any fun e => e.way == w) = true ↔ ∃ e ∈ table, e.bucket = b ∧ e.way = w := by
  simp [bucketEntries]

theorem any_holdsKey {s : State} {v : VoxelIndex} {table : List Voxel} :
    (bucketEntries (voxelBucket s v) table).any (holdsKey s v) = true ↔ ∃ e ∈ table, Holds s v e := by
  rw [List.any_eq_true]
  constructor
  · rintro ⟨e, he, hh⟩
    exact ⟨e, (List.mem_filter.1 he).1, holdsKey_iff.1 hh⟩
  · rintro ⟨e, he, hh⟩
    exact ⟨e, List.mem_filter.2 ⟨he, by rw [hh.1]; exact BEq.rfl⟩, holdsKey_iff.2 hh⟩

theorem freeWay_none {b : Nat} {table : List Voxel} (h : ∀ w, w < 4 → ∃ e ∈ table, e.bucket = b ∧ e.way = w) :
    freeWay b table = none := by
  refine List.find?_eq_none.2 fun w hw => ?_
  rw [(any_bucketEntries b w table).2 (h w (List.mem_range.1 hw))]
  exact Bool.false_ne_true

/-- A bucket with a free way has a lowest one. -/
theorem freeWay_some {b : Nat} {table : List Voxel} (h : ∃ w, w < 4 ∧ ∀ e ∈ table, e.bucket = b → e.way ≠ w) :
    ∃ w, freeWay b table = some w ∧ w < 4 ∧ (∀ e ∈ table, e.bucket = b → e.way ≠ w) ∧
      ∀ w', w' < w → ∃ e ∈ table, e.bucket = b ∧ e.way = w' := by
  obtain ⟨w, hw, hfree⟩ := h
  cases hfind : freeWay b table with
  | none =>
    have hall := List.find?_eq_none.1 hfind w (List.mem_range.2 hw)
    rw [Bool.not_eq_true, Bool.not_eq_false', any_bucketEntries] at hall
    obtain ⟨e, he, hb, hway⟩ := hall
    exact absurd hway (hfree e he hb)
  | some w' =>
    obtain ⟨hgood, as, bs, hsplit, hbefore⟩ := List.find?_eq_some_iff_append.1 hfind
    have hlt : w' < 4 := List.mem_range.1 (by rw [hsplit]; simp)
    have has : ∀ x, x < w' → x ∈ as := fun x hx => by
      have hlen : as.length = w' := by
        have hget := congrArg (fun l => l[as.length]?) hsplit
        have hltlen : as.length < 4 := by
          have := congrArg List.length hsplit
          simp at this
          omega
        simpa [List.getElem?_range hltlen] using hget
      have hget := congrArg (fun l => l[x]?) hsplit
      simp only [List.getElem?_range (Nat.lt_trans hx hlt), List.getElem?_append_left (hlen ▸ hx)] at hget
      exact List.mem_of_getElem? hget.symm
    refine ⟨w', rfl, hlt, fun e he hb hway => ?_, fun x hx => ?_⟩
    · rw [(any_bucketEntries b w' table).2 ⟨e, he, hb, hway⟩] at hgood
      exact absurd hgood Bool.false_ne_true
    · have hbad := hbefore x (has x hx)
      rw [Bool.not_not, any_bucketEntries] at hbad
      exact hbad

/-! ## The procedure -/

/-- An entry that a point of its key meets. -/
def mergedEntry (s : State) (t : Take) (a : TakeFold) (p : DeskPoint) (e : Voxel) : Voxel :=
  if keepsPoint a p e then keepIn s t p { e with hits := min (e.hits + 1) 255 } else { e with hits := min (e.hits + 1) 255 }

/-- A point that its bucket drops. -/
def bucketDrop (s : State) (a : TakeFold) (p : DeskPoint) (v : VoxelIndex) : TakeFold :=
  (a.count p.lidar (fun c => { c with bucketDropped := bump c.bucketDropped })).truncate (keySlot s (keyX s v) (keyY s v))

/-- The entry of a point in a way of its bucket. -/
def newEntry (s : State) (t : Take) (p : DeskPoint) (v : VoxelIndex) (w : Nat) : Voxel :=
  keepIn s t p { (default : Voxel) with
    bucket := voxelBucket s v, way := w, near := p.near, keyX := keyX s v, keyY := keyY s v, keyZ := v.kz.toNat, hits := 1 }

/-- The insertion of a point, question by question. -/
theorem insertPoint_eq (s : State) (t : Take) (a : TakeFold) (p : DeskPoint) : insertPoint s t a p =
    if outside s t (voxelIndex s t p) then a.count p.lidar (fun c => { c with outside := bump c.outside })
    else if pointMarked s 4 (voxelBucket s (voxelIndex s t p)) then bucketDrop s a p (voxelIndex s t p)
    else if (bucketEntries (voxelBucket s (voxelIndex s t p)) a.table).any (holdsKey s (voxelIndex s t p)) then
      { a with table := a.table.map fun e =>
          if holdsKey s (voxelIndex s t p) e then mergedEntry s t a p e else e }.count p.lidar
        (fun c => { c with merged := bump c.merged })
    else match freeWay (voxelBucket s (voxelIndex s t p)) a.table with
      | none => bucketDrop s a p (voxelIndex s t p)
      | some w =>
        if !p.near && decide (262144 - nearEntries s ≤ a.far) then
          (a.count p.lidar (fun c => { c with quotaDropped := bump c.quotaDropped })).truncate
            (keySlot s (keyX s (voxelIndex s t p)) (keyY s (voxelIndex s t p)))
        else
          { a with
            table := a.table ++ [newEntry s t p (voxelIndex s t p) w], near := a.near + flag p.near,
            far := a.far + flag (!p.near) } := rfl

theorem truncate_table (slot : Nat) (a : TakeFold) : (a.truncate slot).table = a.table := by
  unfold TakeFold.truncate
  split <;> rfl

theorem truncate_lidars (slot : Nat) (a : TakeFold) : (a.truncate slot).lidars = a.lidars := by
  unfold TakeFold.truncate
  split <;> rfl

theorem mem_truncate (slot : Nat) (a : TakeFold) : slot ∈ (a.truncate slot).truncated := by
  unfold TakeFold.truncate
  split
  next h => exact List.contains_iff_mem.1 h
  · simp

theorem lidars_count {l : Nat} (hl : l < 8) (f : LidarCounters → LidarCounters) (a : TakeFold) :
    vget (a.count l f).lidars l = f (vget a.lidars l) := vget_vmod_same _ _ hl

theorem mergedEntry_keeps (s : State) (t : Take) (a : TakeFold) (p : DeskPoint) (e : Voxel) :
    (mergedEntry s t a p e).bucket = e.bucket ∧ (mergedEntry s t a p e).keyX = e.keyX ∧
    (mergedEntry s t a p e).keyY = e.keyY ∧ (mergedEntry s t a p e).keyZ = e.keyZ ∧
    (mergedEntry s t a p e).hits = min (e.hits + 1) 255 ∧ (mergedEntry s t a p e).near = e.near := by
  unfold mergedEntry
  split <;> exact ⟨rfl, rfl, rfl, rfl, rfl, rfl⟩

section
variable {s : State} {t : Take} {a : TakeFold} {p : DeskPoint} {e : Voxel}

theorem mergedEntry_taken (h : keepsPoint a p e = true) : (mergedEntry s t a p e).scanIndex = p.scanIndex ∧
    (mergedEntry s t a p e).posX = p.x ∧ (mergedEntry s t a p e).lidar = p.lidar := by
  rw [mergedEntry, if_pos h]
  exact ⟨rfl, rfl, rfl⟩

theorem mergedEntry_stood (h : keepsPoint a p e = false) : (mergedEntry s t a p e).scanIndex = e.scanIndex ∧
    (mergedEntry s t a p e).posX = e.posX ∧ (mergedEntry s t a p e).lidar = e.lidar := by
  rw [mergedEntry, if_neg (by rw [h]; exact Bool.false_ne_true)]
  exact ⟨rfl, rfl, rfl⟩

/-- Points of one sweep: the first in scan order is kept. -/
theorem keepsPoint_same (h : p.lidar = e.lidar) : keepsPoint a p e = decide (p.scanIndex < e.scanIndex) := by
  simp [keepsPoint, h]

/-- Points of two sweeps: the newer sweep's is kept. -/
theorem keepsPoint_other (h : p.lidar ≠ e.lidar) : keepsPoint a p e =
    (decide (lookupD a.mus e.lidar 0 < p.mu) || (p.mu == lookupD a.mus e.lidar 0 && decide (p.lidar < e.lidar))) := by
  simp [keepsPoint, h]

theorem droppedPoint (hl : p.lidar < 8) (v : VoxelIndex) : (bucketDrop s a p v).table = a.table ∧
    vget (bucketDrop s a p v).lidars p.lidar =
      { vget a.lidars p.lidar with bucketDropped := bump (vget a.lidars p.lidar).bucketDropped } ∧
    keySlot s (keyX s v) (keyY s v) ∈ (bucketDrop s a p v).truncated := by
  unfold bucketDrop
  rw [truncate_table, truncate_lidars, lidars_count hl]
  exact ⟨rfl, rfl, mem_truncate _ _⟩

end

section
variable {s : State} {t : Take} {a : TakeFold} {p : DeskPoint}

theorem outsidePoint (hl : p.lidar < 8) (hout : outside s t (voxelIndex s t p) = true) :
    (insertPoint s t a p).table = a.table ∧
    vget (insertPoint s t a p).lidars p.lidar =
      { vget a.lidars p.lidar with outside := bump (vget a.lidars p.lidar).outside } ∧
    (insertPoint s t a p).truncated = a.truncated := by
  rw [insertPoint_eq, if_pos hout, lidars_count hl]
  exact ⟨rfl, rfl, rfl⟩

variable (hin : outside s t (voxelIndex s t p) = false)
include hin

theorem insertPoint_drops (hdrop : pointMarked s 4 (voxelBucket s (voxelIndex s t p)) = true ∨
    (¬ (∃ e ∈ a.table, Holds s (voxelIndex s t p) e) ∧
      ∀ w, w < 4 → ∃ e ∈ a.table, e.bucket = voxelBucket s (voxelIndex s t p) ∧ e.way = w)) :
    insertPoint s t a p = bucketDrop s a p (voxelIndex s t p) := by
  rw [insertPoint_eq, if_neg (by rw [hin]; exact Bool.false_ne_true)]
  rcases hdrop with hmarked | ⟨hnone, hfull⟩
  · rw [if_pos hmarked]
  · rw [if_neg (mt any_holdsKey.1 hnone), freeWay_none hfull]
    exact ite_self _

theorem insertPoint_merges (hunmarked : pointMarked s 4 (voxelBucket s (voxelIndex s t p)) = false)
    (hheld : ∃ e ∈ a.table, Holds s (voxelIndex s t p) e) : insertPoint s t a p =
      { a with table := a.table.map fun e =>
          if holdsKey s (voxelIndex s t p) e then mergedEntry s t a p e else e }.count p.lidar
        (fun c => { c with merged := bump c.merged }) := by
  rw [insertPoint_eq, if_neg (by rw [hin]; exact Bool.false_ne_true),
    if_neg (by rw [hunmarked]; exact Bool.false_ne_true), if_pos (any_holdsKey.2 hheld)]

theorem insertPoint_enters (hunmarked : pointMarked s 4 (voxelBucket s (voxelIndex s t p)) = false)
    (hnone : ¬ ∃ e ∈ a.table, Holds s (voxelIndex s t p) e) {w : Nat}
    (hw : freeWay (voxelBucket s (voxelIndex s t p)) a.table = some w) : insertPoint s t a p =
      if !p.near && decide (262144 - nearEntries s ≤ a.far) then
        (a.count p.lidar (fun c => { c with quotaDropped := bump c.quotaDropped })).truncate
          (keySlot s (keyX s (voxelIndex s t p)) (keyY s (voxelIndex s t p)))
      else
        { a with
          table := a.table ++ [newEntry s t p (voxelIndex s t p) w], near := a.near + flag p.near,
          far := a.far + flag (!p.near) } := by
  rw [insertPoint_eq, if_neg (by rw [hin]; exact Bool.false_ne_true),
    if_neg (by rw [hunmarked]; exact Bool.false_ne_true), if_neg (mt any_holdsKey.1 hnone)]
  simp only [hw]

theorem mergedPoint (hl : p.lidar < 8) (hunmarked : pointMarked s 4 (voxelBucket s (voxelIndex s t p)) = false)
    (hheld : ∃ e ∈ a.table, Holds s (voxelIndex s t p) e) :
    vget (insertPoint s t a p).lidars p.lidar =
      { vget a.lidars p.lidar with merged := bump (vget a.lidars p.lidar).merged } ∧
    (insertPoint s t a p).table.length = a.table.length ∧ (insertPoint s t a p).near = a.near ∧
    (insertPoint s t a p).far = a.far ∧ ∀ e ∈ a.table,
      (¬ Holds s (voxelIndex s t p) e → e ∈ (insertPoint s t a p).table) ∧
      (Holds s (voxelIndex s t p) e → ∃ e' ∈ (insertPoint s t a p).table, Holds s (voxelIndex s t p) e' ∧
        e'.hits = min (e.hits + 1) 255 ∧ e'.near = e.near ∧
        (p.lidar = e.lidar → p.scanIndex < e.scanIndex → e'.scanIndex = p.scanIndex ∧ e'.posX = p.x) ∧
        (p.lidar = e.lidar → e.scanIndex ≤ p.scanIndex → e'.scanIndex = e.scanIndex ∧ e'.posX = e.posX) ∧
        (p.lidar ≠ e.lidar → lookupD a.mus e.lidar 0 < p.mu → e'.lidar = p.lidar ∧ e'.posX = p.x) ∧
        (p.lidar ≠ e.lidar → p.mu < lookupD a.mus e.lidar 0 → e'.lidar = e.lidar ∧ e'.posX = e.posX)) := by
  rw [insertPoint_merges hin hunmarked hheld, lidars_count hl]
  refine ⟨rfl, List.length_map _, rfl, rfl, fun e he => ⟨fun hno => ?_, fun hyes => ?_⟩⟩
  · exact List.mem_map.2 ⟨e, he, if_neg (mt holdsKey_iff.1 hno)⟩
  · obtain ⟨hb, hx, hy, hz, hhits, hnear⟩ := mergedEntry_keeps s t a p e
    refine ⟨mergedEntry s t a p e, List.mem_map.2 ⟨e, he, if_pos (holdsKey_iff.2 hyes)⟩, ?_, hhits, hnear,
      fun hsame hlt => ?_, fun hsame hle => ?_, fun hother hlt => ?_, fun hother hlt => ?_⟩
    · obtain ⟨eb, ex, ey, ez⟩ := hyes
      exact ⟨hb.trans eb, hx.trans ex, hy.trans ey, hz.trans ez⟩
    · obtain ⟨hscan, hpos, -⟩ := mergedEntry_taken (s := s) (t := t)
        ((keepsPoint_same (a := a) hsame).trans (decide_eq_true hlt))
      exact ⟨hscan, hpos⟩
    · obtain ⟨hscan, hpos, -⟩ := mergedEntry_stood (s := s) (t := t)
        ((keepsPoint_same (a := a) hsame).trans (decide_eq_false (Nat.not_lt.2 hle)))
      exact ⟨hscan, hpos⟩
    · obtain ⟨-, hpos, hlidar⟩ := mergedEntry_taken (s := s) (t := t)
        ((keepsPoint_other (a := a) hother).trans (by rw [decide_eq_true hlt]; rfl))
      exact ⟨hlidar, hpos⟩
    · obtain ⟨-, hpos, hlidar⟩ := mergedEntry_stood (s := s) (t := t)
        ((keepsPoint_other (a := a) hother).trans (by simp [Nat.le_of_lt hlt, Nat.ne_of_lt hlt]))
      exact ⟨hlidar, hpos⟩

end

/-- Settles O33: each question of the procedure by its case. -/
theorem voxelInsertionFollowsTheProcedure : Obligations.VoxelInsertionFollowsTheProcedure := by
  unfold Obligations.VoxelInsertionFollowsTheProcedure
  refine fun s t a p hl => ⟨outsidePoint hl, fun hin => ⟨fun hdrop => ?_, mergedPoint hin hl, fun hunmarked hnone hfree => ?_⟩⟩
  · rw [insertPoint_drops hin hdrop]
    exact droppedPoint hl _
  · obtain ⟨w, hway, hw4, hwfree, hwlow⟩ := freeWay_some hfree
    rw [insertPoint_enters hin hunmarked hnone hway]
    refine ⟨fun hfar hquota => ?_, fun hroom => ?_⟩
    · rw [if_pos (by simp [hfar, hquota]), truncate_table, truncate_lidars, lidars_count hl]
      exact ⟨rfl, rfl, mem_truncate _ _⟩
    · have hgo : ¬ (!p.near && decide (262144 - nearEntries s ≤ a.far)) = true := by
        rcases hroom with h | h
        · simp [h]
        · rw [decide_eq_false (Nat.not_le.2 h), Bool.and_false]
          exact Bool.false_ne_true
      rw [if_neg hgo]
      exact ⟨rfl, rfl, rfl, rfl, newEntry s t p _ w, rfl, ⟨rfl, rfl, rfl, rfl⟩, rfl, rfl, hw4, hwfree, hwlow⟩

end Sys2Proof.Machine
end

section
/-! SUPPORT. Dyadic numbers in order, sorted lists, and frames that are given up (R24, R461, R463). -/

namespace Sys2Proof.Machine

/-! ## Dyadic numbers in order -/

/-- The value of a dyadic number. -/
def dyVal (d : Dy) : Rat := (d.n : Rat) * (2 : Rat) ^ d.e

/-- Two dyadics over the smaller exponent have their values over its power. -/
theorem align_val (a b : Dy) : ((a.align b).1 : Rat) * (2 : Rat) ^ min a.e b.e = dyVal a ∧
    ((a.align b).2.1 : Rat) * (2 : Rat) ^ min a.e b.e = dyVal b := by
  have hone : ∀ (n x e : Int), e ≤ x → ((n * 2 ^ (x - e).toNat : Int) : Rat) * (2 : Rat) ^ e = (n : Rat) * (2 : Rat) ^ x := by
    intro n x e h
    have hpow : ((2 : Rat) ^ (x - e).toNat) = (2 : Rat) ^ (x - e) := by
      rw [← zpow_natCast, Int.toNat_of_nonneg (by omega)]
    push_cast
    rw [hpow, mul_assoc, ← zpow_add₀ (by norm_num)]
    congr 2
    omega
  exact ⟨hone a.n a.e _ (min_le_left _ _), hone b.n b.e _ (min_le_right _ _)⟩

theorem dy_le_iff (a b : Dy) : a.le b = true ↔ dyVal a ≤ dyVal b := by
  obtain ⟨ha, hb⟩ := align_val a b
  rw [← ha, ← hb, mul_le_mul_iff_left₀ (by positivity), Int.cast_le]
  exact decide_eq_true_iff

theorem dy_lt_iff (a b : Dy) : a.lt b = true ↔ dyVal a < dyVal b := by
  obtain ⟨ha, hb⟩ := align_val a b
  rw [← ha, ← hb, mul_lt_mul_iff_left₀ (by positivity), Int.cast_lt]
  exact decide_eq_true_iff

theorem dy_eq_iff (a b : Dy) : a.eq b = true ↔ dyVal a = dyVal b := by
  obtain ⟨ha, hb⟩ := align_val a b
  rw [← ha, ← hb, mul_left_inj' (by positivity), Int.cast_inj]
  exact beq_iff_eq

/-! ## Sorted lists -/

/-- A sorted list is in an order that the comparison decides between any two. -/
theorem pairwise_sortBy {α : Type} {le : α → α → Bool} {R : α → α → Prop} (htrans : ∀ {a b c}, R a b → R b c → R a c)
    (hyes : ∀ {a b}, le a b = true → R a b) (hno : ∀ {a b}, ¬ le a b = true → R b a) (l : List α) :
    (l.sortBy le).Pairwise R := by
  have hinsert : ∀ (x : α) (m : List α), m.Pairwise R → (List.insertBy le x m).Pairwise R := by
    intro x m
    induction m with
    | nil => exact fun _ => List.pairwise_singleton R x
    | cons a m ih =>
      intro hm
      obtain ⟨ha, hm'⟩ := List.pairwise_cons.1 hm
      rw [List.insertBy]
      split
      case isTrue h =>
        exact List.pairwise_cons.2 ⟨fun y hy => by
          rcases List.mem_cons.1 hy with rfl | hy
          · exact hyes h
          · exact htrans (hyes h) (ha y hy), hm⟩
      case isFalse h =>
        refine List.pairwise_cons.2 ⟨fun y hy => ?_, ih hm'⟩
        rcases List.mem_cons.1 ((List.insertBy_perm le x m).mem_iff.1 hy) with rfl | hy
        · exact hno h
        · exact ha y hy
  induction l with
  | nil => exact .nil
  | cons a l ih => exact hinsert a _ ih

/-! ## Frames given up -/

theorem changesOnly_modSet (n : Nat) (f : FusionSet → FusionSet) (s : State) : ChangesOnly [.align] s (modSet n f s) := by
  rw [changesOnly_iff]
  simp [Part.same, modSet]

theorem changesOnly_modCounters (f : RinkCounters → RinkCounters) (s : State) : ChangesOnly [.rink] s (modCounters f s) := by
  rw [changesOnly_iff]
  simp [Part.same, modCounters]

theorem changesOnly_modGate (g : Nat) (f : Gate → Gate) (s : State) : ChangesOnly [.safety] s (modGate g f s) := by
  rw [changesOnly_iff]
  simp [Part.same, modGate]

theorem changesOnly_releaseSlots (cams : List (Nat × Nat)) (s : State) : ChangesOnly [.ingest] s (releaseSlots cams s) := by
  unfold releaseSlots
  exact changesOnly_foldl (fun t c => changesOnly_modReceiver _ _ t) _ _

theorem changesOnly_dropFromArray (n : Nat) (s : State) : ChangesOnly [.rink] s (dropFromArray n s) := by
  unfold dropFromArray
  split
  · exact changesOnly_ite (fun _ => (changesOnly_modRink _ s).step (changesOnly_modRink _ _)) fun _ => .refl _ s
  · exact .refl _ s

/-- The point engines without a frame's takes. -/
def takesDropped (n : Nat) (p : PointState) : PointState :=
  { p with
    current := p.current.filter fun x => x.frame != n, waiting := p.waiting.filter fun t => t.frame != n,
    books := if p.current.any fun t => t.frame == n then [] else p.books }

theorem takesDropped_none {n : Nat} {p : PointState} (h : p.current = none) :
    takesDropped n p = { p with waiting := p.waiting.filter fun t => t.frame != n } := by
  cases p
  simp only at h
  subst h
  rfl

/-- Glide without a frame's detections. -/
def detectionsDropped (n : Nat) (g : Glide) : Glide :=
  { g with
    arriving := g.arriving.filter fun d => d.frame != n, pending := g.pending.filter fun u => u.worker.isSome || u.frame != n }

theorem dropWork_eq (n : Nat) (s : State) : dropWork n s = dropFromArray n (modGlide (detectionsDropped n)
    (modPoint (takesDropped n) (modRink (fun r => { r with waitingFrame := r.waitingFrame.filter fun w => w != n }) s))) := rfl

theorem changesOnly_dropWork (n : Nat) (s : State) : ChangesOnly [.rink, .point, .glide] s (dropWork n s) := by
  rw [dropWork_eq]
  exact ((changesOnly_modRink _ s).comp ((changesOnly_modPoint _ _).comp ((changesOnly_modGlide _ _).comp
    (changesOnly_dropFromArray n _)))).mono (by simp)

theorem point_dropWork (n : Nat) (s : State) : (dropWork n s).point = takesDropped n s.point := by
  rw [dropWork_eq]
  exact changesOnly_dropFromArray n _ .point (by simp)

/-- A frame given up after the work that it had is dropped. -/
def frameGivenUp (n : Nat) (f : FusionSet) (s : State) : State :=
  modCounters (fun c => { c with skippedFrames := bump c.skippedFrames })
    (disarmFrame n (releaseSlots f.cameras (modSet n (fun x => { x with skipped := true }) (dropWork n s))))

theorem skipFrame_eq (n : Nat) (s : State) : skipFrame n s = match setOf s n with
    | some f => if f.skipped then s else frameGivenUp n f s
    | none => s := rfl

theorem frameGivenUp_dropped (n : Nat) (f : FusionSet) (s : State) :
    ChangesOnly [.align, .ingest, .safety, .rink] (dropWork n s) (frameGivenUp n f s) :=
  ((changesOnly_modSet n _ _).comp ((changesOnly_releaseSlots f.cameras _).comp
    ((changesOnly_modSafety _ _).comp (changesOnly_modCounters _ _)))).mono (by simp)

theorem changesOnly_skipFrame (n : Nat) (s : State) :
    ChangesOnly [.rink, .point, .glide, .align, .ingest, .safety] s (skipFrame n s) := by
  rw [skipFrame_eq]
  split
  · exact changesOnly_ite (fun _ => .refl _ s)
      fun _ => ((changesOnly_dropWork n s).comp (frameGivenUp_dropped n _ s)).mono (by simp)
  · exact .refl _ s

/-- A frame given up after its take has been delivered leaves the point engines but for the takes that wait. -/
theorem point_skipFrame {n : Nat} {s : State} (h : s.point.current = none) :
    ∃ w, (skipFrame n s).point = { s.point with waiting := w } := by
  rw [skipFrame_eq]
  split
  case h_1 f _ =>
    split
    · exact ⟨s.point.waiting, rfl⟩
    · refine ⟨s.point.waiting.filter fun t => t.frame != n, ?_⟩
      rw [frameGivenUp_dropped n f s .point (by simp), point_dropWork, takesDropped_none h]
  · exact ⟨s.point.waiting, rfl⟩

/-! ## Gates (R463) -/

theorem changesOnly_closeWindowOf (g key : Nat) (s : State) : ChangesOnly [.safety] s (closeWindowOf g key s) :=
  changesOnly_modGate g _ s

/-- A Gate that has missed its kick, before the frame is given up. -/
def missReported (g key : Nat) (s : State) : State :=
  report (safetyFault 1 g) 0 4 .uc 0 (modGate g (fun (x : Gate) =>
    { x with misses := bump x.misses, consecutive := x.consecutive + 1 }) (closeWindowOf g key s))

theorem gateMissed_eq (g key : Nat) (s : State) :
    gateMissed g key s = if 2 ≤ g then skipFrame key (missReported g key s) else missReported g key s := rfl

theorem changesOnly_missReported (g key : Nat) (s : State) : ChangesOnly [.safety, .patrol] s (missReported g key s) :=
  ((changesOnly_closeWindowOf g key s).step (changesOnly_modGate g _ _)).comp (changesOnly_report _ _ _ _ _ _)

theorem changesOnly_gateMissed (g key : Nat) (s : State) :
    ChangesOnly [.safety, .patrol, .rink, .point, .glide, .align, .ingest] s (gateMissed g key s) := by
  rw [gateMissed_eq]
  exact changesOnly_ite
    (fun _ => ((changesOnly_missReported g key s).comp (changesOnly_skipFrame key _)).mono (by simp))
    fun _ => (changesOnly_missReported g key s).mono (by simp)

/-- A kick in its Gate's window. -/
def kickTaken (g key : Nat) (s : State) : State :=
  evaluateAgain (safetyFault 1 g) 0 4 false (modGate g (fun (x : Gate) => { x with consecutive := 0 }) (closeWindowOf g key s))

theorem kickGate_eq (g key : Nat) (s : State) : kickGate g key s =
    match (gate s g).armed.find? (fun w => w.key == key) with
    | none => s
    | some w => if w.opens ≤ gateClock s g ∧ gateClock s g ≤ w.closes then kickTaken g key s else gateMissed g key s := rfl

theorem changesOnly_kickTaken (g key : Nat) (s : State) : ChangesOnly [.safety, .patrol] s (kickTaken g key s) :=
  ((changesOnly_closeWindowOf g key s).step (changesOnly_modGate g _ _)).comp (changesOnly_evaluateAgain _ _ _ _ _)

theorem changesOnly_kickGate (g key : Nat) (s : State) :
    ChangesOnly [.safety, .patrol, .rink, .point, .glide, .align, .ingest] s (kickGate g key s) := by
  rw [kickGate_eq]
  split
  · exact .refl _ s
  · exact changesOnly_ite (fun _ => (changesOnly_kickTaken g key s).mono (by simp)) fun _ => changesOnly_gateMissed g key s

theorem point_kickGate {g key : Nat} {s : State} (h : s.point.current = none) :
    ∃ w, (kickGate g key s).point = { s.point with waiting := w } := by
  have hmissed : ∃ w, (gateMissed g key s).point = { s.point with waiting := w } := by
    have hreported : (missReported g key s).point = s.point := changesOnly_missReported g key s .point (by simp)
    rw [gateMissed_eq]
    split
    · obtain ⟨w, hw⟩ := point_skipFrame (n := key) (s := missReported g key s) (by rw [hreported]; exact h)
      exact ⟨w, by rw [hw, hreported]⟩
    · exact ⟨s.point.waiting, hreported⟩
  rw [kickGate_eq]
  split
  · exact ⟨s.point.waiting, rfl⟩
  · split
    · exact ⟨s.point.waiting, changesOnly_kickTaken g key s .point (by simp)⟩
    · exact hmissed

end Sys2Proof.Machine
end

section
/-! Takes, reference stores, rule books and neighbour queries (O34; R199, R206, R208 to R210, R214 to R222, R318). -/

namespace Sys2Proof.Machine

/-! ## How many points a take takes (R206, R208) -/

theorem truncate_counts (slot : Nat) (a : TakeFold) : (a.truncate slot).taken = a.taken ∧
    (a.truncate slot).pastCap = a.pastCap ∧ (a.truncate slot).table = a.table := by
  unfold TakeFold.truncate
  split <;> exact ⟨rfl, rfl, rfl⟩

/-- A point inserted adds at most one voxel. -/
theorem insertPoint_counts (s : State) (t : Take) (a : TakeFold) (p : DeskPoint) :
    (insertPoint s t a p).taken = a.taken ∧ (insertPoint s t a p).pastCap = a.pastCap ∧
    (insertPoint s t a p).table.length ≤ a.table.length + 1 := by
  have hdrop : ∀ (b : TakeFold) (slot : Nat), b.taken = a.taken → b.pastCap = a.pastCap → b.table = a.table →
      (b.truncate slot).taken = a.taken ∧ (b.truncate slot).pastCap = a.pastCap ∧
      (b.truncate slot).table.length ≤ a.table.length + 1 := by
    intro b slot htaken hpast htable
    obtain ⟨h1, h2, h3⟩ := truncate_counts slot b
    exact ⟨h1.trans htaken, h2.trans hpast, by rw [h3, htable]; exact Nat.le_succ _⟩
  rw [insertPoint_eq]
  split
  · exact ⟨rfl, rfl, Nat.le_succ _⟩
  · split
    · exact hdrop _ _ rfl rfl rfl
    · split
      · exact ⟨rfl, rfl, by simp [TakeFold.count]⟩
      · split
        · exact hdrop _ _ rfl rfl rfl
        · split
          · exact hdrop _ _ rfl rfl rfl
          · exact ⟨rfl, rfl, by simp⟩

/-- One point of a take: it is counted under the cap, then among the near ones past it; each counted adds at most one voxel. -/
theorem takePoint_counts (s : State) (t : Take) (a : TakeFold) (p : DeskPoint) :
    (takePoint s t a p).taken = (if a.taken < pointCap s then a.taken + 1 else a.taken) ∧
    (a.pastCap ≤ nearEntries s → (takePoint s t a p).pastCap ≤ nearEntries s) ∧
    (a.table.length ≤ a.taken + a.pastCap →
      (takePoint s t a p).table.length ≤ (takePoint s t a p).taken + (takePoint s t a p).pastCap) := by
  unfold takePoint
  dsimp only
  split
  case isTrue hcap =>
    obtain ⟨htaken, hpast, htable⟩ := insertPoint_counts s t
      { a with mus := assocSet a.mus p.lidar p.mu, taken := a.taken + 1 } p
    simp only at htaken hpast htable
    rw [htaken, hpast]
    exact ⟨rfl, id, fun h => by omega⟩
  case isFalse hcap =>
    split
    case isTrue hnear =>
      simp only [Bool.and_eq_true, decide_eq_true_eq] at hnear
      obtain ⟨htaken, hpast, htable⟩ := insertPoint_counts s t
        { a with mus := assocSet a.mus p.lidar p.mu, pastCap := a.pastCap + 1 } p
      simp only at htaken hpast htable
      rw [htaken, hpast]
      exact ⟨rfl, fun _ => hnear.2, fun h => by omega⟩
    case isFalse hfar =>
      split
      · exact ⟨rfl, id, id⟩
      · obtain ⟨h1, h2, h3⟩ := truncate_counts (keySlot s (keyX s (voxelIndex s t p)) (keyY s (voxelIndex s t p)))
          ({ a with mus := assocSet a.mus p.lidar p.mu }.count p.lidar (fun c => { c with capDropped := bump c.capDropped }))
        rw [h1, h2, h3]
        exact ⟨rfl, id, id⟩

theorem takePoints_counts (s : State) (t : Take) (l : List DeskPoint) : ∀ a : TakeFold,
    a.taken ≤ pointCap s → a.pastCap ≤ nearEntries s → a.table.length ≤ a.taken + a.pastCap →
    (l.foldl (takePoint s t) a).taken = min (a.taken + l.length) (pointCap s) ∧
    (l.foldl (takePoint s t) a).pastCap ≤ nearEntries s ∧
    (l.foldl (takePoint s t) a).table.length ≤ (l.foldl (takePoint s t) a).taken + (l.foldl (takePoint s t) a).pastCap := by
  induction l with
  | nil => exact fun a hcap hpast htable => ⟨(Nat.min_eq_left hcap).symm, hpast, htable⟩
  | cons p l ih =>
    intro a hcap hpast htable
    obtain ⟨htaken, hpast', htable'⟩ := takePoint_counts s t a p
    have hle : (takePoint s t a p).taken ≤ pointCap s := by
      rw [htaken]
      split <;> omega
    obtain ⟨h1, h2, h3⟩ := ih _ hle (hpast' hpast) (htable' htable)
    refine ⟨h1.trans ?_, h2, h3⟩
    rw [htaken, List.length_cons]
    split <;> omega

/-! ## The take starts (R199, R206, R208) -/

/-- The shares in force leave out the engines that are retired. -/
def sharesTaken (s : State) : State := modPoint (fun p => { p with sharesWithout := p.retired }) s

/-- The points of a take, inserted in frame order. -/
def takeFolded (s : State) (t : Take) : TakeFold :=
  t.points.foldl (takePoint s t)
    { table := [], near := 0, far := 0, taken := 0, pastCap := 0, lidars := s.point.lidars, truncated := [], mus := [] }

/-- A take that has begun. -/
def takeBegun (s : State) (t : Take) : Take :=
  { t with begun := true, complete := t.dropped, truncated := if t.dropped then t.truncated else (takeFolded s t).truncated }

/-- The point engines with a take begun. -/
def takeStarted (s : State) (t : Take) (rest : List Take) (p : PointState) : PointState :=
  if t.dropped then { p with current := some (takeBegun s t), waiting := rest, books := [], table := [] }
  else { p with
    current := some (takeBegun s t), waiting := rest, books := [], table := (takeFolded s t).table,
    lidars := (takeFolded s t).lidars, frameNumber := t.frame, taken := (takeFolded s t).taken,
    overCap := (takeFolded s t).pastCap, voxels := (takeFolded s t).table.length, nearVoxels := (takeFolded s t).near }

section
variable {s : State} {t : Take} {rest : List Take}

theorem execTakeStart_waiting (ha : awake s = true) (hc : s.point.current = none) (hw : s.point.waiting = t :: rest) :
    execTakeStart s = answer s (modPoint (takeStarted (sharesTaken s) t rest) (sharesTaken s)) := by
  have hshares : modPoint (fun p => if p.current.isNone && !p.waiting.isEmpty then { p with sharesWithout := p.retired } else p) s =
      sharesTaken s := by
    unfold modPoint sharesTaken modPoint
    simp only [hc, hw, Option.isNone_none, List.isEmpty_cons, Bool.not_false, Bool.and_self, if_true]
  have hc' : (sharesTaken s).point.current = none := hc
  have hw' : (sharesTaken s).point.waiting = t :: rest := hw
  unfold execTakeStart awakeAnswer
  rw [if_pos ha]
  simp only [hshares, hc', hw']
  rfl

theorem takeStarts (ha : awake s = true) (hc : s.point.current = none) (hw : s.point.waiting = t :: rest) :
    Completes .takeStart s fun u => u.point.waiting = rest ∧
      (∃ x, u.point.current = some x ∧ x.frame = t.frame ∧ x.begun = true ∧ x.complete = t.dropped) ∧
      u.point.sharesWithout = s.point.retired ∧
      (t.dropped = true → u.point.table = [] ∧ u.point.lidars = s.point.lidars) ∧
      (t.dropped = false → u.point.frameNumber = t.frame ∧ u.point.taken = min t.points.length (pointCap s) ∧
        u.point.overCap ≤ nearEntries s ∧ u.point.voxels = u.point.table.length ∧
        u.point.voxels ≤ u.point.taken + u.point.overCap) ∧ ChangesOnly [.point] s u := by
  refine completes_of_answer (exec_takeStart s |>.trans (execTakeStart_waiting ha hc hw)) ?_
  have hframe : ChangesOnly [.point] s (modPoint (takeStarted (sharesTaken s) t rest) (sharesTaken s)) :=
    (changesOnly_modPoint _ s).step (changesOnly_modPoint _ _)
  have hpoint : (modPoint (takeStarted (sharesTaken s) t rest) (sharesTaken s)).point =
      takeStarted (sharesTaken s) t rest (sharesTaken s).point := rfl
  obtain ⟨htaken, hpast, htable⟩ := takePoints_counts (sharesTaken s) t t.points
    { table := [], near := 0, far := 0, taken := 0, pastCap := 0, lidars := (sharesTaken s).point.lidars, truncated := [],
      mus := [] } (Nat.zero_le _) (Nat.zero_le _) (Nat.zero_le _)
  generalize modPoint (takeStarted (sharesTaken s) t rest) (sharesTaken s) = v at hframe hpoint ⊢
  rw [settle_point, hpoint]
  unfold takeStarted
  cases hd : t.dropped with
  | true => exact ⟨rfl, ⟨_, rfl, rfl, rfl, hd⟩, rfl, fun _ => ⟨rfl, rfl⟩, nofun, hframe.settle s⟩
  | false =>
    refine ⟨rfl, ⟨_, rfl, rfl, rfl, hd⟩, rfl, nofun, fun _ => ⟨rfl, ?_, hpast, rfl, htable⟩, hframe.settle s⟩
    exact htaken.trans (by rw [Nat.zero_add]; rfl)

/-! ## The take completes (R218) -/

/-- The place of the older of the two reference stores. -/
def olderStore (s : State) : Nat :=
  match s.point.latestRef with
  | some j => 1 - j
  | none => 0

/-- The point engines with a frame's reference store. -/
def storeBuilt (s : State) (t : Take) (p : PointState) : PointState :=
  { p with
    refs := vset p.refs (olderStore s) (buildStore s (olderStore s) t.frame).1, latestRef := some (olderStore s),
    storesSinceReset := p.storesSinceReset + 1,
    refDropped := satAdd 32 p.refDropped (buildStore s (olderStore s) t.frame).2, current := some { t with complete := true } }

theorem execTakeComplete_begun (ha : awake s = true) (hc : s.point.current = some t) (hb : t.begun = true)
    (hn : t.complete = false) : execTakeComplete s = answer s (modPoint (storeBuilt s t) s) := by
  have hgo : (!t.begun || t.complete) = false := by simp [hb, hn]
  unfold execTakeComplete awakeAnswer
  rw [if_pos ha]
  simp only [hc, hgo, Bool.false_eq_true, if_false]
  rfl

theorem takeCompletes (ha : awake s = true) (hc : s.point.current = some t) (hb : t.begun = true) (hn : t.complete = false)
    (hlatest : s.point.latestRef = none ∨ s.point.latestRef = some 0 ∨ s.point.latestRef = some 1) :
    Completes .takeComplete s fun u =>
      u.point.current = some { t with complete := true } ∧ (latestStore u).frame = some t.frame ∧
      u.point.storesSinceReset = s.point.storesSinceReset + 1 ∧
      (∀ j, s.point.latestRef = some j → u.point.latestRef = some (1 - j) ∧ vget u.point.refs j = vget s.point.refs j) ∧
      u.point.table = s.point.table ∧ ChangesOnly [.point] s u := by
  refine completes_of_answer (exec_takeComplete s |>.trans (execTakeComplete_begun ha hc hb hn)) ?_
  have holder : olderStore s < 2 ∧ ∀ j, s.point.latestRef = some j → olderStore s = 1 - j ∧ j ≠ olderStore s := by
    unfold olderStore
    rcases hlatest with h | h | h <;> simp [h]
  obtain ⟨hlt, hother⟩ := holder
  have hpoint : (modPoint (storeBuilt s t) s).point = storeBuilt s t s.point := rfl
  rw [latestStore, settle_point, hpoint]
  refine ⟨rfl, ?_, rfl, fun j hj => ?_, rfl, (changesOnly_modPoint _ s).settle s⟩
  · exact congrArg RefStore.frame (vget_vset_same _ _ hlt)
  · obtain ⟨hplace, hne⟩ := hother j hj
    exact ⟨congrArg some hplace, vget_vset_ne _ _ hne⟩

end

/-! ## Rule books are delivered (R209, R217, R318) -/

/-- The books whose check sequence its tile found wrong. -/
def spoiltBooks (hurt : List (Nat × Nat)) (s : State) (t : Take) : List RuleBook :=
  (buildBooks s t).books.filter fun b => hurt.contains (b.slot, b.set)

/-- The time from the lidar part's close in µs. -/
def bookLatency (s : State) (t : Take) : Nat := min 65535 ((now s - t.lidarClose) / usUnits)

/-- The point engines with a frame's books delivered. -/
def booksDelivered (hurt : List (Nat × Nat)) (s : State) (t : Take) (p : PointState) : PointState :=
  { p with
    table := [], current := none,
    books := ((buildBooks s t).books.map (markTruncated (buildBooks s t).truncated)).map (spoilBook s t.frame hurt),
    delivered := some t.frame,
    truncatedFrames := if (buildBooks s t).truncated.isEmpty then p.truncatedFrames else bump p.truncatedFrames,
    latencyUs := bookLatency s t, peakLatencyUs := max p.peakLatencyUs (bookLatency s t),
    truncatedPatches := (buildBooks s t).truncated.length,
    ruleOverflows := satAdd 32 p.ruleOverflows (buildBooks s t).overflows,
    lidars := (buildBooks s t).rowDropped.foldl (fun (v : Vector LidarCounters 8) l =>
      vmod v l (fun c => { c with rowDropped := bump c.rowDropped })) p.lidars }

/-- A patch of whose lidars nothing comes. -/
def bookDark (hurt : List (Nat × Nat)) (s : State) (t : Take) (n : Nat) : Bool :=
  t.noLidar || (spoiltBooks hurt s t).any fun b => b.slot == n

/-- A slot with its marks of a frame's books. -/
def bookMarked (hurt : List (Nat × Nat)) (s : State) (t : Take) (n : Nat) (x : Slot) : Slot :=
  { x with
    truncated := (buildBooks s t).truncated.contains n, noLidar := bookDark hurt s t n,
    occupiedVoxels := if bookDark hurt s t n then 0 else (slotVoxels s n).1.length,
    lidars := if bookDark hurt s t n then 0
      else maskOf 8 (fun l => (slotVoxels s n).1.any (fun e => e.lidar == l)) }

/-- The delivery before Gate 4 takes it. -/
def deliveryJudged (hurt : List (Nat × Nat)) (s : State) (t : Take) : State :=
  (List.range 4).foldl (fun u pe => judgeBooks s (spoiltBooks hurt s t) pe u)
    ((List.range 48).foldl (fun u n => modSlot n (bookMarked hurt s t n) u) (modPoint (booksDelivered hurt s t) s))

theorem changesOnly_judgeBooks (s : State) (spoilt : List RuleBook) (pe : Nat) (u : State) :
    ChangesOnly [.patrol] u (judgeBooks s spoilt pe u) := by
  unfold judgeBooks
  exact changesOnly_ite (fun _ => changesOnly_report _ _ _ _ _ u) fun _ => changesOnly_evaluateAgain _ _ _ _ u

theorem deliveryJudged_delivered (hurt : List (Nat × Nat)) (s : State) (t : Take) :
    ChangesOnly [.rink, .patrol] (modPoint (booksDelivered hurt s t) s) (deliveryJudged hurt s t) :=
  (changesOnly_foldl (fun u n => changesOnly_modSlot n (bookMarked hurt s t n) u) (List.range 48) _).comp
    (changesOnly_foldl (fun u pe => changesOnly_judgeBooks s (spoiltBooks hurt s t) pe u) (List.range 4) _)

theorem spoilBook_nil (s : State) (frame : Nat) (b : RuleBook) : spoilBook s frame [] b = b := by
  unfold spoilBook
  split <;> rfl

section
variable {hurt : List (Nat × Nat)} {s : State} {t : Take} {f : TileFrame}

theorem execRuleBooksDelivered_due (ha : awake s = true) (hc : s.point.current = some t) (hf : s.rink.frame = some f)
    (hdone : t.complete = true) (hframe : t.frame = f.frame) :
    execRuleBooksDelivered hurt s = answer s (kickGate 4 t.frame (deliveryJudged hurt s t)) := by
  have hgo : (!t.complete || t.frame != f.frame) = false := by simp [hdone, hframe]
  unfold execRuleBooksDelivered awakeAnswer
  rw [if_pos ha]
  simp only [hc, hf, hgo, Bool.false_eq_true, if_false]
  rfl

theorem booksAreDelivered (ha : awake s = true) (hc : s.point.current = some t) (hf : s.rink.frame = some f)
    (hdone : t.complete = true) (hframe : t.frame = f.frame) : Completes (.ruleBooksDelivered hurt) s fun u =>
      u.point.table = [] ∧ u.point.current = none ∧
      u.point.books = ((buildBooks s t).books.map (markTruncated (buildBooks s t).truncated)).map
        (spoilBook s t.frame hurt) ∧
      (hurt = [] → (∀ b ∈ (buildBooks s t).books, (buildBooks s t).truncated.contains b.slot = true → b.truncated = false →
        ∃ b' ∈ u.point.books, b'.slot = b.slot ∧ b'.set = b.set ∧ b'.truncated = true ∧
          b'.bytes = b.bytes.set 7 (b.bytes.getD 7 0 ||| 1))) ∧
      u.point.delivered = some t.frame ∧
      u.point.latencyUs = min 65535 ((now s - t.lidarClose) / usUnits) ∧
      u.point.peakLatencyUs = max s.point.peakLatencyUs u.point.latencyUs ∧
      u.point.truncatedPatches = (buildBooks s t).truncated.length ∧
      ChangesOnly [.point, .rink, .safety, .patrol, .align, .ingest, .glide] s u := by
  refine completes_of_answer ((exec_ruleBooksDelivered hurt s).trans (execRuleBooksDelivered_due ha hc hf hdone hframe)) ?_
  have hjudged := deliveryJudged_delivered hurt s t
  have hpoint : (deliveryJudged hurt s t).point = booksDelivered hurt s t s.point := hjudged .point (by simp)
  obtain ⟨w, hkick⟩ := point_kickGate (g := 4) (key := t.frame) (s := deliveryJudged hurt s t) (by rw [hpoint]; rfl)
  have hall := (changesOnly_modPoint (booksDelivered hurt s t) s).comp (hjudged.comp
    (changesOnly_kickGate 4 t.frame (deliveryJudged hurt s t)))
  rw [settle_point, hkick, hpoint]
  refine ⟨rfl, rfl, rfl, fun hnil b hb hslot htrunc => ?_, rfl, rfl, rfl, rfl, (hall.mono (by simp)).settle s⟩
  have hmark : markTruncated (buildBooks s t).truncated b =
      { b with truncated := true, bytes := b.bytes.set 7 (b.bytes.getD 7 0 ||| 1) } := by
    unfold markTruncated
    rw [hslot, htrunc]
    rfl
  refine ⟨_, List.mem_map_of_mem (List.mem_map_of_mem hb), ?_⟩
  rw [hnil, spoilBook_nil, hmark]
  exact ⟨rfl, rfl, rfl, rfl⟩

end

/-! ## Neighbour queries (R219 to R222) -/

theorem ringEntries_mem {s : State} {st : RefStore} {q : Nat × Nat × Nat} {ring : Int} {x : Dy × RefCell}
    (h : x ∈ ringEntries s st q ring) : x.1 = distance2 q x.2 ∧ x.2 ∈ st.cells := by
  unfold ringEntries at h
  rw [List.mem_sortBy, List.mem_map] at h
  obtain ⟨c, hc, rfl⟩ := h
  exact ⟨rfl, (List.mem_filter.1 hc).1⟩

/-- The entries of a ring stand nearest first. -/
theorem ringEntries_sorted (s : State) (st : RefStore) (q : Nat × Nat × Nat) (ring : Int) :
    (ringEntries s st q ring).Pairwise fun a b => dyVal a.1 ≤ dyVal b.1 := by
  refine pairwise_sortBy (R := fun a b : Dy × RefCell => dyVal a.1 ≤ dyVal b.1) le_trans (fun {a b} h => ?_) (fun {a b} h => ?_) _
  · simp only [Bool.or_eq_true, Bool.and_eq_true, dy_lt_iff, dy_eq_iff] at h
    rcases h with h | ⟨h, -⟩
    · exact le_of_lt h
    · exact le_of_eq h
  · simp only [Bool.or_eq_true, dy_lt_iff, not_or, not_lt] at h
    exact h.1

/-- The entries that a ball query finds. -/
def ballEntries (s : State) (st : RefStore) (q : Nat × Nat × Nat) (radius : Nat) : List (Dy × RefCell) :=
  if !fpFinite radius || flt radius 0 then []
  else within ((f32 radius).mul (f32 radius)) (ringEntries s st q
    (if ((f32 radius).mul (Dy.ofInt 1000)).le (Dy.ofInt (refVoxelMm s)) then 1 else 2))

theorem ballQuery_eq (s : State) (st : RefStore) (q : Nat × Nat × Nat) (radius maxN : Nat) :
    ballQuery s st q radius maxN = (((ballEntries s st q radius).take maxN).map (·.2),
      decide (maxN < (ballEntries s st q radius).length), false) := rfl

theorem ballEntries_mem {s : State} {st : RefStore} {q : Nat × Nat × Nat} {radius : Nat} {x : Dy × RefCell}
    (h : x ∈ ballEntries s st q radius) : x.1 = distance2 q x.2 ∧ x.2 ∈ st.cells ∧
      x.1.le ((f32 radius).mul (f32 radius)) = true := by
  unfold ballEntries at h
  split at h
  · exact absurd h (by simp)
  · obtain ⟨hin, hle⟩ := List.mem_filter.1 h
    obtain ⟨hdist, hcell⟩ := ringEntries_mem hin
    exact ⟨hdist, hcell, hle⟩

theorem ballEntries_sorted (s : State) (st : RefStore) (q : Nat × Nat × Nat) (radius : Nat) :
    (ballEntries s st q radius).Pairwise fun a b => dyVal a.1 ≤ dyVal b.1 := by
  unfold ballEntries
  split
  · exact .nil
  · exact (ringEntries_sorted s st q _).filter _

theorem ballAnswers (s : State) (st : RefStore) (q : Nat × Nat × Nat) (radius maxN : Nat) :
    (ballQuery s st q radius maxN).1.length ≤ maxN ∧
    (∀ c ∈ (ballQuery s st q radius maxN).1,
      c ∈ st.cells ∧ (distance2 q c).le ((f32 radius).mul (f32 radius)) = true) ∧
    (ballQuery s st q radius maxN).1.Pairwise (fun a b => (distance2 q a).le (distance2 q b) = true) ∧
    ((ballQuery s st q radius maxN).2.1 = true → (ballQuery s st q radius maxN).1.length = maxN) := by
  rw [ballQuery_eq]
  refine ⟨?_, fun c hc => ?_, ?_, fun hmore => ?_⟩
  · rw [List.length_map]
    exact List.length_take_le _ _
  · obtain ⟨x, hx, rfl⟩ := List.mem_map.1 hc
    obtain ⟨hdist, hcell, hle⟩ := ballEntries_mem (List.mem_of_mem_take hx)
    exact ⟨hcell, hdist ▸ hle⟩
  · rw [List.pairwise_map]
    refine List.Pairwise.imp_of_mem (fun {a b} ha hb hab => ?_)
      ((ballEntries_sorted s st q radius).sublist (List.take_sublist maxN _))
    rw [← (ballEntries_mem (List.mem_of_mem_take ha)).1, ← (ballEntries_mem (List.mem_of_mem_take hb)).1]
    exact (dy_le_iff _ _).2 hab
  · rw [List.length_map, List.length_take]
    exact Nat.min_eq_left (Nat.le_of_lt (of_decide_eq_true hmore))

/-- Settles O34: each step of the frame's work by its lemma. -/
theorem takesRunAndDeliver : Obligations.TakesRunAndDeliver := by
  unfold Obligations.TakesRunAndDeliver
  refine ⟨fun t rest s => takeStarts, fun t s => takeCompletes, fun hurt t f s => booksAreDelivered, fun k c s h => ?_,
    fun s st q radius maxN => ballAnswers s st q radius maxN⟩
  exact completes_concluded (u := s) (m := [.flight]) (exec_runNeighbourQuery k s) h rfl (.refl [] s) (by simp) (by simp)
    fun t hc hframe _ => ⟨hc, hframe⟩

end Sys2Proof.Machine
end

section
/-! The judgement of a source at the close of its part (O30; R179, R180). -/

namespace Sys2Proof.Machine

/-! ## Trust -/

theorem sourceTrust_modTrust {i : Nat} (hi : i < 26) (f : SourceTrust → SourceTrust) (s : State) :
    sourceTrust (modTrust i f s) i = f (sourceTrust s i) := vget_vmod_same _ _ hi

theorem sourceTrust_of_align {s t : State} (h : t.align = s.align) (i : Nat) : sourceTrust t i = sourceTrust s i := by
  rw [sourceTrust, h, sourceTrust]

/-- A state that differs in ingest and in the alignment unit alone, under the same pairing. -/
def JudgedOnly (s t : State) : Prop := ∃ ing al, t = { s with ingest := ing, align := al } ∧ al.pairing = s.align.pairing

theorem JudgedOnly.refl (s : State) : JudgedOnly s s := ⟨s.ingest, s.align, rfl, rfl⟩

theorem JudgedOnly.trans {s t u : State} (h : JudgedOnly s t) (h' : JudgedOnly t u) : JudgedOnly s u := by
  obtain ⟨_, _, rfl, hp⟩ := h
  obtain ⟨ing, al, rfl, hp'⟩ := h'
  exact ⟨ing, al, rfl, hp'.trans hp⟩

theorem judgedOnly_modTrust (i : Nat) (f : SourceTrust → SourceTrust) (s : State) : JudgedOnly s (modTrust i f s) :=
  ⟨s.ingest, _, rfl, rfl⟩

theorem judgedOnly_modSet (n : Nat) (f : FusionSet → FusionSet) (s : State) : JudgedOnly s (modSet n f s) :=
  ⟨s.ingest, _, rfl, rfl⟩

theorem JudgedOnly.framePeriod {s t : State} (h : JudgedOnly s t) : framePeriod t = framePeriod s := by
  obtain ⟨ing, al, rfl, hp⟩ := h
  simp only [Machine.framePeriod, effectiveRate, ratedRate, configuredRate, hp]
  rfl

theorem JudgedOnly.missLimit {s t : State} (h : JudgedOnly s t) : missLimit t = missLimit s := by
  obtain ⟨ing, al, rfl, hp⟩ := h
  simp only [Machine.missLimit, hp]

theorem JudgedOnly.returnFrames {s t : State} (h : JudgedOnly s t) : returnFrames t = returnFrames s := by
  obtain ⟨ing, al, rfl, hp⟩ := h
  simp only [Machine.returnFrames, hp]

theorem JudgedOnly.changes {s t : State} (h : JudgedOnly s t) : ChangesOnly [.align, .ingest] s t := by
  obtain ⟨ing, al, rfl, -⟩ := h
  rw [changesOnly_iff]
  simp [Part.same]

/-! ## The check of a source's time (R180) -/

/-- A source is found out of time: too many sets missed, or a residual above half the frame period. -/
def FoundUntimely (s : State) (i missRun : Nat) : Prop :=
  missLimit s ≤ missRun ∨ ¬ 2 * (source s i).residual ≤ (framePeriod s : Int)

/-- What the check leaves of a camera's or a lidar's trust. -/
structure TimeTrustChecked (i : Nat) (s t : State) : Prop where
  missRun : (sourceTrust t i).missRun = (sourceTrust s i).missRun
  misses : (sourceTrust t i).misses = (sourceTrust s i).misses
  found : (sourceTrust s i).trust ≠ .timeUntrusted → FoundUntimely s i (sourceTrust s i).missRun →
    (sourceTrust t i).trust = .timeUntrusted ∧ ∃ r ∈ t.patrol.wires, r.source = alignFault i ∧ r.cls = .uc
  stands : (sourceTrust s i).trust ≠ .timeUntrusted → ¬ FoundUntimely s i (sourceTrust s i).missRun →
    (sourceTrust t i).trust = (sourceTrust s i).trust
  returns : (sourceTrust s i).trust = .timeUntrusted →
    (sourceTrust t i).trust = .timeUntrusted ∨ returnFrames s ≤ (sourceTrust s i).inRun

theorem foundUntimely_iff {i : Nat} (hi : i < 16) (s : State) :
    (decide (i < 16) && decide (missLimit s ≤ (sourceTrust s i).missRun) ||
      !decide (2 * (source s i).residual ≤ (framePeriod s : Int))) = true ↔ FoundUntimely s i (sourceTrust s i).missRun := by
  simp [FoundUntimely, hi]

theorem timeTrustChecked {i : Nat} (hi : i < 16) (s : State) : TimeTrustChecked i s (checkTimeTrust i s) := by
  have hfound := foundUntimely_iff hi s
  unfold checkTimeTrust
  dsimp only
  split
  next htrust =>
    have hagain := fun bad => sourceTrust_of_align (changesOnly_evaluateAgain (alignFault i) 0 4 bad s .align (by simp)) i
    split
    next hreturn =>
      simp only [Bool.and_eq_true, Bool.or_eq_true, decide_eq_true_eq, hi, true_and, Bool.not_eq_true',
        decide_eq_false_iff_not, not_true, or_false] at hreturn
      refine ⟨?_, ?_, fun h => absurd htrust h, fun h => absurd htrust h, fun _ => .inr hreturn.1.1⟩
      · rw [sourceTrust_modTrust (by omega), hagain]
      · rw [sourceTrust_modTrust (by omega), hagain]
    next =>
      exact ⟨congrArg SourceTrust.missRun (hagain _), congrArg SourceTrust.misses (hagain _), fun h => absurd htrust h,
        fun h => absurd htrust h, fun _ => .inl ((congrArg SourceTrust.trust (hagain _)).trans htrust)⟩
  next htrust =>
    split
    next hbad =>
      have htaken := sourceTrust_modTrust (i := i) (by omega)
        (fun (t : SourceTrust) => { t with trust := .timeUntrusted, inRun := 0 }) s
      have hreported := sourceTrust_of_align (s := modTrust i (fun (t : SourceTrust) =>
        { t with trust := .timeUntrusted, inRun := 0 }) s) (t := report (alignFault i) 0 4 .uc 0 (modTrust i
          (fun (t : SourceTrust) => { t with trust := .timeUntrusted, inRun := 0 }) s)) rfl i
      rw [htaken] at hreported
      refine ⟨by rw [hreported], by rw [hreported], fun _ _ => ⟨by rw [hreported], _, List.mem_append_right _
        List.mem_cons_self, rfl, rfl⟩, fun _ h => absurd (hfound.1 hbad) h, fun h => absurd h htrust⟩
    next hgood =>
      exact ⟨rfl, rfl, fun _ h => absurd (hfound.2 h) hgood, fun _ _ => rfl, fun h => absurd h htrust⟩

/-! ## The unit nearest to the instant (R179) -/

theorem nearestUnit_mem {f : Dts} {u : SetUnit} {l : List SetUnit} (h : nearestUnit f l = some u) :
    u ∈ l ∧ u.damaged = false := by
  have hfold : ∀ (l : List SetUnit) (b : Option SetUnit), l.foldl (fun (b : Option SetUnit) u =>
      if u.damaged then b
      else match b with
        | some v => if mag (u.mu - f) < mag (v.mu - f) ∨ (mag (u.mu - f) = mag (v.mu - f) ∧ u.mu < v.mu) then some u else b
        | none => some u) b = some u → b = some u ∨ u ∈ l ∧ u.damaged = false := by
    intro l
    induction l with
    | nil => exact fun b h => .inl h
    | cons v l ih =>
      intro b h
      rcases ih _ h with h | ⟨hmem, hdam⟩
      · beta_reduce at h
        split at h
        next => exact .inl h
        next hgood =>
          have hv : v.damaged = false := by simpa using hgood
          split at h
          · split at h
            · obtain rfl := Option.some.inj h
              exact .inr ⟨List.mem_cons_self, hv⟩
            · exact .inl h
          · obtain rfl := Option.some.inj h
            exact .inr ⟨List.mem_cons_self, hv⟩
      · exact .inr ⟨List.mem_cons_of_mem v hmem, hdam⟩
  exact (hfold l none h).resolve_left (by simp)

/-! ## Admission -/

/-- What the admission of a unit leaves of its source. -/
theorem admitUnit_keeps {i : Nat} (hi : i < 16) (n : Nat) (u : SetUnit) (s : State) : JudgedOnly s (admitUnit n i u s) ∧
    (source (admitUnit n i u s) i).residual = (source s i).residual ∧
    (sourceTrust (admitUnit n i u s) i).missRun = (sourceTrust s i).missRun ∧
    (sourceTrust (admitUnit n i u s) i).misses = (sourceTrust s i).misses ∧
    (sourceTrust (admitUnit n i u s) i).trust = (sourceTrust s i).trust := by
  unfold admitUnit
  split
  · split
    · split
      · exact ⟨⟨_, _, rfl, rfl⟩, rfl, rfl, rfl, rfl⟩
      · rw [sourceTrust_modTrust (by omega)]
        exact ⟨judgedOnly_modTrust _ _ s, rfl, rfl, rfl, rfl⟩
    · exact ⟨.refl s, rfl, rfl, rfl, rfl⟩
  · exact ⟨⟨_, _, rfl, rfl⟩, rfl, rfl, rfl, rfl⟩

/-! ## The judgement -/

/-- A source is used in sets. -/
def inUse (s : State) (i : Nat) : Bool := (sourceTrust s i).trust == .trusted || (sourceTrust s i).trust == .suspect

/-- Its nearest whole unit is in window. -/
def unitHits (s : State) (f : Dts) (i : Nat) : Bool :=
  (nearestUnit f (unitsOfSource s i)).any fun u => inWindow s f u.mu u.alpha

/-- The units in window. -/
def unitsInside (s : State) (f : Dts) (i : Nat) : List SetUnit :=
  (unitsOfSource s i).filter fun v => inWindow s f v.mu v.alpha

/-- A source with a whole unit in window. -/
def trustHit (t : SourceTrust) : SourceTrust := { t with missRun := 0, inRun := min 255 (t.inRun + 1) }

/-- A source with no unit in window. -/
def trustMissed (outside : Bool) (t : SourceTrust) : SourceTrust :=
  { t with
    outOfWindow := if outside then bump t.outOfWindow else t.outOfWindow, misses := bump t.misses,
    missRun := t.missRun + 1, inRun := 0 }

/-- A due source before the check of its time. -/
def sourceMet (n : Nat) (f : Dts) (s : State) (i : Nat) : State :=
  if unitHits s f i then
    match nearestUnit f (unitsOfSource s i) with
    | some v => if inUse s i then admitUnit n i v (modTrust i trustHit s) else modTrust i trustHit s
    | none => modTrust i trustHit s
  else if !(unitsInside s f i).isEmpty && (unitsInside s f i).all (·.damaged) then s
  else modTrust i (trustMissed (nearestUnit f (unitsOfSource s i)).isSome) s

/-- The sets since a source was last admitted. -/
def admissionCounted (admitted : Bool) (t : SourceTrust) : SourceTrust :=
  { t with sinceAdmitted := if admitted then 0 else satAdd 16 t.sinceAdmitted 1 }

theorem judgeSource_due {n i : Nat} {f : Dts} {s : State} (h : dueIn s i = true) : judgeSource n f s i =
    checkTimeTrust i (modTrust i (admissionCounted (unitHits s f i && inUse s i)) (sourceMet n f s i)) := by
  unfold judgeSource
  rw [if_neg (by rw [h]; decide)]
  rfl

/-- What a judgement compares, from the state in which the check is made. -/
theorem judged_of {n i : Nat} {f : Dts} {s : State} {k : SourceTrust} (hi : i < 16) (hdue : dueIn s i = true)
    (hmet : JudgedOnly s (sourceMet n f s i)) (hres : (source (sourceMet n f s i) i).residual = (source s i).residual)
    (hk : k = sourceTrust (sourceMet n f s i) i) :
    (sourceTrust (judgeSource n f s i) i).missRun = k.missRun ∧ (sourceTrust (judgeSource n f s i) i).misses = k.misses ∧
    (k.trust ≠ .timeUntrusted → FoundUntimely s i k.missRun → (sourceTrust (judgeSource n f s i) i).trust = .timeUntrusted ∧
      ∃ r ∈ (judgeSource n f s i).patrol.wires, r.source = alignFault i ∧ r.cls = .uc) ∧
    (k.trust ≠ .timeUntrusted → ¬ FoundUntimely s i k.missRun → (sourceTrust (judgeSource n f s i) i).trust = k.trust) ∧
    (k.trust = .timeUntrusted → (sourceTrust (judgeSource n f s i) i).trust = .timeUntrusted ∨ returnFrames s ≤ k.inRun) := by
  rw [judgeSource_due hdue]
  have hcount := sourceTrust_modTrust (i := i) (by omega) (admissionCounted (unitHits s f i && inUse s i)) (sourceMet n f s i)
  have hjudged := hmet.trans (judgedOnly_modTrust i (admissionCounted (unitHits s f i && inUse s i)) (sourceMet n f s i))
  obtain ⟨hrun, hmisses, hfound, hstands, hreturns⟩ := timeTrustChecked hi
    (modTrust i (admissionCounted (unitHits s f i && inUse s i)) (sourceMet n f s i))
  have hres' : (source (modTrust i (admissionCounted (unitHits s f i && inUse s i)) (sourceMet n f s i)) i).residual =
      (source s i).residual := hres
  unfold FoundUntimely at hfound hstands ⊢
  rw [hcount, ← hk, hjudged.missLimit, hjudged.framePeriod, hres'] at hfound hstands
  rw [hcount, ← hk] at hrun hmisses hreturns
  rw [hjudged.returnFrames] at hreturns
  exact ⟨hrun, hmisses, hfound, hstands, hreturns⟩

section
variable {n i : Nat} {f : Dts} {s : State} (hi : i < 16) (hdue : dueIn s i = true)
include hi hdue

theorem sourceHits {u : SetUnit} (hu : nearestUnit f (unitsOfSource s i) = some u) (hin : inWindow s f u.mu u.alpha = true) :
    (sourceTrust (judgeSource n f s i) i).missRun = 0 ∧
    (sourceTrust (judgeSource n f s i) i).misses = (sourceTrust s i).misses ∧
    ((sourceTrust s i).trust = .trusted → 0 < missLimit s → 2 * (source s i).residual ≤ (framePeriod s : Int) →
      (sourceTrust (judgeSource n f s i) i).trust = .trusted) := by
  have hhit : unitHits s f i = true := by
    rw [unitHits, hu]
    exact hin
  have hmet : sourceMet n f s i = if inUse s i then admitUnit n i u (modTrust i trustHit s) else modTrust i trustHit s := by
    unfold sourceMet
    rw [if_pos hhit, hu]
  have htrust := sourceTrust_modTrust (i := i) (by omega) trustHit s
  have hkeeps : JudgedOnly s (sourceMet n f s i) ∧ (source (sourceMet n f s i) i).residual = (source s i).residual ∧
      (sourceTrust (sourceMet n f s i) i).missRun = 0 ∧
      (sourceTrust (sourceMet n f s i) i).misses = (sourceTrust s i).misses ∧
      (sourceTrust (sourceMet n f s i) i).trust = (sourceTrust s i).trust := by
    rw [hmet]
    split
    · obtain ⟨hj, hres, hrun, hmisses, htr⟩ := admitUnit_keeps hi n u (modTrust i trustHit s)
      rw [htrust] at hrun hmisses htr
      exact ⟨(judgedOnly_modTrust i _ s).trans hj, hres, hrun, hmisses, htr⟩
    · rw [htrust]
      exact ⟨judgedOnly_modTrust i _ s, rfl, rfl, rfl, rfl⟩
  obtain ⟨hj, hres, hrun, hmisses, htr⟩ := hkeeps
  obtain ⟨hjrun, hjmisses, -, hstands, -⟩ := judged_of hi hdue hj hres rfl
  refine ⟨hjrun.trans hrun, hjmisses.trans hmisses, fun htrusted hlimit hsteady => ?_⟩
  rw [htr, hrun] at hstands
  refine (hstands (by rw [htrusted]; decide) ?_).trans htrusted
  rintro (h | h)
  · omega
  · exact h hsteady

theorem sourceDamagedInWindow (hsome : ∃ u ∈ unitsOfSource s i, inWindow s f u.mu u.alpha = true)
    (hall : ∀ u ∈ unitsOfSource s i, inWindow s f u.mu u.alpha = true → u.damaged = true) :
    (sourceTrust (judgeSource n f s i) i).misses = (sourceTrust s i).misses ∧
    (sourceTrust (judgeSource n f s i) i).missRun = (sourceTrust s i).missRun := by
  have hhit : ¬ unitHits s f i = true := by
    unfold unitHits
    cases hu : nearestUnit f (unitsOfSource s i) with
    | none => exact Bool.false_ne_true
    | some u =>
      obtain ⟨hmem, hgood⟩ := nearestUnit_mem hu
      intro hin
      exact Bool.false_ne_true (hgood.symm.trans (hall u hmem hin))
  have hinside : (!(unitsInside s f i).isEmpty && (unitsInside s f i).all (·.damaged)) = true := by
    obtain ⟨u, hmem, hin⟩ := hsome
    have hu : u ∈ unitsInside s f i := List.mem_filter.2 ⟨hmem, hin⟩
    have hdam : (unitsInside s f i).all (·.damaged) = true := List.all_eq_true.2 fun v hv =>
      hall v (List.mem_filter.1 hv).1 (List.mem_filter.1 hv).2
    simp [hdam, List.ne_nil_of_mem hu]
  have hmet : sourceMet n f s i = s := by
    unfold sourceMet
    rw [if_neg hhit, if_pos hinside]
  obtain ⟨hjrun, hjmisses, -, -, -⟩ := judged_of (n := n) (f := f) (k := sourceTrust s i) hi hdue (by rw [hmet]; exact .refl s)
    (by rw [hmet]) (by rw [hmet])
  exact ⟨hjmisses, hjrun⟩

theorem sourceMissing (hnone : ∀ u ∈ unitsOfSource s i, inWindow s f u.mu u.alpha = false) :
    (sourceTrust (judgeSource n f s i) i).misses = bump (sourceTrust s i).misses ∧
    (sourceTrust (judgeSource n f s i) i).missRun = (sourceTrust s i).missRun + 1 ∧
    ((sourceTrust s i).trust ≠ .timeUntrusted →
      missLimit s ≤ (sourceTrust s i).missRun + 1 ∨ ¬ 2 * (source s i).residual ≤ (framePeriod s : Int) →
      (sourceTrust (judgeSource n f s i) i).trust = .timeUntrusted ∧
        ∃ r ∈ (judgeSource n f s i).patrol.wires, r.source = alignFault i ∧ r.cls = .uc) ∧
    ((sourceTrust s i).trust = .timeUntrusted →
      (sourceTrust (judgeSource n f s i) i).trust = .timeUntrusted ∨ 0 = returnFrames s) := by
  have hhit : ¬ unitHits s f i = true := by
    unfold unitHits
    cases hu : nearestUnit f (unitsOfSource s i) with
    | none => exact Bool.false_ne_true
    | some u =>
      intro hin
      exact Bool.false_ne_true ((hnone u (nearestUnit_mem hu).1).symm.trans hin)
  have hempty : unitsInside s f i = [] := List.filter_eq_nil_iff.2 fun u hu => by
    rw [hnone u hu]
    exact Bool.false_ne_true
  have hmet : sourceMet n f s i = modTrust i (trustMissed (nearestUnit f (unitsOfSource s i)).isSome) s := by
    unfold sourceMet
    rw [if_neg hhit, hempty]
    rfl
  obtain ⟨hjrun, hjmisses, hfound, -, hreturns⟩ := judged_of (n := n) (f := f)
    (k := trustMissed (nearestUnit f (unitsOfSource s i)).isSome (sourceTrust s i)) hi hdue
    (by rw [hmet]; exact judgedOnly_modTrust i _ s) (by rw [hmet]; rfl) (by rw [hmet, sourceTrust_modTrust (by omega)])
  exact ⟨hjmisses, hjrun, hfound, fun h => (hreturns h).imp_right fun h => (Nat.le_zero.1 h).symm⟩

end

end Sys2Proof.Machine
end

section
/-! Fusion sets and scrolls (O30; R179, R181, R184). -/

namespace Sys2Proof.Machine

/-! ## Scroll and recentre (R184) -/

theorem dyVal_ofInt (i : Int) : dyVal (Dy.ofInt i) = i := by
  simp [dyVal, Dy.ofInt]

theorem dyVal_mul (a b : Dy) : dyVal (a.mul b) = dyVal a * dyVal b := by
  rw [dyVal, Dy.mul, zpow_add₀ (by norm_num), dyVal, dyVal]
  push_cast
  ring

theorem dyVal_neg (a : Dy) : dyVal a.neg = -dyVal a := by
  simp [dyVal, Dy.neg]

/-- The patch length in metres. -/
def patchLength (s : State) : Rat := (patchCm s : Rat) / 100

/-- The place of a coordinate from a patch-grid index, in metres. -/
def offPatch (s : State) (x : Dy) (c : Int) : Rat := dyVal x - c * patchLength s

theorem beyondPatches_iff (s : State) (x : Dy) (c n : Int) :
    beyondPatches s x c n = true ↔ n * patchLength s < offPatch s x c := by
  rw [beyondPatches, dy_lt_iff, dyVal_mul, dyVal_ofInt, dyVal_ofInt, offPatch, patchLength]
  push_cast
  constructor <;> intro h <;> linarith

theorem beyondPatches_neg_iff (s : State) (x : Dy) (c n : Int) :
    beyondPatches s x.neg (-c) n = true ↔ offPatch s x c < -(n * patchLength s) := by
  rw [beyondPatches_iff, offPatch, offPatch, dyVal_neg]
  push_cast
  constructor <;> intro h <;> linarith

theorem scrollOf_eq (s : State) (x : Dy) (c : Int) : scrollOf s x c =
    if offPatch s x c > patchLength s then 1 else if offPatch s x c < -patchLength s then -1 else 0 := by
  have hup := beyondPatches_iff s x c 1
  have hdown := beyondPatches_neg_iff s x c 1
  rw [Int.cast_one, one_mul] at hup hdown
  unfold scrollOf
  rw [if_congr hup rfl (if_congr hdown rfl rfl)]

theorem farFrom_iff (s : State) (x : Dy) (c : Int) : farFrom s x c = true ↔ |offPatch s x c| > 2 * patchLength s := by
  have hup := beyondPatches_iff s x c 2
  have hdown := beyondPatches_neg_iff s x c 2
  push_cast at hup hdown
  rw [farFrom, Bool.or_eq_true, hup, hdown, gt_iff_lt, lt_abs]
  constructor <;> rintro (h | h) <;> [left; right; left; right] <;> linarith

/-- The centre after a frame's scroll, and whether the vehicle is then still too far. -/
def scrolledX (p : PoseEntry) (s : State) : Int := s.align.centreX + scrollOf s (f32 p.posX) s.align.centreX
def scrolledY (p : PoseEntry) (s : State) : Int := s.align.centreY + scrollOf s (f32 p.posY) s.align.centreY
def stillFar (p : PoseEntry) (s : State) : Bool :=
  farFrom s (f32 p.posX) (scrolledX p s) || farFrom s (f32 p.posY) (scrolledY p s)

/-- The alignment unit with a frame's scroll or recentre ordered. -/
def scrollOrdered (n : Nat) (p : PoseEntry) (s : State) (a : Align) : Align :=
  if stillFar p s then { a with
    centreX := nearestPatch s (f32 p.posX), centreY := nearestPatch s (f32 p.posY), recentres := bump a.recentres,
    recentreDue := a.recentreDue ++ [n] }
  else { a with centreX := scrolledX p s, centreY := scrolledY p s }

/-- A fusion set with the centre that its frame ordered. -/
def centreNoted (far : Bool) (a : Align) (f : FusionSet) : FusionSet :=
  { f with recentred := far, centreX := a.centreX, centreY := a.centreY, rebaseX := a.rebaseX, rebaseY := a.rebaseY }

theorem orderScroll_eq (n : Nat) (p : PoseEntry) (s : State) : orderScroll n p s =
    if stillFar p s then report (alignFault 27) 0 4 .ce 0
      (modSet n (centreNoted (stillFar p s) (scrollOrdered n p s s.align)) (modAlign (scrollOrdered n p s) s))
    else modSet n (centreNoted (stillFar p s) (scrollOrdered n p s s.align)) (modAlign (scrollOrdered n p s) s) := rfl

theorem orderScroll_near {n : Nat} {p : PoseEntry} {s : State} (h : stillFar p s = false) :
    (orderScroll n p s).align.centreX = scrolledX p s ∧ (orderScroll n p s).align.centreY = scrolledY p s ∧
    (orderScroll n p s).align.recentres = s.align.recentres ∧ (orderScroll n p s).patrol = s.patrol := by
  have hal : scrollOrdered n p s s.align = { s.align with centreX := scrolledX p s, centreY := scrolledY p s } := by
    rw [scrollOrdered, h]
    rfl
  rw [orderScroll_eq, h, if_neg Bool.false_ne_true]
  unfold modSet modAlign
  rw [hal]
  exact ⟨rfl, rfl, rfl, rfl⟩

theorem orderScroll_far {n : Nat} {p : PoseEntry} {s : State} (h : stillFar p s = true) :
    (orderScroll n p s).align.centreX = nearestPatch s (f32 p.posX) ∧
    (orderScroll n p s).align.centreY = nearestPatch s (f32 p.posY) ∧
    (orderScroll n p s).align.recentres = bump s.align.recentres ∧
    ∃ r, (orderScroll n p s).patrol.wires = s.patrol.wires ++ [r] ∧ r.source = alignFault 27 ∧ r.cls = .ce := by
  have hal : scrollOrdered n p s s.align = { s.align with
      centreX := nearestPatch s (f32 p.posX), centreY := nearestPatch s (f32 p.posY), recentres := bump s.align.recentres,
      recentreDue := s.align.recentreDue ++ [n] } := by
    rw [scrollOrdered, h]
    rfl
  rw [orderScroll_eq, h, if_pos rfl]
  unfold report modSet modAlign
  rw [hal]
  exact ⟨rfl, rfl, rfl, _, rfl, rfl, rfl⟩

theorem changesOnly_orderScroll (n : Nat) (p : PoseEntry) (s : State) : ChangesOnly [.align, .patrol] s (orderScroll n p s) := by
  have hset := (changesOnly_modAlign (scrollOrdered n p s) s).step
    (changesOnly_modSet n (centreNoted (stillFar p s) (scrollOrdered n p s s.align)) _)
  rw [orderScroll_eq]
  exact changesOnly_ite (fun _ => (hset.comp (changesOnly_report _ _ _ _ _ _)).mono (by simp)) fun _ => hset.mono (by simp)

/-! ## The sets of a state -/

/-- Sets are as they were but for those given up; the centre ordered stands. -/
def SetsSkipped (s t : State) : Prop := ∃ F : FusionSet → FusionSet, (∀ x, ∃ b, F x = { x with skipped := b }) ∧
  t.align.sets = s.align.sets.map F ∧ t.align.centreX = s.align.centreX ∧ t.align.centreY = s.align.centreY

theorem setsSkipped_of {s t : State} (hsets : t.align.sets = s.align.sets) (hx : t.align.centreX = s.align.centreX)
    (hy : t.align.centreY = s.align.centreY) : SetsSkipped s t :=
  ⟨id, fun x => ⟨x.skipped, rfl⟩, by rw [hsets, List.map_id], hx, hy⟩

theorem setsSkipped_of_align {s t : State} (h : t.align = s.align) : SetsSkipped s t :=
  setsSkipped_of (by rw [h]) (by rw [h]) (by rw [h])

theorem SetsSkipped.refl (s : State) : SetsSkipped s s := setsSkipped_of_align rfl

theorem SetsSkipped.trans {s t u : State} (h : SetsSkipped s t) (h' : SetsSkipped t u) : SetsSkipped s u := by
  obtain ⟨F, hF, hs, hx, hy⟩ := h
  obtain ⟨G, hG, hs', hx', hy'⟩ := h'
  refine ⟨G ∘ F, fun x => ?_, by rw [hs', hs, List.map_map], hx'.trans hx, hy'.trans hy⟩
  obtain ⟨b, hb⟩ := hF x
  obtain ⟨b', hb'⟩ := hG { x with skipped := b }
  exact ⟨b', by rw [Function.comp, hb, hb']⟩

theorem setsSkipped_skipFrame (n : Nat) (s : State) : SetsSkipped s (skipFrame n s) := by
  rw [skipFrame_eq]
  split
  case h_1 f _ =>
    split
    · exact .refl s
    · have hdrop : (dropWork n s).align = s.align := changesOnly_dropWork n s .align (by simp)
      have hgiven : (frameGivenUp n f s).align = (modSet n (fun x => { x with skipped := true }) (dropWork n s)).align :=
        ((changesOnly_releaseSlots f.cameras _).comp
          ((changesOnly_modSafety _ _).comp (changesOnly_modCounters _ _))) .align (by simp)
      refine ⟨fun x => if x.frame == n then { x with skipped := true } else x, fun x => ?_, ?_, ?_, ?_⟩
      · by_cases hx : (x.frame == n) = true
        · exact ⟨true, if_pos hx⟩
        · exact ⟨x.skipped, if_neg hx⟩
      · rw [hgiven, ← hdrop]
        rfl
      · rw [hgiven, ← hdrop]
        rfl
      · rw [hgiven, ← hdrop]
        rfl
  · exact .refl s

theorem setsSkipped_kickGate (g key : Nat) (s : State) : SetsSkipped s (kickGate g key s) := by
  rw [kickGate_eq]
  split
  · exact .refl s
  · split
    · exact setsSkipped_of_align (changesOnly_kickTaken g key s .align (by simp))
    · have hmissed : SetsSkipped s (missReported g key s) :=
        setsSkipped_of_align (changesOnly_missReported g key s .align (by simp))
      rw [gateMissed_eq]
      split
      · exact hmissed.trans (setsSkipped_skipFrame _ _)
      · exact hmissed

theorem SetsSkipped.all {s t : State} {n : Nat} {P : FusionSet → Prop} (h : SetsSkipped s t)
    (hP : ∀ x b, P x → P { x with skipped := b }) (hs : ∀ g ∈ s.align.sets, g.frame = n → P g) :
    ∀ g ∈ t.align.sets, g.frame = n → P g := by
  obtain ⟨F, hF, hsets, -, -⟩ := h
  intro g hg hn
  rw [hsets] at hg
  obtain ⟨x, hx, rfl⟩ := List.mem_map.1 hg
  obtain ⟨b, hb⟩ := hF x
  rw [hb] at hn ⊢
  exact hP x b (hs x hx hn)

/-- Every set of a frame after a change of the sets of that frame. -/
theorem modSet_all {n : Nat} {f : FusionSet → FusionSet} {s : State} {P : FusionSet → Prop} (hf : ∀ x, P (f x)) :
    ∀ g ∈ (modSet n f s).align.sets, g.frame = n → P g := by
  intro g hg hn
  obtain ⟨x, -, rfl⟩ := List.mem_map.1 hg
  split at hn
  next h => rw [if_pos h]; exact hf x
  next h => exact absurd (by simpa using hn) h

/-! ## A set is complete (R24, R181) -/

/-- Work that leaves the sets as they were but for those given up. -/
def SetWork (s t : State) : Prop := SetsSkipped s t ∧
  ChangesOnly [.rink, .point, .glide, .align, .ingest, .safety, .patrol] s t

theorem SetWork.refl (s : State) : SetWork s s := ⟨.refl s, .refl _ s⟩

theorem SetWork.trans {s t u : State} (h : SetWork s t) (h' : SetWork t u) : SetWork s u :=
  ⟨h.1.trans h'.1, h.2.step h'.2⟩

theorem setWork_skipFrame (n : Nat) (s : State) : SetWork s (skipFrame n s) :=
  ⟨setsSkipped_skipFrame n s, (changesOnly_skipFrame n s).mono (by simp)⟩

theorem setWork_kickGate (g key : Nat) (s : State) : SetWork s (kickGate g key s) :=
  ⟨setsSkipped_kickGate g key s, (changesOnly_kickGate g key s).mono (by simp)⟩

theorem setWork_of_patrol {s t : State} (h : ChangesOnly [.patrol] s t) : SetWork s t :=
  ⟨setsSkipped_of_align (h .align (by simp)), h.mono (by simp)⟩

theorem setWork_modRink (f : Rink → Rink) (s : State) : SetWork s (modRink f s) :=
  ⟨setsSkipped_of_align rfl, (changesOnly_modRink f s).mono (by simp)⟩

theorem setWork_emptyRun (n : Nat) (s : State) : SetWork s (modAlign (fun a => { a with emptyRun := n }) s) :=
  ⟨setsSkipped_of rfl rfl rfl, (changesOnly_modAlign _ s).mono (by simp)⟩

theorem setWork_completeSet (n : Nat) (s : State) : SetWork s (completeSet n s) := by
  have hagain := fun bad (u : State) => setWork_of_patrol (changesOnly_evaluateAgain (alignFault 27) 0 4 bad u)
  unfold completeSet
  split
  · exact .refl s
  · extract_lets run s1 full s2 s3
    have h1 : SetWork s s1 := (setWork_emptyRun run s).trans (setWork_skipFrame n _)
    have h2 : SetWork s s2 := by
      refine (setWork_emptyRun 0 s).trans ?_
      show SetWork full (if 3 ≤ s.align.emptyRun then evaluateAgain (alignFault 27) 0 4 false full else full)
      split
      · exact hagain false full
      · exact .refl full
    split
    · exact .refl s
    · split
      · split
        · exact h1.trans (setWork_of_patrol (changesOnly_report _ _ _ _ _ _))
        · split
          · exact h1.trans (hagain true s1)
          · exact h1
      · split
        · exact h2
        · split
          · exact h2.trans (setWork_skipFrame n s2)
          · have h3 : SetWork s2 s3 := by
              show SetWork s2 (match s2.rink.waitingFrame with | some w => if w = n then s2 else skipFrame w s2 | none => s2)
              split
              · split
                · exact .refl s2
                · exact setWork_skipFrame _ s2
              · exact .refl s2
            exact h2.trans (h3.trans (setWork_modRink _ s3))

end Sys2Proof.Machine
end

section
/-! The parts of a fusion set close, and the pose at F becomes available (O30; R179, R181, R184, R217). -/

namespace Sys2Proof.Machine

/-! ## The judgement of a part changes nothing else -/

theorem changesOnly_admitUnit (n i : Nat) (u : SetUnit) (s : State) : ChangesOnly [.align, .ingest] s (admitUnit n i u s) := by
  unfold admitUnit
  split
  · split
    · split
      · exact ((changesOnly_modReceiver i _ s).comp (changesOnly_modSet n _ _)).mono (by simp)
      · exact (changesOnly_modTrust i _ s).mono (by simp)
    · exact .refl _ s
  · exact ((changesOnly_modLidar (i - 8) _ s).comp (changesOnly_modSet n _ _)).mono (by simp)

theorem changesOnly_judgeSource (n : Nat) (f : Dts) (s : State) (i : Nat) :
    ChangesOnly [.align, .ingest, .patrol] s (judgeSource n f s i) := by
  by_cases hdue : dueIn s i = true
  · have hmet : ChangesOnly [.align, .ingest, .patrol] s (sourceMet n f s i) := by
      have htrust := (changesOnly_modTrust i trustHit s).mono (show [Part.align] ⊆ [.align, .ingest, .patrol] by simp)
      unfold sourceMet
      split
      · split
        · exact changesOnly_ite
            (fun _ => htrust.step ((changesOnly_admitUnit n i _ _).mono (by simp))) fun _ => htrust
        · exact htrust
      · exact changesOnly_ite (fun _ => .refl _ s) fun _ => (changesOnly_modTrust i _ s).mono (by simp)
    rw [judgeSource_due hdue]
    exact hmet.step (((changesOnly_modTrust i _ _).comp (changesOnly_checkTimeTrust i _)).mono (by simp))
  · unfold judgeSource
    rw [if_pos (by simpa using hdue)]
    exact (changesOnly_modTrust i _ s).mono (by simp)

/-- The sources of a part are judged. -/
def partJudged (cameras : Bool) (f : FusionSet) (s : State) : State :=
  (partSources cameras).foldl (judgeSource f.frame f.instant) s

theorem changesOnly_partJudged (cameras : Bool) (f : FusionSet) (s : State) :
    ChangesOnly [.align, .ingest, .patrol] s (partJudged cameras f s) :=
  changesOnly_foldl (fun t i => changesOnly_judgeSource f.frame f.instant t i) _ s

/-! ## Which part closes (R179) -/

theorem find_closes {s : State} {cameras : Bool} {pre post : List FusionSet} {f : FusionSet}
    (hsets : s.align.sets = pre ++ f :: post) (hpre : ∀ g ∈ pre, closesNow s cameras g = false)
    (hf : closesNow s cameras f = true) : s.align.sets.find? (closesNow s cameras) = some f := by
  rw [hsets, List.find?_append, List.find?_eq_none.2 fun g hg => by rw [hpre g hg]; exact Bool.false_ne_true]
  exact List.find?_cons_of_pos hf

theorem closesNow_camera {s : State} {f : FusionSet} (hopen : f.cameraClosed = false) (hin : f.skipped = false)
    (ht : f.instant ≤ now s)
    (hdue : partReady s f.instant true = true ∨ f.instant + cameraCloseMs s * msUnits ≤ now s) :
    closesNow s true f = true := by
  unfold closesNow
  rcases hdue with h | h <;> simp [hopen, hin, ht, h]

theorem closesNow_lidar {s : State} {f : FusionSet} (hopen : f.lidarClosed = false) (hin : f.skipped = false)
    (ht : f.instant ≤ now s)
    (hdue : partReady s f.instant false = true ∨ f.instant + lidarCloseMs s * msUnits ≤ now s) :
    closesNow s false f = true := by
  unfold closesNow
  rcases hdue with h | h <;> simp [hopen, hin, ht, h]

theorem find_none {s : State} {cameras : Bool} (h : ∀ g ∈ s.align.sets, closesNow s cameras g = false) :
    s.align.sets.find? (closesNow s cameras) = none :=
  List.find?_eq_none.2 fun g hg => by rw [h g hg]; exact Bool.false_ne_true

/-! ## The camera part -/

section
variable {s : State} {f : FusionSet}

/-- The camera part of a set has closed. -/
def cameraClosing (f : FusionSet) (s : State) : State :=
  modSet f.frame (fun x => { x with cameraClosed := true }) (partJudged true f s)

theorem execCameraPartClose_due (ha : awake s = true) (hr : inRun s = true)
    (hf : s.align.sets.find? (closesNow s true) = some f) :
    execCameraPartClose s = answer s (completeSet f.frame (cameraClosing f s)) := by
  unfold execCameraPartClose awakeAnswer
  rw [if_pos ha]
  simp only [hf, hr, Bool.not_true, Bool.false_eq_true, if_false]
  rfl

theorem cameraPartCloses (ha : awake s = true) (hr : inRun s = true)
    (hf : s.align.sets.find? (closesNow s true) = some f) : Completes .cameraPartClose s fun t =>
      (∀ g ∈ t.align.sets, g.frame = f.frame → g.cameraClosed = true) ∧
      ChangesOnly [.align, .ingest, .patrol, .rink, .safety, .point, .glide] s t := by
  refine completes_of_answer (exec_cameraPartClose s |>.trans (execCameraPartClose_due ha hr hf)) ?_
  obtain ⟨hsets, hframe⟩ := setWork_completeSet f.frame (cameraClosing f s)
  have hclosed : ChangesOnly [.align, .ingest, .patrol] s (cameraClosing f s) :=
    (changesOnly_partJudged true f s).step ((changesOnly_modSet _ _ _).mono (by simp))
  rw [settle_align]
  exact ⟨hsets.all (P := fun g => g.cameraClosed = true) (fun _ _ h => h) (modSet_all fun _ => rfl),
    ((hclosed.comp hframe).mono (by simp)).settle s⟩

end

/-! ## The pose at F (R183, R184) -/

theorem changesOnly_rebaseAt (p : PoseEntry) (s : State) : ChangesOnly [.align] s (rebaseAt p s) := by
  unfold rebaseAt
  exact changesOnly_ite (fun _ => changesOnly_modAlign _ s) fun _ => .refl _ s

/-- A set whose pose at F is available. -/
def poseNoted (q : PoseEntry) (x : FusionSet) : FusionSet := { x with poseReady := true, originZ := q.posZ }

theorem changesOnly_poseAtFusion (f : FusionSet) (s : State) :
    ChangesOnly [.align, .patrol, .safety, .ingest, .rink, .point, .glide] s (poseAtFusion f s) := by
  unfold poseAtFusion
  split
  · exact .refl _ s
  · extract_lets s1 q s2
    have h1 : ChangesOnly [.align, .patrol] s s1 :=
      changesOnly_ite (fun _ => .refl _ s) fun _ => (changesOnly_rebaseAt _ s).mono (by simp)
    have h2 : ChangesOnly [.align, .patrol] s1 s2 :=
      changesOnly_ite (fun _ => .refl _ s1) fun _ => changesOnly_orderScroll _ _ s1
    exact ((h1.step h2).comp ((changesOnly_modSet f.frame _ s2).comp (changesOnly_kickGate 2 f.frame _))).mono (by simp)

theorem poseAtFusion_still {f : FusionSet} {p : PoseEntry} {s : State} (hw : isWorker s = false)
    (hp : poseAt s f.instant = some p) (hr : rebaseAt p s = s) : poseAtFusion f s =
      kickGate 2 f.frame (modSet f.frame (poseNoted p) (orderScroll f.frame p s)) := by
  have hq : (poseAt (if isWorker s then s else rebaseAt p s) f.instant).getD p = p := by
    rw [hw, if_neg Bool.false_ne_true, hr, hp]
    rfl
  unfold poseAtFusion
  simp only [hp, hq]
  rw [hw]
  simp only [Bool.false_eq_true, if_false, hr]
  rfl

theorem poseBecomesAvailable {f : FusionSet} {p : PoseEntry} {s : State} (ha : awake s = true) (hw : isWorker s = false)
    (hf : s.align.sets.find? (fun f => !f.poseReady && !f.skipped && decide (f.instant ≤ now s) &&
      (poseAt s f.instant).isSome) = some f) (hp : poseAt s f.instant = some p) (hr : rebaseAt p s = s) :
    Completes .poseAtFusionInstant s fun t =>
      (∀ g ∈ t.align.sets, g.frame = f.frame → g.poseReady = true ∧ g.originZ = p.posZ) ∧
      t.align.centreX = (orderScroll f.frame p s).align.centreX ∧
      t.align.centreY = (orderScroll f.frame p s).align.centreY ∧
      ChangesOnly [.align, .patrol, .safety, .ingest, .rink, .point, .glide] s t := by
  refine completes_of_awake (exec_poseAtFusionInstant s) ha ?_
  simp only [hf]
  have hframe := changesOnly_poseAtFusion f s
  rw [poseAtFusion_still hw hp hr] at hframe ⊢
  have hsets := setsSkipped_kickGate 2 f.frame (modSet f.frame (poseNoted p) (orderScroll f.frame p s))
  obtain ⟨-, -, -, hx, hy⟩ := id hsets
  rw [settle_align]
  exact ⟨hsets.all (P := fun g => g.poseReady = true ∧ g.originZ = p.posZ) (fun _ _ h => h) (modSet_all fun _ => ⟨rfl, rfl⟩),
    hx, hy, hframe.settle s⟩

/-! ## The take of a frame is handed on (R171, R208, R217) -/

/-- One sweep of a set is handed on. -/
def handSweep (a : State × List DeskPoint) (l : Nat) : State × List DeskPoint :=
  (modLidar l (fun x => { x with inUse := x.inUse.map (fun w => { w with handed := true }) })
    (modPoint (fun p => { p with
        lidars := vmod p.lidars l (fun c => { c with seen := satAdd 32 c.seen (deskewSweep a.1 l).1.length }) })
      (modTrust (l + 8) (fun t => { t with deskewRefused := satAdd 32 t.deskewRefused (deskewSweep a.1 l).2 }) a.1)),
   a.2 ++ (deskewSweep a.1 l).1)

theorem handSweeps_keep (l : List Nat) : ∀ a : State × List DeskPoint, SetsSkipped a.1 (l.foldl handSweep a).1 ∧
    ChangesOnly [.align, .ingest, .point] a.1 (l.foldl handSweep a).1 := by
  induction l with
  | nil => exact fun a => ⟨.refl _, .refl _ _⟩
  | cons x l ih =>
    intro a
    obtain ⟨hs, hc⟩ := ih (handSweep a x)
    have hone : ChangesOnly [.align, .ingest, .point] a.1 (handSweep a x).1 :=
      ((changesOnly_modTrust _ _ a.1).comp ((changesOnly_modPoint _ _).comp (changesOnly_modLidar x _ _))).mono (by simp)
    exact ⟨(setsSkipped_of rfl rfl rfl : SetsSkipped a.1 (handSweep a x).1).trans hs, hone.step hc⟩

/-- The sweeps of a set, handed on. -/
def sweepsHanded (f : FusionSet) (s : State) : State := (f.lidars.foldl handSweep (s, [])).1

/-- The take of a set. -/
def takeMade (f : FusionSet) (s : State) : Take :=
  { frame := f.frame, instant := f.instant, points := (f.lidars.foldl handSweep (s, [])).2.sortBy pointBefore,
    lidarClose := now s, begun := false, complete := false, truncated := [], noLidar := f.lidars.isEmpty, dropped := false,
    originZ := if f.poseReady then f.originZ else freeNat 32 (sweepsHanded f s),
    centreX := f.centreX, centreY := f.centreY,
    reduced := (if f.poseReady then sweepsHanded f s else spent (sweepsHanded f s)).rink.reduced }

/-- A take waits, and those before it are given up. -/
def takeQueued (x : Take) (p : PointState) : PointState :=
  { p with
    takeSkipped := satAdd 32 p.takeSkipped (p.waiting.filter (fun t => !t.dropped)).length,
    waiting := p.waiting.map (fun t => { t with points := [], noLidar := true, dropped := true }) ++ [x] }

theorem handTake_eq (f : FusionSet) (s : State) : handTake f s = modPoint (takeQueued (takeMade f s))
    (if f.poseReady then sweepsHanded f s else spent (sweepsHanded f s)) := rfl

theorem handTake_keeps (f : FusionSet) (s : State) : SetsSkipped s (handTake f s) ∧
    ChangesOnly [.align, .ingest, .point, .freeCount] s (handTake f s) := by
  obtain ⟨hs, hc⟩ := handSweeps_keep f.lidars (s, [])
  have hspent : SetsSkipped s (if f.poseReady then sweepsHanded f s else spent (sweepsHanded f s)) ∧
      ChangesOnly [.align, .ingest, .point, .freeCount] s (if f.poseReady then sweepsHanded f s else spent (sweepsHanded f s)) := by
    by_cases hp : f.poseReady = true
    · rw [if_pos hp]
      exact ⟨hs, hc.mono (by simp)⟩
    · rw [if_neg hp]
      exact ⟨hs.trans (setsSkipped_of_align rfl), (hc.comp (changesOnly_spent _)).mono (by simp)⟩
  rw [handTake_eq]
  exact ⟨hspent.1.trans (setsSkipped_of_align rfl), hspent.2.step ((changesOnly_modPoint _ _).mono (by simp))⟩

theorem changesOnly_armGate (g key opens closes : Nat) (s : State) : ChangesOnly [.safety] s (armGate g key opens closes s) := by
  unfold armGate
  exact changesOnly_ite (fun _ => .refl _ s) fun _ => changesOnly_modGate g _ s

/-! ## The lidar part -/

/-- The lidar part of a set has closed, and Gate 3 has taken it. -/
def lidarClosing (f : FusionSet) (s : State) : State :=
  kickGate 3 f.frame (modSet f.frame (fun x => { x with lidarClosed := true })
    (partJudged false f (if f.poseReady then s else poseAtFusion f s)))

/-- A frame whose take has been handed on, Gate 4 armed from the instant of the close. -/
def takeHanded (o : State) (g : FusionSet) (s : State) : State :=
  armGate 4 g.frame (now o + gateMin o 4) (now o + gateMax o 4) (handTake g s)

/-- The scan match of a frame. -/
def scanStarted (g : FusionSet) (s : State) : ScanMatch :=
  { frame := g.frame, instant := g.instant, iterations := 0, converged := false,
    points := pickEvenly (pointsOf s g.frame), matched := 0, outs := [], jobRunning := false }

/-- What follows the close of a lidar part. -/
def lidarFollowed (o : State) (f : FusionSet) (s : State) : State :=
  match setOf s f.frame with
  | none => s
  | some g =>
    if g.skipped then s
    else completeSet g.frame
      (if !g.lidars.isEmpty && (takeHanded o g s).align.sets.any (fun x => x.frame + 1 == g.frame && !x.lidars.isEmpty) then
        modAlign (fun a => { a with scan := some (scanStarted g (takeHanded o g s)) }) (takeHanded o g s)
      else takeHanded o g s)

theorem lidarFollowed_keeps (o : State) (f : FusionSet) (s : State) : SetsSkipped s (lidarFollowed o f s) ∧
    ChangesOnly [.align, .ingest, .patrol, .rink, .safety, .point, .glide, .freeCount] s (lidarFollowed o f s) := by
  unfold lidarFollowed
  cases setOf s f.frame with
  | none => exact ⟨.refl s, .refl _ s⟩
  | some g =>
    simp only
    by_cases hskip : g.skipped = true
    · rw [if_pos hskip]
      exact ⟨.refl s, .refl _ s⟩
    rw [if_neg hskip]
    obtain ⟨hs, hc⟩ := handTake_keeps g s
    have harm := changesOnly_armGate 4 g.frame (now o + gateMin o 4) (now o + gateMax o 4) (handTake g s)
    have hhanded : SetsSkipped s (takeHanded o g s) := hs.trans (setsSkipped_of_align (harm .align (by simp)))
    have hframe : ChangesOnly [.align, .ingest, .patrol, .rink, .safety, .point, .glide, .freeCount] s (takeHanded o g s) :=
      (hc.comp harm).mono (by simp)
    generalize takeHanded o g s = u at hhanded hframe ⊢
    by_cases hscan : (!g.lidars.isEmpty && u.align.sets.any (fun x => x.frame + 1 == g.frame && !x.lidars.isEmpty)) = true
    · rw [if_pos hscan]
      obtain ⟨hsets, hwork⟩ := setWork_completeSet g.frame (modAlign (fun a => { a with scan := some (scanStarted g u) }) u)
      exact ⟨(hhanded.trans (setsSkipped_of rfl rfl rfl)).trans hsets,
        hframe.step (((changesOnly_modAlign _ u).comp hwork).mono (by simp))⟩
    · rw [if_neg hscan]
      obtain ⟨hsets, hwork⟩ := setWork_completeSet g.frame u
      exact ⟨hhanded.trans hsets, hframe.step (hwork.mono (by simp))⟩

section
variable {s : State} {f : FusionSet}

theorem execLidarPartClose_due (ha : awake s = true) (hr : inRun s = true)
    (hf : s.align.sets.find? (closesNow s false) = some f) :
    execLidarPartClose s = answer s (lidarFollowed s f (lidarClosing f s)) := by
  unfold execLidarPartClose awakeAnswer
  rw [if_pos ha]
  simp only [hf, hr, Bool.not_true, Bool.false_eq_true, if_false]
  unfold lidarFollowed takeHanded scanStarted lidarClosing partJudged
  generalize kickGate 3 f.frame _ = u
  cases setOf u f.frame with
  | none => rfl
  | some g => rfl

theorem lidarPartCloses (ha : awake s = true) (hr : inRun s = true)
    (hf : s.align.sets.find? (closesNow s false) = some f) : Completes .lidarPartClose s fun t =>
      (∀ g ∈ t.align.sets, g.frame = f.frame → g.lidarClosed = true) ∧
      ChangesOnly [.align, .ingest, .patrol, .rink, .safety, .point, .glide, .freeCount] s t := by
  refine completes_of_answer (exec_lidarPartClose s |>.trans (execLidarPartClose_due ha hr hf)) ?_
  obtain ⟨hsets, hframe⟩ := lidarFollowed_keeps s f (lidarClosing f s)
  have hpose : ChangesOnly [.align, .patrol, .safety, .ingest, .rink, .point, .glide] s
      (if f.poseReady then s else poseAtFusion f s) :=
    changesOnly_ite (fun _ => .refl _ s) fun _ => changesOnly_poseAtFusion f s
  have hclosing : ChangesOnly [.align, .patrol, .safety, .ingest, .rink, .point, .glide] s (lidarClosing f s) :=
    hpose.step (((changesOnly_partJudged false f _).comp ((changesOnly_modSet f.frame _ _).comp
      (changesOnly_kickGate 3 f.frame _))).mono (by simp))
  have hkick : SetsSkipped (modSet f.frame (fun x => { x with lidarClosed := true })
      (partJudged false f (if f.poseReady then s else poseAtFusion f s))) (lidarClosing f s) := setsSkipped_kickGate 3 f.frame _
  generalize lidarFollowed s f (lidarClosing f s) = u at hsets hframe ⊢
  rw [settle_align]
  exact ⟨(hkick.trans hsets).all (P := fun g => g.lidarClosed = true) (fun _ _ h => h) (modSet_all fun _ => rfl),
    ((hclosing.comp hframe).mono (by simp)).settle s⟩

end

/-! ## The obligation -/

/-- Settles O30: the closes, the judgement of a source, the scroll, and the pose at F. -/
theorem fusionSetsCloseAndScroll : Obligations.FusionSetsCloseAndScroll := by
  unfold Obligations.FusionSetsCloseAndScroll
  refine ⟨⟨fun s ha hr => ⟨fun pre post f hsets hpre hopen hin ht hdue => ?_, fun hall => ?_,
      fun pre post f hsets hpre hopen hin ht hdue => ?_, fun hall => ?_⟩, fun n i f s hi hdue =>
        ⟨fun u => sourceHits hi hdue, sourceDamagedInWindow hi hdue, sourceMissing hi hdue⟩⟩,
    fun n p s => ⟨fun hx hy => ?_, fun hfar => ?_⟩, fun f p s ha hw => poseBecomesAvailable ha hw⟩
  · exact cameraPartCloses ha hr (find_closes hsets hpre (closesNow_camera hopen hin ht hdue))
  · refine completes_of_awake (exec_cameraPartClose s) ha ?_
    have hnone : s.align.sets.find? (closesNow s true) = none := find_none fun g hg => by
      unfold closesNow
      rcases hall g hg with h | h | h | ⟨h, h'⟩
      · simp [h]
      · simp [h]
      · simp [Nat.not_le.2 h]
      · simp [h, Nat.not_le.2 h']
    simp only [hnone]
    exact (ChangesOnly.refl [] s).settle s
  · exact lidarPartCloses ha hr (find_closes hsets hpre (closesNow_lidar hopen hin ht hdue))
  · refine completes_of_awake (exec_lidarPartClose s) ha ?_
    have hnone : s.align.sets.find? (closesNow s false) = none := find_none fun g hg => by
      unfold closesNow
      rcases hall g hg with h | h | h | ⟨h, h'⟩
      · simp [h]
      · simp [h]
      · simp [Nat.not_le.2 h]
      · simp [h, Nat.not_le.2 h']
    simp only [hnone]
    exact (ChangesOnly.refl [] s).settle s
  · have hnear : stillFar p s = false := by
      rw [stillFar, Bool.or_eq_false_iff, ← Bool.not_eq_true, ← Bool.not_eq_true, farFrom_iff, farFrom_iff, scrolledX, scrolledY,
        scrollOf_eq, scrollOf_eq]
      exact ⟨not_lt.2 hx, not_lt.2 hy⟩
    have hordered := orderScroll_near (n := n) hnear
    rw [scrolledX, scrolledY, scrollOf_eq, scrollOf_eq] at hordered
    exact hordered
  · refine orderScroll_far ?_
    rw [stillFar, Bool.or_eq_true, farFrom_iff, farFrom_iff, scrolledX, scrolledY, scrollOf_eq, scrollOf_eq]
    exact hfar

end Sys2Proof.Machine
end

section
/-! Scan-match iterations, the vote's deadline and the wheel update (O32; R148, R161, R185, R193). -/

namespace Sys2Proof.Machine

/-! ## A scan-match iteration (R185) -/

theorem vget_map {α β : Type} [Inhabited α] [Inhabited β] {n i : Nat} (f : α → β) (v : Vector α n) (h : i < n) :
    vget (v.map f) i = f (vget v i) := by
  rw [vget_eq_getElem _ h, vget_eq_getElem _ h, Vector.getElem_map]

theorem vget_ofFn {α : Type} [Inhabited α] {n i : Nat} (f : Fin n → α) (h : i < n) : vget (Vector.ofFn f) i = f ⟨i, h⟩ := by
  rw [vget_eq_getElem _ h, Vector.getElem_ofFn]

theorem changesOnly_issueJob (owner : JobOwner) (desc : Bytes) (input : List Nat) (deadline : Option Nat) (s : State) :
    ChangesOnly [.solver] s (issueJob owner desc input deadline s) := changesOnly_modSolver _ s

theorem scanIterates {m : ScanMatch} {s : State} (ha : awake s = true) (hscan : s.align.scan = some m)
    (hidle : m.jobRunning = false) (hgoing : m.converged = false) (hmore : m.iterations < fld (setting s 0x0503 0) 176 8)
    (htime : now s < scanEnd s m.instant) : Completes .scanMatchIteration s fun t =>
      (∃ x, t.align.scan = some x ∧ x.frame = m.frame ∧ x.jobRunning = true ∧ x.iterations = m.iterations) ∧
      (∃ j, t.solver.jobs = s.solver.jobs ++ [j] ∧ j.owner = .lidarVoter ∧ j.running = none) ∧
      ChangesOnly [.align, .solver] s t := by
  refine completes_of_awake (exec_scanMatchIteration s) ha ?_
  have hgo : (m.jobRunning || m.converged || decide (fld (setting s 0x0503 0) 176 8 ≤ m.iterations) ||
      decide (scanEnd s m.instant ≤ now s)) = false := by
    rw [hidle, hgoing, decide_eq_false (Nat.not_le.2 hmore), decide_eq_false (Nat.not_le.2 htime)]
    rfl
  simp only [hscan, hgo, Bool.false_eq_true, if_false]
  have hframe := fun (f : ScanMatch → ScanMatch) (d : Bytes) (i : List Nat) (e : Option Nat) =>
    (changesOnly_modAlign (fun (a : Align) => { a with scan := a.scan.map f }) s).comp
      (changesOnly_issueJob .lidarVoter d i e (modScan f s))
  rw [settle_align, settle_solver]
  refine ⟨⟨_, congrArg (Option.map _) hscan, rfl, rfl, rfl⟩, ⟨_, rfl, rfl, rfl⟩, (hframe _ _ _ _).settle s⟩

/-! ## Work that only reports -/

/-- Work that keeps the device state, and of Patrol changes the reports on the fault wires and the record of journalling
alone. -/
structure OnlyReports (s t : State) : Prop where
  state : t.dev.state = s.dev.state
  patrol : ∃ w j, t.patrol = { s.patrol with wires := w, journalDue := j }

theorem OnlyReports.refl (s : State) : OnlyReports s s := ⟨rfl, s.patrol.wires, s.patrol.journalDue, rfl⟩

theorem OnlyReports.trans {s t u : State} (h : OnlyReports s t) (h' : OnlyReports t u) : OnlyReports s u := by
  obtain ⟨hstate, w, j, hpatrol⟩ := h
  obtain ⟨hstate', w', j', hpatrol'⟩ := h'
  exact ⟨hstate'.trans hstate, w', j', by rw [hpatrol', hpatrol]⟩

theorem OnlyReports.of_frame {l : List Part} {s t : State} (h : ChangesOnly l s t) (hd : Part.device ∉ l)
    (hp : Part.patrol ∉ l) : OnlyReports s t := by
  have hdev : { t.dev with degradation := 0 } = { s.dev with degradation := 0 } := h .device hd
  have hstate := congrArg Dev.state hdev
  exact ⟨hstate, s.patrol.wires, s.patrol.journalDue, h .patrol hp⟩

theorem onlyReports_report (src unit level : Nat) (cls : FaultClass) (detail : Nat) (s : State) :
    OnlyReports s (report src unit level cls detail s) := ⟨rfl, _, s.patrol.journalDue, rfl⟩

theorem onlyReports_reportClean (src unit : Nat) (s : State) : OnlyReports s (reportClean src unit s) :=
  ⟨rfl, _, s.patrol.journalDue, rfl⟩

theorem onlyReports_evaluateAgain (src unit level : Nat) (bad : Bool) (s : State) :
    OnlyReports s (evaluateAgain src unit level bad s) := by
  unfold evaluateAgain
  split_ifs
  · exact .refl s
  · exact onlyReports_report _ _ _ _ _ s
  · exact onlyReports_reportClean _ _ s

theorem onlyReports_foldl {α : Type} {f : State → α → State} (h : ∀ s x, OnlyReports s (f s x)) (l : List α) :
    ∀ s, OnlyReports s (l.foldl f s) := by
  induction l with
  | nil => exact fun s => .refl s
  | cons x l ih => exact fun s => (h s x).trans (ih _)

/-! ## The vote of a frame (R190, R192) -/

/-- Work of a vote: it does not count frames. -/
def VoteWork (s t : State) : Prop :=
  t.align.votedFrames = s.align.votedFrames ∧ ChangesOnly [.align, .patrol] s t ∧ OnlyReports s t

theorem VoteWork.refl (s : State) : VoteWork s s := ⟨rfl, .refl _ s, .refl s⟩

theorem VoteWork.trans {s t u : State} (h : VoteWork s t) (h' : VoteWork t u) : VoteWork s u :=
  ⟨h'.1.trans h.1, h.2.1.step h'.2.1, h.2.2.trans h'.2.2⟩

theorem voteWork_of_align {s t : State} (h : ChangesOnly [.align] s t) (hv : t.align.votedFrames = s.align.votedFrames) :
    VoteWork s t := ⟨hv, h.mono (by simp), .of_frame h (by simp) (by simp)⟩

theorem voteWork_modAlign {f : Align → Align} (hf : ∀ a, (f a).votedFrames = a.votedFrames) (s : State) :
    VoteWork s (modAlign f s) := voteWork_of_align (changesOnly_modAlign f s) (hf s.align)

theorem voteWork_modVoter (v : Nat) (f : Voter → Voter) (s : State) : VoteWork s (modVoter v f s) :=
  voteWork_of_align (changesOnly_modAlign _ s) rfl

theorem voteWork_modTrust (i : Nat) (f : SourceTrust → SourceTrust) (s : State) : VoteWork s (modTrust i f s) :=
  voteWork_of_align (changesOnly_modTrust i f s) rfl

theorem voteWork_of_patrol {s t : State} (h : ChangesOnly [.patrol] s t) (hr : OnlyReports s t) : VoteWork s t :=
  ⟨congrArg Align.votedFrames (h .align (by simp)), h.mono (by simp), hr⟩

theorem voteWork_report (src unit level : Nat) (cls : FaultClass) (detail : Nat) (s : State) :
    VoteWork s (report src unit level cls detail s) :=
  voteWork_of_patrol (changesOnly_report _ _ _ _ _ s) (onlyReports_report _ _ _ _ _ s)

theorem voteWork_evaluateAgain (src unit level : Nat) (bad : Bool) (s : State) :
    VoteWork s (evaluateAgain src unit level bad s) :=
  voteWork_of_patrol (changesOnly_evaluateAgain _ _ _ _ s) (onlyReports_evaluateAgain _ _ _ _ s)

theorem voteWork_judgeImus (s : State) : VoteWork s (judgeImus s) := by
  unfold judgeImus
  split
  · exact .refl s
  · have halone := voteWork_modAlign (f := fun a => { a with primary := none, degradedEgo := true }) (fun _ => rfl) s
    exact halone.trans (voteWork_report _ _ _ _ _ _)

theorem voteWork_judgeVoter (v : Nat) (outlier agreed : Bool) (s : State) : VoteWork s (judgeVoter v outlier agreed s) := by
  unfold judgeVoter
  extract_lets k src
  split
  · split
    · exact (voteWork_modVoter _ _ s).trans (voteWork_evaluateAgain _ _ _ _ _)
    · split
      · exact .refl s
      · split
        · exact (voteWork_evaluateAgain _ _ _ _ s).trans (voteWork_modVoter _ _ _)
        · exact voteWork_modVoter _ _ s
  · split
    · exact voteWork_modVoter _ _ s
    · split
      · exact (voteWork_modVoter _ _ s).trans (voteWork_report _ _ _ _ _ _)
      · exact voteWork_modVoter _ _ s

theorem voteWork_judgeTrustAs (src i : Nat) (outlier agreed : Bool) (s : State) :
    VoteWork s (judgeTrustAs src i outlier agreed s) := by
  have hexcluding : ∀ (u v w : State), VoteWork s u → VoteWork s v → VoteWork s w → VoteWork s
      (if outlier then (if voteFrames s ≤ (sourceTrust s i).disagreeRun + 1 then u else v) else w) := by
    intro u v w hu hv hw
    split
    · split
      · exact hu
      · exact hv
    · exact hw
  have hin := hexcluding _ _ _
    ((voteWork_modTrust i (fun (t : SourceTrust) => { t with
      trust := .excluded, disagreeRun := (sourceTrust s i).disagreeRun + 1, shadowRun := 0, voteOuts := satAdd 16 t.voteOuts 1 }) s).trans
      (voteWork_report src 0 4 .uc 0 _))
    (voteWork_modTrust i (fun (t : SourceTrust) => { t with
      trust := .suspect, disagreeRun := (sourceTrust s i).disagreeRun + 1 }) s)
    (voteWork_modTrust i (fun (t : SourceTrust) => { t with trust := .trusted, disagreeRun := 0 }) s)
  unfold judgeTrustAs
  dsimp only
  split
  · exact hin
  · exact hin
  · split
    · exact (voteWork_modTrust i _ s).trans (voteWork_evaluateAgain _ _ _ _ _)
    · split
      · split
        · exact (voteWork_evaluateAgain _ _ _ _ s).trans (voteWork_modTrust i _ _)
        · exact voteWork_modTrust i _ s
      · exact .refl s
  · exact .refl s

theorem voteWork_foldl {α : Type} {f : State → α → State} (h : ∀ s x, VoteWork s (f s x)) (l : List α) :
    ∀ s, VoteWork s (l.foldl f s) := by
  induction l with
  | nil => exact fun s => .refl s
  | cons x l ih => exact fun s => (h s x).trans (ih _)

theorem voteWork_judgeImuVoter (outlier : Bool) (agrees : Nat → Option Bool) (s : State) :
    VoteWork s (judgeImuVoter outlier agrees s) := by
  unfold judgeImuVoter
  extract_lets s1 s2 shown
  have h1 : VoteWork s s1 := voteWork_foldl (fun t i => by
    split
    · exact .refl t
    · split
      · exact voteWork_judgeTrustAs _ _ _ _ t
      · exact .refl t) _ s
  have h2 : VoteWork s1 s2 := by
    show VoteWork s1 (match s.align.primary with
      | some i => if (sourceTrust s (16 + i)).trust == .excluded then s1
          else judgeTrustAs (alignFault 28) (16 + i) outlier false s1
      | none => s1)
    split
    · split
      · exact .refl s1
      · exact voteWork_judgeTrustAs _ _ _ _ s1
    · exact .refl s1
  exact h1.trans (h2.trans ((voteWork_modVoter _ _ s2).trans (voteWork_judgeImus _)))

theorem voteWork_applyVote (f : FusionSet) (b : Ballot) (s : State) : VoteWork s (applyVote f b s) := by
  unfold applyVote
  extract_lets trusted voting present len agree r group major judged imuAgrees s1 s2 s3
  have hjudged : ∀ v t, VoteWork t (judged v t) := fun v t => voteWork_judgeVoter _ _ _ t
  have h1 : VoteWork s s1 := ((hjudged 1 s).trans (hjudged 2 _)).trans (voteWork_judgeImuVoter _ _ _)
  have h2 : VoteWork s1 s2 := voteWork_foldl (fun t v => voteWork_modVoter _ _ t) _ s1
  have h3 : VoteWork s2 s3 := voteWork_modAlign (by exact fun _ => rfl) s2
  have hall := h1.trans (h2.trans h3)
  split
  · exact hall.trans (voteWork_report _ _ _ _ _ _)
  · exact hall

theorem voteWork_correctOdometry (n : Nat) (s : State) : VoteWork s (correctOdometry n s) := by
  unfold correctOdometry
  split
  · split
    · exact voteWork_modAlign (by exact fun _ => rfl) s
    · exact .refl s
  · exact .refl s

/-- A frame's vote is held and counted. -/
def voteClosed (f : FusionSet) (s : State) : State :=
  modSet f.frame (fun x => { x with voted := true }) (modAlign (fun a => { a with
    scan := a.scan.filter (fun m => m.frame != f.frame), votedFrames := a.votedFrames + 1 }) s)

/-- Every way to hold a frame's vote ends with the vote counted. -/
theorem holdEgoVote_closes (f : FusionSet) (s : State) : ∃ u, VoteWork s u ∧ holdEgoVote f s = voteClosed f u := by
  unfold holdEgoVote
  extract_lets close
  split
  case h_1 p _ =>
    split
    · exact ⟨s, .refl s, rfl⟩
    · extract_lets span before s1
      have h1 : VoteWork s s1 := by
        show VoteWork s (match before.imu, before.lidar with
          | some a, some c =>
            if motionsAgree s (ballotLength s before) a c then checkWheels (meanMotion a c) span s else s
          | _, _ => s)
        split
        · split
          · exact voteWork_modAlign (by exact fun _ => rfl) s
          · exact .refl s
        · exact .refl s
      exact ⟨_, h1.trans ((voteWork_applyVote f _ s1).trans (voteWork_correctOdometry f.frame _)), rfl⟩
  · exact ⟨s, .refl s, rfl⟩

theorem deadlineHoldsVote {f : FusionSet} {s : State} (ha : awake s = true) (hr : inRun s = true)
    (hf : s.align.sets.find? (fun f => !f.voted && decide (scanEnd s f.instant ≤ now s)) = some f) :
    Completes .scanDeadline s fun t => (∀ g ∈ t.align.sets, g.frame = f.frame → g.voted = true) ∧
      t.align.votedFrames = s.align.votedFrames + 1 ∧ ChangesOnly [.align, .patrol] s t := by
  refine completes_of_awake (exec_scanDeadline s) ha ?_
  simp only [hf, hr, if_true]
  obtain ⟨u, ⟨hcount, hframe, -⟩, hu⟩ := holdEgoVote_closes f s
  have hclosed : ChangesOnly [.align, .patrol] s (voteClosed f u) :=
    hframe.step (((changesOnly_modAlign _ u).step (changesOnly_modSet f.frame _ _)).mono (by simp))
  rw [hu, settle_align]
  exact ⟨modSet_all (P := fun g => g.voted = true) fun _ => rfl, congrArg (· + 1) hcount, hclosed.settle s⟩

/-! ## The wheel update (R148, R161) -/

theorem encoderSpeed_served {s : State} {w e : Nat} (h : wheelEncoder s w = some e) : encoderSpeed s w =
    match (vget s.ingest.encoders e).edges with
    | [] => some 0
    | first :: rest => match rest.getLast? with
      | none => some 0
      | some last =>
        if last.1 = first.1 then some 0
        else some ((fld (setting s 0x0406 e) 96 32 : Int) * wrap32 (last.2.1 - first.2.1) * (secUnits : Int) /
          ((fld (setting s 0x0406 e) 64 32 * (last.1 - first.1) : Nat) : Int)) := by
  unfold encoderSpeed
  rw [h] <;> rfl

theorem encoderSpeed_few {s : State} {w e : Nat} (h : wheelEncoder s w = some e)
    (hfew : (vget s.ingest.encoders e).edges.length < 2) : encoderSpeed s w = some 0 := by
  rw [encoderSpeed_served h]
  match hedges : (vget s.ingest.encoders e).edges with
  | [] => rfl
  | [_] => rfl
  | _ :: _ :: _ =>
    rw [hedges, List.length_cons, List.length_cons] at hfew
    omega

theorem encoderSpeed_edges {s : State} {w e : Nat} (h : wheelEncoder s w = some e) {a b : Dts × Int × Bool}
    {mid : List (Dts × Int × Bool)} (hedges : (vget s.ingest.encoders e).edges = a :: mid ++ [b]) (hlt : a.1 < b.1) :
    encoderSpeed s w = some ((fld (setting s 0x0406 e) 96 32 : Int) * wrap32 (b.2.1 - a.2.1) * secUnits /
      (fld (setting s 0x0406 e) 64 32 * (b.1 - a.1) : Nat)) := by
  rw [encoderSpeed_served h, hedges, List.cons_append]
  simp only [List.getLast?_concat]
  rw [if_neg (Nat.ne_of_gt hlt)]

theorem wheelSpeed_encoder {s : State} {w : Nat} {v : Int} (h : encoderSpeed s w = some v) :
    ∃ e, wheelSpeed s w = some (v, now s, 20 + e) := by
  have hserved : ∃ e, wheelEncoder s w = some e := by
    cases he : wheelEncoder s w with
    | some e => exact ⟨e, rfl⟩
    | none =>
      rw [encoderSpeed, he] at h
      exact nomatch h
  obtain ⟨e, he⟩ := hserved
  refine ⟨e, ?_⟩
  unfold wheelSpeed
  rw [he, h]

theorem updateWheel_encoder {s : State} {w : Nat} {v : Int} (h : encoderSpeed s w = some v) (x : Wheel) :
    (updateWheel s w x).speed = v ∧ (updateWheel s w x).hasData = true := by
  obtain ⟨e, he⟩ := wheelSpeed_encoder h
  unfold updateWheel
  rw [he]
  exact ⟨rfl, rfl⟩

/-- The wheel speeds have entered, and what they came from is taken. -/
def wheelsEntered (s : State) : State :=
  { s with
    align := { s.align with wheels := Vector.ofFn (fun (i : Fin 4) => updateWheel s i.val (vget s.align.wheels i.val)) },
    ingest := { s.ingest with
      encoders := s.ingest.encoders.map (fun (e : Encoder) => { e with edges := [] }),
      cans := s.ingest.cans.map (fun (c : Can) =>
        { c with latest := c.latest.map (fun p => (p.1, { p.2 with taken := true })) }) } }

/-- The velocity update and the judgement of the IMUs. -/
def wheelsJudged (s : State) : State :=
  judgeImus (if (wheelsEntered s).align.degradedEgo then wheelsEntered s else velocityUpdate (wheelsEntered s))

theorem changesOnly_wheelsEntered (s : State) : ChangesOnly [.align, .ingest] s (wheelsEntered s) := by
  rw [changesOnly_iff]
  simp [Part.same, wheelsEntered]

theorem velocityUpdate_keeps (s : State) : (velocityUpdate s).align.wheels = s.align.wheels ∧
    ChangesOnly [.align] s (velocityUpdate s) := by
  unfold velocityUpdate
  extract_lets n ws r
  split
  · exact ⟨rfl, .refl _ s⟩
  · exact ⟨rfl, changesOnly_modAlign (fun a => { a with fused := { n with numbers := r.1, filter := r.2 } }) s⟩

theorem wheels_judgeImus (s : State) : (judgeImus s).align.wheels = s.align.wheels := by
  unfold judgeImus
  split <;> rfl

theorem wheelsJudged_keeps (s : State) : (wheelsJudged s).align.wheels = (wheelsEntered s).align.wheels ∧
    ChangesOnly [.align, .patrol] (wheelsEntered s) (wheelsJudged s) := by
  obtain ⟨hwheels, hframe⟩ := velocityUpdate_keeps (wheelsEntered s)
  have hchosen : (if (wheelsEntered s).align.degradedEgo then wheelsEntered s
        else velocityUpdate (wheelsEntered s)).align.wheels = (wheelsEntered s).align.wheels := by
    split
    · rfl
    · exact hwheels
  exact ⟨(wheels_judgeImus _).trans hchosen,
    (changesOnly_ite (fun _ => .refl _ _) fun _ => hframe.mono (by simp)).step (changesOnly_judgeImus _)⟩

theorem execWheelVelocityUpdate_due {s : State} (ha : awake s = true) (hb : s.dev.state ≠ .boot) (hw : isWorker s = false)
    (hdue : s.align.lastWheelUpdate + 10 * msUnits ≤ now s) : execWheelVelocityUpdate s =
      answer s (modAlign (fun a => { a with lastWheelUpdate := now s }) (wheelsJudged s)) := by
  have hgo : ¬ (now s < s.align.lastWheelUpdate + 10 * msUnits ∨ s.dev.state = .boot) := by
    rintro (h | h)
    · exact Nat.not_lt.2 hdue h
    · exact hb h
  unfold execWheelVelocityUpdate awakeAnswer
  rw [if_pos ha]
  beta_reduce
  rw [if_neg hgo, if_neg (by rw [hw]; exact Bool.false_ne_true)]
  rfl

theorem wheelsUpdate {s : State} (ha : awake s = true) (hb : s.dev.state ≠ .boot) (hw : isWorker s = false)
    (hdue : s.align.lastWheelUpdate + 10 * msUnits ≤ now s) : Completes .wheelVelocityUpdate s fun t =>
      t.align.lastWheelUpdate = now s ∧
      (∀ w v, w < 4 → encoderSpeed s w = some v → (vget t.align.wheels w).speed = v ∧
        (vget t.align.wheels w).hasData = true) ∧
      (∀ w e, wheelEncoder s w = some e → ((vget s.ingest.encoders e).edges.length < 2 → encoderSpeed s w = some 0) ∧
        ∀ a mid b, (vget s.ingest.encoders e).edges = a :: mid ++ [b] → a.1 < b.1 → encoderSpeed s w =
          some ((fld (setting s 0x0406 e) 96 32 : Int) * wrap32 (b.2.1 - a.2.1) * secUnits /
            (fld (setting s 0x0406 e) 64 32 * (b.1 - a.1) : Nat))) ∧
      (∀ e, e < 4 → (vget t.ingest.encoders e).edges = []) ∧ ChangesOnly [.align, .ingest, .patrol] s t := by
  refine completes_of_answer (exec_wheelVelocityUpdate s |>.trans (execWheelVelocityUpdate_due ha hb hw hdue)) ?_
  obtain ⟨hwheels, hframe⟩ := wheelsJudged_keeps s
  have hall := (changesOnly_wheelsEntered s).comp (hframe.comp
    (changesOnly_modAlign (fun a => { a with lastWheelUpdate := now s }) (wheelsJudged s)))
  have hingest : (wheelsJudged s).ingest = (wheelsEntered s).ingest := hframe .ingest (by simp)
  have hencoders : ∀ e, e < 4 → (vget (wheelsEntered s).ingest.encoders e).edges = [] := fun e he =>
    congrArg Encoder.edges (vget_map _ _ he)
  have hupdated : ∀ w, w < 4 → vget (wheelsEntered s).align.wheels w = updateWheel s w (vget s.align.wheels w) :=
    fun w hw4 => vget_ofFn _ hw4
  rw [settle_align, settle_ingest]
  refine ⟨rfl, fun w v hw4 hv => ?_, fun w e he => ⟨encoderSpeed_few he, fun a mid b => encoderSpeed_edges he⟩, fun e he => ?_,
    (hall.mono (by simp)).settle s⟩
  · show (vget (wheelsJudged s).align.wheels w).speed = v ∧ (vget (wheelsJudged s).align.wheels w).hasData = true
    rw [hwheels, hupdated w hw4]
    exact updateWheel_encoder hv _
  · show (vget (wheelsJudged s).ingest.encoders e).edges = []
    rw [hingest]
    exact hencoders e he

/-- Settles O32: iteration, deadline and wheel update. -/
theorem egoMotionStepsComplete : Obligations.EgoMotionStepsComplete := by
  unfold Obligations.EgoMotionStepsComplete
  exact ⟨fun m s => scanIterates, fun f s => deadlineHoldsVote, fun s => wheelsUpdate⟩

end Sys2Proof.Machine
end

section
/-! Settings (O60; R579): the row of SCRUB rests on the check of its parameters at acceptance, which a started command's
row does not repeat. -/

namespace Sys2Proof.Machine

/-- A SCRUB that acceptance would refuse: TARGET 3 with INDEX 171, whose words carry the source number of LPDDR channel 0. -/
def misplacedScrub : Bytes := pack 16 [(0, 8, 3), (8, 8, 171), (96, 32, 1)]

theorem misplacedScrub_ready :
    Ready key1 0x1101 (running1 live 0x1101 misplacedScrub) (cmd1 0x1101 misplacedScrub) :=
  ⟨rfl, rfl, rfl⟩

/-- The word that it finds uncorrectable is marked, and the mark counts in channel 0. -/
theorem misplacedScrub_counts : ∃ t, exec (.scrub key1 0 [(0, 0)]) (running1 live 0x1101 misplacedScrub) = .next t ∧
    (vget t.memory.channels 0).rowsMarked ≠ (vget (running1 live 0x1101 misplacedScrub).memory.channels 0).rowsMarked := by
  refine ⟨_, rfl, ?_⟩
  decide +kernel

/-- Refutes O60: the statement asks nothing of the parameters of a started SCRUB, and with TARGET 3 and INDEX 171 (which
acceptance would refuse) the marked element has the source number of an LPDDR row: ROWS_MARKED of channel 0 rises, although
TARGET is not 0. -/
theorem not_settingsTakeEffect : ¬ Obligations.SettingsTakeEffect := by
  unfold Obligations.SettingsTakeEffect
  rintro ⟨_, _, _, _, _, _, hscrub⟩
  obtain ⟨t, hexec, _, _, _, _, hmemory, _⟩ := hscrub key1 _ 0 [(0, 0)] _ misplacedScrub_ready
  obtain ⟨u, hexec', hrows⟩ := misplacedScrub_counts
  obtain rfl : t = u := by simpa using hexec.symm.trans hexec'
  exact hrows (by rw [hmemory (by decide)])

end Sys2Proof.Machine
end

section
/-! The Rink moves by whole patches (O35; R234 to R236). -/

namespace Sys2Proof.Machine

/-! ## Slots and patches -/

theorem slotIndex_lt (x y : Int) : slotIndex x y < 48 := by
  unfold slotIndex
  omega

theorem slotIndex_patchOfSlot (cx cy : Int) {n : Nat} (h : n < 48) :
    slotIndex (patchOfSlot cx cy n).1 (patchOfSlot cx cy n).2 = n := by
  simp only [slotIndex, patchOfSlot]
  omega

theorem inExtent_patchOfSlot (cx cy : Int) (side n : Nat) :
    inExtent cx cy false side (patchOfSlot cx cy n).1 (patchOfSlot cx cy n).2 = true := by
  simp [inExtent, patchOfSlot]
  omega

theorem mem_extentPatches {cx cy : Int} {reduced : Bool} {side : Nat} {g : Int × Int} :
    g ∈ extentPatches cx cy reduced side ↔
      ∃ n, n < 48 ∧ patchOfSlot cx cy n = g ∧ inExtent cx cy reduced side g.1 g.2 = true := by
  simp only [extentPatches, List.mem_filter, List.mem_map, List.mem_range]
  constructor
  · rintro ⟨⟨n, hn, hg⟩, hin⟩
    exact ⟨n, hn, hg, hin⟩
  · rintro ⟨n, hn, hg, hin⟩
    exact ⟨⟨n, hn, hg⟩, hin⟩

/-- The patches of the full extent about a new centre that the one about an old centre does not have. -/
def enteringPatches (ox oy cx cy : Int) (side : Nat) : List (Int × Int) :=
  (extentPatches cx cy false side).filter (fun g => !(extentPatches ox oy false side).contains g)

/-- A slot has a new patch exactly where its patch enters the full extent. -/
theorem mem_enteringSlots (ox oy cx cy : Int) (side : Nat) {n : Nat} (hn : n < 48) :
    n ∈ (enteringPatches ox oy cx cy side).map (fun g => slotIndex g.1 g.2) ↔ patchOfSlot cx cy n ≠ patchOfSlot ox oy n := by
  simp only [enteringPatches, List.mem_map, List.mem_filter, Bool.not_eq_true', List.contains_eq_mem, decide_eq_false_iff_not]
  constructor
  · rintro ⟨g, ⟨hg, hold⟩, rfl⟩ heq
    obtain ⟨m, hm, rfl, -⟩ := mem_extentPatches.1 hg
    rw [slotIndex_patchOfSlot cx cy hm] at heq
    exact hold (mem_extentPatches.2 ⟨m, hm, heq.symm, heq ▸ inExtent_patchOfSlot ox oy side m⟩)
  · intro hne
    refine ⟨patchOfSlot cx cy n, ⟨mem_extentPatches.2 ⟨n, hn, rfl, inExtent_patchOfSlot cx cy side n⟩, fun hold => ?_⟩,
      slotIndex_patchOfSlot cx cy hn⟩
    obtain ⟨m, hm, heq, -⟩ := mem_extentPatches.1 hold
    have hmn : m = n := by
      rw [← slotIndex_patchOfSlot ox oy hm, heq, slotIndex_patchOfSlot cx cy hn]
    exact hne (by rw [← heq, hmn])

theorem ownerOf_lt {s : State} {n u : Nat} (h : ownerOf s n = some u) : u < 49 :=
  List.mem_range.1 (List.mem_of_find?_eq_some h)

/-! ## Tables changed at several places -/

theorem vget_foldl_vmod_ne {α : Type} [Inhabited α] {n : Nat} (f : α → α) {i : Nat} :
    ∀ (l : List Nat) (v : Vector α n), i ∉ l → vget (l.foldl (fun v j => vmod v j f) v) i = vget v i
  | [], _, _ => rfl
  | j :: l, v, h => by
    rw [List.foldl_cons, vget_foldl_vmod_ne f l _ fun hmem => h (List.mem_cons_of_mem _ hmem),
      vget_vmod_ne _ _ fun heq => h (by simp [heq])]

theorem vget_foldl_vmod {α : Type} [Inhabited α] {n : Nat} (f : α → α) {i : Nat} (hi : i < n) :
    ∀ (l : List Nat) (v : Vector α n), l.Nodup → i ∈ l → vget (l.foldl (fun v j => vmod v j f) v) i = f (vget v i)
  | j :: l, v, hnodup, hmem => by
    obtain ⟨hj, hl⟩ := List.nodup_cons.1 hnodup
    rw [List.foldl_cons]
    rcases List.mem_cons.1 hmem with rfl | hmem
    · rw [vget_foldl_vmod_ne f l _ hj, vget_vmod_same _ _ hi]
    · rw [vget_foldl_vmod f hi l _ hl hmem, vget_vmod_ne _ _ (ne_of_mem_of_not_mem hmem hj)]

/-- What a table holds after values were put at places no two of which agree. -/
theorem vget_foldl_vset {α : Type} [Inhabited α] {n : Nat} (place : Nat → Nat) (value : Nat → α) {i : Nat}
    (hi : place i < n) : ∀ (l : List Nat) (v : Vector α n), (∀ j ∈ l, place j = place i → j = i) →
      (i ∈ l ∨ vget v (place i) = value i) →
      vget (l.foldl (fun v j => vset v (place j) (value j)) v) (place i) = value i
  | [], _, _, h => by simpa using h
  | j :: l, v, hinj, h => by
    rw [List.foldl_cons]
    refine vget_foldl_vset place value hi l _ (fun k hk => hinj k (List.mem_cons_of_mem _ hk)) ?_
    by_cases hji : j = i
    · subst hji
      exact .inr (vget_vset_same _ _ hi)
    · rw [vget_vset_ne _ _ fun heq => hji (hinj j List.mem_cons_self heq.symm)]
      exact h.imp_left fun hmem => (List.mem_cons.1 hmem).resolve_left (Ne.symm hji)

theorem foldl_modTile (f : Tile → Tile) : ∀ (l : List Nat) (s : State), l.foldl (fun (t : State) u => modTile u f t) s =
    { s with rink := { s.rink with tiles := l.foldl (fun v u => vmod v u f) s.rink.tiles } }
  | [], _ => rfl
  | u :: l, s => by
    rw [List.foldl_cons, foldl_modTile f l]
    rfl

/-! ## A clear -/

theorem cellAt_eq_zero_of_forall_ne : ∀ (m : List Host.Cell) {a : Nat}, (∀ c ∈ m, c.1 ≠ a) → cellAt m a = 0
  | [], _, _ => rfl
  | (x, b) :: cs, a, h => by
    rw [cellAt, if_neg (h (x, b) List.mem_cons_self)]
    split
    · rfl
    · exact cellAt_eq_zero_of_forall_ne cs fun c hc => h c (List.mem_cons_of_mem _ hc)

theorem cellAt_cellsZero_inside (m : List Host.Cell) {off n a : Nat} (h : off ≤ a) (h' : a < off + n) :
    cellAt (cellsZero m off n) a = 0 := by
  refine cellAt_eq_zero_of_forall_ne _ ?_
  rintro c hc rfl
  simp [cellsZero, h, h'] at hc

theorem le_of_mem_cells {lo : Nat} : ∀ {m : List Host.Cell}, cellsWfFrom lo m = true → ∀ c ∈ m, lo ≤ c.1
  | (x, b) :: cs, h, c, hc => by
    simp only [cellsWfFrom, Bool.and_eq_true, decide_eq_true_eq] at h
    rcases List.mem_cons.1 hc with rfl | hc
    · exact h.1.1
    · exact (Nat.le_succ_of_le h.1.1).trans (le_of_mem_cells h.2 c hc)

/-- A cell of memory in canonical form holds no zero. -/
theorem cellAt_ne_zero_of_mem {lo : Nat} : ∀ {m : List Host.Cell}, cellsWfFrom lo m = true → ∀ c ∈ m, cellAt m c.1 ≠ 0
  | (x, b) :: cs, h, c, hc => by
    simp only [cellsWfFrom, Bool.and_eq_true, decide_eq_true_eq] at h
    rcases List.mem_cons.1 hc with rfl | hc
    · simpa [cellAt] using h.1.2
    · have hlt : x < c.1 := le_of_mem_cells h.2 c hc
      rw [cellAt, if_neg hlt.ne, if_neg hlt.not_gt]
      exact cellAt_ne_zero_of_mem h.2 c hc

theorem cellAt_cellsZero_of_zero {m : List Host.Cell} (hm : cellsWf m = true) {off n a : Nat} (h : cellAt m a = 0) :
    cellAt (cellsZero m off n) a = 0 := by
  refine cellAt_eq_zero_of_forall_ne _ ?_
  rintro c hc rfl
  exact cellAt_ne_zero_of_mem hm c (List.mem_filter.1 hc).1 h

/-- What a tile does to clear a patch. -/
def tileCleared (state bev : Nat × Nat) (x : Tile) : Tile :=
  { x with sram := cellsZero (cellsZero x.sram state.1 state.2) bev.1 bev.2, working := default, uncommitted := none }

/-- A tile keeps its slot and its role, and what reads zero still does. -/
structure TileKept (x y : Tile) : Prop where
  slot : y.slot = x.slot
  role : y.role = x.role
  wf : cellsWf x.sram = true → cellsWf y.sram = true
  zero : cellsWf x.sram = true → ∀ a, cellAt x.sram a = 0 → cellAt y.sram a = 0

theorem TileKept.refl (x : Tile) : TileKept x x := ⟨rfl, rfl, id, fun _ _ => id⟩

theorem TileKept.trans {x y z : Tile} (h : TileKept x y) (h' : TileKept y z) : TileKept x z :=
  ⟨h'.slot.trans h.slot, h'.role.trans h.role, fun hx => h'.wf (h.wf hx),
    fun hx a ha => h'.zero (h.wf hx) a (h.zero hx a ha)⟩

theorem tileKept_tileCleared (state bev : Nat × Nat) (x : Tile) : TileKept x (tileCleared state bev x) :=
  ⟨rfl, rfl, fun h => cellsZero_wf _ _ _ (cellsZero_wf _ _ _ h),
    fun h _ ha => cellAt_cellsZero_of_zero (cellsZero_wf _ _ _ h) (cellAt_cellsZero_of_zero h ha)⟩

theorem cellAt_tileCleared {state : Nat × Nat} (bev : Nat × Nat) {x : Tile} (h : cellsWf x.sram = true) {i : Nat}
    (hi : i < state.2) : cellAt (tileCleared state bev x).sram (state.1 + i) = 0 :=
  cellAt_cellsZero_of_zero (cellsZero_wf _ _ _ h) (cellAt_cellsZero_inside _ (Nat.le_add_right _ _) (by omega))

theorem tileKept_foldl {f : Tile → Tile} (hf : ∀ x, TileKept x (f x)) (u : Nat) :
    ∀ (l : List Nat) (v : Vector Tile 49), TileKept (vget v u) (vget (l.foldl (fun v j => vmod v j f) v) u)
  | [], _ => .refl _
  | j :: l, v => by
    refine TileKept.trans ?_ (tileKept_foldl hf u l _)
    by_cases hju : u = j ∧ u < 49
    · obtain ⟨rfl, hu⟩ := hju
      rw [vget_vmod_same _ _ hu]
      exact hf _
    · by_cases hne : u = j
      · subst hne
        have hout : vmod v u f = v := dif_neg fun h => hju ⟨rfl, h⟩
        show TileKept _ (vget (vmod v u f) u)
        rw [hout]
        exact .refl _
      · rw [vget_vmod_ne _ _ hne]
        exact .refl _

/-- A tile of the list has been through the work, and only kept things since. -/
theorem tileKept_foldl_mem {f : Tile → Tile} (hf : ∀ x, TileKept x (f x)) {u : Nat} (hu : u < 49) :
    ∀ (l : List Nat) (v : Vector Tile 49), u ∈ l →
      ∃ x, TileKept (vget v u) x ∧ TileKept (f x) (vget (l.foldl (fun v j => vmod v j f) v) u)
  | j :: l, v, hmem => by
    by_cases hju : u = j
    · subst hju
      refine ⟨vget v u, .refl _, ?_⟩
      have := tileKept_foldl hf u l (vmod v u f)
      rwa [vget_vmod_same _ _ hu] at this
    · obtain ⟨x, hx, hfx⟩ := tileKept_foldl_mem hf hu l (vmod v j f) ((List.mem_cons.1 hmem).resolve_left hju)
      rw [vget_vmod_ne _ _ hju] at hx
      exact ⟨x, hx, hfx⟩

/-- The patches of the slots of a list are cleared at a frame boundary, as new ground, and nothing else of the Rink that its
moves are about changes. -/
structure PatchesCleared (l : List Nat) (s t : State) : Prop where
  frame : ChangesOnly [.rink, .align] s t
  centreX : t.rink.centreX = s.rink.centreX
  centreY : t.rink.centreY = s.rink.centreY
  reduced : t.rink.reduced = s.rink.reduced
  generation : t.rink.generation = s.rink.generation
  scrolls : t.rink.counters.scrolls = s.rink.counters.scrolls
  tiles : ∀ u, TileKept (vget s.rink.tiles u) (vget t.rink.tiles u)
  kept : ∀ n, n ∉ l → vget t.rink.slots n = vget s.rink.slots n
  begun : ∀ n ∈ l, n < 48 → (vget t.rink.slots n).historyAge = 0
  zero : ∀ n ∈ l, ∀ u, ownerOf s n = some u → cellsWf (vget s.rink.tiles u).sram = true → ∀ i, i < (stateRegion s).2 →
    cellAt (vget t.rink.tiles u).sram ((stateRegion s).1 + i) = 0
  align : t.align = { s.align with
    contestedPatches := s.align.contestedPatches.filter (fun c => !l.contains c.id) }

theorem ownerOf_congr {s t : State} (h : ∀ u, (vget t.rink.tiles u).slot = (vget s.rink.tiles u).slot ∧
    (vget t.rink.tiles u).role = (vget s.rink.tiles u).role) (n : Nat) : ownerOf t n = ownerOf s n := by
  unfold ownerOf
  simp only [h]

theorem PatchesCleared.refl (s : State) : PatchesCleared [] s s where
  frame := .refl _ s
  centreX := rfl
  centreY := rfl
  reduced := rfl
  generation := rfl
  scrolls := rfl
  tiles := fun _ => .refl _
  kept := fun _ _ => rfl
  begun := nofun
  zero := nofun
  align := by simp

theorem stateRegion_of_frame {l : List Part} {s t : State} (h : ChangesOnly l s t) (hd : Part.device ∉ l)
    (hp : Part.plans ∉ l) : stateRegion t = stateRegion s := by
  unfold stateRegion variantRegion variantFit activeSlot inSentry
  rw [h.dev_posture hd, show t.plans = s.plans from h .plans hp]

theorem PatchesCleared.trans {l m : List Nat} {s t u : State} (h : PatchesCleared l s t) (h' : PatchesCleared m t u) :
    PatchesCleared (l ++ m) s u where
  frame := h.frame.step h'.frame
  centreX := h'.centreX.trans h.centreX
  centreY := h'.centreY.trans h.centreY
  reduced := h'.reduced.trans h.reduced
  generation := h'.generation.trans h.generation
  scrolls := h'.scrolls.trans h.scrolls
  tiles := fun v => (h.tiles v).trans (h'.tiles v)
  kept := fun n hn => by
    obtain ⟨hl, hm⟩ := not_or.1 fun hmem => hn (List.mem_append.2 hmem)
    rw [h'.kept n hm, h.kept n hl]
  begun := fun n hn hlt => by
    by_cases hm : n ∈ m
    · exact h'.begun n hm hlt
    · rw [h'.kept n hm]
      exact h.begun n ((List.mem_append.1 hn).resolve_right hm) hlt
  zero := fun n hn v hv hwf i hi => by
    rcases List.mem_append.1 hn with hl | hm
    · exact (h'.tiles v).zero ((h.tiles v).wf hwf) _ (h.zero n hl v hv hwf i hi)
    · have hregion := stateRegion_of_frame h.frame (by simp) (by simp)
      have howner := ownerOf_congr (fun u => ⟨(h.tiles u).slot, (h.tiles u).role⟩) n
      have := h'.zero n hm v (howner.trans hv) ((h.tiles v).wf hwf) i (hregion ▸ hi)
      rwa [hregion] at this
  align := by
    rw [h'.align, h.align]
    simp [List.filter_filter, Bool.and_comm]

theorem holdersOf_owner {s : State} {n u : Nat} (h : ownerOf s n = some u) : u ∈ holdersOf s n := by
  unfold holdersOf
  rw [h]
  cases s.rink.migration with
  | none => simp
  | some m =>
    dsimp only
    split <;> simp

/-- The clear of a patch, as one change of its slot and of the tiles that hold it. -/
theorem clearPatch_eq (n : Nat) (s : State) : clearPatch n s = { s with rink := { s.rink with
    slots := vmod s.rink.slots n (fun x => { x with historyAge := 0, clearing := true, stateInstant := none }),
    tiles := (holdersOf s n).foldl (fun v u => vmod v u (tileCleared (stateRegion s) (bevRegion s))) s.rink.tiles } } := by
  have hstep : ∀ (t : State) (u : Nat), modTile u (fun (x : Tile) => { x with working := default, uncommitted := none })
      (zeroRegion u (bevRegion s) (zeroRegion u (stateRegion s) t)) =
      modTile u (tileCleared (stateRegion s) (bevRegion s)) t := by
    intro t u
    simp only [zeroRegion, modTile, vmod_vmod]
    rfl
  have hfold := foldl_modTile (tileCleared (stateRegion s) (bevRegion s)) (holdersOf s n)
    (modSlot n (fun (x : Slot) => { x with historyAge := 0, clearing := true, stateInstant := none }) s)
  simp only [← hstep] at hfold
  exact hfold

/-- What a clear counts and notes before the tiles do it. -/
theorem countClear_eq (n : Nat) (s : State) : ∃ (counters : RinkCounters) (cleared : List Nat),
    counters.scrolls = s.rink.counters.scrolls ∧
    countClear n s = clearPatch n { s with
      align := { s.align with contestedPatches := s.align.contestedPatches.filter (fun c => c.id != n) }
      rink := { s.rink with counters := counters, clearedNow := cleared } } := by
  unfold countClear
  by_cases hin : s.rink.clearedNow.contains n = true
  · refine ⟨s.rink.counters, s.rink.clearedNow, rfl, ?_⟩
    simp only [hin, if_true, clearOnce, modRink, modAlign]
  · refine ⟨{ s.rink.counters with patchClears := bump s.rink.counters.patchClears }, s.rink.clearedNow ++ [n], rfl, ?_⟩
    simp only [hin, Bool.false_eq_true, if_false, clearOnce, modRink, modAlign, modCounters]

theorem patchesCleared_countClear (n : Nat) (s : State) : PatchesCleared [n] s (countClear n s) := by
  obtain ⟨counters, cleared, hscrolls, heq⟩ := countClear_eq n s
  rw [heq, clearPatch_eq]
  exact {
    frame := by
      rw [changesOnly_iff]
      simp [Part.same]
    centreX := rfl
    centreY := rfl
    reduced := rfl
    generation := rfl
    scrolls := hscrolls
    tiles := fun u => tileKept_foldl (tileKept_tileCleared _ _) u _ _
    kept := fun m hm => vget_vmod_ne _ _ fun h => hm (by simp [h])
    begun := fun m hm hlt => by
      obtain rfl := List.mem_singleton.1 hm
      exact congrArg Slot.historyAge (vget_vmod_same _ _ hlt)
    zero := fun m hm u hu hwf i hi => by
      obtain rfl := List.mem_singleton.1 hm
      obtain ⟨x, hx, hfx⟩ := tileKept_foldl_mem (tileKept_tileCleared (stateRegion s) (bevRegion s)) (ownerOf_lt hu)
        (holdersOf s m) s.rink.tiles (holdersOf_owner hu)
      exact hfx.zero (hx.wf hwf |> (tileKept_tileCleared _ _ x).wf) _ (cellAt_tileCleared _ (hx.wf hwf) hi)
    align := congrArg (fun l => { s.align with contestedPatches := l }) (List.filter_congr fun c _ => by simp [bne]; rfl) }

theorem patchesCleared_foldl {α : Type} (slot : α → Nat) :
    ∀ (l : List α) (s : State), PatchesCleared (l.map slot) s (l.foldl (fun t g => countClear (slot g) t) s)
  | [], s => .refl s
  | g :: l, s => (patchesCleared_countClear (slot g) s).trans (patchesCleared_foldl slot l _)

/-! ## Scroll -/

theorem changesOnly_newGeneration (s : State) : ChangesOnly [.rink] s (newGeneration s) := changesOnly_modRink _ s

/-- In full extent, with every slot owned, a move of the centre passes no tile on. -/
theorem moveDrive_full {s : State} (hfull : s.rink.reduced = false) (hown : ∀ n, n < 48 → (ownerOf s n).isSome = true)
    (cx cy : Int) : moveDrive cx cy s =
      (enteringPatches s.rink.centreX s.rink.centreY cx cy (reducedSide s)).foldl
        (fun t g => countClear (slotIndex g.1 g.2) t)
        (modRink (fun (x : Rink) => { x with centreX := cx, centreY := cy }) s) := by
  unfold moveDrive enteringPatches
  simp only [hfull]
  congr 2
  refine List.foldl_fixed' (fun g => ?_) _
  exact if_pos (hown _ (slotIndex_lt g.1 g.2))

theorem scroll_full {s : State} (hsentry : inSentry s = false) (hfull : s.rink.reduced = false)
    (hown : ∀ n, n < 48 → (ownerOf s n).isSome = true) (dx dy : Int) :
    let t := scrollBy dx dy s
    t.rink.centreX = s.rink.centreX + dx ∧ t.rink.centreY = s.rink.centreY + dy ∧
    t.rink.generation = (s.rink.generation + 1) % 2 ^ 32 ∧ t.rink.counters.scrolls = bump s.rink.counters.scrolls ∧
    (∀ u, u < 49 → (vget t.rink.tiles u).slot = (vget s.rink.tiles u).slot ∧
      (vget t.rink.tiles u).role = (vget s.rink.tiles u).role) ∧
    (∀ n, n < 48 → patchOfSlot t.rink.centreX t.rink.centreY n = patchOfSlot s.rink.centreX s.rink.centreY n →
      vget t.rink.slots n = vget s.rink.slots n) ∧
    (∀ n, n < 48 → patchOfSlot t.rink.centreX t.rink.centreY n ≠ patchOfSlot s.rink.centreX s.rink.centreY n →
      (vget t.rink.slots n).historyAge = 0 ∧ ∀ u, ownerOf s n = some u → ∀ i, i < (stateRegion s).2 →
        cellsWf (vget s.rink.tiles u).sram = true → cellAt (vget t.rink.tiles u).sram ((stateRegion s).1 + i) = 0) ∧
    t.align = { s.align with contestedPatches := t.align.contestedPatches } ∧
    (∀ c ∈ s.align.contestedPatches, c.id < 48 → (c ∈ t.align.contestedPatches ↔
      patchOfSlot t.rink.centreX t.rink.centreY c.id = patchOfSlot s.rink.centreX s.rink.centreY c.id)) ∧
    ChangesOnly [.rink, .align] s t := by
  have hmove := moveDrive_full hfull hown (s.rink.centreX + dx) (s.rink.centreY + dy)
  have hclear := patchesCleared_foldl (fun g : Int × Int => slotIndex g.1 g.2)
    (enteringPatches s.rink.centreX s.rink.centreY (s.rink.centreX + dx) (s.rink.centreY + dy) (reducedSide s))
    (modRink (fun (x : Rink) => { x with centreX := s.rink.centreX + dx, centreY := s.rink.centreY + dy }) s)
  rw [← hmove] at hclear
  have hscroll : scrollBy dx dy s = newGeneration (modRink (fun (r : Rink) => { r with scrollsEpoch := r.scrollsEpoch + 1 })
      (modCounters (fun (c : RinkCounters) => { c with scrolls := bump c.scrolls })
        (moveDrive (s.rink.centreX + dx) (s.rink.centreY + dy) s))) := by
    unfold scrollBy
    simp only [hsentry, Bool.false_eq_true, if_false]
  have hslots := fun {n : Nat} => mem_enteringSlots s.rink.centreX s.rink.centreY (s.rink.centreX + dx) (s.rink.centreY + dy)
    (reducedSide s) (n := n)
  generalize moveDrive (s.rink.centreX + dx) (s.rink.centreY + dy) s = v at hclear hscroll
  have halign : v.align = { s.align with contestedPatches := s.align.contestedPatches.filter (fun c =>
      !((enteringPatches s.rink.centreX s.rink.centreY (s.rink.centreX + dx) (s.rink.centreY + dy) (reducedSide s)).map
        (fun g => slotIndex g.1 g.2)).contains c.id) } := hclear.align
  have hcentre := changesOnly_modRink
    (fun (x : Rink) => { x with centreX := s.rink.centreX + dx, centreY := s.rink.centreY + dy }) s
  have hcount := changesOnly_modCounters (fun (c : RinkCounters) => { c with scrolls := bump c.scrolls }) v
  have hepoch := changesOnly_modRink (fun (r : Rink) => { r with scrollsEpoch := r.scrollsEpoch + 1 })
    (modCounters (fun (c : RinkCounters) => { c with scrolls := bump c.scrolls }) v)
  have hgen := changesOnly_newGeneration (modRink (fun (r : Rink) => { r with scrollsEpoch := r.scrollsEpoch + 1 })
    (modCounters (fun (c : RinkCounters) => { c with scrolls := bump c.scrolls }) v))
  intro t
  have htx : t.rink.centreX = s.rink.centreX + dx := by rw [show t = _ from hscroll]; exact hclear.centreX
  have hty : t.rink.centreY = s.rink.centreY + dy := by rw [show t = _ from hscroll]; exact hclear.centreY
  rw [htx, hty]
  rw [show t = _ from hscroll]
  refine ⟨rfl, rfl, ?_, ?_, fun u _ => ⟨(hclear.tiles u).slot, (hclear.tiles u).role⟩, fun n hn heq => ?_, fun n hn hne => ?_,
    ?_, fun c hc hlt => ?_, ?_⟩
  · exact congrArg (fun g => (g + 1) % 2 ^ 32) hclear.generation
  · exact congrArg bump hclear.scrolls
  · exact hclear.kept n fun hmem => (hslots hn).1 hmem heq
  · have hmem := (hslots hn).2 hne
    exact ⟨hclear.begun n hmem hn, fun u hu i hi hwf => hclear.zero n hmem u hu hwf i hi⟩
  · show v.align = { s.align with contestedPatches := v.align.contestedPatches }
    rw [halign]
  · show c ∈ v.align.contestedPatches ↔ _
    rw [halign]
    have hmem := hslots hlt
    refine (List.mem_filter.trans ⟨fun h => ?_, fun h => ⟨hc, ?_⟩⟩)
    · exact not_not.1 fun hne => by simp [hmem.2 hne] at h
    · simp [mt hmem.1 (not_not.2 h)]
  · exact (hcentre.comp (hclear.frame.comp (hcount.comp (hepoch.comp hgen)))).mono (by simp)

/-! ## Rebase -/

/-- The slot to which a rebase turns a slot. -/
def turnedSlot (mx my : Int) (n : Nat) : Nat := slotIndex ((n % 8 : Nat) - mx) ((n / 8 : Nat) - my)

theorem turnedSlot_inj (mx my : Int) {m n : Nat} (hm : m < 48) (hn : n < 48) (h : turnedSlot mx my m = turnedSlot mx my n) :
    m = n := by
  simp only [turnedSlot, slotIndex] at h
  omega

/-- The tiles and the slots after a rebase. -/
def turnedTiles (mx my : Int) (s : State) : Vector Tile 49 := (List.range 49).foldl (fun v t =>
  vmod v t (fun x => { x with slot := x.slot.map (turnedSlot mx my) })) s.rink.tiles

def turnedSlots (mx my : Int) (s : State) : Vector Slot 48 := (List.range 48).foldl (fun v n =>
  vset v (turnedSlot mx my n) (vget s.rink.slots n)) s.rink.slots

/-- The routes after a rebase, before the change is counted. -/
def turnedRoutes (mx my : Int) (s : State) : Rink := { s.rink with
  slots := turnedSlots mx my s, tiles := turnedTiles mx my s, centreX := s.rink.centreX - mx,
  centreY := s.rink.centreY - my, rebaseX := s.rink.rebaseX + mx, rebaseY := s.rink.rebaseY + my,
  anchorSeq := (s.rink.anchorSeq + 1) % 65536,
  sentrySlots := s.rink.sentrySlots.map (fun l => l.map (turnedSlot mx my)) }

theorem rotateRoutes_eq (mx my : Int) (s : State) : rotateRoutes mx my s =
    newGeneration (modCounters (fun (c : RinkCounters) => { c with rebaseRotations := bump c.rebaseRotations })
      (modRink (fun _ => turnedRoutes mx my s) (modAlign (fun (a : Align) => { a with
        contestedPatches := a.contestedPatches.map (fun c => { c with id := turnedSlot mx my c.id }) }) s))) := by
  unfold rotateRoutes turnedRoutes turnedTiles turnedSlots turnedSlot
  rfl

theorem turnedRoutes_tile (mx my : Int) (s : State) {u : Nat} (hu : u < 49) : vget (turnedRoutes mx my s).tiles u =
    { vget s.rink.tiles u with slot := (vget s.rink.tiles u).slot.map (turnedSlot mx my) } :=
  vget_foldl_vmod (fun x : Tile => { x with slot := x.slot.map (turnedSlot mx my) }) hu (List.range 49) s.rink.tiles
    List.nodup_range (List.mem_range.2 hu)

theorem turnedRoutes_slot (mx my : Int) (s : State) {n : Nat} (hn : n < 48) :
    vget (turnedRoutes mx my s).slots (turnedSlot mx my n) = vget s.rink.slots n :=
  vget_foldl_vset (turnedSlot mx my) (vget s.rink.slots) (slotIndex_lt _ _) (List.range 48) s.rink.slots
    (fun _ hj heq => turnedSlot_inj mx my (List.mem_range.1 hj) hn heq) (.inl (List.mem_range.2 hn))

theorem rebase_turns (mx my : Int) (s : State) :
    let t := rotateRoutes mx my s
    (∀ u, u < 49 → vget t.rink.tiles u =
      { vget s.rink.tiles u with slot := (vget s.rink.tiles u).slot.map (turnedSlot mx my) }) ∧
    (∀ n, n < 48 → vget t.rink.slots (turnedSlot mx my n) = vget s.rink.slots n) ∧
    t.rink.centreX = s.rink.centreX - mx ∧ t.rink.centreY = s.rink.centreY - my ∧
    t.rink.generation = (s.rink.generation + 1) % 2 ^ 32 ∧
    t.rink.counters.rebaseRotations = bump s.rink.counters.rebaseRotations ∧
    t.align = { s.align with
      contestedPatches := s.align.contestedPatches.map (fun (c : Contest) => { c with id := turnedSlot mx my c.id }) } ∧
    ChangesOnly [.rink, .align] s t := by
  have heq := rotateRoutes_eq mx my s
  have htile := fun {u : Nat} => turnedRoutes_tile mx my s (u := u)
  have hslot := fun {n : Nat} => turnedRoutes_slot mx my s (n := n)
  have hcx : (turnedRoutes mx my s).centreX = s.rink.centreX - mx := rfl
  have hcy : (turnedRoutes mx my s).centreY = s.rink.centreY - my := rfl
  have hgeneration : (turnedRoutes mx my s).generation = s.rink.generation := by simp only [turnedRoutes]
  have hcounters : (turnedRoutes mx my s).counters = s.rink.counters := by simp only [turnedRoutes]
  generalize turnedRoutes mx my s = r at heq htile hslot hcx hcy hgeneration hcounters
  generalize rotateRoutes mx my s = t at heq ⊢
  subst heq
  refine ⟨fun u hu => htile hu, fun n hn => hslot hn, hcx, hcy, ?_, ?_, rfl, ?_⟩
  · exact congrArg (fun g => (g + 1) % 2 ^ 32) hgeneration
  · exact congrArg (fun c : RinkCounters => bump c.rebaseRotations) hcounters
  · rw [changesOnly_iff]
    simp [Part.same, newGeneration, modRink, modCounters, modAlign]

/-! ## Recentre -/

/-- Tiles that a recentre passes on. -/
structure TilesPassed (s t : State) : Prop where
  frame : ChangesOnly [.rink] s t
  centreX : t.rink.centreX = s.rink.centreX
  centreY : t.rink.centreY = s.rink.centreY
  reduced : t.rink.reduced = s.rink.reduced

theorem TilesPassed.trans {s t u : State} (h : TilesPassed s t) (h' : TilesPassed t u) : TilesPassed s u :=
  ⟨h.frame.step h'.frame, h'.centreX.trans h.centreX, h'.centreY.trans h.centreY, h'.reduced.trans h.reduced⟩

theorem tilesPassed_moveTile (m n : Nat) (s : State) : TilesPassed s (moveTile m n s) := by
  unfold moveTile
  split
  · exact ⟨changesOnly_modTile _ _ s, rfl, rfl, rfl⟩
  · exact ⟨.refl _ s, rfl, rfl, rfl⟩

theorem tilesPassed_foldl (source : Nat → Option Nat) : ∀ (l : List Nat) (s : State),
    TilesPassed s (l.foldl (fun t n => match source n with | some m => moveTile m n t | none => t) s)
  | [], s => ⟨.refl _ s, rfl, rfl, rfl⟩
  | n :: l, s => by
    refine TilesPassed.trans ?_ (tilesPassed_foldl source l _)
    dsimp only
    split
    · exact tilesPassed_moveTile _ n s
    · exact ⟨.refl _ s, rfl, rfl, rfl⟩

/-- A slot is among those cleared when the extent about the centre in force is cleared. -/
theorem mem_extentSlots {s t : State} (hside : reducedSide t = reducedSide s) (hreduced : t.rink.reduced = s.rink.reduced)
    {n : Nat} (h : slotInExtent t n = true) :
    n ∈ (extentPatches t.rink.centreX t.rink.centreY s.rink.reduced (reducedSide s)).map (fun g => slotIndex g.1 g.2) := by
  simp only [slotInExtent, Bool.and_eq_true, decide_eq_true_eq, hside, hreduced] at h
  exact List.mem_map.2 ⟨_, mem_extentPatches.2 ⟨n, h.1, rfl, h.2⟩, slotIndex_patchOfSlot _ _ h.1⟩

/-- The state in which a recentre in full or reduced extent clears its patches: the new centre, and the tiles of slots that left
the extent passed on within their columns. -/
def recentred (cx cy : Int) (s : State) : State :=
  let old := (extentPatches s.rink.centreX s.rink.centreY s.rink.reduced (reducedSide s)).map (fun g => slotIndex g.1 g.2)
  let new := (extentPatches cx cy s.rink.reduced (reducedSide s)).map (fun g => slotIndex g.1 g.2)
  let gone := old.filter (fun n => !new.contains n)
  (new.filter (fun n => !old.contains n)).foldl (fun t n => match gone.find? (fun m => m % 8 == n % 8) with
    | some m => moveTile m n t
    | none => t) (modRink (fun r => { r with centreX := cx, centreY := cy }) s)

theorem recentreTo_eq {s : State} (hsentry : inSentry s = false) (cx cy : Int) : recentreTo cx cy s =
    newGeneration (((extentPatches cx cy s.rink.reduced (reducedSide s)).map (fun g => slotIndex g.1 g.2)).foldl
      (fun t n => countClear n t) (recentred cx cy s)) := by
  unfold recentreTo recentred
  simp only [hsentry, Bool.false_eq_true, if_false] <;> rfl

theorem tilesPassed_recentred (cx cy : Int) (s : State) :
    TilesPassed (modRink (fun (r : Rink) => { r with centreX := cx, centreY := cy }) s) (recentred cx cy s) :=
  tilesPassed_foldl _ _ _

theorem recentre_clears {s : State} (hsentry : inSentry s = false) (cx cy : Int) :
    let t := recentreTo cx cy s
    t.rink.centreX = cx ∧ t.rink.centreY = cy ∧ (∀ n, slotInExtent t n = true → (vget t.rink.slots n).historyAge = 0) ∧
    ChangesOnly [.rink, .align] s t := by
  have hpassed := tilesPassed_recentred cx cy s
  have heq := recentreTo_eq hsentry cx cy
  generalize recentred cx cy s = u at hpassed heq
  have hclear := patchesCleared_foldl (fun n : Nat => n) ((extentPatches cx cy s.rink.reduced (reducedSide s)).map
    (fun g => slotIndex g.1 g.2)) u
  rw [heq]
  have hmem := mem_extentSlots (s := s) (t := recentreTo cx cy s)
  rw [heq] at hmem
  generalize List.foldl (fun t n => countClear n t) u _ = v at hclear hmem ⊢
  have hframe : ChangesOnly [.rink, .align] s v :=
    ((changesOnly_modRink (fun (r : Rink) => { r with centreX := cx, centreY := cy }) s).comp
      (hpassed.frame.comp hclear.frame)).mono (by simp)
  have hcx : v.rink.centreX = cx := hclear.centreX.trans hpassed.centreX
  have hcy : v.rink.centreY = cy := hclear.centreY.trans hpassed.centreY
  refine ⟨hcx, hcy, fun n hn => ?_, (hframe.comp (changesOnly_newGeneration v)).mono (by simp)⟩
  have hin := hmem (congrArg (fun b => fld b 8 1) (hframe.setting_eq (by simp) 0x0700 0))
    (hclear.reduced.trans hpassed.reduced) hn
  rw [show (newGeneration v).rink.centreX = cx from hcx, show (newGeneration v).rink.centreY = cy from hcy] at hin
  simp only [slotInExtent, Bool.and_eq_true, decide_eq_true_eq] at hn
  exact hclear.begun n (by simpa using hin) hn.1


/-- Settles O35: full extent leaves the tiles at their slots, the rebase is a bijection of the slots, and a recentre clears
every slot of the new extent. -/
theorem theRinkMovesByWholePatches : Obligations.TheRinkMovesByWholePatches := by
  unfold Obligations.TheRinkMovesByWholePatches
  exact fun s hsentry => ⟨fun hfull hown dx dy _ => scroll_full hsentry hfull hown dx dy,
    fun mx my => rebase_turns mx my s, fun cx cy => recentre_clears hsentry cx cy⟩

end Sys2Proof.Machine
end

section
/-! The frame boundary (O36; R23, R237, R238, R252, R261, R291). -/

namespace Sys2Proof.Machine

/-! ## The changes that wait for a boundary -/

/-- What a change at a boundary leaves: the parts that it has nothing to do with, the recentres ordered, and the frame of the
latest route change. -/
structure BoundaryWork (s t : State) : Prop where
  frame : ChangesOnly [.rink, .align, .plans, .glide, .peers, .flight] s t
  due : t.align.recentreDue = s.align.recentreDue
  mark : t.rink.boundaryFrame = s.rink.boundaryFrame

theorem BoundaryWork.refl (s : State) : BoundaryWork s s := ⟨.refl _ s, rfl, rfl⟩

theorem BoundaryWork.trans {s t u : State} (h : BoundaryWork s t) (h' : BoundaryWork t u) : BoundaryWork s u :=
  ⟨h.frame.step h'.frame, h'.due.trans h.due, h'.mark.trans h.mark⟩

theorem boundaryWork_foldl {α : Type} {f : State → α → State} (h : ∀ s x, BoundaryWork s (f s x)) :
    ∀ (l : List α) (s : State), BoundaryWork s (l.foldl f s)
  | [], s => .refl s
  | x :: l, s => (h s x).trans (boundaryWork_foldl h l _)

theorem boundaryWork_ite {p : Prop} [Decidable p] {s t u : State} (h : BoundaryWork s t) (h' : BoundaryWork s u) :
    BoundaryWork s (if p then t else u) := by
  split
  · exact h
  · exact h'

/-- Work in the parts of a boundary that touches neither the orders nor the Rink. -/
theorem boundaryWork_of_frame {l : List Part} {s t : State} (h : ChangesOnly l s t)
    (hl : l ⊆ [.plans, .glide, .peers, .flight]) : BoundaryWork s t where
  frame := h.mono (List.Subset.trans hl (by simp))
  due := by rw [show t.align = s.align from h .align fun hmem => by simpa using hl hmem]
  mark := by rw [show t.rink = s.rink from h .rink fun hmem => by simpa using hl hmem]

theorem boundaryWork_modRink {f : Rink → Rink} (hf : ∀ r, (f r).boundaryFrame = r.boundaryFrame) (s : State) :
    BoundaryWork s (modRink f s) := ⟨(changesOnly_modRink f s).mono (by simp), rfl, hf _⟩

theorem boundaryWork_modTile (u : Nat) (f : Tile → Tile) (s : State) : BoundaryWork s (modTile u f s) :=
  ⟨(changesOnly_modTile u f s).mono (by simp), rfl, rfl⟩

theorem boundaryWork_modSlot (n : Nat) (f : Slot → Slot) (s : State) : BoundaryWork s (modSlot n f s) :=
  ⟨(changesOnly_modSlot n f s).mono (by simp), rfl, rfl⟩

theorem boundaryWork_modCounters (f : RinkCounters → RinkCounters) (s : State) : BoundaryWork s (modCounters f s) :=
  ⟨(changesOnly_modCounters f s).mono (by simp), rfl, rfl⟩

theorem boundaryWork_modAlign {f : Align → Align} (hf : ∀ a, (f a).recentreDue = a.recentreDue) (s : State) :
    BoundaryWork s (modAlign f s) := ⟨(changesOnly_modAlign f s).mono (by simp), hf _, rfl⟩

theorem boundaryWork_newGeneration (s : State) : BoundaryWork s (newGeneration s) :=
  boundaryWork_modRink (by exact fun _ => rfl) s

theorem boundaryWork_clearPatch (n : Nat) (s : State) : BoundaryWork s (clearPatch n s) :=
  (boundaryWork_modSlot n _ s).trans (boundaryWork_foldl (fun t u => ((boundaryWork_modTile u _ t).trans
    (boundaryWork_modTile u _ _)).trans (boundaryWork_modTile u _ _)) _ _)

theorem boundaryWork_clearOnce (n : Nat) (s : State) : BoundaryWork s (clearOnce n s) :=
  (boundaryWork_modRink (by exact fun _ => rfl) s).trans (boundaryWork_clearPatch n _)

theorem boundaryWork_countClear (n : Nat) (s : State) : BoundaryWork s (countClear n s) :=
  ((boundaryWork_ite (.refl s) (boundaryWork_modCounters _ s)).trans
    (boundaryWork_modAlign (by exact fun _ => rfl) _)).trans (boundaryWork_clearOnce n _)

theorem boundaryWork_moveTile (m n : Nat) (s : State) : BoundaryWork s (moveTile m n s) := by
  unfold moveTile
  split
  · exact boundaryWork_modTile _ _ s
  · exact .refl s

theorem boundaryWork_moveDrive (cx cy : Int) (s : State) : BoundaryWork s (moveDrive cx cy s) := by
  unfold moveDrive
  refine BoundaryWork.trans (boundaryWork_foldl (fun t g => ?_) _ s)
    ((boundaryWork_modRink (by exact fun _ => rfl) _).trans (boundaryWork_foldl (fun t g => boundaryWork_countClear _ t) _ _))
  refine boundaryWork_ite (.refl t) ?_
  split
  · exact boundaryWork_moveTile _ _ t
  · exact .refl t

/-- Tiles that take slots as a list says. -/
theorem boundaryWork_owners (l : List (Option Nat × Nat)) (s : State) :
    BoundaryWork s (l.foldl (fun (t : State) o => match o.1 with
      | some u => modTile u (fun (x : Tile) => { x with slot := some o.2 }) t
      | none => t) s) := by
  refine boundaryWork_foldl (fun t o => ?_) l s
  split
  · exact boundaryWork_modTile _ _ t
  · exact .refl t

theorem boundaryWork_moveSentry (cx cy : Int) (s : State) : BoundaryWork s (moveSentry cx cy s) :=
  ((boundaryWork_owners _ s).trans (boundaryWork_modRink (by exact fun _ => rfl) _)).trans
    (boundaryWork_foldl (fun t g => boundaryWork_countClear _ t) _ _)

theorem boundaryWork_scrollBy (dx dy : Int) (s : State) : BoundaryWork s (scrollBy dx dy s) :=
  (((boundaryWork_ite (boundaryWork_moveSentry _ _ s) (boundaryWork_moveDrive _ _ s)).trans
    (boundaryWork_modCounters _ _)).trans (boundaryWork_modRink (by exact fun _ => rfl) _)).trans
    (boundaryWork_newGeneration _)

theorem boundaryWork_scrollAxis (x : Bool) (sign : Int) : ∀ (n : Nat) (s : State), BoundaryWork s (scrollAxis x sign n s)
  | 0, s => .refl s
  | n + 1, s => (boundaryWork_ite (boundaryWork_scrollBy _ _ s) (boundaryWork_scrollBy _ _ s)).trans
      (boundaryWork_scrollAxis x sign n _)

theorem turnedRoutes_mark (mx my : Int) (s : State) : (turnedRoutes mx my s).boundaryFrame = s.rink.boundaryFrame := by
  simp only [turnedRoutes]

theorem boundaryWork_rotateRoutes (mx my : Int) (s : State) : BoundaryWork s (rotateRoutes mx my s) := by
  rw [rotateRoutes_eq]
  have hroutes : BoundaryWork (modAlign (fun (a : Align) => { a with
      contestedPatches := a.contestedPatches.map (fun c => { c with id := turnedSlot mx my c.id }) }) s)
      (modRink (fun _ => turnedRoutes mx my s) (modAlign (fun (a : Align) => { a with
        contestedPatches := a.contestedPatches.map (fun c => { c with id := turnedSlot mx my c.id }) }) s)) :=
    ⟨(changesOnly_modRink _ _).mono (by simp), rfl, turnedRoutes_mark mx my s⟩
  exact (((boundaryWork_modAlign (by exact fun _ => rfl) s).trans hroutes).trans (boundaryWork_modCounters _ _)).trans
    (boundaryWork_newGeneration _)

theorem boundaryWork_recentreTo (cx cy : Int) (s : State) : BoundaryWork s (recentreTo cx cy s) := by
  unfold recentreTo
  refine boundaryWork_ite ?_ ?_
  · exact ((((boundaryWork_modRink (by exact fun _ => rfl) s).trans (boundaryWork_owners _ _)).trans
      (boundaryWork_modRink (by exact fun _ => rfl) _)).trans
      (boundaryWork_foldl (fun t n => boundaryWork_countClear n t) _ _)).trans (boundaryWork_newGeneration _)
  · refine (((boundaryWork_modRink (by exact fun _ => rfl) s).trans (boundaryWork_foldl (fun t n => ?_) _ _)).trans
      (boundaryWork_foldl (fun t n => boundaryWork_countClear n t) _ _)).trans (boundaryWork_newGeneration _)
    split
    · exact boundaryWork_moveTile _ _ t
    · exact .refl t

theorem boundaryWork_shiftGlide (mx my : Int) (s : State) : BoundaryWork s (shiftGlide mx my s) :=
  boundaryWork_of_frame (changesOnly_modGlide _ s) (by simp)

theorem boundaryWork_applyMoves (cx cy rx ry : Int) (recentre : Bool) (s : State) :
    BoundaryWork s (applyMoves cx cy rx ry recentre s) := by
  unfold applyMoves
  extract_lets mx my dx dy s1 s2
  have h1 : BoundaryWork s s1 := boundaryWork_ite (.refl s) ((boundaryWork_scrollAxis _ _ _ s).trans
    (boundaryWork_scrollAxis _ _ _ _))
  have h2 : BoundaryWork s s2 := h1.trans (boundaryWork_ite (.refl s1) ((boundaryWork_rotateRoutes mx my s1).trans
    (boundaryWork_shiftGlide _ _ _)))
  exact h2.trans (boundaryWork_ite (boundaryWork_recentreTo cx cy s2) (.refl s2))

theorem boundaryWork_followManager (o : AnchorOrder) (s : State) : BoundaryWork s (followManager o s) := by
  unfold followManager
  extract_lets d me cx cy far s2
  have h2 : BoundaryWork s s2 := (boundaryWork_applyMoves cx cy _ _ far s).trans (boundaryWork_modRink (by exact fun _ => rfl) _)
  refine boundaryWork_ite ?_ h2
  exact ((h2.trans (boundaryWork_foldl (fun t n => boundaryWork_clearOnce n t) _ s2)).trans
    (boundaryWork_of_frame (changesOnly_modGlide _ _) (by simp))).trans
    (boundaryWork_of_frame (changesOnly_modPeers _ _) (by simp))

theorem boundaryWork_beginTest (u : Nat) (s : State) : BoundaryWork s (beginTest u s) :=
  (boundaryWork_modTile u _ s).trans (boundaryWork_modRink (by exact fun _ => rfl) _)

theorem boundaryWork_stopTest (u : Nat) (s : State) : BoundaryWork s (stopTest u s) :=
  ((boundaryWork_modTile u _ s).trans (boundaryWork_modRink (by exact fun _ => rfl) _)).trans (boundaryWork_modCounters _ _)

theorem boundaryWork_reduceExtent (s : State) : BoundaryWork s (reduceExtent s) := by
  unfold reduceExtent
  extract_lets old keep left s1 freed s2 s3
  have h1 : BoundaryWork s s1 := by
    refine boundaryWork_foldl (fun t g => boundaryWork_ite (.refl t) ?_) keep s
    split
    · exact (boundaryWork_moveTile _ _ t).trans (boundaryWork_clearOnce _ _)
    · exact .refl t
  have h2 : BoundaryWork s1 s2 := (boundaryWork_foldl (fun t u => boundaryWork_beginTest u t) freed s1).trans
    (boundaryWork_modRink (by exact fun _ => rfl) _)
  have h3 : BoundaryWork s2 s3 := by
    refine boundaryWork_foldl (fun t g => ?_) keep s2
    dsimp only
    split
    · exact ((boundaryWork_stopTest _ t).trans (boundaryWork_modTile _ _ _)).trans (boundaryWork_clearOnce _ _)
    · exact .refl t
  exact (((h1.trans h2).trans h3).trans (boundaryWork_modRink (by exact fun _ => rfl) s3)).trans (boundaryWork_newGeneration _)

theorem boundaryWork_applyLadder (s : State) : BoundaryWork s (applyLadder s) :=
  boundaryWork_ite (.refl s) (boundaryWork_of_frame (changesOnly_modPlans _ s) (by simp))

theorem boundaryWork_concludeKey (k : CmdKey) (st d : Nat) (r : Bytes) (s : State) :
    BoundaryWork s (concludeKey k st d r s) := by
  unfold concludeKey
  split
  · exact boundaryWork_of_frame (changesOnly_conclude _ st d r s) (by simp)
  · exact .refl s

theorem boundaryWork_applySwap (s : State) : BoundaryWork s (applySwap s) := by
  unfold applySwap
  split
  · exact .refl s
  · refine boundaryWork_ite (.refl s) ?_
    extract_lets old oldState s1 same s2
    have h1 : BoundaryWork s s1 := boundaryWork_of_frame (changesOnly_modPlans _ s) (by simp)
    have h2 : BoundaryWork s1 s2 := boundaryWork_ite (.refl s1)
      (boundaryWork_foldl (fun t n => boundaryWork_clearOnce n t) _ s1)
    exact (((h1.trans h2).trans (boundaryWork_newGeneration s2)).trans (boundaryWork_modRink (by exact fun _ => rfl) _)).trans
      (boundaryWork_concludeKey _ _ _ _ _)

/-- The changes of a boundary before the recentres done are struck off. -/
def boundaryMoves (f : FusionSet) (s : State) : State :=
  let s0 := modRink (fun (r : Rink) => { r with clearedNow := [] }) s
  let order := (s.peers.orders.filter (fun o => decide (o.instant ≤ f.instant))).getLast?
  let s1 := match isWorker s, order with
    | true, some o => followManager o s0
    | _, _ => applyMoves f.centreX f.centreY f.rebaseX f.rebaseY (s.align.recentreDue.any (fun n => decide (n ≤ f.frame))) s0
  applySwap (if s1.rink.reducePending then applyLadder (reduceExtent s1) else s1)

theorem applyBoundary_eq (f : FusionSet) (s : State) : applyBoundary f s =
    if (boundaryMoves f s).rink.generation = s.rink.generation then
      modAlign (fun (a : Align) => { a with recentreDue := a.recentreDue.filter (fun n => decide (f.frame < n)) })
        (boundaryMoves f s)
    else modRink (fun (r : Rink) => { r with boundaryFrame := f.frame })
      (modAlign (fun (a : Align) => { a with recentreDue := a.recentreDue.filter (fun n => decide (f.frame < n)) })
        (boundaryMoves f s)) := rfl

theorem boundaryWork_boundaryMoves (f : FusionSet) (s : State) : BoundaryWork s (boundaryMoves f s) := by
  unfold boundaryMoves
  extract_lets s0 order s1
  have h0 : BoundaryWork s s0 := boundaryWork_modRink (by exact fun _ => rfl) s
  have h1 : BoundaryWork s0 s1 := by
    show BoundaryWork s0 (match isWorker s, order with
      | true, some o => followManager o s0
      | _, _ => applyMoves f.centreX f.centreY f.rebaseX f.rebaseY (s.align.recentreDue.any (fun n => decide (n ≤ f.frame))) s0)
    split
    · exact boundaryWork_followManager _ s0
    · exact boundaryWork_applyMoves _ _ _ _ _ s0
  exact ((h0.trans h1).trans (boundaryWork_ite ((boundaryWork_reduceExtent s1).trans (boundaryWork_applyLadder _)) (.refl s1))).trans
    (boundaryWork_applySwap _)

/-- What a boundary's changes leave to the frame: FRAME_NUMBER follows the routes, the recentres done are struck off. -/
theorem applyBoundary_marks (f : FusionSet) (s : State) :
    (applyBoundary f s).rink.boundaryFrame =
      (if (applyBoundary f s).rink.generation = s.rink.generation then s.rink.boundaryFrame else f.frame) ∧
    (applyBoundary f s).align.recentreDue = s.align.recentreDue.filter (fun n => decide (f.frame < n)) ∧
    ChangesOnly [.rink, .align, .plans, .glide, .peers, .flight] s (applyBoundary f s) := by
  have hwork := boundaryWork_boundaryMoves f s
  rw [applyBoundary_eq]
  generalize boundaryMoves f s = u at hwork ⊢
  have hdue : u.align.recentreDue.filter (fun n => decide (f.frame < n)) =
      s.align.recentreDue.filter (fun n => decide (f.frame < n)) := by rw [hwork.due]
  have hframe := hwork.frame.step ((changesOnly_modAlign (fun (a : Align) =>
    { a with recentreDue := a.recentreDue.filter (fun n => decide (f.frame < n)) }) u).mono (by simp))
  split
  case isTrue hgen => exact ⟨hwork.mark.trans (if_pos hgen).symm, hdue, hframe⟩
  case isFalse hgen =>
    exact ⟨(if_neg hgen).symm, hdue, hframe.step ((changesOnly_modRink _ _).mono (by simp))⟩

/-- A frame that orders no move, with no change of extent, no new plan and no manager to follow, changes nothing at its
boundary. -/
theorem applyBoundary_still {f : FusionSet} {s : State} (hworker : isWorker s = false)
    (hdue : ∀ n ∈ s.align.recentreDue, f.frame < n) (hextent : s.rink.reducePending = false) (hswap : s.plans.swap = none)
    (hrx : f.rebaseX = s.rink.rebaseX) (hry : f.rebaseY = s.rink.rebaseY) (hcx : f.centreX = s.rink.centreX)
    (hcy : f.centreY = s.rink.centreY) :
    applyBoundary f s = { s with
      rink := { s.rink with clearedNow := [] }
      align := { s.align with recentreDue := s.align.recentreDue.filter (fun n => decide (f.frame < n)) } } := by
  have hnone : s.align.recentreDue.any (fun n => decide (n ≤ f.frame)) = false := by
    simpa using hdue
  have hmoves : boundaryMoves f s = modRink (fun (r : Rink) => { r with clearedNow := [] }) s := by
    unfold boundaryMoves
    simp only [hworker, hnone, applyMoves, hrx, hry, hcx, hcy, modRink, Int.sub_self, Int.add_zero, mag, Int.natAbs_zero,
      scrollAxis, Bool.false_eq_true, if_false, and_self, if_true, hextent, applySwap, hswap]
  rw [applyBoundary_eq, hmoves]
  exact if_pos rfl

/-! ## The slots at the start of a frame -/

/-- A slot as a frame begins with it. -/
def slotBegun (f : FusionSet) (on lost : Bool) (x : Slot) : Slot :=
  let age := if !on || x.clearing || !x.served then 0 else min 255 (x.historyAge + 1)
  { x with
    historyAge := age,
    frameDt := match age, x.stateInstant with
      | 0, _ => 0
      | _, some p => to32 (Dy.ratio ((f.instant : Int) - p) msUnits)
      | _, none => 0,
    patchLost := on && lost, haloLost := false, cameraPartial := false, noLidar := f.lidars.isEmpty && f.lidarClosed,
    truncated := false, passCameras := default, lidars := 0, liftBins := 0, occupiedVoxels := 0, landing := [],
    markers := 0, haloLayer := none, haloWait := [], stripPass := 0, headsDone := false, clearing := false, served := on }

/-- Slots begun one after another: nothing but the slots and the counters changes. -/
structure SlotsBegun (f : FusionSet) (served : List Nat) (l : List Nat) (s t : State) : Prop where
  rest : ∃ (slots : Vector Slot 48) (counters : RinkCounters),
    t = { s with rink := { s.rink with slots := slots, counters := counters } }
  begun : ∀ n ∈ l, n < 48 → ∃ lost, vget t.rink.slots n = slotBegun f (served.contains n) lost (vget s.rink.slots n)
  kept : ∀ n, n ∉ l → vget t.rink.slots n = vget s.rink.slots n

/-- One slot is begun, and a lost patch counted. -/
def beginSlot (f : FusionSet) (served : List Nat) (s : State) (n : Nat) : State :=
  let lost := match ownerOf s n with
    | some u => sramMarked s u
    | none => true
  let s1 := modSlot n (slotBegun f (served.contains n) lost) s
  if served.contains n && lost then modCounters (fun (c : RinkCounters) => { c with patchesLost := bump c.patchesLost }) s1
  else s1

theorem freshSlots_eq (f : FusionSet) (s : State) :
    freshSlots f s = (List.range 48).foldl (beginSlot f (serviceSlots s)) s := rfl

theorem slotsBegun_beginSlot (f : FusionSet) (served : List Nat) (s : State) (n : Nat) :
    SlotsBegun f served [n] s (beginSlot f served s n) := by
  unfold beginSlot
  extract_lets lost s1
  have h : SlotsBegun f served [n] s s1 := by
    refine ⟨⟨_, s.rink.counters, rfl⟩, fun m hm hlt => ?_, fun m hm => vget_vmod_ne _ _ (by simpa using hm)⟩
    obtain rfl := List.mem_singleton.1 hm
    exact ⟨lost, vget_vmod_same _ _ hlt⟩
  split
  · exact ⟨⟨_, _, rfl⟩, h.begun, h.kept⟩
  · exact h

theorem SlotsBegun.cons {f : FusionSet} {served l : List Nat} {n : Nat} {s t u : State} (h : SlotsBegun f served [n] s t)
    (hn : n ∉ l) (h' : SlotsBegun f served l t u) : SlotsBegun f served (n :: l) s u where
  rest := by
    obtain ⟨_, _, rfl⟩ := h.rest
    obtain ⟨slots, counters, rfl⟩ := h'.rest
    exact ⟨slots, counters, rfl⟩
  begun := fun m hm hlt => by
    rcases List.mem_cons.1 hm with rfl | hm
    · rw [h'.kept m hn]
      exact h.begun m (by simp) hlt
    · rw [← h.kept m (by simpa using ne_of_mem_of_not_mem hm hn)]
      exact h'.begun m hm hlt
  kept := fun m hm => by
    obtain ⟨hmn, hml⟩ := not_or.1 fun hmem => hm (List.mem_cons.2 hmem)
    rw [h'.kept m hml, h.kept m (by simpa using hmn)]

theorem slotsBegun_foldl (f : FusionSet) (served : List Nat) : ∀ (l : List Nat) (s : State), l.Nodup →
    SlotsBegun f served l s (l.foldl (beginSlot f served) s)
  | [], s, _ => ⟨⟨s.rink.slots, s.rink.counters, rfl⟩, nofun, fun _ _ => rfl⟩
  | n :: l, s, h => (slotsBegun_beginSlot f served s n).cons (List.nodup_cons.1 h).1
      (slotsBegun_foldl f served l _ (List.nodup_cons.1 h).2)

theorem slotsBegun_freshSlots (f : FusionSet) (s : State) :
    SlotsBegun f (serviceSlots s) (List.range 48) s (freshSlots f s) :=
  slotsBegun_foldl f (serviceSlots s) (List.range 48) s List.nodup_range

/-! ## The array is taken -/

/-- The frame that takes the array. -/
def frameBegun (f : FusionSet) (at_ : Dts) (s : State) : TileFrame :=
  { frame := f.frame, instant := f.instant, phase := .image, imageStart := at_,
    cameras := f.cameras, recentred := f.recentred, pass := 0, deal := serviceSlots s,
    strips := frameStrips (planImage s) f.cameras, lostStrips := [], columns := [], raysLost := [], rerouted := false,
    lidars := f.lidars, poses := liftPoses s f.cameras,
    tally := [], contests := [], detections := [], dropped := 0 }

/-- The frame holds the array. -/
def arrayTaken (f : FusionSet) (at_ : Dts) (s : State) : State :=
  modRink (fun (r : Rink) => { r with
    frame := some (frameBegun f at_ s), waitingFrame := r.waitingFrame.filter (fun w => w != f.frame),
    lastImage := some at_, packets := [], liftBins := 0, liftOutside := 0, liftDegenerate := 0, samplesClipped := 0,
    tiles := (List.range 49).foldl (fun (v : Vector Tile 49) t =>
      vmod v t (fun (x : Tile) => { x with lastStep := none, arith := default })) r.tiles }) s

/-- Gate 6's window opens, and the debt of the test slices is paid. -/
def imageGated (f : FusionSet) (at_ : Dts) (s : State) : State :=
  modSafety (fun (x : Safety) => { x with imageNotBefore := none, debtTime := 0 })
    (armGate 6 f.frame (at_ + (gate6Window s).1) (at_ + (gate6Window s).2) s)

/-- The state in which the frame's record is written. -/
def boundaryDone (f : FusionSet) (s : State) : State :=
  modSet f.frame (fun (x : FusionSet) => { x with handed := true }) (freshSlots f (settleExport (applyBoundary f s)))

/-- A frame boundary's effect. -/
def boundaryEffect (f : FusionSet) (s : State) : State :=
  if (frameBegun f (now s) (boundaryDone f s)).strips.isEmpty then
    startLift (frameBegun f (now s) (boundaryDone f s)) (imageGated f (now s) (arrayTaken f (now s) (boundaryDone f s)))
  else imageGated f (now s) (arrayTaken f (now s) (boundaryDone f s))

theorem execFrameBoundary_starts {f : FusionSet} {s : State} (ha : awake s = true) (hrun : inRun s = true)
    (hchange : s.power.change = none) (hfree : s.rink.frame = none) (hf : nextFrameFor s = some f)
    (hclosed : f.cameraClosed = true) (hpose : f.poseReady = true)
    (hslice : ∀ x, s.safety.imageNotBefore = some x → x ≤ now s) :
    execFrameBoundary s = answer s (boundaryEffect f s) := by
  have hgo : (!inRun s || s.power.change.isSome || !f.cameraClosed || !f.poseReady ||
      (s.safety.imageNotBefore.any (fun t => decide (now s < t)))) = false := by
    simpa [hrun, hchange, hclosed, hpose, Option.any_eq_false] using hslice
  unfold execFrameBoundary awakeAnswer
  rw [if_pos ha]
  simp only [hfree, hf, hgo, Bool.false_eq_true, if_false]
  rfl

theorem changesOnly_settleExport (s : State) : ChangesOnly [.rink, .settings] s (settleExport s) := by
  unfold settleExport
  exact ((changesOnly_ite (l := [.settings]) (fun _ => .refl _ s) fun _ => changesOnly_putSetting _ _ _ s).comp
    (changesOnly_modRink _ _)).mono (by simp)

theorem settleExport_rink (s : State) : ∃ e, (settleExport s).rink = { s.rink with export_ := e } := by
  unfold settleExport
  extract_lets b c
  refine ⟨{ s.rink.export_ with block := c }, ?_⟩
  split
  · rfl
  · rfl

theorem changesOnly_freshSlots (f : FusionSet) (s : State) : ChangesOnly [.rink] s (freshSlots f s) := by
  obtain ⟨slots, counters, h⟩ := (slotsBegun_freshSlots f s).rest
  rw [h]
  exact changesOnly_modRink (fun r => { r with slots := slots, counters := counters }) s

/-- What stands when the frame's record is written. -/
structure BoundaryDone (f : FusionSet) (s t : State) : Prop where
  frame : ChangesOnly [.rink, .align, .settings, .plans, .glide, .peers, .flight] s t
  slots : ∀ n, n < 48 → ∃ on lost x, vget t.rink.slots n = slotBegun f on lost x
  mark : t.rink.boundaryFrame = if t.rink.generation = s.rink.generation then s.rink.boundaryFrame else f.frame
  due : t.align.recentreDue = s.align.recentreDue.filter (fun n => decide (f.frame < n))

theorem boundaryDone_done (f : FusionSet) (s : State) : BoundaryDone f s (boundaryDone f s) := by
  obtain ⟨hmark, hdue, hframe⟩ := applyBoundary_marks f s
  unfold boundaryDone
  generalize applyBoundary f s = u at hmark hdue hframe ⊢
  have hexport := changesOnly_settleExport u
  obtain ⟨e, hrink⟩ := settleExport_rink u
  generalize settleExport u = v at hexport hrink ⊢
  have hslots := slotsBegun_freshSlots f v
  have hfresh := changesOnly_freshSlots f v
  generalize freshSlots f v = w at hslots hfresh ⊢
  have hset := changesOnly_modSet f.frame (fun (x : FusionSet) => { x with handed := true }) w
  obtain ⟨slots, counters, hw⟩ := hslots.rest
  have hwrink : w.rink.boundaryFrame = u.rink.boundaryFrame ∧ w.rink.generation = u.rink.generation := by
    rw [hw]
    dsimp only
    rw [hrink]
    exact ⟨rfl, rfl⟩
  refine ⟨(hframe.comp (hexport.comp (hfresh.comp hset))).mono (by simp), fun n hn => ?_, ?_, ?_⟩
  · obtain ⟨lost, hlost⟩ := hslots.begun n (List.mem_range.2 hn) hn
    exact ⟨_, lost, _, hlost⟩
  · show w.rink.boundaryFrame = if w.rink.generation = _ then _ else _
    rw [hwrink.1, hwrink.2, hmark]
  · show w.align.recentreDue = _
    rw [← hdue, show w.align = v.align from hfresh .align (by simp), show v.align = u.align from hexport .align (by simp)]

/-- What the frame's taking the array leaves of the Rink, the sets and the plans. -/
structure ArrayTaken (f : FusionSet) (at_ : Dts) (s t : State) : Prop where
  frame : ChangesOnly [.rink, .ingest, .safety] s t
  taken : t.rink.frame = some { frameBegun f at_ s with
    phase := if (frameBegun f at_ s).strips = [] then .lift else .image }
  tiles : ∀ u, u < 49 → vget t.rink.tiles u = { vget s.rink.tiles u with lastStep := none, arith := default }
  kept : t.rink.slots = s.rink.slots ∧ t.rink.generation = s.rink.generation ∧ t.rink.boundaryFrame = s.rink.boundaryFrame ∧
    t.rink.centreX = s.rink.centreX ∧ t.rink.centreY = s.rink.centreY ∧ t.rink.reduced = s.rink.reduced ∧
    t.rink.sentrySlots = s.rink.sentrySlots

theorem arrayTaken_tiles (f : FusionSet) (at_ : Dts) (s : State) {u : Nat} (hu : u < 49) :
    vget (arrayTaken f at_ s).rink.tiles u = { vget s.rink.tiles u with lastStep := none, arith := default } :=
  vget_foldl_vmod (fun x : Tile => { x with lastStep := none, arith := default }) hu (List.range 49) s.rink.tiles
    List.nodup_range (List.mem_range.2 hu)

theorem changesOnly_startLift (f : TileFrame) (s : State) : ChangesOnly [.rink, .ingest, .safety] s (startLift f s) := by
  unfold startLift
  refine changesOnly_ite (fun _ => .refl _ s) fun _ => ?_
  extract_lets s1
  have h1 : ChangesOnly [.rink, .ingest, .safety] s s1 :=
    ((changesOnly_modRink _ s).comp (changesOnly_releaseSlots f.cameras _)).mono (by simp)
  exact changesOnly_ite (fun _ => h1) fun _ => h1.step ((changesOnly_armGate _ _ _ _ s1).mono (by simp))

theorem startLift_rink {f : TileFrame} (hf : f.phase = .image) (s : State) :
    (startLift f s).rink = { s.rink with frame := some { f with phase := .lift } } := by
  unfold startLift
  rw [hf, if_neg (by decide)]
  extract_lets s1
  have h1 : s1.rink = { s.rink with frame := some { f with phase := .lift } } :=
    (changesOnly_releaseSlots f.cameras _) .rink (by simp)
  split
  · exact h1
  · exact ((changesOnly_armGate 5 f.frame _ _ s1) .rink (by simp)).trans h1

theorem imageGated_frame (f : FusionSet) (at_ : Dts) (s : State) : ChangesOnly [.safety] s (imageGated f at_ s) :=
  (changesOnly_armGate _ _ _ _ s).step (changesOnly_modSafety _ _)

theorem boundaryEffect_taken (f : FusionSet) (s : State) :
    ArrayTaken f (now s) (boundaryDone f s) (boundaryEffect f s) := by
  unfold boundaryEffect
  generalize boundaryDone f s = v
  generalize now s = at_
  have hgated := imageGated_frame f at_ (arrayTaken f at_ v)
  have htiles := fun {u : Nat} => arrayTaken_tiles f at_ v (u := u)
  have htaken : ChangesOnly [.rink] v (arrayTaken f at_ v) := changesOnly_modRink _ v
  have hkept : (arrayTaken f at_ v).rink.frame = some (frameBegun f at_ v) ∧
    (arrayTaken f at_ v).rink.slots = v.rink.slots ∧ (arrayTaken f at_ v).rink.generation = v.rink.generation ∧
    (arrayTaken f at_ v).rink.boundaryFrame = v.rink.boundaryFrame ∧ (arrayTaken f at_ v).rink.centreX = v.rink.centreX ∧
    (arrayTaken f at_ v).rink.centreY = v.rink.centreY ∧ (arrayTaken f at_ v).rink.reduced = v.rink.reduced ∧
    (arrayTaken f at_ v).rink.sentrySlots = v.rink.sentrySlots := by
    simp only [arrayTaken, modRink, and_self]
  generalize arrayTaken f at_ v = w at hgated htiles htaken hkept
  obtain ⟨hfr, hkept⟩ := hkept
  generalize imageGated f at_ w = x at hgated
  have hx : x.rink = w.rink := hgated .rink (by simp)
  rw [← hx] at hkept hfr
  have hvx : ChangesOnly [.rink, .ingest, .safety] v x := (htaken.comp hgated).mono (by simp)
  by_cases hstrips : (frameBegun f at_ v).strips = []
  · rw [if_pos (by simp [hstrips])]
    have hrink := startLift_rink (f := frameBegun f at_ v) rfl x
    refine ⟨hvx.step (changesOnly_startLift _ x), ?_, fun u hu => ?_, ?_⟩
    · rw [hrink, if_pos hstrips]
    · rw [hrink]
      exact (congrArg (fun r : Rink => vget r.tiles u) hx).trans (htiles hu)
    · rw [hrink]
      exact hkept
  · rw [if_neg (by simpa using hstrips)]
    refine ⟨hvx, ?_, fun u hu => (congrArg (fun r : Rink => vget r.tiles u) hx).trans (htiles hu), hkept⟩
    rw [hfr, if_neg hstrips]
    rfl

/-! ## The boundary -/

theorem planImage_of_frame {l : List Part} {s t : State} (h : ChangesOnly l s t) (hd : Part.device ∉ l)
    (hp : Part.plans ∉ l) : planImage t = planImage s := by
  unfold planImage activeSlot inSentry
  rw [h.dev_posture hd, show t.plans = s.plans from h .plans hp]

/-- The slots in service follow the extent and the Sentry patches. -/
theorem serviceSlots_congr {s t : State} (hside : reducedSide t = reducedSide s) (hx : t.rink.centreX = s.rink.centreX)
    (hy : t.rink.centreY = s.rink.centreY) (hreduced : t.rink.reduced = s.rink.reduced)
    (hsentry : t.rink.sentrySlots = s.rink.sentrySlots) : serviceSlots t = serviceSlots s := by
  have hin : slotInExtent t = slotInExtent s := by
    funext n
    simp only [slotInExtent, hside, hx, hy, hreduced]
  unfold serviceSlots
  rw [hsentry, hin]

theorem reducedSide_of_frame {l : List Part} {s t : State} (h : ChangesOnly l s t) (hl : Part.settings ∉ l) :
    reducedSide t = reducedSide s := congrArg (fun b => fld b 8 1) (h.setting_eq hl 0x0700 0)

theorem setting_putSetting_ne {op idx op' idx' : Nat} (h : settingKey op' idx' ≠ settingKey op idx) (b : Bytes) (s : State) :
    setting (putSetting op idx b s) op' idx' = setting s op' idx' := lookupD_assocSet_ne _ h _ _

/-- The state in which a frame that changes nothing at its boundary is written down. -/
theorem boundaryDone_still {f : FusionSet} {s : State} (hworker : isWorker s = false)
    (hdue : ∀ n ∈ s.align.recentreDue, f.frame < n) (hextent : s.rink.reducePending = false) (hswap : s.plans.swap = none)
    (hrx : f.rebaseX = s.rink.rebaseX) (hry : f.rebaseY = s.rink.rebaseY) (hcx : f.centreX = s.rink.centreX)
    (hcy : f.centreY = s.rink.centreY) :
    (boundaryDone f s).rink.tiles = s.rink.tiles ∧ (boundaryDone f s).rink.generation = s.rink.generation ∧
    (boundaryDone f s).rink.centreX = s.rink.centreX ∧ (boundaryDone f s).rink.centreY = s.rink.centreY ∧
    ∀ n, n < 48 → ∃ lost, vget (boundaryDone f s).rink.slots n =
      slotBegun f ((serviceSlots s).contains n) lost (vget s.rink.slots n) := by
  have hstill := applyBoundary_still hworker hdue hextent hswap hrx hry hcx hcy
  unfold boundaryDone
  have hexport := changesOnly_settleExport (applyBoundary f s)
  obtain ⟨e, hrink⟩ := settleExport_rink (applyBoundary f s)
  have hside : reducedSide (settleExport (applyBoundary f s)) = reducedSide s := by
    have h0700 : setting (settleExport (applyBoundary f s)) 0x0700 0 = setting (applyBoundary f s) 0x0700 0 := by
      unfold settleExport
      extract_lets b c
      split
      · rfl
      · exact setting_putSetting_ne (by decide) c _
    rw [reducedSide, h0700, hstill]
    rfl
  generalize settleExport (applyBoundary f s) = v at hexport hrink hside ⊢
  rw [hstill] at hrink
  have hslots := slotsBegun_freshSlots f v
  have hservice : serviceSlots v = serviceSlots s :=
    serviceSlots_congr hside (by rw [hrink]) (by rw [hrink]) (by rw [hrink]) (by rw [hrink])
  generalize freshSlots f v = w at hslots ⊢
  obtain ⟨slots, counters, hw⟩ := hslots.rest
  have hwr : w.rink = { v.rink with slots := slots, counters := counters } := by rw [hw]
  have hset : (modSet f.frame (fun (x : FusionSet) => { x with handed := true }) w).rink = w.rink := rfl
  rw [hset]
  refine ⟨?_, ?_, ?_, ?_, fun n hn => ?_⟩
  · rw [hwr, hrink]
  · rw [hwr, hrink]
  · rw [hwr, hrink]
  · rw [hwr, hrink]
  · obtain ⟨lost, hlost⟩ := hslots.begun n (List.mem_range.2 hn) hn
    refine ⟨lost, ?_⟩
    rw [hlost, hservice, hrink]

theorem slotBegun_age (f : FusionSet) (on lost : Bool) (x : Slot) : (slotBegun f on lost x).historyAge =
    if on = true ∧ x.clearing = false ∧ x.served = true then min 255 (x.historyAge + 1) else 0 := by
  cases hc : x.clearing <;> cases hs : x.served <;> cases on <;> simp [slotBegun, hc, hs]

/-- Settles O36: the boundary's changes keep its marks, the slots begin anew, and the frame takes the array. -/
theorem framesBeginAtTheirBoundary : Obligations.FramesBeginAtTheirBoundary := by
  unfold Obligations.FramesBeginAtTheirBoundary
  intro f s ha hrun hchange hfree hf hclosed hpose hslice
  refine completes_of_answer ((exec_frameBoundary s).trans
    (execFrameBoundary_starts ha hrun hchange hfree hf hclosed hpose hslice)) ?_
  have hdone := boundaryDone_done f s
  have hstill := boundaryDone_still (f := f) (s := s)
  have htaken := boundaryEffect_taken f s
  generalize boundaryDone f s = v at hdone hstill htaken
  generalize boundaryEffect f s = u at htaken
  obtain ⟨hkslots, hkgen, hkmark, hkx, hky, hkred, hksentry⟩ := htaken.kept
  have hsettle := (ChangesOnly.refl [] u).settle s
  have hvt : ChangesOnly [.rink, .ingest, .safety] v (settle s u) := htaken.frame.settle s
  have hrink : (settle s u).rink = u.rink := hsettle .rink (by simp)
  refine ⟨⟨_, hrink ▸ htaken.taken, rfl, rfl, rfl, rfl, ?_, ?_, ?_⟩, ?_, ?_, fun n hn => ?_, ?_, ?_⟩
  · exact congrArg (frameStrips · f.cameras) (planImage_of_frame hvt (by simp) (by simp)).symm
  · exact (serviceSlots_congr (reducedSide_of_frame hvt (by simp)) (hrink ▸ hkx) (hrink ▸ hky) (hrink ▸ hkred)
      (hrink ▸ hksentry)).symm
  · rfl
  · rw [hrink, hkmark, hkgen]
    exact hdone.mark
  · rw [show (settle s u).align = v.align from hvt .align (by simp)]
    exact hdone.due
  · obtain ⟨on, lost, x, hx⟩ := hdone.slots n hn
    rw [hrink, hkslots, hx]
    refine ⟨rfl, rfl, rfl, ?_⟩
    rw [slotBegun_age]
    split <;> omega
  · intro hworker hdue hextent hswap hrx hry hcx hcy
    obtain ⟨htiles, hgen, hx, hy, hslots⟩ := hstill hworker hdue hextent hswap hrx hry hcx hcy
    rw [hrink]
    refine ⟨fun n hn => ?_, hkgen.trans hgen, hkx.trans hx, hky.trans hy, fun n hn => ?_⟩
    · rw [htaken.tiles n hn, htiles]
    · obtain ⟨lost, hlost⟩ := hslots n hn
      rw [hkslots, hlost, slotBegun_age]
  · exact (hdone.frame.comp hvt).mono (by simp)

end Sys2Proof.Machine
end

section
/-! The retirement of a tile (O38; R256): a migration whose target is its own source. -/

namespace Sys2Proof.Machine

/-- A state with a migration from tile 0 to tile 0, and the retirement of tile 0 commanded. -/
def selfMigrating : State :=
  running1 { live with rink := { live.rink with
    migration := some { phase := .copy, source := 0, target := 0, tick := 0, since := 0 } } } 0x0702 (zeros 8)

theorem selfMigrating_ready : Ready key1 0x0702 selfMigrating (cmd1 0x0702 (zeros 8)) := ⟨rfl, rfl, rfl⟩

/-- Tile 0 is fenced and takes its own slot again as the target of the migration. -/
theorem selfMigrating_serves :
    ∃ u, exec (.retireTile key1) selfMigrating = .next u ∧ tileRole u 0 = .service := by
  refine ⟨_, rfl, ?_⟩
  decide +kernel

/-- Refutes O38: the statement does not ask a migration's target to be another tile than its source; where it is the same, R256
gives the retired tile's slot to the target, and tile 0 is in service after its own retirement. -/
theorem not_tilesRetireAndLanesAreReplaced : ¬ Obligations.TilesRetireAndLanesAreReplaced := by
  unfold Obligations.TilesRetireAndLanesAreReplaced
  rintro ⟨hretire, _⟩
  obtain ⟨t, hexec, _, hretired, _⟩ := hretire key1 _ 0 selfMigrating selfMigrating_ready (by decide) (by decide)
    (by decide +kernel) (by decide +kernel) (by decide +kernel)
  obtain ⟨u, hexec', hserves⟩ := selfMigrating_serves
  obtain rfl : t = u := by simpa using hexec.symm.trans hexec'
  exact absurd (hretired.symm.trans hserves) (by decide)

end Sys2Proof.Machine
end

section
/-! Crossover (O37; R233, R247, R248, R250, R253). -/

namespace Sys2Proof.Machine

/-! ## Tiles in a role -/

theorem lt_of_mem_walkOrder {u : Nat} (h : u ∈ walkOrder) : u < 49 := by
  have hall : ∀ v ∈ walkOrder, v < 49 := by decide
  exact hall u h

theorem lt_of_mem_walkAfter {p u : Nat} (h : u ∈ walkAfter p) : u < 49 := by
  rcases List.mem_append.1 h with h | h
  · exact lt_of_mem_walkOrder (List.mem_of_mem_drop h)
  · exact lt_of_mem_walkOrder (List.mem_of_mem_take h)

theorem mem_of_foldl_some {α : Type} {f : Option α → α → Option α} (hf : ∀ b x, f b x = b ∨ f b x = some x) :
    ∀ (l : List α) (b : Option α) {o : α}, l.foldl f b = some o → b = some o ∨ o ∈ l
  | [], _, _, h => .inl h
  | x :: l, b, o, h => by
    rcases mem_of_foldl_some hf l _ h with hb | ho
    · rcases hf b x with hk | hk
      · exact .inl (hk.symm.trans hb)
      · obtain rfl : x = o := by simpa using hk.symm.trans hb
        exact .inr List.mem_cons_self
    · exact .inr (List.mem_cons_of_mem _ ho)

/-- The tile longest in a role has that role. -/
theorem longest_mem {s : State} {role : TileRole} {order : Tile → Nat} {o : Nat} (h : longest s role order = some o) :
    o < 49 ∧ tileRole s o = role := by
  have hmem : o ∈ tilesIn s role := by
    refine (mem_of_foldl_some (fun b x => ?_) _ none h).resolve_left nofun
    cases b with
    | none => exact .inr rfl
    | some u =>
      dsimp only
      split
      · exact .inr rfl
      · exact .inl rfl
  have := List.mem_filter.1 hmem
  exact ⟨lt_of_mem_walkOrder this.1, by simpa using this.2⟩

theorem tileRole_modTile {u : Nat} (hu : u < 49) (f : Tile → Tile) (s : State) :
    tileRole (modTile u f s) u = (f (vget s.rink.tiles u)).role := congrArg Tile.role (vget_vmod_same _ _ hu)

theorem tile_modTile {u : Nat} (hu : u < 49) (f : Tile → Tile) (s : State) :
    vget (modTile u f s).rink.tiles u = f (vget s.rink.tiles u) := vget_vmod_same _ _ hu

theorem tile_modTile_ne {u v : Nat} (h : v ≠ u) (f : Tile → Tile) (s : State) :
    vget (modTile u f s).rink.tiles v = vget s.rink.tiles v := vget_vmod_ne _ _ h

/-! ## The copy -/

theorem copyStarts {t : Dts} {a b p : Nat} {s : State} (ha : awake s = true) (hrun : inRun s = true)
    (hnone : s.rink.migration = none) (hdue : s.rink.migrationDue = some t) (ht : t ≤ now s)
    (hb : longest s .spareReady (·.readySince) = some b) (hnext : s.rink.nextSource = none)
    (hprev : s.rink.previousSource = some p) (hsource : (walkAfter p).find? (fun u => tileRole s u == .service) = some a) :
    Completes .migrationCopyStart s fun u => (∃ m, u.rink.migration = some m ∧ m.phase = .copy ∧ m.source = a ∧
      m.target = b ∧ m.tick = t ∧ m.since = now s) ∧ tileRole u b = .migrationTarget ∧ tileRole u a = .service ∧
      u.rink.previousSource = some a ∧ u.rink.generation = s.rink.generation ∧ ChangesOnly [.rink] s u := by
  obtain ⟨hlt, hrole⟩ := longest_mem hb
  have hservice : tileRole s a = .service := by simpa using List.find?_some hsource
  have hne : a ≠ b := by
    rintro rfl
    rw [hservice] at hrole
    exact nomatch hrole
  have hmigration : migrationSource s b = some a := by
    unfold migrationSource
    rw [hnext, hprev]
    exact hsource
  have heq : execMigrationCopyStart s = answer s (modRink (fun (r : Rink) => { r with
      migration := some { phase := .copy, source := a, target := b, tick := t, since := now s },
      migrationDue := none, previousSource := some a, nextSource := none })
      (modTile b (fun (x : Tile) => { x with role := .migrationTarget }) s)) := by
    unfold execMigrationCopyStart awakeAnswer
    rw [if_pos ha]
    simp only [hnone, hdue, hb, hmigration, hrun, Nat.not_lt.2 ht, Bool.not_true, decide_false, Bool.or_self,
      Bool.false_eq_true, if_false]
  refine completes_of_answer ((exec_migrationCopyStart s).trans heq) ?_
  simp only [tileRole, settle_rink]
  refine ⟨⟨_, rfl, rfl, rfl, rfl, rfl, rfl⟩, tileRole_modTile hlt _ s, ?_, rfl, rfl, ?_⟩
  · exact (congrArg Tile.role (tile_modTile_ne hne _ s)).trans hservice
  · exact ((changesOnly_modTile b _ s).step (changesOnly_modRink _ _)).settle s

/-! ## The shadow step and the handover -/

/-- The handover: the slot passes to the target, and the source drains. -/
def handedOver (m : Migration) (at_ : Dts) (s : State) : State :=
  newGeneration (modCounters (fun (c : RinkCounters) => { c with
      migrations := bump c.migrations, maxHandoverUs := max c.maxHandoverUs ((at_ - m.tick) / usUnits) })
    (modRink (fun (r : Rink) => { r with migration := some { m with phase := .drain, since := at_ } })
      (modTile m.source (fun (y : Tile) => { y with draining := true }) (beginTest m.source
        (modTile m.target (fun (y : Tile) => { y with role := .service, slot := (vget s.rink.tiles m.source).slot }) s)))))

theorem tile_beginTest_ne {u v : Nat} (h : v ≠ u) (s : State) :
    vget (beginTest u s).rink.tiles v = vget s.rink.tiles v := tile_modTile_ne h _ s

theorem handedOver_source (m : Migration) (at_ : Dts) {s : State} (hs : m.source < 49) :
    vget (handedOver m at_ s).rink.tiles m.source = { vget (modTile m.target (fun (y : Tile) =>
      { y with role := .service, slot := (vget s.rink.tiles m.source).slot }) s).rink.tiles m.source with
      role := .spareTesting, slot := none, spareSince := s.rink.nextOrder, draining := true } :=
  (tile_modTile hs _ _).trans (congrArg (fun x : Tile => { x with draining := true }) (tile_modTile hs _ _))

theorem handedOver_target (m : Migration) (at_ : Dts) {s : State} (ht : m.target < 49) (hne : m.source ≠ m.target) :
    vget (handedOver m at_ s).rink.tiles m.target = { vget s.rink.tiles m.target with
      role := .service, slot := (vget s.rink.tiles m.source).slot } :=
  ((tile_modTile_ne hne.symm (fun y => { y with draining := true }) _).trans (tile_beginTest_ne hne.symm _)).trans
    (tile_modTile ht _ s)

theorem changesOnly_beginTest (u : Nat) (s : State) : ChangesOnly [.rink] s (beginTest u s) :=
  (changesOnly_modTile u _ s).step (changesOnly_modRink _ _)

theorem changesOnly_handedOver (m : Migration) (at_ : Dts) (s : State) : ChangesOnly [.rink] s (handedOver m at_ s) :=
  (((((changesOnly_modTile _ _ s).step (changesOnly_beginTest m.source _)).step (changesOnly_modTile _ _ _)).step
    (changesOnly_modRink _ _)).step (changesOnly_modCounters _ _)).step (changesOnly_newGeneration _)

/-- The abort on differing signatures: the target is tested. -/
def handoverAborted (m : Migration) (s : State) : State :=
  beginTest m.target (modCounters (fun (c : RinkCounters) => { c with
      migrationAborts := bump c.migrationAborts, shadowMismatches := bump c.shadowMismatches })
    (modRink (fun (r : Rink) => { r with migration := none, mismatch := some (m.target, m.source) }) s))

theorem changesOnly_handoverAborted (m : Migration) (s : State) : ChangesOnly [.rink] s (handoverAborted m s) :=
  ((changesOnly_modRink _ s).step (changesOnly_modCounters _ _)).step (changesOnly_beginTest m.target _)

section
variable {m : Migration} {s : State}

theorem shadowStepRuns (ha : awake s = true) (hm : s.rink.migration = some m) (ht : m.target < 49)
    (hne : m.source ≠ m.target) (hphase : m.phase = .copy) (hsince : 10 * m.since + 1024 * usUnits ≤ 10 * now s) :
    Completes .migrationShadowStep s fun u =>
      u.rink.migration = some { m with phase := .shadow, since := now s } ∧
      vget u.rink.tiles m.target = { vget s.rink.tiles m.source with
        role := (vget s.rink.tiles m.target).role, slot := (vget s.rink.tiles m.target).slot,
        lastTest := (vget s.rink.tiles m.target).lastTest, spareSince := (vget s.rink.tiles m.target).spareSince,
        readySince := (vget s.rink.tiles m.target).readySince, draining := (vget s.rink.tiles m.target).draining,
        arith := (vget s.rink.tiles m.target).arith } ∧
      vget u.rink.tiles m.source = vget s.rink.tiles m.source ∧ ChangesOnly [.rink] s u := by
  have hgo : (m.phase != .copy || decide (10 * now s < 10 * m.since + 1024 * usUnits)) = false := by
    rw [hphase, decide_eq_false (Nat.not_lt.2 hsince)]
    rfl
  have heq : execMigrationShadowStep s = answer s (modRink (fun (r : Rink) => { r with
      migration := some { m with phase := .shadow, since := now s } })
      (modTile m.target (fun (y : Tile) => { y with
        sram := (vget s.rink.tiles m.source).sram, streams := (vget s.rink.tiles m.source).streams,
        streamUse := (vget s.rink.tiles m.source).streamUse, tables := (vget s.rink.tiles m.source).tables,
        working := (vget s.rink.tiles m.source).working, uncommitted := (vget s.rink.tiles m.source).uncommitted,
        lastStep := (vget s.rink.tiles m.source).lastStep, signature := (vget s.rink.tiles m.source).signature,
        rerun := (vget s.rink.tiles m.source).rerun, refetch := (vget s.rink.tiles m.source).refetch }) s)) := by
    unfold execMigrationShadowStep awakeAnswer
    rw [if_pos ha]
    simp only [hm, hgo, Bool.false_eq_true, if_false]
  refine completes_of_answer ((exec_migrationShadowStep s).trans heq) ?_
  simp only [settle_rink]
  refine ⟨rfl, tile_modTile ht _ s, tile_modTile_ne hne _ s, ?_⟩
  exact ((changesOnly_modTile _ _ s).step (changesOnly_modRink _ _)).settle s

theorem handoverPasses (ha : awake s = true) (hm : s.rink.migration = some m) (hs : m.source < 49) (ht : m.target < 49)
    (hne : m.source ≠ m.target) (hphase : m.phase = .shadow) (hsince : 10 * m.since + usUnits ≤ 10 * now s)
    (hsig : (vget s.rink.tiles m.source).signature = (vget s.rink.tiles m.target).signature) :
    Completes .migrationHandover s fun u =>
      (vget u.rink.tiles m.target).role = .service ∧ (vget u.rink.tiles m.target).slot = (vget s.rink.tiles m.source).slot ∧
      (vget u.rink.tiles m.source).role = .spareTesting ∧ (vget u.rink.tiles m.source).slot = none ∧
      (vget u.rink.tiles m.source).draining = true ∧ u.rink.migration = some { m with phase := .drain, since := now s } ∧
      u.rink.generation = (s.rink.generation + 1) % 2 ^ 32 ∧ u.rink.counters.migrations = bump s.rink.counters.migrations ∧
      u.rink.counters.maxHandoverUs = max s.rink.counters.maxHandoverUs ((now s - m.tick) / usUnits) ∧
      ChangesOnly [.rink] s u := by
  have hgo : (m.phase != .shadow || decide (10 * now s < 10 * m.since + usUnits)) = false := by
    rw [hphase, decide_eq_false (Nat.not_lt.2 hsince)]
    rfl
  have heq : execMigrationHandover s = answer s (handedOver m (now s) s) := by
    unfold execMigrationHandover awakeAnswer
    rw [if_pos ha]
    simp only [hm, hgo, hsig, Bool.false_eq_true, if_false, if_true]
    rfl
  refine completes_of_answer ((exec_migrationHandover s).trans heq) ?_
  rw [settle_rink, handedOver_source m (now s) hs, handedOver_target m (now s) ht hne]
  exact ⟨rfl, rfl, rfl, rfl, rfl, rfl, rfl, rfl, rfl, (changesOnly_handedOver m (now s) s).settle s⟩

theorem handoverAborts (ha : awake s = true) (hm : s.rink.migration = some m) (ht : m.target < 49)
    (hne : m.source ≠ m.target) (hphase : m.phase = .shadow) (hsince : 10 * m.since + usUnits ≤ 10 * now s)
    (hsig : (vget s.rink.tiles m.source).signature ≠ (vget s.rink.tiles m.target).signature) :
    Completes .migrationHandover s fun u => u.rink.migration = none ∧
      vget u.rink.tiles m.source = vget s.rink.tiles m.source ∧ (vget u.rink.tiles m.target).role = .spareTesting ∧
      u.rink.mismatch = some (m.target, m.source) ∧ u.rink.nextSource = s.rink.nextSource ∧ u.rink.generation = s.rink.generation ∧
      u.rink.counters.shadowMismatches = bump s.rink.counters.shadowMismatches ∧
      u.rink.counters.migrationAborts = bump s.rink.counters.migrationAborts ∧
      (∃ r, u.patrol.wires = s.patrol.wires ++ [r] ∧ r.cls = .ce ∧ r.level = 4) ∧ ChangesOnly [.rink, .patrol] s u := by
  have hgo : (m.phase != .shadow || decide (10 * now s < 10 * m.since + usUnits)) = false := by
    rw [hphase, decide_eq_false (Nat.not_lt.2 hsince)]
    rfl
  have heq : execMigrationHandover s = answer s (report (rinkFault m.target 0) 0 4 .ce 0 (handoverAborted m s)) := by
    unfold execMigrationHandover awakeAnswer
    rw [if_pos ha]
    simp only [hm, hgo, hsig, Bool.false_eq_true, if_false]
    rfl
  refine completes_of_answer ((exec_migrationHandover s).trans heq) ?_
  simp only [settle_rink, settle_patrol]
  refine ⟨rfl, tile_modTile_ne hne _ _, congrArg Tile.role (tile_modTile ht _ _), rfl, rfl, rfl, rfl, rfl, ⟨_, rfl, rfl, rfl⟩, ?_⟩
  exact ((changesOnly_handoverAborted m s).comp (changesOnly_report _ _ _ _ _ _)).settle s

end

/-- The drain marker of the old generation has returned. -/
theorem forwarderDrains {m : Migration} {s : State} (ha : awake s = true) (hm : s.rink.migration = some m)
    (hphase : m.phase = .drain) (hs : m.source < 49) (hsince : 10 * m.since + 5 * usUnits ≤ 10 * now s)
    (hrouted : unrouted s m.source = true) : Completes .forwarderDrained s fun u => u.rink.migration = none ∧
      vget u.rink.tiles m.source = { vget s.rink.tiles m.source with draining := false } ∧ ChangesOnly [.rink] s u := by
  have hgo : (m.phase != .drain || decide (10 * now s < 10 * m.since + 5 * usUnits) || !unrouted s m.source) = false := by
    rw [hphase, decide_eq_false (Nat.not_lt.2 hsince), hrouted]
    rfl
  have heq : execForwarderDrained s = answer s (modRink (fun (r : Rink) => { r with migration := none })
      (modTile m.source (fun (y : Tile) => { y with draining := false }) s)) := by
    unfold execForwarderDrained awakeAnswer
    rw [if_pos ha]
    simp only [hm, hgo, Bool.false_eq_true, if_false]
  refine completes_of_answer ((exec_forwarderDrained s).trans heq) ?_
  simp only [settle_rink]
  exact ⟨rfl, tile_modTile hs _ s, ((changesOnly_modTile _ _ s).step (changesOnly_modRink _ _)).settle s⟩

/-- A router's copy follows the table in force. -/
theorem copyFollows {router : Nat} {s : State} (ha : awake s = true) (hr : router < 49) :
    Completes (.routeGenerationMarker router) s fun u =>
      (vget u.rink.copies router).generation = s.rink.generation ∧
      (∀ n, n < 48 → vget (vget u.rink.copies router).owners n = ownerOf s n) ∧
      (∀ q, q < 49 → q ≠ router → vget u.rink.copies q = vget s.rink.copies q) ∧ ChangesOnly [.rink] s u := by
  refine completes_of_awake (exec_routeGenerationMarker router s) ha ?_
  rw [settle_rink, modRink_rink, vget_vset_same _ _ hr]
  exact ⟨rfl, fun n hn => vget_ofFn _ hn, fun q _ hq => vget_vset_ne _ _ hq, (changesOnly_modRink _ s).settle s⟩

/-! ## The test of a spare -/

section
variable {x : Nat} {s : State}

/-- A spare that passes its test is ready; the one whose signature differed makes its source the next to be freed. -/
def testPassed (x : Nat) (s : State) : State :=
  modCounters (fun (c : RinkCounters) => { c with testsPassed := bump c.testsPassed })
    (modRink (fun (r : Rink) => { r with
        nextOrder := r.nextOrder + 1, testOrder := r.testOrder.filter (fun u => u != x),
        nextSource := match r.mismatch with
          | some m => if m.1 = x then some m.2 else r.nextSource
          | none => r.nextSource,
        mismatch := r.mismatch.filter (fun m => m.1 != x) })
      (modTile x (fun (y : Tile) => { y with role := .spareReady, lastTest := 1, readySince := s.rink.nextOrder }) s))

theorem execSpareTestComplete_ends (ha : awake s = true) (hx : x < 49) (hrole : tileRole s x = .spareTesting)
    (hdrain : (vget s.rink.tiles x).draining = false) (hend : testMayEnd s x = true) (passed : Bool) :
    execSpareTestComplete x passed s = answer s (if passed then testPassed x s else
      retireTile x (report (rinkFault x 0) 0 4 .uc 0 (modTile x (fun (y : Tile) => { y with lastTest := 2 }) s))) := by
  have hgo : (49 ≤ x || (vget s.rink.tiles x).role != .spareTesting || (vget s.rink.tiles x).draining ||
      !testMayEnd s x) = false := by
    rw [show (vget s.rink.tiles x).role = .spareTesting from hrole, hdrain, hend, decide_eq_false (Nat.not_le.2 hx)]
    rfl
  unfold execSpareTestComplete awakeAnswer
  rw [if_pos ha]
  simp only [hgo, Bool.false_eq_true, if_false]
  cases passed
  · rfl
  · rfl

theorem testPassed_nextSource (x : Nat) (s : State) : (testPassed x s).rink.nextSource = match s.rink.mismatch with
    | some m => if m.1 = x then some m.2 else s.rink.nextSource
    | none => s.rink.nextSource := rfl

theorem spareBecomesReady (ha : awake s = true) (hx : x < 49) (hrole : tileRole s x = .spareTesting)
    (hdrain : (vget s.rink.tiles x).draining = false) (hend : testMayEnd s x = true) :
    Completes (.spareTestComplete x true) s fun u => tileRole u x = .spareReady ∧ (vget u.rink.tiles x).lastTest = 1 ∧
      u.rink.counters.testsPassed = bump s.rink.counters.testsPassed ∧
      (∀ a, s.rink.mismatch = some (x, a) → u.rink.nextSource = some a) ∧
      ((∀ a, s.rink.mismatch ≠ some (x, a)) → u.rink.nextSource = s.rink.nextSource) ∧ ChangesOnly [.rink] s u := by
  refine completes_of_answer ((exec_spareTestComplete x true s).trans
    ((execSpareTestComplete_ends ha hx hrole hdrain hend true).trans (congrArg (answer s) (if_pos rfl)))) ?_
  simp only [tileRole, settle_rink, testPassed_nextSource]
  refine ⟨congrArg Tile.role (tile_modTile hx _ s), congrArg Tile.lastTest (tile_modTile hx _ s), rfl, fun a h => ?_,
    fun h => ?_, ?_⟩
  · rw [h]
    exact if_pos rfl
  · cases hm : s.rink.mismatch with
    | none => rfl
    | some m => exact if_neg fun h' => h m.2 (by rw [hm, ← h'])
  · exact (((changesOnly_modTile x _ s).step (changesOnly_modRink _ _)).step (changesOnly_modCounters _ _)).settle s

end

/-! ## The retirement of a spare (R253, R256) -/

theorem changesOnly_stopTest (u : Nat) (s : State) : ChangesOnly [.rink] s (stopTest u s) :=
  ((changesOnly_modTile u _ s).step (changesOnly_modRink _ _)).step (changesOnly_modCounters _ _)

theorem changesOnly_fence (x : Nat) (s : State) : ChangesOnly [.rink] s (fence x s) := by
  unfold fence
  extract_lets s1
  have h1 : ChangesOnly [.rink] s s1 := changesOnly_ite (fun _ => changesOnly_stopTest x s) fun _ => .refl _ s
  exact (h1.step (changesOnly_modTile x _ s1)).step (changesOnly_modRink _ _)

theorem changesOnly_abortMigration (s : State) : ChangesOnly [.rink] s (abortMigration s) := by
  unfold abortMigration
  split
  case h_1 m _ =>
    extract_lets s1
    have h1 : ChangesOnly [.rink] s s1 := changesOnly_modRink _ s
    refine changesOnly_ite (fun _ => h1.step (changesOnly_modTile _ _ s1)) fun _ => ?_
    exact h1.step ((changesOnly_ite (fun _ => changesOnly_beginTest _ s1) fun _ => .refl _ s1).step (changesOnly_modCounters _ _))
  case h_2 => exact changesOnly_modRink _ s

theorem changesOnly_wakeDormant (s : State) : ChangesOnly [.rink] s (wakeDormant s) := by
  unfold wakeDormant
  refine changesOnly_ite (fun _ => .refl _ s) fun _ => changesOnly_ite (fun _ => ?_) fun _ => .refl _ s
  split
  · exact changesOnly_beginTest _ s
  · exact .refl _ s

theorem changesOnly_applyLadder (s : State) : ChangesOnly [.plans] s (applyLadder s) :=
  changesOnly_ite (fun _ => .refl _ s) fun _ => changesOnly_modPlans _ s

theorem tileRole_fence {x : Nat} (hx : x < 49) (s : State) : tileRole (fence x s) x = .retired :=
  congrArg Tile.role (tile_modTile hx _ _)

theorem tile_wakeDormant {x : Nat} {s : State} (h : tileRole s x ≠ .dormant) :
    vget (wakeDormant s).rink.tiles x = vget s.rink.tiles x := by
  unfold wakeDormant
  split
  · rfl
  · split
    · cases hd : (tilesIn s .dormant).head? with
      | none => rfl
      | some t =>
        have hrole := (List.mem_filter.1 (List.mem_of_mem_head? hd)).2
        refine tile_beginTest_ne (fun heq => h ?_) s
        rw [heq]
        simpa using hrole
    · rfl

theorem wouldBeTenth_congr {s t : State} (h : ∀ u, tileRole t u = tileRole s u) : wouldBeTenth t = wouldBeTenth s := by
  have hmap : t.rink.tiles.toList.map Tile.role = s.rink.tiles.toList.map Tile.role := by
    refine List.ext_getElem (by simp) fun i hi _ => ?_
    have hlt : i < 49 := by simpa using hi
    have hi := h i
    rw [tileRole, tileRole, vget_eq_getElem _ hlt, vget_eq_getElem _ hlt] at hi
    simpa using hi
  have hcount : ∀ l : List Tile, (l.filter (fun t => t.role == .retired)).length = (l.map Tile.role).countP (· == .retired) := by
    intro l
    rw [List.countP_map, List.countP_eq_length_filter]
    rfl
  unfold wouldBeTenth tilesRetired
  rw [hcount, hcount, hmap]

theorem retireTile_tenth {x : Nat} {s : State} (hx : x < 49) (hrole : tileRole s x ≠ .retired) (h : wouldBeTenth s = true) :
    retireTile x s = report (rinkFault x 0) 0 5 .fa 0 (fence x (abortMigration s)) := by
  have hgo : ((vget s.rink.tiles x).role == .retired || decide (49 ≤ x)) = false := by
    rw [decide_eq_false (Nat.not_le.2 hx), Bool.or_false]
    exact beq_eq_false_iff_ne.2 hrole
  unfold retireTile
  simp only [hgo, h, Bool.false_eq_true, if_false, if_true]

/-- The state in which a spare that a migration drained is fenced. -/
def drainEnded (x : Nat) (s : State) : State :=
  match s.rink.migration with
  | some m => if m.source = x then modRink (fun (r : Rink) => { r with migration := none }) s else s
  | none => s

theorem retireTile_testing {x : Nat} {s : State} (hx : x < 49) (hrole : tileRole s x = .spareTesting)
    (h : wouldBeTenth s = false) : retireTile x s = applyLadder (wakeDormant (fence x (drainEnded x s))) := by
  have hr : (vget s.rink.tiles x).role = .spareTesting := hrole
  unfold retireTile
  simp only [hr, h, decide_eq_false (Nat.not_le.2 hx), Bool.false_eq_true, if_false]
  rfl

theorem drainEnded_tiles (x : Nat) (s : State) : (drainEnded x s).rink.tiles = s.rink.tiles := by
  unfold drainEnded
  split
  · split
    · rfl
    · rfl
  · rfl

theorem changesOnly_drainEnded (x : Nat) (s : State) : ChangesOnly [.rink] s (drainEnded x s) := by
  unfold drainEnded
  split
  · exact changesOnly_ite (fun _ => changesOnly_modRink _ s) fun _ => .refl _ s
  · exact .refl _ s

/-- A spare that failed its test keeps LAST_TEST when it is fenced away. -/
theorem tile_fence_failed {x : Nat} {s : State} (hx : x < 49) (h : (vget s.rink.tiles x).lastTest = 2) :
    (vget (fence x s).rink.tiles x).lastTest = 2 := by
  unfold fence
  simp only [h, bne_self_eq_false, Bool.and_false, Bool.false_eq_true, if_false]
  exact (congrArg Tile.lastTest (tile_modTile hx _ s)).trans h

section
variable {x : Nat} {s : State}

/-- A spare whose test failed, as it is retired. -/
def testFailed (x : Nat) (s : State) : State :=
  report (rinkFault x 0) 0 4 .uc 0 (modTile x (fun (y : Tile) => { y with lastTest := 2 }) s)

theorem testFailed_role (hx : x < 49) (u : Nat) (s : State) : tileRole (testFailed x s) u = tileRole s u := by
  by_cases hu : u = x
  · subst hu
    exact tileRole_modTile hx _ s
  · exact congrArg Tile.role (tile_modTile_ne hu _ s)

theorem changesOnly_testFailed (x : Nat) (s : State) : ChangesOnly [.rink, .patrol] s (testFailed x s) :=
  (changesOnly_modTile x _ s).comp (changesOnly_report _ _ _ _ _ _)

theorem tenthRetirementIsFatal (ha : awake s = true) (hx : x < 49) (hrole : tileRole s x = .spareTesting)
    (hdrain : (vget s.rink.tiles x).draining = false) (hend : testMayEnd s x = true) (htenth : wouldBeTenth s = true) :
    Completes (.spareTestComplete x false) s fun u => tileRole u x = .retired ∧
      (∃ r ∈ u.patrol.wires, r.source = rinkFault x 0 ∧ r.cls = .fa ∧ r.level = 5) ∧
      ChangesOnly [.rink, .patrol, .plans] s u := by
  have hrole' := testFailed_role hx x s
  have heq := retireTile_tenth (s := testFailed x s) hx (by rw [hrole', hrole]; decide)
    ((wouldBeTenth_congr fun u => testFailed_role hx u s).trans htenth)
  refine completes_of_answer ((exec_spareTestComplete x false s).trans
    ((execSpareTestComplete_ends ha hx hrole hdrain hend false).trans (congrArg (answer s) heq))) ?_
  simp only [tileRole, settle_rink, settle_patrol]
  refine ⟨tileRole_fence hx _, ⟨_, List.mem_append_right _ (List.mem_singleton.2 rfl), rfl, rfl, rfl⟩, ?_⟩
  exact ((((changesOnly_testFailed x s).comp (changesOnly_abortMigration _)).comp ((changesOnly_fence x _).comp
    (changesOnly_report _ _ _ _ _ _))).mono (by simp)).settle s

theorem failedSpareIsRetired (ha : awake s = true) (hx : x < 49) (hrole : tileRole s x = .spareTesting)
    (hdrain : (vget s.rink.tiles x).draining = false) (hend : testMayEnd s x = true) (htenth : wouldBeTenth s = false) :
    Completes (.spareTestComplete x false) s fun u => tileRole u x = .retired ∧ (vget u.rink.tiles x).lastTest = 2 ∧
      (∃ r, u.patrol.wires = s.patrol.wires ++ [r] ∧ r.source = rinkFault x 0 ∧ r.cls = .uc ∧ r.level = 4) ∧
      ChangesOnly [.rink, .patrol, .plans] s u := by
  have heq := retireTile_testing (s := testFailed x s) hx ((testFailed_role hx x s).trans hrole)
    ((wouldBeTenth_congr fun u => testFailed_role hx u s).trans htenth)
  have htest : (vget (drainEnded x (testFailed x s)).rink.tiles x).lastTest = 2 := by
    rw [drainEnded_tiles]
    exact congrArg Tile.lastTest (tile_modTile hx _ s)
  have hladder := changesOnly_applyLadder (wakeDormant (fence x (drainEnded x (testFailed x s))))
  have hfenced := (changesOnly_drainEnded x (testFailed x s)).step ((changesOnly_fence x _).step (changesOnly_wakeDormant _))
  have hretired := tileRole_fence hx (drainEnded x (testFailed x s))
  have hwoken := tile_wakeDormant (x := x) (s := fence x (drainEnded x (testFailed x s))) (by rw [hretired]; decide)
  refine completes_of_answer ((exec_spareTestComplete x false s).trans
    ((execSpareTestComplete_ends ha hx hrole hdrain hend false).trans (congrArg (answer s) heq))) ?_
  have hrink := hladder .rink (by simp)
  have hpatrol := (hfenced.comp hladder) .patrol (by simp)
  have hframe := ((changesOnly_testFailed x s).comp (hfenced.comp hladder)).mono
    (m := [.rink, .patrol, .plans]) (by simp)
  generalize applyLadder _ = u at hrink hpatrol hframe ⊢
  simp only [tileRole, settle_rink, settle_patrol, show u.rink = _ from hrink, hwoken]
  exact ⟨hretired, tile_fence_failed hx htest, ⟨_, congrArg Patrol.wires hpatrol, rfl, rfl, rfl⟩, hframe.settle s⟩

end

/-- Settles O37: each role of a migration follows the one before it, with the other tiles left alone. -/
theorem rolesWalkTheArray : Obligations.RolesWalkTheArray := by
  unfold Obligations.RolesWalkTheArray
  refine ⟨fun t a b p s ha hrun hnone hdue ht hb hnext hprev hsource =>
      copyStarts ha hrun hnone hdue ht hb hnext hprev hsource,
    fun m s ha hm hs ht hne _ _ => ⟨fun hphase hsince => shadowStepRuns ha hm ht hne hphase hsince,
      fun hphase hsince hsig => handoverPasses ha hm hs ht hne hphase hsince hsig,
      fun hphase hsince hsig => handoverAborts ha hm ht hne hphase hsince hsig⟩,
    fun m s ha hm hphase hs hsince hrouted => forwarderDrains ha hm hphase hs hsince hrouted,
    fun x s ha hx hrole hdrain hend => ⟨spareBecomesReady ha hx hrole hdrain hend,
      fun htenth => tenthRetirementIsFatal ha hx hrole hdrain hend htenth,
      fun htenth => failedSpareIsRetired ha hx hrole hdrain hend htenth⟩,
    fun router s ha hr => copyFollows ha hr⟩

end Sys2Proof.Machine
end

section
/-! What comes out of the epilogue's conversion and of an accumulation is finite (O39; R274, R278, R279). -/

namespace Sys2Proof.Machine

/-! ## Floating codes -/

/-- A rounded code is a sign and a magnitude within the format's finite range. -/
theorem round_eq_sign_add (f : Fmt) (mode : Nat) (x : Dy) :
    ∃ sign mag, (f.round mode x).1 = sign + mag ∧ (sign = 0 ∨ sign = f.signBit) ∧ mag ≤ f.top := by
  unfold Fmt.round
  extract_lets m sign q r code
  have hsign : sign = 0 ∨ sign = f.signBit := by
    by_cases h : x.n < 0
    · exact .inr (if_pos h)
    · exact .inl (if_neg h)
  by_cases hm : m = 0
  · rw [if_pos hm]
    exact ⟨0, 0, rfl, .inl rfl, Nat.zero_le _⟩
  · rw [if_neg hm]
    by_cases htop : f.top < code
    · rw [if_pos htop]
      exact ⟨sign, f.top, rfl, hsign, Nat.le_refl _⟩
    · rw [if_neg htop]
      exact ⟨sign, code, rfl, hsign, Nat.not_lt.1 htop⟩

theorem sign_add_finite {f : Fmt} (htop : f.top < f.signBit) {sign mag : Nat} (hsign : sign = 0 ∨ sign = f.signBit)
    (hmag : mag ≤ f.top) : f.finite (sign + mag) = true ∧ sign + mag < 2 * f.signBit := by
  have hlt : mag < f.signBit := Nat.lt_of_le_of_lt hmag htop
  have hmod : (sign + mag) % f.signBit = mag := by
    rcases hsign with rfl | rfl
    · rw [Nat.zero_add, Nat.mod_eq_of_lt hlt]
    · rw [Nat.add_mod_left, Nat.mod_eq_of_lt hlt]
  refine ⟨by simpa [Fmt.finite, hmod] using hmag, ?_⟩
  rcases hsign with rfl | rfl <;> omega

theorem round_finite {f : Fmt} (htop : f.top < f.signBit) (mode : Nat) (x : Dy) :
    f.finite (f.round mode x).1 = true ∧ (f.round mode x).1 < 2 * f.signBit := by
  obtain ⟨sign, mag, heq, hsign, hmag⟩ := round_eq_sign_add f mode x
  rw [heq]
  exact sign_add_finite htop hsign hmag

theorem floatCode_finite {f : Fmt} (htop : f.top < f.signBit) (mode y : Nat) (k : Int) :
    f.finite (floatCode f mode y k).1 = true ∧ (floatCode f mode y k).1 < 2 * f.signBit := by
  unfold floatCode
  extract_lets v
  by_cases hv : v.n = 0
  · rw [if_pos hv]
    exact sign_add_finite htop (sign := if fneg y then f.signBit else 0) (mag := 0) (by split <;> simp) (Nat.zero_le _)
  · rw [if_neg hv]
    exact round_finite htop mode v

/-- The floating formats of the epilogue: the range of their codes, and their largest finite one. -/
theorem fmtOf_float {f : Nat} (h : 3 ≤ f) (h' : f ≤ 7) :
    (fmtOf f).top < (fmtOf f).signBit ∧ 2 * (fmtOf f).signBit = 2 ^ fmtBits f := by
  obtain rfl | rfl | rfl | rfl | rfl : f = 3 ∨ f = 4 ∨ f = 5 ∨ f = 6 ∨ f = 7 := by omega
  all_goals decide

theorem toFormat_finite {f : Nat} (h : 3 ≤ f) (h' : f ≤ 7) (mode y scale : Nat) :
    (toFormat f mode y scale).1 < 2 ^ fmtBits f ∧ elementBad f (toFormat f mode y scale).1 = false := by
  obtain ⟨htop, hbits⟩ := fmtOf_float h h'
  have hfloat : toFormat f mode y scale = floatCode (fmtOf f) mode y 0 :=
    if_neg (by simp [fmtIsInt]; omega)
  obtain ⟨hfinite, hlt⟩ := floatCode_finite htop mode y 0
  rw [hfloat, ← hbits]
  exact ⟨hlt, by simp [elementBad, hfinite]⟩

theorem floatPasses_finite (fa fw kp : Nat) : ∀ (n : Nat) (a w : List Elem) (acc : Dy) (sat : Bool),
    fmt32.finite (floatPasses fa fw kp n a w acc sat).1 = true ∧ (floatPasses fa fw kp n a w acc sat).1 < 2 ^ 32
  | 0, _, _, acc, _ => round_finite (f := fmt32) (by decide) 0 acc
  | n + 1, a, w, _, _ => floatPasses_finite fa fw kp n (a.drop kp) (w.drop kp) _ _

theorem accumulate_finite {fa fw : Nat} {a w : List Elem} {code : Nat} {sat : Bool} (h : accumulate fa fw a w = .fp code sat) :
    fmt32.finite code = true ∧ code < 2 ^ 32 := by
  unfold accumulate at h
  dsimp only at h
  split at h
  · exact nomatch h
  · obtain ⟨rfl, -⟩ := Acc.fp.inj h
    exact floatPasses_finite _ _ _ _ _ _ _ _

/-! ## Integer codes -/

/-- A value in the range of a signed code comes back from it. -/
theorem signedOf_codeOf {w : Nat} (hw : 0 < w) {i : Int} (hlo : -(2 ^ (w - 1) : Int) ≤ i) (hhi : i < 2 ^ (w - 1)) :
    signedOf w (codeOf w i % 2 ^ w) = i := by
  obtain ⟨v, rfl⟩ : ∃ v, w = v + 1 := ⟨w - 1, by omega⟩
  have hpow : (2 : Int) ^ (v + 1) = 2 * 2 ^ v := by rw [Int.pow_succ, Int.mul_comm]
  have hpos : (0 : Int) < 2 ^ v := Int.pow_pos (by decide)
  simp only [Nat.add_sub_cancel] at hlo hhi
  have hcode : ((codeOf (v + 1) i : Nat) : Int) = i % 2 ^ (v + 1) := by
    unfold codeOf
    rw [Int.toNat_of_nonneg (Int.emod_nonneg _ (by positivity))]
    push_cast
    rfl
  have hlt : codeOf (v + 1) i < 2 ^ (v + 1) := by
    have : ((codeOf (v + 1) i : Nat) : Int) < 2 ^ (v + 1) := by
      rw [hcode]
      exact Int.emod_lt_of_pos _ (by rw [hpow]; omega)
    exact_mod_cast this
  rw [Nat.mod_eq_of_lt hlt]
  unfold signedOf
  simp only [Nat.add_sub_cancel]
  by_cases hneg : i < 0
  · have hval : i % 2 ^ (v + 1) = i + 2 ^ (v + 1) := by
      rw [← Int.add_emod_right, Int.emod_eq_of_lt] <;> rw [hpow] <;> omega
    rw [if_neg]
    · rw [hcode, hval]
      push_cast
      omega
    · intro h
      have : ((codeOf (v + 1) i : Nat) : Int) < 2 ^ v := by exact_mod_cast h
      rw [hcode, hval, hpow] at this
      omega
  · have hval : i % 2 ^ (v + 1) = i := Int.emod_eq_of_lt (by omega) (by rw [hpow]; omega)
    rw [if_pos]
    · rw [hcode, hval]
    · have : ((codeOf (v + 1) i : Nat) : Int) < 2 ^ v := by rw [hcode, hval]; exact hhi
      exact_mod_cast this

theorem elementValue_codeOf {f : Nat} (hf : f ≤ 2) {i : Int} (hlo : -(2 ^ (fmtBits f - 1) : Int) ≤ i)
    (hhi : i < 2 ^ (fmtBits f - 1)) : elementValue f (codeOf (fmtBits f) i) = Dy.ofInt i := by
  have hpos : 0 < fmtBits f := by
    obtain rfl | rfl | rfl : f = 0 ∨ f = 1 ∨ f = 2 := by omega
    all_goals decide
  unfold elementValue
  simp only [fmtIsInt, hf, decide_true, if_true, signedOf_codeOf hpos hlo hhi]

/-- An integer output is the rounded value held within its range. -/
theorem toFormat_int {f : Nat} (hf : f ≤ 2) (mode y scale : Nat) :
    let q := roundInt mode (f32 (fmul y (to32 ((Dy.ofInt 1).div (f32 scale)))))
    let m : Int := 2 ^ (fmtBits f - 1)
    elementValue f (toFormat f mode y scale).1 = Dy.ofInt (max (-m) (min (m - 1) q)) ∧
    ((toFormat f mode y scale).2 = true ↔ q < -m ∨ m ≤ q) := by
  intro q m
  have hpos : 0 < m := Int.pow_pos (by decide)
  have hint : toFormat f mode y scale = intCode (fmtBits f) mode (f32 (fmul y (to32 ((Dy.ofInt 1).div (f32 scale))))) :=
    if_pos (by simpa [fmtIsInt] using hf)
  have hlo : -((2 ^ (fmtBits f - 1) : Nat) : Int) = -m := by push_cast; rfl
  have hhi : ((2 ^ (fmtBits f - 1) - 1 : Nat) : Int) = m - 1 := by
    rw [Nat.cast_sub Nat.one_le_two_pow]
    push_cast
    rfl
  have hcode : toFormat f mode y scale =
      (codeOf (fmtBits f) (max (-m) (min (m - 1) q)), decide (q < -m) || decide (m - 1 < q)) := by
    rw [hint, intCode, hlo, hhi]
  rw [hcode]
  refine ⟨elementValue_codeOf hf ?_ ?_, ?_⟩
  · exact le_max_left _ _
  · exact max_lt (by omega) (by omega)
  · simp only [Bool.or_eq_true, decide_eq_true_eq, Int.sub_one_lt_iff]

end Sys2Proof.Machine
end

section
/-! The end of a step (O39; R240, R263, R287, R288, R308, R432, R466). -/

namespace Sys2Proof.Machine

/-! ## Bytes put into a tile's SRAM -/

theorem cellAt_cellsPut (a : Nat) : ∀ (b : Bytes) (m : List Host.Cell) (x : Nat), cellsWf m = true →
    cellAt (cellsPut m x b) a = if x ≤ a ∧ a < x + b.length then b.getD (a - x) 0 else cellAt m a
  | [], m, x, _ => by
    rw [if_neg (by simp)]
    rfl
  | v :: b, m, x, hm => by
    rw [cellsPut, cellAt_cellsPut a b _ (x + 1) (cellPut_wf m x v hm), cellAt_cellPut m x v a hm, List.length_cons]
    by_cases ha : a = x
    · subst ha
      rw [if_neg (by omega), if_pos rfl, if_pos (by omega), Nat.sub_self]
      rfl
    · by_cases hin : x + 1 ≤ a ∧ a < x + 1 + b.length
      · rw [if_pos hin, if_pos (by omega), show a - x = (a - (x + 1)) + 1 by omega]
        rfl
      · rw [if_neg hin, if_neg ha, if_neg (by omega)]

theorem cellsGet_cellsPut {m : List Host.Cell} (hm : cellsWf m = true) (x : Nat) (b : Bytes) :
    cellsGet (cellsPut m x b) x b.length = b := by
  refine List.ext_getElem (by simp [cellsGet]) fun i hi hb => ?_
  simp only [cellsGet, List.getElem_map, List.getElem_range]
  rw [cellAt_cellsPut _ b m x hm, if_pos (by omega), Nat.add_sub_cancel_left, List.getD_eq_getElem _ _ hb]

/-- An address that a write does not reach. -/
def Outside (a : Nat) (w : Nat × Bytes) : Prop := a < w.1 ∨ w.1 + w.2.length ≤ a

/-- Writes into a tile's SRAM, one after another. -/
def tilePuts (l : List (Nat × Bytes)) (t : Tile) : Tile := l.foldl (fun u w => sramPut w.1 w.2 u) t

/-- Work on a tile's SRAM: the memory stays in canonical form, and what no write reaches stays. -/
structure SramWritten (l : List (Nat × Bytes)) (m m' : List Host.Cell) : Prop where
  wf : cellsWf m = true → cellsWf m' = true
  kept : cellsWf m = true → ∀ a, (∀ w ∈ l, Outside a w) → cellAt m' a = cellAt m a

theorem SramWritten.refl (m : List Host.Cell) : SramWritten [] m m := ⟨id, fun _ _ _ => rfl⟩

theorem SramWritten.trans {l l' : List (Nat × Bytes)} {m m' m'' : List Host.Cell} (h : SramWritten l m m')
    (h' : SramWritten l' m' m'') : SramWritten (l ++ l') m m'' :=
  ⟨fun hm => h'.wf (h.wf hm), fun hm a ha => by
    rw [h'.kept (h.wf hm) a fun w hw => ha w (List.mem_append_right _ hw),
      h.kept hm a fun w hw => ha w (List.mem_append_left _ hw)]⟩

theorem sramPut_eq (at_ : Nat) (b : Bytes) (t : Tile) :
    ∃ m, sramPut at_ b t = { t with sram := m } ∧ SramWritten [(at_, b)] t.sram m := by
  unfold sramPut
  by_cases h : at_ + b.length ≤ sramBytes
  · rw [if_pos h]
    refine ⟨_, rfl, cellsPut_wf b t.sram at_, fun hm a ha => ?_⟩
    have hout : Outside a (at_, b) := ha _ (by simp)
    rw [cellAt_cellsPut a b t.sram at_ hm, if_neg]
    exact fun hin => hout.elim (Nat.not_lt.2 hin.1) (Nat.not_le.2 hin.2)
  · rw [if_neg h]
    exact ⟨t.sram, rfl, id, fun _ _ _ => rfl⟩

theorem tilePuts_eq : ∀ (l : List (Nat × Bytes)) (t : Tile),
    ∃ m, tilePuts l t = { t with sram := m } ∧ SramWritten l t.sram m
  | [], t => ⟨t.sram, rfl, .refl _⟩
  | w :: l, t => by
    obtain ⟨m, hm, hw⟩ := sramPut_eq w.1 w.2 t
    obtain ⟨m', hm', hl⟩ := tilePuts_eq l { t with sram := m }
    refine ⟨m', ?_, hw.trans hl⟩
    show tilePuts l (sramPut w.1 w.2 t) = _
    rw [hm, hm']

/-! ## The tile on its way through a step -/

/-- The tables and the weights of a step are loaded: nothing else of the tile changes. -/
theorem loadStep_eq (s : State) (tile : Nat) (e : StepEnd) (t : Tile) :
    ∃ (tables : Vector Bytes 8) (streams : Vector Bytes 2) (use : Nat),
      loadStep s tile e t = { t with tables := tables, streams := streams, streamUse := use } := by
  unfold loadStep
  extract_lets img shared tables
  split
  · exact ⟨tables, t.streams, t.streamUse, rfl⟩
  · have hfold : ∀ (l : List (Nat × Nat)) (u : Tile), ∃ (streams : Vector Bytes 2) (use : Nat),
        l.foldl (fun (u : Tile) c => { u with
          streams := vset u.streams (1 - u.streamUse) (slice shared c.1 (min 131072 c.2)), streamUse := 1 - u.streamUse }) u =
        { u with streams := streams, streamUse := use } := by
      intro l
      induction l with
      | nil => exact fun u => ⟨u.streams, u.streamUse, rfl⟩
      | cons c l ih =>
        intro u
        obtain ⟨streams, use, h⟩ := ih { u with
          streams := vset u.streams (1 - u.streamUse) (slice shared c.1 (min 131072 c.2)), streamUse := 1 - u.streamUse }
        exact ⟨streams, use, h⟩
    obtain ⟨streams, use, h⟩ := hfold e.chunks { t with tables := tables }
    exact ⟨tables, streams, use, h⟩

/-- What a step's gathers bring, by place. -/
def gatherWrites (s : State) (f : TileFrame) (slot : Nat) (e : StepEnd) : List (Nat × Bytes) :=
  e.gathers.map (fun g => ((gatherBytes s f slot g).1, (gatherBytes s f slot g).2.1))

theorem enterStep_eq (s : State) (f : TileFrame) (tile slot : Nat) (e : StepEnd) (t : Tile) :
    ∃ (m : List Host.Cell) (tables : Vector Bytes 8) (streams : Vector Bytes 2) (use : Nat),
      enterStep s f tile slot e t = { t with sram := m, tables := tables, streams := streams, streamUse := use } ∧
      SramWritten (gatherWrites s f slot e) t.sram m := by
  obtain ⟨tables, streams, use, hload⟩ := loadStep_eq s tile e t
  obtain ⟨m, hputs, hm⟩ := tilePuts_eq (gatherWrites s f slot e) (loadStep s tile e t)
  have henter : enterStep s f tile slot e t = tilePuts (gatherWrites s f slot e) (loadStep s tile e t) := by
    unfold enterStep tilePuts gatherWrites
    rw [List.foldl_map, List.foldl_map]
  rw [hload] at hputs hm
  exact ⟨m, tables, streams, use, by rw [henter, hload, hputs], hm⟩

/-- The block before is committed to the state. -/
theorem commitBlock_eq (t : Tile) : ∃ m, commitBlock t = { t with sram := m, uncommitted := none } ∧
    SramWritten ((t.uncommitted.map (vget t.working)).getD []) t.sram m := by
  unfold commitBlock
  cases h : t.uncommitted with
  | none =>
    have hnone : t = { t with uncommitted := none } := by rw [← h]
    exact ⟨t.sram, hnone, .refl _⟩
  | some i =>
    obtain ⟨m, hputs, hm⟩ := tilePuts_eq (vget t.working i) t
    exact ⟨m, congrArg (fun u : Tile => { u with uncommitted := none }) hputs, hm⟩

/-- The working slot that a temporal update takes. -/
def freeWorking (t : Tile) : Nat :=
  match t.uncommitted with
  | some j => 1 - j
  | none => 0

theorem freeWorking_lt (t : Tile) : freeWorking t < 2 := by
  unfold freeWorking
  split <;> omega

theorem freeWorking_ne (t : Tile) : t.uncommitted ≠ some (freeWorking t) := by
  unfold freeWorking
  cases h : t.uncommitted with
  | none => exact nofun
  | some j =>
    dsimp only
    intro heq
    have := Option.some.inj heq
    omega

/-- A tile with a step's outputs in their places. -/
def tileOut (temporal spilled : Bool) (writes : List (Nat × Bytes)) (t : Tile) : Tile :=
  if temporal then
    if writes.isEmpty then commitBlock t
    else { commitBlock t with working := vset (commitBlock t).working (freeWorking t) writes, uncommitted := some (freeWorking t) }
  else if spilled then t
  else tilePuts writes t

/-- What the outputs change of a tile. -/
structure OutputsPut (temporal spilled : Bool) (writes : List (Nat × Bytes)) (t u : Tile) : Prop where
  rest : u = { t with sram := u.sram, working := u.working, uncommitted := u.uncommitted }
  sram : SramWritten ((t.uncommitted.map (vget t.working)).getD [] ++ writes) t.sram u.sram
  held : temporal = true → writes ≠ [] →
    ∃ i, u.uncommitted = some i ∧ i < 2 ∧ t.uncommitted ≠ some i ∧ vget u.working i = writes
  plain : temporal = false → spilled = false → u = tilePuts writes t

theorem SramWritten.more {l l' : List (Nat × Bytes)} {m m' : List Host.Cell} (h : SramWritten l m m') (hl : l ⊆ l') :
    SramWritten l' m m' := ⟨h.wf, fun hm a ha => h.kept hm a fun w hw => ha w (hl hw)⟩

theorem outputsPut_tileOut (temporal spilled : Bool) (writes : List (Nat × Bytes)) (t : Tile) :
    OutputsPut temporal spilled writes t (tileOut temporal spilled writes t) := by
  obtain ⟨m, hcommit, hm⟩ := commitBlock_eq t
  obtain ⟨m', hputs, hm'⟩ := tilePuts_eq writes t
  unfold tileOut
  cases temporal with
  | true =>
    rw [if_pos rfl]
    by_cases hw : writes.isEmpty = true
    · rw [if_pos hw, hcommit]
      exact ⟨rfl, hm.more (List.subset_append_left _ _), fun _ hne => absurd (List.isEmpty_iff.1 hw) hne, nofun⟩
    · rw [if_neg hw, hcommit]
      exact ⟨rfl, hm.more (List.subset_append_left _ _),
        fun _ _ => ⟨freeWorking t, rfl, freeWorking_lt t, freeWorking_ne t, vget_vset_same _ _ (freeWorking_lt t)⟩, nofun⟩
  | false =>
    rw [if_neg Bool.false_ne_true]
    cases spilled with
    | true =>
      rw [if_pos rfl]
      exact ⟨rfl, (SramWritten.refl _).more (List.nil_subset _), nofun, nofun⟩
    | false =>
      rw [if_neg Bool.false_ne_true, hputs]
      exact ⟨rfl, hm'.more (List.subset_append_right _ _), nofun, fun _ _ => hputs.symm⟩

/-! ## The state on its way through a step -/

theorem stepResult_patrol (p : Patrol) (s : State) (slot : Nat) (e : StepEnd) (t : Tile) :
    stepResult { s with patrol := p } slot e t = stepResult s slot e t := rfl

theorem enterStep_patrol (p : Patrol) (s : State) (f : TileFrame) (tile slot : Nat) (e : StepEnd) (t : Tile) :
    enterStep { s with patrol := p } f tile slot e t = enterStep s f tile slot e t := rfl

/-- Reports on the fault wires leave everything but the patrol. -/
theorem evaluateAgain_eq (src unit level : Nat) (bad : Bool) (s : State) :
    ∃ p, evaluateAgain src unit level bad s = { s with patrol := p } := by
  unfold evaluateAgain
  split
  · exact ⟨s.patrol, rfl⟩
  · split
    · exact ⟨_, rfl⟩
    · exact ⟨_, rfl⟩

theorem foldl_evaluateAgain_eq (src level : Nat) (bad : Bool) : ∀ (l : List Nat) (s : State),
    ∃ p, l.foldl (fun (u : State) n => evaluateAgain src n level bad u) s = { s with patrol := p }
  | [], s => ⟨s.patrol, rfl⟩
  | n :: l, s => by
    obtain ⟨p, hp⟩ := evaluateAgain_eq src n level bad s
    obtain ⟨q, hq⟩ := foldl_evaluateAgain_eq src level bad l { s with patrol := p }
    exact ⟨q, by rw [List.foldl_cons, hp, hq]⟩

/-- The outputs in their places, tile by tile. -/
theorem putOutputs_tiles (s : State) (slot : Nat) {tile : Nat} (ht : tile < 49) (e : StepEnd) (r : StepResult) :
    (vget (putOutputs s slot tile e r).rink.tiles tile =
      tileOut ((stepLayer s e).any (fun l => fld l 128 8 == 10)) (e.layer.any (layerSpilled s)) r.writes
        (vget s.rink.tiles tile)) ∧
    (∀ y, y ≠ tile → vget (putOutputs s slot tile e r).rink.tiles y = vget s.rink.tiles y) ∧
    (putOutputs s slot tile e r).rink.frame = s.rink.frame ∧ ChangesOnly [.rink] s (putOutputs s slot tile e r) := by
  unfold putOutputs tileOut
  extract_lets state
  by_cases hstate : state = true
  · rw [if_pos hstate, if_pos hstate]
    exact ⟨tile_modTile ht _ s, fun y hy => tile_modTile_ne hy _ s, rfl,
      (changesOnly_modTile tile _ s).step (changesOnly_modSlot slot _ _)⟩
  · rw [if_neg hstate, if_neg hstate]
    by_cases hspill : e.layer.any (layerSpilled s) = true
    · rw [if_pos hspill, if_pos hspill]
      exact ⟨rfl, fun _ _ => rfl, rfl, changesOnly_modSlot slot _ s⟩
    · rw [if_neg hspill, if_neg hspill]
      exact ⟨tile_modTile ht _ s, fun y hy => tile_modTile_ne hy _ s, rfl, changesOnly_modTile tile _ s⟩

/-- The tile that a step which ran clean computed on, with its marks. -/
def tileStepped (e : StepEnd) (r : StepResult) (t : Tile) : Tile :=
  { t with lastStep := some e.step, signature := stepSignature r, rerun := false, refetch := false }

theorem countArith_tiles {tile : Nat} (ht : tile < 49) (c : Counts) (n : Nat) (s : State) :
    vget (countArith tile c n s).rink.tiles tile =
      { vget s.rink.tiles tile with arith := (vget s.rink.tiles tile).arith.take c n } ∧
    (∀ y, y ≠ tile → vget (countArith tile c n s).rink.tiles y = vget s.rink.tiles y) ∧
    (countArith tile c n s).rink.frame = s.rink.frame ∧ ChangesOnly [.rink] s (countArith tile c n s) :=
  ⟨tile_modTile ht _ s, fun _ hy => tile_modTile_ne hy _ s, rfl,
    (changesOnly_modTile tile _ s).step (changesOnly_modRink _ _)⟩

/-- A step that ran clean, its counts taken. -/
structure StepWritten (f : TileFrame) (tile slot : Nat) (e : StepEnd) (r : StepResult) (s t : State) : Prop where
  written : ∃ a, vget t.rink.tiles tile = { tileOut ((stepLayer s e).any (fun l => fld l 128 8 == 10))
    (e.layer.any (layerSpilled s)) r.writes
    (tileStepped e r (enterStep s f tile slot e (vget s.rink.tiles tile))) with arith := a }
  others : ∀ y, y ≠ tile → vget t.rink.tiles y = vget s.rink.tiles y
  frame : t.rink.frame = s.rink.frame
  rest : ChangesOnly [.rink] s t

/-- The state of a tile's slot as its step writes: the tile computed on, the pass of its strips reached. -/
def stepEntered (f : TileFrame) (tile slot pass : Nat) (e : StepEnd) (r : StepResult) (s : State) : State :=
  modSlot slot (fun (x : Slot) => { x with stripPass := pass })
    (modTile tile (fun (t : Tile) => tileStepped e r (enterStep s f tile slot e t)) s)

theorem writeStep_eq (s : State) (f : TileFrame) (tile slot : Nat) (e : StepEnd) (r : StepResult) : ∃ (pass : Nat) (c : Counts),
    writeStep s f tile slot e r = countArith tile c 0 (putOutputs (stepEntered f tile slot pass e r s) slot tile e r) :=
  ⟨_, _, rfl⟩

theorem stepWritten_writeStep (f : TileFrame) {tile : Nat} (ht : tile < 49) (slot : Nat) (e : StepEnd) (r : StepResult)
    (c : Counts) (s : State) :
    StepWritten f tile slot e r s (countArith tile c 0 (writeStep s f tile slot e r)) := by
  obtain ⟨pass, c', heq⟩ := writeStep_eq s f tile slot e r
  rw [heq]
  have hentered : vget (stepEntered f tile slot pass e r s).rink.tiles tile =
      tileStepped e r (enterStep s f tile slot e (vget s.rink.tiles tile)) := tile_modTile ht _ s
  have hothers : ∀ y, y ≠ tile → vget (stepEntered f tile slot pass e r s).rink.tiles y = vget s.rink.tiles y :=
    fun y hy => tile_modTile_ne hy _ s
  have hframe : (stepEntered f tile slot pass e r s).rink.frame = s.rink.frame := rfl
  have hrest : ChangesOnly [.rink] s (stepEntered f tile slot pass e r s) :=
    (changesOnly_modTile tile _ s).step (changesOnly_modSlot slot _ _)
  have hlayer : stepLayer (stepEntered f tile slot pass e r s) e = stepLayer s e := rfl
  have hspilled : e.layer.any (layerSpilled (stepEntered f tile slot pass e r s)) = e.layer.any (layerSpilled s) := rfl
  generalize stepEntered f tile slot pass e r s = u at hentered hothers hframe hrest hlayer hspilled ⊢
  obtain ⟨hput, hputo, hputf, hputr⟩ := putOutputs_tiles u slot ht e r
  rw [hlayer, hspilled, hentered] at hput
  generalize putOutputs u slot tile e r = v at hput hputo hputf hputr ⊢
  obtain ⟨h1, h1o, h1f, h1r⟩ := countArith_tiles ht c' 0 v
  obtain ⟨h2, h2o, h2f, h2r⟩ := countArith_tiles ht c 0 (countArith tile c' 0 v)
  refine ⟨⟨_, h2.trans (congrArg (fun t : Tile => { t with arith := t.arith.take c 0 })
    (h1.trans (congrArg (fun t : Tile => { t with arith := t.arith.take c' 0 }) hput)))⟩, fun y hy => ?_, ?_, ?_⟩
  · rw [h2o y hy, h1o y hy, hputo y hy, hothers y hy]
  · rw [h2f, h1f, hputf, hframe]
  · exact hrest.step (hputr.step (h1r.step h2r))

/-! ## The row -/

/-- A tile has a step of a frame, in a slot. -/
structure StepDue (tile : Nat) (f : TileFrame) (slot : Nat) (s : State) : Prop where
  awake : awake s = true
  run : inRun s = true
  lt : tile < 49
  frame : s.rink.frame = some f
  serves : workSlot s tile = some slot

/-- The step run last is one that the step names. -/
def FlowOk (x : Tile) (e : StepEnd) : Prop := (x.lastStep = none ∧ e.predecessors = []) ∨ ∃ l, x.lastStep = some l ∧ l ∈ e.predecessors

/-- The flow check of a step. -/
def flowCheck (x : Tile) (e : StepEnd) : Bool :=
  match x.lastStep with
  | none => e.predecessors.isEmpty
  | some l => e.predecessors.contains l

theorem flowCheck_iff (x : Tile) (e : StepEnd) : flowCheck x e = true ↔ FlowOk x e := by
  unfold FlowOk flowCheck
  cases x.lastStep with
  | none => simp
  | some l => simp

section
variable {tile : Nat} {f : TileFrame} {slot : Nat} {s : State}

theorem execSequencerStepEnd_waits (h : StepDue tile f slot s) {e : StepEnd}
    (hwait : haloReady s slot e = false ∨ gathersDealt s f slot e = false) :
    execSequencerStepEnd tile e s = answer s s := by
  have hgo : (decide (49 ≤ tile) || !inRun s || !haloReady s slot e || !gathersDealt s f slot e) = true := by
    rcases hwait with hw | hw
    · simp [hw]
    · simp [hw]
  unfold execSequencerStepEnd awakeAnswer
  rw [if_pos h.awake]
  simp only [h.frame, h.serves, hgo, if_true]

theorem stepGo (h : StepDue tile f slot s) {e : StepEnd} (hhalo : haloReady s slot e = true)
    (hdealt : gathersDealt s f slot e = true) :
    (decide (49 ≤ tile) || !inRun s || !haloReady s slot e || !gathersDealt s f slot e) = false := by
  simp [h.run, hhalo, hdealt, Nat.not_le.2 h.lt]

theorem execSequencerStepEnd_flow (h : StepDue tile f slot s) {e : StepEnd} (hhalo : haloReady s slot e = true)
    (hdealt : gathersDealt s f slot e = true) (hflow : ¬ FlowOk (vget s.rink.tiles tile) e) :
    execSequencerStepEnd tile e s = answer s (report (rinkFault tile 0) 10 3 .uc 0
      (modTile tile (fun (t : Tile) => { t with refetch := true }) s)) := by
  have hno : (!flowCheck (vget s.rink.tiles tile) e) = true := by
    rw [Bool.eq_false_iff.2 (mt (flowCheck_iff (vget s.rink.tiles tile) e).1 hflow)]
    rfl
  unfold execSequencerStepEnd awakeAnswer
  rw [if_pos h.awake]
  simp only [h.frame, h.serves, stepGo h hhalo hdealt, Bool.false_eq_true, if_false]
  exact congrArg (answer s) (if_pos hno)

/-- The state in which a step's rows are worked out: a step in time ends the retry of a late one. -/
def stepTimed (e : StepEnd) (s : State) : State :=
  if e.cycles ≤ 9000 then evaluateAgain (safetyFault 2 1) 0 4 false s else s

theorem stepTimed_eq (e : StepEnd) (s : State) : ∃ p, stepTimed e s = { s with patrol := p } := by
  unfold stepTimed
  split
  · exact evaluateAgain_eq _ _ _ _ s
  · exact ⟨s.patrol, rfl⟩

/-- The state in which a step that ran clean is written: its retries end well. -/
def stepClean (tile : Nat) (e : StepEnd) (s : State) : State :=
  if (vget s.rink.tiles tile).rerun || (vget s.rink.tiles tile).refetch then
    (List.range 12).foldl (fun (u : State) n => evaluateAgain (rinkFault tile 0) n 3 false u) (stepTimed e s)
  else stepTimed e s

theorem stepClean_eq (tile : Nat) (e : StepEnd) (s : State) : ∃ p, stepClean tile e s = { s with patrol := p } := by
  obtain ⟨p, hp⟩ := stepTimed_eq e s
  unfold stepClean
  split
  · obtain ⟨q, hq⟩ := foldl_evaluateAgain_eq (rinkFault tile 0) 3 false (List.range 12) (stepTimed e s)
    exact ⟨q, by rw [hq, hp]⟩
  · exact ⟨p, hp⟩

/-- What a step works out. -/
def stepOutcome (tile : Nat) (f : TileFrame) (slot : Nat) (e : StepEnd) (s : State) : StepResult :=
  stepResult s slot e (enterStep s f tile slot e (vget s.rink.tiles tile))

/-- The effect of a step that ran clean. -/
def stepPassed (tile : Nat) (f : TileFrame) (slot : Nat) (e : StepEnd) (r : StepResult) (s : State) : State :=
  if e.columnHeads then startLift f (countArith tile r.counts 0 (writeStep (stepClean tile e s) f tile slot e r))
  else countArith tile r.counts 0 (writeStep (stepClean tile e s) f tile slot e r)

/-- The effect of a step whose checks failed. -/
def stepFailed (tile : Nat) (e : StepEnd) (r : StepResult) (s : State) : State :=
  (failedUnits e r).foldl (fun (u : State) n => report (rinkFault tile 0) n 3 .uc 0 u)
    (countArith tile r.counts r.failed.length
      (modTile tile (fun (t : Tile) => { t with rerun := true }) (stepTimed e s)))

theorem execSequencerStepEnd_ends (h : StepDue tile f slot s) {e : StepEnd} (hhalo : haloReady s slot e = true)
    (hdealt : gathersDealt s f slot e = true) (hflow : FlowOk (vget s.rink.tiles tile) e) :
    execSequencerStepEnd tile e s = answer s (if (failedUnits e (stepOutcome tile f slot e s)).isEmpty then
      stepPassed tile f slot e (stepOutcome tile f slot e s) s else stepFailed tile e (stepOutcome tile f slot e s) s) := by
  have hyes : ¬ (!flowCheck (vget s.rink.tiles tile) e) = true := by
    rw [(flowCheck_iff (vget s.rink.tiles tile) e).2 hflow]
    exact Bool.false_ne_true
  have hout : stepResult (stepTimed e s) slot e (enterStep (stepTimed e s) f tile slot e (vget s.rink.tiles tile)) =
      stepOutcome tile f slot e s := by
    obtain ⟨p, hp⟩ := stepTimed_eq e s
    rw [hp, stepResult_patrol, enterStep_patrol]
    rfl
  rw [← hout]
  unfold execSequencerStepEnd awakeAnswer
  rw [if_pos h.awake]
  simp only [h.frame, h.serves, stepGo h hhalo hdealt, Bool.false_eq_true, if_false]
  refine congrArg (answer s) ((if_neg hyes).trans ?_)
  unfold stepPassed stepFailed stepClean stepTimed
  rfl

theorem stepLayer_patrol (p : Patrol) (e : StepEnd) (s : State) : stepLayer { s with patrol := p } e = stepLayer s e := rfl

theorem layerSpilled_patrol (p : Patrol) (s : State) : layerSpilled { s with patrol := p } = layerSpilled s := rfl

/-- A step that ran clean, from the state before it. -/
theorem stepWritten_clean (ht : tile < 49) (e : StepEnd) (r : StepResult) :
    ∃ p, StepWritten f tile slot e r { s with patrol := p }
      (countArith tile r.counts 0 (writeStep (stepClean tile e s) f tile slot e r)) := by
  obtain ⟨p, hp⟩ := stepClean_eq tile e s
  rw [hp]
  exact ⟨p, stepWritten_writeStep f ht slot e r r.counts _⟩

theorem startLift_tiles (g : TileFrame) (s : State) : (startLift g s).rink.tiles = s.rink.tiles := by
  by_cases hg : g.phase = .image
  · rw [startLift_rink hg]
  · unfold startLift
    rw [if_pos (by simpa using hg)]

/-- What a step that ran clean leaves: its tile as computed on, the other tiles, and the frame, which its column heads take to
the Lift. -/
structure StepDone (tile : Nat) (f : TileFrame) (slot : Nat) (e : StepEnd) (r : StepResult) (s t : State) : Prop where
  written : ∃ a, vget t.rink.tiles tile = { tileOut ((stepLayer s e).any (fun l => fld l 128 8 == 10))
    (e.layer.any (layerSpilled s)) r.writes
    (tileStepped e r (enterStep s f tile slot e (vget s.rink.tiles tile))) with arith := a }
  others : ∀ y, y ≠ tile → vget t.rink.tiles y = vget s.rink.tiles y
  heads : e.columnHeads = true → f.phase = .image → t.rink.frame = some { f with phase := .lift }
  rest : ChangesOnly [.rink, .patrol, .ingest, .safety] s t

theorem stepDone_stepPassed (ht : tile < 49) (e : StepEnd) (r : StepResult) :
    StepDone tile f slot e r s (stepPassed tile f slot e r s) := by
  obtain ⟨p, hw⟩ := stepWritten_clean (f := f) (slot := slot) (s := s) ht e r
  unfold stepPassed
  generalize countArith tile r.counts 0 (writeStep (stepClean tile e s) f tile slot e r) = u at hw ⊢
  have hpatrol : ChangesOnly [.patrol] s { s with patrol := p } := changesOnly_modPatrol (fun _ => p) s
  have hrest : ChangesOnly [.rink, .patrol, .ingest, .safety] s u := (hpatrol.comp hw.rest).mono (by simp)
  have hwritten := hw.written
  rw [stepLayer_patrol, layerSpilled_patrol, enterStep_patrol] at hwritten
  by_cases hc : e.columnHeads = true
  · rw [if_pos hc]
    refine ⟨by rw [startLift_tiles]; exact hwritten, fun y hy => by rw [startLift_tiles]; exact hw.others y hy,
      fun _ hf => by rw [startLift_rink hf], hrest.step ((changesOnly_startLift f u).mono (by simp))⟩
  · rw [if_neg hc]
    exact ⟨hwritten, hw.others, fun h => absurd h hc, hrest⟩

/-- The tile of a step that ran clean. -/
theorem stepDone_tile {e : StepEnd} {r : StepResult} {t : State} (h : StepDone tile f slot e r s t) :
    let x := vget s.rink.tiles tile
    let z := vget t.rink.tiles tile
    let temporal := (stepLayer s e).any (fun l => fld l 128 8 == 10)
    z.lastStep = some e.step ∧ z.rerun = false ∧ z.refetch = false ∧ z.slot = x.slot ∧ z.role = x.role ∧
    z.signature = stepSignature r ∧
    (SramWritten (gatherWrites s f slot e ++
      ((x.uncommitted.map (vget x.working)).getD [] ++ r.writes)) x.sram z.sram) ∧
    (∀ w, cellsWf x.sram = true → r.writes = [w] → temporal = false →
      e.layer.any (layerSpilled s) = false → w.1 + w.2.length ≤ 4194304 → cellsGet z.sram w.1 w.2.length = w.2) ∧
    (temporal = true → r.writes ≠ [] → ∃ i, z.uncommitted = some i ∧ i < 2 ∧ x.uncommitted ≠ some i ∧
      vget z.working i = r.writes) := by
  obtain ⟨a, hz⟩ := h.written
  obtain ⟨m, tables, streams, use, henter, hgather⟩ := enterStep_eq s f tile slot e (vget s.rink.tiles tile)
  intro x z temporal
  have hput := outputsPut_tileOut temporal (e.layer.any (layerSpilled s)) r.writes
    (tileStepped e r (enterStep s f tile slot e (vget s.rink.tiles tile)))
  have hzo : z = { tileOut temporal (e.layer.any (layerSpilled s)) r.writes
    (tileStepped e r (enterStep s f tile slot e x)) with arith := a } := hz
  have hentered : tileStepped e r (enterStep s f tile slot e x) = { x with
      sram := m, tables := tables, streams := streams, streamUse := use, lastStep := some e.step,
      signature := stepSignature r, rerun := false, refetch := false } := congrArg (tileStepped e r) henter
  rw [hentered] at hput hzo
  generalize tileOut temporal _ r.writes _ = o at hput hzo
  have hrest := hput.rest
  refine ⟨?_, ?_, ?_, ?_, ?_, ?_, ?_, fun w hwf hone htemp hspill hfit => ?_, fun htemp hw => ?_⟩
  · rw [hzo, hrest]
  · rw [hzo, hrest]
  · rw [hzo, hrest]
  · rw [hzo, hrest]
  · rw [hzo, hrest]
  · rw [hzo, hrest]
  · rw [show z.sram = o.sram by rw [hzo]]
    exact hgather.trans hput.sram
  · have hplain := hput.plain htemp hspill
    rw [hone] at hplain
    have hsram : z.sram = cellsPut m w.1 w.2 := by
      rw [hzo, hplain]
      exact congrArg Tile.sram (if_pos hfit)
    rw [hsram]
    exact cellsGet_cellsPut (hgather.wf hwf) w.1 w.2
  · obtain ⟨i, hi, hlt, hne, hwork⟩ := hput.held htemp hw
    exact ⟨i, by rw [hzo]; exact hi, hlt, hne, by rw [hzo]; exact hwork⟩

/-- A step that ran clean, as the row says it. -/
theorem cleanStepWrites (h : StepDue tile f slot s) {e : StepEnd} (hwf : cellsWf (vget s.rink.tiles tile).sram = true)
    (hhalo : haloReady s slot e = true) (hdealt : gathersDealt s f slot e = true) (hflow : FlowOk (vget s.rink.tiles tile) e)
    (hclean : failedUnits e (stepOutcome tile f slot e s) = []) : Completes (.sequencerStepEnd tile e) s fun u =>
    let x := vget s.rink.tiles tile
    let r := stepOutcome tile f slot e s
    let z := vget u.rink.tiles tile
    let temporal := (stepLayer s e).any (fun l => fld l 128 8 == 10)
    z.lastStep = some e.step ∧ z.rerun = false ∧ z.refetch = false ∧ z.slot = x.slot ∧ z.role = x.role ∧
    z.signature = stepSignature r ∧
    (∀ w, e.gathers = [] → r.writes = [w] → temporal = false → e.layer.any (layerSpilled s) = false →
      w.1 + w.2.length ≤ 4194304 → cellsGet z.sram w.1 w.2.length = w.2) ∧
    (temporal = true → r.writes ≠ [] → ∃ i, z.uncommitted = some i ∧ i < 2 ∧ x.uncommitted ≠ some i ∧
      vget z.working i = r.writes) ∧
    (∀ a, (∀ g ∈ e.gathers, Outside a ((gatherBytes s f slot g).1, (gatherBytes s f slot g).2.1)) →
      (∀ w ∈ r.writes, Outside a w) → (∀ i, x.uncommitted = some i → ∀ w ∈ vget x.working i, Outside a w) →
      cellAt z.sram a = cellAt x.sram a) ∧
    (e.columnHeads = true → f.phase = .image → ∃ g, u.rink.frame = some g ∧ g.phase = .lift ∧ g.frame = f.frame) ∧
    (∀ y, y < 49 → y ≠ tile → vget u.rink.tiles y = vget s.rink.tiles y) ∧
    ChangesOnly [.rink, .patrol, .ingest, .safety] s u := by
  have heq := (execSequencerStepEnd_ends h hhalo hdealt hflow).trans (congrArg (answer s) (if_pos (by rw [hclean]; rfl)))
  refine completes_of_answer ((exec_sequencerStepEnd tile e s).trans heq) ?_
  have hdone := stepDone_stepPassed (f := f) (slot := slot) (s := s) h.lt e (stepOutcome tile f slot e s)
  generalize stepPassed tile f slot e (stepOutcome tile f slot e s) s = u at hdone ⊢
  obtain ⟨hlast, hrerun, hrefetch, hslot, hrole, hsign, hsram, hplain, htemporal⟩ := stepDone_tile hdone
  rw [settle_rink]
  refine ⟨hlast, hrerun, hrefetch, hslot, hrole, hsign, fun w _ => hplain w hwf, htemporal, fun a hg hw hu => ?_,
    fun hc hf => ⟨_, hdone.heads hc hf, rfl, rfl⟩, fun y _ hy => hdone.others y hy, hdone.rest.settle s⟩
  refine hsram.kept hwf a fun w hmem => ?_
  rcases List.mem_append.1 hmem with hmem | hmem
  · obtain ⟨g, hgm, rfl⟩ := List.mem_map.1 hmem
    exact hg g hgm
  · rcases List.mem_append.1 hmem with hmem | hmem
    · cases hun : (vget s.rink.tiles tile).uncommitted with
      | none => simp [hun] at hmem
      | some i => exact hu i hun w (by simpa [hun] using hmem)
    · exact hw w hmem

theorem foldl_report_eq (src level : Nat) : ∀ (l : List Nat) (s : State), ∃ p,
    l.foldl (fun (u : State) n => report src n level .uc 0 u) s = { s with patrol := p } ∧
    s.patrol.wires <+: p.wires ∧ ∀ n ∈ l, ∃ w ∈ p.wires, w.source = src ∧ w.unit = n ∧ w.cls = .uc ∧ w.level = level
  | [], s => ⟨s.patrol, rfl, List.prefix_refl _, nofun⟩
  | n :: l, s => by
    obtain ⟨p, hp, hpre, hall⟩ := foldl_report_eq src level l (report src n level .uc 0 s)
    refine ⟨p, hp, (List.prefix_append _ _).trans hpre, fun m hm => ?_⟩
    rcases List.mem_cons.1 hm with rfl | hm
    · exact ⟨_, hpre.subset (List.mem_append_right _ (List.mem_singleton.2 rfl)), rfl, rfl, rfl, rfl⟩
    · exact hall m hm

/-- A step whose checks failed, as the row says it. -/
theorem failedStepRunsAgain (h : StepDue tile f slot s) {e : StepEnd} (hhalo : haloReady s slot e = true)
    (hdealt : gathersDealt s f slot e = true) (hflow : FlowOk (vget s.rink.tiles tile) e)
    (hfail : failedUnits e (stepOutcome tile f slot e s) ≠ []) : Completes (.sequencerStepEnd tile e) s fun u =>
    let x := vget s.rink.tiles tile
    let r := stepOutcome tile f slot e s
    vget u.rink.tiles tile = { x with rerun := true, arith := x.arith.take r.counts r.failed.length } ∧
    (∀ n ∈ failedUnits e r, ∃ w ∈ u.patrol.wires, w.source = rinkFault tile 0 ∧ w.unit = n ∧ w.cls = .uc ∧ w.level = 3) ∧
    u.rink.arithTotal = s.rink.arithTotal.take r.counts r.failed.length ∧
    (∀ y, y < 49 → y ≠ tile → vget u.rink.tiles y = vget s.rink.tiles y) ∧ ChangesOnly [.rink, .patrol] s u := by
  have heq := (execSequencerStepEnd_ends h hhalo hdealt hflow).trans
    (congrArg (answer s) (if_neg (by simpa using hfail)))
  refine completes_of_answer ((exec_sequencerStepEnd tile e s).trans heq) ?_
  generalize stepOutcome tile f slot e s = r
  obtain ⟨p, hp⟩ := stepTimed_eq e s
  obtain ⟨q, hq, -, hwires⟩ := foldl_report_eq (rinkFault tile 0) 3 (failedUnits e r)
    (countArith tile r.counts r.failed.length (modTile tile (fun (t : Tile) => { t with rerun := true }) (stepTimed e s)))
  have hpatrol : ChangesOnly [.patrol] s { s with patrol := p } := changesOnly_modPatrol (fun _ => p) s
  unfold stepFailed
  rw [hq]
  rw [hp]
  simp only [settle_rink, settle_patrol]
  obtain ⟨htile, hothers, -, hrest⟩ := countArith_tiles h.lt r.counts r.failed.length
    (modTile tile (fun (t : Tile) => { t with rerun := true }) { s with patrol := p })
  refine ⟨?_, hwires, rfl, fun y _ hy => (hothers y hy).trans (tile_modTile_ne hy _ _), ?_⟩
  · rw [htile, tile_modTile h.lt]
  · exact ((((hpatrol.comp (changesOnly_modTile tile _ _)).comp hrest).comp
      (changesOnly_modPatrol (fun _ => q) _)).mono (by simp)).settle s

end

/-- Settles O39: a step that does not run, one whose checks pass and one whose checks fail; codes come out of `Fmt.round`. -/
theorem stepsEndCheckedAndFinite : Obligations.StepsEndCheckedAndFinite := by
  unfold Obligations.StepsEndCheckedAndFinite
  refine ⟨fun tile e f slot s ha hrun hlt hframe hserves hwf => ?_,
    fun f mode y scale h h' => toFormat_finite h h' mode y scale, fun f mode y scale h => toFormat_int h mode y scale,
    fun fa fw a w code sat h => accumulate_finite h⟩
  have hdue : StepDue tile f slot s := ⟨ha, hrun, hlt, hframe, hserves⟩
  refine ⟨fun hwait => completes_of_answer ((exec_sequencerStepEnd tile e s).trans (execSequencerStepEnd_waits hdue hwait))
      ((ChangesOnly.refl [] s).settle s), fun hhalo hdealt => ⟨fun hflow => ?_, fun hflow hclean => ?_, fun hflow hfail => ?_⟩⟩
  · refine completes_of_answer ((exec_sequencerStepEnd tile e s).trans (execSequencerStepEnd_flow hdue hhalo hdealt hflow)) ?_
    simp only [settle_rink, settle_patrol]
    exact ⟨⟨_, rfl, rfl, rfl, rfl⟩, tile_modTile hlt _ s, fun y _ hy => tile_modTile_ne hy _ s,
      ((changesOnly_modTile tile _ s).comp (changesOnly_report _ _ _ _ _ _)).settle s⟩
  · exact cleanStepWrites hdue hwf hhalo hdealt hflow hclean
  · exact failedStepRunsAgain hdue hhalo hdealt hflow hfail

end Sys2Proof.Machine
end

section
/-! The Lift (O41; R296 to R300, R318). -/

namespace Sys2Proof.Machine

/-! ## Runs of bins -/

theorem cutRuns_bins : ∀ (bins : List (Option LiftBin)) (k : Option (Int × Int)) (run : List LiftBin), (k = none → run = []) →
    (cutRuns bins k run).flatMap (·.2) = run ++ bins.filterMap id
  | [], none, run, h => by simp [cutRuns, h rfl]
  | [], some g, run, _ => by simp [cutRuns]
  | none :: bins, none, run, h => by
    simp [cutRuns, h rfl, cutRuns_bins bins none [] fun _ => rfl]
  | none :: bins, some g, run, _ => by
    simp [cutRuns, cutRuns_bins bins none [] fun _ => rfl]
  | some b :: bins, k, run, h => by
    rw [cutRuns]
    split
    case isTrue hk =>
      rw [cutRuns_bins bins k (run ++ [b]) fun hn => absurd (hk.symm.trans hn) nofun]
      simp
    case isFalse hk =>
      rw [List.flatMap_append, cutRuns_bins bins (some b.patch) [b] nofun]
      cases k with
      | none => simp [h rfl]
      | some g => simp

theorem cutRuns_runs : ∀ (bins : List (Option LiftBin)) (k : Option (Int × Int)) (run : List LiftBin),
    (∀ g, k = some g → run ≠ [] ∧ ∀ b ∈ run, b.patch = g) →
    ∀ x ∈ cutRuns bins k run, x.2 ≠ [] ∧ ∀ b ∈ x.2, b.patch = x.1
  | [], none, _, _ => nofun
  | [], some g, run, h => by
    intro x hx
    obtain rfl : x = (g, run) := by simpa [cutRuns] using hx
    exact h g rfl
  | none :: bins, none, run, h => cutRuns_runs bins none [] nofun
  | none :: bins, some g, run, h => by
    intro x hx
    rcases List.mem_append.1 hx with hx | hx
    · obtain rfl : x = (g, run) := by simpa using hx
      exact h g rfl
    · exact cutRuns_runs bins none [] nofun x hx
  | some b :: bins, k, run, h => by
    intro x hx
    rw [cutRuns] at hx
    split at hx
    case isTrue hk =>
      refine cutRuns_runs bins k (run ++ [b]) (fun g hg => ⟨by simp, fun c hc => ?_⟩) x hx
      rcases List.mem_append.1 hc with hc | hc
      · exact (h g hg).2 c hc
      · obtain rfl := List.mem_singleton.1 hc
        exact Option.some.inj (hk.symm.trans hg)
    case isFalse hk =>
      rcases List.mem_append.1 hx with hx | hx
      · cases k with
        | none => exact absurd hx List.not_mem_nil
        | some g =>
          obtain rfl : x = (g, run) := by simpa using hx
          exact h g rfl
      · refine cutRuns_runs bins (some b.patch) [b] (fun g hg => ⟨by simp, fun c hc => ?_⟩) x hx
        obtain rfl := List.mem_singleton.1 hc
        exact Option.some.inj hg

/-! ## A column at the router -/

/-- The column is due: the frame's Lift takes it now (R297, R300). -/
structure ColumnDue (r : Nat) (c : LiftColumn) (f : TileFrame) (rec_ : Bytes) (s : State) : Prop where
  awake : awake s = true
  frame : s.rink.frame = some f
  record : cameraRecord (planImage s) r = some rec_
  running : liftRunning s f = true
  pass : c.pass = f.pass
  passes : f.pass < liftPasses (planImage s)
  among : (r, c.column) ∈ passColumns (planImage s) f
  new : ∀ x ∈ f.columns, ¬ (x.1 = r ∧ x.2.1 = c.column)
  order : ∀ x ∈ f.columns, stripSlot f x.2.2 = stripSlot f (columnStrip f r rec_ c.column) → x.2.2 ≤ columnStrip f r rec_ c.column

section
variable {r : Nat} {c : LiftColumn} {f : TileFrame} {rec_ : Bytes} {s : State}

/-- The frame with a column taken. -/
def columnTaken (r : Nat) (c : LiftColumn) (rec_ : Bytes) (f : TileFrame) : TileFrame :=
  { f with columns := (r, c.column, columnStrip f r rec_ c.column) :: f.columns }

/-- The state with a column taken. -/
def columnEntered (r : Nat) (c : LiftColumn) (rec_ : Bytes) (f : TileFrame) (s : State) : State :=
  modRink (fun (k : Rink) => { k with frame := some (columnTaken r c rec_ f) }) s

theorem execLiftColumn_taken (h : ColumnDue r c f rec_ s) : execLiftColumn r c s = answer s
    (if c.residue then routeMismatch (columnTaken r c rec_ f) (columnEntered r c rec_ f s)
    else if f.raysLost.contains r then columnEntered r c rec_ f s
    else routeColumn (columnTaken r c rec_ f) r rec_ c (columnEntered r c rec_ f s)) := by
  have hsent : f.columns.any (fun x => x.1 == r && x.2.1 == c.column) = false := by
    simpa [List.any_eq_false] using h.new
  have hlater : f.columns.any (fun x => stripSlot f x.2.2 == stripSlot f (columnStrip f r rec_ c.column) &&
      decide (columnStrip f r rec_ c.column < x.2.2)) = false := by
    simpa [List.any_eq_false] using h.order
  have hgo : (!liftRunning s f || f.pass != c.pass || decide (liftPasses (planImage s) ≤ f.pass) ||
      !(passColumns (planImage s) f).contains (r, c.column) ||
      f.columns.any (fun x => x.1 == r && x.2.1 == c.column) ||
      f.columns.any (fun x => stripSlot f x.2.2 == stripSlot f (columnStrip f r rec_ c.column) &&
        decide (columnStrip f r rec_ c.column < x.2.2))) = false := by
    rw [hsent, hlater, h.running, h.pass, decide_eq_false (Nat.not_le.2 h.passes), List.contains_iff_mem.2 h.among]
    simp
  unfold execLiftColumn awakeAnswer
  rw [if_pos h.awake]
  simp only [h.frame, h.record, hgo, Bool.false_eq_true, if_false]
  rfl

/-- The packets of a column, one a run whose slot is served and routed. -/
def columnPackets (r : Nat) (features : List Int) (bins : List (Option LiftBin)) (s : State) : List LiftFlight :=
  (cutRuns bins none []).filterMap (fun run =>
    if slotServed s (slotIndex run.1.1 run.1.2) then liftFlight s r (slotIndex run.1.1 run.1.2) features run.2 else none)

theorem meshTargets_slot (s : State) (n : Nat) :
    (meshTargets s (edgeRouter .lift) (.slot n)).head? = vget (vget s.rink.copies 3).owners n := by
  show (vget (vget s.rink.copies 3).owners n).toList.head? = _
  cases vget (vget s.rink.copies 3).owners n
  · rfl
  · rfl

theorem liftFlight_eq (s : State) (r n : Nat) (features : List Int) (bins : List LiftBin) : liftFlight s r n features bins =
    (vget (vget s.rink.copies 3).owners n).map (fun t =>
      { slot := n, receiver := r, features := features, bins := bins.map (fun b => (b.cell, b.weight)), tile := t,
        path := meshPath 3 t }) := by
  unfold liftFlight
  dsimp only
  rw [meshTargets_slot]
  rfl

theorem mem_columnPackets {features : List Int} {bins : List (Option LiftBin)} {p : LiftFlight}
    (hp : p ∈ columnPackets r features bins s) : p.receiver = r ∧ p.features = features ∧ slotServed s p.slot = true ∧
      vget (vget s.rink.copies 3).owners p.slot = some p.tile ∧ p.path = meshPath 3 p.tile := by
  obtain ⟨run, -, hrun⟩ := List.mem_filterMap.1 hp
  split at hrun
  case isTrue hserved =>
    rw [liftFlight_eq] at hrun
    obtain ⟨t, ht, rfl⟩ := Option.map_eq_some_iff.1 hrun
    exact ⟨rfl, rfl, hserved, ht, rfl⟩
  case isFalse => exact nomatch hrun

/-- Where every slot is served and routed, the packets carry all the bins of the column that fall in the extent. -/
theorem columnPackets_bins (features : List Int) (bins : List (Option LiftBin))
    (hall : ∀ n, n < 48 → slotServed s n = true ∧ (vget (vget s.rink.copies 3).owners n).isSome = true) :
    (columnPackets r features bins s).flatMap (·.bins) = (bins.filterMap id).map (fun b => (b.cell, b.weight)) := by
  have hruns : ∀ l : List ((Int × Int) × List LiftBin), (l.filterMap (fun run =>
      if slotServed s (slotIndex run.1.1 run.1.2) then liftFlight s r (slotIndex run.1.1 run.1.2) features run.2
      else none)).flatMap (·.bins) = (l.flatMap (·.2)).map (fun b => (b.cell, b.weight)) := by
    intro l
    induction l with
    | nil => rfl
    | cons run l ih =>
      obtain ⟨hserved, hrouted⟩ := hall _ (slotIndex_lt run.1.1 run.1.2)
      obtain ⟨t, ht⟩ := Option.isSome_iff_exists.1 hrouted
      have hflight : liftFlight s r (slotIndex run.1.1 run.1.2) features run.2 = some
          { slot := slotIndex run.1.1 run.1.2, receiver := r, features := features,
            bins := run.2.map (fun b => (b.cell, b.weight)), tile := t, path := meshPath 3 t } := by
        rw [liftFlight_eq, ht]
        rfl
      rw [List.filterMap_cons, if_pos hserved, hflight]
      simp [ih]
  rw [columnPackets, hruns, cutRuns_bins bins none [] fun _ => rfl]
  rfl

theorem routeColumn_eq {g : Dy3 × Dy3} {f' : TileFrame} (hray : columnRay s f' r c.column = some g) :
    routeColumn f' r rec_ c s =
      if degenerate g.2 then modRink (fun (k : Rink) => { k with liftDegenerate := satAdd 32 k.liftDegenerate 1 }) s
      else modRink (fun (k : Rink) => { k with
        packets := k.packets ++ columnPackets r c.features
          (columnBins s (liftDescriptor rec_) g.1 g.2 (c.weights.take (fld (liftDescriptor rec_) 72 8))) s
        liftOutside := satAdd 32 k.liftOutside ((columnBins s (liftDescriptor rec_) g.1 g.2
          (c.weights.take (fld (liftDescriptor rec_) 72 8))).filter (·.isNone)).length }) s := by
  unfold routeColumn
  rw [hray]
  rfl

theorem changesOnly_columnEntered (s : State) : ChangesOnly [.rink] s (columnEntered r c rec_ f s) := changesOnly_modRink _ s

theorem columnIsRouted (h : ColumnDue r c f rec_ s) {g : Dy3 × Dy3} (hray : columnRay s f r c.column = some g)
    (hres : c.residue = false) (hrays : r ∉ f.raysLost) : Completes (.liftColumn r c) s fun t =>
      let d := liftDescriptor rec_
      let bins := columnBins s d g.1 g.2 (c.weights.take (fld d 72 8))
      t.rink.frame = some (columnTaken r c rec_ f) ∧
      (degenerate g.2 = true → t.rink.packets = s.rink.packets ∧
        t.rink.liftDegenerate = satAdd 32 s.rink.liftDegenerate 1 ∧ t.rink.liftOutside = s.rink.liftOutside) ∧
      (degenerate g.2 = false → t.rink.liftDegenerate = s.rink.liftDegenerate ∧
        t.rink.liftOutside = satAdd 32 s.rink.liftOutside (bins.filter (·.isNone)).length ∧
        ∃ new, t.rink.packets = s.rink.packets ++ new ∧
          (∀ p ∈ new, p.receiver = r ∧ p.features = c.features ∧ slotServed s p.slot = true ∧
            vget (vget s.rink.copies 3).owners p.slot = some p.tile ∧ p.path = meshPath 3 p.tile) ∧
          ((∀ n, n < 48 → slotServed s n = true ∧ (vget (vget s.rink.copies 3).owners n).isSome = true) →
            new.flatMap (·.bins) = (bins.filterMap id).map (fun b => (b.cell, b.weight)))) ∧
      ChangesOnly [.rink] s t := by
  have hnot : f.raysLost.contains r = false := by simpa using hrays
  have heq := execLiftColumn_taken h
  have hray' : columnRay (columnEntered r c rec_ f s) (columnTaken r c rec_ f) r c.column = some g := hray
  rw [hres, if_neg Bool.false_ne_true, hnot, if_neg Bool.false_ne_true, routeColumn_eq hray'] at heq
  refine completes_of_answer ((exec_liftColumn r c s).trans heq) ?_
  rw [settle_rink]
  have hentered := changesOnly_columnEntered (r := r) (c := c) (f := f) (rec_ := rec_) s
  cases hdeg : degenerate g.2 with
  | true =>
    rw [if_pos rfl]
    exact ⟨rfl, fun _ => ⟨rfl, rfl, rfl⟩, nofun, (hentered.step (changesOnly_modRink _ _)).settle s⟩
  | false =>
    rw [if_neg Bool.false_ne_true]
    refine ⟨rfl, nofun, fun _ => ⟨rfl, rfl, columnPackets r c.features (columnBins s (liftDescriptor rec_) g.1 g.2
      (c.weights.take (fld (liftDescriptor rec_) 72 8))) s, rfl, fun p hp => mem_columnPackets hp,
      fun hall => columnPackets_bins c.features _ hall⟩, (hentered.step (changesOnly_modRink _ _)).settle s⟩

end

/-! ## A mismatch in the projection path (R318) -/

/-- A change at one place of a table leaves or changes what is at each place. -/
theorem vget_vmod_cases {α : Type} [Inhabited α] {n i j : Nat} (v : Vector α n) (f : α → α) :
    vget (vmod v i f) j = vget v j ∨ vget (vmod v i f) j = f (vget v j) := by
  by_cases hj : j = i
  · subst hj
    by_cases hlt : j < n
    · exact .inr (vget_vmod_same _ _ hlt)
    · exact .inl (congrArg (fun w => vget w j) (dif_neg hlt))
  · exact .inl (vget_vmod_ne _ _ hj)

/-- Slots keep what marks a patch partial. -/
structure PartialMarked (l : List Nat) (s t : State) : Prop where
  frame : ChangesOnly [.rink] s t
  packets : t.rink.packets = s.rink.packets
  served : ∀ n, slotServed t n = slotServed s n
  kept : ∀ n, (vget s.rink.slots n).cameraPartial = true → (vget t.rink.slots n).cameraPartial = true
  marked : ∀ n ∈ l, n < 48 → slotServed s n = true → (vget t.rink.slots n).cameraPartial = true

theorem partialMarked_markPartial (n : Nat) (s : State) : PartialMarked [n] s (markPartial n s) := by
  unfold markPartial
  by_cases h : ((vget s.rink.slots n).cameraPartial || !slotServed s n) = true
  · rw [if_pos h]
    refine ⟨.refl _ s, rfl, fun _ => rfl, fun _ => id, fun m hm _ hserved => ?_⟩
    obtain rfl := List.mem_singleton.1 hm
    simpa [hserved] using h
  · rw [if_neg h]
    have hslots : ∀ m, vget (vmod s.rink.slots n (fun (x : Slot) => { x with cameraPartial := true })) m =
        vget s.rink.slots m ∨ vget (vmod s.rink.slots n (fun (x : Slot) => { x with cameraPartial := true })) m =
        { vget s.rink.slots m with cameraPartial := true } := fun m => vget_vmod_cases _ _
    refine ⟨(changesOnly_modSlot n _ s).step (changesOnly_modCounters _ _), rfl, fun m => ?_, fun m hm => ?_,
      fun m hm hlt _ => ?_⟩
    · exact (hslots m).elim (congrArg Slot.served) (congrArg Slot.served)
    · exact (hslots m).elim (fun hkept => (congrArg Slot.cameraPartial hkept).trans hm) (congrArg Slot.cameraPartial)
    · obtain rfl := List.mem_singleton.1 hm
      exact congrArg Slot.cameraPartial (vget_vmod_same s.rink.slots (fun x => { x with cameraPartial := true }) hlt)

theorem partialMarked_foldl : ∀ (l : List Nat) (s : State), PartialMarked l s (l.foldl (fun t n => markPartial n t) s)
  | [], s => ⟨.refl _ s, rfl, fun _ => rfl, fun _ => id, nofun⟩
  | n :: l, s => by
    have h := partialMarked_markPartial n s
    have h' := partialMarked_foldl l (markPartial n s)
    refine ⟨h.frame.step h'.frame, h'.packets.trans h.packets, fun m => (h'.served m).trans (h.served m),
      fun m hm => h'.kept m (h.kept m hm), fun m hm hlt hserved => ?_⟩
    rcases List.mem_cons.1 hm with rfl | hm
    · exact h'.kept m (h.marked m (by simp) hlt hserved)
    · exact h'.marked m hm hlt ((h.served m).trans hserved)

/-- A slot as the Lift begins again with it. -/
def slotRestarted (x : Slot) : Slot := { x with landing := [], markers := 0, liftBins := 0, passCameras := default }

theorem restartLift_slot (f : TileFrame) (s : State) {n : Nat} (hn : n < 48) :
    vget (restartLift f s).rink.slots n = slotRestarted (vget s.rink.slots n) :=
  vget_foldl_vmod slotRestarted hn (List.range 48) s.rink.slots List.nodup_range (List.mem_range.2 hn)

theorem changesOnly_restartLift (f : TileFrame) (s : State) : ChangesOnly [.rink] s (restartLift f s) :=
  changesOnly_modRink _ s

theorem restartLift_rest (f : TileFrame) (s : State) : (restartLift f s).rink.packets = [] ∧
    (restartLift f s).rink.frame = some { f with pass := 0, columns := [], rerouted := true } ∧
    (restartLift f s).patrol = s.patrol := by
  simp only [restartLift, modRink, and_self]

section
variable {r : Nat} {c : LiftColumn} {f : TileFrame} {rec_ : Bytes} {s : State}

theorem mismatchIsRouted (h : ColumnDue r c f rec_ s) (hres : c.residue = true) : Completes (.liftColumn r c) s fun t =>
      (∃ w, t.patrol.wires = s.patrol.wires ++ [w] ∧ w.source = rinkFault 49 0 ∧ w.cls = .uc ∧ w.level = 3) ∧
      (f.rerouted = false → t.rink.packets = [] ∧ t.rink.frame = some { f with pass := 0, columns := [], rerouted := true } ∧
        ∀ n, n < 48 → (vget t.rink.slots n).landing = [] ∧ (vget t.rink.slots n).markers = 0) ∧
      (f.rerouted = true → t.rink.packets = s.rink.packets ∧
        ∀ n ∈ f.deal, n < 48 → slotServed s n = true → (vget t.rink.slots n).cameraPartial = true) ∧
      ChangesOnly [.rink, .patrol] s t := by
  have heq := execLiftColumn_taken h
  rw [if_pos hres] at heq
  refine completes_of_answer ((exec_liftColumn r c s).trans heq) ?_
  have hv : ChangesOnly [.rink, .patrol] s (report (rinkFault 49 0) 0 3 .uc 0 (columnEntered r c rec_ f s)) :=
    (changesOnly_columnEntered s).comp (changesOnly_report _ _ _ _ _ _)
  have hwires : ∃ w, (report (rinkFault 49 0) 0 3 .uc 0 (columnEntered r c rec_ f s)).patrol.wires = s.patrol.wires ++ [w] ∧
      w.source = rinkFault 49 0 ∧ w.cls = .uc ∧ w.level = 3 := ⟨_, rfl, rfl, rfl, rfl⟩
  have hpackets : (report (rinkFault 49 0) 0 3 .uc 0 (columnEntered r c rec_ f s)).rink.packets = s.rink.packets := rfl
  have hserved : ∀ n, slotServed (report (rinkFault 49 0) 0 3 .uc 0 (columnEntered r c rec_ f s)) n = slotServed s n :=
    fun _ => rfl
  unfold routeMismatch
  dsimp only
  generalize report (rinkFault 49 0) 0 3 .uc 0 (columnEntered r c rec_ f s) = v at hv hwires hpackets hserved ⊢
  rw [settle_rink, settle_patrol, show (columnTaken r c rec_ f).rerouted = f.rerouted from rfl]
  by_cases hre : f.rerouted = true
  · rw [if_pos hre]
    have hmarked := partialMarked_foldl (columnTaken r c rec_ f).deal v
    refine ⟨?_, fun hno => absurd (hno.symm.trans hre) nofun,
      fun _ => ⟨hmarked.packets.trans hpackets, fun n hn hlt hsv => hmarked.marked n hn hlt ((hserved n).trans hsv)⟩,
      (hv.step (hmarked.frame.mono (by simp))).settle s⟩
    rwa [show (List.foldl _ v (columnTaken r c rec_ f).deal).patrol = v.patrol from hmarked.frame .patrol (by simp)]
  · rw [if_neg hre]
    obtain ⟨hp, hf, hpatrol⟩ := restartLift_rest (columnTaken r c rec_ f) v
    refine ⟨by rwa [hpatrol], fun _ => ⟨hp, hf, fun n hn => ?_⟩,
      fun hyes => absurd hyes hre, (hv.step ((changesOnly_restartLift _ v).mono (by simp))).settle s⟩
    rw [restartLift_slot _ v hn]
    exact ⟨rfl, rfl⟩

end

/-! ## Packets land (R299 to R301) -/

theorem landBin_at (features : List Int) (cell i : Nat) (hi : i < 32) (hf : i < features.length) (b : Nat × Int)
    (landing : List (Nat × Int)) : lookupD (landBin features landing b) (cell * 32 + i) 0 =
      lookupD landing (cell * 32 + i) 0 + if b.1 = cell then liftShare (features.getD i 0) b.2 else 0 := by
  have hfold : ∀ (l : List Int) (k : Nat) (m : List (Nat × Int)), k + l.length ≤ 32 →
      lookupD ((l.zipIdx k).foldl (fun (m : List (Nat × Int)) f =>
        assocSet m (b.1 * 32 + f.2) (lookupD m (b.1 * 32 + f.2) 0 + liftShare f.1 b.2)) m) (cell * 32 + i) 0 =
      lookupD m (cell * 32 + i) 0 + if b.1 = cell ∧ k ≤ i ∧ i < k + l.length then liftShare (l.getD (i - k) 0) b.2 else 0 := by
    intro l
    induction l with
    | nil =>
      intro k m _
      rw [if_neg (by simp)]
      simp
    | cons x l ih =>
      intro k m hlen
      rw [List.length_cons] at hlen
      rw [List.zipIdx_cons, List.foldl_cons, ih (k + 1) _ (by omega)]
      by_cases hkey : cell * 32 + i = b.1 * 32 + k
      · have hcell : b.1 = cell := by omega
        have hik : i = k := by omega
        rw [hkey, lookupD_assocSet, if_neg (by omega), if_pos ⟨hcell, by omega, by rw [List.length_cons]; omega⟩, hik, Nat.sub_self]
        simp
      · rw [lookupD_assocSet_ne _ hkey]
        congr 1
        by_cases hin : b.1 = cell ∧ k + 1 ≤ i ∧ i < k + 1 + l.length
        · rw [if_pos hin, if_pos ⟨hin.1, by omega, by simp; omega⟩, show i - k = (i - (k + 1)) + 1 by omega]
          rfl
        · rw [if_neg hin, if_neg]
          rintro ⟨hcell, hle, hlt⟩
          rw [List.length_cons] at hlt
          exact hin ⟨hcell, by omega, by omega⟩
  unfold landBin
  rw [hfold (features.take 32) 0 landing (by simp), List.length_take]
  congr 1
  by_cases hcell : b.1 = cell
  · rw [if_pos ⟨hcell, Nat.zero_le _, by omega⟩, if_pos hcell, Nat.sub_zero]
    congr 1
    simp [List.getD_eq_getElem?_getD, hi]
  · rw [if_neg fun h => hcell h.1, if_neg hcell]

theorem landBins_at (features : List Int) (cell i : Nat) (hi : i < 32) (hf : i < features.length) :
    ∀ (bins : List (Nat × Int)) (landing : List (Nat × Int)),
      lookupD (bins.foldl (landBin features) landing) (cell * 32 + i) 0 = lookupD landing (cell * 32 + i) 0 +
        ((bins.filter (fun b => b.1 == cell)).map (fun b => (features.getD i 0 * max 0 b.2 + 64) / 128)).sum
  | [], _ => by simp
  | b :: bins, landing => by
    rw [List.foldl_cons, landBins_at features cell i hi hf bins, landBin_at features cell i hi hf, List.filter_cons]
    by_cases hcell : b.1 = cell
    · rw [if_pos hcell, if_pos (by simpa using hcell)]
      simp only [List.map_cons, List.sum_cons, liftShare]
      omega
    · rw [if_neg hcell, if_neg (by simpa using hcell)]
      simp

/-- A packet joins the landing sums of its slot. -/
def packetLanded (p : LiftFlight) (pass : Nat) (x : Slot) : Slot :=
  { x with
    landing := p.bins.foldl (landBin p.features) x.landing
    passCameras := vmod x.passCameras pass (fun m => setBit m p.receiver)
    liftBins := satAdd 32 x.liftBins p.bins.length }

theorem packetLands {q : LiftPacket} {p : LiftFlight} {f : TileFrame} {s : State} (ha : awake s = true) (hq : q.slot < 48)
    (hf : s.rink.frame = some f) (hpass : f.pass < 2) (hp : s.rink.packets.find? (fun p => p.slot == q.slot) = some p) :
    Completes (.liftPacket q) s fun t =>
      let x := vget s.rink.slots q.slot
      let y := vget t.rink.slots q.slot
      t.rink.packets = s.rink.packets.erase p ∧
      (x.patchLost = true ∨ packetArrives s p = false → y = x ∧ t.rink.liftBins = s.rink.liftBins) ∧
      (x.patchLost = false → packetArrives s p = true → bitOf (vget y.passCameras f.pass) p.receiver = true ∧
        t.rink.liftBins = satAdd 32 s.rink.liftBins p.bins.length ∧
        ∀ cell i, i < 32 → i < p.features.length → lookupD y.landing (cell * 32 + i) 0 = lookupD x.landing (cell * 32 + i) 0 +
          ((p.bins.filter (fun b => b.1 == cell)).map (fun b => (p.features.getD i 0 * max 0 b.2 + 64) / 128)).sum) ∧
      (∀ n, n < 48 → n ≠ q.slot → vget t.rink.slots n = vget s.rink.slots n) ∧ ChangesOnly [.rink] s t := by
  have hslot : p.slot = q.slot := by simpa using List.find?_some hp
  have heq : execLiftPacket q s = answer s
      (if (vget s.rink.slots q.slot).patchLost || !packetArrives s p then
        modRink (fun (r : Rink) => { r with packets := r.packets.erase p }) s
      else modRink (fun (r : Rink) => { r with liftBins := satAdd 32 r.liftBins p.bins.length })
        (modSlot q.slot (packetLanded p f.pass) (modRink (fun (r : Rink) => { r with packets := r.packets.erase p }) s))) := by
    unfold execLiftPacket awakeAnswer
    rw [if_pos ha]
    simp only [hp, hf, hslot]
    rfl
  refine completes_of_answer ((exec_liftPacket q s).trans heq) ?_
  rw [settle_rink]
  by_cases hgone : (vget s.rink.slots q.slot).patchLost = true ∨ packetArrives s p = false
  · rw [if_pos (by rcases hgone with h | h <;> simp [h])]
    refine ⟨rfl, fun _ => ⟨rfl, rfl⟩, fun hl hp => ?_, fun _ _ _ => rfl, (changesOnly_modRink _ s).settle s⟩
    rw [hl, hp] at hgone
    exact absurd hgone (by decide)
  · obtain ⟨hl, hp⟩ := not_or.1 hgone
    have hl : (vget s.rink.slots q.slot).patchLost = false := by simpa using hl
    have hp : packetArrives s p = true := by simpa using hp
    rw [if_neg (by simp [hl, hp])]
    have hy : vget (vmod s.rink.slots q.slot (packetLanded p f.pass)) q.slot =
        packetLanded p f.pass (vget s.rink.slots q.slot) := vget_vmod_same _ _ hq
    refine ⟨rfl, fun h => absurd h hgone, fun _ _ => ⟨?_, rfl, fun cell i hi hlen => ?_⟩,
      fun n _ hn => vget_vmod_ne _ _ hn, (((changesOnly_modRink _ s).step (changesOnly_modSlot q.slot _ _)).step
        (changesOnly_modRink _ _)).settle s⟩
    · refine (congrArg (fun x : Slot => bitOf (vget x.passCameras f.pass) p.receiver) hy).trans ?_
      simp only [packetLanded]
      rw [vget_vmod_same _ _ hpass, bitOf_setBit]
      simp
    · exact (congrArg (fun x : Slot => lookupD x.landing (cell * 32 + i) 0) hy).trans
        (landBins_at p.features cell i hi hlen p.bins _)

/-! ## The marker of a pass, and the BEV phase (R23, R297, R298) -/

/-- A write to the tiles of a slot leaves all but the tiles. -/
theorem writeSlot_eq (slot : Nat) (f : Tile → Tile) (s : State) :
    ∃ tiles, writeSlot slot f s = { s with rink := { s.rink with tiles := tiles } } :=
  ⟨_, foldl_modTile f (holdersOf s slot) s⟩

/-- What an epilogue's work leaves: all but the tiles and the arithmetic counters. -/
structure TilesWorked (s t : State) : Prop where
  frame : ChangesOnly [.rink] s t
  slots : t.rink.slots = s.rink.slots
  array : t.rink.frame = s.rink.frame

theorem tilesWorked_writeSlot (slot : Nat) (f : Tile → Tile) (s : State) : TilesWorked s (writeSlot slot f s) := by
  obtain ⟨tiles, h⟩ := writeSlot_eq slot f s
  rw [h]
  exact ⟨changesOnly_modRink (fun r => { r with tiles := tiles }) s, rfl, rfl⟩

theorem TilesWorked.countArith {s t : State} (h : TilesWorked s t) (tile : Nat) (c : Counts) (n : Nat) :
    TilesWorked s (Machine.countArith tile c n t) :=
  ⟨h.frame.step ((changesOnly_modTile tile _ t).step (changesOnly_modRink _ _)), h.slots, h.array⟩

/-- A slot after the marker of a pass. -/
def slotMarked (x : Slot) : Slot := { x with landing := [], markers := x.markers + 1 }

theorem landingEpilogue_worked (n pass : Nat) (s : State) :
    ∃ u, TilesWorked s u ∧ landingEpilogue n pass s = modSlot n slotMarked u := by
  unfold landingEpilogue
  split
  · exact ⟨_, (tilesWorked_writeSlot n _ s).countArith _ _ 0, rfl⟩
  · exact ⟨s, ⟨.refl _ s, rfl, rfl⟩, rfl⟩

/-- The state in which a slot's marker has come. -/
def markerTaken (n : Nat) (f : TileFrame) (s : State) : State :=
  if (vget s.rink.slots n).patchLost then modSlot n slotMarked s else landingEpilogue n f.pass s

theorem markerTaken_worked (n : Nat) (f : TileFrame) (s : State) :
    ∃ u, TilesWorked s u ∧ markerTaken n f s = modSlot n slotMarked u := by
  unfold markerTaken
  split
  · exact ⟨s, ⟨.refl _ s, rfl, rfl⟩, rfl⟩
  · exact landingEpilogue_worked n f.pass s

/-- The pass ends with the last slot's marker. -/
def passEnded (f : TileFrame) (s : State) : State :=
  modRink (fun (r : Rink) => { r with frame := some { f with pass := f.pass + 1, columns := [] } }) s

/-- With the last pass the Lift ends, and Gate 5 is kicked. -/
def liftEnded (f : TileFrame) (s : State) : State :=
  kickGate 5 f.frame (if f.rerouted then evaluateAgain (rinkFault 49 0) 0 3 false s else s)

section
variable {n : Nat} {f : TileFrame} {s : State}

theorem execEndOfPassMarker_taken (ha : awake s = true) (hf : s.rink.frame = some f) (hphase : f.phase = .lift)
    (hpass : f.pass < liftPasses (planImage s)) (hdeal : n ∈ f.deal) (hmarkers : (vget s.rink.slots n).markers = f.pass)
    (hpackets : ∀ p ∈ s.rink.packets, p.slot ≠ n) (hawaited : awaitedColumns s f = []) :
    execEndOfPassMarker n s = answer s
      (if f.deal.all (fun m => (vget (markerTaken n f s).rink.slots m).markers == f.pass + 1) then
        if liftPasses (planImage s) ≤ f.pass + 1 then liftEnded f (passEnded f (markerTaken n f s))
        else passEnded f (markerTaken n f s)
      else markerTaken n f s) := by
  have hany : s.rink.packets.any (fun p => p.slot == n) = false := by
    simpa [List.any_eq_false] using hpackets
  have hgo : (f.phase != .lift || decide (liftPasses (planImage s) ≤ f.pass) || !f.deal.contains n ||
      (vget s.rink.slots n).markers != f.pass || s.rink.packets.any (fun p => p.slot == n) ||
      !(awaitedColumns s f).isEmpty) = false := by
    rw [hphase, hany, hawaited, hmarkers, decide_eq_false (Nat.not_le.2 hpass), List.contains_iff_mem.2 hdeal]
    simp
  unfold execEndOfPassMarker awakeAnswer
  rw [if_pos ha]
  simp only [hf, hgo, Bool.false_eq_true, if_false]
  rfl

theorem liftEnded_frame {s : State} (hgate : ∀ w, (gate s 5).armed.find? (fun w => w.key == f.frame) = some w →
    w.opens ≤ gateClock s 5 ∧ gateClock s 5 ≤ w.closes) : ChangesOnly [.safety, .patrol] s (liftEnded f s) := by
  unfold liftEnded
  obtain ⟨p, hp⟩ : ∃ p, (if f.rerouted then evaluateAgain (rinkFault 49 0) 0 3 false s else s) = { s with patrol := p } := by
    split
    · exact evaluateAgain_eq _ _ _ _ s
    · exact ⟨s.patrol, rfl⟩
  rw [hp]
  have hpatrol : ChangesOnly [.patrol] s { s with patrol := p } := changesOnly_modPatrol (fun _ => p) s
  have hkick : ChangesOnly [.safety, .patrol] { s with patrol := p } (kickGate 5 f.frame { s with patrol := p }) := by
    rw [kickGate_eq]
    split
    · exact .refl _ _
    case h_2 w hw =>
      exact changesOnly_ite (fun _ => changesOnly_kickTaken 5 f.frame _) fun h => absurd (hgate w hw) h
  exact (hpatrol.comp hkick).mono (by simp)

theorem markerEndsPass (ha : awake s = true) (hn : n < 48) (hf : s.rink.frame = some f) (hphase : f.phase = .lift)
    (hpass : f.pass < liftPasses (planImage s)) (hdeal : n ∈ f.deal) (hmarkers : (vget s.rink.slots n).markers = f.pass)
    (hpackets : ∀ p ∈ s.rink.packets, p.slot ≠ n) (hawaited : awaitedColumns s f = [])
    (hgate : ∀ w, (gate s 5).armed.find? (fun w => w.key == f.frame) = some w →
      w.opens ≤ gateClock s 5 ∧ gateClock s 5 ≤ w.closes) : Completes (.endOfPassMarker n) s fun t =>
      (vget t.rink.slots n).landing = [] ∧ (vget t.rink.slots n).markers = f.pass + 1 ∧
      ((∀ m ∈ f.deal, m = n ∨ (vget s.rink.slots m).markers = f.pass + 1) →
        t.rink.frame = some { f with pass := f.pass + 1, columns := [] }) ∧
      ((∃ m ∈ f.deal, m < 48 ∧ m ≠ n ∧ (vget s.rink.slots m).markers ≠ f.pass + 1) → t.rink.frame = some f) ∧
      ChangesOnly [.rink, .safety, .patrol] s t := by
  refine completes_of_answer ((exec_endOfPassMarker n s).trans
    (execEndOfPassMarker_taken ha hf hphase hpass hdeal hmarkers hpackets hawaited)) ?_
  obtain ⟨u, hworked, hmarker⟩ := markerTaken_worked n f s
  rw [hmarker]
  have hslots : (modSlot n slotMarked u).rink.slots = vmod s.rink.slots n slotMarked :=
    congrArg (fun v => vmod v n slotMarked) hworked.slots
  have hown : vget (modSlot n slotMarked u).rink.slots n = slotMarked (vget s.rink.slots n) := by
    rw [hslots, vget_vmod_same _ _ hn]
  have hother : ∀ m, m ≠ n → vget (modSlot n slotMarked u).rink.slots m = vget s.rink.slots m := fun m hm => by
    rw [hslots, vget_vmod_ne _ _ hm]
  have hframe : ChangesOnly [.rink] s (modSlot n slotMarked u) := hworked.frame.step (changesOnly_modSlot n _ u)
  have harray : (modSlot n slotMarked u).rink.frame = some f := hworked.array.trans hf
  generalize modSlot n slotMarked u = v at hown hother hframe harray ⊢
  have hall : f.deal.all (fun m => (vget v.rink.slots m).markers == f.pass + 1) = true ↔
      ∀ m ∈ f.deal, m = n ∨ (vget s.rink.slots m).markers = f.pass + 1 := by
    rw [List.all_eq_true]
    refine forall_congr' fun m => imp_congr_right fun _ => ?_
    by_cases hm : m = n
    · subst hm
      simp [hown, slotMarked, hmarkers]
    · simp [hother m hm, hm]
  have hland : (slotMarked (vget s.rink.slots n)).landing = [] ∧ (slotMarked (vget s.rink.slots n)).markers = f.pass + 1 :=
    ⟨rfl, congrArg (· + 1) hmarkers⟩
  rw [settle_rink]
  by_cases hend : f.deal.all (fun m => (vget v.rink.slots m).markers == f.pass + 1) = true
  · rw [if_pos hend]
    have hended : ChangesOnly [.rink] s (passEnded f v) := hframe.step (changesOnly_modRink _ v)
    have hgate' : ∀ w, (gate (passEnded f v) 5).armed.find? (fun w => w.key == f.frame) = some w →
        w.opens ≤ gateClock (passEnded f v) 5 ∧ gateClock (passEnded f v) 5 ≤ w.closes := by
      have hsafety : (passEnded f v).safety = s.safety := hended .safety (by simp)
      have hnow : gateClock (passEnded f v) 5 = gateClock s 5 := hended.now_eq (by simp)
      rw [hnow, gate, hsafety]
      exact hgate
    have hdone : ∀ t, t.rink = (passEnded f v).rink → ChangesOnly [.rink, .safety, .patrol] s t →
        (vget t.rink.slots n).landing = [] ∧ (vget t.rink.slots n).markers = f.pass + 1 ∧
        ((∀ m ∈ f.deal, m = n ∨ (vget s.rink.slots m).markers = f.pass + 1) →
          t.rink.frame = some { f with pass := f.pass + 1, columns := [] }) ∧
        ((∃ m ∈ f.deal, m < 48 ∧ m ≠ n ∧ (vget s.rink.slots m).markers ≠ f.pass + 1) → t.rink.frame = some f) ∧
        ChangesOnly [.rink, .safety, .patrol] s (settle s t) := by
      intro t ht hchanges
      rw [ht]
      refine ⟨(congrArg Slot.landing hown).trans hland.1, (congrArg Slot.markers hown).trans hland.2, fun _ => rfl, ?_,
        hchanges.settle s⟩
      rintro ⟨m, hm, -, hne, hleft⟩
      exact absurd (hall.1 hend m hm) (not_or.2 ⟨hne, hleft⟩)
    split
    · exact hdone _ ((liftEnded_frame hgate') .rink (by simp)) ((hended.comp (liftEnded_frame hgate')).mono (by simp))
    · exact hdone _ rfl (hended.mono (by simp))
  · rw [if_neg hend]
    refine ⟨(congrArg Slot.landing hown).trans hland.1, (congrArg Slot.markers hown).trans hland.2,
      fun h => absurd (hall.2 h) hend, fun _ => harray, (hframe.mono (by simp)).settle s⟩

theorem bevPhaseStarts (ha : awake s = true) (hf : s.rink.frame = some f) (hbooks : s.point.delivered = some f.frame)
    (hphase : f.phase = .lift) (hpass : liftPasses (planImage s) ≤ f.pass) :
    Completes .bevPhaseStart s fun t => t.rink.frame = some { f with phase := .bev } ∧ ChangesOnly [.rink] s t := by
  have hgo : (f.phase == .lift && decide (liftPasses (planImage s) ≤ f.pass) && s.point.delivered == some f.frame) = true := by
    rw [hphase, hbooks, decide_eq_true hpass]
    simp
  have heq : execBevPhaseStart s = answer s (modRink (fun (r : Rink) => { r with frame := some { f with phase := .bev } }) s) := by
    unfold execBevPhaseStart awakeAnswer
    rw [if_pos ha]
    simp only [hf, hgo, if_true]
  refine completes_of_answer ((exec_bevPhaseStart s).trans heq) ?_
  rw [settle_rink]
  exact ⟨rfl, (changesOnly_modRink _ s).settle s⟩

end

/-- Settles O41: the router's cut of a column, its one second run, the landing sums, and the markers of a pass. -/
theorem liftGathersColumnsOnTheGround : Obligations.LiftGathersColumnsOnTheGround := by
  unfold Obligations.LiftGathersColumnsOnTheGround
  refine ⟨fun bins => ⟨cutRuns_bins bins none [] fun _ => rfl, cutRuns_runs bins none [] nofun⟩,
    fun r c f rec_ g s ha hf hrec hrun hcp hpass hamong hnew horder hray => ?_,
    fun q p f s ha hq hf hpass hp => packetLands ha hq hf hpass hp,
    fun n f s ha hn hf hphase hpass hdeal hmarkers hpackets hawaited hgate =>
      markerEndsPass ha hn hf hphase hpass hdeal hmarkers hpackets hawaited hgate,
    fun f s ha hf hbooks hphase hpass => bevPhaseStarts ha hf hbooks hphase hpass⟩
  have hdue : ColumnDue r c f rec_ s := ⟨ha, hf, hrec, hrun, hcp, hpass, hamong, hnew, horder⟩
  exact ⟨fun hres hrays => columnIsRouted hdue hray hres hrays, fun hres => mismatchIsRouted hdue hres⟩

end Sys2Proof.Machine
end

section
/-! Halo points, remote gathers and the end of the heads (O42; R245, R246, R311 to R316, R369). -/

namespace Sys2Proof.Machine

/-! ## Bytes written to the tile of a slot -/

theorem sramPut_kept (at_ : Nat) (b : Bytes) (t : Tile) : (sramPut at_ b t).slot = t.slot ∧ (sramPut at_ b t).role = t.role ∧
    (cellsWf t.sram = true → cellsWf (sramPut at_ b t).sram = true) := by
  obtain ⟨m, hm, hw⟩ := sramPut_eq at_ b t
  rw [hm]
  exact ⟨rfl, rfl, hw.wf⟩

theorem cellsGet_sramPut {at_ : Nat} {b : Bytes} {t : Tile} (hm : cellsWf t.sram = true) (hfit : at_ + b.length ≤ 4194304) :
    cellsGet (sramPut at_ b t).sram at_ b.length = b := by
  unfold sramPut
  rw [if_pos (show at_ + b.length ≤ sramBytes from hfit)]
  exact cellsGet_cellsPut hm at_ b

/-- A write to the holders of a slot leaves each tile as it was, or takes effect on it, once or twice. -/
theorem writeSlot_kept {p : Nat → Tile → Prop} {f : Tile → Tile} (hf : ∀ v t, p v t → p v (f t)) {n : Nat} {s : State}
    (hs : ∀ v, p v (vget s.rink.tiles v)) : ∀ v, p v (vget (writeSlot n f s).rink.tiles v) := by
  have hfold : ∀ (l : List Nat) (u : State), (∀ v, p v (vget u.rink.tiles v)) →
      ∀ v, p v (vget (l.foldl (fun u t => modTile t f u) u).rink.tiles v) := by
    intro l
    induction l with
    | nil => exact fun u hu => hu
    | cons t l ih =>
      refine fun u hu => ih (modTile t f u) fun v => ?_
      rcases vget_vmod_cases (i := t) (j := v) u.rink.tiles f with h | h
      · rw [show vget (modTile t f u).rink.tiles v = _ from h]
        exact hu v
      · rw [show vget (modTile t f u).rink.tiles v = _ from h]
        exact hf v _ (hu v)
  exact hfold _ s hs

/-- The owner of a slot takes the write. -/
theorem writeSlot_owner {f : Tile → Tile} {n u : Nat} {s : State} (hu : ownerOf s n = some u) :
    vget (writeSlot n f s).rink.tiles u = f (vget s.rink.tiles u) ∨
    vget (writeSlot n f s).rink.tiles u = f (f (vget s.rink.tiles u)) := by
  have hlt := ownerOf_lt hu
  unfold writeSlot holdersOf
  rw [hu]
  cases s.rink.migration with
  | none => exact .inl (tile_modTile hlt f s)
  | some m =>
    dsimp only
    split
    · show vget (modTile m.target f (modTile u f s)).rink.tiles u = _ ∨ vget (modTile m.target f (modTile u f s)).rink.tiles u = _
      by_cases hsame : u = m.target
      · rw [← hsame, tile_modTile hlt f, tile_modTile hlt f]
        exact .inr rfl
      · rw [tile_modTile_ne hsame f, tile_modTile hlt f]
        exact .inl rfl
    · exact .inl (tile_modTile hlt f s)

/-- Bytes put where a slot's tile holds them are read there. -/
theorem writeSlot_read {n u at_ : Nat} {b : Bytes} {s : State} (hu : ownerOf s n = some u)
    (hm : cellsWf (vget s.rink.tiles u).sram = true) (hfit : at_ + b.length ≤ 4194304) :
    cellsGet (vget (writeSlot n (sramPut at_ b) s).rink.tiles u).sram at_ b.length = b := by
  rcases writeSlot_owner (f := sramPut at_ b) hu with h | h <;> rw [h]
  · exact cellsGet_sramPut hm hfit
  · exact cellsGet_sramPut ((sramPut_kept at_ b _).2.2 hm) hfit

/-! ## Halo strips (R245, R246) -/

section
variable {n : Nat} {strip : HaloStrip} {s : State}

/-- The strips that a halo point of a layer awaits. -/
def stripsAwaited (n layer : Nat) (s : State) : List Nat :=
  if (vget s.rink.slots n).haloLayer = some layer then (vget s.rink.slots n).haloWait
  else (List.range 8).filter (fun d => (neighbourSlot s n d).isSome)

/-- The halo point of the strip's layer stands open. -/
def haloOpened (n bytes h : Nat) (strip : HaloStrip) (s : State) : State :=
  if (vget s.rink.slots n).haloLayer == some strip.layer then s else openHalo n strip.layer bytes h strip s

/-- What the opening of a halo point leaves and what it sets. -/
structure HaloOpened (n layer : Nat) (s t : State) : Prop where
  frame : ChangesOnly [.rink] s t
  own : vget t.rink.slots n = { vget s.rink.slots n with haloLayer := some layer, haloWait := stripsAwaited n layer s }
  others : ∀ k, k ≠ n → vget t.rink.slots k = vget s.rink.slots k
  counters : t.rink.counters = s.rink.counters
  owner : ownerOf t n = ownerOf s n
  wf : ∀ u, cellsWf (vget s.rink.tiles u).sram = true → cellsWf (vget t.rink.tiles u).sram = true

/-- The zeros that a halo ring holds for the neighbours that are not there. -/
def ringZeros (strip : HaloStrip) (bytes h : Nat) (absent : List Nat) (t : Tile) : Tile :=
  absent.foldl (fun (u : Tile) d => sramPut (strip.ring.getD d 0) (zeros (bytes * stripCells h d)) u) t

theorem ringZeros_kept (strip : HaloStrip) (bytes h : Nat) : ∀ (absent : List Nat) (t : Tile),
    (ringZeros strip bytes h absent t).slot = t.slot ∧ (ringZeros strip bytes h absent t).role = t.role ∧
    (cellsWf t.sram = true → cellsWf (ringZeros strip bytes h absent t).sram = true)
  | [], _ => ⟨rfl, rfl, id⟩
  | d :: absent, t => by
    obtain ⟨hslot, hrole, hwf⟩ := sramPut_kept (strip.ring.getD d 0) (zeros (bytes * stripCells h d)) t
    obtain ⟨hslot', hrole', hwf'⟩ := ringZeros_kept strip bytes h absent
      (sramPut (strip.ring.getD d 0) (zeros (bytes * stripCells h d)) t)
    exact ⟨hslot'.trans hslot, hrole'.trans hrole, fun hm => hwf' (hwf hm)⟩

theorem haloOpened_spec (bytes h : Nat) (hn : n < 48) : HaloOpened n strip.layer s (haloOpened n bytes h strip s) := by
  unfold haloOpened
  by_cases hopen : (vget s.rink.slots n).haloLayer = some strip.layer
  · rw [if_pos (beq_iff_eq.2 hopen)]
    have howned : vget s.rink.slots n = { vget s.rink.slots n with
        haloLayer := some strip.layer, haloWait := stripsAwaited n strip.layer s } := by
      rw [stripsAwaited, if_pos hopen, ← hopen]
    exact ⟨.refl _ s, howned, fun _ _ => rfl, rfl, rfl, fun _ => id⟩
  · rw [if_neg (by simpa using hopen)]
    unfold openHalo
    extract_lets absent
    have hzero : ∀ t, absent.foldl (fun (u : Tile) d => sramPut (strip.ring.getD d 0) (zeros (bytes * stripCells h d)) u) t =
        ringZeros strip bytes h absent t := fun _ => rfl
    simp only [hzero]
    generalize hv : modSlot n (fun (x : Slot) => { x with
      haloLayer := some strip.layer, haloWait := (List.range 8).filter (fun d => (neighbourSlot s n d).isSome) }) s = v
    have hframe : ChangesOnly [.rink] s v := hv ▸ changesOnly_modSlot n _ s
    have hslots : v.rink.slots = vmod s.rink.slots n (fun (x : Slot) => { x with
      haloLayer := some strip.layer, haloWait := (List.range 8).filter (fun d => (neighbourSlot s n d).isSome) }) := hv ▸ rfl
    have htiles : v.rink.tiles = s.rink.tiles := hv ▸ rfl
    have hcounters : v.rink.counters = s.rink.counters := hv ▸ rfl
    have hworked := tilesWorked_writeSlot n (ringZeros strip bytes h absent) v
    obtain ⟨tiles, htile⟩ := writeSlot_eq n (ringZeros strip bytes h absent) v
    have hkept := writeSlot_kept (n := n) (s := v)
      (p := fun w t => t.slot = (vget s.rink.tiles w).slot ∧ t.role = (vget s.rink.tiles w).role ∧
        (cellsWf (vget s.rink.tiles w).sram = true → cellsWf t.sram = true))
      (fun w t ht => by
        obtain ⟨hslot, hrole, hwf⟩ := ringZeros_kept strip bytes h absent t
        exact ⟨hslot.trans ht.1, hrole.trans ht.2.1, fun hm => hwf (ht.2.2 hm)⟩)
      (fun w => by rw [htiles]; exact ⟨rfl, rfl, id⟩)
    refine ⟨hframe.step hworked.frame, ?_, fun k hk => ?_, ?_, ?_, fun u => (hkept u).2.2⟩
    · rw [hworked.slots, hslots, vget_vmod_same _ _ hn, stripsAwaited, if_neg hopen]
    · rw [hworked.slots, hslots, vget_vmod_ne _ _ hk]
    · rw [htile]
      exact hcounters
    · exact ownerOf_congr (fun u => ⟨(hkept u).1, (hkept u).2.1⟩) n

/-- A strip has come from a direction. -/
def stripCame (d : Nat) (x : Slot) : Slot := { x with haloWait := x.haloWait.filter (fun e => e != d) }

/-- A strip's bytes stand in the halo ring. -/
def stripTaken (n bytes h : Nat) (strip : HaloStrip) (s : State) : State :=
  modSlot n (stripCame strip.neighbour) (writeSlot n (sramPut (strip.ring.getD strip.neighbour 0)
    (stripBytes s n strip.neighbour bytes h strip.cells)) (haloOpened n bytes h strip s))

theorem markHalo_eq (n : Nat) (s : State) : markHalo n s =
    if (vget s.rink.slots n).haloLost then s
    else modCounters (fun (c : RinkCounters) => { c with haloLost := bump c.haloLost })
      (modSlot n (fun (x : Slot) => { x with haloLost := true }) s) := rfl

theorem changesOnly_markHalo (n : Nat) (s : State) : ChangesOnly [.rink] s (markHalo n s) :=
  changesOnly_ite (fun _ => .refl _ s) fun _ => (changesOnly_modSlot n _ s).step (changesOnly_modCounters _ _)

/-- What the mark of a patch leaves and what it sets. -/
theorem markHalo_marks (hn : n < 48) : vget (markHalo n s).rink.slots n = { vget s.rink.slots n with haloLost := true } ∧
    (markHalo n s).rink.counters.haloLost =
      (if (vget s.rink.slots n).haloLost = true then s.rink.counters.haloLost else bump s.rink.counters.haloLost) := by
  unfold markHalo
  by_cases h : (vget s.rink.slots n).haloLost = true
  · rw [if_pos h, if_pos h]
    exact ⟨by rw [← h], rfl⟩
  · rw [if_neg h, if_neg h]
    exact ⟨vget_vmod_same _ _ hn, rfl⟩

theorem markHalo_ne {k : Nat} (hk : k ≠ n) : vget (markHalo n s).rink.slots k = vget s.rink.slots k := by
  unfold markHalo
  split
  · rfl
  · exact vget_vmod_ne _ _ hk

theorem markHalo_rest (n : Nat) (s : State) : (markHalo n s).rink.tiles = s.rink.tiles ∧
    (markHalo n s).rink.gathers = s.rink.gathers ∧ (markHalo n s).rink.samplesClipped = s.rink.samplesClipped := by
  unfold markHalo
  split
  · exact ⟨rfl, rfl, rfl⟩
  · exact ⟨rfl, rfl, rfl⟩

theorem execHaloPoint_takes {layer : Bytes} {f : TileFrame} {m : Nat} (ha : awake s = true) (hf : s.rink.frame = some f)
    (hlayer : (layerRecords (planImage s))[strip.layer]? = some layer) (hphase : f.phase = .bev) (hsv : slotServed s n = true)
    (hheads : (vget s.rink.slots n).headsDone = false) (hh : fld layer 160 8 ≠ 0) (hd : strip.neighbour < 8)
    (hm : neighbourSlot s n strip.neighbour = some m) (hcells : strip.cells.length = stripCells (fld layer 160 8) strip.neighbour)
    (hopen : (vget s.rink.slots n).haloLayer = some strip.layer ∨ (vget s.rink.slots n).haloWait = []) :
    execHaloPoint n strip s = answer s
      (if (vget s.rink.slots m).patchLost then
        markHalo n (stripTaken n (rowBytes (dscA layer) (fld layer 192 16)) (fld layer 160 8) strip s)
      else stripTaken n (rowBytes (dscA layer) (fld layer 192 16)) (fld layer 160 8) strip s) := by
  have hwait : (!((vget s.rink.slots n).haloLayer == some strip.layer) && !(vget s.rink.slots n).haloWait.isEmpty) = false := by
    rcases hopen with h | h <;> simp [h]
  have hgo : (f.phase != .bev || !slotServed s n || (vget s.rink.slots n).headsDone || decide (fld layer 160 8 = 0) ||
      decide (8 ≤ strip.neighbour) || ((neighbourSlot s n strip.neighbour).isSome &&
        strip.cells.length != stripCells (fld layer 160 8) strip.neighbour) ||
      (!((vget s.rink.slots n).haloLayer == some strip.layer) && !(vget s.rink.slots n).haloWait.isEmpty)) = false := by
    rw [hwait, hphase, hsv, hheads, decide_eq_false hh, decide_eq_false (Nat.not_le.2 hd), hcells]
    simp
  unfold execHaloPoint awakeAnswer
  rw [if_pos ha]
  simp only [hf, hlayer]
  refine (congrArg (answer s) (if_neg (by rw [hgo]; exact Bool.false_ne_true))).trans ?_
  simp only [hm, Option.any_some]
  rfl

theorem haloStripComes {layer : Bytes} {f : TileFrame} {m : Nat} (ha : awake s = true) (hn : n < 48)
    (hf : s.rink.frame = some f) (hlayer : (layerRecords (planImage s))[strip.layer]? = some layer) (hphase : f.phase = .bev)
    (hsv : slotServed s n = true) (hheads : (vget s.rink.slots n).headsDone = false) (hh : fld layer 160 8 ≠ 0)
    (hd : strip.neighbour < 8) (hm : neighbourSlot s n strip.neighbour = some m)
    (hcells : strip.cells.length = stripCells (fld layer 160 8) strip.neighbour)
    (hopen : (vget s.rink.slots n).haloLayer = some strip.layer ∨ (vget s.rink.slots n).haloWait = []) :
    Completes (.haloPoint n strip) s fun t =>
      let x := vget s.rink.slots n
      let b := stripBytes s n strip.neighbour (rowBytes (dscA layer) (fld layer 192 16)) (fld layer 160 8) strip.cells
      let at_ := strip.ring.getD strip.neighbour 0
      (vget t.rink.slots n).haloLayer = some strip.layer ∧
       (vget t.rink.slots n).haloWait = (stripsAwaited n strip.layer s).filter (fun d => d != strip.neighbour) ∧
       (∀ u, ownerOf s n = some u → cellsWf (vget s.rink.tiles u).sram = true → at_ + b.length ≤ 4194304 →
         cellsGet (vget t.rink.tiles u).sram at_ b.length = b) ∧
       ((vget s.rink.slots m).patchLost = true → (∀ v ∈ b, v = 0) ∧ (vget t.rink.slots n).haloLost = true ∧
         t.rink.counters.haloLost = (if x.haloLost = true then s.rink.counters.haloLost
           else bump s.rink.counters.haloLost)) ∧
       ((vget s.rink.slots m).patchLost = false → (vget t.rink.slots n).haloLost = x.haloLost) ∧
       (∀ k, k < 48 → k ≠ n → vget t.rink.slots k = vget s.rink.slots k) ∧ ChangesOnly [.rink] s t := by
  refine completes_of_answer ((exec_haloPoint n strip s).trans
    (execHaloPoint_takes ha hf hlayer hphase hsv hheads hh hd hm hcells hopen)) ?_
  rw [settle_rink]
  generalize hbytes : rowBytes (dscA layer) (fld layer 192 16) = bytes
  generalize fld layer 160 8 = h
  dsimp only
  have hspec := haloOpened_spec (strip := strip) (s := s) bytes h hn
  generalize hb : stripBytes s n strip.neighbour bytes h strip.cells = b
  have hzero : (vget s.rink.slots m).patchLost = true → ∀ v ∈ b, v = 0 := fun hlost v hv => by
    rw [← hb, stripBytes] at hv
    simp only [hm, hlost, if_true] at hv
    exact List.eq_of_mem_replicate hv
  generalize hv : stripTaken n bytes h strip s = v
  unfold stripTaken at hv
  rw [hb] at hv
  generalize haloOpened n bytes h strip s = o at hspec hv
  have hworked := tilesWorked_writeSlot n (sramPut (strip.ring.getD strip.neighbour 0) b) o
  obtain ⟨tiles, htile⟩ := writeSlot_eq n (sramPut (strip.ring.getD strip.neighbour 0) b) o
  have hcounters : v.rink.counters = s.rink.counters := by
    rw [← hv, htile]
    exact hspec.counters
  have hslots : v.rink.slots = vmod o.rink.slots n (stripCame strip.neighbour) := by
    rw [← hv]
    exact congrArg (fun w => vmod w n (stripCame strip.neighbour)) hworked.slots
  have hown : vget v.rink.slots n = stripCame strip.neighbour { vget s.rink.slots n with
      haloLayer := some strip.layer, haloWait := stripsAwaited n strip.layer s } := by
    rw [hslots, vget_vmod_same _ _ hn, hspec.own]
  have hothers : ∀ k, k ≠ n → vget v.rink.slots k = vget s.rink.slots k := fun k hk => by
    rw [hslots, vget_vmod_ne _ _ hk, hspec.others k hk]
  have hread : ∀ u, ownerOf s n = some u → cellsWf (vget s.rink.tiles u).sram = true →
      strip.ring.getD strip.neighbour 0 + b.length ≤ 4194304 →
      cellsGet (vget v.rink.tiles u).sram (strip.ring.getD strip.neighbour 0) b.length = b := fun u hu hwf hfit => by
    rw [← hv]
    exact writeSlot_read (hspec.owner.trans hu) (hspec.wf u hwf) hfit
  have hframe : ChangesOnly [.rink] s v := hv ▸ (hspec.frame.step hworked.frame).step (changesOnly_modSlot n _ _)
  by_cases hlost : (vget s.rink.slots m).patchLost = true
  · rw [if_pos hlost]
    obtain ⟨hmark, hcount⟩ := markHalo_marks (s := v) hn
    rw [hcounters] at hcount
    rw [hmark, hcount, (markHalo_rest n v).1, hown]
    refine ⟨rfl, rfl, hread, fun _ => ⟨hzero hlost, rfl, rfl⟩, fun h => absurd (h.symm.trans hlost) nofun,
      fun k _ hk => (markHalo_ne hk).trans (hothers k hk), (hframe.step (changesOnly_markHalo n v)).settle s⟩
  · rw [if_neg hlost, hown]
    exact ⟨rfl, rfl, hread, fun h => absurd h hlost, fun _ => rfl, fun k _ hk => hothers k hk, hframe.settle s⟩

end

/-! ## Remote gathers (R305, R311, R312) -/

section
variable {n tile : Nat} {g : Gather} {s : State}

theorem answerGather_eq (n at_ : Nat) (b : Bytes) (s : State) :
    ∃ tiles, answerGather n at_ b s = { s with rink := { s.rink with tiles := tiles } } := writeSlot_eq n _ s

theorem changesOnly_answerGather (n at_ : Nat) (b : Bytes) (s : State) : ChangesOnly [.rink] s (answerGather n at_ b s) :=
  (tilesWorked_writeSlot n _ s).frame

/-- The asking slot's tile reads the bytes that a gather brought. -/
def Brings (s : State) (n at_ : Nat) (t : State) (b : Bytes) : Prop :=
  ∀ u, ownerOf s n = some u → cellsWf (vget s.rink.tiles u).sram = true → at_ + b.length ≤ 4194304 →
    cellsGet (vget t.rink.tiles u).sram at_ b.length = b

theorem answerGather_brings (b : Bytes) {n at_ : Nat} {s v : State} (hv : v.rink.tiles = s.rink.tiles) :
    Brings s n at_ (answerGather n at_ b v) b := fun u hu hwf hfit =>
  writeSlot_read ((ownerOf_congr (fun w => by rw [hv]; exact ⟨rfl, rfl⟩) n).trans hu) (by rwa [hv]) hfit

/-- The layer's reach in patches, and where its samples are counted. -/
def layerSampled (layer : Bytes) : Bool := fld layer 128 8 == 12
def gatherReach (layer : Bytes) : Nat := if layerSampled layer then fld layer 184 4 else 1

/-- The patch that a gather of a slot asks for. -/
def askedPatch (s : State) (n : Nat) (g : Gather) : Int × Int :=
  ((patchOfSlot s.rink.centreX s.rink.centreY n).1 + g.dx, (patchOfSlot s.rink.centreX s.rink.centreY n).2 + g.dy)

def askedSlot (s : State) (n : Nat) (g : Gather) : Nat := slotIndex (askedPatch s n g).1 (askedPatch s n g).2

/-- A gather is beyond its layer's reach, or beyond what is served. -/
def GatherBeyond (s : State) (n : Nat) (g : Gather) (layer : Bytes) : Prop :=
  gatherReach layer < max (mag g.dx) (mag g.dy) ∨ patchInExtent s (askedPatch s n g) = false ∨
    slotServed s (askedSlot s n g) = false

/-- The check of `GatherBeyond` that a request makes. -/
def beyondCheck (s : State) (n : Nat) (g : Gather) (layer : Bytes) : Bool :=
  decide (gatherReach layer < max (mag g.dx) (mag g.dy)) || !patchInExtent s (askedPatch s n g) || !slotServed s (askedSlot s n g)

theorem beyondCheck_iff (s : State) (n : Nat) (g : Gather) (layer : Bytes) :
    beyondCheck s n g layer = true ↔ GatherBeyond s n g layer := by
  simp [beyondCheck, GatherBeyond, or_assoc]

/-- A sample beyond the reach is counted. -/
def sampleClipped (layer : Bytes) (s : State) : State :=
  if layerSampled layer then modRink (fun (r : Rink) => { r with samplesClipped := satAdd 32 r.samplesClipped 1 }) s else s

/-- A request waits for the tile that serves it. -/
def gatherSent (n t to_ : Nat) (s : State) : State :=
  modRink (fun (r : Rink) => { r with
    gathers := r.gathers.filter (fun x => decide (now s ≤ x.sent + gatherLimit + 2 * usUnits)) ++
      [{ slot := n, tile := t, to_ := to_, sent := now s }] }) s

/-- A request that no copy or no owner serves reads zero, one that is served brings its segment. -/
def gatherServed (tile n : Nat) (g : Gather) (s : State) : State :=
  match vget (vget s.rink.copies tile).owners (askedSlot s n g), ownerOf s (askedSlot s n g) with
  | some t, some o =>
    if t = o || (vget s.rink.tiles t).draining then
      answerGather n g.to_ (cellsGet (vget s.rink.tiles o).sram g.address 64) (gatherSent n t g.to_ s)
    else gatherSent n t g.to_ s
  | _, _ => markHalo n (zeroGather n g.to_ s)

theorem meshTargets_head (s : State) (router n : Nat) :
    (meshTargets s router (.slot n)).head? = vget (vget s.rink.copies router).owners n := by
  show (vget (vget s.rink.copies router).owners n).toList.head? = _
  cases vget (vget s.rink.copies router).owners n
  · rfl
  · rfl

theorem execRemoteGatherRequest_eq {layer : Bytes} {f : TileFrame} (ha : awake s = true) (ht : tile < 49)
    (hf : s.rink.frame = some f) (hphase : f.phase = .bev) (hwork : workSlot s tile = some n)
    (hlayer : (layerRecords (planImage s))[g.layer]? = some layer) : execRemoteGatherRequest tile g s = answer s
      (if beyondCheck s n g layer then zeroGather n g.to_ (sampleClipped layer s)
      else if (vget s.rink.slots (askedSlot s n g)).patchLost then markHalo n (zeroGather n g.to_ s)
      else gatherServed tile n g s) := by
  have hgo : (f.phase != .bev || decide (49 ≤ tile)) = false := by
    rw [hphase, decide_eq_false (Nat.not_le.2 ht)]
    rfl
  unfold execRemoteGatherRequest awakeAnswer
  rw [if_pos ha]
  simp only [hf, hwork, hlayer]
  refine (congrArg (answer s) (if_neg (by rw [hgo]; exact Bool.false_ne_true))).trans ?_
  unfold gatherServed
  rw [← meshTargets_head s tile]
  rfl

theorem zeroGather_clipped (layer : Bytes) : Brings s n g.to_ (zeroGather n g.to_ (sampleClipped layer s)) (zeros 64) ∧
    (zeroGather n g.to_ (sampleClipped layer s)).rink.gathers = s.rink.gathers ∧
    (zeroGather n g.to_ (sampleClipped layer s)).rink.samplesClipped =
      (if layerSampled layer then satAdd 32 s.rink.samplesClipped 1 else s.rink.samplesClipped) ∧
    ChangesOnly [.rink] s (zeroGather n g.to_ (sampleClipped layer s)) := by
  have hclip : (sampleClipped layer s).rink.tiles = s.rink.tiles ∧ (sampleClipped layer s).rink.gathers = s.rink.gathers ∧
      (sampleClipped layer s).rink.samplesClipped =
        (if layerSampled layer then satAdd 32 s.rink.samplesClipped 1 else s.rink.samplesClipped) := by
    unfold sampleClipped
    split
    · exact ⟨rfl, rfl, rfl⟩
    · exact ⟨rfl, rfl, rfl⟩
  have hframe : ChangesOnly [.rink] s (sampleClipped layer s) :=
    changesOnly_ite (fun _ => changesOnly_modRink _ s) fun _ => .refl _ s
  generalize sampleClipped layer s = v at hclip hframe ⊢
  obtain ⟨htiles, hgathers, hclipped⟩ := hclip
  obtain ⟨tiles, hzero⟩ := answerGather_eq n g.to_ (zeros 64) v
  refine ⟨answerGather_brings (zeros 64) htiles, ?_, ?_, hframe.step (changesOnly_answerGather n g.to_ (zeros 64) v)⟩
  · rw [zeroGather, hzero]
    exact hgathers
  · rw [zeroGather, hzero]
    exact hclipped

theorem markHalo_zeroGather (n to_ : Nat) (s : State) :
    (markHalo n (zeroGather n to_ s)).rink.samplesClipped = s.rink.samplesClipped ∧
    Brings s n to_ (markHalo n (zeroGather n to_ s)) (zeros 64) ∧
    (n < 48 → (vget (markHalo n (zeroGather n to_ s)).rink.slots n).haloLost = true) ∧
    ChangesOnly [.rink] s (markHalo n (zeroGather n to_ s)) := by
  obtain ⟨tiles, hzero⟩ := answerGather_eq n to_ (zeros 64) s
  obtain ⟨htiles, -, hclipped⟩ := markHalo_rest n (zeroGather n to_ s)
  have hbrings : Brings s n to_ (zeroGather n to_ s) (zeros 64) := answerGather_brings (zeros 64) rfl
  refine ⟨hclipped.trans ?_, ?_, fun hn => by rw [(markHalo_marks hn).1],
    (changesOnly_answerGather n to_ (zeros 64) s).step (changesOnly_markHalo n _)⟩
  · rw [zeroGather, hzero]
  · unfold Brings at hbrings ⊢
    rwa [htiles]

/-- What a request that is neither beyond the reach nor of a lost patch leaves and brings. -/
structure GatherServed (tile n : Nat) (g : Gather) (s t : State) : Prop where
  frame : ChangesOnly [.rink] s t
  clipped : t.rink.samplesClipped = s.rink.samplesClipped
  served : ∀ a o, vget (vget s.rink.copies tile).owners (askedSlot s n g) = some a → ownerOf s (askedSlot s n g) = some o →
    (∃ w ∈ t.rink.gathers, w.slot = n ∧ w.tile = a ∧ w.to_ = g.to_ ∧ w.sent = now s) ∧
    (a = o → Brings s n g.to_ t (cellsGet (vget s.rink.tiles o).sram g.address 64))

theorem gatherServed_spec : GatherServed tile n g s (gatherServed tile n g s) := by
  obtain ⟨hclipped, -, -, hframe⟩ := markHalo_zeroGather n g.to_ s
  unfold gatherServed
  cases hcopy : vget (vget s.rink.copies tile).owners (askedSlot s n g) with
  | none => exact ⟨hframe, hclipped, fun a o hc => absurd (hcopy.symm.trans hc) nofun⟩
  | some a =>
    cases howner : ownerOf s (askedSlot s n g) with
    | none => exact ⟨hframe, hclipped, fun a o _ ho => absurd (howner.symm.trans ho) nofun⟩
    | some o =>
      have hsent : ∃ w ∈ (gatherSent n a g.to_ s).rink.gathers, w.slot = n ∧ w.tile = a ∧ w.to_ = g.to_ ∧ w.sent = now s :=
        ⟨{ slot := n, tile := a, to_ := g.to_, sent := now s }, List.mem_append_right _ (List.mem_singleton.2 rfl),
          rfl, rfl, rfl, rfl⟩
      have hsentClipped : (gatherSent n a g.to_ s).rink.samplesClipped = s.rink.samplesClipped := rfl
      have hsentTiles : (gatherSent n a g.to_ s).rink.tiles = s.rink.tiles := rfl
      have hframe : ChangesOnly [.rink] s (gatherSent n a g.to_ s) := changesOnly_modRink _ s
      dsimp only
      generalize gatherSent n a g.to_ s = v at hsent hsentClipped hsentTiles hframe ⊢
      generalize hb : cellsGet (vget s.rink.tiles o).sram g.address 64 = b
      by_cases hserves : (decide (a = o) || (vget s.rink.tiles a).draining) = true
      · rw [if_pos hserves]
        obtain ⟨tiles, heq⟩ := answerGather_eq n g.to_ b v
        have hbrings : Brings s n g.to_ (answerGather n g.to_ b v) b := answerGather_brings b hsentTiles
        refine ⟨hframe.step (changesOnly_answerGather n g.to_ b v), ?_, fun a' o' hc ho => ?_⟩
        · rw [heq]
          exact hsentClipped
        · obtain rfl : a = a' := Option.some.inj (hcopy.symm.trans hc)
          obtain rfl : o = o' := Option.some.inj (howner.symm.trans ho)
          refine ⟨?_, fun _ => hb.symm ▸ hbrings⟩
          rw [heq]
          exact hsent
      · rw [if_neg hserves]
        refine ⟨hframe, hsentClipped, fun a' o' hc ho => ?_⟩
        obtain rfl : a = a' := Option.some.inj (hcopy.symm.trans hc)
        obtain rfl : o = o' := Option.some.inj (howner.symm.trans ho)
        refine ⟨hsent, fun hao => absurd ?_ hserves⟩
        simp [hao]

theorem gatherIsAnswered {layer : Bytes} {f : TileFrame} (ha : awake s = true) (ht : tile < 49)
    (hf : s.rink.frame = some f) (hphase : f.phase = .bev) (hwork : workSlot s tile = some n)
    (hlayer : (layerRecords (planImage s))[g.layer]? = some layer) :
    let m := askedSlot s n g
    Completes (.remoteGatherRequest tile g) s fun t =>
       (GatherBeyond s n g layer → Brings s n g.to_ t (zeros 64) ∧ t.rink.gathers = s.rink.gathers ∧
         t.rink.samplesClipped = (if layerSampled layer then satAdd 32 s.rink.samplesClipped 1 else s.rink.samplesClipped)) ∧
       (¬ GatherBeyond s n g layer → t.rink.samplesClipped = s.rink.samplesClipped) ∧
       (¬ GatherBeyond s n g layer → (vget s.rink.slots m).patchLost = true → Brings s n g.to_ t (zeros 64) ∧
         (n < 48 → (vget t.rink.slots n).haloLost = true)) ∧
       (¬ GatherBeyond s n g layer → (vget s.rink.slots m).patchLost = false → ∀ a o,
         vget (vget s.rink.copies tile).owners m = some a → ownerOf s m = some o →
         (∃ w ∈ t.rink.gathers, w.slot = n ∧ w.tile = a ∧ w.to_ = g.to_ ∧ w.sent = now s) ∧
         (a = o → Brings s n g.to_ t (cellsGet (vget s.rink.tiles o).sram g.address 64))) ∧ ChangesOnly [.rink] s t := by
  intro m
  refine completes_of_answer ((exec_remoteGatherRequest tile g s).trans
    (execRemoteGatherRequest_eq ha ht hf hphase hwork hlayer)) ?_
  unfold Brings
  rw [settle_rink]
  by_cases hbeyond : GatherBeyond s n g layer
  · rw [if_pos ((beyondCheck_iff s n g layer).2 hbeyond)]
    obtain ⟨hbrings, hgathers, hclipped, hframe⟩ := zeroGather_clipped (s := s) (n := n) (g := g) layer
    exact ⟨fun _ => ⟨hbrings, hgathers, hclipped⟩, fun h => absurd hbeyond h, fun h => absurd hbeyond h,
      fun h => absurd hbeyond h, hframe.settle s⟩
  · rw [if_neg fun h => hbeyond ((beyondCheck_iff s n g layer).1 h)]
    by_cases hlost : (vget s.rink.slots m).patchLost = true
    · rw [if_pos hlost]
      obtain ⟨hclipped, hbrings, hmark, hframe⟩ := markHalo_zeroGather n g.to_ s
      exact ⟨fun h => absurd h hbeyond, fun _ => hclipped, fun _ _ => ⟨hbrings, hmark⟩,
        fun _ h => absurd (h.symm.trans hlost) nofun, hframe.settle s⟩
    · rw [if_neg hlost]
      have hspec := gatherServed_spec (tile := tile) (n := n) (g := g) (s := s)
      exact ⟨fun h => absurd h hbeyond, fun _ => hspec.clipped, fun _ h => absurd h hlost, fun _ _ => hspec.served,
        hspec.frame.settle s⟩

theorem gatherTimesOut {x : GatherWait} (ha : awake s = true)
    (hx : s.rink.gathers.find? (fun x => x.tile == tile && decide (x.sent + 50 * usUnits ≤ now s)) = some x) :
    Completes (.remoteGatherTimeout tile) s fun t => t.rink.gathers = s.rink.gathers.erase x ∧
       (∃ r, t.patrol.wires = s.patrol.wires ++ [r] ∧ r.source = rinkFault tile 0 ∧ r.cls = .uc ∧ r.level = 4) ∧
       (x.slot < 48 → (vget t.rink.slots x.slot).haloLost = true) ∧ ChangesOnly [.rink, .patrol] s t := by
  have heq : execRemoteGatherTimeout tile s = answer s (markHalo x.slot (zeroGather x.slot x.to_ (report (rinkFault tile 0) 9 4 .uc 0
      (modRink (fun (r : Rink) => { r with gathers := r.gathers.erase x }) s)))) := by
    have hdue : s.rink.gathers.find? (fun x => x.tile == tile && decide (x.sent + gatherLimit ≤ now s)) = some x := hx
    unfold execRemoteGatherTimeout awakeAnswer
    rw [if_pos ha]
    simp only [hdue]
  refine completes_of_answer ((exec_remoteGatherTimeout tile s).trans heq) ?_
  rw [settle_rink, settle_patrol]
  have hwire : ∃ r, (report (rinkFault tile 0) 9 4 .uc 0 (modRink (fun (r : Rink) => { r with
      gathers := r.gathers.erase x }) s)).patrol.wires = s.patrol.wires ++ [r] ∧ r.source = rinkFault tile 0 ∧ r.cls = .uc ∧
      r.level = 4 := ⟨_, rfl, rfl, rfl, rfl⟩
  have hgathers : (report (rinkFault tile 0) 9 4 .uc 0 (modRink (fun (r : Rink) => { r with
      gathers := r.gathers.erase x }) s)).rink.gathers = s.rink.gathers.erase x := rfl
  have hframe := (changesOnly_modRink (fun (r : Rink) => { r with gathers := r.gathers.erase x }) s).comp
    (changesOnly_report (rinkFault tile 0) 9 4 .uc 0 _)
  generalize report (rinkFault tile 0) 9 4 .uc 0 (modRink (fun (r : Rink) => { r with
    gathers := r.gathers.erase x }) s) = v at hwire hgathers hframe ⊢
  have hzero := changesOnly_answerGather x.slot x.to_ (zeros 64) v
  have hmark := changesOnly_markHalo x.slot (zeroGather x.slot x.to_ v)
  obtain ⟨tiles, heq'⟩ := answerGather_eq x.slot x.to_ (zeros 64) v
  refine ⟨?_, ?_, fun hn => by rw [(markHalo_marks hn).1], (hframe.comp (hzero.step hmark)).mono (by simp) |>.settle s⟩
  · rw [(markHalo_rest _ _).2.1, zeroGather, heq']
    exact hgathers
  · rwa [show (markHalo x.slot (zeroGather x.slot x.to_ v)).patrol = v.patrol from (hzero.step hmark) .patrol (by simp)]

end

end Sys2Proof.Machine
end

section
/-! The end of the heads and the exported map (O42; R313 to R316, R369). -/

namespace Sys2Proof.Machine

/-! ## Records of the exported map (R315, R316) -/

/-- Export work leaves the array's slots and its frame. -/
structure ExportWork (s t : State) : Prop where
  frame : ChangesOnly [.rink, .memory] s t
  slots : t.rink.slots = s.rink.slots
  array : t.rink.frame = s.rink.frame

theorem ExportWork.refl (s : State) : ExportWork s s := ⟨.refl _ s, rfl, rfl⟩

theorem ExportWork.trans {s t u : State} (h : ExportWork s t) (h' : ExportWork t u) : ExportWork s u :=
  ⟨h.frame.step h'.frame, h'.slots.trans h.slots, h'.array.trans h.array⟩

theorem changesOnly_putExport (off : Nat) (b : Bytes) (s : State) : ChangesOnly [.memory] s (putExport off b s) := by
  rw [changesOnly_iff]
  simp [Part.same, putExport]

theorem exportWork_putExport (off : Nat) (b : Bytes) (s : State) : ExportWork s (putExport off b s) :=
  ⟨(changesOnly_putExport off b s).mono (by simp), rfl, rfl⟩

theorem exportWork_modExport (e : Export → Export) (s : State) :
    ExportWork s (modRink (fun (r : Rink) => { r with export_ := e r.export_ }) s) :=
  ⟨(changesOnly_modRink _ s).mono (by simp), rfl, rfl⟩

theorem exportWork_writeRecord (f : TileFrame) (n : Nat) (tensor : List (List Nat)) (s : State) :
    ExportWork s (writeRecord f n tensor s) :=
  (exportWork_putExport _ _ s).trans (exportWork_modExport (fun e => { e with written := e.written ++ [n] }) _)

theorem exportWork_openExport (f : TileFrame) (s : State) : ExportWork s (openExport f s) := by
  unfold openExport
  split
  · exact .refl s
  · exact (exportWork_modExport (fun e => { e with writing := some f.frame, written := [] }) s).trans
      (exportWork_putExport _ _ _)

theorem exportWork_fillExport (f : TileFrame) (s : State) : ExportWork s (fillExport f s) := by
  have hfold : ∀ (l : List Nat) (u : State), ExportWork u (l.foldl (fun (u : State) n =>
      if u.rink.export_.written.contains n then u else writeRecord f n [] u) u) := by
    intro l
    induction l with
    | nil => exact fun u => .refl u
    | cons n l ih =>
      intro u
      refine ExportWork.trans ?_ (ih _)
      dsimp only
      split
      · exact .refl u
      · exact exportWork_writeRecord f n [] u
  exact ((exportWork_openExport f s).trans (hfold _ _)).trans (exportWork_putExport _ _ _)

theorem exportEnds {s : State} (ha : awake s = true) (hw : s.rink.export_.writing ≠ none)
    (hall : 48 ≤ s.rink.export_.written.length) (hwf : cellsWf s.memory.exportRegion = true) :
    Completes .exportComplete s fun t =>
      t.rink.export_.writing = none ∧ t.rink.export_.k = s.rink.export_.k + 1 ∧
      natOfBytes (cellsGet t.memory.exportRegion (exportBuffer s.rink.export_.k + 60) 4) =
        (2 * s.rink.export_.k + 2) % 2 ^ 32 ∧
      (∀ a, (a < exportBuffer s.rink.export_.k + 60 ∨ exportBuffer s.rink.export_.k + 64 ≤ a) →
        cellAt t.memory.exportRegion a = cellAt s.memory.exportRegion a) ∧ ChangesOnly [.rink, .memory] s t := by
  have hgo : (s.rink.export_.writing.isNone || decide (s.rink.export_.written.length < 48)) = false := by
    rw [decide_eq_false (Nat.not_lt.2 hall), Bool.or_false]
    simpa [Option.ne_none_iff_isSome] using hw
  have heq : execExportComplete s = answer s (modRink (fun (r : Rink) => { r with
      export_ := { r.export_ with k := s.rink.export_.k + 1, writing := none, written := [] } })
      (putExport (exportBuffer s.rink.export_.k + 60) (bytesOfNat 4 (2 * s.rink.export_.k + 2)) s)) := by
    unfold execExportComplete awakeAnswer
    rw [if_pos ha]
    exact congrArg (answer s) (if_neg (by rw [hgo]; exact Bool.false_ne_true))
  refine completes_of_answer ((exec_exportComplete s).trans heq) ?_
  rw [settle_rink, settle_memory]
  have hlen : (bytesOfNat 4 (2 * s.rink.export_.k + 2)).length = 4 := rfl
  refine ⟨rfl, rfl, ?_, fun a hout => ?_, (((changesOnly_putExport _ _ s).comp (changesOnly_modRink _ _)).mono (by simp)).settle s⟩
  · have hread := cellsGet_cellsPut hwf (exportBuffer s.rink.export_.k + 60) (bytesOfNat 4 (2 * s.rink.export_.k + 2))
    rw [hlen] at hread
    have hnumber := natOfBytes_bytesOfNat 4 (2 * s.rink.export_.k + 2)
    rw [show 256 ^ 4 = 2 ^ 32 from rfl] at hnumber
    exact (congrArg natOfBytes hread).trans hnumber
  · refine (cellAt_cellsPut a (bytesOfNat 4 (2 * s.rink.export_.k + 2)) _ (exportBuffer s.rink.export_.k + 60) hwf).trans ?_
    rw [hlen, if_neg (by omega)]

/-! ## The detections of a patch (R369, R370) -/

theorem takeDetections_length (s : State) (n z : Nat) (h : HeadsOutput) : (takeDetections s n z h).1.length ≤ 128 := by
  simp only [takeDetections, List.length_take]
  omega

theorem takeDetections_mem {s : State} {n z : Nat} {h : HeadsOutput} {d : Detection} (hd : d ∈ (takeDetections s n z h).1) :
    d.slot = n ∧ (Dy.ratio (fld (trackParams s d.cls) 104 8 : Nat) 256).le (f32 d.score) = true := by
  have hfound := (List.mem_sortBy _ _ _).1 (List.mem_of_mem_take hd)
  obtain ⟨c, -, hc⟩ := List.mem_filterMap.1 hfound
  dsimp only at hc
  split at hc
  case isTrue hkeep =>
    obtain rfl := Option.some.inj hc
    exact ⟨rfl, (Bool.and_eq_true_iff.1 hkeep).1⟩
  case isFalse => exact nomatch hc

/-! ## A slot's heads end (R313, R314) -/

section
variable {n : Nat} {heads : HeadsOutput} {f : TileFrame} {s : State}

/-- What a slot's heads found, and how many of its detections were dropped. -/
def headsFound (n : Nat) (heads : HeadsOutput) (f : TileFrame) (s : State) : List Detection × Nat :=
  if (vget s.rink.slots n).patchLost then ([], 0)
  else takeDetections s n (((setOf s f.frame).map (·.originZ)).getD 0) heads

/-- The checks of the slot's patch. -/
def headsChecked (n : Nat) (heads : HeadsOutput) (f : TileFrame) (s : State) : PatchCheck :=
  if (vget s.rink.slots n).patchLost || !crossChecks s then
    { tally := f.tally, contested := false, ambiguous := 0, detections := (headsFound n heads f s).1 }
  else checkPatch s heads.maps f.tally (headsFound n heads f s).1

/-- The frame with the slot's detections. -/
def frameHeaded (n : Nat) (heads : HeadsOutput) (f : TileFrame) (s : State) : TileFrame :=
  { f with
    tally := (headsChecked n heads f s).tally
    contests := if (headsChecked n heads f s).contested then f.contests ++ [n] else f.contests
    detections := f.detections ++ (headsChecked n heads f s).detections
    dropped := f.dropped + (headsFound n heads f s).2 }

/-- A slot whose heads have ended. -/
def slotHeaded (y : Slot) : Slot := { y with headsDone := true }

/-- The slot's detections have joined the frame's. -/
def headsTaken (n : Nat) (heads : HeadsOutput) (f : TileFrame) (s : State) : State :=
  modAlign (fun (a : Align) => { a with ambiguous := satAdd 32 a.ambiguous (headsChecked n heads f s).ambiguous })
    (modRink (fun (r : Rink) => { r with frame := some (frameHeaded n heads f s) }) (modSlot n slotHeaded s))

/-- The slot's record of the exported map is written where one is due. -/
def headsRecorded (n : Nat) (heads : HeadsOutput) (f : TileFrame) (s : State) : State :=
  if exportDue (headsTaken n heads f s) f.frame then
    writeRecord (frameHeaded n heads f s) n heads.tensor (openExport (frameHeaded n heads f s) (headsTaken n heads f s))
  else headsTaken n heads f s

theorem execHeadsEnd_takes (ha : awake s = true) (hf : s.rink.frame = some f) (hphase : f.phase = .bev) (hdeal : n ∈ f.deal)
    (hheads : (vget s.rink.slots n).headsDone = false) : execHeadsEnd n heads s = answer s
      (if f.deal.all (fun m => (vget (headsRecorded n heads f s).rink.slots m).headsDone ||
          (vget (headsRecorded n heads f s).rink.slots m).patchLost) then
        finishFrame (frameHeaded n heads f s) (headsRecorded n heads f s)
      else headsRecorded n heads f s) := by
  have hgo : (f.phase != .bev || !f.deal.contains n || (vget s.rink.slots n).headsDone) = false := by
    rw [hphase, List.contains_iff_mem.2 hdeal, hheads]
    rfl
  unfold execHeadsEnd awakeAnswer
  rw [if_pos ha]
  simp only [hf]
  exact congrArg (answer s) (if_neg (by rw [hgo]; exact Bool.false_ne_true))

/-- What has joined the frame, and what it left. -/
structure HeadsRecorded (n : Nat) (g : TileFrame) (s t : State) : Prop where
  frame : ChangesOnly [.rink, .align, .memory] s t
  array : t.rink.frame = some g
  slots : t.rink.slots = vmod s.rink.slots n slotHeaded

theorem headsRecorded_spec (n : Nat) (heads : HeadsOutput) (f : TileFrame) (s : State) :
    HeadsRecorded n (frameHeaded n heads f s) s (headsRecorded n heads f s) := by
  unfold headsRecorded
  have htaken : HeadsRecorded n (frameHeaded n heads f s) s (headsTaken n heads f s) :=
    ⟨(((changesOnly_modSlot n slotHeaded s).step (changesOnly_modRink _ _)).comp (changesOnly_modAlign _ _)).mono (by simp),
      rfl, rfl⟩
  generalize headsTaken n heads f s = v at htaken ⊢
  have hwork : ExportWork v (if exportDue v f.frame then
      writeRecord (frameHeaded n heads f s) n heads.tensor (openExport (frameHeaded n heads f s) v) else v) := by
    split
    · exact (exportWork_openExport _ v).trans (exportWork_writeRecord _ n heads.tensor _)
    · exact .refl v
  exact ⟨(htaken.frame.comp hwork.frame).mono (by simp), hwork.array.trans htaken.array, hwork.slots.trans htaken.slots⟩

/-- A detection without what the sources say of it. -/
def bareDetections (l : List Detection) : List Detection := l.map (fun (d : Detection) => { d with opinions := [] })

theorem bareDetections_withOpinions (maps : List OccMap) (sources : List Nat) (l : List Detection) :
    bareDetections (l.map (withOpinions s maps sources)) = bareDetections l := by
  unfold bareDetections
  rw [List.map_map]
  rfl

theorem frameHeaded_lost (hlost : (vget s.rink.slots n).patchLost = true) :
    (frameHeaded n heads f s).detections = f.detections := by
  simp [frameHeaded, headsChecked, headsFound, hlost]

theorem frameHeaded_unchecked (hlost : (vget s.rink.slots n).patchLost = false) (hchecks : crossChecks s = false) :
    (frameHeaded n heads f s).detections =
      f.detections ++ (takeDetections s n (((setOf s f.frame).map (·.originZ)).getD 0) heads).1 := by
  simp [frameHeaded, headsChecked, headsFound, hlost, hchecks]

theorem frameHeaded_bare (hlost : (vget s.rink.slots n).patchLost = false) :
    bareDetections (frameHeaded n heads f s).detections =
      bareDetections (f.detections ++ (takeDetections s n (((setOf s f.frame).map (·.originZ)).getD 0) heads).1) := by
  by_cases hchecks : crossChecks s = true
  · have hchecked : (headsChecked n heads f s).detections = (headsFound n heads f s).1.map (withOpinions s heads.maps
        ((List.range 16).filter (fun i => heads.maps.any (fun m => srcIdx m.source == some i)))) := by
      rw [headsChecked, hlost, hchecks]
      rfl
    have hbare := bareDetections_withOpinions (s := s) heads.maps
      ((List.range 16).filter (fun i => heads.maps.any (fun m => srcIdx m.source == some i))) (headsFound n heads f s).1
    have hfound : headsFound n heads f s = takeDetections s n (((setOf s f.frame).map (·.originZ)).getD 0) heads := by
      rw [headsFound, hlost]
      rfl
    show bareDetections (f.detections ++ (headsChecked n heads f s).detections) = _
    rw [← hfound, hchecked]
    unfold bareDetections at hbare ⊢
    rw [List.map_append, List.map_append, hbare]
  · rw [frameHeaded_unchecked hlost (by simpa using hchecks)]

end

/-! ## The frame leaves the array (R314, R372) -/

section
variable {g : TileFrame} {s : State}

/-- Every slot's contested mark is judged, where the plan checks. -/
def contestsMarked (g : TileFrame) (s : State) : State :=
  if crossChecks s then g.deal.foldl (fun (u : State) n => contestPatch g (g.contests.contains n) n u) s else s

/-- The frame's exported map is filled, where one is due. -/
def exportFilled (g : TileFrame) (s : State) : State := if exportDue s g.frame then fillExport g s else s

/-- What a frame hands to Glide. -/
def setHanded (g : TileFrame) (checked : Bool) (s : State) : DetectionSet :=
  { frame := g.frame, instant := g.instant,
    detections := g.detections.sortBy (fun a b => decide (a.slot ≤ b.slot)), dropped := g.dropped,
    patches := (List.range 48).map (patchEntry s), arrived := false, arrivedAt := 0, centreX := s.rink.centreX,
    centreY := s.rink.centreY, reduced := s.rink.reduced, recentred := g.recentred, checked := checked, tally := g.tally }

/-- The frame's detections are on their way to Glide. -/
def handedToGlide (d : DetectionSet) (s : State) : State :=
  modGlide (fun (x : Glide) => { x with arriving := x.arriving ++ [d] }) s

/-- The array is free again. -/
def arrayFreed (us : Nat) (s : State) : State :=
  modCounters (fun (c : RinkCounters) => { c with lastTileTimeUs := min us (2 ^ 32 - 1) })
    (modRink (fun (r : Rink) => { r with frame := none, gathers := [] }) s)

theorem finishFrame_eq (g : TileFrame) (s : State) : finishFrame g s =
    arrayFreed ((now s - g.imageStart) / usUnits) (settleDebt (kickGate 6 g.frame
      (handedToGlide (setHanded g (crossChecks s) (exportFilled g (contestsMarked g s)))
        (exportFilled g (contestsMarked g s))))) := rfl

/-- The judgement of contested marks leaves what is on its way to Glide. -/
structure ContestWork (s t : State) : Prop where
  frame : ChangesOnly [.align, .glide, .patrol] s t
  arriving : t.glide.arriving = s.glide.arriving

theorem ContestWork.trans {s t u : State} (h : ContestWork s t) (h' : ContestWork t u) : ContestWork s u :=
  ⟨h.frame.step h'.frame, h'.arriving.trans h.arriving⟩

theorem contestWork_contestPatch (g : TileFrame) (contested : Bool) (n : Nat) (s : State) :
    ContestWork s (contestPatch g contested n s) := by
  unfold contestPatch
  extract_lets was s1
  have hmark : ContestWork s s1 := ⟨(changesOnly_modAlign _ s).mono (by simp), rfl⟩
  split
  · refine hmark.trans ⟨((changesOnly_modGlide _ s1).comp (changesOnly_report (alignFault 27) 0 4 .ce 0 _)).mono (by simp), rfl⟩
  · exact hmark

theorem contestWork_contestsMarked (g : TileFrame) (s : State) : ContestWork s (contestsMarked g s) := by
  have hfold : ∀ (l : List Nat) (u : State),
      ContestWork u (l.foldl (fun (u : State) n => contestPatch g (g.contests.contains n) n u) u) := by
    intro l
    induction l with
    | nil => exact fun u => ⟨.refl _ u, rfl⟩
    | cons n l ih => exact fun u => (contestWork_contestPatch g _ n u).trans (ih _)
  unfold contestsMarked
  split
  · exact hfold _ s
  · exact ⟨.refl _ s, rfl⟩

theorem exportWork_exportFilled (g : TileFrame) (s : State) : ExportWork s (exportFilled g s) := by
  unfold exportFilled
  split
  · exact exportWork_fillExport g s
  · exact .refl s

theorem changesOnly_settleDebt (s : State) : ChangesOnly [.safety, .patrol] s (settleDebt s) := by
  unfold settleDebt
  split
  · exact .refl _ s
  · exact changesOnly_ite (fun _ => .refl _ s) fun _ =>
      ((changesOnly_modSafety _ s).comp (changesOnly_report _ _ _ _ _ _)).mono (by simp)

/-- A kick within its window, or one that no window awaits, is the Gate's alone. -/
theorem changesOnly_kickInWindow {i key : Nat} (h : ∀ w, (gate s i).armed.find? (fun w => w.key == key) = some w →
    w.opens ≤ gateClock s i ∧ gateClock s i ≤ w.closes) : ChangesOnly [.safety, .patrol] s (kickGate i key s) := by
  rw [kickGate_eq]
  split
  · exact .refl _ s
  case h_2 w hw => exact changesOnly_ite (fun _ => changesOnly_kickTaken i key s) fun hno => absurd (h w hw) hno

theorem finishFrame_spec (hgate : ∀ w, (gate s 6).armed.find? (fun w => w.key == g.frame) = some w →
      w.opens ≤ gateClock s 6 ∧ gateClock s 6 ≤ w.closes) :
    (finishFrame g s).rink.frame = none ∧ (finishFrame g s).rink.gathers = [] ∧
    (finishFrame g s).rink.counters.lastTileTimeUs = min ((now s - g.imageStart) / usUnits) (2 ^ 32 - 1) ∧
    (∃ a, (finishFrame g s).glide.arriving = s.glide.arriving ++ [a] ∧ a.frame = g.frame ∧ a.instant = g.instant ∧
      a.patches.length = 48 ∧ a.detections.Pairwise (fun p q => p.slot ≤ q.slot)) ∧
    ChangesOnly [.rink, .align, .glide, .patrol, .memory, .safety] s (finishFrame g s) := by
  rw [finishFrame_eq]
  have hcontest := contestWork_contestsMarked g s
  have hexport := exportWork_exportFilled g (contestsMarked g s)
  generalize hv : exportFilled g (contestsMarked g s) = v at hexport ⊢
  have harriving : v.glide.arriving = s.glide.arriving := by
    rw [show v.glide = (contestsMarked g s).glide from hexport.frame .glide (by simp)]
    exact hcontest.arriving
  have hvframe := hcontest.frame.comp hexport.frame
  have hsorted : (g.detections.sortBy (fun a b => decide (a.slot ≤ b.slot))).Pairwise (fun p q => p.slot ≤ q.slot) := by
    refine (List.sortBy_pairwise (fun (a b : Detection) => decide (a.slot ≤ b.slot)) (fun a b => ?_) (fun a b c hab hbc => ?_)
      g.detections).imp fun h => of_decide_eq_true h
    · rcases Nat.le_total a.slot b.slot with h | h
      · exact .inl (decide_eq_true h)
      · exact .inr (decide_eq_true h)
    · exact decide_eq_true ((of_decide_eq_true hab).trans (of_decide_eq_true hbc))
  have hset : (setHanded g (crossChecks s) v).frame = g.frame ∧ (setHanded g (crossChecks s) v).instant = g.instant ∧
      (setHanded g (crossChecks s) v).patches.length = 48 ∧
      (setHanded g (crossChecks s) v).detections.Pairwise (fun p q => p.slot ≤ q.slot) :=
    ⟨rfl, rfl, by simp only [setHanded, List.length_map, List.length_range], hsorted⟩
  generalize setHanded g (crossChecks s) v = d at hset ⊢
  have hhanded : ChangesOnly [.align, .glide, .patrol, .rink, .memory] s (handedToGlide d v) :=
    (hvframe.comp (changesOnly_modGlide _ v)).mono (by simp)
  have harrived : (handedToGlide d v).glide.arriving = s.glide.arriving ++ [d] := congrArg (· ++ [d]) harriving
  generalize handedToGlide d v = w at hhanded harrived ⊢
  have hkick : ChangesOnly [.safety, .patrol] w (kickGate 6 g.frame w) := changesOnly_kickInWindow (by
    rw [show gateClock w 6 = gateClock s 6 from hhanded.now_eq (by simp), gate, hhanded .safety (by simp)]
    exact hgate)
  have hdebt := hkick.step (changesOnly_settleDebt (kickGate 6 g.frame w))
  generalize settleDebt (kickGate 6 g.frame w) = x at hdebt ⊢
  have hglide : x.glide = w.glide := hdebt .glide (by simp)
  refine ⟨rfl, rfl, rfl, ⟨d, ?_, hset⟩, ?_⟩
  · exact (congrArg Glide.arriving hglide).trans harrived
  · exact ((hhanded.comp hdebt).comp ((changesOnly_modRink _ x).step (changesOnly_modCounters _ _))).mono (by simp)

theorem headsEnd_ends {n : Nat} {heads : HeadsOutput} {f : TileFrame} (ha : awake s = true) (hn : n < 48)
    (hf : s.rink.frame = some f) (hphase : f.phase = .bev) (hdeal : n ∈ f.deal)
    (hheads : (vget s.rink.slots n).headsDone = false)
    (hgate : ∀ w, (gate s 6).armed.find? (fun w => w.key == f.frame) = some w →
      w.opens ≤ gateClock s 6 ∧ gateClock s 6 ≤ w.closes) :
    let x := vget s.rink.slots n
    let found := (takeDetections s n (((setOf s f.frame).map (·.originZ)).getD 0) heads).1
    Completes (.headsEnd n heads) s fun t =>
      ((∃ m ∈ f.deal, m ≠ n ∧ m < 48 ∧ (vget s.rink.slots m).headsDone = false ∧ (vget s.rink.slots m).patchLost = false) →
        ∃ g, t.rink.frame = some g ∧ g.frame = f.frame ∧ (vget t.rink.slots n).headsDone = true ∧
          t.glide.arriving = s.glide.arriving ∧ (x.patchLost = true → g.detections = f.detections) ∧
          (x.patchLost = false → bareDetections g.detections = bareDetections (f.detections ++ found)) ∧
          (x.patchLost = false → crossChecks s = false → g.detections = f.detections ++ found)) ∧
      ((∀ m ∈ f.deal, m = n ∨ (vget s.rink.slots m).headsDone = true ∨ (vget s.rink.slots m).patchLost = true) →
        t.rink.frame = none ∧ t.rink.gathers = [] ∧
        t.rink.counters.lastTileTimeUs = min ((now s - f.imageStart) / usUnits) (2 ^ 32 - 1) ∧
        ∃ a, t.glide.arriving = s.glide.arriving ++ [a] ∧ a.frame = f.frame ∧ a.instant = f.instant ∧
          a.patches.length = 48 ∧ a.detections.Pairwise (fun p q => p.slot ≤ q.slot)) ∧
      ChangesOnly [.rink, .align, .glide, .patrol, .memory, .safety, .ingest] s t := by
  intro x found
  refine completes_of_answer ((exec_headsEnd n heads s).trans (execHeadsEnd_takes ha hf hphase hdeal hheads)) ?_
  have hspec := headsRecorded_spec n heads f s
  generalize headsRecorded n heads f s = v at hspec ⊢
  have hown : (vget v.rink.slots n).headsDone = true := by
    rw [hspec.slots, vget_vmod_same _ _ hn]
    rfl
  have hothers : ∀ m, m ≠ n → vget v.rink.slots m = vget s.rink.slots m := fun m hm => by
    rw [hspec.slots, vget_vmod_ne _ _ hm]
  have hglide : v.glide = s.glide := hspec.frame .glide (by simp)
  rw [settle_rink, settle_glide]
  by_cases hall : f.deal.all (fun m => (vget v.rink.slots m).headsDone || (vget v.rink.slots m).patchLost) = true
  · rw [if_pos hall]
    obtain ⟨hfree, hgathers, htime, ⟨a, harriving, hset⟩, hframe⟩ := finishFrame_spec (g := frameHeaded n heads f s) (s := v) (by
      rw [show gateClock v 6 = gateClock s 6 from hspec.frame.now_eq (by simp), gate, hspec.frame .safety (by simp)]
      exact hgate)
    rw [hspec.frame.now_eq (by simp)] at htime
    rw [hglide] at harriving
    refine ⟨fun hopen => ?_, fun _ => ⟨hfree, hgathers, htime, a, harriving, hset⟩,
      ((hspec.frame.comp hframe).mono (by simp)).settle s⟩
    obtain ⟨m, hm, hne, -, hnot, hkept⟩ := hopen
    have hdone := List.all_eq_true.1 hall m hm
    rw [hothers m hne, hnot, hkept] at hdone
    exact absurd hdone Bool.false_ne_true
  · rw [if_neg hall]
    refine ⟨fun _ => ⟨frameHeaded n heads f s, hspec.array, rfl, hown, congrArg Glide.arriving hglide, frameHeaded_lost,
      frameHeaded_bare, frameHeaded_unchecked⟩, fun hdone => absurd (List.all_eq_true.2 fun m hm => ?_) hall,
      (hspec.frame.mono (by simp)).settle s⟩
    by_cases hmn : m = n
    · rw [hmn, hown]
      rfl
    · rcases hdone m hm with h | h | h
      · exact absurd h hmn
      · rw [hothers m hmn, h]
        rfl
      · rw [hothers m hmn, h, Bool.or_true]

end

/-- Settles O42: the halo ring, the gathers' answers, the frame that leaves the array, and the last record of an exported map. -/
theorem bevPhaseServesAndEnds : Obligations.BevPhaseServesAndEnds := by
  unfold Obligations.BevPhaseServesAndEnds
  refine ⟨⟨fun n m strip layer f s ha hn hf hlayer => ?_, fun tile n g layer f s ha ht hf hphase hwork hlayer =>
      gatherIsAnswered ha ht hf hphase hwork hlayer, fun tile x s ha hx => gatherTimesOut ha hx⟩,
    fun n heads f s ha hn hf hphase hdeal hheads hgate => headsEnd_ends ha hn hf hphase hdeal hheads hgate,
    fun n z h s => ⟨takeDetections_length s n z h, fun d hd => takeDetections_mem hd⟩,
    fun s ha hw hall hwf => exportEnds ha hw hall hwf⟩
  intro h x hphase hsv hheads hh hd hm hcells hopen
  exact haloStripComes ha hn hf hlayer hphase hsv hheads hh hd hm hcells hopen

end Sys2Proof.Machine
end

section
/-! Plans: the fit of a variant, and the plan commands (O43; R328 to R336, R342). -/

namespace Sys2Proof.Machine

/-! ## Spill entries in their order (R330) -/

/-- The residency that entries leave. -/
def residencyLeft (r : Nat) (es : List Bytes) : Nat := es.foldl (fun a e => a - fld e 48 16) r

/-- The first entries of a list have been applied to residency, time and traffic, and no more were needed or left. -/
structure SpillApplied (es : List Bytes) (r t m n : Nat) (q : Nat × Nat × Nat × Nat) : Prop where
  least : n ≤ q.2.2.2
  most : q.2.2.2 ≤ n + es.length
  ends : q.1 ≤ 4096 ∨ q.2.2.2 = n + es.length
  residency : q.1 = residencyLeft r (es.take (q.2.2.2 - n))
  time : q.2.1 = t + ((es.take (q.2.2.2 - n)).map (fun e => fld e 64 32)).sum
  traffic : q.2.2.1 = m + ((es.take (q.2.2.2 - n)).map (fun e => fld e 96 32)).sum
  needed : ∀ j, j < q.2.2.2 - n → 4096 < residencyLeft r (es.take j)

theorem applySpill_applied : ∀ (es : List Bytes) (r t m n : Nat), SpillApplied es r t m n (applySpill es r t m n)
  | [], r, t, m, n => by
    unfold applySpill
    exact ⟨le_rfl, le_rfl, .inr rfl, by simp [residencyLeft], by simp, by simp, fun j hj => absurd hj (by simp)⟩
  | e :: es, r, t, m, n => by
    rw [applySpill]
    split
    case isTrue hfits =>
      exact ⟨le_rfl, Nat.le_add_right _ _, .inl hfits, by simp [residencyLeft], by simp, by simp, fun j hj => absurd hj (by simp)⟩
    case isFalse hmore =>
      have h := applySpill_applied es (r - fld e 48 16) (t + fld e 64 32) (m + fld e 96 32) (n + 1)
      generalize applySpill es (r - fld e 48 16) (t + fld e 64 32) (m + fld e 96 32) (n + 1) = q at h ⊢
      obtain ⟨hleast, hmost, hends, hres, htime, htraffic, hneeded⟩ := h
      have htake : (e :: es).take (q.2.2.2 - n) = e :: es.take (q.2.2.2 - (n + 1)) := by
        rw [show q.2.2.2 - n = (q.2.2.2 - (n + 1)) + 1 by omega]
        rfl
      refine ⟨by omega, by rw [List.length_cons]; omega, hends.imp id fun h => by rw [List.length_cons]; omega, ?_, ?_, ?_, ?_⟩
      · rw [htake, hres]
        rfl
      · rw [htake, htime, List.map_cons, List.sum_cons, Nat.add_assoc]
      · rw [htake, htraffic, List.map_cons, List.sum_cons, Nat.add_assoc]
      · intro j hj
        cases j with
        | zero => exact Nat.lt_of_not_le hmore
        | succ j => exact hneeded j (by omega)

/-! ## The largest rate that holds (R331) -/

/-- A search from a number down finds the largest one that holds. -/
theorem largest_succ {p : Nat → Prop} [DecidablePred p] {n r : Nat} {o : Option Nat}
    (ih : o = some r ↔ 1 ≤ r ∧ r ≤ n ∧ p r ∧ ∀ q, r < q → q ≤ n → ¬ p q) :
    (if p (n + 1) then some (n + 1) else o) = some r ↔ 1 ≤ r ∧ r ≤ n + 1 ∧ p r ∧ ∀ q, r < q → q ≤ n + 1 → ¬ p q := by
  split
  case isTrue hp =>
    constructor
    · intro h
      obtain rfl := Option.some.inj h
      exact ⟨Nat.le_add_left 1 n, le_rfl, hp, fun q hq hqn => absurd hq (by omega)⟩
    · rintro ⟨-, hr, -, hnone⟩
      by_cases hrn : r = n + 1
      · rw [hrn]
      · exact absurd hp (hnone (n + 1) (by omega) le_rfl)
  case isFalse hp =>
    rw [ih]
    constructor
    · rintro ⟨h1, hr, hpr, hnone⟩
      refine ⟨h1, by omega, hpr, fun q hq hqn => ?_⟩
      by_cases hqn' : q = n + 1
      · rwa [hqn']
      · exact hnone q hq (by omega)
    · rintro ⟨h1, hr, hpr, hnone⟩
      have hne : r ≠ n + 1 := fun h => hp (h ▸ hpr)
      exact ⟨h1, by omega, hpr, fun q hq hqn => hnone q hq (by omega)⟩

theorem driveRate_iff (t : Nat) (sliced : Bool) (r : Nat) : ∀ n, driveRate t sliced n = some r ↔
    1 ≤ r ∧ r ≤ n ∧ rateHolds r t sliced = true ∧ ∀ q, r < q → q ≤ n → ¬ rateHolds q t sliced = true
  | 0 => ⟨nofun, fun h => absurd h.1 (by omega)⟩
  | n + 1 => largest_succ (p := fun q => rateHolds q t sliced = true) (driveRate_iff t sliced r n)

/-- A Sentry rate's spacing less the tick period reaches a tile time. -/
def SentryHolds (tick t : Nat) (sliced : Bool) (r : Nat) : Prop :=
  if sliced = true then 100 * t ≤ 96 * ((1000 / r - tick) * 1000) else t ≤ (1000 / r - tick) * 1000

/-- The check of `SentryHolds` that the search makes. -/
def sentryCheck (tick t : Nat) (sliced : Bool) (r : Nat) : Bool :=
  if sliced then decide (100 * t ≤ 96 * ((1000 / r - tick) * 1000)) else decide (t ≤ (1000 / r - tick) * 1000)

theorem sentryCheck_iff (tick t : Nat) (sliced : Bool) (r : Nat) :
    sentryCheck tick t sliced r = true ↔ SentryHolds tick t sliced r := by
  cases sliced <;> simp [sentryCheck, SentryHolds]

theorem sentryRate_iff (tick t : Nat) (sliced : Bool) (r : Nat) : ∀ n, sentryRate tick t sliced n = some r ↔
    1 ≤ r ∧ r ≤ n ∧ sentryCheck tick t sliced r = true ∧ ∀ q, r < q → q ≤ n → ¬ sentryCheck tick t sliced q = true
  | 0 => ⟨nofun, fun h => absurd h.1 (by omega)⟩
  | n + 1 => largest_succ (p := fun q => sentryCheck tick t sliced q = true) (sentryRate_iff tick t sliced r n)

/-! ## The fit of a variant (R330, R332) -/

/-- What a variant that fits keeps to. -/
structure VariantFits (s : State) (img b : Bytes) (kind : Nat) (f : VariantFit) : Prop where
  accumulators : fld b 112 16 ≤ 128
  resident : fld b 96 16 ≤ 4608
  sort : f.kind = kind
  record : f.record = b
  time : f.tileTimeUs = fld b 128 32 + (((spillEntries img b).take f.spilled).map (fun e => fld e 64 32)).sum
  drive : kind = 0 → f.tileTimeUs ≤ fld b 160 32
  other : kind ≠ 0 → f.tileTimeUs * 100 ≤ fld b 160 32 * 96
  rate : variantRate s kind f.tileTimeUs false = some f.rate
  traffic : (fld b 192 32 + (((spillEntries img b).take f.spilled).map (fun e => fld e 96 32)).sum) * 1024 * f.rate ≤
    291840000000

theorem fitVariant_fits {s : State} {img b : Bytes} {kind idx : Nat} {f : VariantFit}
    (h : fitVariant s img (kind, b, idx) = some f) : VariantFits s img b kind f := by
  have hspill := applySpill_applied (spillEntries img b) (fld b 96 16) (fld b 128 32) (fld b 192 32) 0
  unfold fitVariant at h
  dsimp only at h
  generalize applySpill (spillEntries img b) (fld b 96 16) (fld b 128 32) (fld b 192 32) 0 = q at hspill h
  cases hrate : variantRate s kind q.2.1 false with
  | none => rw [hrate] at h; exact nomatch h
  | some rate =>
    rw [hrate] at h
    dsimp only at h
    split_ifs at h with hsize hdrive hother hsliced htraffic
    obtain rfl := Option.some.inj h
    obtain ⟨hacc, hres, -⟩ := not_or.1 hsize |>.imp id not_or.1
    refine ⟨Nat.le_of_not_lt hacc, Nat.le_of_not_lt hres, rfl, rfl, hspill.time, fun hk => ?_, fun hk => ?_, hrate, ?_⟩
    · exact Nat.le_of_not_lt fun hlt => hdrive ⟨hk, hlt⟩
    · exact Nat.le_of_not_lt fun hlt => hother ⟨hk, hlt⟩
    · rw [← show q.2.2.1 = fld b 192 32 + (((spillEntries img b).take q.2.2.2).map (fun e => fld e 96 32)).sum from hspill.traffic]
      exact Nat.le_of_not_lt htraffic

/-! ## Plan slots -/

theorem planSlot_modPlanSlot {i : Nat} (hi : i < 4) (f : PlanSlot → PlanSlot) (s : State) :
    planSlot (modPlanSlot i f s) i = f (planSlot s i) := vget_vmod_same _ _ hi

theorem planSlot_modPlanSlot_ne {i j : Nat} (h : j ≠ i) (f : PlanSlot → PlanSlot) (s : State) :
    planSlot (modPlanSlot i f s) j = planSlot s j := vget_vmod_ne _ _ h

theorem changesOnly_modPlanSlot (i : Nat) (f : PlanSlot → PlanSlot) (s : State) :
    ChangesOnly [.plans] s (modPlanSlot i f s) := changesOnly_modPlans _ s

/-- A slot whose load has ended without success is empty again. -/
def loadDropped (x : PlanSlot) : PlanSlot := if x.loading then { image := [], loading := false, fits := [] } else x

theorem planSlot_dropLoading (s : State) {i : Nat} (hi : i < 4) : planSlot (dropLoading s) i = loadDropped (planSlot s i) :=
  vget_foldl_vmod loadDropped hi (List.range 4) s.plans.slots List.nodup_range (List.mem_range.2 hi)

theorem loadingSlot_spec {s : State} {i : Nat} (h : loadingSlot s = some i) : i < 4 ∧ (planSlot s i).loading = true :=
  ⟨List.mem_range.1 (List.mem_of_find?_eq_some h), by simpa using List.find?_some h⟩

/-! ## LOAD_PLAN (R328, R329, R332, R333) -/

section
variable {k : CmdKey} {c : Cmd} {i : Nat} {s : State}

/-- The image that a load takes from staging. -/
def imageStaged (c : Cmd) (s : State) : Bytes := cellsGet s.memory.staging (fld c.params 0 32) (fld c.params 32 32)

/-- What a load does, by the outcome of its checks. -/
def loadWork (c : Cmd) (s : State) : State :=
  match loadingSlot s with
  | none => conclude c stAborted 0 [] s
  | some i =>
    match verifyImage s (imageStaged c s) (fld c.params 32 32) with
    | some f => conclude c stVerifyFailed (f.1 * 256 + f.2) [] (dropLoading s)
    | none =>
      match fitImage s (imageStaged c s) with
      | none => conclude c stResource 0x0008 [] (dropLoading s)
      | some fits =>
        conclude c stDone 0 (slotEntry (modPlanSlot i (fun _ => { image := imageStaged c s, loading := false, fits := fits }) s) i)
          (modPlanSlot i (fun _ => { image := imageStaged c s, loading := false, fits := fits }) s)

theorem exec_loadWork (k : CmdKey) (s : State) : exec (.loadPlan k) s = runCommand k 0x0800 loadWork s := rfl

/-- A load's end: its slot, the other slots that no load marks, and the plans in use. -/
structure LoadEnded (i : Nat) (x : PlanSlot) (s t : State) : Prop where
  slot : planSlot t i = x
  others : ∀ j, j < 4 → j ≠ i → (planSlot s j).loading = false → planSlot t j = planSlot s j
  drive : t.plans.driveSlot = s.plans.driveSlot
  sentry : t.plans.sentrySlot = s.plans.sentrySlot

theorem LoadEnded.of_plans {x : PlanSlot} {u t : State} (h : LoadEnded i x s u) (ht : t.plans = u.plans) : LoadEnded i x s t := by
  have hslot : ∀ j, planSlot t j = planSlot u j := fun j => congrArg (fun p : Plans => vget p.slots j) ht
  exact ⟨(hslot i).trans h.slot, fun j hj hne hl => (hslot j).trans (h.others j hj hne hl),
    (congrArg Plans.driveSlot ht).trans h.drive, (congrArg Plans.sentrySlot ht).trans h.sentry⟩

theorem loadEnded_dropLoading (hi : loadingSlot s = some i) :
    LoadEnded i { image := [], loading := false, fits := [] } s (dropLoading s) := by
  obtain ⟨hlt, hloading⟩ := loadingSlot_spec hi
  refine ⟨?_, fun j hj _ hl => ?_, rfl, rfl⟩
  · rw [planSlot_dropLoading s hlt, loadDropped, if_pos hloading]
  · rw [planSlot_dropLoading s hj, loadDropped, hl, if_neg Bool.false_ne_true]

theorem loadEnded_modPlanSlot (hi : loadingSlot s = some i) (x : PlanSlot) :
    LoadEnded i x s (modPlanSlot i (fun _ => x) s) :=
  ⟨planSlot_modPlanSlot (loadingSlot_spec hi).1 _ s, fun _ _ hne _ => planSlot_modPlanSlot_ne hne _ s, rfl, rfl⟩

theorem slotEntry_congr {t : State} (h : t.plans = s.plans) (i : Nat) : slotEntry t i = slotEntry s i := by
  unfold slotEntry slotUse planSlot
  rw [h]

theorem loadPlan_ends (hr : Ready k 0x0800 s c) (hi : loadingSlot s = some i) :
    let img := imageStaged c s
    let len := fld c.params 32 32
    Completes (.loadPlan k) s fun t =>
       (∀ f, verifyImage s img len = some f → Concluded c stVerifyFailed (f.1 * 256 + f.2) [] s t ∧
         slotEmpty (planSlot t i) = true) ∧
       (verifyImage s img len = none → fitImage s img = none → Concluded c stResource 0x0008 [] s t ∧
         slotEmpty (planSlot t i) = true) ∧
       (∀ l, verifyImage s img len = none → fitImage s img = some l → Concluded c stDone 0 (slotEntry t i) s t ∧
         planSlot t i = { image := img, loading := false, fits := l }) ∧
       (∀ j, j < 4 → j ≠ i → (planSlot s j).loading = false → planSlot t j = planSlot s j) ∧
       t.plans.driveSlot = s.plans.driveSlot ∧ t.plans.sentrySlot = s.plans.sentrySlot ∧ ChangesOnly [.flight, .plans] s t := by
  intro img len
  have hdrop : ChangesOnly [.plans] s (dropLoading s) := changesOnly_modPlans _ s
  have hended := loadEnded_dropLoading hi
  cases hverify : verifyImage s img len with
  | some f =>
    have hwork : loadWork c s = conclude c stVerifyFailed (f.1 * 256 + f.2) [] (dropLoading s) := by
      simp only [loadWork, hi, show verifyImage s (imageStaged c s) (fld c.params 32 32) = some f from hverify]
    refine completes_concluded (m := [.flight, .plans]) (exec_loadWork k s) hr hwork hdrop (by simp) (by simp) fun t hc hf ht => ?_
    have hend := hended.of_plans (ht .plans (by simp))
    refine ⟨fun g hg => ?_, nofun, nofun, hend.others, hend.drive, hend.sentry, hf⟩
    obtain rfl := Option.some.inj hg
    exact ⟨hc, by rw [hend.slot]; rfl⟩
  | none =>
    have hpassed : verifyImage s (imageStaged c s) (fld c.params 32 32) = none := hverify
    cases hfit : fitImage s img with
    | none =>
      have hwork : loadWork c s = conclude c stResource 0x0008 [] (dropLoading s) := by
        simp only [loadWork, hi, hpassed, show fitImage s (imageStaged c s) = none from hfit]
      refine completes_concluded (m := [.flight, .plans]) (exec_loadWork k s) hr hwork hdrop (by simp) (by simp) fun t hc hf ht => ?_
      have hend := hended.of_plans (ht .plans (by simp))
      exact ⟨nofun, fun _ _ => ⟨hc, by rw [hend.slot]; rfl⟩, nofun, hend.others, hend.drive, hend.sentry, hf⟩
    | some fits =>
      have hwork : loadWork c s = conclude c stDone 0
          (slotEntry (modPlanSlot i (fun _ => { image := img, loading := false, fits := fits }) s) i)
          (modPlanSlot i (fun _ => { image := img, loading := false, fits := fits }) s) := by
        simp only [loadWork, hi, hpassed, show fitImage s (imageStaged c s) = some fits from hfit]
        rfl
      refine completes_concluded (m := [.flight, .plans]) (exec_loadWork k s) hr hwork (changesOnly_modPlanSlot i _ s)
        (by simp) (by simp) fun t hc hf ht => ?_
      have hend := (loadEnded_modPlanSlot hi { image := img, loading := false, fits := fits }).of_plans (ht .plans (by simp))
      refine ⟨nofun, fun _ => nofun, fun l _ hl => ?_, hend.others, hend.drive, hend.sentry, hf⟩
      obtain rfl := Option.some.inj hl
      rw [slotEntry_congr (s := modPlanSlot i (fun _ => { image := img, loading := false, fits := fits }) s)
        (t := t) (ht .plans (by simp))]
      exact ⟨hc, hend.slot⟩

/-! ## ACTIVATE_PLAN and UNLOAD_PLAN (R334 to R336, R342) -/

/-- The images of the slots stand. -/
def ImagesKept (s t : State) : Prop := ∀ j, j < 4 → (planSlot t j).image = (planSlot s j).image

theorem refreshFits_spec (i posture : Nat) (s : State) : ImagesKept s (refreshFits i posture s) ∧
    (refreshFits i posture s).plans.driveSlot = s.plans.driveSlot ∧
    (refreshFits i posture s).plans.sentrySlot = s.plans.sentrySlot ∧ ChangesOnly [.plans] s (refreshFits i posture s) := by
  unfold refreshFits
  split
  case h_1 l hl =>
    refine ⟨fun j _ => ?_, rfl, rfl, changesOnly_modPlanSlot i _ s⟩
    rcases vget_vmod_cases (i := i) (j := j) s.plans.slots (fun p => { p with
      fits := p.fits.filter (fun f => !l.any (fun g => g.kind == f.kind)) ++ l }) with h | h
    · exact congrArg PlanSlot.image h
    · exact (congrArg PlanSlot.image h :)
  case h_2 => exact ⟨fun _ _ => rfl, rfl, rfl, .refl _ s⟩

theorem activate_spec (i posture : Nat) (s : State) : ImagesKept s (activate i posture s) ∧
    (posture = 0 → (activate i posture s).plans.driveSlot = some i ∧
      (activate i posture s).plans.sentrySlot = s.plans.sentrySlot) ∧
    (posture ≠ 0 → (activate i posture s).plans.sentrySlot = some i ∧
      (activate i posture s).plans.driveSlot = s.plans.driveSlot) ∧
    ChangesOnly [.plans, .settings] s (activate i posture s) := by
  unfold activate
  extract_lets s1 b
  have hframe : ChangesOnly [.plans, .settings] s s1 := (changesOnly_modPlans _ s).mono (by simp)
  have hspec : ImagesKept s s1 ∧ (posture = 0 → s1.plans.driveSlot = some i ∧ s1.plans.sentrySlot = s.plans.sentrySlot) ∧
      (posture ≠ 0 → s1.plans.sentrySlot = some i ∧ s1.plans.driveSlot = s.plans.driveSlot) := by
    by_cases hp : posture = 0
    · have hplans : s1.plans = { s.plans with driveSlot := some i } := if_pos hp
      exact ⟨fun j _ => by rw [planSlot, hplans]; rfl, fun _ => by rw [hplans]; exact ⟨rfl, rfl⟩, fun h => absurd hp h⟩
    · have hplans : s1.plans = { s.plans with sentrySlot := some i } := if_neg hp
      exact ⟨fun j _ => by rw [planSlot, hplans]; rfl, fun h => absurd h hp, fun _ => by rw [hplans]; exact ⟨rfl, rfl⟩⟩
  split
  · exact ⟨hspec.1, hspec.2.1, hspec.2.2, hframe.step ((changesOnly_putSetting _ _ _ s1).mono (by simp))⟩
  · exact ⟨hspec.1, hspec.2.1, hspec.2.2, hframe⟩

/-- A plan swap that waits for a frame boundary. -/
def swapWaits (w : PendingSwap) (s : State) : State := modPlans (fun (p : Plans) => { p with swap := some w }) s

/-- What ACTIVATE_PLAN does. -/
def activateWork (k : CmdKey) (c : Cmd) (s : State) : State :=
  if postureRuns s (fld c.params 8 2) then
    if s.plans.swap.isSome then s
    else swapWaits { key := k, slot := fld c.params 0 8, posture := fld c.params 8 2,
                     notBefore := startInstant c s + 2 * msUnits } (refreshFits (fld c.params 0 8) (fld c.params 8 2) s)
  else conclude c stDone 0 [] (buildRays (activate (fld c.params 0 8) (fld c.params 8 2)
    (refreshFits (fld c.params 0 8) (fld c.params 8 2) s)))

theorem exec_activateWork (k : CmdKey) (s : State) : exec (.activatePlan k) s = runCommand k 0x0801 (activateWork k) s := rfl

theorem activatePlan_ends (hr : Ready k 0x0801 s c) :
    let i := fld c.params 0 8
    let posture := fld c.params 8 2
    (postureRuns s posture = false → Completes (.activatePlan k) s fun t => Concluded c stDone 0 [] s t ∧
       (posture = 0 → t.plans.driveSlot = some i ∧ t.plans.sentrySlot = s.plans.sentrySlot) ∧
       (posture ≠ 0 → t.plans.sentrySlot = some i ∧ t.plans.driveSlot = s.plans.driveSlot) ∧
       (∀ j, j < 4 → (planSlot t j).image = (planSlot s j).image) ∧ ChangesOnly [.flight, .plans, .rink, .settings] s t) ∧
     (postureRuns s posture = true → s.plans.swap = none → Completes (.activatePlan k) s fun t =>
       t.plans.driveSlot = s.plans.driveSlot ∧ t.plans.sentrySlot = s.plans.sentrySlot ∧
       t.plans.swap = some { key := k, slot := i, posture := posture, notBefore := startInstant c s + 2 * msUnits } ∧
       ChangesOnly [.plans] s t) := by
  intro i posture
  obtain ⟨himages, hdrive, hsentry, hframe⟩ := refreshFits_spec i posture s
  refine ⟨fun hidle => ?_, fun hruns hswap => ?_⟩
  · have hwork : activateWork k c s = conclude c stDone 0 [] (buildRays (activate i posture (refreshFits i posture s))) := by
      rw [activateWork, if_neg (by rw [show postureRuns s (fld c.params 8 2) = false from hidle]; exact Bool.false_ne_true)]
    generalize refreshFits i posture s = u at himages hdrive hsentry hframe hwork
    obtain ⟨himages', hactive, hactive', hframe'⟩ := activate_spec i posture u
    generalize activate i posture u = v at himages' hactive hactive' hframe' hwork
    refine completes_concluded (l := [.plans, .settings, .rink]) (m := [.flight, .plans, .rink, .settings])
      (exec_activateWork k s) hr hwork (((hframe.comp hframe').comp (changesOnly_modRink _ v)).mono (by simp)) (by simp) (by simp)
      fun t hc hf ht => ?_
    have hplans : t.plans = v.plans := ht .plans (by simp)
    have himg : ∀ j, planSlot t j = planSlot v j := fun j => congrArg (fun p : Plans => vget p.slots j) hplans
    simp only [himg, hplans]
    refine ⟨hc, fun hp => ⟨(hactive hp).1, (hactive hp).2.trans hsentry⟩, fun hp => ⟨(hactive' hp).1, (hactive' hp).2.trans hdrive⟩,
      fun j hj => (himages' j hj).trans (himages j hj), hf⟩
  · have hwork : activateWork k c s = swapWaits
        { key := k, slot := i, posture := posture, notBefore := startInstant c s + 2 * msUnits } (refreshFits i posture s) := by
      rw [activateWork, if_pos hruns, if_neg (by rw [hswap]; exact Bool.false_ne_true)]
    refine completes_of_command (exec_activateWork k s) hr ?_
    rw [hwork, settle_plans]
    exact ⟨hdrive, hsentry, rfl, (hframe.step (changesOnly_modPlans _ _)).settle s⟩

theorem unloadPlan_ends (hr : Ready k 0x0803 s c) : Completes (.unloadPlan k) s fun t =>
     Replied c stDone 0 [] s t ∧ (fld c.params 0 8 < 4 → slotEmpty (planSlot t (fld c.params 0 8)) = true) ∧
     (∀ j, j < 4 → j ≠ fld c.params 0 8 → planSlot t j = planSlot s j) ∧ ChangesOnly [.flight, .reply, .plans] s t := by
  refine completes_done (work := fun c s => modPlanSlot (fld c.params 0 8) (fun _ => { image := [], loading := false, fits := [] }) s)
    (m := [.flight, .reply, .plans]) (exec_unloadPlan k s) hr (changesOnly_modPlanSlot _ _ s) (by simp) (by simp) (by simp) (by simp)
    fun t hreplied hf ht => ?_
  have hslot : ∀ j, planSlot t j = planSlot (modPlanSlot (fld c.params 0 8) (fun _ => { image := [], loading := false, fits := [] }) s) j :=
    fun j => congrArg (fun p : Plans => vget p.slots j) (ht .plans (by simp))
  refine ⟨hreplied, fun hi => ?_, fun j _ hne => ?_, hf⟩
  · rw [hslot, planSlot_modPlanSlot hi]
    rfl
  · rw [hslot, planSlot_modPlanSlot_ne hne]

end

/-- Settles O43: the spill list, the rates, and the three plan commands. -/
theorem plansAreFittedAndActivated : Obligations.PlansAreFittedAndActivated := by
  unfold Obligations.PlansAreFittedAndActivated
  refine ⟨⟨fun es r t m n => ?_, fun t n sliced r => ?_, fun tick t n sliced r => ?_, fun s img b kind idx f h => ?_⟩,
    fun k c i s hr hi => loadPlan_ends hr hi, fun k c s hr => activatePlan_ends hr, fun k c s hr => unloadPlan_ends hr⟩
  · obtain ⟨hleast, hmost, hends, hres, htime, htraffic, hneeded⟩ := applySpill_applied es r t m n
    exact ⟨hleast, hmost, hends, hres, htime, htraffic, hneeded⟩
  · rw [driveRate_iff]
    simp only [Bool.not_eq_true]
  · rw [sentryRate_iff]
    simp only [sentryCheck_iff]
    rfl
  · have hfits := fitVariant_fits h
    exact ⟨hfits.accumulators, hfits.resident, hfits.sort, hfits.record, hfits.time, hfits.drive, hfits.other, hfits.rate,
      hfits.traffic⟩

end Sys2Proof.Machine
end

section
/-! A scheduling instant with more internal jobs than the table holds (O44; R358 to R360). -/

namespace Sys2Proof.Machine

/-- A waiting job of the wheel voter. -/
def voterJob (id : Nat) (deadline : Option Nat) : Job :=
  { id := id, owner := .wheelVoter, desc := [], input := [], deadline := deadline, running := none, retried := false,
    avoid := [], issuedAt := 0, record := none }

/-- 193 internal jobs, of which the first and the last are past their deadline. -/
def crowdedJobs : List Job :=
  (List.range 193).map (fun i => voterJob i (if i = 0 ∨ i = 192 then some 0 else none))

def crowded : State := { live with solver := { live.solver with jobs := crowdedJobs, nextId := 193 } }

theorem crowdedJobs_waiting {j : Job} (hj : j ∈ crowdedJobs) : j.running = none := by
  obtain ⟨i, -, rfl⟩ := List.mem_map.1 hj
  rfl

theorem crowdedJobs_ids : crowdedJobs.map (fun j => j.id) = List.range 193 := by
  rw [crowdedJobs, List.map_map]
  exact List.map_id _

/-- The first job's end lets the last one into the table, and it starts on pair 0. -/
theorem crowded_startsLate : ∃ u, exec .solverSchedule crowded = .next u ∧
    u.solver.jobs.find? (fun j => j.running.isSome && j.deadline == some 0) =
      some { voterJob 192 (some 0) with running := some ([0, 1], 0) } := by
  refine ⟨_, rfl, ?_⟩
  decide +kernel

/-- Refutes O44: late jobs are looked for among the 192 oldest internal ones. Where the first of 193 ends so, the 193rd joins
the table after that look, and starts though its worst case ends after its deadline. -/
theorem not_solverBatchesAndJobs : ¬ Obligations.SolverBatchesAndJobs := by
  unfold Obligations.SolverBatchesAndJobs
  rintro ⟨-, -, hschedule, -⟩
  obtain ⟨t, hexec, hstarts, -⟩ := hschedule crowded rfl rfl (by
    show (crowdedJobs.map (fun j => j.id)).Nodup
    rw [crowdedJobs_ids]
    exact List.nodup_range) (fun j hj => by
      have hid : j.id ∈ crowdedJobs.map (fun j => j.id) := List.mem_map_of_mem hj
      rw [crowdedJobs_ids] at hid
      exact List.mem_range.1 hid)
  obtain ⟨u, hexec', hfind⟩ := crowded_startsLate
  obtain rfl : t = u := by simpa using hexec.symm.trans hexec'
  rcases hstarts _ (List.mem_of_find?_eq_some hfind) [0, 1] 0 rfl with ⟨i, hi, -, hrun⟩ | ⟨-, hdue, -⟩
  · exact absurd ((crowdedJobs_waiting hi).symm.trans hrun) nofun
  · exact absurd (hdue 0 rfl) (by decide +kernel)

end Sys2Proof.Machine
end

section
/-! Hits, misses and births (O45; R368, R373, R374). -/

namespace Sys2Proof.Machine

/-! ## Bits cleared -/

/-- A cleared bit is clear, and no other bit changes. -/
theorem bitOf_clearBit (n b i : Nat) : bitOf (clearBit n b) i = (bitOf n i && i != b) := by
  by_cases hset : bitOf n b = true
  · have hodd : n / 2 ^ b % 2 = 1 := by
      simpa only [bitOf, beq_iff_eq] using hset
    have hsplit : n = 2 ^ b * (2 * (n / 2 ^ b / 2) + 1) + n % 2 ^ b := by
      have := Nat.div_add_mod n (2 ^ b)
      rw [show 2 * (n / 2 ^ b / 2) + 1 = n / 2 ^ b by omega]
      exact this.symm
    have hlow : n % 2 ^ b < 2 ^ b := Nat.mod_lt _ (Nat.two_pow_pos b)
    generalize n / 2 ^ b / 2 = q at hsplit
    generalize n % 2 ^ b = r at hsplit hlow
    have hclear : clearBit n b = 2 ^ b * (2 * q) + r := by
      rw [clearBit, if_pos hset, hsplit, Nat.mul_add, Nat.mul_one]
      omega
    rw [hclear, hsplit, bitOf_eq_testBit, bitOf_eq_testBit, Nat.testBit_two_pow_mul_add _ hlow,
      Nat.testBit_two_pow_mul_add _ hlow]
    rcases Nat.lt_trichotomy i b with h | rfl | h
    · simp [h, h.ne]
    · simp
    · obtain ⟨k, rfl⟩ := Nat.exists_eq_add_of_lt h
      have hk : b + k + 1 - b = k + 1 := by omega
      have hne : b + k + 1 ≠ b := by omega
      simp [hk, hne, Nat.testBit_succ, Nat.mul_add_div]
  · rw [clearBit, if_neg hset]
    by_cases hi : i = b
    · simpa [hi] using hset
    · simp [hi]

/-! ## Hits and misses (R373) -/

/-- What the judgement of a still track leaves. -/
structure StillJudged (c t : Track) : Prop where
  existence : t.existence = c.existence
  coast : t.coast = c.coast
  trackId : t.trackId = c.trackId
  index : t.index = c.index
  lastUpdate : t.lastUpdate = c.lastUpdate
  lastUpdateFrame : t.lastUpdateFrame = c.lastUpdateFrame
  state : t.state = c.state
  life : t.life = c.life
  flags : ∀ b, b ≠ flagStill → b ≠ flagStillBorn → bitOf t.flags b = bitOf c.flags b

theorem stillJudged_settleStill (p : Bytes) (f : Dts) (c : Track) : StillJudged c (settleStill p f c) := by
  unfold settleStill
  extract_lets v speed2 limit
  split
  · split
    · exact ⟨rfl, rfl, rfl, rfl, rfl, rfl, rfl, rfl, fun _ _ _ => rfl⟩
    · refine ⟨rfl, rfl, rfl, rfl, rfl, rfl, rfl, rfl, fun b hb _ => ?_⟩
      refine (bitOf_setBit _ _ _).trans ?_
      rw [beq_eq_false_iff_ne.2 hb, Bool.or_false]
  · refine ⟨rfl, rfl, rfl, rfl, rfl, rfl, rfl, rfl, fun b hb hb' => ?_⟩
    refine (bitOf_clearBit _ _ _).trans ?_
    rw [bitOf_clearBit, bne_iff_ne.2 hb, bne_iff_ne.2 hb', Bool.and_true, Bool.and_true]

theorem hitTrack_spec (p : Bytes) (c : Track) (d : Detection) (m : Moved) (frame : Nat) (f : Dts) :
    let t := hitTrack p c d m frame f
    t.existence = min 255 (c.existence + ((256 - c.existence) * fld p 64 8 + 255) / 256) ∧ t.coast = 0 ∧
    t.trackId = c.trackId ∧ t.index = c.index ∧ t.lastUpdate = f ∧ t.lastUpdateFrame = frame ∧ t.state = m.state ∧
    bitOf t.flags flagLost = false ∧ bitOf t.flags flagOutside = false ∧ (c.life = 3 → t.life = 2) := by
  intro t
  obtain ⟨c', hc', hexist, hcoast, hid, hindex, hupdate, hframe, hstate, hflags, hlife⟩ : ∃ c', t = settleStill p f c' ∧
      c'.existence = existenceUp c.existence (fld p 64 8) ∧ c'.coast = 0 ∧ c'.trackId = c.trackId ∧ c'.index = c.index ∧
      c'.lastUpdate = f ∧ c'.lastUpdateFrame = frame ∧ c'.state = m.state ∧
      c'.flags = clearBit (clearBit (clearBit c.flags flagDropped) flagLost) flagOutside ∧
      c'.life = (if c.life = 3 then 2 else c.life) := ⟨_, rfl, rfl, rfl, rfl, rfl, rfl, rfl, rfl, rfl, rfl⟩
  have hstill := stillJudged_settleStill p f c'
  rw [← hc'] at hstill
  have hclear : ∀ b, b ≠ flagStill → b ≠ flagStillBorn → bitOf t.flags b =
      (((bitOf c.flags b && b != flagDropped) && b != flagLost) && b != flagOutside) := fun b hb hb' => by
    rw [hstill.flags b hb hb', hflags, bitOf_clearBit, bitOf_clearBit, bitOf_clearBit]
  refine ⟨hstill.existence.trans hexist, hstill.coast.trans hcoast, hstill.trackId.trans hid, hstill.index.trans hindex,
    hstill.lastUpdate.trans hupdate, hstill.lastUpdateFrame.trans hframe, hstill.state.trans hstate, ?_, ?_, fun hl => ?_⟩
  · rw [hclear _ (by decide) (by decide)]
    simp
  · rw [hclear _ (by decide) (by decide)]
    simp
  · rw [hstill.life, hlife, if_pos hl]

theorem missTrack_spec (p : Bytes) (c : Track) (code : Nat) :
    let t := missTrack p code c
    t.coast = min 255 (c.coast + 1) ∧ (c.life = 2 → t.life = 3) ∧ t.trackId = c.trackId ∧ t.state = c.state ∧
    t.lastUpdate = c.lastUpdate ∧
    (code = 0 → t.existence = c.existence - (c.existence * fld p 56 8 + 255) / 256 ∧ bitOf t.flags flagLost = false ∧
      bitOf t.flags flagOutside = false) ∧
    (code = 1 → t.existence = c.existence ∧ bitOf t.flags flagOutside = true ∧ bitOf t.flags flagLost = false) ∧
    (code = 2 → t.existence = c.existence ∧ bitOf t.flags flagLost = true ∧ bitOf t.flags flagOutside = false) := by
  intro t
  have hcommon : t.coast = min 255 (c.coast + 1) ∧ t.life = (if c.life = 2 then 3 else c.life) ∧ t.trackId = c.trackId ∧
      t.state = c.state ∧ t.lastUpdate = c.lastUpdate := by
    simp only [t, missTrack]
    split <;> exact ⟨rfl, rfl, rfl, rfl, rfl⟩
  obtain ⟨hcoast, hlife, hid, hstate, hupdate⟩ := hcommon
  refine ⟨hcoast, fun h => by rw [hlife, if_pos h], hid, hstate, hupdate, ?_, ?_, ?_⟩
  · rintro rfl
    refine ⟨rfl, ?_, ?_⟩
    · show bitOf (clearBit (clearBit c.flags flagLost) flagOutside) flagLost = false
      simp [bitOf_clearBit]
    · show bitOf (clearBit (clearBit c.flags flagLost) flagOutside) flagOutside = false
      simp [bitOf_clearBit]
  · rintro rfl
    refine ⟨rfl, ?_, ?_⟩
    · show bitOf (setBit (clearBit c.flags flagLost) flagOutside) flagOutside = true
      simp [bitOf_setBit]
    · show bitOf (setBit (clearBit c.flags flagLost) flagOutside) flagLost = false
      simp [bitOf_setBit, bitOf_clearBit, flagLost, flagOutside]
  · rintro rfl
    refine ⟨rfl, ?_, ?_⟩
    · show bitOf (setBit (clearBit c.flags flagOutside) flagLost) flagLost = true
      simp [bitOf_setBit]
    · show bitOf (setBit (clearBit c.flags flagOutside) flagLost) flagOutside = false
      simp [bitOf_setBit, bitOf_clearBit, flagLost, flagOutside]

/-! ## Births (R368, R378) -/

/-- An identifier that may not be given. -/
def Blocked (taken : List Nat) (n : Nat) : Prop := n = 0 ∨ n ∈ taken

theorem freeId_lt (taken : List Nat) : ∀ (k n : Nat), n < 2 ^ 32 → freeId taken k n < 2 ^ 32
  | 0, n, h => h
  | k + 1, n, h => by
    rw [freeId]
    split
    · exact freeId_lt taken k _ (Nat.mod_lt _ (by norm_num))
    · exact h

/-- Where the search finds only blocked identifiers, each one it looked at is blocked. -/
theorem blocked_of_freeId (taken : List Nat) : ∀ (k n : Nat), n < 2 ^ 32 → Blocked taken (freeId taken k n) →
    ∀ i, i < k → Blocked taken ((n + i) % 2 ^ 32)
  | 0, _, _, _, i, hi => absurd hi (Nat.not_lt_zero i)
  | k + 1, n, hn, h, i, hi => by
    rw [freeId] at h
    by_cases hblocked : n = 0 ∨ taken.contains n = true
    · rw [if_pos hblocked] at h
      cases i with
      | zero =>
        rw [Nat.add_zero, Nat.mod_eq_of_lt hn]
        exact hblocked.imp id fun hc => by simpa using hc
      | succ i =>
        have hrest := blocked_of_freeId taken k ((n + 1) % 2 ^ 32) (Nat.mod_lt _ (by norm_num)) h i (by omega)
        rwa [Nat.mod_add_mod, Nat.add_assoc, Nat.add_comm 1 i] at hrest
    · rw [if_neg hblocked] at h
      exact absurd (h.imp id fun hc => by simpa using hc) hblocked

/-- Among more successive values than there are blocked ones, one is free. -/
theorem freeId_free {taken : List Nat} {k n : Nat} (hn : n < 2 ^ 32) (hk : taken.length + 1 < k) (hsize : k ≤ 2 ^ 32) :
    ¬ Blocked taken (freeId taken k n) := by
  intro h
  have hall := blocked_of_freeId taken k n hn h
  have hsub : (List.range k).map (fun i => (n + i) % 2 ^ 32) ⊆ 0 :: taken := by
    intro x hx
    obtain ⟨i, hi, rfl⟩ := List.mem_map.1 hx
    exact (hall i (List.mem_range.1 hi)).elim (fun h0 => h0 ▸ List.mem_cons_self) (List.mem_cons_of_mem 0)
  have hnodup : ((List.range k).map (fun i => (n + i) % 2 ^ 32)).Nodup := by
    refine List.Nodup.map_on (fun i hi j hj hij => ?_) List.nodup_range
    have hi := List.mem_range.1 hi
    have hj := List.mem_range.1 hj
    norm_num at hij hsize hn
    omega
  have hlen := (hnodup.subperm hsub).length_le
  simp only [List.length_map, List.length_range, List.length_cons] at hlen
  omega

theorem takenIds_length (s : State) : (takenIds s).length = (usedIndices s).length := by
  have hentries : ∀ l : List PendingEntry,
      (l.filterMap (fun e => match e with | .write c true => some c.trackId | _ => none)).length =
      (l.filterMap (fun e => match e with | .write c true => some c.index | _ => none)).length := by
    intro l
    induction l with
    | nil => rfl
    | cons e l ih =>
      rw [List.filterMap_cons, List.filterMap_cons]
      rcases e with ⟨c, born⟩ | _ | _ | _
      · cases born
        · exact ih
        · exact congrArg Nat.succ ih
      · exact ih
      · exact ih
      · exact ih
  have hupdates : ∀ l : List FrameUpdate,
      (l.flatMap (fun u => u.entries.filterMap (fun e => match e with | .write c true => some c.trackId | _ => none))).length =
      (l.flatMap (fun u => u.entries.filterMap (fun e => match e with | .write c true => some c.index | _ => none))).length := by
    intro l
    induction l with
    | nil => rfl
    | cons u l ih => rw [List.flatMap_cons, List.flatMap_cons, List.length_append, List.length_append, hentries, ih]
  unfold takenIds usedIndices
  rw [List.length_append, List.length_append, List.length_map, List.length_map]
  exact congrArg (s.glide.store.length + ·) (hupdates s.glide.pending)

theorem birthsTakeFree {s : State} {i : Nat} (hnext : s.glide.nextId < 2 ^ 32) (hi : freeIndex s = some i) :
    let id := freeId (takenIds s) 32768 s.glide.nextId
    id ≠ 0 ∧ id < 2 ^ 32 ∧ id ∉ takenIds s ∧ i < 16384 ∧ i ∉ usedIndices s ∧ contextMarked s i = false ∧
    (∀ j, j < i → j ∈ usedIndices s ∨ contextMarked s j = true) ∧
    (usedIndices s).length < liveLimit s := by
  intro id
  unfold freeIndex at hi
  dsimp only at hi
  split_ifs at hi with hfull
  have hlen : (usedIndices s).length < liveLimit s := Nat.lt_of_not_le hfull
  have hlimit : liveLimit s ≤ 16384 := Nat.min_le_left _ _
  have hfree : ¬ Blocked (takenIds s) id := freeId_free hnext (by rw [takenIds_length]; omega) (by norm_num)
  obtain ⟨hzero, htaken⟩ := not_or.1 hfree
  have hfound := List.find?_some hi
  obtain ⟨hused, hmarked⟩ : i ∉ usedIndices s ∧ contextMarked s i = false := by simpa using hfound
  refine ⟨hzero, freeId_lt _ _ _ hnext, htaken, List.mem_range.1 (List.mem_of_find?_eq_some hi), hused, hmarked,
    fun j hj => ?_, hlen⟩
  have hbefore := (List.find?_range_eq_some.1 hi).2.2 j hj
  by_cases hjused : j ∈ usedIndices s
  · exact .inl hjused
  · refine .inr ?_
    simpa [hjused] using hbefore

end Sys2Proof.Machine
end

section
/-! The association of a frame (O45; R371, R372). -/

namespace Sys2Proof.Machine

/-! ## The matching (R371) -/

theorem mem_of_foldl_pair {α β : Type} {f : Option (β × α) → α → Option (β × α)}
    (hf : ∀ b x, f b x = b ∨ ∃ d, f b x = some (d, x)) : ∀ (l : List α) (b : Option (β × α)) {y : β × α},
    l.foldl f b = some y → b = some y ∨ y.2 ∈ l
  | [], _, _, h => .inl h
  | x :: l, b, y, h => by
    rcases mem_of_foldl_pair hf l _ h with hb | hy
    · rcases hf b x with hk | ⟨d, hk⟩
      · exact .inl (hk.symm.trans hb)
      · obtain rfl : (d, x) = y := Option.some.inj (hk.symm.trans hb)
        exact .inr List.mem_cons_self
    · exact .inr (List.mem_cons_of_mem _ hy)

/-- The nearest track is one of those that were looked at. -/
theorem nearestTrack_mem {gate : Dy} {x y : Nat} {add : Dy × Dy × Dy} {l : List (Track × Moved)} {t : Track × Moved}
    (h : nearestTrack gate x y add l = some t) : t ∈ l := by
  unfold nearestTrack at h
  obtain ⟨v, hv, rfl⟩ := Option.map_eq_some_iff.1 h
  refine (mem_of_foldl_pair (fun b u => ?_) l none hv).resolve_left nofun
  dsimp only
  split
  · exact .inl rfl
  · split
    · exact .inl rfl
    · split
      · exact .inr ⟨_, rfl⟩
      · split
        · exact .inr ⟨_, rfl⟩
        · exact .inl rfl

/-- Where keys are distinct, one element and the rest of a list are the list. -/
theorem perm_cons_filter_ne {α : Type} {key : α → Nat} : ∀ {l : List α} {t : α}, (l.map key).Nodup → t ∈ l →
    (t :: l.filter (fun u => key u != key t)).Perm l
  | [], _, _, h => absurd h List.not_mem_nil
  | x :: l, t, hn, h => by
    obtain ⟨hx, hl⟩ := List.nodup_cons.1 hn
    rcases List.mem_cons.1 h with rfl | ht
    · have hkeep : l.filter (fun u => key u != key t) = l := List.filter_eq_self.2 fun u hu =>
        bne_iff_ne.2 fun heq => hx (heq ▸ List.mem_map_of_mem hu)
      rw [List.filter_cons_of_neg (by simp), hkeep]
    · have hne : key x ≠ key t := fun heq => hx (heq ▸ List.mem_map_of_mem ht)
      rw [List.filter_cons_of_pos (by simpa using hne)]
      exact (List.Perm.swap x t _).trans ((perm_cons_filter_ne hl ht).cons x)

/-- The tracks of a matching: those hit and those left. -/
def matchedTracks (a : Matching) : List (Track × Moved) := a.hits.map (fun h => h.1) ++ a.left

theorem matchOne_perm (s : State) (a : Matching) (d : Detection) (hn : (a.left.map (fun t => t.1.trackId)).Nodup) :
    (matchedTracks (matchOne s a d)).Perm (matchedTracks a) ∧
    ((matchOne s a d).left.map (fun t => t.1.trackId)).Nodup := by
  unfold matchOne
  extract_lets p v
  split
  case h_1 t ht =>
    have hmem := nearestTrack_mem ht
    have hperm := perm_cons_filter_ne (key := fun u : Track × Moved => u.1.trackId) hn hmem
    refine ⟨?_, hn.sublist (List.filter_sublist.map _)⟩
    simp only [matchedTracks, List.map_append, List.map_cons, List.map_nil, List.append_assoc, List.singleton_append]
    exact hperm.append_left _
  case h_2 =>
    split
    · exact ⟨.refl _, hn⟩
    · exact ⟨.refl _, hn⟩

theorem foldl_matchOne_perm (s : State) : ∀ (l : List Detection) (a : Matching), (a.left.map (fun t => t.1.trackId)).Nodup →
    (matchedTracks (l.foldl (matchOne s) a)).Perm (matchedTracks a)
  | [], a, _ => .refl _
  | d :: l, a, hn => by
    obtain ⟨hperm, hn'⟩ := matchOne_perm s a d hn
    exact (foldl_matchOne_perm s l _ hn').trans hperm

/-! ## Work on a pending update -/

/-- What an update's work leaves of it. -/
structure SameUpdate (u v : FrameUpdate) : Prop where
  key : v.key = u.key
  frame : v.frame = u.frame
  instant : v.instant = u.instant
  worker : v.worker = u.worker
  misses : v.misses = u.misses
  jobs : v.entries.filterMap entryIndex = u.entries.filterMap entryIndex

theorem SameUpdate.refl (u : FrameUpdate) : SameUpdate u u := ⟨rfl, rfl, rfl, rfl, rfl, rfl⟩

theorem SameUpdate.trans {u v w : FrameUpdate} (h : SameUpdate u v) (h' : SameUpdate v w) : SameUpdate u w :=
  ⟨h'.key.trans h.key, h'.frame.trans h.frame, h'.instant.trans h.instant, h'.worker.trans h.worker,
    h'.misses.trans h.misses, h'.jobs.trans h.jobs⟩

/-- The update of a key is changed in a list of pending ones. -/
def keyed (key : Nat) (f : FrameUpdate → FrameUpdate) (l : List FrameUpdate) : List FrameUpdate :=
  l.map (fun u => if u.key == key then f u else u)

/-- Work on the pending update of a key: the committed store and the other updates stand. -/
structure UpdateWork (key : Nat) (s t : State) : Prop where
  frame : ChangesOnly [.glide, .solver, .align, .patrol] s t
  store : t.glide.store = s.glide.store
  pending : ∃ f, (∀ u, SameUpdate u (f u)) ∧ t.glide.pending = keyed key f s.glide.pending

theorem keyed_id (key : Nat) (l : List FrameUpdate) : keyed key id l = l := by
  simp [keyed]

theorem keyed_keyed (key : Nat) {f g : FrameUpdate → FrameUpdate} (hf : ∀ u, SameUpdate u (f u)) (l : List FrameUpdate) :
    keyed key g (keyed key f l) = keyed key (fun u => g (f u)) l := by
  unfold keyed
  rw [List.map_map]
  refine List.map_congr_left fun u _ => ?_
  dsimp only [Function.comp]
  by_cases hu : u.key = key
  · have hfu : (f u).key = key := (hf u).key.trans hu
    simp [hu, hfu]
  · simp [hu]

section
variable {key : Nat} {s t u : State}

theorem UpdateWork.of_kept (h : ChangesOnly [.glide, .solver, .align, .patrol] s t) (hstore : t.glide.store = s.glide.store)
    (hpending : t.glide.pending = s.glide.pending) : UpdateWork key s t :=
  ⟨h, hstore, id, SameUpdate.refl, by rw [keyed_id, hpending]⟩

theorem UpdateWork.of_frame (h : ChangesOnly [.solver, .align, .patrol] s t) : UpdateWork key s t := by
  have hglide : t.glide = s.glide := h .glide (by simp)
  exact .of_kept (h.mono (by simp)) (congrArg Glide.store hglide) (congrArg Glide.pending hglide)

theorem UpdateWork.refl (key : Nat) (s : State) : UpdateWork key s s := .of_kept (.refl _ s) rfl rfl

theorem UpdateWork.trans (h : UpdateWork key s t) (h' : UpdateWork key t u) : UpdateWork key s u := by
  obtain ⟨f, hf, hpending⟩ := h.pending
  obtain ⟨g, hg, hpending'⟩ := h'.pending
  exact ⟨h.frame.step h'.frame, h'.store.trans h.store, fun v => g (f v), fun v => (hf v).trans (hg (f v)),
    by rw [hpending', hpending, keyed_keyed key hf]⟩

theorem updateWork_foldl {α : Type} {f : State → α → State} (h : ∀ s x, UpdateWork key s (f s x)) (l : List α) :
    ∀ s, UpdateWork key s (l.foldl f s) := by
  induction l with
  | nil => exact fun s => .refl key s
  | cons x l ih => exact fun s => (h s x).trans (ih _)

theorem updateWork_modUpdate {f : FrameUpdate → FrameUpdate} (hf : ∀ u, SameUpdate u (f u)) (s : State) :
    UpdateWork key s (modUpdate key f s) := ⟨(changesOnly_modGlide _ s).mono (by simp), rfl, f, hf, rfl⟩

theorem updateWork_issueJob (owner : JobOwner) (desc : Bytes) (input : List Nat) (deadline : Option Nat) (s : State) :
    UpdateWork key s (issueJob owner desc input deadline s) :=
  .of_frame ((changesOnly_issueJob owner desc input deadline s).mono (by simp))

theorem updateWork_addBirth (make : Nat → Nat → Track) (s : State) : UpdateWork key s (addBirth key make s) := by
  unfold addBirth
  split
  · refine updateWork_modUpdate (fun u => ?_) s
    exact ⟨rfl, rfl, rfl, rfl, rfl, rfl⟩
  case h_2 i hi =>
    extract_lets id
    have hid : UpdateWork key s (modGlide (fun (g : Glide) => { g with nextId := (id + 1) % 2 ^ 32 }) s) :=
      .of_kept ((changesOnly_modGlide _ s).mono (by simp)) rfl rfl
    refine hid.trans (updateWork_modUpdate (fun u => ?_) _)
    refine ⟨rfl, rfl, rfl, rfl, rfl, ?_⟩
    show (u.entries ++ [PendingEntry.write (make i id) true]).filterMap entryIndex = u.entries.filterMap entryIndex
    rw [List.filterMap_append]
    exact List.append_nil _

/-- One birth of a frame. -/
def birthGiven (key : Nat) (d : DetectionSet) (a : State × List (Track × Detection)) (q : Detection) :
    State × List (Track × Detection) :=
  (addBirth key (fun i id => bornTrack a.1 (trackParams a.1 q.cls) q i id d.frame d.instant) a.1,
   a.2 ++ (birthOf d q a.1).toList.map (fun c => (c, q)))

theorem updateWork_foldl_birthGiven (d : DetectionSet) : ∀ (l : List Detection) (a : State × List (Track × Detection)),
    UpdateWork key a.1 (l.foldl (birthGiven key d) a).1
  | [], a => .refl key a.1
  | q :: l, a => by
    have hborn : UpdateWork key a.1 (birthGiven key d a q).1 :=
      updateWork_addBirth (fun i id => bornTrack a.1 (trackParams a.1 q.cls) q i id d.frame d.instant) a.1
    exact hborn.trans (updateWork_foldl_birthGiven d l _)

theorem updateWork_giveBirths (d : DetectionSet) (births : List Detection) (s : State) :
    UpdateWork key s (giveBirths key d births s).1 := updateWork_foldl_birthGiven d births (s, [])

theorem updateWork_contestTrack (f : Dts) (c : Track) (m : Moved) (contested : Bool) (s : State) :
    UpdateWork key s (contestTrack f c m contested s) := by
  unfold contestTrack
  extract_lets was s1
  have hmark : UpdateWork key s s1 := .of_frame ((changesOnly_modAlign _ s).mono (by simp))
  split
  · refine hmark.trans (.of_kept (((changesOnly_modGlide _ s1).comp (changesOnly_report _ _ _ _ _ _)).mono (by simp)) rfl rfl)
  · exact hmark

theorem updateWork_voteTrack (f : Dts) (a : State × List (Nat × Nat × Nat)) (h : (Track × Moved) × Detection) :
    UpdateWork key a.1 (voteTrack f a h).1 :=
  (UpdateWork.of_frame ((changesOnly_modAlign _ a.1).mono (by simp))).trans (updateWork_contestTrack f _ _ _ _)

theorem updateWork_foldl_voteTrack (f : Dts) : ∀ (l : List ((Track × Moved) × Detection)) (a : State × List (Nat × Nat × Nat)),
    UpdateWork key a.1 (l.foldl (voteTrack f) a).1
  | [], a => .refl key a.1
  | h :: l, a => (updateWork_voteTrack f a h).trans (updateWork_foldl_voteTrack f l _)

theorem updateWork_judgeSources (tally : List (Nat × Nat × Nat)) (s : State) : UpdateWork key s (judgeSources tally s) := by
  have hjudge : ∀ (u : State) (i : Nat) (a b : Bool), UpdateWork key u (judgeTrust i a b u) := fun u i a b =>
    .of_frame ((voteWork_judgeTrustAs (alignFault i) i a b u).2.1.mono (by simp))
  unfold judgeSources
  refine updateWork_foldl (fun u i => ?_) _ s
  split
  · exact hjudge u i _ _
  · exact hjudge u i _ _

theorem updateWork_settleUpdate (s : State) : UpdateWork key s (settleUpdate key s) := by
  refine updateWork_modUpdate (fun u => ?_) s
  split
  · exact .refl u
  · exact ⟨rfl, rfl, rfl, rfl, rfl, rfl⟩

end

/-! ## The association of a frame's detections -/

/-- The parameters in force are taken, and the frame leaves the arrived ones. -/
def frameTaken (d : DetectionSet) (s : State) : State :=
  modSolver (fun (v : Solver) => { v with nextId := v.nextId + 1 })
    (modGlide (fun (g : Glide) => { g with
      params := Vector.ofFn (fun (i : Fin 16) => setting s 0x0A00 i.val),
      arriving := g.arriving.filter (fun x => x.frame != d.frame) }) s)

/-- The live tracks at the frame's instant, and their matching with its detections. -/
def frameMatching (d : DetectionSet) (s : State) : Matching :=
  (d.detections.sortBy detectionBefore).foldl (matchOne s)
    { left := s.glide.store.map (fun c => (c, propagate s c d.instant)), hits := [], births := [] }

/-- The hits in the order in which their jobs are issued. -/
def frameHits (d : DetectionSet) (s : State) : List ((Track × Moved) × Detection) :=
  (frameMatching d s).hits.sortBy (fun x y => decide (issueRank s x.1.1.trackId ≤ issueRank s y.1.1.trackId))

/-- The frame's pending update. -/
def frameUpdate (key : Nat) (d : DetectionSet) (s : State) : FrameUpdate :=
  { key := key, frame := d.frame, instant := d.instant, worker := none, observed := 0,
    entries := (frameHits d s).map (fun h => .job h.1.1.index h.2),
    misses := (frameMatching d s).left.map (fun t => (t.1.index, missCode s d t.1 t.2)), patches := d.patches,
    recentred := d.recentred, detectionsDropped := d.dropped, updatesDropped := 0, birthsDropped := 0,
    storeFull := false, finished := none }

def updateAdded (u : FrameUpdate) (s : State) : State := modGlide (fun (g : Glide) => { g with pending := g.pending ++ [u] }) s

/-- The jobs of the hits are issued. -/
def hitsIssued (key : Nat) (d : DetectionSet) (hits : List ((Track × Moved) × Detection)) (s : State) : State :=
  hits.foldl (fun (t : State) h =>
    issueJob (.glide h.1.1.index key) (updateDesc 6)
      (updateInput h.1.2 measured (detectionMeasure h.2) (fun i j =>
        if i = j then (detectionNoise (trackParams t h.2.cls) h.2).getD i Dy.zero else Dy.zero))
      (some (updateDeadline t d.arrivedAt)) t) s

/-- The tracks that were missed are not contested. -/
def missesKept (d : DetectionSet) (left : List (Track × Moved)) (s : State) : State :=
  left.foldl (fun (t : State) c => contestTrack d.instant c.1 c.2 false t) s

/-- The tracks that were missed, and the judgement of the sources, after the votes. -/
def missesJudged (d : DetectionSet) (a : Matching) (v : State × List (Nat × Nat × Nat)) : State :=
  if d.checked then judgeSources v.2 (missesKept d a.left v.1) else missesKept d a.left v.1

/-- The votes on the tracks hit and born. -/
def tracksJudged (d : DetectionSet) (a : Matching) (hits : List ((Track × Moved) × Detection))
    (b : State × List (Track × Detection)) : State :=
  missesJudged d a ((hits ++ b.2.map (fun x => ((x.1, ({ state := x.1.state, cov := x.1.cov } : Moved)), x.2))).foldl
    (voteTrack d.instant) (b.1, d.tally))

/-- The births, the votes on the tracks and the judgement of the sources. -/
def tracksVoted (key : Nat) (d : DetectionSet) (a : Matching) (hits : List ((Track × Moved) × Detection)) (s : State) : State :=
  tracksJudged d a hits (giveBirths key d a.births s)

theorem associate_eq (d : DetectionSet) (s : State) : associate d s = settleUpdate s.solver.nextId
    (tracksVoted s.solver.nextId d (frameMatching d (frameTaken d s)) (frameHits d (frameTaken d s))
      (hitsIssued s.solver.nextId d (frameHits d (frameTaken d s))
        (updateAdded (frameUpdate s.solver.nextId d (frameTaken d s)) (frameTaken d s)))) := by
  unfold associate
  extract_lets key s0 live a hits u s1 s2 b newborn v s4
  unfold tracksVoted tracksJudged missesJudged missesKept
  congr 1

theorem updateWork_hitsIssued {key : Nat} (d : DetectionSet) (hits : List ((Track × Moved) × Detection)) (s : State) :
    UpdateWork key s (hitsIssued key d hits s) :=
  updateWork_foldl (fun t _ => updateWork_issueJob _ _ _ _ t) hits s

theorem updateWork_missesKept {key : Nat} (d : DetectionSet) : ∀ (left : List (Track × Moved)) (s : State),
    UpdateWork key s (missesKept d left s)
  | [], s => .refl key s
  | c :: left, s => (updateWork_contestTrack d.instant c.1 c.2 false s).trans (updateWork_missesKept d left _)

theorem updateWork_missesJudged {key : Nat} (d : DetectionSet) (a : Matching) (v : State × List (Nat × Nat × Nat)) :
    UpdateWork key v.1 (missesJudged d a v) := by
  have hleft := updateWork_missesKept (key := key) d a.left v.1
  unfold missesJudged
  split
  · exact hleft.trans (updateWork_judgeSources _ _)
  · exact hleft

theorem updateWork_tracksVoted {key : Nat} (d : DetectionSet) (a : Matching) (hits : List ((Track × Moved) × Detection))
    (s : State) : UpdateWork key s (tracksVoted key d a hits s) := by
  have hborn := updateWork_giveBirths (key := key) d a.births s
  unfold tracksVoted tracksJudged
  generalize giveBirths key d a.births s = b at hborn ⊢
  exact (hborn.trans (updateWork_foldl_voteTrack d.instant _ (b.1, d.tally))).trans (updateWork_missesJudged d a _)

/-- Every live track is matched or missed. -/
theorem frameUpdate_tracks (key : Nat) (d : DetectionSet) {s : State} (hn : (s.glide.store.map (fun c => c.trackId)).Nodup) :
    ((frameUpdate key d s).entries.filterMap entryIndex ++ (frameUpdate key d s).misses.map (fun m => m.1)).Perm
      (s.glide.store.map (fun c => c.index)) := by
  have hids : (s.glide.store.map (fun c => (c, propagate s c d.instant))).map (fun t => t.1.trackId) =
      s.glide.store.map (fun c => c.trackId) := by
    rw [List.map_map]
    rfl
  have hperm := foldl_matchOne_perm s (d.detections.sortBy detectionBefore)
    { left := s.glide.store.map (fun c => (c, propagate s c d.instant)), hits := [], births := [] } (by
      show ((s.glide.store.map (fun c => (c, propagate s c d.instant))).map (fun t => t.1.trackId)).Nodup
      rwa [hids])
  have hindex := hperm.map (fun t : Track × Moved => t.1.index)
  have hjobs : (frameUpdate key d s).entries.filterMap entryIndex = (frameHits d s).map (fun h => h.1.1.index) := by
    simp only [frameUpdate, List.filterMap_map]
    exact congrFun (List.filterMap_eq_map' (f := fun h : (Track × Moved) × Detection => h.1.1.index)) (frameHits d s)
  have hmisses : (frameUpdate key d s).misses.map (fun m => m.1) = (frameMatching d s).left.map (fun t => t.1.index) := by
    simp only [frameUpdate, List.map_map]
    rfl
  rw [hjobs, hmisses]
  have hsorted : ((frameHits d s).map (fun h => h.1.1.index)).Perm ((frameMatching d s).hits.map (fun h => h.1.1.index)) :=
    (List.sortBy_perm _ _).map _
  refine (hsorted.append_right _).trans ?_
  simpa [matchedTracks, frameMatching, List.map_append, List.map_map, Function.comp_def] using hindex

theorem associate_spec (d : DetectionSet) {s : State} (hn : (s.glide.store.map (fun c => c.trackId)).Nodup)
    (hkeys : ∀ u ∈ s.glide.pending, u.key < s.solver.nextId) : (associate d s).glide.store = s.glide.store ∧
    (∃ u, (associate d s).glide.pending = s.glide.pending ++ [u] ∧ u.frame = d.frame ∧ u.instant = d.instant ∧ u.worker = none ∧
      (u.entries.filterMap entryIndex ++ u.misses.map (fun m => m.1)).Perm (s.glide.store.map (fun c => c.index))) ∧
    ChangesOnly [.glide, .solver, .align, .patrol] s (associate d s) := by
  rw [associate_eq]
  generalize hkey : s.solver.nextId = key at hkeys ⊢
  have htracks := frameUpdate_tracks key d (s := frameTaken d s) hn
  have htaken : ChangesOnly [.glide, .solver, .align, .patrol] s (frameTaken d s) :=
    ((changesOnly_modGlide _ s).comp (changesOnly_modSolver _ _)).mono (by simp)
  have hstore : (frameTaken d s).glide.store = s.glide.store := rfl
  have hpending : (frameTaken d s).glide.pending = s.glide.pending := rfl
  have hupdate : (frameUpdate key d (frameTaken d s)).key = key ∧ (frameUpdate key d (frameTaken d s)).frame = d.frame ∧
      (frameUpdate key d (frameTaken d s)).instant = d.instant ∧ (frameUpdate key d (frameTaken d s)).worker = none :=
    ⟨rfl, rfl, rfl, rfl⟩
  generalize frameMatching d (frameTaken d s) = a
  generalize frameHits d (frameTaken d s) = hits
  generalize frameUpdate key d (frameTaken d s) = u at htracks hupdate ⊢
  generalize frameTaken d s = v at htaken hstore hpending htracks ⊢
  have hadded : ChangesOnly [.glide, .solver, .align, .patrol] v (updateAdded u v) := (changesOnly_modGlide _ v).mono (by simp)
  have hwork : UpdateWork key (updateAdded u v) (settleUpdate key (tracksVoted key d a hits (hitsIssued key d hits (updateAdded u v)))) :=
    ((updateWork_hitsIssued d hits _).trans (updateWork_tracksVoted d a hits _)).trans (updateWork_settleUpdate _)
  obtain ⟨f, hf, hlist⟩ := hwork.pending
  refine ⟨hwork.store.trans hstore, ⟨f u, ?_, ?_⟩, (htaken.step hadded).step hwork.frame⟩
  · rw [hlist]
    show keyed key f (v.glide.pending ++ [u]) = _
    have hkept : keyed key f s.glide.pending = s.glide.pending := by
      refine (List.map_congr_left fun x hx => ?_).trans (List.map_id _)
      rw [if_neg (by simpa using (hkeys x hx).ne)]
      rfl
    rw [hpending, keyed, List.map_append, ← keyed, hkept, List.map_singleton, if_pos (by rw [hupdate.1]; exact beq_self_eq_true key)]
  · obtain ⟨-, hframe, hinstant, hworker⟩ := hupdate
    rw [(hf u).jobs, (hf u).misses]
    rw [hstore] at htracks
    exact ⟨(hf u).frame.trans hframe, (hf u).instant.trans hinstant, (hf u).worker.trans hworker, htracks⟩

/-! ## The arrival of a frame's last detection -/

section
variable {d : DetectionSet} {s : State}

/-- A frame's detections have all arrived. -/
def setArrived (frame at_ : Nat) (x : DetectionSet) : DetectionSet :=
  if x.frame == frame then { x with arrived := true, arrivedAt := at_ } else x

/-- The frame has arrived, and Gate 7 is open for it. -/
def frameArrived (d : DetectionSet) (s : State) : State :=
  armGate 7 d.frame (now s) (now s + shortestSpacing (effectiveRate s) * usUnits + msUnits)
    (modGlide (fun (g : Glide) => { g with arriving := g.arriving.map (setArrived d.frame (countNow s)) }) s)

theorem execDetectionsArrival_eq (ha : awake s = true) (hr : inRun s = true)
    (hd : s.glide.arriving.find? (fun d => !d.arrived) = some d) :
    execDetectionsArrival s = answer s (associateNext (frameArrived d s)) := by
  have hgo : (!inRun s) = false := by rw [hr]; rfl
  unfold execDetectionsArrival awakeAnswer
  rw [if_pos ha]
  simp only [hd, hgo, Bool.false_eq_true, if_false]
  rfl

theorem frameArrived_glide (d : DetectionSet) (s : State) : (frameArrived d s).glide =
    { s.glide with arriving := s.glide.arriving.map (setArrived d.frame (countNow s)) } :=
  (changesOnly_armGate 7 d.frame _ _ _) .glide (by simp)

theorem changesOnly_frameArrived (d : DetectionSet) (s : State) : ChangesOnly [.glide, .safety] s (frameArrived d s) :=
  (changesOnly_modGlide _ s).comp (changesOnly_armGate _ _ _ _ _)

theorem detectionsWait (ha : awake s = true) (hr : inRun s = true)
    (hd : s.glide.arriving.find? (fun d => !d.arrived) = some d) (hown : ∃ u ∈ s.glide.pending, u.worker = none) :
    Completes .detectionsArrival s fun t => t.glide.pending = s.glide.pending ∧ t.glide.store = s.glide.store ∧
      (∀ x ∈ t.glide.arriving, x.frame = d.frame → x.arrived = true) ∧ ChangesOnly [.glide, .safety] s t := by
  refine completes_of_answer ((exec_detectionsArrival s).trans (execDetectionsArrival_eq ha hr hd)) ?_
  have hglide := frameArrived_glide d s
  have hwaits : (frameArrived d s).glide.pending.any (fun u => u.worker.isNone) = true := by
    obtain ⟨u, hu, hworker⟩ := hown
    rw [hglide]
    exact List.any_eq_true.2 ⟨u, hu, by rw [hworker]; rfl⟩
  rw [associateNext, if_pos hwaits, settle_glide, hglide]
  refine ⟨rfl, rfl, fun x hx hframe => ?_, (changesOnly_frameArrived d s).settle s⟩
  obtain ⟨y, -, rfl⟩ := List.mem_map.1 hx
  by_cases hy : (y.frame == d.frame) = true
  · rw [setArrived, if_pos hy]
  · rw [setArrived, if_neg hy] at hframe
    exact absurd (beq_iff_eq.2 hframe) hy

theorem detectionsAssociate (ha : awake s = true) (hr : inRun s = true)
    (hd : s.glide.arriving.find? (fun d => !d.arrived) = some d) (hnone : ∀ u ∈ s.glide.pending, u.worker ≠ none)
    (hnew : ∀ x ∈ s.glide.arriving, x.arrived = false) (hn : (s.glide.store.map (fun c => c.trackId)).Nodup)
    (hkeys : s.glide.pending.all (fun u => decide (u.key < s.solver.nextId)) = true) :
    Completes .detectionsArrival s fun t => t.glide.store = s.glide.store ∧
      (∃ u, t.glide.pending = s.glide.pending ++ [u] ∧ u.frame = d.frame ∧ u.instant = d.instant ∧ u.worker = none ∧
        (u.entries.filterMap entryIndex ++ u.misses.map (fun m => m.1)).Perm (s.glide.store.map (fun c => c.index))) ∧
      ChangesOnly [.glide, .safety, .solver, .align, .patrol] s t := by
  refine completes_of_answer ((exec_detectionsArrival s).trans (execDetectionsArrival_eq ha hr hd)) ?_
  have hglide := frameArrived_glide d s
  have harrived := changesOnly_frameArrived d s
  have hfree : (frameArrived d s).glide.pending.any (fun u => u.worker.isNone) = false := by
    rw [hglide, List.any_eq_false]
    intro u hu
    simpa [Option.ne_none_iff_isSome] using hnone u hu
  have hfirst : (frameArrived d s).glide.arriving.find? (fun d => d.arrived) = some (setArrived d.frame (countNow s) d) := by
    rw [hglide]
    show (s.glide.arriving.map (setArrived d.frame (countNow s))).find? (fun d => d.arrived) = _
    cases hlist : s.glide.arriving with
    | nil =>
      rw [hlist] at hd
      exact nomatch hd
    | cons x xs =>
      rw [hlist, List.find?_cons_of_pos (by rw [hnew x (by simp [hlist])]; rfl)] at hd
      obtain rfl := Option.some.inj hd
      rw [List.map_cons, List.find?_cons_of_pos]
      rw [setArrived, if_pos (beq_self_eq_true _)]
  have hsolver : (frameArrived d s).solver = s.solver := harrived .solver (by simp)
  have hkept : (setArrived d.frame (countNow s) d).frame = d.frame ∧ (setArrived d.frame (countNow s) d).instant = d.instant := by
    rw [setArrived, if_pos (beq_self_eq_true _)]
    exact ⟨rfl, rfl⟩
  rw [associateNext, if_neg (by rw [hfree]; exact Bool.false_ne_true)]
  simp only [hfirst]
  have hspec := associate_spec (setArrived d.frame (countNow s) d) (s := frameArrived d s) (by rw [hglide]; exact hn) (by
    rw [hglide, hsolver]
    exact fun u hu => of_decide_eq_true (List.all_eq_true.1 hkeys u hu))
  rw [hglide, hkept.1, hkept.2] at hspec
  rw [settle_glide]
  exact ⟨hspec.1, hspec.2.1, ((harrived.comp hspec.2.2).mono (by simp)).settle s⟩

end

/-- Settles O45: hits, misses, births, and the association of a frame. -/
theorem tracksFollowTheirFrames : Obligations.TracksFollowTheirFrames := by
  unfold Obligations.TracksFollowTheirFrames
  exact ⟨fun p c d m frame f => hitTrack_spec p c d m frame f, fun p c code => missTrack_spec p c code,
    fun s i hnext hi => birthsTakeFree hnext hi, fun d s ha hr hd => ⟨fun hown => detectionsWait ha hr hd hown,
      fun hnone hnew hn hkeys => detectionsAssociate ha hr hd hnone hnew hn hkeys⟩⟩

end Sys2Proof.Machine
end

section
/-! The number of the next event (O46; R394). -/

namespace Sys2Proof.Machine

/-- A state in RUN whose tick at instant 0 is open, whose next event would be number 2 ^ 32, and whose result queue is in
overrun. -/
def beyondEvents : State := { liveRun with
  time := { liveRun.time with openTick := some 0, offset := 2 ^ 40 }
  glide := { liveRun.glide with eventSeq := 2 ^ 32 }
  host := { liveRun.host with result := { liveRun.host.result with overrun := true } } }

/-- The tick writes no event, and the number stands. -/
theorem beyondEvents_keeps : ∃ u, exec .egoStateForm beyondEvents = .next u ∧ u.glide.eventSeq = 2 ^ 32 := by
  refine ⟨_, rfl, ?_⟩
  decide +kernel

/-- Refutes O46: a tick without events leaves the number of the next event as it is, also where that is 2 ^ 32, which no
number modulo 2 ^ 32 equals. -/
theorem not_resultsAreFormedOncePerTick : ¬ Obligations.ResultsAreFormedOncePerTick := by
  unfold Obligations.ResultsAreFormedOncePerTick
  rintro ⟨-, -, -, -, hform, -⟩
  obtain ⟨t, hexec, -, -, -, -, -, -, -, ⟨n, -, hseq⟩, -⟩ := hform 0 beyondEvents (by decide +kernel) (by decide +kernel)
    rfl (by decide +kernel) (.inl (by decide +kernel))
  obtain ⟨u, hexec', hkeeps⟩ := beyondEvents_keeps
  obtain rfl : t = u := by simpa using hexec.symm.trans hexec'
  have hlt := Nat.mod_lt (beyondEvents.glide.eventSeq + n) (show 0 < 2 ^ 32 by decide)
  rw [← hseq, hkeeps] at hlt
  exact absurd hlt (by decide)

end Sys2Proof.Machine
end

section
/-! The result and event queues (O47; R408, R413 to R417). -/

namespace Sys2Proof.Machine

/-! ## Packets offered to the queues (R413, R414) -/

theorem packWordsAux_length : ∀ (n : Nat) (b : Bytes), (packWordsAux n b).length = n
  | 0, _ => rfl
  | 1, _ => rfl
  | n + 2, b => by rw [packWordsAux, List.length_cons, packWordsAux_length (n + 1)]; simp

/-- The notice of a result that has been written is on its way, not before 62 µs after its instant. -/
def ResultTold (at_ : Dts) (s t : State) : Prop :=
  ∃ c ∈ t.host.notices.coming, c.bit = causeResult ∧ (cutOf s 2 = 0 → c.from_ = at_ + 62 * usUnits)

section
variable {at_ : Dts} {n m : Nat} {build : Nat → Bytes} {s : State}

theorem offerResult_some (h : resultTracks s n = some m) : offerResult at_ n build s =
    (sendPacketFrom (if cutOf s 2 = 0 then at_ + 62 * usUnits else 0) 2 (build m)
      (if m < n then modOut 2 (fun (q : OutQueue) => { q with shortened := bump q.shortened }) s else s), some m) := by
  unfold offerResult
  rw [h]

/-- A packet that is sent tells of itself. -/
theorem resultTold_sendPacketFrom (b : Bytes) (s t : State) :
    ResultTold at_ s (sendPacketFrom (if cutOf s 2 = 0 then at_ + 62 * usUnits else 0) 2 b t) :=
  ⟨{ bit := 1, count := openCount (writeStart t 2) (cutOf t 2) (packWords b).length,
     from_ := if cutOf s 2 = 0 then at_ + 62 * usUnits else 0 },
    List.mem_append_right _ (List.mem_singleton.2 rfl), rfl, fun h => if_pos h⟩

theorem resultFits (ho : s.host.result.overrun = false) (hfree : 128 + 16 * n ≤ freeWords s 2) :
    (offerResult at_ n build s).2 = some n ∧ ResultTold at_ s (offerResult at_ n build s).1 ∧
    (offerResult at_ n build s).1.host.result.words =
      s.host.result.words ++ outWords (writeStart s 2) (cutOf s 2) (packWords (build n)) ∧
    (offerResult at_ n build s).1.host.result.shortened = s.host.result.shortened := by
  have htracks : resultTracks s n = some n := by
    rw [resultTracks, if_neg (by rw [ho]; exact Bool.false_ne_true), if_pos hfree]
  rw [offerResult_some htracks, if_neg (Nat.lt_irrefl n)]
  exact ⟨rfl, resultTold_sendPacketFrom _ s s, rfl, rfl⟩

theorem resultShortened (ho : s.host.result.overrun = false) (hfull : freeWords s 2 < 128 + 16 * n)
    (hfree : 128 ≤ freeWords s 2) :
    (offerResult at_ n build s).2 = some ((freeWords s 2 - 128) / 16) ∧ ResultTold at_ s (offerResult at_ n build s).1 ∧
    (offerResult at_ n build s).1.host.result.shortened = bump s.host.result.shortened ∧
    (offerResult at_ n build s).1.host.result.words = s.host.result.words ++
      outWords (writeStart s 2) (cutOf s 2) (packWords (build ((freeWords s 2 - 128) / 16))) := by
  have htracks : resultTracks s n = some ((freeWords s 2 - 128) / 16) := by
    rw [resultTracks, if_neg (by rw [ho]; exact Bool.false_ne_true), if_neg (Nat.not_le.2 hfull), if_pos hfree]
  have hlt : (freeWords s 2 - 128) / 16 < n := by omega
  rw [offerResult_some htracks, if_pos hlt]
  exact ⟨rfl, resultTold_sendPacketFrom _ s _, rfl, rfl⟩

theorem resultLost (h : s.host.result.overrun = true ∨ freeWords s 2 < 128) :
    (offerResult at_ n build s).2 = none ∧ (offerResult at_ n build s).1.host.result.words = s.host.result.words ∧
    (offerResult at_ n build s).1.host.result.overrun = true ∧
    (offerResult at_ n build s).1.host.result.lost = bump s.host.result.lost ∧
    (s.host.result.overrun = false → ∃ x, (offerResult at_ n build s).1.patrol.wires = s.patrol.wires ++ [x] ∧
      x.source = queueFault 2 0 ∧ x.cls = .ce) := by
  have htracks : resultTracks s n = none := by
    unfold resultTracks
    by_cases ho : s.host.result.overrun = true
    · rw [if_pos ho]
    · have hfull := h.resolve_left ho
      rw [if_neg ho, if_neg (by omega), if_neg (by omega)]
  unfold offerResult
  rw [htracks]
  dsimp only
  by_cases ho : s.host.result.overrun = true
  · rw [if_pos ho]
    exact ⟨rfl, rfl, rfl, rfl, fun hno => absurd (hno.symm.trans ho) nofun⟩
  · rw [if_neg ho]
    exact ⟨rfl, rfl, rfl, rfl, fun _ => ⟨_, rfl, rfl, rfl⟩⟩

end

theorem eventOffered {b : Bytes} {s : State} (hb : b.length = 63) :
    (9 ≤ freeWords s 3 → (offerEvent b s).host.event.words =
      s.host.event.words ++ outWords (writeStart s 3) (cutOf s 3) (packWords b) ∧ (packWords b).length = 9) ∧
    (freeWords s 3 < 9 → (offerEvent b s).host.event.words = s.host.event.words ∧
      (offerEvent b s).host.event.lost = bump s.host.event.lost) := by
  have hwords : wordsFor b.length = 9 := by rw [hb]; rfl
  unfold offerEvent
  rw [hwords]
  refine ⟨fun hfree => ?_, fun hfull => ?_⟩
  · rw [if_pos hfree]
    exact ⟨rfl, by rw [packWords, hwords, packWordsAux_length]⟩
  · rw [if_neg (Nat.not_le.2 hfull)]
    exact ⟨rfl, rfl⟩

/-! ## Pulses (R408) -/

section
variable {s t : State}

/-- With no packet becoming readable, none is told of. -/
theorem noticeReady_quiet (h : ∀ c ∈ s.host.notices.coming, countNow s < c.count ∨ now s < c.from_) : noticeReady s = s := by
  have hdue : ∀ c ∈ s.host.notices.coming, (decide (c.count ≤ countNow s) && decide (c.from_ ≤ now s)) = false := by
    intro c hc
    rcases h c hc with hlt | hlt
    · rw [decide_eq_false (Nat.not_le.2 hlt), Bool.false_and]
    · rw [decide_eq_false (Nat.not_le.2 hlt), Bool.and_false]
  have hnone : s.host.notices.coming.filter (fun c => decide (c.count ≤ countNow s) && decide (c.from_ ≤ now s)) = [] :=
    List.filter_eq_nil_iff.2 fun c hc => by rw [hdue c hc]; exact Bool.false_ne_true
  have hall : s.host.notices.coming.filter (fun c => !(decide (c.count ≤ countNow s) && decide (c.from_ ≤ now s))) =
      s.host.notices.coming := List.filter_eq_self.2 fun c hc => by rw [hdue c hc]; rfl
  unfold noticeReady
  simp only [hnone, hall, List.foldl_nil]

/-- A change of the notices alone, with nothing that becomes due, settles without a further pulse. -/
theorem settle_notices (x : Notices) (hx : x.coming = s.host.notices.coming) (hd : s.dev.degradation = degradationOf s)
    (h : ∀ c ∈ s.host.notices.coming, countNow s < c.count ∨ now s < c.from_) :
    (settle s { s with host := { s.host with notices := x } }).host.notices.waiting = x.waiting ∧
    (settle s { s with host := { s.host with notices := x } }).host.notices.pulses = x.pulses ∧
    (settle s { s with host := { s.host with notices := x } }).host.notices.lastPulse = x.lastPulse := by
  have hdeg : settleFlags { s with host := { s.host with notices := x } } = { s with host := { s.host with notices := x } } := by
    have hsame : degradationOf { s with host := { s.host with notices := x } } = s.dev.degradation := hd.symm
    unfold settleFlags
    rw [hsame]
  have hready : noticeReady { s with host := { s.host with notices := x } } = { s with host := { s.host with notices := x } } :=
    noticeReady_quiet (by
      show ∀ c ∈ x.coming, _
      rw [hx]
      exact h)
  have hstill : settleNotice s { s with host := { s.host with notices := x } } = { s with host := { s.host with notices := x } } := by
    have hsame : stateChanged s { s with host := { s.host with notices := x } } = false := by
      simp [stateChanged, flowService, inRun]
    have hflow : (!flowService s && flowService { s with host := { s.host with notices := x } }) = false := by
      show (!flowService s && flowService s) = false
      simp
    unfold settleNotice
    rw [hsame, if_neg Bool.false_ne_true]
    dsimp only
    rw [hflow, if_neg Bool.false_ne_true]
  unfold settle
  rw [hdeg, hready, hstill]
  exact ⟨rfl, rfl, rfl⟩

theorem changesOnly_notices (x : Notices) (hx : x.mask = s.host.notices.mask) :
    ChangesOnly [] s { s with host := { s.host with notices := x } } := by
  rw [changesOnly_iff]
  simp [Part.same, hx]

/-- The notices once a pulse has begun. -/
def pulseBegun (s : State) : Notices :=
  { s.host.notices with
    waiting := s.host.notices.waiting - 1, lastPulse := some (countNow s), pulses := s.host.notices.pulses + 1 }

theorem pulseIssues (ha : awake s = true) (hd : s.dev.degradation = degradationOf s)
    (hc : ∀ c ∈ s.host.notices.coming, countNow s < c.count ∨ now s < c.from_) (hw : s.host.notices.waiting ≠ 0)
    (hl : ∀ c, s.host.notices.lastPulse = some c → c + 100 ≤ countNow s) (hf : flowService s = false) (ht : t16 s = false) :
    Completes .noticePulse s fun t => t.host.notices.waiting = s.host.notices.waiting - 1 ∧
      t.host.notices.pulses = s.host.notices.pulses + 1 ∧ t.host.notices.lastPulse = some (countNow s) ∧ ChangesOnly [] s t := by
  have heq : execNoticePulse s = answer s { s with host := { s.host with notices := pulseBegun s } } := by
    unfold execNoticePulse awakeAnswer
    rw [if_pos ha]
    dsimp only
    rw [if_neg]
    · rfl
    · rw [hf, ht, decide_eq_false hw]
      cases hlast : s.host.notices.lastPulse with
      | none => simp
      | some c => simp [hl c hlast]
  refine completes_of_answer ((exec_noticePulse s).trans heq) ?_
  obtain ⟨hwaiting, hpulses, hlast⟩ := settle_notices (pulseBegun s) rfl hd hc
  have hframe := changesOnly_notices (s := s) (pulseBegun s) rfl
  exact ⟨hwaiting, hpulses, hlast, hframe.settle s⟩

theorem pulseWaits (ha : awake s = true) (hd : s.dev.degradation = degradationOf s)
    (hc : ∀ c ∈ s.host.notices.coming, countNow s < c.count ∨ now s < c.from_)
    (hno : s.host.notices.waiting = 0 ∨ flowService s = true ∨ t16 s = true) :
    Completes .noticePulse s fun t => t.host.notices.pulses = s.host.notices.pulses ∧ ChangesOnly [] s t := by
  have heq : execNoticePulse s = answer s { s with host := { s.host with notices := s.host.notices } } := by
    unfold execNoticePulse awakeAnswer
    rw [if_pos ha]
    refine congrArg (answer s) (if_pos ?_)
    rcases hno with h | h | h <;> simp [h]
  refine completes_of_answer ((exec_noticePulse s).trans heq) ?_
  exact ⟨(settle_notices s.host.notices rfl hd hc).2.1, (changesOnly_notices _ rfl).settle s⟩

end

/-! ## Resets (R415) -/

section
variable {k : CmdKey} {c : Cmd} {n : Nat} {s t : State}

/-- An outbound queue of results or events and its part. -/
theorem outQueue_core (hn : n = 2 ∨ n = 3) (h : ChangesOnly [] s t) : (outQueue t n).core = (outQueue s n).core := by
  rcases hn with rfl | rfl
  · exact h .result (by simp)
  · exact h .event (by simp)

theorem changesOnly_setOutQueue (hn : n = 2 ∨ n = 3) (q : OutQueue) (s : State) :
    ChangesOnly [if n = 2 then .result else .event] s (setOutQueue n q s) := by
  rcases hn with rfl | rfl
  · rw [if_pos rfl, changesOnly_iff]
    simp [Part.same, setOutQueue]
  · rw [if_neg (by decide), changesOnly_iff]
    simp [Part.same, setOutQueue]

theorem changesOnly_dropComing (n : Nat) (s : State) : ChangesOnly [] s (dropComing n s) := changesOnly_notices _ rfl

theorem changesOnly_sendPacket (hn : n = 2 ∨ n = 3) (b : Bytes) (s : State) :
    ChangesOnly [if n = 2 then .result else .event] s (sendPacket n b s) :=
  (changesOnly_setOutQueue hn _ s).step ((changesOnly_notices _ rfl).mono (by simp))

/-- A queue whose reset has begun. -/
def queueEmptied (k : CmdKey) (n : Nat) (s : State) : OutQueue :=
  { emptyQueue (some k) (outQueue s n) with resetNext := afterReset s n, stagedUntil := 0 }

/-- The bytes of the result that is being written. -/
def resultStaged (s : State) : Bytes :=
  (unpackWords s.host.result.staged).take (fld (unpackWords s.host.result.staged) 32 32)

theorem beginQueueReset_eq (k : CmdKey) (n : Nat) (s : State) : beginQueueReset n (some k) s =
    if n = 2 ∧ unfinished s = true then sendPacket 2 (resultStaged s) (dropComing n (setOutQueue n (queueEmptied k n s) s))
    else dropComing n (setOutQueue n (queueEmptied k n s) s) := rfl

/-- What the beginning of a reset makes of a queue. -/
structure QueueReset (k : CmdKey) (n : Nat) (s t : State) : Prop where
  words : ¬ (n = 2 ∧ unfinished s = true) → (outQueue t n).words = []
  again : n = 2 → unfinished s = true →
    (outQueue t n).words = outWords (countNow s) (cutOf s 2) (packWords (resultStaged s))
  next : (outQueue t n).resetNext = afterReset s n
  overrun : (outQueue t n).overrun = false
  inReset : (outQueue t n).inReset = true
  resets : (outQueue t n).resets = bump (outQueue s n).resets
  lost : (outQueue t n).lost = (outQueue s n).lost
  shortened : (outQueue t n).shortened = (outQueue s n).shortened
  by_ : (outQueue t n).resetBy = some k

theorem queueReset_begins (k : CmdKey) (hn : n = 2 ∨ n = 3) (s : State) : QueueReset k n s (beginQueueReset n (some k) s) := by
  rw [beginQueueReset_eq]
  by_cases hagain : n = 2 ∧ unfinished s = true
  · rw [if_pos hagain]
    obtain ⟨rfl, hu⟩ := hagain
    exact ⟨fun h => absurd ⟨rfl, hu⟩ h, fun _ _ => rfl, rfl, rfl, rfl, rfl, rfl, rfl, rfl⟩
  · rw [if_neg hagain]
    have hqueue : outQueue (dropComing n (setOutQueue n (queueEmptied k n s) s)) n = queueEmptied k n s := by
      rcases hn with rfl | rfl
      · rfl
      · rfl
    refine ⟨fun _ => ?_, fun h2 hu => absurd ⟨h2, hu⟩ hagain, ?_, ?_, ?_, ?_, ?_, ?_, ?_⟩ <;> rw [hqueue] <;> rfl

/-- A field of a queue that its peak and its level do not enter. -/
theorem field_of_core {α : Type} (f : OutQueue → α) (hf : ∀ q : OutQueue, f q.core = f q) {q r : OutQueue}
    (h : q.core = r.core) : f q = f r := by
  rw [← hf q, h, hf r]

theorem QueueReset.of_core {u : State} (h : QueueReset k n s u) (hcore : (outQueue t n).core = (outQueue u n).core) :
    QueueReset k n s t :=
  have hwords := field_of_core OutQueue.words (fun _ => rfl) hcore
  ⟨fun hw => hwords.trans (h.words hw), fun h2 hu => hwords.trans (h.again h2 hu),
    (field_of_core OutQueue.resetNext (fun _ => rfl) hcore).trans h.next,
    (field_of_core OutQueue.overrun (fun _ => rfl) hcore).trans h.overrun,
    (field_of_core OutQueue.inReset (fun _ => rfl) hcore).trans h.inReset,
    (field_of_core OutQueue.resets (fun _ => rfl) hcore).trans h.resets,
    (field_of_core OutQueue.lost (fun _ => rfl) hcore).trans h.lost,
    (field_of_core OutQueue.shortened (fun _ => rfl) hcore).trans h.shortened,
    (field_of_core OutQueue.resetBy (fun _ => rfl) hcore).trans h.by_⟩

theorem changesOnly_beginQueueReset (k : CmdKey) (hn : n = 2 ∨ n = 3) (s : State) :
    ChangesOnly [if n = 2 then .result else .event] s (beginQueueReset n (some k) s) := by
  have hempty : ChangesOnly [if n = 2 then .result else .event] s (dropComing n (setOutQueue n (queueEmptied k n s) s)) :=
    (changesOnly_setOutQueue hn (queueEmptied k n s) s).step
      ((changesOnly_dropComing n (setOutQueue n (queueEmptied k n s) s)).mono (by simp))
  rw [beginQueueReset_eq]
  by_cases hagain : n = 2 ∧ unfinished s = true
  · rw [if_pos hagain]
    obtain ⟨rfl, -⟩ := hagain
    have hsent := changesOnly_sendPacket (n := 2) (.inl rfl) (resultStaged s) (dropComing 2 (setOutQueue 2 (queueEmptied k 2 s) s))
    exact hempty.step hsent
  · rw [if_neg hagain]
    exact hempty

theorem resetBegins (hr : Ready k 0x0B03 s c) (hp : fld c.params 0 8 = n) (hn : n = 2 ∨ n = 3)
    (hidle : (outQueue s n).inReset = false) : Completes (.resetQueue k) s fun t => QueueReset k n s t ∧
      ChangesOnly [if n = 2 then .result else .event] s t := by
  refine completes_of_command (f := fun c s =>
    if resetHeld s (fld c.params 0 8) then s else beginQueueReset (fld c.params 0 8) (some k) s) (exec_resetQueue k s) hr ?_
  rw [hp, if_neg (by rw [resetHeld, hidle]; exact Bool.false_ne_true)]
  exact ⟨(queueReset_begins k hn s).of_core (outQueue_core hn ((ChangesOnly.refl [] _).settle s)),
    (changesOnly_beginQueueReset k hn s).settle s⟩

/-- A queue whose reset is over. -/
def resetOver (n : Nat) (s : State) : State :=
  modOut n (fun (q : OutQueue) => { q with inReset := false, resetBy := none }) s

theorem execQueueResetComplete_eq (ha : awake s = true) (hn : n = 2 ∨ n = 3) (hby : (outQueue s n).resetBy = some k)
    (hc : flightOf k s = some c) : execQueueResetComplete n s =
      answer s (doneWith c (bytesOfNat 8 (outQueue s n).resetNext) (resetOver n s)) := by
  have hcmd : flightOf k (resetOver n s) = some c := by
    rcases hn with rfl | rfl
    · exact hc
    · exact hc
  have hnext : (outQueue (resetOver n s) n).resetNext = (outQueue s n).resetNext := by
    rcases hn with rfl | rfl
    · rfl
    · rfl
  unfold execQueueResetComplete awakeAnswer
  rw [if_pos ha]
  dsimp only
  rw [if_neg (by omega)]
  simp only [hby]
  rw [show modOut n (fun (q : OutQueue) => { q with inReset := false, resetBy := none }) s = resetOver n s from rfl, hcmd, ← hnext]

theorem resetEnds (ha : awake s = true) (hn : n = 2 ∨ n = 3) (hby : (outQueue s n).resetBy = some k)
    (hc : flightOf k s = some c) : Completes (.queueResetComplete n) s fun t =>
      Replied c stDone 0 (bytesOfNat 8 (outQueue s n).resetNext) s t ∧
      (outQueue t n).inReset = false ∧ (outQueue t n).resetBy = none ∧
      ChangesOnly [.flight, .reply, if n = 2 then .result else .event] s t := by
  refine completes_of_answer ((exec_queueResetComplete n s).trans (execQueueResetComplete_eq ha hn hby hc)) ?_
  have hover := changesOnly_setOutQueue hn { outQueue s n with inReset := false, resetBy := none } s
  have hcore : (outQueue (settle s (doneWith c (bytesOfNat 8 (outQueue s n).resetNext) (resetOver n s))) n).core =
      (outQueue (resetOver n s) n).core := by
    have hends := (changesOnly_finish c stDone 0 (bytesOfNat 8 (outQueue s n).resetNext) (resetOver n s)).settle s
    rcases hn with rfl | rfl
    · exact hends .result (by simp)
    · exact hends .event (by simp)
  have hqueue : outQueue (resetOver n s) n = { outQueue s n with inReset := false, resetBy := none } := by
    rcases hn with rfl | rfl
    · rfl
    · rfl
  rw [hqueue] at hcore
  have hparts : Part.flight ∉ [if n = 2 then Part.result else .event] ∧ Part.reply ∉ [if n = 2 then Part.result else .event] ∧
      Part.time ∉ [if n = 2 then Part.result else .event] := by
    rcases hn with rfl | rfl <;> decide
  exact ⟨replied_of_frame hover hparts.1 hparts.2.1 hparts.2.2 c stDone 0 _,
    field_of_core OutQueue.inReset (fun _ => rfl) hcore, field_of_core OutQueue.resetBy (fun _ => rfl) hcore, changesOnly_finished hover c stDone 0 _ (by simp)⟩

end

/-- Settles O47: results and events that are offered, pulses, and the beginning and the end of a queue's reset. -/
theorem queuesFillAndReset : Obligations.QueuesFillAndReset := by
  unfold Obligations.QueuesFillAndReset
  refine ⟨fun at_ n build s => ⟨resultFits, resultShortened, resultLost⟩, fun b s hb => eventOffered hb,
    fun s ha hd hc => ⟨fun hw hl hf ht => pulseIssues ha hd hc hw hl hf ht, fun hno => pulseWaits ha hd hc hno⟩,
    fun k c n s hr hp hn hidle => ?_, fun k c n s ha hn hby hc => resetEnds ha hn hby hc⟩
  obtain ⟨t, hexec, hreset, hframe⟩ := resetBegins hr hp hn hidle
  refine ⟨t, hexec, hreset.words, hreset.again, fun h3 => ?_, fun h2 hu => ?_, hreset.overrun, hreset.inReset, hreset.resets,
    hreset.lost, hreset.shortened, hreset.by_, hframe⟩
  · rw [hreset.next, afterReset, if_pos h3]
  · rw [hreset.next, afterReset, if_neg (by omega), hu, if_neg Bool.false_ne_true]

end Sys2Proof.Machine
end

section
/-! A block reset that a command asks for (O49; R58, R445): the subsystem's commands end by their keys. -/

namespace Sys2Proof.Machine

/-- A state in which RESET_SUBSYSTEM of subsystem 3 has started, and a command of that subsystem stands in flight under the same
key. -/
def sharedKey : State := setFlight [cmd1 0x0105 [3], cmd1 0x0300 []] live

theorem sharedKey_ready : Ready key1 0x0105 sharedKey (cmd1 0x0105 [3]) := ⟨rfl, rfl, rfl⟩

/-- The reset ends the subsystem's command, and with it every command of its key. -/
theorem sharedKey_leaves : ∃ u, exec (.resetSubsystem key1) sharedKey = .next u ∧ flightOf key1 u = none := by
  refine ⟨_, rfl, ?_⟩
  decide +kernel

/-- Refutes O49: the statement does not ask that no other command in flight has the key of RESET_SUBSYSTEM; where a command of
the reset subsystem has it, the reset ends both, and RESET_SUBSYSTEM is no longer in flight. -/
theorem not_verdictsReactionsAndResets : ¬ Obligations.VerdictsReactionsAndResets := by
  unfold Obligations.VerdictsReactionsAndResets
  rintro ⟨-, -, -, hreset, -⟩
  obtain ⟨hblock, -⟩ := hreset key1 _ sharedKey sharedKey_ready rfl rfl rfl rfl nofun
  obtain ⟨t, hexec, -, hstays, -⟩ := hblock rfl
  obtain ⟨u, hexec', hleaves⟩ := sharedKey_leaves
  obtain rfl : t = u := by simpa using hexec.symm.trans hexec'
  rw [hleaves] at hstays
  exact absurd hstays (by decide)

end Sys2Proof.Machine
end

section
/-! Collector cycles (R425 to R430): what the judgement of a single report comes to. -/

namespace Sys2Proof.Machine

/-! ## A step of Patrol's own state -/

section
variable {s : State} {q : Report} {r : FaultRecord} {sub : Nat}

theorem changesOnly_notice (b : Nat) (s : State) : ChangesOnly [] s (notice b s) := by
  refine changesOnly_notices _ ?_
  dsimp only
  split_ifs <;> rfl

theorem openRec_modPatrol {f : Patrol → Patrol} (h : (f s.patrol).opens = s.patrol.opens) (sub : Nat) :
    openRec (modPatrol f s) sub = openRec s sub := by
  show ((f s.patrol).opens.find? _).map _ = _
  rw [h]
  rfl

/-- The first entry of a key once the key has been set. -/
theorem find?_assocSet {β : Type} (l : List (Nat × β)) (k : Nat) (v : β) :
    ((assocSet l k v).find? fun x => x.1 == k).map (fun x => x.2) = some v := by
  unfold assocSet
  split
  case isTrue hany =>
    induction l with
    | nil => simp at hany
    | cons x l ih =>
      by_cases hx : x.1 = k
      · simp [hx]
      · have hrest : l.any (fun p => p.1 == k) = true := by simpa [hx] using hany
        simpa [hx] using ih hrest
  case isFalse hany =>
    have hnone : l.find? (fun x => x.1 == k) = none :=
      List.find?_eq_none.mpr fun x hx hk => hany (List.any_eq_true.mpr ⟨x, hx, hk⟩)
    rw [List.find?_append, hnone]
    simp

theorem openRec_putRec (r : FaultRecord) (s : State) : openRec (putRec r s) (sourceSub r.source) = some r :=
  find?_assocSet s.patrol.opens (sourceSub r.source) r

theorem modRec_of_open (h : openRec s sub = some r) (f : FaultRecord → FaultRecord) : modRec sub f s = putRec (f r) s := by
  rw [modRec, h]

theorem latchRec_of_open (h : openRec s sub = some r) :
    latchRec sub s = notice causeFault (modPatrol (fun (p : Patrol) => { p with latch := some r }) s) := by
  rw [latchRec, h]

/-- A record that is neither fatal nor in a reset shadow closes. -/
theorem closeRec_of_open (h : openRec s sub = some r) (hfatal : r.cls ≠ .fa) (hshadow : r.shadow = false) :
    closeRec sub s = updateCopies { r with isOpen := false, awaitingFrom := none, closeDue := false }
      (modPatrol (fun (p : Patrol) => { p with opens := p.opens.filter (fun x => x.1 != sub) }) s) := by
  have hcls : (r.cls == FaultClass.fa) = false := by simpa using hfatal
  simp only [closeRec, h, hcls, hshadow, Bool.false_eq_true, if_false]

theorem changesOnly_updateCopies (r : FaultRecord) (s : State) : ChangesOnly [.patrol] s (updateCopies r s) :=
  changesOnly_modPatrol _ s

theorem changesOnly_putRec (r : FaultRecord) (s : State) : ChangesOnly [.patrol] s (putRec r s) :=
  (changesOnly_modPatrol _ s).step (changesOnly_updateCopies r _)

theorem changesOnly_modRec (sub : Nat) (f : FaultRecord → FaultRecord) (s : State) : ChangesOnly [.patrol] s (modRec sub f s) := by
  unfold modRec
  split
  · exact changesOnly_putRec _ s
  · exact .refl _ s

theorem changesOnly_closeRec (sub : Nat) (s : State) : ChangesOnly [.patrol] s (closeRec sub s) := by
  unfold closeRec
  split
  · exact .refl _ s
  · split_ifs
    · exact .refl _ s
    · exact changesOnly_putRec _ s
    · exact (changesOnly_modPatrol _ s).step (changesOnly_updateCopies _ _)

theorem changesOnly_countClass (c : FaultClass) (s : State) : ChangesOnly [.patrol] s (countClass c s) := changesOnly_modPatrol _ s

theorem changesOnly_logRecord (r : FaultRecord) (s : State) : ChangesOnly [.patrol] s (logRecord r s) :=
  (changesOnly_countClass r.cls s).step (changesOnly_modPatrol _ _)

theorem changesOnly_latchRec (sub : Nat) (s : State) : ChangesOnly [.patrol] s (latchRec sub s) := by
  unfold latchRec
  split
  · exact (changesOnly_modPatrol _ s).step ((changesOnly_notice _ _).mono (by simp))
  · exact .refl _ s

/-! ## One report in its cycle -/

/-- A report's cycle is taken up: no report waits, and the cycle counts as judged. -/
def cycleTaken (q : Report) (s : State) : State :=
  modPatrol (fun (p : Patrol) => { p with arrived := [], judgedTo := q.at_ / usUnits * usUnits + usUnits }) s

theorem execCollectorJudgement_single (ha : awake s = true) (harrived : s.patrol.arrived = [q])
    (hpointer : s.patrol.pointerFault = none) (hnew : s.patrol.judgedTo ≤ q.at_ / usUnits * usUnits)
    (hdue : q.at_ / usUnits * usUnits + 3 * usUnits ≤ now s) :
    execCollectorJudgement s = answer s (judgeCycle [q] (cycleTaken q s)) := by
  have hsettled : settlePointer s = s := by rw [settlePointer, hpointer]
  have hcycle : cycleOf s q = q.at_ / usUnits * usUnits := max_eq_left hnew
  have hall : s.patrol.arrived.filter (fun x => cycleOf s x == q.at_ / usUnits * usUnits) = [q] := by
    rw [harrived, List.filter_cons_of_pos (by simp [hcycle]), List.filter_nil]
  have hlate : [q].filter (fun x => decide (x.at_ / usUnits * usUnits < s.patrol.judgedTo)) = [] := by
    simpa using hnew
  have hrest : s.patrol.arrived.filter (fun x => !([q] : List Report).contains x) = [] := by simp [harrived]
  have htaken : modPatrol (fun (p : Patrol) => { p with
      arrived := p.arrived.filter (fun x => !([q] : List Report).contains x), judgedTo := q.at_ / usUnits * usUnits + usUnits }) s
      = cycleTaken q s :=
    congrArg (fun l => modPatrol (fun (p : Patrol) => { p with arrived := l, judgedTo := q.at_ / usUnits * usUnits + usUnits }) s) hrest
  have hfirst : (s.patrol.arrived.map (cycleOf s)).foldl (fun (m : Option Nat) c => some (min (m.getD c) c)) none =
      some (q.at_ / usUnits * usUnits) := by
    simp [harrived, hcycle]
  unfold execCollectorJudgement awakeAnswer
  rw [if_pos ha]
  dsimp only
  rw [hsettled, hfirst]
  dsimp only
  rw [if_neg (Nat.not_lt.mpr hdue), hall, hlate, htaken]
  rfl

theorem judgeSub_none (acc : State × List FaultRecord) (sub : Nat) (h : sub ≠ sourceSub q.source) :
    judgeSub [q] acc sub = acc := by
  have hnone : [q].filter (fun x => sourceSub x.source == sub) = [] := by simpa using fun h' => h h'.symm
  unfold judgeSub
  rw [hnone]
  simp only [reportFirst, List.foldl_nil]

/-- No report is judged for any subsystem. -/
theorem judgeSubs_nil (acc : State × List FaultRecord) : ∀ l : List Nat, l.foldl (judgeSub []) acc = acc
  | [] => rfl
  | sub :: l => by
    have hone : judgeSub [] acc sub = acc := by
      unfold judgeSub
      simp only [List.filter_nil, reportFirst, List.foldl_nil]
    rw [List.foldl_cons, hone]
    exact judgeSubs_nil acc l

/-- One work of a list acts alone. -/
theorem foldl_alone {α β : Type} {f : β → α → β} {k : α} (h : ∀ b x, x ≠ k → f b x = b) (b : β) :
    ∀ l : List α, l.Nodup → k ∈ l → l.foldl f b = f b k
  | x :: l, hl, hk => by
    obtain ⟨hx, hl'⟩ := List.nodup_cons.mp hl
    rw [List.foldl_cons]
    by_cases hxk : x = k
    · subst hxk
      have hrest : ∀ (b : β) (m : List α), x ∉ m → m.foldl f b = b := by
        intro b m
        induction m with
        | nil => exact fun _ => rfl
        | cons y m ih =>
          intro hm
          obtain ⟨hy, hm'⟩ : x ≠ y ∧ x ∉ m := by simpa using hm
          rw [List.foldl_cons, h b y (Ne.symm hy)]
          exact ih hm'
      exact hrest _ l hx
    · rw [h b x hxk]
      exact foldl_alone h b l hl' ((List.mem_cons.mp hk).resolve_left (Ne.symm hxk))

theorem judgeSubs_single (s : State) (hsub : sourceSub q.source < 32) :
    (List.range 32).foldl (judgeSub [q]) (s, []) = judgeSub [q] (s, []) (sourceSub q.source) :=
  foldl_alone (fun acc sub h => judgeSub_none acc sub h) (s, []) (List.range 32) List.nodup_range (List.mem_range.mpr hsub)

theorem judgeSub_opens (hopen : openRec s (sourceSub q.source) = none) :
    judgeSub [q] (s, []) (sourceSub q.source) = (s, [newRecord q]) := by
  have hreports : [q].filter (fun x => sourceSub x.source == sourceSub q.source) = [q] := by simp
  unfold judgeSub
  rw [hreports]
  simp [hopen, reportFirst, newRecord]

theorem judgeSub_merges (hopen : openRec s (sourceSub q.source) = some r) (hother : q.cls = .ce) :
    judgeSub [q] (s, []) (sourceSub q.source) =
      (if (mergeInto r q).cls == r.cls then putRec (mergeInto r q) s
        else countClass (mergeInto r q).cls (putRec (mergeInto r q) s), []) := by
  have hreports : [q].filter (fun x => sourceSub x.source == sourceSub q.source) = [q] := by simp
  have hown : ownOutcome s r q = false := by simp [ownOutcome, hother]
  unfold judgeSub
  rw [hreports]
  simp [hopen, reportFirst, hown]

/-- The judgement of a cycle with one report of a detector. -/
theorem judgeCycle_single (hkind : q.kind = .detection) (hreal : q.injected = false) (hfatal : q.cls ≠ .fa)
    (hsub : sourceSub q.source < 32) (s : State) : judgeCycle [q] s =
      let judged := judgeSub [q] (s, []) (sourceSub q.source)
      let logged := (judged.2.sortBy recordBefore).foldl (fun (t : State) r => logRecord r t) judged.1
      (judged.2.filter (fun r => r.cls == .ce)).foldl (fun (t : State) r => closeRec (sourceSub r.source) t)
        (judgeReport q (judgeLatch [q] (!judged.2.isEmpty) logged)) := by
  have hreports : [q].filter (fun x => x.kind == .detection && !x.injected) = [q] := by simp [hkind, hreal]
  have hinjected : [q].filter (fun x => x.kind == .detection && x.injected) = [] := by simp [hreal]
  have hclean : [q].filter (fun x => x.kind == .retryClean) = [] := by simp [hkind]
  have hnofa : [q].any (fun x => x.cls == .fa) = false := by simpa using hfatal
  unfold judgeCycle
  rw [hreports, hinjected, hclean]
  dsimp only
  rw [hnofa, judgeSubs_single s hsub]
  simp only [List.map_nil, List.append_nil, List.foldl_nil, List.foldl_cons, Bool.false_eq_true, if_false]

/-- The judgement of a cycle with one injected report. -/
theorem judgeCycle_injected (hkind : q.kind = .detection) (hinjected : q.injected = true) (s : State) :
    judgeCycle [q] s = judgeInjected q (judgeLatch [] false (logRecord (newRecord q) s)) := by
  have hreports : [q].filter (fun x => x.kind == .detection && !x.injected) = [] := by simp [hinjected]
  have hone : [q].filter (fun x => x.kind == .detection && x.injected) = [q] := by simp [hkind, hinjected]
  have hclean : [q].filter (fun x => x.kind == .retryClean) = [] := by simp [hkind]
  unfold judgeCycle
  rw [hreports, hone, hclean]
  dsimp only
  rw [judgeSubs_nil]
  rfl

end

end Sys2Proof.Machine
end

section
/-! Checkers under test (O51; R463, R466, R468 to R472, R476 to R478). -/

namespace Sys2Proof.Machine

/-! ## Injection (R468, R469) -/

section
variable {k : CmdKey} {c : Cmd} {cls : FaultClass} {level : Nat} {x : Injection} {q : Report} {s : State}

/-- The report of the checker that INJECT_FAULT names. -/
def injectedReport (c : Cmd) (cls : FaultClass) (level : Nat) (s : State) : Report :=
  { source := fld c.params 0 12, unit := fld c.params 12 6, cls := cls, level := level, detail := fld c.params 32 32 % 2 ^ 23,
    at_ := now s + freeNat 32 s % (reportLimit (fld c.params 0 12) (fld c.params 20 4) + 1) * nsUnits,
    kind := .detection, injected := true }

/-- An injection that has begun. -/
def injectionBegun (k : CmdKey) (c : Cmd) (cls : FaultClass) (level : Nat) (s : State) : State :=
  modSafety (fun (y : Safety) => { y with
      injection := some { key := k, source := fld c.params 0 12, unit := fld c.params 12 6, kind := fld c.params 20 4, at_ := now s } })
    (modPatrol (fun (p : Patrol) => { p with wires := p.wires ++ [injectedReport c cls level s] }) (spent s))

theorem changesOnly_injectionBegun (k : CmdKey) (c : Cmd) (cls : FaultClass) (level : Nat) (s : State) :
    ChangesOnly [.patrol, .safety, .freeCount] s (injectionBegun k c cls level s) :=
  (((changesOnly_spent s).comp (changesOnly_modPatrol _ _)).comp (changesOnly_modSafety _ _)).mono (by simp)

theorem injectionBegins (hr : Ready k 0x0D03 s c) (hidle : s.safety.injection = none)
    (hfault : injectedFault (fld c.params 0 12) (fld c.params 12 6) (fld c.params 20 4) = some (cls, level)) :
    Completes (.injectFault k) s fun t =>
      (∃ r, t.patrol.wires = s.patrol.wires ++ [r] ∧ r.injected = true ∧ r.source = fld c.params 0 12 ∧
        r.unit = fld c.params 12 6 ∧ r.cls = cls ∧ r.level = level ∧ now s ≤ r.at_ ∧
        r.at_ ≤ now s + reportLimit (fld c.params 0 12) (fld c.params 20 4) * nsUnits) ∧
      (∃ x, t.safety.injection = some x ∧ x.key = k ∧ x.source = fld c.params 0 12 ∧ x.unit = fld c.params 12 6 ∧
        x.at_ = now s) ∧ t.host.flight = s.host.flight ∧ ChangesOnly [.patrol, .safety, .freeCount] s t := by
  refine completes_of_command (exec_injectFault k s) hr ?_
  simp only [hidle, hfault]
  have hframe := (changesOnly_injectionBegun k c cls level s).settle s
  have hlate : freeNat 32 s % (reportLimit (fld c.params 0 12) (fld c.params 20 4) + 1) * nsUnits ≤
      reportLimit (fld c.params 0 12) (fld c.params 20 4) * nsUnits :=
    Nat.mul_le_mul_right _ (Nat.lt_succ_iff.mp (Nat.mod_lt _ (Nat.succ_pos _)))
  refine ⟨⟨injectedReport c cls level s, ?_, rfl, rfl, rfl, rfl, rfl, Nat.le_add_right _ _, Nat.add_le_add_left hlate _⟩,
    ⟨{ key := k, source := fld c.params 0 12, unit := fld c.params 12 6, kind := fld c.params 20 4, at_ := now s }, ?_, rfl,
      rfl, rfl, rfl⟩, hframe .flight (by simp), hframe⟩
  · rw [settle_patrol]
    rfl
  · rw [settle_safety]
    rfl

/-- The injection is over. -/
def injectionOver (s : State) : State := modSafety (fun (y : Safety) => { y with injection := none }) s

theorem changesOnly_injectionOver (s : State) : ChangesOnly [.safety] s (injectionOver s) := changesOnly_modSafety _ s

theorem endInjection_eq (hc : flightOf x.key s = some c) (record : Bytes) (latency : Nat) :
    endInjection x record latency s = doneWith c (record ++ bytesOfNat 4 latency) (injectionOver s) := by
  have hkept : flightOf x.key (injectionOver s) = some c := hc
  show (match flightOf x.key (injectionOver s) with
    | some c => doneWith c (record ++ bytesOfNat 4 latency) (injectionOver s)
    | none => injectionOver s) = _
  rw [hkept]

/-- An injected report in the log. -/
def injectedLogged (q : Report) (s : State) : State := logRecord (newRecord q) (cycleTaken q s)

theorem changesOnly_injectedLogged (q : Report) (s : State) : ChangesOnly [.patrol] s (injectedLogged q s) :=
  (changesOnly_modPatrol _ s).step (changesOnly_logRecord _ _)

theorem countClass_patrol (d : FaultClass) (s : State) : (countClass d s).patrol.latch = s.patrol.latch ∧
    (countClass d s).patrol.opens = s.patrol.opens ∧ (countClass d s).patrol.retries = s.patrol.retries ∧
    (countClass d s).patrol.nextSeq = s.patrol.nextSeq ∧ (countClass d s).patrol.arrived = s.patrol.arrived ∧
    (countClass d s).patrol.log = s.patrol.log ∧ (countClass d s).patrol.quiet = s.patrol.quiet := by
  cases d <;> exact ⟨rfl, rfl, rfl, rfl, rfl, rfl, rfl⟩

theorem injectedLogged_patrol (hinjected : q.injected = true) (s : State) :
    (injectedLogged q s).patrol.latch = s.patrol.latch ∧ (injectedLogged q s).patrol.opens = s.patrol.opens ∧
    (injectedLogged q s).patrol.retries = s.patrol.retries ∧
    (injectedLogged q s).patrol.nextSeq = (s.patrol.nextSeq + 1) % 2 ^ 32 := by
  obtain ⟨hlatch, hopens, hretries, hseq, -⟩ := countClass_patrol q.cls (cycleTaken q s)
  refine ⟨hlatch, ?_, hretries, congrArg (fun n => (n + 1) % 2 ^ 32) hseq⟩
  have hclosed : (newRecord q).isOpen = false := by simp [newRecord, hinjected]
  show (if (newRecord q).isOpen then _ else (countClass q.cls (cycleTaken q s)).patrol.opens) = _
  rw [hclosed, hopens, if_neg Bool.false_ne_true]
  rfl

theorem judgeLatch_nil (s : State) : judgeLatch [] false s = s := by
  unfold judgeLatch
  cases s.patrol.latch with
  | none => rfl
  | some _ => exact if_neg Bool.false_ne_true

theorem execCollectorJudgement_injected (ha : awake s = true) (hx : s.safety.injection = some x)
    (hc : flightOf x.key s = some c) (harrived : s.patrol.arrived = [q]) (hkind : q.kind = .detection)
    (hinjected : q.injected = true) (hsource : q.source = x.source) (hunit : q.unit = x.unit)
    (hpointer : s.patrol.pointerFault = none) (hnew : s.patrol.judgedTo ≤ q.at_ / usUnits * usUnits)
    (hdue : q.at_ / usUnits * usUnits + 3 * usUnits ≤ now s) :
    execCollectorJudgement s = answer s (doneWith c (recordBytes (newRecord q) ++ bytesOfNat 4 ((q.at_ - x.at_) / nsUnits))
      (injectionOver (injectedLogged q s))) := by
  have hinjection : (injectedLogged q s).safety.injection = some x := hx
  have hflight : flightOf x.key (injectedLogged q s) = some c := by
    have hsame : (injectedLogged q s).host.flight = s.host.flight := changesOnly_injectedLogged q s .flight (by simp)
    rw [flightOf, hsame]
    exact hc
  rw [execCollectorJudgement_single ha harrived hpointer hnew hdue, judgeCycle_injected hkind hinjected, judgeLatch_nil]
  refine congrArg (answer s) ?_
  show judgeInjected q (injectedLogged q s) = _
  rw [judgeInjected, hinjection]
  simp only [hsource, hunit, beq_self_eq_true, Bool.and_self, if_true]
  exact endInjection_eq hflight _ _

theorem injectionJudged (ha : awake s = true) (hx : s.safety.injection = some x)
    (hc : flightOf x.key s = some c) (harrived : s.patrol.arrived = [q]) (hkind : q.kind = .detection)
    (hinjected : q.injected = true) (hsource : q.source = x.source) (hunit : q.unit = x.unit)
    (hpointer : s.patrol.pointerFault = none) (hnew : s.patrol.judgedTo ≤ q.at_ / usUnits * usUnits)
    (hdue : q.at_ / usUnits * usUnits + 3 * usUnits ≤ now s) : Completes .collectorJudgement s fun t =>
      Replied c stDone 0 (recordBytes (newRecord q) ++ bytesOfNat 4 ((q.at_ - x.at_) / nsUnits)) s t ∧
      t.safety = { s.safety with injection := none } ∧ t.patrol.latch = s.patrol.latch ∧ t.patrol.opens = s.patrol.opens ∧
      t.patrol.retries = s.patrol.retries ∧ t.patrol.nextSeq = (s.patrol.nextSeq + 1) % 2 ^ 32 ∧
      ChangesOnly [.flight, .reply, .safety, .patrol] s t := by
  refine completes_of_answer ((exec_collectorJudgement s).trans
    (execCollectorJudgement_injected ha hx hc harrived hkind hinjected hsource hunit hpointer hnew hdue)) ?_
  have hover : ChangesOnly [.patrol, .safety] s (injectionOver (injectedLogged q s)) :=
    (changesOnly_injectedLogged q s).comp (changesOnly_injectionOver _)
  have hpatrol : (settle s (doneWith c (recordBytes (newRecord q) ++ bytesOfNat 4 ((q.at_ - x.at_) / nsUnits))
      (injectionOver (injectedLogged q s)))).patrol = (injectedLogged q s).patrol := settle_patrol s _
  obtain ⟨hlatch, hopens, hretries, hseq⟩ := injectedLogged_patrol hinjected s
  refine ⟨replied_of_frame hover (by simp) (by simp) (by simp) c stDone 0 _, settle_safety s _, ?_, ?_, ?_, ?_,
    changesOnly_finished hover c stDone 0 _ (by simp)⟩ <;> rw [hpatrol]
  exacts [hlatch, hopens, hretries, hseq]

/-- The injected reports leave the fault wires, and the checker's silence is reported. -/
def silenceReported (x : Injection) (s : State) : State :=
  report (safetyFault 3 0) 0 4 .uc (x.source * 2048 + x.unit * 32)
    (injectionOver (modPatrol (fun (p : Patrol) => { p with wires := p.wires.filter (fun r => !r.injected) }) s))

theorem changesOnly_silenceReported (x : Injection) (s : State) : ChangesOnly [.patrol, .safety] s (silenceReported x s) :=
  (((changesOnly_modPatrol _ s).comp (changesOnly_injectionOver _)).comp (changesOnly_report _ _ _ _ _ _)).mono (by simp)

/-- A final reply and a report do not meet. -/
theorem report_finish (src unit level : Nat) (d : FaultClass) (detail : Nat) (c : Cmd) (st e : Nat) (r : Bytes) (s : State) :
    report src unit level d detail (finish c st e r s) = finish c st e r (report src unit level d detail s) := rfl

theorem injectionSilent (ha : awake s = true) (hx : s.safety.injection = some x) (hc : flightOf x.key s = some c)
    (hlate : x.at_ + msUnits ≤ now s) (harrived : s.patrol.arrived.any (fun r => r.injected) = false) :
    Completes .injectFaultReportTimeout s fun t => Replied c stDone 0 (zeros 16 ++ bytesOfNat 4 0xFFFFFFFF) s t ∧
      t.safety = { s.safety with injection := none } ∧ (∃ r ∈ t.patrol.wires, r.source = safetyFault 3 0 ∧ r.cls = .uc ∧
        r.level = 4 ∧ r.detail = x.source * 2 ^ 11 + x.unit * 2 ^ 5) ∧ ChangesOnly [.flight, .reply, .safety, .patrol] s t := by
  have heq : execInjectFaultReportTimeout s =
      answer s (finish c stDone 0 (zeros 16 ++ bytesOfNat 4 0xFFFFFFFF) (silenceReported x s)) := by
    have hgo : (decide (now s < x.at_ + msUnits) || s.patrol.arrived.any (fun r => r.injected)) = false := by
      simp [Nat.not_lt.mpr hlate, harrived]
    unfold execInjectFaultReportTimeout awakeAnswer
    rw [if_pos ha]
    simp only [hx]
    rw [if_neg (by simpa using hgo), endInjection_eq (c := c) (by exact hc)]
    rfl
  refine completes_of_answer ((exec_injectFaultReportTimeout s).trans heq) ?_
  have hframe := changesOnly_silenceReported x s
  refine ⟨replied_of_frame hframe (by simp) (by simp) (by simp) c stDone 0 _, settle_safety s _, ?_,
    changesOnly_finished hframe c stDone 0 _ (by simp)⟩
  rw [settle_patrol]
  exact ⟨_, List.mem_append_right _ (List.mem_singleton.mpr rfl), rfl, rfl, rfl, rfl⟩

end

/-! ## Gates, monitors and slices (R463, R466, R471, R472) -/

section
variable {s : State}

theorem gate_settle (o s : State) (g : Nat) : gate (settle o s) g = gate s g := by rw [gate, settle_safety, gate]

theorem gate_modGate {g : Nat} (hg : g < 8) (f : Gate → Gate) (s : State) : gate (modGate g f s) g = f (gate s g) :=
  vget_vmod_same s.safety.gates f hg

theorem gateExpires {g : Nat} {w : GateWindow} (ha : awake s = true) (hrun : inRun s = true) (hg : g < 2)
    (hw : (gate s g).armed.find? (fun w => decide (w.closes < gateClock s g)) = some w) :
    Completes (.gateWindowExpiry g) s fun t =>
      (gate t g).misses = bump (gate s g).misses ∧ (gate t g).consecutive = (gate s g).consecutive + 1 ∧
      (∀ v ∈ (gate t g).armed, v.key ≠ w.key) ∧ (∃ r, t.patrol.wires = s.patrol.wires ++ [r] ∧
        r.source = safetyFault 1 g ∧ r.cls = .uc ∧ r.level = 4) ∧ ChangesOnly [.safety, .patrol] s t := by
  refine completes_of_awake (exec_gateWindowExpiry g s) ha ?_
  have hgo : (decide (g < 8) && inRun s) = true := by simp [hrun, show g < 8 by omega]
  simp only [hw, hgo, if_true]
  rw [gateMissed_eq, if_neg (by omega)]
  have hgate : gate (missReported g w.key s) g =
      { gate s g with
        armed := (gate s g).armed.filter (fun v => v.key != w.key)
        extended := (gate s g).extended && !((gate s g).armed.filter (fun v => v.key != w.key)).isEmpty
        misses := bump (gate s g).misses
        consecutive := (gate s g).consecutive + 1 } := by
    have h8 : g < 8 := by omega
    show gate (modGate g _ (modGate g _ s)) g = _
    rw [gate_modGate h8, gate_modGate h8]
  rw [gate_settle, settle_patrol, hgate]
  refine ⟨rfl, rfl, fun v hv => ?_, ⟨_, rfl, rfl, rfl, rfl⟩, (changesOnly_missReported g w.key s).settle s⟩
  simpa using (List.mem_filter.mp hv).2

theorem taskOverruns {tile : Nat} (ha : awake s = true) (ht : tile < 49) (hrun : inRun s = true) (hf : s.rink.frame ≠ none) :
    Completes (.taskMonitorExpiry tile) s fun t => t.safety.taskOverruns = bump s.safety.taskOverruns ∧
      (∃ r, t.patrol.wires = s.patrol.wires ++ [r] ∧ r.source = safetyFault 2 1 ∧ r.cls = .uc ∧ r.level = 4) ∧
      ChangesOnly [.safety, .patrol] s t := by
  refine completes_of_awake (exec_taskMonitorExpiry tile s) ha ?_
  have hgo : (inRun s && s.rink.frame.isSome) = true := by simp [hrun, Option.isSome_iff_ne_none.mpr hf]
  dsimp only
  rw [if_pos ht, if_pos hgo, settle_safety, settle_patrol]
  exact ⟨rfl, ⟨_, rfl, rfl, rfl, rfl⟩, ((changesOnly_modSafety _ s).comp (changesOnly_report _ _ _ _ _ _)).settle s⟩

theorem cycleBegins (ha : awake s = true) (hs : sliceTested s = true)
    (hdue : s.safety.cycleFrom = none ∨ ∃ b, s.safety.cycleFrom = some b ∧ b + 45 * msUnits ≤ now s ∧ 12 ≤ s.safety.slicesDone) :
    Completes .testCycleBegin s fun t => t.safety = { s.safety with
      cycleFrom := some (now s), slicesDone := 0, debtPaid := false } ∧ ChangesOnly [.safety] s t := by
  refine completes_of_awake (exec_testCycleBegin s) ha ?_
  have hframe := (changesOnly_modSafety (fun (x : Safety) =>
    { x with cycleFrom := some (now s), slicesDone := 0, debtPaid := false }) s).settle s
  rcases hdue with h | ⟨b, h, hb, hd⟩
  · simp only [h]
    rw [if_neg (by simp [hs]), settle_safety]
    exact ⟨rfl, hframe⟩
  · simp only [h]
    rw [if_neg (by simp [hs, hb, hd]), settle_safety]
    exact ⟨rfl, hframe⟩

/-- A slice that has begun. -/
def sliceBegun (s : State) : State :=
  modSafety (fun (x : Safety) => { x with
    slicesDone := x.slicesDone + 1, slicesRun := bump x.slicesRun, imageNotBefore := some (now s + 150 * usUnits) }) s

theorem sliceStarts {d : Nat} (ha : awake s = true) (hs : sliceTested s = true) (hfrom : s.safety.cycleFrom ≠ none)
    (hdone : s.safety.slicesDone < 11) (hd : slack s = some d) (hroom : 170 * usUnits < d) :
    Completes .testSliceStart s fun t => t.safety.slicesDone = s.safety.slicesDone + 1 ∧
      t.safety.slicesRun = bump s.safety.slicesRun ∧ t.safety.imageNotBefore = some (now s + 150 * usUnits) ∧
      ChangesOnly [.safety] s t := by
  refine completes_of_awake (exec_testSliceStart s) ha ?_
  have hlast : (s.safety.slicesDone = 11 && !s.safety.debtPaid) = false := by simp [show s.safety.slicesDone ≠ 11 by omega]
  simp only [hd]
  rw [if_neg (by simp [hs, hfrom, hroom]; omega), hlast, if_neg Bool.false_ne_true, settle_safety]
  exact ⟨rfl, rfl, rfl, (changesOnly_modSafety _ s).settle s⟩

theorem sliceWaits {d : Nat} (ha : awake s = true) (hd : slack s = some d) (hroom : d ≤ 170 * usUnits) :
    Completes .testSliceStart s fun t => ChangesOnly [] s t := by
  refine completes_of_awake (exec_testSliceStart s) ha ?_
  simp only [hd]
  rw [if_pos (by simp [hroom])]
  exact (ChangesOnly.refl [] s).settle s

end

/-! ## The Groomer (R476 to R478, R480) -/

section
variable {r : Nat} {s : State}

theorem groomer_settle (o s : State) (r : Nat) : groomer (settle o s) r = groomer s r := by
  rw [groomer, settle_safety, groomer]

/-- The signature of an injection is due, and the pattern enters. -/
theorem execGroomerInjection_due {a : Nat} (ha : awake s = true) (hr : r < 8) (hdue : (groomer s r).dueFrom = some a)
    (hidle : (groomer s r).injecting = false) (hat : a + fld (groomerBlock s r) 64 16 * usUnits ≤ now s) :
    execGroomerInjection r s = answer s (if (receiver s r).frame.isSome then injectionNotRun r s
      else modGroomer r (fun (g : Groomer) => { g with injecting := true }) s) := by
  have hgo : (8 ≤ r || (groomer s r).injecting || decide (now s < a + fld (groomerBlock s r) 64 16 * usUnits)) = false := by
    simp [hidle, show ¬ 8 ≤ r by omega, Nat.not_lt.mpr hat]
  unfold execGroomerInjection awakeAnswer
  rw [if_pos ha]
  simp only [hdue]
  rw [hgo, if_neg Bool.false_ne_true]

/-- An injection that did not run, before its check is judged. -/
def notRunCounted (r : Nat) (s : State) : State :=
  modGroomer r (fun (g : Groomer) =>
    { g with injecting := false, dueFrom := none, notRun := bump g.notRun, notRunRun := (groomer s r).notRunRun + 1 }) s

theorem groomer_notRunCounted (hr : r < 8) (s : State) : groomer (notRunCounted r s) r =
    { groomer s r with injecting := false, dueFrom := none, notRun := bump (groomer s r).notRun,
                       notRunRun := (groomer s r).notRunRun + 1 } := groomer_modGroomer hr _ s

/-- An injection that did not run keeps its counts whatever its check becomes, and the sixteenth in a row ends the Groomer as the
active check. -/
theorem groomer_injectionNotRun (hr : r < 8) (s : State) : ∃ d, groomer (injectionNotRun r s) r =
      { groomer (notRunCounted r s) r with check := d } ∧
    ((groomer s r).notRunRun = 15 → (groomer s r).check = .groomer → d ≠ .groomer) := by
  show ∃ d, groomer (if (groomer s r).notRunRun + 1 < 16 ∨ (groomer s r).check != .groomer then notRunCounted r s
    else if frozenMode s r = 0 ∨ 3 ≤ (receiver s r).damagedRun then
      report (safetyFault 5 r) 0 4 .uc 0 (modGroomer r (fun (g : Groomer) => { g with check := .unavailable }) (notRunCounted r s))
    else report (safetyFault 5 r) 0 4 .ce 0 (modGroomer r (fun (g : Groomer) => { g with check := .frozen }) (notRunCounted r s))) r
      = _ ∧ _
  split_ifs with hearly hmode
  · refine ⟨_, rfl, fun h15 hcheck => ?_⟩
    rw [h15, hcheck] at hearly
    exact absurd hearly (by decide)
  · exact ⟨.unavailable, groomer_modGroomer hr _ _, fun _ _ => by decide⟩
  · exact ⟨.frozen, groomer_modGroomer hr _ _, fun _ _ => by decide⟩

theorem patternEnters {a : Nat} (ha : awake s = true) (hr : r < 8) (hdue : (groomer s r).dueFrom = some a)
    (hidle : (groomer s r).injecting = false) (hat : a + fld (groomerBlock s r) 64 16 * usUnits ≤ now s)
    (hf : (receiver s r).frame = none) : Completes (.groomerInjection r) s fun t => (groomer t r).injecting = true ∧
      (groomer t r).notRun = (groomer s r).notRun ∧ ChangesOnly [.safety] s t := by
  refine completes_of_answer ((exec_groomerInjection r s).trans (execGroomerInjection_due ha hr hdue hidle hat)) ?_
  rw [hf, if_neg (by decide), groomer_settle, groomer_modGroomer hr]
  exact ⟨rfl, rfl, (changesOnly_modGroomer r _ s).settle s⟩

theorem patternGivesWay {a : Nat} (ha : awake s = true) (hr : r < 8) (hdue : (groomer s r).dueFrom = some a)
    (hidle : (groomer s r).injecting = false) (hat : a + fld (groomerBlock s r) 64 16 * usUnits ≤ now s)
    (hf : (receiver s r).frame ≠ none) : Completes (.groomerInjection r) s fun t => (groomer t r).injecting = false ∧
      (groomer t r).notRun = bump (groomer s r).notRun ∧ (groomer t r).notRunRun = (groomer s r).notRunRun + 1 ∧
      ((groomer s r).notRunRun = 15 → (groomer s r).check = .groomer → (groomer t r).check ≠ .groomer) ∧
      ChangesOnly [.safety, .patrol] s t := by
  refine completes_of_answer ((exec_groomerInjection r s).trans (execGroomerInjection_due ha hr hdue hidle hat)) ?_
  obtain ⟨d, hgroomer, hd⟩ := groomer_injectionNotRun hr s
  rw [if_pos (Option.isSome_iff_ne_none.mpr hf), groomer_settle, hgroomer, groomer_notRunCounted hr]
  exact ⟨rfl, rfl, rfl, hd, (changesOnly_injectionNotRun r s).settle s⟩

/-- An injection whose signature is right. -/
def groomerPassed (r : Nat) (s : State) : State :=
  modGroomer r (fun (g : Groomer) => { g with
    injecting := false, dueFrom := none, passed := bump (groomer s r).passed, notRunRun := 0, failRun := 0, distrust := false,
    check := .groomer }) s

/-- An injection whose signature is wrong. -/
def groomerFailed (r : Nat) (s : State) : State :=
  modGroomer r (fun (g : Groomer) => { g with
    injecting := false, dueFrom := none, failed := min 65535 ((groomer s r).failed + 1), notRunRun := 0,
    failRun := (groomer s r).failRun + 1, distrust := true, check := .groomer }) s

theorem signaturePasses (ha : awake s = true) (hr : r < 8) (hrun : (groomer s r).injecting = true) :
    Completes (.groomerInjectionEnd r true) s fun t => (groomer t r).passed = bump (groomer s r).passed ∧
      (groomer t r).injecting = false ∧ (groomer t r).distrust = false ∧ (groomer t r).notRunRun = 0 ∧
      (groomer t r).check = .groomer ∧ ChangesOnly [.safety, .patrol] s t := by
  have heq : execGroomerInjectionEnd r true s = answer s (evaluateAgain (safetyFault 5 r) 0 3 false (groomerPassed r s)) := by
    unfold execGroomerInjectionEnd awakeAnswer
    rw [if_pos ha]
    dsimp only
    rw [if_neg (by simp [hrun, hr]), if_pos rfl]
    rfl
  refine completes_of_answer ((exec_groomerInjectionEnd r true s).trans heq) ?_
  have hagain := changesOnly_evaluateAgain (safetyFault 5 r) 0 3 false (groomerPassed r s)
  have hsafety : (evaluateAgain (safetyFault 5 r) 0 3 false (groomerPassed r s)).safety = (groomerPassed r s).safety :=
    hagain .safety (by simp)
  have hgroomer : groomer (evaluateAgain (safetyFault 5 r) 0 3 false (groomerPassed r s)) r = groomer (groomerPassed r s) r := by
    rw [groomer, hsafety, groomer]
  rw [groomer_settle, hgroomer, groomerPassed, groomer_modGroomer hr]
  exact ⟨rfl, rfl, rfl, rfl, rfl, ((changesOnly_modGroomer r _ s).comp hagain).settle s⟩

theorem signatureFails (ha : awake s = true) (hr : r < 8) (hrun : (groomer s r).injecting = true) :
    Completes (.groomerInjectionEnd r false) s fun t => (groomer t r).distrust = true ∧ (groomer t r).injecting = false ∧
      (groomer t r).failRun = (groomer s r).failRun + 1 ∧ (∃ x, t.patrol.wires = s.patrol.wires ++ [x] ∧
        x.source = safetyFault 5 r ∧ x.cls = .uc ∧ x.level = 3) ∧
      (1 ≤ (groomer s r).failRun → (sourceTrust t r).trust = .excluded) ∧ ChangesOnly [.safety, .patrol, .align] s t := by
  have heq : execGroomerInjectionEnd r false s = answer s (if 2 ≤ (groomer s r).failRun + 1 then
      excludeCamera r (report (safetyFault 5 r) 0 3 .uc 0 (groomerFailed r s))
      else report (safetyFault 5 r) 0 3 .uc 0 (groomerFailed r s)) := by
    unfold execGroomerInjectionEnd awakeAnswer
    rw [if_pos ha]
    dsimp only
    rw [if_neg (by simp [hrun, hr]), if_neg Bool.false_ne_true]
    rfl
  refine completes_of_answer ((exec_groomerInjectionEnd r false s).trans heq) ?_
  have hframe : ChangesOnly [.safety, .patrol, .align] s (report (safetyFault 5 r) 0 3 .uc 0 (groomerFailed r s)) :=
    ((changesOnly_modGroomer r _ s).comp (changesOnly_report _ _ _ _ _ _)).mono (by simp)
  have hgroomer : groomer (groomerFailed r s) r = { groomer s r with
      injecting := false, dueFrom := none, failed := min 65535 ((groomer s r).failed + 1), notRunRun := 0,
      failRun := (groomer s r).failRun + 1, distrust := true, check := .groomer } := groomer_modGroomer hr _ s
  split
  case isTrue htwice =>
    have hexcluded : (sourceTrust (settle s (excludeCamera r (report (safetyFault 5 r) 0 3 .uc 0 (groomerFailed r s)))) r).trust =
        .excluded := by
      rw [sourceTrust, settle_align]
      exact congrArg SourceTrust.trust (vget_vmod_same _ _ (show r < 26 by omega))
    have hsame : groomer (settle s (excludeCamera r (report (safetyFault 5 r) 0 3 .uc 0 (groomerFailed r s)))) r =
        groomer (groomerFailed r s) r := groomer_settle s _ r
    rw [hsame, hgroomer, settle_patrol]
    exact ⟨rfl, rfl, rfl, ⟨_, rfl, rfl, rfl, rfl⟩, fun _ => hexcluded,
      (hframe.step ((changesOnly_modTrust r _ _).mono (by simp))).settle s⟩
  case isFalse honce =>
    have hsame : groomer (settle s (report (safetyFault 5 r) 0 3 .uc 0 (groomerFailed r s))) r = groomer (groomerFailed r s) r :=
      groomer_settle s _ r
    rw [hsame, hgroomer, settle_patrol]
    exact ⟨rfl, rfl, rfl, ⟨_, rfl, rfl, rfl, rfl⟩, fun h => absurd h (by omega), hframe.settle s⟩

end

/-- Settles O51: injections by the judgement of their single report, Gates, monitors, slices and the Groomer by their rows. -/
theorem checkersAreTested : Obligations.CheckersAreTested := by
  unfold Obligations.CheckersAreTested
  refine ⟨fun k c cls level s hr hidle hfault => injectionBegins hr hidle hfault,
    fun x c s ha hx hc => ⟨fun q harrived hkind hinjected hsource hunit hpointer hnew hdue =>
      injectionJudged ha hx hc harrived hkind hinjected hsource hunit hpointer hnew hdue,
      fun hlate harrived => injectionSilent ha hx hc hlate harrived⟩,
    fun g w s ha hrun hg hw => gateExpires ha hrun hg hw, fun tile s ha ht hrun hf => taskOverruns ha ht hrun hf,
    fun s ha hs => ⟨fun hdue => cycleBegins ha hs hdue, fun d hfrom hdone hd =>
      ⟨fun hroom => sliceStarts ha hs hfrom hdone hd hroom, fun hroom => sliceWaits ha hd hroom⟩⟩,
    fun r s ha hr => ⟨fun a hdue hidle hat => ⟨fun hf => patternEnters ha hr hdue hidle hat hf,
      fun hf => patternGivesWay ha hr hdue hidle hat hf⟩, fun hrun => ⟨signaturePasses ha hr hrun, signatureFails ha hr hrun⟩⟩⟩

end Sys2Proof.Machine
end

section
/-! What the ends of jobs, of frames and of RUN change, and the entry into SAFE (R57, R362, R387, R456). -/

namespace Sys2Proof.Machine

/-! ## Work in named parts that only reports -/

section
variable {l m : List Part} {s t u : State}

/-- Work in named parts beside the fault wires, which keeps the device state. -/
structure Reporting (l : List Part) (s t : State) : Prop where
  frame : ChangesOnly (.patrol :: l) s t
  reports : OnlyReports s t

theorem Reporting.refl (l : List Part) (s : State) : Reporting l s s := ⟨.refl _ s, .refl s⟩

theorem Reporting.step (h : Reporting l s t) (h' : Reporting l t u) : Reporting l s u :=
  ⟨h.frame.step h'.frame, h.reports.trans h'.reports⟩

theorem Reporting.mono (h : Reporting l s t) (hl : l ⊆ m) : Reporting m s t :=
  ⟨h.frame.mono (List.cons_subset_cons _ hl), h.reports⟩

theorem reporting_of_frame (h : ChangesOnly l s t) (hd : Part.device ∉ l) (hp : Part.patrol ∉ l) : Reporting l s t :=
  ⟨h.mono (List.subset_cons_self _ _), .of_frame h hd hp⟩

theorem reporting_of_patrol (h : ChangesOnly [.patrol] s t) (hr : OnlyReports s t) : Reporting l s t :=
  ⟨h.mono (by simp), hr⟩

theorem reporting_report (l : List Part) (src unit level : Nat) (cls : FaultClass) (detail : Nat) (s : State) :
    Reporting l s (report src unit level cls detail s) :=
  reporting_of_patrol (changesOnly_report _ _ _ _ _ s) (onlyReports_report _ _ _ _ _ s)

theorem reporting_evaluateAgain (l : List Part) (src unit level : Nat) (bad : Bool) (s : State) :
    Reporting l s (evaluateAgain src unit level bad s) :=
  reporting_of_patrol (changesOnly_evaluateAgain _ _ _ _ s) (onlyReports_evaluateAgain _ _ _ _ s)

theorem reporting_foldl {α : Type} {f : State → α → State} (h : ∀ s x, Reporting l s (f s x)) (xs : List α) :
    ∀ s, Reporting l s (xs.foldl f s) := by
  induction xs with
  | nil => exact fun s => .refl l s
  | cons x xs ih => exact fun s => (h s x).step (ih _)

end

/-! ## Jobs that end (R352, R359, R362) -/

theorem changesOnly_modJob (id : Nat) (f : Job → Job) (s : State) : ChangesOnly [.solver] s (modJob id f s) := changesOnly_modSolver _ s

theorem changesOnly_settlePairs (s : State) : ChangesOnly [.solver] s (settlePairs s) := changesOnly_modSolver _ s

theorem changesOnly_endJob (j : Job) (r : JobRecord) (s : State) : ChangesOnly [.solver] s (endJob j r s) :=
  ((changesOnly_modJob j.id _ s).step (changesOnly_modSolver (countEnd r) _)).step (changesOnly_settlePairs _)

theorem changesOnly_endNotRun (s : State) (j : Job) : ChangesOnly [.solver] s (endNotRun s j) := changesOnly_endJob j _ s

theorem changesOnly_rereadJob (lane : Nat) (s : State) : ChangesOnly [.solver] s (rereadJob lane s) := by
  unfold rereadJob
  split
  · exact changesOnly_modJob _ _ s
  · exact .refl _ s

theorem changesOnly_loseEntry (entry : Nat) (s : State) : ChangesOnly [.solver] s (loseEntry entry s) := by
  unfold loseEntry
  extract_lets live
  split
  · exact changesOnly_endNotRun s _
  · exact .refl _ s

theorem changesOnly_dropUserJobs (s : State) : ChangesOnly [.solver] s (dropUserJobs s) :=
  changesOnly_foldl changesOnly_endNotRun _ s

theorem changesOnly_concludeKey (k : CmdKey) (st d : Nat) (r : Bytes) (s : State) :
    ChangesOnly [.flight] s (concludeKey k st d r s) := by
  unfold concludeKey
  split
  · exact changesOnly_conclude _ st d r s
  · exact .refl _ s

theorem changesOnly_settleBatch (k : CmdKey) (s : State) : ChangesOnly [.solver, .flight] s (settleBatch k s) := by
  unfold settleBatch
  extract_lets js rs good results final
  split
  · exact .refl _ s
  · exact ((changesOnly_modSolver _ s).comp (changesOnly_concludeKey k _ _ _ _)).mono (by simp)

theorem changesOnly_settleBatches (s : State) : ChangesOnly [.solver, .flight] s (settleBatches s) :=
  changesOnly_foldl (fun t k => changesOnly_settleBatch k t) _ s

theorem reporting_glideJobEnded (index key : Nat) (r : JobRecord) (s : State) :
    Reporting [.solver, .glide, .align, .flight] s (glideJobEnded index key r s) := by
  have hglide : ∀ f t, Reporting [.solver, .glide, .align, .flight] t (modUpdate key f t) := fun f t =>
    reporting_of_frame ((changesOnly_modGlide _ t).mono (by simp)) (by simp) (by simp)
  unfold glideJobEnded
  split
  · exact .refl _ s
  · extract_lets bad s1
    refine Reporting.step (t := s1) (hglide _ s) ?_
    split
    · exact (reporting_report _ _ _ _ _ _ s1).step (hglide _ _)
    · exact hglide _ s1

theorem reporting_holdEgoVote (f : FusionSet) (s : State) : Reporting [.align] s (holdEgoVote f s) := by
  obtain ⟨u, ⟨-, hframe, hreports⟩, hu⟩ := holdEgoVote_closes f s
  have hvote : Reporting [.align] s u := ⟨hframe.mono (by simp), hreports⟩
  have hclosed := (changesOnly_modAlign (fun a => { a with
    scan := a.scan.filter (fun m => m.frame != f.frame), votedFrames := a.votedFrames + 1 }) u).step
      (changesOnly_modSet f.frame (fun x => { x with voted := true }) _)
  rw [hu]
  exact hvote.step (reporting_of_frame hclosed (by simp) (by simp))

theorem reporting_scanJobEnded (r : JobRecord) (s : State) : Reporting [.align] s (scanJobEnded r s) := by
  have halign : ∀ f t, Reporting [.align] t (modScan f t) := fun f t =>
    reporting_of_frame (changesOnly_modAlign _ t) (by simp) (by simp)
  unfold scanJobEnded
  split
  · exact .refl _ s
  · split
    · exact halign _ s
    · extract_lets stop s1
      refine Reporting.step (t := s1) (halign _ s) ?_
      split
      · split
        · split
          · exact .refl _ s1
          · exact reporting_holdEgoVote _ s1
        · exact .refl _ s1
      · exact .refl _ s1

theorem changesOnly_wheelJobEnded (r : JobRecord) (s : State) : ChangesOnly [.align] s (wheelJobEnded r s) :=
  changesOnly_ite (fun _ => changesOnly_modAlign _ s) fun _ => .refl _ s

theorem reporting_deliverJob (s : State) (j : Job) : Reporting [.solver, .glide, .align, .flight] s (deliverJob s j) := by
  unfold deliverJob
  split
  · exact .refl _ s
  · extract_lets s1
    have h1 : Reporting [.solver, .glide, .align, .flight] s s1 :=
      reporting_of_frame ((changesOnly_modSolver _ s).mono (by simp)) (by simp) (by simp)
    split
    · exact h1.step (reporting_glideJobEnded _ _ _ s1)
    · exact h1.step ((reporting_scanJobEnded _ s1).mono (by simp))
    · exact h1.step (reporting_of_frame ((changesOnly_wheelJobEnded _ s1).mono (by simp)) (by simp) (by simp))
    · exact .refl _ s

theorem reporting_deliverJobs (s : State) : Reporting [.solver, .glide, .align, .flight] s (deliverJobs s) :=
  (reporting_foldl reporting_deliverJob _ s).step
    (reporting_of_frame ((changesOnly_settleBatches _).mono (by simp)) (by simp) (by simp))

theorem changesOnly_safeSolver (s : State) : ChangesOnly [.solver, .flight] s (safeSolver s) :=
  (((changesOnly_modSolver _ s).step (changesOnly_dropUserJobs _)).mono (by simp)).step (changesOnly_settleBatches _)

/-! ## Leaving RUN -/

theorem changesOnly_dropLoading (s : State) : ChangesOnly [.plans] s (dropLoading s) := changesOnly_modPlans _ s

theorem changesOnly_stopFrames (s : State) :
    ChangesOnly [.ingest, .rink, .point, .align, .glide] s (stopFrames s) := by
  have hrelease : ChangesOnly [.ingest] s (s.align.sets.foldl (fun (t : State) f =>
      if f.skipped then t else releaseSlots f.cameras t) s) :=
    changesOnly_foldl (fun t f => changesOnly_ite (fun _ => .refl _ t) fun _ => changesOnly_releaseSlots f.cameras t) _ s
  unfold stopFrames
  extract_lets s1 s2
  have hdrop : ChangesOnly [.rink] s1 s2 := by
    show ChangesOnly [.rink] s1 (match s1.rink.frame with
      | some f => dropFromArray f.frame s1
      | none => s1)
    split
    · exact changesOnly_dropFromArray _ s1
    · exact .refl _ s1
  have hglide := changesOnly_modGlide (fun (g : Glide) => { g with arriving := [] }) s2
  have hrink := changesOnly_modRink (fun (r : Rink) => { r with waitingFrame := none, gathers := [], remapAt := [] })
    (modGlide (fun (g : Glide) => { g with arriving := [] }) s2)
  have halign := changesOnly_modAlign (fun (a : Align) => { a with sets := [], scan := none, wheelFit := none, recentreDue := [] })
    (modRink (fun (r : Rink) => { r with waitingFrame := none, gathers := [], remapAt := [] })
      (modGlide (fun (g : Glide) => { g with arriving := [] }) s2))
  exact ((((hrelease.comp hdrop).comp hglide).comp hrink).comp halign |>.comp (changesOnly_modPoint _ _)).mono (by simp)

theorem changesOnly_withdrawSyncs (s : State) : ChangesOnly [.time] s (withdrawSyncs s) := changesOnly_setTime _ s

theorem changesOnly_disarmAll (s : State) : ChangesOnly [.safety] s (disarmAll s) := changesOnly_modSafety _ s

/-- RUN left but for the frame-sync pulses, and what of Safety and the plans ends with it. -/
theorem changesOnly_leaveRun (s : State) :
    ChangesOnly [.ingest, .rink, .point, .align, .glide, .safety, .time, .plans] s (leaveRun s) := by
  have h1 := (changesOnly_stopFrames s).comp (changesOnly_abortMigration (stopFrames s))
  have h2 := (h1.comp (changesOnly_disarmAll (abortMigration (stopFrames s)))).comp
    (changesOnly_withdrawSyncs (disarmAll (abortMigration (stopFrames s))))
  unfold leaveRun
  extract_lets s1
  have h3 := changesOnly_modPlans (fun (p : Plans) => { p with variant := none }) s1
  exact ((h2.comp h3).comp (changesOnly_modSafety _ _)).mono (by simp)

theorem changesOnly_discardUpdates (s : State) : ChangesOnly [.glide, .safety] s (discardUpdates s) :=
  ((changesOnly_modGlide (fun (g : Glide) => { g with pending := [] }) s).mono (by simp)).step
    (changesOnly_foldl (fun t u => changesOnly_ite
      (fun _ => (changesOnly_closeWindowOf 7 u.frame t).mono (by simp)) fun _ => .refl _ t) _ _)

theorem changesOnly_safeGlide (s : State) : ChangesOnly [.glide, .safety] s (safeGlide s) :=
  (changesOnly_discardUpdates s).step ((changesOnly_modGlide _ _).mono (by simp))

/-! ## Commands that end (R57) -/

theorem changesOnly_endCommands (which : Cmd → Bool) (s : State) : ChangesOnly [.flight, .reply] s (endCommands which s) :=
  changesOnly_foldl (fun t c => changesOnly_finish c _ 0 [] t) _ s

theorem changesOnly_dropFlashWork (s : State) : ChangesOnly [.security] s (dropFlashWork s) := changesOnly_modSecurity _ s

theorem changesOnly_startTicks (s : State) : ChangesOnly [.time] s (startTicks s) :=
  changesOnly_ite (fun _ => .refl _ s) fun _ => changesOnly_setTime _ s

theorem changesOnly_advanceSeq (j : Nat) (s : State) : ChangesOnly [.security] s (advanceSeq j s) := changesOnly_modSecurity _ s

theorem changesOnly_bufferRecord (type : Nat) (payload : Bytes) (s : State) :
    ChangesOnly [.security, .power] s (bufferRecord type payload s) := by
  unfold bufferRecord
  split
  · split
    · exact (changesOnly_modPower _ s).mono (by simp)
    · exact (changesOnly_modSecurity _ s).mono (by simp)
  · exact ((changesOnly_advanceSeq 0 s).step (changesOnly_modSecurity _ _)).mono (by simp)

theorem reporting_journalFaults (s : State) : Reporting [.security, .power] s (journalFaults s) := by
  have hdone : OnlyReports s (modPatrol (fun (p : Patrol) => { p with journalDue := false }) s) :=
    ⟨rfl, s.patrol.wires, false, rfl⟩
  unfold journalFaults
  extract_lets latched open_ s1
  refine Reporting.step (t := s1) (reporting_of_patrol (changesOnly_modPatrol _ s) hdone) ?_
  split
  · exact .refl _ s1
  · exact reporting_of_frame (changesOnly_foldl (fun t r => changesOnly_bufferRecord 0x02 (entryBytes r) t) _ s1)
      (by simp) (by simp)

/-! ## The entry into SAFE (R456, R457) -/

/-- A device whose state is SAFE and whose pins are static, before what it did ends. -/
def safeBegun (s : State) : State :=
  modDev (fun (d : Dev) => { d with state := .safe, posture := none, firstValid := false })
    (modSafety (fun (x : Safety) => { x with faultN := true }) (staticPins s))

/-- Frames, changes and solver batches that end with the entry into SAFE. -/
def safeStopped (s : State) : State :=
  deliverJobs (safeSolver (modPlans (fun (p : Plans) => { p with swap := none }) (dropLoading (safeGlide (leaveRun
    (modPower (fun (p : Power) => { p with change := none, standby := none, wakeWaiting := none }) s))))))

/-- Commands that end with the entry into SAFE, and the marker that tells of it. -/
def safeMarked (s : State) : State :=
  let keep (x : Retention) : Retention := { x with safeMarker := true }
  modSecurity (fun (x : Security) => { x with retention := keep x.retention })
    (startTicks (dropFlashWork (endCommands (endsInSafe s) s)))

/-- The first message is due. -/
def safeAnnounced (d : Dts) (s : State) : State :=
  modSafety (fun (x : Safety) => { x with
    injection := none, repeatsLeft := fld (safeBlock s) 128 8, repeatFrom := d + 20 * usUnits }) s

theorem enterSafe_eq (deferred : Bool) (d : Dts) (s : State) : enterSafe deferred d s =
    if s.dev.state == .safe then s
    else if deferred then modPatrol (fun (p : Patrol) => { p with journalDue := true })
        (safeAnnounced d (safeMarked (safeStopped (safeBegun s))))
    else journalFaults (safeAnnounced d (safeMarked (safeStopped (safeBegun s)))) := rfl

/-- The parts in which work ends with RUN, beside the fault wires. -/
def runParts : List Part :=
  [.safety, .power, .plans, .glide, .ingest, .rink, .point, .align, .time, .solver, .flight, .reply, .security]

theorem changesOnly_safeBegun (s : State) : ChangesOnly [.device, .safety] s (safeBegun s) :=
  (((changesOnly_modSafety _ s).step (changesOnly_modSafety _ _)).comp (changesOnly_modDev _ _)).mono (by simp)

theorem reporting_safeStopped (s : State) : Reporting runParts s (safeStopped s) := by
  have hpower := changesOnly_modPower (fun (p : Power) => { p with change := none, standby := none, wakeWaiting := none }) s
  have hleft := changesOnly_leaveRun (modPower (fun (p : Power) => { p with change := none, standby := none, wakeWaiting := none }) s)
  have hglide := changesOnly_safeGlide (leaveRun
    (modPower (fun (p : Power) => { p with change := none, standby := none, wakeWaiting := none }) s))
  have hplans := (changesOnly_dropLoading (safeGlide (leaveRun
    (modPower (fun (p : Power) => { p with change := none, standby := none, wakeWaiting := none }) s)))).step
      (changesOnly_modPlans (fun (p : Plans) => { p with swap := none }) _)
  have hsolver := changesOnly_safeSolver (modPlans (fun (p : Plans) => { p with swap := none }) (dropLoading (safeGlide (leaveRun
    (modPower (fun (p : Power) => { p with change := none, standby := none, wakeWaiting := none }) s)))))
  have hall := ((((hpower.comp hleft).comp hglide).comp hplans).comp hsolver).mono (show _ ⊆ runParts by simp [runParts])
  exact (reporting_of_frame hall (by simp [runParts]) (by simp [runParts])).step
    ((reporting_deliverJobs _).mono (by simp [runParts]))

theorem changesOnly_safeMarked (s : State) : ChangesOnly [.flight, .reply, .security, .time] s (safeMarked s) := by
  have h1 := (changesOnly_endCommands (endsInSafe s) s).comp (changesOnly_dropFlashWork (endCommands (endsInSafe s) s))
  have h2 := h1.comp (changesOnly_startTicks (dropFlashWork (endCommands (endsInSafe s) s)))
  exact (h2.comp (changesOnly_modSecurity _ _)).mono (by simp)

theorem reporting_safeEntered (d : Dts) (s : State) :
    Reporting runParts s (safeAnnounced d (safeMarked (safeStopped s))) :=
  (reporting_safeStopped s).step
    ((reporting_of_frame ((changesOnly_safeMarked (safeStopped s)).mono (by simp [runParts])) (by simp [runParts])
      (by simp [runParts])).step
      (reporting_of_frame ((changesOnly_modSafety _ (safeMarked (safeStopped s))).mono (by simp [runParts]))
        (by simp [runParts]) (by simp [runParts])))

/-- The journalling of the open records is due. -/
theorem reporting_journalDue (l : List Part) (s : State) :
    Reporting l s (modPatrol (fun (p : Patrol) => { p with journalDue := true }) s) :=
  reporting_of_patrol (changesOnly_modPatrol _ s) ⟨rfl, s.patrol.wires, true, rfl⟩

/-- The entry into SAFE is work in the parts of RUN from a state in SAFE. -/
theorem reporting_enterSafe (deferred : Bool) (d : Dts) {s : State} (h : s.dev.state ≠ .safe) :
    Reporting runParts (safeBegun s) (enterSafe deferred d s) := by
  have hsafe : (s.dev.state == DeviceState.safe) = false := by simpa using h
  have hentered := reporting_safeEntered d (safeBegun s)
  rw [enterSafe_eq, hsafe, if_neg Bool.false_ne_true]
  generalize safeAnnounced d (safeMarked (safeStopped (safeBegun s))) = u at hentered ⊢
  cases deferred with
  | true => exact hentered.step (reporting_journalDue runParts u)
  | false => exact hentered.step ((reporting_journalFaults u).mono (by simp [runParts]))

theorem enterSafe_state (deferred : Bool) (d : Dts) (s : State) : (enterSafe deferred d s).dev.state = .safe := by
  by_cases h : s.dev.state = .safe
  · rw [enterSafe_eq, h]
    exact h
  · exact (reporting_enterSafe deferred d h).reports.state

theorem enterSafe_patrol (deferred : Bool) (d : Dts) (s : State) :
    ∃ w j, (enterSafe deferred d s).patrol = { s.patrol with wires := w, journalDue := j } := by
  by_cases h : s.dev.state = .safe
  · rw [enterSafe_eq, h]
    exact ⟨s.patrol.wires, s.patrol.journalDue, rfl⟩
  · exact (reporting_enterSafe deferred d h).reports.patrol

theorem changesOnly_enterSafe (deferred : Bool) (d : Dts) (s : State) :
    ChangesOnly (.device :: .patrol :: runParts) s (enterSafe deferred d s) := by
  by_cases h : s.dev.state = .safe
  · rw [enterSafe_eq, h]
    exact .refl _ s
  · exact ((changesOnly_safeBegun s).comp (reporting_enterSafe deferred d h).frame).mono (by simp [runParts])

end Sys2Proof.Machine
end

section
/-! Reports that arrive and are judged (O48; R425 to R428, R441, R442). -/

namespace Sys2Proof.Machine

/-! ## What an error does besides its report -/

section
variable {q : Report} {s t u : State}

/-- Patrol's reports that wait, and its reset shadows, are as before. -/
structure SameArrivals (s t : State) : Prop where
  arrived : t.patrol.arrived = s.patrol.arrived
  shadows : t.patrol.shadows = s.patrol.shadows
  closed : t.patrol.closedShadows = s.patrol.closedShadows

theorem SameArrivals.of_reports (h : OnlyReports s t) : SameArrivals s t := by
  obtain ⟨w, j, hpatrol⟩ := h.patrol
  exact ⟨by rw [hpatrol], by rw [hpatrol], by rw [hpatrol]⟩

theorem SameArrivals.of_frame {l : List Part} (h : ChangesOnly l s t) (hp : Part.patrol ∉ l) : SameArrivals s t := by
  have hpatrol : t.patrol = s.patrol := h .patrol hp
  exact ⟨by rw [hpatrol], by rw [hpatrol], by rw [hpatrol]⟩

theorem SameArrivals.shadowMasks (h : SameArrivals s t) (q : Report) : shadowMasks t q = shadowMasks s q := by
  unfold Machine.shadowMasks inShadow
  rw [h.shadows, h.closed]

theorem changesOnly_countMemory (c a b : Nat) (s : State) : ChangesOnly [.memory] s (countMemory c a b s) := by
  rw [changesOnly_iff]
  simp [Part.same, countMemory]

theorem changesOnly_losePatch (n : Nat) (s : State) : ChangesOnly [.rink] s (losePatch n s) :=
  changesOnly_ite (fun _ => .refl _ s) fun _ => (changesOnly_modSlot n _ s).step (changesOnly_modCounters _ _)

theorem changesOnly_loseTilePatch (x : Nat) (s : State) : ChangesOnly [.rink] s (loseTilePatch x s) := by
  unfold loseTilePatch
  split
  · exact changesOnly_ite (fun _ => changesOnly_losePatch _ s) fun _ => .refl _ s
  · exact .refl _ s

theorem changesOnly_buildRays (s : State) : ChangesOnly [.rink] s (buildRays s) := changesOnly_modRink _ s

theorem changesOnly_damageRink (src unit detail : Nat) (s : State) : ChangesOnly [.rink] s (damageRink src unit detail s) := by
  unfold damageRink
  split
  · split
    · exact changesOnly_loseTilePatch _ s
    · exact changesOnly_ite (fun _ => changesOnly_modTile _ _ s) fun _ => .refl _ s
  · split
    · exact .refl _ s
    · extract_lets camera
      exact (changesOnly_modRink _ s).step (changesOnly_buildRays _)

theorem changesOnly_spoilSet (d : Nat) (s : State) : ChangesOnly [.peers] s (spoilSet d s) := changesOnly_modPeers _ s

theorem changesOnly_hashesDiffer (s : State) : ChangesOnly [.plans, .flight] s (hashesDiffer s) := by
  unfold hashesDiffer
  split
  · exact (changesOnly_dropLoading s).comp (changesOnly_conclude _ _ _ _ _)
  · exact .refl _ s

theorem changesOnly_modOut (n : Nat) (f : OutQueue → OutQueue) (s : State) :
    ChangesOnly [.reply, .result, .event] s (modOut n f s) := by
  rw [changesOnly_iff]
  unfold modOut setOutQueue
  split <;> simp [Part.same]

theorem changesOnly_damagePoint (l4 index : Nat) (s : State) : ChangesOnly [.point] s (damagePoint l4 index s) := by
  unfold damagePoint
  split
  · extract_lets lost slots
    exact changesOnly_modPoint _ s
  · exact changesOnly_ite (fun _ => changesOnly_modPoint _ s) fun _ => .refl _ s

theorem sameArrivals_losePartition (n : Nat) (s : State) : SameArrivals s (losePartition n s) := by
  unfold losePartition
  extract_lets keep
  split <;> exact ⟨rfl, rfl, rfl⟩

theorem SameArrivals.ite {p : Prop} [Decidable p] (h : p → SameArrivals s t) (h' : ¬ p → SameArrivals s u) :
    SameArrivals s (if p then t else u) := by
  split
  · exact h ‹_›
  · exact h' ‹_›

/-- The damage that an error does leaves the waiting reports and the shadows. -/
theorem sameArrivals_damageWord (q : Report) (s : State) : SameArrivals s (damageWord q s) := by
  have hlost := (reporting_of_frame (changesOnly_loseEntry q.detail s) (by simp) (by simp)).reports
  unfold damageWord
  refine .ite (fun _ => .of_frame (changesOnly_countMemory _ _ _ s) (by simp)) fun _ => ?_
  refine .ite (fun _ => .of_frame (changesOnly_damageRink _ _ _ s) (by simp)) fun _ => ?_
  refine .ite (fun _ => .ite (fun _ => .of_reports (hlost.trans (reporting_deliverJobs (loseEntry q.detail s)).reports))
    fun _ => .of_frame (changesOnly_rereadJob _ s) (by simp)) fun _ => ?_
  refine .ite (fun _ => .of_frame (changesOnly_modGlide _ s) (by simp)) fun _ => ?_
  refine .ite (fun _ => .of_frame (changesOnly_spoilSet _ s) (by simp)) fun _ => ?_
  refine .ite (fun _ => .of_frame (changesOnly_hashesDiffer s) (by simp)) fun _ => ?_
  refine .ite (fun _ => .of_frame (changesOnly_modOut _ _ s) (by simp)) fun _ => ?_
  refine .ite (fun _ => .of_frame (changesOnly_damagePoint _ _ s) (by simp)) fun _ => ?_
  exact .ite (fun _ => sameArrivals_losePartition _ s) fun _ => .ite (fun _ => ⟨rfl, rfl, rfl⟩) fun _ => ⟨rfl, rfl, rfl⟩

/-- Beside the subsystems whose memories are other units', damage stays in Patrol and the queues. -/
theorem changesOnly_damageWord (s : State)
    (hsub : sourceSub q.source ∉ [0x06, 0x07, 0x08, 0x09, 0x0A, 0x0E, 0x0F, 0x11]) :
    ChangesOnly [.patrol, .reply, .result, .event] s (damageWord q s) := by
  have hne : ∀ n ∈ [0x06, 0x07, 0x08, 0x09, 0x0A, 0x0E, 0x0F, 0x11], sourceSub q.source ≠ n := fun n hn h => hsub (h ▸ hn)
  have hretention : q.source ≠ sourceOf 0x0F 0 0 := fun h => hne 0x0F (by simp) (by rw [h]; decide)
  unfold damageWord
  rw [if_neg fun h => hne 0x11 (by simp) h.1, if_neg fun h => hne 0x07 (by simp) h.1, if_neg fun h => hne 0x09 (by simp) h.1,
    if_neg fun h => hne 0x0A (by simp) h.1, if_neg fun h => hne 0x0E (by simp) h.1, if_neg fun h => hne 0x08 (by simp) h.1]
  refine changesOnly_ite (fun _ => (changesOnly_modOut _ _ s).mono (by simp)) fun _ => ?_
  rw [if_neg fun h => hne 0x06 (by simp) h.1, if_neg fun h => hretention h.1]
  exact changesOnly_ite (fun _ => (changesOnly_modPatrol _ s).mono (by simp)) fun _ => .refl _ s

/-- An entry of an event-queue word fails its check. -/
def spoilWord (detail : Nat) (o : OutQueue) : OutQueue :=
  { o with words := o.words.zipIdx.map (fun (w : OutWord × Nat) => if w.2 = detail then { w.1 with damaged := true } else w.1) }

theorem damageWord_event (hq : q.source = queueFault 3 2) (huc : q.cls = .uc) (s : State) :
    damageWord q s = modOut 3 (spoilWord q.detail) s := by
  have hsub : sourceSub q.source = 0x0B := by rw [hq]; decide
  have hl4 : sourceL4 q.source = 3 := by rw [hq]; decide
  have hl3 : sourceL3 q.source = 2 := by rw [hq]; decide
  unfold damageWord
  rw [if_neg (by simp [hsub]), if_neg (by simp [hsub]), if_neg (by simp [hsub]), if_neg (by simp [hsub]),
    if_neg (by simp [hsub]), if_neg (by simp [hsub]), if_pos ⟨hsub, by omega, hl3, by simp [huc]⟩, hl4]
  rfl

theorem damageWord_log (hq : q.source = sourceOf 0x0C 1 0) (huc : q.cls = .uc) (s : State) : damageWord q s =
    modPatrol (fun (p : Patrol) => { p with log := p.log.filter (fun r => r.logSeq % 2 ^ 23 != q.detail) }) s := by
  have hsub : sourceSub q.source = 0x0C := by rw [hq]; decide
  have hl4 : sourceL4 q.source = 1 := by rw [hq]; decide
  have hretention : q.source ≠ sourceOf 0x0F 0 0 := by rw [hq]; decide
  unfold damageWord
  rw [if_neg (by simp [hsub]), if_neg (by simp [hsub]), if_neg (by simp [hsub]), if_neg (by simp [hsub]),
    if_neg (by simp [hsub]), if_neg (by simp [hsub]), if_neg (by simp [hsub]), if_neg (by simp [hsub]),
    if_neg fun h => hretention h.1, if_pos ⟨hsub, hl4, by simp [huc]⟩]

theorem damageWord_table (hq : q.source = sourceOf 0x06 4 0) (huc : q.cls = .uc) (hlevel : q.level = 2) (s : State) :
    damageWord q s = damagePoint 4 q.detail s := by
  have hsub : sourceSub q.source = 0x06 := by rw [hq]; decide
  have hl4 : sourceL4 q.source = 4 := by rw [hq]; decide
  unfold damageWord
  rw [if_neg (by simp [hsub]), if_neg (by simp [hsub]), if_neg (by simp [hsub]), if_neg (by simp [hsub]),
    if_neg (by simp [hsub]), if_neg (by simp [hsub]), if_neg (by simp [hsub]), if_pos ⟨hsub, hlevel, by simp [huc]⟩, hl4]

theorem sourceSub_sourceOf_memory {l4 l3 : Nat} (h4 : l4 < 8) (h3 : l3 < 8) :
    sourceSub (sourceOf 0x11 l4 l3) = 0x11 ∧ sourceL4 (sourceOf 0x11 l4 l3) = l4 := by
  have hsub : sourceSub (sourceOf 0x11 l4 l3) = 0x11 := by
    show (0x11 * 128 + l4 * 2 ^ 3 + l3) / 128 = 0x11
    omega
  refine ⟨hsub, ?_⟩
  rw [sourceL4, hsub]
  show (0x11 * 128 + l4 * 2 ^ 3 + l3) % 128 / 2 ^ 3 = l4
  omega

theorem damageWord_memory {l4 l3 : Nat} (h4 : l4 < 8) (h3 : l3 < 8) (hq : q.source = sourceOf 0x11 l4 l3) (huc : q.cls = .uc)
    (hlevel : q.level = 2) (s : State) : damageWord q s = countMemory l4 0 1 s := by
  obtain ⟨hsub, hl4⟩ := sourceSub_sourceOf_memory h4 h3
  unfold damageWord
  rw [if_pos ⟨by rw [hq, hsub], hlevel, by simp [huc]⟩, hq, hl4, huc]
  rfl

end

/-! ## Arrival (R421, R425) -/

section
variable {q : Report} {s : State}

/-- A report stands among those that have arrived. -/
def arrivedNow (q : Report) (s : State) : State := modPatrol (fun (p : Patrol) => { p with arrived := p.arrived ++ [q] }) s

theorem arrive_masked (h : shadowMasks s q = true) :
    arrive q s = modPatrol (fun (p : Patrol) => { p with shadowMasked := bump p.shadowMasked }) s := by
  rw [arrive, if_pos h]

theorem arrive_unmasked (h : shadowMasks s q = false) (hpointer : isPointer q.source = false) :
    arrive q s = if q.cls == .fa && !q.injected && s.dev.state != .boot then enterSafe true q.at_ (arrivedNow q s)
      else arrivedNow q s := by
  have hverdict : pointerVerdict s q = q := by simp [pointerVerdict, hpointer]
  unfold arrive
  rw [h, if_neg Bool.false_ne_true]
  dsimp only
  rw [hverdict]
  rfl

/-- The oldest report has left the fault wires. -/
def wireTaken (q : Report) (s : State) : State := modPatrol (fun (p : Patrol) => { p with wires := p.wires.erase q }) s

theorem execFaultReportArrival_wire (ha : awake s = true)
    (hw : s.patrol.wires.find? (fun q => decide (arrivesFrom q ≤ now s)) = some q) :
    execFaultReportArrival none s = answer s (arrive q (wireTaken q s)) := by
  unfold execFaultReportArrival awakeAnswer
  rw [if_pos ha]
  dsimp only
  rw [hw]
  rfl

theorem wireMasked (ha : awake s = true) (hw : s.patrol.wires.find? (fun q => decide (arrivesFrom q ≤ now s)) = some q)
    (hmasked : shadowMasks s q = true) : Completes (.faultReportArrival none) s fun t =>
      t.patrol.wires = s.patrol.wires.erase q ∧ t.patrol.arrived = s.patrol.arrived ∧
      t.patrol.shadowMasked = bump s.patrol.shadowMasked ∧ ChangesOnly [.patrol] s t := by
  have htaken : shadowMasks (wireTaken q s) q = true := hmasked
  refine completes_of_answer ((exec_faultReportArrival none s).trans (execFaultReportArrival_wire ha hw)) ?_
  rw [arrive_masked htaken, settle_patrol]
  exact ⟨rfl, rfl, rfl, ((changesOnly_modPatrol _ s).step (changesOnly_modPatrol _ _)).settle s⟩

theorem wireArrives (ha : awake s = true) (hw : s.patrol.wires.find? (fun q => decide (arrivesFrom q ≤ now s)) = some q)
    (hmasked : shadowMasks s q = false) (hpointer : isPointer q.source = false) (hcls : q.cls ≠ .fa) :
    Completes (.faultReportArrival none) s fun t => t.patrol.wires = s.patrol.wires.erase q ∧
      t.patrol.arrived = s.patrol.arrived ++ [q] ∧ ChangesOnly [.patrol] s t := by
  have htaken : shadowMasks (wireTaken q s) q = false := hmasked
  have hnofa : (q.cls == FaultClass.fa && !q.injected && (wireTaken q s).dev.state != .boot) = false := by simp [hcls]
  refine completes_of_answer ((exec_faultReportArrival none s).trans (execFaultReportArrival_wire ha hw)) ?_
  rw [arrive_unmasked htaken hpointer, hnofa, if_neg Bool.false_ne_true, settle_patrol]
  exact ⟨rfl, rfl, ((changesOnly_modPatrol _ s).step (changesOnly_modPatrol _ _)).settle s⟩

theorem settle_devState (o s : State) : (settle o s).dev.state = s.dev.state := by
  have hsame := (OnlyReports.of_frame ((ChangesOnly.refl [] s).settle o) (by simp) (by simp)).state
  exact hsame

theorem wireFatal (ha : awake s = true) (hw : s.patrol.wires.find? (fun q => decide (arrivesFrom q ≤ now s)) = some q)
    (hmasked : shadowMasks s q = false) (hpointer : isPointer q.source = false) (hcls : q.cls = .fa) (hreal : q.injected = false)
    (hboot : s.dev.state ≠ .boot) : Completes (.faultReportArrival none) s fun t => q ∈ t.patrol.arrived ∧ t.dev.state = .safe := by
  have htaken : shadowMasks (wireTaken q s) q = false := hmasked
  have hfatal : (q.cls == FaultClass.fa && !q.injected && (wireTaken q s).dev.state != .boot) = true := by
    have hstate : (wireTaken q s).dev.state = s.dev.state := rfl
    simp [hcls, hreal, hstate, hboot]
  refine completes_of_answer ((exec_faultReportArrival none s).trans (execFaultReportArrival_wire ha hw)) ?_
  obtain ⟨w, j, hpatrol⟩ := enterSafe_patrol true q.at_ (arrivedNow q (wireTaken q s))
  have hstate := enterSafe_state true q.at_ (arrivedNow q (wireTaken q s))
  rw [arrive_unmasked htaken hpointer, hfatal, if_pos rfl, settle_patrol, settle_devState, hpatrol]
  exact ⟨List.mem_append_right _ (List.mem_singleton.mpr rfl), hstate⟩

theorem execFaultReportArrival_given (ha : awake s = true) (hsource : sourceExists q.source = true)
    (hunit : unitExists q.source q.unit = true) (hreal : q.injected = false) (hat : q.at_ ≤ now s) (huc : q.cls = .uc)
    (hmasked : shadowMasks s q = false) (hpointer : isPointer q.source = false) :
    execFaultReportArrival (some q) s = answer s (arrivedNow q (damageWord q s)) := by
  have hfrom : arrivesFrom q = q.at_ := by simp [arrivesFrom, huc]
  have hgo : (!sourceExists q.source || !unitExists q.source q.unit || q.injected || decide (now s < arrivesFrom q)) = false := by
    simp [hsource, hunit, hreal, hfrom, Nat.not_lt.mpr hat]
  have hstill : shadowMasks (damageWord q s) q = false := by rw [(sameArrivals_damageWord q s).shadowMasks, hmasked]
  unfold execFaultReportArrival awakeAnswer
  rw [if_pos ha]
  dsimp only
  rw [hgo, if_neg Bool.false_ne_true, arrive_unmasked hstill hpointer]
  simp [huc]

/-- A detector's uncorrectable word: the report has arrived, and the word's content is not used. -/
theorem wordArrives (ha : awake s = true) (hsource : sourceExists q.source = true)
    (hunit : unitExists q.source q.unit = true) (hreal : q.injected = false) (hat : q.at_ ≤ now s) (huc : q.cls = .uc)
    (hmasked : shadowMasks s q = false) (hpointer : isPointer q.source = false) :
    Completes (.faultReportArrival (some q)) s fun t => t.patrol.arrived = s.patrol.arrived ++ [q] ∧
      (∀ w, q.source = queueFault 3 2 → s.host.event.words[q.detail]? = some w →
        t.host.event.words[q.detail]? = some { w with damaged := true }) ∧
      (q.source = sourceOf 0x0C 1 0 → ∀ r ∈ t.patrol.log, r.logSeq % 2 ^ 23 ≠ q.detail) ∧
      (q.source = sourceOf 0x06 4 0 → q.level = 2 → ∀ e ∈ t.point.table, e.bucket ≠ q.detail) ∧
      (∀ l3 < 8, ∀ l4 < 8, q.source = sourceOf 0x11 l4 l3 → q.level = 2 →
        (vget t.memory.channels l4).uncorrected = satAdd 32 (vget s.memory.channels l4).uncorrected 1) ∧
      (sourceSub q.source ∉ [0x06, 0x07, 0x08, 0x09, 0x0A, 0x0E, 0x0F, 0x11] →
        ChangesOnly [.patrol, .reply, .result, .event] s t) := by
  refine completes_of_answer ((exec_faultReportArrival (some q) s).trans
    (execFaultReportArrival_given ha hsource hunit hreal hat huc hmasked hpointer)) ?_
  have hsettle := (ChangesOnly.refl [] (arrivedNow q (damageWord q s))).settle s
  have hwords : (settle s (arrivedNow q (damageWord q s))).host.event.words = (damageWord q s).host.event.words :=
    field_of_core OutQueue.words (fun _ => rfl) (hsettle .event (by simp))
  refine ⟨?_, fun w hq hw => ?_, fun hq r hr => ?_, fun hq hlevel e he => ?_, fun l3 h3 l4 h4 hq hlevel => ?_, fun hsub => ?_⟩
  · rw [settle_patrol]
    exact congrArg (· ++ [q]) (sameArrivals_damageWord q s).arrived
  · rw [hwords, damageWord_event hq huc]
    show (s.host.event.words.zipIdx.map _)[q.detail]? = _
    simp [List.getElem?_zipIdx, hw]
  · rw [settle_patrol, damageWord_log hq huc] at hr
    simpa using (List.mem_filter.mp hr).2
  · rw [settle_point, damageWord_table hq huc hlevel] at he
    simpa using (List.mem_filter.mp he).2
  · rw [settle_memory, damageWord_memory h4 h3 hq huc hlevel]
    exact congrArg Channel.uncorrected (vget_vmod_same _ _ h4)
  · exact ((changesOnly_damageWord s hsub).step ((changesOnly_modPatrol _ _).mono (by simp))).settle s

end

/-! ## The judgement of one report (R425 to R430) -/

section
variable {q : Report} {s : State} {r : FaultRecord}

/-- The record that a report opens, as it enters the log. -/
def loggedRecord (q : Report) (s : State) : FaultRecord := { newRecord q with logSeq := s.patrol.nextSeq }

/-- A report's record in the log with room, open where the report is not injected. -/
theorem logRecord_patrol (hreal : q.injected = false) (hroom : s.patrol.log.length < 512) :
    (logRecord (newRecord q) s).patrol = { (countClass q.cls s).patrol with
      log := s.patrol.log ++ [loggedRecord q s], nextSeq := (s.patrol.nextSeq + 1) % 2 ^ 32,
      opens := assocSet s.patrol.opens (sourceSub q.source) (loggedRecord q s) } := by
  have hfull : decide (512 ≤ s.patrol.log.length) = false := by simpa using hroom
  have hopen : (newRecord q).isOpen = true := by simp [newRecord, hreal]
  unfold logRecord loggedRecord
  simp only [modPatrol, hfull, hopen, if_true, Bool.false_eq_true, if_false]
  cases hc : q.cls <;> simp [countClass, modPatrol, newRecord, hc]

theorem openRec_of_opens {t u : State} (h : t.patrol.opens = u.patrol.opens) (sub : Nat) : openRec t sub = openRec u sub := by
  rw [openRec, openRec, h]

theorem openRec_logRecord (hreal : q.injected = false) (hroom : s.patrol.log.length < 512) :
    openRec (logRecord (newRecord q) s) (sourceSub q.source) = some (loggedRecord q s) := by
  rw [openRec, logRecord_patrol hreal hroom]
  exact find?_assocSet _ _ _

/-- Copies of the newest record alone change with it. -/
theorem map_copies_append {l : List FaultRecord} {n : Nat} (hfresh : ∀ x ∈ l, x.logSeq ≠ n) {r r' : FaultRecord}
    (hr : r.logSeq = n) (hr' : r'.logSeq = n) :
    (l ++ [r]).map (fun (x : FaultRecord) => if x.logSeq == r'.logSeq then r' else x) = l ++ [r'] := by
  have hkeep : l.map (fun (x : FaultRecord) => if x.logSeq == r'.logSeq then r' else x) = l.map id :=
    List.map_congr_left fun x hx => if_neg (by simpa [hr'] using hfresh x hx)
  rw [List.map_append, hkeep, List.map_id]
  simp [hr, hr']

theorem changesOnly_judged (q : Report) (s : State) :
    ChangesOnly [.patrol] s (logRecord (newRecord q) (cycleTaken q s)) :=
  (changesOnly_modPatrol _ s).step (changesOnly_logRecord _ _)

theorem judgeReport_of_ne (h : q.cls ≠ .uc) (s : State) : judgeReport q s = s := by simp [judgeReport, h]

/-- A CE's record opens and closes with its judgement. -/
theorem judgeCycle_ce (hkind : q.kind = .detection) (hreal : q.injected = false) (hsub : sourceSub q.source < 32)
    (hce : q.cls = .ce) (hlatch : s.patrol.latch = none) (hopen : openRec s (sourceSub q.source) = none) :
    judgeCycle [q] s = closeRec (sourceSub q.source) (logRecord (newRecord q) s) := by
  have hlogged : (logRecord (newRecord q) s).patrol.latch = none :=
    ((countClass_patrol (newRecord q).cls s).1).trans hlatch
  have hreps : [q].filter (fun x => x.cls != .ce) = [] := by simp [hce]
  have hlatched : judgeLatch [q] true (logRecord (newRecord q) s) = logRecord (newRecord q) s := by
    rw [judgeLatch, hlogged, hreps]
    rfl
  have hcls : (newRecord q).cls = .ce := hce
  rw [judgeCycle_single hkind hreal (by simp [hce]) hsub, judgeSub_opens hopen]
  show ([newRecord q].filter _).foldl _ (judgeReport q (judgeLatch [q] true (logRecord (newRecord q) s))) = _
  rw [hlatched, judgeReport_of_ne (by simp [hce])]
  simp [hcls]
  rfl

/-- A CE's record as its judgement ends. -/
def endedRecord (q : Report) (s : State) : FaultRecord :=
  { loggedRecord q s with isOpen := false, awaitingFrom := none, closeDue := false }

theorem ceCloses (hce : q.cls = .ce) (hreal : q.injected = false) (hroom : s.patrol.log.length < 512)
    (hlatch : s.patrol.latch = none) (hseq : ∀ r ∈ s.patrol.log, r.logSeq ≠ s.patrol.nextSeq) :
    let t := closeRec (sourceSub q.source) (logRecord (newRecord q) s)
    t.patrol.arrived = s.patrol.arrived ∧ t.patrol.log = s.patrol.log ++ [endedRecord q s] ∧
      t.patrol.nextSeq = (s.patrol.nextSeq + 1) % 2 ^ 32 ∧ openRec t (sourceSub q.source) = none ∧ t.patrol.latch = none ∧
      t.patrol.ceCount = bump s.patrol.ceCount := by
  have hpatrol := logRecord_patrol hreal hroom
  have hshadow : (loggedRecord q s).shadow = false := rfl
  have hcls : (loggedRecord q s).cls ≠ .fa := by
    show q.cls ≠ .fa
    simp [hce]
  intro t
  have ht : t = updateCopies (endedRecord q s) (modPatrol (fun (p : Patrol) => { p with
      opens := p.opens.filter (fun x => x.1 != sourceSub q.source) }) (logRecord (newRecord q) s)) :=
    closeRec_of_open (openRec_logRecord hreal hroom) hcls hshadow
  obtain ⟨hlatch', -, -, -, harrived, -, -⟩ := countClass_patrol q.cls s
  simp only [ht, updateCopies, modPatrol, hpatrol]
  refine ⟨harrived, map_copies_append hseq rfl rfl, trivial, ?_, ?_, ?_⟩
  · rw [openRec, Option.map_eq_none_iff, List.find?_eq_none]
    intro x hx
    simpa using (List.mem_filter.mp hx).2
  · rw [hlatch', hlatch]
    rfl
  · rw [hce]
    rfl

/-- The record of an uncorrectable error with its retry pending. -/
def pendingRecord (q : Report) (s : State) : FaultRecord := { loggedRecord q s with retry := .pending, action := 1 }

/-- The first fault's record stands in the latch. -/
def latchedRecord (q : Report) (s : State) : State :=
  notice causeFault (modPatrol (fun (p : Patrol) => { p with latch := some (loggedRecord q s) }) (logRecord (newRecord q) s))

theorem latchedRecord_patrol (q : Report) (s : State) :
    (latchedRecord q s).patrol = { (logRecord (newRecord q) s).patrol with latch := some (loggedRecord q s) } := rfl

/-- A fault's own record has no retry, and its unit is not in a quiet period: its retry starts. -/
theorem judgeCycle_uc (hkind : q.kind = .detection) (hreal : q.injected = false) (hsub : sourceSub q.source < 32)
    (huc : q.cls = .uc) (hlatch : s.patrol.latch = none) (hopen : openRec s (sourceSub q.source) = none)
    (hroom : s.patrol.log.length < 512) (hshadow : inShadow s q = false)
    (hretries : ∀ p ∈ s.patrol.retries, p.source = q.source → p.unit ≠ q.unit)
    (hquiet : ∀ x ∈ s.patrol.quiet, x.source = q.source → x.unit ≠ q.unit) :
    judgeCycle [q] s = startRetry q (latchedRecord q s) := by
  obtain ⟨hlatch', -, hretries', -, -, -, hquiet'⟩ := countClass_patrol q.cls s
  have hlogged : (logRecord (newRecord q) s).patrol.latch = none := hlatch'.trans hlatch
  have hreps : [q].filter (fun x => x.cls != .ce) = [q] := by simp [huc]
  have hlatched : judgeLatch [q] true (logRecord (newRecord q) s) = latchedRecord q s := by
    rw [judgeLatch, hlogged, hreps]
    exact latchRec_of_open (openRec_logRecord hreal hroom)
  have hr : (latchedRecord q s).patrol.retries = s.patrol.retries := hretries'
  have hq : (latchedRecord q s).patrol.quiet = s.patrol.quiet := hquiet'
  have hsh : inShadow (latchedRecord q s) q = false := by
    rw [← hshadow]
    cases hc : q.cls <;> simp [inShadow, latchedRecord, notice, logRecord, countClass, modPatrol, newRecord, hc]
  have hnoretry : retryOf (latchedRecord q s) q = none := by
    have hfind : s.patrol.retries.find? (fun r => (r.source == q.source && r.unit == q.unit) && r.level == q.level &&
        (q.level != 2 || r.detail == q.detail)) = none :=
      List.find?_eq_none.mpr fun p hp h => hretries p hp (by simp at h; tauto) (by simp at h; tauto)
    unfold retryOf
    simp only [hr, hfind, hkind]
    rfl
  have hnoquiet : ((latchedRecord q s).patrol.quiet.any fun x => x.source == q.source && x.unit == q.unit) = false := by
    rw [hq, List.any_eq_false]
    intro x hx h
    simp only [Bool.and_eq_true, beq_iff_eq] at h
    exact hquiet x hx h.1 h.2
  have hjudged : judgeReport q (latchedRecord q s) = startRetry q (latchedRecord q s) := by
    unfold judgeReport
    rw [hsh, hnoretry, hnoquiet]
    simp [huc]
  have hcls : (newRecord q).cls = .uc := huc
  rw [judgeCycle_single hkind hreal (by simp [huc]) hsub, judgeSub_opens hopen]
  show ([newRecord q].filter _).foldl _ (judgeReport q (judgeLatch [q] true (logRecord (newRecord q) s))) = _
  rw [hlatched, hjudged]
  simp [hcls]

theorem ucStaysOpen (huc : q.cls = .uc) (hreal : q.injected = false) (hroom : s.patrol.log.length < 512)
    (hpointer : isPointer q.source = false) (hseq : ∀ r ∈ s.patrol.log, r.logSeq ≠ s.patrol.nextSeq) :
    let t := startRetry q (latchedRecord q s)
    t.patrol.arrived = s.patrol.arrived ∧ t.patrol.log = s.patrol.log ++ [pendingRecord q s] ∧
      t.patrol.nextSeq = (s.patrol.nextSeq + 1) % 2 ^ 32 ∧ openRec t (sourceSub q.source) = some (pendingRecord q s) ∧
      t.patrol.latch = some (pendingRecord q s) ∧ bitOf t.host.notices.cause causeFault = true ∧
      t.patrol.retries = s.patrol.retries ++
        [{ source := q.source, unit := q.unit, level := q.level, detail := q.detail }] ∧
      t.patrol.ucCount = bump s.patrol.ucCount ∧ ChangesOnly [.patrol] s t := by
  have hpatrol := logRecord_patrol hreal hroom
  obtain ⟨-, -, hretries, -, harrived, -, -⟩ := countClass_patrol q.cls s
  intro t
  have hopen : openRec (modPatrol (fun (x : Patrol) => { x with retries := x.retries ++
      [{ source := q.source, unit := q.unit, level := q.level, detail := q.detail }] }) (latchedRecord q s))
      (sourceSub q.source) = some (loggedRecord q s) := openRec_logRecord hreal hroom
  have ht : t = putRec (pendingRecord q s) (modPatrol (fun (x : Patrol) => { x with retries := x.retries ++
      [{ source := q.source, unit := q.unit, level := q.level, detail := q.detail }] }) (latchedRecord q s)) := by
    show startRetry q (latchedRecord q s) = _
    unfold startRetry
    rw [hpointer, if_neg Bool.false_ne_true, modRec_of_open hopen]
    simp [ownRecord, loggedRecord, newRecord, pendingRecord, huc]
  have hframe : ChangesOnly [.patrol] s t := by
    rw [ht]
    exact (((changesOnly_logRecord _ s).step (changesOnly_modPatrol _ _)).step
      ((changesOnly_notice causeFault _).mono (by simp))).step ((changesOnly_modPatrol _ _).step (changesOnly_putRec _ _))
  have hput : openRec t (sourceSub q.source) = some (pendingRecord q s) := by
    rw [ht]
    exact openRec_putRec (pendingRecord q s) _
  have hcause : bitOf t.host.notices.cause causeFault = true := by
    have hsame : t.host.notices = (latchedRecord q s).host.notices := by
      rw [ht]
      rfl
    rw [hsame, latchedRecord, bitOf_notice_cause]
    simp
  have hp : t.patrol = { (logRecord (newRecord q) s).patrol with
      log := (logRecord (newRecord q) s).patrol.log.map
        (fun (x : FaultRecord) => if x.logSeq == (pendingRecord q s).logSeq then pendingRecord q s else x)
      latch := some (if (loggedRecord q s).logSeq == (pendingRecord q s).logSeq then pendingRecord q s else loggedRecord q s)
      opens := assocSet (logRecord (newRecord q) s).patrol.opens (sourceSub q.source) (pendingRecord q s)
      retries := (logRecord (newRecord q) s).patrol.retries ++
        [{ source := q.source, unit := q.unit, level := q.level, detail := q.detail }] } := by
    rw [ht]
    rfl
  refine ⟨?_, ?_, ?_, hput, ?_, hcause, ?_, ?_, hframe⟩
  · rw [hp, hpatrol]
    exact harrived
  · rw [hp, hpatrol]
    exact map_copies_append hseq rfl rfl
  · rw [hp, hpatrol]
  · rw [hp]
    exact congrArg some (if_pos (by simp [pendingRecord]))
  · rw [hp, hpatrol]
    exact congrArg (· ++ _) hretries
  · rw [hp, hpatrol, huc]
    rfl

/-- A CE joins the record that its subsystem has open. -/
theorem judgeCycle_merge (hkind : q.kind = .detection) (hreal : q.injected = false) (hsub : sourceSub q.source < 32)
    (hce : q.cls = .ce) (hlatch : s.patrol.latch = none) (hopen : openRec s (sourceSub q.source) = some r) :
    judgeCycle [q] s = putRec (mergeInto r q) s := by
  have hkeep : (mergeInto r q).cls = r.cls := by
    cases hc : r.cls <;> simp [mergeInto, hce, hc, classRank, classCode]
  have hlatch' : (putRec (mergeInto r q) s).patrol.latch = none := by
    show Option.map _ s.patrol.latch = none
    rw [hlatch]
    rfl
  have hreps : [q].filter (fun x => x.cls != .ce) = [] := by simp [hce]
  have hlatched : judgeLatch [q] false (putRec (mergeInto r q) s) = putRec (mergeInto r q) s := by
    rw [judgeLatch, hlatch', hreps]
    rfl
  rw [judgeCycle_single hkind hreal (by simp [hce]) hsub, judgeSub_merges hopen hce, hkeep]
  simp only [BEq.rfl, if_true]
  show judgeReport q (judgeLatch [q] false (putRec (mergeInto r q) s)) = _
  rw [hlatched, judgeReport_of_ne (by simp [hce])]

theorem mergeInto_ce (hce : q.cls = .ce) : mergeInto r q = { r with
    overflow := true, merged := min (r.merged + 1) 255, lastSource := q.source,
    cls := if classCode r.cls < 1 then .ce else r.cls } := by
  simp [mergeInto, hce, classRank, classCode]

end

/-- Settles O48: a report arrives as one more that waits, and a cycle with one report opens one record, whose copies in the
log and the latch follow it. -/
theorem reportsBecomeRecords : Obligations.ReportsBecomeRecords := by
  unfold Obligations.ReportsBecomeRecords
  refine ⟨fun q s ha hw => ⟨fun hmasked => wireMasked ha hw hmasked, fun hmasked hpointer =>
      ⟨fun hcls => wireArrives ha hw hmasked hpointer hcls, fun hcls hreal hboot => wireFatal ha hw hmasked hpointer hcls hreal hboot⟩⟩,
    fun q s ha hsource hunit hreal hat huc hmasked hpointer => wordArrives ha hsource hunit hreal hat huc hmasked hpointer,
    fun q s ha harrived hkind hreal hcls hnofault hjudged hdue hshadow hlatch hseq hroom hsub hpointer => ?_⟩
  have hrun := (exec_collectorJudgement s).trans (execCollectorJudgement_single ha harrived hnofault hjudged hdue)
  have htaken : ChangesOnly [.patrol] s (cycleTaken q s) := changesOnly_modPatrol _ s
  dsimp only
  refine ⟨fun hopen hce => completes_of_answer hrun ?_, fun hopen huc hretries hquiet => completes_of_answer hrun ?_,
    fun e hopen hsame hce hother => completes_of_answer hrun ?_⟩
  · obtain ⟨hwaiting, hlog, hnext, hclosed, hlatched, hcount⟩ := ceCloses (s := cycleTaken q s) hce hreal hroom hlatch hseq
    rw [judgeCycle_ce (s := cycleTaken q s) hkind hreal hsub hce hlatch hopen, settle_patrol]
    refine ⟨hwaiting, ⟨endedRecord q (cycleTaken q s), ⟨hlog, rfl, rfl, rfl, rfl, rfl, rfl, rfl, rfl, rfl, rfl, rfl, hnext⟩,
      rfl, ?_, rfl⟩, ?_, hlatched, hcount, ?_⟩
    · simp [endedRecord, loggedRecord, newRecord, hce]
    · exact (openRec_of_opens (by rw [settle_patrol]) _).trans hclosed
    · exact (htaken.step ((changesOnly_logRecord _ _).step (changesOnly_closeRec _ _))).settle s
  · obtain ⟨hwaiting, hlog, hnext, hstands, hlatched, hcause, hpending, hcount, hframe⟩ :=
      ucStaysOpen (s := cycleTaken q s) huc hreal hroom hpointer hseq
    rw [judgeCycle_uc (s := cycleTaken q s) hkind hreal hsub huc hlatch hopen hroom hshadow hretries hquiet, settle_patrol]
    refine ⟨hwaiting, ⟨pendingRecord q (cycleTaken q s), ⟨hlog, rfl, rfl, rfl, rfl, rfl, rfl, rfl, rfl, rfl, rfl, rfl, hnext⟩,
      ?_, rfl, rfl, ?_, hlatched⟩, ?_, hpending, hcount, (htaken.step hframe).settle s⟩
    · simp [pendingRecord, loggedRecord, newRecord, hreal]
    · exact (openRec_of_opens (by rw [settle_patrol]) _).trans hstands
    · rw [bitOf_settle_cause, hcause]
      rfl
  · have hput : openRec (putRec (mergeInto e q) (cycleTaken q s)) (sourceSub q.source) = some (mergeInto e q) := by
      rw [← hsame]
      exact openRec_putRec (mergeInto e q) _
    rw [judgeCycle_merge (s := cycleTaken q s) hkind hreal hsub hce hlatch hopen]
    refine ⟨?_, ⟨mergeInto e q, ?_, mergeInto_ce hce⟩, ?_, (htaken.step (changesOnly_putRec _ _)).settle s⟩
    · rw [settle_patrol]
      rfl
    · exact (openRec_of_opens (by rw [settle_patrol]) _).trans hput
    · rw [settle_patrol]
      rfl

end Sys2Proof.Machine
end

section
/-! Sensors, throttle, supplies and clocks (O55; R513 to R522, R564, R573). -/

namespace Sys2Proof.Machine

/-! ## Works of a list -/

section
variable {α β : Type} {f : β → α → β} {P : β → Prop}

/-- What one work of a list brings about, and every work keeps, holds after the list. -/
theorem foldl_establishes {k : α} (hkeep : ∀ b x, P b → P (f b x)) (hset : ∀ b, P (f b k)) :
    ∀ (l : List α) (b : β), k ∈ l → P (l.foldl f b)
  | x :: l, b, hk => by
    rw [List.foldl_cons]
    rcases List.mem_cons.mp hk with rfl | hk
    · exact List.foldlRecOn l f (hset b) fun b hb a _ => hkeep b a hb
    · exact foldl_establishes hkeep hset l _ hk

/-- Works that each leave what stands do nothing together. -/
theorem foldl_idle {b : β} : ∀ l : List α, (∀ x ∈ l, f b x = b) → l.foldl f b = b
  | [], _ => rfl
  | x :: l, h => by
    rw [List.foldl_cons, h x List.mem_cons_self]
    exact foldl_idle l fun y hy => h y (List.mem_cons_of_mem x hy)

end

/-! ## The hottest sensor (R520) -/

section
variable {s : State} {readings : List Int}

/-- The hotter of the best so far and one sensor, the earlier one on a tie. -/
def hotter (s : State) (best : Option (Nat × Int)) (n : Nat) : Option (Nat × Int) :=
  match best with
  | some b => if b.2 < tempOf s n then some (n, tempOf s n) else best
  | none => some (n, tempOf s n)

theorem hottest_eq (s : State) : hottest s = (sensorsInService s).foldl (hotter s) none := rfl

/-- The hottest of a list of sensors reads at least what every one reads, and is one of them. -/
theorem hottest_spec (s : State) : ∀ (l : List Nat) (n : Nat), ∃ m ∈ n :: l,
    l.foldl (hotter s) (some (n, tempOf s n)) = some (m, tempOf s m) ∧ ∀ x ∈ n :: l, tempOf s x ≤ tempOf s m
  | [], n => ⟨n, List.mem_singleton_self n, rfl, by simp⟩
  | y :: l, n => by
    by_cases hlt : tempOf s n < tempOf s y
    · obtain ⟨m, hm, hfold, hmax⟩ := hottest_spec s l y
      have hstep : hotter s (some (n, tempOf s n)) y = some (y, tempOf s y) := if_pos hlt
      refine ⟨m, List.mem_cons_of_mem n hm, by rw [List.foldl_cons, hstep, hfold], ?_⟩
      rintro x (_ | ⟨_, hx⟩)
      · exact hlt.le.trans (hmax y List.mem_cons_self)
      · exact hmax x hx
    · obtain ⟨m, hm, hfold, hmax⟩ := hottest_spec s l n
      have hstep : hotter s (some (n, tempOf s n)) y = some (n, tempOf s n) := if_neg hlt
      refine ⟨m, ?_, by rw [List.foldl_cons, hstep, hfold], ?_⟩
      · rcases List.mem_cons.mp hm with rfl | hm
        · exact List.mem_cons_self
        · exact List.mem_cons_of_mem n (List.mem_cons_of_mem y hm)
      · rintro x (_ | ⟨_, _ | ⟨_, hx⟩⟩)
        · exact hmax n List.mem_cons_self
        · exact (not_lt.mp hlt).trans (hmax n List.mem_cons_self)
        · exact hmax x (List.mem_cons_of_mem n hx)

theorem hottest_cases (s : State) : (sensorsInService s = [] ∧ hottest s = none) ∨
    ∃ m ∈ sensorsInService s, hottest s = some (m, tempOf s m) ∧ ∀ x ∈ sensorsInService s, tempOf s x ≤ tempOf s m := by
  rw [hottest_eq]
  cases hl : sensorsInService s with
  | nil => exact .inl ⟨rfl, rfl⟩
  | cons n l => exact .inr (hottest_spec s l n)

theorem atLeast_iff (s : State) (limit : Int) : atLeast s limit = true ↔ ∃ n ∈ sensorsInService s, limit ≤ tempOf s n := by
  unfold atLeast
  rcases hottest_cases s with ⟨hnone, hhot⟩ | ⟨m, hm, hhot, hmax⟩
  · simp [hhot, hnone]
  · rw [hhot]
    exact ⟨fun h => ⟨m, hm, of_decide_eq_true h⟩, fun ⟨n, hn, hlimit⟩ => decide_eq_true (hlimit.trans (hmax n hn))⟩

theorem lt_of_mem_sensorsInService {n : Nat} (h : n ∈ sensorsInService s) : n < 8 :=
  List.mem_range.mp (List.mem_of_mem_filter h)

/-! ## A reading (R518, R522) -/

theorem changesOnly_reportCleanAt (src level : Nat) (s : State) : ChangesOnly [.patrol] s (reportCleanAt src level s) :=
  changesOnly_modPatrol _ s

theorem changesOnly_judgeSensor (n : Nat) (s : State) : ChangesOnly [.patrol] s (judgeSensor readings n s) :=
  changesOnly_ite (fun _ => changesOnly_report _ _ _ _ _ s) fun _ =>
    changesOnly_ite (fun _ => changesOnly_reportCleanAt _ _ s) fun _ => .refl _ s

/-- The sensors judged. -/
def sensorsJudged (readings : List Int) (s : State) : State :=
  (List.range 8).foldl (fun (t : State) n => judgeSensor readings n t) s

/-- The readings taken up, with the sensors that stay out of service. -/
def sensorsTaken (readings : List Int) (s : State) : State :=
  modPower (fun (p : Power) => { p with
    temps := Vector.ofFn (fun (n : Fin 8) => readings.getD n.val 0),
    excluded := excludedNow readings (sensorsJudged readings s) }) (sensorsJudged readings s)

/-- The junction has come to SHUTDOWN_C, which is fatal. -/
def shutdownAlarm (was : Bool) (s : State) : State :=
  match hottest s with
  | some b => if atLeast s (shutdownC s) && !was then report (thermalFault b.1) 0 5 .fa 0 s else s
  | none => s

theorem execThermalSensorRead_eq (ha : awake s = true) (hl : readings.length = 8) : execThermalSensorRead readings s =
    answer s (shutdownAlarm (atLeast s (shutdownC s)) (settleCool (sensorsTaken readings s))) := by
  unfold execThermalSensorRead awakeAnswer
  rw [if_pos ha]
  dsimp only
  rw [if_neg (not_not_intro hl)]
  rfl

theorem changesOnly_shutdownAlarm (was : Bool) (s : State) : ChangesOnly [.patrol] s (shutdownAlarm was s) := by
  unfold shutdownAlarm
  split
  · exact changesOnly_ite (fun _ => changesOnly_report _ _ _ _ _ s) fun _ => .refl _ s
  · exact .refl _ s

theorem changesOnly_sensorsJudged (s : State) : ChangesOnly [.patrol] s (sensorsJudged readings s) :=
  changesOnly_foldl (fun t n => changesOnly_judgeSensor n t) _ s

theorem changesOnly_sensorsTaken (s : State) : ChangesOnly [.patrol, .power] s (sensorsTaken readings s) :=
  (changesOnly_sensorsJudged s).comp (changesOnly_modPower _ _)

theorem changesOnly_sensorRead (was : Bool) (s : State) :
    ChangesOnly [.power, .patrol] s (settle s (shutdownAlarm was (settleCool (sensorsTaken readings s)))) :=
  ((((changesOnly_sensorsTaken s).mono (by simp)).step ((changesOnly_modPower _ _).mono (by simp))).step
    ((changesOnly_shutdownAlarm was _).mono (by simp))).settle s

/-- Where no sensor reads badly and none is in fault, the readings alone change. -/
theorem sensorsTaken_good (hgood : ∀ n, n < 8 → readingBad readings n = false) (hex : s.power.excluded = 0)
    (hquiet : s.patrol.quiet = []) (hretries : s.patrol.retries = []) : sensorsTaken readings s =
      modPower (fun (p : Power) => { p with
        temps := Vector.ofFn (fun (n : Fin 8) => readings.getD n.val 0), excluded := 0 }) s := by
  have hjudged : sensorsJudged readings s = s := by
    refine foldl_idle _ fun n hn => ?_
    simp [judgeSensor, hgood n (List.mem_range.mp hn), pendingAt, hretries]
  have hnone : excludedNow readings s = 0 := by
    rw [excludedNow, hex, hquiet]
    refine foldl_idle (List.range 8) fun n hn => if_neg ?_
    simp [hgood n (List.mem_range.mp hn), bitOf]
  rw [sensorsTaken, hjudged, hnone]

/-- The readings as they stand once taken up. -/
theorem tempOf_taken {t : State} (h : t.power.temps = Vector.ofFn (fun (n : Fin 8) => readings.getD n.val 0)) {n : Nat} (hn : n < 8) :
    tempOf t n = readings.getD n 0 := by
  rw [tempOf, h]
  exact vget_ofFn _ hn

theorem goodRead (ha : awake s = true) (hl : readings.length = 8) (hgood : ∀ n, n < 8 → readingBad readings n = false)
    (hex : s.power.excluded = 0) (hquiet : s.patrol.quiet = []) (hretries : s.patrol.retries = []) :
    Completes (.thermalSensorRead readings) s fun t =>
      (∀ n, n < 8 → tempOf t n = readings.getD n 0) ∧ t.power.excluded = 0 ∧
      (atLeast s (shutdownC s) = false → (∃ x ∈ readings, shutdownC s ≤ x) → ∃ r, t.patrol.wires = s.patrol.wires ++ [r] ∧
        r.cls = .fa ∧ r.level = 5 ∧ sourceSub r.source = 0x0F) ∧
      ((∀ x ∈ readings, x < shutdownC s) → t.patrol = s.patrol) ∧ ChangesOnly [.power, .patrol] s t := by
  refine completes_of_answer ((exec_thermalSensorRead readings s).trans (execThermalSensorRead_eq ha hl)) ?_
  have hframe := changesOnly_sensorRead (readings := readings) (atLeast s (shutdownC s)) s
  revert hframe
  rw [sensorsTaken_good hgood hex hquiet hretries]
  generalize hu : settleCool (modPower (fun (p : Power) => { p with
    temps := Vector.ofFn (fun (n : Fin 8) => readings.getD n.val 0), excluded := 0 }) s) = u
  intro hframe
  have htemps : u.power.temps = Vector.ofFn (fun (n : Fin 8) => readings.getD n.val 0) := by rw [← hu]; rfl
  have hex' : u.power.excluded = 0 := by rw [← hu]; rfl
  have hpatrol : u.patrol = s.patrol := by rw [← hu]; rfl
  have hlimit : shutdownC u = shutdownC s := by rw [← hu]; rfl
  have hservice : ∀ n, n ∈ sensorsInService u ↔ n < 8 := fun n => by simp [sensorsInService, hex', bitOf]
  have hpower : (shutdownAlarm (atLeast s (shutdownC s)) u).power = u.power :=
    changesOnly_shutdownAlarm (atLeast s (shutdownC s)) u .power (by simp)
  refine ⟨fun n hn => tempOf_taken (by rw [settle_power, hpower, htemps]) hn, by rw [settle_power, hpower, hex'],
    fun hwas hex => ?_, fun hbelow => ?_, hframe⟩
  · obtain ⟨x, hx, hle⟩ := hex
    obtain ⟨n, hn, rfl⟩ := List.getElem_of_mem hx
    have hn8 : n < 8 := hl ▸ hn
    have hhot : atLeast u (shutdownC u) = true := by
      refine (atLeast_iff u _).mpr ⟨n, (hservice n).mpr hn8, ?_⟩
      rw [hlimit, tempOf_taken htemps hn8, List.getD_eq_getElem _ _ hn]
      exact hle
    rcases hottest_cases u with ⟨hnone, -⟩ | ⟨m, hm, hmost, -⟩
    · exact absurd ((hservice n).mpr hn8) (by simp [hnone])
    · have hm8 := (hservice m).mp hm
      have hsub : sourceSub (thermalFault m) = 0x0F := by
        interval_cases m <;> decide
      have halarm : shutdownAlarm (atLeast s (shutdownC s)) u = report (thermalFault m) 0 5 .fa 0 u := by
        simp only [shutdownAlarm, hmost, hhot, hwas]
        rfl
      rw [halarm, settle_patrol]
      refine ⟨_, congrArg (· ++ _) (congrArg Patrol.wires hpatrol), rfl, rfl, hsub⟩
  · have hcold : atLeast u (shutdownC u) = false := by
      rw [Bool.eq_false_iff]
      intro hhot
      obtain ⟨n, hn, hle⟩ := (atLeast_iff u _).mp hhot
      have hn8 : n < readings.length := hl ▸ (hservice n).mp hn
      rw [hlimit, tempOf_taken htemps ((hservice n).mp hn), List.getD_eq_getElem _ _ hn8] at hle
      exact absurd (hbelow _ (List.getElem_mem hn8)) (not_lt.mpr hle)
    have halarm : shutdownAlarm (atLeast s (shutdownC s)) u = u := by
      unfold shutdownAlarm
      split
      · rw [hcold]
        rfl
      · rfl
    rw [halarm, settle_patrol, hpatrol]

/-- A bad reading stands on the fault wires. -/
def SensorReported (n : Nat) (s : State) : Prop :=
  ∃ r ∈ s.patrol.wires, r.source = thermalFault n ∧ r.cls = .uc ∧ r.level = 3

theorem SensorReported.report {n : Nat} (h : SensorReported n s) (src unit level : Nat) (cls : FaultClass) (detail : Nat) :
    SensorReported n (report src unit level cls detail s) := by
  obtain ⟨r, hr, hrest⟩ := h
  exact ⟨r, List.mem_append_left _ hr, hrest⟩

theorem SensorReported.judgeSensor {n : Nat} (h : SensorReported n s) (m : Nat) : SensorReported n (judgeSensor readings m s) := by
  unfold Machine.judgeSensor
  split_ifs
  · exact h.report _ _ _ _ _
  · obtain ⟨r, hr, hrest⟩ := h
    exact ⟨r, List.mem_append_left _ hr, hrest⟩
  · exact h

theorem SensorReported.shutdownAlarm {n : Nat} (h : SensorReported n s) (was : Bool) : SensorReported n (shutdownAlarm was s) := by
  unfold Machine.shutdownAlarm
  split
  · split_ifs
    · exact h.report _ _ _ _ _
    · exact h
  · exact h

/-- The readings taken up leave the reports, and put the excluded sensors in force. -/
theorem sensorsTaken_keeps (readings : List Int) (s : State) :
    (settleCool (sensorsTaken readings s)).patrol = (sensorsJudged readings s).patrol ∧
      (settleCool (sensorsTaken readings s)).power.excluded = excludedNow readings (sensorsJudged readings s) := by
  unfold sensorsTaken
  generalize sensorsJudged readings s = t
  exact ⟨rfl, rfl⟩

theorem badRead {n : Nat} (ha : awake s = true) (hl : readings.length = 8) (hn : n < 8) (hbad : readingBad readings n = true) :
    Completes (.thermalSensorRead readings) s fun t => bitOf t.power.excluded n = true ∧
      (∃ r ∈ t.patrol.wires, r.source = thermalFault n ∧ r.cls = .uc ∧ r.level = 3) ∧ ChangesOnly [.power, .patrol] s t := by
  have hmem : n ∈ List.range 8 := List.mem_range.mpr hn
  have hreported : SensorReported n (sensorsJudged readings s) := by
    refine foldl_establishes (fun t m h => h.judgeSensor m) (fun t => ?_) _ s hmem
    rw [judgeSensor, if_pos hbad]
    exact ⟨_, List.mem_append_right _ (List.mem_singleton_self _), rfl, rfl, rfl⟩
  have hexcluded : bitOf (excludedNow readings (sensorsJudged readings s)) n = true := by
    refine foldl_establishes (P := fun m => bitOf m n = true) (fun m k h => ?_) (fun m => ?_) _ _ hmem
    · split_ifs
      · rw [bitOf_setBit, h]
        rfl
      · exact h
    · simp [hbad, bitOf_setBit]
  obtain ⟨hwires, htaken⟩ := sensorsTaken_keeps readings s
  have halarm : SensorReported n (shutdownAlarm (atLeast s (shutdownC s)) (settleCool (sensorsTaken readings s))) :=
    SensorReported.shutdownAlarm (by rw [SensorReported, hwires]; exact hreported) _
  have hpower : (shutdownAlarm (atLeast s (shutdownC s)) (settleCool (sensorsTaken readings s))).power =
      (settleCool (sensorsTaken readings s)).power := changesOnly_shutdownAlarm _ _ .power (by simp)
  have hframe := changesOnly_sensorRead (readings := readings) (atLeast s (shutdownC s)) s
  refine completes_of_answer ((exec_thermalSensorRead readings s).trans (execThermalSensorRead_eq ha hl)) ⟨?_, ?_, hframe⟩
  · rw [settle_power, hpower, htaken, hexcluded]
  · rw [settle_patrol]
    exact halarm

end

/-! ## The throttle (R520, R521) -/

section
variable {s : State} {n : Nat} {x : Int}

/-- The second of an evaluation is noted. -/
def evaluatedAt (s : State) : State := modPower (fun (p : Power) => { p with evaluated := now s / secUnits }) s

theorem execThrottleEvaluation_eq (ha : awake s = true) (hrun : inRun s = true) (hnew : now s / secUnits ≠ s.power.evaluated) :
    execThrottleEvaluation s = answer s (throttleAt (now s / secUnits * secUnits) (evaluatedAt s)) := by
  unfold execThrottleEvaluation awakeAnswer
  rw [if_pos ha]
  dsimp only
  rw [if_neg (by simp [hrun, hnew])]
  rfl

theorem changesOnly_setThrottle (rate : Nat) (st : ThrottleState) (s : State) : ChangesOnly [.power] s (setThrottle rate st s) :=
  changesOnly_modPower _ s

theorem changesOnly_engage (n : Nat) (t : Dts) (s : State) : ChangesOnly [.power, .patrol] s (engage n t s) :=
  (changesOnly_modPower _ s).comp (changesOnly_report _ _ _ _ _ _)

theorem throttleAt_hot (hhot : hottest s = some (n, x)) (hheld : s.power.held = false) (hx : throttleC s ≤ x) (t : Dts) :
    throttleAt t s = throttleDown (if s.power.throttleRate = 0 then engage n t s else s) := by
  unfold throttleAt
  rw [hheld, if_neg Bool.false_ne_true, hhot]
  exact if_pos hx

theorem throttleAt_cool (hhot : hottest s = some (n, x)) (hheld : s.power.held = false) (hx : x < throttleC s)
    (hrate : s.power.throttleRate ≠ 0) {c t : Dts} (hcool : s.power.coolFrom = some c) (hc : c + 5 * secUnits ≤ t) :
    throttleAt t s = throttleUp s := by
  have hlong : s.power.coolFrom.any (fun c => decide (c + 5 * secUnits ≤ t)) = true := by
    rw [hcool, Option.any_some, decide_eq_true hc]
  unfold throttleAt
  rw [hheld, if_neg Bool.false_ne_true, hhot]
  dsimp only
  rw [if_neg (not_le.mpr hx), if_pos ⟨hrate, hlong⟩]

theorem throttleUp_rate (s : State) : (throttleUp s).power.throttleRate =
    if ratedRate s ≤ s.power.throttleRate + stepFps s then 0 else s.power.throttleRate + stepFps s := by
  unfold throttleUp
  dsimp only
  split_ifs <;> rfl

theorem changesOnly_throttleUp (s : State) : ChangesOnly [.power] s (throttleUp s) :=
  changesOnly_ite (fun _ => changesOnly_setThrottle _ _ s) fun _ => changesOnly_setThrottle _ _ s

theorem throttleEvaluates (ha : awake s = true) (hrun : inRun s = true) (hhot : hottest s = some (n, x))
    (hheld : s.power.held = false) (hnew : now s / secUnits ≠ s.power.evaluated) :
    (throttleC s ≤ x → s.power.throttleRate = 0 → Completes .throttleEvaluation s fun t =>
      t.power.throttleRate = max (ratedRate s - stepFps s) (floorFps s) ∧
      t.power.throttleEvents = bump s.power.throttleEvents ∧ t.power.evaluated = now s / secUnits ∧
      (∃ r, t.patrol.wires = s.patrol.wires ++ [r] ∧ r.source = thermalFault n ∧ r.cls = .uc ∧ r.level = 4) ∧
      ChangesOnly [.power, .patrol] s t) ∧
    (throttleC s ≤ x → s.power.throttleRate ≠ 0 → Completes .throttleEvaluation s fun t =>
      t.power.throttleRate = max (s.power.throttleRate - stepFps s) (floorFps s) ∧ ChangesOnly [.power] s t) ∧
    ∀ c, x < throttleC s → s.power.throttleRate ≠ 0 → s.power.coolFrom = some c →
      c + 5 * secUnits ≤ now s / secUnits * secUnits → Completes .throttleEvaluation s fun t =>
        t.power.throttleRate = (if ratedRate s ≤ s.power.throttleRate + stepFps s then 0
          else s.power.throttleRate + stepFps s) ∧ ChangesOnly [.power] s t := by
  have hrunning := (exec_throttleEvaluation s).trans (execThrottleEvaluation_eq ha hrun hnew)
  have hhot' : hottest (evaluatedAt s) = some (n, x) := hhot
  have hframe : ChangesOnly [.power] s (evaluatedAt s) := changesOnly_modPower _ s
  refine ⟨fun hx hzero => completes_of_answer hrunning ?_, fun hx hrate => completes_of_answer hrunning ?_,
    fun c hx hrate hcool hc => completes_of_answer hrunning ?_⟩
  · rw [throttleAt_hot hhot' hheld hx, if_pos (show (evaluatedAt s).power.throttleRate = 0 from hzero)]
    refine ⟨?_, ?_, ?_, ?_, ((hframe.comp (changesOnly_engage n _ _)).mono (by simp)).step
      ((changesOnly_setThrottle _ _ _).mono (by simp)) |>.settle s⟩
    · rw [settle_power]
      rfl
    · rw [settle_power]
      rfl
    · rw [settle_power]
      rfl
    · rw [settle_patrol]
      exact ⟨_, rfl, rfl, rfl, rfl⟩
  · rw [throttleAt_hot hhot' hheld hx, if_neg (show (evaluatedAt s).power.throttleRate ≠ 0 from hrate), settle_power]
    exact ⟨rfl, (hframe.step (changesOnly_setThrottle _ _ _)).settle s⟩
  · rw [throttleAt_cool (s := evaluatedAt s) hhot' hheld hx hrate hcool hc, settle_power, throttleUp_rate]
    exact ⟨rfl, (hframe.step (changesOnly_throttleUp _)).settle s⟩

theorem throttleRetries (ha : awake s = true) (hfind : (List.range 8).find? (fun n => pendingAt s (thermalFault n) 4) = some n)
    (hdue : s.power.engagedAt + fld (limits s) 56 8 * secUnits ≤ now s) : Completes .throttleRetry s fun t =>
      (∃ r, t.patrol.wires = s.patrol.wires ++ [r] ∧ r.source = thermalFault n ∧ r.level = 4 ∧
        (r.kind = .detection ↔ atLeast s (throttleC s) = true)) ∧ ChangesOnly [.patrol] s t := by
  have heq : execThrottleRetry s = answer s (if atLeast s (throttleC s) then report (thermalFault n) 0 4 .uc 0 s
      else reportCleanAt (thermalFault n) 4 s) := by
    unfold execThrottleRetry awakeAnswer
    rw [if_pos ha]
    dsimp only
    rw [hfind]
    dsimp only
    rw [if_neg (Nat.not_lt.mpr hdue)]
  refine completes_of_answer ((exec_throttleRetry s).trans heq) ?_
  by_cases hhot : atLeast s (throttleC s) = true
  · rw [if_pos hhot, settle_patrol]
    exact ⟨⟨_, rfl, rfl, rfl, iff_of_true rfl hhot⟩, (changesOnly_report _ _ _ _ _ s).settle s⟩
  · rw [if_neg hhot, settle_patrol]
    exact ⟨⟨_, rfl, rfl, rfl, iff_of_false nofun hhot⟩, (changesOnly_reportCleanAt _ _ s).settle s⟩

/-! ## The analog trip (R522) -/

/-- The state after the analog trip. -/
def analogTripped (s : State) : State :=
  setTime (fun (tb : TimeBase) => { tb with running := false })
    (modPower (fun (p : Power) => { p with tripped := true, plls := 0 })
      (modSafety (fun (x : Safety) => { x with faultN := true }) (staticPins (report (sourceOf 0x0F 0 0) 0 5 .fa 0 s))))

theorem analogTripStops (hreset : inReset s = false) (htripped : s.power.tripped = false) :
    Completes .analogThermalTrip s fun t => t.power.tripped = true ∧
      t.safety.faultN = true ∧ t.safety.safeA = false ∧ t.safety.safeB = false ∧ t.time.running = false ∧ awake t = false ∧
      ChangesOnly [.power, .safety, .time, .patrol] s t := by
  have heq : execAnalogThermalTrip s = answer s (analogTripped s) := by
    unfold execAnalogThermalTrip
    rw [hreset, htripped]
    rfl
  have hpower : (settle s (analogTripped s)).power.tripped = true := by rw [settle_power]; rfl
  refine completes_of_answer ((exec_analogThermalTrip s).trans heq) ⟨hpower, ?_, ?_, ?_, ?_, ?_, ?_⟩
  · rw [settle_safety]
    rfl
  · rw [settle_safety]
    rfl
  · rw [settle_safety]
    rfl
  · rw [settle_time]
    rfl
  · rw [awake, halted, hpower, Bool.or_true]
    rfl
  · refine ChangesOnly.settle s ?_
    rw [changesOnly_iff]
    simp [Part.same, analogTripped, staticPins, report]

end

/-! ## Supplies (R515, R517) -/

section
variable {s : State} {n : Nat} {mv : Int}

theorem awake_iff (s : State) : awake s = true ↔ halted s = false ∧ inReset s = false := by simp [awake]

theorem execSupplyMonitorCrossing_eq (hn : n ≤ 6) (hsafe : beyondRatings n mv = false) :
    execSupplyMonitorCrossing n mv s = answer s (supplyCrossing n mv s) := by
  rw [execSupplyMonitorCrossing, if_neg (not_lt.mpr hn), hsafe]
  rfl

theorem monitored_of_awake (ha : awake s = true) : monitored (recordLevel n mv s) n = true := by
  have hhalted : halted (recordLevel n mv s) = false := ((awake_iff s).mp ha).1
  simp [monitored, hhalted]

/-- The inhibit settled after a level of VDD_IO18 or FLASH_VSENSE. -/
def inhibitTaken (n : Nat) (mv : Int) (s : State) : State :=
  if n = 4 ∨ n = 6 then settleInhibit (if mv < 1720 then setInhibit n s else s) else s

theorem supplyCrossing_awake (ha : awake s = true) (hon : ¬ (n = 2 ∧ supplyUnder 2 mv = true)) : supplyCrossing n mv s =
    if n ≠ 6 ∧ (supplyUnder n mv || supplyOver n mv) ∧ !bitOf s.power.outOfRange n then
      supplyFatal n (inhibitTaken n mv (recordLevel n mv s)) else inhibitTaken n mv (recordLevel n mv s) := by
  have hreset : inReset (recordLevel n mv s) = false := ((awake_iff s).mp ha).2
  unfold supplyCrossing
  dsimp only
  rw [if_neg hon, hreset, monitored_of_awake ha]
  rfl

theorem changesOnly_setInhibit (n : Nat) (s : State) : ChangesOnly [.power, .security] s (setInhibit n s) := by
  unfold setInhibit
  extract_lets s1
  refine ChangesOnly.step (t := s1) ?_ ((changesOnly_modPower _ _).mono (by simp))
  exact changesOnly_ite (fun _ => .refl _ s) fun _ =>
    ((changesOnly_modPower _ s).mono (by simp)).step ((changesOnly_modSecurity _ _).mono (by simp))

theorem changesOnly_inhibitTaken (n : Nat) (mv : Int) (s : State) : ChangesOnly [.power, .security] s (inhibitTaken n mv s) :=
  changesOnly_ite (fun _ => (changesOnly_ite (fun _ => changesOnly_setInhibit n s) fun _ => .refl _ s).step
    ((changesOnly_modPower _ _).mono (by simp))) fun _ => .refl _ s

/-- The levels and ranges of the supplies, and whether the device runs, are as before. -/
structure SameLevels (s t : State) : Prop where
  supplies : t.power.supplies = s.power.supplies
  ranges : t.power.outOfRange = s.power.outOfRange
  standby : t.power.standby = s.power.standby
  tripped : t.power.tripped = s.power.tripped

theorem SameLevels.trans {t u : State} (h : SameLevels s t) (h' : SameLevels t u) : SameLevels s u :=
  ⟨h'.supplies.trans h.supplies, h'.ranges.trans h.ranges, h'.standby.trans h.standby, h'.tripped.trans h.tripped⟩

theorem SameLevels.halted {t : State} (h : SameLevels s t) : halted t = halted s := by
  rw [Machine.halted, Machine.halted, h.standby, h.tripped]

theorem sameLevels_modSecurity (f : Security → Security) (s : State) : SameLevels s (modSecurity f s) := ⟨rfl, rfl, rfl, rfl⟩

theorem sameLevels_setInhibit (n : Nat) (s : State) : SameLevels s (setInhibit n s) := by
  unfold setInhibit
  extract_lets s1
  refine SameLevels.trans (t := s1) ?_ ⟨rfl, rfl, rfl, rfl⟩
  by_cases hset : nvInhibited s = true
  · rw [show s1 = s from if_pos hset]
    exact ⟨rfl, rfl, rfl, rfl⟩
  · rw [show s1 = _ from if_neg hset]
    refine SameLevels.trans (t := modPower (fun (p : Power) => { p with nvInhibitEvents := bump p.nvInhibitEvents }) s) ?_
      (sameLevels_modSecurity _ _)
    exact ⟨rfl, rfl, rfl, rfl⟩

/-- The inhibit leaves the levels and the ranges as recorded. -/
theorem sameLevels_inhibitTaken (n : Nat) (mv : Int) (s : State) : SameLevels s (inhibitTaken n mv s) := by
  unfold inhibitTaken
  by_cases hn : n = 4 ∨ n = 6
  · rw [if_pos hn]
    refine SameLevels.trans ?_ (t := if mv < 1720 then setInhibit n s else s) ⟨rfl, rfl, rfl, rfl⟩
    by_cases hlow : mv < 1720
    · rw [if_pos hlow]
      exact sameLevels_setInhibit n s
    · rw [if_neg hlow]
      exact ⟨rfl, rfl, rfl, rfl⟩
  · rw [if_neg hn]
    exact ⟨rfl, rfl, rfl, rfl⟩

theorem powersOnAnew (hsafe : beyondRatings 2 mv = false) (hunder : supplyUnder 2 mv = true) :
    Completes (.supplyMonitorCrossing 2 mv) s fun t => t.dev.state = .boot ∧
      awake t = false ∧ t.patrol.log = [] ∧ t.pins.porstN = s.pins.porstN := by
  have heq : supplyCrossing 2 mv s = powerOnReset (recordLevel 2 mv s) := by
    unfold supplyCrossing
    exact if_pos ⟨rfl, hunder⟩
  refine completes_of_answer ((exec_supplyMonitorCrossing 2 mv s).trans (execSupplyMonitorCrossing_eq (by omega) hsafe)) ?_
  rw [heq]
  have hpins : (settle s (powerOnReset (recordLevel 2 mv s))).pins = (powerOnReset (recordLevel 2 mv s)).pins := settle_pins _ _
  refine ⟨by rw [settle_devState]; rfl, ?_, by rw [settle_patrol]; rfl, by rw [hpins]; rfl⟩
  have hreleased : (settle s (powerOnReset (recordLevel 2 mv s))).pins.released = false := by rw [hpins]; rfl
  rw [awake, inReset, hreleased, Bool.not_false, Bool.or_true, Bool.not_true, Bool.and_false]

theorem supplyFails (ha : awake s = true) (hn : n ≤ 6) (hsafe : beyondRatings n mv = false) (hne : n ≠ 6)
    (hon : ¬ (n = 2 ∧ supplyUnder 2 mv = true)) (hout : supplyUnder n mv = true ∨ supplyOver n mv = true)
    (hwas : bitOf s.power.outOfRange n = false) : Completes (.supplyMonitorCrossing n mv) s fun t =>
      vget t.power.supplies n = mv.toNat ∧ bitOf t.power.outOfRange n = true ∧
      (∃ r, t.patrol.wires = s.patrol.wires ++ [r] ∧ r.source = supplyFault n ∧ r.cls = .fa ∧ r.level = 5) ∧
      ChangesOnly [.power, .security, .patrol] s t := by
  have hout' : (supplyUnder n mv || supplyOver n mv) = true := by simpa using hout
  have hlevels := sameLevels_inhibitTaken n mv (recordLevel n mv s)
  have hrun : halted (inhibitTaken n mv (recordLevel n mv s)) = false := hlevels.halted.trans ((awake_iff s).mp ha).1
  have heq : supplyCrossing n mv s = report (supplyFault n) 0 5 .fa 0 (inhibitTaken n mv (recordLevel n mv s)) := by
    rw [supplyCrossing_awake ha hon, if_pos ⟨hne, hout', by simp [hwas]⟩, supplyFatal, hrun]
    rfl
  have hframe : ChangesOnly [.power, .security] s (inhibitTaken n mv (recordLevel n mv s)) :=
    ((changesOnly_modPower _ s).mono (by simp)).step (changesOnly_inhibitTaken n mv _)
  have hwires : (inhibitTaken n mv (recordLevel n mv s)).patrol = s.patrol := hframe .patrol (by simp)
  refine completes_of_answer ((exec_supplyMonitorCrossing n mv s).trans (execSupplyMonitorCrossing_eq hn hsafe)) ?_
  rw [heq]
  refine ⟨?_, ?_, ?_, ((hframe.comp (changesOnly_report _ _ _ _ _ _)).mono (by simp)).settle s⟩
  · rw [settle_power]
    exact (congrArg (vget · n) hlevels.supplies).trans (vget_vset_same _ _ (by omega))
  · rw [settle_power]
    refine (congrArg (bitOf · n) hlevels.ranges).trans ?_
    show bitOf (if (supplyUnder n mv || supplyOver n mv) = true then _ else _) n = true
    rw [if_pos hout', bitOf_setBit]
    simp
  · rw [settle_patrol]
    exact ⟨_, congrArg (· ++ _) (congrArg Patrol.wires hwires), rfl, rfl, rfl⟩

theorem flashSenseInhibits (ha : awake s = true) (hsafe : beyondRatings 6 mv = false) (hlow : mv < 1720)
    (hclear : nvInhibited s = false) : Completes (.supplyMonitorCrossing 6 mv) s fun t => nvInhibited t = true ∧
      t.power.nvInhibitEvents = bump s.power.nvInhibitEvents ∧ (∀ w ∈ t.security.work, w.pausedAt ≠ none) ∧
      t.patrol = s.patrol ∧ ChangesOnly [.power, .security] s t := by
  have hframe : ChangesOnly [.power, .security] s (inhibitTaken 6 mv (recordLevel 6 mv s)) :=
    ((changesOnly_modPower _ s).mono (by simp)).step (changesOnly_inhibitTaken 6 mv _)
  have heq : supplyCrossing 6 mv s = inhibitTaken 6 mv (recordLevel 6 mv s) := by
    rw [supplyCrossing_awake ha (by simp), if_neg (by simp)]
  have hclear' : nvInhibited (recordLevel 6 mv s) = false := hclear
  have hset : inhibitTaken 6 mv (recordLevel 6 mv s) = settleInhibit (setInhibit 6 (recordLevel 6 mv s)) := by
    rw [inhibitTaken, if_pos (.inr rfl), if_pos hlow]
  refine completes_of_answer ((exec_supplyMonitorCrossing 6 mv s).trans (execSupplyMonitorCrossing_eq (by omega) hsafe)) ?_
  have hpatrol := (hframe.settle s) .patrol (by simp)
  rw [heq]
  refine ⟨?_, ?_, ?_, hpatrol, hframe.settle s⟩
  · rw [nvInhibited, settle_power, hset]
    simp [settleInhibit, setInhibit, modPower]
  · rw [settle_power, hset, setInhibit, hclear']
    rfl
  · rw [settle_security, hset, setInhibit, hclear']
    intro w hw
    obtain ⟨v, -, rfl⟩ := List.mem_map.mp hw
    exact Option.some_ne_none _

/-! ## The write inhibit (R517) -/

theorem inhibitClears {g : Dts} (ha : awake s = true) (hset : nvInhibited s = true) (hgood : s.power.nvGoodFrom = some g)
    (hdue : g + 10 * msUnits ≤ now s) : Completes .nvInhibitClear s fun t =>
      nvInhibited t = false ∧ (∀ w ∈ t.security.work, w.pausedAt = none) ∧ ChangesOnly [.power, .security] s t := by
  have heq : execNvInhibitClear s = answer s (modSecurity (fun (x : Security) => { x with
      work := (x.work.filter (fun (w : FlashWork) => w.stage != 0)).map (fun (w : FlashWork) => { w with pausedAt := none }) })
      (modPower (fun (p : Power) => { p with io18Inhibit := false, flashInhibit := false }) s)) := by
    have hlong : s.power.nvGoodFrom.any (fun t => decide (t + 10 * msUnits ≤ now s)) = true := by
      rw [hgood, Option.any_some, decide_eq_true hdue]
    unfold execNvInhibitClear awakeAnswer
    rw [if_pos ha]
    dsimp only
    rw [hset, hlong, if_neg (by simp)]
  refine completes_of_answer ((exec_nvInhibitClear s).trans heq) ⟨?_, ?_, ((changesOnly_modPower _ s).comp
    (changesOnly_modSecurity _ _)).settle s⟩
  · rw [nvInhibited, settle_power]
    rfl
  · rw [settle_security]
    intro w hw
    obtain ⟨v, -, rfl⟩ := List.mem_map.mp hw
    rfl

theorem changesOnly_setFlash (kind slot : Nat) (st : SlotState) (s : State) : ChangesOnly [.security] s (setFlash kind slot st s) :=
  changesOnly_modSecurity _ s

theorem changesOnly_dropWorkOf (k : CmdKey) (s : State) : ChangesOnly [.security] s (dropWorkOf k s) := changesOnly_modSecurity _ s

/-- A paused command's outcome, beside its work and its target's slot. -/
theorem endPaused_eq {w : FlashWork} {c : Cmd} (h : flightOf w.key s = some c) : ∃ u, endPaused w s = conclude c stSupplyLow 0 [] u ∧
    ChangesOnly [.security] s u ∧ u.security.work = s.security.work.filter (fun v => !(v.key == w.key)) := by
  have hkey : concludeKey w.key stSupplyLow 0 [] (dropWorkOf w.key s) = conclude c stSupplyLow 0 [] (dropWorkOf w.key s) := by
    rw [concludeKey, show flightOf w.key (dropWorkOf w.key s) = some c from h]
  have hdrop := changesOnly_dropWorkOf w.key s
  unfold endPaused
  rw [hkey, h]
  dsimp only
  by_cases hstage : w.stage = 0
  · exact ⟨dropWorkOf w.key s, if_pos hstage, hdrop, rfl⟩
  · exact ⟨setFlash (fld c.params 0 8) (targetSlot s (fld c.params 0 8)) .invalid (dropWorkOf w.key s), if_neg hstage,
      hdrop.step (changesOnly_setFlash _ _ _ _), rfl⟩

theorem pausedCommandEnds {w : FlashWork} {c : Cmd} {p : Dts} (ha : awake s = true) (hwork : s.security.work = [w])
    (hp : w.pausedAt = some p) (hdue : p + 2 * secUnits ≤ now s) (hc : flightOf w.key s = some c) :
    Completes .nvPauseTimeout s fun t => Concluded c stSupplyLow 0 [] s t ∧
      t.security.work = [] ∧ ChangesOnly [.flight, .security] s t := by
  have heq : execNvPauseTimeout s = answer s (endPaused w s) := by
    have hlong : w.pausedAt.any (fun t => decide (t + 2 * secUnits ≤ now s)) = true := by
      rw [hp, Option.any_some, decide_eq_true hdue]
    unfold execNvPauseTimeout awakeAnswer
    rw [if_pos ha]
    dsimp only
    rw [hwork, List.filter_cons_of_pos (by exact hlong)]
    rfl
  obtain ⟨u, hu, hframe, hleft⟩ := endPaused_eq (s := s) hc
  refine completes_of_answer ((exec_nvPauseTimeout s).trans heq) ?_
  rw [hu]
  refine ⟨concluded_conclude s (hframe .flight (by simp)), ?_, changesOnly_concluded hframe c _ _ _ (by simp)⟩
  rw [settle_security]
  refine hleft.trans ?_
  simp [hwork]

end

/-! ## PLLs, the regulator and on-demand domains (R513, R514, R564) -/

section
variable {s : State} {n : Nat}

theorem bitOf_and_clear {v n : Nat} (hn : n ≤ 4) (hv : v < 32) (m : Nat) :
    bitOf (v &&& (31 - 2 ^ n)) m = (bitOf v m && m != n) := by
  have hmask : Nat.testBit (31 - 2 ^ n) m = (decide (m < 5) && m != n) := by
    by_cases hm : m < 5
    · interval_cases n <;> interval_cases m <;> rfl
    · have hlt : 31 - 2 ^ n < 2 ^ m := by
        have hpow : (32 : Nat) ≤ 2 ^ m := (Nat.pow_le_pow_right (n := 2) (by omega) (not_lt.mp hm) :)
        exact (Nat.sub_le 31 (2 ^ n)).trans_lt (by omega)
      rw [Nat.testBit_lt_two_pow hlt]
      simp [hm]
  rw [bitOf_eq_testBit, bitOf_eq_testBit, Nat.testBit_and, hmask]
  by_cases hm : m < 5
  · simp [hm]
  · have hlt : v < 2 ^ m := hv.trans_le (Nat.pow_le_pow_right (n := 2) (by omega) (not_lt.mp hm))
    simp [Nat.testBit_lt_two_pow hlt]

/-- A PLL has lost its lock. -/
def pllLost (n : Nat) (s : State) : State := modPower (fun (p : Power) => { p with plls := p.plls &&& (31 - 2 ^ n) }) s

theorem pllLoses (ha : awake s = true) (hn : n ≤ 4) (hlocked : bitOf s.power.plls n = true) (hplls : s.power.plls < 32) :
    Completes (.pllLockLoss n) s fun t => bitOf t.power.plls n = false ∧
      (∀ m, m ≠ n → bitOf t.power.plls m = bitOf s.power.plls m) ∧
      (∃ r, t.patrol.wires = s.patrol.wires ++ [r] ∧ r.source = pllFault n ∧ (r.cls = .fa ↔ n < 3) ∧
        (3 ≤ n → r.cls = .uc ∧ r.level = 4)) ∧ ChangesOnly [.power, .patrol] s t := by
  have heq : execPllLockLoss n s = answer s (if n < 3 then report (pllFault n) 0 5 .fa 0 (pllLost n s)
      else report (pllFault n) 0 4 .uc 0 (pllLost n s)) := by
    unfold execPllLockLoss awakeAnswer
    rw [if_pos ha]
    dsimp only
    rw [if_neg (not_lt.mpr hn), hlocked]
    rfl
  have hreported : ∀ (level : Nat) (cls : FaultClass), (cls = .fa ↔ n < 3) → (3 ≤ n → cls = .uc ∧ level = 4) →
      let t := settle s (report (pllFault n) 0 level cls 0 (pllLost n s))
      bitOf t.power.plls n = false ∧ (∀ m, m ≠ n → bitOf t.power.plls m = bitOf s.power.plls m) ∧
      (∃ r, t.patrol.wires = s.patrol.wires ++ [r] ∧ r.source = pllFault n ∧ (r.cls = .fa ↔ n < 3) ∧
        (3 ≤ n → r.cls = .uc ∧ r.level = 4)) ∧ ChangesOnly [.power, .patrol] s t := by
    intro level cls hfatal hretried t
    have hbit : ∀ m, bitOf t.power.plls m = (bitOf s.power.plls m && m != n) := fun m => by
      simp only [t, settle_power]
      exact bitOf_and_clear hn hplls m
    refine ⟨by rw [hbit n, bne_self_eq_false, Bool.and_false], fun m hm => by rw [hbit m, bne_iff_ne.mpr hm, Bool.and_true], ?_,
      ((changesOnly_modPower _ s).comp (changesOnly_report _ _ _ _ _ _)).settle s⟩
    simp only [t, settle_patrol]
    exact ⟨_, rfl, rfl, hfatal, hretried⟩
  refine completes_of_answer ((exec_pllLockLoss n s).trans heq) ?_
  by_cases hfatal : n < 3
  · rw [if_pos hfatal]
    exact hreported 5 .fa (iff_of_true rfl hfatal) fun h => absurd hfatal (not_lt.mpr h)
  · rw [if_neg hfatal]
    exact hreported 4 .uc (iff_of_false nofun hfatal) fun _ => ⟨rfl, rfl⟩

/-- A PLL has locked again. -/
def pllLocked (n : Nat) (s : State) : State := modPower (fun (p : Power) => { p with plls := setBit p.plls n }) s

/-- The retry of a PLL's loss has ended. -/
def relockNoted (n : Nat) (s : State) : State :=
  if retryPending s (pllFault n) 0 then reportCleanAt (pllFault n) 4 s else s

theorem pllRelocks (ha : awake s = true) (hn : n = 3 ∨ n = 4) (hlost : bitOf s.power.plls n = false) :
    Completes (.pllRelock n) s fun t => bitOf t.power.plls n = true ∧
      (∀ m, m ≠ n → bitOf t.power.plls m = bitOf s.power.plls m) ∧ ChangesOnly [.power, .patrol] s t := by
  have heq : execPllRelock n s = answer s (relockNoted n (pllLocked n s)) := by
    unfold execPllRelock awakeAnswer
    rw [if_pos ha]
    dsimp only
    rw [if_neg (by simp [hlost]; omega)]
    rfl
  have hnoted : ChangesOnly [.patrol] (pllLocked n s) (relockNoted n (pllLocked n s)) :=
    changesOnly_ite (fun _ => changesOnly_reportCleanAt _ _ _) fun _ => .refl _ _
  have hbit : ∀ m, bitOf (settle s (relockNoted n (pllLocked n s))).power.plls m = (bitOf s.power.plls m || m == n) := fun m => by
    have hpower : (relockNoted n (pllLocked n s)).power = (pllLocked n s).power := hnoted .power (by simp)
    rw [settle_power, hpower]
    exact bitOf_setBit s.power.plls n m
  refine completes_of_answer ((exec_pllRelock n s).trans heq) ⟨?_, fun m hm => ?_,
    ((changesOnly_modPower _ s).comp hnoted).settle s⟩
  · rw [hbit n, BEq.rfl, Bool.or_true]
  · rw [hbit m, beq_false_of_ne hm, Bool.or_false]

/-- One more try for the regulator's target. -/
def targetTried (ack : Bool) (s : State) : State :=
  tryTarget (modPower (fun (p : Power) => { p with pmbusTries := p.pmbusTries + 1, pmbusDone := ack }) s)

theorem execPmbusRetry_eq {ack : Bool} (ha : awake s = true) (hopen : s.power.pmbusDone = false) (hmore : s.power.pmbusTries < 4)
    (hdue : s.power.pmbusAt + 1000 * countsPerUs ≤ countNow s) : execPmbusRetry ack s = answer s
      (if !ack && (targetTried ack s).power.pmbusTries == 4 then report (supplyFault 0) 0 4 .ce 0 (targetTried ack s)
        else targetTried ack s) := by
  unfold execPmbusRetry awakeAnswer
  rw [if_pos ha]
  dsimp only
  rw [if_neg (by simp [hopen, Nat.not_le.mpr hmore, Nat.not_lt.mpr hdue])]
  rfl

theorem changesOnly_targetTried (ack : Bool) (s : State) : ChangesOnly [.power, .tx] s (targetTried ack s) := by
  rw [changesOnly_iff]
  simp [Part.same, targetTried, tryTarget, emit, modPower]

theorem regulatorWaits {ack : Bool}
    (hearly : countNow s < s.power.pmbusAt + 1000 * countsPerUs) : Completes (.pmbusRetry ack) s fun t => ChangesOnly [] s t := by
  have heq : execPmbusRetry ack s = answer s s := by
    unfold execPmbusRetry awakeAnswer
    dsimp only
    rw [if_pos (show (s.power.pmbusDone || decide (4 ≤ s.power.pmbusTries) ||
      decide (countNow s < s.power.pmbusAt + 1000 * countsPerUs)) = true by simp [hearly]), ite_self]
  exact completes_of_answer ((exec_pmbusRetry ack s).trans heq) ((ChangesOnly.refl [] s).settle s)

theorem regulatorRetries {ack : Bool} (ha : awake s = true) (hopen : s.power.pmbusDone = false) (hmore : s.power.pmbusTries < 4)
    (hdue : s.power.pmbusAt + 1000 * countsPerUs ≤ countNow s) : Completes (.pmbusRetry ack) s fun t =>
      t.tx = s.tx ++ [.pmbus 0x40 0 voutCommand] ∧ t.power = { s.power with
        pmbusTries := s.power.pmbusTries + 1, pmbusDone := ack, pmbusAt := countNow s } ∧
      (ack = false → s.power.pmbusTries = 3 → ∃ r, t.patrol.wires = s.patrol.wires ++ [r] ∧ r.source = supplyFault 0 ∧
        r.cls = .ce) ∧ ChangesOnly [.power, .tx, .patrol] s t := by
  refine completes_of_answer ((exec_pmbusRetry ack s).trans (execPmbusRetry_eq ha hopen hmore hdue)) ?_
  generalize hu : (if !ack && (targetTried ack s).power.pmbusTries == 4 then
    report (supplyFault 0) 0 4 .ce 0 (targetTried ack s) else targetTried ack s) = u
  have hframe : ChangesOnly [.patrol] (targetTried ack s) u := by
    rw [← hu]
    exact changesOnly_ite (fun _ => changesOnly_report _ _ _ _ _ _) fun _ => .refl _ _
  have htx : u.tx = (targetTried ack s).tx := hframe .tx (by simp)
  have hpower : u.power = (targetTried ack s).power := hframe .power (by simp)
  refine ⟨?_, ?_, fun hack hlast => ?_, (((changesOnly_targetTried ack s).comp hframe).mono (by simp)).settle s⟩
  · rw [settle_tx, htx]
    rfl
  · rw [settle_power, hpower]
    rfl
  · have hfour : (targetTried ack s).power.pmbusTries = 4 := congrArg (· + 1) hlast
    rw [hfour, hack] at hu
    rw [settle_patrol, ← hu]
    exact ⟨_, rfl, rfl, rfl⟩

theorem domainStops (ha : awake s = true) : Completes (.onDemandDomainStop n) s fun t =>
    t.power.onDemand = s.power.onDemand.filter (fun x => !(x.1 == n && decide (x.2 + 10 * msUnits ≤ now s))) ∧
      ChangesOnly [.power] s t := by
  have heq : execOnDemandDomainStop n s = answer s (modPower (fun (p : Power) => { p with
      onDemand := p.onDemand.filter (fun x => !(x.1 == n && decide (x.2 + 10 * msUnits ≤ now s))) }) s) := by
    rw [execOnDemandDomainStop, awakeAnswer, if_pos ha]
  refine completes_of_answer ((exec_onDemandDomainStop n s).trans heq) ⟨?_, (changesOnly_modPower _ s).settle s⟩
  rw [settle_power]
  rfl

end

/-- Settles O55: each event of the power unit writes its own fields and at most one report. -/
theorem powerIsGuarded : Obligations.PowerIsGuarded := by
  unfold Obligations.PowerIsGuarded
  refine ⟨fun l s ha hl hgood hex hquiet hretries => goodRead ha hl hgood hex hquiet hretries,
    fun l n s ha hl hn hbad => badRead ha hl hn hbad,
    fun n x s ha hrun hhot hheld hnew => throttleEvaluates ha hrun hhot hheld hnew,
    fun n s ha hfind hdue => throttleRetries ha hfind hdue,
    fun s hreset htripped => analogTripStops hreset htripped,
    fun n mv s hn => ⟨fun hbeyond => ?_, fun hsafe ha => ⟨fun h2 hunder => ?_, fun hne hon hout hwas =>
      supplyFails ha hn hsafe hne hon hout hwas, fun h6 hlow hclear => ?_⟩⟩,
    fun s ha => ⟨fun g hset hgood hdue => inhibitClears ha hset hgood hdue,
      fun w c p hwork hp hdue hc => pausedCommandEnds ha hwork hp hdue hc⟩,
    fun n s ha => ⟨fun hn hlocked hplls => pllLoses ha hn hlocked hplls, fun hn hlost => pllRelocks ha hn hlost,
      fun ack _ _ hearly => regulatorWaits hearly,
      fun ack hopen hmore hdue => regulatorRetries ha hopen hmore hdue, domainStops ha⟩⟩
  · rw [exec_supplyMonitorCrossing, execSupplyMonitorCrossing, if_neg (not_lt.mpr hn), if_pos hbeyond]
  · subst h2
    exact powersOnAnew hsafe hunder
  · subst h6
    exact flashSenseInhibits ha hsafe hlow hclear

end Sys2Proof.Machine
end

section
/-! Atide frames between manager and workers (O52; R483, R489 to R493, R495, R498, R499). -/

namespace Sys2Proof.Machine

/-! ## The role (R483) -/

section
variable {v : Nat} {s : State}

/-- One more sample of ROLE, the third of which fixes it. -/
def sampleTaken (v : Nat) (s : State) : State := modPeers (fun (p : Peers) => { p with samples := s.peers.samples ++ [v] }) s

/-- The role fixed, and reported where it reads as 0b11. -/
def roleFixed (r : Nat) (l : List Nat) (s : State) : State :=
  let s1 := modPeers (fun (p : Peers) => { p with samples := l, role := some r }) s
  if r = 3 then report (peerFault 0) 0 5 .ce 0 s1 else s1

theorem roleSampleWaits (hearly : countNow s < 2 * (s.peers.samples.length + 1) * countsPerUs) :
    Completes (.roleSample v) s fun t => ChangesOnly [] s t := by
  have heq : execRoleSample v s = answer s s := by
    unfold execRoleSample awakeAnswer
    dsimp only
    rw [decide_eq_true hearly, Bool.or_true, if_pos rfl, ite_self]
  exact completes_of_answer ((exec_roleSample v s).trans heq) ((ChangesOnly.refl [] s).settle s)

theorem roleIsSampled (ha : awake s = true) (hopen : s.peers.role = none) (hv : v ≤ 3)
    (hdue : 2 * (s.peers.samples.length + 1) * countsPerUs ≤ countNow s) (hfew : s.peers.samples.length < 2) :
    Completes (.roleSample v) s fun t => t.peers = { s.peers with samples := s.peers.samples ++ [v] } ∧
      ChangesOnly [.peers] s t := by
  have heq : execRoleSample v s = answer s (sampleTaken v s) := by
    unfold execRoleSample awakeAnswer
    rw [if_pos ha]
    dsimp only
    rw [hopen, decide_eq_false (Nat.not_lt.mpr hdue), if_neg (by simpa using hv), if_pos (by simp; omega)]
    rfl
  refine completes_of_answer ((exec_roleSample v s).trans heq) ⟨?_, (changesOnly_modPeers _ s).settle s⟩
  rw [settle_peers]
  rfl

theorem roleIsFixed (ha : awake s = true) (hopen : s.peers.role = none) (hv : v ≤ 3) (hdue : 6 * countsPerUs ≤ countNow s)
    (hsamples : s.peers.samples = [v, v]) : Completes (.roleSample v) s fun t => t.peers.role = some v ∧
      (v = 3 → ∃ r, t.patrol.wires = s.patrol.wires ++ [r] ∧ r.source = sourceOf 0x0E 0 0 ∧ r.cls = .ce ∧ r.level = 5) ∧
      ChangesOnly [.peers, .patrol] s t := by
  have hnow : ¬ countNow s < 2 * (([v, v] : List Nat).length + 1) * countsPerUs := Nat.not_lt.mpr hdue
  have hall : ([v, v] ++ [v]).all (fun x => x == v) = true := by simp
  have heq : execRoleSample v s = answer s (roleFixed v [v, v, v] s) := by
    unfold execRoleSample awakeAnswer
    rw [if_pos ha]
    dsimp only
    rw [hopen, hsamples, decide_eq_false hnow, if_neg (by simpa using hv), if_neg (by simp), hall, if_pos rfl]
    rfl
  have hframe : ChangesOnly [.patrol] (modPeers (fun (p : Peers) => { p with samples := [v, v, v], role := some v }) s)
      (roleFixed v [v, v, v] s) := changesOnly_ite (fun _ => changesOnly_report _ _ _ _ _ _) fun _ => .refl _ _
  refine completes_of_answer ((exec_roleSample v s).trans heq) ⟨?_, fun hthree => ?_,
    ((changesOnly_modPeers _ s).comp hframe).settle s⟩
  · rw [settle_peers, hframe .peers (by simp)]
    rfl
  · rw [settle_patrol, roleFixed, if_pos hthree]
    exact ⟨_, rfl, rfl, rfl, rfl⟩

end

/-! ## A frame that is taken (R490) -/

section
variable {f : AtideFrame} {s : State} {d : Nat} {g : Peer → Peer}

theorem peer_modPeer (hd : d < 16) (g : Peer → Peer) (s : State) : peer (modPeer d g s) d = g (peer s d) :=
  vget_vmod_same _ _ hd

theorem changesOnly_modPeer (d : Nat) (g : Peer → Peer) (s : State) : ChangesOnly [.peers] s (modPeer d g s) :=
  changesOnly_modPeers _ s

theorem peer_of_peers {t u : State} (h : t.peers = u.peers) (d : Nat) : peer t d = peer u d := by rw [peer, h, peer]

theorem peer_settle (o t : State) (d : Nat) : peer (settle o t) d = peer t d := peer_of_peers (settle_peers o t) d

/-- A good frame in the receive buffer, with its sequence number taken. -/
def atideEntered (f : AtideFrame) (s : State) : State :=
  takeSequence (headDevice f) (headSeq f) (modPort f.port (arrived s f.port f.head) s)

theorem changesOnly_atideEntered (f : AtideFrame) (s : State) : ChangesOnly [.ports, .peers] s (atideEntered f s) :=
  (changesOnly_modPort _ _ s).comp (changesOnly_modPeer _ _ _)

theorem atideReceived_bad {type : Nat} {act : Nat → State → State} (ht : FrameTaken f.port f.head s) (hbad : atideGood s f = false) :
    atideReceived type f s act = answer s (modPeers (fun (p : Peers) => { p with discarded := bump p.discarded })
      (modPort f.port (arrived s f.port f.head) s)) := by
  have hbad' : atideGood (modPort f.port (arrived s f.port f.head) s) f = false := hbad
  unfold atideReceived awakeAnswer
  rw [if_pos ht.1]
  dsimp only
  rw [hbad, Bool.false_and, if_neg Bool.false_ne_true, frameIn_taken _ ht, hbad']
  rfl

theorem atideReceived_good {type : Nat} {act : Nat → State → State} (ht : FrameTaken f.port f.head s) (htick : ticking s = true)
    (hgood : atideGood s f = true) (htype : headType f = type) :
    atideReceived type f s act = answer s (act (headDevice f) (atideEntered f s)) := by
  have hgood' : atideGood (modPort f.port (arrived s f.port f.head) s) f = true := hgood
  have htick' : ticking (takeSequence (headDevice f) (headSeq f) (modPort f.port (arrived s f.port f.head) s)) = true := htick
  unfold atideReceived awakeAnswer
  rw [if_pos ht.1]
  dsimp only
  rw [hgood, htype, bne_self_eq_false, Bool.and_false, if_neg Bool.false_ne_true, frameIn_taken _ ht, hgood', htick']
  rfl

theorem headDevice_lt (hgood : atideGood s f = true) : headDevice f < 16 := by
  unfold atideGood at hgood
  simp only [Bool.and_eq_true, decide_eq_true_eq] at hgood
  exact hgood.1.1.1.2

/-- SEQUENCE alone changes in the sender's entry. -/
theorem peer_atideEntered (hgood : atideGood s f = true) : ∃ n g, peer (atideEntered f s) (headDevice f) =
    { peer s (headDevice f) with rxNext := n, gaps := g } := by
  rw [atideEntered, takeSequence, peer_modPeer (headDevice_lt hgood)]
  have hpeer : peer (modPort f.port (arrived s f.port f.head) s) (headDevice f) = peer s (headDevice f) := rfl
  rw [hpeer]
  split
  · exact ⟨_, (peer s (headDevice f)).gaps, rfl⟩
  · dsimp only
    split_ifs
    · exact ⟨_, _, rfl⟩
    · exact ⟨(peer s (headDevice f)).rxNext, (peer s (headDevice f)).gaps, rfl⟩

theorem frameDiscarded {type : Nat} {act : Nat → State → State} {i : Instr} (hi : exec i s = atideReceived type f s act)
    (ht : FrameTaken f.port f.head s) (hbad : atideGood s f = false) : Completes i s fun t =>
      t.peers = { s.peers with discarded := bump s.peers.discarded } ∧ ChangesOnly [.peers, .ports] s t := by
  refine completes_of_answer (hi.trans (atideReceived_bad ht hbad)) ⟨?_,
    (((changesOnly_modPort _ _ s).comp (changesOnly_modPeers _ _)).mono (by simp)).settle s⟩
  rw [settle_peers]
  rfl

/-! ## Frames that leave for a peer (R489) -/

theorem Idle.modPeer {p : Nat} (h : Idle p s) : Idle p (Machine.modPeer d g s) := h

theorem Idle.atideEntered {p : Nat} (h : Idle p s) : Idle p (atideEntered f s) := by
  refine Idle.modPeer (s := Machine.modPort f.port (arrived s f.port f.head) s) ?_
  by_cases hp : p = f.port
  · subst hp
    exact Idle.modPort h ⟨rfl, rfl, rfl, rfl, rfl, rfl, rfl⟩
  · obtain ⟨hup, hfree, hq⟩ := h
    have hport := ethPort_modPort_ne hp (arrived s f.port f.head) s
    have hup' : portUp (Machine.modPort f.port (arrived s f.port f.head) s) p = portUp s p := by
      unfold portUp
      rw [hport]
      rfl
    exact ⟨hup'.trans hup, by rw [hport]; exact hfree, by rw [hport, hq]⟩

/-- The counter of frames sent stays as a frame arrives. -/
theorem framesTx_atideEntered (f : AtideFrame) (s : State) (p : Nat) :
    (ethPort (atideEntered f s) p).counters.framesTx = (ethPort s p).counters.framesTx := by
  by_cases hp : p = f.port
  · subst hp
    by_cases hlt : f.port < 6
    · have hport : ethPort (atideEntered f s) f.port = arrived s f.port f.head (ethPort s f.port) := ethPort_modPort hlt _ s
      rw [hport]
      rfl
    · have hnone : ∀ t : State, ethPort t f.port = default := fun t => by
        exact List.getD_eq_default _ _ (by simpa using hlt)
      rw [hnone, hnone]
  · have hport : ethPort (atideEntered f s) p = ethPort s p := ethPort_modPort_ne hp _ s
    rw [hport]

/-- An Atide frame given to an idle port leaves. -/
theorem frameLeft_sendAtide {p : Nat} (h : Idle p s) (dest : Nat) (urgent : Bool) (b : Bytes) :
    FrameLeft p dest (.atide b) s (sendEth p dest urgent (.atide b) s) := by
  rw [sendEth, sendFrame_idle h]
  exact frameLeft_ethOut (portUp_lt h.1) _ _ s

theorem changesOnly_sendEth (p dest : Nat) (urgent : Bool) (what : EthPayload) (s : State) :
    ChangesOnly [.ports, .tx] s (sendEth p dest urgent what s) := changesOnly_sendFrame _ _ s

theorem changesOnly_sendPeer (d type px py : Nat) (i : Dts) (b : Bytes) (s : State) :
    ChangesOnly [.peers, .ports, .tx] s (sendPeer d type px py i b s) :=
  (changesOnly_modPeer _ _ s).comp (changesOnly_sendEth _ _ _ _ _)

theorem frameLeft_sendPeer (h : Idle (peerPort s d) s) (type px py : Nat) (i : Dts) (b : Bytes) :
    FrameLeft (peerPort s d) (peerMac s d)
      (.atide (atideHeader s type px py i (peer s d).txSeq b.length ++ b)) s (sendPeer d type px py i b s) :=
  FrameLeft.congr (frameLeft_sendAtide (s := modPeer d (fun (y : Peer) => { y with txSeq := (y.txSeq + 1) % 2 ^ 32 }) s) h _ _ _)
    rfl rfl rfl rfl rfl

end

/-! ## What a worker takes (R491 to R495) -/

section
variable {f : AtideFrame} {s : State}

/-- The order of a POSE_ANCHOR. -/
def anchorOrder (f : AtideFrame) : AnchorOrder :=
  { instant := headInstant f, centreX := spayField f 128 320 32, centreY := spayField f 128 288 32,
    rebaseX := spayField f 128 256 32, rebaseY := spayField f 128 224 32, anchorId := payField f 128 192 32,
    anchorSeq := payField f 128 176 16, anchorNew := payField f 128 104 1 == 1 }

/-- What POSE_ANCHOR sets in a worker, beside the pose entry. -/
structure AnchorTaken (f : AtideFrame) (s t : State) : Prop where
  rebaseX : t.align.rebaseX = spayField f 128 256 32
  rebaseY : t.align.rebaseY = spayField f 128 224 32
  anchorSeq : t.align.anchorSeq = payField f 128 176 16
  found : t.peers.managerLost = false
  orders : t.peers.orders = keepOrder (anchorOrder f) s.peers.orders
  frame : ChangesOnly [.align, .peers] s t

theorem AnchorTaken.writePose {t : State} (h : AnchorTaken f s t) (e : PoseEntry) : AnchorTaken f s (writePose e t) := by
  refine ⟨h.rebaseX, h.rebaseY, h.anchorSeq, h.found, h.orders, h.frame.step ?_⟩
  rw [changesOnly_iff]
  simp [Part.same, Machine.writePose]

theorem takeAnchor_spec (f : AtideFrame) (s : State) : AnchorTaken f s (takeAnchor f s) ∧
    (payField f 128 352 512 ≠ 0 → ∃ e ∈ (takeAnchor f s).align.history, e.time = dtsOf (payField f 128 864 96) ∧
      e.degradedEgo = bitOf (payField f 128 128 32) 3) := by
  unfold takeAnchor
  extract_lets t code rx ry o mx my s1 s2
  have hbase : AnchorTaken f s s2 := ⟨rfl, rfl, rfl, rfl, rfl, (changesOnly_modAlign _ s).comp (changesOnly_modPeers _ _)⟩
  by_cases hcode : code = 0
  · rw [if_pos hcode]
    exact ⟨hbase, fun h => absurd hcode h⟩
  · rw [if_neg hcode]
    exact ⟨hbase.writePose _, fun _ => ⟨{ poseOfBytes (bytesOfNat 64 code) with
      time := t, degradedEgo := bitOf (payField f 128 128 32) 3 }, List.mem_cons_self, rfl, rfl⟩⟩

/-- A manager's broadcast taken up by its worker. -/
def anchorEntered (f : AtideFrame) (s : State) : State :=
  modPeer 0 (fun (x : Peer) => { x with lastSeen := now s, phase := .valid, decided := none })
    (evaluateAgain (peerFault 0) 0 4 false (takeAnchor f s))

theorem anchorEntered_spec (f : AtideFrame) (s : State) : (anchorEntered f s).align = (takeAnchor f s).align ∧
    (anchorEntered f s).peers.managerLost = (takeAnchor f s).peers.managerLost ∧
    (anchorEntered f s).peers.orders = (takeAnchor f s).peers.orders ∧ (peer (anchorEntered f s) 0).lastSeen = now s ∧
    ChangesOnly [.patrol, .peers] (takeAnchor f s) (anchorEntered f s) := by
  have heval := changesOnly_evaluateAgain (peerFault 0) 0 4 false (takeAnchor f s)
  unfold anchorEntered
  generalize evaluateAgain (peerFault 0) 0 4 false (takeAnchor f s) = u at heval ⊢
  have hpeers : u.peers = (takeAnchor f s).peers := heval .peers (by simp)
  refine ⟨heval .align (by simp), ?_, ?_, ?_,
    heval.comp (changesOnly_modPeer _ _ _)⟩
  · rw [← hpeers]
    rfl
  · rw [← hpeers]
    rfl
  · rw [peer_modPeer (by omega)]

theorem execAtidePoseAnchorReceived_taken (ht : FrameTaken f.port f.head s) (htick : ticking s = true) (hgood : atideGood s f = true)
    (htype : headType f = 1) : execAtidePoseAnchorReceived f s = answer s (anchorEntered f (atideEntered f s)) :=
  (atideReceived_good ht htick hgood htype).trans rfl

theorem poseAnchorIsTaken (ht : FrameTaken f.port f.head s) (htick : ticking s = true) (hgood : atideGood s f = true)
    (htype : headType f = 1) : Completes (.atidePoseAnchorReceived f) s fun t =>
        t.align.rebaseX = spayField f 128 256 32 ∧ t.align.rebaseY = spayField f 128 224 32 ∧
        t.align.anchorSeq = payField f 128 176 16 ∧ t.peers.managerLost = false ∧ (peer t 0).lastSeen = now s ∧
        (s.peers.orders = [] → ∃ o, t.peers.orders = [o] ∧ o.instant = headInstant f ∧ o.centreX = spayField f 128 320 32 ∧
          o.centreY = spayField f 128 288 32) ∧
        (payField f 128 352 512 ≠ 0 → ∃ e ∈ t.align.history, e.time = dtsOf (payField f 128 864 96) ∧
          e.degradedEgo = bitOf (payField f 128 128 32) 3) ∧
        ChangesOnly [.ports, .peers, .align, .patrol] s t := by
  refine completes_of_answer ((exec_atidePoseAnchorReceived f s).trans (execAtidePoseAnchorReceived_taken ht htick hgood htype)) ?_
  obtain ⟨htaken, hpose⟩ := takeAnchor_spec f (atideEntered f s)
  obtain ⟨halign, hlost, horders, hseen, hframe⟩ := anchorEntered_spec f (atideEntered f s)
  rw [settle_align, settle_peers, peer_settle, halign, hlost, horders, hseen]
  refine ⟨htaken.rebaseX, htaken.rebaseY, htaken.anchorSeq, htaken.found, rfl, fun hnone => ?_, hpose, ?_⟩
  · rw [htaken.orders, show (atideEntered f s).peers.orders = [] from hnone]
    exact ⟨anchorOrder f, rfl, rfl, rfl, rfl⟩
  · exact ChangesOnly.settle s ((((changesOnly_atideEntered f s).mono (by simp)).step (htaken.frame.mono (by simp))).step
      (hframe.mono (by simp)))

theorem ackIsTaken (ht : FrameTaken f.port f.head s) (htick : ticking s = true) (hgood : atideGood s f = true)
    (htype : headType f = 4) : Completes (.atideAckReceived f) s fun t =>
        (∀ k, s.peers.kept = some k → t.peers.kept = some (if k.instant = headInstant f then { k with acked := true } else k)) ∧
        ChangesOnly [.ports, .peers] s t := by
  refine completes_of_answer ((exec_atideAckReceived f s).trans (atideReceived_good ht htick hgood htype)) ⟨fun k hk => ?_,
    ((changesOnly_atideEntered f s).step ((changesOnly_modPeers _ _).mono (by simp))).settle s⟩
  rw [settle_peers]
  show Option.map _ s.peers.kept = _
  rw [hk]
  rfl

/-- The set kept, with the frames that are sent again. -/
def resendNoted (k : KeptSet) (todo : List Nat) (s : State) : State :=
  modPeers (fun (q : Peers) => { q with kept := some { k with resent := k.resent ++ todo, answered := true } }) s

/-- One frame of the kept set leaves again. -/
def resendOne (k : KeptSet) (p : Nat) (u : State) (i : Nat) : State :=
  report (peerFault 0) 0 4 .ce 0 (modPeer 0 (fun (x : Peer) => { x with resends := bump x.resends })
    (sendEth p (peerMac u 0) false (.atide (k.frames.getD i [])) u))

theorem resendFrames_eq {k : KeptSet} (hk : s.peers.kept = some k) (which : List Nat) : resendFrames which s =
    let todo := which.filter (fun i => !k.resent.contains i && decide (i < k.frames.length))
    todo.foldl (resendOne k (peerPort s 0)) (resendNoted k todo s) := by
  unfold resendFrames
  rw [hk]
  rfl

theorem changesOnly_resendOne (k : KeptSet) (p : Nat) (u : State) (i : Nat) :
    ChangesOnly [.ports, .peers, .tx, .patrol] u (resendOne k p u i) :=
  (((changesOnly_sendEth _ _ _ _ u).mono (by simp)).step ((changesOnly_modPeer _ _ _).mono (by simp))).step
    ((changesOnly_report _ _ _ _ _ _).mono (by simp))

/-- One frame given again to an idle port. -/
theorem resendOne_spec {k : KeptSet} {p : Nat} (h : Idle p s) (i : Nat) :
    FrameLeft p (peerMac s 0) (.atide (k.frames.getD i [])) s (resendOne k p s i) ∧
      (peer (resendOne k p s i) 0).resends = bump (peer s 0).resends ∧ (resendOne k p s i).peers.kept = s.peers.kept ∧
      ∃ r, (resendOne k p s i).patrol.wires = s.patrol.wires ++ [r] ∧ r.source = sourceOf 0x0E 0 0 ∧ r.cls = .ce := by
  have hsent := changesOnly_sendEth p (peerMac s 0) false (.atide (k.frames.getD i [])) s
  have hpeers := hsent .peers (by simp)
  have hpatrol := hsent .patrol (by simp)
  refine ⟨(frameLeft_sendAtide h (peerMac s 0) false (k.frames.getD i [])).congr rfl rfl rfl rfl rfl, ?_, ?_, ?_⟩
  · show (peer (modPeer 0 _ _) 0).resends = _
    rw [peer_modPeer (by omega), peer_of_peers hpeers]
  · show (sendEth p (peerMac s 0) false (.atide (k.frames.getD i [])) s).peers.kept = _
    rw [show (sendEth p (peerMac s 0) false (.atide (k.frames.getD i [])) s).peers = s.peers from hpeers]
  · exact ⟨_, congrArg (· ++ _) (congrArg Patrol.wires hpatrol), rfl, rfl⟩

theorem resendIsTaken {k : KeptSet} (ht : FrameTaken f.port f.head s) (htick : ticking s = true) (hgood : atideGood s f = true)
    (hmanager : headDevice f = 0) (htype : headType f = 5) (hk : s.peers.kept = some k) (hinstant : k.instant = headInstant f)
    (hresent : k.resent = []) (hpayload : payloadOf f = [1, 0, 0, 0, 0, 0]) (hframes : k.frames ≠ []) (hidle : Idle (peerPort s 0) s) :
    Completes (.atideResendReceived f) s fun t => (∃ l, t.peers.kept = some l ∧ l.resent = [0] ∧ l.answered = true) ∧
          FrameLeft (peerPort s 0) (peerMac s 0) (.atide (k.frames.getD 0 [])) s t ∧
          (peer t 0).resends = bump (peer s 0).resends ∧ (∃ r, t.patrol.wires = s.patrol.wires ++ [r] ∧
            r.source = sourceOf 0x0E 0 0 ∧ r.cls = .ce) ∧ ChangesOnly [.ports, .peers, .tx, .patrol] s t := by
  have hk' : (atideEntered f s).peers.kept = some k := hk
  have hlen : decide (0 < k.frames.length) = true := decide_eq_true (List.length_pos_iff.mpr hframes)
  have hnames : (List.range (((payloadOf f).getD 0 0).toNat)).map (fun i => natOfBytesBE (slice (payloadOf f) (4 + 2 * i) 2)) = [0] := by
    rw [hpayload]
    rfl
  have htodo : ([0] : List Nat).filter (fun i => !k.resent.contains i && decide (i < k.frames.length)) = [0] := by
    rw [hresent, List.filter_cons_of_pos (by simpa using hlen), List.filter_nil]
  have hact : resendFrames [0] (atideEntered f s) =
      resendOne k (peerPort s 0) (resendNoted k [0] (atideEntered f s)) 0 := by
    rw [resendFrames_eq hk', htodo]
    rfl
  have heq : execAtideResendReceived f s =
      answer s (resendOne k (peerPort s 0) (resendNoted k [0] (atideEntered f s)) 0) := by
    refine (atideReceived_good ht htick hgood htype).trans ?_
    simp only [hk', hinstant, ne_eq, not_true_eq_false, if_false, hnames, hact]
  have hidle' : Idle (peerPort s 0) (resendNoted k [0] (atideEntered f s)) := hidle.atideEntered
  obtain ⟨hleft, hcount, hkept, r, hwires, hsource, hcls⟩ := resendOne_spec (k := k) hidle' 0
  obtain ⟨n, g, hpeer⟩ := peer_atideEntered hgood
  rw [hmanager] at hpeer
  have hbefore : (peer (resendNoted k [0] (atideEntered f s)) 0).resends = (peer s 0).resends := by
    show (peer (atideEntered f s) 0).resends = _
    rw [hpeer]
  refine completes_of_answer ((exec_atideResendReceived f s).trans heq) ⟨⟨{ k with resent := k.resent ++ [0], answered := true }, ?_, ?_, rfl⟩,
    (FrameLeft.congr (s := s) hleft rfl rfl (framesTx_atideEntered f s _) rfl rfl).settle s, ?_, ⟨r, ?_, hsource, hcls⟩, ?_⟩
  · rw [settle_peers, hkept]
    rfl
  · simp [hresent]
  · rw [peer_settle, hcount, hbefore]
  · rw [settle_patrol]
    exact hwires
  · exact ChangesOnly.settle s ((((changesOnly_atideEntered f s).mono (by simp)).step ((changesOnly_modPeers _ _).mono (by simp))).step
      (changesOnly_resendOne _ _ _ _))

end

/-! ## What the manager takes (R495, R498, R499) -/

section
variable {f : AtideFrame} {s : State} {d : Nat}

/-- A STATUS frame's content, noted. -/
def statusNoted (d : Nat) (f : AtideFrame) (s : State) : State :=
  modPeer d (fun (x : Peer) => { x with lastSeen := now s, liveTracks := payField f 40 0 16 }) s

theorem changesOnly_statusNoted (d : Nat) (f : AtideFrame) (s : State) : ChangesOnly [.peers] s (statusNoted d f s) :=
  changesOnly_modPeer _ _ s

/-- One more good STATUS. -/
def runRaised (run : Nat) (x : Peer) : Peer :=
  { x with goodRun := run, decided := none, phase := if 10 ≤ run then .valid else x.phase }

theorem goodStatusIsTaken (ht : FrameTaken f.port f.head s) (htick : ticking s = true) (hgood : atideGood s f = true)
    (hd : headDevice f = d) (htype : headType f = 2) (hstatus : statusGood s d f = true) :
    Completes (.atideStatusReceived f) s fun t =>
      (peer t d).goodRun = (peer s d).goodRun + 1 ∧ (peer t d).liveTracks = payField f 40 0 16 ∧
      (peer t d).lastSeen = now s ∧ (peer t d).phase = (if 9 ≤ (peer s d).goodRun then .valid else (peer s d).phase) ∧
      ChangesOnly [.ports, .peers, .patrol] s t := by
  subst hd
  have hd16 := headDevice_lt hgood
  have hstatus' : statusGood (atideEntered f s) (headDevice f) f = true := hstatus
  have heq : execAtideStatusReceived f s = answer s (evaluateAgain (peerFault (headDevice f)) 0 4 false
      (modPeer (headDevice f) (runRaised ((peer (atideEntered f s) (headDevice f)).goodRun + 1))
        (statusNoted (headDevice f) f (atideEntered f s)))) := by
    refine (atideReceived_good ht htick hgood htype).trans ?_
    dsimp only
    rw [if_pos hstatus']
    rfl
  obtain ⟨n, g, hpeer⟩ := peer_atideEntered hgood
  have heval := changesOnly_evaluateAgain (peerFault (headDevice f)) 0 4 false
    (modPeer (headDevice f) (runRaised ((peer (atideEntered f s) (headDevice f)).goodRun + 1))
      (statusNoted (headDevice f) f (atideEntered f s)))
  have hframe : ChangesOnly [.ports, .peers, .patrol] s (settle s (evaluateAgain (peerFault (headDevice f)) 0 4 false
      (modPeer (headDevice f) (runRaised ((peer (atideEntered f s) (headDevice f)).goodRun + 1))
        (statusNoted (headDevice f) f (atideEntered f s))))) := by
    refine ChangesOnly.settle s (ChangesOnly.step ?_ (heval.mono (by simp)))
    exact (((changesOnly_atideEntered f s).mono (by simp)).step ((changesOnly_statusNoted _ f _).mono (by simp))).step
      ((changesOnly_modPeer _ _ _).mono (by simp))
  have hraised : peer (settle s (evaluateAgain (peerFault (headDevice f)) 0 4 false
      (modPeer (headDevice f) (runRaised ((peer (atideEntered f s) (headDevice f)).goodRun + 1))
        (statusNoted (headDevice f) f (atideEntered f s))))) (headDevice f) =
      runRaised ((peer s (headDevice f)).goodRun + 1) { peer s (headDevice f) with
        rxNext := n, gaps := g, lastSeen := now s, liveTracks := payField f 40 0 16 } := by
    rw [peer_settle, peer_of_peers (heval .peers (by simp)), peer_modPeer hd16, statusNoted, peer_modPeer hd16, hpeer]
    rfl
  refine completes_of_answer ((exec_atideStatusReceived f s).trans heq) ?_
  rw [hraised]
  refine ⟨rfl, rfl, rfl, ?_, hframe⟩
  show (if 10 ≤ (peer s (headDevice f)).goodRun + 1 then _ else _) = _
  simp only [Nat.reduceLeDiff]

/-- A VALID worker's region goes. -/
theorem dropWorker_spec (hd : d < 16) (phase : PeerPhase) (s : State) :
    peer (dropWorker d phase s) d = { peer s d with
      phase := phase, goodRun := 0, lossEvents := bump (peer s d).lossEvents, regionValid := false, isOpen := none,
      whole := [], decided := some (now s) } ∧
    (∃ r, (dropWorker d phase s).patrol.wires = s.patrol.wires ++ [r] ∧ r.source = sourceOf 0x0E d 0 ∧ r.cls = .uc ∧ r.level = 4) ∧
    ChangesOnly [.peers, .patrol] s (dropWorker d phase s) :=
  ⟨peer_modPeer hd _ s, ⟨_, rfl, rfl, rfl, rfl⟩, (changesOnly_modPeer _ _ s).comp (changesOnly_report _ _ _ _ _ _)⟩

theorem badStatusIsTaken (ht : FrameTaken f.port f.head s) (htick : ticking s = true) (hgood : atideGood s f = true)
    (hd : headDevice f = d) (htype : headType f = 2) (hstatus : statusGood s d f = false) (hvalid : (peer s d).phase = .valid) :
    Completes (.atideStatusReceived f) s fun t =>
      (peer t d).phase = .invalid ∧ (peer t d).goodRun = 0 ∧ (peer t d).regionValid = false ∧ (peer t d).isOpen = none ∧
      (peer t d).whole = [] ∧ (peer t d).lossEvents = bump (peer s d).lossEvents ∧
      (∃ r, t.patrol.wires = s.patrol.wires ++ [r] ∧ r.source = sourceOf 0x0E d 0 ∧ r.cls = .uc ∧ r.level = 4) ∧
      ChangesOnly [.ports, .peers, .patrol] s t := by
  subst hd
  have hd16 := headDevice_lt hgood
  obtain ⟨n, g, hpeer⟩ := peer_atideEntered hgood
  have hstatus' : statusGood (atideEntered f s) (headDevice f) f = false := hstatus
  have hphase : (peer (atideEntered f s) (headDevice f)).phase = .valid := by rw [hpeer, hvalid]
  have heq : execAtideStatusReceived f s = answer s (dropWorker (headDevice f) .invalid
      (statusNoted (headDevice f) f (atideEntered f s))) := by
    refine (atideReceived_good ht htick hgood htype).trans ?_
    dsimp only
    rw [if_neg (by rw [hstatus']; exact Bool.false_ne_true), if_pos (by rw [hphase]; rfl)]
    rfl
  obtain ⟨hdropped, ⟨r, hwires, hreport⟩, hframe⟩ :=
    dropWorker_spec hd16 .invalid (statusNoted (headDevice f) f (atideEntered f s))
  have hlosses : (peer (statusNoted (headDevice f) f (atideEntered f s)) (headDevice f)).lossEvents =
      (peer s (headDevice f)).lossEvents := by
    rw [statusNoted, peer_modPeer hd16, hpeer]
  refine completes_of_answer ((exec_atideStatusReceived f s).trans heq) ?_
  rw [peer_settle, hdropped]
  refine ⟨rfl, rfl, rfl, rfl, rfl, congrArg bump hlosses, ⟨r, ?_, hreport⟩, ?_⟩
  · rw [settle_patrol, hwires]
    rfl
  · exact ChangesOnly.settle s ((((changesOnly_atideEntered f s).mono (by simp)).step ((changesOnly_statusNoted _ f _).mono (by simp))).step
      (hframe.mono (by simp)))

/-- A TRACKS frame's work. -/
def tracksTaken (f : AtideFrame) (d : Nat) (s : State) : State :=
  let b := payloadOf f
  let i := natOfBytesBE (slice b 0 2)
  let n := natOfBytesBE (slice b 2 2)
  let x := peer s d
  if n ≤ i || x.lastSet.any (fun l => decide (headInstant f ≤ l)) || x.isOpen.any (fun o => decide (headInstant f < o.instant)) then s
  else
    let s1 := match x.isOpen with
      | some o => if o.instant = headInstant f then s else loseSet d s
      | none => s
    let o : OpenSet := match (peer s1 d).isOpen with
      | some o => o
      | none => { instant := headInstant f, frameCount := n, frames := [], observed := fldBE 128 b 0 48, firstAt := now s,
                  lastAt := now s, resendAt := none }
    let o1 : OpenSet := { o with
      frames := (o.frames.filter (fun y => y.1 != i) ++ [(i, frameTracks d f)]).sortBy
        (fun a c => decide (a.1 ≤ c.1)), lastAt := now s }
    if o1.frames.length = o1.frameCount then closeSet d o1 s1
    else modPeer d (fun (y : Peer) => { y with isOpen := some o1 }) s1

/-- The set that a frame opens. -/
def openedSet (d : Nat) (f : AtideFrame) (s : State) : OpenSet :=
  { instant := headInstant f, frameCount := natOfBytesBE (slice (payloadOf f) 2 2),
    frames := [(natOfBytesBE (slice (payloadOf f) 0 2), frameTracks d f)], observed := fldBE 128 (payloadOf f) 0 48,
    firstAt := now s, lastAt := now s, resendAt := none }

/-- A frame of a set is taken, where no set is open and the frame's own is not past. -/
theorem tracksTaken_opens (hnone : (peer s d).isOpen = none) (hnew : ∀ l, (peer s d).lastSet = some l → l < headInstant f)
    (hindex : natOfBytesBE (slice (payloadOf f) 0 2) < natOfBytesBE (slice (payloadOf f) 2 2)) :
    tracksTaken f d s = if (openedSet d f s).frames.length = (openedSet d f s).frameCount then closeSet d (openedSet d f s) s
      else modPeer d (fun (y : Peer) => { y with isOpen := some (openedSet d f s) }) s := by
  have hone : (([] : List (Nat × List Track)).filter (fun y => y.1 != natOfBytesBE (slice (payloadOf f) 0 2)) ++
      [(natOfBytesBE (slice (payloadOf f) 0 2), frameTracks d f)]).sortBy (fun a c => decide (a.1 ≤ c.1)) =
      [(natOfBytesBE (slice (payloadOf f) 0 2), frameTracks d f)] := rfl
  have hlast : (peer s d).lastSet.any (fun l => decide (headInstant f ≤ l)) = false := by
    cases hl : (peer s d).lastSet with
    | none => rfl
    | some l =>
      rw [Option.any_some]
      exact decide_eq_false (Nat.not_le.mpr (hnew l hl))
  have hgo : (decide (natOfBytesBE (slice (payloadOf f) 2 2) ≤ natOfBytesBE (slice (payloadOf f) 0 2)) ||
      (peer s d).lastSet.any (fun l => decide (headInstant f ≤ l)) ||
      (peer s d).isOpen.any (fun o => decide (headInstant f < o.instant))) = false := by
    rw [decide_eq_false (Nat.not_le.mpr hindex), hlast, hnone, Option.any_none, Bool.or_self, Bool.or_self]
  unfold tracksTaken
  dsimp only
  rw [hgo, if_neg Bool.false_ne_true, hnone]
  dsimp only
  rw [hnone]
  dsimp only
  rw [hone]
  rfl

theorem execAtideTracksReceived_opens (ht : FrameTaken f.port f.head s) (htick : ticking s = true) (hgood : atideGood s f = true)
    (hd : headDevice f = d) (htype : headType f = 3) (hnone : (peer s d).isOpen = none)
    (hnew : ∀ l, (peer s d).lastSet = some l → l < headInstant f)
    (hindex : natOfBytesBE (slice (payloadOf f) 0 2) < natOfBytesBE (slice (payloadOf f) 2 2)) :
    execAtideTracksReceived f s = answer s (if (openedSet d f s).frames.length = (openedSet d f s).frameCount then
      closeSet d (openedSet d f s) (atideEntered f s)
      else modPeer d (fun (y : Peer) => { y with isOpen := some (openedSet d f s) }) (atideEntered f s)) := by
  subst hd
  obtain ⟨n, g, hpeer⟩ := peer_atideEntered hgood
  have hnone' : (peer (atideEntered f s) (headDevice f)).isOpen = none := by rw [hpeer, hnone]
  have hnew' : ∀ l, (peer (atideEntered f s) (headDevice f)).lastSet = some l → l < headInstant f := by
    rw [hpeer]
    exact hnew
  have hact : execAtideTracksReceived f s = answer s (tracksTaken f (headDevice f) (atideEntered f s)) :=
    atideReceived_good ht htick hgood htype
  have hset : openedSet (headDevice f) f (atideEntered f s) = openedSet (headDevice f) f s := rfl
  rw [hact, tracksTaken_opens hnone' hnew' hindex, hset]

/-- A frame that completes no set joins the open one. -/
theorem setOpens (ht : FrameTaken f.port f.head s) (htick : ticking s = true) (hgood : atideGood s f = true)
    (hd : headDevice f = d) (htype : headType f = 3) (hnone : (peer s d).isOpen = none)
    (hnew : ∀ l, (peer s d).lastSet = some l → l < headInstant f)
    (hindex : natOfBytesBE (slice (payloadOf f) 0 2) < natOfBytesBE (slice (payloadOf f) 2 2))
    (hmore : 2 ≤ natOfBytesBE (slice (payloadOf f) 2 2)) : Completes (.atideTracksReceived f) s fun t =>
      (∃ o, (peer t d).isOpen = some o ∧ o.instant = headInstant f ∧
        o.frames = [(natOfBytesBE (slice (payloadOf f) 0 2), frameTracks d f)] ∧
        o.frameCount = natOfBytesBE (slice (payloadOf f) 2 2)) ∧ ChangesOnly [.ports, .peers] s t := by
  have hd16 : d < 16 := hd ▸ headDevice_lt hgood
  refine completes_of_answer ((exec_atideTracksReceived f s).trans
    (execAtideTracksReceived_opens ht htick hgood hd htype hnone hnew hindex)) ?_
  have hcount : ¬ (openedSet d f s).frames.length = (openedSet d f s).frameCount := by
    show ¬ 1 = natOfBytesBE (slice (payloadOf f) 2 2)
    omega
  rw [if_neg hcount, peer_settle, peer_modPeer hd16]
  exact ⟨⟨openedSet d f s, rfl, rfl, rfl, rfl⟩,
    ((changesOnly_atideEntered f s).step ((changesOnly_modPeer _ _ _).mono (by simp))).settle s⟩

/-- A set closes: it waits for its merge. -/
def setWaits (o : OpenSet) (late : Bool) (at_ : Dts) (x : Peer) : Peer :=
  let y := { x with isOpen := none, lastSet := some o.instant }
  if late then { y with setsLate := bump y.setsLate }
  else { y with whole := y.whole ++ [{ instant := o.instant, entries := o.frames.flatMap (·.2), observed := o.observed,
                                       wholeAt := at_ }] }

/-- A set as it waits. -/
def wholeOf (o : OpenSet) (at_ : Dts) : WholeSet :=
  { instant := o.instant, entries := o.frames.flatMap (·.2), observed := o.observed, wholeAt := at_ }

theorem setWaits_intime (o : OpenSet) (at_ : Dts) (x : Peer) : (setWaits o false at_ x).isOpen = none ∧
    (setWaits o false at_ x).whole = x.whole ++ [wholeOf o at_] := ⟨rfl, rfl⟩

theorem closeSet_eq (d : Nat) (o : OpenSet) (s : State) : closeSet d o s =
    modPeer d (setWaits o (setLate s o.instant) (now s))
      (sendPeer d 4 0xFF 0xFF o.instant (packBE 8 [(48, 16, o.frameCount)]) s) := rfl

/-- Giving a frame to a peer leaves its sets. -/
theorem peer_sendPeer (hd : d < 16) (type px py : Nat) (i : Dts) (b : Bytes) (s : State) :
    peer (sendPeer d type px py i b s) d = { peer s d with txSeq := ((peer s d).txSeq + 1) % 2 ^ 32 } := by
  have hsent := changesOnly_sendEth (peerPort s d) (peerMac s d) (type == 6)
    (.atide (atideHeader (modPeer d (fun (y : Peer) => { y with txSeq := (y.txSeq + 1) % 2 ^ 32 }) s) type px py i
      (peer s d).txSeq b.length ++ b)) (modPeer d (fun (y : Peer) => { y with txSeq := (y.txSeq + 1) % 2 ^ 32 }) s)
  exact (peer_of_peers (hsent .peers (by simp)) d).trans (peer_modPeer hd _ s)

/-- The only frame of a set completes it. -/
theorem setCloses (ht : FrameTaken f.port f.head s) (htick : ticking s = true) (hgood : atideGood s f = true)
    (hd : headDevice f = d) (htype : headType f = 3) (hnone : (peer s d).isOpen = none)
    (hnew : ∀ l, (peer s d).lastSet = some l → l < headInstant f)
    (hone : natOfBytesBE (slice (payloadOf f) 2 2) = 1) (hfirst : natOfBytesBE (slice (payloadOf f) 0 2) = 0)
    (hlate : setLate s (headInstant f) = false) (hidle : Idle (peerPort s d) s) :
    Completes (.atideTracksReceived f) s fun t => (peer t d).isOpen = none ∧
            (∃ w, (peer t d).whole = (peer s d).whole ++ [w] ∧ w.instant = headInstant f ∧ w.entries = frameTracks d f ∧
              w.wholeAt = now s) ∧ FrameLeft (peerPort s d) (peerMac s d)
              (.atide (atideHeader s 4 0xFF 0xFF (headInstant f) (peer s d).txSeq 8 ++ packBE 8 [(48, 16, 1)])) s t ∧
            ChangesOnly [.ports, .peers, .tx] s t := by
  have hd16 : d < 16 := hd ▸ headDevice_lt hgood
  obtain ⟨n, g, hpeer⟩ := peer_atideEntered hgood
  rw [hd] at hpeer
  have hlate' : setLate (atideEntered f s) (headInstant f) = false := hlate
  have hseq : (peer (atideEntered f s) d).txSeq = (peer s d).txSeq := by rw [hpeer]
  have hwhole : (peer (atideEntered f s) d).whole = (peer s d).whole := by rw [hpeer]
  have hport : Idle (peerPort (atideEntered f s) d) (atideEntered f s) := hidle.atideEntered
  have hleft := frameLeft_sendPeer hport 4 0xFF 0xFF (headInstant f) (packBE 8 [(48, 16, 1)])
  have hpeer' := peer_sendPeer hd16 4 0xFF 0xFF (headInstant f) (packBE 8 [(48, 16, 1)]) (atideEntered f s)
  rw [hseq] at hleft
  have hcount : (openedSet d f s).frameCount = 1 := hone
  have hinstant : (openedSet d f s).instant = headInstant f := rfl
  have hclose : closeSet d (openedSet d f s) (atideEntered f s) = modPeer d (setWaits (openedSet d f s) false (now s))
      (sendPeer d 4 0xFF 0xFF (headInstant f) (packBE 8 [(48, 16, 1)]) (atideEntered f s)) := by
    rw [closeSet_eq, hinstant, hlate', hcount]
    rfl
  refine completes_of_answer ((exec_atideTracksReceived f s).trans
    (execAtideTracksReceived_opens ht htick hgood hd htype hnone hnew (by omega))) ?_
  rw [if_pos (show (openedSet d f s).frames.length = (openedSet d f s).frameCount from hcount.symm), hclose]
  generalize hu : sendPeer d 4 0xFF 0xFF (headInstant f) (packBE 8 [(48, 16, 1)]) (atideEntered f s) = u at hleft hpeer'
  have hframe : ChangesOnly [.peers, .ports, .tx] (atideEntered f s) u := by
    rw [← hu]
    exact changesOnly_sendPeer _ _ _ _ _ _ _
  have hpeeru : (peer u d).whole = (peer s d).whole := by rw [hpeer', ← hwhole]
  obtain ⟨hopen, hset⟩ := setWaits_intime (openedSet d f s) (now s) (peer u d)
  rw [peer_settle, peer_modPeer hd16, hopen, hset, hpeeru]
  refine ⟨rfl, ⟨_, rfl, rfl, List.append_nil _, rfl⟩, ?_, ?_⟩
  · have hmod : FrameLeft (peerPort s d) (peerMac s d)
        (.atide (atideHeader s 4 0xFF 0xFF (headInstant f) (peer s d).txSeq 8 ++ packBE 8 [(48, 16, 1)])) (atideEntered f s) u := hleft
    exact (FrameLeft.congr (s := s) (u := atideEntered f s) (t' := modPeer d (setWaits (openedSet d f s) false (now s)) u) hmod rfl rfl
      (framesTx_atideEntered f s _) rfl rfl).settle s
  · exact ChangesOnly.settle s ((((changesOnly_atideEntered f s).mono (by simp)).step (hframe.mono (by simp))).step
      ((changesOnly_modPeer _ _ _).mono (by simp)))

end

/-- A worker takes frames of its manager alone. -/
theorem headDevice_of_worker {f : AtideFrame} {s : State} (hgood : atideGood s f = true) (htype : headType f = 5) : headDevice f = 0 := by
  unfold atideGood roleTakes at hgood
  simp only [htype, Bool.and_eq_true] at hgood
  have hrole : isWorker s = true ∧ headDevice f = 0 := by simpa using hgood.2
  exact hrole.2

/-- Settles O52: `atideReceived` counts what R490 refuses and passes on the rest. -/
theorem atideFramesAreTaken : Obligations.AtideFramesAreTaken := by
  unfold Obligations.AtideFramesAreTaken
  refine ⟨fun v s ha hopen hv => ⟨fun hearly => roleSampleWaits hearly, fun hdue hfew => roleIsSampled ha hopen hv hdue hfew,
    fun hdue hsamples => roleIsFixed ha hopen hv hdue hsamples⟩, fun f s i ht hbad hi => ?_, fun f s ht htick hgood =>
    ⟨fun _ => ⟨fun htype => poseAnchorIsTaken ht htick hgood htype, fun htype => ackIsTaken ht htick hgood htype,
      fun k htype hk hinstant hresent hpayload hframes hidle => resendIsTaken ht htick hgood (headDevice_of_worker hgood htype)
        htype hk hinstant hresent hpayload hframes hidle⟩,
    fun _ => ⟨fun htype => ⟨fun hstatus => goodStatusIsTaken ht htick hgood rfl htype hstatus,
        fun hstatus hvalid => badStatusIsTaken ht htick hgood rfl htype hstatus hvalid⟩,
      fun htype hnone hnew => ⟨fun hone hfirst hlate hidle => setCloses ht htick hgood rfl htype hnone hnew hone hfirst hlate hidle,
        fun hindex hmore => setOpens ht htick hgood rfl htype hnone hnew hindex hmore⟩⟩⟩⟩
  rcases hi with rfl | rfl | rfl | rfl | rfl
  · exact frameDiscarded (exec_atidePoseAnchorReceived f s) ht hbad
  · exact frameDiscarded (exec_atideStatusReceived f s) ht hbad
  · exact frameDiscarded (exec_atideTracksReceived f s) ht hbad
  · exact frameDiscarded (exec_atideAckReceived f s) ht hbad
  · exact frameDiscarded (exec_atideResendReceived f s) ht hbad

end Sys2Proof.Machine
end

section
/-! The waits of the multi-device subsystem (O53; R495, R496, R499, R500). -/

namespace Sys2Proof.Machine

/-! ## Frames that wait behind one in transmission -/

section
variable {s : State} {p d : Nat}

/-- A frame of the kept set as it waits. -/
def keptFrame (k : KeptSet) (dest : Nat) (i : Nat) : TxFrame :=
  { dest := dest, what := .atide (k.frames.getD i []), urgent := false, ingress := 0 }

/-- Frames of the kept set that stand last in a busy port's queue. -/
structure FramesQueued (k : KeptSet) (p : Nat) (l : List Nat) (s t : State) : Prop where
  port : ethPort t p = { ethPort s p with txQueue := (ethPort s p).txQueue ++ l.map (keptFrame k (peerMac s 0)) }
  tx : t.tx = s.tx
  kept : t.peers.kept = s.peers.kept

/-- A port that is up and transmits. -/
def Busy (p : Nat) (s : State) : Prop := portUp s p = true ∧ countNow s < (ethPort s p).txUntil

theorem Busy.queued {q : List TxFrame} (h : Busy p s) : Busy p (modPort p (fun e => { e with txQueue := q }) s) := by
  obtain ⟨hup, hbusy⟩ := h
  have hp := portUp_lt hup
  refine ⟨by rw [portUp_modPort hp rfl rfl, hup], ?_⟩
  rw [ethPort_modPort hp]
  exact hbusy

/-- A frame given again is counted and reported. -/
def resendCounted (s : State) : State :=
  report (peerFault 0) 0 4 .ce 0 (modPeer 0 (fun (x : Peer) => { x with resends := bump x.resends }) s)

theorem resendOne_eq (k : KeptSet) (p : Nat) (s : State) (i : Nat) : resendOne k p s i =
    resendCounted (sendEth p (peerMac s 0) false (.atide (k.frames.getD i [])) s) := rfl

/-- Counting a frame leaves the transmitters and the kept set. -/
theorem resendCounted_keeps (p : Nat) (s : State) : portUp (resendCounted s) p = portUp s p ∧
    ethPort (resendCounted s) p = ethPort s p ∧ countNow (resendCounted s) = countNow s ∧ (resendCounted s).tx = s.tx ∧
    (resendCounted s).peers.kept = s.peers.kept ∧ peerMac (resendCounted s) 0 = peerMac s 0 :=
  ⟨rfl, rfl, rfl, rfl, rfl, rfl⟩

/-- A frame given again to a busy port waits. -/
theorem resendOne_busy {k : KeptSet} (h : Busy p s) (i : Nat) : Busy p (resendOne k p s i) ∧
    peerMac (resendOne k p s i) 0 = peerMac s 0 ∧ FramesQueued k p [i] s (resendOne k p s i) := by
  have hp := portUp_lt h.1
  have hsent : sendEth p (peerMac s 0) false (.atide (k.frames.getD i [])) s =
      modPort p (fun e => { e with txQueue := e.txQueue ++ [keptFrame k (peerMac s 0) i] }) s := sendFrame_busy h.1 h.2
  obtain ⟨hup, hport, hcount, htx, hkept, hmac⟩ := resendCounted_keeps p
    (modPort p (fun e => { e with txQueue := e.txQueue ++ [keptFrame k (peerMac s 0) i] }) s)
  rw [resendOne_eq, hsent]
  refine ⟨⟨?_, ?_⟩, hmac, ?_, htx, hkept⟩
  · rw [hup, portUp_modPort hp rfl rfl, h.1]
  · rw [hcount, hport, ethPort_modPort hp]
    exact h.2
  · rw [hport, ethPort_modPort hp]
    rfl

theorem foldl_resendOne_busy {k : KeptSet} : ∀ (l : List Nat) (s : State), Busy p s →
    FramesQueued k p l s (l.foldl (resendOne k p) s)
  | [], s, _ => ⟨by simp, rfl, rfl⟩
  | i :: l, s, h => by
    obtain ⟨hbusy, hmac, hone⟩ := resendOne_busy (k := k) h i
    have hrest := foldl_resendOne_busy (k := k) l _ hbusy
    rw [List.foldl_cons]
    refine ⟨?_, hrest.tx.trans hone.tx, hrest.kept.trans hone.kept⟩
    rw [hrest.port, hone.port, hmac, List.map_cons]
    simp

theorem portUp_emit (e : Emission) (s : State) (p : Nat) : portUp (emit e s) p = portUp s p := rfl

theorem portUp_ethOut (hp : p < 6) (dest : Nat) (what : EthPayload) (s : State) : portUp (ethOut p dest what s) p = portUp s p := by
  unfold ethOut
  rw [portUp_emit, portUp_modPort hp rfl rfl]

/-- A port that has begun a frame is busy. -/
theorem busy_ethOut (hup : portUp s p = true) (dest : Nat) (what : EthPayload) : Busy p (ethOut p dest what s) := by
  have hp := portUp_lt hup
  refine ⟨by rw [portUp_ethOut hp, hup], ?_⟩
  rw [ethPort_ethOut hp]
  exact Nat.lt_of_lt_of_le (Nat.lt_succ_self (countNow s)) (Nat.le_add_right _ _)

/-- After the frame that leaves, the port transmits and nothing waits. -/
theorem resendOne_leaves {k : KeptSet} (h : Idle p s) (i : Nat) : Busy p (resendOne k p s i) ∧
    peerMac (resendOne k p s i) 0 = peerMac s 0 ∧ (ethPort (resendOne k p s i) p).txQueue = [] := by
  have hp := portUp_lt h.1
  have hsent : sendEth p (peerMac s 0) false (.atide (k.frames.getD i [])) s =
      ethOut p (peerMac s 0) (.atide (k.frames.getD i [])) s := sendFrame_idle h
  obtain ⟨hup, hport, hcount, -, -, hmac⟩ := resendCounted_keeps p (ethOut p (peerMac s 0) (.atide (k.frames.getD i [])) s)
  obtain ⟨hlink, huntil⟩ := busy_ethOut h.1 (peerMac s 0) (.atide (k.frames.getD i []))
  rw [resendOne_eq, hsent]
  refine ⟨⟨?_, ?_⟩, hmac, ?_⟩
  · rw [hup, hlink]
  · rw [hcount, hport]
    exact huntil
  · rw [hport, ethPort_ethOut hp, h.2.2]

theorem changesOnly_resendFrames (which : List Nat) (s : State) :
    ChangesOnly [.ports, .peers, .tx, .patrol] s (resendFrames which s) := by
  cases hk : s.peers.kept with
  | none =>
    have heq : resendFrames which s = s := by rw [resendFrames, hk]
    rw [heq]
    exact .refl _ s
  | some k =>
    rw [resendFrames_eq hk]
    exact ((changesOnly_modPeers _ s).mono (by simp)).step (changesOnly_foldl (fun t i => changesOnly_resendOne _ _ t i) _ _)

/-- The names of all frames but the first, as the queue holds them. -/
theorem map_keptFrame_tail (k : KeptSet) (dest : Nat) : ((List.range k.frames.length).drop 1).map (fun i => (keptFrame k dest i).what) =
    (k.frames.drop 1).map EthPayload.atide := by
  refine List.ext_getElem (by simp) fun n h _ => ?_
  have hn : n + 1 < k.frames.length := by
    simp only [List.length_map, List.length_drop, List.length_range] at h
    omega
  simp [keptFrame, Nat.add_comm 1 n, List.getElem?_eq_getElem hn]

theorem keptSetIsSentAgain {k : KeptSet} (ha : awake s = true) (hworker : isWorker s = true) (hk : s.peers.kept = some k)
    (hacked : k.acked = false) (hanswered : k.answered = false) (hdue : k.lastAt + 500 * usUnits ≤ now s) (hresent : k.resent = [])
    (hframes : k.frames ≠ []) (hidle : Idle (peerPort s 0) s) : Completes .trackSetAckTimeout s fun t =>
      (∃ l, t.peers.kept = some l ∧ l.resent = List.range k.frames.length ∧ l.answered = true ∧ l.frames = k.frames) ∧
      FrameLeft (peerPort s 0) (peerMac s 0) (.atide (k.frames.getD 0 [])) s t ∧
      (ethPort t (peerPort s 0)).txQueue.map (fun x => x.what) = (k.frames.drop 1).map EthPayload.atide ∧
      ChangesOnly [.ports, .peers, .tx, .patrol] s t := by
  have heq : execTrackSetAckTimeout s = answer s (resendFrames (List.range k.frames.length) s) := by
    unfold execTrackSetAckTimeout awakeAnswer
    rw [if_pos ha]
    dsimp only
    rw [hk]
    dsimp only
    rw [hworker, hacked, hanswered, decide_eq_false (Nat.not_lt.mpr hdue), if_neg (by simp)]
  have hrange : List.range k.frames.length = 0 :: (List.range k.frames.length).drop 1 := by
    obtain ⟨b, rest, hb⟩ := List.exists_cons_of_ne_nil hframes
    rw [hb, List.length_cons, List.range_succ_eq_map]
    rfl
  have htodo : (List.range k.frames.length).filter (fun i => !k.resent.contains i && decide (i < k.frames.length)) =
      List.range k.frames.length := by
    refine List.filter_eq_self.mpr fun i hi => ?_
    simpa [hresent] using hi
  have hall : resendFrames (List.range k.frames.length) s = ((List.range k.frames.length).drop 1).foldl (resendOne k (peerPort s 0))
      (resendOne k (peerPort s 0) (resendNoted k (List.range k.frames.length) s) 0) := by
    rw [resendFrames_eq hk, htodo]
    show (List.range k.frames.length).foldl _ _ = _
    conv_lhs => rw [hrange]
    rw [List.foldl_cons, ← hrange]
  have hidle' : Idle (peerPort s 0) (resendNoted k (List.range k.frames.length) s) := hidle
  obtain ⟨hleft, -, hkept, -⟩ := resendOne_spec (k := k) hidle' 0
  obtain ⟨hbusy, hmac, hempty⟩ := resendOne_leaves (k := k) hidle' 0
  have hrest := foldl_resendOne_busy (k := k) ((List.range k.frames.length).drop 1) _ hbusy
  have hport := hrest.port
  refine completes_of_answer (exec_trackSetAckTimeout s |>.trans heq) ⟨?_, ?_, ?_, (changesOnly_resendFrames _ s).settle s⟩
  · refine ⟨{ k with resent := k.resent ++ List.range k.frames.length, answered := true }, ?_, by simp [hresent], rfl, rfl⟩
    rw [settle_peers, hall, hrest.kept, hkept]
    rfl
  · rw [hall]
    exact (FrameLeft.congr (s := s) hleft rfl rfl rfl hrest.tx (by rw [hport])).settle s
  · rw [ethPort_settle, hall, hport, hempty, List.nil_append, List.map_map]
    exact map_keptFrame_tail k _

/-! ## Sets that wait (R495, R496) -/

/-- The manager asks for an open set's missing frames. -/
def framesAsked (d : Nat) (o : OpenSet) (s : State) : State :=
  let l := (missingFrames o).take 255
  modPeer d (fun (x : Peer) => { x with
      isOpen := some { o with resendAt := some (now s) }, resends := satAdd 32 x.resends l.length })
    (sendPeer d 5 0xFF 0xFF o.instant (packBE 4 [(24, 8, l.length)] ++ l.flatMap (fun i => bytesOfNatBE 2 i)) s)

theorem missingFramesAreAsked {o : OpenSet} (ha : awake s = true) (hd : d < 16) (hmanager : isManager s = true)
    (htick : ticking s = true) (hopen : (peer s d).isOpen = some o) (hfirst : o.resendAt = none)
    (hdue : o.lastAt + 100 * usUnits ≤ now s ∨ o.firstAt + 500 * usUnits ≤ now s) :
    Completes (.trackSetIncompleteTimeout d) s fun t => (peer t d).isOpen = some { o with resendAt := some (now s) } ∧
        (Idle (peerPort s d) s → ∃ b, FrameLeft (peerPort s d) (peerMac s d) (.atide b) s t) ∧
        ChangesOnly [.ports, .peers, .tx] s t := by
  have hgo : ¬ (now s < o.lastAt + 100 * usUnits ∧ now s < o.firstAt + 500 * usUnits) := fun h =>
    hdue.elim (fun h' => absurd h.1 (Nat.not_lt.mpr h')) fun h' => absurd h.2 (Nat.not_lt.mpr h')
  have heq : execTrackSetIncompleteTimeout d s = answer s (framesAsked d o s) := by
    unfold execTrackSetIncompleteTimeout awakeAnswer
    rw [if_pos ha]
    dsimp only
    rw [hopen]
    dsimp only
    rw [hmanager, htick, hfirst]
    dsimp only
    rw [if_neg hgo, if_neg (by simp)]
    rfl
  refine completes_of_answer ((exec_trackSetIncompleteTimeout d s).trans heq) ⟨?_, fun hidle => ?_,
    ChangesOnly.settle s (((changesOnly_sendPeer _ _ _ _ _ _ s).mono (by simp)).step ((changesOnly_modPeer _ _ _).mono (by simp)))⟩
  · rw [peer_settle, framesAsked, peer_modPeer hd]
  · exact ⟨_, (FrameLeft.congr (t' := framesAsked d o s) (frameLeft_sendPeer hidle 5 0xFF 0xFF o.instant _) rfl rfl rfl rfl rfl).settle s⟩

theorem openSetIsLost {o : OpenSet} {r : Dts} (ha : awake s = true) (hd : d < 16) (hmanager : isManager s = true)
    (htick : ticking s = true) (hopen : (peer s d).isOpen = some o) (hasked : o.resendAt = some r)
    (hdue : r + 500 * usUnits ≤ now s) : Completes (.trackSetIncompleteTimeout d) s fun t =>
      (peer t d).isOpen = none ∧ (peer t d).setsLost = bump (peer s d).setsLost ∧ (∃ r, t.patrol.wires = s.patrol.wires ++ [r] ∧
        r.source = sourceOf 0x0E d 0 ∧ r.cls = .ce) ∧ ChangesOnly [.peers, .patrol] s t := by
  have heq : execTrackSetIncompleteTimeout d s = answer s (loseSet d s) := by
    unfold execTrackSetIncompleteTimeout awakeAnswer
    rw [if_pos ha]
    dsimp only
    rw [hopen]
    dsimp only
    rw [hmanager, htick, hasked]
    dsimp only
    rw [if_neg (Nat.not_lt.mpr hdue), if_neg (by simp)]
  have hpeer : peer (loseSet d s) d = { peer s d with isOpen := none, setsLost := bump (peer s d).setsLost } :=
    peer_modPeer hd _ s
  refine completes_of_answer ((exec_trackSetIncompleteTimeout d s).trans heq) ?_
  rw [peer_settle, hpeer, settle_patrol]
  exact ⟨rfl, rfl, ⟨_, rfl, rfl, rfl⟩, ((changesOnly_modPeer _ _ s).comp (changesOnly_report _ _ _ _ _ _)).settle s⟩

/-- Sets leave a worker's, counted as late. -/
def lateDropped (late : List WholeSet) (x : Peer) : Peer :=
  { x with whole := x.whole.filter (fun v => !late.contains v), setsLate := satAdd 32 x.setsLate late.length }

/-- The only whole set of a worker goes. -/
theorem setGoesLate {w : WholeSet} (hd : d < 16) (hwhole : (peer s d).whole = [w]) :
    (peer (modPeer d (lateDropped [w]) s) d).whole = [] ∧
      (peer (modPeer d (lateDropped [w]) s) d).setsLate = satAdd 32 (peer s d).setsLate 1 := by
  rw [peer_modPeer hd]
  refine ⟨?_, rfl⟩
  show (peer s d).whole.filter _ = []
  rw [hwhole]
  simp

theorem waitingSetIsLate {w : WholeSet} (ha : awake s = true) (hrun : inRun s = true) (hd : d < 16)
    (hwhole : (peer s d).whole = [w]) (hmanager : isManager s = true)
    (hdue : w.wholeAt + 2 * shortestSpacing (effectiveRate s) * usUnits ≤ now s) :
    Completes (.trackSetWaitTimeout d) s fun t => (peer t d).whole = [] ∧
        (peer t d).setsLate = satAdd 32 (peer s d).setsLate 1 ∧ ChangesOnly [.peers] s t := by
  have hold : (peer s d).whole.filter (fun v => decide (v.wholeAt + 2 * shortestSpacing (effectiveRate s) * usUnits ≤ now s)) = [w] := by
    rw [hwhole, List.filter_cons_of_pos (by exact decide_eq_true hdue), List.filter_nil]
  have heq : execTrackSetWaitTimeout d s = answer s (modPeer d (lateDropped [w]) s) := by
    unfold execTrackSetWaitTimeout awakeAnswer
    rw [if_pos ha]
    dsimp only
    rw [hold, hrun, hmanager, if_neg (by simp)]
    rfl
  obtain ⟨hgone, hcount⟩ := setGoesLate hd hwhole
  refine completes_of_answer ((exec_trackSetWaitTimeout d s).trans heq) ?_
  rw [peer_settle]
  exact ⟨hgone, hcount, (changesOnly_modPeer _ _ s).settle s⟩

theorem overtakenSetIsLate {w : WholeSet} (ha : awake s = true) (hrun : inRun s = true) (hd : d < 16)
    (hwhole : (peer s d).whole = [w]) (henabled : d ∈ enabledWorkers s) (hlate : setLate s w.instant = true) :
    Completes (.trackSetMerge d) s fun t => (peer t d).whole = [] ∧
      (peer t d).setsLate = satAdd 32 (peer s d).setsLate 1 ∧ t.glide = s.glide ∧ ChangesOnly [.peers] s t := by
  have hold : (peer s d).whole.filter (fun v => setLate s v.instant) = [w] := by
    rw [hwhole, List.filter_cons_of_pos (by exact hlate), List.filter_nil]
  have hdrop : dropLateSets d s = modPeer d (lateDropped [w]) s := by
    unfold dropLateSets
    rw [hold]
    rfl
  obtain ⟨hgone, hcount⟩ := setGoesLate hd hwhole
  have hframe : ChangesOnly [.peers] s (settle s (modPeer d (lateDropped [w]) s)) := (changesOnly_modPeer _ _ s).settle s
  have heq : execTrackSetMerge d s = answer s (dropLateSets d s) := by
    unfold execTrackSetMerge awakeAnswer
    rw [if_pos ha]
    dsimp only
    rw [hrun, List.contains_iff_mem.mpr henabled, if_neg (by simp), hdrop, hgone]
    rfl
  refine completes_of_answer ((exec_trackSetMerge d s).trans heq) ?_
  rw [hdrop, peer_settle]
  exact ⟨hgone, hcount, hframe .glide (by simp), hframe⟩

/-! ## A merge without entries (R496) -/

/-- The update that a set without entries makes. -/
def emptyMerge (d : Nat) (w : WholeSet) (f : Dts) (misses : List (Nat × Nat)) (s : State) : FrameUpdate :=
  { key := s.solver.nextId, frame := s.glide.committed, instant := f, worker := some d, observed := w.observed,
    entries := [], misses := misses, patches := [], recentred := false, detectionsDropped := 0, updatesDropped := 0,
    birthsDropped := 0, storeFull := false, finished := none }

/-- A whole set leaves its worker's, and a name for its update is taken. -/
def setTaken (d : Nat) (w : WholeSet) (s : State) : State :=
  modSolver (fun (v : Solver) => { v with nextId := v.nextId + 1 })
    (modPeer d (fun (x : Peer) => { x with whole := x.whole.filter (fun y => y.instant != w.instant) }) s)

theorem mergeSet_empty {w : WholeSet} (f : Dts) (hw : w.entries = []) : ∃ misses,
    (∀ m ∈ misses, ∃ x ∈ s.glide.store, x.index = m.1 ∧ x.sourceDevice = d) ∧ mergeSet d w f s =
      settleUpdate s.solver.nextId (modGlide (fun (g : Glide) => { g with
        pending := insertMerge (emptyMerge d w f misses s) g.pending }) (setTaken d w s)) := by
  have hnone : ∀ u : State, mergeEntries u w f = [] := fun u => by
    rw [mergeEntries, hw]
    rfl
  refine ⟨((((setTaken d w s).glide.store.map (fun c => (c, propagate (setTaken d w s) c f))).filter
    (fun t => bitOf t.1.modalities 4 && t.1.sourceDevice == d)).map
      (fun t => (t.1.index, mergeMiss (setTaken d w s) d w.observed t.1 t.2))), fun m hm => ?_, ?_⟩
  · obtain ⟨t, ht, rfl⟩ := List.mem_map.mp hm
    obtain ⟨ht', hmine⟩ := List.mem_filter.mp ht
    obtain ⟨c, hc, rfl⟩ := List.mem_map.mp ht'
    have hdevice : bitOf c.modalities 4 = true ∧ c.sourceDevice = d := by simpa using hmine
    exact ⟨c, hc, rfl, hdevice.2⟩
  · unfold mergeSet
    simp only [hnone, List.foldl_nil, List.map_nil, List.filter_nil, List.length_nil, Nat.sub_self]
    rfl

/-- A merge stands behind the merges that wait, and before the device's own frame, of which there is none. -/
theorem insertMerge_of_workers {u : FrameUpdate} {l : List FrameUpdate} (h : ∀ x ∈ l, x.worker ≠ none) :
    insertMerge u l = l ++ [u] := by
  have hall : l.filter (fun x => x.worker.isSome) = l := List.filter_eq_self.mpr fun x hx => Option.isSome_iff_ne_none.mpr (h x hx)
  have hnone : l.filter (fun x => x.worker.isNone) = [] :=
    List.filter_eq_nil_iff.mpr fun x hx hx' => h x hx (Option.isNone_iff_eq_none.mp hx')
  rw [insertMerge, hall, hnone, List.append_nil]

theorem emptySetMerges {w : WholeSet} {c : Dts} (ha : awake s = true) (hrun : inRun s = true) (hd : d < 16)
    (hwhole : (peer s d).whole = [w]) (henabled : d ∈ enabledWorkers s) (hlate : setLate s w.instant = false)
    (hc : mergeInstant s w.instant = some c) (hw : w.entries = []) (hworkers : ∀ x ∈ s.glide.pending, x.worker ≠ none)
    (hkeys : ∀ x ∈ s.glide.pending, x.key < s.solver.nextId) : Completes (.trackSetMerge d) s fun t =>
      (peer t d).whole = [] ∧ t.glide.store = s.glide.store ∧
        (∃ u, t.glide.pending = s.glide.pending ++ [u] ∧ u.worker = some d ∧ u.instant = c ∧ u.finished = some (now s) ∧
          u.entries = [] ∧ ∀ m ∈ u.misses, ∃ x ∈ s.glide.store, x.index = m.1 ∧ x.sourceDevice = d) ∧
        ChangesOnly [.peers, .solver, .glide] s t := by
  have hold : (peer s d).whole.filter (fun v => setLate s v.instant) = [] := by
    rw [hwhole, List.filter_cons_of_neg (by simp [hlate]), List.filter_nil]
  have hdrop : dropLateSets d s = modPeer d (lateDropped []) s := by
    unfold dropLateSets
    rw [hold]
    rfl
  have hstill : (peer (dropLateSets d s) d).whole = [w] := by
    rw [hdrop, peer_modPeer hd]
    show (peer s d).whole.filter _ = [w]
    rw [hwhole]
    rfl
  have hcommit : mergeInstant (dropLateSets d s) w.instant = some c := hc
  have heq : execTrackSetMerge d s = answer s (mergeSet d w c (dropLateSets d s)) := by
    unfold execTrackSetMerge awakeAnswer
    rw [if_pos ha]
    dsimp only
    rw [hrun, List.contains_iff_mem.mpr henabled, if_neg (by simp), hstill, List.find?_cons_of_pos (by rw [hcommit]; rfl)]
    dsimp only
    rw [hcommit]
    rfl
  obtain ⟨misses, hmisses, hmerge⟩ := mergeSet_empty (s := dropLateSets d s) (d := d) c hw
  have hframe : ChangesOnly [.peers] s (dropLateSets d s) := changesOnly_modPeer _ _ s
  have hglide : (dropLateSets d s).glide = s.glide := hframe .glide (by simp)
  have hsolver : (dropLateSets d s).solver = s.solver := hframe .solver (by simp)
  have htime : now (dropLateSets d s) = now s := rfl
  have hpending : (mergeSet d w c (dropLateSets d s)).glide.pending =
      s.glide.pending ++ [{ emptyMerge d w c misses (dropLateSets d s) with finished := some (now s) }] := by
    rw [hmerge]
    show (insertMerge _ (dropLateSets d s).glide.pending).map _ = _
    rw [hglide, insertMerge_of_workers hworkers, List.map_append, List.map_singleton]
    congr 1
    · refine (List.map_congr_left fun x hx => ?_).trans (List.map_id _)
      have hne : ¬ (x.key == (dropLateSets d s).solver.nextId) = true := by
        rw [hsolver, beq_iff_eq]
        exact (hkeys x hx).ne
      exact if_neg hne
    · have hown : ((emptyMerge d w c misses (dropLateSets d s)).key == (dropLateSets d s).solver.nextId) = true := by
        simp [emptyMerge]
      rw [if_pos hown]
      rfl
  have hgone : (peer (mergeSet d w c (dropLateSets d s)) d).whole = [] := by
    rw [hmerge]
    show (peer (setTaken d w (dropLateSets d s)) d).whole = []
    show (peer (modPeer d _ (dropLateSets d s)) d).whole = []
    rw [peer_modPeer hd]
    show (peer (dropLateSets d s) d).whole.filter _ = []
    rw [hstill]
    simp
  have hstore : (mergeSet d w c (dropLateSets d s)).glide.store = s.glide.store := by
    rw [hmerge, ← hglide]
    rfl
  have hout : ChangesOnly [.peers, .solver, .glide] s (mergeSet d w c (dropLateSets d s)) := by
    rw [hmerge]
    refine (hframe.mono (by simp)).step ?_
    exact ((((changesOnly_modPeer _ _ _).comp (changesOnly_modSolver _ _)).mono (by simp)).step
      ((changesOnly_modGlide _ _).mono (by simp))).step ((changesOnly_modGlide _ _).mono (by simp))
  rw [hglide] at hmisses
  refine completes_of_answer ((exec_trackSetMerge d s).trans heq) ?_
  rw [peer_settle, settle_glide]
  exact ⟨hgone, hstore, ⟨_, hpending, rfl, rfl, rfl, rfl, hmisses⟩, hout.settle s⟩

/-! ## Silence (R499, R500) -/

theorem flag_le_one (b : Bool) : flag b ≤ 1 := by cases b <;> decide

/-- Bit 10 of DEGRADATION. -/
theorem bitOf_degradation_peer (h : degradedPeer s = true) : bitOf (degradationOf s) 10 = true := by
  have hle := flag_le_one
  have hone : flag (degradedPeer s) = 1 := by rw [h]; rfl
  unfold degradationOf
  rw [hone]
  have h0 := hle (spareless s)
  have h1 := hle s.rink.reduced
  have h2 := hle (degradedTime s)
  have h3 := hle s.align.degradedEgo
  have h4 := hle s.glide.refTruncated
  have h5 := hle (s.point.retired != 0)
  have h6 := hle s.glide.refMarked
  have h7 := hle (inRun s && decide (effectiveRate s < configuredRate s))
  have h8 := hle (s.solver.pairs.toList.any (fun p => p.state == .retired))
  have h9 := hle (degradedTracks s)
  generalize flag (spareless s) = a0 at *
  generalize flag s.rink.reduced = a1 at *
  generalize flag (degradedTime s) = a2 at *
  generalize flag s.align.degradedEgo = a3 at *
  generalize flag s.glide.refTruncated = a4 at *
  generalize flag (s.point.retired != 0) = a5 at *
  generalize flag s.glide.refMarked = a6 at *
  generalize flag (inRun s && decide (effectiveRate s < configuredRate s)) = a7 at *
  generalize flag (s.solver.pairs.toList.any (fun p => p.state == .retired)) = a8 at *
  generalize flag (degradedTracks s) = a9 at *
  generalize flag (s.power.throttleRate != 0) = a11 at *
  rw [bitOf, beq_iff_eq]
  omega

theorem degradation_settle (o : State) (h : degradedPeer s = true) : bitOf (settle o s).dev.degradation 10 = true := by
  rw [settle_dev]
  exact bitOf_degradation_peer h

theorem workerIsLost (ha : awake s = true) (htick : ticking s = true) (henabled : d ∈ enabledWorkers s) (hd : d < 16)
    (hsilent : silentThree s (peer s d) = true) (hvalid : (peer s d).phase = .valid) : Completes (.workerStatusTimeout d) s fun t =>
      (peer t d).phase = .lost ∧ (peer t d).regionValid = false ∧ (peer t d).lossEvents = bump (peer s d).lossEvents ∧
      (∃ r, t.patrol.wires = s.patrol.wires ++ [r] ∧ r.source = sourceOf 0x0E d 0 ∧ r.cls = .uc ∧ r.level = 4) ∧
      (bitOf t.dev.degradation 10 = true) ∧ ChangesOnly [.peers, .patrol] s t := by
  have heq : execWorkerStatusTimeout d s = answer s (dropWorker d .lost s) := by
    unfold execWorkerStatusTimeout awakeAnswer
    rw [if_pos ha]
    dsimp only
    rw [htick, List.contains_iff_mem.mpr henabled, hsilent, if_neg (by simp), hvalid]
    rfl
  obtain ⟨hpeer, ⟨r, hwires, hreport⟩, hframe⟩ := dropWorker_spec hd .lost s
  have hmanager : isManager s = true := by
    by_contra h
    simp [enabledWorkers, h] at henabled
  have henabled' : d ≠ 0 ∧ regionEnabled s d = true := by
    rw [enabledWorkers, if_pos hmanager] at henabled
    simpa using (List.mem_filter.mp henabled).2
  have hphase : (vget (dropWorker d .lost s).peers.peers d).phase = .lost := congrArg Peer.phase hpeer
  have hrunning : (inRun (dropWorker d .lost s) || (dropWorker d .lost s).dev.state == .safe) = true := htick
  have hmanager' : isManager (dropWorker d .lost s) = true := hmanager
  have hregion : regionEnabled (dropWorker d .lost s) d = true := henabled'.2
  have hdegraded : degradedPeer (dropWorker d .lost s) = true := by
    have hany : (List.range 16).any (fun e => e != 0 && regionEnabled (dropWorker d .lost s) e &&
        (vget (dropWorker d .lost s).peers.peers e).phase != .valid) = true :=
      List.any_eq_true.mpr ⟨d, List.mem_range.mpr hd, by rw [hregion, hphase]; simp [henabled'.1]⟩
    rw [degradedPeer, hmanager', hany, hrunning]
    rfl
  refine completes_of_answer ((exec_workerStatusTimeout d s).trans heq) ?_
  rw [peer_settle, hpeer, settle_patrol]
  exact ⟨rfl, rfl, rfl, ⟨r, hwires, hreport⟩, degradation_settle s hdegraded, hframe.settle s⟩

/-- A worker's manager is lost. -/
def managerGone (s : State) : State :=
  report (peerFault 0) 0 4 .uc 0 (modPeers (fun (p : Peers) => { p with managerLost := true })
    (modPeer 0 (fun (y : Peer) => { y with phase := .lost, lossEvents := bump y.lossEvents, decided := some (now s) }) s))

theorem managerIsLost (ha : awake s = true) (hworker : isWorker s = true) (htick : ticking s = true)
    (hsilent : silentThree s (peer s 0) = true) (hfound : s.peers.managerLost = false) : Completes .poseAnchorTimeout s fun t =>
      t.peers.managerLost = true ∧
      (peer t 0).phase = .lost ∧ (peer t 0).lossEvents = bump (peer s 0).lossEvents ∧ bitOf t.dev.degradation 10 = true ∧
      (∃ r, t.patrol.wires = s.patrol.wires ++ [r] ∧ r.source = sourceOf 0x0E 0 0 ∧ r.cls = .uc ∧ r.level = 4) ∧
      ChangesOnly [.peers, .patrol] s t := by
  have heq : execPoseAnchorTimeout s = answer s (managerGone s) := by
    unfold execPoseAnchorTimeout awakeAnswer
    rw [if_pos ha]
    dsimp only
    rw [hworker, htick, hsilent, hfound, if_neg (by simp), if_neg (by simp)]
    rfl
  have hpeer : peer (managerGone s) 0 =
      { peer s 0 with phase := .lost, lossEvents := bump (peer s 0).lossEvents, decided := some (now s) } :=
    peer_modPeer (by omega) _ s
  have hworker' : isWorker (managerGone s) = true := hworker
  have hdegraded : degradedPeer (managerGone s) = true := by
    rw [degradedPeer, hworker', show (managerGone s).peers.managerLost = true from rfl]
    simp
  refine completes_of_answer ((exec_poseAnchorTimeout s).trans heq) ?_
  rw [peer_settle, hpeer, settle_patrol, settle_peers]
  exact ⟨rfl, rfl, rfl, degradation_settle s hdegraded, ⟨_, rfl, rfl, rfl, rfl⟩,
    ChangesOnly.settle s (((changesOnly_modPeer _ _ s).mono (by simp)).step
      (((changesOnly_modPeers _ _).comp (changesOnly_report _ _ _ _ _ _)).mono (by simp)))⟩

end

/-- Settles O53: each wait's end writes its peer's entry, and what it sends or reports. -/
theorem atideWaitsEnd : Obligations.AtideWaitsEnd := by
  unfold Obligations.AtideWaitsEnd
  exact ⟨fun d o s ha hd hmanager htick hopen => ⟨fun hfirst hdue => missingFramesAreAsked ha hd hmanager htick hopen hfirst hdue,
      fun r hasked hdue => openSetIsLost ha hd hmanager htick hopen hasked hdue⟩,
    fun k s ha hworker hk hacked hanswered hdue hresent hframes hidle =>
      keptSetIsSentAgain ha hworker hk hacked hanswered hdue hresent hframes hidle,
    fun d w s ha hrun hd hwhole => ⟨fun hmanager hdue => waitingSetIsLate ha hrun hd hwhole hmanager hdue,
      fun henabled hlate => overtakenSetIsLate ha hrun hd hwhole henabled hlate,
      fun c henabled hlate hc hw hworkers hkeys => emptySetMerges ha hrun hd hwhole henabled hlate hc hw hworkers hkeys⟩,
    fun d s ha htick henabled hd hsilent hvalid => workerIsLost ha htick henabled hd hsilent hvalid,
    fun s ha hworker htick hsilent hfound => managerIsLost ha hworker htick hsilent hfound⟩

end Sys2Proof.Machine
end

section
/-! Journals in flash (R533, R534, R548, R550): what a written record leaves, and what is read. -/

namespace Sys2Proof.Machine

/-! ## Records placed (R533) -/

section
variable {x : JournalRecord} {r : FlashRing}

/-- A record is placed behind those that stand. -/
theorem placeRecord_records (x : JournalRecord) (r : FlashRing) : ∃ n, (placeRecord x r).records = r.records ++ [(n, x)] := by
  unfold placeRecord
  split_ifs
  · exact ⟨r.sector + 1, rfl⟩
  · exact ⟨r.sector, rfl⟩

/-- Records placed in turn stand behind those that stood. -/
theorem foldl_placeRecord_records : ∀ (l : List (Nat × JournalRecord)) (r : FlashRing), ∃ ns : List Nat, ns.length = l.length ∧
    (l.foldl (fun (q : FlashRing) y => placeRecord y.2 q) r).records = r.records ++ ns.zip (l.map (·.2))
  | [], r => ⟨[], rfl, by simp⟩
  | y :: l, r => by
    obtain ⟨n, hone⟩ := placeRecord_records y.2 r
    obtain ⟨ns, hlen, hrest⟩ := foldl_placeRecord_records l (placeRecord y.2 r)
    refine ⟨n :: ns, by simp [hlen], ?_⟩
    rw [List.foldl_cons, hrest, hone, List.append_assoc]
    rfl

/-- A record of a list stands in its zip with as many numbers. -/
theorem mem_zip_of_mem : ∀ {ns : List Nat} {l : List JournalRecord} {x : JournalRecord}, ns.length = l.length → x ∈ l →
    ∃ n, (n, x) ∈ ns.zip l
  | n :: ns, y :: l, x, h, hx => by
    rcases List.mem_cons.mp hx with rfl | hx
    · exact ⟨n, List.mem_cons_self⟩
    · obtain ⟨m, hm⟩ := mem_zip_of_mem (Nat.succ.inj h) hx
      exact ⟨m, List.mem_cons_of_mem _ hm⟩
  | [], y :: l, x, h, _ => absurd h (by simp)

/-- A record stands in a ring, and every other there has a lower SEQ. -/
structure NewestIn (x : JournalRecord) (r : FlashRing) : Prop where
  stands : ∃ n, (n, x) ∈ r.records
  newest : ∀ y ∈ r.records, y.2 = x ∨ y.2.seq < x.seq

theorem newestIn_placeRecord (h : ∀ y ∈ r.records, y.2.seq < x.seq) : NewestIn x (placeRecord x r) := by
  obtain ⟨n, hrecords⟩ := placeRecord_records x r
  refine ⟨⟨n, by rw [hrecords]; simp⟩, fun y hy => ?_⟩
  rw [hrecords] at hy
  rcases List.mem_append.mp hy with hy | hy
  · exact .inr (h y hy)
  · rw [List.mem_singleton.mp hy]
    exact .inl rfl

/-- The records that stand in the sector ahead. -/
def goneAhead (j : Nat) (r : FlashRing) : List (Nat × JournalRecord) :=
  r.records.filter (fun x => decide (x.1 + journalSectors j ≤ r.sector + 1))

/-- The records that the erase of the sector ahead leaves. -/
def keptAhead (j : Nat) (r : FlashRing) : List (Nat × JournalRecord) :=
  r.records.filter (fun x => !decide (x.1 + journalSectors j ≤ r.sector + 1))

/-- The ring with the sector ahead erased once, and what was the latest of its kind there written again. -/
def erasedOnce (j : Nat) (r : FlashRing) : FlashRing :=
  ((goneAhead j r).filter (fun x => isLatest r.records x.2)).foldl (fun (q : FlashRing) x => placeRecord x.2 q)
    { r with records := keptAhead j r }

theorem eraseAhead_succ {j : Nat} (hj : j ≠ 0) (n : Nat) (r : FlashRing) : eraseAhead j (n + 1) r =
    if (erasedOnce j r).sector = r.sector then erasedOnce j r else eraseAhead j n (erasedOnce j r) := by
  rw [eraseAhead, if_neg hj]
  rfl

/-- What stands after one erase stood before, at whatever place. -/
theorem mem_erasedOnce {j : Nat} {y : Nat × JournalRecord} (hy : y ∈ (erasedOnce j r).records) : ∃ n, (n, y.2) ∈ r.records := by
  obtain ⟨ns, -, hrecords⟩ := foldl_placeRecord_records ((goneAhead j r).filter (fun x => isLatest r.records x.2))
    { r with records := keptAhead j r }
  rw [erasedOnce, hrecords] at hy
  rcases List.mem_append.mp hy with hy | hy
  · exact ⟨y.1, List.mem_of_mem_filter hy⟩
  · obtain ⟨z, hz, hzy⟩ := List.mem_map.mp (List.of_mem_zip (a := y.1) (b := y.2) hy).2
    exact ⟨z.1, hzy ▸ List.mem_of_mem_filter (List.mem_of_mem_filter hz)⟩

/-- A record that is the latest of its kind is not lost by an erase. -/
theorem stands_erasedOnce {j n : Nat} (h : (n, x) ∈ r.records) (hlatest : isLatest r.records x = true) :
    ∃ m, (m, x) ∈ (erasedOnce j r).records := by
  obtain ⟨ns, hlen, hrecords⟩ := foldl_placeRecord_records ((goneAhead j r).filter (fun x => isLatest r.records x.2))
    { r with records := keptAhead j r }
  rw [erasedOnce, hrecords]
  by_cases hgone : n + journalSectors j ≤ r.sector + 1
  · have hmem : (n, x) ∈ (goneAhead j r).filter (fun x => isLatest r.records x.2) :=
      List.mem_filter.mpr ⟨List.mem_filter.mpr ⟨h, decide_eq_true hgone⟩, hlatest⟩
    obtain ⟨m, hm⟩ := mem_zip_of_mem (by simpa using hlen) (List.mem_map_of_mem (f := (·.2)) hmem)
    exact ⟨m, List.mem_append_right _ hm⟩
  · exact ⟨n, List.mem_append_left _ (List.mem_filter.mpr ⟨h, by simpa using hgone⟩)⟩

/-- The newest record of a ring is the latest of its kind. -/
theorem NewestIn.isLatest (h : NewestIn x r) : Machine.isLatest r.records x = true := by
  unfold Machine.isLatest
  simp only [Bool.not_eq_true', List.any_eq_false, Bool.and_eq_true, decide_eq_true_eq, not_and]
  intro y hy _ hlt
  rcases h.newest y hy with heq | hless
  · rw [heq] at hlt
    exact absurd hlt (Nat.lt_irrefl _)
  · exact absurd hless (Nat.lt_asymm hlt)

theorem NewestIn.erasedOnce {j : Nat} (h : NewestIn x r) : NewestIn x (erasedOnce j r) := by
  obtain ⟨n, hn⟩ := h.stands
  refine ⟨stands_erasedOnce hn h.isLatest, fun y hy => ?_⟩
  obtain ⟨m, hm⟩ := mem_erasedOnce hy
  exact h.newest (m, y.2) hm

theorem NewestIn.eraseAhead {j : Nat} (hj : j ≠ 0) : ∀ (n : Nat) {r : FlashRing}, NewestIn x r → NewestIn x (eraseAhead j n r)
  | 0, _, h => h
  | n + 1, r, h => by
    rw [eraseAhead_succ hj]
    split_ifs
    · exact h.erasedOnce
    · exact NewestIn.eraseAhead hj n h.erasedOnce

/-! ## Records written (R533) -/

theorem ringOf_setRing (j : Nat) (r : FlashRing) (s : State) : ringOf (setRing j r s) j = r := by
  unfold ringOf setRing
  rcases j with _ | _ | j <;> rfl

/-- A record of the configuration or the index journal written after all that stand: it stands, and is the newest. -/
theorem newestIn_writeFlashRecord {j : Nat} (hj : j ≠ 0) {s : State} (h : ∀ y ∈ (ringOf s j).records, y.2.seq < x.seq) :
    NewestIn x (ringOf (writeFlashRecord j x s) j) := by
  have hplaced := newestIn_placeRecord h
  unfold writeFlashRecord
  rw [ringOf_setRing]
  split_ifs
  · exact hplaced
  · exact hplaced.eraseAhead hj _

theorem changesOnly_setRing (j : Nat) (r : FlashRing) (s : State) : ChangesOnly [.security] s (setRing j r s) :=
  changesOnly_modSecurity _ s

theorem changesOnly_writeFlashRecord (j : Nat) (x : JournalRecord) (s : State) :
    ChangesOnly [.security] s (writeFlashRecord j x s) :=
  (changesOnly_modSecurity _ s).step (changesOnly_setRing j _ _)

theorem changesOnly_appendRecord (j type : Nat) (payload : Bytes) (s : State) :
    ChangesOnly [.security] s (appendRecord j type payload s) :=
  (changesOnly_advanceSeq j s).step (changesOnly_writeFlashRecord j _ _)

theorem changesOnly_useDomain (d : Nat) (s : State) : ChangesOnly [.power] s (useDomain d s) := changesOnly_modPower _ s

/-! ## The event journal's writer (R517, R548) -/

/-- The event journal loses the records of the sector ahead. -/
theorem eraseAhead_event (n : Nat) (r : FlashRing) : eraseAhead 0 (n + 1) r = { r with records := keptAhead 0 r } := by
  rw [eraseAhead, if_pos rfl]
  rfl

/-- The event journal after a record. -/
def eventWritten (x : JournalRecord) (r : FlashRing) : FlashRing :=
  if (placeRecord x r).sector = r.sector then placeRecord x r
  else { placeRecord x r with records := keptAhead 0 (placeRecord x r) }

theorem eventJournal_writeFlashRecord (x : JournalRecord) (s : State) :
    (writeFlashRecord 0 x s).security.eventJournal = eventWritten x s.security.eventJournal := by
  have hsectors : journalSectors 0 = 3839 + 1 := rfl
  have herase := eraseAhead_event 3839 (placeRecord x s.security.eventJournal)
  rw [← hsectors] at herase
  show (if (placeRecord x s.security.eventJournal).sector = s.security.eventJournal.sector then
    placeRecord x s.security.eventJournal else eraseAhead 0 (journalSectors 0) (placeRecord x s.security.eventJournal)) = _
  rw [herase]
  rfl

theorem retention_writeFlashRecord (x : JournalRecord) (s : State) :
    (writeFlashRecord 0 x s).security.retention = s.security.retention := rfl

/-- A record written to the event journal stands there, and beside it records that stood. -/
theorem eventWritten_spec (x : JournalRecord) (r : FlashRing) : (∃ n, (n, x) ∈ (eventWritten x r).records) ∧
    (∀ y ∈ (eventWritten x r).records, y ∈ r.records ∨ y.2 = x) ∧ (r.used + recordSpan x ≤ 65536 →
      eventWritten x r = { r with records := r.records ++ [(r.sector, x)], used := r.used + recordSpan x }) := by
  unfold eventWritten
  by_cases hfit : r.used + recordSpan x ≤ 65536
  · have hplace : placeRecord x r = { r with records := r.records ++ [(r.sector, x)], used := r.used + recordSpan x } :=
      if_neg (Nat.not_lt.mpr hfit)
    rw [hplace, if_pos rfl]
    refine ⟨⟨r.sector, by simp⟩, fun y hy => ?_, fun _ => rfl⟩
    rcases List.mem_append.mp hy with hy | hy
    · exact .inl hy
    · exact .inr (by rw [List.mem_singleton.mp hy])
  · have hplace : placeRecord x r =
        { records := r.records ++ [(r.sector + 1, x)], sector := r.sector + 1, used := recordSpan x } :=
      if_pos (Nat.not_le.mp hfit)
    rw [hplace, if_neg (by simp)]
    refine ⟨⟨r.sector + 1, List.mem_filter.mpr ⟨by simp, ?_⟩⟩, fun y hy => ?_, fun h => absurd h hfit⟩
    · simp [journalSectors]
    · rcases List.mem_append.mp (List.mem_of_mem_filter hy) with hy | hy
      · exact .inl hy
      · exact .inr (by rw [List.mem_singleton.mp hy])

/-- The oldest buffered record has left the buffer. -/
def bufferTaken (rest : List JournalRecord) (s : State) : State :=
  modSecurity (fun (x : Security) => { x with retention := { x.retention with buffer := rest } }) s

theorem journalRecordIsHeld {rest : List JournalRecord} {s : State} (hbuffer : s.security.retention.buffer = x :: rest)
    (hset : nvInhibited s = true) : Completes .journalRecordWrite s fun t => ChangesOnly [] s t := by
  have heq : execJournalRecordWrite s = answer s s := by
    unfold execJournalRecordWrite awakeAnswer
    dsimp only
    rw [hbuffer]
    dsimp only
    rw [if_pos hset, ite_self]
  exact completes_of_answer ((exec_journalRecordWrite s).trans heq) ((ChangesOnly.refl [] s).settle s)

theorem journalRecordIsWritten {rest : List JournalRecord} {s : State} (ha : awake s = true)
    (hbuffer : s.security.retention.buffer = x :: rest) (hclear : nvInhibited s = false) :
    Completes .journalRecordWrite s fun t => t.security.retention.buffer = rest ∧
      (∃ n, (n, x) ∈ t.security.eventJournal.records) ∧
      (∀ y ∈ t.security.eventJournal.records, y ∈ s.security.eventJournal.records ∨ y.2 = x) ∧
      (s.security.eventJournal.used + recordSpan x ≤ 65536 → t.security.eventJournal = { s.security.eventJournal with
        records := s.security.eventJournal.records ++ [(s.security.eventJournal.sector, x)],
        used := s.security.eventJournal.used + recordSpan x }) ∧ ChangesOnly [.security, .power] s t := by
  have heq : execJournalRecordWrite s = answer s (useDomain 0 (writeFlashRecord 0 x (bufferTaken rest s))) := by
    unfold execJournalRecordWrite awakeAnswer
    rw [if_pos ha]
    dsimp only
    rw [hbuffer]
    dsimp only
    rw [hclear, if_neg Bool.false_ne_true]
    rfl
  have hjournal : (useDomain 0 (writeFlashRecord 0 x (bufferTaken rest s))).security.eventJournal =
      eventWritten x s.security.eventJournal := eventJournal_writeFlashRecord x (bufferTaken rest s)
  have hretention : (useDomain 0 (writeFlashRecord 0 x (bufferTaken rest s))).security.retention =
      (bufferTaken rest s).security.retention := retention_writeFlashRecord x (bufferTaken rest s)
  obtain ⟨hstands, hothers, hfits⟩ := eventWritten_spec x s.security.eventJournal
  refine completes_of_answer ((exec_journalRecordWrite s).trans heq) ?_
  rw [settle_security, hjournal, hretention]
  exact ⟨rfl, hstands, hothers, hfits, ChangesOnly.settle s (((changesOnly_modSecurity _ s).step
    (changesOnly_writeFlashRecord 0 x _)).comp (changesOnly_useDomain 0 _))⟩

end

/-! ## Records read (R550) -/

/-- Whole records that fit a room are the first so many, as many as fit. -/
theorem takeRecords_spec (j : Nat) : ∀ (l : List JournalRecord) (room : Nat), ∃ n, n ≤ l.length ∧ takeRecords j room l = l.take n ∧
    ((l.take n).map recordSpan).sum ≤ room ∧ (n < l.length → room < ((l.take (n + 1)).map recordSpan).sum)
  | [], room => ⟨0, le_rfl, rfl, Nat.zero_le _, fun h => absurd h (Nat.not_lt_zero _)⟩
  | r :: l, room => by
    by_cases hfit : room < recordSpan r
    · refine ⟨0, Nat.zero_le _, if_pos hfit, Nat.zero_le _, fun _ => ?_⟩
      simpa using hfit
    · obtain ⟨n, hn, htake, hsum, hnext⟩ := takeRecords_spec j l (room - recordSpan r)
      refine ⟨n + 1, Nat.succ_le_succ hn, ?_, ?_, fun hlt => ?_⟩
      · rw [takeRecords, if_neg hfit, htake, List.take_succ_cons]
      · rw [List.take_succ_cons, List.map_cons, List.sum_cons]
        omega
      · have hmore := hnext (by simpa using hlt)
        rw [List.take_succ_cons, List.map_cons, List.sum_cons]
        omega

end Sys2Proof.Machine
end

section
/-! Keys, life cycle, attestation and the journals' commands (O57; R536 to R539, R545 to R548, R550). -/

namespace Sys2Proof.Machine

/-! ## Keys and life cycle (R536 to R539) -/

section
variable {k : CmdKey} {c : Cmd} {s : State}

theorem changesOnly_modKey (i : Nat) (f : KeySlot → KeySlot) (s : State) : ChangesOnly [.security] s (modKey i f s) :=
  changesOnly_modSecurity _ s

/-- One fuse slot is changed. -/
theorem keys_modKey {i j : Nat} (hi : i < 4) (f : KeySlot → KeySlot) (s : State) : vget (modKey i f s).security.keys j =
    if j = i then f (vget s.security.keys i) else vget s.security.keys j := by
  by_cases h : j = i
  · rw [if_pos h, h]
    exact vget_vmod_same _ _ hi
  · rw [if_neg h]
    exact vget_vmod_ne _ _ h

theorem fld_two_lt (b : Bytes) (lo : Nat) : fld b lo 2 < 4 := Nat.mod_lt _ (by decide)

theorem keyIsRevoked (h : Ready k 0x1004 s c) : Completes (.revokeKey k) s fun t => Concluded c stDone 0 [] s t ∧
    (∀ i, i < 4 → vget t.security.keys i = (if i = fld c.params 0 2 then { vget s.security.keys i with revoked := true }
      else vget s.security.keys i)) ∧ ChangesOnly [.flight, .security, .power] s t := by
  refine completes_concluded (m := [.flight, .security, .power]) (exec_revokeKey k s) h rfl
    ((changesOnly_useDomain 1 s).comp (changesOnly_modKey _ _ _)) (by simp) (by simp) fun t hc hframe hrest => ?_
  refine ⟨hc, fun i _ => ?_, hframe⟩
  rw [hrest .security (by simp), keys_modKey (fld_two_lt _ _)]
  by_cases hi : i = fld c.params 0 2
  · rw [if_pos hi, if_pos hi, hi]
    rfl
  · rw [if_neg hi, if_neg hi]
    rfl

/-- One Anwen slot is programmed where its bit says so. -/
def keyProgrammed (b : Bytes) (i : Nat) (s : State) : State :=
  if bitAt b (64 + i) then modKey (2 + i) (fun (x : KeySlot) => { x with
    hash := fld b (128 + 256 * i) 256, programmed := true }) s else s

theorem changesOnly_keyProgrammed (b : Bytes) (i : Nat) (s : State) : ChangesOnly [.security] s (keyProgrammed b i s) :=
  changesOnly_ite (fun _ => changesOnly_modKey _ _ s) fun _ => .refl _ s

theorem keys_keyProgrammed {i j : Nat} (hi : i < 2) (b : Bytes) (s : State) : vget (keyProgrammed b i s).security.keys j =
    if j = 2 + i ∧ bitAt b (64 + i) = true then { vget s.security.keys (2 + i) with
      programmed := true, hash := fld b (128 + 256 * i) 256 } else vget s.security.keys j := by
  unfold keyProgrammed
  by_cases hbit : bitAt b (64 + i) = true
  · rw [if_pos hbit, keys_modKey (by omega)]
    simp [hbit]
  · rw [if_neg hbit, if_neg fun h => hbit h.2]

/-- The fuses of PRODUCTION. -/
def productionSet (b : Bytes) (s : State) : State :=
  modSecurity (fun (x : Security) => { x with lifeCycle := 2 }) (keyProgrammed b 1 (keyProgrammed b 0 (useDomain 1 s)))

theorem productionIsReached (h : Ready k 0x1006 s c) (hp : fld c.params 0 8 = 2) : Completes (.setLifecycle k) s fun t =>
    Concluded c stDone 0 [] s t ∧ t.security.lifeCycle = 2 ∧
      (∀ i, i < 2 → vget t.security.keys (2 + i) = (if bitAt c.params (64 + i) then { vget s.security.keys (2 + i) with
          programmed := true, hash := fld c.params (128 + 256 * i) 256 } else vget s.security.keys (2 + i)) ∧
        vget t.security.keys i = vget s.security.keys i) ∧ ChangesOnly [.flight, .security, .power] s t := by
  have hframe : ChangesOnly [.power, .security] s (productionSet c.params s) :=
    (((changesOnly_useDomain 1 s).comp (changesOnly_keyProgrammed _ 0 _)).step
      ((changesOnly_keyProgrammed _ 1 _).mono (by simp))).step ((changesOnly_modSecurity _ _).mono (by simp))
  refine completes_concluded (st := stDone) (d := 0) (r := []) (u := productionSet c.params s) (m := [.flight, .security, .power])
    (exec_setLifecycle k s) h (by dsimp only; rw [if_pos hp]; rfl) hframe (by simp) (by simp) fun t hc hframe hrest => ?_
  have hkeys : ∀ j, vget t.security.keys j = vget (keyProgrammed c.params 1 (keyProgrammed c.params 0 (useDomain 1 s))).security.keys j :=
    fun j => by rw [hrest .security (by simp)]; rfl
  refine ⟨hc, by rw [hrest .security (by simp)]; rfl, fun i hi => ⟨?_, ?_⟩, hframe⟩
  · rw [hkeys, keys_keyProgrammed (by omega), keys_keyProgrammed (by omega), keys_keyProgrammed (by omega)]
    interval_cases i <;> simp <;> rfl
  · rw [hkeys, keys_keyProgrammed (by omega), if_neg (by omega), keys_keyProgrammed (by omega), if_neg (by omega)]
    rfl

/-- The fuses of RETURNED. -/
def returnedSet (s : State) : State :=
  modKey 3 (fun (x : KeySlot) => { x with revoked := true }) (modKey 2 (fun (x : KeySlot) => { x with revoked := true })
    (modSecurity (fun (x : Security) => { x with lifeCycle := 3 }) (useDomain 1 s)))

/-- What the authorisation of a return signs. -/
def returnOrder (s : State) : Bytes := bytesOfNat 8 Config.deviceUid.toNat ++ bytesOfNat 8 s.security.returnNonce

theorem returnIsRefused (h : Ready k 0x1006 s c) (hr : fld c.params 0 8 = 3)
    (hbad : signatureGood s (returnOrder s) (c.params.drop 8) = false) : Completes (.setLifecycle k) s fun t =>
      Concluded c stVerifyFailed 512 [] s t ∧ ChangesOnly [.flight] s t := by
  have hne : ¬ fld c.params 0 8 = 2 := by omega
  refine completes_concluded (st := stVerifyFailed) (d := 512) (r := []) (u := s) (m := [.flight]) (exec_setLifecycle k s) h ?_
    (.refl [] s) (by simp) (by simp) fun t hc hframe _ => ⟨hc, hframe⟩
  dsimp only
  rw [if_neg hne, if_neg (by rw [← returnOrder, hbad]; exact Bool.false_ne_true)]

theorem returnIsReached (h : Ready k 0x1006 s c) (hr : fld c.params 0 8 = 3)
    (hgood : signatureGood s (returnOrder s) (c.params.drop 8) = true) : Completes (.setLifecycle k) s fun t =>
      Concluded c stDone 0 [] s t ∧ t.security.lifeCycle = 3 ∧
      (∀ i, i < 2 → vget t.security.keys (2 + i) = { vget s.security.keys (2 + i) with revoked := true } ∧
        vget t.security.keys i = vget s.security.keys i) ∧ ChangesOnly [.flight, .security, .power] s t := by
  have hne : ¬ fld c.params 0 8 = 2 := by omega
  have hframe : ChangesOnly [.power, .security] s (returnedSet s) :=
    (((changesOnly_useDomain 1 s).comp (changesOnly_modSecurity _ _)).step ((changesOnly_modKey 2 _ _).mono (by simp))).step
      ((changesOnly_modKey 3 _ _).mono (by simp))
  refine completes_concluded (st := stDone) (d := 0) (r := []) (u := returnedSet s) (m := [.flight, .security, .power])
    (exec_setLifecycle k s) h ?_ hframe (by simp) (by simp) fun t hc hframe hrest => ?_
  · dsimp only
    rw [if_neg hne, if_pos (by rw [← returnOrder, hgood])]
    rfl
  · have hkeys : ∀ j, vget t.security.keys j = vget (returnedSet s).security.keys j := fun j => by rw [hrest .security (by simp)]
    refine ⟨hc, by rw [hrest .security (by simp)]; rfl, fun i hi => ⟨?_, ?_⟩, hframe⟩
    · have huse : ∀ j, vget (useDomain 1 s).security.keys j = vget s.security.keys j := fun _ => rfl
      rw [hkeys, returnedSet, keys_modKey (by omega), keys_modKey (by omega), keys_modKey (by omega)]
      interval_cases i <;> simp [huse]
    · rw [hkeys, returnedSet, keys_modKey (by omega), if_neg (by omega), keys_modKey (by omega), if_neg (by omega)]
      rfl

/-! ## JTAG (R538) -/

/-- What Table 19.8 grants. -/
def accessGranted (full : Bool) (s : State) : Bool :=
  if full then jtagGranted s else s.security.lifeCycle == 3 || !ticking s

theorem execJtagAccess_eq (full : Bool) (ha : awake s = true) : execJtagAccess full s = answer s
    (if accessGranted full s then s else modSecurity (fun (x : Security) => { x with debugDenied := bump x.debugDenied }) s) := by
  unfold execJtagAccess awakeAnswer
  rw [if_pos ha]
  rfl

theorem accessGranted_true {full : Bool} (h : s.security.lifeCycle = 3 ∨
    s.dev.state = .setup ∧ (full = true → s.security.lifeCycle ≤ 1)) : accessGranted full s = true := by
  unfold accessGranted
  rcases h with hreturned | ⟨hsetup, hlow⟩
  · cases full <;> simp [jtagGranted, hreturned]
  · have hidle : ticking s = false := by simp [ticking, hsetup]
    cases full
    · simp [hidle]
    · have hle := hlow rfl
      have hcase : s.security.lifeCycle = 0 ∨ s.security.lifeCycle = 1 := by omega
      rcases hcase with hc | hc <;> simp [jtagGranted, hc, hidle, hsetup]

theorem accessGranted_false {full : Bool} (hlow : s.security.lifeCycle < 3)
    (h : ticking s = true ∨ full = true ∧ s.security.lifeCycle = 2) : accessGranted full s = false := by
  unfold accessGranted
  rcases h with htick | ⟨rfl, hproduction⟩
  · have hstate : s.dev.state ≠ .boot ∧ s.dev.state ≠ .setup := by
      constructor <;> intro hs <;> simp [ticking, hs] at htick
    cases full
    · simp [htick, Nat.ne_of_lt hlow]
    · have hcase : s.security.lifeCycle = 0 ∨ s.security.lifeCycle = 1 ∨ s.security.lifeCycle = 2 := by omega
      rcases hcase with hc | hc | hc <;> simp [jtagGranted, hc, htick, hstate]
  · simp [jtagGranted, hproduction]

theorem jtagIsJudged (full : Bool) (ha : awake s = true) :
    let open_ := s.security.lifeCycle = 3 ∨ s.dev.state = .setup ∧ (full = true → s.security.lifeCycle ≤ 1)
    (open_ → Completes (.jtagAccess full) s fun t => ChangesOnly [] s t) ∧
    (s.security.lifeCycle < 3 → ticking s = true ∨ full = true ∧ s.security.lifeCycle = 2 → Completes (.jtagAccess full) s fun t =>
      t.security = { s.security with debugDenied := bump s.security.debugDenied } ∧ ChangesOnly [.security] s t) := by
  have hrun := (exec_jtagAccess full s).trans (execJtagAccess_eq full ha)
  refine ⟨fun hopen => completes_of_answer hrun ?_, fun hlow hclosed => completes_of_answer hrun ?_⟩
  · rw [if_pos (accessGranted_true hopen)]
    exact (ChangesOnly.refl [] s).settle s
  · rw [accessGranted_false hlow hclosed, if_neg Bool.false_ne_true, settle_security]
    exact ⟨rfl, (changesOnly_modSecurity _ s).settle s⟩

/-! ## Journals read (R550) -/

/-- The records that READ_JOURNAL may copy. -/
def readable (c : Cmd) (s : State) : List JournalRecord :=
  ((journalRecords s (fld c.params 0 8)).sortBy (fun a b => decide (a.seq ≤ b.seq))).filter
    (fun r => decide (fld c.params 32 32 ≤ r.seq))

/-- Bytes copied to staging. -/
def stagingPut (x : Nat) (b : Bytes) (s : State) : State :=
  { s with memory := { s.memory with staging := cellsPut s.memory.staging x b } }

theorem changesOnly_stagingPut (x : Nat) (b : Bytes) (s : State) : ChangesOnly [.memory] s (stagingPut x b s) := by
  rw [changesOnly_iff]
  simp [Part.same, stagingPut]

/-- Outside what is copied, staging is as before. -/
theorem stagingPut_spec (hwf : cellsWf s.memory.staging = true) (x : Nat) (b : Bytes) :
    cellsGet (stagingPut x b s).memory.staging x b.length = b ∧
      ∀ a, a < x ∨ x + b.length ≤ a → cellAt (stagingPut x b s).memory.staging a = cellAt s.memory.staging a := by
  refine ⟨cellsGet_cellsPut hwf x b, fun a ha => ?_⟩
  refine (cellAt_cellsPut a b s.memory.staging x hwf).trans (if_neg ?_)
  omega

theorem journalIsRead (h : Ready k 0x1005 s c) (hwf : cellsWf s.memory.staging = true) : Completes (.readJournal k) s fun t =>
    let j := fld c.params 0 8
    let off := fld c.params 64 32
    let room := fld c.params 96 32
    let all := ((journalRecords s j).sortBy (fun a b => decide (a.seq ≤ b.seq))).filter (fun r => decide (fld c.params 32 32 ≤ r.seq))
    let size (l : List JournalRecord) : Nat := (l.map recordSpan).sum
    ∃ n, n ≤ all.length ∧ size (all.take n) ≤ room ∧ (n < all.length → room < size (all.take (n + 1))) ∧
      let rs := all.take n
      let bytes := rs.flatMap (recordFlash j)
      Concluded c stDone 0 (bytesOfNat 4 ((rs.head?.map (fun r => r.seq)).getD 0) ++
        bytesOfNat 4 ((rs.getLast?.map (fun r => r.seq)).getD 0) ++ bytesOfNat 4 n ++ bytesOfNat 4 bytes.length) s t ∧
      cellsGet t.memory.staging off bytes.length = bytes ∧
      (∀ a, a < off ∨ off + bytes.length ≤ a → cellAt t.memory.staging a = cellAt s.memory.staging a) ∧
      ChangesOnly [.flight, .power, .memory] s t := by
  obtain ⟨n, hn, htake, hsum, hnext⟩ := takeRecords_spec (fld c.params 0 8) (readable c s) (fld c.params 96 32)
  have hlen : ((readable c s).take n).length = n := List.length_take_of_le hn
  obtain ⟨hcopied, hothers⟩ := stagingPut_spec hwf (fld c.params 64 32) (((readable c s).take n).flatMap (recordFlash (fld c.params 0 8)))
  refine completes_concluded (st := stDone) (d := 0) (u := useDomain 0 (stagingPut (fld c.params 64 32)
    (((readable c s).take n).flatMap (recordFlash (fld c.params 0 8))) s)) (m := [.flight, .power, .memory])
    (exec_readJournal k s) h ?_ ((changesOnly_stagingPut _ _ s).comp (changesOnly_useDomain 0 _)) (by simp) (by simp)
    fun t hc hframe hrest => ⟨n, hn, hsum, hnext, hc, ?_, ?_, hframe⟩
  · have htaken : takeRecords (fld c.params 0 8) (fld c.params 96 32)
        (((journalRecords s (fld c.params 0 8)).sortBy (fun a b => decide (a.seq ≤ b.seq))).filter
          (fun r => decide (fld c.params 32 32 ≤ r.seq))) = (readable c s).take n := htake
    dsimp only
    rw [htaken, hlen]
    rfl
  · rw [hrest .memory (by simp)]
    exact hcopied
  · rw [hrest .memory (by simp)]
    exact hothers

end

/-! ## Attestation (R545 to R547) -/

section
variable {s t : State} {q nonce : Nat}

/-- What the reservation and the use of attestation indices leave of what a report states. -/
structure AttestKept (s t : State) : Prop where
  frame : ChangesOnly [.security, .power, .patrol] s t
  dev : t.dev = s.dev
  keys : t.security.keys = s.security.keys
  lifeCycle : t.security.lifeCycle = s.security.lifeCycle
  slots : t.security.slots = s.security.slots
  configSeq : t.security.configSeq = s.security.configSeq
  autoRun : t.security.autoRun = s.security.autoRun
  latch : t.patrol.latch = s.patrol.latch

theorem AttestKept.trans {u : State} (h : AttestKept s t) (h' : AttestKept t u) : AttestKept s u :=
  ⟨h.frame.step h'.frame, h'.dev.trans h.dev, h'.keys.trans h.keys, h'.lifeCycle.trans h.lifeCycle, h'.slots.trans h.slots,
    h'.configSeq.trans h.configSeq, h'.autoRun.trans h.autoRun, h'.latch.trans h.latch⟩

/-- A change of the journals, the work and the indices. -/
theorem attestKept_modSecurity {f : Security → Security} (h : ∀ x, (f x).keys = x.keys ∧ (f x).lifeCycle = x.lifeCycle ∧
    (f x).slots = x.slots ∧ (f x).configSeq = x.configSeq ∧ (f x).autoRun = x.autoRun) (s : State) :
    AttestKept s (modSecurity f s) := by
  obtain ⟨hkeys, hlife, hslots, hseq, hauto⟩ := h s.security
  exact ⟨(changesOnly_modSecurity f s).mono (by simp), rfl, hkeys, hlife, hslots, hseq, hauto, rfl⟩

theorem attestKept_useDomain (d : Nat) (s : State) : AttestKept s (useDomain d s) :=
  ⟨(changesOnly_useDomain d s).mono (by simp), rfl, rfl, rfl, rfl, rfl, rfl, rfl⟩

theorem attestKept_report (src unit level : Nat) (cls : FaultClass) (detail : Nat) (s : State) :
    AttestKept s (report src unit level cls detail s) :=
  ⟨(changesOnly_report _ _ _ _ _ s).mono (by simp), rfl, rfl, rfl, rfl, rfl, rfl, rfl⟩

theorem firmwareImage_congr (h : t.security.slots = s.security.slots) : firmwareImage t = firmwareImage s := by
  rw [firmwareImage, h, firmwareImage]

theorem errorBoundCode_congr (htime : t.time = s.time) (hsettings : t.settings = s.settings) : errorBoundCode t = errorBoundCode s := by
  have hage : holdoverAge t = holdoverAge s := by simp only [holdoverAge, now, htime]
  have hclass : oscClass t = oscClass s := by simp only [oscClass, setting, hsettings]
  simp only [errorBoundCode, errorBound, htime, hage, hclass]

theorem configInForce_congr (hsettings : t.settings = s.settings) (hingest : t.ingest = s.ingest)
    (hseq : t.security.configSeq = s.security.configSeq) (hauto : t.security.autoRun = s.security.autoRun) :
    configInForce t = configInForce s := by
  have hblocks : configSettings t = configSettings { s with settings := t.settings } := rfl
  have hbulk : bulkNames t = bulkNames { s with ingest := t.ingest } := rfl
  rw [hsettings] at hblocks
  rw [hingest] at hbulk
  rw [configInForce, configInForce, hseq, hauto, hblocks, hbulk]

/-- The report body of an index stays as it is. -/
theorem AttestKept.body (h : AttestKept s t) (nonce q : Nat) : attestBody t nonce q = attestBody s nonce q := by
  have htime : t.time = s.time := h.frame .time (by simp)
  have hsettings : t.settings = s.settings := h.frame .settings (by simp)
  have hingest : t.ingest = s.ingest := h.frame .ingest (by simp)
  have hplans : t.plans = s.plans := h.frame .plans (by simp)
  have hfirst : firstFault t = firstFault s := by rw [firstFault, h.latch, firstFault]
  have hnow : now t = now s := by rw [now, htime, now]
  have hplan : ∀ slot, planIdOf t slot = planIdOf s slot := fun slot => by cases slot <;> simp only [planIdOf, hplans]
  simp only [attestBody, firmwareVersion, firmwareImage_congr h.slots, errorBoundCode_congr htime hsettings,
    configInForce_congr hsettings hingest h.configSeq h.autoRun, hfirst, hnow, hplan, hplans, h.dev, h.keys, h.lifeCycle, htime]

theorem attestKept_dropWorkOf (k : CmdKey) (s : State) : AttestKept s (dropWorkOf k s) := by
  refine attestKept_modSecurity (fun _ => ?_) s
  exact ⟨rfl, rfl, rfl, rfl, rfl⟩

/-- Writing a record of the index journal. -/
theorem attestKept_appendIndex (type : Nat) (payload : Bytes) (s : State) : AttestKept s (appendRecord 2 type payload s) := by
  have hadvance : AttestKept s (advanceSeq 2 s) := by
    refine attestKept_modSecurity (fun _ => ?_) s
    exact ⟨rfl, rfl, rfl, rfl, rfl⟩
  refine hadvance.trans ?_
  show AttestKept (advanceSeq 2 s) (writeFlashRecord 2 _ (advanceSeq 2 s))
  unfold writeFlashRecord
  extract_lets r r1 lost
  refine AttestKept.trans (t := modSecurity (fun (y : Security) => { y with overwritten := satAdd 32 y.overwritten lost })
    (advanceSeq 2 s)) ?_ ?_
  · refine attestKept_modSecurity (fun _ => ?_) _
    exact ⟨rfl, rfl, rfl, rfl, rfl⟩
  · refine attestKept_modSecurity (fun _ => ?_) _
    exact ⟨rfl, rfl, rfl, rfl, rfl⟩

/-- A new block of indices is reserved. -/
def blockReserved (q : Nat) (s : State) : State :=
  modSecurity (fun (x : Security) => { x with
      openBlock := some (q / 64), nextIndex := q, retention := { x.retention with indexBlock := q / 64 + 1 } })
    (appendRecord 2 0x20 (bytesOfNat 4 (q / 64) ++ zeros 12) s)

theorem openIndex_eq (s : State) : openIndex s = if s.security.openBlock == some (nextIndexOf s / 64) then
    modSecurity (fun (x : Security) => { x with nextIndex := nextIndexOf s }) s else blockReserved (nextIndexOf s) s := rfl

theorem attestKept_openIndex (s : State) : AttestKept s (openIndex s) := by
  rw [openIndex_eq]
  split
  · refine attestKept_modSecurity (fun _ => ?_) s
    exact ⟨rfl, rfl, rfl, rfl, rfl⟩
  · refine (attestKept_appendIndex 0x20 (bytesOfNat 4 (nextIndexOf s / 64) ++ zeros 12) s).trans ?_
    refine attestKept_modSecurity (fun _ => ?_) _
    exact ⟨rfl, rfl, rfl, rfl, rfl⟩

theorem changesOnly_openIndex (s : State) : ChangesOnly [.security] s (openIndex s) := by
  rw [openIndex_eq]
  exact changesOnly_ite (fun _ => changesOnly_modSecurity _ s) fun _ =>
    (changesOnly_appendRecord _ _ _ s).step (changesOnly_modSecurity _ _)

/-- The next index stands in an open block. -/
theorem openIndex_index (s : State) : (openIndex s).security.nextIndex = nextIndexOf s ∧
    (openIndex s).security.openBlock = some (nextIndexOf s / 64) := by
  rw [openIndex_eq]
  by_cases hopen : s.security.openBlock = some (nextIndexOf s / 64)
  · rw [if_pos (by rw [hopen]; exact beq_self_eq_true _)]
    exact ⟨rfl, hopen⟩
  · rw [if_neg (by simpa using hopen)]
    exact ⟨rfl, rfl⟩

/-- A block that is reserved is recorded, and its record is found again. -/
theorem openIndex_reserves (hopen : s.security.openBlock ≠ some (nextIndexOf s / 64)) :
    (openIndex s).security.retention.indexBlock = nextIndexOf s / 64 + 1 ∧
      ((∀ x ∈ s.security.indexJournal.records, x.2.seq < s.security.indexSeqNext) →
        ∃ x ∈ (openIndex s).security.indexJournal.records, x.2.type = 0x20 ∧ x.2.seq = s.security.indexSeqNext ∧
          x.2.payload = bytesOfNat 4 (nextIndexOf s / 64) ++ zeros 12) := by
  rw [openIndex_eq, if_neg (by simpa using hopen)]
  refine ⟨rfl, fun hseq => ?_⟩
  have hnewest := newestIn_writeFlashRecord (j := 2) (by omega) (s := advanceSeq 2 s)
    (x := { seq := s.security.indexSeqNext, type := 0x20, payload := bytesOfNat 4 (nextIndexOf s / 64) ++ zeros 12 }) hseq
  obtain ⟨n, hn⟩ := hnewest.stands
  exact ⟨_, hn, rfl, rfl, rfl⟩

/-- The state in which an attestation begins to sign. -/
def attestBegun (k : CmdKey) (s : State) : State := openIndex (useDomain 1 (useDomain 0 (dropWorkOf k s)))

theorem attestKept_begun (k : CmdKey) (s : State) : AttestKept s (attestBegun k s) :=
  (((attestKept_dropWorkOf k s).trans (attestKept_useDomain 0 _)).trans (attestKept_useDomain 1 _)).trans (attestKept_openIndex _)

theorem changesOnly_attestBegun (k : CmdKey) (s : State) : ChangesOnly [.security, .power] s (attestBegun k s) :=
  (((changesOnly_dropWorkOf k s).mono (by simp)).step (((changesOnly_useDomain 0 _).step (changesOnly_useDomain 1 _)).mono
    (by simp))).step ((changesOnly_openIndex _).mono (by simp))

theorem attestBegun_index (k : CmdKey) (s : State) : (attestBegun k s).security.nextIndex = nextIndexOf s ∧
    (attestBegun k s).security.openBlock = some (nextIndexOf s / 64) :=
  openIndex_index (useDomain 1 (useDomain 0 (dropWorkOf k s)))

/-- A report of 7,896 bytes. -/
def attestReport (c : Cmd) (q : Nat) (s : State) : Bytes :=
  attestBody s (fld c.params 0 256) q ++ bytesOfNat 60 Config.hssPublicKey.toNat ++
    bytesOfNat 2568 Config.certificate.toNat ++ bytesOfNat 5076 (Config.hssSign q (attestBody s (fld c.params 0 256) q)).toNat

theorem attestReport_length (c : Cmd) (q : Nat) (s : State) : (attestReport c q s).length = 7896 := by
  unfold attestReport attestBody pack
  simp only [List.length_append, bytesOfNat_length]

theorem writeAttest_eq (c : Cmd) (q : Nat) (s : State) : writeAttest c q s = stagingPut (fld c.params 256 32) (attestReport c q s) s := rfl

/-- An index is used for a report of given bytes. -/
theorem reported_spec {u : State} {x n : Nat} {b : Bytes} (hwf : cellsWf u.memory.staging = true) (hlen : b.length = n) :
    cellsGet (spendIndex (stagingPut x b u)).memory.staging x n = b ∧
      (∀ a, a < x ∨ x + n ≤ a → cellAt (spendIndex (stagingPut x b u)).memory.staging a = cellAt u.memory.staging a) ∧
      ChangesOnly [.security, .memory] u (spendIndex (stagingPut x b u)) := by
  subst hlen
  obtain ⟨hcopied, hothers⟩ := stagingPut_spec hwf x b
  exact ⟨hcopied, hothers, ((changesOnly_stagingPut x b u).mono (by simp)).step ((changesOnly_modSecurity _ _).mono (by simp))⟩

theorem spendIndex_index (u : State) : (spendIndex u).security.nextIndex = u.security.nextIndex + 1 ∧
    (spendIndex u).security.openBlock = u.security.openBlock := ⟨rfl, rfl⟩

theorem stagingPut_security (x : Nat) (b : Bytes) (u : State) : (stagingPut x b u).security = u.security := rfl

/-- An index is used for a report, from a state that states the same. -/
theorem attested_of_kept {c : Cmd} {u : State} (hkept : AttestKept s u) (hwf : cellsWf s.memory.staging = true)
    (hindex : u.security.nextIndex = q) (hopen : u.security.openBlock = some (q / 64)) :
    (spendIndex (writeAttest c q u)).security.nextIndex = q + 1 ∧
      (spendIndex (writeAttest c q u)).security.openBlock = some (q / 64) ∧
      cellsGet (spendIndex (writeAttest c q u)).memory.staging (fld c.params 256 32) 7896 = attestReport c q s ∧
      (∀ a, a < fld c.params 256 32 ∨ fld c.params 256 32 + 7896 ≤ a →
        cellAt (spendIndex (writeAttest c q u)).memory.staging a = cellAt s.memory.staging a) ∧
      ChangesOnly [.security, .memory] u (spendIndex (writeAttest c q u)) := by
  have hmemory : u.memory = s.memory := hkept.frame .memory (by simp)
  have hreport : attestReport c q u = attestReport c q s := by
    rw [attestReport, hkept.body, attestReport]
  have hwf' : cellsWf u.memory.staging = true := by rw [hmemory, hwf]
  obtain ⟨hcopied, hothers, hframe⟩ := reported_spec (x := fld c.params 256 32) hwf' (attestReport_length c q s)
  obtain ⟨hnext, hblock⟩ := spendIndex_index (stagingPut (fld c.params 256 32) (attestReport c q s) u)
  rw [stagingPut_security] at hnext hblock
  rw [hindex] at hnext
  rw [hopen] at hblock
  rw [hmemory] at hothers
  rw [writeAttest_eq, hreport]
  exact ⟨hnext, hblock, hcopied, hothers, hframe⟩

end

section
variable {k : CmdKey} {c : Cmd} {s : State}

theorem nextIndexOf_congr {s t : State} (hopen : t.security.openBlock = s.security.openBlock)
    (hnext : t.security.nextIndex = s.security.nextIndex) (hblock : t.security.retention.indexBlock = s.security.retention.indexBlock)
    (hjournal : t.security.indexJournal.records = s.security.indexJournal.records) :
    nextIndexOf t = nextIndexOf s := by
  rw [nextIndexOf, hopen, hnext, nextBlock, hjournal, hblock, nextIndexOf, nextBlock]

theorem nextIndexOf_begun (k : CmdKey) (s : State) : nextIndexOf (useDomain 1 (useDomain 0 (dropWorkOf k s))) = nextIndexOf s :=
  nextIndexOf_congr rfl rfl rfl rfl

/-- A new block is reserved and recorded when an attestation begins. -/
theorem attestBegun_reserves (hopen : s.security.openBlock ≠ some (nextIndexOf s / 64)) :
    (attestBegun k s).security.retention.indexBlock = nextIndexOf s / 64 + 1 ∧
      ((∀ x ∈ s.security.indexJournal.records, x.2.seq < s.security.indexSeqNext) →
        ∃ x ∈ (attestBegun k s).security.indexJournal.records, x.2.type = 0x20 ∧ x.2.seq = s.security.indexSeqNext ∧
          x.2.payload = bytesOfNat 4 (nextIndexOf s / 64) ++ zeros 12) := by
  have hreserves := openIndex_reserves (s := useDomain 1 (useDomain 0 (dropWorkOf k s)))
    (by rw [nextIndexOf_begun]; exact hopen)
  rw [nextIndexOf_begun] at hreserves
  exact hreserves

/-- A report in staging and its index spent leave the blocks and the fault wires. -/
theorem spendIndex_stagingPut_keeps (x : Nat) (b : Bytes) (u : State) :
    (spendIndex (stagingPut x b u)).security.retention.indexBlock = u.security.retention.indexBlock ∧
    (spendIndex (stagingPut x b u)).security.indexJournal = u.security.indexJournal ∧
    (spendIndex (stagingPut x b u)).patrol = u.patrol := ⟨rfl, rfl, rfl⟩

theorem spendIndex_writeAttest_keeps (c : Cmd) (q : Nat) (u : State) :
    (spendIndex (writeAttest c q u)).security.retention.indexBlock = u.security.retention.indexBlock ∧
    (spendIndex (writeAttest c q u)).security.indexJournal = u.security.indexJournal ∧
    (spendIndex (writeAttest c q u)).patrol = u.patrol := by
  rw [writeAttest_eq]
  exact spendIndex_stagingPut_keeps _ _ u

/-- The report of a signature that failed. -/
def signatureReport (s : State) : Report :=
  { source := securityFault 1, unit := 0, cls := .uc, level := 4, detail := 0, at_ := now s, kind := .detection,
    injected := false }

/-- An index whose signature failed is spent, and reported. -/
def indexDiscarded (s : State) : State := report (securityFault 1) 0 4 .uc 0 (spendIndex s)

/-- The second try of an attestation, after an index whose signature failed (R547). -/
def attestAgain (c : Cmd) (s : State) : State :=
  if indicesLeft s = 0 then conclude c stVerifyFailed 512 [] (evaluateAgain (securityFault 1) 0 4 true s)
  else if Config.hssGood (openIndex s).security.nextIndex
      (attestBody (openIndex s) (fld c.params 0 256) (openIndex s).security.nextIndex) then
    conclude c stDone 0 [] (spendIndex (writeAttest c (openIndex s).security.nextIndex
      (evaluateAgain (securityFault 1) 0 4 false (openIndex s))))
  else conclude c stVerifyFailed 512 [] (spendIndex (evaluateAgain (securityFault 1) 0 4 true (openIndex s)))

/-- The work of ATTEST. -/
def attestWork (k : CmdKey) (c : Cmd) (s : State) : State :=
  if nvInhibited s then pauseWork k s
  else if Config.hssGood (attestBegun k s).security.nextIndex
      (attestBody (attestBegun k s) (fld c.params 0 256) (attestBegun k s).security.nextIndex) then
    conclude c stDone 0 [] (spendIndex (writeAttest c (attestBegun k s).security.nextIndex (attestBegun k s)))
  else attestAgain c (indexDiscarded (attestBegun k s))

theorem exec_attest_work (k : CmdKey) (s : State) : exec (.attest k) s = runCommand k 0x1003 (attestWork k) s := exec_attest k s

theorem attestWork_made (hclear : nvInhibited s = false)
    (hgood : Config.hssGood (nextIndexOf s) (attestBody s (fld c.params 0 256) (nextIndexOf s)) = true) :
    attestWork k c s = conclude c stDone 0 [] (spendIndex (writeAttest c (nextIndexOf s) (attestBegun k s))) := by
  rw [attestWork, if_neg (by simp [hclear]), (attestBegun_index k s).1, (attestKept_begun k s).body, if_pos hgood]

theorem attestWork_again (hclear : nvInhibited s = false)
    (hbad : Config.hssGood (nextIndexOf s) (attestBody s (fld c.params 0 256) (nextIndexOf s)) = false) :
    attestWork k c s = attestAgain c (indexDiscarded (attestBegun k s)) := by
  rw [attestWork, if_neg (by simp [hclear]), (attestBegun_index k s).1, (attestKept_begun k s).body, if_neg (by simp [hbad])]

theorem attestIsMade (h : Ready k 0x1003 s c) (hclear : nvInhibited s = false) (hwf : cellsWf s.memory.staging = true)
    (hgood : Config.hssGood (nextIndexOf s) (attestBody s (fld c.params 0 256) (nextIndexOf s)) = true) :
    Completes (.attest k) s fun t =>
      (Concluded c stDone 0 [] s t ∧ t.security.nextIndex = nextIndexOf s + 1 ∧ t.security.openBlock = some (nextIndexOf s / 64) ∧
        cellsGet t.memory.staging (fld c.params 256 32) 7896 = attestReport c (nextIndexOf s) s ∧
        ∀ a, a < fld c.params 256 32 ∨ fld c.params 256 32 + 7896 ≤ a → cellAt t.memory.staging a = cellAt s.memory.staging a) ∧
      (s.security.openBlock ≠ some (nextIndexOf s / 64) → t.security.retention.indexBlock = nextIndexOf s / 64 + 1 ∧
        ((∀ x ∈ s.security.indexJournal.records, x.2.seq < s.security.indexSeqNext) →
          ∃ x ∈ t.security.indexJournal.records, x.2.type = 0x20 ∧ x.2.seq = s.security.indexSeqNext ∧
            x.2.payload = bytesOfNat 4 (nextIndexOf s / 64) ++ zeros 12)) ∧
      ChangesOnly [.flight, .security, .power, .memory] s t := by
  obtain ⟨hindex, hopen⟩ := attestBegun_index k s
  have hkept := attestKept_begun k s
  obtain ⟨hnext, hblock, hcopied, hothers, hframe⟩ := attested_of_kept (c := c) hkept hwf hindex hopen
  refine completes_concluded (l := [.security, .power, .memory]) (m := [.flight, .security, .power, .memory])
    (exec_attest_work k s) h (attestWork_made hclear hgood)
    (((changesOnly_attestBegun k s).mono (by simp)).step (hframe.mono (by simp))) (by simp) (by simp) fun t hc hall hrest => ?_
  have hsecurity := hrest .security (by simp)
  have hmemory := hrest .memory (by simp)
  refine ⟨⟨hc, ?_, ?_, ?_, ?_⟩, fun hnew => ?_, hall⟩
  · rw [hsecurity, hnext]
  · rw [hsecurity, hblock]
  · rw [hmemory, hcopied]
  · rw [hmemory]
    exact hothers
  · obtain ⟨hreserved, hjournal, -⟩ := spendIndex_writeAttest_keeps c (nextIndexOf s) (attestBegun k s)
    rw [hsecurity, hreserved, hjournal]
    exact attestBegun_reserves hnew

theorem indexDiscarded_security (s : State) : (indexDiscarded s).security.nextIndex = s.security.nextIndex + 1 ∧
    (indexDiscarded s).security.openBlock = s.security.openBlock := ⟨rfl, rfl⟩

theorem nextIndexOf_discarded {q : Nat} (hindex : s.security.nextIndex = q) (hopen : s.security.openBlock = some (q / 64))
    (hroom : q % 64 ≠ 63) : nextIndexOf (indexDiscarded s) = q + 1 := by
  obtain ⟨hspent, hstill⟩ := indexDiscarded_security s
  rw [nextIndexOf, hstill, hopen, hspent, hindex]
  dsimp only
  rw [if_pos (by omega)]

theorem indicesLeft_ne_zero (hleft : nextIndexOf s < 1048576) : indicesLeft s ≠ 0 := by
  rw [indicesLeft]
  omega

theorem attestIsRepeated (h : Ready k 0x1003 s c) (hclear : nvInhibited s = false) (hwf : cellsWf s.memory.staging = true)
    (hbad : Config.hssGood (nextIndexOf s) (attestBody s (fld c.params 0 256) (nextIndexOf s)) = false)
    (hroom : nextIndexOf s % 64 ≠ 63) (hleft : nextIndexOf s + 1 < 1048576)
    (hgood : Config.hssGood (nextIndexOf s + 1) (attestBody s (fld c.params 0 256) (nextIndexOf s + 1)) = true) :
    Completes (.attest k) s fun t =>
      (Concluded c stDone 0 [] s t ∧ t.security.nextIndex = nextIndexOf s + 1 + 1 ∧
        t.security.openBlock = some ((nextIndexOf s + 1) / 64) ∧
        cellsGet t.memory.staging (fld c.params 256 32) 7896 = attestReport c (nextIndexOf s + 1) s ∧
        ∀ a, a < fld c.params 256 32 ∨ fld c.params 256 32 + 7896 ≤ a → cellAt t.memory.staging a = cellAt s.memory.staging a) ∧
      (∃ r ∈ t.patrol.wires, r.source = securityFault 1 ∧ r.cls = .uc) ∧
      ChangesOnly [.flight, .security, .power, .memory, .patrol] s t := by
  obtain ⟨hindex, hopen⟩ := attestBegun_index k s
  have hbegun := attestKept_begun k s
  have hblock : (nextIndexOf s + 1) / 64 = nextIndexOf s / 64 := by omega
  have hnextOf : nextIndexOf (indexDiscarded (attestBegun k s)) = nextIndexOf s + 1 :=
    nextIndexOf_discarded hindex hopen hroom
  have hleft' : indicesLeft (indexDiscarded (attestBegun k s)) ≠ 0 := indicesLeft_ne_zero (by rw [hnextOf]; exact hleft)
  obtain ⟨hindex', hopen'⟩ := openIndex_index (indexDiscarded (attestBegun k s))
  rw [hnextOf] at hindex' hopen'
  have hspend : AttestKept (attestBegun k s) (spendIndex (attestBegun k s)) := by
    refine attestKept_modSecurity (fun _ => ?_) _
    exact ⟨rfl, rfl, rfl, rfl, rfl⟩
  have hagain : AttestKept s (openIndex (indexDiscarded (attestBegun k s))) :=
    ((hbegun.trans hspend).trans (attestKept_report _ _ _ _ _ _)).trans (attestKept_openIndex _)
  have hgood' : Config.hssGood (nextIndexOf s + 1)
      (attestBody (openIndex (indexDiscarded (attestBegun k s))) (fld c.params 0 256) (nextIndexOf s + 1)) = true := by
    rw [hagain.body, hgood]
  generalize hv : evaluateAgain (securityFault 1) 0 4 false (openIndex (indexDiscarded (attestBegun k s))) = v
  have heval : ChangesOnly [.patrol] (openIndex (indexDiscarded (attestBegun k s))) v := hv ▸ changesOnly_evaluateAgain _ _ _ _ _
  have hsame : v.security = (openIndex (indexDiscarded (attestBegun k s))).security := heval .security (by simp)
  have hlatch : v.patrol.latch = (openIndex (indexDiscarded (attestBegun k s))).patrol.latch := by
    rw [← hv, evaluateAgain]
    split_ifs <;> rfl
  have hdev : v.dev = (openIndex (indexDiscarded (attestBegun k s))).dev := by
    rw [← hv, evaluateAgain]
    split_ifs <;> rfl
  have hkept : AttestKept s v := hagain.trans ⟨heval.mono (by simp), hdev, by rw [hsame], by rw [hsame], by rw [hsame],
    by rw [hsame], by rw [hsame], hlatch⟩
  have hreported : ∃ r ∈ v.patrol.wires, r.source = securityFault 1 ∧ r.cls = .uc := by
    have hdiscarded : (openIndex (indexDiscarded (attestBegun k s))).patrol = (indexDiscarded (attestBegun k s)).patrol :=
      (changesOnly_openIndex _) .patrol (by simp)
    obtain ⟨w, j, hpatrol⟩ := (onlyReports_evaluateAgain (securityFault 1) 0 4 false
      (openIndex (indexDiscarded (attestBegun k s)))).patrol
    have hmem : signatureReport (attestBegun k s) ∈ v.patrol.wires := by
      rw [← hv, evaluateAgain]
      simp only [Bool.false_eq_true, if_false]
      split_ifs
      · rw [hdiscarded]
        exact List.mem_append_right _ (List.mem_singleton_self _)
      · show _ ∈ (openIndex (indexDiscarded (attestBegun k s))).patrol.wires ++ _
        rw [hdiscarded]
        exact List.mem_append_left _ (List.mem_append_right _ (List.mem_singleton_self _))
    exact ⟨_, hmem, rfl, rfl⟩
  obtain ⟨hnext, hblock', hcopied, hothers, hframe⟩ := attested_of_kept (c := c) (q := nextIndexOf s + 1) hkept hwf
    (by rw [hsame, hindex']) (by rw [hsame, hopen'])
  have hall : ChangesOnly [.security, .power, .memory, .patrol] s (spendIndex (writeAttest c (nextIndexOf s + 1) v)) :=
    (hkept.frame.mono (by simp)).step (hframe.mono (by simp))
  have hwork : attestWork k c s = conclude c stDone 0 [] (spendIndex (writeAttest c (nextIndexOf s + 1) v)) := by
    rw [attestWork_again hclear hbad, attestAgain, if_neg hleft', hindex', if_pos hgood', hv]
  refine completes_concluded (m := [.flight, .security, .power, .memory, .patrol]) (exec_attest_work k s) h hwork hall
    (by simp) (by simp) fun t hc hall hrest => ?_
  have hsecurity := hrest .security (by simp)
  have hmemory := hrest .memory (by simp)
  refine ⟨⟨hc, ?_, ?_, ?_, ?_⟩, ?_, hall⟩
  · rw [hsecurity, hnext]
  · rw [hsecurity, hblock']
  · rw [hmemory, hcopied]
  · rw [hmemory]
    exact hothers
  · have hpatrol : t.patrol = (spendIndex (writeAttest c (nextIndexOf s + 1) v)).patrol := hrest .patrol (by simp)
    obtain ⟨-, -, hkeeps⟩ := spendIndex_writeAttest_keeps c (nextIndexOf s + 1) v
    rw [hpatrol, hkeeps]
    exact hreported

end

/-- Settles O57: each command's effect on fuses, indices and journals, and the ring in which the writer leaves a record. -/
theorem keysAttestationAndJournals : Obligations.KeysAttestationAndJournals := by
  unfold Obligations.KeysAttestationAndJournals
  exact ⟨fun k c s h => keyIsRevoked h, fun k c s h => ⟨fun hp => productionIsReached h hp,
      fun hr hbad => returnIsRefused h hr hbad, fun hr hgood => returnIsReached h hr hgood⟩,
    fun full s ha => jtagIsJudged full ha,
    fun k c s h hclear _ hwf => ⟨fun hgood => attestIsMade h hclear hwf hgood,
      fun hbad hroom hleft hgood => attestIsRepeated h hclear hwf hbad hroom hleft hgood⟩,
    fun k c s h hwf => journalIsRead h hwf,
    fun r rest s ha hbuffer => ⟨fun hset => journalRecordIsHeld hbuffer hset,
      fun hclear => journalRecordIsWritten ha hbuffer hclear⟩⟩

end Sys2Proof.Machine
end

section
/-! Updates and SAVE_CONFIG (O56; R517, R527, R529, R540 to R544). -/

namespace Sys2Proof.Machine

/-! ## What a journal is read for -/

section
variable {x : JournalRecord} {r : FlashRing} {p : JournalRecord → Bool}

/-- The step of `latestRecord`. -/
def laterOf (p : JournalRecord → Bool) (b : Option JournalRecord) (x : Nat × JournalRecord) : Option JournalRecord :=
  if p x.2 then match b with
    | some y => if y.seq ≤ x.2.seq then some x.2 else b
    | none => some x.2
  else b

theorem latestRecord_eq (rs : List (Nat × JournalRecord)) (p : JournalRecord → Bool) :
    latestRecord rs p = rs.foldl (laterOf p) none := rfl

/-- A record that no other exceeds stays found, and is found where it stands. -/
theorem foldl_laterOf_newest (hp : p x = true) : ∀ (l : List (Nat × JournalRecord)) (b : Option JournalRecord),
    (∀ y ∈ l, y.2 = x ∨ y.2.seq < x.seq) → (∀ z, b = some z → z = x ∨ z.seq < x.seq) → b = some x ∨ (∃ n, (n, x) ∈ l) →
    l.foldl (laterOf p) b = some x
  | [], b, _, _, hfound => by
    rcases hfound with hb | ⟨n, hn⟩
    · exact hb
    · exact absurd hn List.not_mem_nil
  | y :: l, b, hl, hb, hfound => by
    rw [List.foldl_cons]
    have hy := hl y List.mem_cons_self
    refine foldl_laterOf_newest hp l _ (fun z hz => hl z (List.mem_cons_of_mem _ hz)) (fun z hz => ?_) ?_
    · unfold laterOf at hz
      split_ifs at hz
      · cases b with
        | none => exact Option.some.inj hz ▸ hy
        | some w =>
          dsimp only at hz
          split_ifs at hz
          · exact Option.some.inj hz ▸ hy
          · exact hb z hz
      · exact hb z hz
    · by_cases hyx : y.2 = x
      · left
        unfold laterOf
        rw [hyx, if_pos hp]
        cases b with
        | none => rfl
        | some w =>
          rcases hb w rfl with rfl | hlt
          · exact if_pos le_rfl
          · exact if_pos hlt.le
      · rcases hfound with rfl | ⟨n, hn⟩
        · left
          have hlt : y.2.seq < x.seq := hy.resolve_left hyx
          unfold laterOf
          dsimp only
          rw [if_neg (Nat.not_le.mpr hlt), ite_self]
        · right
          rcases List.mem_cons.mp hn with heq | htail
          · exact absurd (congrArg Prod.snd heq).symm hyx
          · exact ⟨n, htail⟩

/-- The newest record of a ring is the latest of every test that it passes. -/
theorem NewestIn.latestRecord (h : NewestIn x r) (hp : p x = true) : latestRecord r.records p = some x :=
  foldl_laterOf_newest hp r.records none h.newest (by simp) (.inr h.stands)

/-- A record that a test does not pass changes nothing of what the test finds. -/
theorem latestRecord_append_of_not (rs : List (Nat × JournalRecord)) {y : Nat × JournalRecord} (hp : p y.2 = false) :
    latestRecord (rs ++ [y]) p = latestRecord rs p := by
  rw [latestRecord_eq, List.foldl_append, ← latestRecord_eq]
  simp only [List.foldl_cons, List.foldl_nil, laterOf, hp, Bool.false_eq_true, if_false]

/-- The configuration journal's record is written where it fits. -/
theorem configJournal_appendRecord (type : Nat) (payload : Bytes) (s : State)
    (hfit : s.security.configJournal.used + recordSpan ⟨s.security.configSeqNext, type, payload⟩ ≤ 65536) :
    (appendRecord 1 type payload s).security.configJournal.records =
      s.security.configJournal.records ++ [(s.security.configJournal.sector, ⟨s.security.configSeqNext, type, payload⟩)] := by
  have hplace : placeRecord ⟨s.security.configSeqNext, type, payload⟩ s.security.configJournal =
      { s.security.configJournal with
        records := s.security.configJournal.records ++
          [(s.security.configJournal.sector, ⟨s.security.configSeqNext, type, payload⟩)]
        used := s.security.configJournal.used + recordSpan ⟨s.security.configSeqNext, type, payload⟩ } :=
    if_neg (Nat.not_lt.mpr hfit)
  show (if (placeRecord ⟨s.security.configSeqNext, type, payload⟩ s.security.configJournal).sector =
      s.security.configJournal.sector then placeRecord ⟨s.security.configSeqNext, type, payload⟩ s.security.configJournal
    else eraseAhead 1 (journalSectors 1) (placeRecord ⟨s.security.configSeqNext, type, payload⟩ s.security.configJournal)).records = _
  rw [hplace, if_pos rfl]

/-- A record written after all that stand in the configuration journal is its newest. -/
theorem newestIn_appendRecord (type : Nat) (payload : Bytes) {s : State}
    (h : ∀ y ∈ s.security.configJournal.records, y.2.seq < s.security.configSeqNext) :
    NewestIn ⟨s.security.configSeqNext, type, payload⟩ (appendRecord 1 type payload s).security.configJournal :=
  newestIn_writeFlashRecord (j := 1) (s := advanceSeq 1 s) (by omega) h

/-- What a written record leaves of the security state. -/
theorem appendRecord_config_keeps (type : Nat) (payload : Bytes) (s : State) :
    (appendRecord 1 type payload s).security.slots = s.security.slots ∧
    (appendRecord 1 type payload s).security.work = s.security.work ∧
    (appendRecord 1 type payload s).security.keys = s.security.keys ∧
    (appendRecord 1 type payload s).security.configSeq = s.security.configSeq ∧
    (appendRecord 1 type payload s).security.autoRun = s.security.autoRun ∧
    (appendRecord 1 type payload s).security.retention = s.security.retention ∧
    (appendRecord 1 type payload s).security.committedNow = s.security.committedNow ∧
    (appendRecord 1 type payload s).security.configSeqNext = (s.security.configSeqNext + 1) % 2 ^ 32 :=
  ⟨rfl, rfl, rfl, rfl, rfl, rfl, rfl, rfl⟩

end

/-! ## Slots and work -/

section
variable {k : CmdKey} {c : Cmd} {s t : State} {kind : Nat}

theorem targetSlot_le (s : State) (kind : Nat) : targetSlot s kind ≤ 1 := by
  unfold targetSlot
  cases committedSlot s kind with
  | none => exact Nat.zero_le _
  | some a => exact Nat.sub_le 1 a

theorem flashSlot_congr (h : t.security.slots = s.security.slots) (a b : Nat) : flashSlot t a b = flashSlot s a b := by
  rw [flashSlot, h, flashSlot]

theorem flashSlot_settle (o s : State) (a b : Nat) : flashSlot (settle o s) a b = flashSlot s a b :=
  flashSlot_congr (congrArg Security.slots (settle_security o s)) a b

theorem flashSlot_conclude (c : Cmd) (st d : Nat) (r : Bytes) (s : State) (a b : Nat) :
    flashSlot (conclude c st d r s) a b = flashSlot s a b :=
  flashSlot_congr (congrArg Security.slots (changesOnly_conclude c st d r s .security (by simp))) a b

theorem flashSlot_modFlash {a : Nat} (hkind : kind ≤ 1) (ha : a ≤ 1) (f : FlashSlot → FlashSlot) (s : State) :
    flashSlot (modFlash kind a f s) kind a = f (flashSlot s kind a) :=
  vget_vmod_same _ _ (by omega)

theorem flashSlot_modFlash_ne {a x y : Nat} (ha : a ≤ 1) (hy : y ≤ 1) (hne : (x, y) ≠ (kind, a))
    (f : FlashSlot → FlashSlot) (s : State) : flashSlot (modFlash kind a f s) x y = flashSlot s x y := by
  refine vget_vmod_ne _ _ fun heq => hne ?_
  rw [show x = kind by omega, show y = a by omega]

theorem changesOnly_modFlash (kind a : Nat) (f : FlashSlot → FlashSlot) (s : State) :
    ChangesOnly [.security] s (modFlash kind a f s) := changesOnly_modSecurity _ s

theorem changesOnly_modWork (k : CmdKey) (f : FlashWork → FlashWork) (s : State) : ChangesOnly [.security] s (modWork k f s) :=
  changesOnly_modSecurity _ s

/-- A command that is not paused pauses. -/
theorem pauseWork_spec (h : ∀ w ∈ s.security.work, w.key ≠ k) : (pauseWork k s).security.work = s.security.work ++
    [{ key := k, stage := 0, pausedAt := some (now s), retried := false, image := [] }] ∧
    ChangesOnly [.security] s (pauseWork k s) := by
  have hnone : s.security.work.any (fun w => w.key == k) = false := by
    rw [List.any_eq_false]
    exact fun w hw => by simpa using h w hw
  rw [pauseWork, hnone, if_neg Bool.false_ne_true]
  exact ⟨rfl, changesOnly_modSecurity _ s⟩

/-- A command's work is put in front of the state that its step leaves. -/
theorem completes_of_work {i : Instr} {op : Nat} {work : Cmd → State → State} {u : State} {Q : State → Prop}
    (hi : exec i s = runCommand k op work s) (h : Ready k op s c) (hwork : work c s = u) (hq : Q (settle s u)) :
    Completes i s Q :=
  completes_of_command hi h (by rw [hwork]; exact hq)

theorem pauseWork_completes {i : Instr} {op : Nat} {work : Cmd → State → State} (hi : exec i s = runCommand k op work s)
    (h : Ready k op s c) (hwork : work c s = pauseWork k s) (hfree : ∀ w ∈ s.security.work, w.key ≠ k) :
    Completes i s fun t => t.security.work = s.security.work ++
      [{ key := k, stage := 0, pausedAt := some (now s), retried := false, image := [] }] ∧ ChangesOnly [.security] s t := by
  obtain ⟨hpaused, hframe⟩ := pauseWork_spec hfree
  refine completes_of_work hi h hwork ?_
  rw [settle_security]
  exact ⟨hpaused, hframe.settle s⟩

theorem imageFault_congr (h : t.security.keys = s.security.keys) (kind : Nat) (img : Bytes) (n : Nat) :
    imageFault t kind img n = imageFault s kind img n := by
  have hsig : ∀ a b, signatureGood t a b = signatureGood s a b := fun a b => by simp only [signatureGood, h]
  simp only [imageFault, firmwareFault, verifyImage, stage2, hsig]

/-! ## BEGIN_UPDATE (R541) -/

/-- No other step of a command's work is under way. -/
theorem work_not_busy (hfree : ∀ w ∈ s.security.work, w.key ≠ k) :
    s.security.work.any (fun w => w.key == k && w.stage != 0) = false := by
  rw [List.any_eq_false]
  intro w hw hbusy
  rw [Bool.and_eq_true] at hbusy
  exact hfree w hw (by simpa using hbusy.1)

theorem updateIsRefused (h : Ready k 0x1001 s c) (hfree : ∀ w ∈ s.security.work, w.key ≠ k) {f : Nat × Nat}
    (hfault : imageFault s (fld c.params 0 8) (cellsGet s.memory.staging (fld c.params 32 32) (fld c.params 64 32))
      (fld c.params 64 32) = some f) : Completes (.beginUpdate k) s fun t =>
      Concluded c stVerifyFailed (f.1 * 256 + f.2 % 256) [] s t ∧ t.security.slots = s.security.slots ∧
      t.security.configJournal.records = s.security.configJournal.records ∧ ChangesOnly [.flight, .security] s t := by
  refine completes_concluded (st := stVerifyFailed) (d := f.1 * 256 + f.2 % 256) (r := []) (u := dropWorkOf c.key s)
    (m := [.flight, .security]) (exec_beginUpdate k s) h ?_ (changesOnly_dropWorkOf _ s) (by simp) (by simp)
    fun t hc hframe hrest => ?_
  · dsimp only
    rw [work_not_busy hfree, if_neg Bool.false_ne_true, hfault]
    rfl
  · rw [hrest .security (by simp)]
    exact ⟨hc, rfl, rfl, hframe⟩

theorem updateIsPaused (h : Ready k 0x1001 s c) (hfree : ∀ w ∈ s.security.work, w.key ≠ k)
    (hgood : imageFault s (fld c.params 0 8) (cellsGet s.memory.staging (fld c.params 32 32) (fld c.params 64 32))
      (fld c.params 64 32) = none) (hset : nvInhibited s = true) : Completes (.beginUpdate k) s fun t =>
      t.security.work = s.security.work ++
        [{ key := k, stage := 0, pausedAt := some (now s), retried := false, image := [] }] ∧ ChangesOnly [.security] s t := by
  refine pauseWork_completes (exec_beginUpdate k s) h ?_ hfree
  dsimp only
  rw [work_not_busy hfree, if_neg Bool.false_ne_true, hgood]
  dsimp only
  rw [if_pos hset]

/-- The payload of an INVALIDATE record. -/
def invalidation (kind a : Nat) : Bytes := [BitVec.ofNat 8 kind, BitVec.ofNat 8 a] ++ zeros 6

/-- The target's INVALIDATE record stands. -/
def slotInvalidated (k : CmdKey) (kind a : Nat) (s : State) : State :=
  appendRecord 1 0x13 (invalidation kind a) (dropWorkOf k (useDomain 0 s))

/-- The erase of the target begins. -/
def updateBegun (k : CmdKey) (kind a : Nat) (img : Bytes) (s : State) : State :=
  modSecurity (fun (x : Security) => { x with
      work := x.work ++ [{ key := k, stage := 3, pausedAt := none, retried := false, image := img }] })
    (modFlash kind a (fun _ => { state := .writing, image := [] }) (slotInvalidated k kind a s))

theorem changesOnly_updateBegun (k : CmdKey) (kind a : Nat) (img : Bytes) (s : State) :
    ChangesOnly [.security, .power] s (updateBegun k kind a img s) :=
  ((((changesOnly_useDomain 0 s).mono (by simp)).step ((changesOnly_dropWorkOf k _).mono (by simp))).step
    ((changesOnly_appendRecord 1 0x13 (invalidation kind a) _).mono (by simp))).step
    (((changesOnly_modFlash kind a _ _).step (changesOnly_modSecurity _ _)).mono (by simp))

theorem recordSpan_invalidation (q kind a : Nat) : recordSpan ⟨q, 0x13, invalidation kind a⟩ = 32 := by
  simp [recordSpan, invalidation, zeros]

theorem updateBegun_journal (k : CmdKey) (kind a : Nat) (img : Bytes) (hfit : s.security.configJournal.used + 32 ≤ 65536) :
    (updateBegun k kind a img s).security.configJournal.records = s.security.configJournal.records ++
      [(s.security.configJournal.sector, (⟨s.security.configSeqNext, 0x13, invalidation kind a⟩ : JournalRecord))] :=
  configJournal_appendRecord 0x13 (invalidation kind a) (dropWorkOf k (useDomain 0 s))
    (by rw [recordSpan_invalidation]; exact hfit)

theorem updateBegun_slots (k : CmdKey) (kind a : Nat) (img : Bytes) (s : State) : (updateBegun k kind a img s).security.slots =
    (modFlash kind a (fun _ => { state := .writing, image := [] }) s).security.slots := rfl

theorem committedSlot_congr (h : latestRecord t.security.configJournal.records (isCommit kind) =
    latestRecord s.security.configJournal.records (isCommit kind)) : committedSlot t kind = committedSlot s kind := by
  rw [committedSlot, committedRecord, h, committedSlot, committedRecord]

theorem updateBegins (h : Ready k 0x1001 s c) (hfree : ∀ w ∈ s.security.work, w.key ≠ k) (hkind : fld c.params 0 8 ≤ 1)
    (hgood : imageFault s (fld c.params 0 8) (cellsGet s.memory.staging (fld c.params 32 32) (fld c.params 64 32))
      (fld c.params 64 32) = none) (hclear : nvInhibited s = false) (hfit : s.security.configJournal.used + 32 ≤ 65536) :
    Completes (.beginUpdate k) s fun t =>
      t.security.configJournal.records = s.security.configJournal.records ++
        [(s.security.configJournal.sector, (⟨s.security.configSeqNext, 0x13,
          [BitVec.ofNat 8 (fld c.params 0 8), BitVec.ofNat 8 (targetSlot s (fld c.params 0 8))] ++ zeros 6⟩ : JournalRecord))] ∧
      flashSlot t (fld c.params 0 8) (targetSlot s (fld c.params 0 8)) = { state := .writing, image := [] } ∧
      (∀ x y, x ≤ 1 → y ≤ 1 → (x, y) ≠ (fld c.params 0 8, targetSlot s (fld c.params 0 8)) →
        flashSlot t x y = flashSlot s x y) ∧
      committedSlot t (fld c.params 0 8) = committedSlot s (fld c.params 0 8) ∧
      { key := k, stage := 3, pausedAt := none, retried := false,
        image := cellsGet s.memory.staging (fld c.params 32 32) (fld c.params 64 32) } ∈ t.security.work ∧
      ChangesOnly [.security, .power] s t := by
  have ha := targetSlot_le s (fld c.params 0 8)
  have hframe := changesOnly_updateBegun k (fld c.params 0 8) (targetSlot s (fld c.params 0 8))
    (cellsGet s.memory.staging (fld c.params 32 32) (fld c.params 64 32)) s
  have hjournal := updateBegun_journal (s := s) k (fld c.params 0 8) (targetSlot s (fld c.params 0 8))
    (cellsGet s.memory.staging (fld c.params 32 32) (fld c.params 64 32)) hfit
  have hslots := updateBegun_slots k (fld c.params 0 8) (targetSlot s (fld c.params 0 8))
    (cellsGet s.memory.staging (fld c.params 32 32) (fld c.params 64 32)) s
  refine completes_of_work (u := updateBegun k (fld c.params 0 8) (targetSlot s (fld c.params 0 8))
    (cellsGet s.memory.staging (fld c.params 32 32) (fld c.params 64 32)) s) (exec_beginUpdate k s) h ?_ ?_
  · dsimp only
    rw [work_not_busy hfree, if_neg Bool.false_ne_true, hgood]
    dsimp only
    rw [hclear, if_neg Bool.false_ne_true]
    rfl
  · refine ⟨?_, ?_, fun x y _ hy hne => ?_, committedSlot_congr ?_, ?_, hframe.settle s⟩
    · rw [settle_security, hjournal]
      rfl
    · exact (flashSlot_congr ((congrArg Security.slots (settle_security s _)).trans hslots) _ _).trans
        (flashSlot_modFlash hkind ha _ s)
    · exact (flashSlot_congr ((congrArg Security.slots (settle_security s _)).trans hslots) _ _).trans
        (flashSlot_modFlash_ne ha hy hne _ s)
    · rw [settle_security, hjournal]
      exact latestRecord_append_of_not _ rfl
    · rw [settle_security]
      exact List.mem_append_right _ (List.mem_singleton_self _)

end

/-! ## The steps of an update (R541, Table 19.11) -/

section
variable {w : FlashWork} {c : Cmd} {s u : State}

/-- The step that ends as it fails or does not. -/
def flashStep (failed : Bool) (c : Cmd) (w : FlashWork) (s : State) : State :=
  if failed then
    if w.retried then updateFailed c 6 0 (setFlash (fld c.params 0 8) (targetSlot s (fld c.params 0 8)) .invalid
      (evaluateAgain (securityFault 0) 0 4 true (useDomain 0 s)))
    else modWork c.key (fun x => { x with retried := true }) (report (securityFault 0) 0 4 .uc 0 (useDomain 0 s))
  else advanceUpdate c w (if w.retried then evaluateAgain (securityFault 0) 0 4 false (useDomain 0 s) else useDomain 0 s)

theorem exec_flashStep (failed : Bool) (ha : awake s = true) (hwork : s.security.work = [w]) (hp : w.pausedAt = none)
    (hstage : w.stage ≠ 0) (hc : flightOf w.key s = some c) :
    exec (.flashOperationComplete failed) s = answer s (flashStep failed c w s) := by
  refine (exec_flashOperationComplete failed s).trans ?_
  have hfind : s.security.work.find? (fun v => v.stage != 0 && v.pausedAt.isNone) = some w := by
    rw [hwork, List.find?_cons_of_pos (by simp [hp, hstage])]
  unfold execFlashOperationComplete awakeAnswer
  rw [if_pos ha]
  dsimp only
  rw [hfind]
  dsimp only
  rw [hc]
  rfl

theorem work_modWork (hwork : u.security.work = [w]) (hkey : c.key = w.key) (f : FlashWork → FlashWork) :
    (modWork c.key f u).security.work = [f w] := by
  show u.security.work.map (fun v => if v.key == c.key then f v else v) = [f w]
  rw [hwork, hkey]
  simp

theorem work_dropWorkOf (hwork : u.security.work = [w]) (hkey : c.key = w.key) : (dropWorkOf c.key u).security.work = [] := by
  show u.security.work.filter (fun v => !(v.key == c.key)) = []
  rw [hwork, hkey]
  simp

theorem eraseEnds (ha : awake s = true) (hwork : s.security.work = [w]) (hp : w.pausedAt = none)
    (hc : flightOf w.key s = some c) (hfirst : w.retried = false) (hstage : w.stage = 3) :
    Completes (.flashOperationComplete false) s fun t =>
      t.security.work = [{ w with stage := 4 }] ∧ ChangesOnly [.security, .power] s t := by
  have hstep : flashStep false c w s = modWork c.key (fun x => { x with stage := 4, retried := false }) (useDomain 0 s) := by
    rw [flashStep, if_neg Bool.false_ne_true, hfirst, if_neg Bool.false_ne_true]
    exact if_pos hstage
  refine completes_of_answer ((exec_flashStep false ha hwork hp (by omega) hc).trans (congrArg (answer s) hstep)) ?_
  refine ⟨?_, ChangesOnly.settle s (((changesOnly_useDomain 0 s).mono (by simp)).step
    ((changesOnly_modWork _ _ _).mono (by simp)))⟩
  rw [settle_security, work_modWork (u := useDomain 0 s) hwork (flightOf_key hc)]
  rw [← hfirst]

theorem programEnds (ha : awake s = true) (hwork : s.security.work = [w]) (hp : w.pausedAt = none)
    (hc : flightOf w.key s = some c) (hkind : fld c.params 0 8 ≤ 1) (hfirst : w.retried = false) (hstage : w.stage = 4) :
    Completes (.flashOperationComplete false) s fun t => t.security.work = [{ w with stage := 5 }] ∧
      (flashSlot t (fld c.params 0 8) (targetSlot s (fld c.params 0 8))).image = w.image ∧
      ChangesOnly [.security, .power] s t := by
  have hstep : flashStep false c w s = modWork c.key (fun x => { x with stage := 5, retried := false })
      (modFlash (fld c.params 0 8) (targetSlot s (fld c.params 0 8)) (fun (f : FlashSlot) => { f with image := w.image })
        (useDomain 0 s)) := by
    rw [flashStep, if_neg Bool.false_ne_true, hfirst, if_neg Bool.false_ne_true, advanceUpdate, if_neg (by omega), if_pos hstage]
    rfl
  refine completes_of_answer ((exec_flashStep false ha hwork hp (by omega) hc).trans (congrArg (answer s) hstep)) ?_
  refine ⟨?_, ?_, ChangesOnly.settle s (((changesOnly_useDomain 0 s).mono (by simp)).step
    (((changesOnly_modFlash _ _ _ _).step (changesOnly_modWork _ _ _)).mono (by simp)))⟩
  · rw [settle_security]
    refine (work_modWork (w := w) hwork (flightOf_key hc) _).trans ?_
    rw [← hfirst]
  · rw [flashSlot_settle]
    exact congrArg FlashSlot.image (flashSlot_modFlash hkind (targetSlot_le s (fld c.params 0 8))
      (fun f => { f with image := w.image }) (useDomain 0 s))

theorem readBackEnds (ha : awake s = true) (hwork : s.security.work = [w]) (hp : w.pausedAt = none)
    (hc : flightOf w.key s = some c) (hkind : fld c.params 0 8 ≤ 1) (hfirst : w.retried = false) (hstage : w.stage = 5)
    (hgood : imageFault s (fld c.params 0 8) w.image w.image.length = none) :
    Completes (.flashOperationComplete false) s fun t => t.security.work = [] ∧
      (flashSlot t (fld c.params 0 8) (targetSlot s (fld c.params 0 8))).state = .verified ∧
      Concluded c stDone 0 [] s t ∧ ChangesOnly [.flight, .security, .power] s t := by
  have hgood' : imageFault (useDomain 0 s) (fld c.params 0 8) w.image w.image.length = none :=
    (imageFault_congr rfl _ _ _).trans hgood
  have hstep : flashStep false c w s = conclude c stDone 0 [] (dropWorkOf c.key
      (setFlash (fld c.params 0 8) (targetSlot s (fld c.params 0 8)) .verified (useDomain 0 s))) := by
    rw [flashStep, if_neg Bool.false_ne_true, hfirst, if_neg Bool.false_ne_true, advanceUpdate, if_neg (by omega), if_neg (by omega),
      hgood']
    rfl
  have hframe : ChangesOnly [.security, .power] s (dropWorkOf c.key
      (setFlash (fld c.params 0 8) (targetSlot s (fld c.params 0 8)) .verified (useDomain 0 s))) :=
    ((changesOnly_useDomain 0 s).mono (by simp)).step
      (((changesOnly_setFlash _ _ _ _).step (changesOnly_dropWorkOf _ _)).mono (by simp))
  refine completes_of_answer ((exec_flashStep false ha hwork hp (by omega) hc).trans (congrArg (answer s) hstep)) ?_
  refine ⟨?_, ?_, concluded_conclude s (hframe .flight (by simp)), changesOnly_concluded hframe c _ _ _ (by simp)⟩
  · rw [settle_security]
    exact work_dropWorkOf (w := w) hwork (flightOf_key hc)
  · rw [flashSlot_settle, flashSlot_conclude]
    exact congrArg FlashSlot.state (flashSlot_modFlash hkind (targetSlot_le s (fld c.params 0 8))
      (fun f => { f with state := .verified }) (useDomain 0 s))

/-- The report of a failed program or erase. -/
def failureReport (s : State) : Report :=
  { source := securityFault 0, unit := 0, cls := .uc, level := 4, detail := 0, at_ := now s, kind := .detection,
    injected := false }

theorem failedStepIsRetried (ha : awake s = true) (hwork : s.security.work = [w]) (hp : w.pausedAt = none)
    (hstage : w.stage ≠ 0) (hc : flightOf w.key s = some c) (hfirst : w.retried = false) :
    Completes (.flashOperationComplete true) s fun t => t.security.work = [{ w with retried := true }] ∧
      (∃ r, t.patrol.wires = s.patrol.wires ++ [r] ∧ r.source = securityFault 0 ∧ r.cls = .uc ∧ r.level = 4) ∧
      ChangesOnly [.security, .power, .patrol] s t := by
  have hstep : flashStep true c w s = modWork c.key (fun x => { x with retried := true })
      (report (securityFault 0) 0 4 .uc 0 (useDomain 0 s)) := by
    rw [flashStep, if_pos rfl, hfirst, if_neg Bool.false_ne_true]
  refine completes_of_answer ((exec_flashStep true ha hwork hp hstage hc).trans (congrArg (answer s) hstep)) ?_
  refine ⟨?_, ⟨failureReport s, ?_, rfl, rfl, rfl⟩, ChangesOnly.settle s ((((changesOnly_useDomain 0 s).mono (by simp)).step
    ((changesOnly_report _ _ _ _ _ _).mono (by simp))).step ((changesOnly_modWork _ _ _).mono (by simp)))⟩
  · rw [settle_security]
    exact work_modWork (w := w) hwork (flightOf_key hc) _
  · rw [settle_patrol]
    rfl

theorem secondFailureEndsUpdate (ha : awake s = true) (hwork : s.security.work = [w]) (hp : w.pausedAt = none)
    (hstage : w.stage ≠ 0) (hc : flightOf w.key s = some c) (hkind : fld c.params 0 8 ≤ 1) (hagain : w.retried = true) :
    Completes (.flashOperationComplete true) s fun t => t.security.work = [] ∧
      (flashSlot t (fld c.params 0 8) (targetSlot s (fld c.params 0 8))).state = .invalid ∧
      Concluded c stVerifyFailed 0x600 [] s t ∧ ChangesOnly [.flight, .security, .power, .patrol] s t := by
  have hstep : flashStep true c w s = conclude c stVerifyFailed 0x600 [] (dropWorkOf c.key
      (setFlash (fld c.params 0 8) (targetSlot s (fld c.params 0 8)) .invalid
        (evaluateAgain (securityFault 0) 0 4 true (useDomain 0 s)))) := by
    rw [flashStep, if_pos rfl, hagain, if_pos rfl]
    rfl
  have heval := changesOnly_evaluateAgain (securityFault 0) 0 4 true (useDomain 0 s)
  have hsecurity : (evaluateAgain (securityFault 0) 0 4 true (useDomain 0 s)).security = s.security := heval .security (by simp)
  generalize evaluateAgain (securityFault 0) 0 4 true (useDomain 0 s) = v at hstep heval hsecurity
  have hframe : ChangesOnly [.security, .power, .patrol] s (dropWorkOf c.key
      (setFlash (fld c.params 0 8) (targetSlot s (fld c.params 0 8)) .invalid v)) :=
    (((changesOnly_useDomain 0 s).mono (by simp)).step (heval.mono (by simp))).step
      (((changesOnly_setFlash _ _ _ _).step (changesOnly_dropWorkOf _ _)).mono (by simp))
  refine completes_of_answer ((exec_flashStep true ha hwork hp hstage hc).trans (congrArg (answer s) hstep)) ?_
  refine ⟨?_, ?_, concluded_conclude s (hframe .flight (by simp)), changesOnly_concluded hframe c _ _ _ (by simp)⟩
  · rw [settle_security]
    refine work_dropWorkOf (w := w) ?_ (flightOf_key hc)
    show v.security.work = [w]
    rw [hsecurity, hwork]
  · rw [flashSlot_settle, flashSlot_conclude]
    exact congrArg FlashSlot.state (flashSlot_modFlash hkind (targetSlot_le s (fld c.params 0 8))
      (fun f => { f with state := .invalid }) v)

end

/-! ## COMMIT_UPDATE (R542) -/

section
variable {k : CmdKey} {c : Cmd} {s : State}

/-- The payload of a COMMIT record (Table 19.7). -/
def commitPayload (kind a : Nat) (img : Bytes) : Bytes :=
  pack 48 [(0, 8, kind), (8, 8, a), (64, 32, fld img 96 32), (96, 32, img.length), (128, 256, (Config.sha256 img).toNat)]

/-- A field of a number that is put together of fields. -/
theorem field_of_parts {m low v lo w : Nat} (high : Nat) (hlow : low < 2 ^ lo) (hv : v < 2 ^ w)
    (hm : m = low + 2 ^ lo * (v + 2 ^ w * high)) : m / 2 ^ lo % 2 ^ w = v := by
  rw [hm, Nat.add_mul_div_left _ _ (Nat.two_pow_pos lo), Nat.div_eq_of_lt hlow, Nat.zero_add, Nat.add_mul_mod_self_left,
    Nat.mod_eq_of_lt hv]

/-- The number whose fields a COMMIT record states. -/
def commitNumber (kind a e n h : Nat) : Nat := kind * 2 ^ 0 + a * 2 ^ 8 + e * 2 ^ 64 + n * 2 ^ 96 + h * 2 ^ 128

theorem pack_commit {kind a e n h : Nat} (hkind : kind < 2 ^ 8) (ha : a < 2 ^ 8) (hentry : e < 2 ^ 32) (hlength : n < 2 ^ 32)
    (hhash : h < 2 ^ 256) : pack 48 [(0, 8, kind), (8, 8, a), (64, 32, e), (96, 32, n), (128, 256, h)] =
      bytesOfNat 48 (commitNumber kind a e n h) := by
  rw [pack, List.foldl_cons, List.foldl_cons, List.foldl_cons, List.foldl_cons, List.foldl_cons, List.foldl_nil,
    Nat.mod_eq_of_lt hhash, Nat.mod_eq_of_lt hlength, Nat.mod_eq_of_lt hentry, Nat.mod_eq_of_lt ha, Nat.mod_eq_of_lt hkind,
    Nat.zero_add, commitNumber]

theorem commitNumber_nested (kind a e n h : Nat) :
    commitNumber kind a e n h = 0 + 2 ^ 0 * (kind + 2 ^ 8 * (a + 2 ^ 8 * (2 ^ 48 * (e + 2 ^ 32 * (n + 2 ^ 32 * h))))) ∧
    commitNumber kind a e n h = kind + 2 ^ 8 * (a + 2 ^ 8 * (2 ^ 48 * (e + 2 ^ 32 * (n + 2 ^ 32 * h)))) ∧
    commitNumber kind a e n h = (kind * 2 ^ 0 + a * 2 ^ 8 + e * 2 ^ 64) + 2 ^ 96 * (n + 2 ^ 32 * h) ∧
    commitNumber kind a e n h = (kind * 2 ^ 0 + a * 2 ^ 8 + e * 2 ^ 64 + n * 2 ^ 96) + 2 ^ 128 * (h + 2 ^ 256 * 0) := by
  have hsum : ∀ A B C D E : Nat, kind * 1 + a * A + e * (A * (B * C)) + n * (A * (B * C) * D) + h * (A * (B * C) * D * E) =
      kind + A * (a + B * (C * (e + D * (n + E * h)))) := fun A B C D E => by ring
  have hnested : commitNumber kind a e n h = kind + 2 ^ 8 * (a + 2 ^ 8 * (2 ^ 48 * (e + 2 ^ 32 * (n + 2 ^ 32 * h)))) := by
    rw [commitNumber, ← hsum, ← Nat.pow_add, ← Nat.pow_add, ← Nat.pow_add, ← Nat.pow_add, Nat.pow_zero]
  refine ⟨by rw [Nat.zero_add, Nat.pow_zero, Nat.one_mul, hnested], hnested, ?_, ?_⟩
  · rw [commitNumber, Nat.mul_add, ← Nat.mul_assoc, ← Nat.pow_add, Nat.mul_comm _ n, Nat.mul_comm _ h, Nat.add_assoc]
  · rw [commitNumber, Nat.mul_zero, Nat.add_zero, Nat.mul_comm _ h]

theorem fields_commitNumber {kind a e n h : Nat} (hkind : kind < 2 ^ 8) (ha : a < 2 ^ 8) (hentry : e < 2 ^ 32) (hlength : n < 2 ^ 32)
    (hhash : h < 2 ^ 256) : fld (bytesOfNat 48 (commitNumber kind a e n h)) 0 8 = kind ∧
      fld (bytesOfNat 48 (commitNumber kind a e n h)) 8 8 = a ∧ fld (bytesOfNat 48 (commitNumber kind a e n h)) 96 32 = n ∧
      fld (bytesOfNat 48 (commitNumber kind a e n h)) 128 256 = h := by
  obtain ⟨hfirst, hsecond, hthird, hlast⟩ := commitNumber_nested kind a e n h
  refine ⟨?_, ?_, ?_, ?_⟩ <;> rw [fld_bytesOfNat 48 _ _ _ (by omega)]
  · exact field_of_parts _ (by omega) hkind hfirst
  · exact field_of_parts _ hkind ha hsecond
  · exact field_of_parts _ (by omega) hlength hthird
  · exact field_of_parts _ (by omega) hhash hlast

theorem commitPayload_fields {kind a : Nat} {img : Bytes} (hkind : kind ≤ 1) (ha : a ≤ 1) (himg : img.length < 2 ^ 32) :
    fld (commitPayload kind a img) 0 8 = kind ∧ fld (commitPayload kind a img) 8 8 = a ∧
    fld (commitPayload kind a img) 96 32 = img.length ∧ fld (commitPayload kind a img) 128 256 = (Config.sha256 img).toNat := by
  have hhash : (Config.sha256 img).toNat < 2 ^ 256 := (Config.sha256 img).isLt
  have hentry : fld img 96 32 < 2 ^ 32 := fld_lt _ _ _
  have hkind' : kind < 2 ^ 8 := by omega
  have ha' : a < 2 ^ 8 := by omega
  rw [commitPayload, pack_commit hkind' ha' hentry himg hhash]
  exact fields_commitNumber hkind' ha' hentry himg hhash

/-- The target is committed by its record. -/
def slotCommitted (k : CmdKey) (kind a : Nat) (img : Bytes) (s : State) : State :=
  setFlash kind a .pending (modSecurity (fun (x : Security) => { x with
      committedNow := if kind = 0 then (true, x.committedNow.2) else (x.committedNow.1, true) })
    (appendRecord 1 0x12 (commitPayload kind a img) (dropWorkOf k (useDomain 0 s))))

theorem changesOnly_slotCommitted (k : CmdKey) (kind a : Nat) (img : Bytes) (s : State) :
    ChangesOnly [.security, .power] s (slotCommitted k kind a img s) :=
  ((((changesOnly_useDomain 0 s).mono (by simp)).step ((changesOnly_dropWorkOf k _).mono (by simp))).step
    ((changesOnly_appendRecord 1 0x12 (commitPayload kind a img) _).mono (by simp))).step
    (((changesOnly_modSecurity _ _).step (changesOnly_setFlash _ _ _ _)).mono (by simp))

/-- What the commit leaves is read from its journal and its slots. -/
theorem slotCommitted_parts (k : CmdKey) (kind a : Nat) (img : Bytes) (s : State) :
    (slotCommitted k kind a img s).security.configJournal =
      (appendRecord 1 0x12 (commitPayload kind a img) (dropWorkOf k (useDomain 0 s))).security.configJournal ∧
    (slotCommitted k kind a img s).security.slots = (setFlash kind a .pending s).security.slots ∧
    (slotCommitted k kind a img s).security.committedNow =
      if kind = 0 then (true, s.security.committedNow.2) else (s.security.committedNow.1, true) := ⟨rfl, rfl, rfl⟩

theorem commitIsPaused (h : Ready k 0x1002 s c) (hfree : ∀ w ∈ s.security.work, w.key ≠ k) (hset : nvInhibited s = true) :
    Completes (.commitUpdate k) s fun t => t.security.work = s.security.work ++
      [{ key := k, stage := 0, pausedAt := some (now s), retried := false, image := [] }] ∧ ChangesOnly [.security] s t :=
  pauseWork_completes (exec_commitUpdate k s) h (if_pos hset) hfree

theorem slotIsCommitted {kind a : Nat} {img : Bytes} (h : Ready k 0x1002 s c) (hk : fld c.params 0 8 = kind) (hkind : kind ≤ 1)
    (htarget : targetSlot s kind = a) (hslot : (flashSlot s kind a).image = img) (hclear : nvInhibited s = false)
    (hseq : ∀ x ∈ s.security.configJournal.records, x.2.seq < s.security.configSeqNext) (himg : img.length < 2 ^ 32) :
    Completes (.commitUpdate k) s fun t => Concluded c stDone 0 [] s t ∧ flashSlot t kind a = { state := .pending, image := img } ∧
        committedSlot t kind = some a ∧ committedSinceReset t kind = true ∧
        (∃ x ∈ t.security.configJournal.records, x.2.type = 0x12 ∧ x.2.seq = s.security.configSeqNext ∧ fld x.2.payload 0 8 = kind ∧
          fld x.2.payload 8 8 = a ∧ fld x.2.payload 96 32 = img.length ∧
          fld x.2.payload 128 256 = (Config.sha256 img).toNat) ∧
        ChangesOnly [.flight, .security, .power] s t := by
  have ha : a ≤ 1 := htarget ▸ targetSlot_le s kind
  obtain ⟨hfkind, hfa, hflen, hfhash⟩ := commitPayload_fields (img := img) hkind ha himg
  obtain ⟨hjournal, hslots, hnow⟩ := slotCommitted_parts k kind a img s
  have hnewest : NewestIn ⟨s.security.configSeqNext, 0x12, commitPayload kind a img⟩
      (slotCommitted k kind a img s).security.configJournal :=
    hjournal ▸ newestIn_appendRecord 0x12 (commitPayload kind a img) (s := dropWorkOf k (useDomain 0 s)) hseq
  have hcommit : isCommit kind ⟨s.security.configSeqNext, 0x12, commitPayload kind a img⟩ = true := by
    rw [isCommit, hfkind, beq_self_eq_true, beq_self_eq_true, Bool.and_self]
  have hframe := changesOnly_slotCommitted k kind a img s
  refine completes_concluded (st := stDone) (d := 0) (r := []) (u := slotCommitted k kind a img s)
    (m := [.flight, .security, .power]) (exec_commitUpdate k s) h ?_ hframe (by simp) (by simp) fun t hc hall hrest => ?_
  · dsimp only
    rw [hclear, if_neg Bool.false_ne_true, hk, htarget, hslot]
    rfl
  · have hsecurity : t.security = (slotCommitted k kind a img s).security := hrest .security (by simp)
    refine ⟨hc, ?_, ?_, ?_, ?_, hall⟩
    · rw [← hslot]
      exact (flashSlot_congr ((congrArg Security.slots hsecurity).trans hslots) _ _).trans
        (flashSlot_modFlash hkind ha (fun f => { f with state := .pending }) s)
    · rw [committedSlot, committedRecord, hsecurity, hnewest.latestRecord hcommit, Option.map_some, hfa]
    · rw [committedSinceReset, hsecurity, hnow]
      split_ifs <;> rfl
    · obtain ⟨n, hn⟩ := hnewest.stands
      exact ⟨(n, ⟨s.security.configSeqNext, 0x12, commitPayload kind a img⟩), by rw [hsecurity]; exact hn, rfl, rfl, hfkind, hfa,
        hflen, hfhash⟩

end

/-! ## SAVE_CONFIG (R527, R529) -/

section
variable {k : CmdKey} {c : Cmd} {s t : State}

/-- Bulk items written raise the journal's next SEQ by at most their number, and every record stands below it. -/
structure BulkSaved (n : Nat) (s t : State) : Prop where
  frame : ChangesOnly [.security] s t
  configSeq : t.security.configSeq = s.security.configSeq
  autoRun : t.security.autoRun = s.security.autoRun
  retention : t.security.retention = s.security.retention
  below : ∀ x ∈ t.security.configJournal.records, x.2.seq < t.security.configSeqNext
  next : t.security.configSeqNext ≤ s.security.configSeqNext + n

theorem bulkSaved_saveBulk (i : Nat × Nat) (hseq : ∀ x ∈ s.security.configJournal.records, x.2.seq < s.security.configSeqNext)
    (hroom : s.security.configSeqNext + 1 < 2 ^ 32) : BulkSaved 1 s (saveBulk i s) := by
  unfold saveBulk
  dsimp only
  split
  · exact ⟨.refl _ s, rfl, rfl, rfl, hseq, Nat.le_succ _⟩
  · obtain ⟨-, -, -, hconfig, hauto, hretention, -, hnext⟩ := appendRecord_config_keeps 0x11 (bulkPayload s i.1 i.2) s
    rw [Nat.mod_eq_of_lt hroom] at hnext
    have hnewest := newestIn_appendRecord 0x11 (bulkPayload s i.1 i.2) hseq
    refine ⟨changesOnly_appendRecord 1 _ _ s, hconfig, hauto, hretention, fun x hx => ?_, hnext.le⟩
    rw [hnext]
    rcases hnewest.newest x hx with heq | hlt
    · rw [heq]
      exact Nat.lt_succ_self _
    · exact Nat.lt_succ_of_lt hlt

theorem bulkSaved_foldl : ∀ (l : List (Nat × Nat)) (s : State),
    (∀ x ∈ s.security.configJournal.records, x.2.seq < s.security.configSeqNext) →
    s.security.configSeqNext + l.length < 2 ^ 32 → BulkSaved l.length s (l.foldl (fun (t : State) i => saveBulk i t) s)
  | [], s, hseq, _ => ⟨.refl _ s, rfl, rfl, rfl, hseq, le_rfl⟩
  | i :: l, s, hseq, hroom => by
    rw [List.length_cons] at hroom
    have hfirst := bulkSaved_saveBulk i hseq (by omega)
    have hnext := hfirst.next
    have hrest := bulkSaved_foldl l (saveBulk i s) hfirst.below (by omega)
    have hend := hrest.next
    refine ⟨hfirst.frame.step hrest.frame, hrest.configSeq.trans hfirst.configSeq, hrest.autoRun.trans hfirst.autoRun,
      hrest.retention.trans hfirst.retention, hrest.below, ?_⟩
    rw [List.length_cons]
    exact hend.trans (by omega)

theorem bulkItems_length (s : State) : (bulkItems s).length ≤ 16 :=
  (List.length_filterMap_le _ _).trans (by simp)

/-- The configuration with its new number and AUTO_RUN. -/
def saveBegun (k : CmdKey) (c : Cmd) (s : State) : State :=
  modSecurity (fun (x : Security) => { x with autoRun := fld c.params 0 2 }) (nextConfig (dropWorkOf k (useDomain 0 s)))

/-- The bulk items that have changed are written. -/
def bulkWritten (k : CmdKey) (c : Cmd) (s : State) : State :=
  (bulkItems (saveBegun k c s)).foldl (fun (t : State) i => saveBulk i t) (saveBegun k c s)

/-- The configuration that SAVE_CONFIG keeps. -/
def savedConfig (c : Cmd) (s : State) : SavedConfig :=
  ⟨(s.security.configSeq + 1) % 2 ^ 32, fld c.params 0 2, configSettings s, bulkNames s⟩

theorem changesOnly_saveBegun (k : CmdKey) (c : Cmd) (s : State) : ChangesOnly [.security, .power] s (saveBegun k c s) :=
  ((((changesOnly_useDomain 0 s).mono (by simp)).step ((changesOnly_dropWorkOf k _).mono (by simp))).step
    ((changesOnly_modSecurity _ _).mono (by simp))).step ((changesOnly_modSecurity _ _).mono (by simp))

theorem saveBegun_parts (k : CmdKey) (c : Cmd) (s : State) :
    (saveBegun k c s).security.configSeq = (s.security.configSeq + 1) % 2 ^ 32 ∧
    (saveBegun k c s).security.autoRun = fld c.params 0 2 ∧
    (saveBegun k c s).security.configJournal = s.security.configJournal ∧
    (saveBegun k c s).security.configSeqNext = s.security.configSeqNext := ⟨rfl, rfl, rfl, rfl⟩

theorem configSettings_congr (h : t.settings = s.settings) : configSettings t = configSettings s := by
  have hread : configSettings t = configSettings { s with settings := t.settings } := rfl
  rw [hread, h]

theorem bulkNames_congr (h : t.ingest = s.ingest) : bulkNames t = bulkNames s := by
  have hread : bulkNames t = bulkNames { s with ingest := t.ingest } := rfl
  rw [hread, h]

theorem bulkWritten_spec (k : CmdKey) (c : Cmd)
    (hseq : ∀ x ∈ s.security.configJournal.records, x.2.seq < s.security.configSeqNext)
    (hroom : s.security.configSeqNext + 17 < 2 ^ 32) : ChangesOnly [.security, .power] s (bulkWritten k c s) ∧
      configInForce (bulkWritten k c s) = savedConfig c s ∧
      ∀ x ∈ (bulkWritten k c s).security.configJournal.records, x.2.seq < (bulkWritten k c s).security.configSeqNext := by
  obtain ⟨hconfig, hauto, hjournal, hnext⟩ := saveBegun_parts k c s
  have hitems := bulkItems_length (saveBegun k c s)
  have hsaved := bulkSaved_foldl (bulkItems (saveBegun k c s)) (saveBegun k c s) (by rw [hjournal, hnext]; exact hseq)
    (by rw [hnext]; omega)
  have hframe : ChangesOnly [.security, .power] s (bulkWritten k c s) :=
    (changesOnly_saveBegun k c s).step (hsaved.frame.mono (by simp))
  refine ⟨hframe, ?_, hsaved.below⟩
  rw [configInForce, configSettings_congr (hframe .settings (by simp)), bulkNames_congr (hframe .ingest (by simp)),
    show (bulkWritten k c s).security.configSeq = _ from hsaved.configSeq.trans hconfig,
    show (bulkWritten k c s).security.autoRun = _ from hsaved.autoRun.trans hauto, savedConfig]

/-- The configuration is recorded and kept. -/
def configKept (cfg : SavedConfig) (s : State) : State := keepConfig cfg (appendRecord 1 0x10 (configPayload cfg) s)

theorem configKept_parts (cfg : SavedConfig) (s : State) : (configKept cfg s).security.configSeq = s.security.configSeq ∧
    (configKept cfg s).security.autoRun = s.security.autoRun ∧ (configKept cfg s).security.retention.config = some cfg ∧
    (configKept cfg s).security.configJournal = (appendRecord 1 0x10 (configPayload cfg) s).security.configJournal :=
  ⟨rfl, rfl, rfl, rfl⟩

theorem saveIsPaused (h : Ready k 0x0108 s c) (hfree : ∀ w ∈ s.security.work, w.key ≠ k) (hset : nvInhibited s = true) :
    Completes (.saveConfig k) s fun t => t.security.work = s.security.work ++
      [{ key := k, stage := 0, pausedAt := some (now s), retried := false, image := [] }] ∧ ChangesOnly [.security] s t :=
  pauseWork_completes (exec_saveConfig k s) h (if_pos hset) hfree

theorem configIsSaved (h : Ready k 0x0108 s c) (hclear : nvInhibited s = false)
    (hseq : ∀ x ∈ s.security.configJournal.records, x.2.seq < s.security.configSeqNext)
    (hroom : s.security.configSeqNext + 17 < 2 ^ 32) : Completes (.saveConfig k) s fun t => Concluded c stDone 0 [] s t ∧
      t.security.configSeq = (s.security.configSeq + 1) % 2 ^ 32 ∧ t.security.autoRun = fld c.params 0 2 ∧
      t.security.retention.config = some (savedConfig c s) ∧
      (∃ x ∈ t.security.configJournal.records, x.2.type = 0x10 ∧ x.2.payload = configPayload (savedConfig c s)) ∧
      ChangesOnly [.flight, .security, .power] s t := by
  obtain ⟨hwritten, hcfg, hbelow⟩ := bulkWritten_spec k c hseq hroom
  obtain ⟨hkseq, hkauto, hkept, hjournal⟩ := configKept_parts (savedConfig c s) (bulkWritten k c s)
  have hnewest := newestIn_appendRecord 0x10 (configPayload (savedConfig c s)) hbelow
  have hframe : ChangesOnly [.security, .power] s (configKept (savedConfig c s) (bulkWritten k c s)) :=
    hwritten.step (((changesOnly_appendRecord 1 0x10 _ _).step (changesOnly_modSecurity _ _)).mono (by simp))
  have hseqNow : (bulkWritten k c s).security.configSeq = (s.security.configSeq + 1) % 2 ^ 32 := congrArg SavedConfig.seq hcfg
  have hautoNow : (bulkWritten k c s).security.autoRun = fld c.params 0 2 := congrArg SavedConfig.autoRun hcfg
  refine completes_concluded (st := stDone) (d := 0) (r := []) (u := configKept (savedConfig c s) (bulkWritten k c s))
    (m := [.flight, .security, .power]) (exec_saveConfig k s) h ?_ hframe (by simp) (by simp) fun t hc hall hrest => ?_
  · dsimp only
    rw [hclear, if_neg Bool.false_ne_true, ← hcfg]
    rfl
  · have hsecurity : t.security = (configKept (savedConfig c s) (bulkWritten k c s)).security := hrest .security (by simp)
    rw [hsecurity, hkseq, hkauto, hkept, hjournal, hseqNow, hautoNow]
    obtain ⟨n, hn⟩ := hnewest.stands
    exact ⟨hc, rfl, rfl, rfl, ⟨_, hn, rfl, rfl⟩, hall⟩

end

/-- Settles O56: each step of an update on its slot, and the records that COMMIT_UPDATE and SAVE_CONFIG leave. -/
theorem updatesGoSlotBySlot : Obligations.UpdatesGoSlotBySlot := by
  unfold Obligations.UpdatesGoSlotBySlot
  exact ⟨fun k c s h hfree hkind => ⟨fun f hfault => updateIsRefused h hfree hfault,
      fun hgood hset => updateIsPaused h hfree hgood hset, fun hgood hclear hfit => updateBegins h hfree hkind hgood hclear hfit⟩,
    fun w c s ha hwork hp hstage hc hkind => ⟨fun hfirst => ⟨fun h3 => eraseEnds ha hwork hp hc hfirst h3,
        fun h4 => programEnds ha hwork hp hc hkind hfirst h4, fun h5 hgood => readBackEnds ha hwork hp hc hkind hfirst h5 hgood,
        failedStepIsRetried ha hwork hp hstage hc hfirst⟩,
      fun hagain => secondFailureEndsUpdate ha hwork hp hstage hc hkind hagain⟩,
    fun k c s h hfree hkind => ⟨fun hset => commitIsPaused h hfree hset,
      fun hclear hseq himg => slotIsCommitted h rfl hkind rfl rfl hclear hseq himg⟩,
    fun k c s h hfree => ⟨fun hset => saveIsPaused h hfree hset, fun hclear hseq hroom => configIsSaved h hclear hseq hroom⟩⟩

end Sys2Proof.Machine
end

section
/-! Posture changes begin, and RUN is left for SETUP (O54; R251, R336, R362, R387, R505 to R507, R577). -/

namespace Sys2Proof.Machine

/-! ## A change begins (R505, R507) -/

section
variable {k : CmdKey} {c : Cmd} {s : State}

theorem flightOf_of_ready {op : Nat} (h : Ready k op s c) : flightOf k s = some c := by
  obtain ⟨hrun, -, -⟩ := h
  unfold running at hrun
  split at hrun
  · next d hd =>
    split_ifs at hrun
    exact hd.trans hrun
  · exact absurd hrun (by simp)

theorem runIsEntered (hidle : s.power.change = none) (h : Ready k 0x0102 s c) (hdrive : inSentry s = false) :
    Completes (.enterRun k) s fun t =>
      t.power = { s.power with change := some { target := fld c.params 0 2, key := some k, since := now s } } ∧
      ChangesOnly [.power] s t := by
  refine completes_of_work (u := modPower (fun (p : Power) => { p with
    change := some { target := fld c.params 0 2, key := some k, since := now s } }) s) (exec_enterRun k s) h ?_ ?_
  · rw [hidle, Option.isSome_none, if_neg Bool.false_ne_true, beginChange, hdrive, if_neg Bool.false_ne_true]
  · rw [settle_power]
    exact ⟨rfl, (changesOnly_modPower _ s).settle s⟩

theorem postureStands (hidle : s.power.change = none) (h : Ready k 0x0104 s c) (hsame : postureCode s.dev.posture = fld c.params 0 2) :
    Completes (.setPosture k) s fun t => Concluded c stDone 0 [] s t ∧ ChangesOnly [.flight] s t := by
  refine completes_concluded (st := stDone) (d := 0) (r := []) (u := s) (m := [.flight]) (exec_setPosture k s) h ?_
    (.refl [] s) (by simp) (by simp) fun t hc hframe _ => ⟨hc, hframe⟩
  dsimp only
  rw [hidle, Option.isSome_none, if_neg Bool.false_ne_true, if_pos hsame]

theorem postureCode_le (p : Option Posture) : postureCode p ≤ 2 := by
  unfold postureCode
  split <;> omega

theorem standbyBegins (hidle : s.power.change = none) (h : Ready k 0x0104 s c) (htarget : fld c.params 0 2 = 3) :
    Completes (.setPosture k) s fun t =>
      t.power = { s.power with
        change := some { target := 3, key := some k, since := now s }, standby := some .commands, standbyFrom := now s,
        wakePosture := fld c.params 4 2, wakeWaiting := none } ∧ ChangesOnly [.power] s t := by
  have hkey : c.key = k := flightOf_key (flightOf_of_ready h)
  have hother : ¬ postureCode s.dev.posture = fld c.params 0 2 := by
    have hle := postureCode_le s.dev.posture
    omega
  refine completes_of_work (u := beginStandby c s) (exec_setPosture k s) h ?_ ?_
  · dsimp only
    rw [hidle, Option.isSome_none, if_neg Bool.false_ne_true, if_neg hother, if_pos htarget]
  · rw [settle_power, ← hkey]
    exact ⟨rfl, (changesOnly_modPower _ s).settle s⟩

theorem sentryBegins (hidle : s.power.change = none) (h : Ready k 0x0104 s c) (hdrive : s.dev.posture = some .drive)
    (htarget : fld c.params 0 2 = 2) : Completes (.setPosture k) s fun t =>
      t.power.change = some { target := 2, key := some k, since := now s } ∧ ChangesOnly [.power] s t := by
  have hother : ¬ postureCode s.dev.posture = fld c.params 0 2 := by
    rw [hdrive, htarget, postureCode]
    omega
  have hnot : inSentry s = false := by
    rw [inSentry, hdrive]
    rfl
  refine completes_of_work (u := modPower (fun (p : Power) => { p with
    change := some { target := 2, key := some k, since := now s } }) s) (exec_setPosture k s) h ?_ ?_
  · dsimp only
    rw [hidle, Option.isSome_none, if_neg Bool.false_ne_true, if_neg hother, if_neg (by omega), htarget, beginChange, hnot,
      if_neg Bool.false_ne_true]
  · rw [settle_power]
    exact ⟨rfl, (changesOnly_modPower _ s).settle s⟩

end

/-! ## What ends with RUN -/

section
variable {s t : State}

/-- No fusion set, no scan match and no frame in the tile array. -/
structure RunOver (s : State) : Prop where
  sets : s.align.sets = []
  scan : s.align.scan = none
  frame : s.rink.frame = none

theorem RunOver.of_parts (h : RunOver s) (halign : t.align = s.align) (hrink : t.rink = s.rink) : RunOver t :=
  ⟨by rw [halign, h.sets], by rw [halign, h.scan], by rw [hrink, h.frame]⟩

theorem RunOver.of_frame (h : RunOver s) {l : List Part} (hf : ChangesOnly l s t) (halign : Part.align ∉ l) (hrink : Part.rink ∉ l) :
    RunOver t := h.of_parts (hf .align halign) (hf .rink hrink)

/-- The tile array gives up the frame that holds it. -/
theorem dropFromArray_frame (s : State) : (match s.rink.frame with
    | some f => dropFromArray f.frame s
    | none => s).rink.frame = none := by
  cases hf : s.rink.frame with
  | none => exact hf
  | some f =>
    dsimp only
    rw [dropFromArray, hf]
    dsimp only
    rw [if_pos rfl]
    rfl

theorem runOver_stopFrames (s : State) : RunOver (stopFrames s) := by
  refine ⟨rfl, rfl, ?_⟩
  unfold stopFrames
  extract_lets s1 s2
  exact dropFromArray_frame s1

theorem abortMigration_frame (s : State) : (abortMigration s).rink.frame = s.rink.frame := by
  unfold abortMigration
  split
  · dsimp only
    split_ifs <;> rfl
  · rfl

theorem runOver_abortMigration (h : RunOver s) : RunOver (abortMigration s) :=
  have halign : (abortMigration s).align = s.align := changesOnly_abortMigration s .align (by simp)
  ⟨by rw [halign, h.sets], by rw [halign, h.scan], by rw [abortMigration_frame, h.frame]⟩

theorem runOver_leaveRun (s : State) : RunOver (leaveRun s) := by
  have hstopped := runOver_abortMigration (runOver_stopFrames s)
  unfold leaveRun
  exact hstopped.of_frame (l := [.safety, .time, .plans])
    (((((changesOnly_disarmAll _).mono (by simp)).step ((changesOnly_withdrawSyncs _).mono (by simp))).step
      ((changesOnly_modPlans _ _).mono (by simp))).step ((changesOnly_modSafety _ _).mono (by simp))) (by simp) (by simp)

theorem changesOnly_activate (i p : Nat) (s : State) : ChangesOnly [.plans, .settings] s (activate i p s) := by
  have hplans : ChangesOnly [.plans, .settings] s (modPlans (fun (q : Plans) =>
      if p = 0 then { q with driveSlot := some i } else { q with sentrySlot := some i }) s) :=
    (changesOnly_modPlans _ s).mono (by simp)
  exact changesOnly_ite (fun _ => hplans.step ((changesOnly_putSetting _ _ _ _).mono (by simp))) fun _ => hplans

theorem changesOnly_landSwap (s : State) : ChangesOnly [.plans, .settings, .rink, .flight] s (landSwap s) := by
  unfold landSwap
  split
  · exact ((((changesOnly_modPlans _ s).mono (by simp)).step ((changesOnly_activate _ _ _).mono (by simp))).step
      ((changesOnly_buildRays _).mono (by simp))).step ((changesOnly_concludeKey _ _ _ _ _).mono (by simp))
  · exact .refl _ s

theorem buildRays_frame (s : State) : (buildRays s).rink.frame = s.rink.frame := rfl

theorem landSwap_frame (s : State) : (landSwap s).rink.frame = s.rink.frame := by
  unfold landSwap
  cases hswap : s.plans.swap with
  | none => rfl
  | some w =>
    have hactive : ∀ i p u, (activate i p u).rink = u.rink := fun i p u => changesOnly_activate i p u .rink (by simp)
    have hconclude : ∀ k st d r u, (concludeKey k st d r u).rink = u.rink := fun k st d r u =>
      changesOnly_concludeKey k st d r u .rink (by simp)
    dsimp only
    rw [hconclude, buildRays_frame, hactive]
    rfl

theorem runOver_landSwap (h : RunOver s) : RunOver (landSwap s) :=
  have halign : (landSwap s).align = s.align := changesOnly_landSwap s .align (by simp)
  ⟨by rw [halign, h.sets], by rw [halign, h.scan], by rw [landSwap_frame, h.frame]⟩

theorem safeGlide_align (s : State) : (safeGlide s).align = s.align := changesOnly_safeGlide s .align (by simp)

theorem changesOnly_clearTracks (s : State) : ChangesOnly [.glide, .safety, .align] s (clearTracks s) :=
  (((changesOnly_safeGlide s).mono (by simp)).step ((changesOnly_modGlide _ _).mono (by simp))).step
    ((changesOnly_modAlign _ _).mono (by simp))

theorem clearTracks_store (s : State) : (clearTracks s).glide.store = [] := rfl

theorem runOver_clearTracks (h : RunOver s) : RunOver (clearTracks s) := by
  have halign := safeGlide_align s
  have hrink : (clearTracks s).rink = s.rink := changesOnly_clearTracks s .rink (by simp)
  have hsets : (clearTracks s).align.sets = (safeGlide s).align.sets := rfl
  have hscan : (clearTracks s).align.scan = (safeGlide s).align.scan := rfl
  exact ⟨by rw [hsets, halign, h.sets], by rw [hscan, halign, h.scan], by rw [hrink, h.frame]⟩

/-! ## Jobs delivered when nothing runs -/

theorem glideJobEnded_keeps (i key : Nat) (r : JobRecord) (s : State) : (glideJobEnded i key r s).glide.store = s.glide.store ∧
    (glideJobEnded i key r s).align = s.align ∧ (glideJobEnded i key r s).host = s.host := by
  unfold glideJobEnded
  split
  · exact ⟨rfl, rfl, rfl⟩
  · extract_lets bad s1
    split_ifs <;> exact ⟨rfl, rfl, rfl⟩

/-- A job's result leaves the tracks, and, with no scan match, the fusion sets. -/
theorem deliverJob_store (h : s.align.scan = none) (j : Job) : (deliverJob s j).glide.store = s.glide.store ∧
    (deliverJob s j).align.sets = s.align.sets ∧ (deliverJob s j).align.scan = s.align.scan := by
  unfold deliverJob
  split
  · exact ⟨rfl, rfl, rfl⟩
  · next r _ =>
    extract_lets s1
    split
    · next i key _ =>
      obtain ⟨hstore, halign, -⟩ := glideJobEnded_keeps i key r s1
      rw [hstore, halign]
      exact ⟨rfl, rfl, rfl⟩
    · have hidle : scanJobEnded r s1 = s1 := by
        rw [scanJobEnded, show s1.align.scan = none from h]
      rw [hidle]
      exact ⟨rfl, rfl, rfl⟩
    · unfold wheelJobEnded
      split_ifs <;> exact ⟨rfl, rfl, rfl⟩
    · exact ⟨rfl, rfl, rfl⟩

theorem foldl_deliverJob_store : ∀ (l : List Job) (s : State), s.align.scan = none →
    (l.foldl deliverJob s).glide.store = s.glide.store ∧ (l.foldl deliverJob s).align.sets = s.align.sets ∧
    (l.foldl deliverJob s).align.scan = s.align.scan
  | [], _, _ => ⟨rfl, rfl, rfl⟩
  | j :: l, s, h => by
    obtain ⟨hstore, hsets, hscan⟩ := deliverJob_store h j
    obtain ⟨hstore', hsets', hscan'⟩ := foldl_deliverJob_store l (deliverJob s j) (hscan.trans h)
    exact ⟨hstore'.trans hstore, hsets'.trans hsets, hscan'.trans hscan⟩

theorem deliverJobs_keeps (h : RunOver s) : RunOver (deliverJobs s) ∧ (deliverJobs s).glide.store = s.glide.store := by
  obtain ⟨hstore, hsets, hscan⟩ := foldl_deliverJob_store (s.solver.jobs.filter (fun j => !isUser j && j.record.isSome)) s h.scan
  have hsettled := changesOnly_settleBatches ((s.solver.jobs.filter (fun j => !isUser j && j.record.isSome)).foldl deliverJob s)
  have halign : (deliverJobs s).align = _ := hsettled .align (by simp)
  have hglide : (deliverJobs s).glide = _ := hsettled .glide (by simp)
  have hrink : (deliverJobs s).rink = s.rink := (reporting_deliverJobs s).frame .rink (by simp)
  exact ⟨⟨by rw [halign, hsets, h.sets], by rw [halign, hscan, h.scan], by rw [hrink, h.frame]⟩, by rw [hglide, hstore]⟩

/-! ## Commands in flight keep their keys -/

/-- The commands in flight are the same. -/
def KeysKept (s t : State) : Prop := t.host.flight.map (·.key) = s.host.flight.map (·.key)

theorem KeysKept.trans {u : State} (h : KeysKept s t) (h' : KeysKept t u) : KeysKept s u := Eq.trans h' h

theorem keysKept_of_frame {l : List Part} (h : ChangesOnly l s t) (hl : Part.flight ∉ l) : KeysKept s t := by
  rw [KeysKept, show t.host.flight = s.host.flight from h .flight hl]

theorem keysKept_modCmd (k : CmdKey) {f : Cmd → Cmd} (hf : ∀ c, (f c).key = c.key) (s : State) : KeysKept s (modCmd k f s) := by
  show (s.host.flight.map (fun c => if c.key == k then f c else c)).map (·.key) = _
  rw [List.map_map]
  refine List.map_congr_left fun c _ => ?_
  dsimp only [Function.comp_apply]
  split_ifs
  · exact hf c
  · rfl

theorem keysKept_conclude (c : Cmd) (st d : Nat) (r : Bytes) (s : State) : KeysKept s (conclude c st d r s) :=
  keysKept_modCmd c.key (f := fun x => { x with outcome := some { status := st, detail := d, results := r } }) (fun _ => rfl) s

theorem keysKept_concludeKey (k : CmdKey) (st d : Nat) (r : Bytes) (s : State) : KeysKept s (concludeKey k st d r s) := by
  unfold concludeKey
  split
  · exact keysKept_conclude _ st d r s
  · exact rfl

theorem keysKept_foldl {α : Type} {f : State → α → State} (h : ∀ s x, KeysKept s (f s x)) : ∀ (l : List α) (s : State),
    KeysKept s (l.foldl f s)
  | [], _ => rfl
  | x :: l, s => (h s x).trans (keysKept_foldl h l (f s x))

theorem keysKept_settleBatch (k : CmdKey) (s : State) : KeysKept s (settleBatch k s) := by
  unfold settleBatch
  extract_lets js rs good results final
  split_ifs
  · exact rfl
  · exact KeysKept.trans (t := modSolver _ s) rfl (keysKept_concludeKey _ _ _ _ _)

theorem keysKept_settleBatches (s : State) : KeysKept s (settleBatches s) :=
  keysKept_foldl (fun t k => keysKept_settleBatch k t) _ s

theorem keysKept_deliverJob (s : State) (j : Job) (h : s.align.scan = none) : KeysKept s (deliverJob s j) := by
  unfold deliverJob
  split
  · exact rfl
  · next r _ =>
    extract_lets s1
    split
    · next i key _ =>
      obtain ⟨-, -, hhost⟩ := glideJobEnded_keeps i key r s1
      exact congrArg (fun x => x.flight.map (·.key)) hhost
    · have hidle : scanJobEnded r s1 = s1 := by
        rw [scanJobEnded, show s1.align.scan = none from h]
      rw [hidle]
      exact rfl
    · unfold wheelJobEnded
      split_ifs <;> exact rfl
    · exact rfl

theorem keysKept_foldl_deliverJob : ∀ (l : List Job) (s : State), s.align.scan = none → KeysKept s (l.foldl deliverJob s)
  | [], _, _ => rfl
  | j :: l, s, h => (keysKept_deliverJob s j h).trans
      (keysKept_foldl_deliverJob l (deliverJob s j) ((deliverJob_store h j).2.2.trans h))

theorem keysKept_deliverJobs (h : RunOver s) : KeysKept s (deliverJobs s) :=
  (keysKept_foldl_deliverJob _ s h.scan).trans (keysKept_settleBatches _)

theorem keysKept_landSwap (s : State) : KeysKept s (landSwap s) := by
  unfold landSwap
  split
  · exact (keysKept_of_frame (l := [.plans, .settings, .rink]) ((((changesOnly_modPlans _ s).mono (by simp)).step
      ((changesOnly_activate _ _ _).mono (by simp))).step ((changesOnly_buildRays _).mono (by simp))) (by simp)).trans
      (keysKept_concludeKey _ _ _ _ _)
  · exact rfl

theorem keysKept_leaveRunSolver (s : State) : KeysKept s (leaveRunSolver s) :=
  (keysKept_of_frame (changesOnly_dropUserJobs s) (by simp)).trans (keysKept_settleBatches _)

/-- A command in flight is found while the keys stay. -/
theorem flightOf_of_keysKept {k : CmdKey} {c : Cmd} (h : flightOf k s = some c) (hkeys : KeysKept s t) :
    ∃ d, flightOf k t = some d := by
  have hmem : k ∈ s.host.flight.map (·.key) := List.mem_map.mpr ⟨c, List.mem_of_find?_eq_some h, flightOf_key h⟩
  rw [← show t.host.flight.map (·.key) = _ from hkeys] at hmem
  obtain ⟨d, hd, hkey⟩ := List.mem_map.mp hmem
  have hsome : (flightOf k t).isSome = true := by
    rw [flightOf, List.find?_isSome]
    exact ⟨d, hd, by simpa using hkey⟩
  exact Option.isSome_iff_exists.mp hsome

/-- A command that is concluded has its outcome. -/
theorem flightOf_conclude {k : CmdKey} {c d : Cmd} (hd : flightOf k s = some d) (hk : c.key = k) (st det : Nat) (r : Bytes) :
    flightOf k (conclude c st det r s) = some { d with outcome := some { status := st, detail := det, results := r } } := by
  show (s.host.flight.map (fun x : Cmd => if x.key == c.key then
    { x with outcome := some { status := st, detail := det, results := r } } else x)).find? (fun x => x.key == k) = _
  rw [List.find?_map, hk]
  have hpred : ((fun x : Cmd => x.key == k) ∘ fun x : Cmd => if x.key == k then
      { x with outcome := some { status := st, detail := det, results := r } } else x) = fun x => x.key == k := by
    funext x
    dsimp only [Function.comp_apply]
    split_ifs <;> rfl
  rw [hpred, show s.host.flight.find? (fun x => x.key == k) = some d from hd, Option.map_some, flightOf_key hd,
    if_pos (beq_self_eq_true k)]

end

/-! ## RUN is left for SETUP (R336, R362, R387) -/

section
variable {k : CmdKey} {c : Cmd} {s : State}

/-- What ends with RUN where SETUP follows. -/
def setupLeft (s : State) : State := deliverJobs (leaveRunSolver (clearTracks (landSwap (leaveRun s))))

/-- The device is in SETUP, without ticks and with static pins. -/
def setupEntered (s : State) : State :=
  modDev (fun (d : Dev) => { d with state := .setup, posture := none, firstValid := false }) (stopTicks (staticPins s))

theorem changesOnly_leaveRunSolver (s : State) : ChangesOnly [.solver, .flight] s (leaveRunSolver s) :=
  ((changesOnly_dropUserJobs s).mono (by simp)).step (changesOnly_settleBatches _)

/-- The solver's work ends without a track or a fusion set. -/
theorem solverLeft_keeps {v : State} (hover : RunOver v) : RunOver (deliverJobs (leaveRunSolver v)) ∧
    (deliverJobs (leaveRunSolver v)).glide.store = v.glide.store ∧ KeysKept v (deliverJobs (leaveRunSolver v)) := by
  have hsolver := changesOnly_leaveRunSolver v
  have hover' := hover.of_frame hsolver (by simp) (by simp)
  have hglide : (leaveRunSolver v).glide = v.glide := hsolver .glide (by simp)
  have hkeys := keysKept_leaveRunSolver v
  generalize leaveRunSolver v = u at *
  obtain ⟨hend, hstore⟩ := deliverJobs_keeps hover'
  exact ⟨hend, by rw [hstore, hglide], hkeys.trans (keysKept_deliverJobs hover')⟩

theorem setupLeft_spec (s : State) : RunOver (setupLeft s) ∧ (setupLeft s).glide.store = [] := by
  have hcleared := runOver_clearTracks (runOver_landSwap (runOver_leaveRun s))
  have hnone := clearTracks_store (landSwap (leaveRun s))
  unfold setupLeft
  generalize clearTracks (landSwap (leaveRun s)) = v at *
  obtain ⟨hover, hstore, -⟩ := solverLeft_keeps hcleared
  exact ⟨hover, hstore.trans hnone⟩

theorem keysKept_setupLeft (s : State) : KeysKept s (setupLeft s) := by
  have hcleared := runOver_clearTracks (runOver_landSwap (runOver_leaveRun s))
  have hkeys : KeysKept s (clearTracks (landSwap (leaveRun s))) :=
    ((keysKept_of_frame (changesOnly_leaveRun s) (by simp)).trans (keysKept_landSwap _)).trans
      (keysKept_of_frame (changesOnly_clearTracks _) (by simp))
  unfold setupLeft
  generalize clearTracks (landSwap (leaveRun s)) = v at *
  obtain ⟨-, -, hsolver⟩ := solverLeft_keeps hcleared
  exact hkeys.trans hsolver

theorem runOver_setupEntered {u : State} (h : RunOver u) : RunOver (setupEntered u) :=
  h.of_parts rfl rfl

theorem setupEntered_ends (u : State) : (setupEntered u).dev.state = .setup ∧
    (setupEntered u).dev.posture = none ∧ (setupEntered u).time.nextTick = none ∧ (setupEntered u).time.openTick = none ∧
    (setupEntered u).safety.safeA = false ∧ (setupEntered u).safety.safeB = false ∧ (setupEntered u).safety.toggling = false :=
  ⟨rfl, rfl, rfl, rfl, rfl, rfl, rfl⟩

theorem setupEntered_store (u : State) : (setupEntered u).glide.store = u.glide.store := rfl

theorem changesOnly_setupEntered (s : State) : ChangesOnly [.device, .safety, .time, .glide] s (setupEntered s) :=
  ((((changesOnly_modSafety _ s).mono (by simp)).step ((changesOnly_modGlide _ _).mono (by simp))).step
    ((changesOnly_setTime _ _).mono (by simp))).step ((changesOnly_modDev _ _).mono (by simp))

theorem setupIsEntered (h : Ready k 0x0103 s c) : Completes (.enterSetup k) s fun t => t.dev.state = .setup ∧ t.dev.posture = none ∧
      t.time.nextTick = none ∧ t.time.openTick = none ∧ t.glide.store = [] ∧ t.align.sets = [] ∧ t.rink.frame = none ∧
      t.safety.safeA = false ∧ t.safety.safeB = false ∧ t.safety.toggling = false ∧
      ∃ d, flightOf k t = some d ∧ d.outcome = some { status := stDone, detail := 0, results := [] } := by
  have hflight := flightOf_of_ready h
  obtain ⟨hover, hstore⟩ := setupLeft_spec s
  obtain ⟨hstate, hposture, hnext, hopen, hsafeA, hsafeB, htoggle⟩ := setupEntered_ends (setupLeft s)
  have hover' := runOver_setupEntered hover
  have hstore' := (setupEntered_store (setupLeft s)).trans hstore
  have hkeys : KeysKept s (setupEntered (setupLeft s)) :=
    (keysKept_setupLeft s).trans (keysKept_of_frame (changesOnly_setupEntered _) (by simp))
  obtain ⟨d, hd⟩ := flightOf_of_keysKept hflight hkeys
  have hconcluded := flightOf_conclude hd (flightOf_key hflight) stDone 0 []
  refine completes_of_work (u := conclude c stDone 0 [] (setupEntered (setupLeft s))) (exec_enterSetup k s) h rfl ?_
  generalize setupEntered (setupLeft s) = u at *
  have hframe := changesOnly_conclude c stDone 0 [] u
  have hdev : (conclude c stDone 0 [] u).dev = u.dev := rfl
  rw [settle_dev, settle_time, settle_glide, settle_align, settle_rink, settle_safety, hdev]
  rw [show (conclude c stDone 0 [] u).time = u.time from hframe .time (by simp),
    show (conclude c stDone 0 [] u).glide = u.glide from hframe .glide (by simp),
    show (conclude c stDone 0 [] u).align = u.align from hframe .align (by simp),
    show (conclude c stDone 0 [] u).rink = u.rink from hframe .rink (by simp),
    show (conclude c stDone 0 [] u).safety = u.safety from hframe .safety (by simp)]
  refine ⟨hstate, hposture, hnext, hopen, hstore', hover'.sets, hover'.frame, hsafeA, hsafeB, htoggle,
    { d with outcome := some { status := stDone, detail := 0, results := [] } }, ?_, rfl⟩
  rw [flightOf, settle_flight]
  exact hconcluded

end

end Sys2Proof.Machine
end

section
/-! A change to Drive or Sentry is complete (O54; R96, R173, R182, R253, R260, R505, R506). -/

namespace Sys2Proof.Machine

/-! ## What the completion changes, part by part -/

section
variable {s t : State}

theorem changesOnly_abandonFrames (s : State) : ChangesOnly [.rink, .point, .glide, .align, .ingest, .safety] s (abandonFrames s) :=
  changesOnly_foldl (fun t (f : FusionSet) => changesOnly_skipFrame f.frame t) _ s

theorem changesOnly_clearPatch (n : Nat) (s : State) : ChangesOnly [.rink] s (clearPatch n s) :=
  (changesOnly_modSlot n _ s).step (changesOnly_foldl (fun t u => ((changesOnly_modTile u _ t).step
    (changesOnly_modTile u _ _)).step (changesOnly_modTile u _ _)) _ _)

theorem changesOnly_clearRink (s : State) : ChangesOnly [.rink] s (clearRink s) :=
  changesOnly_foldl (fun t n => changesOnly_clearPatch n t) _ s

theorem changesOnly_setNewAnchor (s : State) : ChangesOnly [.align, .rink, .settings, .peers] s (setNewAnchor s) := by
  unfold setNewAnchor
  extract_lets seq s1 s2 s3
  have h2 : ChangesOnly [.align, .rink, .settings, .peers] s s2 :=
    ((changesOnly_modAlign _ s).mono (by simp)).step ((changesOnly_modRink _ s1).mono (by simp))
  have h3 : ChangesOnly [.align, .rink, .settings, .peers] s2 s3 :=
    changesOnly_ite (fun _ => (changesOnly_putSetting _ _ _ s2).mono (by simp)) fun _ => .refl _ s2
  exact (h2.step h3).step ((changesOnly_modPeers _ s3).mono (by simp))

theorem changesOnly_freshTrust (s : State) : ChangesOnly [.align] s (freshTrust s) := changesOnly_modAlign _ s

theorem changesOnly_peersEnterRun (s : State) : ChangesOnly [.peers] s (peersEnterRun s) :=
  changesOnly_foldl (fun t d => changesOnly_modPeer d _ t) _ s

theorem changesOnly_enterRunState (s : State) :
    ChangesOnly [.rink, .align, .settings, .peers, .ingest, .memory] s (enterRunState s) := by
  unfold enterRunState
  extract_lets code s1 s2 s3 m s4
  have h1 : ChangesOnly [.rink, .align, .settings, .peers, .ingest, .memory] s s1 := (changesOnly_modRink _ s).mono (by simp)
  have h2 : ChangesOnly [.rink, .align, .settings, .peers, .ingest, .memory] s1 s2 :=
    changesOnly_ite (fun _ => (changesOnly_setNewAnchor s1).mono (by simp)) fun _ => .refl _ s1
  have h3 : ChangesOnly [.rink, .align, .settings, .peers, .ingest, .memory] s2 s3 :=
    (changesOnly_foldl (fun t l => changesOnly_modLidar l _ t) _ s2).mono (by simp)
  have h4 : ChangesOnly [.rink, .align, .settings, .peers, .ingest, .memory] s3 s4 := by
    rw [changesOnly_iff]
    simp [Part.same, s4, m]
  exact (((((h1.step h2).step h3).step h4).step ((changesOnly_modRink _ s4).mono (by simp))).step
    ((changesOnly_freshTrust _).mono (by simp))).step ((changesOnly_peersEnterRun _).mono (by simp))

theorem changesOnly_refreshFits (i p : Nat) (s : State) : ChangesOnly [.plans] s (refreshFits i p s) := by
  unfold refreshFits
  split
  · exact changesOnly_modPlanSlot i _ s
  · exact .refl _ s

theorem changesOnly_restSources (s : State) : ChangesOnly [.ingest] s (restSources s) :=
  changesOnly_foldl (fun t i => changesOnly_ite (fun _ => changesOnly_modSource i _ t) fun _ => .refl _ t) _ s

theorem changesOnly_abortTest (u : Nat) (s : State) : ChangesOnly [.rink] s (abortTest u s) :=
  changesOnly_ite (fun _ => changesOnly_stopTest u s) fun _ => .refl _ s

theorem changesOnly_serveSlot (u n : Nat) (s : State) : ChangesOnly [.rink] s (serveSlot u n s) :=
  (changesOnly_abortTest u s).step (changesOnly_modTile u _ _)

theorem changesOnly_dormantTile (u : Nat) (s : State) : ChangesOnly [.rink] s (dormantTile u s) :=
  (changesOnly_abortTest u s).step (changesOnly_modTile u _ _)

theorem changesOnly_enterSentryTiles (s : State) : ChangesOnly [.rink] s (enterSentryTiles s) := by
  unfold enterSentryTiles
  extract_lets want owners used last spare place s1 s2
  have h1 : ChangesOnly [.rink] s s1 := by
    refine changesOnly_foldl (fun t u => ?_) _ s
    refine changesOnly_ite (fun _ => .refl _ t) fun _ => ?_
    split
    · exact changesOnly_serveSlot _ _ t
    · exact changesOnly_ite (fun _ => changesOnly_ite (fun _ => .refl _ t) fun _ => changesOnly_beginTest u t)
        fun _ => changesOnly_dormantTile u t
  have h2 : ChangesOnly [.rink] s1 s2 := changesOnly_foldl (fun t n => changesOnly_clearPatch n t) _ s1
  exact ((h1.step h2).step (changesOnly_modRink _ s2)).step (changesOnly_newGeneration _)

theorem changesOnly_wakeTiles (failed : List Nat) (s : State) : ChangesOnly [.rink, .patrol] s (wakeTiles failed s) := by
  refine changesOnly_foldl (fun t x => ?_) _ s
  refine changesOnly_ite (fun _ => ?_) fun _ => ?_
  · extract_lets t1
    have h1 : ChangesOnly [.rink, .patrol] t t1 := (((changesOnly_fence x t).step (changesOnly_modTile x _ _)).mono (by simp)).step
      ((changesOnly_report _ _ _ _ _ _).mono (by simp))
    exact changesOnly_ite (fun _ => h1.step ((changesOnly_report _ _ _ _ _ t1).mono (by simp))) fun _ => h1
  · exact ((changesOnly_modTile x _ t).step (changesOnly_modCounters _ _)).mono (by simp)

theorem changesOnly_spareTile (u : Nat) (s : State) : ChangesOnly [.rink] s (spareTile u s) := by
  unfold spareTile
  split
  · exact (changesOnly_modTile u _ s).step (changesOnly_modRink _ _)
  · exact changesOnly_beginTest u s
  · exact changesOnly_beginTest u s
  · exact .refl _ s

/-- Tiles left over become spares, those assigned serve, and their patches are cleared. -/
def driveTiles (spares : List Nat) (fresh : List (Nat × Nat)) (s : State) : State :=
  fresh.foldl (fun (t : State) p => clearPatch p.1 t) (fresh.foldl (fun (t : State) p => serveSlot p.2 p.1 t)
    (spares.foldl (fun (t : State) x => spareTile x t) s))

theorem changesOnly_driveTiles (spares : List Nat) (fresh : List (Nat × Nat)) (s : State) :
    ChangesOnly [.rink] s (driveTiles spares fresh s) :=
  ((changesOnly_foldl (fun t x => changesOnly_spareTile x t) spares s).step
    (changesOnly_foldl (fun t (p : Nat × Nat) => changesOnly_serveSlot p.2 p.1 t) fresh _)).step
    (changesOnly_foldl (fun t (p : Nat × Nat) => changesOnly_clearPatch p.1 t) fresh _)

theorem role_of_servicePairs {p : Nat × Nat} (h : p ∈ servicePairs s) : tileRole s p.2 = .service := by
  obtain ⟨u, -, hu⟩ := List.mem_filterMap.mp h
  split at hu
  · next hrole _ =>
    obtain rfl := Option.some.inj hu
    exact hrole
  · exact absurd hu (by simp)

/-- The entry into Drive: every working tile that is DORMANT is left over or assigned. -/
theorem enterDriveTiles_eq (failed : List Nat) (s : State) : ∃ spares fresh f,
    enterDriveTiles failed s = newGeneration (modRink f (driveTiles spares fresh (wakeTiles failed s))) ∧
    (∀ r, (f r).tiles = r.tiles) ∧
    ∀ x, x ∈ walkOrder → tileWorks (wakeTiles failed s) x = true → tileRole (wakeTiles failed s) x = .dormant →
      x ∈ spares ∨ ∃ p ∈ fresh, p.2 = x := by
  unfold enterDriveTiles
  generalize wakeTiles failed s = u
  extract_lets s0 reduced slots kept back known open_ free all fresh spares s1 s2 s3
  refine ⟨spares, fresh, fun r => { r with reduced := reduced, reducePending := false, sentrySlots := none, driveOwners := [] },
    rfl, fun _ => rfl, fun x hwalk hworks hdormant => ?_⟩
  by_cases hnamed : all.any (fun p => p.2 == x) = true
  · obtain ⟨p, hp, hpx⟩ := List.any_eq_true.mp hnamed
    have hpx : p.2 = x := by simpa using hpx
    refine .inr ⟨p, List.mem_filter.mpr ⟨hp, ?_⟩, hpx⟩
    rw [Bool.not_eq_true', List.contains_eq_mem, decide_eq_false_iff_not]
    intro hkept
    have hservice := role_of_servicePairs (List.mem_of_mem_filter hkept)
    rw [hpx, show tileRole s0 x = .dormant from hdormant] at hservice
    exact absurd hservice (by simp)
  · refine .inl (List.mem_filter.mpr ⟨hwalk, ?_⟩)
    rw [show tileWorks s0 x = true from hworks, Bool.true_and, Bool.not_eq_true', Bool.eq_false_iff]
    exact hnamed

theorem changesOnly_enterDriveTiles (failed : List Nat) (s : State) :
    ChangesOnly [.rink, .patrol] s (enterDriveTiles failed s) := by
  obtain ⟨spares, fresh, f, heq, -, -⟩ := enterDriveTiles_eq failed s
  rw [heq]
  exact (changesOnly_wakeTiles failed s).step ((((changesOnly_driveTiles spares fresh _).step (changesOnly_modRink f _)).step
    (changesOnly_newGeneration _)).mono (by simp))

theorem changesOnly_runInjection (boot : Bool) (failed : Nat) (s : State) : ChangesOnly [.safety] s (runInjection boot failed s) :=
  changesOnly_modSafety _ s

theorem changesOnly_programSyncs (f : Dts) (s : State) : ChangesOnly [.time] s (programSyncs f s) := by
  refine changesOnly_foldl (fun t r => ?_) _ s
  refine changesOnly_ite (fun _ => ?_) fun _ => .refl _ t
  split
  · exact changesOnly_setTime _ t
  · exact .refl _ t

/-- Fusion starts with its first instant, or without one. -/
def fusionStarted (f : Option Dts) (s : State) : State :=
  match f with
  | some f => programSyncs f (modAlign (fun (a : Align) => { a with fusionFrom := f, votedFrames := 0 }) s)
  | none => modAlign (fun (a : Align) => { a with fusionFrom := now s, votedFrames := 0 }) s

/-- The search for the first instant is a variable in the proof: a check that evaluates it would run through its 2,300
candidates. -/
theorem startFusion_eq (s : State) : startFusion s = fusionStarted (firstFusion s (now s)) s := by
  have h : startFusion = startFusion := rfl
  conv at h => rhs; delta startFusion
  generalize firstFusion = g at h ⊢
  rw [h]
  beta_reduce
  cases g s (now s) with
  | none => rfl
  | some f => rfl

theorem changesOnly_fusionStarted (f : Option Dts) (s : State) : ChangesOnly [.align, .time] s (fusionStarted f s) := by
  cases f with
  | none => exact (changesOnly_modAlign _ s).mono (by simp)
  | some f => exact ((changesOnly_modAlign _ s).mono (by simp)).step ((changesOnly_programSyncs _ _).mono (by simp))

theorem changesOnly_startFusion (s : State) : ChangesOnly [.align, .time] s (startFusion s) := by
  rw [startFusion_eq]
  exact changesOnly_fusionStarted _ s

theorem changesOnly_startPostureTicks (sentry : Bool) (s : State) :
    ChangesOnly [.time, .glide, .safety] s (startPostureTicks sentry s) := by
  unfold startPostureTicks
  extract_lets ms t stale s1 s2
  have h2 : ChangesOnly [.time, .glide, .safety] s1 s2 :=
    changesOnly_ite (fun _ => (changesOnly_modGlide _ s1).mono (by simp)) fun _ => .refl _ s1
  exact (((changesOnly_setTime _ s).mono (by simp)).step h2).step ((changesOnly_modGate 0 _ s2).mono (by simp))

end

/-! ## No tile stays DORMANT in Drive (R253, R506) -/

section
variable {s t : State} {x : Nat}

theorem awakeTile_modTile (hx : x < 49) {f : Tile → Tile} (hf : ∀ y, y.role ≠ .dormant → (f y).role ≠ .dormant) (u : Nat)
    (h : tileRole s x ≠ .dormant) : tileRole (modTile u f s) x ≠ .dormant := by
  by_cases hu : x = u
  · subst hu
    rw [tileRole, tile_modTile hx]
    exact hf _ h
  · rw [tileRole, tile_modTile_ne hu]
    exact h

theorem awakeTile_stopTest (hx : x < 49) (u : Nat) (h : tileRole s x ≠ .dormant) : tileRole (stopTest u s) x ≠ .dormant :=
  awakeTile_modTile hx (f := fun y => { y with lastTest := 3, draining := false }) (fun _ hy => hy) u h

theorem awakeTile_abortTest (hx : x < 49) (u : Nat) (h : tileRole s x ≠ .dormant) : tileRole (abortTest u s) x ≠ .dormant := by
  unfold abortTest
  split_ifs
  · exact awakeTile_stopTest hx u h
  · exact h

theorem awakeTile_beginTest (hx : x < 49) (u : Nat) (h : tileRole s x ≠ .dormant) : tileRole (beginTest u s) x ≠ .dormant :=
  awakeTile_modTile hx (f := fun y => { y with
    role := .spareTesting, slot := none, spareSince := s.rink.nextOrder, draining := false }) (by simp) u h

theorem awakeTile_serveSlot (hx : x < 49) (u n : Nat) (h : tileRole s x ≠ .dormant) : tileRole (serveSlot u n s) x ≠ .dormant :=
  awakeTile_modTile hx (f := fun y => { y with role := .service, slot := some n }) (by simp) u (awakeTile_abortTest hx u h)

theorem serveSlot_serves (hx : x < 49) (n : Nat) (s : State) : tileRole (serveSlot x n s) x ≠ .dormant := by
  rw [serveSlot, setRole, tileRole, tile_modTile hx]
  simp

theorem awakeTile_spareTile (hx : x < 49) (u : Nat) (h : tileRole s x ≠ .dormant) : tileRole (spareTile u s) x ≠ .dormant := by
  unfold spareTile
  split
  · exact awakeTile_modTile hx (f := fun y => { y with
      role := .spareReady, slot := none, spareSince := s.rink.nextOrder, readySince := s.rink.nextOrder }) (by simp) u h
  · exact awakeTile_beginTest hx u h
  · exact awakeTile_beginTest hx u h
  · exact h

theorem spareTile_wakes (hx : x < 49) (s : State) : tileRole (spareTile x s) x ≠ .dormant := by
  by_cases h : tileRole s x = .dormant
  · have hready : tileRole (spareTile x s) x = .spareReady := by
      unfold spareTile
      rw [h]
      exact congrArg Tile.role (tile_modTile hx (fun y => { y with
        role := .spareReady, slot := none, spareSince := s.rink.nextOrder, readySince := s.rink.nextOrder }) s)
    rw [hready]
    simp
  · exact awakeTile_spareTile hx x h

theorem awakeTile_zeroRegion (hx : x < 49) (u : Nat) (r : Nat × Nat) (h : tileRole s x ≠ .dormant) :
    tileRole (zeroRegion u r s) x ≠ .dormant :=
  awakeTile_modTile hx (f := fun y => { y with sram := cellsZero y.sram r.1 r.2 }) (fun _ hy => hy) u h

theorem awakeTile_clearPatch (hx : x < 49) (n : Nat) (h : tileRole s x ≠ .dormant) : tileRole (clearPatch n s) x ≠ .dormant := by
  unfold clearPatch
  refine List.foldlRecOn _ _ (motive := fun u => tileRole u x ≠ .dormant) ?_ fun u hu v _ => ?_
  · exact h
  · exact awakeTile_modTile hx (f := fun y => { y with working := default, uncommitted := none }) (fun _ hy => hy) v
      (awakeTile_zeroRegion hx v _ (awakeTile_zeroRegion hx v _ hu))

theorem awakeTile_clearRink (hx : x < 49) (h : tileRole s x ≠ .dormant) : tileRole (clearRink s) x ≠ .dormant :=
  List.foldlRecOn _ _ (motive := fun u => tileRole u x ≠ .dormant) h fun _ hu n _ => awakeTile_clearPatch hx n hu

theorem mem_walkOrder : ∀ x < 49, x ∈ walkOrder := by decide

/-- A tile that a list of services names serves. -/
theorem foldl_serveSlot_wakes (hx : x < 49) {l : List (Nat × Nat)} {p : Nat × Nat} (hp : p ∈ l) (hpx : p.2 = x) (s : State) :
    tileRole (l.foldl (fun (t : State) p => serveSlot p.2 p.1 t) s) x ≠ .dormant :=
  foldl_establishes (P := fun u => tileRole u x ≠ .dormant) (k := p) (fun _ q hu => awakeTile_serveSlot hx q.2 q.1 hu)
    (fun u => by subst hpx; exact serveSlot_serves hx p.1 u) l s hp

theorem foldl_serveSlot_keeps (hx : x < 49) (l : List (Nat × Nat)) (h : tileRole s x ≠ .dormant) :
    tileRole (l.foldl (fun (t : State) p => serveSlot p.2 p.1 t) s) x ≠ .dormant :=
  List.foldlRecOn _ _ (motive := fun u => tileRole u x ≠ .dormant) h fun _ hu q _ => awakeTile_serveSlot hx q.2 q.1 hu

/-- No DORMANT tile is left where each is left over or assigned. -/
theorem driveTiles_awake (hx : x < 49) {spares : List Nat} {fresh : List (Nat × Nat)}
    (h : tileRole s x = .dormant → x ∈ spares ∨ ∃ p ∈ fresh, p.2 = x) : tileRole (driveTiles spares fresh s) x ≠ .dormant := by
  refine List.foldlRecOn _ _ (motive := fun u => tileRole u x ≠ .dormant) ?_ fun _ hu p _ => awakeTile_clearPatch hx p.1 hu
  by_cases hdormant : tileRole s x = .dormant
  · rcases h hdormant with hspare | ⟨p, hp, hpx⟩
    · exact foldl_serveSlot_keeps hx fresh (foldl_establishes (P := fun u => tileRole u x ≠ .dormant)
        (fun _ v hu => awakeTile_spareTile hx v hu) (fun u => spareTile_wakes hx u) spares s hspare)
    · exact foldl_serveSlot_wakes hx hp hpx _
  · exact foldl_serveSlot_keeps hx fresh (List.foldlRecOn _ _ (motive := fun u => tileRole u x ≠ .dormant) hdormant
      fun _ hu v _ => awakeTile_spareTile hx v hu)

/-- The entry into Drive leaves no tile DORMANT. -/
theorem enterDriveTiles_awake (hx : x < 49) (failed : List Nat) (s : State) : tileRole (enterDriveTiles failed s) x ≠ .dormant := by
  obtain ⟨spares, fresh, f, heq, htiles, hnamed⟩ := enterDriveTiles_eq failed s
  have hawake := driveTiles_awake (spares := spares) (fresh := fresh) (s := wakeTiles failed s) hx fun hdormant =>
    hnamed x (mem_walkOrder x hx) (by simp [tileWorks, hx, hdormant]) hdormant
  have hrole : tileRole (newGeneration (modRink f (driveTiles spares fresh (wakeTiles failed s)))) x =
      tileRole (driveTiles spares fresh (wakeTiles failed s)) x :=
    congrArg (fun v => (vget v x).role) (htiles _)
  rw [heq, hrole]
  exact hawake

end

end Sys2Proof.Machine
end

section
/-! The state that a completed change of posture leaves (O54; R96, R173, R182, R505, R506). -/

namespace Sys2Proof.Machine

/-! ## Settings and device time that stay -/

section
variable {s t : State}

/-- The period of Sentry's ticks is set as before. -/
def SentryKept (s t : State) : Prop := setting t 0x0208 0 = setting s 0x0208 0

theorem SentryKept.trans {u : State} (h : SentryKept s t) (h' : SentryKept t u) : SentryKept s u := Eq.trans h' h

theorem sentryKept_of_frame {l : List Part} (h : ChangesOnly l s t) (hl : Part.settings ∉ l) : SentryKept s t :=
  h.setting_eq hl 0x0208 0

theorem sentryKept_putSetting {op idx : Nat} (h : settingKey 0x0208 0 ≠ settingKey op idx) (b : Bytes) (s : State) :
    SentryKept s (putSetting op idx b s) := setting_putSetting_ne h b s

theorem sentryKept_activate (i p : Nat) (s : State) : SentryKept s (activate i p s) := by
  have hplans : ∀ f, SentryKept s (modPlans f s) := fun f => sentryKept_of_frame (changesOnly_modPlans f s) (by simp)
  unfold activate
  extract_lets s1 b
  split_ifs
  · exact (hplans _).trans (sentryKept_putSetting (by simp [settingKey]) _ s1)
  · exact hplans _

theorem sentryKept_landSwap (s : State) : SentryKept s (landSwap s) := by
  unfold landSwap
  split
  · exact (((sentryKept_of_frame (changesOnly_modPlans _ s) (by simp)).trans (sentryKept_activate _ _ _)).trans
      (sentryKept_of_frame (changesOnly_buildRays _) (by simp))).trans
      (sentryKept_of_frame (changesOnly_concludeKey _ _ _ _ _) (by simp))
  · exact rfl

theorem sentryKept_setNewAnchor (s : State) : SentryKept s (setNewAnchor s) := by
  unfold setNewAnchor
  extract_lets seq s1 s2 s3
  have h2 : SentryKept s s2 := (sentryKept_of_frame (changesOnly_modAlign _ s) (by simp)).trans
    (sentryKept_of_frame (changesOnly_modRink _ s1) (by simp))
  have h3 : SentryKept s2 s3 := by
    show SentryKept s2 (if isSet s2 0x0504 0 then putSetting 0x0504 0 (1 :: (setting s2 0x0504 0).drop 1) s2 else s2)
    split_ifs
    · exact sentryKept_putSetting (by simp [settingKey]) _ s2
    · exact rfl
  exact (h2.trans h3).trans (sentryKept_of_frame (changesOnly_modPeers _ s3) (by simp))

theorem ChangesOnly.dev_firstValid {l : List Part} (h : ChangesOnly l s t) (hl : Part.device ∉ l) :
    t.dev.firstValid = s.dev.firstValid := by
  have hdev : Part.device.same s t := h .device hl
  have hvalid := congrArg Dev.firstValid hdev
  exact hvalid

end

/-! ## The state with which RUN begins (R137, R182, R230) -/

section
variable {s : State}

theorem setNewAnchor_sets (s : State) : (setNewAnchor s).align.anchorSet = true := by
  unfold setNewAnchor
  extract_lets seq s1 s2 s3
  have halign : s3.align = s2.align := by
    show (if isSet s2 0x0504 0 then putSetting 0x0504 0 (1 :: (setting s2 0x0504 0).drop 1) s2 else s2).align = s2.align
    split_ifs <;> rfl
  exact congrArg Align.anchorSet halign

/-- A new anchor is set where one is due. -/
def anchorReady (s : State) : State := if newAnchorDue s then setNewAnchor s else s

theorem anchorReady_sets (s : State) : (anchorReady s).align.anchorSet = true := by
  unfold anchorReady
  split_ifs with hdue
  · exact setNewAnchor_sets s
  · simp only [newAnchorDue, Bool.or_eq_true, not_or, Bool.not_eq_true'] at hdue
    simpa using hdue.1

theorem sentryKept_anchorReady (s : State) : SentryKept s (anchorReady s) := by
  unfold anchorReady
  split_ifs
  · exact sentryKept_setNewAnchor s
  · exact rfl

/-- The lidars take the templates in force. -/
def templatesTaken (s : State) : State :=
  (List.range 8).foldl (fun (t : State) l => modLidar l (fun (x : Lidar) => { x with
    template := if isSet t 0x0404 l then vget t.ingest.templates (fld (setting t 0x0404 l) 128 8) else x.template }) t) s

theorem changesOnly_templatesTaken (s : State) : ChangesOnly [.ingest] s (templatesTaken s) :=
  changesOnly_foldl (fun t l => changesOnly_modLidar l _ t) _ s

/-- No region is exported. -/
def exportClosed (s : State) : State := { s with memory := { s.memory with exportRegion := [] } }

theorem changesOnly_exportClosed (s : State) : ChangesOnly [.memory] s (exportClosed s) := by
  rw [changesOnly_iff]
  simp [Part.same, exportClosed]

/-- The cell size in force. -/
def cellSizeTaken (s : State) : State :=
  modRink (fun (r : Rink) => { r with cellCode := fld (setting s 0x0700 0) 0 4 }) s

theorem enterRunState_eq (s : State) : enterRunState s = peersEnterRun (freshTrust (modRink (fun (r : Rink) =>
    { r with previousSource := none, mismatch := none, nextSource := none })
    (exportClosed (templatesTaken (anchorReady (cellSizeTaken s)))))) := rfl

theorem freshTrust_anchor (s : State) : (freshTrust s).align.anchorSet = s.align.anchorSet := rfl

theorem enterRunState_spec (s : State) : (enterRunState s).align.anchorSet = true ∧ (enterRunState s).memory.exportRegion = [] ∧
    SentryKept s (enterRunState s) := by
  have hready := anchorReady_sets (cellSizeTaken s)
  have hkept : SentryKept s (anchorReady (cellSizeTaken s)) :=
    (sentryKept_of_frame (changesOnly_modRink _ s) (by simp)).trans (sentryKept_anchorReady _)
  rw [enterRunState_eq]
  generalize anchorReady (cellSizeTaken s) = u at *
  have htaken := changesOnly_templatesTaken u
  generalize templatesTaken u = v at *
  have hclosed := changesOnly_exportClosed v
  have hpeers := changesOnly_peersEnterRun (freshTrust (modRink (fun (r : Rink) =>
    { r with previousSource := none, mismatch := none, nextSource := none }) (exportClosed v)))
  have halign : (peersEnterRun (freshTrust (modRink (fun (r : Rink) =>
    { r with previousSource := none, mismatch := none, nextSource := none }) (exportClosed v)))).align = _ := hpeers .align (by simp)
  have hmemory : (peersEnterRun (freshTrust (modRink (fun (r : Rink) =>
    { r with previousSource := none, mismatch := none, nextSource := none }) (exportClosed v)))).memory = _ := hpeers .memory (by simp)
  refine ⟨?_, ?_, (hkept.trans (sentryKept_of_frame htaken (by simp))).trans (((sentryKept_of_frame hclosed (by simp)).trans
    (sentryKept_of_frame (changesOnly_modRink _ _) (by simp))).trans ((sentryKept_of_frame (changesOnly_freshTrust _) (by simp)).trans
    (sentryKept_of_frame hpeers (by simp))))⟩
  · rw [halign, freshTrust_anchor]
    exact (congrArg Align.anchorSet (htaken .align (by simp))).trans hready
  · rw [hmemory]
    rfl

end

/-! ## The ticks and fusion of the posture (R96, R173) -/

section
variable {s : State}

theorem programSyncs_nextTick (f : Dts) (s : State) : (programSyncs f s).time.nextTick = s.time.nextTick := by
  unfold programSyncs
  refine List.foldlRecOn _ _ (motive := fun u : State => u.time.nextTick = s.time.nextTick) rfl fun u hu r _ => ?_
  refine Eq.trans ?_ hu
  cases (sourceActive u r && csiTriggered (csiBlock u r)) with
  | false => rfl
  | true => cases syncOutput u r <;> rfl

/-- The instant from which the posture's fusion counts. -/
def fusionCounted (f : Dts) (s : State) : State := modAlign (fun (a : Align) => { a with fusionFrom := f, votedFrames := 0 }) s

theorem fusionCounted_keeps (f : Dts) (s : State) : (fusionCounted f s).time = s.time ∧
    (fusionCounted f s).align.anchorSet = s.align.anchorSet := ⟨rfl, rfl⟩

theorem fusionStarted_some (f : Dts) (s : State) : fusionStarted (some f) s = programSyncs f (fusionCounted f s) := rfl

theorem fusionStarted_none (s : State) : fusionStarted none s = fusionCounted (now s) s := rfl

theorem fusionStarted_keeps (f : Option Dts) (s : State) : (fusionStarted f s).time.nextTick = s.time.nextTick ∧
    (fusionStarted f s).align.anchorSet = s.align.anchorSet := by
  cases f with
  | none =>
    obtain ⟨htime, hanchor⟩ := fusionCounted_keeps (now s) s
    rw [fusionStarted_none, htime, hanchor]
    exact ⟨rfl, rfl⟩
  | some f =>
    obtain ⟨htime, hanchor⟩ := fusionCounted_keeps f s
    have halign : (programSyncs f (fusionCounted f s)).align = (fusionCounted f s).align :=
      changesOnly_programSyncs f _ .align (by simp)
    rw [fusionStarted_some, programSyncs_nextTick, htime, halign, hanchor]
    exact ⟨rfl, rfl⟩

theorem judgeImus_anchor (s : State) : (judgeImus s).align.anchorSet = s.align.anchorSet := by
  unfold judgeImus
  split <;> rfl

/-- The ticks' period of a posture in ms. -/
def postureMs (sentry : Bool) (s : State) : Nat := if sentry then fld (setting s 0x0208 0) 0 8 else 1

theorem startPostureTicks_spec (sentry : Bool) (s : State) :
    (startPostureTicks sentry s).time.nextTick = some (nextMultiple (postureMs sentry s * msUnits) (now s)) := by
  unfold startPostureTicks
  extract_lets ms t stale s1 s2
  show s2.time.nextTick = _
  show (if stale then modGlide _ s1 else s1).time.nextTick = _
  split_ifs <;> rfl

/-- A posture whose ticks and fusion start. -/
def postureStarted (sentry : Bool) (s : State) : State := judgeImus (startFusion (startPostureTicks sentry s))

theorem postureStarted_spec (sentry : Bool) (s : State) :
    (postureStarted sentry s).time.nextTick = some (nextMultiple (postureMs sentry s * msUnits) (now s)) ∧
    (postureStarted sentry s).align.anchorSet = s.align.anchorSet ∧
    ChangesOnly [.time, .glide, .safety, .align, .patrol] s (postureStarted sentry s) := by
  have hticks := startPostureTicks_spec sentry s
  have hframe := changesOnly_startPostureTicks sentry s
  have halign : (startPostureTicks sentry s).align = s.align := hframe .align (by simp)
  unfold postureStarted
  generalize startPostureTicks sentry s = u at *
  rw [startFusion_eq]
  obtain ⟨hnext, hanchor⟩ := fusionStarted_keeps (firstFusion u (now u)) u
  have hfusion := changesOnly_fusionStarted (firstFusion u (now u)) u
  generalize fusionStarted (firstFusion u (now u)) u = v at *
  have hjudge := changesOnly_judgeImus v
  have htime : (judgeImus v).time = v.time := hjudge .time (by simp)
  exact ⟨by rw [htime, hnext, hticks], by rw [judgeImus_anchor, hanchor, halign],
    ((hframe.mono (by simp)).step (hfusion.mono (by simp))).step (hjudge.mono (by simp))⟩

end

/-! ## The change (R505, R506) -/

section
variable {s : State} {target : Nat} {failed : List Nat}

/-- Frames, a swap and a migration that end with the posture left. -/
def postureLeft (s : State) : State := withdrawSyncs (abortMigration (landSwap (abandonFrames s)))

theorem postureLeft_spec (s : State) : SentryKept s (postureLeft s) ∧ now (postureLeft s) = now s ∧
    ChangesOnly [.rink, .point, .glide, .align, .ingest, .safety, .plans, .settings, .flight, .time] s (postureLeft s) := by
  have h1 := changesOnly_abandonFrames s
  have h2 := changesOnly_landSwap (abandonFrames s)
  have h3 := changesOnly_abortMigration (landSwap (abandonFrames s))
  have hsentry := ((sentryKept_of_frame h1 (by simp)).trans (sentryKept_landSwap _)).trans (sentryKept_of_frame h3 (by simp))
  have hframe : ChangesOnly [.rink, .point, .glide, .align, .ingest, .safety, .plans, .settings, .flight] s
      (abortMigration (landSwap (abandonFrames s))) :=
    ((h1.mono (by simp)).step (h2.mono (by simp))).step (h3.mono (by simp))
  unfold postureLeft
  generalize abortMigration (landSwap (abandonFrames s)) = u at *
  have h4 := changesOnly_withdrawSyncs u
  exact ⟨hsentry.trans (sentryKept_of_frame h4 (by simp)), (show now (withdrawSyncs u) = now u from rfl).trans
    (hframe.now_eq (by simp)), (hframe.mono (by simp)).step (h4.mono (by simp))⟩

/-- The device state of the posture entered. -/
def postureEntered (target : Nat) (setup : Bool) (s : State) : State :=
  modDev (fun (d : Dev) => { d with
    state := .run, posture := postureOf target, autoDue := false, firstValid := if setup then false else d.firstValid }) s

/-- The tiles, the variant and the checkers of the posture. -/
def postureTiles (target : Nat) (failed : List Nat) (s : State) : State :=
  let s4 := refreshFits ((activeSlot s).getD 0) (target - 1) (modRink (fun (r : Rink) => { r with reducePending := false }) s)
  if target == 2 then restSources (enterSentryTiles (applyLadder s4))
  else runInjection false 0 (applyLadder (enterDriveTiles failed s4))

theorem changesOnly_postureTiles (target : Nat) (failed : List Nat) (s : State) :
    ChangesOnly [.rink, .plans, .ingest, .patrol, .safety] s (postureTiles target failed s) := by
  unfold postureTiles
  extract_lets s4
  have h4 : ChangesOnly [.rink, .plans, .ingest, .patrol, .safety] s s4 :=
    ((changesOnly_modRink _ s).mono (by simp)).step ((changesOnly_refreshFits _ _ _).mono (by simp))
  refine changesOnly_ite (fun _ => ?_) fun _ => ?_
  · exact ((h4.step ((changesOnly_applyLadder s4).mono (by simp))).step ((changesOnly_enterSentryTiles _).mono (by simp))).step
      ((changesOnly_restSources _).mono (by simp))
  · exact ((h4.step ((changesOnly_enterDriveTiles failed s4).mono (by simp))).step ((changesOnly_applyLadder _).mono (by simp))).step
      ((changesOnly_runInjection _ _ _).mono (by simp))

theorem tileRole_congr {t : State} (h : t.rink = s.rink) (x : Nat) : tileRole t x = tileRole s x := by
  rw [tileRole, h, tileRole]

theorem postureTiles_awake {x : Nat} (hx : x < 49) (hdrive : target = 1) (failed : List Nat) (s : State) :
    tileRole (postureTiles target failed s) x ≠ .dormant := by
  subst hdrive
  unfold postureTiles
  extract_lets s4
  rw [if_neg (by simp)]
  have hawake := enterDriveTiles_awake hx failed s4
  generalize enterDriveTiles failed s4 = u at *
  have hladder : (applyLadder u).rink = u.rink := changesOnly_applyLadder u .rink (by simp)
  generalize applyLadder u = v at *
  rw [tileRole_congr (show (runInjection false 0 v).rink = v.rink from rfl), tileRole_congr hladder]
  exact hawake

/-- Patches cleared, and the rays of the plan in force. -/
def posturePatches (clear : Bool) (s : State) : State := buildRays (if clear then clearRink s else s)

theorem changesOnly_posturePatches (clear : Bool) (s : State) : ChangesOnly [.rink] s (posturePatches clear s) :=
  ChangesOnly.step (changesOnly_ite (fun _ => changesOnly_clearRink s) fun _ => .refl _ s) (changesOnly_buildRays _)

theorem posturePatches_awake {x : Nat} (hx : x < 49) (clear : Bool) (h : tileRole s x ≠ .dormant) :
    tileRole (posturePatches clear s) x ≠ .dormant := by
  show tileRole (if clear then clearRink s else s) x ≠ .dormant
  split_ifs
  · exact awakeTile_clearRink hx h
  · exact h

theorem completeChange_eq (target : Nat) (failed : List Nat) (s : State) : completeChange target failed s =
    postureStarted (target == 2) (posturePatches
      (s.dev.state == .setup && (newAnchorDue s || fld (setting s 0x0700 0) 0 4 != s.rink.cellCode))
      (postureTiles target failed (if s.dev.state == .setup then
        enterRunState (postureEntered target (s.dev.state == .setup) (postureLeft s))
      else postureEntered target (s.dev.state == .setup) (postureLeft s)))) := rfl

/-- The posture entered before its tiles. -/
def postureReached (target : Nat) (s : State) : State :=
  if s.dev.state == .setup then enterRunState (postureEntered target (s.dev.state == .setup) (postureLeft s))
  else postureEntered target (s.dev.state == .setup) (postureLeft s)

theorem postureReached_spec (target : Nat) (s : State) : (postureReached target s).dev.state = .run ∧
    (postureReached target s).dev.posture = postureOf target ∧ now (postureReached target s) = now s ∧
    SentryKept s (postureReached target s) ∧ (s.dev.state = .setup → (postureReached target s).dev.firstValid = false ∧
      (postureReached target s).align.anchorSet = true ∧ (postureReached target s).memory.exportRegion = []) := by
  obtain ⟨hkept, hnow, -⟩ := postureLeft_spec s
  unfold postureReached
  generalize postureLeft s = u at *
  have hdev : ∀ b, (postureEntered target b u).dev.state = .run ∧ (postureEntered target b u).dev.posture = postureOf target :=
    fun b => ⟨rfl, rfl⟩
  have hentered : ∀ b, SentryKept u (postureEntered target b u) := fun b => sentryKept_of_frame (changesOnly_modDev _ u) (by simp)
  by_cases hsetup : s.dev.state = .setup
  · rw [hsetup, beq_self_eq_true, if_pos rfl]
    obtain ⟨hanchor, hexport, hsentry⟩ := enterRunState_spec (postureEntered target true u)
    have hrun := changesOnly_enterRunState (postureEntered target true u)
    exact ⟨(hrun.dev_state (by simp)).trans (hdev true).1, (hrun.dev_posture (by simp)).trans (hdev true).2,
      (hrun.now_eq (by simp)).trans hnow, (hkept.trans (hentered true)).trans hsentry,
      fun _ => ⟨(hrun.dev_firstValid (by simp)).trans rfl, hanchor, hexport⟩⟩
  · have hfalse : (s.dev.state == DeviceState.setup) = false := by simpa using hsetup
    rw [hfalse, if_neg Bool.false_ne_true]
    exact ⟨rfl, rfl, hnow, hkept.trans (hentered false), fun h => absurd h hsetup⟩

/-- A completed change: state and posture, the first tick, and what the entry into RUN leaves. -/
theorem completeChange_spec (target : Nat) (failed : List Nat) (s : State) : (completeChange target failed s).dev.state = .run ∧
    (completeChange target failed s).dev.posture = postureOf target ∧
    (completeChange target failed s).time.nextTick =
      some (nextMultiple (postureMs (target == 2) s * msUnits) (now s)) ∧
    (target = 1 → ∀ x, x < 49 → tileRole (completeChange target failed s) x ≠ .dormant) ∧
    (s.dev.state = .setup → (completeChange target failed s).dev.firstValid = false ∧
      (completeChange target failed s).align.anchorSet = true ∧ (completeChange target failed s).memory.exportRegion = []) := by
  obtain ⟨hstate, hposture, hnow, hkept, hsetup⟩ := postureReached_spec target s
  rw [completeChange_eq]
  generalize hclear : (s.dev.state == .setup && (newAnchorDue s || fld (setting s 0x0700 0) 0 4 != s.rink.cellCode)) = clear
  have hreached : (if s.dev.state == .setup then enterRunState (postureEntered target (s.dev.state == .setup) (postureLeft s))
      else postureEntered target (s.dev.state == .setup) (postureLeft s)) = postureReached target s := rfl
  rw [hreached]
  generalize postureReached target s = u at *
  have htiles := changesOnly_postureTiles target failed u
  have hawake : target = 1 → ∀ x, x < 49 → tileRole (postureTiles target failed u) x ≠ .dormant :=
    fun htarget x hx => postureTiles_awake hx htarget failed u
  generalize postureTiles target failed u = v at *
  have hpatches := changesOnly_posturePatches clear v
  have hawake' : target = 1 → ∀ x, x < 49 → tileRole (posturePatches clear v) x ≠ .dormant :=
    fun htarget x hx => posturePatches_awake hx clear (hawake htarget x hx)
  generalize posturePatches clear v = w at *
  have hframe : ChangesOnly [.rink, .plans, .ingest, .patrol, .safety] u w := htiles.step (hpatches.mono (by simp))
  obtain ⟨hnext, hanchor, hstarted⟩ := postureStarted_spec (target == 2) w
  have hms : postureMs (target == 2) w = postureMs (target == 2) s := by
    rw [postureMs, show setting w 0x0208 0 = setting u 0x0208 0 from hframe.setting_eq (by simp) _ _,
      show setting u 0x0208 0 = setting s 0x0208 0 from hkept, postureMs]
  generalize postureStarted (target == 2) w = y at *
  have hrink : y.rink = w.rink := hstarted .rink (by simp)
  have hmemory : y.memory = u.memory := (hstarted .memory (by simp)).trans (hframe .memory (by simp))
  have halign : w.align = u.align := hframe .align (by simp)
  refine ⟨?_, ?_, ?_, fun htarget x hx => ?_, fun h => ?_⟩
  · rw [hstarted.dev_state (by simp), hframe.dev_state (by simp), hstate]
  · rw [hstarted.dev_posture (by simp), hframe.dev_posture (by simp), hposture]
  · rw [hnext, hms, hframe.now_eq (by simp), hnow]
  · rw [tileRole_congr hrink]
    exact hawake' htarget x hx
  · obtain ⟨hvalid, hset, hexport⟩ := hsetup h
    exact ⟨by rw [hstarted.dev_firstValid (by simp), hframe.dev_firstValid (by simp), hvalid],
      by rw [hanchor, halign, hset], by rw [hmemory, hexport]⟩

theorem execPostureChangeComplete_done {c : PostureChange} (ha : awake s = true) (hc : s.power.change = some c)
    (hfree : s.rink.frame = none) (hother : postureCode s.dev.posture ≠ c.target) (hthree : c.target ≠ 3)
    (hpowered : tilesPowered c s = true) :
    execPostureChangeComplete failed s = answer s (completeChange c.target failed s) := by
  unfold execPostureChangeComplete awakeAnswer
  rw [if_pos ha]
  dsimp only
  rw [hc]
  dsimp only
  rw [if_neg (by simp [hthree, hother, hfree, hpowered])]

theorem changeWaitsForTiles {c : PostureChange} (ha : awake s = true) (hc : s.power.change = some c)
    (hpowered : tilesPowered c s = false) : Completes (.postureChangeComplete failed) s fun t => ChangesOnly [] s t := by
  have heq : execPostureChangeComplete failed s = answer s s := by
    unfold execPostureChangeComplete awakeAnswer
    rw [if_pos ha]
    dsimp only
    rw [hc]
    dsimp only
    rw [if_pos (by simp [hpowered])]
  exact completes_of_answer ((exec_postureChangeComplete failed s).trans heq) ((ChangesOnly.refl [] s).settle s)

theorem driveEntered_spec (failed : List Nat) (s : State) : (completeChange 1 failed s).dev.state = .run ∧
    (completeChange 1 failed s).dev.posture = some .drive ∧
    (completeChange 1 failed s).time.nextTick = some (nextMultiple msUnits (now s)) ∧
    (∀ x, x < 49 → tileRole (completeChange 1 failed s) x ≠ .dormant) ∧
    (s.dev.state = .setup → (completeChange 1 failed s).dev.firstValid = false ∧
      (completeChange 1 failed s).align.anchorSet = true ∧ (completeChange 1 failed s).memory.exportRegion = []) := by
  obtain ⟨hstate, hposture, hnext, hawake, hsetup⟩ := completeChange_spec 1 failed s
  have hms : postureMs (1 == 2) s = 1 := if_neg (by simp)
  rw [hms, Nat.one_mul] at hnext
  exact ⟨hstate, hposture, hnext, hawake rfl, hsetup⟩

theorem sentryEntered_spec (failed : List Nat) (s : State) : (completeChange 2 failed s).dev.state = .run ∧
    (completeChange 2 failed s).dev.posture = some .sentry ∧
    (completeChange 2 failed s).time.nextTick = some (nextMultiple (fld (setting s 0x0208 0) 0 8 * msUnits) (now s)) := by
  obtain ⟨hstate, hposture, hnext, -, -⟩ := completeChange_spec 2 failed s
  have hms : postureMs (2 == 2) s = fld (setting s 0x0208 0) 0 8 := if_pos rfl
  rw [hms] at hnext
  exact ⟨hstate, hposture, hnext⟩

/-- Settling leaves a posture as it was entered. -/
theorem settle_posture {u : State} {p : Posture} {next : Dts} (hstate : u.dev.state = .run) (hposture : u.dev.posture = some p)
    (hnext : u.time.nextTick = some next) : (settle s u).dev.state = .run ∧ (settle s u).dev.posture = some p ∧
      (settle s u).time.nextTick = some next := by
  rw [settle_dev, settle_time]
  exact ⟨hstate, hposture, hnext⟩

theorem settle_driveTiles {u : State} (hawake : ∀ x, x < 49 → tileRole u x ≠ .dormant) (x : Nat) (hx : x < 49) :
    (vget (settle s u).rink.tiles x).role ≠ .dormant := by
  rw [settle_rink]
  exact hawake x hx

theorem settle_runBegun {u : State} (hvalid : u.dev.firstValid = false) (hanchor : u.align.anchorSet = true)
    (hexport : u.memory.exportRegion = []) : (settle s u).dev.firstValid = false ∧ (settle s u).align.anchorSet = true ∧
      (settle s u).memory.exportRegion = [] := by
  rw [settle_dev, settle_align, settle_memory]
  exact ⟨hvalid, hanchor, hexport⟩

theorem exec_change_done {c : PostureChange} (ha : awake s = true) (hc : s.power.change = some c)
    (hfree : s.rink.frame = none) (hother : postureCode s.dev.posture ≠ c.target) (htarget : c.target = target) (hthree : target ≠ 3)
    (hpowered : tilesPowered c s = true) :
    exec (.postureChangeComplete failed) s = answer s (completeChange target failed s) := by
  subst htarget
  exact (exec_postureChangeComplete failed s).trans (execPostureChangeComplete_done ha hc hfree hother hthree hpowered)

theorem driveIsEntered {c : PostureChange} (ha : awake s = true) (hc : s.power.change = some c)
    (hfree : s.rink.frame = none) (hother : postureCode s.dev.posture ≠ c.target) (hpowered : tilesPowered c s = true)
    (htarget : c.target = 1) : Completes (.postureChangeComplete failed) s fun t => t.dev.state = .run ∧
      t.dev.posture = some .drive ∧ t.time.nextTick = some (nextMultiple msUnits (now s)) ∧
      (∀ x, x < 49 → (vget t.rink.tiles x).role ≠ .dormant) ∧
      (s.dev.state = .setup → t.dev.firstValid = false ∧ t.align.anchorSet = true ∧ t.memory.exportRegion = []) := by
  obtain ⟨hstate, hposture, hnext, hawake, hsetup⟩ := driveEntered_spec failed s
  obtain ⟨hstate', hposture', hnext'⟩ := settle_posture (s := s) hstate hposture hnext
  refine completes_of_answer (exec_change_done ha hc hfree hother htarget (by simp) hpowered)
    ⟨hstate', hposture', hnext', settle_driveTiles hawake, fun h => ?_⟩
  obtain ⟨hvalid, hanchor, hexport⟩ := hsetup h
  exact settle_runBegun hvalid hanchor hexport

theorem sentryIsEntered {c : PostureChange} (ha : awake s = true) (hc : s.power.change = some c)
    (hfree : s.rink.frame = none) (hother : postureCode s.dev.posture ≠ c.target) (htarget : c.target = 2) :
    Completes (.postureChangeComplete failed) s fun t => t.dev.state = .run ∧ t.dev.posture = some .sentry ∧
      t.time.nextTick = some (nextMultiple (fld (setting s 0x0208 0) 0 8 * msUnits) (now s)) := by
  obtain ⟨hstate, hposture, hnext⟩ := sentryEntered_spec failed s
  exact completes_of_answer (exec_change_done ha hc hfree hother htarget (by simp) (by simp [tilesPowered, htarget]))
    (settle_posture (s := s) hstate hposture hnext)

end

end Sys2Proof.Machine
end

section
/-! The entry into Standby (O54; R94, R387, R417, R507, R508). -/

namespace Sys2Proof.Machine

/-! ## RUN is left for Standby (R507) -/

section
variable {s : State}

theorem now_leaveRun (s : State) : now (leaveRun s) = now s := by
  have hframe := (((changesOnly_stopFrames s).mono (show _ ⊆ [Part.ingest, .rink, .point, .align, .glide, .safety] by simp)).step
    ((changesOnly_abortMigration (stopFrames s)).mono (by simp))).step ((changesOnly_disarmAll _).mono (by simp))
  have hnow := hframe.now_eq (by simp)
  unfold leaveRun
  generalize disarmAll (abortMigration (stopFrames s)) = u at *
  exact Eq.trans (show now (withdrawSyncs u) = now u from rfl) hnow

/-- What ends with RUN where Standby follows. -/
def standbyStopped (s : State) : State := stopTicks (staticPins (clearTracks (dropLoading (landSwap (leaveRun s)))))

theorem stopTicks_spec (u : State) : (stopTicks (staticPins u)).time.nextTick = none ∧ now (stopTicks (staticPins u)) = now u ∧
    (stopTicks (staticPins u)).glide.store = u.glide.store ∧ (stopTicks (staticPins u)).align = u.align ∧
    (stopTicks (staticPins u)).safety.toggling = false ∧ (stopTicks (staticPins u)).safety.safeA = false ∧
    (stopTicks (staticPins u)).safety.safeB = false := ⟨rfl, rfl, rfl, rfl, rfl, rfl, rfl⟩

theorem standbyStopped_spec (s : State) : (standbyStopped s).time.nextTick = none ∧ now (standbyStopped s) = now s ∧
    (standbyStopped s).glide.store = [] ∧ (standbyStopped s).align.sets = [] ∧ (standbyStopped s).safety.toggling = false ∧
    (standbyStopped s).safety.safeA = false ∧ (standbyStopped s).safety.safeB = false := by
  have hover := runOver_landSwap (runOver_leaveRun s)
  have hnow := ((changesOnly_landSwap (leaveRun s)).now_eq (by simp)).trans (now_leaveRun s)
  unfold standbyStopped
  generalize landSwap (leaveRun s) = u at *
  have hloading := changesOnly_dropLoading u
  have hcleared := runOver_clearTracks (hover.of_frame hloading (by simp) (by simp))
  have hstore := clearTracks_store (dropLoading u)
  have hnow' := ((changesOnly_clearTracks (dropLoading u)).now_eq (by simp)).trans (hloading.now_eq (by simp))
  generalize clearTracks (dropLoading u) = v at *
  obtain ⟨hnext, hsame, hkept, halign, htoggle, hsafeA, hsafeB⟩ := stopTicks_spec v
  exact ⟨hnext, hsame.trans (hnow'.trans hnow), hkept.trans hstore, by rw [halign, hcleared.sets], htoggle, hsafeA, hsafeB⟩

theorem now_endForStandby (own : Option CmdKey) (s : State) : now (endForStandby own s) = now s := by
  have h1 := (changesOnly_safeSolver s).now_eq (by simp)
  have h2 := (reporting_deliverJobs (safeSolver s)).frame.now_eq (by simp)
  unfold endForStandby
  extract_lets s1
  have h3 := (changesOnly_endCommands (fun c => some c.key != own &&
    !(c.op == 0x0900 && s1.solver.ending.any (fun k => k == c.key))) s1).now_eq (by simp)
  exact ((changesOnly_dropFlashWork _).now_eq (by simp)).trans (h3.trans (h2.trans h1))

/-- The final reply is due, and the queues are to be read. -/
def standbyDraining (s : State) : State :=
  let s4 := modSafety (fun (x : Safety) => { x with injection := none })
    (setTime (fun (tb : TimeBase) => { tb with tsOut := tb.tsOut.map (fun (o : TsOut) => { o with stopped := true }) }) s)
  modPower (fun (p : Power) => { p with standby := some .draining, standbyFrom := now s4 }) s4

theorem standbyDraining_spec (u : State) : (standbyDraining u).power.standby = some .draining ∧
    (standbyDraining u).power.standbyFrom = now u ∧ (standbyDraining u).time.nextTick = u.time.nextTick ∧
    (standbyDraining u).glide = u.glide ∧ (standbyDraining u).align = u.align ∧
    (standbyDraining u).safety.toggling = u.safety.toggling ∧ (standbyDraining u).safety.safeA = u.safety.safeA ∧
    (standbyDraining u).safety.safeB = u.safety.safeB := ⟨rfl, rfl, rfl, rfl, rfl, rfl, rfl, rfl⟩

/-- The final reply of a command that asked for the change. -/
def changeConcluded (own : Option CmdKey) (s : State) : State :=
  match own with
  | some k => concludeKey k stDone 0 [] s
  | none => s

theorem changesOnly_changeConcluded (own : Option CmdKey) (s : State) : ChangesOnly [.flight] s (changeConcluded own s) := by
  cases own with
  | none => exact .refl _ s
  | some k => exact changesOnly_concludeKey k _ _ _ s

theorem leaveForStandby_eq (s : State) : leaveForStandby s = changeConcluded (s.power.change.bind (fun c => c.key))
    (standbyDraining (standbyStopped (endForStandby (s.power.change.bind (fun c => c.key)) s))) := rfl

theorem leaveForStandby_spec (s : State) : (leaveForStandby s).power.standby = some .draining ∧
    (leaveForStandby s).power.standbyFrom = now s ∧ (leaveForStandby s).time.nextTick = none ∧
    (leaveForStandby s).glide.store = [] ∧ (leaveForStandby s).safety.toggling = false ∧
    (leaveForStandby s).safety.safeA = false ∧ (leaveForStandby s).safety.safeB = false ∧ (leaveForStandby s).align.sets = [] := by
  rw [leaveForStandby_eq]
  generalize s.power.change.bind (fun c => c.key) = own
  have hnow := now_endForStandby own s
  generalize endForStandby own s = u at *
  obtain ⟨hnext, hsame, hstore, hsets, htoggle, hsafeA, hsafeB⟩ := standbyStopped_spec u
  generalize standbyStopped u = v at *
  obtain ⟨hstandby, hfrom, hnext', hglide, halign, htoggle', hsafeA', hsafeB'⟩ := standbyDraining_spec v
  generalize standbyDraining v = w at *
  have hframe := changesOnly_changeConcluded own w
  rw [show (changeConcluded own w).power = w.power from hframe .power (by simp),
    show (changeConcluded own w).time = w.time from hframe .time (by simp),
    show (changeConcluded own w).glide = w.glide from hframe .glide (by simp),
    show (changeConcluded own w).safety = w.safety from hframe .safety (by simp),
    show (changeConcluded own w).align = w.align from hframe .align (by simp)]
  exact ⟨hstandby, by rw [hfrom, hsame, hnow], by rw [hnext', hnext], by rw [hglide, hstore], by rw [htoggle', htoggle],
    by rw [hsafeA', hsafeA], by rw [hsafeB', hsafeB], by rw [halign, hsets]⟩

theorem runIsLeftForStandby (ha : awake s = true) (hstage : s.power.standby = some .commands)
    (hdue : s.power.standbyFrom + 50 * msUnits ≤ now s) (hfree : s.rink.frame = none) : Completes .standbyDrainTimeout s fun t =>
      t.power.standby = some .draining ∧ t.power.standbyFrom = now s ∧ t.time.nextTick = none ∧ t.glide.store = [] ∧
      t.safety.toggling = false ∧ t.safety.safeA = false ∧ t.safety.safeB = false ∧ t.align.sets = [] := by
  have hover : stageOver s = true := decide_eq_true hdue
  have heq : execStandbyDrainTimeout s = answer s (leaveForStandby s) := by
    unfold execStandbyDrainTimeout awakeAnswer
    rw [if_pos ha]
    dsimp only
    rw [hstage]
    dsimp only
    rw [hover, Bool.true_or, if_pos rfl, hfree, Option.isSome_none, if_neg Bool.false_ne_true]
  refine completes_of_answer ((exec_standbyDrainTimeout s).trans heq) ?_
  have hleft := leaveForStandby_spec s
  generalize leaveForStandby s = u at *
  rw [settle_power, settle_time, settle_glide, settle_safety, settle_align]
  exact hleft

end

/-! ## The device falls asleep (R508, R510) -/

section
variable {s : State}

/-- The configuration and the time are in retention SRAM. -/
def timeRetained (s : State) : State :=
  let s2 := keepConfig (configInForce (nextConfig s)) (nextConfig s)
  modSecurity (fun (x : Security) => { x with retention := { x.retention with bridge := some (now s2), training := true } }) s2

theorem timeRetained_bridge (s : State) : (timeRetained s).security.retention.bridge = some (now s) := rfl

theorem discardQueues_security (s : State) : (discardQueues s).security = s.security := rfl

theorem coldUnits_spec (u : State) : (coldUnits u).memory.staging = [] ∧ (coldUnits u).memory.exportRegion = [] ∧
    (coldUnits u).align.history = [] ∧ (coldUnits u).security = u.security := ⟨rfl, rfl, rfl, rfl⟩

/-- The counter holds, and every domain but the always-on island has stopped. -/
def domainsStopped (at_ : Dts) (s : State) : State :=
  modPower (fun (p : Power) => { p with
      standby := some .asleep, change := none, plls := 0, onDemand := [], pmbusTries := 0, pmbusDone := false, coolFrom := none })
    (setTime (fun (tb : TimeBase) => { tb with running := false, bridgeFrom := at_ })
      (modDev (fun (d : Dev) => { d with state := .setup, posture := some .standby, firstValid := false }) s))

theorem domainsStopped_spec (at_ : Dts) (u : State) : (domainsStopped at_ u).power.standby = some .asleep ∧
    (domainsStopped at_ u).time.running = false ∧ (domainsStopped at_ u).power.plls = 0 ∧
    (domainsStopped at_ u).time.bridgeFrom = at_ ∧ (domainsStopped at_ u).memory = u.memory ∧
    (domainsStopped at_ u).align = u.align ∧ (domainsStopped at_ u).security = u.security := ⟨rfl, rfl, rfl, rfl, rfl, rfl, rfl⟩

/-- The port answers no more. -/
def portSilent (s : State) : State := { s with host := { s.host with port := { s.host.port with answersFrom := none } } }

theorem changesOnly_portSilent (s : State) : ChangesOnly [.port] s (portSilent s) := by
  rw [changesOnly_iff]
  simp [Part.same, portSilent]

theorem fallAsleep_eq (s : State) : fallAsleep s =
    portSilent (domainsStopped (now s) (coldUnits (discardQueues (timeRetained s)))) := rfl

theorem fallAsleep_spec (s : State) : (fallAsleep s).power.standby = some .asleep ∧ (fallAsleep s).time.running = false ∧
    (fallAsleep s).power.plls = 0 ∧ (fallAsleep s).security.retention.bridge = some (now s) ∧
    (fallAsleep s).time.bridgeFrom = now s ∧ (fallAsleep s).memory.staging = [] ∧ (fallAsleep s).memory.exportRegion = [] ∧
    (fallAsleep s).align.history = [] := by
  have hbridge : (discardQueues (timeRetained s)).security.retention.bridge = some (now s) := by
    rw [discardQueues_security, timeRetained_bridge]
  rw [fallAsleep_eq]
  generalize discardQueues (timeRetained s) = u at *
  obtain ⟨hstaging, hexport, hhistory, hsecurity⟩ := coldUnits_spec u
  generalize coldUnits u = v at *
  obtain ⟨hstandby, hrunning, hplls, hfrom, hmemory, halign, hkept⟩ := domainsStopped_spec (now s) v
  generalize domainsStopped (now s) v = w at *
  have hframe := changesOnly_portSilent w
  rw [show (portSilent w).power = w.power from hframe .power (by simp),
    show (portSilent w).time = w.time from hframe .time (by simp),
    show (portSilent w).security = w.security from hframe .security (by simp),
    show (portSilent w).memory = w.memory from hframe .memory (by simp),
    show (portSilent w).align = w.align from hframe .align (by simp)]
  exact ⟨hstandby, hrunning, hplls, by rw [hkept, hsecurity, hbridge], hfrom, by rw [hmemory, hstaging], by rw [hmemory, hexport],
    by rw [halign, hhistory]⟩

theorem awake_of_asleep {t : State} (h : t.power.standby = some .asleep) : awake t = false := by
  simp [awake, halted, h]

theorem deviceFallsAsleep (ha : awake s = true) (hstage : s.power.standby = some .draining) (hflight : s.host.flight = [])
    (hempty : queuesEmpty s = true) (hwake : s.power.wakeWaiting = none) : Completes .standbyEntryComplete s fun t =>
      t.power.standby = some .asleep ∧ t.time.running = false ∧ t.power.plls = 0 ∧
        t.security.retention.bridge = some (now s) ∧ t.time.bridgeFrom = now s ∧ t.memory.staging = [] ∧
        t.memory.exportRegion = [] ∧ t.align.history = [] ∧ awake t = false := by
  have heq : execStandbyEntryComplete s = answer s (fallAsleep s) := by
    unfold execStandbyEntryComplete awakeAnswer
    rw [if_pos ha]
    dsimp only
    rw [hstage, hflight, hempty, hwake]
    rfl
  refine completes_of_answer ((exec_standbyEntryComplete s).trans heq) ?_
  obtain ⟨hstandby, hrunning, hplls, hbridge, hfrom, hstaging, hexport, hhistory⟩ := fallAsleep_spec s
  generalize fallAsleep s = u at *
  have hasleep : awake (settle s u) = false := awake_of_asleep (by rw [settle_power]; exact hstandby)
  rw [settle_power, settle_time, settle_security, settle_memory, settle_align]
  exact ⟨hstandby, hrunning, hplls, hbridge, hfrom, hstaging, hexport, hhistory, hasleep⟩

end

end Sys2Proof.Machine
end

section
/-! What a start brings in from flash and retention SRAM: images, settings, the time (O54, O58; R83, R343, R510, R526, R528,
R529, R540, R580). -/

namespace Sys2Proof.Machine

/-! ## Work of a start -/

section
variable {s t u : State}

/-- What a start brings in: no command, no domain and no pin is touched, device time goes on, and what is reported is not
fatal. -/
structure StartWork (s t : State) : Prop where
  frame : ChangesOnly [.settings, .ingest, .patrol, .security, .align, .glide, .time, .ports, .plans] s t
  now : Machine.now t = Machine.now s
  count : t.time.count = s.time.count
  running : t.time.running = s.time.running
  reports : ∃ l, t.patrol = { s.patrol with wires := s.patrol.wires ++ l } ∧ ∀ r ∈ l, r.cls ≠ .fa
  bootTimeUs : t.security.bootTimeUs = s.security.bootTimeUs
  journal : t.security.configJournal = s.security.configJournal
  retention : t.security.retention = s.security.retention

theorem StartWork.refl (s : State) : StartWork s s :=
  ⟨.refl _ s, rfl, rfl, rfl, ⟨[], by simp, by simp⟩, rfl, rfl, rfl⟩

theorem StartWork.trans (h : StartWork s t) (h' : StartWork t u) : StartWork s u := by
  obtain ⟨l, hl, hnot⟩ := h.reports
  obtain ⟨l', hl', hnot'⟩ := h'.reports
  refine ⟨h.frame.step h'.frame, h'.now.trans h.now, h'.count.trans h.count, h'.running.trans h.running, ⟨l ++ l', ?_, ?_⟩,
    h'.bootTimeUs.trans h.bootTimeUs, h'.journal.trans h.journal, h'.retention.trans h.retention⟩
  · rw [hl', hl, List.append_assoc]
  · intro r hr
    rcases List.mem_append.mp hr with hr | hr
    · exact hnot r hr
    · exact hnot' r hr

theorem startWork_of_frame {l : List Part} (h : ChangesOnly l s t)
    (hl : l ⊆ [.settings, .ingest, .patrol, .security, .align, .glide, .time, .ports, .plans]) (htime : Part.time ∉ l)
    (hpatrol : Part.patrol ∉ l) (hsecurity : Part.security ∉ l) : StartWork s t := by
  have hsame : t.time = s.time := h .time htime
  have hkept : t.security = s.security := h .security hsecurity
  refine ⟨h.mono hl, h.now_eq htime, by rw [hsame], by rw [hsame], ⟨[], ?_, by simp⟩, by rw [hkept], by rw [hkept], by rw [hkept]⟩
  rw [show t.patrol = s.patrol from h .patrol hpatrol, List.append_nil]

theorem startWork_setTime {f : TimeBase → TimeBase} (hnow : now (setTime f s) = now s) (hcount : (f s.time).count = s.time.count)
    (hrun : (f s.time).running = s.time.running) : StartWork s (setTime f s) :=
  ⟨(changesOnly_setTime f s).mono (by simp), hnow, hcount, hrun, ⟨[], by simp [setTime], by simp⟩, rfl, rfl, rfl⟩

theorem startWork_modSecurity {f : Security → Security} (h : (f s.security).bootTimeUs = s.security.bootTimeUs ∧
    (f s.security).configJournal = s.security.configJournal ∧ (f s.security).retention = s.security.retention) :
    StartWork s (modSecurity f s) := by
  obtain ⟨hboot, hjournal, hretention⟩ := h
  exact ⟨(changesOnly_modSecurity f s).mono (by simp), rfl, rfl, rfl, ⟨[], by simp [modSecurity], by simp⟩, hboot, hjournal,
    hretention⟩

theorem startWork_report (src unit level : Nat) {cls : FaultClass} (hcls : cls ≠ .fa) (detail : Nat) (s : State) :
    StartWork s (report src unit level cls detail s) := by
  refine ⟨(changesOnly_report src unit level cls detail s).mono (by simp), rfl, rfl, rfl, ⟨[_], rfl, fun r hr => ?_⟩, rfl, rfl, rfl⟩
  rw [List.mem_singleton.mp hr]
  exact hcls

theorem startWork_foldl {α : Type} {f : State → α → State} (h : ∀ s x, StartWork s (f s x)) : ∀ (l : List α) (s : State),
    StartWork s (l.foldl f s)
  | [], s => .refl s
  | x :: l, s => (h s x).trans (startWork_foldl h l (f s x))

theorem startWork_ite {p : Prop} [Decidable p] (h : StartWork s t) (h' : StartWork s u) : StartWork s (if p then t else u) := by
  split_ifs
  · exact h
  · exact h'

/-! ## Images (R343, R526, R540) -/

theorem startWork_setFlash (kind slot : Nat) (st : SlotState) (s : State) : StartWork s (setFlash kind slot st s) := by
  unfold setFlash modFlash
  exact startWork_modSecurity ⟨rfl, rfl, rfl⟩

theorem startWork_bootFlag (i : Nat) (s : State) : StartWork s (bootFlag i s) := startWork_modSecurity ⟨rfl, rfl, rfl⟩

theorem startWork_useSlot (kind slot : Nat) (fallback : Bool) (s : State) : StartWork s (useSlot kind slot fallback s) :=
  (startWork_setFlash _ _ _ s).trans (startWork_setFlash _ _ _ _)

theorem startWork_selectImage (kind : Nat) (s : State) : StartWork s (selectImage kind s).1 := by
  have hbad : StartWork s (setFlash kind 0 .invalid (setFlash kind 1 .invalid s)) :=
    (startWork_setFlash _ _ _ s).trans (startWork_setFlash _ _ _ _)
  unfold selectImage
  split
  · exact hbad
  · extract_lets a
    split
    · exact startWork_useSlot _ _ _ s
    · split
      · exact ((startWork_bootFlag kind s).trans (startWork_report _ _ _ (by simp) _ _)).trans (startWork_useSlot _ _ _ _)
      · exact hbad

theorem startWork_activate (i p : Nat) (s : State) : StartWork s (activate i p s) :=
  startWork_of_frame (changesOnly_activate i p s) (by simp) (by simp) (by simp) (by simp)

theorem startWork_modPlanSlot (i : Nat) (f : PlanSlot → PlanSlot) (s : State) : StartWork s (modPlanSlot i f s) :=
  startWork_of_frame (changesOnly_modPlanSlot i f s) (by simp) (by simp) (by simp) (by simp)

/-- A plan that fits is active for the postures it serves. -/
def flashPlanTaken (img : Bytes) (fits : List VariantFit) (s : State) : State :=
  let s2 := modPlanSlot 0 (fun (_ : PlanSlot) => { image := img, loading := false, fits := fits }) s
  let s3 := if servesPosture (planSlot s2 0) 0 then activate 0 0 s2 else s2
  if servesPosture (planSlot s3 0) 1 then activate 0 1 s3 else s3

theorem startWork_flashPlanTaken (img : Bytes) (fits : List VariantFit) (s : State) : StartWork s (flashPlanTaken img fits s) := by
  unfold flashPlanTaken
  extract_lets s2 s3
  have h2 : StartWork s s2 := startWork_modPlanSlot 0 _ s
  have h3 : StartWork s2 s3 := startWork_ite (startWork_activate 0 0 s2) (.refl s2)
  exact startWork_ite ((h2.trans h3).trans (startWork_activate 0 1 s3)) (h2.trans h3)

theorem startWork_loadFlashPlan (s : State) : StartWork s (loadFlashPlan s) := by
  have hselect := startWork_selectImage 1 s
  unfold loadFlashPlan
  extract_lets had
  generalize selectImage 1 s = chosen at hselect ⊢
  rcases chosen with ⟨s1, _ | a⟩
  · exact startWork_ite ((hselect.trans (startWork_bootFlag 2 s1)).trans (startWork_report _ _ _ (by simp) _ _))
      (hselect.trans (startWork_bootFlag 2 s1))
  · dsimp only at hselect ⊢
    cases fitImage s1 (flashSlot s1 1 a).image with
    | none => exact (hselect.trans (startWork_bootFlag 2 s1)).trans (startWork_report _ _ _ (by simp) _ _)
    | some fits => exact hselect.trans (startWork_flashPlanTaken _ fits s1)

/-! ## The restore (R528, R529) -/

theorem startWork_putSetting (op idx : Nat) (b : Bytes) (s : State) : StartWork s (putSetting op idx b s) :=
  startWork_of_frame (changesOnly_putSetting op idx b s) (by simp) (by simp) (by simp) (by simp)

theorem startWork_modAlign (f : Align → Align) (s : State) : StartWork s (modAlign f s) :=
  startWork_of_frame (changesOnly_modAlign f s) (by simp) (by simp) (by simp) (by simp)

theorem startWork_modGlide (f : Glide → Glide) (s : State) : StartWork s (modGlide f s) :=
  startWork_of_frame (changesOnly_modGlide f s) (by simp) (by simp) (by simp) (by simp)

theorem startWork_of_ingest (h : ChangesOnly [.ingest] s t) : StartWork s t :=
  startWork_of_frame h (by simp) (by simp) (by simp) (by simp)

theorem startWork_takeSetting (op idx : Nat) (b : Bytes) (s : State) : StartWork s (takeSetting op idx b s) := by
  unfold takeSetting
  split
  · exact startWork_setTime rfl rfl rfl
  · exact startWork_setTime rfl rfl rfl
  · exact startWork_of_ingest (changesOnly_startSource _ _ s)
  · exact (startWork_of_ingest (changesOnly_modLidar _ _ s)).trans (startWork_of_ingest (changesOnly_startSource _ _ _))
  · exact startWork_of_ingest (changesOnly_startSource _ _ s)
  · exact startWork_of_ingest (changesOnly_startSource _ _ s)
  · exact startWork_of_ingest (changesOnly_startSource _ _ s)
  · exact startWork_modAlign _ s
  · exact startWork_modGlide _ s
  · exact startWork_modGlide _ s
  · exact startWork_modGlide _ s
  · exact .refl s

theorem startWork_restoreBlock (p : Nat × Bytes) (s : State) : StartWork s (restoreBlock p s) := by
  have hflag : ∀ i, StartWork s (modSecurity (fun (x : Security) => { x with bootFlags := setBit x.bootFlags i }) s) :=
    fun _ => startWork_modSecurity ⟨rfl, rfl, rfl⟩
  unfold restoreBlock
  extract_lets op
  split
  · exact (hflag 5).trans (startWork_report _ _ _ (by simp) _ _)
  · exact (startWork_putSetting _ _ _ s).trans (startWork_takeSetting _ _ _ _)

theorem startWork_restoreBulk (b : Nat × Nat × Nat) (s : State) : StartWork s (restoreBulk b s) := by
  have hflag : ∀ i, StartWork s (modSecurity (fun (x : Security) => { x with bootFlags := setBit x.bootFlags i }) s) :=
    fun _ => startWork_modSecurity ⟨rfl, rfl, rfl⟩
  unfold restoreBulk
  dsimp only
  split
  · split_ifs
    · exact startWork_of_ingest (changesOnly_modReceiver _ _ s)
    · exact startWork_of_ingest (changesOnly_templateKept _ _ s)
  · exact (hflag 4).trans (startWork_report _ _ _ (by simp) _ _)

/-- No setting has been accepted. -/
def settingsEmpty (s : State) : State := { s with settings := [] }

theorem changesOnly_settingsEmpty (s : State) : ChangesOnly [.settings] s (settingsEmpty s) := by
  rw [changesOnly_iff]
  simp [Part.same, settingsEmpty]

theorem startWork_takeDefaults (s : State) : StartWork s (takeDefaults s) :=
  ((startWork_of_frame (changesOnly_settingsEmpty s) (by simp) (by simp) (by simp) (by simp)).trans (startWork_modAlign _ _)).trans
    (startWork_modGlide _ _)

theorem startWork_ptpStart (s : State) : StartWork s (ptpStart s) :=
  startWork_of_frame (l := [.ports]) (changesOnly_foldl (fun t p => changesOnly_modPort p _ t) _ s) (by simp) (by simp) (by simp)
    (by simp)

theorem startWork_restoreFrom (c : SavedConfig) (s : State) : StartWork s (restoreFrom c s) := by
  unfold restoreFrom
  extract_lets s1 s2 s3
  have h1 : StartWork s s1 := (startWork_takeDefaults s).trans (startWork_foldl (fun t b => startWork_restoreBulk b t) c.bulk _)
  have h2 : StartWork s1 s2 := startWork_foldl (fun t p => startWork_restoreBlock p t) c.settings s1
  have h3 : StartWork s2 s3 := (startWork_ptpStart s2).trans (startWork_modAlign _ _)
  exact ((h1.trans h2).trans h3).trans (startWork_modSecurity ⟨rfl, rfl, rfl⟩)

/-- What is restored beside CONFIG_SOURCE. -/
def configBrought (s : State) : State :=
  match (chooseConfig s).1 with
  | some c => restoreFrom c s
  | none => modSecurity (fun (x : Security) => { x with configSeq := 0, autoRun := 0 }) (ptpStart (takeDefaults s))

theorem configRestore_eq (s : State) : configRestore s =
    modDev (fun (d : Dev) => { d with configSource := (chooseConfig s).2 }) (configBrought s) := by
  unfold configRestore configBrought
  rcases chooseConfig s with ⟨_ | c, n⟩ <;> rfl

theorem startWork_configBrought (s : State) : StartWork s (configBrought s) := by
  unfold configBrought
  split
  · exact startWork_restoreFrom _ s
  · exact ((startWork_takeDefaults s).trans (startWork_ptpStart _)).trans (startWork_modSecurity ⟨rfl, rfl, rfl⟩)

/-! ## The time (R83, R580) -/

theorem startWork_resumeTime (s : State) : StartWork s (resumeTime s) := by
  have hbridged : StartWork s (setTime (fun (tb : TimeBase) => { tb with bridged := false }) s) := startWork_setTime rfl rfl rfl
  have hadjust : ∀ d u, StartWork u (setTime (fun (tb : TimeBase) => { tb with lastAdjust := d }) u) :=
    fun _ _ => startWork_setTime rfl rfl rfl
  have hacquire : ∀ u, StartWork u (acquireSource u) := fun _ => startWork_setTime rfl rfl rfl
  unfold resumeTime
  dsimp only
  generalize setTime (fun (tb : TimeBase) => { tb with bridged := false }) s = u at *
  exact startWork_ite hbridged (startWork_ite ((hbridged.trans (hadjust _ u)).trans (hacquire _)) (hbridged.trans (hadjust _ u)))

/-- Device time at the count from which it is reckoned. -/
theorem now_of_baseCount (h : s.time.baseCount = s.time.count) : now s = s.time.offset := by
  have hsub : (s.time.count - s.time.baseCount).toNat = 0 := by rw [h, BitVec.sub_self]; rfl
  rw [now, timeAt, hsub, if_pos (Nat.two_pow_pos 71), countsTime, Nat.mul_assoc, Nat.zero_mul, Nat.zero_div, Nat.add_zero]

/-- Device time goes on, over a pause, from an instant. -/
structure ClockSame (s t : State) : Prop where
  now : Machine.now t = Machine.now s
  count : t.time.count = s.time.count
  running : t.time.running = s.time.running
  valid : t.time.valid = s.time.valid

/-- The time base as a holdover begins. -/
def clockHeld (s : State) : State :=
  setTime (fun tb =>
    { rebase tb tb.validFreq 0 with
      state := .holdover, phase := 0, goodRun := 0, badRun := 0,
      holdoverFrom := if s.time.state != .holdover then Machine.now s else tb.holdoverFrom,
      b0 := if s.time.state != .holdover then mag tb.lastError + 20 * nsUnits else tb.b0 }) s

theorem enterHoldover_eq (s : State) : enterHoldover s = if s.time.state != .holdover && inRun s then
    report (timeFault 17) 0 4 .ce 0 (clockHeld s) else clockHeld s := rfl

theorem clockHeld_time (s : State) : (clockHeld s).time.baseCount = (clockHeld s).time.count ∧
    (clockHeld s).time.offset = Machine.now s ∧ (clockHeld s).time.count = s.time.count ∧
    (clockHeld s).time.running = s.time.running ∧ (clockHeld s).time.valid = s.time.valid := ⟨rfl, rfl, rfl, rfl, rfl⟩

theorem clockSame_enterHoldover (s : State) : ClockSame s (enterHoldover s) := by
  have htime : (enterHoldover s).time = (clockHeld s).time := by
    rw [enterHoldover_eq]
    split_ifs <;> rfl
  obtain ⟨hbase, hoffset, hcount, hrun, hvalid⟩ := clockHeld_time s
  have hnow : now (clockHeld s) = now s := (now_of_baseCount hbase).trans hoffset
  exact ⟨by rw [now, htime, ← now, hnow], by rw [htime, hcount], by rw [htime, hrun], by rw [htime, hvalid]⟩

theorem reports_enterHoldover (s : State) : ∃ l, (enterHoldover s).patrol = { s.patrol with wires := s.patrol.wires ++ l } ∧
    ∀ r ∈ l, r.cls ≠ .fa := by
  rw [enterHoldover_eq]
  split_ifs
  · refine ⟨[_], rfl, fun r hr => ?_⟩
    rw [List.mem_singleton.mp hr]
    simp
  · exact ⟨[], by simp [clockHeld, setTime], by simp⟩

/-- Device time is set to an instant at the present count. -/
def timeBridged (x : Dts) (s : State) : State :=
  setTime (fun (tb : TimeBase) => { tb with
    offset := x, baseCount := tb.count, slew := 0, phase := 0, running := true, valid := true, bridged := true }) s

theorem timeBridged_time (x : Dts) (s : State) : (timeBridged x s).time.baseCount = (timeBridged x s).time.count ∧
    (timeBridged x s).time.offset = x ∧ (timeBridged x s).time.count = s.time.count ∧ (timeBridged x s).time.running = true ∧
    (timeBridged x s).time.valid = true := ⟨rfl, rfl, rfl, rfl, rfl⟩

/-- The bound grows by what the pause adds. -/
def boundGrown (e : Nat) (s : State) : State := setTime (fun (tb : TimeBase) => { tb with b0 := tb.b0 + e }) s

theorem boundGrown_clock (e : Nat) (s : State) : ClockSame s (boundGrown e s) := ⟨rfl, rfl, rfl, rfl⟩

theorem bridgeTime_eq (x : Dts) (n : Nat) (s : State) : ∃ e, bridgeTime x n s =
    boundGrown e (if (timeBridged (x + n * (secUnits / 32768)) s).time.state == .locked then
      enterHoldover (timeBridged (x + n * (secUnits / 32768)) s) else timeBridged (x + n * (secUnits / 32768)) s) :=
  ⟨_, rfl⟩

/-- Device time bridged over a pause (R83). -/
theorem bridgeTime_spec (x : Dts) (n : Nat) (s : State) : now (bridgeTime x n s) = x + n * (secUnits / 32768) ∧
    (bridgeTime x n s).time.count = s.time.count ∧ (bridgeTime x n s).time.running = true ∧
    (bridgeTime x n s).time.valid = true ∧ ChangesOnly [.time, .patrol] s (bridgeTime x n s) ∧
    ∃ l, (bridgeTime x n s).patrol = { s.patrol with wires := s.patrol.wires ++ l } ∧ ∀ r ∈ l, r.cls ≠ .fa := by
  obtain ⟨e, heq⟩ := bridgeTime_eq x n s
  rw [heq]
  generalize x + n * (secUnits / 32768) = y
  obtain ⟨hbase, hoffset, hcount, hrun, hvalid⟩ := timeBridged_time y s
  have hnow : now (timeBridged y s) = y := (now_of_baseCount hbase).trans hoffset
  have hset : ChangesOnly [.time, .patrol] s (timeBridged y s) := (changesOnly_setTime _ s).mono (by simp)
  have hpatrol : (timeBridged y s).patrol = s.patrol := rfl
  generalize timeBridged y s = u at *
  have hheld := clockSame_enterHoldover u
  have hreports := reports_enterHoldover u
  have hframe := changesOnly_enterHoldover u
  have hgrown := boundGrown_clock e
  have hbound : ∀ v, ChangesOnly [.time, .patrol] v (boundGrown e v) := fun v => (changesOnly_setTime _ v).mono (by simp)
  have hsame : ∀ v, (boundGrown e v).patrol = v.patrol := fun _ => rfl
  split_ifs
  · refine ⟨?_, ?_, ?_, ?_, (hset.step hframe).step (hbound _), ?_⟩
    · rw [(hgrown _).now, hheld.now, hnow]
    · rw [(hgrown _).count, hheld.count, hcount]
    · rw [(hgrown _).running, hheld.running, hrun]
    · rw [(hgrown _).valid, hheld.valid, hvalid]
    · rw [hsame, ← hpatrol]
      exact hreports
  · refine ⟨?_, ?_, ?_, ?_, hset.step (hbound _), [], ?_, by simp⟩
    · rw [(hgrown _).now, hnow]
    · rw [(hgrown _).count, hcount]
    · rw [(hgrown _).running, hrun]
    · rw [(hgrown _).valid, hvalid]
    · rw [hsame, hpatrol, List.append_nil]

end

end Sys2Proof.Machine
end

section
/-! Wake and the automatic entry into RUN (O54; R83, R508 to R510, R531). -/

namespace Sys2Proof.Machine

/-! ## What a wake has settled -/

section
variable {s t : State} {d : Dts} {n cause inp : Nat}

/-- A device that has woken: the wake is recorded and device time goes on. -/
structure Woken (d : Dts) (n cause inp : Nat) (t : State) : Prop where
  standby : t.power.standby = none
  count : t.power.wakeCount = n
  cause : t.power.wakeCause = cause
  input : t.power.wakeInput = inp
  last : t.power.lastWake = d
  running : t.time.running = true
  now : Machine.now t = d

theorem Woken.of_clock (h : Woken d n cause inp s) (hpower : t.power = s.power) (hnow : Machine.now t = Machine.now s)
    (hrun : t.time.running = s.time.running) : Woken d n cause inp t := by
  obtain ⟨hstandby, hcount, hcause, hinput, hlast, hrunning, hat⟩ := h
  exact ⟨by rw [hpower, hstandby], by rw [hpower, hcount], by rw [hpower, hcause], by rw [hpower, hinput], by rw [hpower, hlast],
    by rw [hrun, hrunning], by rw [hnow, hat]⟩

theorem Woken.of_frame (h : Woken d n cause inp s) {l : List Part} (hf : ChangesOnly l s t) (hpower : Part.power ∉ l)
    (htime : Part.time ∉ l) : Woken d n cause inp t :=
  h.of_clock (hf .power hpower) (hf.now_eq htime) (congrArg TimeBase.running (hf .time htime))

theorem Woken.of_startWork (h : Woken d n cause inp s) (hwork : StartWork s t) : Woken d n cause inp t :=
  h.of_clock (hwork.frame .power (by simp)) hwork.now hwork.running

/-- A change of power that leaves the record of the wake. -/
theorem Woken.modPower (h : Woken d n cause inp s) {f : Power → Power} (hf : ∀ p, (f p).standby = p.standby ∧
    (f p).wakeCount = p.wakeCount ∧ (f p).wakeCause = p.wakeCause ∧ (f p).wakeInput = p.wakeInput ∧
    (f p).lastWake = p.lastWake) : Woken d n cause inp (modPower f s) := by
  obtain ⟨hstandby, hcount, hcause, hinput, hlast⟩ := hf s.power
  exact ⟨hstandby.trans h.standby, hcount.trans h.count, hcause.trans h.cause, hinput.trans h.input, hlast.trans h.last,
    h.running, h.now⟩

theorem running_leaveRun (s : State) : (leaveRun s).time.running = s.time.running := by
  have hframe := (((changesOnly_stopFrames s).mono (show _ ⊆ [Part.ingest, .rink, .point, .align, .glide, .safety] by simp)).step
    ((changesOnly_abortMigration (stopFrames s)).mono (by simp))).step ((changesOnly_disarmAll _).mono (by simp))
  have htime : (disarmAll (abortMigration (stopFrames s))).time = s.time := hframe .time (by simp)
  unfold leaveRun
  generalize disarmAll (abortMigration (stopFrames s)) = u at *
  exact Eq.trans (show (withdrawSyncs u).time.running = u.time.running from rfl) (congrArg TimeBase.running htime)

/-- The changes that the entry into SAFE abandons. -/
def changesDropped (s : State) : State :=
  modPower (fun (p : Power) => { p with change := none, standby := none, wakeWaiting := none }) s

theorem safeStopped_eq (s : State) : safeStopped s = deliverJobs (safeSolver (modPlans (fun (p : Plans) => { p with swap := none })
    (dropLoading (safeGlide (leaveRun (changesDropped s)))))) := rfl

theorem Woken.changesDropped (h : Woken d n cause inp s) : Woken d n cause inp (changesDropped s) :=
  ⟨rfl, h.count, h.cause, h.input, h.last, h.running, h.now⟩

theorem Woken.safeStopped (h : Woken d n cause inp s) : Woken d n cause inp (safeStopped s) := by
  rw [safeStopped_eq]
  have hdropped := h.changesDropped
  generalize Machine.changesDropped s = u at *
  have hleft : Woken d n cause inp (leaveRun u) :=
    hdropped.of_clock (changesOnly_leaveRun u .power (by simp)) (now_leaveRun u) (running_leaveRun u)
  generalize leaveRun u = v at *
  have hframe := ((((changesOnly_safeGlide v).mono (show _ ⊆ [Part.glide, .safety, .plans, .solver, .flight, .align, .patrol]
    by simp)).step ((changesOnly_dropLoading _).mono (by simp))).step
    ((changesOnly_modPlans (fun (p : Plans) => { p with swap := none }) _).mono (by simp))).step
    ((changesOnly_safeSolver _).mono (by simp)) |>.step ((reporting_deliverJobs _).frame.mono (by simp))
  exact hleft.of_frame hframe (by simp) (by simp)

theorem startTicks_clock (s : State) : now (startTicks s) = now s ∧ (startTicks s).time.running = s.time.running := by
  unfold startTicks
  split_ifs
  · exact ⟨rfl, rfl⟩
  · exact ⟨rfl, rfl⟩

theorem Woken.safeMarked (h : Woken d n cause inp s) : Woken d n cause inp (safeMarked s) := by
  have hended := h.of_frame ((changesOnly_endCommands (endsInSafe s) s).comp (changesOnly_dropFlashWork _)) (by simp) (by simp)
  unfold Machine.safeMarked
  extract_lets keep
  generalize dropFlashWork (endCommands (endsInSafe s) s) = u at *
  obtain ⟨hnow, hrun⟩ := startTicks_clock u
  have hticks : Woken d n cause inp (startTicks u) := hended.of_clock (changesOnly_startTicks u .power (by simp)) hnow hrun
  exact hticks.of_frame (changesOnly_modSecurity _ _) (by simp) (by simp)

/-- The entry into SAFE leaves the wake recorded. -/
theorem Woken.enterSafe (h : Woken d n cause inp s) (at_ : Dts) : Woken d n cause inp (enterSafe true at_ s) := by
  have hbegun : Woken d n cause inp (safeBegun s) := h.of_frame (changesOnly_safeBegun s) (by simp) (by simp)
  rw [enterSafe_eq, if_pos rfl]
  split_ifs
  · exact h
  · have hmarked := hbegun.safeStopped.safeMarked
    generalize Machine.safeMarked (Machine.safeStopped (safeBegun s)) = u at *
    have hannounced := hmarked.of_frame (t := safeAnnounced at_ u) (changesOnly_modSafety _ u) (by simp) (by simp)
    exact hannounced.of_frame (changesOnly_modPatrol _ _) (by simp) (by simp)

theorem Woken.report (h : Woken d n cause inp s) (src unit level : Nat) (cls : FaultClass) (detail : Nat) :
    Woken d n cause inp (report src unit level cls detail s) :=
  h.of_frame (changesOnly_report _ _ _ _ _ s) (by simp) (by simp)

theorem changesOnly_refuseAuto (r : Refuse) (s : State) : ChangesOnly [.security, .patrol] s (refuseAuto r s) :=
  (((changesOnly_modSecurity _ s).mono (by simp)).step ((changesOnly_report _ _ _ _ _ _).mono (by simp))).step
    ((changesOnly_notice _ _).mono (by simp))

theorem Woken.beginChange (h : Woken d n cause inp s) (target : Nat) (key : Option CmdKey) :
    Woken d n cause inp (beginChange target key s) := by
  have hbegun := h.modPower (f := fun p => { p with change := some { target := target, key := key, since := Machine.now s } })
    (fun _ => ⟨rfl, rfl, rfl, rfl, rfl⟩)
  unfold Machine.beginChange
  extract_lets s1
  split_ifs
  · exact hbegun.of_frame (changesOnly_abandonFrames s1) (by simp) (by simp)
  · exact hbegun

theorem Woken.enterRunItself (h : Woken d n cause inp s) (target : Nat) : Woken d n cause inp (enterRunItself target s) := by
  unfold Machine.enterRunItself
  split
  · exact h.of_frame (changesOnly_refuseAuto _ s) (by simp) (by simp)
  · split
    · exact h.of_frame (changesOnly_refuseAuto _ s) (by simp) (by simp)
    · exact h.beginChange target none

end

/-! ## The resume (R83, R508 to R510) -/

section
variable {s t : State} {cause inp periods : Nat}

/-- The wake is recorded. -/
def wakeRecorded (cause inp : Nat) (s : State) : State :=
  modPower (fun (p : Power) => { p with
    standby := none, wakeWaiting := none, wakeCause := cause, wakeInput := inp, lastWake := now s,
    wakeCount := bump p.wakeCount, plls := 31, faInStandby := false }) s

theorem woken_wakeRecorded (hrun : s.time.running = true) : Woken (now s) (bump s.power.wakeCount) cause inp
    (wakeRecorded cause inp s) := ⟨rfl, rfl, rfl, rfl, rfl, hrun, rfl⟩

/-- The port and the memory channels start. -/
def wakePorts (training : Bool) (s : State) : State := { s with
  host := { s.host with port := { s.host.port with answersFrom := some (countNow s + 2000 * countsPerUs) } },
  memory := { s.memory with channels := s.memory.channels.map (fun (c : Channel) => { c with fromRetention := training }) } }

theorem changesOnly_wakePorts (training : Bool) (s : State) : ChangesOnly [.port, .memory] s (wakePorts training s) := by
  rw [changesOnly_iff]
  simp [Part.same, wakePorts]

theorem Woken.tryTarget {d : Dts} {n : Nat} (h : Woken d n cause inp s) : Woken d n cause inp (tryTarget s) :=
  (h.modPower (f := fun p => { p with pmbusAt := countNow s }) (fun _ => ⟨rfl, rfl, rfl, rfl, rfl⟩)).of_frame
    (changesOnly_emit _ _) (by simp) (by simp)

theorem Woken.sendTarget {d : Dts} {n : Nat} (h : Woken d n cause inp s) : Woken d n cause inp (sendTarget s) :=
  (h.modPower (f := fun p => { p with pmbusTries := 0, pmbusDone := false }) (fun _ => ⟨rfl, rfl, rfl, rfl, rfl⟩)).tryTarget

/-- The wake of a device whose time is bridged: it is recorded, the port and the memory start, and the target goes out. -/
def wokenFrom (training : Bool) (cause inp : Nat) (u : State) : State :=
  notice causeState (sendTarget (modSecurity (fun (x : Security) => { x with bootFlags := 0 })
    (wakePorts training (modDev (fun (d : Dev) => { d with posture := none }) (wakeRecorded cause inp u)))))

theorem woken_wokenFrom (training : Bool) {u : State} (hrun : u.time.running = true) :
    Woken (now u) (bump u.power.wakeCount) cause inp (wokenFrom training cause inp u) := by
  have hrecorded := woken_wakeRecorded (cause := cause) (inp := inp) hrun
  have hports := (hrecorded.of_frame (changesOnly_modDev (fun (d : Dev) => { d with posture := none }) _) (by simp)
    (by simp)).of_frame (changesOnly_wakePorts training _) (by simp) (by simp)
  have hflags := hports.of_frame (changesOnly_modSecurity (fun (x : Security) => { x with bootFlags := 0 }) _) (by simp) (by simp)
  exact hflags.sendTarget.of_frame (changesOnly_notice causeState _) (by simp) (by simp)

theorem wokenFrom_security (training : Bool) (cause inp : Nat) (u : State) :
    (wokenFrom training cause inp u).security = { u.security with bootFlags := 0 } := rfl

/-- The device as it has woken, before its firmware is verified. -/
def wokenUp (cause inp periods : Nat) (s : State) : State :=
  wokenFrom s.security.retention.training cause inp (bridgeTime s.time.bridgeFrom periods s)

theorem woken_wokenUp (cause inp periods : Nat) (s : State) :
    Woken (s.time.bridgeFrom + periods * (secUnits / 32768)) (bump s.power.wakeCount) cause inp (wokenUp cause inp periods s) := by
  obtain ⟨hnow, -, hrun, -, hframe, -⟩ := bridgeTime_spec s.time.bridgeFrom periods s
  have hwoken := woken_wokenFrom (cause := cause) (inp := inp) s.security.retention.training hrun
  rw [hnow, hframe .power (by simp)] at hwoken
  exact hwoken

theorem wokenUp_security (cause inp periods : Nat) (s : State) :
    (wokenUp cause inp periods s).security = { s.security with bootFlags := 0 } := by
  obtain ⟨-, -, -, -, hframe, -⟩ := bridgeTime_spec s.time.bridgeFrom periods s
  rw [wokenUp, wokenFrom_security, hframe .security (by simp)]

/-- Settings, time and plan are brought in. -/
def wakeBrought (s : State) : State :=
  let keep (x : Retention) : Retention := { x with training := true }
  loadFlashPlan (resumeTime (configRestore (modSecurity (fun (x : Security) => { x with retention := keep x.retention }) s)))

/-- Supplies that are out of range at the wake are reported. -/
def suppliesReported (down : List Nat) (s : State) : State :=
  down.foldl (fun (t : State) n => report (sourceOf 0x0F 2 n) 0 5 .fa 0 t) s

/-- The resume with a firmware that verifies; `old` is the state in Standby. -/
def wakeContinued (old s : State) : State :=
  let s7 := suppliesReported ([0, 1, 3, 5].filter (fun n => bitOf old.power.outOfRange n)) (wakeBrought s)
  if old.power.faInStandby then enterSafe true (now s7) s7 else enterRunItself old.power.wakePosture s7

/-- The resume goes on where the firmware verifies, and ends in SAFE where none does. -/
def wakeVerified (old : State) (chosen : State × Option Nat) : State :=
  match chosen.2 with
  | none => enterSafe true (now chosen.1) (report (securityFault 0) 0 5 .fa 0 chosen.1)
  | some _ => wakeContinued old chosen.1

theorem wakeVerified_none (old : State) {chosen : State × Option Nat} (hnone : chosen.2 = none) : wakeVerified old chosen =
    enterSafe true (now chosen.1) (report (securityFault 0) 0 5 .fa 0 chosen.1) := by
  rw [wakeVerified, hnone]

theorem wakeVerified_some (old : State) {chosen : State × Option Nat} (hsome : chosen.2 ≠ none) :
    wakeVerified old chosen = wakeContinued old chosen.1 := by
  obtain ⟨a, ha⟩ := Option.ne_none_iff_exists'.mp hsome
  rw [wakeVerified, ha]

theorem resume_eq (cause inp periods : Nat) (s : State) :
    resume cause inp periods s = wakeVerified s (selectImage 0 (wokenUp cause inp periods s)) := by
  have hverified : ∀ chosen : State × Option Nat, wakeVerified s chosen = match chosen with
      | (t, none) => enterSafe true (now t) (report (securityFault 0) 0 5 .fa 0 t)
      | (t, some _) => wakeContinued s t := by
    rintro ⟨t, _ | a⟩ <;> rfl
  rw [hverified]
  unfold resume wokenUp
  generalize bridgeTime s.time.bridgeFrom periods s = u
  rfl

theorem Woken.wakeBrought {d : Dts} {n : Nat} (h : Woken d n cause inp s) : Woken d n cause inp (wakeBrought s) := by
  have hkept := h.of_frame (changesOnly_modSecurity (fun (x : Security) =>
    { x with retention := { x.retention with training := true } }) s) (by simp) (by simp)
  unfold Machine.wakeBrought
  dsimp only
  generalize modSecurity (fun (x : Security) => { x with retention := { x.retention with training := true } }) s = u at *
  have hbrought := hkept.of_startWork (startWork_configBrought u)
  rw [configRestore_eq]
  have hdev := hbrought.of_frame (changesOnly_modDev (fun (x : Dev) => { x with configSource := (chooseConfig u).2 }) _) (by simp)
    (by simp)
  exact (hdev.of_startWork (startWork_resumeTime _)).of_startWork (startWork_loadFlashPlan _)

theorem Woken.wakeContinued {d : Dts} {n : Nat} (old : State) (h : Woken d n cause inp s) :
    Woken d n cause inp (wakeContinued old s) := by
  have hframe : ∀ l u, ChangesOnly [.patrol] u (suppliesReported l u) := fun l u =>
    changesOnly_foldl (fun t n => changesOnly_report _ _ _ _ _ t) l u
  unfold Machine.wakeContinued
  extract_lets s7
  have h7 : Woken d n cause inp s7 := h.wakeBrought.of_frame (hframe _ _) (by simp) (by simp)
  split_ifs
  · exact h7.enterSafe _
  · exact h7.enterRunItself _

/-- The resume records the wake and bridges device time. -/
theorem woken_resume (cause inp periods : Nat) (s : State) :
    Woken (s.time.bridgeFrom + periods * (secUnits / 32768)) (bump s.power.wakeCount) cause inp (resume cause inp periods s) := by
  have hup := (woken_wokenUp cause inp periods s).of_startWork (startWork_selectImage 0 _)
  rw [resume_eq]
  by_cases hnone : (selectImage 0 (wokenUp cause inp periods s)).2 = none
  · rw [wakeVerified_none s hnone]
    exact (hup.report _ _ _ _ _).enterSafe _
  · rw [wakeVerified_some s hnone]
    exact hup.wakeContinued s

/-- Which image is chosen hangs on the journal, the slots and the keys. -/
theorem selectImage_congr (hjournal : t.security.configJournal = s.security.configJournal)
    (hslots : t.security.slots = s.security.slots) (hkeys : t.security.keys = s.security.keys) (kind : Nat) :
    (selectImage kind t).2 = (selectImage kind s).2 := by
  have hcommit : committedRecord t kind = committedRecord s kind := by rw [committedRecord, hjournal, committedRecord]
  have hfallback : fallbackRecord t kind = fallbackRecord s kind := by
    simp only [fallbackRecord, committedSlot, hcommit, hjournal]
  have hverifies : ∀ r, slotVerifies t kind r = slotVerifies s kind r := fun r => by
    simp only [slotVerifies, flashSlot_congr hslots, imageFault_congr hkeys]
  have hchoice : ∀ u : State, (selectImage kind u).2 = match committedRecord u kind with
      | none => none
      | some r => if slotVerifies u kind r then some (fld r.payload 8 8)
        else ((fallbackRecord u kind).filter (fun f => slotVerifies u kind f)).map (fun _ => 1 - fld r.payload 8 8) := by
    intro u
    unfold selectImage
    cases committedRecord u kind with
    | none => rfl
    | some r =>
      dsimp only
      by_cases hr : slotVerifies u kind r = true
      · rw [if_pos hr, if_pos hr]
      · rw [if_neg hr, if_neg hr]
        cases (fallbackRecord u kind).filter (fun f => slotVerifies u kind f) <;> rfl
  rw [hchoice, hchoice, hcommit, hfallback]
  simp only [hverifies]

theorem resume_safe (hfault : s.power.faInStandby = true ∨ (selectImage 0 s).2 = none) :
    (resume cause inp periods s).dev.state = .safe := by
  have hsame : (selectImage 0 (wokenUp cause inp periods s)).2 = (selectImage 0 s).2 := by
    have hsecurity := wokenUp_security cause inp periods s
    exact selectImage_congr (by rw [hsecurity]) (by rw [hsecurity]) (by rw [hsecurity]) 0
  rw [resume_eq]
  by_cases hnone : (selectImage 0 (wokenUp cause inp periods s)).2 = none
  · rw [wakeVerified_none s hnone]
    exact enterSafe_state _ _ _
  · have hfa := hfault.resolve_right (by rw [← hsame]; exact hnone)
    rw [wakeVerified_some s hnone, wakeContinued, if_pos hfa]
    exact enterSafe_state _ _ _

/-! ## Wake events -/

theorem wakeIsRefused (rising : Bool) (hno : wakeAllowed s cause inp rising periods = false) :
    Completes (.wakeEvent cause inp rising periods) s fun t => ChangesOnly [] s t := by
  have heq : wakeBy cause inp rising periods s = s := by
    rw [wakeBy, hno]
    simp
  refine completes_of_answer (u := s) ((exec_wakeEvent cause inp rising periods s).trans ?_) ((ChangesOnly.refl [] s).settle s)
  rw [execWakeEvent, heq]

theorem wakeBy_asleep {rising : Bool} (hreset : inReset s = false) (htrip : s.power.tripped = false)
    (hyes : wakeAllowed s cause inp rising periods = true) (hasleep : s.power.standby = some .asleep) :
    wakeBy cause inp rising periods s = resume cause (wakeInputOf cause inp) periods s := by
  unfold wakeBy
  extract_lets p
  rw [hreset, show p.tripped = false from htrip, hyes, if_neg (by simp), show p.standby = some .asleep from hasleep]

theorem deviceWakes {rising : Bool} (hreset : inReset s = false) (htrip : s.power.tripped = false)
    (hyes : wakeAllowed s cause inp rising periods = true) (hasleep : s.power.standby = some .asleep) {i : Instr}
    (hi : i = .wakeEvent cause inp rising periods ∨ i = .wakeTimerExpiry periods ∧ cause = 3) : Completes i s fun t =>
        t.power.standby = none ∧ t.power.wakeCount = bump s.power.wakeCount ∧ t.power.wakeCause = cause ∧
        t.power.wakeInput = (if cause = 2 then inp else 0xFF) ∧ t.time.running = true ∧
        t.power.lastWake = s.time.bridgeFrom + periods * (secUnits / 32768) ∧
        now t = s.time.bridgeFrom + periods * (secUnits / 32768) ∧
        ((s.power.faInStandby = true ∨ (selectImage 0 s).2 = none) → t.dev.state = .safe) := by
  have hexec : exec i s = answer s (resume cause (wakeInputOf cause inp) periods s) := by
    rcases hi with rfl | ⟨rfl, rfl⟩
    · exact (exec_wakeEvent cause inp rising periods s).trans (congrArg (answer s) (wakeBy_asleep hreset htrip hyes hasleep))
    · have hyes' : wakeAllowed s 3 0xFF false periods = true := hyes
      exact (exec_wakeTimerExpiry periods s).trans (congrArg (answer s) (wakeBy_asleep hreset htrip hyes' hasleep))
  obtain ⟨hstandby, hcount, hcause, hinput, hlast, hrun, hnow⟩ := woken_resume cause (wakeInputOf cause inp) periods s
  have hsafe := resume_safe (s := s) (cause := cause) (inp := wakeInputOf cause inp) (periods := periods)
  refine completes_of_answer hexec ?_
  generalize resume cause (wakeInputOf cause inp) periods s = u at *
  rw [now_settle, settle_power, settle_time, settle_dev]
  exact ⟨hstandby, hcount, hcause, hinput, hrun, hlast, hnow, hsafe⟩

end

/-! ## The automatic entry into RUN (R531) -/

section
variable {s : State}

/-- The automatic entry is under way. -/
def autoTaken (s : State) : State := modDev (fun (d : Dev) => { d with autoDue := false }) s

theorem execAutoEnterRun_due (ha : awake s = true) (hdue : s.dev.autoDue = true) (hsetup : s.dev.state = .setup)
    (hidle : s.power.change = none) (hgranted : lifecycleDenies s 0x0102 = false) : execAutoEnterRun s = answer s
      (match enterRefusal (autoTaken s) s.security.autoRun with
        | some r => refuseAuto r (autoTaken s)
        | none => beginChange s.security.autoRun none (autoTaken s)) := by
  have hgranted' : lifecycleDenies (autoTaken s) 0x0102 = false := hgranted
  unfold execAutoEnterRun awakeAnswer
  rw [if_pos ha]
  dsimp only
  rw [hdue, hsetup, hidle, if_pos (by simp), enterRunItself, show modDev (fun (d : Dev) => { d with autoDue := false }) s =
    autoTaken s from rfl, hgranted']
  cases enterRefusal (autoTaken s) s.security.autoRun <;> rfl

theorem ChangesOnly.dev_autoDue {t : State} {l : List Part} (h : ChangesOnly l s t) (hl : Part.device ∉ l) :
    t.dev.autoDue = s.dev.autoDue := by
  have hdev : Part.device.same s t := h .device hl
  have hauto := congrArg Dev.autoDue hdev
  exact hauto

theorem beginChange_spec (target : Nat) (key : Option CmdKey) (s : State) :
    (beginChange target key s).power.change = some { target := target, key := key, since := now s } ∧
    (beginChange target key s).dev.autoDue = s.dev.autoDue := by
  have hpower := changesOnly_modPower (fun (p : Power) => { p with change := some { target := target, key := key, since := now s } }) s
  unfold beginChange
  extract_lets s1
  split_ifs
  · have hframe := changesOnly_abandonFrames s1
    exact ⟨(congrArg Power.change (hframe .power (by simp))).trans rfl,
      (hframe.dev_autoDue (by simp)).trans (hpower.dev_autoDue (by simp))⟩
  · exact ⟨rfl, hpower.dev_autoDue (by simp)⟩

theorem runIsEnteredItself (ha : awake s = true) (hdue : s.dev.autoDue = true) (hsetup : s.dev.state = .setup)
    (hidle : s.power.change = none) (hgranted : lifecycleDenies s 0x0102 = false)
    (hnone : enterRefusal (autoTaken s) s.security.autoRun = none) : Completes .autoEnterRun s fun t => t.dev.autoDue = false ∧
      t.power.change = some { target := s.security.autoRun, key := none, since := now s } := by
  have heq := execAutoEnterRun_due ha hdue hsetup hidle hgranted
  rw [hnone] at heq
  refine completes_of_answer ((exec_autoEnterRun s).trans heq) ?_
  obtain ⟨hchange, hauto⟩ := beginChange_spec s.security.autoRun none (autoTaken s)
  dsimp only
  rw [settle_dev, settle_power]
  exact ⟨hauto.trans rfl, hchange⟩

theorem entryIsRefused {r : Refuse} (ha : awake s = true) (hdue : s.dev.autoDue = true) (hsetup : s.dev.state = .setup)
    (hidle : s.power.change = none) (hgranted : lifecycleDenies s 0x0102 = false)
    (hsome : enterRefusal (autoTaken s) s.security.autoRun = some r) : Completes .autoEnterRun s fun t => t.dev.autoDue = false ∧
      t.power = s.power ∧ bitOf t.security.bootFlags 3 = true ∧ ∃ x, t.patrol.wires = s.patrol.wires ++ [x] ∧
        x.source = sourceOf 0x01 0 0 ∧ x.cls = .ce ∧ x.detail = r.1 := by
  have heq := execAutoEnterRun_due ha hdue hsetup hidle hgranted
  rw [hsome] at heq
  refine completes_of_answer ((exec_autoEnterRun s).trans heq) ?_
  have hframe := changesOnly_refuseAuto r (autoTaken s)
  have hpower : (refuseAuto r (autoTaken s)).power = s.power := hframe .power (by simp)
  have hflags : (refuseAuto r (autoTaken s)).security.bootFlags = setBit s.security.bootFlags 3 := rfl
  dsimp only
  rw [settle_dev, settle_power, settle_security, settle_patrol, hpower, hflags, bitOf_setBit]
  refine ⟨(hframe.dev_autoDue (by simp)).trans rfl, rfl, by simp, _, rfl, rfl, rfl, rfl⟩

end

/-- Settles O54: each posture command, the completion of a change, the two stages into Standby, and the wake. -/
theorem posturesChange : Obligations.PosturesChange := by
  unfold Obligations.PosturesChange
  exact ⟨fun k c s hidle => ⟨fun h hdrive => runIsEntered hidle h hdrive, fun h hsame => postureStands hidle h hsame,
      fun h _ htarget => standbyBegins hidle h htarget, fun h hdrive htarget => sentryBegins hidle h hdrive htarget,
      fun h => setupIsEntered h⟩,
    fun failed c s ha hc hfree hother => ⟨fun hpowered => changeWaitsForTiles ha hc hpowered,
      fun hpowered htarget => driveIsEntered ha hc hfree hother hpowered htarget,
      fun htarget => sentryIsEntered ha hc hfree hother htarget⟩,
    fun s ha => ⟨fun hstage hdue hfree => runIsLeftForStandby ha hstage hdue hfree,
      fun hstage hflight hempty hwake => deviceFallsAsleep ha hstage hflight hempty hwake⟩,
    fun cause input periods rising s hreset htrip => ⟨fun hno => wakeIsRefused rising hno,
      fun hyes hasleep i hi => deviceWakes hreset htrip hyes hasleep hi⟩,
    fun s ha hdue hsetup hidle hgranted => ⟨fun hnone => runIsEnteredItself ha hdue hsetup hidle hgranted hnone,
      fun r hsome => entryIsRefused ha hdue hsetup hidle hgranted hsome⟩⟩

end Sys2Proof.Machine
end

section
/-! Resets (O58; R33, R59, R83, R259, R386, R457, R565, R566, R568, R580). -/

namespace Sys2Proof.Machine

/-! ## What a device reset ends and keeps -/

section
variable {s t : State} {cause : Nat}

/-- What ran has ended: without a reply, with EPOCH raised, and with log, marks and retired tiles kept. -/
def Ended (cause : Nat) (s t : State) : Prop :=
  t.dev.state = .boot ∧ t.dev.epoch = (s.dev.epoch + 1) % 2 ^ 32 ∧
    t.host.flight = [] ∧ t.host.reply.words = [] ∧ t.host.result.words = [] ∧ t.host.event.words = [] ∧
    t.safety.safeA = false ∧ t.safety.safeB = false ∧ t.safety.faultN = false ∧ t.patrol.log = s.patrol.log.map closedRecord ∧
    t.patrol.opens = [] ∧
    t.patrol.marks = (if s.security.retention.unitsLost then [] else s.patrol.marks) ∧ t.security.keys = s.security.keys ∧
    (∀ i, i < 49 → ((vget t.rink.tiles i).role = .retired ↔
      s.security.retention.unitsLost = false ∧ (vget s.rink.tiles i).role = .retired)) ∧
    t.pins.restartCause = (if s.security.retention.safeMarker then 4 else cause) ∧ t.tx = s.tx ∧ t.pending = s.pending

/-- A tile as a power-on leaves it. -/
def tileReset (i : Nat) : Tile :=
  if i < 48 then { (default : Tile) with slot := some i } else { (default : Tile) with role := .spareReady }

theorem tiles_reset : Rink.reset.tiles = Vector.ofFn (fun t : Fin 49 => tileReset t.val) := rfl

/-- No tile is retired in the state that a power-on leaves. -/
theorem role_reset {i : Nat} (hi : i < 49) : (vget Rink.reset.tiles i).role ≠ .retired := by
  rw [tiles_reset, vget_ofFn _ hi, tileReset]
  split_ifs
  · exact fun h => by cases h
  · exact fun h => by cases h

/-- Retirements persist (R259). -/
theorem role_keptTiles (r : Rink) {i : Nat} (hi : i < 49) :
    (vget (keptTiles r) i).role = .retired ↔ (vget r.tiles i).role = .retired := by
  rw [keptTiles, vget_ofFn _ hi]
  by_cases hretired : (vget r.tiles i).role = .retired
  · simp [hretired]
  · simp [hretired, role_reset hi]

theorem deviceReset_rink (cause : Nat) (s : State) : (deviceReset cause s).rink =
    if s.security.retention.unitsLost then Rink.reset else { Rink.reset with tiles := keptTiles s.rink } := rfl

theorem deviceReset_marks (cause : Nat) (s : State) : (deviceReset cause s).patrol =
    if s.security.retention.unitsLost then { keptPatrol s.patrol with marks := [] } else keptPatrol s.patrol := rfl

theorem role_deviceReset (cause : Nat) (s : State) {i : Nat} (hi : i < 49) :
    (vget (deviceReset cause s).rink.tiles i).role = .retired ↔
      s.security.retention.unitsLost = false ∧ (vget s.rink.tiles i).role = .retired := by
  rw [deviceReset_rink]
  cases s.security.retention.unitsLost with
  | true => simpa using role_reset hi
  | false => simpa using role_keptTiles s.rink hi

theorem ended_deviceReset (cause : Nat) (s : State) : Ended cause s (deviceReset cause s) := by
  have hpatrol := deviceReset_marks cause s
  refine ⟨rfl, rfl, rfl, rfl, rfl, rfl, rfl, rfl, rfl, ?_, ?_, ?_, rfl, fun i hi => role_deviceReset cause s hi, rfl, rfl, rfl⟩
  · rw [hpatrol]
    split_ifs <;> rfl
  · rw [hpatrol]
    split_ifs <;> rfl
  · rw [hpatrol]
    split_ifs <;> rfl

theorem Ended.settle (h : Ended cause s t) (o : State) : Ended cause s (settle o t) := by
  unfold Ended at *
  simpa using h

end

/-! ## PORST_N (R565, R568) -/

section
variable {s : State} {ns : Nat}

/-- A pulse between 200 ns and 1 µs draws whether it is taken. -/
def pulseDrawn (ns : Nat) (s : State) : State := if 200 < ns ∧ ns < 1000 then spent s else s

theorem pulseTaken_of_short (h : ns ≤ 200) (s : State) : pulseTaken s ns = false := if_pos h

theorem pulseTaken_of_long (h : 1000 ≤ ns) (s : State) : pulseTaken s ns = true := by
  rw [pulseTaken, if_neg (by omega), if_pos h]

theorem pulseDrawn_of_short (h : ns ≤ 200) (s : State) : pulseDrawn ns s = s := if_neg (by omega)

theorem pulseDrawn_of_long (h : 1000 ≤ ns) (s : State) : pulseDrawn ns s = s := if_neg (by omega)

theorem pulseDrawn_between (h : 200 < ns) (h' : ns < 1000) (s : State) : pulseDrawn ns s = spent s := if_pos ⟨h, h'⟩

theorem changesOnly_pulseDrawn (ns : Nat) (s : State) : ChangesOnly [.freeCount] s (pulseDrawn ns s) := by
  rw [changesOnly_iff, pulseDrawn]
  split_ifs
  · simp [Part.same, spent]
  · simp [Part.same]

/-- The state that a taken PORST_N leaves. -/
def porstTaken (d : Dts) (s : State) : State :=
  let s2 := deviceReset 1 (modSecurity (fun (x : Security) => { x with retention := { x.retention with bridge := some d } }) s)
  setTime (fun (tb : TimeBase) => { tb with running := false })
    (modPower (fun (p : Power) => { p with plls := 0, tripped := false })
      { s2 with pins := { s2.pins with porstN := false, released := false, booting := false } })

theorem porstTaken_ended (d : Dts) (s : State) : Ended 1 s (porstTaken d s) :=
  ended_deviceReset 1 (modSecurity (fun (x : Security) => { x with retention := { x.retention with bridge := some d } }) s)

theorem execPorstNAssert_pulse (ns : Nat) (s : State) : execPorstNAssert ns false s = answer s (
    if !s.pins.porstN || !pulseTaken s ns then pulseDrawn ns s
    else porstTaken (if s.power.standby == some .asleep then s.time.bridgeFrom else now s) (pulseDrawn ns s)) := rfl

theorem porstIgnored (h : ns ≤ 200) : Completes (.porstNAssert ns false) s fun t => ChangesOnly [] s t := by
  refine completes_of_answer (u := s) ((exec_porstNAssert ns false s).trans ?_) ((ChangesOnly.refl [] s).settle s)
  rw [execPorstNAssert_pulse, pulseTaken_of_short h, if_pos (by simp), pulseDrawn_of_short h]

theorem porstResets (h : 1000 ≤ ns) (hpin : s.pins.porstN = true) (hasleep : s.power.standby ≠ some .asleep) :
    Completes (.porstNAssert ns false) s fun t =>
      Ended 1 s t ∧ awake t = false ∧ t.time.running = false ∧ t.security.retention.bridge = some (now s) := by
  refine completes_of_answer (u := porstTaken (now s) s) ((exec_porstNAssert ns false s).trans ?_)
    ⟨(porstTaken_ended (now s) s).settle s, ?_, ?_, ?_⟩
  · rw [execPorstNAssert_pulse, pulseTaken_of_long h, hpin, if_neg (by simp), if_neg (by simpa using hasleep),
      pulseDrawn_of_long h]
  · simp [awake, inReset, porstTaken, setTime, modPower]
  · rw [settle_time]
    rfl
  · rw [settle_security]
    rfl

theorem freeCount_porstTaken (d : Dts) (s : State) : (porstTaken d s).freeCount = s.freeCount := rfl

/-- A pulse that may be taken or not. -/
theorem porstMayBeTaken (h : 200 < ns) (h' : ns < 1000) : Completes (.porstNAssert ns false) s fun t =>
    t.freeCount = s.freeCount + 1 ∧ (freeNat 1 s = 0 → ChangesOnly [.freeCount] s t) := by
  have hspent := changesOnly_pulseDrawn ns s
  rw [pulseDrawn_between h h'] at hspent
  by_cases htaken : (!s.pins.porstN || !pulseTaken s ns) = true
  · refine completes_of_answer (u := spent s) ((exec_porstNAssert ns false s).trans ?_) ⟨by rw [settle_freeCount]; rfl,
      fun _ => hspent.settle s⟩
    rw [execPorstNAssert_pulse, if_pos htaken, pulseDrawn_between h h']
  · refine completes_of_answer (u := porstTaken (if s.power.standby == some .asleep then s.time.bridgeFrom else now s) (spent s))
      ((exec_porstNAssert ns false s).trans ?_) ⟨?_, fun hfree => ?_⟩
    · rw [execPorstNAssert_pulse, if_neg htaken, pulseDrawn_between h h']
    · rw [settle_freeCount, freeCount_porstTaken]
      rfl
    · have hnot : pulseTaken s ns = false := by
        rw [pulseTaken, if_neg (by omega), if_neg (by omega), hfree]
        rfl
      exact absurd (by simp [hnot]) htaken

/-- The state that the loss of VDD_AON leaves. -/
def supplyLost (u : State) : State := powerOnReset { u with pins := { u.pins with porstN := false } }

theorem supplyLost_spec (u : State) : (supplyLost u).pins.porstN = false ∧ (supplyLost u).dev.epoch = 0 ∧
    (supplyLost u).patrol.log = [] ∧ (supplyLost u).security.retention = State.reset.security.retention ∧
    (supplyLost u).security.keys = u.security.keys ∧ (supplyLost u).security.lifeCycle = u.security.lifeCycle ∧
    (supplyLost u).security.configJournal = u.security.configJournal ∧
    (supplyLost u).security.eventJournal = u.security.eventJournal :=
  ⟨rfl, rfl, rfl, rfl, rfl, rfl, rfl, rfl⟩

theorem execPorstNAssert_lost (ns : Nat) (s : State) :
    execPorstNAssert ns true s = answer s (supplyLost (pulseDrawn ns s)) := rfl

/-- The loss of VDD_AON leaves fuses and flash. -/
theorem supplyIsLost : Completes (.porstNAssert ns true) s fun t => t.pins.porstN = false ∧ awake t = false ∧ t.dev.epoch = 0 ∧
    t.patrol.log = [] ∧ t.security.retention = State.reset.security.retention ∧ t.security.keys = s.security.keys ∧
    t.security.lifeCycle = s.security.lifeCycle ∧ t.security.configJournal = s.security.configJournal ∧
    t.security.eventJournal = s.security.eventJournal := by
  have hkept : (pulseDrawn ns s).security = s.security := changesOnly_pulseDrawn ns s .security (by simp)
  have hdone := (exec_porstNAssert ns true s).trans (execPorstNAssert_lost ns s)
  generalize pulseDrawn ns s = u at *
  obtain ⟨hpin, hepoch, hlog, hretention, hkeys, hcycle, hconfig, hevent⟩ := supplyLost_spec u
  rw [hkept] at hkeys hcycle hconfig hevent
  refine completes_of_answer hdone ?_
  generalize supplyLost u = v at *
  rw [settle_pins, settle_patrol, settle_security, settle_dev]
  exact ⟨hpin, by simp [awake, inReset, hpin], hepoch, hlog, hretention, hkeys, hcycle, hconfig, hevent⟩

/-! ## The effective release (R33, R64, R83) -/

/-- BOOT starts from a state whose time goes on. -/
def bootStarted (cause : Nat) (s : State) : State :=
  sendTarget (answerLater (modPower (fun (p : Power) => { p with plls := 31 })
    (modPeers (fun (p : Peers) => { p with samples := [], role := none })
      (modPins (fun (p : Pins) => { p with porstN := true, aonKept := true, released := true, booting := true, restartCause := cause })
        (modSecurity (fun (x : Security) => { x with retention := { x.retention with bridge := none } }) s)))))

theorem bootStarted_pins (cause : Nat) (u : State) : (bootStarted cause u).pins.released = true ∧
    (bootStarted cause u).pins.booting = true ∧ (bootStarted cause u).pins.restartCause = cause := ⟨rfl, rfl, rfl⟩

theorem time_sendTarget (s : State) : (sendTarget s).time = s.time := rfl

theorem host_sendTarget (s : State) : (sendTarget s).host = s.host := rfl

theorem tx_sendTarget (s : State) : (sendTarget s).tx = s.tx ++ [.pmbus 0x40 0 voutCommand] := rfl

theorem time_answerLater (s : State) : (answerLater s).time = s.time := rfl

theorem answersFrom_answerLater (s : State) :
    (answerLater s).host.port.answersFrom = some (countNow s + 2000 * countsPerUs) := rfl

theorem tx_answerLater (s : State) : (answerLater s).tx = s.tx := rfl

theorem bootStarted_role (cause : Nat) (u : State) : (bootStarted cause u).peers.role = none := rfl

theorem bootStarted_time (cause : Nat) (u : State) : (bootStarted cause u).time = u.time := by
  rw [bootStarted, time_sendTarget, time_answerLater]
  rfl

theorem bootStarted_answersFrom (cause : Nat) (u : State) :
    (bootStarted cause u).host.port.answersFrom = some (countNow u + 2000 * countsPerUs) := by
  rw [bootStarted, host_sendTarget, answersFrom_answerLater]
  rfl

theorem bootStarted_tx (cause : Nat) (u : State) : (bootStarted cause u).tx = u.tx ++ [.pmbus 0x40 0 voutCommand] := by
  rw [bootStarted, tx_sendTarget, tx_answerLater]
  rfl

/-- Device time at the release: bridged where the always-on island has kept its instant. -/
def timeReleased (n : Nat) (s : State) : State :=
  match s.pins.aonKept, s.security.retention.bridge with
  | true, some b => bridgeTime b n (countFromZero s)
  | _, _ => countFromZero s

theorem timeReleased_spec (n : Nat) (s : State) : (timeReleased n s).time.count = 0 ∧ (timeReleased n s).time.running = true ∧
    (timeReleased n s).tx = s.tx ∧ ∀ b, s.pins.aonKept = true → s.security.retention.bridge = some b →
      now (timeReleased n s) = b + n * (secUnits / 32768) ∧ (timeReleased n s).time.valid = true := by
  have hzero : (countFromZero s).time.count = 0 ∧ (countFromZero s).time.running = true ∧ (countFromZero s).tx = s.tx :=
    ⟨rfl, rfl, rfl⟩
  unfold timeReleased
  generalize countFromZero s = u at *
  obtain ⟨hcount, hrun, htx⟩ := hzero
  cases s.pins.aonKept with
  | false => exact ⟨hcount, hrun, htx, fun b h => absurd h (by simp)⟩
  | true =>
    cases s.security.retention.bridge with
    | none => exact ⟨hcount, hrun, htx, fun b _ h => absurd h (by simp)⟩
    | some b =>
      obtain ⟨hnow, hkept, hgoes, hvalid, hframe, -⟩ := bridgeTime_spec b n u
      refine ⟨hkept.trans hcount, hgoes, (show (bridgeTime b n u).tx = u.tx from hframe .tx (by simp)).trans htx, fun c _ hc => ?_⟩
      obtain rfl := Option.some.inj hc
      exact ⟨hnow, hvalid⟩

theorem execPorstNEffectiveRelease_eq (n : Nat) (h : s.pins.released = false) : execPorstNEffectiveRelease n s =
    answer s (bootStarted (if !s.pins.aonKept then 0 else s.pins.restartCause) (timeReleased n s)) := by
  rw [execPorstNEffectiveRelease, h, if_neg (by simp)]
  rfl

theorem bootStarts (n : Nat) (h : s.pins.released = false) : Completes (.porstNEffectiveRelease n) s fun t =>
    t.pins.released = true ∧ t.pins.booting = true ∧ countNow t = 0 ∧ t.time.running = true ∧ t.peers.role = none ∧
    t.host.port.answersFrom = some (2000 * countsPerUs) ∧ t.tx = s.tx ++ [.pmbus 0x40 0 voutCommand] ∧
    (s.pins.aonKept = false → t.pins.restartCause = 0) ∧
    ∀ b, s.pins.aonKept = true → s.security.retention.bridge = some b → now t = b + n * (secUnits / 32768) ∧
      t.time.valid = true := by
  obtain ⟨hcount, hrun, htx, hbridged⟩ := timeReleased_spec n s
  refine completes_of_answer ((exec_porstNEffectiveRelease n s).trans (execPorstNEffectiveRelease_eq n h)) ?_
  generalize timeReleased n s = u at *
  generalize hcauses : (if !s.pins.aonKept then 0 else s.pins.restartCause) = cause
  obtain ⟨hreleased, hbooting, hcause⟩ := bootStarted_pins cause u
  have htime := bootStarted_time cause u
  have hrole := bootStarted_role cause u
  have hanswers := bootStarted_answersFrom cause u
  have hsent := bootStarted_tx cause u
  have hzero : countNow u = 0 := by rw [countNow, hcount]; rfl
  generalize bootStarted cause u = v at *
  have hnow : now v = now u := by rw [now, htime, now]
  rw [countNow, now_settle, hnow, settle_pins, settle_time, settle_peers, settle_port, settle_tx, htime]
  refine ⟨hreleased, hbooting, hzero, hrun, hrole, ?_, by rw [hsent, htx], fun hkept => ?_, hbridged⟩
  · rw [hanswers, hzero, Nat.zero_add]
  · rw [hcause, ← hcauses, hkept]
    rfl

/-! ## WRST_N and RESET_DEVICE (R566, R33) -/

theorem wrstIsIgnored {n : Nat} (h : ns ≤ 200 ∨ s.pins.porstN = false) :
    Completes (.wrstNAssert ns n) s fun t => ChangesOnly [.freeCount] s t := by
  refine completes_of_answer ((exec_wrstNAssert ns n s).trans ?_) ((changesOnly_pulseDrawn ns s).settle s)
  have hnot : (!s.pins.porstN || !s.pins.released || !s.pins.wrstN || s.power.tripped || !pulseTaken s ns) = true := by
    rcases h with hshort | hpin
    · simp [pulseTaken, hshort]
    · simp [hpin]
  rw [execWrstNAssert, if_pos hnot]
  rfl

/-- The state that a taken WRST_N leaves. -/
def wrstTaken (s : State) : State :=
  modPower (fun (p : Power) => { p with plls := 31 })
    { deviceReset 2 s with pins := { (deviceReset 2 s).pins with wrstN := false, booting := false } }

theorem count_settleServo (s : State) : (settleServo s).time.count = s.time.count := by
  have hset : (setTime (fun (tb : TimeBase) => { rebase tb tb.freq 0 with phase := 0 }) s).time.count = s.time.count := rfl
  unfold settleServo
  extract_lets s1
  have h1 : s1.time.count = s.time.count := hset
  clear_value s1
  split
  · exact (clockSame_enterHoldover s1).count.trans h1
  · exact Eq.trans rfl h1
  · exact h1

theorem count_deviceReset (hcause : cause ≠ 1) (s : State) : (deviceReset cause s).time.count = s.time.count := by
  have hservo : (deviceReset cause s).time = keptTime (if cause = 1 then
      setTime (fun (tb : TimeBase) => { rebase tb tb.freq 0 with phase := 0 }) (modDev (fun (d : Dev) => { d with
        state := .boot, posture := none }) s)
    else settleServo (modDev (fun (d : Dev) => { d with state := .boot, posture := none }) s)).time := rfl
  rw [hservo, if_neg hcause]
  exact count_settleServo (modDev (fun (d : Dev) => { d with state := .boot, posture := none }) s)

theorem wrstResets {n : Nat} (h : 1000 ≤ ns) (hreset : inReset s = false) (hhalted : halted s = false) :
    Completes (.wrstNAssert ns n) s fun t =>
      Ended 2 s t ∧ t.pins.wrstN = false ∧ t.time.count = s.time.count ∧ t.peers.role = s.peers.role := by
  simp only [inReset, halted, Bool.or_eq_false_iff, Bool.not_eq_false'] at hreset hhalted
  obtain ⟨⟨hporst, hwrst⟩, hreleased⟩ := hreset
  obtain ⟨hasleep, htrip⟩ := hhalted
  have hended : Ended 2 s (wrstTaken s) := ended_deviceReset 2 s
  refine completes_of_answer (u := wrstTaken s) ((exec_wrstNAssert ns n s).trans ?_) ⟨hended.settle s, ?_, ?_, ?_⟩
  · rw [execWrstNAssert, pulseTaken_of_long h, hporst, hwrst, hreleased, htrip, hasleep, if_neg (show ¬(200 < ns ∧ ns < 1000) by omega)]
    rfl
  · rw [settle_pins]
    rfl
  · rw [settle_time]
    exact count_deviceReset (by decide) s
  · rw [settle_peers]
    rfl

theorem wrstIsReleased (hporst : s.pins.porstN = true) (hwrst : s.pins.wrstN = false) :
    Completes .wrstNRelease s fun t => t.pins.wrstN = true ∧ t.pins.booting = true ∧
      t.host.port.answersFrom = some (countNow s + 2000 * countsPerUs) ∧ ChangesOnly [.pins, .port] s t := by
  have hframe : ChangesOnly [.pins, .port] s (answerLater (modPins (fun (p : Pins) => { p with wrstN := true, booting := true }) s)) :=
    by
      rw [changesOnly_iff]
      simp [Part.same, answerLater, setPort, modPins]
  refine completes_of_answer ((exec_wrstNRelease s).trans ?_) ⟨?_, ?_, ?_, hframe.settle s⟩
  · rw [execWrstNRelease, hporst, hwrst, if_neg (by simp)]
  · rw [settle_pins]
    rfl
  · rw [settle_pins]
    rfl
  · rw [settle_port]
    rfl

theorem resetIsNotYetDue {d : Nat} (ha : awake s = true) (hdue : s.pins.resetDue = some d) (h : countNow s < d) :
    Completes .deviceResetStart s fun t => ChangesOnly [] s t := by
  refine completes_of_answer (u := s) ((exec_deviceResetStart s).trans ?_) ((ChangesOnly.refl [] s).settle s)
  rw [execDeviceResetStart, awakeAnswer, if_pos ha, hdue]
  dsimp only
  rw [if_pos h]

theorem deviceIsReset {d : Nat} (ha : awake s = true) (hdue : s.pins.resetDue = some d) (h : d ≤ countNow s) :
    Completes .deviceResetStart s fun t => Ended 3 s t ∧ t.pins.resetDue = none ∧ t.pins.booting = true ∧
      t.host.port.answersFrom = some (countNow s + 2000 * countsPerUs) := by
  have hended : Ended 3 s (answerLater (deviceReset 3 s)) := ended_deviceReset 3 s
  have hanswers : (answerLater (deviceReset 3 s)).host.port.answersFrom =
      some ((deviceReset 3 s).time.count.toNat + 2000 * countsPerUs) := rfl
  rw [count_deviceReset (by decide)] at hanswers
  refine completes_of_answer (u := answerLater (deviceReset 3 s)) ((exec_deviceResetStart s).trans ?_)
    ⟨hended.settle s, ?_, ?_, ?_⟩
  · rw [execDeviceResetStart, awakeAnswer, if_pos ha, hdue]
    dsimp only
    rw [if_neg (by omega)]
  · rw [settle_pins]
    rfl
  · rw [settle_pins]
    rfl
  · rw [settle_port]
    exact hanswers

end

end Sys2Proof.Machine
end

section
/-! The end of BOOT (O58; R386, R457, R526, R529, R531, R548). -/

namespace Sys2Proof.Machine

/-! ## RESTART and EPOCH records -/

section
variable {s t u : State}

theorem bufferRecord_bootTimeUs (type : Nat) (payload : Bytes) (s : State) :
    (bufferRecord type payload s).security.bootTimeUs = s.security.bootTimeUs := by
  unfold bufferRecord
  split_ifs
  · rfl
  · rfl
  · rfl

theorem restartRecord_length (s : State) : 0 < (restartRecord s).length := by
  simp only [restartRecord, resultPacket, resultHeader, pack, List.length_append, bytesOfNat_length]
  omega

/-- A packet that holds a byte holds a word. -/
theorem packWords_pos {b : Bytes} (h : 0 < b.length) : 0 < (packWords b).length := by
  rw [packWords, packWordsAux_length, wordsFor]
  omega

theorem sendPacket_result (b : Bytes) (s : State) : (sendPacket 2 b s).host.result.words =
    s.host.result.words ++ outWords (writeStart s 2) (cutOf s 2) (packWords b) := rfl

theorem length_openEpoch (s : State) : s.host.result.words.length < (openEpoch s).host.result.words.length := by
  have hbuffer := changesOnly_bufferRecord 0x03
    (bytesOfNat 4 s.dev.epoch ++ bytesOfNat 1 s.pins.restartCause ++ bytesOfNat 12 (dtsBits (restartInstant s)))
    (sendPacket 2 (restartRecord s) s)
  have hwords : (openEpoch s).host.result.words = (sendPacket 2 (restartRecord s) s).host.result.words :=
    field_of_core OutQueue.words (fun _ => rfl) (hbuffer .result (by simp))
  rw [hwords, sendPacket_result, List.length_append, outWords, List.length_map, List.length_zipIdx]
  have := packWords_pos (restartRecord_length s)
  omega

theorem changesOnly_openEpoch (s : State) : ChangesOnly [.result, .security, .power] s (openEpoch s) :=
  (((changesOnly_sendPacket (n := 2) (.inl rfl) (restartRecord s) s).mono (by simp)).step
    ((changesOnly_bufferRecord _ _ _).mono (by simp)))

theorem openEpoch_bootTimeUs (s : State) : (openEpoch s).security.bootTimeUs = s.security.bootTimeUs := by
  have hsent : (sendPacket 2 (restartRecord s) s).security = s.security :=
    changesOnly_sendPacket (n := 2) (.inl rfl) (restartRecord s) s .security (by simp)
  unfold openEpoch
  dsimp only
  rw [bufferRecord_bootTimeUs, hsent]

/-! ## BOOT ends (R386, R457) -/

theorem ChangesOnly.dev_configSource {l : List Part} (h : ChangesOnly l s t) (hl : Part.device ∉ l) :
    t.dev.configSource = s.dev.configSource := by
  have hdev : Part.device.same s t := h .device hl
  have hsource := congrArg Dev.configSource hdev
  exact hsource

/-- What the end of BOOT makes of the state in which its records are written. -/
def markerCleared (s : State) : State :=
  modSecurity (fun (x : Security) => { x with retention := { x.retention with safeMarker := false } })
    (modPins (fun (p : Pins) => { p with booting := false }) s)

theorem markerCleared_parts (s : State) : (markerCleared s).patrol = s.patrol ∧ (markerCleared s).pins.booting = false ∧
    (markerCleared s).security.bootTimeUs = s.security.bootTimeUs ∧
    (markerCleared s).security.retention.safeMarker = false ∧ (markerCleared s).dev = s.dev ∧
    (markerCleared s).host.result.words = s.host.result.words := ⟨rfl, rfl, rfl, rfl, rfl, rfl⟩

/-- BOOT is over: its records are written, the marker of SAFE is cleared. -/
def bootClosed (s : State) : State := markerCleared (openEpoch s)

theorem endBoot_eq (s : State) : endBoot s = if bootFatal (bootClosed s) then enterSafe true (now (bootClosed s)) (bootClosed s)
    else modDev (fun (d : Dev) => { d with
      state := .setup, autoDue := (bootClosed s).security.autoRun != 0 && (openEpoch s).pins.restartCause != 4 }) (bootClosed s) := rfl

theorem bootClosed_parts (s : State) : (bootClosed s).patrol = s.patrol ∧ (bootClosed s).pins.booting = false ∧
    (openEpoch s).pins.restartCause = s.pins.restartCause ∧ (bootClosed s).security.bootTimeUs = s.security.bootTimeUs ∧
    (bootClosed s).security.retention.safeMarker = false ∧ (bootClosed s).dev.configSource = s.dev.configSource ∧
    s.host.result.words.length < (bootClosed s).host.result.words.length := by
  have hframe := changesOnly_openEpoch s
  have hpatrol : (openEpoch s).patrol = s.patrol := hframe .patrol (by simp)
  have hpins : (openEpoch s).pins = s.pins := hframe .pins (by simp)
  have hboot := openEpoch_bootTimeUs s
  have hsource : (openEpoch s).dev.configSource = s.dev.configSource := hframe.dev_configSource (by simp)
  have hlength := length_openEpoch s
  unfold bootClosed
  generalize openEpoch s = u at *
  obtain ⟨hreports, hends, hkept, hmarker, hdev, hwords⟩ := markerCleared_parts u
  exact ⟨hreports.trans hpatrol, hends, by rw [hpins], hkept.trans hboot, hmarker, by rw [hdev, hsource], by rw [hwords]; exact hlength⟩

theorem security_safeStopped (s : State) : (safeStopped s).security = s.security := by
  rw [safeStopped_eq]
  have hleft : (leaveRun (changesDropped s)).security = s.security := changesOnly_leaveRun (changesDropped s) .security (by simp)
  generalize leaveRun (changesDropped s) = v at *
  have hframe := ((((changesOnly_safeGlide v).mono (show _ ⊆ [Part.glide, .safety, .plans, .solver, .flight, .align, .patrol]
    by simp)).step ((changesOnly_dropLoading _).mono (by simp))).step
    ((changesOnly_modPlans (fun (p : Plans) => { p with swap := none }) _).mono (by simp))).step
    ((changesOnly_safeSolver _).mono (by simp)) |>.step ((reporting_deliverJobs _).frame.mono (by simp))
  exact (hframe .security (by simp)).trans hleft

theorem bootTimeUs_safeMarked (s : State) : (safeMarked s).security.bootTimeUs = s.security.bootTimeUs := by
  have hended : (endCommands (endsInSafe s) s).security = s.security := changesOnly_endCommands _ s .security (by simp)
  unfold safeMarked
  extract_lets keep
  generalize endCommands (endsInSafe s) s = u at *
  have hdropped : (dropFlashWork u).security.bootTimeUs = u.security.bootTimeUs := rfl
  generalize dropFlashWork u = v at *
  have hticks : (startTicks v).security = v.security := changesOnly_startTicks v .security (by simp)
  generalize startTicks v = w at *
  have hmarked : (modSecurity (fun (x : Security) => { x with retention := keep x.retention }) w).security.bootTimeUs =
    w.security.bootTimeUs := rfl
  rw [hmarked, hticks, hdropped, hended]

/-- The entry into SAFE leaves the results and the reckoned time of BOOT. -/
theorem enterSafe_keeps (d : Dts) (s : State) : (enterSafe true d s).security.bootTimeUs = s.security.bootTimeUs ∧
    (enterSafe true d s).pins = s.pins ∧ (enterSafe true d s).host.result.words = s.host.result.words := by
  have hframe := changesOnly_enterSafe true d s
  refine ⟨?_, hframe .pins (by simp [runParts]), field_of_core OutQueue.words (fun _ => rfl) (hframe .result (by simp [runParts]))⟩
  have hbegun : (safeBegun s).security = s.security := changesOnly_safeBegun s .security (by simp)
  have hmarked := bootTimeUs_safeMarked (safeStopped (safeBegun s))
  rw [security_safeStopped, hbegun] at hmarked
  rw [enterSafe_eq, if_pos rfl]
  split_ifs
  · rfl
  · generalize safeMarked (safeStopped (safeBegun s)) = u at *
    exact Eq.trans rfl hmarked

theorem bootFatal_of_mem {r : Report} (hr : r ∈ s.patrol.wires) (hcls : r.cls = .fa) (hinjected : r.injected = false) :
    bootFatal s = true := by
  rw [bootFatal, Bool.or_eq_true, List.any_eq_true]
  exact .inl ⟨r, List.mem_append_left _ hr, by simp [hcls, hinjected]⟩

theorem bootFatal_congr (h : t.patrol = s.patrol) : bootFatal t = bootFatal s := by
  simp only [bootFatal, h]

/-- BOOT ends in SAFE after a fatal fault. -/
theorem endBoot_safe (hfatal : bootFatal s = true) : (endBoot s).dev.state = .safe ∧
    (endBoot s).security.bootTimeUs = s.security.bootTimeUs ∧ (endBoot s).pins.booting = false ∧
    s.host.result.words.length < (endBoot s).host.result.words.length := by
  obtain ⟨hpatrol, hbooting, -, hboot, -, -, hlength⟩ := bootClosed_parts s
  rw [endBoot_eq, if_pos ((bootFatal_congr hpatrol).trans hfatal)]
  generalize bootClosed s = u at *
  obtain ⟨hkept, hpins, hwords⟩ := enterSafe_keeps (now u) u
  exact ⟨enterSafe_state _ _ _, by rw [hkept, hboot], by rw [hpins, hbooting], by rw [hwords]; exact hlength⟩

/-- BOOT ends in SETUP without one. -/
theorem endBoot_setup (hfatal : bootFatal s = false) : (endBoot s).dev.state = .setup ∧
    (endBoot s).security.bootTimeUs = s.security.bootTimeUs ∧ (endBoot s).pins.booting = false ∧
    (endBoot s).security.retention.safeMarker = false ∧ (endBoot s).dev.configSource = s.dev.configSource ∧
    s.host.result.words.length < (endBoot s).host.result.words.length ∧
    ((endBoot s).dev.autoDue = true ↔ (endBoot s).security.autoRun ≠ 0 ∧ s.pins.restartCause ≠ 4) := by
  obtain ⟨hpatrol, hbooting, hcause, hboot, hmarker, hsource, hlength⟩ := bootClosed_parts s
  have hnot : ¬bootFatal (bootClosed s) = true := by rw [bootFatal_congr hpatrol, hfatal]; simp
  rw [endBoot_eq, if_neg hnot, hcause]
  generalize bootClosed s = u at *
  refine ⟨rfl, hboot, hbooting, hmarker, hsource, hlength, ?_⟩
  have hdue : ∀ a c : Nat, (a != 0 && c != 4) = true ↔ a ≠ 0 ∧ c ≠ 4 := by simp
  exact hdue u.security.autoRun s.pins.restartCause

/-! ## What BOOT brings in -/

/-- Work of BOOT: the reckoned time, the saved settings and their journal stay, and what is reported is not fatal. -/
structure BootWork (s t : State) : Prop where
  frame : ChangesOnly [.settings, .ingest, .patrol, .security, .align, .glide, .time, .ports, .plans, .rink, .safety, .memory,
    .freeCount, .device] s t
  reports : ∃ l, t.patrol = { s.patrol with wires := s.patrol.wires ++ l } ∧ ∀ r ∈ l, r.cls ≠ .fa
  bootTimeUs : t.security.bootTimeUs = s.security.bootTimeUs
  journal : t.security.configJournal = s.security.configJournal
  config : t.security.retention.config = s.security.retention.config

theorem BootWork.refl (s : State) : BootWork s s := ⟨.refl _ s, ⟨[], by simp, by simp⟩, rfl, rfl, rfl⟩

theorem BootWork.trans (h : BootWork s t) (h' : BootWork t u) : BootWork s u := by
  obtain ⟨l, hl, hnot⟩ := h.reports
  obtain ⟨l', hl', hnot'⟩ := h'.reports
  refine ⟨h.frame.step h'.frame, ⟨l ++ l', by rw [hl', hl, List.append_assoc], fun r hr => ?_⟩, h'.bootTimeUs.trans h.bootTimeUs,
    h'.journal.trans h.journal, h'.config.trans h.config⟩
  rcases List.mem_append.mp hr with hr | hr
  · exact hnot r hr
  · exact hnot' r hr

theorem StartWork.bootWork (h : StartWork s t) : BootWork s t :=
  ⟨h.frame.mono (by simp), h.reports, h.bootTimeUs, h.journal, congrArg Retention.config h.retention⟩

theorem bootWork_of_frame {l : List Part} (h : ChangesOnly l s t) (hl : l ⊆ [.settings, .ingest, .patrol, .security, .align, .glide,
    .time, .ports, .plans, .rink, .safety, .memory, .freeCount, .device]) (hpatrol : Part.patrol ∉ l)
    (hsecurity : Part.security ∉ l) : BootWork s t := by
  have hkept : t.security = s.security := h .security hsecurity
  refine ⟨h.mono hl, ⟨[], ?_, by simp⟩, by rw [hkept], by rw [hkept], by rw [hkept]⟩
  rw [show t.patrol = s.patrol from h .patrol hpatrol, List.append_nil]

theorem setRing_ringOf (j : Nat) (s : State) : StartWork s (setRing j (ringOf s j) s) := by
  refine startWork_modSecurity ?_
  rcases j with _ | _ | j
  · exact ⟨rfl, rfl, rfl⟩
  · exact ⟨rfl, rfl, rfl⟩
  · exact ⟨rfl, rfl, rfl⟩

theorem startWork_scanJournal (j : Nat) (s : State) : StartWork s (scanJournal j s) := by
  unfold scanJournal
  extract_lets top
  refine startWork_modSecurity ?_
  rcases j with _ | _ | j
  · exact ⟨rfl, rfl, rfl⟩
  · exact ⟨rfl, rfl, rfl⟩
  · exact ⟨rfl, rfl, rfl⟩

/-- Journals without a bad record are left as they are. -/
theorem dropBadRecords_nil (j : Nat) (s : State) : dropBadRecords j [] s = setRing j (ringOf s j) s := by
  have hany : ∀ x : Option (Nat × JournalRecord), (x.any fun _ => false) = false := fun x => by cases x <;> rfl
  simp [dropBadRecords, hany]

theorem startWork_scanJournals (s : State) : StartWork s (scanJournals [] s) := by
  refine startWork_foldl (fun t j => ?_) [0, 1, 2] s
  rw [dropBadRecords_nil]
  exact (setRing_ringOf j t).trans (startWork_scanJournal j _)

/-- The scan of journals leaves the results and the reckoned time of BOOT. -/
theorem scanJournals_keeps (bad : List (Nat × Nat)) (s : State) : ChangesOnly [.security, .patrol] s (scanJournals bad s) ∧
    (scanJournals bad s).security.bootTimeUs = s.security.bootTimeUs := by
  have hring : ∀ j r t, (setRing j r t).security.bootTimeUs = t.security.bootTimeUs := by
    rintro (_ | _ | j) r t <;> rfl
  have hdropped : ∀ j t, ChangesOnly [.security, .patrol] t (dropBadRecords j bad t) ∧
      (dropBadRecords j bad t).security.bootTimeUs = t.security.bootTimeUs := by
    intro j t
    unfold dropBadRecords
    extract_lets ring isBad torn kept next
    have hfolded := changesOnly_foldl (fun (v : State) (_ : Nat × JournalRecord) =>
      changesOnly_report (sourceOf 0x10 3 0) 0 4 .uc 0 v) (ring.records.filter isBad) (setRing j next t)
    refine ⟨((changesOnly_modSecurity _ t).mono (by simp)).step (hfolded.mono (by simp)), ?_⟩
    exact (congrArg Security.bootTimeUs (hfolded .security (by simp))).trans (hring j next t)
  have hscanned : ∀ (l : List Nat) (t : State), ChangesOnly [.security, .patrol] t
      (l.foldl (fun v j => scanJournal j (dropBadRecords j bad v)) t) ∧
      (l.foldl (fun v j => scanJournal j (dropBadRecords j bad v)) t).security.bootTimeUs = t.security.bootTimeUs := by
    intro l
    induction l with
    | nil => exact fun t => ⟨.refl _ t, rfl⟩
    | cons j l ih =>
      intro t
      obtain ⟨hframe, hboot⟩ := hdropped j t
      have hscan := startWork_scanJournal j (dropBadRecords j bad t)
      obtain ⟨hrest, hkept⟩ := ih (scanJournal j (dropBadRecords j bad t))
      exact ⟨(hframe.step ((changesOnly_modSecurity _ _).mono (by simp))).step hrest,
        hkept.trans (hscan.bootTimeUs.trans hboot)⟩
  exact hscanned [0, 1, 2] s

theorem changesOnly_bootTiles (s : State) : ChangesOnly [.rink] s (bootTiles s) := by
  unfold bootTiles
  extract_lets reduced slots own free rest all s1
  have hroles : ChangesOnly [.rink] s s1 := by
    refine changesOnly_foldl (fun t x => changesOnly_ite (fun _ => .refl _ t) fun _ => ?_) _ s
    split
    · exact changesOnly_modTile x _ t
    · exact changesOnly_modTile x _ t
  exact hroles.step (changesOnly_modRink _ s1)

theorem bootTests_eq {b : BootReport} (hunits : b.failedUnits = []) (hcheckers : b.failedCheckers = [])
    (hchannels : b.failedChannels = []) (s : State) : bootTests b s = runInjection true 0 (bootTiles s) := by
  rw [bootTests, hunits, hcheckers, hchannels]
  rfl

theorem bootWork_tests (s : State) : BootWork s (runInjection true 0 (bootTiles s)) :=
  bootWork_of_frame (((changesOnly_bootTiles s).mono (by simp)).step ((changesOnly_runInjection true 0 _).mono (by simp)))
    (show [Part.rink, .safety] ⊆ _ by simp) (by simp) (by simp)

/-- LPDDR is trained, RETURN_NONCE is drawn. -/
def bootTrained (s : State) : State :=
  let s1 := modSecurity (fun (x : Security) => { x with
    returnNonce := freeNat 64 s, retention := { x.retention with training := true } }) (spent s)
  { s1 with memory := { s1.memory with
    channels := s1.memory.channels.map (fun (c : Channel) => { c with fromRetention := s.security.retention.training }) } }

theorem bootServices_eq (s : State) : bootServices s = loadFlashPlan (resumeTime (configRestore (bootTrained s))) := rfl

theorem bootWork_trained (s : State) : BootWork s (bootTrained s) := by
  refine ⟨?_, ⟨[], ?_, by simp⟩, rfl, rfl, rfl⟩
  · rw [changesOnly_iff]
    simp [Part.same, bootTrained, modSecurity, spent]
  · rw [List.append_nil]
    rfl

theorem chooseConfig_congr (hjournal : t.security.configJournal = s.security.configJournal)
    (hconfig : t.security.retention.config = s.security.retention.config) : chooseConfig t = chooseConfig s := by
  unfold chooseConfig
  rw [hjournal, hconfig]

/-- The settings come from the chosen copy. -/
theorem bootServices_spec (s : State) : BootWork s (bootServices s) ∧ (bootServices s).dev.configSource = (chooseConfig s).2 := by
  have htrained := bootWork_trained s
  rw [bootServices_eq, ← chooseConfig_congr htrained.journal htrained.config]
  generalize bootTrained s = u at *
  rw [configRestore_eq]
  have hsource : (modDev (fun (d : Dev) => { d with configSource := (chooseConfig u).2 }) (configBrought u)).dev.configSource =
    (chooseConfig u).2 := rfl
  have hbrought := (htrained.trans (startWork_configBrought u).bootWork).trans (bootWork_of_frame (changesOnly_modDev
    (fun (d : Dev) => { d with configSource := (chooseConfig u).2 }) (configBrought u)) (by simp) (by simp) (by simp))
  generalize modDev (fun (d : Dev) => { d with configSource := (chooseConfig u).2 }) (configBrought u) = v at *
  have hrest := (startWork_resumeTime v).trans (startWork_loadFlashPlan _)
  exact ⟨hbrought.trans hrest.bootWork, (hrest.frame.dev_configSource (by simp)).trans hsource⟩

theorem bootFatal_of_work (h : BootWork s t) (hwires : s.patrol.wires = []) (harrived : s.patrol.arrived = [])
    (hopen : s.patrol.faOpen = false) : bootFatal t = false := by
  obtain ⟨l, hl, hnot⟩ := h.reports
  rw [bootFatal, hl, hwires, harrived, hopen]
  simp only [List.nil_append, List.append_nil, Bool.or_false, List.any_eq_false]
  exact fun r hr => by simp [hnot r hr]

/-! ## BOOT_COMPLETE -/

variable {b : BootReport}

/-- The time of BOOT is reckoned. -/
def bootReckoned (s : State) : State :=
  modSecurity (fun (x : Security) => { x with bootTimeUs := sinceRelease s / countsPerUs }) s

theorem bootReckoned_bootTimeUs (s : State) : (bootReckoned s).security.bootTimeUs = sinceRelease s / countsPerUs := rfl

theorem changesOnly_bootReckoned (s : State) : ChangesOnly [.security] s (bootReckoned s) := changesOnly_modSecurity _ s

theorem bootReckoned_config (s : State) : chooseConfig (bootReckoned s) = chooseConfig s := by
  have hany : ∀ n, chooseConfig (modSecurity (fun (x : Security) => { x with bootTimeUs := n }) s) = chooseConfig s := fun n =>
    chooseConfig_congr rfl rfl
  exact hany _

theorem bootIsUnderWay (ha : awake s = true) (hearly : sinceRelease s < 3000 * countsPerUs) :
    Completes (.bootComplete b) s fun t => ChangesOnly [] s t := by
  refine completes_of_answer (u := s) ((exec_bootComplete b s).trans ?_) ((ChangesOnly.refl [] s).settle s)
  rw [execBootComplete, awakeAnswer, if_pos ha, if_pos (by simp [hearly])]

/-- What BOOT comes to once the journals are scanned. -/
def bootConcluded (b : BootReport) (s : State) : State :=
  if b.fuseMismatch then endBoot (report (securityFault 2) 0 5 .fa 0 s)
  else match selectImage 0 s with
    | (u, none) => endBoot (report (securityFault 0) 0 5 .fa 0 u)
    | (u, some _) => endBoot (bootServices (bootTests b u))

theorem execBootComplete_eq (ha : awake s = true) (hstate : s.dev.state = .boot) (hbooting : s.pins.booting = true)
    (hdue : 3000 * countsPerUs ≤ sinceRelease s) :
    execBootComplete b s = answer s (bootConcluded b (scanJournals b.badRecords (bootReckoned s))) := by
  rw [execBootComplete, awakeAnswer, if_pos ha, if_neg (by simp [hstate, hbooting, hdue])]
  rfl

theorem endBoot_reported (src : Nat) (s : State) : (endBoot (report src 0 5 .fa 0 s)).dev.state = .safe ∧
    (endBoot (report src 0 5 .fa 0 s)).security.bootTimeUs = s.security.bootTimeUs ∧
    (endBoot (report src 0 5 .fa 0 s)).pins.booting = false ∧
    s.host.result.words.length < (endBoot (report src 0 5 .fa 0 s)).host.result.words.length :=
  endBoot_safe (s := report src 0 5 .fa 0 s) (bootFatal_of_mem (List.mem_append_right _ (List.mem_singleton.mpr rfl)) rfl rfl)

/-- Fuses or firmware fail. -/
theorem bootConcluded_fails (hfails : b.fuseMismatch = true ∨ (selectImage 0 s).2 = none) :
    (bootConcluded b s).dev.state = .safe ∧ (bootConcluded b s).security.bootTimeUs = s.security.bootTimeUs ∧
    (bootConcluded b s).pins.booting = false ∧ s.host.result.words.length < (bootConcluded b s).host.result.words.length := by
  unfold bootConcluded
  split_ifs with hfuse
  · exact endBoot_reported _ s
  · have hnone := hfails.resolve_left hfuse
    have hwork := startWork_selectImage 0 s
    rcases hchosen : selectImage 0 s with ⟨u, _ | a⟩
    · rw [hchosen] at hwork
      have hwords : u.host.result.words = s.host.result.words :=
        field_of_core OutQueue.words (fun _ => rfl) (hwork.frame .result (by simp))
      obtain ⟨hsafe, hboot, hbooting, hlength⟩ := endBoot_reported (securityFault 0) u
      rw [hwork.bootTimeUs] at hboot
      rw [hwords] at hlength
      exact ⟨hsafe, hboot, hbooting, hlength⟩
    · rw [hchosen] at hnone
      exact absurd hnone (by simp)

theorem bootFails (ha : awake s = true) (hstate : s.dev.state = .boot) (hbooting : s.pins.booting = true)
    (hdue : 3000 * countsPerUs ≤ sinceRelease s)
    (hfails : b.fuseMismatch = true ∨ (selectImage 0 (scanJournals b.badRecords (bootReckoned s))).2 = none) :
    Completes (.bootComplete b) s fun t => t.dev.state = .safe ∧ t.security.bootTimeUs = sinceRelease s / countsPerUs ∧
      t.pins.booting = false ∧ t.host.result.words.length > s.host.result.words.length := by
  obtain ⟨hframe, hboot⟩ := scanJournals_keeps b.badRecords (bootReckoned s)
  have hall := ((changesOnly_bootReckoned s).mono (by simp)).step hframe
  rw [bootReckoned_bootTimeUs] at hboot
  have hdone := (exec_bootComplete b s).trans (execBootComplete_eq ha hstate hbooting hdue)
  generalize scanJournals b.badRecords (bootReckoned s) = u at *
  have hwords : u.host.result.words = s.host.result.words := field_of_core OutQueue.words (fun _ => rfl) (hall .result (by simp))
  obtain ⟨hsafe, hkept, hends, hlength⟩ := bootConcluded_fails hfails
  refine completes_of_answer hdone ?_
  rw [settle_devState, settle_security, settle_pins, settle_result_words]
  exact ⟨hsafe, hkept.trans hboot, hends, by rw [← hwords]; exact hlength⟩

/-- The firmware verifies and no unit fails. -/
theorem bootConcluded_eq (hfuse : b.fuseMismatch = false) (hsome : (selectImage 0 s).2.isSome = true)
    (hunits : b.failedUnits = []) (hcheckers : b.failedCheckers = []) (hchannels : b.failedChannels = []) :
    bootConcluded b s = endBoot (bootServices (runInjection true 0 (bootTiles (selectImage 0 s).1))) := by
  rw [bootConcluded, hfuse, if_neg (by simp)]
  rcases hchosen : selectImage 0 s with ⟨u, _ | a⟩
  · rw [hchosen] at hsome
    exact absurd hsome (by simp)
  · dsimp only
    rw [bootTests_eq hunits hcheckers hchannels]

theorem bootSucceeds (ha : awake s = true) (hstate : s.dev.state = .boot) (hbooting : s.pins.booting = true)
    (hdue : 3000 * countsPerUs ≤ sinceRelease s) (hfuse : b.fuseMismatch = false)
    (hsome : (selectImage 0 (scanJournals [] (bootReckoned s))).2.isSome = true) (hunits : b.failedUnits = [])
    (hcheckers : b.failedCheckers = []) (hchannels : b.failedChannels = []) (hbad : b.badRecords = [])
    (hwires : s.patrol.wires = []) (harrived : s.patrol.arrived = []) (hopen : s.patrol.faOpen = false)
    (_hempty : s.host.result.words = []) : Completes (.bootComplete b) s fun t => t.dev.state = .setup ∧
      t.security.bootTimeUs = sinceRelease s / countsPerUs ∧ t.pins.booting = false ∧
      t.security.retention.safeMarker = false ∧ t.dev.configSource = (chooseConfig s).2 ∧ t.host.result.words ≠ [] ∧
      (t.dev.autoDue = true ↔ t.security.autoRun ≠ 0 ∧ s.pins.restartCause ≠ 4) := by
  have hreckoned := bootReckoned_bootTimeUs s
  have hframe := changesOnly_bootReckoned s
  have hpatrol : (bootReckoned s).patrol = s.patrol := hframe .patrol (by simp)
  have hchosen := bootReckoned_config s
  have hscanned := startWork_scanJournals (bootReckoned s)
  have hselected := hscanned.trans (startWork_selectImage 0 (scanJournals [] (bootReckoned s)))
  have htested := hselected.bootWork.trans (bootWork_tests _)
  obtain ⟨hserved, hsource⟩ := bootServices_spec (runInjection true 0 (bootTiles (selectImage 0 (scanJournals [] (bootReckoned s))).1))
  rw [chooseConfig_congr htested.journal htested.config, hchosen] at hsource
  have hwork := htested.trans hserved
  have hdone := (exec_bootComplete b s).trans (execBootComplete_eq ha hstate hbooting hdue)
  rw [hbad, bootConcluded_eq hfuse hsome hunits hcheckers hchannels] at hdone
  generalize bootServices (runInjection true 0 (bootTiles (selectImage 0 (scanJournals [] (bootReckoned s))).1)) = u at *
  obtain ⟨hsetup, hboot, hends, hmarker, hconfig, hlength, hauto⟩ :=
    endBoot_setup (bootFatal_of_work hwork (by rw [hpatrol, hwires]) (by rw [hpatrol, harrived]) (by rw [hpatrol, hopen]))
  have hpins : u.pins = s.pins := (hwork.frame .pins (by simp)).trans (hframe .pins (by simp))
  rw [hwork.bootTimeUs, hreckoned] at hboot
  rw [hpins] at hauto
  refine completes_of_answer hdone ?_
  rw [settle_security, settle_pins, settle_result_words, settle_dev]
  exact ⟨hsetup, hboot, hends, hmarker, hconfig.trans hsource, List.ne_nil_of_length_pos (Nat.zero_lt_of_lt hlength), hauto⟩

end

/-- Settles O58: each reset pin, the device reset, and the end of BOOT with and without a failure. -/
theorem resetsAndBoot : Obligations.ResetsAndBoot := by
  unfold Obligations.ResetsAndBoot
  intro ended
  refine ⟨fun ns s => ⟨porstIgnored, porstResets, porstMayBeTaken, supplyIsLost⟩, fun n s h => bootStarts n h,
    fun ns n s => ⟨wrstIsIgnored, wrstResets⟩, fun s => wrstIsReleased, fun d s ha hdue => ⟨resetIsNotYetDue ha hdue,
      deviceIsReset ha hdue⟩, fun b s ha hstate hbooting => ⟨bootIsUnderWay ha, fun hdue => ⟨bootFails ha hstate hbooting hdue,
        bootSucceeds ha hstate hbooting hdue⟩⟩⟩

end Sys2Proof.Machine
end
